-- ==== Sys2Proof/Word.lean ====
section
/-! DEFINITION. The word types of the block: a 64-bit word (a net-store word, a Capo register, a flit's
value) and a byte. -/

namespace Sys2Proof

/-- A 64-bit word. -/
abbrev Word := BitVec 64

/-- A byte. -/
abbrev Byte := BitVec 8

end Sys2Proof
end

