-- ==== Sys2Proof/Syntax.lean ====
section
/-! DEFINITION. The commands of the block: one constructor of `Instr` per row of spec/opcode_table.json, with
the operands the spec gives the row, and the types of those operands. -/

namespace Sys2Proof

/-- A physical cell number (01 R18). -/
abbrev PCell := Fin 8704
/-- A global cluster number (01 R17). -/
abbrev Cluster := Fin 128
/-- A global lane number (01 R20). -/
abbrev Lane := Fin 512
/-- A tile number (01 R16). -/
abbrev Tile := Fin 8
/-- A Capo core number (01 R21). -/
abbrev Core := Fin 20

/-- Who makes a register or memory access, or sends a dictionary request. -/
inductive Agent
  | host
  | core (n : Core)
  | jtag
  | can (p : Fin 2)
  | lane (n : Lane)
  deriving DecidableEq, Repr

/-- Where a remap or channel-spare commit is in progress (03 R86, 06 R183, 07 R219). -/
inductive CommitUnit
  | cluster (g : Cluster)
  | lanes (t : Tile)
  | fabric (t : Tile)
  deriving DecidableEq, Repr

/-- A CAN protocol error as a port meets it (15 R417): an error in a frame or flag, a dominant bit behind the port's own error flag, or an own
frame that no node acknowledges. -/
inductive CanError
  | frame
  | dominant
  | noAck
  deriving DecidableEq, Repr

/-- A place where an unscheduled flit waits (06 R176, R177): a cell or another unit of a die that has not yet
injected it, the router of a local cluster, the spoke toward the hub of a tile, the hub switch output toward a die (8
is the hub itself), or a lane's own transmit queue (07 R213). -/
inductive UPoint
  | cell (t : Tile) (l : Fin 1024)
  | unit (d : Fin 9)
  | router (t : Tile) (r : Fin 16)
  | spoke (t : Tile)
  | switch (d : Fin 9)
  | lane (n : Lane)
  deriving DecidableEq, Repr

/-- What happens to a flit on the way to its next point (06 R171): nothing, a wrong sideband bit, wrong parity of some data bytes, or, where
it looks up its path, wrong parity of some bytes of the stored entry. -/
inductive Upset
  | none
  | sideband (b : Fin 48)
  | data (bytes : Byte)
  | entry (bytes : Byte)
  deriving DecidableEq, Repr

/-- The head of a received ANNOUNCE (07 R210): the lane it came by, its origin, SEQ and EPOCH. -/
structure AnnSource where
  lane : Lane
  origin : BitVec 32
  seq : BitVec 16
  epoch : Byte
  deriving DecidableEq, Repr

/-- A wake source of the Soundpost (12 R350). -/
inductive WakeSource
  | pin
  | can (p : Fin 2)
  | slot (j : Fin 32)
  deriving DecidableEq, Repr

/-- What the host writes into configuration space (14 R377-R380, R385): the power state, MSI-X Enable and Function Mask, a word of a BAR, the
size of BAR2 as a power of two in GB, the codes of Max_Payload_Size (128 to 512 bytes) and Max_Read_Request_Size (128 to 4,096 bytes), ECRC
generation and checking, and ones that clear bits of the AER uncorrectable error status. -/
inductive ConfigWrite
  | power (d3hot : Bool)
  | msix (enable mask : Bool)
  | bar (n : Fin 6) (v : BitVec 32)
  | bar2Size (k : Fin 7)
  | payload (k : Fin 3)
  | readRequest (k : Fin 6)
  | ecrc (generate check : Bool)
  | aerClear (ones : BitVec 32)
  deriving DecidableEq, Repr

/-- What the HBM reports for the first line that an access touches (13 R365). For a read of an LSRAM through the shared port, uncorrectable is
a parity error (13 R370). -/
inductive HbmRead
  | ok
  | corrected
  | uncorrectable
  deriving DecidableEq, Repr

/-- What is reported for later lines of an access (13 R365, R370, R376): the number of the line after the first, and its result. -/
abbrev LineErrs := List (Nat × HbmRead)

/-- An error that a storage or the memory system returns to one Capo instruction (09 R277, 10 R294, R297, 11 R311, 13 R365, R370):
none, a parity error of an LSRAM on the fetch or on the first data read, of a line of a cache (which is dropped), what HBM
reports for the first line read, an error on the descriptor read of a level of a walk, a parity or a bus error on an element of a
vector access, wrong parity that bytes of a vector register have just taken, or wrong parity of the L1 or L2 TLB entry that serves it. A
descriptor's error may be one that the HBM corrects. -/
inductive MemErr
  | none
  | fetchParity
  | dataParity
  | icacheLine
  | dcacheLine
  | hbm (r : HbmRead)
  | walk (level : Fin 4) (corrected : Bool := false)
  | elem (i : Byte) (parity : Bool)
  | vreg (r : Fin 32) (bytes : BitVec 32)
  | tlb (second : Bool)
  deriving DecidableEq, Repr

/-- A walk that a core makes for a wrong-path access or a prefetch (11 R316): virtual address, a fetch or a data read, and what its descriptor
reads meet. -/
structure SpecWalk where
  va : BitVec 64
  fetch : Bool
  err : MemErr
  deriving DecidableEq, Repr

/-- What the translation of a word of a frame that is stacked meets (11 R311, 13 R376). -/
structure FrameErr where
  word : Fin 6 := 0
  err : MemErr := .none
  deriving DecidableEq, Repr

/-- How an instruction stands in its group (09 R258): its pair bit P, what its accesses meet, and whether a reserved OP7, OP or VOP stands in
its operation field (09 R261, 10 R288): a reserved encoding has no row, and is commanded as a row of its format with `rsvd` set. `next` is the
length in halfwords of the second instruction of a pair, given with the first, and `spec` a walk of R316 that the core makes meanwhile. Of the
data accesses of mode 5 and of RETI, `nth` says which meets `err`; `ahead` is what the translation of the second instruction's fetch meets, given
with the first, and `stack` what the translation of a frame meets that the instruction stacks. -/
structure Slot where
  pair : Bool
  err : MemErr
  rsvd : Bool := false
  next : BitVec 2 := 1
  spec : Option SpecWalk := none
  nth : Fin 8 := 0
  ahead : MemErr := .none
  stack : FrameErr := {}
  deriving DecidableEq, Repr

/-- The operand fields of a memory-format instruction (09 R258): the 48-bit form, AM and F. -/
structure MemOp where
  long : Bool
  am : BitVec 3
  f : BitVec 36
  deriving DecidableEq, Repr

/-- The fields of a vector instruction beside its operation (10 R288). -/
structure VOp where
  ew : BitVec 2
  g : BitVec 2
  m : Bool
  rsv : BitVec 2
  vd : BitVec 5
  va : BitVec 5
  vb : BitVec 5
  br : Bool
  sc : BitVec 2
  imm : BitVec 14
  deriving DecidableEq, Repr

/-- Where an offer meets a core (12 R342, R345-R348): at a group boundary, during an entry, after an entry, or during an exit. -/
inductive EvWindow
  | boundary
  | entry (cycle : BitVec 5)
  | late
  | exit (cycle : BitVec 5)
  deriving DecidableEq, Repr

/-- One attempt of a boot step as the surroundings decide it (16 R443): it passes unless `pass` is false or a function named in
`failed` is planned; `start` and `stop` are its times in ms since the start of bring-up. -/
structure Try where
  pass : Bool
  failed : List (BitVec 16)
  start : BitVec 16
  stop : BitVec 16
  deriving DecidableEq, Repr


/-- The commands of the block, one per row of spec/opcode_table.json, in the table's order. -/
inductive Instr
  /-- BUNDLE_ISSUE (R32): A cell issues one bundle in an FCLK cycle of the stroke, and all its slots read their operands in that cycle. -/
  | bundleIssue (c : PCell) (hit : Upset := .none)
  /-- FLIT_LANDING (R74): A flit lands at a cell's inbox and is written, flagged late or discarded by its epoch. -/
  | flitLanding (c : PCell) (slot : Fin 512)
  /-- RESPONSE_LANDING (R114): A TME read response lands in its response slot and is marked present. -/
  | responseLanding (c : PCell) (tag : Fin 64)
  /-- ANSWER_LANDING (R118): A service answer lands in its answer slot, is marked present and is input-logged. -/
  | answerLanding (c : PCell) (aslot : Fin 16) (err : HbmRead := .ok)
  /-- STAGED_VALUE_WRITE (R75): The staging buffer writes a host value into its inbox slot for the next stroke. -/
  | stagedValueWrite (c : PCell) (slot : Fin 512) (err : HbmRead := .ok)
  /-- STROKE_START (R31): A stroke starts at its time-base value, cells begin bundle 0, and a resume or replay end is applied. -/
  | strokeStart
  /-- BOUNDARY_WINDOW_OPEN (R33): At stroke cycle P-32 cell issue stops and the boundary checks are made. -/
  | boundaryWindowOpen
  /-- STATE_BANK_FLIP (R68): At P-24 the state banks flip and are copied, the inbox epoch rolls, BP and loop ACTIVE clear. -/
  | stateBankFlip
  /-- STROKE_NO_ADVANCE (R34): At P-16 STROKE_NO advances to the next stroke. -/
  | strokeNoAdvance
  /-- SWAP_CHECK (R146): At P-40 of the target stroke the hub collects the clusters' ARM bits and decides the swap. -/
  | swapCheck
  /-- PAGED_SWAP (R146): At P-8 armed cells invert RUNPAGE and clusters set DONE. -/
  | pagedSwap
  /-- RUN_ENTRY (R433): An armed module enters RUN at TSTART with its entry checkpoint recorded. -/
  | runEntry
  /-- BEACON_SEND (R40): The time master sends a beacon on every module lane each beacon period. -/
  | beaconSend
  /-- BEACON (R41): A received beacon selects the source, updates the offset and is relayed. -/
  | beacon (n : Lane) (tbval : Word) (sub : Fin 16) (master : BitVec 32) (epoch : Byte) (hops : BitVec 4)
  /-- BCN_LOST (R45): LOSS_LIM beacon periods pass without a beacon; BCN_LOST is set and a backup may take over. -/
  | bcnLost
  /-- HANDOVER (R44): A write of ROLE = master in READY or HOLD starts a master handover with a new EPOCH. -/
  | handover
  /-- PERIOD_WRITE (R60): A write of CLK_STROKE_CFG.PERIOD sets P for stroke 0 or the resume stroke, ignored in other modes. -/
  | periodWrite (p : BitVec 16)
  /-- ADMISSION (R52): The admission unit takes one SQ entry, computes its promise or refuses it, and writes a CQ entry. -/
  | admission (value : Word) (tag : BitVec 32) (rsv : BitVec 32)
  /-- WINDOW_READ (R93): A read of a cell window returns storage, 0 in RUN, or completes with a bus error on parity. -/
  | windowRead (c : PCell) (off : BitVec 18)
  /-- WINDOW_WRITE (R80): A write to a cell window writes storage or is ignored with WINRUN or IMWRUN set. -/
  | windowWrite (c : PCell) (off : BitVec 18) (v : Word)
  /-- PINJ (R81): A write of CELL_CTL.PINJ arms inverted parity on the next window write. -/
  | pinj (c : PCell)
  /-- REMAP_COMMIT (R86): A write of CLU_REMAP_CTL.COMMIT checks the shadow remap table and copies it to the live table or sets ERR. -/
  | remapCommit (g : Cluster)
  /-- REMAP_REVERT (R86): A write of CLU_REMAP_CTL.REVERT copies the live remap table into the shadow. -/
  | remapRevert (g : Cluster)
  /-- COMMIT_COMPLETE (R86): A remap or channel-spare commit finishes within 16 FCLK cycles and BUSY clears. -/
  | commitComplete (u : CommitUnit)
  /-- SPARE_POWER_REQUEST (R87): A write of CLU_SPARE.PON powers a spare cell up or is ignored for a live ACTIVE entry. -/
  | sparePowerRequest (g : Cluster) (pon : BitVec 4)
  /-- SPARE_PGOOD (R87): A spare cell finishes its zero fill and sets PGOOD. -/
  | sparePgood (g : Cluster) (i : Fin 4)
  /-- SWAP_ARM (R145): A write of CLU_SWAP_CTL.ARM arms or disarms a paged swap, or sets REFUSED. -/
  | swapArm (g : Cluster) (arm : Bool)
  /-- SETPAGE (R148): A write of SETPAGE sets RUNPAGE of the cluster's cells and the checkpoint page record. -/
  | setpage (g : Cluster)
  /-- LOADER_CLAIM (R26): A write to 0x1200:05 claims or releases loading ownership. -/
  | loaderClaim (a : Agent) (v : Byte) (seq : Byte := 0)
  /-- IMG_ADDR_WRITE (R26): A write of MGT_IMG_ADDR from the owner sets the address; others are ignored with LOADFOREIGN. -/
  | imgAddrWrite (a : Agent) (v : Word)
  /-- APPLY (R155): A write of MGT_IMG_CTL.APPLY starts the check and application of the image at ADDR. -/
  | apply (a : Agent) (err : HbmRead := .ok) (more : LineErrs := [])
  /-- APPLY_COMPLETE (R155): The image engine finishes an apply, clears BUSY and sets DONE or ERR. -/
  | applyComplete
  /-- PATH_TABLE_WRITE (R172): A window access to a path-table entry writes or reads it. -/
  | pathTableWrite (t : Tile) (p : BitVec 17) (w : Option Word)
  /-- UNSCHEDULED_FLIT_FORWARD (R177): An unscheduled flit with a credit takes a free place at a fabric point. -/
  | unscheduledFlitForward (u : UPoint) (hit : Upset := .none)
  /-- DRAIN (R180): A write of FAB_UCTL.DRAIN stops or restarts injection of unscheduled classes. -/
  | drainWrite (die : Fin 9) (mask : BitVec 4)
  /-- CHANNEL_SPARE_COMMIT (R183): A write of FAB_CTL.COMMIT moves the shadow FAB_XSPARE into the live channel map or sets ERR. -/
  | channelSpareCommit (t : Tile)
  /-- LANE_ENABLE (R203): A write of LNK_CTL.EN moves a lane between OFF and DETECT. -/
  | laneEnable (n : Lane) (en : Bool)
  /-- RETRAIN (R203): A write of LNK_CTL.RETRAIN sends PSTAT with RETRAIN and moves the lane to DETECT. -/
  | retrain (n : Lane)
  /-- SIGNAL_PRESENT (R203): A lane in DETECT sees signal from a partner and enters TRAIN. -/
  | signalPresent (n : Lane)
  /-- TRAINING_ADAPTED (R203): Both ends finish adaptation and the lane enters LOCK. -/
  | trainingAdapted (n : Lane)
  /-- TRAIN_TIMEOUT (R203): TRAIN lasts 50 ms; the lane returns to DETECT with FAILCAUSE 2. -/
  | trainTimeout (n : Lane)
  /-- SYNC_RECEIVED (R193): A received SYNC is compared by CALID and counted toward lock. -/
  | syncReceived (n : Lane) (sf : BitVec 32) (calid : Byte)
  /-- LOCK_TIMEOUT (R203): LOCK lasts 2 ms; the lane returns to DETECT with FAILCAUSE 3. -/
  | lockTimeout (n : Lane)
  /-- MEASURE_DONE (R205): 64 round trips complete, LAT and CLASS are set and the lane enters IDENT. -/
  | measureDone (n : Lane)
  /-- MEASURE_TIMEOUT (R203): MEASURE lasts 200 µs; the lane returns to DETECT with FAILCAUSE 4. -/
  | measureTimeout (n : Lane)
  /-- IDENT (R206): A received IDENT stores the partner identity and the lane may become UP and ready. -/
  | identMsg (n : Lane) (serial : Word) (info : BitVec 64) (placement : Word)
  /-- IDENT_TIMEOUT (R203): IDENT lasts 1 ms; the lane returns to DETECT with FAILCAUSE 5. -/
  | identTimeout (n : Lane)
  /-- LOSS_OF_SIGNAL (R216): A lane in UP loses signal and leaves UP. -/
  | lossOfSignal (n : Lane)
  /-- SYNC_MISSING (R216): Four SYNCs in a row are missing and the lane leaves UP. -/
  | syncMissing (n : Lane)
  /-- UNCORRECTABLE_CODEWORD (R215): An uncorrectable FEC codeword discards its beats and is counted. -/
  | uncorrectableCodeword (n : Lane) (wrong : Fin 273 := 8)
  /-- SCHEDULED_FLIT_TRANSMIT (R194): A queued scheduled flit leaves in the next scheduled calendar position or is discarded as TXLATE. -/
  | scheduledFlitTransmit (n : Lane)
  /-- SCHEDULED_BEAT (R198): A received scheduled beat is padded, its send cycle rebuilt and it enters the router at its ingress cycle. -/
  | scheduledBeat (n : Lane) (data : Word) (par : Byte) (epoch : Bool) (ts : BitVec 6) (hit : Upset := .none)
  /-- CONTROL_MESSAGE_SEND (R211): A waiting control message is sent in the next control positions by priority. -/
  | controlMessageSend (n : Lane)
  /-- TIMESTAMP_PERIOD (R204): In UP a timestamp round trip starts every TSPER × 4,096 FCLK cycles. -/
  | timestampPeriod (n : Lane)
  /-- TSREQ (R204): A received TSREQ is time-stamped and answered with TSRSP. -/
  | tsreq (n : Lane) (t1 : Word) (sub : Fin 16)
  /-- TSRSP (R204): A received TSRSP completes a round trip and updates LAT or OFFSET. -/
  | tsrsp (n : Lane) (t1 : Word) (t2 : Word) (t3 : Word) (sub : Fin 16)
  /-- CREDIT (R213): A received CREDIT message returns unscheduled credits per class. -/
  | credit (n : Lane) (c : BitVec 32)
  /-- PSTAT (R246): A received PSTAT gives the partner's mode, ready and RETRAIN state. -/
  | pstat (n : Lane) (w : Word)
  /-- HOLDREQ (R237): A received HOLDREQ is relayed once and fixes the stroke at whose end the module enters HOLD. -/
  | holdreq (n : Lane) (origin : BitVec 32) (seq : BitVec 16) (stroke : Word)
  /-- DICT (R426): A received DICT message is served as a dictionary request or delivered as a response. -/
  | dictMsg (n : Lane) (frame : List Byte)
  /-- UNSCHEDULED_PAIR (R213): A received unscheduled pair is placed in its class receive queue. -/
  | unscheduledPair (n : Lane) (cls : BitVec 2) (head : Word) (data : Word)
  /-- UTXD_WRITE (R214): A write of LNK_UTXD queues an unscheduled pair or sets UTXFULL. -/
  | utxdWrite (n : Lane) (v : Word)
  /-- URX_POP (R213): A write of LNK_URXCTL.POP removes the oldest pair and returns its credit. -/
  | urxPop (n : Lane)
  /-- LNK_CAL_WRITE (R191): A write of LNK_CAL sets the calendar kinds or is ignored as a whole. -/
  | lnkCalWrite (n : Lane) (v : Word)
  /-- LANE_REMAP_COMMIT (R219): A write of LNK_REMAP_CTL.COMMIT checks and copies the lane remap shadow to live or sets ERR. -/
  | laneRemapCommit (t : Tile)
  /-- LANE_REMAP_REVERT (R219): A write of LNK_REMAP_CTL.REVERT copies the live lane remap into the shadow. -/
  | laneRemapRevert (t : Tile)
  /-- START (R433): A START announcement writes CLK_TSTART on armed modules, or sets MISSED. -/
  | annStart (src : AnnSource) (value : Word)
  /-- RESUME (R36): A RESUME announcement fixes the resume time at which the held module runs again. -/
  | annResume (src : AnnSource) (value : Word)
  /-- CKP_DONE (R147): The master receives a module's drain-complete report with no swap armed. -/
  | ckpDone (src : AnnSource) (value : Word)
  /-- CKP_SWAPPED (R147): The master receives a module's drain-complete report with the swap done. -/
  | ckpSwapped (src : AnnSource) (value : Word)
  /-- CKP_CANCELLED (R147): The master receives a drain-complete report with the swap cancelled. -/
  | ckpCancelled (src : AnnSource) (value : Word)
  /-- CKP_FAILED (R228): A CKP_FAILED announcement or report fails the pending checkpoint and leads to HOLD. -/
  | ckpFailed (src : AnnSource) (value : Word)
  /-- COMPLETE (R224): A COMPLETE announcement makes the checkpoint complete and gives the resume time or a hold. -/
  | annComplete (src : AnnSource) (value : Word)
  /-- RESTORED (R242): The master receives a RESTORED report and announces RESUME once all have arrived. -/
  | restored (src : AnnSource) (value : Word)
  /-- HELD (R239): The master receives a HELD report. -/
  | held (src : AnnSource) (value : Word)
  /-- HELD_FAULT (R239): The master receives a HELD_FAULT report and decides on a rollback. -/
  | heldFault (src : AnnSource) (value : Word)
  /-- HELD_STOP (R239): The master receives a HELD_STOP report and waits for firmware. -/
  | heldStop (src : AnnSource) (value : Word)
  /-- RESTORE (R240): A RESTORE announcement starts the restore, carried-slot write-back and journal unwind. `bad` names the first slot
  record of which HBM returns an uncorrectable line, and the line. -/
  | annRestore (src : AnnSource) (value : Word) (bad : Option (Tile × Fin 1024 × Fin 576) := none)
  /-- DONE_REPORT (R226): Once drain, carried slots, logs and SWACK are done, the module sends its drain-complete report. -/
  | doneReport
  /-- REPORT_WAIT_TIMEOUT (R229): The master's DONEWAIT expires with a report missing. -/
  | reportWaitTimeout
  /-- SLOT_PREPARATION (R225): The TME finishes preparing a cell's record in the target slot. -/
  | slotPreparation (t : Tile) (lcell : Fin 1024) (errs : LineErrs := [])
  /-- HOLD_ENTRY (R237): At the end of the boundary window of the hold stroke the module enters HOLD and reports. -/
  | holdEntry
  /-- RESTORE_DONE (R242): When restore, unwind and commits are done and HOLDOFF is 0, the module reports RESTORED. -/
  | restoreDone (bad : Option (Tile × Fin 1024 × Fin 576) := none) (jbad : Option (Tile × Nat) := none) (fixed : List Tile := [])
  /-- REQHOLD (R254): A write of CKP_CTL.REQHOLD sends a HOLDREQ for the stroke in CKP_HOLDAT. -/
  | reqhold
  /-- GO (R239): A write of CKP_CTL.GO on the master announces RESUME after a hold without rollback. -/
  | go
  /-- RESTORE_COMMAND (R239): A write of CKP_CTL.RESTORE on the master in HOLD announces RESTORE. `bad` as for RESTORE. -/
  | restoreCommand (bad : Option (Tile × Fin 1024 × Fin 576) := none)
  /-- ADOPT (R255): A write of CKP_CTL.ADOPT in READY takes slot A as the last checkpoint and enters HOLD. -/
  | adoptWrite
  /-- SWACK (R250): A write of CKP_CTL.SWACK reports that the model state is saved. -/
  | swackWrite
  /-- NOP (R261): The Capo group does nothing. -/
  | nop (n : Core) (g : Slot)
  /-- MOVR (R261): A register is copied into another. -/
  | movr (n : Core) (g : Slot) (k : BitVec 6)
  /-- EXR (R261): Two registers exchange values. -/
  | exr (n : Core) (g : Slot) (k : BitVec 6)
  /-- INX_DEX_INY_DEY (R261): X or Y is incremented or decremented. -/
  | incDec (n : Core) (g : Slot) (op : BitVec 2)
  /-- NEG (R261): A is negated. -/
  | neg (n : Core) (g : Slot)
  /-- NOT (R261): A is inverted. -/
  | notA (n : Core) (g : Slot)
  /-- CLC (R261): C is cleared. -/
  | clc (n : Core) (g : Slot)
  /-- SEC (R261): C is set. -/
  | sec (n : Core) (g : Slot)
  /-- SHLI_SHRI_SRAI_ROLI (R261): A is shifted or rotated by K. -/
  | shliShriSraiRoli (n : Core) (g : Slot) (op : BitVec 2) (k : BitVec 6)
  /-- POPC (R261): A receives the number of ones in A. -/
  | popc (n : Core) (g : Slot)
  /-- PUSHA_PUSHX_PUSHY (R261): A register is pushed on the data stack. -/
  | pushaPushxPushy (n : Core) (g : Slot) (r : Fin 3)
  /-- POPA_POPX_POPY (R261): A register is popped from the data stack. -/
  | popaPopxPopy (n : Core) (g : Slot) (r : Fin 3)
  /-- RET (R268): A return address is popped from the return stack and jumped to. -/
  | ret (n : Core) (g : Slot)
  /-- RETI (R347): The core returns from an exception or event, or chains to a pending event. -/
  | reti (n : Core) (g : Slot)
  /-- JMPX (R270): The core jumps to X after its delay slot. -/
  | jmpx (n : Core) (g : Slot)
  /-- CALLX (R268): The core calls X and pushes the return address. -/
  | callx (n : Core) (g : Slot) (dlen : BitVec 3)
  /-- RSPUSH (R269): A is pushed onto the return stack. -/
  | rspush (n : Core) (g : Slot)
  /-- RSPOP (R269): The return stack is popped into A. -/
  | rspop (n : Core) (g : Slot)
  /-- RSCNT (R261): A receives the return-stack count. -/
  | rscnt (n : Core) (g : Slot)
  /-- RSX (R269): A receives the return-stack entry at depth X[3:0]. -/
  | rsx (n : Core) (g : Slot)
  /-- SYNC (R261): The core waits until the store buffer is empty and earlier accesses complete. -/
  | syncOp (n : Core) (g : Slot)
  /-- SYNCI (R275): SYNC, then the I-cache and fetch buffer are invalidated. -/
  | synci (n : Core) (g : Slot)
  /-- WAIT (R342): Issue stops until an acceptable event offer arrives. -/
  | waitOp (n : Core) (g : Slot)
  /-- SYSCALL (R277): The SYSCALL exception is taken. -/
  | syscall (n : Core) (g : Slot) (k : BitVec 6)
  /-- BRK (R277): The BRK exception is taken. -/
  | brk (n : Core) (g : Slot) (k : BitVec 6)
  /-- TLBINV (R322): TLB entries in a scope are invalidated locally or by broadcast. -/
  | tlbinv (n : Core) (g : Slot) (k : BitVec 6)
  /-- TLBSYNC (R325): The core waits for acknowledgement of its invalidations. -/
  | tlbsync (n : Core) (g : Slot)
  /-- DCINV (R272): The D-cache line holding A is dropped. -/
  | dcinv (n : Core) (g : Slot)
  /-- ICINV (R272): The I-cache line holding A is dropped. -/
  | icinv (n : Core) (g : Slot)
  /-- MFCR (R261): A receives a control register. -/
  | mfcr (n : Core) (g : Slot) (k : BitVec 6)
  /-- MTCR (R305): A control register is written from A, with its own effects. -/
  | mtcr (n : Core) (g : Slot) (k : BitVec 6)
  /-- LDA (R259): A is loaded, in its full or zero-extended sized forms. -/
  | lda (n : Core) (g : Slot) (o : MemOp) (size : BitVec 2)
  /-- LDAS (R259): A is loaded sign-extended. -/
  | ldas (n : Core) (g : Slot) (o : MemOp) (size : Fin 3)
  /-- LDX_LDY (R259): X or Y is loaded. -/
  | ldxLdy (n : Core) (g : Slot) (o : MemOp) (y : Bool)
  /-- STA (R273): Low bytes of A are stored through the store buffer. -/
  | sta (n : Core) (g : Slot) (o : MemOp) (size : BitVec 2)
  /-- STX_STY (R273): X or Y is stored. -/
  | stxSty (n : Core) (g : Slot) (o : MemOp) (y : Bool)
  /-- LEA (R259): A receives the effective address. -/
  | lea (n : Core) (g : Slot) (o : MemOp)
  /-- ADD (R261): The operand is added to A. -/
  | add (n : Core) (g : Slot) (o : MemOp)
  /-- ADC (R261): The operand and carry are added to A. -/
  | adc (n : Core) (g : Slot) (o : MemOp)
  /-- SUB (R261): The operand is subtracted from A. -/
  | sub (n : Core) (g : Slot) (o : MemOp)
  /-- SBC (R261): The operand and borrow are subtracted from A. -/
  | sbc (n : Core) (g : Slot) (o : MemOp)
  /-- AND_OR_XOR (R261): A is combined bitwise with the operand. -/
  | andOrXor (n : Core) (g : Slot) (o : MemOp) (op : Fin 3)
  /-- CMP_CMPX_CMPY (R261): Flags are set from A, X or Y minus the operand. -/
  | cmpCmpxCmpy (n : Core) (g : Slot) (o : MemOp) (r : Fin 3)
  /-- MUL (R261): A receives the low product with the operand. -/
  | mul (n : Core) (g : Slot) (o : MemOp)
  /-- MULHU_MULHS (R261): A receives the high product, unsigned or signed. -/
  | mulhuMulhs (n : Core) (g : Slot) (o : MemOp) (signed : Bool)
  /-- DIVU_REMU_DIVS_REMS (R262): A receives a quotient or remainder without trapping. -/
  | divuRemuDivsRems (n : Core) (g : Slot) (o : MemOp) (op : BitVec 2)
  /-- SHL_SHR_SRA_ROL (R261): A is shifted or rotated by the operand. -/
  | shlShrSraRol (n : Core) (g : Slot) (o : MemOp) (op : BitVec 2)
  /-- ADDX_ADDY (R261): The operand is added to X or Y. -/
  | addxAddy (n : Core) (g : Slot) (o : MemOp) (y : Bool)
  /-- LDDP_LDSP (R261): DP or SP is loaded. -/
  | lddpLdsp (n : Core) (g : Slot) (o : MemOp) (sp : Bool)
  /-- LDHI (R261): A[63:36] is set from F. -/
  | ldhi (n : Core) (g : Slot) (o : MemOp)
  /-- JMP (R270): The core jumps after its delay slot. -/
  | jmp (n : Core) (g : Slot) (o : MemOp)
  /-- CALL (R268): The core calls and pushes the return address. -/
  | call (n : Core) (g : Slot) (o : MemOp) (dlen : BitVec 3)
  /-- TST (R261): Flags are set from A AND the operand. -/
  | tst (n : Core) (g : Slot) (o : MemOp)
  /-- LDST (R257): ST is loaded (privileged). -/
  | ldst (n : Core) (g : Slot) (o : MemOp)
  /-- ADDSP (R261): The operand is added to SP. -/
  | addsp (n : Core) (g : Slot) (o : MemOp)
  /-- BCC (R270): A conditional branch is taken or not, with an optional annulled delay slot. -/
  | bcc (n : Core) (g : Slot) (cond : BitVec 4) (annul : Bool) (rsv : BitVec 2) (long : Bool) (f : BitVec 36)
  /-- VADD (R289): Vector elements are added. -/
  | vadd (n : Core) (g : Slot) (o : VOp)
  /-- VSUB (R289): Vector elements are subtracted. -/
  | vsub (n : Core) (g : Slot) (o : VOp)
  /-- VMUL (R289): Vector elements are multiplied. -/
  | vmul (n : Core) (g : Slot) (o : VOp)
  /-- VMINU_VMAXU_VMINS_VMAXS (R289): Element minima or maxima are formed. -/
  | vminuVmaxuVminsVmaxs (n : Core) (g : Slot) (o : VOp) (op : BitVec 2)
  /-- VAND_VOR_VXOR_VANDN (R289): Elements are combined bitwise. -/
  | vandVorVxorVandn (n : Core) (g : Slot) (o : VOp) (op : BitVec 2)
  /-- VSHL_VSHR_VSRA (R289): Elements are shifted by elements. -/
  | vshlVshrVsra (n : Core) (g : Slot) (o : VOp) (op : Fin 3)
  /-- VSHLI (R289): Elements are shifted left by an immediate. -/
  | vshli (n : Core) (g : Slot) (o : VOp)
  /-- VCEQ_VCLTU_VCLTS (R289): Elements are compared into all-ones or zero. -/
  | vceqVcltuVclts (n : Core) (g : Slot) (o : VOp) (op : Fin 3)
  /-- VMSK (R289): A mask is formed from nonzero elements. -/
  | vmsk (n : Core) (g : Slot) (o : VOp)
  /-- VSEL (R289): Elements are selected by V0. -/
  | vsel (n : Core) (g : Slot) (o : VOp)
  /-- VMOV (R289): Elements are copied. -/
  | vmov (n : Core) (g : Slot) (o : VOp)
  /-- VSPLAT (R289): A is copied into every active element. -/
  | vsplat (n : Core) (g : Slot) (o : VOp)
  /-- VPOPC (R289): Each element receives its population count. -/
  | vpopc (n : Core) (g : Slot) (o : VOp)
  /-- VINS (R289): A is inserted at element X[7:0]. -/
  | vins (n : Core) (g : Slot) (o : VOp)
  /-- VEXT (R289): A receives element X[7:0]. -/
  | vext (n : Core) (g : Slot) (o : VOp)
  /-- VSETVL (R287): VL is set from A and returned in A. -/
  | vsetvl (n : Core) (g : Slot) (o : VOp)
  /-- VRADD (R289): A receives the sum of active elements. -/
  | vradd (n : Core) (g : Slot) (o : VOp)
  /-- VRXOR (R289): A receives the XOR of active elements. -/
  | vrxor (n : Core) (g : Slot) (o : VOp)
  /-- VRMINU_VRMAXU (R289): A receives the unsigned minimum or maximum of active elements. -/
  | vrminuVrmaxu (n : Core) (g : Slot) (o : VOp) (max : Bool)
  /-- VRPOPC (R289): A receives the ones in all active elements. -/
  | vrpopc (n : Core) (g : Slot) (o : VOp)
  /-- VCOMPRESS (R289): Active elements are packed to the start of VD. -/
  | vcompress (n : Core) (g : Slot) (o : VOp)
  /-- VEXPAND (R289): Source elements are spread to active positions. -/
  | vexpand (n : Core) (g : Slot) (o : VOp)
  /-- VCRC (R289): A receives the CRC-32C state over active elements. -/
  | vcrc (n : Core) (g : Slot) (o : VOp)
  /-- VLD (R293): Elements are loaded after a check phase. -/
  | vld (n : Core) (g : Slot) (o : VOp)
  /-- VST (R293): Elements are stored after a check phase. -/
  | vst (n : Core) (g : Slot) (o : VOp)
  /-- VGATHER (R293): Elements are gathered from indexed addresses. -/
  | vgather (n : Core) (g : Slot) (o : VOp)
  /-- VSCATTER (R293): Elements are scattered to indexed addresses. -/
  | vscatter (n : Core) (g : Slot) (o : VOp)
  /-- EVENT_ACCEPTANCE (R342): A core accepts an event offer at a group boundary and enters its handler. -/
  | eventAcceptance (n : Core) (w : EvWindow) (stack : FrameErr := {})
  /-- BUFFERED_STORE (R273): A buffered store is performed in memory. -/
  | bufferedStore (n : Core)
  /-- SERVICE_REQUEST (R283): The hub writes a service request record into the core's ring and advances PROD. -/
  | serviceRequest (n : Core)
  /-- INVALIDATION_RECEIVED (R324): A core applies a broadcast TLB invalidation and acknowledges it. -/
  | invalidationReceived (n : Core)
  /-- INVALIDATION_ACK (R325): An acknowledgement arrives and may complete TLBSYNC. -/
  | invalidationAck (src : Core) (n : Core)
  /-- TLBSYNC_TIMEOUT (R325): 1,600 CCLK cycles pass with an acknowledgement missing; TLBSYNC completes with TIMEOUT. -/
  | tlbsyncTimeout (n : Core)
  /-- LKCMD_WRITE (R320): MMU_LKCMD.WRITE writes and locks an L1 TLB entry or sets ERR. -/
  | lkcmdWrite (n : Core) (i : Fin 8)
  /-- UNLOCK (R319): MMU_LKCMD.UNLOCK removes a locked entry. -/
  | unlock (n : Core) (i : Fin 8)
  /-- LKCMD_READ (R319): MMU_LKCMD.READ copies an entry into MMU_LKVA and MMU_LKPA. -/
  | lkcmdRead (n : Core) (i : Fin 8)
  /-- CVU_RELEASE (R298): A write of CVU_CTL.RELEASE clears LIVE and takes the unit Off. -/
  | cvuRelease (n : Core)
  /-- CVU_WAKE (R300): A write of CVU_CTL.WAKE starts a wake. -/
  | cvuWake (n : Core)
  /-- CVU_WAKE_DONE (R300): A CVU wake ends and the unit is Active. -/
  | cvuWakeDone (n : Core)
  /-- CVU_RETENTION (R299): The idle timer reaches RET and the unit enters Retention. -/
  | cvuRetention (n : Core)
  /-- CVU_OFF (R299): The idle timer reaches OFF with LIVE = 0 and the unit enters Off. -/
  | cvuOff (n : Core)
  /-- SOURCE_CHANGE (R333): An LEC source changes and its PEND bit and counter follow its sensing. -/
  | sourceChange (e : Fin 9) (src : Fin 512) (level : Bool) (wpn : Option Bool := none)
  /-- TRIGGER_RECORD (R334): A trigger record reaches the LEC and is counted, pended and queued. -/
  | triggerRecord (t : Tile)
  /-- LEC_SWEV (R335): A write of LEC_SWEV raises software events. -/
  | lecSwevWrite (mask : BitVec 16)
  /-- LEC_PCLR (R337): A write of LEC_PCLR clears pending bits. -/
  | lecPclrWrite (e : Fin 9) (r : Fin 8) (v : Word)
  /-- LEC_PEND_WRITE (R337): A write of LEC_PEND sets every writable pending bit. -/
  | lecPendWrite (e : Fin 9) (r : Fin 8) (v : Word)
  /-- LEC_SENSE (R332): A write of a SENSE field changes sensing and takes a new reference sample. -/
  | lecSenseWrite (e : Fin 9) (r : Fin 32) (v : Word)
  /-- TRQ_POP (R334): A write of LEC_TRQCTL.POP removes the oldest trigger record. -/
  | trqPop (e : Fin 9)
  /-- GEC_REASSIGNMENT (R340): An input whose core became unavailable, or orphaned, is assigned to a fallback core. -/
  | gecReassignment (i : Fin 576)
  /-- SOUNDPOST_WAKE (R350): An enabled wake source is active; the Soundpost records it and powers up the hub. -/
  | soundpostWake (w : WakeSource)
  /-- TME_REQUEST (R362): The TME takes a design-memory request from its queue and serves it. -/
  | tmeRequest (t : Tile) (err : HbmRead)
  /-- CHANNEL_FAILURE (R366): The TME declares an HBM channel failed and starts the rebuild. -/
  | channelFailure (t : Tile) (ch : Fin 16)
  /-- REBUILD_GROUP (R367): The rebuild reconstructs one group at RATE, completing the rebuild at the last group. -/
  | rebuildGroup (t : Tile) (err : HbmRead := .ok) (member : Fin 16 := 0)
  /-- ZERO_FILL_DONE (R357): The TME finishes zero-filling its stack and sets its ready bit. -/
  | zeroFillDone (t : Tile)
  /-- FLASH_ERASE (R373): MGT_FLCMD erase starts on the named device or is refused. -/
  | flashErase (wpn : Option Bool := none)
  /-- FLASH_PROGRAM (R373): MGT_FLCMD program starts on the named device or is refused. -/
  | flashProgram (wpn : Option Bool := none)
  /-- FLASH_COMMAND_DONE (R373): A flash erase or program ends and BUSY clears. -/
  | flashCommandDone (ok : Bool) (err : HbmRead := .ok) (more : LineErrs := [])
  /-- BAR0_ACCESS (R381): A host TLP to BAR0 is performed as 8-byte accesses. -/
  | bar0Access (off : BitVec 26) (len : BitVec 13) (data : Option (List Byte)) (err : HbmRead := .ok) (cfg : Option ConfigWrite := none)
      (more : LineErrs := []) (ecrc : Bool := true)
  /-- BAR2_ACCESS (R383): A host TLP to BAR2 reaches HBM in arrival order. -/
  | bar2Access (off : BitVec 36) (len : BitVec 13) (data : Option (List Byte)) (err : HbmRead := .ok) (more : LineErrs := []) (ecrc : Bool := true)
  /-- FLR (R378): A Function Level Reset clears the endpoint registers, mailbox and unadmitted entries. -/
  | flr
  /-- CONVENTIONAL_RESET (R378): PCIE_PERST_N resets the endpoint and configuration space and retrains the link. -/
  | conventionalReset
  /-- PCIE_LINK_CHANGE (R378): The PCIe link changes state, width or rate. -/
  | pcieLinkChange (width : BitVec 5) (rate : BitVec 3)
  /-- CHANNEL_ENABLE (R388): A write of PCI_CHCTL.EN enables a channel and zeroes its pointers. -/
  | channelEnable (n : Fin 256)
  /-- MSIX_MESSAGE (R385): An MSI-X message is sent when a CQ tail advances and IMOD has passed. -/
  | msixMessage (n : Fin 256)
  /-- OUTPUT_RELEASE (R394): A released output value is written into a CQ entry once the CQ has room. -/
  | outputRelease (n : Fin 256)
  /-- PENDLOAD (R397): A write of PCI_CTL.PENDLOAD in HOLD admits the pending list. -/
  | pendload
  /-- MAILBOX_REQUEST (R398): A write of PCI_MBX.GO submits a dictionary frame from the host. -/
  | mailboxRequest
  /-- READ (R411): A dictionary READ returns the value from OFFSET. -/
  | dictRead (a : Agent) (frame : List Byte) (second : Bool := false)
  /-- WRITE (R412): A dictionary WRITE writes an entry or a segment of it. -/
  | dictWrite (a : Agent) (frame : List Byte) (second : Bool := false)
  /-- ABORT (R413): A dictionary ABORT closes the transport's open transfer. -/
  | dictAbort (a : Agent) (frame : List Byte) (second : Bool := false)
  /-- DESCRIBE (R400): A dictionary DESCRIBE returns type, access, length and default. -/
  | dictDescribe (a : Agent) (frame : List Byte) (second : Bool := false)
  /-- NEXT (R405): A dictionary NEXT returns the next existing entry. -/
  | dictNext (a : Agent) (frame : List Byte) (second : Bool := false)
  /-- RWP_PERSIST (R403): An RWP value finishes programming in both flash copies and the response is sent. -/
  | rwpPersist (ok : Bool)
  /-- TRANSFER_TIMEOUT (R413): A segmented transfer receives no frame for 0x1100:07 ms and closes. -/
  | transferTimeout (a : Agent)
  /-- LOCAL_PORT_REQUEST (R425): A write of MGT_LMBX.GO submits a request from a core's LSRAM. -/
  | localPortRequest (n : Core) (len : BitVec 9) (buf : BitVec 9)
  /-- LDICT_REQUEST (R427): A write of MGT_LDICT.GO sends a DICT request on a lane. -/
  | ldictRequest (n : Core) (len : BitVec 9) (lane : Lane) (buf : BitVec 9)
  /-- LDICT_TIMEOUT (R427): No DICT response arrives in time and TMO is set. -/
  | ldictTimeout (n : Core)
  /-- HEARTBEAT (R420): The heartbeat period expires and a heartbeat is sent. -/
  | heartbeat
  /-- CLAIM (R423): A received CLAIM conflicts with the candidate or is defended. -/
  | claim (p : Fin 2) (node : BitVec 7) (key : Word)
  /-- NODE_CLAIM_TIMEOUT (R422): 100 ms pass without conflict and the candidate becomes the node number. -/
  | nodeClaimTimeout
  /-- HEARTBEAT_RECEIVED (R423): A RESPONSE or HEARTBEAT with this module's node number sets NODEDUP or a conflict. -/
  | heartbeatReceived (p : Fin 2) (node : BitVec 7)
  /-- BUS_OFF (R424): A CAN port enters bus-off and drops its request and transfer. -/
  | busOff (p : Fin 2)
  /-- BUS_OFF_RECOVERY (R417): A CAN port recovers from bus-off and sends a heartbeat. -/
  | busOffRecovery (p : Fin 2)
  /-- START_COMMAND (R432): Mode command START checks the placement and arms the module. -/
  | startCommand (a : Agent) (seq : Byte)
  /-- DISARM (R431): Mode command DISARM clears ARMED. -/
  | disarmCommand (a : Agent) (seq : Byte)
  /-- RESUME_COMMAND (R431): Mode command RESUME acts as CKP_CTL.GO on the master. -/
  | resumeCommand (a : Agent) (seq : Byte)
  /-- STOP (R431): Mode command STOP leaves the emulation and enters READY. -/
  | stopCommand (a : Agent) (seq : Byte)
  /-- SERVICE (R435): Mode command SERVICE enters SERVICE mode. -/
  | serviceCommand (a : Agent) (seq : Byte)
  /-- ENDSERVICE (R431): Mode command ENDSERVICE returns to the previous mode. -/
  | endserviceCommand (a : Agent) (seq : Byte)
  /-- SLEEP (R438): Mode command SLEEP powers the domains off and enters DORMANT. -/
  | sleepCommand (a : Agent) (seq : Byte)
  /-- SLEEP_PROFILE (R431): Mode command SLEEP P0–P3 sleeps with a named wake profile. -/
  | sleepProfile (a : Agent) (seq : Byte) (p : Fin 4)
  /-- REBOOT (R437): Mode command REBOOT acts as WARM_N. -/
  | rebootCommand (a : Agent) (seq : Byte)
  /-- SELECT (R452): Mode command SELECT reruns bring-up from step 6 with a named profile. -/
  | selectCommand (a : Agent) (seq : Byte) (p : Fin 4)
  /-- POR_RELEASE (R436): The release of POR_N resets every register and starts bring-up with cause 0. -/
  | porRelease (sel : BitVec 2) (node : BitVec 7) (wp : Bool)
  /-- WARM_RESET (R437): The release of WARM_N starts bring-up at step 0 keeping stated state. -/
  | warmReset
  /-- BOOT_STEP (R443): A boot step runs its attempts by policy and history and journals the outcome. -/
  | bootStep (tries : List Try) (jfail : BitVec 2)
  /-- BOOT_STEP_TIMEOUT (R439): A boot step exceeds its time limit and ends with outcome timeout. -/
  | bootStepTimeout (tries : List Try) (last : Try) (jfail : BitVec 2)
  /-- CLEAR (R444): A write of BJ_CLEAR or 0x2100:05 writes a CLEAR record pair. -/
  | bjClear (mask : Word) (fail : BitVec 2)
  /-- REFCLK_LOSS (R461): REFCLK shows no edge for REFFLT AOSC cycles. -/
  | refclkLoss
  /-- LOSS_OF_LOCK (R461): The root PLL leaves lock. -/
  | lossOfLock
  /-- DOMAIN_SWITCH (R465): A write of PWR_CMD.GO switches a plan domain on or off, or sets ERR. -/
  | domainSwitch (a : Agent) (d : BitVec 10) (on : Bool)
  /-- DOMAIN_ON (R466): A switched-on domain finishes power-up and reads on. -/
  | domainOn (d : Fin 766)
  /-- DOMAIN_FAULT (R467): A domain overcurrent or undervoltage powers the domain off and is recorded. -/
  | domainFault (d : Fin 766) (under : Bool)
  /-- SENSOR_SAMPLE (R470): Every 100 µs the sensors are sampled for warnings and emergencies. -/
  | sensorSample (temps : List (BitVec 32)) (volts : List (BitVec 32)) (power : BitVec 32)
  /-- THERMAL_TRIP (R474): A junction at 115 °C stops all clocks and asserts THERMTRIP_N and FAULT_N. -/
  | thermalTrip (die : Fin 9) (celsius : BitVec 16)
  /-- PMBUS_POLL (R521): Every 10 ms the PMBus master polls each rail. -/
  | pmbusPoll (status : List (Option (BitVec 16))) (amps : List (BitVec 32))
  /-- PMBUS_COMMAND (R522): A write of PWR_PMBCMD.GO queues one PMBus transaction. -/
  | pmbusCommand (addr : BitVec 7) (code : Byte) (len : BitVec 2) (write : Bool)
  /-- PMBUS_DONE (R522): A firmware PMBus transaction ends and DONE or NAK is set. -/
  | pmbusDone (reply : Option (BitVec 16))
  /-- TRACE_MESSAGE (R479): The trace block takes a trace message and writes its record into the window. -/
  | traceMessage
  /-- PROBE_CAPTURE (R478): In a capture stroke cells read their probe records from P-16. -/
  | probeCapture (c : PCell) (i : Fin 16)
  /-- TRC_SWMSG (R488): A write of TRC_SWMSG takes a software trace record. -/
  | trcSwmsg (a : Agent) (v : Word)
  /-- FRZ_NOW (R481): A write of TRC_FRZ.NOW freezes the trace window with cause 5. -/
  | frzNow
  /-- FROZEN (R481): POST records after the marker have been taken and FROZEN is set. -/
  | frozen
  /-- TRACE_ENABLE (R479): A write of TRC_CTL.EN from 0 to 1 clears TRC_WPTR and SEQ. -/
  | traceEnable
  /-- DEBUG_HALT (R486): A write of TRC_CDBG.HALT halts the core at its next group boundary. -/
  | debugHalt (n : Core)
  /-- DEBUG_RUN (R487): A write of TRC_CDBG.RUN resumes a halted core. -/
  | debugRun (n : Core)
  /-- DEBUG_STEP (R487): A write of TRC_CDBG.STEP issues one group and halts. -/
  | debugStep (n : Core)
  /-- BREAKPOINT (R486): An enabled breakpoint matches the next group and the core halts. -/
  | breakpointHit (n : Core)
  /-- TAP_RESET (R489): TRST_N, five TMS-high cycles or VDD_AON power-up resets the TAP. -/
  | tapReset
  /-- EXTEST (R490): TAP instruction EXTEST drives and captures boundary-scan cells. -/
  | extest (cap : BitVec 1080) (upd : BitVec 1080)
  /-- SAMPLE_PRELOAD (R489): TAP instruction SAMPLE/PRELOAD samples or loads the boundary scan. -/
  | samplePreload (cap : BitVec 1080) (upd : BitVec 1080)
  /-- IDCODE (R489): TAP instruction IDCODE returns the 32-bit identity. -/
  | idcode
  /-- CLAMP (R489): TAP instruction CLAMP holds outputs and selects bypass. -/
  | clamp
  /-- HIGHZ (R489): TAP instruction HIGHZ floats outputs and selects bypass. -/
  | highz
  /-- EXTEST_PULSE (R489): TAP instruction EXTEST_PULSE tests AC-coupled lanes. -/
  | extestPulse (cap : BitVec 1080) (upd : BitVec 1080)
  /-- EXTEST_TRAIN (R489): TAP instruction EXTEST_TRAIN tests AC-coupled lanes with a train. -/
  | extestTrain (cap : BitVec 1080) (upd : BitVec 1080)
  /-- MEMACC (R491): Update-DR of MEMACC with GO starts one 8-byte physical access. -/
  | memacc (addr : BitVec 46) (write : Bool) (go : Bool) (data : Word) (err : HbmRead := .ok)
  /-- TAPSTAT (R492): TAP instruction TAPSTAT captures boot step, mode and clock status. -/
  | tapstat
  /-- BYPASS (R489): TAP instruction BYPASS selects the one-bit bypass register. -/
  | bypass (code : Byte := 0xFF)
  /-- FAULT_ACK (R499): A write of MGT_FLT_ACK or 0x7100:03 acknowledges records through a SEQ. -/
  | faultAck (seq : BitVec 32)
  /-- MODULE_FAULT (R495): A write of MGT_FLT_SW writes a MODULE_FAULT record. -/
  | moduleFault (v : Word)
  /-- REGISTER_WRITE (R7): A write to a register without a row of its own sets its fields by their access codes. -/
  | registerWrite (a : Agent) (addr : BitVec 46) (wide : Bool) (v : Word)
  /-- DOMAIN_OFF (R466): A domain finishes its power-down, reads off, clears BUSY and sets PWR_STAT.CHG with LASTDOM. -/
  | domainOff (d : Fin 766)
  /-- RESET_LOW (R515): A low on POR_N or WARM_N is recognised after 32 AOSC samples and holds the module in reset until its release. -/
  | resetLow (por : Bool)
  /-- RESERVED_CTYPE (R210): A control message with a reserved CTYPE, or an ANNOUNCE of a reserved kind, is received, ignored and sets LNK_STAT.CTLUNK. -/
  | reservedCtype (n : Lane) (ctype : BitVec 4) (kind : BitVec 4)
  /-- BEAT_KIND_MISMATCH (R192): A received beat whose kind differs from its calendar position's kind is discarded and sets LNK_STAT.CALERR. -/
  | beatKindMismatch (n : Lane)
  /-- FENCE_LEAD (R246): The time base reaches T(H+1) minus CKP_FENCE.LEAD during replay, and the PSTAT change from mode 6 to mode 3 is queued. -/
  | fenceLead
  /-- CAN_BUS_ERROR (R417): A CAN protocol error seen on the bus changes TEC or REC and can move the port into or out of error passive. -/
  | canBusError (p : Fin 2) (sender : Bool) (kind : CanError) (claim : Bool)
  /-- IGNORED_FRAME (R418): A classical, extended, remote or unlisted-function CAN frame is received and ignored; if addressed to the module it is counted and sets RXIGN. -/
  | ignoredFrame (p : Fin 2) (addressed : Bool)
  /-- RESERVED_CMD (R410): A dictionary request with a reserved CMD is answered with abort 0x09. -/
  | reservedCmd (a : Agent) (frame : List Byte) (second : Bool := false)
  deriving DecidableEq, Repr

end Sys2Proof
end

