-- ==== Sys2Proof/Decode.lean ====
section
/-! DEFINITION. The command that a word of spec/opcode_table.json's bits spells, and the Capo command that the halfwords of an instruction
spell (09 R258, 10). -/

namespace Sys2Proof

/-- No row of the table gives bits: no word spells a command. -/
def decodeTableWord (_nbits _w : Nat) : Option Instr := none

/-! ### Capo instructions (09 R258, R261, 10 R288) -/

/-- The bits [lo + w − 1 : lo] of a number. -/
def fieldAt (v lo w : Nat) : Nat := v / 2 ^ lo % 2 ^ w

/-- The instruction of a 16-bit form by OP7 and K, in core n; NOP with `rsvd` stands for a reserved OP7. `dlen`: halfwords of the group in
the delay slot of a call. -/
def decodeShort (n : Core) (g : Slot) (dlen : BitVec 3) (op k : Nat) : Instr :=
  let kk := BitVec.ofNat 6 k
  match op with
  | 0x00 => .nop n g
  | 0x01 => .movr n g kk
  | 0x02 => .exr n g kk
  | 0x0B => .incDec n g 0
  | 0x0C => .incDec n g 1
  | 0x0D => .incDec n g 2
  | 0x0E => .incDec n g 3
  | 0x0F => .neg n g
  | 0x10 => .notA n g
  | 0x11 => .clc n g
  | 0x12 => .sec n g
  | 0x13 => .shliShriSraiRoli n g 0 kk
  | 0x14 => .shliShriSraiRoli n g 1 kk
  | 0x15 => .shliShriSraiRoli n g 2 kk
  | 0x16 => .shliShriSraiRoli n g 3 kk
  | 0x17 => .popc n g
  | 0x18 => .pushaPushxPushy n g 0
  | 0x19 => .popaPopxPopy n g 0
  | 0x1A => .pushaPushxPushy n g 1
  | 0x1B => .popaPopxPopy n g 1
  | 0x1C => .pushaPushxPushy n g 2
  | 0x1D => .popaPopxPopy n g 2
  | 0x1E => .ret n g
  | 0x1F => .reti n g
  | 0x20 => .jmpx n g
  | 0x21 => .callx n g dlen
  | 0x22 => .rspush n g
  | 0x23 => .rspop n g
  | 0x24 => .rscnt n g
  | 0x25 => .rsx n g
  | 0x26 => .syncOp n g
  | 0x27 => .synci n g
  | 0x28 => .waitOp n g
  | 0x29 => .syscall n g kk
  | 0x2A => .brk n g kk
  | 0x2B => .tlbinv n g kk
  | 0x2C => .tlbsync n g
  | 0x2D => .dcinv n g
  | 0x2E => .icinv n g
  | 0x40 => .mfcr n g kk
  | 0x41 => .mtcr n g kk
  | _ => .nop n { g with rsvd := true }

/-- The instruction of a memory format by OP; ADD with `rsvd` stands for the reserved OP. -/
def decodeMem (n : Core) (g : Slot) (dlen : BitVec 3) (op : Nat) (o : MemOp) : Instr :=
  match op with
  | 0x00 => .lda n g o 0
  | 0x01 => .lda n g o 1
  | 0x02 => .lda n g o 2
  | 0x03 => .lda n g o 3
  | 0x04 => .ldas n g o 0
  | 0x05 => .ldas n g o 1
  | 0x06 => .ldas n g o 2
  | 0x07 => .ldxLdy n g o false
  | 0x08 => .ldxLdy n g o true
  | 0x09 => .sta n g o 0
  | 0x0A => .sta n g o 1
  | 0x0B => .sta n g o 2
  | 0x0C => .sta n g o 3
  | 0x0D => .stxSty n g o false
  | 0x0E => .stxSty n g o true
  | 0x0F => .lea n g o
  | 0x10 => .add n g o
  | 0x11 => .adc n g o
  | 0x12 => .sub n g o
  | 0x13 => .sbc n g o
  | 0x14 => .andOrXor n g o 0
  | 0x15 => .andOrXor n g o 1
  | 0x16 => .andOrXor n g o 2
  | 0x17 => .cmpCmpxCmpy n g o 0
  | 0x18 => .cmpCmpxCmpy n g o 1
  | 0x19 => .cmpCmpxCmpy n g o 2
  | 0x1A => .mul n g o
  | 0x1B => .mulhuMulhs n g o false
  | 0x1C => .mulhuMulhs n g o true
  | 0x1D => .divuRemuDivsRems n g o 0
  | 0x1E => .divuRemuDivsRems n g o 1
  | 0x1F => .divuRemuDivsRems n g o 2
  | 0x20 => .divuRemuDivsRems n g o 3
  | 0x21 => .shlShrSraRol n g o 0
  | 0x22 => .shlShrSraRol n g o 1
  | 0x23 => .shlShrSraRol n g o 2
  | 0x24 => .shlShrSraRol n g o 3
  | 0x25 => .addxAddy n g o false
  | 0x26 => .addxAddy n g o true
  | 0x27 => .lddpLdsp n g o false
  | 0x28 => .lddpLdsp n g o true
  | 0x29 => .ldhi n g o
  | 0x2A => .jmp n g o
  | 0x2B => .call n g o dlen
  | 0x2C => .tst n g o
  | 0x2D => .ldst n g o
  | 0x2E => .addsp n g o
  | _ => .add n { g with rsvd := true } o

/-- The vector instruction of a VOP; VADD with `rsvd` stands for a reserved VOP. -/
def decodeVec (n : Core) (g : Slot) (op : Nat) (o : VOp) : Instr :=
  match op with
  | 0x01 => .vadd n g o
  | 0x02 => .vsub n g o
  | 0x03 => .vmul n g o
  | 0x04 => .vminuVmaxuVminsVmaxs n g o 0
  | 0x05 => .vminuVmaxuVminsVmaxs n g o 1
  | 0x06 => .vminuVmaxuVminsVmaxs n g o 2
  | 0x07 => .vminuVmaxuVminsVmaxs n g o 3
  | 0x08 => .vandVorVxorVandn n g o 0
  | 0x09 => .vandVorVxorVandn n g o 1
  | 0x0A => .vandVorVxorVandn n g o 2
  | 0x0B => .vandVorVxorVandn n g o 3
  | 0x0C => .vshlVshrVsra n g o 0
  | 0x0D => .vshlVshrVsra n g o 1
  | 0x0E => .vshlVshrVsra n g o 2
  | 0x0F => .vshli n g o
  | 0x10 => .vceqVcltuVclts n g o 0
  | 0x11 => .vceqVcltuVclts n g o 1
  | 0x12 => .vceqVcltuVclts n g o 2
  | 0x13 => .vmsk n g o
  | 0x14 => .vsel n g o
  | 0x15 => .vmov n g o
  | 0x16 => .vsplat n g o
  | 0x17 => .vpopc n g o
  | 0x18 => .vins n g o
  | 0x19 => .vext n g o
  | 0x1A => .vsetvl n g o
  | 0x20 => .vradd n g o
  | 0x21 => .vrxor n g o
  | 0x22 => .vrminuVrmaxu n g o false
  | 0x23 => .vrminuVrmaxu n g o true
  | 0x24 => .vrpopc n g o
  | 0x28 => .vcompress n g o
  | 0x29 => .vexpand n g o
  | 0x2C => .vcrc n g o
  | 0x30 => .vld n g o
  | 0x31 => .vst n g o
  | 0x32 => .vgather n g o
  | 0x33 => .vscatter n g o
  | _ => .vadd n { g with rsvd := true } o

/-- The fields of a vector instruction: halfword 0 and the operand word W. -/
def decodeVOp (h w : Nat) : VOp where
  ew := BitVec.ofNat 2 (fieldAt h 5 2)
  g := BitVec.ofNat 2 (fieldAt h 3 2)
  m := fieldAt h 2 1 == 1
  rsv := BitVec.ofNat 2 (fieldAt h 0 2)
  vd := BitVec.ofNat 5 (fieldAt w 27 5)
  va := BitVec.ofNat 5 (fieldAt w 22 5)
  vb := BitVec.ofNat 5 (fieldAt w 17 5)
  br := fieldAt w 16 1 == 1
  sc := BitVec.ofNat 2 (fieldAt w 14 2)
  imm := BitVec.ofNat 14 (fieldAt w 0 14)

/-- Length in halfwords by the length code of halfword 0. -/
def capoLen (h : Nat) : Nat := if fieldAt h 13 2 = 0 then 1 else if fieldAt h 13 2 = 1 then 2 else 3

/-- The Capo command that the halfwords h0, h1, h2 spell; those beyond the length are not looked at. `err` is what its accesses meet. -/
def capoDecode (n : Core) (err : MemErr) (dlen : BitVec 3) (h0 h1 h2 : BitVec 16) : Instr :=
  let h := h0.toNat
  let g : Slot := { pair := fieldAt h 15 1 == 1, err := err }
  let op := fieldAt h 7 6
  if fieldAt h 13 2 = 0 then decodeShort n g dlen (fieldAt h 6 7) (fieldAt h 0 6)
  else if fieldAt h 13 2 = 3 then decodeVec n g op (decodeVOp h (h1.toNat * 2 ^ 16 + h2.toNat))
  else
    let long := fieldAt h 13 2 == 2
    let f := if long then fieldAt h 0 4 * 2 ^ 32 + h1.toNat * 2 ^ 16 + h2.toNat else fieldAt h 0 4 * 2 ^ 16 + h1.toNat
    if 0x30 ≤ op then .bcc n g (BitVec.ofNat 4 op) (fieldAt h 6 1 == 1) (BitVec.ofNat 2 (fieldAt h 4 2)) long (BitVec.ofNat 36 f)
    else decodeMem n g dlen op ⟨long, BitVec.ofNat 3 (fieldAt h 4 3), BitVec.ofNat 36 f⟩

end Sys2Proof
end

