-- ==== Sys2Proof/Config.lean ====
section
/-! DEFINITION. What one module fixes and the spec does not state, and the free values: opaque constants, so
that nothing proved can rest on what they are. -/

namespace Sys2Proof

/-- The module's 64-bit serial number (02 R40, 07 R210): each module has its own; the spec gives no value. -/
opaque Config.serial : Word

/-- The 11-bit JEP106 identity of the maker in IDCODE (18 R489): the spec gives no value. -/
opaque Config.jep106 : BitVec 11

/-- The PCIe Vendor ID (14 R379, entry 0x1000:04): the spec gives no value. -/
opaque Config.vendor : BitVec 16

/-- The versions of the boot (0) and runtime (1) firmware that entries 0x1001:01 and :02 show (15): the spec gives no place
in flash that holds them. -/
opaque Config.firmware : Nat → BitVec 32

/-- The free value number n, for results the spec leaves open. -/
opaque Config.freeValue : Nat → Word

/-- The exponent of the first root of the generator of the lanes' RS(272,257) code (07 R190): the spec gives none. -/
opaque Config.fecRoot : Nat

/-- Whether an offset that lies between two whole picoseconds is rounded up (02 R41 states no rounding). -/
opaque Config.roundUp : Int → Bool

end Sys2Proof
end

