-- ==== Sys2Proof/Machine/Bits.lean ====
section
/-! DEFINITION. Bit fields, byte order, parity and the CRC-32C of the spec (00 R5, R6; 05 R150), over
natural numbers. -/

namespace Sys2Proof.Machine

/-- Bits [hi:lo] of a number (00 R6). -/
def bits (n hi lo : Nat) : Nat := n / 2 ^ lo % 2 ^ (hi + 1 - lo)

/-- Bit i of a number. -/
def bit (n i : Nat) : Bool := n / 2 ^ i % 2 == 1

/-- A truth value as 0 or 1. -/
def b2n (b : Bool) : Nat := if b then 1 else 0

/-- Replace bits [lo + w - 1:lo] of n by v. -/
def putBits (n lo w v : Nat) : Nat :=
  n % 2 ^ lo + v % 2 ^ w * 2 ^ lo + n / 2 ^ (lo + w) * 2 ^ (lo + w)

/-- Set bit i of n to b. -/
def putBit (n i : Nat) (b : Bool) : Nat := putBits n i 1 (b2n b)

/-- The two's complement value of the low w bits of n. -/
def sext (n w : Nat) : Int :=
  let m := n % 2 ^ w
  if m < 2 ^ (w - 1) then (m : Int) else (m : Int) - 2 ^ w

/-- An integer modulo 2^w. -/
def wrap (z : Int) (w : Nat) : Nat := (z % (2 ^ w : Int)).toNat

/-- Byte k of a number, least significant byte first (00 R5). -/
def byteOf (n k : Nat) : Nat := n / 256 ^ k % 256

/-- The n least significant bytes of x, least significant first. -/
def leBytes : Nat → Nat → List Nat
  | 0, _ => []
  | n + 1, x => x % 256 :: leBytes n (x / 256)

/-- The number a little-endian byte string spells. -/
def ofLe : List Nat → Nat
  | [] => 0
  | b :: t => b % 256 + 256 * ofLe t

/-- How many of the low w bits of n are 1. -/
def popcount : Nat → Nat → Nat
  | 0, _ => 0
  | w + 1, n => n % 2 + popcount w (n / 2)

/-- An 8-bit mask as 64 bits: every bit of byte k is bit k of the mask. -/
def byteMask : Nat → Nat → Nat
  | 0, _ => 0
  | k + 1, m => (if m % 2 = 1 then 255 else 0) + 256 * byteMask k (m / 2)

/-- Merge: bits of `new` where `mask` is 1, bits of `old` elsewhere, in a 64-bit word. -/
def merge (old new mask : Nat) : Nat :=
  (new &&& mask) ||| (old &&& (mask ^^^ 0xFFFFFFFFFFFFFFFF))

/-- One step of the reflected CRC-32C register over a bit. -/
def crcBit : Nat → Nat → Nat
  | 0, c => c
  | k + 1, c => crcBit k (if c % 2 = 1 then c / 2 ^^^ 0x82F63B78 else c / 2)

/-- The CRC-32C register after the bytes, started at c, without the final inversion. -/
def crcFold : List Nat → Nat → Nat
  | [], c => c
  | b :: t, c => crcFold t (crcBit 8 (c ^^^ b % 256))

/-- CRC-32C: initial value and final inversion 0xFFFF_FFFF, reflected. -/
def crc32c (l : List Nat) : Nat := crcFold l 0xFFFFFFFF ^^^ 0xFFFFFFFF

/-- A count that saturates. -/
def satInc (n max : Nat) : Nat := if n < max then n + 1 else max

/-- The first element that satisfies p, by index. -/
def findIdxFrom {α : Type} (p : α → Bool) : List α → Nat → Option Nat
  | [], _ => none
  | x :: t, k => if p x then some k else findIdxFrom p t (k + 1)

end Sys2Proof.Machine
end

