-- ==== Sys2Proof/Machine/RegMap.lean ====
section
/-! DEFINITION. The register maps of the spec: every register (`RegName`), every field with its bits,
access code and reset value (the tables of the owning chapters), and where each register sits in its
block (00 R7-R12, 13 R353). A field is stored on its own in `State.regs`; a register is put together
from its fields when it is read. Fields whose Reset column gives an instance-dependent value carry it
as a function of the instance number. `ok` is false on the encodings a register map reserves (R10);
`kept` marks a field that WARM_N and REBOOT leave unchanged. -/

namespace Sys2Proof.Machine

/-- Access codes of 00 R7. -/
inductive Acc
  | ro | rw | wo | w1c | w1s
  deriving DecidableEq, Repr

/-- Every register of the register maps, by its name in the spec. -/
inductive RegName
  | CLK_TB | CLK_STROKE_NO | CLK_STROKE_CFG | CLK_TSTART | CLK_HOLD_ACC | CLK_PAUSE_ACC | CLK_TM_CTL 
  | CLK_SKEW | CLK_SKEW_LIM | CLK_ADM | CLK_DL_STAT | CLK_GEN_CTL | CLK_GEN_STAT | CKP_CTL | CKP_POL 
  | CKP_HOLDAT | CKP_STAT | CKP_LAST | CKP_HWM | CKP_TIME | CKP_FENCE | CKP_AREA | CKP_FILL | MGT_STAT 
  | MGT_CAN | MGT_LMBX | MGT_MODE | MGT_FLT_STAT | MGT_FLT_ACK | MGT_FLT_CTL | MGT_FLT_LOST | MGT_FLT_SEL 
  | MGT_FLT_REC | MGT_FLT_SW | MGT_LDICT | MGT_IMG_ADDR | MGT_IMG_CTL | MGT_FLCTL | MGT_FLCMD | MGT_FLBUF 
  | FAB_CTL | FAB_RSV | FAB_STAT | FAB_COLL | FAB_COLLT | FAB_ERR | FAB_CNT | FAB_UCTL | FAB_XSPARE 
  | LEC_SENSE | LEC_ROUTE | LEC_CNT | LEC_EN | LEC_PEND | LEC_PCLR | LEC_RAW | LEC_LINE | LEC_FIND | LEC_TRQV 
  | LEC_TRQA | LEC_TRQS | LEC_TRQCTL | LEC_SWEV | GEC_IN | GEC_EN | GEC_LVL | GEC_FALLBACK | GEC_STAT 
  | SPT_SEL | SPT_CTL | SPT_CAUSE | SPT_WAKEPRF | PWR_CMD | PWR_STAT | PWR_ON | PWR_FAIL | PWR_THERM 
  | PWR_SUPPLY | PWR_PMBCMD | PWR_PMBDATA | CPO_ID | CPO_MODE | CPO_CFG | CPO_XVBAR | CPO_XINFO | CPO_XADDR 
  | CPO_XTGT | CPO_RSSTAT | CPO_PERR | CPO_CYC | CPO_GRP | CPO_MISS | CPO_SVC_RQ | CPO_SVC_AH | CPO_SVC_AD 
  | CPO_RSTPC | MMU_CTL | MMU_ASID | MMU_TTB0 | MMU_TTB1 | MMU_FSR | MMU_FPA | MMU_LKVA | MMU_LKPA 
  | MMU_LKCMD | MMU_SYNC | MMU_STAT | MMU_CNT | MMU_L2CNT | CPO_EVT_CTL | CPO_EVT_CLAIM | CPO_EVT_TOP 
  | CPO_EVT_STAT | CVU_CTL | CVU_VL | CVU_FAULT | CVU_IDLE | CVU_STAT | CVU_WAKES | CPO_SVC_MARGIN | PCI_CTL 
  | PCI_STAT | PCI_ERRADDR | PCI_APBASE | PCI_B2BASE | PCI_PENDSTAT | PCI_MBX | PCI_MBXREQ | PCI_MBXRSP 
  | PCI_CHSQ | PCI_CHCQ | PCI_CHCTL | PCI_CHPTR | PCI_CHSTAT | PCI_CHCNT | TRC_CTL | TRC_WIN | TRC_WPTR 
  | TRC_STAT | TRC_FRZ | TRC_FRZST | TRC_HSTROKE | TRC_SWMSG | TRC_DBGEV | TRC_CDBG | TRC_CBP | TRC_CR 
  | BJ_STAT | BJ_HIST | BJ_RUNALT | BJ_RUNSKIP | BJ_RUNFAIL | BJ_CLEAR | BJ_RDYEV | BJ_RDYT | BJ_RDYC 
  | BJ_RDYL | PRF_ACTIVE | LNK_CTL | LNK_STAT | LNK_LAT | LNK_PID | LNK_PINFO | LNK_FEC | LNK_CAL 
  | LNK_MARGIN | LNK_RXCFG | LNK_EXP | LNK_UCRED | LNK_UTXH | LNK_UTXD | LNK_URXH | LNK_URXD | LNK_URXCTL 
  | LNK_REMAP | LNK_REMAP_CTL | CLU_REMAP | CLU_REMAP_CTL | CLU_SPARE | CLU_FLAGS0 | CLU_FLAGS1 | CLU_STAT 
  | CLU_SWAP_STROKE | CLU_SWAP_CTL | TME_CFG | TME_STAT | TME_ERR | TME_ECC | TME_CHMAP | TME_CHSTAT 
  | TME_RBCTL | TME_MARGIN | TRC_PCTL | TRC_PSTAT | TRC_HALTC | TRC_HALTS | CELL_ID | CELL_CTL | CELL_STAT 
  | CELL_PERR | CELL_IMCFG | CELL_LC0 | CELL_LC1 | CELL_SBSEL | CELL_DIRTY | CELL_INBARR 
  deriving DecidableEq, Repr

/-- One field of a register map. `id` is 64 times the register number plus the lowest bit. -/
structure Field where
  id : Nat
  lo : Nat
  width : Nat
  acc : Acc
  rst : Nat → Nat
  ok : Nat → Bool := fun _ => true
  kept : Bool := false

def CLK_TB_TB : Field := ⟨0, 0, 64, .ro, fun _ => 0, fun _ => true, true⟩
def CLK_STROKE_NO_STROKE_NO : Field := ⟨64, 0, 64, .ro, fun _ => 0, fun _ => true, false⟩
def CLK_STROKE_CFG_PERIOD : Field := ⟨128, 0, 16, .rw, fun _ => 0x898, fun v => 33 ≤ v, false⟩
def CLK_STROKE_CFG_BWIN : Field := ⟨144, 16, 8, .ro, fun _ => 0x20, fun _ => true, false⟩
def CLK_TSTART_TSTART : Field := ⟨192, 0, 64, .rw, fun _ => 0, fun _ => true, false⟩
def CLK_HOLD_ACC_ACC : Field := ⟨256, 0, 64, .ro, fun _ => 0, fun _ => true, false⟩
def CLK_PAUSE_ACC_ACC : Field := ⟨320, 0, 64, .ro, fun _ => 0, fun _ => true, false⟩
def CLK_TM_CTL_ROLE : Field := ⟨384, 0, 2, .rw, fun _ => 0, fun v => v ≠ 3, false⟩
def CLK_TM_CTL_EPOCH : Field := ⟨392, 8, 8, .ro, fun _ => 0, fun _ => true, false⟩
def CLK_TM_CTL_BCN_PER : Field := ⟨400, 16, 16, .rw, fun _ => 0x100, fun v => v ≠ 0, false⟩
def CLK_TM_CTL_LOSS_LIM : Field := ⟨416, 32, 8, .rw, fun _ => 0x10, fun v => v ≠ 0, false⟩
def CLK_SKEW_OFFSET : Field := ⟨448, 0, 32, .ro, fun _ => 0, fun _ => true, false⟩
def CLK_SKEW_SRC_LANE : Field := ⟨480, 32, 9, .ro, fun _ => 0, fun _ => true, false⟩
def CLK_SKEW_VALID : Field := ⟨489, 41, 1, .ro, fun _ => 0, fun _ => true, false⟩
def CLK_SKEW_HOPS : Field := ⟨492, 44, 4, .ro, fun _ => 0, fun _ => true, false⟩
def CLK_SKEW_LIM_LIMIT : Field := ⟨512, 0, 16, .rw, fun _ => 0xfa0, fun _ => true, false⟩
def CLK_ADM_LEAD : Field := ⟨576, 0, 32, .rw, fun _ => 0x4e20, fun _ => true, false⟩
def CLK_ADM_HORIZON : Field := ⟨608, 32, 16, .rw, fun _ => 0x1000, fun v => v ≠ 0, false⟩
def CLK_DL_STAT_LATE_FLIT : Field := ⟨640, 0, 1, .w1c, fun _ => 0, fun _ => true, false⟩
def CLK_DL_STAT_LATE_MEM : Field := ⟨641, 1, 1, .w1c, fun _ => 0, fun _ => true, false⟩
def CLK_DL_STAT_LATE_SERVICE : Field := ⟨642, 2, 1, .w1c, fun _ => 0, fun _ => true, false⟩
def CLK_DL_STAT_LATE_BOUNDARY : Field := ⟨643, 3, 1, .w1c, fun _ => 0, fun _ => true, false⟩
def CLK_DL_STAT_LATE_HOST : Field := ⟨644, 4, 1, .w1c, fun _ => 0, fun _ => true, false⟩
def CLK_DL_STAT_SYNC_SKEW : Field := ⟨645, 5, 1, .w1c, fun _ => 0, fun _ => true, false⟩
def CLK_DL_STAT_BCN_LOST : Field := ⟨646, 6, 1, .w1c, fun _ => 0, fun _ => true, false⟩
def CLK_DL_STAT_DL_REPEAT : Field := ⟨647, 7, 1, .w1c, fun _ => 0, fun _ => true, false⟩
def CLK_DL_STAT_COUNT : Field := ⟨672, 32, 32, .rw, fun _ => 0, fun _ => true, false⟩
def CLK_GEN_CTL_REFFLT : Field := ⟨704, 0, 16, .rw, fun _ => 0x40, fun v => 16 ≤ v, false⟩
def CLK_GEN_STAT_LOCK : Field := ⟨768, 0, 1, .ro, fun _ => 0, fun _ => true, false⟩
def CLK_GEN_STAT_ROOT48 : Field := ⟨769, 1, 1, .ro, fun _ => 0, fun _ => true, false⟩
def CLK_GEN_STAT_LOL : Field := ⟨770, 2, 1, .w1c, fun _ => 0, fun _ => true, false⟩
def CLK_GEN_STAT_REFLOSS : Field := ⟨771, 3, 1, .w1c, fun _ => 0, fun _ => true, false⟩
def CLK_GEN_STAT_LOLCNT : Field := ⟨784, 16, 16, .rw, fun _ => 0, fun _ => true, false⟩
def CKP_CTL_HOLDOFF : Field := ⟨832, 0, 1, .rw, fun _ => 0, fun _ => true, false⟩
def CKP_CTL_REQHOLD : Field := ⟨833, 1, 1, .wo, fun _ => 0, fun _ => true, false⟩
def CKP_CTL_GO : Field := ⟨834, 2, 1, .wo, fun _ => 0, fun _ => true, false⟩
def CKP_CTL_SWACK : Field := ⟨835, 3, 1, .w1s, fun _ => 0, fun _ => true, false⟩
def CKP_CTL_ADOPT : Field := ⟨836, 4, 1, .wo, fun _ => 0, fun _ => true, false⟩
def CKP_CTL_RESTORE : Field := ⟨837, 5, 1, .wo, fun _ => 0, fun _ => true, false⟩
def CKP_POL_N : Field := ⟨896, 0, 32, .rw, fun _ => 0xb4, fun _ => true, false⟩
def CKP_POL_JLIM : Field := ⟨928, 32, 20, .rw, fun _ => 0xc0000, fun v => v ≠ 0 && v ≤ 0xC0000, false⟩
def CKP_POL_SWWAIT : Field := ⟨948, 52, 1, .rw, fun _ => 0, fun _ => true, false⟩
def CKP_POL_DONEWAIT : Field := ⟨949, 53, 10, .rw, fun _ => 0x10, fun v => v ≠ 0, false⟩
def CKP_HOLDAT_STROKE : Field := ⟨960, 0, 64, .rw, fun _ => 0, fun _ => true, false⟩
def CKP_STAT_LASTSLOT : Field := ⟨1024, 0, 1, .ro, fun _ => 0, fun _ => true, false⟩
def CKP_STAT_PENDING : Field := ⟨1025, 1, 1, .ro, fun _ => 0, fun _ => true, false⟩
def CKP_STAT_REPLAY : Field := ⟨1026, 2, 1, .ro, fun _ => 0, fun _ => true, false⟩
def CKP_STAT_CKPFAIL : Field := ⟨1027, 3, 1, .w1c, fun _ => 0, fun _ => true, false⟩
def CKP_STAT_DIVERGE : Field := ⟨1028, 4, 1, .w1c, fun _ => 0, fun _ => true, false⟩
def CKP_STAT_JFULL : Field := ⟨1029, 5, 1, .w1c, fun _ => 0, fun _ => true, false⟩
def CKP_STAT_LOGFULL : Field := ⟨1030, 6, 1, .w1c, fun _ => 0, fun _ => true, false⟩
def CKP_STAT_LOST : Field := ⟨1031, 7, 1, .w1c, fun _ => 0, fun _ => true, false⟩
def CKP_STAT_PREPWAIT : Field := ⟨1032, 8, 1, .w1c, fun _ => 0, fun _ => true, false⟩
def CKP_LAST_STROKE : Field := ⟨1088, 0, 64, .ro, fun _ => 0, fun _ => true, false⟩
def CKP_HWM_STROKE : Field := ⟨1152, 0, 64, .ro, fun _ => 0, fun _ => true, false⟩
def CKP_TIME_LASTPAUSE : Field := ⟨1216, 0, 32, .ro, fun _ => 0, fun _ => true, false⟩
def CKP_TIME_LASTINT : Field := ⟨1248, 32, 32, .ro, fun _ => 0, fun _ => true, false⟩
def CKP_FENCE_LEAD : Field := ⟨1280, 0, 32, .rw, fun _ => 0x4000, fun _ => true, false⟩
def CKP_FENCE_MISCMP : Field := ⟨1312, 32, 32, .rw, fun _ => 0, fun _ => true, false⟩
def CKP_AREA_BASE : Field := ⟨1375, 31, 15, .rw, fun i => (i * 0x900000000 + 0x880000000) / 2 ^ 31, fun _ => true, false⟩
def CKP_FILL_JENT : Field := ⟨1408, 0, 24, .ro, fun _ => 0, fun _ => true, false⟩
def CKP_FILL_INREC : Field := ⟨1432, 24, 20, .ro, fun _ => 0, fun _ => true, false⟩
def CKP_FILL_OUTREC : Field := ⟨1452, 44, 20, .ro, fun _ => 0, fun _ => true, false⟩
def MGT_STAT_LOADFOREIGN : Field := ⟨1472, 0, 1, .w1c, fun _ => 0, fun _ => true, false⟩
def MGT_STAT_PERSISTERR : Field := ⟨1473, 1, 1, .w1c, fun _ => 0, fun _ => true, false⟩
def MGT_STAT_NODEDUP : Field := ⟨1474, 2, 1, .w1c, fun _ => 0, fun _ => true, false⟩
def MGT_STAT_EMCYOVF : Field := ⟨1475, 3, 1, .w1c, fun _ => 0, fun _ => true, false⟩
def MGT_STAT_DICTDROP : Field := ⟨1476, 4, 1, .w1c, fun _ => 0, fun _ => true, false⟩
def MGT_STAT_NODE : Field := ⟨1480, 8, 7, .ro, fun _ => 0, fun _ => true, false⟩
def MGT_STAT_CLAIMING : Field := ⟨1487, 15, 1, .ro, fun _ => 0, fun _ => true, false⟩
def MGT_CAN_STATE : Field := ⟨1536, 0, 2, .ro, fun _ => 3, fun _ => true, false⟩
def MGT_CAN_TEC : Field := ⟨1544, 8, 8, .ro, fun _ => 0, fun _ => true, false⟩
def MGT_CAN_REC : Field := ⟨1552, 16, 8, .ro, fun _ => 0, fun _ => true, false⟩
def MGT_CAN_BUSOFF : Field := ⟨1560, 24, 1, .w1c, fun _ => 0, fun _ => true, false⟩
def MGT_CAN_PASSIVE : Field := ⟨1561, 25, 1, .w1c, fun _ => 0, fun _ => true, false⟩
def MGT_CAN_RXIGN : Field := ⟨1562, 26, 1, .w1c, fun _ => 0, fun _ => true, false⟩
def MGT_CAN_REQDROP : Field := ⟨1563, 27, 1, .w1c, fun _ => 0, fun _ => true, false⟩
def MGT_LMBX_GO : Field := ⟨1600, 0, 1, .wo, fun _ => 0, fun _ => true, false⟩
def MGT_LMBX_BUSY : Field := ⟨1601, 1, 1, .ro, fun _ => 0, fun _ => true, false⟩
def MGT_LMBX_DONE : Field := ⟨1602, 2, 1, .w1c, fun _ => 0, fun _ => true, false⟩
def MGT_LMBX_ERR : Field := ⟨1603, 3, 1, .w1c, fun _ => 0, fun _ => true, false⟩
def MGT_LMBX_REQLEN : Field := ⟨1604, 4, 9, .rw, fun _ => 0, fun _ => true, false⟩
def MGT_LMBX_RSPLEN : Field := ⟨1613, 13, 9, .ro, fun _ => 0, fun _ => true, false⟩
def MGT_LMBX_BUF : Field := ⟨1632, 32, 9, .rw, fun _ => 0, fun _ => true, false⟩
def MGT_MODE_MODE : Field := ⟨1664, 0, 3, .ro, fun _ => 1, fun _ => true, false⟩
def MGT_MODE_ARMED : Field := ⟨1667, 3, 1, .ro, fun _ => 0, fun _ => true, false⟩
def MGT_MODE_MISSED : Field := ⟨1668, 4, 1, .w1c, fun _ => 0, fun _ => true, false⟩
def MGT_MODE_PREV : Field := ⟨1669, 5, 3, .ro, fun _ => 0, fun _ => true, false⟩
def MGT_MODE_LEAD : Field := ⟨1696, 32, 32, .rw, fun _ => 0x3d0900, fun v => 131072 ≤ v, false⟩
def MGT_FLT_STAT_STORED : Field := ⟨1728, 0, 11, .ro, fun _ => 0, fun _ => true, true⟩
def MGT_FLT_STAT_APEND : Field := ⟨1739, 11, 1, .ro, fun _ => 0, fun _ => true, true⟩
def MGT_FLT_STAT_FPEND : Field := ⟨1740, 12, 1, .ro, fun _ => 0, fun _ => true, true⟩
def MGT_FLT_STAT_HWSRC : Field := ⟨1741, 13, 3, .ro, fun _ => 0, fun _ => true, true⟩
def MGT_FLT_STAT_NEWSEQ : Field := ⟨1760, 32, 32, .ro, fun _ => 0, fun _ => true, true⟩
def MGT_FLT_ACK_SEQ : Field := ⟨1792, 0, 32, .rw, fun _ => 0xffffffff, fun _ => true, true⟩
def MGT_FLT_CTL_AMASK : Field := ⟨1856, 0, 5, .rw, fun _ => 3, fun _ => true, true⟩
def MGT_FLT_CTL_FMASK : Field := ⟨1864, 8, 5, .rw, fun _ => 0xc, fun _ => true, true⟩
def MGT_FLT_LOST_LOSTCNT : Field := ⟨1920, 0, 32, .rw, fun _ => 0, fun _ => true, true⟩
def MGT_FLT_LOST_LOST : Field := ⟨1952, 32, 1, .w1c, fun _ => 0, fun _ => true, true⟩
def MGT_FLT_SEL_SEQ : Field := ⟨1984, 0, 32, .rw, fun _ => 0, fun _ => true, false⟩
def MGT_FLT_SEL_VALID : Field := ⟨2016, 32, 1, .ro, fun _ => 0, fun _ => true, false⟩
def MGT_FLT_REC_BYTES : Field := ⟨2048, 0, 64, .ro, fun _ => 0, fun _ => true, false⟩
def MGT_FLT_SW_DETAIL : Field := ⟨2112, 0, 64, .wo, fun _ => 0, fun _ => true, false⟩
def MGT_LDICT_GO : Field := ⟨2176, 0, 1, .wo, fun _ => 0, fun _ => true, false⟩
def MGT_LDICT_BUSY : Field := ⟨2177, 1, 1, .ro, fun _ => 0, fun _ => true, false⟩
def MGT_LDICT_DONE : Field := ⟨2178, 2, 1, .w1c, fun _ => 0, fun _ => true, false⟩
def MGT_LDICT_ERR : Field := ⟨2179, 3, 1, .w1c, fun _ => 0, fun _ => true, false⟩
def MGT_LDICT_TMO : Field := ⟨2180, 4, 1, .w1c, fun _ => 0, fun _ => true, false⟩
def MGT_LDICT_REQLEN : Field := ⟨2181, 5, 9, .rw, fun _ => 0, fun _ => true, false⟩
def MGT_LDICT_RSPLEN : Field := ⟨2190, 14, 9, .ro, fun _ => 0, fun _ => true, false⟩
def MGT_LDICT_LANE : Field := ⟨2199, 23, 9, .rw, fun _ => 0, fun _ => true, false⟩
def MGT_LDICT_BUF : Field := ⟨2208, 32, 9, .rw, fun _ => 0, fun _ => true, false⟩
def MGT_IMG_ADDR_ADDR : Field := ⟨2243, 3, 43, .rw, fun _ => 0, fun _ => true, false⟩
def MGT_IMG_CTL_APPLY : Field := ⟨2304, 0, 1, .wo, fun _ => 0, fun _ => true, false⟩
def MGT_IMG_CTL_BUSY : Field := ⟨2305, 1, 1, .ro, fun _ => 0, fun _ => true, false⟩
def MGT_IMG_CTL_DONE : Field := ⟨2306, 2, 1, .w1c, fun _ => 0, fun _ => true, false⟩
def MGT_IMG_CTL_ERR : Field := ⟨2307, 3, 1, .w1c, fun _ => 0, fun _ => true, false⟩
def MGT_IMG_CTL_ERRCODE : Field := ⟨2312, 8, 8, .ro, fun _ => 0, fun _ => true, false⟩
def MGT_IMG_CTL_FAILSECT : Field := ⟨2320, 16, 12, .ro, fun _ => 0, fun _ => true, false⟩
def MGT_IMG_CTL_APPLIED : Field := ⟨2336, 32, 32, .ro, fun _ => 0, fun _ => true, false⟩
def MGT_FLCTL_WINSEL : Field := ⟨2368, 0, 1, .ro, fun _ => 0, fun _ => true, true⟩
def MGT_FLCTL_BUSY : Field := ⟨2369, 1, 1, .ro, fun _ => 0, fun _ => true, false⟩
def MGT_FLCTL_ERR : Field := ⟨2370, 2, 1, .w1c, fun _ => 0, fun _ => true, false⟩
def MGT_FLCTL_WPN : Field := ⟨2371, 3, 1, .ro, fun _ => 0, fun _ => true, true⟩
def MGT_FLCTL_BOOTOK : Field := ⟨2372, 4, 2, .ro, fun _ => 0, fun _ => true, true⟩
def MGT_FLCMD_OP : Field := ⟨2432, 0, 2, .rw, fun _ => 0, fun v => v == 1 || v == 2, false⟩
def MGT_FLCMD_DEV : Field := ⟨2434, 2, 1, .rw, fun _ => 0, fun _ => true, false⟩
def MGT_FLCMD_GO : Field := ⟨2435, 3, 1, .wo, fun _ => 0, fun _ => true, false⟩
def MGT_FLCMD_OFFSET : Field := ⟨2440, 8, 20, .rw, fun _ => 0, fun _ => true, false⟩
def MGT_FLCMD_LEN : Field := ⟨2464, 32, 20, .rw, fun _ => 0, fun _ => true, false⟩
def MGT_FLBUF_ADDR : Field := ⟨2499, 3, 43, .rw, fun _ => 0, fun _ => true, false⟩
def FAB_CTL_COMMIT : Field := ⟨2560, 0, 1, .wo, fun _ => 0, fun _ => true, false⟩
def FAB_CTL_BUSY : Field := ⟨2561, 1, 1, .ro, fun _ => 0, fun _ => true, false⟩
def FAB_CTL_ERR : Field := ⟨2562, 2, 1, .w1c, fun _ => 0, fun _ => true, false⟩
def FAB_RSV_PERIOD : Field := ⟨2624, 0, 7, .rw, fun _ => 8, fun v => 2 ≤ v && v ≤ 64, false⟩
def FAB_RSV_PHASE : Field := ⟨2632, 8, 6, .rw, fun _ => 2, fun _ => true, false⟩
def FAB_STAT_COLL : Field := ⟨2688, 0, 1, .w1c, fun _ => 0, fun _ => true, false⟩
def FAB_STAT_COLLREP : Field := ⟨2689, 1, 1, .w1c, fun _ => 0, fun _ => true, false⟩
def FAB_STAT_PTPERR : Field := ⟨2690, 2, 1, .w1c, fun _ => 0, fun _ => true, false⟩
def FAB_STAT_SBPERR : Field := ⟨2691, 3, 1, .w1c, fun _ => 0, fun _ => true, false⟩
def FAB_STAT_DPERR : Field := ⟨2692, 4, 1, .w1c, fun _ => 0, fun _ => true, false⟩
def FAB_STAT_BADENT : Field := ⟨2693, 5, 1, .w1c, fun _ => 0, fun _ => true, false⟩
def FAB_STAT_DUEMISS : Field := ⟨2694, 6, 1, .w1c, fun _ => 0, fun _ => true, false⟩
def FAB_STAT_RSVUSE : Field := ⟨2695, 7, 1, .w1c, fun _ => 0, fun _ => true, false⟩
def FAB_STAT_TRDROP : Field := ⟨2696, 8, 1, .w1c, fun _ => 0, fun _ => true, false⟩
def FAB_STAT_DRAINED : Field := ⟨2720, 32, 4, .ro, fun _ => 0xf, fun _ => true, false⟩
def FAB_COLL_WINPATH : Field := ⟨2752, 0, 17, .ro, fun _ => 0, fun _ => true, false⟩
def FAB_COLL_LOSTPATH : Field := ⟨2769, 17, 17, .ro, fun _ => 0, fun _ => true, false⟩
def FAB_COLL_LOSTCNT : Field := ⟨2786, 34, 4, .ro, fun _ => 0, fun _ => true, false⟩
def FAB_COLL_POINT : Field := ⟨2790, 38, 16, .ro, fun _ => 0, fun _ => true, false⟩
def FAB_COLL_VALID : Field := ⟨2806, 54, 1, .w1c, fun _ => 0, fun _ => true, false⟩
def FAB_COLLT_SCYC : Field := ⟨2816, 0, 16, .ro, fun _ => 0, fun _ => true, false⟩
def FAB_COLLT_STROKE : Field := ⟨2832, 16, 48, .ro, fun _ => 0, fun _ => true, false⟩
def FAB_ERR_KIND : Field := ⟨2880, 0, 4, .ro, fun _ => 0, fun _ => true, false⟩
def FAB_ERR_POINT : Field := ⟨2888, 8, 16, .ro, fun _ => 0, fun _ => true, false⟩
def FAB_ERR_PATH : Field := ⟨2904, 24, 17, .ro, fun _ => 0, fun _ => true, false⟩
def FAB_ERR_SCYC : Field := ⟨2921, 41, 16, .ro, fun _ => 0, fun _ => true, false⟩
def FAB_ERR_VALID : Field := ⟨2937, 57, 1, .w1c, fun _ => 0, fun _ => true, false⟩
def FAB_CNT_COLLCNT : Field := ⟨2944, 0, 32, .rw, fun _ => 0, fun _ => true, false⟩
def FAB_CNT_ERRCNT : Field := ⟨2976, 32, 32, .rw, fun _ => 0, fun _ => true, false⟩
def FAB_UCTL_DRAIN : Field := ⟨3008, 0, 4, .rw, fun _ => 0, fun _ => true, false⟩
def FAB_UCTL_STARVE : Field := ⟨3024, 16, 16, .rw, fun _ => 0x400, fun v => v ≠ 0, false⟩
def FAB_XSPARE_BRO_L0 : Field := ⟨3072, 0, 5, .rw, fun _ => 0, fun _ => true, true⟩
def FAB_XSPARE_BRO_E0 : Field := ⟨3077, 5, 1, .rw, fun _ => 0, fun _ => true, true⟩
def FAB_XSPARE_BRO_L1 : Field := ⟨3080, 8, 5, .rw, fun _ => 0, fun _ => true, true⟩
def FAB_XSPARE_BRO_E1 : Field := ⟨3085, 13, 1, .rw, fun _ => 0, fun _ => true, true⟩
def FAB_XSPARE_BRI_L0 : Field := ⟨3088, 16, 5, .rw, fun _ => 0, fun _ => true, true⟩
def FAB_XSPARE_BRI_E0 : Field := ⟨3093, 21, 1, .rw, fun _ => 0, fun _ => true, true⟩
def FAB_XSPARE_BRI_L1 : Field := ⟨3096, 24, 5, .rw, fun _ => 0, fun _ => true, true⟩
def FAB_XSPARE_BRI_E1 : Field := ⟨3101, 29, 1, .rw, fun _ => 0, fun _ => true, true⟩
def FAB_XSPARE_SPO_L : Field := ⟨3104, 32, 3, .rw, fun _ => 0, fun _ => true, true⟩
def FAB_XSPARE_SPO_E : Field := ⟨3107, 35, 1, .rw, fun _ => 0, fun _ => true, true⟩
def FAB_XSPARE_SPI_L : Field := ⟨3108, 36, 3, .rw, fun _ => 0, fun _ => true, true⟩
def FAB_XSPARE_SPI_E : Field := ⟨3111, 39, 1, .rw, fun _ => 0, fun _ => true, true⟩
def LEC_SENSE_SENSE : Field := ⟨3136, 0, 3, .rw, fun i => if (i < 4096 && i % 512 < 0x100) || (0x1130 ≤ i && i < 0x1140) then 2 else 0, fun v => v ≤ 4, false⟩
def LEC_ROUTE_LINE : Field := ⟨3200, 0, 6, .rw, fun i => i % 512 / 8, fun _ => true, false⟩
def LEC_CNT_CNT : Field := ⟨3264, 0, 8, .rw, fun _ => 0, fun _ => true, false⟩
def LEC_EN_EN : Field := ⟨3328, 0, 1, .rw, fun _ => 0, fun _ => true, false⟩
def LEC_PEND_PEND : Field := ⟨3392, 0, 1, .rw, fun _ => 0, fun _ => true, false⟩
def LEC_PCLR_PCLR : Field := ⟨3456, 0, 1, .w1c, fun _ => 0, fun _ => true, false⟩
def LEC_RAW_RAW : Field := ⟨3520, 0, 1, .ro, fun _ => 0, fun _ => true, false⟩
def LEC_LINE_LINES : Field := ⟨3584, 0, 64, .ro, fun _ => 0, fun _ => true, false⟩
def LEC_FIND_LINE : Field := ⟨3648, 0, 6, .rw, fun _ => 0, fun _ => true, false⟩
def LEC_FIND_SRC : Field := ⟨3664, 16, 9, .ro, fun _ => 0, fun _ => true, false⟩
def LEC_FIND_FOUND : Field := ⟨3673, 25, 1, .ro, fun _ => 0, fun _ => true, false⟩
def LEC_TRQV_VALUE : Field := ⟨3712, 0, 64, .ro, fun _ => 0, fun _ => true, false⟩
def LEC_TRQA_CODE : Field := ⟨3776, 0, 8, .ro, fun _ => 0, fun _ => true, false⟩
def LEC_TRQA_LCELL : Field := ⟨3784, 8, 10, .ro, fun _ => 0, fun _ => true, false⟩
def LEC_TRQA_SCYC : Field := ⟨3794, 18, 16, .ro, fun _ => 0, fun _ => true, false⟩
def LEC_TRQA_VALID : Field := ⟨3810, 34, 1, .ro, fun _ => 0, fun _ => true, false⟩
def LEC_TRQS_VALUE : Field := ⟨3840, 0, 64, .ro, fun _ => 0, fun _ => true, false⟩
def LEC_TRQCTL_POP : Field := ⟨3904, 0, 1, .wo, fun _ => 0, fun _ => true, false⟩
def LEC_TRQCTL_OVF : Field := ⟨3905, 1, 1, .w1c, fun _ => 0, fun _ => true, false⟩
def LEC_TRQCTL_COUNT : Field := ⟨3912, 8, 7, .ro, fun _ => 0, fun _ => true, false⟩
def LEC_SWEV_EVENT : Field := ⟨3968, 0, 16, .w1s, fun _ => 0, fun _ => true, false⟩
def GEC_IN_PRIO : Field := ⟨4032, 0, 4, .rw, fun _ => 0, fun _ => true, false⟩
def GEC_IN_TARGET : Field := ⟨4040, 8, 5, .rw, fun _ => 0, fun v => v < 20, false⟩
def GEC_IN_CUR : Field := ⟨4048, 16, 5, .ro, fun _ => 0x1f, fun _ => true, false⟩
def GEC_IN_CNT : Field := ⟨4056, 24, 8, .rw, fun _ => 0, fun _ => true, false⟩
def GEC_IN_LEVEL : Field := ⟨4064, 32, 1, .ro, fun _ => 0, fun _ => true, false⟩
def GEC_EN_EN : Field := ⟨4096, 0, 1, .rw, fun _ => 0, fun _ => true, false⟩
def GEC_LVL_LVL : Field := ⟨4160, 0, 1, .ro, fun _ => 0, fun _ => true, false⟩
def GEC_FALLBACK_MASK : Field := ⟨4224, 0, 20, .rw, fun _ => 0xf, fun _ => true, false⟩
def GEC_FALLBACK_RRPTR : Field := ⟨4244, 20, 5, .ro, fun _ => 0x13, fun _ => true, false⟩
def GEC_STAT_ORPHAN : Field := ⟨4288, 0, 1, .w1c, fun _ => 0, fun _ => true, false⟩
def GEC_STAT_ORPHIN : Field := ⟨4289, 1, 10, .ro, fun _ => 0, fun _ => true, false⟩
def SPT_SEL_INPUT : Field := ⟨4352, 0, 10, .rw, fun _ => 0, fun v => v ≤ 575, false⟩
def SPT_SEL_EN : Field := ⟨4367, 15, 1, .rw, fun _ => 0, fun _ => true, false⟩
def SPT_CTL_PINEN : Field := ⟨4416, 0, 1, .rw, fun _ => 1, fun _ => true, false⟩
def SPT_CTL_CAN0EN : Field := ⟨4417, 1, 1, .rw, fun _ => 0, fun _ => true, false⟩
def SPT_CTL_CAN1EN : Field := ⟨4418, 2, 1, .rw, fun _ => 0, fun _ => true, false⟩
def SPT_CAUSE_SLOT : Field := ⟨4480, 0, 32, .w1c, fun _ => 0, fun _ => true, true⟩
def SPT_CAUSE_PIN : Field := ⟨4512, 32, 1, .w1c, fun _ => 0, fun _ => true, true⟩
def SPT_CAUSE_CAN0 : Field := ⟨4513, 33, 1, .w1c, fun _ => 0, fun _ => true, true⟩
def SPT_CAUSE_CAN1 : Field := ⟨4514, 34, 1, .w1c, fun _ => 0, fun _ => true, true⟩
def SPT_WAKEPRF_PRF : Field := ⟨4544, 0, 2, .ro, fun _ => 0, fun _ => true, true⟩
def PWR_CMD_DOMAIN : Field := ⟨4608, 0, 10, .rw, fun _ => 0, fun v => v ≤ 765, false⟩
def PWR_CMD_ON : Field := ⟨4618, 10, 1, .rw, fun _ => 0, fun _ => true, false⟩
def PWR_CMD_GO : Field := ⟨4619, 11, 1, .wo, fun _ => 0, fun _ => true, false⟩
def PWR_STAT_BUSY : Field := ⟨4672, 0, 1, .ro, fun _ => 0, fun _ => true, false⟩
def PWR_STAT_ERR : Field := ⟨4673, 1, 1, .w1c, fun _ => 0, fun _ => true, false⟩
def PWR_STAT_ERRCODE : Field := ⟨4674, 2, 3, .ro, fun _ => 0, fun _ => true, false⟩
def PWR_STAT_CHG : Field := ⟨4677, 5, 1, .w1c, fun _ => 0, fun _ => true, false⟩
def PWR_STAT_DOMFAULT : Field := ⟨4678, 6, 1, .w1c, fun _ => 0, fun _ => true, false⟩
def PWR_STAT_LASTDOM : Field := ⟨4688, 16, 10, .ro, fun _ => 0, fun _ => true, false⟩
def PWR_ON_MAP : Field := ⟨4736, 0, 64, .ro, fun _ => 0, fun _ => true, false⟩
def PWR_FAIL_MAP : Field := ⟨4800, 0, 64, .ro, fun _ => 0, fun _ => true, false⟩
def PWR_THERM_TWARN : Field := ⟨4864, 0, 8, .rw, fun _ => 0x5f, fun _ => true, false⟩
def PWR_THERM_THOT : Field := ⟨4872, 8, 8, .rw, fun _ => 0x66, fun v => v ≤ 105, false⟩
def PWR_THERM_HWARN : Field := ⟨4880, 16, 8, .rw, fun _ => 0x55, fun _ => true, false⟩
def PWR_THERM_HHOT : Field := ⟨4888, 24, 8, .rw, fun _ => 0x5f, fun v => v ≤ 100, false⟩
def PWR_THERM_HYST : Field := ⟨4896, 32, 4, .rw, fun _ => 5, fun v => v ≠ 0, false⟩
def PWR_THERM_WARN : Field := ⟨4900, 36, 1, .w1c, fun _ => 0, fun _ => true, false⟩
def PWR_THERM_EMG : Field := ⟨4901, 37, 1, .ro, fun _ => 0, fun _ => true, false⟩
def PWR_THERM_EMGEV : Field := ⟨4902, 38, 1, .w1c, fun _ => 0, fun _ => true, false⟩
def PWR_THERM_MAXT : Field := ⟨4904, 40, 8, .ro, fun _ => 0, fun _ => true, false⟩
def PWR_THERM_MAXH : Field := ⟨4912, 48, 8, .ro, fun _ => 0, fun _ => true, false⟩
def PWR_SUPPLY_WARN : Field := ⟨4928, 0, 15, .w1c, fun _ => 0, fun _ => true, false⟩
def PWR_SUPPLY_EMG : Field := ⟨4944, 16, 15, .ro, fun _ => 0, fun _ => true, false⟩
def PWR_SUPPLY_EMGEV : Field := ⟨4959, 31, 1, .w1c, fun _ => 0, fun _ => true, false⟩
def PWR_PMBCMD_ADDR : Field := ⟨4992, 0, 7, .rw, fun _ => 0x40, fun _ => true, false⟩
def PWR_PMBCMD_CODE : Field := ⟨5000, 8, 8, .rw, fun _ => 0, fun _ => true, false⟩
def PWR_PMBCMD_LEN : Field := ⟨5008, 16, 2, .rw, fun _ => 0, fun v => v ≠ 3, false⟩
def PWR_PMBCMD_WRITE : Field := ⟨5010, 18, 1, .rw, fun _ => 0, fun _ => true, false⟩
def PWR_PMBCMD_GO : Field := ⟨5011, 19, 1, .wo, fun _ => 0, fun _ => true, false⟩
def PWR_PMBCMD_BUSY : Field := ⟨5012, 20, 1, .ro, fun _ => 0, fun _ => true, false⟩
def PWR_PMBCMD_NAK : Field := ⟨5013, 21, 1, .w1c, fun _ => 0, fun _ => true, false⟩
def PWR_PMBCMD_DONE : Field := ⟨5014, 22, 1, .w1c, fun _ => 0, fun _ => true, false⟩
def PWR_PMBDATA_DATA : Field := ⟨5056, 0, 16, .rw, fun _ => 0, fun _ => true, false⟩
def CPO_ID_CORE : Field := ⟨5120, 0, 5, .ro, fun i => i, fun _ => true, false⟩
def CPO_ID_TILE : Field := ⟨5125, 5, 3, .ro, fun i => if i < 4 then 0 else (i - 4) / 2, fun _ => true, false⟩
def CPO_ID_HUB : Field := ⟨5128, 8, 1, .ro, fun i => if i < 4 then 1 else 0, fun _ => true, false⟩
def CPO_MODE_DET : Field := ⟨5184, 0, 1, .rw, fun _ => 0, fun _ => true, false⟩
def CPO_MODE_DETSTRICT : Field := ⟨5185, 1, 1, .rw, fun _ => 0, fun _ => true, false⟩
def CPO_MODE_BPOFF : Field := ⟨5186, 2, 1, .rw, fun _ => 0, fun _ => true, false⟩
def CPO_CFG_RSOVF : Field := ⟨5248, 0, 1, .rw, fun _ => 0, fun _ => true, false⟩
def CPO_XVBAR_BASE : Field := ⟨5323, 11, 37, .rw, fun _ => 0, fun _ => true, false⟩
def CPO_XINFO_CODE : Field := ⟨5376, 0, 5, .ro, fun _ => 0, fun _ => true, false⟩
def CPO_XINFO_SLOT : Field := ⟨5381, 5, 1, .ro, fun _ => 0, fun _ => true, false⟩
def CPO_XINFO_FETCH : Field := ⟨5382, 6, 1, .ro, fun _ => 0, fun _ => true, false⟩
def CPO_XINFO_WRITE : Field := ⟨5383, 7, 1, .ro, fun _ => 0, fun _ => true, false⟩
def CPO_XINFO_ARG : Field := ⟨5384, 8, 6, .ro, fun _ => 0, fun _ => true, false⟩
def CPO_XINFO_DBL : Field := ⟨5390, 14, 1, .w1c, fun _ => 0, fun _ => true, false⟩
def CPO_XADDR_ADDR : Field := ⟨5440, 0, 64, .rw, fun _ => 0, fun _ => true, false⟩
def CPO_XTGT_ADDR : Field := ⟨5504, 0, 64, .rw, fun _ => 0, fun _ => true, false⟩
def CPO_RSSTAT_COUNT : Field := ⟨5568, 0, 5, .ro, fun _ => 0, fun _ => true, false⟩
def CPO_RSSTAT_WRAP : Field := ⟨5573, 5, 1, .w1c, fun _ => 0, fun _ => true, false⟩
def CPO_PERR_UNIT : Field := ⟨5632, 0, 2, .ro, fun _ => 0, fun _ => true, false⟩
def CPO_PERR_COUNT : Field := ⟨5640, 8, 8, .rw, fun _ => 0, fun _ => true, false⟩
def CPO_PERR_VALID : Field := ⟨5648, 16, 1, .w1c, fun _ => 0, fun _ => true, false⟩
def CPO_PERR_ADDR : Field := ⟨5649, 17, 47, .ro, fun _ => 0, fun _ => true, false⟩
def CPO_CYC_COUNT : Field := ⟨5696, 0, 64, .rw, fun _ => 0, fun _ => true, false⟩
def CPO_GRP_COUNT : Field := ⟨5760, 0, 64, .rw, fun _ => 0, fun _ => true, false⟩
def CPO_MISS_IMISS : Field := ⟨5824, 0, 32, .rw, fun _ => 0, fun _ => true, false⟩
def CPO_MISS_DMISS : Field := ⟨5856, 32, 32, .rw, fun _ => 0, fun _ => true, false⟩
def CPO_SVC_RQ_PROD : Field := ⟨5888, 0, 8, .ro, fun _ => 0, fun _ => true, false⟩
def CPO_SVC_RQ_CONS : Field := ⟨5896, 8, 8, .rw, fun _ => 0, fun _ => true, false⟩
def CPO_SVC_AH_TILE : Field := ⟨5952, 0, 3, .rw, fun _ => 0, fun _ => true, false⟩
def CPO_SVC_AH_LCELL : Field := ⟨5955, 3, 10, .rw, fun _ => 0, fun _ => true, false⟩
def CPO_SVC_AH_ASLOT : Field := ⟨5965, 13, 4, .rw, fun _ => 0, fun _ => true, false⟩
def CPO_SVC_AD_VALUE : Field := ⟨6016, 0, 64, .wo, fun _ => 0, fun _ => true, false⟩
def CPO_RSTPC_PC : Field := ⟨6081, 1, 47, .rw, fun _ => 0x3F0000000000 / 2, fun _ => true, true⟩
def MMU_CTL_EN : Field := ⟨6144, 0, 1, .rw, fun _ => 0, fun _ => true, false⟩
def MMU_CTL_SPECWALK : Field := ⟨6145, 1, 1, .rw, fun _ => 1, fun _ => true, false⟩
def MMU_ASID_ASID : Field := ⟨6208, 0, 12, .rw, fun _ => 0, fun _ => true, false⟩
def MMU_TTB0_BASE : Field := ⟨6284, 12, 34, .rw, fun _ => 0, fun _ => true, false⟩
def MMU_TTB1_BASE : Field := ⟨6348, 12, 34, .rw, fun _ => 0, fun _ => true, false⟩
def MMU_FSR_CAUSE : Field := ⟨6400, 0, 4, .ro, fun _ => 0, fun _ => true, false⟩
def MMU_FSR_LEVEL : Field := ⟨6404, 4, 2, .ro, fun _ => 0, fun _ => true, false⟩
def MMU_FSR_WRITE : Field := ⟨6406, 6, 1, .ro, fun _ => 0, fun _ => true, false⟩
def MMU_FSR_FETCH : Field := ⟨6407, 7, 1, .ro, fun _ => 0, fun _ => true, false⟩
def MMU_FSR_USER : Field := ⟨6408, 8, 1, .ro, fun _ => 0, fun _ => true, false⟩
def MMU_FSR_VALID : Field := ⟨6409, 9, 1, .w1c, fun _ => 0, fun _ => true, false⟩
def MMU_FSR_ASID : Field := ⟨6412, 12, 12, .ro, fun _ => 0, fun _ => true, false⟩
def MMU_FPA_PA : Field := ⟨6464, 0, 46, .ro, fun _ => 0, fun _ => true, false⟩
def MMU_LKVA_ASID : Field := ⟨6528, 0, 12, .rw, fun _ => 0, fun _ => true, false⟩
def MMU_LKVA_SIZE : Field := ⟨6540, 12, 2, .rw, fun _ => 0, fun v => v ≠ 3, false⟩
def MMU_LKVA_G : Field := ⟨6542, 14, 1, .rw, fun _ => 0, fun _ => true, false⟩
def MMU_LKVA_VPN : Field := ⟨6544, 16, 36, .rw, fun _ => 0, fun _ => true, false⟩
def MMU_LKPA_DESC : Field := ⟨6592, 0, 64, .rw, fun _ => 0, fun _ => true, false⟩
def MMU_LKCMD_IDX : Field := ⟨6656, 0, 3, .rw, fun _ => 0, fun _ => true, false⟩
def MMU_LKCMD_WRITE : Field := ⟨6659, 3, 1, .wo, fun _ => 0, fun _ => true, false⟩
def MMU_LKCMD_UNLOCK : Field := ⟨6660, 4, 1, .wo, fun _ => 0, fun _ => true, false⟩
def MMU_LKCMD_READ : Field := ⟨6661, 5, 1, .wo, fun _ => 0, fun _ => true, false⟩
def MMU_LKCMD_LOCKED : Field := ⟨6664, 8, 8, .ro, fun _ => 0, fun _ => true, false⟩
def MMU_LKCMD_ERR : Field := ⟨6672, 16, 1, .w1c, fun _ => 0, fun _ => true, false⟩
def MMU_SYNC_MISSING : Field := ⟨6720, 0, 20, .ro, fun _ => 0, fun _ => true, false⟩
def MMU_SYNC_TIMEOUT : Field := ⟨6740, 20, 1, .w1c, fun _ => 0, fun _ => true, false⟩
def MMU_SYNC_OUTST : Field := ⟨6741, 21, 3, .ro, fun _ => 0, fun _ => true, false⟩
def MMU_SYNC_PENDING : Field := ⟨6744, 24, 1, .ro, fun _ => 0, fun _ => true, false⟩
def MMU_STAT_LKOVL : Field := ⟨6784, 0, 1, .w1c, fun _ => 0, fun _ => true, false⟩
def MMU_STAT_SPECERR : Field := ⟨6785, 1, 1, .w1c, fun _ => 0, fun _ => true, false⟩
def MMU_CNT_L1MISS : Field := ⟨6848, 0, 32, .rw, fun _ => 0, fun _ => true, false⟩
def MMU_CNT_WALKS : Field := ⟨6880, 32, 32, .rw, fun _ => 0, fun _ => true, false⟩
def MMU_L2CNT_L2MISS : Field := ⟨6912, 0, 32, .rw, fun _ => 0, fun _ => true, false⟩
def MMU_L2CNT_INVRX : Field := ⟨6944, 32, 32, .rw, fun _ => 0, fun _ => true, false⟩
def CPO_EVT_CTL_ACCEPT : Field := ⟨6976, 0, 1, .rw, fun _ => 0, fun _ => true, false⟩
def CPO_EVT_CLAIM_INPUT : Field := ⟨7040, 0, 10, .ro, fun _ => 0, fun _ => true, false⟩
def CPO_EVT_CLAIM_PRIO : Field := ⟨7052, 12, 4, .ro, fun _ => 0, fun _ => true, false⟩
def CPO_EVT_CLAIM_VALID : Field := ⟨7056, 16, 1, .w1c, fun _ => 0, fun _ => true, false⟩
def CPO_EVT_TOP_INPUT : Field := ⟨7104, 0, 10, .ro, fun _ => 0, fun _ => true, false⟩
def CPO_EVT_TOP_PRIO : Field := ⟨7116, 12, 4, .ro, fun _ => 0, fun _ => true, false⟩
def CPO_EVT_TOP_VALID : Field := ⟨7120, 16, 1, .ro, fun _ => 0, fun _ => true, false⟩
def CPO_EVT_STAT_REPL : Field := ⟨7168, 0, 1, .w1c, fun _ => 0, fun _ => true, false⟩
def CPO_EVT_STAT_LATE : Field := ⟨7169, 1, 1, .w1c, fun _ => 0, fun _ => true, false⟩
def CPO_EVT_STAT_CHAIN : Field := ⟨7170, 2, 1, .w1c, fun _ => 0, fun _ => true, false⟩
def CPO_EVT_STAT_ENTRIES : Field := ⟨7200, 32, 32, .rw, fun _ => 0, fun _ => true, false⟩
def CVU_CTL_RELEASE : Field := ⟨7232, 0, 1, .wo, fun _ => 0, fun _ => true, false⟩
def CVU_CTL_WAKE : Field := ⟨7233, 1, 1, .wo, fun _ => 0, fun _ => true, false⟩
def CVU_VL_VL : Field := ⟨7296, 0, 9, .rw, fun _ => 0x100, fun v => v ≤ 256, false⟩
def CVU_FAULT_ELEM : Field := ⟨7360, 0, 8, .ro, fun _ => 0, fun _ => true, false⟩
def CVU_FAULT_CAUSE : Field := ⟨7368, 8, 3, .ro, fun _ => 0, fun _ => true, false⟩
def CVU_FAULT_WRITE : Field := ⟨7371, 11, 1, .ro, fun _ => 0, fun _ => true, false⟩
def CVU_FAULT_VALID : Field := ⟨7372, 12, 1, .w1c, fun _ => 0, fun _ => true, false⟩
def CVU_IDLE_RET : Field := ⟨7424, 0, 16, .rw, fun _ => 0x400, fun _ => true, false⟩
def CVU_IDLE_OFF : Field := ⟨7440, 16, 16, .rw, fun _ => 0x2000, fun _ => true, false⟩
def CVU_STAT_PSTATE : Field := ⟨7488, 0, 2, .ro, fun _ => 2, fun _ => true, false⟩
def CVU_STAT_LIVE : Field := ⟨7490, 2, 1, .ro, fun _ => 0, fun _ => true, false⟩
def CVU_STAT_LOST : Field := ⟨7491, 3, 1, .w1c, fun _ => 0, fun _ => true, false⟩
def CVU_STAT_WAKING : Field := ⟨7492, 4, 1, .ro, fun _ => 0, fun _ => true, false⟩
def CVU_WAKES_RETW : Field := ⟨7552, 0, 32, .rw, fun _ => 0, fun _ => true, false⟩
def CVU_WAKES_OFFW : Field := ⟨7584, 32, 32, .rw, fun _ => 0, fun _ => true, false⟩
def CPO_SVC_MARGIN_MIN : Field := ⟨7616, 0, 16, .ro, fun _ => 0xffff, fun _ => true, false⟩
def CPO_SVC_MARGIN_PREV_MIN : Field := ⟨7632, 16, 16, .ro, fun _ => 0xffff, fun _ => true, false⟩
def CPO_SVC_MARGIN_THRESH : Field := ⟨7648, 32, 16, .rw, fun _ => 0x10, fun _ => true, false⟩
def CPO_SVC_MARGIN_WARN : Field := ⟨7664, 48, 1, .w1c, fun _ => 0, fun _ => true, false⟩
def PCI_CTL_FVEC : Field := ⟨7680, 0, 11, .rw, fun _ => 0, fun _ => true, false⟩
def PCI_CTL_FVEN : Field := ⟨7691, 11, 1, .rw, fun _ => 0, fun _ => true, false⟩
def PCI_CTL_PENDLOAD : Field := ⟨7692, 12, 1, .wo, fun _ => 0, fun _ => true, false⟩
def PCI_STAT_BUSERR : Field := ⟨7744, 0, 1, .w1c, fun _ => 0, fun _ => true, false⟩
def PCI_STAT_OUTLOST : Field := ⟨7745, 1, 1, .w1c, fun _ => 0, fun _ => true, false⟩
def PCI_STAT_PENDERR : Field := ⟨7746, 2, 1, .w1c, fun _ => 0, fun _ => true, false⟩
def PCI_STAT_LINKCHG : Field := ⟨7747, 3, 1, .w1c, fun _ => 0, fun _ => true, false⟩
def PCI_STAT_FLR : Field := ⟨7748, 4, 1, .w1c, fun _ => 0, fun _ => true, false⟩
def PCI_STAT_LWIDTH : Field := ⟨7760, 16, 5, .ro, fun _ => 0, fun _ => true, false⟩
def PCI_STAT_LRATE : Field := ⟨7765, 21, 3, .ro, fun _ => 0, fun _ => true, false⟩
def PCI_ERRADDR_ADDR : Field := ⟨7808, 0, 46, .ro, fun _ => 0, fun _ => true, false⟩
def PCI_ERRADDR_WRITE : Field := ⟨7854, 46, 1, .ro, fun _ => 0, fun _ => true, false⟩
def PCI_ERRADDR_VALID : Field := ⟨7855, 47, 1, .w1c, fun _ => 0, fun _ => true, false⟩
def PCI_APBASE_BASE : Field := ⟨7897, 25, 21, .rw, fun _ => 0, fun _ => true, false⟩
def PCI_B2BASE_BASE : Field := ⟨7966, 30, 16, .rw, fun _ => 0, fun _ => true, false⟩
def PCI_PENDSTAT_ADMSTORE : Field := ⟨8000, 0, 17, .ro, fun _ => 0, fun _ => true, false⟩
def PCI_PENDSTAT_FIRST : Field := ⟨8032, 32, 20, .ro, fun _ => 0, fun _ => true, false⟩
def PCI_MBX_GO : Field := ⟨8064, 0, 1, .wo, fun _ => 0, fun _ => true, false⟩
def PCI_MBX_BUSY : Field := ⟨8065, 1, 1, .ro, fun _ => 0, fun _ => true, false⟩
def PCI_MBX_DONE : Field := ⟨8066, 2, 1, .w1c, fun _ => 0, fun _ => true, false⟩
def PCI_MBX_ERR : Field := ⟨8067, 3, 1, .w1c, fun _ => 0, fun _ => true, false⟩
def PCI_MBX_IEN : Field := ⟨8068, 4, 1, .rw, fun _ => 0, fun _ => true, false⟩
def PCI_MBX_REQLEN : Field := ⟨8072, 8, 9, .rw, fun _ => 0, fun _ => true, false⟩
def PCI_MBX_RSPLEN : Field := ⟨8081, 17, 9, .ro, fun _ => 0, fun _ => true, false⟩
def PCI_MBX_VEC : Field := ⟨8090, 26, 11, .rw, fun _ => 0, fun _ => true, false⟩
def PCI_MBXREQ_BYTES : Field := ⟨8128, 0, 64, .rw, fun _ => 0, fun _ => true, false⟩
def PCI_MBXRSP_BYTES : Field := ⟨8192, 0, 64, .ro, fun _ => 0, fun _ => true, false⟩
def PCI_CHSQ_SIZE : Field := ⟨8256, 0, 4, .rw, fun _ => 0, fun v => v ≤ 12, false⟩
def PCI_CHSQ_BASE : Field := ⟨8268, 12, 52, .rw, fun _ => 0, fun _ => true, false⟩
def PCI_CHCQ_SIZE : Field := ⟨8320, 0, 4, .rw, fun _ => 0, fun v => v ≤ 12, false⟩
def PCI_CHCQ_BASE : Field := ⟨8332, 12, 52, .rw, fun _ => 0, fun _ => true, false⟩
def PCI_CHCTL_EN : Field := ⟨8384, 0, 1, .rw, fun _ => 0, fun _ => true, false⟩
def PCI_CHCTL_IEN : Field := ⟨8385, 1, 1, .rw, fun _ => 0, fun _ => true, false⟩
def PCI_CHCTL_VEC : Field := ⟨8386, 2, 11, .rw, fun _ => 0, fun _ => true, false⟩
def PCI_CHCTL_IMOD : Field := ⟨8400, 16, 8, .rw, fun _ => 0, fun _ => true, false⟩
def PCI_CHPTR_SQTAIL : Field := ⟨8448, 0, 16, .rw, fun _ => 0, fun _ => true, false⟩
def PCI_CHPTR_SQHEAD : Field := ⟨8464, 16, 16, .ro, fun _ => 0, fun _ => true, false⟩
def PCI_CHPTR_CQHEAD : Field := ⟨8480, 32, 16, .rw, fun _ => 0, fun _ => true, false⟩
def PCI_CHPTR_CQTAIL : Field := ⟨8496, 48, 16, .ro, fun _ => 0, fun _ => true, false⟩
def PCI_CHSTAT_REFUSED : Field := ⟨8512, 0, 1, .w1c, fun _ => 0, fun _ => true, false⟩
def PCI_CHSTAT_OUTHOLD : Field := ⟨8513, 1, 1, .w1c, fun _ => 0, fun _ => true, false⟩
def PCI_CHSTAT_CQWAIT : Field := ⟨8514, 2, 1, .w1c, fun _ => 0, fun _ => true, false⟩
def PCI_CHSTAT_RINGUSE : Field := ⟨8520, 8, 25, .ro, fun _ => 0, fun _ => true, false⟩
def PCI_CHCNT_ADMCNT : Field := ⟨8576, 0, 32, .rw, fun _ => 0, fun _ => true, false⟩
def PCI_CHCNT_REFCNT : Field := ⟨8608, 32, 32, .rw, fun _ => 0, fun _ => true, false⟩
def TRC_CTL_EN : Field := ⟨8640, 0, 1, .rw, fun _ => 0, fun _ => true, false⟩
def TRC_CTL_STOPFULL : Field := ⟨8641, 1, 1, .rw, fun _ => 0, fun _ => true, false⟩
def TRC_WIN_SIZE : Field := ⟨8704, 0, 5, .rw, fun _ => 0xa, fun v => 10 ≤ v && v ≤ 30, false⟩
def TRC_WIN_BASE : Field := ⟨8716, 12, 34, .rw, fun _ => 0, fun _ => true, false⟩
def TRC_WPTR_NEXT : Field := ⟨8768, 0, 31, .ro, fun _ => 0, fun _ => true, false⟩
def TRC_WPTR_WRAPPED : Field := ⟨8799, 31, 1, .ro, fun _ => 0, fun _ => true, false⟩
def TRC_STAT_FROZEN : Field := ⟨8832, 0, 1, .w1c, fun _ => 0, fun _ => true, false⟩
def TRC_STAT_FULL : Field := ⟨8833, 1, 1, .w1c, fun _ => 0, fun _ => true, false⟩
def TRC_STAT_WERR : Field := ⟨8834, 2, 1, .w1c, fun _ => 0, fun _ => true, false⟩
def TRC_STAT_LOST : Field := ⟨8835, 3, 1, .w1c, fun _ => 0, fun _ => true, false⟩
def TRC_STAT_BUFUSE : Field := ⟨8848, 16, 13, .ro, fun _ => 0, fun _ => true, false⟩
def TRC_STAT_LOSTCNT : Field := ⟨8864, 32, 32, .rw, fun _ => 0, fun _ => true, false⟩
def TRC_FRZ_CODE : Field := ⟨8896, 0, 8, .rw, fun _ => 0, fun _ => true, false⟩
def TRC_FRZ_CODEEN : Field := ⟨8904, 8, 1, .rw, fun _ => 0, fun _ => true, false⟩
def TRC_FRZ_FAULTEN : Field := ⟨8905, 9, 1, .rw, fun _ => 0, fun _ => true, false⟩
def TRC_FRZ_HALTEN : Field := ⟨8906, 10, 1, .rw, fun _ => 0, fun _ => true, false⟩
def TRC_FRZ_ONHOLD : Field := ⟨8907, 11, 1, .rw, fun _ => 0, fun _ => true, false⟩
def TRC_FRZ_HOLDEN : Field := ⟨8908, 12, 1, .rw, fun _ => 0, fun _ => true, false⟩
def TRC_FRZ_NOW : Field := ⟨8909, 13, 1, .wo, fun _ => 0, fun _ => true, false⟩
def TRC_FRZ_POST : Field := ⟨8912, 16, 32, .rw, fun _ => 0, fun _ => true, false⟩
def TRC_FRZST_CAUSE : Field := ⟨8960, 0, 3, .ro, fun _ => 0, fun _ => true, false⟩
def TRC_FRZST_MARKER : Field := ⟨8992, 32, 31, .ro, fun _ => 0, fun _ => true, false⟩
def TRC_HSTROKE_STROKE : Field := ⟨9024, 0, 48, .ro, fun _ => 0, fun _ => true, false⟩
def TRC_HSTROKE_VALID : Field := ⟨9072, 48, 1, .ro, fun _ => 0, fun _ => true, false⟩
def TRC_SWMSG_VALUE : Field := ⟨9088, 0, 64, .wo, fun _ => 0, fun _ => true, false⟩
def TRC_DBGEV_HALTEV : Field := ⟨9152, 0, 20, .w1c, fun _ => 0, fun _ => true, false⟩
def TRC_CDBG_HALT : Field := ⟨9216, 0, 1, .w1s, fun _ => 0, fun _ => true, false⟩
def TRC_CDBG_RUN : Field := ⟨9217, 1, 1, .wo, fun _ => 0, fun _ => true, false⟩
def TRC_CDBG_STEP : Field := ⟨9218, 2, 1, .wo, fun _ => 0, fun _ => true, false⟩
def TRC_CDBG_HALTED : Field := ⟨9219, 3, 1, .ro, fun _ => 0, fun _ => true, false⟩
def TRC_CDBG_BP0EN : Field := ⟨9220, 4, 1, .rw, fun _ => 0, fun _ => true, false⟩
def TRC_CDBG_BP1EN : Field := ⟨9221, 5, 1, .rw, fun _ => 0, fun _ => true, false⟩
def TRC_CDBG_RSTHALT : Field := ⟨9222, 6, 1, .rw, fun _ => 0, fun _ => true, true⟩
def TRC_CDBG_CAUSE : Field := ⟨9224, 8, 2, .ro, fun _ => 0, fun _ => true, false⟩
def TRC_CBP_PC : Field := ⟨9281, 1, 47, .rw, fun _ => 0, fun _ => true, false⟩
def TRC_CR_VALUE : Field := ⟨9344, 0, 64, .rw, fun _ => 0, fun _ => true, false⟩
def BJ_STAT_STEP : Field := ⟨9408, 0, 6, .ro, fun _ => 0, fun _ => true, false⟩
def BJ_STAT_DONE : Field := ⟨9414, 6, 1, .ro, fun _ => 0, fun _ => true, false⟩
def BJ_STAT_HALTED : Field := ⟨9415, 7, 1, .ro, fun _ => 0, fun _ => true, false⟩
def BJ_STAT_STEPEV : Field := ⟨9416, 8, 1, .w1c, fun _ => 0, fun _ => true, false⟩
def BJ_STAT_JWERR : Field := ⟨9417, 9, 1, .w1c, fun _ => 0, fun _ => true, false⟩
def BJ_STAT_NOJRNL : Field := ⟨9418, 10, 1, .ro, fun _ => 0, fun _ => true, false⟩
def BJ_STAT_PRFIGN : Field := ⟨9419, 11, 1, .w1c, fun _ => 0, fun _ => true, false⟩
def BJ_STAT_CAUSE : Field := ⟨9424, 16, 3, .ro, fun _ => 0, fun _ => true, false⟩
def BJ_HIST_STEPS : Field := ⟨9472, 0, 64, .ro, fun _ => 0, fun _ => true, false⟩
def BJ_RUNALT_STEPS : Field := ⟨9536, 0, 64, .ro, fun _ => 0, fun _ => true, false⟩
def BJ_RUNSKIP_STEPS : Field := ⟨9600, 0, 64, .ro, fun _ => 0, fun _ => true, false⟩
def BJ_RUNFAIL_STEPS : Field := ⟨9664, 0, 64, .ro, fun _ => 0, fun _ => true, false⟩
def BJ_CLEAR_MASK : Field := ⟨9728, 0, 64, .wo, fun _ => 0, fun _ => true, false⟩
def BJ_RDYEV_CHG : Field := ⟨9792, 0, 9, .w1c, fun _ => 0, fun _ => true, false⟩
def BJ_RDYT_TILE : Field := ⟨9856, 0, 8, .ro, fun _ => 0, fun _ => true, false⟩
def BJ_RDYT_STACK : Field := ⟨9864, 8, 8, .ro, fun _ => 0, fun _ => true, false⟩
def BJ_RDYT_TME : Field := ⟨9872, 16, 8, .ro, fun _ => 0, fun _ => true, false⟩
def BJ_RDYT_CORE : Field := ⟨9880, 24, 20, .ro, fun _ => 0, fun _ => true, false⟩
def BJ_RDYT_HUBF : Field := ⟨9900, 44, 6, .ro, fun _ => 0, fun _ => true, false⟩
def BJ_RDYC_READY : Field := ⟨9920, 0, 64, .ro, fun _ => 0, fun _ => true, false⟩
def BJ_RDYL_READY : Field := ⟨9984, 0, 64, .ro, fun _ => 0, fun _ => true, false⟩
def PRF_ACTIVE_ACTIVE : Field := ⟨10048, 0, 2, .ro, fun _ => 0, fun _ => true, true⟩
def PRF_ACTIVE_PINS : Field := ⟨10050, 2, 2, .ro, fun _ => 0, fun _ => true, true⟩
def PRF_ACTIVE_SRC : Field := ⟨10052, 4, 2, .ro, fun _ => 0, fun _ => true, false⟩
def LNK_CTL_EN : Field := ⟨10112, 0, 1, .rw, fun _ => 0, fun _ => true, false⟩
def LNK_CTL_RETRAIN : Field := ⟨10113, 1, 1, .wo, fun _ => 0, fun _ => true, false⟩
def LNK_CTL_RATEMAX : Field := ⟨10114, 2, 2, .rw, fun _ => 0, fun v => v ≠ 3, false⟩
def LNK_CTL_REACH : Field := ⟨10116, 4, 1, .rw, fun _ => 0, fun _ => true, false⟩
def LNK_CTL_EXPCHK : Field := ⟨10117, 5, 1, .rw, fun _ => 0, fun _ => true, false⟩
def LNK_CTL_CLASSMIN : Field := ⟨10120, 8, 6, .rw, fun _ => 1, fun v => v ≠ 0, false⟩
def LNK_CTL_BUNDLE : Field := ⟨10128, 16, 4, .rw, fun _ => 0, fun _ => true, false⟩
def LNK_CTL_TSPER : Field := ⟨10136, 24, 8, .rw, fun _ => 0x10, fun v => v ≠ 0, false⟩
def LNK_CTL_UNCLIM : Field := ⟨10144, 32, 8, .rw, fun _ => 8, fun v => v ≠ 0, false⟩
def LNK_STAT_STATE : Field := ⟨10176, 0, 4, .ro, fun _ => 0, fun _ => true, false⟩
def LNK_STAT_RATE : Field := ⟨10180, 4, 2, .ro, fun _ => 0, fun _ => true, false⟩
def LNK_STAT_READY : Field := ⟨10182, 6, 1, .ro, fun _ => 0, fun _ => true, false⟩
def LNK_STAT_CHG : Field := ⟨10184, 8, 1, .w1c, fun _ => 0, fun _ => true, false⟩
def LNK_STAT_FECUNC : Field := ⟨10185, 9, 1, .w1c, fun _ => 0, fun _ => true, false⟩
def LNK_STAT_LOSS : Field := ⟨10186, 10, 1, .w1c, fun _ => 0, fun _ => true, false⟩
def LNK_STAT_TXLATE : Field := ⟨10187, 11, 1, .w1c, fun _ => 0, fun _ => true, false⟩
def LNK_STAT_RXLATE : Field := ⟨10188, 12, 1, .w1c, fun _ => 0, fun _ => true, false⟩
def LNK_STAT_RXOVR : Field := ⟨10189, 13, 1, .w1c, fun _ => 0, fun _ => true, false⟩
def LNK_STAT_CALERR : Field := ⟨10190, 14, 1, .w1c, fun _ => 0, fun _ => true, false⟩
def LNK_STAT_CTLUNK : Field := ⟨10191, 15, 1, .w1c, fun _ => 0, fun _ => true, false⟩
def LNK_STAT_IDMISM : Field := ⟨10192, 16, 1, .w1c, fun _ => 0, fun _ => true, false⟩
def LNK_STAT_CLASSUP : Field := ⟨10193, 17, 1, .w1c, fun _ => 0, fun _ => true, false⟩
def LNK_STAT_UTXFULL : Field := ⟨10194, 18, 1, .w1c, fun _ => 0, fun _ => true, false⟩
def LNK_STAT_TXDOWN : Field := ⟨10195, 19, 1, .w1c, fun _ => 0, fun _ => true, false⟩
def LNK_STAT_FAILCAUSE : Field := ⟨10200, 24, 4, .ro, fun _ => 0, fun _ => true, false⟩
def LNK_LAT_LAT : Field := ⟨10240, 0, 16, .ro, fun _ => 0, fun _ => true, false⟩
def LNK_LAT_CLASS : Field := ⟨10256, 16, 6, .ro, fun _ => 0, fun _ => true, false⟩
def LNK_LAT_OFFSET : Field := ⟨10264, 24, 24, .ro, fun _ => 0, fun _ => true, false⟩
def LNK_LAT_PHYMIN : Field := ⟨10288, 48, 16, .ro, fun _ => 0xffff, fun _ => true, false⟩
def LNK_PID_SERIAL : Field := ⟨10304, 0, 64, .ro, fun _ => 0, fun _ => true, false⟩
def LNK_PINFO_KIND : Field := ⟨10368, 0, 4, .ro, fun _ => 0, fun _ => true, false⟩
def LNK_PINFO_PLANE : Field := ⟨10372, 4, 9, .ro, fun _ => 0, fun _ => true, false⟩
def LNK_PINFO_RATES : Field := ⟨10381, 13, 3, .ro, fun _ => 0, fun _ => true, false⟩
def LNK_PINFO_ROLLBACK : Field := ⟨10384, 16, 1, .ro, fun _ => 0, fun _ => true, false⟩
def LNK_PINFO_PSTEP : Field := ⟨10392, 24, 8, .ro, fun _ => 0, fun _ => true, false⟩
def LNK_PINFO_PCLASS : Field := ⟨10400, 32, 6, .ro, fun _ => 0, fun _ => true, false⟩
def LNK_PINFO_PFWD : Field := ⟨10406, 38, 8, .ro, fun _ => 0, fun _ => true, false⟩
def LNK_FEC_CORR : Field := ⟨10432, 0, 32, .rw, fun _ => 0, fun _ => true, false⟩
def LNK_FEC_UNC : Field := ⟨10464, 32, 32, .rw, fun _ => 0, fun _ => true, false⟩
def LNK_CAL_KINDS : Field := ⟨10496, 0, 64, .rw, fun _ => 0x1000100010002, fun _ => true, false⟩
def LNK_MARGIN_MIN : Field := ⟨10560, 0, 16, .ro, fun _ => 0xffff, fun _ => true, false⟩
def LNK_MARGIN_PREV_MIN : Field := ⟨10576, 16, 16, .ro, fun _ => 0xffff, fun _ => true, false⟩
def LNK_MARGIN_THRESH : Field := ⟨10592, 32, 16, .rw, fun _ => 0x10, fun _ => true, false⟩
def LNK_MARGIN_WARN : Field := ⟨10608, 48, 1, .w1c, fun _ => 0, fun _ => true, false⟩
def LNK_RXCFG_BASE : Field := ⟨10624, 0, 17, .rw, fun i => 0x10000 + 0x400 * (i % 64), fun _ => true, false⟩
def LNK_RXCFG_LEN : Field := ⟨10641, 17, 12, .rw, fun _ => 0x400, fun v => 1 ≤ v && v ≤ 2048, false⟩
def LNK_EXP_SERLO : Field := ⟨10688, 0, 32, .rw, fun _ => 0, fun _ => true, false⟩
def LNK_EXP_LANE : Field := ⟨10720, 32, 9, .rw, fun _ => 0, fun _ => true, false⟩
def LNK_EXP_KIND : Field := ⟨10729, 41, 4, .rw, fun _ => 0, fun _ => true, false⟩
def LNK_EXP_RATE : Field := ⟨10733, 45, 2, .rw, fun _ => 0, fun _ => true, false⟩
def LNK_UCRED_TXCRED : Field := ⟨10752, 0, 32, .ro, fun _ => 0, fun _ => true, false⟩
def LNK_UCRED_RXCNT : Field := ⟨10784, 32, 32, .ro, fun _ => 0, fun _ => true, false⟩
def LNK_UTXH_VALUE : Field := ⟨10816, 0, 64, .wo, fun _ => 0, fun _ => true, false⟩
def LNK_UTXD_VALUE : Field := ⟨10880, 0, 64, .wo, fun _ => 0, fun _ => true, false⟩
def LNK_URXH_VALUE : Field := ⟨10944, 0, 64, .ro, fun _ => 0, fun _ => true, false⟩
def LNK_URXD_VALUE : Field := ⟨11008, 0, 64, .ro, fun _ => 0, fun _ => true, false⟩
def LNK_URXCTL_SEL : Field := ⟨11072, 0, 2, .rw, fun _ => 0, fun _ => true, false⟩
def LNK_URXCTL_POP : Field := ⟨11074, 2, 1, .wo, fun _ => 0, fun _ => true, false⟩
def LNK_URXCTL_EMPTY : Field := ⟨11075, 3, 1, .ro, fun _ => 1, fun _ => true, false⟩
def LNK_REMAP_PHYS : Field := ⟨11136, 0, 6, .rw, fun i => i % 64, fun _ => true, false⟩
def LNK_REMAP_USED : Field := ⟨11144, 8, 1, .rw, fun _ => 0, fun _ => true, false⟩
def LNK_REMAP_DIFF : Field := ⟨11145, 9, 1, .ro, fun _ => 0, fun _ => true, false⟩
def LNK_REMAP_CTL_COMMIT : Field := ⟨11200, 0, 1, .wo, fun _ => 0, fun _ => true, false⟩
def LNK_REMAP_CTL_REVERT : Field := ⟨11201, 1, 1, .wo, fun _ => 0, fun _ => true, false⟩
def LNK_REMAP_CTL_BUSY : Field := ⟨11202, 2, 1, .ro, fun _ => 0, fun _ => true, false⟩
def LNK_REMAP_CTL_ERR : Field := ⟨11203, 3, 1, .w1c, fun _ => 0, fun _ => true, false⟩
def LNK_REMAP_CTL_ERRCODE : Field := ⟨11204, 4, 3, .ro, fun _ => 0, fun _ => true, false⟩
def LNK_REMAP_CTL_ERRL : Field := ⟨11208, 8, 6, .ro, fun _ => 0, fun _ => true, false⟩
def CLU_REMAP_LPOS : Field := ⟨11264, 0, 6, .rw, fun i => if i % 68 < 64 then i % 68 else 0, fun _ => true, true⟩
def CLU_REMAP_STATE : Field := ⟨11272, 8, 2, .rw, fun i => if i % 68 < 64 then 0 else 1, fun v => v ≠ 3, true⟩
def CLU_REMAP_DIFF : Field := ⟨11280, 16, 1, .ro, fun _ => 0, fun _ => true, true⟩
def CLU_REMAP_CTL_COMMIT : Field := ⟨11328, 0, 1, .wo, fun _ => 0, fun _ => true, false⟩
def CLU_REMAP_CTL_REVERT : Field := ⟨11329, 1, 1, .wo, fun _ => 0, fun _ => true, false⟩
def CLU_REMAP_CTL_BUSY : Field := ⟨11330, 2, 1, .ro, fun _ => 0, fun _ => true, false⟩
def CLU_REMAP_CTL_ERR : Field := ⟨11331, 3, 1, .w1c, fun _ => 0, fun _ => true, false⟩
def CLU_REMAP_CTL_ERRCODE : Field := ⟨11332, 4, 3, .ro, fun _ => 0, fun _ => true, false⟩
def CLU_REMAP_CTL_ERRLPOS : Field := ⟨11336, 8, 6, .ro, fun _ => 0, fun _ => true, false⟩
def CLU_REMAP_CTL_ERRP : Field := ⟨11343, 15, 7, .ro, fun _ => 0, fun _ => true, false⟩
def CLU_SPARE_PON : Field := ⟨11392, 0, 4, .rw, fun _ => 0, fun _ => true, true⟩
def CLU_SPARE_PGOOD : Field := ⟨11400, 8, 4, .ro, fun _ => 0, fun _ => true, true⟩
def CLU_FLAGS0_CELLS : Field := ⟨11456, 0, 64, .ro, fun _ => 0, fun _ => true, false⟩
def CLU_FLAGS1_CELLS : Field := ⟨11520, 0, 4, .ro, fun _ => 0, fun _ => true, false⟩
def CLU_STAT_OFFACC : Field := ⟨11584, 0, 1, .w1c, fun _ => 0, fun _ => true, false⟩
def CLU_SWAP_STROKE_TARGET : Field := ⟨11648, 0, 64, .rw, fun _ => 0, fun _ => true, false⟩
def CLU_SWAP_CTL_ARM : Field := ⟨11712, 0, 1, .rw, fun _ => 0, fun _ => true, false⟩
def CLU_SWAP_CTL_DONE : Field := ⟨11713, 1, 1, .w1c, fun _ => 0, fun _ => true, false⟩
def CLU_SWAP_CTL_MISSED : Field := ⟨11714, 2, 1, .w1c, fun _ => 0, fun _ => true, false⟩
def CLU_SWAP_CTL_REFUSED : Field := ⟨11715, 3, 1, .w1c, fun _ => 0, fun _ => true, false⟩
def CLU_SWAP_CTL_NEWPAGE : Field := ⟨11716, 4, 1, .rw, fun _ => 0, fun _ => true, false⟩
def CLU_SWAP_CTL_SETPAGE : Field := ⟨11717, 5, 1, .wo, fun _ => 0, fun _ => true, false⟩
def TME_CFG_DMBASE : Field := ⟨11776, 0, 15, .ro, fun _ => 0, fun _ => true, true⟩
def TME_CFG_DMSIZE : Field := ⟨11792, 16, 15, .ro, fun _ => 0, fun _ => true, true⟩
def TME_STAT_OOR : Field := ⟨11840, 0, 1, .w1c, fun _ => 0, fun _ => true, false⟩
def TME_STAT_EXTWR : Field := ⟨11841, 1, 1, .w1c, fun _ => 0, fun _ => true, false⟩
def TME_STAT_OVERRUN : Field := ⟨11842, 2, 1, .w1c, fun _ => 0, fun _ => true, false⟩
def TME_STAT_UNREC : Field := ⟨11843, 3, 1, .w1c, fun _ => 0, fun _ => true, false⟩
def TME_STAT_STKFAIL : Field := ⟨11844, 4, 1, .w1c, fun _ => 0, fun _ => true, false⟩
def TME_STAT_CHFAIL : Field := ⟨11845, 5, 1, .w1c, fun _ => 0, fun _ => true, false⟩
def TME_ERR_LINE : Field := ⟨11904, 0, 30, .ro, fun _ => 0, fun _ => true, false⟩
def TME_ERR_CH : Field := ⟨11934, 30, 4, .ro, fun _ => 0, fun _ => true, false⟩
def TME_ERR_KIND : Field := ⟨11938, 34, 3, .ro, fun _ => 0, fun _ => true, false⟩
def TME_ERR_VALID : Field := ⟨11941, 37, 1, .w1c, fun _ => 0, fun _ => true, false⟩
def TME_ECC_CORR : Field := ⟨11968, 0, 32, .rw, fun _ => 0, fun _ => true, false⟩
def TME_ECC_RECON : Field := ⟨12000, 32, 32, .rw, fun _ => 0, fun _ => true, false⟩
def TME_CHMAP_CH0 : Field := ⟨12032, 0, 4, .ro, fun _ => 0, fun _ => true, true⟩
def TME_CHMAP_CH1 : Field := ⟨12036, 4, 4, .ro, fun _ => 1, fun _ => true, true⟩
def TME_CHMAP_CH2 : Field := ⟨12040, 8, 4, .ro, fun _ => 2, fun _ => true, true⟩
def TME_CHMAP_CH3 : Field := ⟨12044, 12, 4, .ro, fun _ => 3, fun _ => true, true⟩
def TME_CHMAP_CH4 : Field := ⟨12048, 16, 4, .ro, fun _ => 4, fun _ => true, true⟩
def TME_CHMAP_CH5 : Field := ⟨12052, 20, 4, .ro, fun _ => 5, fun _ => true, true⟩
def TME_CHMAP_CH6 : Field := ⟨12056, 24, 4, .ro, fun _ => 6, fun _ => true, true⟩
def TME_CHMAP_CH7 : Field := ⟨12060, 28, 4, .ro, fun _ => 7, fun _ => true, true⟩
def TME_CHMAP_CH8 : Field := ⟨12064, 32, 4, .ro, fun _ => 8, fun _ => true, true⟩
def TME_CHMAP_CH9 : Field := ⟨12068, 36, 4, .ro, fun _ => 9, fun _ => true, true⟩
def TME_CHMAP_CH10 : Field := ⟨12072, 40, 4, .ro, fun _ => 0xa, fun _ => true, true⟩
def TME_CHMAP_CH11 : Field := ⟨12076, 44, 4, .ro, fun _ => 0xb, fun _ => true, true⟩
def TME_CHMAP_CH12 : Field := ⟨12080, 48, 4, .ro, fun _ => 0xc, fun _ => true, true⟩
def TME_CHMAP_CH13 : Field := ⟨12084, 52, 4, .ro, fun _ => 0xd, fun _ => true, true⟩
def TME_CHMAP_CH14 : Field := ⟨12088, 56, 4, .ro, fun _ => 0xe, fun _ => true, true⟩
def TME_CHMAP_CH15 : Field := ⟨12092, 60, 4, .ro, fun _ => 0xf, fun _ => true, true⟩
def TME_CHSTAT_FAILED : Field := ⟨12096, 0, 16, .ro, fun _ => 0, fun _ => true, true⟩
def TME_CHSTAT_PARITY : Field := ⟨12112, 16, 1, .ro, fun _ => 1, fun _ => true, true⟩
def TME_CHSTAT_FAILLIM : Field := ⟨12120, 24, 8, .rw, fun _ => 0x40, fun v => v ≠ 0, true⟩
def TME_RBCTL_GROUP : Field := ⟨12160, 0, 26, .ro, fun _ => 0, fun _ => true, true⟩
def TME_RBCTL_ACTIVE : Field := ⟨12186, 26, 1, .ro, fun _ => 0, fun _ => true, true⟩
def TME_RBCTL_DONE : Field := ⟨12187, 27, 1, .w1c, fun _ => 0, fun _ => true, false⟩
def TME_RBCTL_RATE : Field := ⟨12188, 28, 8, .rw, fun _ => 0x20, fun v => v ≠ 0, true⟩
def TME_MARGIN_MIN : Field := ⟨12224, 0, 16, .ro, fun _ => 0xffff, fun _ => true, false⟩
def TME_MARGIN_PREV_MIN : Field := ⟨12240, 16, 16, .ro, fun _ => 0xffff, fun _ => true, false⟩
def TME_MARGIN_THRESH : Field := ⟨12256, 32, 16, .rw, fun _ => 0x10, fun _ => true, false⟩
def TME_MARGIN_WARN : Field := ⟨12272, 48, 1, .w1c, fun _ => 0, fun _ => true, false⟩
def TRC_PCTL_GEN : Field := ⟨12288, 0, 8, .rw, fun _ => 0, fun _ => true, false⟩
def TRC_PCTL_DIV : Field := ⟨12296, 8, 16, .rw, fun _ => 0, fun _ => true, false⟩
def TRC_PSTAT_DROP : Field := ⟨12352, 0, 1, .w1c, fun _ => 0, fun _ => true, false⟩
def TRC_PSTAT_DROPCNT : Field := ⟨12384, 32, 32, .rw, fun _ => 0, fun _ => true, false⟩
def TRC_HALTC_CLUSTERS : Field := ⟨12416, 0, 16, .w1c, fun _ => 0, fun _ => true, false⟩
def TRC_HALTS_LCELL : Field := ⟨12480, 0, 10, .ro, fun _ => 0, fun _ => true, false⟩
def TRC_HALTS_VALID : Field := ⟨12490, 10, 1, .w1c, fun _ => 0, fun _ => true, false⟩
def TRC_HALTS_STROKE : Field := ⟨12496, 16, 48, .ro, fun _ => 0, fun _ => true, false⟩
def CELL_ID_PCELL : Field := ⟨12544, 0, 14, .ro, fun i => i, fun _ => true, false⟩
def CELL_ID_LPOS : Field := ⟨12560, 16, 6, .ro, fun i => if i % 68 < 64 then i % 68 else 0, fun _ => true, false⟩
def CELL_ID_CLUSTER : Field := ⟨12568, 24, 4, .ro, fun i => i % 1088 / 68, fun _ => true, false⟩
def CELL_ID_TILE : Field := ⟨12572, 28, 3, .ro, fun i => i / 1088, fun _ => true, false⟩
def CELL_ID_STATE : Field := ⟨12576, 32, 2, .ro, fun i => if i % 68 < 64 then 0 else 1, fun _ => true, false⟩
def CELL_CTL_EVT_EN : Field := ⟨12608, 0, 7, .rw, fun _ => 0x7f, fun _ => true, false⟩
def CELL_CTL_PINJ : Field := ⟨12616, 8, 1, .w1s, fun _ => 0, fun _ => true, false⟩
def CELL_STAT_BANKOVR : Field := ⟨12672, 0, 1, .w1c, fun _ => 0, fun _ => true, false⟩
def CELL_STAT_WCOLL : Field := ⟨12673, 1, 1, .w1c, fun _ => 0, fun _ => true, false⟩
def CELL_STAT_DMCONF : Field := ⟨12674, 2, 1, .w1c, fun _ => 0, fun _ => true, false⟩
def CELL_STAT_PERR : Field := ⟨12675, 3, 1, .w1c, fun _ => 0, fun _ => true, false⟩
def CELL_STAT_IMWRUN : Field := ⟨12676, 4, 1, .w1c, fun _ => 0, fun _ => true, false⟩
def CELL_STAT_WINRUN : Field := ⟨12677, 5, 1, .w1c, fun _ => 0, fun _ => true, false⟩
def CELL_STAT_INBDUP : Field := ⟨12678, 6, 1, .w1c, fun _ => 0, fun _ => true, false⟩
def CELL_STAT_ISSUING : Field := ⟨12704, 32, 1, .ro, fun _ => 0, fun _ => true, false⟩
def CELL_STAT_ENDED : Field := ⟨12705, 33, 1, .ro, fun _ => 0, fun _ => true, false⟩
def CELL_STAT_EPOCH : Field := ⟨12706, 34, 1, .ro, fun _ => 0, fun _ => true, false⟩
def CELL_STAT_BPC : Field := ⟨12708, 36, 11, .ro, fun _ => 0, fun _ => true, false⟩
def CELL_PERR_UNIT : Field := ⟨12736, 0, 4, .ro, fun _ => 0, fun _ => true, false⟩
def CELL_PERR_BYTES : Field := ⟨12744, 8, 8, .ro, fun _ => 0, fun _ => true, false⟩
def CELL_PERR_ADDR : Field := ⟨12752, 16, 16, .ro, fun _ => 0, fun _ => true, false⟩
def CELL_PERR_COUNT : Field := ⟨12768, 32, 8, .rw, fun _ => 0, fun _ => true, false⟩
def CELL_PERR_VALID : Field := ⟨12776, 40, 1, .w1c, fun _ => 0, fun _ => true, false⟩
def CELL_IMCFG_PAGED : Field := ⟨12800, 0, 1, .rw, fun _ => 0, fun _ => true, true⟩
def CELL_IMCFG_RUNPAGE : Field := ⟨12801, 1, 1, .ro, fun _ => 0, fun _ => true, true⟩
def CELL_IMCFG_SWAPARM : Field := ⟨12802, 2, 1, .ro, fun _ => 0, fun _ => true, true⟩
def CELL_LC0_COUNT : Field := ⟨12864, 0, 16, .rw, fun _ => 0, fun _ => true, false⟩
def CELL_LC0_START : Field := ⟨12880, 16, 11, .rw, fun _ => 0, fun _ => true, false⟩
def CELL_LC0_END : Field := ⟨12896, 32, 11, .rw, fun _ => 0, fun _ => true, false⟩
def CELL_LC0_ACTIVE : Field := ⟨12912, 48, 1, .rw, fun _ => 0, fun _ => true, false⟩
def CELL_LC1_COUNT : Field := ⟨12928, 0, 16, .rw, fun _ => 0, fun _ => true, false⟩
def CELL_LC1_START : Field := ⟨12944, 16, 11, .rw, fun _ => 0, fun _ => true, false⟩
def CELL_LC1_END : Field := ⟨12960, 32, 11, .rw, fun _ => 0, fun _ => true, false⟩
def CELL_LC1_ACTIVE : Field := ⟨12976, 48, 1, .rw, fun _ => 0, fun _ => true, false⟩
def CELL_SBSEL_CUR : Field := ⟨12992, 0, 1, .ro, fun _ => 0, fun _ => true, true⟩
def CELL_DIRTY_MAP : Field := ⟨13056, 0, 64, .ro, fun _ => 0, fun _ => true, false⟩
def CELL_INBARR_MAP : Field := ⟨13120, 0, 64, .ro, fun _ => 0, fun _ => true, false⟩

/-- The fields of a register, from its register map. -/
def regFields : RegName → List Field
  | .CLK_TB => [CLK_TB_TB]
  | .CLK_STROKE_NO => [CLK_STROKE_NO_STROKE_NO]
  | .CLK_STROKE_CFG => [CLK_STROKE_CFG_PERIOD, CLK_STROKE_CFG_BWIN]
  | .CLK_TSTART => [CLK_TSTART_TSTART]
  | .CLK_HOLD_ACC => [CLK_HOLD_ACC_ACC]
  | .CLK_PAUSE_ACC => [CLK_PAUSE_ACC_ACC]
  | .CLK_TM_CTL => [CLK_TM_CTL_ROLE, CLK_TM_CTL_EPOCH, CLK_TM_CTL_BCN_PER, CLK_TM_CTL_LOSS_LIM]
  | .CLK_SKEW => [CLK_SKEW_OFFSET, CLK_SKEW_SRC_LANE, CLK_SKEW_VALID, CLK_SKEW_HOPS]
  | .CLK_SKEW_LIM => [CLK_SKEW_LIM_LIMIT]
  | .CLK_ADM => [CLK_ADM_LEAD, CLK_ADM_HORIZON]
  | .CLK_DL_STAT => [CLK_DL_STAT_LATE_FLIT, CLK_DL_STAT_LATE_MEM, CLK_DL_STAT_LATE_SERVICE, CLK_DL_STAT_LATE_BOUNDARY, CLK_DL_STAT_LATE_HOST, CLK_DL_STAT_SYNC_SKEW, CLK_DL_STAT_BCN_LOST, CLK_DL_STAT_DL_REPEAT, CLK_DL_STAT_COUNT]
  | .CLK_GEN_CTL => [CLK_GEN_CTL_REFFLT]
  | .CLK_GEN_STAT => [CLK_GEN_STAT_LOCK, CLK_GEN_STAT_ROOT48, CLK_GEN_STAT_LOL, CLK_GEN_STAT_REFLOSS, CLK_GEN_STAT_LOLCNT]
  | .CKP_CTL => [CKP_CTL_HOLDOFF, CKP_CTL_REQHOLD, CKP_CTL_GO, CKP_CTL_SWACK, CKP_CTL_ADOPT, CKP_CTL_RESTORE]
  | .CKP_POL => [CKP_POL_N, CKP_POL_JLIM, CKP_POL_SWWAIT, CKP_POL_DONEWAIT]
  | .CKP_HOLDAT => [CKP_HOLDAT_STROKE]
  | .CKP_STAT => [CKP_STAT_LASTSLOT, CKP_STAT_PENDING, CKP_STAT_REPLAY, CKP_STAT_CKPFAIL, CKP_STAT_DIVERGE, CKP_STAT_JFULL, CKP_STAT_LOGFULL, CKP_STAT_LOST, CKP_STAT_PREPWAIT]
  | .CKP_LAST => [CKP_LAST_STROKE]
  | .CKP_HWM => [CKP_HWM_STROKE]
  | .CKP_TIME => [CKP_TIME_LASTPAUSE, CKP_TIME_LASTINT]
  | .CKP_FENCE => [CKP_FENCE_LEAD, CKP_FENCE_MISCMP]
  | .CKP_AREA => [CKP_AREA_BASE]
  | .CKP_FILL => [CKP_FILL_JENT, CKP_FILL_INREC, CKP_FILL_OUTREC]
  | .MGT_STAT => [MGT_STAT_LOADFOREIGN, MGT_STAT_PERSISTERR, MGT_STAT_NODEDUP, MGT_STAT_EMCYOVF, MGT_STAT_DICTDROP, MGT_STAT_NODE, MGT_STAT_CLAIMING]
  | .MGT_CAN => [MGT_CAN_STATE, MGT_CAN_TEC, MGT_CAN_REC, MGT_CAN_BUSOFF, MGT_CAN_PASSIVE, MGT_CAN_RXIGN, MGT_CAN_REQDROP]
  | .MGT_LMBX => [MGT_LMBX_GO, MGT_LMBX_BUSY, MGT_LMBX_DONE, MGT_LMBX_ERR, MGT_LMBX_REQLEN, MGT_LMBX_RSPLEN, MGT_LMBX_BUF]
  | .MGT_MODE => [MGT_MODE_MODE, MGT_MODE_ARMED, MGT_MODE_MISSED, MGT_MODE_PREV, MGT_MODE_LEAD]
  | .MGT_FLT_STAT => [MGT_FLT_STAT_STORED, MGT_FLT_STAT_APEND, MGT_FLT_STAT_FPEND, MGT_FLT_STAT_HWSRC, MGT_FLT_STAT_NEWSEQ]
  | .MGT_FLT_ACK => [MGT_FLT_ACK_SEQ]
  | .MGT_FLT_CTL => [MGT_FLT_CTL_AMASK, MGT_FLT_CTL_FMASK]
  | .MGT_FLT_LOST => [MGT_FLT_LOST_LOSTCNT, MGT_FLT_LOST_LOST]
  | .MGT_FLT_SEL => [MGT_FLT_SEL_SEQ, MGT_FLT_SEL_VALID]
  | .MGT_FLT_REC => [MGT_FLT_REC_BYTES]
  | .MGT_FLT_SW => [MGT_FLT_SW_DETAIL]
  | .MGT_LDICT => [MGT_LDICT_GO, MGT_LDICT_BUSY, MGT_LDICT_DONE, MGT_LDICT_ERR, MGT_LDICT_TMO, MGT_LDICT_REQLEN, MGT_LDICT_RSPLEN, MGT_LDICT_LANE, MGT_LDICT_BUF]
  | .MGT_IMG_ADDR => [MGT_IMG_ADDR_ADDR]
  | .MGT_IMG_CTL => [MGT_IMG_CTL_APPLY, MGT_IMG_CTL_BUSY, MGT_IMG_CTL_DONE, MGT_IMG_CTL_ERR, MGT_IMG_CTL_ERRCODE, MGT_IMG_CTL_FAILSECT, MGT_IMG_CTL_APPLIED]
  | .MGT_FLCTL => [MGT_FLCTL_WINSEL, MGT_FLCTL_BUSY, MGT_FLCTL_ERR, MGT_FLCTL_WPN, MGT_FLCTL_BOOTOK]
  | .MGT_FLCMD => [MGT_FLCMD_OP, MGT_FLCMD_DEV, MGT_FLCMD_GO, MGT_FLCMD_OFFSET, MGT_FLCMD_LEN]
  | .MGT_FLBUF => [MGT_FLBUF_ADDR]
  | .FAB_CTL => [FAB_CTL_COMMIT, FAB_CTL_BUSY, FAB_CTL_ERR]
  | .FAB_RSV => [FAB_RSV_PERIOD, FAB_RSV_PHASE]
  | .FAB_STAT => [FAB_STAT_COLL, FAB_STAT_COLLREP, FAB_STAT_PTPERR, FAB_STAT_SBPERR, FAB_STAT_DPERR, FAB_STAT_BADENT, FAB_STAT_DUEMISS, FAB_STAT_RSVUSE, FAB_STAT_TRDROP, FAB_STAT_DRAINED]
  | .FAB_COLL => [FAB_COLL_WINPATH, FAB_COLL_LOSTPATH, FAB_COLL_LOSTCNT, FAB_COLL_POINT, FAB_COLL_VALID]
  | .FAB_COLLT => [FAB_COLLT_SCYC, FAB_COLLT_STROKE]
  | .FAB_ERR => [FAB_ERR_KIND, FAB_ERR_POINT, FAB_ERR_PATH, FAB_ERR_SCYC, FAB_ERR_VALID]
  | .FAB_CNT => [FAB_CNT_COLLCNT, FAB_CNT_ERRCNT]
  | .FAB_UCTL => [FAB_UCTL_DRAIN, FAB_UCTL_STARVE]
  | .FAB_XSPARE => [FAB_XSPARE_BRO_L0, FAB_XSPARE_BRO_E0, FAB_XSPARE_BRO_L1, FAB_XSPARE_BRO_E1, FAB_XSPARE_BRI_L0, FAB_XSPARE_BRI_E0, FAB_XSPARE_BRI_L1, FAB_XSPARE_BRI_E1, FAB_XSPARE_SPO_L, FAB_XSPARE_SPO_E, FAB_XSPARE_SPI_L, FAB_XSPARE_SPI_E]
  | .LEC_SENSE => [LEC_SENSE_SENSE]
  | .LEC_ROUTE => [LEC_ROUTE_LINE]
  | .LEC_CNT => [LEC_CNT_CNT]
  | .LEC_EN => [LEC_EN_EN]
  | .LEC_PEND => [LEC_PEND_PEND]
  | .LEC_PCLR => [LEC_PCLR_PCLR]
  | .LEC_RAW => [LEC_RAW_RAW]
  | .LEC_LINE => [LEC_LINE_LINES]
  | .LEC_FIND => [LEC_FIND_LINE, LEC_FIND_SRC, LEC_FIND_FOUND]
  | .LEC_TRQV => [LEC_TRQV_VALUE]
  | .LEC_TRQA => [LEC_TRQA_CODE, LEC_TRQA_LCELL, LEC_TRQA_SCYC, LEC_TRQA_VALID]
  | .LEC_TRQS => [LEC_TRQS_VALUE]
  | .LEC_TRQCTL => [LEC_TRQCTL_POP, LEC_TRQCTL_OVF, LEC_TRQCTL_COUNT]
  | .LEC_SWEV => [LEC_SWEV_EVENT]
  | .GEC_IN => [GEC_IN_PRIO, GEC_IN_TARGET, GEC_IN_CUR, GEC_IN_CNT, GEC_IN_LEVEL]
  | .GEC_EN => [GEC_EN_EN]
  | .GEC_LVL => [GEC_LVL_LVL]
  | .GEC_FALLBACK => [GEC_FALLBACK_MASK, GEC_FALLBACK_RRPTR]
  | .GEC_STAT => [GEC_STAT_ORPHAN, GEC_STAT_ORPHIN]
  | .SPT_SEL => [SPT_SEL_INPUT, SPT_SEL_EN]
  | .SPT_CTL => [SPT_CTL_PINEN, SPT_CTL_CAN0EN, SPT_CTL_CAN1EN]
  | .SPT_CAUSE => [SPT_CAUSE_SLOT, SPT_CAUSE_PIN, SPT_CAUSE_CAN0, SPT_CAUSE_CAN1]
  | .SPT_WAKEPRF => [SPT_WAKEPRF_PRF]
  | .PWR_CMD => [PWR_CMD_DOMAIN, PWR_CMD_ON, PWR_CMD_GO]
  | .PWR_STAT => [PWR_STAT_BUSY, PWR_STAT_ERR, PWR_STAT_ERRCODE, PWR_STAT_CHG, PWR_STAT_DOMFAULT, PWR_STAT_LASTDOM]
  | .PWR_ON => [PWR_ON_MAP]
  | .PWR_FAIL => [PWR_FAIL_MAP]
  | .PWR_THERM => [PWR_THERM_TWARN, PWR_THERM_THOT, PWR_THERM_HWARN, PWR_THERM_HHOT, PWR_THERM_HYST, PWR_THERM_WARN, PWR_THERM_EMG, PWR_THERM_EMGEV, PWR_THERM_MAXT, PWR_THERM_MAXH]
  | .PWR_SUPPLY => [PWR_SUPPLY_WARN, PWR_SUPPLY_EMG, PWR_SUPPLY_EMGEV]
  | .PWR_PMBCMD => [PWR_PMBCMD_ADDR, PWR_PMBCMD_CODE, PWR_PMBCMD_LEN, PWR_PMBCMD_WRITE, PWR_PMBCMD_GO, PWR_PMBCMD_BUSY, PWR_PMBCMD_NAK, PWR_PMBCMD_DONE]
  | .PWR_PMBDATA => [PWR_PMBDATA_DATA]
  | .CPO_ID => [CPO_ID_CORE, CPO_ID_TILE, CPO_ID_HUB]
  | .CPO_MODE => [CPO_MODE_DET, CPO_MODE_DETSTRICT, CPO_MODE_BPOFF]
  | .CPO_CFG => [CPO_CFG_RSOVF]
  | .CPO_XVBAR => [CPO_XVBAR_BASE]
  | .CPO_XINFO => [CPO_XINFO_CODE, CPO_XINFO_SLOT, CPO_XINFO_FETCH, CPO_XINFO_WRITE, CPO_XINFO_ARG, CPO_XINFO_DBL]
  | .CPO_XADDR => [CPO_XADDR_ADDR]
  | .CPO_XTGT => [CPO_XTGT_ADDR]
  | .CPO_RSSTAT => [CPO_RSSTAT_COUNT, CPO_RSSTAT_WRAP]
  | .CPO_PERR => [CPO_PERR_UNIT, CPO_PERR_COUNT, CPO_PERR_VALID, CPO_PERR_ADDR]
  | .CPO_CYC => [CPO_CYC_COUNT]
  | .CPO_GRP => [CPO_GRP_COUNT]
  | .CPO_MISS => [CPO_MISS_IMISS, CPO_MISS_DMISS]
  | .CPO_SVC_RQ => [CPO_SVC_RQ_PROD, CPO_SVC_RQ_CONS]
  | .CPO_SVC_AH => [CPO_SVC_AH_TILE, CPO_SVC_AH_LCELL, CPO_SVC_AH_ASLOT]
  | .CPO_SVC_AD => [CPO_SVC_AD_VALUE]
  | .CPO_RSTPC => [CPO_RSTPC_PC]
  | .MMU_CTL => [MMU_CTL_EN, MMU_CTL_SPECWALK]
  | .MMU_ASID => [MMU_ASID_ASID]
  | .MMU_TTB0 => [MMU_TTB0_BASE]
  | .MMU_TTB1 => [MMU_TTB1_BASE]
  | .MMU_FSR => [MMU_FSR_CAUSE, MMU_FSR_LEVEL, MMU_FSR_WRITE, MMU_FSR_FETCH, MMU_FSR_USER, MMU_FSR_VALID, MMU_FSR_ASID]
  | .MMU_FPA => [MMU_FPA_PA]
  | .MMU_LKVA => [MMU_LKVA_ASID, MMU_LKVA_SIZE, MMU_LKVA_G, MMU_LKVA_VPN]
  | .MMU_LKPA => [MMU_LKPA_DESC]
  | .MMU_LKCMD => [MMU_LKCMD_IDX, MMU_LKCMD_WRITE, MMU_LKCMD_UNLOCK, MMU_LKCMD_READ, MMU_LKCMD_LOCKED, MMU_LKCMD_ERR]
  | .MMU_SYNC => [MMU_SYNC_MISSING, MMU_SYNC_TIMEOUT, MMU_SYNC_OUTST, MMU_SYNC_PENDING]
  | .MMU_STAT => [MMU_STAT_LKOVL, MMU_STAT_SPECERR]
  | .MMU_CNT => [MMU_CNT_L1MISS, MMU_CNT_WALKS]
  | .MMU_L2CNT => [MMU_L2CNT_L2MISS, MMU_L2CNT_INVRX]
  | .CPO_EVT_CTL => [CPO_EVT_CTL_ACCEPT]
  | .CPO_EVT_CLAIM => [CPO_EVT_CLAIM_INPUT, CPO_EVT_CLAIM_PRIO, CPO_EVT_CLAIM_VALID]
  | .CPO_EVT_TOP => [CPO_EVT_TOP_INPUT, CPO_EVT_TOP_PRIO, CPO_EVT_TOP_VALID]
  | .CPO_EVT_STAT => [CPO_EVT_STAT_REPL, CPO_EVT_STAT_LATE, CPO_EVT_STAT_CHAIN, CPO_EVT_STAT_ENTRIES]
  | .CVU_CTL => [CVU_CTL_RELEASE, CVU_CTL_WAKE]
  | .CVU_VL => [CVU_VL_VL]
  | .CVU_FAULT => [CVU_FAULT_ELEM, CVU_FAULT_CAUSE, CVU_FAULT_WRITE, CVU_FAULT_VALID]
  | .CVU_IDLE => [CVU_IDLE_RET, CVU_IDLE_OFF]
  | .CVU_STAT => [CVU_STAT_PSTATE, CVU_STAT_LIVE, CVU_STAT_LOST, CVU_STAT_WAKING]
  | .CVU_WAKES => [CVU_WAKES_RETW, CVU_WAKES_OFFW]
  | .CPO_SVC_MARGIN => [CPO_SVC_MARGIN_MIN, CPO_SVC_MARGIN_PREV_MIN, CPO_SVC_MARGIN_THRESH, CPO_SVC_MARGIN_WARN]
  | .PCI_CTL => [PCI_CTL_FVEC, PCI_CTL_FVEN, PCI_CTL_PENDLOAD]
  | .PCI_STAT => [PCI_STAT_BUSERR, PCI_STAT_OUTLOST, PCI_STAT_PENDERR, PCI_STAT_LINKCHG, PCI_STAT_FLR, PCI_STAT_LWIDTH, PCI_STAT_LRATE]
  | .PCI_ERRADDR => [PCI_ERRADDR_ADDR, PCI_ERRADDR_WRITE, PCI_ERRADDR_VALID]
  | .PCI_APBASE => [PCI_APBASE_BASE]
  | .PCI_B2BASE => [PCI_B2BASE_BASE]
  | .PCI_PENDSTAT => [PCI_PENDSTAT_ADMSTORE, PCI_PENDSTAT_FIRST]
  | .PCI_MBX => [PCI_MBX_GO, PCI_MBX_BUSY, PCI_MBX_DONE, PCI_MBX_ERR, PCI_MBX_IEN, PCI_MBX_REQLEN, PCI_MBX_RSPLEN, PCI_MBX_VEC]
  | .PCI_MBXREQ => [PCI_MBXREQ_BYTES]
  | .PCI_MBXRSP => [PCI_MBXRSP_BYTES]
  | .PCI_CHSQ => [PCI_CHSQ_SIZE, PCI_CHSQ_BASE]
  | .PCI_CHCQ => [PCI_CHCQ_SIZE, PCI_CHCQ_BASE]
  | .PCI_CHCTL => [PCI_CHCTL_EN, PCI_CHCTL_IEN, PCI_CHCTL_VEC, PCI_CHCTL_IMOD]
  | .PCI_CHPTR => [PCI_CHPTR_SQTAIL, PCI_CHPTR_SQHEAD, PCI_CHPTR_CQHEAD, PCI_CHPTR_CQTAIL]
  | .PCI_CHSTAT => [PCI_CHSTAT_REFUSED, PCI_CHSTAT_OUTHOLD, PCI_CHSTAT_CQWAIT, PCI_CHSTAT_RINGUSE]
  | .PCI_CHCNT => [PCI_CHCNT_ADMCNT, PCI_CHCNT_REFCNT]
  | .TRC_CTL => [TRC_CTL_EN, TRC_CTL_STOPFULL]
  | .TRC_WIN => [TRC_WIN_SIZE, TRC_WIN_BASE]
  | .TRC_WPTR => [TRC_WPTR_NEXT, TRC_WPTR_WRAPPED]
  | .TRC_STAT => [TRC_STAT_FROZEN, TRC_STAT_FULL, TRC_STAT_WERR, TRC_STAT_LOST, TRC_STAT_BUFUSE, TRC_STAT_LOSTCNT]
  | .TRC_FRZ => [TRC_FRZ_CODE, TRC_FRZ_CODEEN, TRC_FRZ_FAULTEN, TRC_FRZ_HALTEN, TRC_FRZ_ONHOLD, TRC_FRZ_HOLDEN, TRC_FRZ_NOW, TRC_FRZ_POST]
  | .TRC_FRZST => [TRC_FRZST_CAUSE, TRC_FRZST_MARKER]
  | .TRC_HSTROKE => [TRC_HSTROKE_STROKE, TRC_HSTROKE_VALID]
  | .TRC_SWMSG => [TRC_SWMSG_VALUE]
  | .TRC_DBGEV => [TRC_DBGEV_HALTEV]
  | .TRC_CDBG => [TRC_CDBG_HALT, TRC_CDBG_RUN, TRC_CDBG_STEP, TRC_CDBG_HALTED, TRC_CDBG_BP0EN, TRC_CDBG_BP1EN, TRC_CDBG_RSTHALT, TRC_CDBG_CAUSE]
  | .TRC_CBP => [TRC_CBP_PC]
  | .TRC_CR => [TRC_CR_VALUE]
  | .BJ_STAT => [BJ_STAT_STEP, BJ_STAT_DONE, BJ_STAT_HALTED, BJ_STAT_STEPEV, BJ_STAT_JWERR, BJ_STAT_NOJRNL, BJ_STAT_PRFIGN, BJ_STAT_CAUSE]
  | .BJ_HIST => [BJ_HIST_STEPS]
  | .BJ_RUNALT => [BJ_RUNALT_STEPS]
  | .BJ_RUNSKIP => [BJ_RUNSKIP_STEPS]
  | .BJ_RUNFAIL => [BJ_RUNFAIL_STEPS]
  | .BJ_CLEAR => [BJ_CLEAR_MASK]
  | .BJ_RDYEV => [BJ_RDYEV_CHG]
  | .BJ_RDYT => [BJ_RDYT_TILE, BJ_RDYT_STACK, BJ_RDYT_TME, BJ_RDYT_CORE, BJ_RDYT_HUBF]
  | .BJ_RDYC => [BJ_RDYC_READY]
  | .BJ_RDYL => [BJ_RDYL_READY]
  | .PRF_ACTIVE => [PRF_ACTIVE_ACTIVE, PRF_ACTIVE_PINS, PRF_ACTIVE_SRC]
  | .LNK_CTL => [LNK_CTL_EN, LNK_CTL_RETRAIN, LNK_CTL_RATEMAX, LNK_CTL_REACH, LNK_CTL_EXPCHK, LNK_CTL_CLASSMIN, LNK_CTL_BUNDLE, LNK_CTL_TSPER, LNK_CTL_UNCLIM]
  | .LNK_STAT => [LNK_STAT_STATE, LNK_STAT_RATE, LNK_STAT_READY, LNK_STAT_CHG, LNK_STAT_FECUNC, LNK_STAT_LOSS, LNK_STAT_TXLATE, LNK_STAT_RXLATE, LNK_STAT_RXOVR, LNK_STAT_CALERR, LNK_STAT_CTLUNK, LNK_STAT_IDMISM, LNK_STAT_CLASSUP, LNK_STAT_UTXFULL, LNK_STAT_TXDOWN, LNK_STAT_FAILCAUSE]
  | .LNK_LAT => [LNK_LAT_LAT, LNK_LAT_CLASS, LNK_LAT_OFFSET, LNK_LAT_PHYMIN]
  | .LNK_PID => [LNK_PID_SERIAL]
  | .LNK_PINFO => [LNK_PINFO_KIND, LNK_PINFO_PLANE, LNK_PINFO_RATES, LNK_PINFO_ROLLBACK, LNK_PINFO_PSTEP, LNK_PINFO_PCLASS, LNK_PINFO_PFWD]
  | .LNK_FEC => [LNK_FEC_CORR, LNK_FEC_UNC]
  | .LNK_CAL => [LNK_CAL_KINDS]
  | .LNK_MARGIN => [LNK_MARGIN_MIN, LNK_MARGIN_PREV_MIN, LNK_MARGIN_THRESH, LNK_MARGIN_WARN]
  | .LNK_RXCFG => [LNK_RXCFG_BASE, LNK_RXCFG_LEN]
  | .LNK_EXP => [LNK_EXP_SERLO, LNK_EXP_LANE, LNK_EXP_KIND, LNK_EXP_RATE]
  | .LNK_UCRED => [LNK_UCRED_TXCRED, LNK_UCRED_RXCNT]
  | .LNK_UTXH => [LNK_UTXH_VALUE]
  | .LNK_UTXD => [LNK_UTXD_VALUE]
  | .LNK_URXH => [LNK_URXH_VALUE]
  | .LNK_URXD => [LNK_URXD_VALUE]
  | .LNK_URXCTL => [LNK_URXCTL_SEL, LNK_URXCTL_POP, LNK_URXCTL_EMPTY]
  | .LNK_REMAP => [LNK_REMAP_PHYS, LNK_REMAP_USED, LNK_REMAP_DIFF]
  | .LNK_REMAP_CTL => [LNK_REMAP_CTL_COMMIT, LNK_REMAP_CTL_REVERT, LNK_REMAP_CTL_BUSY, LNK_REMAP_CTL_ERR, LNK_REMAP_CTL_ERRCODE, LNK_REMAP_CTL_ERRL]
  | .CLU_REMAP => [CLU_REMAP_LPOS, CLU_REMAP_STATE, CLU_REMAP_DIFF]
  | .CLU_REMAP_CTL => [CLU_REMAP_CTL_COMMIT, CLU_REMAP_CTL_REVERT, CLU_REMAP_CTL_BUSY, CLU_REMAP_CTL_ERR, CLU_REMAP_CTL_ERRCODE, CLU_REMAP_CTL_ERRLPOS, CLU_REMAP_CTL_ERRP]
  | .CLU_SPARE => [CLU_SPARE_PON, CLU_SPARE_PGOOD]
  | .CLU_FLAGS0 => [CLU_FLAGS0_CELLS]
  | .CLU_FLAGS1 => [CLU_FLAGS1_CELLS]
  | .CLU_STAT => [CLU_STAT_OFFACC]
  | .CLU_SWAP_STROKE => [CLU_SWAP_STROKE_TARGET]
  | .CLU_SWAP_CTL => [CLU_SWAP_CTL_ARM, CLU_SWAP_CTL_DONE, CLU_SWAP_CTL_MISSED, CLU_SWAP_CTL_REFUSED, CLU_SWAP_CTL_NEWPAGE, CLU_SWAP_CTL_SETPAGE]
  | .TME_CFG => [TME_CFG_DMBASE, TME_CFG_DMSIZE]
  | .TME_STAT => [TME_STAT_OOR, TME_STAT_EXTWR, TME_STAT_OVERRUN, TME_STAT_UNREC, TME_STAT_STKFAIL, TME_STAT_CHFAIL]
  | .TME_ERR => [TME_ERR_LINE, TME_ERR_CH, TME_ERR_KIND, TME_ERR_VALID]
  | .TME_ECC => [TME_ECC_CORR, TME_ECC_RECON]
  | .TME_CHMAP => [TME_CHMAP_CH0, TME_CHMAP_CH1, TME_CHMAP_CH2, TME_CHMAP_CH3, TME_CHMAP_CH4, TME_CHMAP_CH5, TME_CHMAP_CH6, TME_CHMAP_CH7, TME_CHMAP_CH8, TME_CHMAP_CH9, TME_CHMAP_CH10, TME_CHMAP_CH11, TME_CHMAP_CH12, TME_CHMAP_CH13, TME_CHMAP_CH14, TME_CHMAP_CH15]
  | .TME_CHSTAT => [TME_CHSTAT_FAILED, TME_CHSTAT_PARITY, TME_CHSTAT_FAILLIM]
  | .TME_RBCTL => [TME_RBCTL_GROUP, TME_RBCTL_ACTIVE, TME_RBCTL_DONE, TME_RBCTL_RATE]
  | .TME_MARGIN => [TME_MARGIN_MIN, TME_MARGIN_PREV_MIN, TME_MARGIN_THRESH, TME_MARGIN_WARN]
  | .TRC_PCTL => [TRC_PCTL_GEN, TRC_PCTL_DIV]
  | .TRC_PSTAT => [TRC_PSTAT_DROP, TRC_PSTAT_DROPCNT]
  | .TRC_HALTC => [TRC_HALTC_CLUSTERS]
  | .TRC_HALTS => [TRC_HALTS_LCELL, TRC_HALTS_VALID, TRC_HALTS_STROKE]
  | .CELL_ID => [CELL_ID_PCELL, CELL_ID_LPOS, CELL_ID_CLUSTER, CELL_ID_TILE, CELL_ID_STATE]
  | .CELL_CTL => [CELL_CTL_EVT_EN, CELL_CTL_PINJ]
  | .CELL_STAT => [CELL_STAT_BANKOVR, CELL_STAT_WCOLL, CELL_STAT_DMCONF, CELL_STAT_PERR, CELL_STAT_IMWRUN, CELL_STAT_WINRUN, CELL_STAT_INBDUP, CELL_STAT_ISSUING, CELL_STAT_ENDED, CELL_STAT_EPOCH, CELL_STAT_BPC]
  | .CELL_PERR => [CELL_PERR_UNIT, CELL_PERR_BYTES, CELL_PERR_ADDR, CELL_PERR_COUNT, CELL_PERR_VALID]
  | .CELL_IMCFG => [CELL_IMCFG_PAGED, CELL_IMCFG_RUNPAGE, CELL_IMCFG_SWAPARM]
  | .CELL_LC0 => [CELL_LC0_COUNT, CELL_LC0_START, CELL_LC0_END, CELL_LC0_ACTIVE]
  | .CELL_LC1 => [CELL_LC1_COUNT, CELL_LC1_START, CELL_LC1_END, CELL_LC1_ACTIVE]
  | .CELL_SBSEL => [CELL_SBSEL_CUR]
  | .CELL_DIRTY => [CELL_DIRTY_MAP]
  | .CELL_INBARR => [CELL_INBARR_MAP]

/-- The register blocks of 13 R353 and the core block of 09. -/
inductive Block
  | clk | clkGen | ckp | mgt | img | flash | fab | lec | gec | spt | pwr | cpo | pci | pciCh | trc | dbg | bj | lnk | lremap | clu | tme | probe | cell
  deriving DecidableEq, Repr

/-- Registers of a block: first offset, how many of them follow one another, name. -/
def blockRegs : Block → List (Nat × Nat × RegName)
  | .clk => [(0x0, 1, .CLK_TB), (0x8, 1, .CLK_STROKE_NO), (0x10, 1, .CLK_STROKE_CFG), (0x18, 1, .CLK_TSTART), (0x20, 1, .CLK_HOLD_ACC), (0x28, 1, .CLK_PAUSE_ACC), (0x30, 1, .CLK_TM_CTL), (0x38, 1, .CLK_SKEW), (0x40, 1, .CLK_SKEW_LIM), (0x48, 1, .CLK_ADM), (0x50, 1, .CLK_DL_STAT)]
  | .clkGen => [(0x0, 1, .CLK_GEN_CTL), (0x8, 1, .CLK_GEN_STAT)]
  | .ckp => [(0x0, 1, .CKP_CTL), (0x8, 1, .CKP_POL), (0x10, 1, .CKP_HOLDAT), (0x18, 1, .CKP_STAT), (0x20, 1, .CKP_LAST), (0x28, 1, .CKP_HWM), (0x30, 1, .CKP_TIME), (0x38, 1, .CKP_FENCE), (0x40, 8, .CKP_AREA), (0x80, 8, .CKP_FILL)]
  | .mgt => [(0x0, 1, .MGT_STAT), (0x8, 2, .MGT_CAN), (0x100, 20, .MGT_LMBX), (0x200, 1, .MGT_MODE), (0x300, 1, .MGT_FLT_STAT), (0x308, 1, .MGT_FLT_ACK), (0x310, 1, .MGT_FLT_CTL), (0x318, 1, .MGT_FLT_LOST), (0x320, 1, .MGT_FLT_SEL), (0x328, 6, .MGT_FLT_REC), (0x358, 1, .MGT_FLT_SW), (0x400, 20, .MGT_LDICT)]
  | .img => [(0x0, 1, .MGT_IMG_ADDR), (0x8, 1, .MGT_IMG_CTL)]
  | .flash => [(0x0, 1, .MGT_FLCTL), (0x8, 1, .MGT_FLCMD), (0x10, 1, .MGT_FLBUF)]
  | .fab => [(0x0, 1, .FAB_CTL), (0x8, 1, .FAB_RSV), (0x10, 1, .FAB_STAT), (0x18, 1, .FAB_COLL), (0x20, 1, .FAB_COLLT), (0x28, 1, .FAB_ERR), (0x30, 1, .FAB_CNT), (0x38, 1, .FAB_UCTL), (0x40, 1, .FAB_XSPARE)]
  | .lec => [(0x0, 32, .LEC_SENSE), (0x100, 64, .LEC_ROUTE), (0x300, 64, .LEC_CNT), (0x500, 8, .LEC_EN), (0x540, 8, .LEC_PEND), (0x580, 8, .LEC_PCLR), (0x5c0, 8, .LEC_RAW), (0x600, 1, .LEC_LINE), (0x608, 1, .LEC_FIND), (0x610, 1, .LEC_TRQV), (0x618, 1, .LEC_TRQA), (0x620, 1, .LEC_TRQS), (0x628, 1, .LEC_TRQCTL), (0x630, 1, .LEC_SWEV)]
  | .gec => [(0x0, 576, .GEC_IN), (0x1200, 9, .GEC_EN), (0x1280, 9, .GEC_LVL), (0x1300, 1, .GEC_FALLBACK), (0x1308, 1, .GEC_STAT)]
  | .spt => [(0x0, 32, .SPT_SEL), (0x100, 1, .SPT_CTL), (0x108, 1, .SPT_CAUSE), (0x110, 1, .SPT_WAKEPRF)]
  | .pwr => [(0x0, 1, .PWR_CMD), (0x8, 1, .PWR_STAT), (0x40, 12, .PWR_ON), (0xc0, 12, .PWR_FAIL), (0x200, 1, .PWR_THERM), (0x208, 1, .PWR_SUPPLY), (0x300, 1, .PWR_PMBCMD), (0x308, 1, .PWR_PMBDATA)]
  | .cpo => [(0x0, 1, .CPO_ID), (0x8, 1, .CPO_MODE), (0x10, 1, .CPO_CFG), (0x18, 1, .CPO_XVBAR), (0x20, 1, .CPO_XINFO), (0x28, 1, .CPO_XADDR), (0x30, 1, .CPO_XTGT), (0x38, 1, .CPO_RSSTAT), (0x40, 1, .CPO_PERR), (0x48, 1, .CPO_CYC), (0x50, 1, .CPO_GRP), (0x58, 1, .CPO_MISS), (0x60, 1, .CPO_SVC_RQ), (0x68, 1, .CPO_SVC_AH), (0x70, 1, .CPO_SVC_AD), (0x78, 1, .CPO_RSTPC), (0x80, 1, .MMU_CTL), (0x88, 1, .MMU_ASID), (0x90, 1, .MMU_TTB0), (0x98, 1, .MMU_TTB1), (0xa0, 1, .MMU_FSR), (0xa8, 1, .MMU_FPA), (0xb0, 1, .MMU_LKVA), (0xb8, 1, .MMU_LKPA), (0xc0, 1, .MMU_LKCMD), (0xc8, 1, .MMU_SYNC), (0xd0, 1, .MMU_STAT), (0xd8, 1, .MMU_CNT), (0xe0, 1, .MMU_L2CNT), (0x100, 1, .CPO_EVT_CTL), (0x108, 1, .CPO_EVT_CLAIM), (0x110, 1, .CPO_EVT_TOP), (0x118, 1, .CPO_EVT_STAT), (0x180, 1, .CVU_CTL), (0x188, 1, .CVU_VL), (0x190, 1, .CVU_FAULT), (0x198, 1, .CVU_IDLE), (0x1a0, 1, .CVU_STAT), (0x1a8, 1, .CVU_WAKES), (0x1000, 2048, .CPO_SVC_MARGIN)]
  | .pci => [(0x0, 1, .PCI_CTL), (0x8, 1, .PCI_STAT), (0x10, 1, .PCI_ERRADDR), (0x18, 1, .PCI_APBASE), (0x20, 1, .PCI_B2BASE), (0x28, 1, .PCI_PENDSTAT), (0x30, 1, .PCI_MBX), (0x1000, 32, .PCI_MBXREQ), (0x1100, 32, .PCI_MBXRSP)]
  | .pciCh => [(0x0, 1, .PCI_CHSQ), (0x8, 1, .PCI_CHCQ), (0x10, 1, .PCI_CHCTL), (0x18, 1, .PCI_CHPTR), (0x20, 1, .PCI_CHSTAT), (0x28, 1, .PCI_CHCNT)]
  | .trc => [(0x0, 1, .TRC_CTL), (0x8, 1, .TRC_WIN), (0x10, 1, .TRC_WPTR), (0x18, 1, .TRC_STAT), (0x20, 1, .TRC_FRZ), (0x28, 1, .TRC_FRZST), (0x30, 1, .TRC_HSTROKE), (0x38, 1, .TRC_SWMSG), (0x40, 1, .TRC_DBGEV)]
  | .dbg => [(0x0, 1, .TRC_CDBG), (0x8, 2, .TRC_CBP), (0x40, 7, .TRC_CR)]
  | .bj => [(0x0, 1, .BJ_STAT), (0x8, 1, .BJ_HIST), (0x10, 1, .BJ_RUNALT), (0x18, 1, .BJ_RUNSKIP), (0x20, 1, .BJ_RUNFAIL), (0x28, 1, .BJ_CLEAR), (0x30, 1, .BJ_RDYEV), (0x40, 1, .BJ_RDYT), (0x48, 2, .BJ_RDYC), (0x80, 8, .BJ_RDYL), (0x800, 1, .PRF_ACTIVE)]
  | .lnk => [(0x0, 1, .LNK_CTL), (0x8, 1, .LNK_STAT), (0x10, 1, .LNK_LAT), (0x18, 1, .LNK_PID), (0x20, 1, .LNK_PINFO), (0x28, 1, .LNK_FEC), (0x30, 1, .LNK_CAL), (0x38, 1, .LNK_MARGIN), (0x40, 1, .LNK_RXCFG), (0x48, 1, .LNK_EXP), (0x50, 1, .LNK_UCRED), (0x58, 1, .LNK_UTXH), (0x60, 1, .LNK_UTXD), (0x68, 1, .LNK_URXH), (0x70, 1, .LNK_URXD), (0x78, 1, .LNK_URXCTL)]
  | .lremap => [(0x0, 64, .LNK_REMAP), (0x200, 1, .LNK_REMAP_CTL)]
  | .clu => [(0x0, 68, .CLU_REMAP), (0x220, 1, .CLU_REMAP_CTL), (0x228, 1, .CLU_SPARE), (0x230, 1, .CLU_FLAGS0), (0x238, 1, .CLU_FLAGS1), (0x240, 1, .CLU_STAT), (0x248, 1, .CLU_SWAP_STROKE), (0x250, 1, .CLU_SWAP_CTL)]
  | .tme => [(0x0, 1, .TME_CFG), (0x8, 1, .TME_STAT), (0x10, 1, .TME_ERR), (0x18, 1, .TME_ECC), (0x20, 1, .TME_CHMAP), (0x28, 1, .TME_CHSTAT), (0x30, 1, .TME_RBCTL), (0x38, 1, .TME_MARGIN)]
  | .probe => [(0x0, 1, .TRC_PCTL), (0x8, 1, .TRC_PSTAT), (0x10, 1, .TRC_HALTC), (0x18, 1, .TRC_HALTS)]
  | .cell => [(0x0, 1, .CELL_ID), (0x8, 1, .CELL_CTL), (0x10, 1, .CELL_STAT), (0x18, 1, .CELL_PERR), (0x20, 1, .CELL_IMCFG), (0x28, 1, .CELL_LC0), (0x30, 1, .CELL_LC1), (0x38, 1, .CELL_SBSEL), (0x40, 8, .CELL_DIRTY), (0x80, 8, .CELL_INBARR)]

end Sys2Proof.Machine
end

