-- ==== Sys2Proof/Machine/Sparse.lean ====
section
/-! DEFINITION. Sparse tables: a list of (key, value) pairs with strictly rising keys. A key that is not
listed reads as a default, and writing the default removes the entry, so that equal tables are equal
lists. Memory, the register fields, the cells and every other numbered store of `State` use it. -/

namespace Sys2Proof.Machine

/-- The value listed for a key. -/
def lookup {α : Type} : List (Nat × α) → Nat → Option α
  | [], _ => none
  | (k, v) :: t, a => if k = a then some v else lookup t a

/-- Put a value in its place among rising keys. -/
def insertKey {α : Type} : List (Nat × α) → Nat → α → List (Nat × α)
  | [], a, x => [(a, x)]
  | (k, v) :: t, a, x =>
    if a < k then (a, x) :: (k, v) :: t
    else if a = k then (a, x) :: t
    else (k, v) :: insertKey t a x

/-- Remove a key. -/
def eraseKey {α : Type} : List (Nat × α) → Nat → List (Nat × α)
  | [], _ => []
  | (k, v) :: t, a => if k = a then eraseKey t a else (k, v) :: eraseKey t a

/-- Read a key; `d` is what an unlisted key reads as. -/
def sget {α : Type} (l : List (Nat × α)) (a : Nat) (d : α) : α := (lookup l a).getD d

/-- Write a key; writing `d` removes the entry. -/
def sput {α : Type} [DecidableEq α] (l : List (Nat × α)) (a : Nat) (x d : α) : List (Nat × α) :=
  if x = d then eraseKey l a else insertKey l a x

/-- Every key of the table is above `b`, and the keys rise strictly. -/
def risingFrom {α : Type} : Nat → List (Nat × α) → Bool
  | _, [] => true
  | b, (k, _) :: t => decide (b < k) && risingFrom k t

/-- The keys rise strictly. -/
def rising {α : Type} : List (Nat × α) → Bool
  | [] => true
  | (k, _) :: t => risingFrom k t

end Sys2Proof.Machine
end

