-- ==== Sys2Proof/Machine/State.lean ====
section
/-! DEFINITION. The state of the module: every register field of the register maps, the storage behind the
address map, and everything the chapters give the module beside its registers. Plain data throughout:
numbered stores are sparse tables (`Sparse.lean`), queues are lists (oldest first), and `reset` is the state
after POR_N. -/

namespace Sys2Proof.Machine

/-- The six modes of 16 R428. -/
inductive Mode
  | dormant | bringUp | ready | run | hold | service
  deriving DecidableEq, Repr

/-- What the running cycle of each register's clock has brought so far (00 R13, R14), by `Field.key`: the bits that hardware or a W1S write
set, the bits that an RW write set, and the increments of a counter; and, for the current CCLK cycle, the LSRAM bytes written, with what they
held before and whether the own-core port wrote them (13 R369); and `CLK_TM_CTL.ROLE` as the cycle found it, where software has written it since
(02 R45). -/
structure CycleSt where
  sets : List (Nat × Nat)
  wrote : List (Nat × Nat)
  incs : List (Nat × Nat)
  lsram : List (Nat × Byte × Bool)
  role : Option Nat
  deriving DecidableEq, Repr

/-- Nothing has happened in the cycle. -/
def CycleSt.zero : CycleSt := ⟨[], [], [], [], none⟩

/-- What is under way between a LEC source and a core (12 R341): the sources that are active for the running CCLK cycle, the changes of LEC
lines with the CCLK cycles left to their GEC inputs, and by core the input and priority that the GEC has selected and those that the core is
offered. -/
structure EventPath where
  pulses : List Nat
  wire : List (Nat × Nat × Bool)
  selected : List (Nat × Nat × Nat)
  offered : List (Nat × Nat × Nat)
  deriving DecidableEq, Repr

/-- Nothing is under way. -/
def EventPath.zero : EventPath := ⟨[], [], [], []⟩

/-- One record of the fault log (19 R497). -/
structure FltRec where
  seq : Nat
  code : Nat
  mode : Nat
  flags : Nat
  stroke : Nat
  tb : Nat
  scyc : Nat
  tile : Nat
  loc : Nat
  pcell : Nat
  d0 : Nat
  d1 : Nat
  deriving DecidableEq, Repr

/-- A result of a cell operation that has not taken effect (03 R62, 04 R100): the cycle it takes effect, the
cycle it was issued, the slot (0-3 L, 4 A0, 5 A1, 6 M, 7 X, 8 C), the storage unit and word written (unit 7 is
the bundle predicate), and the bits written. `bank` is the visible net-store bank, or the data-memory bank. -/
structure Pend where
  due : Nat
  issued : Nat
  slot : Nat
  unit : Nat
  addr : Nat
  bank : Nat
  val : Word
  mask : Word
  deriving DecidableEq, Repr

/-- A response or answer slot (04 R114, R117, R118). `stroke` and `cyc` are those of the last request, made in replay where `replayed` says so (08
R243). -/
structure XSlot where
  val : Word
  bad : Byte
  present : Bool
  outst : Bool
  stroke : Nat
  cyc : Nat
  landed : Nat
  replayed : Bool
  deriving DecidableEq, Repr

/-- A slot after reset, a restore or run entry. -/
def XSlot.clear : XSlot := ⟨0, 0, false, false, 0xFFFFFFFFFFFFFFFF, 0xFFFF, 0, false⟩

/-- The storage and the sequencer of a physical cell (03 R61). `mem` is keyed by 65536 times the unit code of
`CELL_PERR.UNIT` plus the word: 0 instruction memory (9b+i), 1 net store (32 times the physical bank plus the
word), 2 data memory, 3 inbox, 4 word file, 5 function table, 6 loop registers. `bad` holds, under the same
keys, the bytes whose stored parity is wrong. `inbFrom` gives the cycle in which an inbox entry was written and its source, and `inbOld` what
the entry held before that cycle; `landedAt` is the cycle of the last landing of a scheduled flit, `sentAt` that of
the last departure of one, `drainedAt` that in which the last drain unit of a checkpoint left the cell; `moved` says that the
cell took its position after the restore in progress had started (08 R241). -/
structure Cell where
  mem : List (Nat × Word)
  bad : List (Nat × Byte)
  arrived : Nat
  inbFrom : List (Nat × Nat)
  inbOld : List (Nat × Nat × Word × Byte)
  landedAt : Option Nat
  sentAt : Option Nat
  dirty : Nat
  snap : Nat
  lastDirty : Nat
  bp : Bool
  next : Nat
  exec : Nat
  pend : List Pend
  slots : List (Nat × XSlot)
  prepared : Bool
  prepAll : Bool
  drained : Bool
  drainedAt : Nat
  moved : Bool
  carried : Nat
  deriving DecidableEq, Repr

/-- A cell whose storage is zeros with valid parity. -/
def Cell.zero : Cell := ⟨[], [], 0, [], [], none, none, 0, 0, 0, false, 0, 0, [], [], false, true, false, 0, false, 0⟩

/-- A scheduled flit in the fabric (06 R160-R164). `points` lists the points it still holds with their
time-base cycles, the point written as 65536 times the die (8 the hub) plus the POINT code; `land` is the
landing or quad-port cycle as a time-base value, and `due` the expected landing's stroke cycle. `lane` is one more than the logical
lane it came in by, or 0. `sb` marks the sideband bits that are wrong. -/
structure Flit where
  tile : Nat
  path : Nat
  val : Word
  bad : Byte
  epoch : Bool
  dcell : Nat
  slot : Nat
  egr : Bool
  lane : Nat
  points : List (Nat × Nat)
  land : Nat
  due : Nat
  sb : Nat
  deriving DecidableEq, Repr

/-- A SEND that has been issued and departs in the next cycle (04 R112, 06 R161): tile, logical cell, path, value, its parity
defects, the epoch bit of the cycle of issue, and what befalls it on its way (06 R171). -/
structure Send where
  tile : Nat
  lcell : Nat
  path : Nat
  val : Word
  bad : Byte
  epoch : Bool
  hit : Upset
  deriving DecidableEq, Repr

/-- An unscheduled flit (06 R176, R177) and the place where it waits. `prev` is the place it came from and
`since` the time base at which it reaches the place, by the latencies of R158. `pay` is the class's own content and `bad` the bytes of its
data with wrong parity, `tag` and `last` its TAG and LAST (R160), `chan` the spoke channel by which it came last, and `sb` marks the sideband
bits that are wrong. -/
structure UFlit where
  cls : Nat
  dest : Nat
  srcEnd : Nat
  pay : List Nat
  place : UPoint
  prev : Option UPoint
  since : Nat
  bad : Byte
  tag : Nat
  last : Bool
  chan : Nat
  sb : Nat
  deriving DecidableEq, Repr

/-- A control message waiting on a lane (07 R210): its CTYPE and the data of its beats, as far as they are
fixed before sending. -/
structure Ctl where
  ctype : Nat
  beats : List Nat
  deriving DecidableEq, Repr

/-- A scheduled flit in a lane's transmit queue (07 R194): `c` is its quad-port cycle. -/
structure TxFlit where
  val : Word
  bad : Byte
  epoch : Bool
  c : Nat
  path : Nat
  deriving DecidableEq, Repr

/-- What a physical lane holds beside its registers (07). Counts are in results, SYNCs or codewords. `txSf` and `txPos` are the superframe
being sent and its next beat, `sending` the beats left of the control message being sent, `rxSf` the number of the last SYNC received,
`bundleClass` the class of its bundle as computed last outside RUN and `bundleOf` that bundle (R217); `rxCount` the beats received of each
stroke that is not over (R199), and `identIn` says that the partner's IDENT has come in this attempt (R206); `utx` holds pairs with the time base of
their queuing, and `pairRest` the data beat of the pair whose head has left (R213). -/
structure LaneSt where
  attempts : Nat
  calInForce : Nat
  reachInForce : Nat
  syncRow : Nat
  uncRow : Nat
  measN : Nat
  measLat : Int
  measOff : Int
  tsOut : Bool
  lastTs : Nat
  txq : List TxFlit
  ctl : List Ctl
  utx : List (Nat × Word × Word)
  utxh : Word
  cred : List Nat
  rxq : List (Nat × Word × Word)
  barred : Bool
  partnerMode : Nat
  partnerArmed : Bool
  placement : Word
  changes : Nat
  ownClass : Nat
  rxCount : List (Nat × Nat)
  outN : Nat
  outStroke : Nat
  txSf : Nat
  txPos : Nat
  sending : List Nat
  rxSf : Nat
  bundleClass : Nat
  bundleOf : Nat
  pairRest : Option Nat
  identIn : Bool
  deriving DecidableEq, Repr

/-- A lane that is off. -/
def LaneSt.off : LaneSt :=
  ⟨0, 0x0001000100010002, 0, 0, 0, 0, 0, 0, false, 0, [], [], [], 0, [0, 0, 0, 0], [], false, 0, false, 0,
   0, 0, [], 0, 0, 0, 0, [], 0, 0, 0, none, false⟩

/-- A scheduled beat in a receive pad (07 R198, R201): it is handed to its quad's router in cycle `at_` along an ingress
path of its tile. `lane` is the global logical lane, `order` its order within the stroke, `logged` says that the
partner cannot roll back. -/
structure Pad where
  lane : Nat
  at_ : Nat
  order : Nat
  val : Word
  bad : Byte
  epoch : Bool
  logged : Bool
  hit : Upset
  deriving DecidableEq, Repr

/-- A trigger record (04 R121, 12 R334). -/
structure TrigRec where
  code : Nat
  val : Word
  lcell : Nat
  stroke : Nat
  scyc : Nat
  at_ : Nat
  deriving DecidableEq, Repr

/-- A design-memory request on its way to, or in the queue of, a TME (13 R362), with the stroke and the stroke cycle in which it reaches it. -/
structure MemReq where
  write : Bool
  addr : Word
  data : Word
  bmask : Byte
  tag : Nat
  lcell : Nat
  leaves : Nat
  stroke : Nat
  cyc : Nat
  deriving DecidableEq, Repr

/-- A value on its way to a response or answer slot: physical cell, slot (64 + a for answer slot a), value,
parity errors, earliest landing cycle, and the latest cycle that is on time (0 where none is stated). -/
structure Landing where
  cell : Nat
  slot : Nat
  val : Word
  bad : Byte
  at_ : Nat
  by_ : Nat
  deriving DecidableEq, Repr

/-- A host value admitted for a stroke (14, 06 R181): channel, tile, LCELL, inbox slot, promise, value and the bytes with wrong parity, TAG
and SQ index, and place; `sent` once its HOST flit has left the hub, `staged` once it lies in the tile's staging buffer, since the time
base `stagedAt`; `late` after LATE_HOST; `written` once it has gone to its inbox, and `logged` if the input log holds it. It stays listed
until a checkpoint after its stroke is complete. -/
structure HostVal where
  ch : Nat
  tile : Nat
  lcell : Nat
  slot : Nat
  promise : Nat
  val : Word
  bad : Byte
  tag : Nat
  sqIdx : Nat
  place : Nat
  sent : Bool
  staged : Bool
  stagedAt : Nat
  late : Bool
  written : Bool
  logged : Bool
  deriving DecidableEq, Repr

/-- What a tile holds beside its registers: the path table, what entries written in this cycle held before it, the spare map in force, the requests
on their way to the TME, its queue, what it has taken in the cycle `takenAt` (requests, and writes among them), the
reconstructions per channel, the log
positions of R234-R236 (records appended, first kept record, position after the last stroke marker: the end of
it, and the output log's position at the start of the resume stroke of the last complete checkpoint), the outputs fenced in the replayed stroke (per KIND and SLOT), the input records replayed, trigger records
queued, and the probe list of the last apply. -/
structure TileSt where
  pt : List (Nat × Word)
  ptBad : List (Nat × Byte)
  ptOld : List (Nat × Word × Byte)
  xspare : Nat
  uDelivered : List UFlit
  memIn : List MemReq
  memq : List MemReq
  takenAt : Nat
  taken : Nat
  takenW : Nat
  recon : List (Nat × Nat)
  jent : Nat
  inPos : Nat
  outPos : Nat
  inKept : Nat
  outKept : Nat
  inMark : Nat
  outMark : Nat
  outStart : Nat
  fenced : List (Nat × Nat)
  consumed : List Nat
  trigQ : List TrigRec
  unwound : Bool
  probes : List (Nat × Nat)
  zeroing : Bool
  deriving DecidableEq, Repr

/-- A tile after POR_N. -/
def TileSt.zero : TileSt :=
  ⟨[], [], [], 0, [], [], [], 0, 0, 0, [], 0, 0, 0, 0, 0, 0, 0, 0, [], [], [], false, [], false⟩

/-- The stroke in progress (02 R31, R33): its number, its start, the period in force, the start of the next
stroke once it is known, and which steps of its boundary window have run. -/
structure StrokeSt where
  no : Nat
  tk : Nat
  period : Nat
  nextAt : Option Nat
  nextNo : Nat
  started : Bool
  swapSeen : Bool
  opened : Bool
  flipped : Bool
  advanced : Bool
  paged : Bool
  entryDone : Bool
  endLast : Nat
  deriving DecidableEq, Repr

/-- A report of a module to the time master (08 R229, R239): origin, kind of R238, value. -/
structure Report where
  origin : Nat
  kind : Nat
  value : Nat
  deriving DecidableEq, Repr

/-- What the checkpoint unit holds beside its registers (08). A hold target is the stroke that a request names and the one at whose end the module
holds for it; `heldWrites` are the writes of design memory that wait for a restore or for the cells' requests, and `extWrites` those performed in HOLD or SERVICE
since the last complete checkpoint (13 R356, R364). -/
structure CkpSt where
  holdTargets : List (Nat × Nat)
  failed : Bool
  reported : Bool
  pauseEnd : Option Nat
  swapOutcome : Nat
  reports : List Report
  waitFrom : Option Nat
  restoreTo : Option Nat
  restoring : Bool
  pendRestore : Option Nat
  heldWrites : List (Nat × List Byte)
  extWrites : List (Nat × List Byte)
  faultAt : Option Nat
  faultStroke : Nat
  faultPause : Nat
  lastHoldReq : Option Nat
  rolledBack : Bool
  seqNo : Nat
  relayed : List (Nat × Nat)
  fencePending : Bool
  fltSince : List FltRec
  cause : List FltRec
  deriving DecidableEq, Repr

/-- A record of the HOSTMAP section in force (14 R386): DIR, BUDGET, TILE, GCH, the places of an IN channel (LCELL and
SLOT), and ODADDR, RINGBASE and RINGLEN of an OUT channel. -/
structure HostMapRec where
  dir : Nat
  budget : Nat
  tile : Nat
  gch : Nat
  places : List (Nat × Nat)
  odaddr : Nat
  ringBase : Nat
  ringLen : Nat
  deriving DecidableEq, Repr

/-- What a transactor channel holds beside its registers (14): positions of its output ring (entries written, released
and read), whether the 3/4 trigger is armed, entries written to its CQ, whether a message waits and since which time base value, and the
time base at the last message. -/
structure ChanSt where
  wr : Nat
  rel : Nat
  rd : Nat
  armed : Bool
  cqSeq : Nat
  msgDue : Bool
  dueAt : Nat
  lastMsg : Option Nat
  deriving DecidableEq, Repr

/-- A channel after reset. -/
def ChanSt.zero : ChanSt := ⟨0, 0, 0, true, 0, false, 0, none⟩

/-- The records that the last apply left outside the cells (05 R150-R157, R525) and the image engine; `servers` are the cores that a SERVICE
section of the last applied image names (19 R527). -/
structure ImgSt where
  placement : Nat
  module : Nat
  modules : Nat
  smax : Nat
  pmin : Nat
  fclk12 : Bool
  loaded : Bool
  failedSection : Bool
  declS : List (Nat × Nat)
  used : List (Nat × Nat)
  ckpbanks : List (Nat × Nat)
  carry : List (Nat × Nat)
  service : List (Nat × Nat)
  servers : List Nat
  hostmap : List (Nat × HostMapRec)
  applying : Option Nat
  deriving DecidableEq, Repr

/-- The beacon bookkeeping of a follower (02 R40-R45): MASTER of its source, the time base at the last beacon of the current master
and at the last one from the source lane, the highest EPOCH received, that BCN_LOST is raised, and the last beacon sent. -/
structure BeaconSt where
  master : Nat
  lastAt : Nat
  srcAt : Nat
  highEpoch : Nat
  lost : Bool
  lastSent : Nat
  deriving DecidableEq, Repr

/-- No stroke has run. -/
def StrokeSt.zero : StrokeSt := ⟨0, 0, 0x898, none, 0, false, false, false, false, false, false, false, 0⟩

/-- No checkpoint, hold or rollback is known. -/
def CkpSt.zero : CkpSt :=
  ⟨[], false, false, none, 0, [], none, none, false, none, [], [], none, 0, 0, none, false, 0, [], false, [], []⟩

/-- No image has been applied: no declared *S*, every USED mask 0. -/
def ImgSt.zero : ImgSt := ⟨0, 0, 0, 0, 0, false, false, false, [], [], [], [], [], [], [], none⟩

/-- No beacon has been received. -/
def BeaconSt.zero : BeaconSt := ⟨0, 0, 0, 0, false, 0⟩

/-- What bring-up holds beside its registers (16): the step that runs next, the journal's next SEQ, records not yet written
(steps 0 to 3), the index of the next record in each copy and the copies in use (bit d: device d), the records of this start
and of the start before, the header fields of the active profile and its REG records (step, address, value), NODE[6:0] as
sampled, the time since the start of bring-up in ms, the profile of this start, and the flash device whose runtime firmware step 17 started. -/
structure BootSt where
  step : Nat
  seqNo : Nat
  buffered : List (List Nat)
  writePos : Nat
  copies : Nat
  current : List (List Nat)
  previous : List (List Nat)
  profFlags : Nat
  bar2 : Nat
  ssvid : Nat
  ssid : Nat
  imgAddr : Nat
  regRecs : List (Nat × Nat × Nat)
  node : Nat
  ms : Nat
  profile : Nat
  runtime : Option Nat
  deriving DecidableEq, Repr

/-- Bring-up before step 0. -/
def BootSt.zero : BootSt := ⟨0, 0, [], 0, 3, [], [], 0, 0, 0, 0, 0, [], 0, 0, 0, none⟩

/-- An open segmented transfer of the dictionary (15 R412, R413): entry, direction, TOTAL, the next OFFSET, and the value as
far as written, or the snapshot that later READs are served from. -/
structure Transfer where
  index : Nat
  sub : Nat
  write : Bool
  total : Nat
  next : Nat
  data : List Nat
  deriving DecidableEq, Repr

/-- A transport of the dictionary: the request that waits (its bytes, and the MCLK cycle in which it was complete), its
open transfer, the entry of a transfer that its timeout has closed, and, for the local port of a core, BUF as GO found it. Transports are numbered 0 mailbox, 1 + n local port of core n, 32 + p CAN port p, 64 + n lane n. -/
structure XportSt where
  waiting : Option (Nat × List Nat)
  opened : Option Transfer
  lapsed : Option (Nat × Nat)
  buf : Nat
  deriving DecidableEq, Repr

/-- A transport with nothing waiting and nothing open. -/
def XportSt.idle : XportSt := ⟨none, none, none, 0⟩

/-- An RWP write whose persistence runs (15 R403): the transport, the response that waits for it, and the profile area that
is programmed with its new contents (`none` where the value alone is stored). -/
structure Persist where
  xport : Nat
  response : List Nat
  area : Nat
  bytes : List Nat
  deriving DecidableEq, Repr

/-- The node claim (15 R422, R423): the candidate, how often its CLAIM was sent again, whether the effective number was claimed
dynamically, and the heartbeats sent since it became effective; and what 0x1100:08, :03 and :04 held when they took effect last: the ports
enabled and the codes of the arbitration and the data rate, with `fresh` from a power-up of the domain until they take effect (R406). -/
structure ClaimSt where
  candidate : Nat
  retries : Nat
  dynamic : Bool
  beats : Nat
  ports : Nat
  arbRate : Nat
  dataRate : Nat
  fresh : Bool
  deriving DecidableEq, Repr

/-- No claim runs, and the communication entries have not taken effect since POR_N. -/
def ClaimSt.zero : ClaimSt := ⟨0, 0, false, 0, 3, 0, 1, true⟩

/-- The DICT request of a core that is outstanding (15 R427): its SEQ, its lane and the buffer, as GO found them. -/
structure LdictSt where
  seq : Nat
  lane : Nat
  buf : Nat
  deriving DecidableEq, Repr

/-- No request. -/
def LdictSt.zero : LdictSt := ⟨0, 0, 0⟩

/-- The test access port (18 R489-R491): the instruction, the boundary-scan register as captured, its update latches, and the
MEMACC result (DONE in bit 0, ERR in bit 1, BUSY in bit 2, read data above bit 64). -/
structure TapSt where
  ir : Nat
  scan : Nat
  latch : Nat
  macc : Nat
  deriving DecidableEq, Repr

/-- The port after a TAP reset: IDCODE is selected. -/
def TapSt.zero : TapSt := ⟨2, 0, 0, 0⟩

/-- What the trace block holds beside its registers (18): the next SEQ, the index of the record after which the window
freezes (records left after the marker), `TRC_PCTL` as it applies to the stroke in progress, per tile, the records taken that are not written
yet, as numbers of 32 bytes, the HCLK cycle in which the last was taken, and the software records and freeze markers that wait for a cycle or
for room, by value, kind, SRC and INFO (R476). -/
structure TraceSt where
  seqNo : Nat
  left : Option Nat
  pctl : List (Nat × Nat)
  buffer : List Nat
  takenAt : Option Nat
  waiting : List (Nat × Nat × Nat × Nat)
  deriving DecidableEq, Repr

/-- No record has been taken. -/
def TraceSt.zero : TraceSt := ⟨0, none, [], [], none, []⟩

/-- A poll of the rails that is due or under way (20 R521): the transaction that is next (2r: STATUS_WORD of rail r, 2r + 1: its READ_IOUT),
and what the regulators answer. -/
structure PollSt where
  next : Nat
  status : List (Option (BitVec 16))
  amps : List (BitVec 32)
  deriving DecidableEq, Repr

/-- Levels of pins that the module samples or drives and that no register shows: POR_N or WARM_N recognised low (0 none, 1
WARM_N, 2 POR_N), THERMTRIP_N asserted, the rails whose regulators report power good (bit r), the
emergencies in force by rule of 17 R472 (bit r: rail r; bit 16: temperature), a planned hold that waits for the
end of a checkpoint pause (17 R473), the domain that `PWR_CMD` is switching (17 R465), the domain whose switch-on by `PWR_CMD` ended last and
the domains that failed last, each with the HCLK cycle (17 R467), the last readings of the junction sensors, four of
each tile and two of the hub (17 R470), the poll of the PMBus master, and LEN and WRITE of its command as GO found them (20 R522). -/
structure PinSt where
  low : Nat
  trip : Bool
  pgood : Nat
  emerg : Nat
  waitHold : Bool
  switching : Option Nat
  ended : Option (Nat × Nat)
  failed : List (Nat × Nat)
  sensors : List Nat
  poll : Option PollSt
  cmdLen : Nat
  cmdWrite : Bool
  deriving DecidableEq, Repr

/-- No reset, trip or emergency. -/
def PinSt.zero : PinSt := ⟨0, false, 0, 0, false, none, none, [], [], none, 0, false⟩

/-- The PCIe endpoint beside its registers: width and rate at which the link runs (0: down), and what configuration space holds of R377-R380,
R382 and R385: D3hot, MSI-X Enable and Function Mask, the places of BAR0 and BAR2, the size of BAR2 as a power of two in GB, the codes of
Max_Payload_Size and Max_Read_Request_Size, ECRC generation and checking, the uncorrectable error status of AER, the highest rate at which
it trains (16 R439), and the HCLK cycle in which the admission unit last took an entry (02 R52). -/
structure PciSt where
  width : Nat
  rate : Nat
  d3 : Bool
  msixEn : Bool
  msixMask : Bool
  bar0 : Nat
  bar2 : Nat
  barSize : Nat
  payload : Nat
  readReq : Nat
  ecrcGen : Bool
  ecrcChk : Bool
  aer : Nat
  topRate : Nat
  admAt : Option Nat
  deriving DecidableEq, Repr

/-- An endpoint whose link is down, after a conventional reset, with a BAR2 of 1 GB. PRESUMED (log 195): the base specification's reset values,
Max_Read_Request_Size 512 bytes among them. -/
def PciSt.zero : PciSt := ⟨0, 0, false, false, false, 0, 0, 0, 0, 2, false, false, 0, 6, none⟩

/-- The flash command in progress (13 R373), with the registers as GO found them, and the reads of its device that wait for its end (13
R375): BAR0 reads by offset and length, and the address of a memory access of the test access port; `octal` says that the devices run in
8D-8D-8D (R371). -/
structure FlashSt where
  op : Nat
  dev : Nat
  off : Nat
  len : Nat
  src : Nat
  bar : List (Nat × Nat)
  macc : Option Nat
  octal : Bool
  deriving DecidableEq, Repr

/-- No flash command. -/
def FlashSt.zero : FlashSt := ⟨0, 0, 0, 0, 0, [], none, false⟩

/-- A store that waits in a core's store buffer (09 R273): its effective address, physical address, size in bytes and value. -/
structure StoreEnt where
  va : Nat
  pa : Nat
  size : Nat
  val : Nat
  deriving DecidableEq, Repr

/-- A TLB entry (11 R317): virtual page number VA[47:12] with the bits below its size 0, size (0 4 KB, 1 2 MB, 2 1 GB), ASID,
G, output address, MT, AP and XN. -/
structure TlbEnt where
  vpn : Nat
  size : Nat
  asid : Nat
  glob : Bool
  oa : Nat
  mt : Nat
  ap : Nat
  xn : Bool
  deriving DecidableEq, Repr

/-- A broadcast TLB invalidation on its way to a core (11 R322, R323): the issuing core, its number among that core's
broadcasts, K, A and X. -/
structure InvReq where
  src : Nat
  id : Nat
  k : Nat
  a : Nat
  x : Nat
  deriving DecidableEq, Repr

/-- A broadcast of a core that some core has not acknowledged: its number, and the cores still silent. -/
structure Bcast where
  id : Nat
  silent : List Nat
  deriving DecidableEq, Repr

/-- What one instruction of a group does when its group completes (09 R263-R265): ALU-class and load-class register results
(0 A, 1 X, 2 Y, 3 SP, 4 DP), the flags it names (mask and values of ST[3:0]), stores, return-stack pushes (`some`) and pops,
the delay state that a control transfer leaves (0 none, 1 taken, 2 not taken, 3 not taken and annulled) and its target, vector
register results of the ALU and of the load class (register, value, mask), VL, vector stores by element and the one that the bus refuses, TLB invalidations (K,
A, X), a cache line to drop (1 D-cache, 2 I-cache), ST and the PC as LDST and
RETI write them, and the claim of a chained exit (12 R347). `cost` is the count of CCLK cycles in
deterministic mode (R282), `mem` marks a memory access, `vector` a vector instruction, and `free` that a prediction or a
breach of the rules of deterministic mode leaves counts open. -/
structure Eff where
  alu : List (Nat × Word) := []
  loads : List (Nat × Word) := []
  mask : Nat := 0
  flags : Nat := 0
  stores : List StoreEnt := []
  rsops : List (Option Nat) := []
  delay : Nat := 0
  target : Nat := 0
  vec : List (Nat × Nat × Nat) := []
  vload : List (Nat × Nat × Nat) := []
  vl : Option Nat := none
  vstores : List (Nat × StoreEnt) := []
  vbus : Option Nat := none
  inval : List (Nat × Nat × Nat) := []
  drop : Nat := 0
  line : Nat := 0
  st : Option Nat := none
  jump : Option Nat := none
  claim : Option (Nat × Nat) := none
  cost : Nat := 1
  mem : Bool := false
  vector : Bool := false
  free : Bool := false
  deriving DecidableEq, Repr

/-- A Capo core (09 R257) beside its `CPO_`, `MMU_` and `CVU_` registers. `late` and `vlate` hold load-class results with
the groups that must still complete before they are visible (R265); `rs` is the return stack, top first; `sbuf` the store
buffer, oldest first; `delay` and `dtgt` say what the next group is (0 no delay slot, 1 the slot of a taken transfer, 2 of
an untaken one, 3 an annulled one) and where a taken transfer goes; `first` holds the first instruction of a pair until
the second comes, with its length in halfwords; `serr` the address of a failed buffered store (STORE_ERROR); `syncing`
the time base at which a TLBSYNC issued; `entry` that an event entry has just been made and no handler group has issued
(12 R345, R346); `undo` the registers before the RETI that has just ended (12 R348). `l1`, `locks` and `l2` are the TLBs,
`icache` and `dcache` the lines held (most recently filled first), `vregs` the vector registers and `vbad` their bytes with wrong parity
(10 R285). `odd`: the next group is the odd target of a transfer, one byte above `pc` (R260); `outside`: the group has left the rules of
deterministic mode (R281); `frozen`: the pipeline waits within a group (R266); `entryF1`: the cycle of F1 of an event entry, from the offer
(12 R344-R346). The idle timer of the CVU (10 R299) stands `idleFor` FCLK cycles above the time since `idleAt`. `btb` (set, tag,
target), `counters` and `hist` are the branch prediction of R271. -/
structure CoreSt where
  a : Word
  x : Word
  y : Word
  dp : Word
  sp : Word
  pc : Nat
  st : Nat
  late : List (Nat × Nat × Word)
  vlate : List (Nat × Nat × Nat × Nat)
  rs : List Nat
  sbuf : List StoreEnt
  delay : Nat
  dtgt : Nat
  first : Option (Eff × Nat)
  waiting : Bool
  stopped : Bool
  held : Bool
  halted : Bool
  haltReq : Bool
  stepping : Bool
  skipBp : Bool
  serr : Option Nat
  syncing : Option Nat
  bcasts : List Bcast
  bcastNo : Nat
  invq : List InvReq
  entry : Bool
  undo : Option (List Nat)
  l1 : List TlbEnt
  locks : List (Nat × TlbEnt)
  l2 : List TlbEnt
  icache : List Nat
  dcache : List (Nat × List Byte)
  vregs : List (Nat × Nat)
  vbad : List (Nat × Nat)
  odd : Bool
  outside : Bool
  frozen : Bool
  entryF1 : Nat
  idleAt : Nat
  idleFor : Nat
  btb : List (Nat × Nat × Nat)
  counters : List (Nat × Nat)
  hist : Nat
  deriving DecidableEq, Repr

/-- A core after reset that starts at a PC (09 R257, 11 R321): ST has IML = 0xF and SUP = 1. DESIGN CHOICE (log 208): the idle timer of its CVU (10
R299) counts from time base 0 until a vector instruction completes. -/
def CoreSt.fresh (pc : Nat) : CoreSt where
  a := 0
  x := 0
  y := 0
  dp := 0
  sp := 0
  pc := pc
  st := 0x1F00
  late := []
  vlate := []
  rs := []
  sbuf := []
  delay := 0
  dtgt := 0
  first := none
  waiting := false
  stopped := false
  held := false
  halted := false
  haltReq := false
  stepping := false
  skipBp := false
  serr := none
  syncing := none
  bcasts := []
  bcastNo := 0
  invq := []
  entry := false
  undo := none
  l1 := []
  locks := []
  l2 := []
  icache := []
  dcache := []
  vregs := []
  vbad := []
  odd := false
  outside := false
  frozen := false
  entryF1 := 0
  idleAt := 0
  idleFor := 0
  btb := []
  counters := []
  hist := 0

/-- A core as POR_N leaves it: `CPO_RSTPC` is the start of the flash window. -/
def CoreSt.reset : CoreSt := CoreSt.fresh 0x3F0000000000

/-- What the module sends to its surroundings, in order: the beats of its lanes by superframe and position, but for idle ones, the
completions of accesses, CAN frames with the codes of their arbitration rate and of their data rate (0: BRS is 0), completion-queue entries,
MSI-X messages, test access port captures (of the instruction register, then of the data register) and PMBus transactions. -/
inductive OutMsg
  | beat (lane : Nat) (superframe pos : Nat) (beat : Nat)
  | data (val : Nat) (busError : Bool)
  | can (port arb data : Nat) (bytes : List Nat)
  | host (addr : Nat) (bytes : List Nat)
  | msix (vec : Nat)
  | tap (ir val : Nat)
  | pmbus (addr code : Nat) (write : Bool) (data : List Nat)
  deriving DecidableEq, Repr

/-- Why a run can stop without a next state. -/
inductive Fault
  /-- Raised by no command: the spec describes every lateness, error and misuse of the block as state. Safe. -/
  | none
  deriving DecidableEq, Repr

/-- Why a command can be refused without an effect. -/
inductive Refusal
  /-- Raised by `exec` for a command whose meaning is not written yet. Safe: nothing is claimed of it. -/
  | notModelled (mnemonic : String)
  deriving DecidableEq, Repr

/-- The state of the module. `tb` is the time base (02 R38); `regs` the register fields that are not at their
reset values, keyed by `Field.key`; `mem` the bytes of HBM, LSRAM and flash that are not at their reset contents;
`free` counts the free values taken. -/
structure State where
  pending : List Instr
  mode : Mode
  tb : Nat
  tbFrac : Int
  clockStopped : Bool
  clockLost : Bool
  regs : List (Nat × Nat)
  cycle : CycleSt
  mem : List Host.Cell
  cells : List (Nat × Cell)
  tiles : List (Nat × TileSt)
  lanes : List (Nat × LaneSt)
  liveRemap : List (Nat × Nat)
  liveLanes : List (Nat × Nat)
  lecFresh : List (Nat × Bool)
  events : EventPath
  warned : List (Nat × Bool)
  dom : List (Nat × Nat)
  rdy : List (Nat × Bool)
  stroke : StrokeSt
  beacon : BeaconSt
  ckp : CkpSt
  img : ImgSt
  sends : List Send
  flits : List Flit
  pads : List Pad
  uflits : List UFlit
  uUsed : List Nat
  trigs : List (Nat × TrigRec)
  landings : List Landing
  hostVals : List HostVal
  chans : List (Nat × ChanSt)
  lastCh : Nat
  msixTab : List (Nat × Nat)
  msixPba : List (Nat × Bool)
  fltRecs : List FltRec
  fltNext : Nat
  fltAny : Bool
  fltHw : Nat
  emcy : List FltRec
  ents : List (Nat × Nat)
  owner : Nat
  claimAt : Nat
  refReason : Nat
  refCount : Nat
  backup : List Nat
  boot : BootSt
  xports : List (Nat × XportSt)
  persist : Option Persist
  claim : ClaimSt
  ldicts : List (Nat × LdictSt)
  tap : TapSt
  trace : TraceSt
  pins : PinSt
  flash : FlashSt
  pci : PciSt
  cores : List (Nat × CoreSt)
  out : List OutMsg
  free : Nat
  deriving DecidableEq, Repr

/-- The state after POR_N: every register at its reset value, every store empty, and bring-up about to begin
(00 R11, 16 R430, R436). -/
def State.reset : State where
  pending := []
  mode := .bringUp
  tb := 0
  tbFrac := 0
  clockStopped := true
  clockLost := false
  regs := []
  cycle := CycleSt.zero
  mem := []
  cells := []
  tiles := []
  lanes := []
  liveRemap := []
  liveLanes := []
  lecFresh := []
  events := EventPath.zero
  warned := []
  dom := []
  rdy := []
  stroke := StrokeSt.zero
  beacon := BeaconSt.zero
  ckp := CkpSt.zero
  img := ImgSt.zero
  sends := []
  flits := []
  pads := []
  uflits := []
  uUsed := []
  trigs := []
  landings := []
  hostVals := []
  chans := []
  lastCh := 255
  msixTab := []
  msixPba := []
  fltRecs := []
  fltNext := 0
  fltAny := false
  fltHw := 0
  emcy := []
  ents := []
  owner := 0
  claimAt := 0
  refReason := 0
  refCount := 0
  backup := []
  boot := BootSt.zero
  xports := []
  persist := none
  claim := ClaimSt.zero
  ldicts := []
  tap := TapSt.zero
  trace := TraceSt.zero
  pins := PinSt.zero
  flash := FlashSt.zero
  pci := PciSt.zero
  cores := []
  out := []
  free := 0

end Sys2Proof.Machine
end

