-- ==== Sys2Proof/Machine/Ops.lean ====
section
/-! DEFINITION. Named operations on the state that every family uses: register fields, the sparse stores, bytes of
memory, the stroke in progress, power and readiness, and control messages. -/

namespace Sys2Proof.Machine

/-! ### Register fields -/

/-- The key of instance i of a field. -/
def Field.key (f : Field) (i : Nat) : Nat := i * 65536 + f.id % 65536

/-- The value of a field. -/
def State.get (s : State) (f : Field) (i : Nat := 0) : Nat := sget s.regs (f.key i) (f.rst i)

/-- Set a field; the value is taken modulo the field's width. -/
def State.set (s : State) (f : Field) (i : Nat) (v : Nat) : State :=
  { s with regs := sput s.regs (f.key i) (v % 2 ^ f.width) (f.rst i) }

/-- A one-bit field as a truth value. -/
def State.flag (s : State) (f : Field) (i : Nat := 0) : Bool := s.get f i == 1

/-- The register holds what a core's own groups count: each group takes cycles of its own, before it writes. -/
def groupCounter (id : Nat) : Bool :=
  [RegName.CPO_CYC, .CPO_GRP, .CPO_MISS, .MMU_CNT, .MMU_L2CNT].any (fun r => r.ctorIdx == id % 65536 / 64)

/-- The field is one of those that R13 and R14 join within a cycle: software may write it, and no group of a core counts it (`MMU_L2CNT.INVRX` counts what other cores send). Log 144. -/
def Field.joins (f : Field) : Bool :=
  (f.acc == .rw || f.acc == .w1c || f.acc == .w1s) && (!groupCounter f.id || f.id == MMU_L2CNT_INVRX.id)

/-- The register is one of a core's own block. -/
def coreBlock (id : Nat) : Bool := decide (CPO_ID_CORE.id ≤ id % 65536) && decide (id % 65536 < CPO_SVC_MARGIN_MIN.id)

/-- FCLK cycles in one cycle of a register's clock (17 R459): MCLK for the management block and bring-up, HCLK for the hub's host, trace and
power blocks, CCLK for the cores, their debug block, the LECs and the GEC, and FCLK for everything else. DESIGN CHOICE (log 144): the table
names no clock for bring-up, wake, power and trace. -/
def registerClock (id : Nat) : Nat :=
  let r := id % 65536 / 64
  let within := fun (a b : RegName) => decide (a.ctorIdx ≤ r) && decide (r ≤ b.ctorIdx)
  if within .MGT_STAT .MGT_FLBUF || within .SPT_SEL .SPT_WAKEPRF || within .BJ_STAT .PRF_ACTIVE then 16
  else if within .PWR_CMD .PWR_PMBDATA || within .PCI_CTL .TRC_DBGEV then 4
  else if within .LEC_SENSE .GEC_STAT || within .CPO_ID .CVU_WAKES || within .TRC_CDBG .TRC_CR then 2
  else 1

/-- Note bits of a field that hardware or a W1S write sets in this cycle. -/
def CycleSt.addSet (y : CycleSt) (f : Field) (i v : Nat) : CycleSt :=
  if f.joins then { y with sets := sput y.sets (f.key i) (sget y.sets (f.key i) 0 ||| v) 0 } else y

/-- Note bits of a field that an RW write sets in this cycle. -/
def CycleSt.addWrite (y : CycleSt) (f : Field) (i v : Nat) : CycleSt :=
  if f.joins then { y with wrote := sput y.wrote (f.key i) (sget y.wrote (f.key i) 0 ||| v) 0 } else y

/-- Note k increments of a counter in this cycle. -/
def CycleSt.addInc (y : CycleSt) (f : Field) (i k : Nat) : CycleSt :=
  if f.joins then { y with incs := sput y.incs (f.key i) (sget y.incs (f.key i) 0 + k) 0 } else y

/-- Bits of a field that hardware or a W1S write has set in this cycle: no clear of this cycle takes them away (R13). -/
def CycleSt.fresh (y : CycleSt) (f : Field) (i : Nat) : Nat := if f.joins then sget y.sets (f.key i) 0 else 0

/-- Bits of a field that anything has set in this cycle: a hardware clear of this cycle leaves them (R13). -/
def CycleSt.held (y : CycleSt) (f : Field) (i : Nat) : Nat := if f.joins then sget y.sets (f.key i) 0 ||| sget y.wrote (f.key i) 0 else 0

/-- Increments of a counter in this cycle: a write of this cycle is counted on by them (R14). -/
def CycleSt.counted (y : CycleSt) (f : Field) (i : Nat) : Nat := if f.joins then sget y.incs (f.key i) 0 else 0

/-- The notes of the cycle that begins at time base tb: those of registers whose clock has no edge there stay. LSRAM ports run on CCLK. -/
def CycleSt.next (y : CycleSt) (tb : Nat) : CycleSt :=
  let keep := fun (l : List (Nat × Nat)) => l.filter (fun p => decide (tb % registerClock p.1 ≠ 0))
  ⟨keep y.sets, keep y.wrote, keep y.incs, if tb % 2 = 1 then y.lsram else [], none⟩

/-- A group of core n has completed: its next group finds the core's own block in a new cycle. -/
def CycleSt.coreDone (y : CycleSt) (n : Nat) : CycleSt :=
  let keep := fun (l : List (Nat × Nat)) => l.filter (fun p => !(coreBlock p.1 && p.1 / 65536 == n))
  { y with sets := keep y.sets, wrote := keep y.wrote, incs := keep y.incs }

/-- Set bits of a field (00 R13). -/
def State.setBits (s : State) (f : Field) (i v : Nat) : State :=
  { s.set f i (s.get f i ||| v) with cycle := s.cycle.addSet f i v }

/-- Set a one-bit field to 1, by hardware or a W1S write (00 R13). -/
def State.raise (s : State) (f : Field) (i : Nat := 0) : State := { s.set f i 1 with cycle := s.cycle.addSet f i 1 }

/-- Software writes 1 to a one-bit RW field (00 R13). -/
def State.write1 (s : State) (f : Field) (i : Nat := 0) : State := { s.set f i 1 with cycle := s.cycle.addWrite f i 1 }

/-- Clear a field, but for bits that are set in the same cycle (00 R13). -/
def State.lower (s : State) (f : Field) (i : Nat := 0) : State := s.set f i (s.get f i &&& s.cycle.held f i)

/-- Software writes 0 to a one-bit RW field: a hardware set of the same cycle stands (00 R13). -/
def State.write0 (s : State) (f : Field) (i : Nat := 0) : State := s.set f i (s.get f i &&& s.cycle.fresh f i)

/-- Advance a counter field by k, saturating at the top of its width (00 R14). -/
def State.bump (s : State) (f : Field) (i : Nat := 0) (k : Nat := 1) : State :=
  { s.set f i (min (s.get f i + k) (2 ^ f.width - 1)) with cycle := s.cycle.addInc f i k }

/-- The instances at which a field is not at its reset value. -/
def State.listed (s : State) (f : Field) : List Nat :=
  (s.regs.filter (fun p => p.1 % 65536 == f.id % 65536)).map (fun p => p.1 / 65536)

/-! ### Stores -/

/-- A physical cell. -/
def State.cell (s : State) (c : Nat) : Cell := sget s.cells c Cell.zero
/-- Replace a physical cell. -/
def State.setCell (s : State) (c : Nat) (x : Cell) : State := { s with cells := sput s.cells c x Cell.zero }
/-- A tile. -/
def State.tile (s : State) (t : Nat) : TileSt := sget s.tiles t TileSt.zero
/-- Replace a tile. -/
def State.setTile (s : State) (t : Nat) (x : TileSt) : State := { s with tiles := sput s.tiles t x TileSt.zero }
/-- A physical lane. -/
def State.lane (s : State) (n : Nat) : LaneSt := sget s.lanes n LaneSt.off
/-- Replace a physical lane. -/
def State.setLane (s : State) (n : Nat) (x : LaneSt) : State := { s with lanes := sput s.lanes n x LaneSt.off }

/-- The next free value, and the state that has taken it. -/
def State.fresh (s : State) : Word × State := (Config.freeValue s.free, { s with free := s.free + 1 })

/-- Send a message to the surroundings. -/
def State.emit (s : State) (m : OutMsg) : State := { s with out := s.out ++ [m] }

/-! ### Memory -/

/-- What a byte reads as that nothing has written: erased flash is 0xFF, HBM and LSRAM hold the zeros of their
fill (13 R357, R370). -/
def memDefault (a : Nat) : Byte := if 0x3F0000000000 ≤ a ∧ a < 0x3F0020000000 then 0xFF else 0

/-- The canonical form of memory: addresses rise strictly, and no entry is what an unlisted address reads as. -/
def Memory.wf (m : List Host.Cell) : Bool := rising m && m.all (fun p => p.2 != memDefault p.1)

/-- One byte of memory. -/
def State.byte (s : State) (a : Nat) : Byte := sget s.mem a (memDefault a)

/-- Write one byte of memory. -/
def State.setByte (s : State) (a : Nat) (b : Byte) : State := { s with mem := sput s.mem a b (memDefault a) }

/-- n bytes of memory from address a, lowest address first. -/
def State.bytes (s : State) (a : Nat) : Nat → List Byte
  | 0 => []
  | n + 1 => s.byte a :: s.bytes (a + 1) n

/-- Write bytes from address a upward. -/
def State.setBytes (s : State) (a : Nat) : List Byte → State
  | [] => s
  | b :: t => (s.setByte a b).setBytes (a + 1) t

/-- One byte as a port sees it: in the CCLK cycle in which the other port of an LSRAM writes it, the old byte (13 R369). -/
def State.portByte (s : State) (own : Bool) (a : Nat) : Byte :=
  match s.cycle.lsram.find? (fun e => e.1 == a && e.2.2 != own) with
  | some e => e.2.1
  | none => s.byte a

/-- n bytes of memory from address a, read through the own-core port of an LSRAM (`own`) or by any other way. -/
def State.portBytes (s : State) (own : Bool) (a : Nat) : Nat → List Byte
  | 0 => []
  | n + 1 => s.portByte own a :: s.portBytes own (a + 1) n

/-- A write of LSRAM bytes through a port: a byte that the own-core port writes in the same CCLK cycle is kept (13 R369). -/
def State.portWrite (s : State) (own : Bool) (a : Nat) : List Byte → State
  | [] => s
  | b :: t =>
    let noted := s.cycle.lsram.any (fun e => e.1 == a && e.2.2 == own)
    let lost := !own && s.cycle.lsram.any (fun e => e.1 == a && e.2.2)
    let s : State := if noted || lost then s else { s with cycle := { s.cycle with lsram := (a, s.byte a, own) :: s.cycle.lsram } }
    (if lost then s else s.setByte a b).portWrite own (a + 1) t

/-- The number n bytes of memory spell, least significant byte first (00 R5). -/
def State.num (s : State) (a n : Nat) : Nat := ofLe ((s.bytes a n).map (·.toNat))

/-- Write the n least significant bytes of v. -/
def State.setNum (s : State) (a n v : Nat) : State := s.setBytes a ((leBytes n v).map (BitVec.ofNat 8 ·))

/-- A 64-bit word of memory. -/
def State.word (s : State) (a : Nat) : Word := BitVec.ofNat 64 (s.num a 8)

/-- Write a 64-bit word. -/
def State.setWord (s : State) (a : Nat) (w : Word) : State := s.setNum a 8 w.toNat

/-- Write the bytes of a word that a mask selects. -/
def State.setMasked (s : State) (a : Nat) (w : Word) (m : Byte) : State :=
  s.setWord a (BitVec.ofNat 64 (merge (s.word a).toNat w.toNat (byteMask 8 m.toNat)))

/-! ### Memory regions (13 R352, R354) -/

/-- The regions of the physical address map. -/
inductive Region
  | hbm | window | tileReg | hubReg | lsram | flash | none
  deriving DecidableEq, Repr

/-- The stack offset lies in a backed range (13 R354). -/
def backed (o : Nat) : Bool := o < 0x7F0000000 || (0x880000000 ≤ o && o < 0x900000000)

/-- The region of a physical address. -/
def region (a : Nat) : Region :=
  if a < 0x4800000000 then (if backed (a % 0x900000000) then .hbm else .none)
  else if 0x100000000000 ≤ a ∧ a < 0x100088000000 then .window
  else if 0x200000000000 ≤ a ∧ a < 0x200200000000 then .tileReg
  else if 0x300000000000 ≤ a ∧ a < 0x300001000000 then .hubReg
  else if 0x300010000000 ≤ a ∧ a < 0x300010500000 then .lsram
  else if 0x3F0000000000 ≤ a ∧ a < 0x3F0020000000 then .flash
  else .none

/-- First address of stack t (01 R16). -/
def stackBase (t : Nat) : Nat := t * 0x900000000
/-- First address of the LSRAM of core n (13 R352). -/
def lsramBase (n : Nat) : Nat := 0x300010000000 + 0x40000 * n
/-- The core whose LSRAM holds an address. -/
def lsramCore (a : Nat) : Option Nat := if region a = .lsram then some (a % 0x10000000 / 0x40000) else none
/-- First address of the checkpoint area of tile t (08 R231). -/
def State.ckpArea (s : State) (t : Nat) : Nat := s.get CKP_AREA_BASE t * 2 ^ 31

/-! ### Power and readiness (16 R449, 17 R462) -/

/-- The switched domains work: a thermal trip stops every derived clock (17 R474), and POR_N or WARM_N recognised low holds the module in reset
(20 R515). -/
def State.awake (s : State) : Bool := !s.pins.trip && s.pins.low == 0
/-- Domain d reads on, and its blocks are clocked and out of reset. -/
def State.domOn (s : State) (d : Nat) : Bool := sget s.dom d 0 == 2 && s.awake
/-- The power domain of a physical cell. -/
def cellDomain (c : Nat) : Nat :=
  let g := c / 68
  if c % 68 < 64 then g else 128 + 4 * g + (c % 68 - 64)
/-- A function's ready bit; a function is named by 1,024 times its kind plus its index. -/
def State.ready (s : State) (f : Nat) : Bool := sget s.rdy f false
/-- The bit of `BJ_RDYEV` a function belongs to (16 R450). -/
def fnOwner (f : Nat) : Nat :=
  let k := f / 1024
  let i := f % 1024
  if k = 1 then i / 16 else if k = 2 then i / 64
  else if k = 5 then (if i < 4 then 8 else (i - 4) / 2)
  else if k = 6 then 8 else i

/-! ### Remap tables -/

/-- The live remap entry of physical cell c: LPOS in bits [5:0], STATE in [9:8] (03 R85). -/
def State.remap (s : State) (c : Nat) : Nat :=
  let p := c % 68
  sget s.liveRemap c (if p < 64 then p else 256)
/-- The physical cell c is ACTIVE. -/
def State.active (s : State) (c : Nat) : Bool := s.remap c / 256 == 0
/-- The physical cell that runs logical position l of cluster g. -/
def State.pcellOf (s : State) (g l : Nat) : Option Nat :=
  ((List.range 68).find? (fun p => s.remap (68 * g + p) == l)).map (68 * g + ·)
/-- LCELL of a physical cell: local cluster times 64 plus logical position (05 R152). -/
def State.lcell (s : State) (c : Nat) : Nat := c % 1088 / 68 * 64 + s.remap c % 64
/-- The physical cell of an LCELL of a tile. -/
def State.pcellL (s : State) (t l : Nat) : Option Nat := s.pcellOf (16 * t + l / 64 % 16) (l % 64)
/-- The live lane remap entry of logical lane l of a tile: PHYS in [5:0], USED in [8] (07 R218). -/
def State.laneMap (s : State) (g : Nat) : Nat := sget s.liveLanes g (g % 64)
/-- The logical lane (global number) that the live remap carries on a physical lane. -/
def State.logicalOf (s : State) (n : Nat) : Option Nat :=
  ((List.range 64).find? (fun l => s.laneMap (64 * (n / 64) + l) == 256 + n % 64)).map (64 * (n / 64) + ·)
/-- The live entry that names a physical lane has USED = 1 (07 R215). -/
def State.laneUsed (s : State) (n : Nat) : Bool := (s.logicalOf n).isSome
/-- The logical lane any live entry names a physical lane by, USED or not. -/
def State.logicalAny (s : State) (n : Nat) : Option Nat :=
  ((List.range 64).find? (fun l => s.laneMap (64 * (n / 64) + l) % 64 == n % 64)).map (64 * (n / 64) + ·)

/-! ### Modes and strokes (02, 16) -/

/-- Mode codes of 08 R246. -/
def State.modeCode (s : State) : Nat :=
  match s.mode with
  | .dormant => 0 | .bringUp => 1 | .ready => 2
  | .run => if s.flag CKP_STAT_REPLAY then 6 else 3
  | .hold => 4 | .service => 5
/-- The stroke cycle of the current FCLK cycle (02 R31). -/
def State.cyc (s : State) : Nat := s.tb - s.stroke.tk
/-- Cells may issue and strokes may start: derived clocks run, and no clock has been lost since the last reset (17 R461). -/
def State.issueClock (s : State) : Bool := !s.clockStopped && !s.clockLost
/-- A stroke is in progress. -/
def State.inStroke (s : State) : Bool := s.mode == .run && s.stroke.started
/-- Stroke k is a checkpoint stroke (08 R221). -/
def State.ckpStroke (s : State) (k : Nat) : Bool := decide (0 < k) && s.get CKP_POL_N != 0 && k % s.get CKP_POL_N == 0
/-- In READY, HOLD or BRING-UP. -/
def State.quiet (s : State) : Bool := s.mode == .ready || s.mode == .hold || s.mode == .bringUp
/-- The ceiling of a division. -/
def cdiv (a b : Nat) : Nat := (a + b - 1) / b
/-- The root runs at 4.8 GHz, so FCLK at 1.2 GHz (17 R458, R459). -/
def State.slowClock (s : State) : Bool := s.flag CLK_GEN_STAT_ROOT48
/-- Low 32 bits of the module's serial number. -/
def serialLow : Nat := Config.serial.toNat % 2 ^ 32

/-! ### Control messages (07 R210-R212) -/

/-- Queue a control message on a lane. -/
def State.pushCtl (s : State) (n : Nat) (m : Ctl) : State :=
  let l := s.lane n
  s.setLane n { l with ctl := l.ctl ++ [m] }
/-- The lanes in UP. -/
def State.upLanes (s : State) : List Nat := (s.lanes.map (·.1)).filter (fun n => s.get LNK_STAT_STATE n == 6)
/-- The lanes in UP whose partner is a module or an expander (07 R212). -/
def State.meshLanes (s : State) : List Nat :=
  s.upLanes.filter (fun n => s.get LNK_PINFO_KIND n == 1 || s.get LNK_PINFO_KIND n == 4)
/-- Queue one message on each of several lanes. -/
def State.pushAll (s : State) (l : List Nat) (m : Ctl) : State := l.foldl (fun s n => s.pushCtl n m) s
/-- The data of a PSTAT as the mode and ARMED stand (07 R210). -/
def State.pstat (s : State) (retrain : Bool) : Ctl :=
  ⟨6, [s.modeCode + 8 * b2n retrain + 16 * s.get MGT_MODE_ARMED]⟩
/-- Send PSTAT on every lane in UP (08 R246, 16 R432). -/
def State.sendPstat (s : State) : State := s.pushAll s.upLanes (s.pstat false)
/-- Take the next SEQ of the module's own announcements and hold requests. -/
def State.nextSeq (s : State) : Nat × State :=
  (s.ckp.seqNo, { s with ckp := { s.ckp with seqNo := (s.ckp.seqNo + 1) % 65536,
                                              relayed := (serialLow, s.ckp.seqNo) :: s.ckp.relayed } })
/-- Send an announcement of the module's own: kind of 08 R238 and value. -/
def State.announce (s : State) (kind value : Nat) : State :=
  let (q, s) := s.nextSeq
  s.pushAll s.meshLanes
    ⟨7, [serialLow + q * 2 ^ 32 + kind * 2 ^ 48 + s.get CLK_TM_CTL_EPOCH * 2 ^ 52, value % 2 ^ 64]⟩

/-- Change mode, and tell the partners when the mode code changes (08 R246). -/
def State.enter (s : State) (m : Mode) : State :=
  let t := { s with mode := m }
  if t.modeCode = s.modeCode then t else t.sendPstat

/-- Record a refusal of a start, load or apply (15 R407): reason, detail. -/
def State.refuse (s : State) (reason detail : Nat) : State :=
  { s with refReason := reason + 256 * (detail % 2 ^ 24), refCount := (s.refCount + 1) % 2 ^ 32 }

/-- The DICT request of core n. -/
def State.ldict (s : State) (n : Nat) : LdictSt := sget s.ldicts n LdictSt.zero

end Sys2Proof.Machine
end

