-- ==== Sys2Proof/Machine/Events.lean ====
section
/-! DEFINITION. The event path (12): sampling a LEC source, pending bits and counters, LEC lines, GEC inputs and
their assignment to cores, and the readiness bits that feed it (16 R449, R450). -/

namespace Sys2Proof.Machine

/-- LEC e is powered: a tile LEC with its tile fabric domain, LEC8 with the GEC domain (12 R351). -/
def State.lecOn (s : State) (e : Nat) : Bool := s.domOn (if e = 8 then 764 else 712 + e)

/-- A trigger or software source, which is sensed as events (12 R332). -/
def eventSource (g : Nat) : Bool := (g < 4096 && g % 512 < 0x100) || (0x1130 ≤ g && g < 0x1140)

/-- A reserved source of LEC8, never active (12 R331). -/
def reservedSource (g : Nat) : Bool :=
  4096 ≤ g && ((0x126 ≤ g % 512 && g % 512 ≤ 0x12F) || 0x140 ≤ g % 512)

/-- Core n is available for events (12 R339): its ready bit covers domain, reset and stop (16 R449). -/
def State.coreAvail (s : State) (n : Nat) : Bool := s.ready (5 * 1024 + n) && s.flag CPO_EVT_CTL_ACCEPT n

/-- The line of GEC input i: some source of its LEC has EN, PEND and this route (12 R336). -/
def State.gecLine (s : State) (i : Nat) : Bool :=
  s.lecOn (i / 64) && (s.listed LEC_EN_EN).any (fun g =>
    g / 512 == i / 64 && s.flag LEC_EN_EN g && s.flag LEC_PEND_PEND g && s.get LEC_ROUTE_LINE g == i % 64)

/-- The first available core of the fallback mask after RRPTR, in ascending order modulo 20 (12 R340). -/
def State.fallbackCore (s : State) : Option Nat :=
  ((List.range 20).map (fun k => (s.get GEC_FALLBACK_RRPTR + 1 + k) % 20)).find?
    (fun n => bit (s.get GEC_FALLBACK_MASK) n && s.coreAvail n)

/-- Assign GEC input i to a core (12 R340). -/
def State.gecAssign (s : State) (i : Nat) : State :=
  if s.coreAvail (s.get GEC_IN_TARGET i) then s.set GEC_IN_CUR i (s.get GEC_IN_TARGET i)
  else match s.fallbackCore with
    | some n => (s.set GEC_IN_CUR i n).set GEC_FALLBACK_RRPTR 0 n
    | none => ((s.set GEC_IN_CUR i 0x1F).raise GEC_STAT_ORPHAN).set GEC_STAT_ORPHIN 0 i

/-- The level that GEC input i has once every change on the way has arrived. -/
def State.wireLevel (s : State) (i : Nat) : Bool :=
  match s.events.wire.reverse.find? (fun e => e.2.1 == i) with
  | some e => e.2.2
  | none => s.flag GEC_IN_LEVEL i

/-- GEC input i follows its line. A bit of PEND or EN that changes now reads changed in the next CCLK cycle c, and the input changes in
c + 4 (12 R333, R341). -/
def State.gecSync (s : State) (i : Nat) : State :=
  let lv := s.gecLine i
  if !s.domOn 764 || s.wireLevel i == lv then s
  else { s with events := { s.events with wire := s.events.wire ++ [(5, i, lv)] } }

/-- A change reaches GEC input i: a rise counts and assigns, a fall ends the assignment (12 R335, R340). -/
def State.gecArrive (s : State) (i : Nat) (lv : Bool) : State :=
  let old := s.flag GEC_IN_LEVEL i
  if lv && !old then ((s.raise GEC_IN_LEVEL i).bump GEC_IN_CNT i).gecAssign i
  else if !lv && old then (s.lower GEC_IN_LEVEL i).set GEC_IN_CUR i 0x1F
  else s

/-- One CCLK cycle of the lines on their way to the GEC. -/
def State.wireEdge (s : State) : State :=
  let w := s.events.wire.map (fun e => (e.1 - 1, e.2))
  (w.filter (fun e => e.1 == 0)).foldl (fun s e => s.gecArrive e.2.1 e.2.2)
    { s with events := { s.events with wire := w.filter (fun e => e.1 != 0) } }

/-- Every GEC input of LEC e follows its line. -/
def State.gecSyncLec (s : State) (e : Nat) : State :=
  (List.range 64).foldl (fun s l => s.gecSync (64 * e + l)) s

/-- Set PEND of source g, add k to its counter, and let its GEC input follow (12 R333, R335). -/
def State.lecEvent (s : State) (g k : Nat) : State :=
  let t := (s.raise LEC_PEND_PEND g).bump LEC_CNT_CNT g k
  t.gecSync (64 * (g / 512) + t.get LEC_ROUTE_LINE g)

/-- LEC source g is sampled at a level (12 R332, R333, R335). -/
def State.lecSample (s : State) (g : Nat) (lv : Bool) : State :=
  if !s.lecOn (g / 512) || reservedSource g || eventSource g then s
  else
    let prev := s.flag LEC_RAW_RAW g
    let fresh := sget s.lecFresh g false
    let t : State := { s.set LEC_RAW_RAW g (b2n lv) with lecFresh := sput s.lecFresh g false false }
    let sense : Nat := t.get LEC_SENSE_SENSE g
    if sense ≤ 1 then
      let q := if sense = 0 then lv else !lv
      let old := t.flag LEC_PEND_PEND g
      let t := t.set LEC_PEND_PEND g (b2n q)
      let t := if q && !old && !fresh then t.bump LEC_CNT_CNT g else t
      t.gecSync (64 * (g / 512) + t.get LEC_ROUTE_LINE g)
    else if !fresh && ((sense == 2 && lv && !prev) || (sense == 3 && !lv && prev) || (sense == 4 && lv != prev)) then
      t.lecEvent g 1
    else t

/-- A source that an event activates for one CCLK cycle: it is sampled active now and inactive at the next edge (12 R332, R333). -/
def State.lecPulse (s : State) (g : Nat) : State :=
  if s.lecOn (g / 512) then
    let t := s.lecSample g true
    { t with events := { t.events with pulses := if t.events.pulses.any (· == g) then t.events.pulses else g :: t.events.pulses } }
  else s

/-- The level of a source after an event on it, where flags drive it too: 0x112 and 0x11C of LEC8. -/
def State.afterPulse (s : State) (g : Nat) : Bool :=
  if g = 4096 + 0x112 then (regFields .CKP_STAT).any (fun f => f.acc == .w1c && s.flag f)
  else if g = 4096 + 0x11C then s.flag PWR_STAT_CHG
  else false

/-- The sources that were active for the last CCLK cycle are sampled again. -/
def State.pulseEdge (s : State) : State :=
  s.events.pulses.foldl (fun s g => s.lecSample g (s.afterPulse g)) { s with events := { s.events with pulses := [] } }

/-- A function of the placement is in use (16 R451). -/
def State.used (s : State) (f : Nat) : Bool :=
  let k := f / 1024
  let i := f % 1024
  let clusterUsed := fun g => sget s.img.used g 0 != 0
  let tileUsed := fun t =>
    (List.range 16).any (fun c => clusterUsed (16 * t + c)) || s.liveLanes.any (fun p => p.1 / 64 == t && bit p.2 8)
  if k = 1 then clusterUsed i
  else if k = 2 then s.laneUsed i
  else if k = 0 ∨ k = 3 ∨ k = 4 then tileUsed i
  else if k = 5 then s.img.service.any (fun p => p.2 % 256 == i) || s.backup.any (· == i)
  else if i = 3 ∨ i = 4 then true
  else if i = 0 then !s.img.hostmap.isEmpty
  else false

/-- Clear ARMED and tell the partners (16 R432, R434). -/
def State.disarm (s : State) : State :=
  if s.flag MGT_MODE_ARMED then (s.lower MGT_MODE_ARMED).sendPstat else s

/-- A ready bit takes a value: a change sets the owner's bit of `BJ_RDYEV` and so its LEC source, a used function that loses readiness
disarms an armed module with reason 0x02 (16 R434, R450). -/
def State.setReady (s : State) (f : Nat) (b : Bool) : State :=
  if s.ready f == b then s
  else
    let t : State := { s with rdy := sput s.rdy f b false }
    let o := fnOwner f
    let t := (t.setBits BJ_RDYEV_CHG 0 (2 ^ o)).lecSample (if o = 8 then 4096 + 0x11E else 512 * o + 0x1FF) true
    if !b && t.flag MGT_MODE_ARMED && t.used f then t.disarm.refuse 2 f else t

end Sys2Proof.Machine
end

