-- ==== Sys2Proof/Machine/Faults.lean ====
section
/-! DEFINITION. Faults (19) and what follows from them: the fault log, hold requests (08 R237), a failed checkpoint
(08 R228) and the deadline faults (02 R49). -/

namespace Sys2Proof.Machine

/-- A stored record counts as unacknowledged (19 R499). -/
def State.unacked (s : State) (r : FltRec) : Bool :=
  let a := s.get MGT_FLT_ACK_SEQ
  let n := (s.fltNext + 2 ^ 32 - 1) % 2 ^ 32
  s.fltAny && decide (0 < (r.seq + 2 ^ 32 - a) % 2 ^ 32) &&
    decide ((r.seq + 2 ^ 32 - a) % 2 ^ 32 ≤ (n + 2 ^ 32 - a) % 2 ^ 32)

/-- The order of records of one time-base value (19 R498); records of one key keep the order of their arrival. -/
def FltRec.before (a b : FltRec) : Bool :=
  a.code < b.code || (a.code == b.code && (a.pcell < b.pcell || (a.pcell == b.pcell &&
    (a.tile < b.tile || (a.tile == b.tile && a.loc < b.loc)))))

/-- How many records at the end of a list come behind a new one of their time-base value. -/
def FltRec.behind (r : FltRec) (l : List FltRec) : Nat := (l.reverse.takeWhile (fun x => x.tb == r.tb && r.before x)).length

/-- The SEQ of a record one further on. -/
def FltRec.moveOn (x : FltRec) : FltRec := { x with seq := (x.seq + 1) % 2 ^ 32 }

/-- Put a new record in its place among those of its time-base value; the ones behind it move on by one SEQ (19 R498). -/
def insertFlt (r : FltRec) (l : List FltRec) : List FltRec :=
  l.take (l.length - r.behind l) ++ r :: (l.drop (l.length - r.behind l)).map FltRec.moveOn

/-- The records behind a new one of their time-base value move on by one SEQ. -/
def shiftFlt (r : FltRec) (l : List FltRec) : List FltRec :=
  l.take (l.length - r.behind l) ++ (l.drop (l.length - r.behind l)).map FltRec.moveOn

/-- The same fault in replay: code, stroke and location (19 R494), with the cycle for a TXLATE (07 R194) and the
cycle and dropped path for a collision (06 R169). -/
def sameFault (a b : FltRec) : Bool :=
  a.code == b.code && a.stroke == b.stroke && a.tile == b.tile && a.loc == b.loc &&
    (a.code != 0x301 || a.scyc == b.scyc) &&
    (a.code != 0x202 || (a.scyc == b.scyc && bits a.d0 33 17 == bits b.d0 33 17))

/-- EMCY frames wait in a queue of 16 (15 R421); none is sent without the entry 0x1100:06, in DORMANT, or while the
CAN and management domain is off (19 R498). A frame that waits carries the SEQ that its record has now. -/
def State.queueEmcy (s : State) (r : FltRec) : State :=
  if sget s.ents (0x1100 * 256 + 6) 1 = 0 ∨ s.mode = .dormant ∨ !s.domOn 763 then { s with emcy := shiftFlt r s.emcy }
  else if s.emcy.length < 16 then { s with emcy := insertFlt r s.emcy }
  else { s with emcy := shiftFlt r s.emcy }.raise MGT_STAT_EMCYOVF

/-- The level of a source of LEC8 that a flag register drives (12 R331): the hub deadline flags, any W1C flag of
`CKP_STAT`, the image engine, a foreign load, an unacknowledged record (19 R498) and an orphan input. -/
def State.hubLevel (s : State) (src : Nat) : Bool :=
  if src = 0x10C then s.flag CLK_DL_STAT_LATE_HOST
  else if src = 0x10D then s.flag CLK_DL_STAT_SYNC_SKEW
  else if src = 0x10E then s.flag CLK_DL_STAT_BCN_LOST
  else if src = 0x10F then s.flag CLK_DL_STAT_DL_REPEAT
  else if src = 0x112 then (regFields .CKP_STAT).any (fun f => f.acc == .w1c && s.flag f)
  else if src = 0x113 then s.flag MGT_IMG_CTL_DONE || s.flag MGT_IMG_CTL_ERR
  else if src = 0x114 then s.flag MGT_STAT_LOADFOREIGN
  else if src = 0x121 then s.fltRecs.any s.unacked
  else if src = 0x122 then s.flag GEC_STAT_ORPHAN
  else false

/-- The sources of LEC8 that flag registers drive are sampled. -/
def State.hubLevels (s : State) : State :=
  [0x10C, 0x10D, 0x10E, 0x10F, 0x112, 0x113, 0x114, 0x121, 0x122].foldl (fun s k => s.lecSample (4096 + k) (s.hubLevel k)) s

/-- Vector v is masked: by the mask bit of its MSI-X table entry, 1 after reset, or with all others while MSI-X is not enabled or the function
is masked (14 R385; PRESUMED, log 195). -/
def State.msixMasked (s : State) (v : Nat) : Bool :=
  !s.pci.msixEn || s.pci.msixMask || bit (sget s.msixTab (2 * v + 1) (2 ^ 32)) 32

/-- The endpoint reaches host memory and takes memory TLPs: its domain is on, its link is up, and it is in D0. PRESUMED (log 195): in D3hot it
neither takes nor sends memory requests. -/
def State.linkUp (s : State) : Bool := s.domOn 762 && s.pci.rate != 0 && !s.pci.d3

/-- MSI-X vector v is signalled; a masked one, or one that the endpoint cannot send now, stays pending (14 R385; log 195). -/
def State.msix (s : State) (v : Nat) : State :=
  if s.msixMasked v || !s.linkUp then { s with msixPba := sput s.msixPba v true false } else s.emit (.msix v)

/-- A vector that is pending, and neither masked nor kept back by the link, is sent. -/
def State.msixFlush (s : State) (v : Nat) : State :=
  if sget s.msixPba v false && !s.msixMasked v && s.linkUp then { s with msixPba := sput s.msixPba v false false }.emit (.msix v) else s

/-- Every vector that is pending is sent if it may be. -/
def State.msixFlushAll (s : State) : State := (s.msixPba.map (·.1)).foldl (fun s v => s.msixFlush v) s

/-- Store a record, or count it as lost (19 R497, R498). It takes its place among the records of its cycle, none of which is acknowledged
(R499; log 200). -/
def State.storeFlt (s : State) (r : FltRec) : State :=
  if s.fltRecs.countP s.unacked ≥ 1024 then (s.raise MGT_FLT_LOST_LOST).bump MGT_FLT_LOST_LOSTCNT
  else
    let r := { r with seq := (s.fltNext + 2 ^ 32 - r.behind s.fltRecs) % 2 ^ 32 }
    let recs := insertFlt r s.fltRecs
    let t := { s with fltRecs := if recs.length > 1024 then recs.drop 1 else recs,
                      fltNext := (s.fltNext + 1) % 2 ^ 32, fltAny := true }
    let t := t.queueEmcy r
    if t.flag PCI_CTL_FVEN && t.domOn 762 && t.mode != .dormant then t.msix (t.get PCI_CTL_FVEC) else t

/-- The module's own request for a system-wide hold at stroke k (08 R237): it counts for the stroke in progress if
made in cycles 0 to P − 33, and for the next one otherwise. -/
def State.holdTarget (s : State) (k : Nat) : State :=
  let h := if s.stroke.started && s.cyc + 33 ≤ s.stroke.period then s.stroke.no else s.stroke.no + 1
  { s with ckp := { s.ckp with holdTargets := s.ckp.holdTargets ++ [(k, max k h)] } }

/-- A hold request for stroke k is taken, in RUN and HOLD as 08 R237 states. DESIGN CHOICE (log 205): in every other mode, SERVICE entered from
HOLD among them, it is relayed and dropped. -/
def State.takeHoldReq (s : State) (k : Nat) : State :=
  match s.mode with
  | .run => s.holdTarget k
  | .hold =>
    match s.ckp.restoreTo with
    | some r => if k < r then s else { s with ckp := { s.ckp with holdTargets := s.ckp.holdTargets ++ [(k, max k r)] } }
    | none =>
      if k ≤ s.stroke.no then s
      else { s with ckp := { s.ckp with holdTargets := s.ckp.holdTargets ++ [(k, max k (s.stroke.no + 1))] } }
  | _ => s

/-- Send HOLDREQ for stroke k and take it (07 R210, 08 R237). -/
def State.requestHold (s : State) (k : Nat) : State :=
  let (q, s) := s.nextSeq
  (s.pushAll s.meshLanes ⟨8, [serialLow + q * 2 ^ 32, k % 2 ^ 64]⟩).takeHoldReq k

/-! ### Planned holds and the trace window (17 R473, 18 R479-R482) -/

/-- The stroke period that the module works with: that of the stroke in progress or of the hold that followed it, and before stroke 0
PERIOD; a value written in HOLD takes effect with the stroke that resumes (02 R60). -/
def State.periodNow (s : State) : Nat :=
  if s.mode = .run ∨ s.mode = .hold ∨ (s.mode = .service ∧ s.get MGT_MODE_PREV = 4) then s.stroke.period else s.get CLK_STROKE_CFG_PERIOD

/-- Request a planned hold (17 R473): `CKP_HOLDAT` and the request, unless a hold for an earlier or equal stroke is
already requested. -/
def State.plannedHold (s : State) : State :=
  let k := s.get CLK_STROKE_NO_STROKE_NO + cdiv 16384 s.periodNow + 1
  if s.ckp.holdTargets.any (fun h => decide (h.2 ≤ k)) then s else (s.set CKP_HOLDAT_STROKE 0 k).requestHold k

/-- `CKP_STAT.PENDING`: a checkpoint pause is in progress, from *T*k + *P* to its end (08 R230). -/
def State.pausing (s : State) : Bool :=
  s.inStroke && s.ckpStroke s.stroke.no && decide (s.stroke.period ≤ s.cyc) &&
    (match s.ckp.pauseEnd with | some e => decide (s.tb < e) | none => true)

/-- A checkpoint pause is in progress and neither COMPLETE nor CKP_FAILED has ended it. -/
def State.inPause (s : State) : Bool :=
  s.inStroke && s.ckpStroke s.stroke.no && !s.ckp.failed && s.ckp.pauseEnd.isNone && decide (s.stroke.period ≤ s.cyc)

/-- Plan a hold in RUN; in a checkpoint pause the request waits for its end (17 R473). -/
def State.planHold (s : State) : State :=
  if s.mode ≠ .run then s
  else if s.inPause then { s with pins := { s.pins with waitHold := true } }
  else s.plannedHold

/-- A planned hold that waited for the end of the pause is requested. -/
def State.heldPlan (s : State) : State :=
  if s.pins.waitHold then { s with pins := { s.pins with waitHold := false } }.plannedHold else s

/-- LEC8 source 0x11F follows the W1C flags of `TRC_STAT` (18). -/
def State.trcLevel (s : State) : State :=
  s.lecSample (4096 + 0x11F) (s.flag TRC_STAT_FROZEN || s.flag TRC_STAT_FULL || s.flag TRC_STAT_WERR || s.flag TRC_STAT_LOST)

/-- The window takes no record: EN = 0, FULL, or frozen (18 R479). -/
def State.trcClosed (s : State) : Bool :=
  !s.flag TRC_CTL_EN || s.flag TRC_STAT_FULL || s.flag TRC_STAT_FROZEN || s.trace.left == some 0 || !s.domOn 765

/-- The place of the next record moves on: at the end of the ring it wraps, or writing stops (18 R479). -/
def State.trcAdvance (s : State) : State :=
  let n := s.get TRC_WPTR_NEXT % 2 ^ s.get TRC_WIN_SIZE + 1
  if n < 2 ^ s.get TRC_WIN_SIZE then s.set TRC_WPTR_NEXT 0 n
  else if s.flag TRC_CTL_STOPFULL then (s.set TRC_WPTR_NEXT 0 n).raise TRC_STAT_FULL
  else (s.set TRC_WPTR_NEXT 0 0).raise TRC_WPTR_WRAPPED

/-- A trace record of 32 bytes, as a number (18 R479). -/
def traceRecord (value tb stroke kind tile src info seq : Nat) : Nat :=
  value % 2 ^ 64 + tb % 2 ^ 64 * 2 ^ 64 + stroke % 2 ^ 32 * 2 ^ 128 + kind % 256 * 2 ^ 160 + tile % 256 * 2 ^ 168 +
    src % 65536 * 2 ^ 176 + info % 65536 * 2 ^ 192 + seq % 65536 * 2 ^ 208

/-- A record enters the buffer with its SEQ (18 R476, R479). -/
def State.trcPut (s : State) (value stroke kind tile src info : Nat) : State :=
  let r := traceRecord value s.tb stroke (kind + 128 * s.get CKP_STAT_REPLAY) tile src info s.trace.seqNo
  { s with trace := { s.trace with
      seqNo := (s.trace.seqNo + 1) % 65536, left := s.trace.left.map (· - 1), buffer := s.trace.buffer ++ [r], takenAt := some (s.tb / 4) } }

/-- The buffer of 4,096 records is full: no message is taken, and a software record is discarded (18 R476, R488). -/
def State.trcFull (s : State) : Bool := decide (4096 ≤ s.trace.buffer.length)

/-- The trace block takes a message, or discards it (18 R479). -/
def State.trcTake (s : State) (value stroke kind tile src info : Nat) : State :=
  (if s.trcClosed || (kind == 4 && s.trcFull) then (s.raise TRC_STAT_LOST).bump TRC_STAT_LOSTCNT else s.trcPut value stroke kind tile src info).trcLevel

/-- The oldest record of the buffer is written into the ring. Outside backed HBM the write completes with a bus error: WERR, and EN clears. A
stack that is off ignores it (17 R463). -/
def State.trcWrite (s : State) : State :=
  match s.trace.buffer with
  | [] => s
  | r :: rest =>
    let a := s.get TRC_WIN_BASE * 4096 + 32 * (s.get TRC_WPTR_NEXT % 2 ^ s.get TRC_WIN_SIZE)
    let s := { s with trace := { s.trace with buffer := rest } }
    if region a = .hbm then ((if s.domOn (704 + a / 0x900000000) then s.setNum a 32 r else s).trcAdvance).trcLevel
    else ((s.raise TRC_STAT_WERR).lower TRC_CTL_EN).trcLevel

/-- The stack serves no request of its tile's cells, which come before every other access (13 R356). -/
def State.stackIdle (s : State) (a : Nat) : Bool := region a != .hbm || (s.tile (a / 0x900000000)).memq.isEmpty

/-- A software record waits where one is taken in the same HCLK cycle or waits already, a freeze marker while the buffer is full (18 R476). -/
def State.trcHeld (s : State) (kind : Nat) : Bool :=
  if kind = 5 then s.trcFull && !s.trcClosed else s.trace.takenAt == some (s.tb / 4) || !s.trace.waiting.isEmpty

/-- A software record or a freeze marker (18 R481, R488) is taken at once or waits, the marker as the next of all. -/
def State.trcOwn (s : State) (value kind src info : Nat) : State :=
  let r := (value, kind, src, info)
  if s.trcHeld kind then { s with trace := { s.trace with waiting := if kind = 5 then r :: s.trace.waiting else s.trace.waiting ++ [r] } }
  else s.trcTake value (s.get CLK_STROKE_NO_STROKE_NO % 2 ^ 32) kind 8 src info

/-- The first of the waiting records is taken if it need not wait on. The marker is none of the POST records after it. -/
def State.trcNext (s : State) : State :=
  match s.trace.waiting with
  | (value, kind, src, info) :: rest =>
    let u := { s with trace := { s.trace with waiting := [], left := if kind = 5 then none else s.trace.left } }
    if u.trcHeld kind then s
    else
      let t := u.trcTake value (s.get CLK_STROKE_NO_STROKE_NO % 2 ^ 32) kind 8 src info
      { t with trace := { t.trace with waiting := rest, left := if kind = 5 then s.trace.left else t.trace.left } }
  | [] => s

/-- In each HCLK cycle in which the stack serves it, one record leaves the buffer; a full ring takes none (18 R476, R479). Then one record that waits is taken. DESIGN CHOICE
(log 190): the rate, which the spec leaves to the TME's class 5. -/
def State.trcEdge (s : State) : State :=
  if s.tb % 4 ≠ 0 ∨ ¬ s.domOn 765 then s
  else (if ¬ s.flag TRC_STAT_FULL ∧ s.stackIdle (s.get TRC_WIN_BASE * 4096) then s.trcWrite else s).trcNext

/-- A freeze event (18 R481, R482): the marker, then POST more records; with HOLDEN, causes 1, 2 and 5 plan a hold. -/
def State.traceFreeze (s : State) (cause : Nat) : State :=
  if s.flag TRC_STAT_FROZEN || s.trace.left.isSome || !s.domOn 765 then s
  else
    let n := (s.get TRC_WPTR_NEXT + s.trace.buffer.length) % 2 ^ s.get TRC_WIN_SIZE
    let s := (s.set TRC_FRZST_CAUSE 0 cause).set TRC_FRZST_MARKER 0 n
    let s := s.trcOwn 0 5 0 cause
    let s := { s with trace := { s.trace with left := some (s.get TRC_FRZ_POST) } }
    if s.flag TRC_FRZ_HOLDEN && (cause == 1 || cause == 2 || cause == 5) then s.planHold else s

/-- A freeze event that is enabled by a bit of `TRC_FRZ`. -/
def State.traceEvent (s : State) (en : Field) (cause : Nat) : State := if s.flag en then s.traceFreeze cause else s

/-- The stroke that a fault detected now belongs to (02 R34): in RUN the stroke in progress, but after the done report of a
checkpoint that has not failed the next one (08 R228); outside RUN STROKE_NO (19 R498). -/
def State.faultOwner (s : State) : Nat :=
  if s.mode ≠ .run then s.get CLK_STROKE_NO_STROKE_NO
  else if s.inStroke && s.ckpStroke s.stroke.no && s.ckp.reported && !s.ckp.failed then s.stroke.no + 1
  else s.stroke.no

/-- The part of a checkpoint pause in progress that has passed (08 R230). -/
def State.pauseSoFar (s : State) : Nat :=
  if s.inStroke && s.ckpStroke s.stroke.no && s.ckp.pauseEnd.isNone then s.tb - (s.stroke.tk + s.stroke.period) else 0

/-- The hold request of a fault: one for all faults of a cycle (02 R50). -/
def State.faultHold (s : State) : State :=
  let s := s.raise CKP_CTL_HOLDOFF
  if s.ckp.lastHoldReq = some s.tb then s
  else
    let first := s.ckp.faultAt.isNone
    let s := { s with ckp := { s.ckp with
      lastHoldReq := some s.tb, faultAt := s.ckp.faultAt.or (some s.tb),
      faultStroke := if first then s.faultOwner else s.ckp.faultStroke,
      faultPause := if first then s.get CLK_PAUSE_ACC_ACC + s.pauseSoFar else s.ckp.faultPause } }
    s.requestHold s.faultOwner

/-- A fault: its record, with the repeat rule, and its hold request (19 R493-R498). Nothing of a checkpoint. -/
def State.logOnly (s : State) (code sev tile loc pcell d0 d1 : Nat) : State :=
  let inRun := s.mode == .run
  let replay := s.flag CKP_STAT_REPLAY
  let pause := inRun && s.cyc ≥ s.stroke.period
  let (w, s) := if pause then s.fresh else (0, s)
  let scyc := if pause then w.toNat % 65536 else if inRun then s.cyc else 0xFFFF
  let r0 : FltRec := ⟨0, code, s.modeCode, 0, s.faultOwner, s.tb, scyc,
    tile, loc % 65536, pcell, d0 % 2 ^ 64, d1 % 2 ^ 64⟩
  let rep := replay && sev != 4 && s.ckp.cause.any (sameFault r0)
  let sev := if rep then 2 else sev
  let hold := inRun && (sev == 1 || sev == 2 || sev == 3)
  let r := { r0 with flags := sev + 8 * b2n rep + 16 * b2n hold + 32 * b2n replay }
  let s := if rep && 0x101 ≤ code && code ≤ 0x106 then s.raise CLK_DL_STAT_DL_REPEAT else s
  let s := if rep && code == 0x202 then s.raise FAB_STAT_COLLREP tile else s
  let before := s.fltNext
  let s := { s.storeFlt r with ckp := { s.ckp with fltSince := s.ckp.fltSince ++ [r] } }
  let s := if s.fltNext = before then s else s.traceEvent TRC_FRZ_FAULTEN 2
  (if hold then s.faultHold else s).hubLevels

/-- A checkpoint pause ends at time-base value e (02 R35, 08 R230): its length from *T*k + *P* enters LASTPAUSE and
`CLK_PAUSE_ACC`. -/
def State.endPause (s : State) (e : Nat) : State :=
  let len := e - (s.stroke.tk + s.stroke.period)
  let s := { s with ckp := { s.ckp with pauseEnd := some (max e (s.stroke.tk + s.stroke.period)) } }
  (s.set CKP_TIME_LASTPAUSE 0 (min len (2 ^ 32 - 1))).set CLK_PAUSE_ACC_ACC 0 (s.get CLK_PAUSE_ACC_ACC + len)

/-- The checkpoint in progress fails (08 R228): the drain stops, the pause ends, CKP_FAILED is sent, the record is
written and a hold is requested. -/
def State.ckpFail (s : State) (cause : Nat) : State :=
  if s.ckp.failed then s
  else
    let k := s.stroke.no
    let u : State := { s with ckp := { s.ckp with failed := true, holdTargets := s.ckp.holdTargets ++ [(k, k)] } }
    ((((u.endPause s.tb).heldPlan).raise CKP_STAT_CKPFAIL).announce 5 k).logOnly 0x401 1 0xFF 0 0xFFFF cause k

/-- A fault that a block of the module raises. In a checkpoint stroke, before the module's done report, a fault that requests a hold also
fails the checkpoint, with the cause given (08 R228). -/
def State.faultCause (s : State) (cause code sev tile loc pcell d0 d1 : Nat) : State :=
  let s' := s.logOnly code sev tile loc pcell d0 d1
  if s.inStroke && (sev == 1 || sev == 2 || sev == 3) && s.ckpStroke s.stroke.no && !s.ckp.reported then s'.ckpFail cause else s'

/-- A fault with no cause of its own: cause 4, another fault (08 R228). -/
def State.fault (s : State) (code sev tile loc pcell d0 d1 : Nat) : State := s.faultCause 4 code sev tile loc pcell d0 d1

/-- A deadline fault (02 R49): its bit of `CLK_DL_STAT`, COUNT, the record, and the event of its LEC source
(none where `g` is none: the hub sources follow `CLK_DL_STAT`). -/
def State.deadline (s : State) (f : Field) (code : Nat) (g : Option Nat) (tile loc pcell d0 d1 : Nat) : State :=
  let s := ((s.raise f).bump CLK_DL_STAT_COUNT).fault code 1 tile loc pcell d0 d1
  match g with
  | some g => s.lecPulse g
  | none => s

/-- LATE_FLIT of a cell: inbox slot, path (0x1FFFF unknown), arrival cycle (0xFFFF none). -/
def State.lateFlit (s : State) (c slot path arr : Nat) : State :=
  s.deadline CLK_DL_STAT_LATE_FLIT 0x101 (some (512 * (c / 1088) + 0x1F2)) (c / 1088) (s.lcell c) c
    (slot + path * 2 ^ 24) arr

/-- LATE_MEM of a cell: tag, request cycle and stroke. -/
def State.lateMem (s : State) (c tag cyc stroke : Nat) : State :=
  s.deadline CLK_DL_STAT_LATE_MEM 0x102 (some (512 * (c / 1088) + 0x1F3)) (c / 1088) (s.lcell c) c
    (tag + cyc % 65536 * 2 ^ 16) stroke

/-- LATE_SERVICE of a cell: channel and serving core. -/
def State.lateService (s : State) (c ch core : Nat) : State :=
  s.deadline CLK_DL_STAT_LATE_SERVICE 0x103 (some (512 * (c / 1088) + 0x1F4)) (c / 1088) (s.lcell c) c
    (ch + core % 32 * 2 ^ 8) 0

/-- LATE_BOUNDARY of a cell. -/
def State.lateBoundary (s : State) (c : Nat) : State :=
  s.deadline CLK_DL_STAT_LATE_BOUNDARY 0x104 (some (512 * (c / 1088) + 0x1F5)) (c / 1088) (s.lcell c) c
    (s.get CELL_STAT_BPC c) 0

/-- The flags of `CELL_STAT` that drive a cluster's source (03 R89). -/
def cellStatFlags : List Field :=
  [CELL_STAT_BANKOVR, CELL_STAT_WCOLL, CELL_STAT_DMCONF, CELL_STAT_PERR, CELL_STAT_IMWRUN, CELL_STAT_WINRUN, CELL_STAT_INBDUP]

/-- Bit p of `CLU_FLAGS` (03 R89). -/
def State.cellFlags (s : State) (c : Nat) : Bool := cellStatFlags.any (fun f => s.flag f c && bit (s.get CELL_CTL_EVT_EN c) f.lo)

/-- The level of the cell-status source of cluster g (03 R89). -/
def State.cellStatus (s : State) (g : Nat) : Bool := (List.range 68).any (fun p => s.cellFlags (68 * g + p))

/-- The cell-status source of cluster g is sampled (03 R89). -/
def State.cellLevel (s : State) (g : Nat) : State := s.lecSample (512 * (g / 16) + 0x100 + g % 16) (s.cellStatus g)

/-- Hardware sets a flag of `CELL_STAT`, and the cluster's source follows (03 R89). -/
def State.cellFlag (s : State) (f : Field) (c : Nat) : State := (s.raise f c).cellLevel (c / 68)

/-- The first parity error is captured in `CELL_PERR` (03 R82). -/
def State.capturePerr (s : State) (c unit addr bytes : Nat) : State :=
  if s.flag CELL_PERR_VALID c then s
  else (((s.set CELL_PERR_UNIT c unit).set CELL_PERR_BYTES c bytes).set CELL_PERR_ADDR c addr).raise CELL_PERR_VALID c

/-- A parity error of a cell's storage (03 R82, R84): flag, capture, and in RUN the count and the record; `cause` is what it fails a
checkpoint with (08 R228). DESIGN CHOICE (log 147): outside RUN, for which R84 names the capture alone, PERR is set and COUNT stays. -/
def State.cellParity (s : State) (c unit addr bytes : Nat) (cause : Nat := 4) : State :=
  let s := (s.cellFlag CELL_STAT_PERR c).capturePerr c unit addr bytes
  if s.mode = .run then
    (s.bump CELL_PERR_COUNT c).faultCause cause 0x201 1 (c / 1088) (s.lcell c) c
      (s.get CELL_PERR_UNIT c + s.get CELL_PERR_BYTES c * 2 ^ 8 + s.get CELL_PERR_ADDR c * 2 ^ 16) 0
  else s

/-- A measured slack enters a margin register (02 R57-R59); `g` is its LEC source. The register warns once in a checkpoint interval. -/
def State.margin (s : State) (fMin fThr fWarn : Field) (i slack g : Nat) : State :=
  let v := min slack 0xFFFE
  if v < s.get fMin i then
    let s := s.set fMin i v
    if v < s.get fThr i ∧ !sget s.warned (fWarn.key i) false then
      ({ s.raise fWarn i with warned := sput s.warned (fWarn.key i) true false }).lecPulse g
    else s
  else s

end Sys2Proof.Machine
end

