-- ==== Sys2Proof/Machine/Beats.lean ====
section
/-! DEFINITION. Beats on a lane (07 R189-R193, R211): headers, the link calendar, superframes with their SYNC, and the codewords that
carry them. -/

namespace Sys2Proof.Machine

/-! ### Beats (R189) -/

/-- The kinds of a beat header. -/
inductive BeatHead
  | scheduled (epoch : Bool) (ts : BitVec 6)
  | unscheduled (cls : BitVec 2) (head : Bool)
  | control (cont : Bool) (ctype : BitVec 4)
  | idle
  deriving DecidableEq, Repr

/-- The eight header bits, reserved ones 0. -/
def BeatHead.code : BeatHead → Nat
  | .scheduled e t => 64 * b2n e + t.toNat
  | .unscheduled c h => 0x80 + 16 * c.toNat + 8 * b2n h
  | .control c t => 0xC0 + 16 * b2n c + t.toNat
  | .idle => 0xE0

/-- The header that eight bits spell. -/
def beatHead (h : Nat) : BeatHead :=
  if h < 0x80 then .scheduled (bit h 6) (BitVec.ofNat 6 h)
  else if h < 0xC0 then .unscheduled (BitVec.ofNat 2 (h / 16)) (bit h 3)
  else if h < 0xE0 then .control (bit h 4) (BitVec.ofNat 4 h)
  else .idle

/-- Bits of a lane's parity: one odd parity bit per byte (03 R81). -/
def parByte (w : Nat) : Nat :=
  (List.range 8).foldl (fun a k => a + (if popcount 8 (byteOf w k) % 2 = 0 then 2 ^ k else 0)) 0

/-- A beat of 80 bits: data, parity, header. -/
def mkBeat (h : BeatHead) (data parity : Nat) : Nat := data % 2 ^ 64 + parity % 256 * 2 ^ 64 + h.code * 2 ^ 72

/-- The beat of an unused position: data and parity are zero. -/
def idleBeat : Nat := mkBeat .idle 0 0

/-- The beats of a control message: CONT = 0 in the first, 1 in those that follow (R210). -/
def controlBeats (ctype : Nat) (data : List Nat) : List Nat :=
  data.zipIdx.map (fun p => mkBeat (.control (p.2 != 0) (BitVec.ofNat 4 ctype)) p.1 (parByte p.1))

/-! ### Calendar and superframe (R191-R193) -/

/-- Beats of a superframe: 257 calendar cycles. -/
def sfBeats : Nat := 8224

/-- CALID of a calendar: the XOR of its eight bytes (R193). -/
def calId (k : Nat) : Nat := (List.range 8).foldl (fun a i => a ^^^ byteOf k i) 0

/-- The kind of the position of beat b: 0 scheduled, 1 unscheduled, 2 control. -/
def kindAt (kinds b : Nat) : Nat := bits kinds (2 * (b % 32) + 1) (2 * (b % 32))

/-- The first beat from b on whose position has a kind; position 0 of calendar cycle 0 is the SYNC's (R192). -/
def nextBeat (kinds kind b : Nat) : Option Nat :=
  ((List.range 64).map (b + ·)).find? (fun x => kindAt kinds x == kind && x % sfBeats != 0)

/-- SYNC of a superframe: its number and CALID (R210). -/
def syncBeat (kinds sf : Nat) : Nat :=
  mkBeat (.control false 0) (sf % 2 ^ 32 + calId kinds * 2 ^ 32) (parByte (sf % 2 ^ 32 + calId kinds * 2 ^ 32))

/-- The transmitter of a lane begins superframe sf with its SYNC. -/
def State.sendSync (s : State) (n sf : Nat) : State :=
  (s.setLane n { s.lane n with txSf := sf, txPos := 1 }).emit (.beat n sf 0 (syncBeat (s.lane n).calInForce sf))

/-- The lane has a position of a kind. -/
def State.hasPosition (s : State) (n kind : Nat) : Bool := (nextBeat (s.lane n).calInForce kind (s.lane n).txPos).isSome

/-- The transmitter of a lane sends a beat in its next position of a kind; unused positions on the way carry idle beats, and where the
superframe ends its successor begins with a SYNC (R191-R193). DESIGN CHOICE (log 61): a command that sends says that the position has come. -/
def State.sendAt (s : State) (n kind w : Nat) : State :=
  let l := s.lane n
  match nextBeat l.calInForce kind l.txPos with
  | none => s
  | some b =>
    if b < sfBeats then (s.setLane n { l with txPos := b + 1 }).emit (.beat n l.txSf b w)
    else
      let s := s.sendSync n (l.txSf + 1)
      (s.setLane n { s.lane n with txPos := b - sfBeats + 1 }).emit (.beat n (l.txSf + 1) (b - sfBeats) w)

/-! ### Codewords (R190) -/

/-- Twice an element of GF(2^10) with field polynomial x^10 + x^3 + 1: its product with α. -/
def gfDouble (a : Nat) : Nat := if a < 512 then 2 * a else (2 * a) ^^^ 0x409

/-- The product by the low k bits of b. -/
def gfMulBits : Nat → Nat → Nat → Nat
  | 0, _, _ => 0
  | k + 1, a, b => (if b % 2 = 1 then a else 0) ^^^ gfMulBits k (gfDouble a) (b / 2)

/-- The product in GF(2^10). -/
def gfMul (a b : Nat) : Nat := gfMulBits 10 a b

/-- α^n. -/
def gfPow : Nat → Nat
  | 0 => 1
  | n + 1 => gfDouble (gfPow n)

/-- The product of x − α^(r + i) for i < n, lowest coefficient first. The spec names no first root: `Config.fecRoot` (log 61). -/
def fecGen : Nat → List Nat
  | 0 => [1]
  | n + 1 => List.zipWith (· ^^^ ·) (0 :: fecGen n) ((fecGen n).map (gfMul (gfPow (Config.fecRoot + n))) ++ [0])

/-- The 15 parity symbols of 257 message symbols: the remainder of the message by the generator, the first symbol taken as the highest
coefficient. -/
def fecParity (msg : List Nat) : List Nat :=
  (msg.foldl (fun r m =>
    let f := m ^^^ r.getLastD 0
    List.zipWith (· ^^^ ·) (0 :: r.dropLast) ((fecGen 15).map (gfMul f))) (List.replicate 15 0)).reverse

/-- A codeword: 2,570 message bits, ten to a symbol, and 150 parity bits. -/
def fecCodeword (m : Nat) : Nat :=
  let sym := (List.range 257).map (fun i => m / 2 ^ (10 * i) % 1024)
  m % 2 ^ 2570 + (fecParity sym).foldr (fun p a => p % 1024 + 1024 * a) 0 * 2 ^ 2570

/-- The decoder corrects a codeword with that many wrong symbols. -/
def fecCorrects (wrong : Nat) : Bool := decide (wrong ≤ 7)

/-- The beat that lane n has sent as beat b of superframe sf: idle where nothing was due. -/
def sentBeat (out : List OutMsg) (n sf b : Nat) : Nat :=
  (out.findSome? (fun m => match m with
    | .beat n' sf' b' w => if n' = n ∧ sf' = sf ∧ b' = b then some w else none
    | _ => none)).getD idleBeat

/-- Beats in order as one string of bits, each least significant bit first. -/
def packBeats (l : List Nat) : Nat := l.foldr (fun w a => w % 2 ^ 80 + 2 ^ 80 * a) 0

/-- Codeword c of 256 of a superframe that lane n has sent: beat 0 starts at bit 0 of codeword 0, and beats may cross codewords. -/
def sentCodeword (out : List OutMsg) (n sf c : Nat) : Nat :=
  fecCodeword (packBeats ((List.range sfBeats).map (sentBeat out n sf)) / 2 ^ (2570 * c) % 2 ^ 2570)

end Sys2Proof.Machine
end

