-- ==== Sys2Proof/Machine/Fabric.lean ====
section
/-! DEFINITION. The fabric (06): path-table lookups, routes and point cycles, collisions, landings at quad ports,
the places of unscheduled flits, draining and channel sparing. -/

namespace Sys2Proof.Machine

/-- A POINT code (06, POINT encoding) on a die, as `Flit.points` writes it. -/
def pointOf (die typ idx : Nat) : Nat := die * 65536 + typ * 4096 + idx % 4096

/-- Marks a receiver of a bridge or spoke: the channel to the entry router, where data parity is checked (06 R158, R171). -/
def receiverMark : Nat := 2 ^ 24

/-- Marks the router from which a flit leaves for a bridge or spoke channel, one cycle before the channel: its places there are those of
the channel (06 R158, R164). -/
def exitMark : Nat := 2 ^ 25

/-- Die of a point, marked or not. -/
def pointDie (p : Nat) : Nat := p % receiverMark / 65536

/-! ### The sideband (06 R160) -/

/-- Odd parity over n bits from bit lo of a number. -/
def oddParity (w lo n : Nat) : Nat := b2n (popcount n (w / 2 ^ lo) % 2 == 0)

/-- Sideband bits [43:0] with their parity in [47:44]. -/
def sidebandWord (w : Nat) : Nat :=
  w % 2 ^ 44 + oddParity w 0 11 * 2 ^ 44 + oddParity w 11 11 * 2 ^ 45 + oddParity w 22 11 * 2 ^ 46 + oddParity w 33 11 * 2 ^ 47

/-- The parity of a sideband is right. -/
def sidebandOk (w : Nat) : Bool := w % 2 ^ 48 == sidebandWord w

/-- The sideband of a scheduled flit: PATH, EPOCH, DUE. -/
def Flit.sideband (f : Flit) : Nat :=
  sidebandWord (f.path % 2 ^ 17 + b2n f.epoch * 2 ^ 17 + f.due % 2 ^ 16 * 2 ^ 18)

/-- The sideband of an unscheduled flit: CLASS, DEST, SRC, TAG, U = 1, LAST. -/
def UFlit.sideband (f : UFlit) : Nat :=
  sidebandWord (f.cls % 4 + f.dest % 2 ^ 15 * 2 ^ 2 + f.srcEnd % 2 ^ 15 * 2 ^ 17 + f.tag % 2 ^ 7 * 2 ^ 32 + 2 ^ 39 + f.tag / 2 ^ 7 % 2 * 2 ^ 40 +
    b2n f.last * 2 ^ 41)

/-- Die of core n: 8 for a hub core. -/
def coreDie (n : Nat) : Nat := if n < 4 then 8 else (n - 4) / 2

/-- The sources 0x1F0 and 0x1F1 of a tile (0x110 and 0x111 of LEC8) follow `FAB_STAT` (12 R330, R331). -/
def State.fabLevels (s : State) (die : Nat) : State :=
  let g := if die = 8 then 4096 + 0x110 else 512 * die + 0x1F0
  let e := s.flag FAB_STAT_BADENT die || s.flag FAB_STAT_DUEMISS die || s.flag FAB_STAT_RSVUSE die || s.flag FAB_STAT_TRDROP die
  let f := s.flag FAB_STAT_COLL die || s.flag FAB_STAT_COLLREP die || s.flag FAB_STAT_PTPERR die || s.flag FAB_STAT_SBPERR die ||
    s.flag FAB_STAT_DPERR die
  (s.lecSample g e).lecSample (g + 1) f

/-- The flag of `FAB_STAT` for a KIND of `FAB_ERR`. -/
def fabFlag : Nat → Option Field
  | 1 => some FAB_STAT_PTPERR | 2 => some FAB_STAT_SBPERR | 3 => some FAB_STAT_DPERR
  | 4 => some FAB_STAT_BADENT | 5 => some FAB_STAT_DUEMISS | _ => none

/-- A fabric error of a KIND at a point (06 R166, R170-R172): flag, capture, and for the parity errors of R171 the
count, the FABRIC_PARITY record and the hold. -/
def State.fabErr (s : State) (die kind point path : Nat) : State :=
  let s := match fabFlag kind with | some f => s.raise f die | none => s
  let scyc := s.cyc % 65536
  let s := if s.flag FAB_ERR_VALID die then s
    else ((((s.set FAB_ERR_KIND die kind).set FAB_ERR_POINT die point).set FAB_ERR_PATH die path).set FAB_ERR_SCYC die scyc).raise
      FAB_ERR_VALID die
  let s := if kind ≤ 3 then
      (s.bump FAB_CNT_ERRCNT die).fault 0x203 1 die (point % 65536) 0xFFFF
        (kind + point % 65536 * 2 ^ 8 + path % 2 ^ 17 * 2 ^ 24 + scyc * 2 ^ 41 + 2 ^ 57) 0
    else s
  s.fabLevels die

/-! ### Path-table entries and routes (06 R161-R164) -/

/-- Entry p of the path table of tile t. -/
def State.pathEntry (s : State) (t p : Nat) : Word := sget (s.tile t).pt p 0

/-- What a lookup of entry p in this cycle reads: an entry written in this cycle gives its old contents (06 R172). -/
def State.pathLookup (s : State) (t p : Nat) : Word × Byte :=
  match (s.tile t).ptOld.find? (fun q => q.1 == p) with
  | some q => q.2
  | none => (s.pathEntry t p, sget (s.tile t).ptBad p 0)

/-- The entry cannot be used (06 R170). -/
def badEntry (t : Nat) (e : Nat) : Bool :=
  let rt := bits e 48 29
  let kind := bits rt 19 18
  !bit e 63 || kind == 3 || (kind == 0 && bits e 21 19 != t) || (kind != 0 && bits e 21 19 == t) ||
    (kind == 2 && decide (7 < bits rt 14 10))

/-- The mesh outputs a flit holds from router a to router b of a tile, with their cycles: one hop each 2 cycles,
rows first or columns first (06 R158, R159). -/
def meshHops (die : Nat) (rowFirst : Bool) : Nat → Nat → Nat → Nat → List (Nat × Nat)
  | 0, _, _, _ => []
  | k + 1, a, b, t =>
    let rowMove := a / 4 ≠ b / 4 ∧ (rowFirst ∨ a % 4 = b % 4)
    if a = b then []
    else if rowMove then
      if b / 4 < a / 4 then (pointOf die 2 a, t) :: meshHops die rowFirst k (a - 4) b (t + 2)
      else (pointOf die 4 a, t) :: meshHops die rowFirst k (a + 4) b (t + 2)
    else if a % 4 < b % 4 then (pointOf die 3 a, t) :: meshHops die rowFirst k (a + 1) b (t + 2)
    else (pointOf die 5 a, t) :: meshHops die rowFirst k (a - 1) b (t + 2)

/-- Hops between two routers of a tile. -/
def hops (a b : Nat) : Nat := (a / 4 - b / 4) + (b / 4 - a / 4) + (a % 4 - b % 4) + (b % 4 - a % 4)

/-- The bypasses of a ring route: tile, and outgoing channel, k = 1 to r − 1 (06 R164). DESIGN CHOICE (log 181): the bypass of a channel
number is one point for both directions. -/
def ringHops (t dir chan x : Nat) : Nat → List (Nat × Nat)
  | 0 => []
  | k + 1 =>
    let tile := if dir = 0 then (t + k + 1) % 8 else (t + 8 * k + 8 - (k + 1)) % 8
    ringHops t dir chan x k ++
      [(receiverMark + pointOf tile 9 chan, x + 9 * (k + 1) - 3), (pointOf tile 9 chan, x + 9 * (k + 1) - 3),
       (pointOf tile (7 + dir) chan, x + 9 * (k + 1))]

/-- The points of a route and its landing cycle (06 R164), for a flit that reaches its source router `src` at
cycle r. `direct` says that it comes from a cell and stays in its cluster, so it passes the crossbar only. -/
def routePoints (t src e r : Nat) (egr : Bool) (fromCell : Bool) : List (Nat × Nat) × Nat :=
  let rt := bits e 48 29
  let kind := bits rt 19 18
  let dir := bits rt 17 17
  let sord := bit rt 16
  let dord := bit rt 15
  let chan := bits rt 14 10
  let dt := bits e 21 19
  let quad := bits e 27 22 / 8
  let dst := if egr then 4 + quad else bits e 18 15
  let lc := bits e 18 15 * 64 + bits e 14 9
  let fin := fun (die at_ : Nat) =>
    if egr then ([(pointOf die 0xC quad, at_)], at_ + 3)
    else ([(pointOf die 0xE dst, at_), (pointOf die 6 lc, at_ + 3)], at_ + 3)
  let inj := [(pointOf t 1 src, r)]
  if kind = 0 then
    if src = dst ∧ fromCell ∧ !egr then fin t r
    else
      let (p, l) := fin t (r + 2 * hops src dst)
      (inj ++ meshHops t sord 6 src dst r ++ p, l)
  else if kind = 1 then
    let ex := 4 * (chan / 8) + (if dir = 0 then 3 else 0)
    let en := 4 * (chan / 8) + (if dir = 0 then 0 else 3)
    let n := if dir = 0 then (dt + 8 - t) % 8 else (t + 8 - dt) % 8
    let x := r + 1 + 2 * hops src ex
    let e0 := x + 9 * n - 2
    let (p, l) := fin dt (e0 + 2 * hops en dst)
    (inj ++ meshHops t sord 6 src ex r ++ [(exitMark + pointOf t 1 ex, x - 1), (pointOf t (7 + dir) chan, x)] ++ ringHops t dir chan x (n - 1) ++
      [(receiverMark + pointOf dt (8 - dir) chan, e0 - 1)] ++ meshHops dt dord 6 en dst e0 ++ p, l)
  else
    let ex := 12 + chan % 8 / 2
    let x := r + 1 + 2 * hops src ex
    let e0 := x + 15
    let (p, l) := fin dt (e0 + 2 * hops ex dst)
    (inj ++ meshHops t sord 6 src ex r ++
      [(exitMark + pointOf t 1 ex, x - 1), (pointOf t 0xA chan, x), (receiverMark + pointOf 8 0xA (8 * t + chan), x + 6),
       (pointOf 8 0xD (8 * dt + chan), x + 6), (pointOf dt 0xB chan, x + 8), (receiverMark + pointOf dt 0xB chan, x + 14)] ++
      meshHops dt dord 6 ex dst e0 ++ p, l)

/-! ### Unscheduled flits (06 R176-R181) -/

/-- Endpoint of a cell. -/
def endCell (t l : Nat) : Nat := t * 2048 + l
/-- Endpoint of a unit. -/
def endUnit (die u : Nat) : Nat := die * 2048 + 1024 + u

/-- A source asks to inject an unscheduled flit; it waits at the source until it is forwarded. It departs in the next cycle: a cell's flit takes
the source crossbar (04 R101, 06 R158). DESIGN CHOICE (log 184): a unit's flit reaches its router in that cycle; the table names no latency. -/
def State.inject (s : State) (place : UPoint) (cls dest src : Nat) (pay : List Nat) (bad : Byte := 0) (tag : Nat := 0) (last : Bool := true) : State :=
  { s with uflits := s.uflits ++ [⟨cls, dest, src, pay, place, none, s.tb + 1, bad, tag, last, 0, 0⟩] }

/-- Die a flit waits in. -/
def uDie : UPoint → Nat
  | .cell t _ => t | .unit d => d | .router t _ => t | .spoke t => t | .switch _ => 8 | .lane n => n / 64

/-- A source has not injected the flit yet. -/
def uIsSource : UPoint → Bool
  | .cell _ _ => true | .unit _ => true | .lane _ => true | _ => false

/-- Two places have one input buffer: every destination of the hub switch is reached through the input of the channel (06 R158, R178). -/
def sameInput : UPoint → UPoint → Bool
  | .switch _, .switch _ => true
  | a, b => a == b

/-- The flit uses a credit of the hop from place a to place b: it is under way to b or waits there, or, a TRACE flit, took the credit at its
source at once (06 R182, 18 R475). -/
def UFlit.usesCredit (f : UFlit) (a b : UPoint) (cls chan : Nat) : Bool :=
  f.cls == cls && ((f.prev == some a && sameInput f.place b && f.chan == chan) || (cls == 2 && uIsSource a && f.place == a))

/-- Credits of a hop for a class, on a spoke by channel: 64 less the flits that use one (06 R178). -/
def State.uCredit (s : State) (a b : UPoint) (cls : Nat) (chan : Nat := 0) : Nat := 64 - s.uflits.countP (·.usesCredit a b cls chan)

/-- A trace message of a tile is discarded for lack of credit (18 R475). -/
def State.probeDrop (s : State) (t : Nat) : State := (s.raise TRC_PSTAT_DROP t).bump TRC_PSTAT_DROPCNT t

/-- The copy of a scheduled flit is discarded for lack of credit (06 R182, 18 R475). -/
def State.traceDrop (s : State) (t : Nat) : State := ((s.raise FAB_STAT_TRDROP t).fabLevels t).probeDrop t

/-- Copy of a scheduled flit to the trace block (06 R182, 18 R476): kind 1 departure, 2 ingress; the payload holds the kind,
tile, PATH[7:0] and the value. It takes the TRACE credit of the hop to the flit's router at once, or is discarded. A copy of a departure passes
the crossbar with its flit, and waits for an injection place of the router from the cycle `since` on; one of an ingress waits at its lane
(R177). DESIGN CHOICE (log 185): while DRAIN stops TRACE flits the copy is discarded like one without a credit. -/
def State.traceCopy (s : State) (kind t : Nat) (place : UPoint) (router : UPoint) (src path : Nat) (v : Word) (bad : Byte) (since : Nat) : State :=
  if s.uCredit place router 2 = 0 ∨ bit (s.get FAB_UCTL_DRAIN t) 2 then s.traceDrop t
  else
    let at_ := if kind = 1 then (router, some place) else (place, none)
    { s with uflits := s.uflits ++ [⟨2, endUnit 8 0x32, src, [kind, t, path % 256, v.toNat], at_.1, at_.2, since, bad, path % 256, true, 0, 0⟩] }

/-- The reserved-cycle rule of a die holds at time-base value c (06 R168). -/
def State.reservedCycle (s : State) (die c : Nat) : Bool :=
  (c - s.stroke.tk) % s.get FAB_RSV_PERIOD die == s.get FAB_RSV_PHASE die

/-- Bytes of a stored path-table entry get wrong parity (06 R171). -/
def State.spoilEntry (s : State) (t p : Nat) (m : Byte) : State :=
  let x := s.tile t
  s.setTile t { x with ptBad := sput x.ptBad p (sget x.ptBad p 0 ||| m) 0
                       ptOld := x.ptOld.map (fun q => if q.1 = p then (q.1, q.2.1, q.2.2 ||| m) else q) }

/-- What befalls a scheduled flit at its lookup and on its way: the wrong bits of its sideband, and of its data's parity (06 R171). -/
def upsetSideband : Upset → Nat
  | .sideband b => 2 ^ b.val
  | _ => 0
/-- The data bytes whose parity goes wrong on the way. -/
def upsetBytes : Upset → Byte
  | .data m => m
  | _ => 0

/-- A scheduled flit departs, or enters as an ingress, along a path-table entry (06 R161, R170, R171, R174). -/
def State.launch (s : State) (t : Nat) (src lcell : Nat) (ingress : Option Nat) (path : Nat) (v : Word) (bad : Byte)
    (epoch : Bool) (dep : Nat) (hit : Upset := .none) : State :=
  let s := match hit with | .entry m => s.spoilEntry t path m | _ => s
  let (w, wBad) := s.pathLookup t path
  let e := w.toNat
  let point := match ingress with | none => pointOf t 0 lcell | some _ => pointOf t 0xC (src - 4)
  if wBad ≠ 0 then s.fabErr t 1 (point % 65536) path
  else if badEntry t e then s.fabErr t 4 (point % 65536) path
  else
    let delay := bits (bits e 48 29) 9 4
    let egr := bit e 28
    let r := dep + delay + (if ingress.isNone then 4 else 0)
    let (pts, land) := routePoints t src e r egr ingress.isNone
    let due := ((if egr then land else dep + bits e 60 49) - s.stroke.tk) % 65536
    let dcell := if egr then 64 * bits e 21 19 + bits e 27 22
      else (s.pcellOf (16 * bits e 21 19 + bits e 18 15) (bits e 14 9)).getD 8704
    let router := UPoint.router (Fin.ofNat 8 t) (Fin.ofNat 16 src)
    let s := if bit e 61 then
        match ingress with
        | none => s.traceCopy 1 t (.cell (Fin.ofNat 8 t) (Fin.ofNat 1024 lcell)) router (endCell t lcell) path v bad (dep + 4)
        | some l => s.traceCopy 2 t (.lane (Fin.ofNat 512 l)) router (endUnit t 3) path v bad dep
      else s
    { s with flits := s.flits ++ [⟨t, path, v, bad ^^^ (upsetBytes hit), epoch, dcell, bits e 8 0, egr,
        match ingress with | none => 0 | some l => l + 1, pts, land, due, (upsetSideband hit)⟩] }

/-- A SEND of a cell passes its source crossbar in this cycle (06 R158). -/
def State.passCrossbar (s : State) (t l : Nat) : State :=
  match s.pcellL t l with
  | some c => s.setCell c { s.cell c with sentAt := some s.tb }
  | none => s

/-- The SENDs of the cycle before depart: each looks up its path in this cycle (06 R161). -/
def State.departAll (s : State) : State :=
  s.sends.foldl (fun (s : State) (x : Send) => (s.passCrossbar x.tile x.lcell).launch x.tile (x.lcell / 64) x.lcell none x.path x.val x.bad x.epoch s.tb x.hit)
    { s with sends := [] }

/-! ### One FCLK cycle of the fabric -/

/-- Capacity of a point (06 R158, R169). -/
def pointCap (p : Nat) : Nat :=
  let typ := p % 65536 / 4096
  if typ = 1 ∨ (2 ≤ typ ∧ typ ≤ 5) ∨ typ = 0xC ∨ typ = 0xE then 8 else 1

/-- The route enters a router: that of a flit between two cells of one cluster does not (06 R159), and no router checks its sideband (R171). -/
def Flit.passesRouter (f : Flit) : Bool := f.points.any (fun q => q.1 % 65536 / 4096 == 1)

/-- The flit holds point p at cycle c. -/
def Flit.holds (f : Flit) (p c : Nat) : Bool := f.points.any (fun q => q.1 == p && q.2 == c)

/-- Insert a path index among rising ones. -/
def insertNat (a : Nat) : List Nat → List Nat
  | [] => [a]
  | b :: t => if a ≤ b then a :: b :: t else b :: insertNat a t

/-- Sort natural numbers. -/
def sortNat (l : List Nat) : List Nat := l.foldr insertNat []

/-- Drop the flits with the highest path indices at a point beyond its capacity, keeping the list's order. DESIGN CHOICE (log 182): of two
with one index the later in the list goes. -/
def dropAt (p c : Nat) : Nat → List Flit → List Flit
  | _, [] => []
  | 0, l => l
  | k + 1, l =>
    let worst := ((sortNat ((l.filter (fun f => f.holds p c)).map (·.path))).getLast?).getD 0
    let i := ((findIdxFrom (fun f : Flit => f.holds p c && f.path == worst) l.reverse 0).getD 0)
    dropAt p c k (l.eraseIdx (l.length - 1 - i))

/-- A collision at point p in the current cycle (06 R169): the lowest path indices pass. -/
def State.collision (s : State) (p : Nat) : State :=
  let here := sortNat ((s.flits.filter (fun f => f.holds p s.tb)).map (·.path))
  let cap := pointCap p
  let lost := here.drop cap
  let die := pointDie p
  let win := ((here.take cap).getLast?).getD 0
  let lo := (lost.head?).getD 0
  let n := min lost.length 15
  let point := p % 65536
  let s := { s with flits := dropAt p s.tb lost.length s.flits }
  let s := (s.raise FAB_STAT_COLL die).bump FAB_CNT_COLLCNT die
  let s := if s.flag FAB_COLL_VALID die then s
    else (((((((s.set FAB_COLL_WINPATH die win).set FAB_COLL_LOSTPATH die lo).set FAB_COLL_LOSTCNT die n).set FAB_COLL_POINT die
      point).raise FAB_COLL_VALID die).set FAB_COLLT_SCYC die s.cyc).set FAB_COLLT_STROKE die s.stroke.no)
  (s.fault 0x202 1 die point 0xFFFF (win + lo * 2 ^ 17 + n * 2 ^ 34 + point * 2 ^ 38 + 2 ^ 54) 0).fabLevels die

/-- Remove repeats, keeping first places. -/
def dedupNat : List Nat → List Nat
  | [] => []
  | a :: t => a :: (dedupNat t).filter (· != a)

/-- The point is where a flit enters a router or a die: in its cycle a flit reaches it before any other point (06 R163, R164). -/
def entersAt (p : Nat) : Bool := decide (receiverMark ≤ p) || p % 65536 / 4096 == 1

/-- The points that some flit holds in the current cycle, those at which it enters first: a flit dropped there reaches no later point. -/
def State.pointsNow (s : State) : List Nat :=
  let l := dedupNat (s.flits.flatMap (fun f => (f.points.filter (fun q => q.2 == s.tb)).map (·.1)))
  l.filter entersAt ++ l.filter (fun p => !entersAt p)

/-- The fabric of a die is powered. -/
def State.fabOn (s : State) (die : Nat) : Bool := decide (8 ≤ die) || s.domOn (712 + die)

/-- A scheduled flit that reaches a die whose fabric is off is lost. DESIGN CHOICE (log 186): no register of any die shows it. -/
def State.dropUnpowered (s : State) : State :=
  { s with flits := s.flits.filter (fun f => f.points.all (fun q => q.2 != s.tb || s.fabOn (pointDie q.1))) }

/-- A flit with a wrong sideband is dropped by the router or the hub switch that finds it (06 R171). -/
def State.sidebandDrop (s : State) (p : Nat) (f : Flit) : State :=
  State.fabErr { s with flits := s.flits.erase f } (pointDie p) 2 (p % 65536) f.path

/-- The point is at a router or the hub switch. -/
def checksSideband (p : Nat) : Bool :=
  let typ := p % 65536 / 4096
  decide (p < receiverMark) && ((1 ≤ typ && typ ≤ 5) || typ == 0xC || typ == 0xD || typ == 0xE)

/-- A scheduled flit holds a point in a reserved cycle of a die (06 R168). -/
def State.noteReserved (s : State) (die : Nat) : State :=
  if s.reservedCycle die s.tb then (s.raise FAB_STAT_RSVUSE die).fabLevels die else s

/-- One point in the current cycle: sideband parity, reserved-cycle use, data parity at receivers, capacity (06 R168, R169, R171). An exit
router shares the places of its channel. -/
def State.pointCycle (s : State) (p : Nat) : State :=
  let wrong := s.flits.filter (fun f => f.holds p s.tb && !f.passesRouter && !sidebandOk (f.sideband ^^^ f.sb))
  let s := if checksSideband p then wrong.foldl (fun s f => s.sidebandDrop p f) s else s
  let s := s.noteReserved (pointDie p)
  let s := if receiverMark ≤ p ∧ p < exitMark then
      (s.flits.filter (fun f => f.holds p s.tb && f.bad != 0)).foldl (fun s f => s.fabErr (pointDie p) 3 (p % 65536) f.path) s
    else s
  if p < exitMark ∧ pointCap p < s.flits.countP (fun f => f.holds p s.tb) then s.collision p else s

/-- The current FCLK cycle of every fabric point. -/
def State.fabricCycle (s : State) : State :=
  let s := s.dropUnpowered
  s.pointsNow.foldl (fun s p => s.pointCycle p) s

/-- A landing in the cell's inbox port: 1 flit per cell and cycle (06 R169, POINT type 6). The collision of several
flits that land together is judged when the first of them is delivered, or at the end of the cycle. -/
def State.portCollision (s : State) (c : Nat) : State :=
  match s.flits.find? (fun f => !f.egr && f.dcell == c && f.land == s.tb) with
  | some _ =>
    let p := pointOf (c / 1088) 6 (s.lcell c)
    if 1 < s.flits.countP (fun f => f.holds p s.tb) then s.collision p else s
  | none => s

/-! ### Commands -/

/-- DRAIN (06 R180). -/
def execDrainWrite (die : Fin 9) (mask : BitVec 4) (s : State) : Host.Outcome State Fault Refusal :=
  if s.domOn (if die.val = 8 then 760 else 712 + die.val) then .next (s.set FAB_UCTL_DRAIN die.val mask.toNat) else .next s

/-- A place lies in what DRAINED of a die covers: its tile, or the hub switch and the spokes (06 R180). -/
def coveredBy (die : Nat) : UPoint → Bool
  | .cell t _ => decide (t.val = die)
  | .unit d => decide (d.val = die)
  | .router t _ => decide (t.val = die)
  | .spoke t => decide (die = 8) || decide (t.val = die)
  | .switch _ => decide (die = 8)
  | .lane n => decide (n.val / 64 = die)

/-- Class k of a tile (or of the hub switch and the spokes, die 8) is drained: nothing of it is buffered there, answers at destination
crossbars and flits at units among it, and no credit that a sender there has spent is outstanding (06 R180). -/
def State.drained (s : State) (die k : Nat) : Bool :=
  !s.uflits.any (fun f => f.cls == k && (k == 2 || !uIsSource f.place) && (coveredBy die f.place || (f.prev.map (coveredBy die)).getD false)) &&
    !(s.tile die).uDelivered.any (fun f => f.cls == k) &&
    !(k == 1 && s.landings.any (fun l => decide (64 ≤ l.slot) && l.cell / 1088 == die))

/-- Two enabled slots of one direction name one channel (06 R183). -/
def State.xspareClash (s : State) (t : Nat) : Bool :=
  (s.flag FAB_XSPARE_BRO_E0 t && s.flag FAB_XSPARE_BRO_E1 t && s.get FAB_XSPARE_BRO_L0 t == s.get FAB_XSPARE_BRO_L1 t) ||
  (s.flag FAB_XSPARE_BRI_E0 t && s.flag FAB_XSPARE_BRI_E1 t && s.get FAB_XSPARE_BRI_L0 t == s.get FAB_XSPARE_BRI_L1 t)

/-- The shadow `FAB_XSPARE` of a tile as a 40-bit word. -/
def State.xspareShadow (s : State) (t : Nat) : Nat :=
  (regFields .FAB_XSPARE).foldl (fun a f => a + s.get f t * 2 ^ f.lo) 0

/-- The logical channel that the spare of a spoke direction carries in a spare map, one more than its number: bit `lo` on. -/
def spareOf (m lo : Nat) : Nat := if bit m (lo + 3) then bits m (lo + 2) lo + 1 else 0

/-- A spare map change moves channel c of a spoke direction. -/
def movesChannel (old new lo c : Nat) : Bool := spareOf old lo != spareOf new lo && (spareOf old lo == c + 1 || spareOf new lo == c + 1)

/-- The flit is buffered on a channel of tile t's spoke that the change moves: toward the hub at the spoke or at the hub switch, from the hub at
the entry router. -/
def onMoved (old new t : Nat) (f : UFlit) : Bool :=
  let spoke := UPoint.spoke (Fin.ofNat 8 t)
  let hub := UPoint.switch (Fin.ofNat 9 t)
  ((f.place == spoke || f.prev == some spoke) && movesChannel old new 32 f.chan) || (f.prev == some hub && movesChannel old new 36 f.chan)

/-- The source that sends an unscheduled flit. -/
def sourceOf (e : Nat) : UPoint :=
  if bit e 10 then .unit (Fin.ofNat 9 (e / 2048)) else .cell (Fin.ofNat 8 (e / 2048)) (Fin.ofNat 1024 e)

/-- The live spare map of a tile changes (06 R183). The unscheduled flits buffered on the spoke channels that it moves are discarded, which
restarts their credits; their sources send them again. -/
def State.spareLive (s : State) (t : Nat) : State :=
  let new := s.xspareShadow t
  let old := (s.tile t).xspare
  { s.setTile t { s.tile t with xspare := new } with uflits := s.uflits.map (fun f =>
      if onMoved old new t f then { f with place := sourceOf f.srcEnd, prev := none, since := s.tb } else f) }

/-- CHANNEL_SPARE_COMMIT (06 R183): the checks, then the live map takes the shadow map, with BUSY until
COMMIT_COMPLETE. -/
def State.spareCommit (s : State) (t : Nat) : State :=
  if s.flag FAB_CTL_BUSY t then s
  else if !s.quiet || s.xspareClash t then s.raise FAB_CTL_ERR t
  else (s.spareLive t).raise FAB_CTL_BUSY t

/-- CHANNEL_SPARE_COMMIT. -/
def execChannelSpareCommit (t : Tile) (s : State) : Host.Outcome State Fault Refusal :=
  if s.domOn (712 + t.val) then .next (s.spareCommit t.val) else .next s

/-- PATH_TABLE_WRITE: a window access to a path-table entry (06 R161, R172). A write stores the entry with good
parity; a read of an entry with a parity error returns the stored value and a bus error. -/
def State.pathWrite (s : State) (t p : Nat) (w : Word) : State :=
  let x := s.tile t
  s.setTile t { x with pt := sput x.pt p w 0, ptBad := sput x.ptBad p 0 0, ptOld := x.ptOld ++ [(p, s.pathEntry t p, sget x.ptBad p 0)] }

/-- A window read of a path-table entry: value, bus error, and the capture of R172. DESIGN CHOICE (log 183): its POINT is 0. -/
def State.pathRead (s : State) (t p : Nat) : Word × Bool × State :=
  if sget (s.tile t).ptBad p 0 ≠ 0 then (s.pathEntry t p, true, s.fabErr t 6 0 p) else (s.pathEntry t p, false, s)

/-- PATH_TABLE_WRITE: write where a value is given, else read. -/
def execPathTableWrite (t : Tile) (p : BitVec 17) (w : Option Word) (s : State) : Host.Outcome State Fault Refusal :=
  if !s.domOn (712 + t.val) then
    match w with | some _ => .next s | none => .next (s.emit (.data 0 false))
  else match w with
    | some w => .next (s.pathWrite t.val p.toNat w)
    | none => let (v, e, s) := s.pathRead t.val p.toNat; .next (s.emit (.data v.toNat e))

end Sys2Proof.Machine
end

