-- ==== Sys2Proof/Machine/CellExec.lean ====
section
/-! DEFINITION. BUNDLE_ISSUE (02 R32): a cell issues one bundle. Storage ports and conflicts (03 R62-R72), parity
checks (03 R81-R83), the slots and their operations (04), and the loop sequencer (04 R124). -/

namespace Sys2Proof.Machine

/-! ### Cell storage -/

/-- The stored word at a unit and address. -/
def Cell.rd (x : Cell) (u a : Nat) : Word := sget x.mem (65536 * u + a) 0
/-- The bytes of a word whose stored parity is wrong. -/
def Cell.rdBad (x : Cell) (u a : Nat) : Byte := sget x.bad (65536 * u + a) 0
/-- Store a word with given parity errors. -/
def Cell.wrBad (x : Cell) (u a : Nat) (w : Word) (b : Byte) : Cell :=
  { x with mem := sput x.mem (65536 * u + a) w 0, bad := sput x.bad (65536 * u + a) b 0 }
/-- Store the bits of a mask; the bytes it touches get good parity (03 R81). -/
def Cell.wr (x : Cell) (u a : Nat) (w m : Word) : Cell :=
  let v := (w &&& m) ||| (x.rd u a &&& ~~~m)
  let b := BitVec.ofNat 8 ((List.range 8).foldl (fun acc k =>
    if byteOf m.toNat k = 0 ∧ bit (x.rdBad u a).toNat k then acc + 2 ^ k else acc) 0)
  x.wrBad u a v b

/-- The 16 slots of a value: response slots 0-63 and answer slots 64-79. -/
def Cell.slot (x : Cell) (k : Nat) : XSlot := sget x.slots k XSlot.clear
/-- Replace a slot. -/
def Cell.setSlot (x : Cell) (k : Nat) (v : XSlot) : Cell := { x with slots := sput x.slots k v XSlot.clear }

/-- What inbox slot e held before an entry that arrived in the current cycle (03 R62, R76): where it came from, its value and its bytes
with wrong parity. -/
def Cell.inboxOld (x : Cell) (e : Nat) : Option (Nat × Word × Byte) := lookup x.inbOld e

/-- The entry of inbox slot e as RECV finds it in the current cycle: the one that had arrived by an earlier cycle (02 R47). -/
def Cell.inboxSees (x : Cell) (e now : Nat) : Option (Nat × Word × Byte) :=
  if !bit x.arrived e then none
  else if sget x.inbFrom e 0 / 1024 < now then some (sget x.inbFrom e 0, x.rd 3 e, x.rdBad 3 e)
  else (x.inboxOld e).filter (fun o => o.1 != 0)

/-- The bytes with wrong parity of the word that RECV reads in inbox slot e, arrived or not (02 R47, 03 R82). -/
def Cell.inboxBad (x : Cell) (e now : Nat) : Byte :=
  if sget x.inbFrom e 0 / 1024 < now then x.rdBad 3 e else ((x.inboxOld e).map (fun o => o.2.2)).getD 0

/-- The physical bank of a visible bank: state banks take the current copy, or the next copy for a write
(03 R63, R67). -/
def physBank (cur : Bool) (next : Bool) (b : Nat) : Nat :=
  if b < 12 then b else 12 + 2 * (b - 12) + b2n (cur != next)

/-! ### Results that take effect (03 R62, R66, R69) -/

/-- Rank of a slot among writes of one net-store bank in one cycle: L3 > L2 > L1 > L0 > A1 > A0 (03 R66). -/
def nsRank (slot : Nat) : Nat := if slot < 4 then slot + 3 else if slot = 5 then 2 else 1
/-- Rank of a slot among writes of one D register in one cycle: A1 > A0 > M > X (03 R69). -/
def wfRank (slot : Nat) : Nat := if slot = 5 then 4 else if slot = 4 then 3 else if slot = 6 then 2 else 1

/-- Write p loses against write q of the same cycle (03 R66, R69). -/
def Pend.losesTo (p q : Pend) : Bool :=
  (p.unit == 1 && q.unit == 1 && p.bank == q.bank && decide (nsRank p.slot < nsRank q.slot)) ||
  (p.unit == 4 && q.unit == 4 &&
    ((p.slot == q.slot && decide (p.issued < q.issued)) ||
     (p.slot != q.slot && p.addr == q.addr && decide (wfRank p.slot < wfRank q.slot))))

/-- Apply one result to a cell's storage; unit 7 is BP. -/
def Cell.apply (x : Cell) (p : Pend) : Cell :=
  if p.unit = 7 then { x with bp := p.val != 0 }
  else
    let x := x.wr p.unit p.addr p.val p.mask
    if p.unit = 2 then { x with dirty := putBit x.dirty (p.addr / 8) true } else x

/-- Among the results of one cycle, drop first the earlier results of a slot and then the losers of a bank or
register; answer the winners and whether any was dropped. -/
def settleGroup (l : List Pend) : List Pend × Bool :=
  let own := l.filter (fun p => !(l.any (fun q => p.unit == 4 && q.unit == 4 && p.slot == q.slot && decide (p.issued < q.issued))))
  let win := own.filter (fun p => !(own.any (fun q => p.losesTo q)))
  (win, win.length != l.length)

/-- Make every result that has taken effect by cycle `now` visible, cycle by cycle; answer whether writes
collided. -/
def Cell.settle : Nat → Cell → Nat → Cell × Bool
  | 0, x, _ => (x, false)
  | k + 1, x, now =>
    match (sortNat ((x.pend.filter (fun p => decide (p.due ≤ now))).map (·.due))).head? with
    | none => (x, false)
    | some d =>
      let (w, c) := settleGroup (x.pend.filter (·.due == d))
      let y := w.foldl Cell.apply { x with pend := x.pend.filter (·.due != d) }
      let (z, c') := y.settle k now
      (z, c || c')

/-- A cell with its results up to the current cycle visible, and WCOLL set if writes collided. -/
def State.settleCell (s : State) (c : Nat) : State :=
  let x := s.cell c
  if x.pend.isEmpty then s
  else
    let (y, w) := x.settle (x.pend.length) s.tb
    let s := s.setCell c y
    if w then s.cellFlag CELL_STAT_WCOLL c else s

/-! ### Reading a bundle (04 R96) -/

/-- Bundle b of a cell as a 576-bit number. -/
def Cell.bundle (x : Cell) (b : Nat) : Nat :=
  (List.range 9).foldl (fun a i => a + (x.rd 0 (9 * b + i)).toNat * 2 ^ (64 * i)) 0

/-- The words of bundle b with parity errors (03 R81, R83). -/
def Cell.bundleBad (x : Cell) (b : Nat) : List (Nat × Byte) :=
  ((List.range 9).map (fun i => (9 * b + i, x.rdBad 0 (9 * b + i)))).filter (fun p => p.2 != 0)

/-- A net-store read request: visible bank, word in the bank, bit. -/
structure NsReq where
  bank : Nat
  word : Nat
  bitPos : Nat
  deriving DecidableEq, Repr

/-- The request for a net-store address (03 R63). -/
def nsReq (a : Nat) : NsReq := ⟨bits a 14 11, bits a 10 6, bits a 5 0⟩

/-- Give a bank's four ports to its distinct words in request order (03 R64). -/
def grantPorts : List NsReq → Nat → List Nat → List Nat
  | [], _, acc => acc
  | r :: t, b, acc =>
    if r.bank = b ∧ !acc.contains r.word ∧ acc.length < 4 then grantPorts t b (acc ++ [r.word])
    else grantPorts t b acc

/-- The word that serves a request, and whether the request was in excess (03 R64, R65). -/
def serveWord (reqs : List NsReq) (r : NsReq) : Nat × Bool :=
  let ports := grantPorts reqs r.bank []
  if ports.contains r.word then (r.word, false) else ((ports.getLast?).getD r.word, true)

/-! ### Operations of the A slot (04 R106-R108) -/

/-- Sign extension of a 32-bit immediate to 64 bits. -/
def imm64 (i : Nat) : Word := BitVec.signExtend 64 (BitVec.ofNat 32 i)

/-- LEN ones. -/
def ones (len : Nat) : Word := BitVec.ofNat 64 (2 ^ len - 1)

/-- The result of a word operation with operands a, b, c and its raw 32-bit immediate (04 R107); `none` for the
empty, reserved, PACK and UNPACK encodings. -/
def aluOp (op : Nat) (a b c : Word) (raw : Nat) : Option Word :=
  let i := imm64 raw
  let z : Word := BitVec.ofNat 64 (raw % 2 ^ 32)
  let t : Bool → Word := fun x => if x then 1 else 0
  let sb := b.toNat % 64
  let si := raw % 64
  let len := raw / 64 % 64 + 1
  let pos := raw % 64
  match op with
  | 0x01 => some (a + b)
  | 0x02 => some (a - b)
  | 0x03 => some (a + i)
  | 0x04 => some i
  | 0x05 => some (z <<< 32 ||| (a &&& 0xFFFFFFFF))
  | 0x08 => some (t (a == b))
  | 0x09 => some (t (a != b))
  | 0x0A => some (t (a.slt b))
  | 0x0B => some (t (a.ult b))
  | 0x0C => some (t (a.sle b))
  | 0x0D => some (t (a.ule b))
  | 0x0E => some (t (a == i))
  | 0x0F => some (t (a.slt i))
  | 0x10 => some (t (a.ult i))
  | 0x11 => some (a &&& b)
  | 0x12 => some (a ||| b)
  | 0x13 => some (a ^^^ b)
  | 0x14 => some (a &&& ~~~b)
  | 0x15 => some (a ||| ~~~b)
  | 0x16 => some (~~~(a ^^^ b))
  | 0x17 => some (a &&& z)
  | 0x18 => some (a ||| z)
  | 0x19 => some (a ^^^ z)
  | 0x1A => some (a <<< sb)
  | 0x1B => some (a >>> sb)
  | 0x1C => some (a.sshiftRight sb)
  | 0x1D => some (a.rotateLeft sb)
  | 0x1E => some (a.rotateRight sb)
  | 0x1F => some (a <<< si)
  | 0x20 => some (a >>> si)
  | 0x21 => some (a.sshiftRight si)
  | 0x22 => some (a.rotateLeft si)
  | 0x23 => some ((b &&& a) ||| (c &&& ~~~a))
  | 0x24 => some (if a ≠ 0 then b else c)
  | 0x25 => some (a * b)
  | 0x26 => some (BitVec.ofNat 64 (a.toNat * b.toNat / 2 ^ 64))
  | 0x27 => some (BitVec.ofInt 64 (a.toInt * b.toInt / 2 ^ 64))
  | 0x28 => some (BitVec.ofNat 64 (popcount 64 a.toNat))
  | 0x29 => some (BitVec.ofNat 64 (popcount 64 (a &&& b).toNat))
  | 0x2A => some ((a >>> pos) &&& ones len)
  | 0x2B => some ((a &&& ~~~(ones len <<< pos)) ||| ((b &&& ones len) <<< pos))
  | _ => none

/-- Which of D[SA], D[SB], D[SC] an operation reads (04 R107). -/
def aluReads (op : Nat) : Bool × Bool × Bool :=
  if op = 0x23 ∨ op = 0x24 then (true, true, true)
  else if op = 4 then (false, false, false)
  else if op = 3 ∨ op = 5 ∨ (0x0E ≤ op ∧ op ≤ 0x10) ∨ (0x17 ≤ op ∧ op ≤ 0x19) ∨ (0x1F ≤ op ∧ op ≤ 0x22) ∨ op = 0x28 ∨ op = 0x2A then
    (true, false, false)
  else if op = 0x31 ∨ op = 0x2B then (true, true, false)
  else if (aluOp op 0 0 0 0).isSome then (true, true, false)
  else (false, false, false)

/-- Result latency of a word operation (04 R100). -/
def aluLatency (op : Nat) : Nat := if 0x25 ≤ op ∧ op ≤ 0x27 then 3 else 1

/-- COND passes: 0 always, 1 if BP, 2 if not BP; 3 is reserved (04 R98, R102). -/
def condPass (cond : Nat) (bp : Bool) : Bool := cond == 0 || (cond == 1 && bp) || (cond == 2 && !bp)

/-! ### The slots of one bundle -/

/-- The slots of a bundle as field values. -/
structure Slots where
  l : List Nat
  a0 : Nat
  a1 : Nat
  m : Nat
  x : Nat
  c : Nat
  deriving DecidableEq, Repr

/-- Cut a bundle into slots (04 R96). -/
def slotsOf (b : Nat) : Slots :=
  ⟨(List.range 4).map (fun k => b / 2 ^ (84 * k) % 2 ^ 84), bits b 391 336, bits b 447 392, bits b 495 448, bits b 543 496,
   bits b 575 544⟩

/-- Net-store addresses of the inputs of an L operation, I0 to I3. -/
def lInputs (l : Nat) : List Nat := [bits l 30 16, bits l 45 31, bits l 60 46, bits l 75 61]

/-- The A slot executes: a listed operation whose COND passes. -/
def aActive (a : Nat) (bp : Bool) : Bool :=
  let op := bits a 55 50
  ((aluOp op 0 0 0 0).isSome || op == 0x30 || op == 0x31) && condPass (bits a 49 48) bp

/-- Read requests of a bundle in the order of 03 R64. -/
def bundleReqs (b : Slots) (bp : Bool) : List NsReq :=
  (b.l.flatMap (fun l => if l = 0 then [] else (lInputs l).map nsReq)) ++
  ([b.a0, b.a1].flatMap (fun a => if aActive a bp && bits a 55 50 == 0x30 then [nsReq (bits a 14 0)] else [])) ++
  (if bits b.c 31 28 = 2 ∧ bits b.c 27 26 ≠ 3 then [nsReq (bits b.c 14 0)] else [])

/-- The stored word for a request in a cell: current copies for state banks. -/
def nsAddr (cur : Bool) (bank word : Nat) : Nat := 32 * physBank cur false bank + word

/-- The word and bit a request delivers. -/
def readNs (x : Cell) (cur : Bool) (reqs : List NsReq) (r : NsReq) : Word × Bool :=
  let (w, _) := serveWord reqs r
  let v := x.rd 1 (nsAddr cur r.bank w)
  (v, v.getLsbD r.bitPos)

/-- What a bundle leaves for later cycles, and what it found wrong: results, parity errors (unit, word, bytes). -/
structure Issue where
  pend : List Pend
  perr : List (Nat × Nat × Nat)
  deriving DecidableEq, Repr

/-- D register n of a cell. -/
def Cell.d (x : Cell) (n : Nat) : Word := x.rd 4 n

/-- The L operations (04 R105, 03 R77). -/
def issueL (x : Cell) (cur : Bool) (reqs : List NsReq) (t : Nat) (k l : Nat) : List Pend :=
  if l = 0 then []
  else
    let bs := (lInputs l).map (fun a => (readNs x cur reqs (nsReq a)).2)
    let idx := ofBits bs
    let v := (x.rd 5 (bits l 83 76)).getLsbD idx != bit l 0
    let o := nsReq (bits l 15 1)
    [⟨t + 2, t, k, 1, 32 * physBank cur true o.bank + o.word, o.bank,
      if v then BitVec.ofNat 64 (2 ^ o.bitPos) else 0, BitVec.ofNat 64 (2 ^ o.bitPos)⟩]
where
  /-- The number whose bit k is element k. -/
  ofBits : List Bool → Nat
    | [] => 0
    | b :: r => b2n b + 2 * ofBits r

/-- An A operation (04 R106-R110). -/
def issueA (x : Cell) (cur : Bool) (reqs : List NsReq) (t : Nat) (k a : Nat) : List Pend :=
  if !aActive a x.bp then []
  else
    let op := bits a 55 50
    let dst := bits a 47 42
    let va := x.d (bits a 41 36)
    let vb := x.d (bits a 35 30)
    let vc := x.d (bits a 5 0)
    let r := nsReq (bits a 14 0)
    if op = 0x30 then [⟨t + 2, t, k, 4, dst, 0, (readNs x cur reqs r).1, BitVec.allOnes 64⟩]
    else if op = 0x31 then
      if vb = 0 then [] else [⟨t + 2, t, k, 1, 32 * physBank cur true r.bank + r.word, r.bank, va, vb⟩]
    else match aluOp op va vb vc (bits a 31 0) with
      | some v => [⟨t + aluLatency op, t, k, 4, dst, 0, v, BitVec.allOnes 64⟩]
      | none => []

/-- The data-memory word of an M operation (04 R111). -/
def memWord (x : Cell) (m : Nat) : Nat := (x.d (bits m 35 30) + BitVec.ofNat 64 (bits m 14 0)).toNat % 32768 / 8

/-- A store issued in the previous cycle occupies the bank in this one (03 R70, R71). -/
def Cell.storeBusy (x : Cell) (t w : Nat) : Bool := x.pend.any (fun p => p.unit == 2 && p.due == t + 1 && p.bank == w % 8)

/-- An M operation (04 R111, 03 R70, R71). -/
def issueM (x : Cell) (t m : Nat) : List Pend :=
  let op := bits m 47 44
  if !condPass (bits m 43 42) x.bp then []
  else if op = 1 then
    let w := memWord x m
    [⟨t + 3, t, 6, 4, bits m 41 36, 0, if x.storeBusy t w then 0 else x.rd 2 w, BitVec.allOnes 64⟩]
  else if op = 2 then
    let mask := bits m 29 22
    if mask = 0 then []
    else [⟨t + 2, t, 6, 2, memWord x m, memWord x m % 8, x.d (bits m 41 36), BitVec.ofNat 64 (byteMask 8 mask)⟩]
  else []

/-- PRED (04 R122). -/
def issuePred (x : Cell) (cur : Bool) (reqs : List NsReq) (t c : Nat) : List Pend :=
  if bits c 31 28 ≠ 2 ∨ bits c 27 26 = 3 then []
  else
    let v := (readNs x cur reqs (nsReq (bits c 14 0))).2 != bit c 25
    let mode := bits c 27 26
    let b := if mode = 0 then v else if mode = 1 then x.bp && v else x.bp || v
    [⟨t + 1, t, 8, 7, 0, 0, if b then 1 else 0, BitVec.allOnes 64⟩]

/-- D registers a bundle's A, M, X and C operations read. -/
def dReads (x : Cell) (b : Slots) : List Nat :=
  let a := fun (w : Nat) =>
    if aActive w x.bp then
      let (p, q, r) := aluReads (bits w 55 50)
      (if p then [bits w 41 36] else []) ++ (if q then [bits w 35 30] else []) ++ (if r then [bits w 5 0] else [])
    else []
  let m := if condPass (bits b.m 43 42) x.bp then
      (if bits b.m 47 44 = 1 then [bits b.m 35 30] else if bits b.m 47 44 = 2 then [bits b.m 35 30, bits b.m 41 36] else [])
    else []
  let xo := bits b.x 47 44
  let xr := if condPass (bits b.x 43 42) x.bp then
      (if xo = 1 ∨ xo = 5 ∨ xo = 7 then [bits b.x 41 36]
       else if xo = 3 then bits b.x 35 30 :: (if bit b.x 29 then [bits b.x 41 36] else []) else [])
    else []
  let c := if bits b.c 31 28 = 1 ∧ bit b.c 26 then [48 + bits b.c 3 0] else []
  a b.a0 ++ a b.a1 ++ m ++ xr ++ c

/-- The words a bundle reads, by unit, whose parity fails: each once (03 R81, R82). Of several in one cycle the first of this list is the one
that `CELL_PERR` captures. DESIGN CHOICE (log 147): the spec orders the errors of one cell in one cycle by nothing; the model takes
instruction memory first (`issueBundle`), then the units in ascending number, and in a unit the order of the requests. -/
def parityErrs (x : Cell) (cur : Bool) (t : Nat) (b : Slots) (reqs : List NsReq) : List (Nat × Nat × Nat) :=
  let chk := fun (u : Nat) (l : List Nat) =>
    (dedupNat l).filterMap (fun a => if x.rdBad u a = 0 then none else some (u, a, (x.rdBad u a).toNat))
  let ld := if condPass (bits b.m 43 42) x.bp ∧ bits b.m 47 44 = 1 ∧ !x.storeBusy t (memWord x b.m) then [memWord x b.m] else []
  let rv := if condPass (bits b.x 43 42) x.bp ∧ bits b.x 47 44 = 2 then
      (let bad := x.inboxBad (bits b.x 8 0) t
       if bad = 0 then [] else [(3, bits b.x 8 0, bad.toNat)]) else []
  let lp := if bits b.c 31 28 = 1 then [b2n (bit b.c 27)] else []
  let sl := if condPass (bits b.x 43 42) x.bp ∧ (bits b.x 47 44 = 4 ∨ bits b.x 47 44 = 6) then
      (let k := if bits b.x 47 44 = 4 then bits b.x 5 0 else 64 + bits b.x 3 0
       if (x.slot k).present && decide ((x.slot k).landed < t) && (x.slot k).bad != 0 then [(4, bits b.x 41 36, (x.slot k).bad.toNat)] else [])
    else []
  chk 1 (reqs.map (fun r => nsAddr cur r.bank (serveWord reqs r).1)) ++ chk 2 ld ++ rv ++ chk 4 (dReads x b) ++
    chk 5 ((b.l.filter (· ≠ 0)).map (fun l => bits l 83 76)) ++ chk 6 lp ++ sl

/-! ### The loop sequencer (04 R123-R125) -/

/-- A loop register: COUNT [15:0], START [26:16], END [42:32], ACTIVE [48], as `CELL_LC0`. -/
def lcCount (w : Word) : Nat := bits w.toNat 15 0
/-- START. -/
def lcStart (w : Word) : Nat := bits w.toNat 26 16
/-- END. -/
def lcEnd (w : Word) : Nat := bits w.toNat 42 32
/-- ACTIVE. -/
def lcActive (w : Word) : Bool := bit w.toNat 48
/-- A loop register from its fields. -/
def lcMake (count start en : Nat) (act : Bool) : Word :=
  BitVec.ofNat 64 (count % 2 ^ 16 + start % 2 ^ 11 * 2 ^ 16 + en % 2 ^ 11 * 2 ^ 32 + b2n act * 2 ^ 48)

/-- The next bundle address (04 R125). -/
def succAddr (paged : Bool) (page a : Nat) : Nat := if paged then 1024 * page + (a + 1) % 1024 else (a + 1) % 2048
/-- END mapped to the running page. -/
def endAddr (paged : Bool) (page e : Nat) : Nat := if paged then 1024 * page + e % 1024 else e

/-- The end check of one level (04 R124): new loop register, next address, and whether the loop was taken. -/
def loopEnd (a : Nat) (started : Option Nat) (lv : Nat) (w : Word) (next : Nat) (taken : Bool) : Word × Nat × Bool :=
  if started ≠ some lv ∧ !taken ∧ lcActive w ∧ a = lcEnd w then
    if 1 < lcCount w then (lcMake (lcCount w - 1) (lcStart w) (lcEnd w) true, lcStart w, true)
    else (lcMake 0 (lcStart w) (lcEnd w) false, next, false)
  else (w, next, taken)

/-- The sequencer after the bundle at address a: the loop registers and the next address (04 R124). `c` is the C
slot as executed. -/
def sequence (x : Cell) (paged : Bool) (page a c : Nat) : Cell :=
  let nx := succAddr paged page a
  let isLoop := bits c 31 28 = 1
  let lv := b2n (bit c 27)
  let n := if bit c 26 then min (x.d (48 + bits c 3 0)).toNat (bits c 14 4) else bits c 14 4
  let en := endAddr paged page (bits c 25 15)
  let w0 := x.rd 6 0
  let w1 := x.rd 6 1
  let new := if n = 0 then lcMake 0 nx en false else lcMake n nx en true
  let w0' := if isLoop ∧ lv = 0 then new else w0
  let w1' := if isLoop ∧ lv = 1 then new else w1
  let next := if isLoop ∧ n = 0 then succAddr paged page en else nx
  let started := if isLoop then some lv else none
  let (w1', next, taken) := loopEnd a started 1 w1' next false
  let (w0', next, _) := loopEnd a started 0 w0' next taken
  let y := if w0' = w0 ∧ !(isLoop ∧ lv = 0) then x else x.wr 6 0 w0' (BitVec.allOnes 64)
  let y := if w1' = w1 ∧ !(isLoop ∧ lv = 1) then y else y.wr 6 1 w1' (BitVec.allOnes 64)
  { y with next := next }

/-! ### The X slot (04 R112-R121) -/

/-- A request of the slot is outstanding in cycle t: what lands in t is there from its end (03 R62, 04 R116, R118). -/
def XSlot.outstIn (q : XSlot) (t : Nat) : Bool := q.outst || (q.present && q.landed == t)

/-- The SERVICE record of a channel of a tile: CORE, and DIST, DEPTH above it (05 R152); CORE 0xFF is unbound. -/
def State.svc (s : State) (t ch : Nat) : Nat := sget s.img.service (256 * t + ch) 0xFF

/-- The X operation of a bundle issued by cell c in cycle t; `x` is the cell as it stood (04 R99). DESIGN CHOICE (log 149): LATE_SERVICE of an
SRSP on an answer slot that no SREQ has used since R92 or a restore names channel 0xFF, and the core that the image binds to it. -/
def State.issueX (s : State) (c t w : Nat) (x : Cell) (hit : Upset := .none) : State :=
  let op := bits w 47 44
  let dr := bits w 41 36
  let tile := c / 1088
  let lc := s.lcell c
  let j := t - s.stroke.tk
  let result := fun (s : State) (v : Word) =>
    let y := s.cell c
    s.setCell c { y with pend := y.pend ++ [⟨t + 2, t, 7, 4, dr, 0, v, BitVec.allOnes 64⟩] }
  if !condPass (bits w 43 42) x.bp then s
  else if op = 1 then
    { s with sends := s.sends ++ [⟨tile, lc, bits w 16 0, x.d dr, x.rdBad 4 dr, s.flag CELL_STAT_EPOCH c, hit⟩] }
  else if op = 2 then
    let e := bits w 8 0
    match x.inboxSees e t with
    | some (from_, v, _) =>
      let s := if from_ % 1024 = 0 ∨ from_ % 1024 = 1023 then s
        else
          let l := from_ % 1024 - 1
          s.margin LNK_MARGIN_MIN LNK_MARGIN_THRESH LNK_MARGIN_WARN l (t - from_ / 1024) (512 * (l / 64) + 0x1B0 + l % 64)
      result s v
    | none => (result s 0).lateFlit c e 0x1FFFF 0xFFFF
  else if op = 3 then
    let tag := bits w 5 0
    let addr := x.d (bits w 35 30)
    let tl := s.tile tile
    if bit w 29 then
      if bits w 28 21 = 0 then s
      else s.setTile tile { tl with memIn := tl.memIn ++ [⟨true, addr, x.d dr, BitVec.ofNat 8 (bits w 28 21), 0, lc, t + 1, s.stroke.no, j + 9⟩] }
    else if (x.slot tag).outstIn t then s.lateMem c tag j s.stroke.no
    else
      let y := s.cell c
      let s := s.setCell c (y.setSlot tag { x.slot tag with present := false, outst := true, stroke := s.stroke.no, cyc := j })
      s.setTile tile { tl with memIn := tl.memIn ++ [⟨false, addr, 0, 0, tag, lc, t + 1, s.stroke.no, j + 9⟩] }
  else if op = 4 then
    let tag := bits w 5 0
    let q := x.slot tag
    if q.present && decide (q.landed < t) then
      result (s.margin TME_MARGIN_MIN TME_MARGIN_THRESH TME_MARGIN_WARN tile (t - q.landed) (512 * tile + 0x1F6)) q.val
    else (result s 0).lateMem c tag q.cyc q.stroke
  else if op = 5 then
    let ch := bits w 11 4
    let a := 64 + bits w 3 0
    let noans := bit w 12
    let core := s.svc tile ch % 256
    if !noans && (x.slot a).outstIn t then s.lateService c ch core
    else
      let s := if noans then s
        else
          let y := s.cell c
          s.setCell c (y.setSlot a { x.slot a with present := false, outst := true, stroke := s.stroke.no, cyc := 256 * ch + b2n (core ≠ 0xFF), replayed := s.flag CKP_STAT_REPLAY })
      if core = 0xFF then s
      else s.inject (.cell (Fin.ofNat 8 tile) (Fin.ofNat 1024 lc)) 1 (endUnit (coreDie core) (0x10 + core)) (endCell tile lc)
        [0, (x.d dr).toNat, ch, lc, bits w 3 0, b2n noans, s.stroke.no, j, b2n (s.flag CKP_STAT_REPLAY)] (x.rdBad 4 dr)
  else if op = 6 then
    let a := 64 + bits w 3 0
    let q := x.slot a
    let ch := q.cyc / 256 % 256
    let core := s.svc tile ch % 256
    if q.present && decide (q.landed < t) then
      let s := if core = 0xFF then s
        else s.margin CPO_SVC_MARGIN_MIN CPO_SVC_MARGIN_THRESH CPO_SVC_MARGIN_WARN (2048 * core + 256 * tile + ch) (t - q.landed)
          (if core < 4 then 4096 + 0x108 + core else 512 * ((core - 4) / 2) + 0x1FD + (core % 2))
      result s q.val
    else (result s 0).lateService c ch core
  else if op = 7 then
    if s.flag CKP_STAT_REPLAY then s
    else { s with trigs := s.trigs ++ [(tile, ⟨bits w 7 0, x.d dr, lc, s.stroke.no, j, t + 4⟩)] }
  else s

/-! ### Issue -/

/-- The C slot executes a HALT (04 R127). -/
def haltExec (c : Nat) (bp : Bool) : Bool := bits c 31 28 == 4 && (!bit c 27 || bp)

/-- The lowest stroke of a HALT since the last resume (18 R483). -/
def State.noteHalt (s : State) : State :=
  let k := s.stroke.no % 2 ^ 48
  if s.flag TRC_HSTROKE_VALID && decide (s.get TRC_HSTROKE_STROKE ≤ k) then s
  else (s.set TRC_HSTROKE_STROKE 0 k).raise TRC_HSTROKE_VALID

/-- HALT outside replay (04 R127, 18 R483): cell-halt of the cluster, the tile's capture, the stroke, the freeze event,
and a hold at the end of the stroke. -/
def State.haltCell (s : State) (c : Nat) : State :=
  let t := c / 1088
  let cl := c % 1088 / 68
  let s := s.setBits TRC_HALTC_CLUSTERS t (2 ^ cl)
  let s := if s.flag TRC_HALTS_VALID t then s
    else ((s.set TRC_HALTS_LCELL t (s.lcell c)).set TRC_HALTS_STROKE t s.stroke.no).raise TRC_HALTS_VALID t
  let s := (s.lecSample (512 * t + 0x110 + cl) true).noteHalt
  (s.traceEvent TRC_FRZ_HALTEN 3).requestHold s.stroke.no

/-- The bundle at the cell's next address issues in the current cycle (02 R32). `x` is the cell as settled. DESIGN CHOICE (log 210): an ENDSTROKE or
an executed HALT at the END address of an active loop leaves the loop registers as they are (04 R124). -/
def State.issueBundle (s : State) (c : Nat) (x : Cell) (hit : Upset := .none) : State :=
  let t := s.tb
  let cur := s.flag CELL_SBSEL_CUR c
  let paged := s.flag CELL_IMCFG_PAGED c
  let page := s.get CELL_IMCFG_RUNPAGE c
  let a := x.next
  let badWords := x.bundleBad a
  let b0 := slotsOf (x.bundle a)
  let b : Slots := if badWords.isEmpty then b0 else ⟨[0, 0, 0, 0], 0, 0, 0, 0, 0⟩
  let reqs := bundleReqs b x.bp
  let ns := (b.l.mapIdx (fun k l => issueL x cur reqs t k l)).flatten ++ issueA x cur reqs t 4 b.a0 ++ issueA x cur reqs t 5 b.a1 ++
    issueM x t b.m ++ issuePred x cur reqs t b.c
  let errs := badWords.map (fun p => (0, p.1, p.2.toNat)) ++ parityErrs x cur t b reqs
  let ovr := reqs.any (fun r => (serveWord reqs r).2)
  let conf := condPass (bits b.m 43 42) x.bp && bits b.m 47 44 == 1 && x.storeBusy t (memWord x b.m)
  let halt := haltExec b.c x.bp
  let ends := bits b.c 31 28 = 3 ∨ halt
  let y := if ends then x else sequence x paged page a b.c
  let s := s.setCell c { y with pend := x.pend ++ ns, exec := s.cyc + 1 }
  let s := s.set CELL_STAT_BPC c a
  let s := if ovr then s.cellFlag CELL_STAT_BANKOVR c else s
  let s := if conf then s.cellFlag CELL_STAT_DMCONF c else s
  let s := if ends then (s.lower CELL_STAT_ISSUING c).raise CELL_STAT_ENDED c else s
  let s := s.issueX c t b.x x hit
  let s := errs.foldl (fun s e => s.cellParity c e.1 e.2.1 e.2.2) s
  if halt && !s.flag CKP_STAT_REPLAY then s.haltCell c else s

/-- The cell may issue in the current cycle: RUN, cycle j below P − 32, ACTIVE, clocks running, not ended, and it has issued in every
cycle of the stroke before j and not in j, so that bundle j issues in cycle j (02 R32). -/
def State.mayIssue (s : State) (c : Nat) : Bool :=
  s.inStroke && s.issueClock && s.active c && s.domOn (cellDomain c) && decide (s.cyc + 32 < s.stroke.period) &&
    s.flag CELL_STAT_ISSUING c && !s.stroke.opened && (s.cell c).exec == s.cyc

/-- BUNDLE_ISSUE. `hit` is what befalls the flit of the bundle's SEND at its lookup or on its way (06 R171). -/
def execBundleIssue (c : PCell) (s : State) (hit : Upset := .none) : Host.Outcome State Fault Refusal :=
  if s.mayIssue c.val then
    let s := s.settleCell c.val
    .next (s.issueBundle c.val (s.cell c.val) hit)
  else .next s

end Sys2Proof.Machine
end

