-- ==== Sys2Proof/Machine/Hbm.lean ====
section
/-! DEFINITION. An HBM stack as its TME sees it (13 R355, R365-R368): lines and channels, read errors, channel and stack failures. -/

namespace Sys2Proof.Machine

/-- The TME error source of a tile follows `TME_STAT` (13 R366). -/
def State.tmeLevel (s : State) (t : Nat) : State :=
  s.lecSample (512 * t + 0x1F7) (s.flag TME_STAT_OOR t || s.flag TME_STAT_OVERRUN t || s.flag TME_STAT_UNREC t ||
    s.flag TME_STAT_STKFAIL t || s.flag TME_STAT_CHFAIL t)

/-! ### Lines, members and channels (R355) -/

/-- Data offset of a backed stack offset. -/
def dataOffset (o : Nat) : Nat := if o < 0x7F0000000 then o else o - 0x90000000
/-- Parity group of a stack offset. -/
def groupOf (o : Nat) : Nat := dataOffset o / 64 / 15
/-- Member of a stack offset in its group. -/
def memberOf (o : Nat) : Nat := dataOffset o / 64 % 15
/-- `TME_CHMAP` entry m. -/
def chEntry (m : Nat) : Field := { TME_CHMAP_CH0 with id := TME_CHMAP_CH0.id + 4 * (m % 16), lo := 4 * (m % 16), rst := fun _ => m % 16 }
/-- Physical channel c of a stack has failed. -/
def State.chFailed (s : State) (t c : Nat) : Bool := bit (s.get TME_CHSTAT_FAILED t) c
/-- Groups of a stack (R355). -/
def groups : Nat := 37748736
/-- The rebuild in progress has passed group g: the former parity channel serves its lost member (R367). -/
def State.rebuilt (s : State) (t g : Nat) : Bool := s.flag TME_RBCTL_ACTIVE t && decide (g < s.get TME_RBCTL_GROUP t)
/-- The physical channel that serves a stack offset: that of its member, or of the group's parity once the rebuild has put the lost member
there (R355, R367). -/
def State.channelOf (s : State) (t off : Nat) : Nat :=
  let c := s.get (chEntry (memberOf off)) t
  if s.chFailed t c && s.rebuilt t (groupOf off) then s.get TME_CHMAP_CH15 t else c
/-- The group has lost no member and has its parity: an unreadable line can be rebuilt (R365). -/
def State.parityIntact (s : State) (t _g : Nat) : Bool := s.get TME_CHSTAT_PARITY t == 1 && s.get TME_CHSTAT_FAILED t == 0

/-- Capture a request or an error in `TME_ERR`. -/
def State.tmeCapture (s : State) (t off ch kind : Nat) : State :=
  if s.flag TME_ERR_VALID t then s
  else (((s.set TME_ERR_LINE t (off / 64)).set TME_ERR_CH t ch).set TME_ERR_KIND t kind).raise TME_ERR_VALID t

/-- `TME_ERR` as a word. -/
def State.tmeErr (s : State) (t : Nat) : Nat :=
  (regFields .TME_ERR).foldl (fun a f => a + s.get f t * 2 ^ f.lo) 0

/-- Stack t is ready (16 R449): its domain is on, at most one of its channels has failed, and it has not failed itself. Its TME is, once its
zero fill is done. -/
def State.stackReady (s : State) (t : Nat) : State :=
  let r := s.domOn (704 + t) && decide (popcount 16 (s.get TME_CHSTAT_FAILED t) ≤ 1) && !s.flag TME_STAT_STKFAIL t
  (s.setReady (3 * 1024 + t) r).setReady (4 * 1024 + t) (r && !(s.tile t).zeroing)

/-- A stack failure (R368). -/
def State.stackFail (s : State) (t ch : Nat) : State :=
  let s := ((s.raise TME_STAT_STKFAIL t).tmeCapture t 0 ch 4).tmeLevel t
  (s.fault 0x408 3 t ch 0xFFFF (s.tmeErr t) 0).stackReady t

/-- Physical channel c fails (R366): its lines are served by reconstruction and its rebuild starts; a second failure, or
one without parity, is a stack failure. -/
def State.channelFail (s : State) (t c : Nat) : State :=
  if s.chFailed t c then s
  else
    let first := s.get TME_CHSTAT_FAILED t == 0 && s.get TME_CHSTAT_PARITY t == 1
    let s := ((s.set TME_CHSTAT_FAILED t (putBit (s.get TME_CHSTAT_FAILED t) c true)).raise TME_STAT_CHFAIL t).tmeLevel t
    let s := s.fault 0x407 0 t c 0xFFFF (s.tmeErr t) 0
    if !first then s.stackFail t c
    else if s.get TME_CHMAP_CH15 t = c then s.set TME_CHSTAT_PARITY t 0
    else (s.set TME_RBCTL_GROUP t 0).raise TME_RBCTL_ACTIVE t

/-- A reconstruction on channel c counts toward its failure (R365, R366). -/
def State.reconstruct (s : State) (t off c : Nat) : State :=
  let x := s.tile t
  let n := sget x.recon c 0 + 1
  let s := (s.setTile t { x with recon := sput x.recon c n 0 }).bump TME_ECC_RECON t
  let s := s.tmeCapture t off c 2
  if s.get TME_CHSTAT_FAILLIM t ≤ n then s.channelFail t c else s

/-- An unreadable line at a stack offset: what it stores is no longer what was written, and its words are free values (R365; DEDUCED, log 199). -/
def State.spoilLine (s : State) (t off : Nat) : State :=
  (List.range 8).foldl (fun s i => let (w, s) := s.fresh; s.setNum (stackBase t + off / 64 * 64 + 8 * i) 8 w.toNat) s

/-- The line at a stack offset is touched with an HBM read result (R365), and the access is served with what the line stores after it; the
truth value says that the line could not be reconstructed. -/
def State.hbmTouch (s : State) (t off : Nat) (err : HbmRead) : State × Bool :=
  let c := s.channelOf t off
  match err with
  | .ok => (s, false)
  | .corrected => (s.bump TME_ECC_CORR t, false)
  | .uncorrectable =>
    if s.parityIntact t (groupOf off) then (s.reconstruct t off c, false)
    else
      let s := ((((s.spoilLine t off).raise TME_STAT_UNREC t).tmeCapture t off c 3).tmeLevel t)
      let s := s.fault 0x406 1 t c 0xFFFF (s.tmeErr t) 0
      if s.get TME_CHSTAT_PARITY t = 0 then (s.stackFail t c, true) else (s, true)

/-! ### LSRAM parity (R370) -/

/-- A parity error is counted and captured in `CPO_PERR` of core n: UNIT 0 I-cache, 1 D-cache, 2 LSRAM. -/
def State.perr (s : State) (n unit a : Nat) : State :=
  let s := s.bump CPO_PERR_COUNT n
  if s.flag CPO_PERR_VALID n then s
  else ((s.set CPO_PERR_UNIT n unit).set CPO_PERR_ADDR n (a / 8 * 8)).raise CPO_PERR_VALID n

end Sys2Proof.Machine
end

