-- ==== Sys2Proof/Machine/Logs.lean ====
section
/-! DEFINITION. The checkpoint area of a tile and its logs (08 R231-R236): slots and cell records, the undo journal,
the input and output logs with their stroke markers, and the output fence of a replay (R244). -/

namespace Sys2Proof.Machine

/-! ### Slots and records (08 R223, R231) -/

/-- The slot that does not hold the last complete checkpoint (R223). -/
def State.targetSlot (s : State) : Nat := 1 - s.get CKP_STAT_LASTSLOT
/-- First address of slot `slot` of tile t. -/
def State.slotBase (s : State) (t slot : Nat) : Nat := s.ckpArea t + 0x4000000 * slot
/-- First address of the record of a logical cell in a slot. -/
def State.recBase (s : State) (t slot l : Nat) : Nat := s.slotBase t slot + 0x10000 + 0x9000 * l

/-- The kept records of a log, in units of 1,024. -/
def TileSt.inRec (x : TileSt) : Nat := (x.inPos - x.inKept) / 1024
/-- Kept output-log records, in units of 1,024. -/
def TileSt.outRec (x : TileSt) : Nat := (x.outPos - x.outKept) / 1024
/-- `CKP_FILL` of a tile. -/
def State.ckpFill (s : State) (t : Nat) : Nat :=
  let x := s.tile t
  min x.jent (2 ^ 24 - 1) + min x.inRec (2 ^ 20 - 1) * 2 ^ 24 + min x.outRec (2 ^ 20 - 1) * 2 ^ 44

/-! ### Records of the input and output logs -/

/-- Records a ring holds: 512 MB of 16-byte records. -/
def ringLen : Nat := 2 ^ 25

/-- Address of record n of the input log (`out` = false) or output log of tile t. -/
def State.logAddr (s : State) (t : Nat) (out : Bool) (n : Nat) : Nat :=
  s.ckpArea t + (if out then 0x2C000000 else 0xC000000) + 16 * (n % ringLen)

/-- A data record (16 bytes) as a number. -/
def logRecord (val kind tgt slot cyc : Nat) (epoch : Bool) : Nat :=
  val % 2 ^ 64 + kind % 4 * 2 ^ 64 + tgt % 2 ^ 11 * 2 ^ 68 + slot % 2 ^ 9 * 2 ^ 79 + cyc % 2 ^ 16 * 2 ^ 88 +
    b2n epoch * 2 ^ 104

/-- Position of the next record. -/
def TileSt.logPos (x : TileSt) (out : Bool) : Nat := if out then x.outPos else x.inPos
/-- Position of the first kept record. -/
def TileSt.logKept (x : TileSt) (out : Bool) : Nat := if out then x.outKept else x.inKept
/-- Position after the last marker. -/
def TileSt.logMark (x : TileSt) (out : Bool) : Nat := if out then x.outMark else x.inMark

/-- The next record would overwrite a kept one (R236). -/
def TileSt.isFull (x : TileSt) (out : Bool) : Bool := decide (ringLen ≤ x.logPos out - x.logKept out)

/-- LOG_FULL (R236): handled like JOURNAL_FULL. -/
def State.logFullFault (s : State) (t : Nat) (out : Bool) : State :=
  ((s.raise CKP_STAT_LOGFULL).faultCause 3 0x403 1 t 0 0xFFFF (s.ckpFill t) (b2n out)).lecPulse (512 * t + 0x1F8)

/-- Store record `r` at the end of a log. -/
def State.putLog (s : State) (t : Nat) (out : Bool) (r : Nat) : State :=
  let x := s.tile t
  let s := s.setNum (s.logAddr t out (x.logPos out)) 16 r
  s.setTile t (if out then { x with outPos := x.outPos + 1 } else { x with inPos := x.inPos + 1 })

/-- Append a record, or raise LOG_FULL; the truth value says whether it was stored (R234-R236). -/
def State.appendLog (s : State) (t : Nat) (out : Bool) (r : Nat) : State × Bool :=
  if (s.tile t).isFull out then (s.logFullFault t out, false) else (s.putLog t out r, true)

/-- The kept records of a log, oldest first, each with its position. -/
def State.logRecords (s : State) (t : Nat) (out : Bool) : List (Nat × Nat) :=
  let x := s.tile t
  (List.range (x.logPos out - x.logKept out)).map (fun i =>
    (x.logKept out + i, s.num (s.logAddr t out (x.logKept out + i)) 16))

/-- KIND of a record; 0 is a stroke marker. -/
def recKind (r : Nat) : Nat := bits r 65 64
/-- Value of a record, or the stroke of a marker. -/
def recVal (r : Nat) : Nat := r % 2 ^ 64
/-- TGT. -/
def recTgt (r : Nat) : Nat := bits r 78 68
/-- SLOT. -/
def recSlot (r : Nat) : Nat := bits r 87 79
/-- CYC. -/
def recCyc (r : Nat) : Nat := bits r 103 88
/-- EPOCH. -/
def recEpoch (r : Nat) : Bool := bit r 104

/-- The records that follow the marker of stroke k − 1. The kept records of the first stroke begin the list; of any other stroke whose marker
a full log did not take there is none. -/
def afterMarker (first : Bool) (k : Nat) (l : List (Nat × Nat)) : List (Nat × Nat) :=
  match findIdxFrom (fun p : Nat × Nat => recKind p.2 == 0 && recVal p.2 + 1 == k) l 0 with
  | some i => l.drop (i + 1)
  | none => if first then l else []

/-- The records of stroke k of a log: after the marker of stroke k − 1, which lies before the kept records where k is the resume stroke of the
last complete checkpoint, and before the next marker. -/
def State.strokeRecords (s : State) (t : Nat) (out : Bool) (k : Nat) : List (Nat × Nat) :=
  (afterMarker (k == s.get CKP_LAST_STROKE) k (s.logRecords t out)).takeWhile (fun p => recKind p.2 != 0)

/-- Position of the first record after the marker of stroke k, the last of a log outside replay. -/
def State.markEnd (s : State) (t : Nat) (out : Bool) (k : Nat) : Nat :=
  match (s.logRecords t out).find? (fun p => recKind p.2 == 0 && recVal p.2 == k) with
  | some p => p.1 + 1
  | none => (s.tile t).logMark out

/-- The section of a log in which an event of the current cycle belongs: events from *P* − 24 on come after the marker of the stroke. -/
def State.logSection (s : State) : Nat := if s.stroke.flipped then s.stroke.no + 1 else s.stroke.no

/-- The logged beats of tile t that enter in this cycle of a replay (08 R243). -/
def State.replayDue (s : State) (t : Nat) : List (Nat × Nat) :=
  (s.strokeRecords t false s.logSection).filter (fun p => recKind p.2 == 3 && recCyc p.2 == s.cyc % 65536 &&
    !(s.tile t).consumed.contains p.1)

/-- The log holds the marker that closes stroke k. -/
def State.hasMarker (s : State) (t : Nat) (out : Bool) (k : Nat) : Bool :=
  (s.logRecords t out).any (fun p => recKind p.2 == 0 && recVal p.2 == k)

/-- Append the marker of stroke k to a log (R234, R235). -/
def State.putMarker (s : State) (t : Nat) (out : Bool) (k : Nat) : State :=
  let x := s.tile t
  let n := min (x.logPos out - x.logMark out) 2047
  let (s, ok) := s.appendLog t out (k % 2 ^ 64 + n * 2 ^ 68)
  if ok then
    let x := s.tile t
    s.setTile t (if out then { x with outMark := x.outPos } else { x with inMark := x.inPos })
  else s

/-! ### The output fence (08 R243, R244) -/

/-- REPLAY_DIVERGENCE (R244): lane number, or channel with bit 15. -/
def State.diverge (s : State) (loc fenced logged : Nat) : State :=
  ((s.raise CKP_STAT_DIVERGE).bump CKP_FENCE_MISCMP).fault 0x405 2 0xFF loc 0xFFFF fenced logged

/-- The key of an output stream: KIND and SLOT. -/
def fenceKey (kind slot : Nat) : Nat := kind * 512 + slot

/-- The output records that section k compares with in replay. The first ones after the marker that the last complete checkpoint ends with are
of the window before its resume stroke: that stroke has sent them already. -/
def State.fenceRecords (s : State) (t k : Nat) : List (Nat × Nat) :=
  (s.strokeRecords t true k).filter (fun p => k != s.get CKP_LAST_STROKE || decide ((s.tile t).outStart ≤ p.1))

/-- A fenced output (R244): it is compared with the record of the same stroke, lane or channel, and order. Where the
log filled in this stroke and no record is left, the output is the same LOG_FULL again (R236). -/
def State.fence (s : State) (t kind slot val cyc loc : Nat) : State :=
  let x := s.tile t
  let key := fenceKey kind slot
  let n := sget x.fenced key 0
  let recs := (s.fenceRecords t s.logSection).filter (fun p => recKind p.2 == kind && recSlot p.2 == slot)
  let s := s.setTile t { x with fenced := sput x.fenced key (n + 1) 0 }
  match recs[n]? with
  | some (_, r) => if recVal r = val % 2 ^ 64 ∧ recCyc r = cyc % 2 ^ 16 then s else s.diverge loc val (recVal r)
  | none => if x.isFull true && !s.hasMarker t true s.logSection then s.logFullFault t true else s.diverge loc val 0

/-- At the end of section k of a replay: a stream of a tile with fewer outputs than its log diverges (R244). -/
def State.fenceClose (s : State) (t k : Nat) : State :=
  let recs := s.fenceRecords t k
  let keys := dedupNat (recs.map (fun p => fenceKey (recKind p.2) (recSlot p.2)))
  let short := keys.filter (fun k => decide (sget (s.tile t).fenced k 0 < recs.countP (fun p => fenceKey (recKind p.2) (recSlot p.2) == k)))
  let s := short.foldl (fun s k =>
    let left := (recs.filter (fun p => fenceKey (recKind p.2) (recSlot p.2) == k)).drop (sget (s.tile t).fenced k 0)
    s.diverge (if k / 512 = 3 then 64 * t + k % 512 else 0x8000 + k % 512) 0 ((left.head?.map (fun p => recVal p.2)).getD 0)) s
  s.setTile t { s.tile t with fenced := [] }

/-! ### The undo journal (08 R232, R233) -/

/-- Append the old word of a design-memory write; false where the interval's limit is reached (R232, R233). -/
def State.journal (s : State) (t addr : Nat) : State × Bool :=
  let x := s.tile t
  if s.get CKP_POL_JLIM ≤ x.jent then
    (((s.raise CKP_STAT_JFULL).faultCause 3 0x402 1 t 0 0xFFFF (s.ckpFill t) 0).lecPulse (512 * t + 0x1F8), false)
  else
    let a := s.ckpArea t + 0x8000000 + 16 * x.jent
    let s := (s.setNum a 8 (s.num addr 8)).setNum (a + 8) 8 (bits addr 45 3)
    (s.setTile t { x with jent := x.jent + 1 }, true)

/-- Write back the old words of a journal, newest first (R233). -/
def State.unwind (s : State) (t n : Nat) : State :=
  (List.range n).reverse.foldl (fun s i =>
    let a := s.ckpArea t + 0x8000000 + 16 * i
    s.setNum (s.num (a + 8) 8 * 8) 8 (s.num a 8)) s

end Sys2Proof.Machine
end

