-- ==== Sys2Proof/Machine/Unscheduled.lean ====
section
/-! DEFINITION. Unscheduled traffic (06 R177-R181): the order at a point, the routes, the places that scheduled flits leave, and the staging of
host values. -/

namespace Sys2Proof.Machine

/-- The order of classes at a point: SERVICE, HOST, MGMT, TRACE (06 R177). -/
def classRank (c : Nat) : Nat := if c = 1 then 0 else if c = 0 then 1 else if c = 3 then 2 else 3

/-- The next place on an unscheduled flit's fixed route; `none` at its destination (06 R177). Column first to the
destination router within a die, and to the spoke router of row 3 toward another die. DESIGN CHOICE (log 187): that of its own column; and a
tile's units attach at router 12. -/
def nextPlace (f : UFlit) : Option UPoint :=
  let dd := f.dest / 2048
  match f.place with
  | .cell t l => some (.router t (Fin.ofNat 16 (l.val / 64)))
  | .unit d => if d.val = 8 then some (.switch (Fin.ofNat 9 dd)) else some (.router (Fin.ofNat 8 d.val) 12)
  | .router t r =>
    let goal := if dd = t.val then (if bit f.dest 10 then 12 else f.dest % 1024 / 64) else 12 + r.val % 4
    if r.val = goal then (if dd = t.val then none else some (.spoke t))
    else if r.val % 4 < goal % 4 then some (.router t (Fin.ofNat 16 (r.val + 1)))
    else if goal % 4 < r.val % 4 then some (.router t (Fin.ofNat 16 (r.val - 1)))
    else if r.val < goal then some (.router t (Fin.ofNat 16 (r.val + 4)))
    else some (.router t (Fin.ofNat 16 (r.val - 4)))
  | .spoke _ => some (.switch (Fin.ofNat 9 dd))
  | .switch d => if d.val = 8 then none else some (.router (Fin.ofNat 8 d.val) 12)
  | .lane n => some (.router (Fin.ofNat 8 (n.val / 64)) (Fin.ofNat 16 (4 + n.val % 64 / 8)))

/-- Cycles a flit spends at a place before it can take its next point: a router's channel lies one cycle behind it (06 R158). -/
def exitCycles : UPoint → Option UPoint → Nat
  | .router _ _, some (.spoke _) => 1
  | _, _ => 0

/-- Cycles from the point that a flit takes as it leaves u until it reaches v (06 R158): the source crossbar 4; a mesh hop 2; a spoke channel to
the hub switch 6; the hub switch 2, its spoke channel 6 and the entry router 1. -/
def hopCycles : UPoint → UPoint → Nat
  | .cell _ _, .router _ _ => 4
  | .router _ _, .router _ _ => 2
  | .router _ _, .spoke _ => 6
  | .switch _, .router _ _ => 9
  | _, _ => 0

/-- The endpoint exists and its die holds the unit (06 R176). -/
def endValid (e : Nat) : Bool :=
  let die := e / 2048
  let u := e % 1024
  if !bit e 10 then decide (die < 8)
  else if die < 8 then decide (u ≤ 3) || (0x10 ≤ u && decide ((u - 0x10 - 4) / 2 = die) && decide (0x14 ≤ u) && decide (u < 0x24))
  else die == 8 && ((0x10 ≤ u && decide (u < 0x14)) || u == 0x30 || u == 0x31 || u == 0x32 || u == 1)

/-- The point code counted for a place. DESIGN CHOICE (log 203): it is also the POINT that `FAB_ERR` captures for an unscheduled flit which that
place drops (06 R171, R176); at the hub switch channel 0 of the destination. -/
def uCode : UPoint → Nat
  | .cell t l => pointOf t.val 0 l.val | .unit d => pointOf d.val 0 0xFFF
  | .router t r => pointOf t.val 1 r.val | .spoke t => pointOf t.val 0xA 0 | .switch d => pointOf 8 0xD (8 * d.val)
  | .lane n => pointOf (n.val / 64) 0 (0x800 + n.val % 64)

/-- The mesh output from router a toward router b. -/
def meshType (a b : Nat) : Nat := if b + 4 = a then 2 else if b = a + 1 then 3 else if b = a + 4 then 4 else 5

/-- The outputs by which a flit may leave a place, in the order of their numbers: point code, capacity and channel (06 R158, R159, R177). A
flit that has crossed a spoke's channel leaves the hub switch by any channel of the destination spoke. -/
def uOutputs (u : UPoint) (f : UFlit) (v : Option UPoint) : List (Nat × Nat × Nat) :=
  match u, v with
  | .cell t l, _ => [(pointOf t.val 0 l.val, 1, 0)]
  | .unit d, _ => [(if d.val = 8 then pointOf 8 0 0xFFF else pointOf d.val 1 12, 8, 0)]
  | .router t r, some (.router _ q) => [(pointOf t.val (meshType r.val q.val) r.val, 8, 0)]
  | .router t r, some _ => [2 * (r.val % 4), 2 * (r.val % 4) + 1].map (fun c => (pointOf t.val 0xA c, 1, c))
  | .router t r, none => [(if bit f.dest 10 then pointOf t.val 0xF r.val else pointOf t.val 0xE r.val, 8, 0)]
  | .spoke t, _ => [(receiverMark + pointOf 8 0xA (8 * t.val + f.chan), 1, f.chan)]
  | .switch d, some _ => (List.range 8).map (fun c => (pointOf 8 0xD (8 * d.val + c), 1, c))
  | .switch _, none => [(pointOf 8 0xF 0, 8, 0)]
  | .lane n, _ => [(pointOf (n.val / 64) 1 (4 + n.val % 64 / 8), 8, 0)]

/-- The injection place that a flit which has passed its source crossbar takes besides as it leaves the router (06 R158). -/
def uInjection (u : UPoint) (f : UFlit) : List Nat :=
  match u, f.prev with
  | .router t r, some (.cell _ _) => [pointOf t.val 1 r.val]
  | _, _ => []

/-- The next place of a flit that leaves by channel c: from the hub switch the entry router of the channel (06 R159). -/
def placeBy (u : UPoint) (c : Nat) (v : UPoint) : UPoint :=
  match u, v with
  | .switch _, .router t _ => .router t (Fin.ofNat 16 (12 + c / 2))
  | _, v => v

/-- The scheduled beats that enter in this cycle: logical lane and order. In replay those of the input log are among them (08 R243). -/
def State.enteringBeats (s : State) : List (Nat × Nat) :=
  if s.mode = .run then
    ((s.pads.filter (fun p => decide (p.at_ ≤ s.tb) && !(p.logged && s.flag CKP_STAT_REPLAY))).map (fun p => (p.lane, p.order))) ++
      (if s.flag CKP_STAT_REPLAY then (List.range 8).flatMap (fun t => (s.replayDue t).map (fun p => (64 * t + recSlot p.2 % 64, recTgt p.2))) else [])
  else []

/-- The points that the scheduled beats hold which enter in this cycle and whose paths have no delay (06 R163, R174). -/
def State.enteringPoints (s : State) : List Nat :=
  (s.enteringBeats).flatMap (fun p =>
    let t := p.1 / 64
    let (w, bad) := s.pathLookup t ((s.get LNK_RXCFG_BASE p.1 + p.2) % 2 ^ 17)
    let e := w.toNat
    if bad ≠ 0 ∨ badEntry t e ∨ bits (bits e 48 29) 9 4 ≠ 0 then []
    else (((routePoints t (4 + p.1 % 64 / 8) e s.tb (bit e 28) false).1).filter (fun q => q.2 == s.tb)).map (·.1))

/-- The point is a source crossbar that a SEND passes in this cycle. -/
def State.crossbarTaken (s : State) (p : Nat) : Bool :=
  p % 65536 < 1024 && decide (p / 65536 < 8) &&
    (match s.pcellL (p / 65536) (p % 65536) with
     | some c => (s.cell c).sentAt == some s.tb
     | none => false)

/-- Scheduled and earlier unscheduled flits leave a place at a point free in this cycle (06 R177). -/
def State.uFree (s : State) (p cap : Nat) : Bool :=
  decide (s.flits.countP (fun f => f.holds p s.tb) + s.enteringPoints.countP (· == p) + s.uUsed.countP (· == p) + b2n (s.crossbarTaken p) < cap)

/-- The far end of the last hop has room: 64 flits of a class wait at a unit, and 64 answers at a cluster's crossbar (06 R178). -/
def State.endRoom (s : State) (f : UFlit) : Bool :=
  let d := f.dest / 2048
  if f.cls = 0 then true
  else if bit f.dest 10 then decide ((s.tile d).uDelivered.countP (fun g => g.dest == f.dest && g.cls == f.cls) < 64)
  else decide (s.landings.countP (fun l => decide (64 ≤ l.slot) && l.cell / 68 == 16 * d + f.dest % 1024 / 64) < 64)

/-- The output by which a flit at a place may leave it now, the lowest-numbered that is free and has a credit: point code, channel and next
place (06 R177, R178). A TRACE flit holds the credit that it took at its source. DESIGN CHOICE (log 186): a hop to a die whose fabric is off has
no credits. -/
def State.uHop (s : State) (u : UPoint) (f : UFlit) : Option (Nat × Nat × Option UPoint) :=
  let v := nextPlace f
  ((uOutputs u f v).find? (fun o => s.uFree o.1 o.2.1 && (uInjection u f).all (fun p => s.uFree p 8) &&
      (match v with
       | some v => s.fabOn (uDie v) && ((f.cls == 2 && uIsSource u) || decide (0 < s.uCredit u (placeBy u o.2.2 v) f.cls o.2.2))
       | none => s.endRoom f))).map
    (fun o => (o.1, o.2.2, v.map (placeBy u o.2.2)))

/-- The class that goes next from a place: one that has waited STARVE cycles first, then the order of classes; the oldest flit of that class
(06 R177). Only flits that have reached the place (06 R158), and that have a credit and a free place, count. DRAIN stops new flits at their
sources (R180); a TRACE flit there has been injected as it took its credit. -/
def State.pickU (s : State) (u : UPoint) : Option UFlit :=
  let cand := s.uflits.filter (fun f => f.place == u && decide (f.since + exitCycles u (nextPlace f) ≤ s.tb) && (s.uHop u f).isSome &&
    !(uIsSource u && f.cls != 2 && bit (s.get FAB_UCTL_DRAIN (uDie u)) f.cls))
  let starve := s.get FAB_UCTL_STARVE (uDie u)
  let best := fun (l : List UFlit) => [1, 0, 3, 2].findSome? (fun c => l.find? (·.cls == c))
  (best (cand.filter (fun f => decide (f.since + starve ≤ s.tb)))).or (best cand)

/-- The admitted value that the hub sends next to a staging buffer with a free entry: the lowest promise first, then
the order of admission (06 R181, 14 R392). -/
def State.hostToSend (s : State) : Option HostVal :=
  (s.hostVals.filter (fun h => !h.sent && decide (s.hostVals.countP (fun g => g.tile == h.tile && g.sent && !g.written) < 4096))).foldl
    (fun o h => match o with | none => some h | some g => if h.promise < g.promise then some h else some g) none

/-- The hub hands the next admitted value to its tile as a HOST flit (06 R181). -/
def State.sendHost (s : State) : State :=
  if bit (s.get FAB_UCTL_DRAIN 8) 0 then s
  else match s.hostToSend with
    | none => s
    | some h =>
      let s := { s with hostVals := s.hostVals.map (fun g => if g = h then { g with sent := true } else g) }
      s.inject (.unit 8) 0 (endUnit h.tile 2) (endUnit 8 0x30) [h.ch, h.promise, h.place]

/-- An unscheduled flit reaches its destination: a host value is staged, a service answer lands in its
answer slot after the destination crossbar's 3 cycles or waits there (06 R158, R179), and anything else waits at its unit. A flit to a cell
whose domain is off is dropped (06 R170). -/
def State.uDeliver (s : State) (f : UFlit) : State :=
  let d := f.dest / 2048
  if f.cls = 0 then
    { s with hostVals := s.hostVals.map (fun g => if [g.ch, g.promise, g.place] = f.pay then { g with staged := true, stagedAt := s.tb, bad := f.bad } else g) }
  else if !bit f.dest 10 then
    match s.pcellL d (f.dest % 1024) with
    | some c =>
      if s.domOn (cellDomain c) then
        { s with landings := s.landings ++ [⟨c, 64 + f.pay.getD 1 0 % 16, BitVec.ofNat 64 (f.pay.getD 0 0), f.bad, s.tb + 3, 0⟩] }
      else s.fabErr d 4 (0x6000 + f.dest % 1024) 0
    | none => s.fabErr d 4 (0x6000 + f.dest % 1024) 0
  else s.setTile d { s.tile d with uDelivered := (s.tile d).uDelivered ++ [f] }

/-- CLASS of an unscheduled flit's head, its bits [1:0] (06 R160). -/
def headClass (h : Word) : Nat := bits h.toNat 1 0

/-- At an unscheduled position a lane sends the data beat of the pair it has begun, or the head of the next queued one, so that the two take
consecutive unscheduled positions: of the classes with a credit, one whose pair has waited STARVE cycles of
the lane's tile first, then the first in the order of R177 (07 R192, R213). -/
def State.sendPair (s : State) (n : Nat) : State :=
  let l := s.lane n
  if s.get LNK_STAT_STATE n ≠ 6 ∨ !s.flag LNK_STAT_READY n ∨ !s.hasPosition n 1 then s
  else match l.pairRest with
  | some w => (s.setLane n { l with pairRest := none }).sendAt n 1 w
  | none =>
  let cand := l.utx.filter (fun p => decide (0 < l.cred.getD (headClass p.2.1) 0))
  let best := fun (q : List (Nat × Word × Word)) => [1, 0, 3, 2].findSome? (fun c => q.find? (fun p => headClass p.2.1 == c))
  match (best (cand.filter (fun p => decide (p.1 + s.get FAB_UCTL_STARVE (n / 64) ≤ s.tb)))).or (best cand) with
  | some p =>
    let k := headClass p.2.1
    let h := p.2.1.toNat % 2 ^ 44
    let d := p.2.2.toNat
    (s.setLane n { l with utx := l.utx.erase p, cred := l.cred.set k (l.cred.getD k 0 - 1),
                          pairRest := some (mkBeat (.unscheduled (BitVec.ofNat 2 k) false) d (parByte d)) }).sendAt n 1
      (mkBeat (.unscheduled (BitVec.ofNat 2 k) true) h (parByte h))
  | none => s

/-- The flit has wrong sideband bits that its parity shows. -/
def UFlit.sbWrong (f : UFlit) : Bool := f.sb != 0 && !sidebandOk (f.sideband ^^^ f.sb)

/-- The place is a router or the hub switch, which check sidebands. -/
def checksSb : UPoint → Bool
  | .router _ _ | .switch _ => true
  | _ => false

/-- The receiver of a hop checks the flit (06 R171): a router or the hub switch drops one with a wrong sideband; the receiver of a spoke
reports wrong data parity and forwards the flit. -/
def State.uReceive (s : State) (u v : UPoint) (f : UFlit) (hit : Upset) : State :=
  let g := { f with bad := f.bad ^^^ (upsetBytes hit), sb := f.sb ^^^ (upsetSideband hit) }
  if checksSb v && g.sbWrong then s.fabErr (uDie v) 2 (uCode v % 65536) 0
  else
    let s := { s with uflits := s.uflits ++ [g] }
    match u, v with
    | .spoke t, .switch _ => if g.bad = 0 then s else s.fabErr 8 3 (pointOf 8 0xA (8 * t.val + g.chan) % 65536) 0
    | .switch _, .router t _ => if g.bad = 0 then s else s.fabErr t.val 3 (pointOf t.val 0xB g.chan % 65536) 0
    | _, _ => s

/-- UNSCHEDULED_FLIT_FORWARD (06 R176-R179): the flit whose turn it is moves to its next place, or is handed to its
destination; a flit whose endpoint does not exist is dropped at the router that decodes it. -/
def State.uForward (s : State) (u : UPoint) (hit : Upset) : State :=
  match s.pickU u with
  | none => s
  | some f =>
    match s.uHop u f with
    | none => s
    | some (p, c, v) =>
      let s := { s with uUsed := p :: uInjection u f ++ s.uUsed, uflits := s.uflits.erase f }
      if !endValid f.dest && !uIsSource u then s.fabErr (uDie u) 4 (uCode u % 65536) 0
      else match v with
        | some v => s.uReceive u v { f with place := v, prev := some u, since := s.tb + hopCycles u v, chan := c } hit
        | none => s.uDeliver f

/-- UNSCHEDULED_FLIT_FORWARD: at a lane a queued pair is sent, and the copy of an ingress goes on into the router; at the hub the next admitted
host value comes first. -/
def execUnscheduledFlitForward (u : UPoint) (s : State) (hit : Upset := .none) : Host.Outcome State Fault Refusal :=
  match u with
  | .lane n => .next ((s.sendPair n.val).uForward (.lane n) hit)
  | u => .next ((if u = .unit 8 then s.sendHost else s).uForward u hit)

end Sys2Proof.Machine
end

