-- ==== Sys2Proof/Machine/CellEvents.lean ====
section
/-! DEFINITION. What reaches a cell from outside its schedule (03, 04): landings in the inbox, the response slots and the
answer slots, staged host values, and the storage window. -/

namespace Sys2Proof.Machine

/-! ### The inbox (03 R73-R76) -/

/-- Write an inbox entry as it arrived in cycle `at_`, with its own parity; `src` is one more than the logical lane it came by, 0
for a flit of this module's own cells, 1023 for a host value. A second arrival overwrites and sets INBDUP (R76). What the entry held before the
cycle of its arrival is kept: a RECV of that cycle still reads it (02 R47). -/
def State.inboxPut (s : State) (c e : Nat) (v : Word) (bad : Byte) (src at_ : Nat) : State :=
  let x := s.cell c
  let dup := bit x.arrived e
  let old := if sget x.inbFrom e 0 / 1024 < at_ then insertKey x.inbOld e (sget x.inbFrom e 0, x.rd 3 e, x.rdBad 3 e) else x.inbOld
  let y := { x.wrBad 3 e v bad with arrived := putBit x.arrived e true, inbFrom := sput x.inbFrom e (at_ * 1024 + src) 0, inbOld := old }
  let s := s.setCell c y
  if dup then s.cellFlag CELL_STAT_INBDUP c else s

/-- An inbox entry arrives in the current cycle. -/
def State.inboxWrite (s : State) (c e : Nat) (v : Word) (bad : Byte) (src : Nat) : State := s.inboxPut c e v bad src s.tb

/-- LATE_FLIT for a flit of the current epoch in cycles *P* − 32 to *P* − 25 (R74). -/
def State.lateLanding (s : State) : Bool :=
  s.inStroke && decide (s.stroke.period ≤ s.cyc + 32) && !s.stroke.flipped

/-- DUEMISS where the stroke cycle of the landing is not the expected one (06 R166). -/
def State.dueCheck (s : State) (t l : Nat) (f : Flit) : State :=
  if f.due = s.cyc % 65536 then s else s.fabErr t 5 (0x6000 + l) f.path

/-- A flit is written under the current epoch, LATE_FLIT in cycles *P* − 32 to *P* − 25, or discarded with LATE_FLIT
under the other epoch (R74). -/
def State.acceptFlit (s : State) (c : Nat) (f : Flit) : State :=
  if f.epoch == s.flag CELL_STAT_EPOCH c then
    let u := s.inboxWrite c f.slot f.val f.bad f.lane
    if u.lateLanding then u.lateFlit c f.slot f.path u.cyc else u
  else s.lateFlit c f.slot f.path s.cyc

/-- A flit lands (R74); a landing in a reserved cycle of its tile sets RSVUSE (06 R168). A cell whose domain is off takes nothing
(06 R170). -/
def State.landFlit (s : State) (c : Nat) (f : Flit) : State :=
  let u : State := { s with flits := s.flits.erase f }
  if u.domOn (cellDomain c) then
    ((State.noteReserved (u.setCell c { u.cell c with landedAt := some u.tb }) (c / 1088)).dueCheck (c / 1088) (u.lcell c) f).acceptFlit c f
  else u.fabErr (c / 1088) 4 (0x6000 + u.lcell c) f.path

/-- FLIT_LANDING: the flit of this slot that lands at the cell in the current cycle, after the check that at most
one flit lands there (06 R169). -/
def execFlitLanding (c : PCell) (slot : Fin 512) (s : State) : Host.Outcome State Fault Refusal :=
  let s := s.portCollision c.val
  match s.flits.find? (fun f => !f.egr && f.dcell == c.val && f.slot == slot.val && decide (f.land ≤ s.tb)) with
  | some f => .next (s.landFlit c.val f)
  | none => .next s

/-! ### Response and answer slots (04 R114-R120) -/

/-- Landings are discarded while a restore runs and between the preparation of stroke 0 and its first cycle (R120, 03
R92). -/
def State.discardsLandings (s : State) : Bool := s.ckp.restoring || s.stroke.entryDone

/-- A value lands in a slot: present, no longer outstanding (R114, R118). -/
def State.landSlot (s : State) (c k : Nat) (v : Word) (bad : Byte) : State :=
  let x := s.cell c
  s.setCell c (x.setSlot k { x.slot k with val := v, bad := bad, present := true, outst := false, landed := s.tb })

/-- A declared carried slot whose request was issued in the checkpoint stroke is captured into the cell's record as
its value lands (08 R227). -/
def State.capture (s : State) (c k : Nat) (v : Word) : State :=
  let t := c / 1088
  let l := s.lcell c
  let x := s.cell c
  if s.inStroke && s.ckpStroke s.stroke.no && !s.ckp.failed && (x.slot k).stroke == s.stroke.no &&
      bit (sget s.img.carry (1024 * t + l) 0) k then
    let m := putBit x.carried k true
    let b := s.recBase t s.targetSlot l
    let s := s.setCell c { x with carried := m }
    ((s.setNum (b + 0x640) 8 (m % 2 ^ 64)).setNum (b + 0x648) 8 (m / 2 ^ 64)).setNum (b + 0x650 + 8 * k) 8 v.toNat
  else s

/-- A response that lands after its bound sets OVERRUN (13 R362). -/
def State.overrun (s : State) (t : Nat) (l : Landing) : State :=
  if 0 < l.by_ ∧ l.by_ < s.tb then (s.raise TME_STAT_OVERRUN t).tmeLevel t else s

/-- RESPONSE_LANDING (R114). -/
def execResponseLanding (c : PCell) (tag : Fin 64) (s : State) : Host.Outcome State Fault Refusal :=
  match s.landings.find? (fun l => l.cell == c.val && l.slot == tag.val && decide (l.at_ ≤ s.tb)) with
  | some l =>
    let s := State.overrun { s with landings := s.landings.erase l } (c.val / 1088) l
    if s.discardsLandings then .next s
    else .next ((s.landSlot c.val tag.val l.val l.bad).capture c.val tag.val l.val)
  | none => .next s

/-- The stroke cycle of an input record: from the last cycle of the stroke on, through a pause and a hold, that cycle. DESIGN CHOICE (log 191):
the spec numbers no stroke cycle there. -/
def State.logCycle (s : State) : Nat := min s.cyc (s.stroke.period - 1)

/-- The service answer that the input log holds for this slot and cycle (08 R243). -/
def State.loggedAnswer (s : State) (c a : Nat) : Option (Nat × Nat) :=
  let t := c / 1088
  (s.strokeRecords t false s.logSection).find? (fun p => recKind p.2 == 2 && recTgt p.2 == s.lcell c && recSlot p.2 == a &&
    recCyc p.2 == s.logCycle % 65536 && !(s.tile t).consumed.contains p.1)

/-- The crossbar port of a cell is taken in this cycle: a scheduled flit lands or has landed there, or an answer has (06 R179). -/
def State.portTaken (s : State) (c : Nat) : Bool :=
  s.flits.any (fun f => !f.egr && f.dcell == c && f.land == s.tb) || (s.cell c).landedAt == some s.tb ||
    (s.cell c).slots.any (fun p => decide (64 ≤ p.1) && p.2.present && p.2.landed == s.tb)

/-- Inputs are logged: in RUN, in HOLD, and in a SERVICE that was entered from HOLD, which a rollback may follow (08 R234). -/
def State.recordsInput (s : State) : Bool := s.mode == .run || s.mode == .hold || (s.mode == .service && s.get MGT_MODE_PREV == 4)

/-- Mark an input record as replayed. -/
def State.consume (s : State) (t n : Nat) : State := s.setTile t { s.tile t with consumed := n :: (s.tile t).consumed }

/-- A replayed record of the input log of tile t is read, with what the HBM reports (13 R365, R376). -/
def State.logRead (s : State) (t n : Nat) (err : HbmRead) : Nat × State :=
  let s := (s.hbmTouch t (s.logAddr t false n - stackBase t) err).1
  (s.num (s.logAddr t false n) 16, s)

/-- ANSWER_LANDING (R118): a live answer lands and is input-logged; in replay the logged answer lands at its logged
cycle and live answers are discarded (08 R234, R243). A cell takes no answer in a cycle in which a scheduled flit
lands, or in which it has taken another answer (06 R179). While a restore runs nothing lands (R120). An answer that a pause or a hold lets land after
the last cycle of a stroke is logged with that cycle, in which the replay returns every such answer (log 191). An answer to a request made in
replay is discarded whenever it comes (08 R243). -/
def execAnswerLanding (c : PCell) (a : Fin 16) (s : State) (err : HbmRead := .ok) : Host.Outcome State Fault Refusal :=
  let k := 64 + a.val
  let t := c.val / 1088
  let live := s.landings.find? (fun l => l.cell == c.val && l.slot == k && decide (l.at_ ≤ s.tb))
  if s.portTaken c.val && !(s.flag CKP_STAT_REPLAY && decide (s.stroke.period ≤ s.cyc + 1)) then .next s
  else if s.flag CKP_STAT_REPLAY then
    let s := match live with | some l => { s with landings := s.landings.erase l } | none => s
    match (if s.discardsLandings then none else s.loggedAnswer c.val a.val) with
    | some (n, _) =>
      let (r, s) := s.logRead t n err
      let v := BitVec.ofNat 64 (recVal r)
      .next (((s.consume t n).landSlot c.val k v 0).capture c.val k v)
    | none => .next s
  else match live with
    | some l =>
      let s := { s with landings := s.landings.erase l }
      if s.discardsLandings || ((s.cell c.val).slot k).replayed then .next s
      else
        let s := if s.recordsInput then (s.appendLog t false (logRecord l.val.toNat 2 (s.lcell c.val) a.val s.logCycle false)).1 else s
        .next ((s.landSlot c.val k l.val l.bad).capture c.val k l.val)
    | none => .next s

/-! ### Staged host values (03 R75, 06 R181, 08 R243) -/

/-- A host value written in this cycle already reached the cell (06 R181: one per cell and cycle). -/
def Cell.stagedNow (x : Cell) (now : Nat) : Bool := x.inbFrom.any (fun p => p.2 == now * 1024 + 1023)

/-- The host value that the input log holds for this slot, the next stroke and this cycle (08 R236, R243). -/
def State.loggedHost (s : State) (c slot : Nat) : Option (Nat × Nat) :=
  let t := c / 1088
  (s.strokeRecords t false (s.stroke.no + 1)).find? (fun p => recKind p.2 == 1 && recTgt p.2 == s.lcell c && recSlot p.2 == slot &&
    recCyc p.2 == s.cyc % 65536 && !(s.tile t).consumed.contains p.1)

/-- The staged value of this slot for the next stroke that has not gone to its inbox; in replay that of stroke H + 1 alone (08 R243). -/
def State.stagedValue (s : State) (c slot : Nat) : Option HostVal :=
  s.hostVals.find? (fun h => h.tile == c / 1088 && h.lcell == s.lcell c && h.slot == slot && h.promise == s.stroke.no + 1 && h.staged &&
    !h.late && !h.written && (!s.flag CKP_STAT_REPLAY || decide (s.stroke.no = s.get CKP_HWM_STROKE)))

/-- A staged value has gone to its inbox; `ok` where the input log holds it. -/
def State.markWritten (s : State) (h : HostVal) (ok : Bool) : State :=
  { s with hostVals := s.hostVals.map (fun g => if g = h then { g with written := true, logged := ok } else g) }

/-- A staged value goes to its inbox with the parity it has, and is input-logged where recording goes on: outside replay, and in stroke H,
the last that is replayed (08 R234, R236). A log that is full does not hold it. -/
def State.writeStaged (s : State) (c : Nat) (h : HostVal) : State :=
  let log := !s.flag CKP_STAT_REPLAY || decide (s.stroke.no = s.get CKP_HWM_STROKE)
  let (s, ok) := if log then s.appendLog (c / 1088) false (logRecord h.val.toNat 1 (s.lcell c) h.slot s.cyc false) else (s, false)
  (s.markWritten h ok).inboxWrite c h.slot h.val h.bad 1023

/-- STAGED_VALUE_WRITE: in cycles *P* − 23 to *P* − 1 of a powered cell, the value staged for this slot and the next stroke. In replay it
comes from the input log; a value of stroke H + 1 that no log record holds is written live (R243, R245). -/
def execStagedValueWrite (c : PCell) (slot : Fin 512) (s : State) (err : HbmRead := .ok) : Host.Outcome State Fault Refusal :=
  if !s.inStroke || !s.stroke.flipped || decide (s.cyc + 23 < s.stroke.period) || decide (s.stroke.period ≤ s.cyc) ||
      !s.active c.val || !s.domOn (cellDomain c.val) || (s.cell c.val).stagedNow s.tb then .next s
  else
    match (if s.flag CKP_STAT_REPLAY then s.loggedHost c.val slot.val else none) with
    | some (n, _) =>
      let (r, s) := s.logRead (c.val / 1088) n err
      .next ((s.consume (c.val / 1088) n).inboxWrite c.val slot.val (BitVec.ofNat 64 (recVal r)) 0 1023)
    | none => match s.stagedValue c.val slot.val with
      | some h => .next (s.writeStaged c.val h)
      | none => .next s

/-- A host value that the log holds for the resume stroke, which it reached in the window of the stroke before, is in its inbox as that stroke
starts again (08 R236, R243; DEDUCED, log 150). -/
def State.replayHost (s : State) (t : Nat) (p : Nat × Nat) : State :=
  match s.pcellL t (recTgt p.2) with
  | some c =>
    if s.domOn (cellDomain c) then (s.consume t p.1).inboxPut c (recSlot p.2) (BitVec.ofNat 64 (recVal p.2)) 0 1023 (s.tb - 1) else s
  | none => s

/-- The host values of the resume stroke k of a tile. -/
def State.replayHosts (s : State) (k t : Nat) : State :=
  ((s.strokeRecords t false k).filter (fun p => recKind p.2 == 1 && !(s.tile t).consumed.contains p.1)).foldl
    (fun s p => s.replayHost t p) s

/-- A host value of the stroke that a hold ends with, which was staged in the hold, is in its inbox as that stroke starts, and is input-logged in
the last cycle of the stroke before (02 R53, 14 R397). DESIGN CHOICE (log 219). -/
def State.resumeHost (s : State) (h : HostVal) : State :=
  match s.pcellL h.tile h.lcell with
  | some c =>
    if s.domOn (cellDomain c) then
      let (s, ok) := s.appendLog h.tile false (logRecord h.val.toNat 1 h.lcell h.slot s.logCycle false)
      (s.markWritten h ok).inboxPut c h.slot h.val h.bad 1023 (s.tb - 1)
    else s
  | none => s

/-! ### The storage window (03 R80, R81, R84, R93, R94) -/

/-- What a window offset names: a storage unit and word, a quarter word of the function table, or nothing. -/
inductive WinLoc
  | word (unit addr : Nat)
  | ftab (first : Nat)
  | regs
  | none
  deriving DecidableEq, Repr

/-- The cell window's map. -/
def winLoc (cur : Bool) (off : Nat) : WinLoc :=
  if off < 0x24000 then .word 0 (off / 8)
  else if 0x28000 ≤ off ∧ off < 0x30000 then .word 2 (off % 0x8000 / 8)
  else if 0x30000 ≤ off ∧ off < 0x31000 then
    let w := off % 0x1000 / 8
    .word 1 (32 * physBank cur false (w / 32) + w % 32)
  else if 0x31000 ≤ off ∧ off < 0x31400 then
    let w := off % 0x400 / 8
    .word 1 (32 * physBank cur true (12 + w / 32) + w % 32)
  else if 0x32000 ≤ off ∧ off < 0x33000 then .word 3 (off % 0x1000 / 8)
  else if 0x33000 ≤ off ∧ off < 0x33200 then .word 4 (off % 0x200 / 8)
  else if 0x34000 ≤ off ∧ off < 0x34200 then .ftab (off % 0x200 / 8 * 4)
  else if 0x3F000 ≤ off ∧ off < 0x3F100 then .regs
  else .none

/-- The cell answers in its window: its domain is on and it is not RETIRED (R94). -/
def State.winOn (s : State) (c : Nat) : Bool := s.domOn (cellDomain c) && s.remap c / 256 != 2

/-- The word at a storage location, with its failing bytes. -/
def Cell.winGet (x : Cell) : WinLoc → Nat × Nat × Nat × Nat
  | .word u a => ((x.rd u a).toNat, u, a, (x.rdBad u a).toNat)
  | .ftab f =>
    ((List.range 4).foldl (fun acc i => acc + (x.rd 5 (f + i)).toNat % 2 ^ 16 * 2 ^ (16 * i)) 0, 5, f,
     (List.range 4).foldl (fun acc i => acc + (x.rdBad 5 (f + i)).toNat % 4 * 4 ^ i) 0)
  | _ => (0, 0, 0, 0)

/-- The location is storage. -/
def WinLoc.isStorage : WinLoc → Bool
  | .word _ _ | .ftab _ => true
  | .regs | .none => false

/-- A window read of storage: value and bus error (R84, R93). Of the window's storage, data memory and inbox are checked
(the table of R81). -/
def State.winRead (s : State) (c off : Nat) : Nat × Bool × State :=
  let loc := winLoc (s.flag CELL_SBSEL_CUR c) off
  if !loc.isStorage then (0, false, s)
  else if s.mode = .run then (0, false, s.cellFlag CELL_STAT_WINRUN c)
  else
    let s := s.settleCell c
    let (v, u, a, bad) := (s.cell c).winGet loc
    if bad = 0 ∨ (u ≠ 2 ∧ u ≠ 3) then (v, false, s) else (v, true, s.cellParity c u a bad)

/-- Store the bytes of a mask at a storage location; with PINJ set, byte 0 gets inverted parity (R81). -/
def Cell.winPut (x : Cell) (loc : WinLoc) (v mask : Nat) (inj : Bool) : Cell :=
  match loc with
  | .word u a =>
    let y := x.wr u a (BitVec.ofNat 64 v) (BitVec.ofNat 64 (byteMask 8 mask))
    if inj && bit mask 0 then { y with bad := sput y.bad (65536 * u + a) (y.rdBad u a ||| 1) 0 } else y
  | .ftab f =>
    (List.range 4).foldl (fun y i =>
      let m := mask / 4 ^ i % 4
      if m = 0 then y
      else
        let y := y.wr 5 (f + i) (BitVec.ofNat 64 (bits v (16 * i + 15) (16 * i))) (BitVec.ofNat 64 (byteMask 2 m))
        if inj && i == 0 && bit m 0 then { y with bad := sput y.bad (65536 * 5 + f) (y.rdBad 5 f ||| 1) 0 } else y) x
  | _ => x

/-- A window write of storage outside RUN, and in RUN to the idle page of a paged cell, is performed; any other in RUN is ignored
and sets WINRUN, and IMWRUN as well for the instruction memory (R80, R93). The function table takes writes in READY and HOLD
alone (R78). DESIGN CHOICE (log 148): every write of storage that is performed uses up PINJ, also one that does not cover byte 0, whose parity
stays good; a write of a register, `CELL_LC0` and `CELL_LC1` among them, neither injects nor clears it. -/
def State.winWrite (s : State) (c off v mask : Nat) : State :=
  let loc := winLoc (s.flag CELL_SBSEL_CUR c) off
  let idle := s.flag CELL_IMCFG_PAGED c && (match loc with | .word 0 a => decide (a / 9216 ≠ s.get CELL_IMCFG_RUNPAGE c) | _ => false)
  let ftab : Bool := match loc with | .ftab _ => true | _ => false
  if !loc.isStorage then s
  else if s.mode = .run ∧ !idle then
    match loc with
    | .word 0 _ => (s.raise CELL_STAT_IMWRUN c).cellFlag CELL_STAT_WINRUN c
    | _ => s.cellFlag CELL_STAT_WINRUN c
  else if ftab ∧ s.mode ≠ .ready ∧ s.mode ≠ .hold then s
  else
    let s := s.settleCell c
    let inj := s.flag CELL_CTL_PINJ c
    (s.setCell c ((s.cell c).winPut loc v mask inj)).lower CELL_CTL_PINJ c

/-- PINJ: arm inverted parity for the next window write (R81). -/
def execPinj (c : PCell) (s : State) : Host.Outcome State Fault Refusal :=
  if s.winOn c.val then .next (s.raise CELL_CTL_PINJ c.val)
  else .next (if s.domOn (712 + c.val / 1088) then s.raise CLU_STAT_OFFACC (c.val / 68) else s)

end Sys2Proof.Machine
end

