-- ==== Sys2Proof/Machine/Record.lean ====
section
/-! DEFINITION. Cell records in a checkpoint slot (03 R90, R91; 08 R225-R228, R231, R240): draining a cell, preparing a
record, restoring a cell, and the slot header. -/

namespace Sys2Proof.Machine

/-- The physical cells that are ACTIVE and powered. -/
def State.liveCells (s : State) : List Nat := (List.range 8704).filter (fun c => s.active c && s.domOn (cellDomain c))

/-- CKPBANKS of a cell: bit v says that state bank 12 + v holds design state (05 R141). -/
def State.ckpBanks (s : State) (t l : Nat) : Nat := sget s.img.ckpbanks (1024 * t + l) 15

/-- Bytes 64n to 64n + 63 of data memory as eight words. -/
def Cell.line (x : Cell) (n : Nat) : List Word := (List.range 8).map (fun i => x.rd 2 (8 * n + i))

/-- Write words at successive addresses. -/
def State.putWords (s : State) (a : Nat) (l : List Word) : State :=
  s.setBytes a (l.flatMap (fun w => (leBytes 8 w.toNat).map (BitVec.ofNat 8 ·)))

/-- Units 0 to 8 of a cell: the word file, LC0 and LC1, and zeros (R90). -/
def Cell.fileUnits (x : Cell) : List Word :=
  (List.range 64).map (fun n => x.rd 4 n) ++ [x.rd 6 0, x.rd 6 1] ++ List.replicate 6 0

/-- The words of state bank 12 + v, current copy. -/
def Cell.bankWords (x : Cell) (cur : Bool) (v : Nat) : List Word :=
  (List.range 32).map (fun w => x.rd 1 (32 * physBank cur false (12 + v) + w))

/-- Write units 0 to 24 of a cell into its record: of the state banks only those that CKPBANKS lists (05 R141). -/
def State.putUnits (s : State) (b : Nat) (x : Cell) (cur : Bool) (banks : Nat) : State :=
  (List.range 4).foldl (fun s v => if bit banks v then s.putWords (b + 576 + 256 * v) (x.bankWords cur v) else s)
    (s.putWords b x.fileUnits)

/-- Write the listed data-memory lines of a cell into its record. -/
def State.putLines (s : State) (b : Nat) (x : Cell) (lines : List Nat) : State :=
  lines.foldl (fun s n => s.putWords (b + 0x1000 + 64 * n) (x.line n)) s

/-- Write the captured-slot masks of a cell into its record (08 R227). -/
def State.putMasks (s : State) (b m : Nat) : State := (s.setNum (b + 0x640) 8 (m % 2 ^ 64)).setNum (b + 0x648) 8 (m / 2 ^ 64)

/-- The lines of a bitmap, ascending. -/
def mapLines (m : Nat) : List Nat := (List.range 512).filter (bit m)

/-- Words of a cell that a drain reads and whose parity fails, in the order of the drain units (R81, R90): unit, word, bytes. -/
def Cell.drainErrs (x : Cell) (cur : Bool) : List (Nat × Nat × Nat) :=
  let chk := fun (u : Nat) (l : List Nat) => l.filterMap (fun a => if x.rdBad u a = 0 then none else some (u, a, (x.rdBad u a).toNat))
  chk 4 (List.range 64) ++ chk 6 [0, 1] ++
    chk 1 ((List.range 128).map (fun w => 32 * physBank cur false (12 + w / 32) + w % 32)) ++
    chk 2 ((mapLines x.snap).flatMap (fun n => (List.range 8).map (8 * n + ·)))

/-- The HBM stack of tile t takes no writes: it is off or has failed. -/
def State.slotLost (s : State) (t : Nat) : Bool := !s.domOn (704 + t) || s.flag TME_STAT_STKFAIL t

/-- A cell sends its units to the target slot (R90), one in an FCLK cycle. A parity error is reported and fails the checkpoint with cause 1, a write that the
stack does not take with cause 2 (08 R228). -/
def State.drainCell (s : State) (c : Nat) : State :=
  let x := s.cell c
  let t := c / 1088
  let l := s.lcell c
  let cur := s.flag CELL_SBSEL_CUR c
  let b := s.recBase t s.targetSlot l
  let put := fun (s : State) => ((s.putUnits b x cur (s.ckpBanks t l)).putLines b x (mapLines x.snap)).putMasks b x.carried
  let last := s.tb + 24 + (mapLines x.snap).length
  let u := (x.drainErrs cur).foldl (fun s e => s.cellParity c e.1 e.2.1 e.2.2 1) (s.setCell c { x with drained := true, drainedAt := last })
  if s.slotLost t then u.ckpFail 2 else put u

/-- Copy 64 bytes of memory. -/
def State.copyLine (s : State) (src dst : Nat) : State := s.setBytes dst (s.bytes src 64)

/-- What HBM reports for the lines of the other slot that the preparation of a cell reads, by their numbers in the cell's data memory (13 R365). -/
def State.prepareErrs (s : State) (c : Nat) (errs : LineErrs) : State :=
  let x := s.cell c
  let t := c / 1088
  let a := s.recBase t (1 - s.targetSlot) (s.lcell c) + 0x1000 - stackBase t
  (errs.filter (fun q => decide (q.1 < 512) && (x.prepAll || (mapLines x.lastDirty).contains q.1))).foldl
    (fun s q => (s.hbmTouch t (a + 64 * q.1) q.2).1) s

/-- SLOT_PREPARATION of a cell: the lines dirty in the last complete drain, or all, come from the other slot
(08 R225). -/
def State.prepareCell (s : State) (c : Nat) : State :=
  let x := s.cell c
  let t := c / 1088
  let l := s.lcell c
  let src := s.recBase t (1 - s.targetSlot) l + 0x1000
  let dst := s.recBase t s.targetSlot l + 0x1000
  let u := (if x.prepAll then List.range 512 else mapLines x.lastDirty).foldl
    (fun s n => s.copyLine (src + 64 * n) (dst + 64 * n)) s
  u.setCell c { x with prepared := true, prepAll := false }

/-- The header of a slot: resume stroke, VALID with the pages of R148, PLACEMENT (08 R231). DESIGN CHOICE (log 179): the page of a cluster is
that of the cell at its logical position 0. -/
def State.putHeader (s : State) (t slot resume : Nat) (valid : Bool) : State :=
  let pages := (List.range 16).foldl (fun a c =>
    match s.pcellOf (16 * t + c) 0 with
    | some p => a + s.get CELL_IMCFG_RUNPAGE p * 2 ^ (c + 1)
    | none => a) 0
  let b := s.slotBase t slot
  ((s.setNum b 8 resume).setNum (b + 8) 8 (b2n valid + pages)).setNum (b + 16) 8 s.img.placement

/-- Write the entry checkpoint of a cell into slot A: the state banks that CKPBANKS lists (05 R141), every line of the data memory (01 R28). -/
def State.entryRecord (s : State) (c : Nat) : State :=
  let x := s.cell c
  let b := s.recBase (c / 1088) 0 (s.lcell c)
  ((s.putUnits b x (s.flag CELL_SBSEL_CUR c) (s.ckpBanks (c / 1088) (s.lcell c))).putLines b x (List.range 512)).putMasks b 0

/-- Words read back from a record. -/
def State.getWords (s : State) (a n : Nat) : List Word := (List.range n).map (fun i => s.word (a + 8 * i))

/-- Write words into successive words of a storage unit. -/
def Cell.putWords (x : Cell) (u a : Nat) : List Word → Cell
  | [] => x
  | w :: t => (x.wr u a w (BitVec.allOnes 64)).putWords u (a + 1) t

/-- The slots of a cell after a restore: the captured carried slots present, all others clear (04 R117, R120; 08
R227). -/
def State.restoredSlots (s : State) (b : Nat) : List (Nat × XSlot) :=
  let m := s.num (b + 0x640) 8 + s.num (b + 0x648) 8 % 2 ^ 16 * 2 ^ 64
  (List.range 80).filterMap (fun k =>
    if bit m k then some (k, { XSlot.clear with val := s.word (b + 0x650 + 8 * k), present := true }) else none)

/-- A cell takes back the state of its record: both copies of the state banks, zeros in the banks that CKPBANKS does
not list, every data-memory line; dirty bitmap, arrived flags and BP clear (R91, R104; 05 R141). -/
def State.restoreCell (s : State) (slot resume c : Nat) : State :=
  let t := c / 1088
  let l := s.lcell c
  let b := s.recBase t slot l
  let banks := s.ckpBanks t l
  let f := s.getWords b 72
  let x := { s.cell c with pend := [], slots := s.restoredSlots b, arrived := 0, inbFrom := [], inbOld := [], dirty := 0, bp := false,
                           prepared := false, prepAll := true, carried := 0, moved := false }
  let x := (x.putWords 4 0 (f.take 64)).putWords 6 0 ((f.drop 64).take 2)
  let x := (List.range 4).foldl (fun x v =>
    let w := if bit banks v then s.getWords (b + 576 + 256 * v) 32 else List.replicate 32 0
    (x.putWords 1 (32 * (12 + 2 * v)) w).putWords 1 (32 * (13 + 2 * v)) w) x
  let x := x.putWords 2 0 (s.getWords (b + 0x1000) 4096)
  (s.setCell c x).set CELL_STAT_EPOCH c (resume % 2)

/-- The page a slot's header records for local cluster c (08 R231, 05 R148). -/
def State.pageOf (s : State) (t slot c : Nat) : Nat := bits (s.num (s.slotBase t slot + 8) 8) (c + 1) (c + 1)

/-- A slot of a tile is valid. -/
def State.slotValid (s : State) (t slot : Nat) : Bool := bit (s.num (s.slotBase t slot + 8) 8) 0

/-- Restore a cell and its running page. -/
def State.restoreOne (s : State) (slot resume c : Nat) : State :=
  (s.restoreCell slot resume c).set CELL_IMCFG_RUNPAGE c (s.pageOf (c / 1088) slot (c % 1088 / 68))

/-- The writes of cores and the host that were performed in HOLD or SERVICE since the last complete checkpoint are no design writes: a rollback
leaves them applied (13 R364). -/
def State.reapply (s : State) (t : Nat) : State :=
  (s.ckp.extWrites.filter (fun p => p.1 / 0x900000000 == t)).foldl (fun s p => s.setBytes p.1 p.2) s

/-- A tile unwinds its journal and forgets what the interval replayed (08 R233, R240). -/
def State.unwindTile (s : State) (t : Nat) : State :=
  let u := (s.unwind t (s.tile t).jent).reapply t
  u.setTile t { u.tile t with jent := 0, consumed := [], fenced := [], unwound := true }

/-- Tiles whose fabric and TME are powered. -/
def State.liveTiles (s : State) : List Nat := (List.range 8).filter (fun t => s.domOn (704 + t) && s.domOn (712 + t))

/-- Physical channels of stack t that hold members or the parity and have failed. -/
def State.failedCount (s : State) (t : Nat) : Nat :=
  (dedupNat ((List.range 15).map (fun m => s.get (chEntry m) t) ++ (if s.get TME_CHSTAT_PARITY t = 1 then [s.get TME_CHMAP_CH15 t] else []))).countP
    (bit (s.get TME_CHSTAT_FAILED t))

/-- The records of stack t can be rebuilt: at most one of the channels in use has failed, and none without parity (13 R365-R368). -/
def State.stackReads (s : State) (t : Nat) : Bool := !s.flag TME_STAT_STKFAIL t && decide (s.failedCount t ≤ s.get TME_CHSTAT_PARITY t)

/-- A slot of a powered tile cannot be restored from: its first such tile (08 R242). -/
def State.lostTile (s : State) (slot : Nat) : Option Nat := s.liveTiles.find? (fun t => !s.slotValid t slot || !s.stackReads t)

/-- The LCELL of the first record of tile t that a restore reads. -/
def State.firstRecord (s : State) (t : Nat) : Nat := ((s.liveCells.filter (fun c => c / 1088 == t)).map (s.lcell ·)).foldl min 1023

/-- CKP_LOST (08 R242, R255): the tile, the LCELL of the first unreadable record and the resume stroke. -/
def State.lost (s : State) (t l resume : Nat) : State := (s.raise CKP_STAT_LOST).fault 0x404 3 t l ((s.pcellL t l).getD 0xFFFF) 0 resume

/-- The cells that a commit has put in place of others since the restore started are restored from the slot (08 R241). -/
def State.restoreMoved (s : State) (slot resume : Nat) : State :=
  (s.liveCells.filter (fun c => (s.cell c).moved)).foldl (fun s c => s.restoreOne slot resume c) s

/-- The cells of a tile are restored, and its journal is unwound. -/
def State.restoreTile (s : State) (slot resume t : Nat) : State :=
  ((s.liveCells.filter (fun c => c / 1088 == t)).foldl (fun s c => s.restoreOne slot resume c) s).unwindTile t

/-- A stack whose cells' requests wait serves them before its restore, which is of a lower class (13 R356). -/
def State.restoreWaits (s : State) (t : Nat) : Bool := s.domOn (704 + t) && s.domOn (712 + t) && !(s.tile t).unwound && !(s.tile t).memq.isEmpty

/-- Every tile's restore and unwind are done (08 R242). -/
def State.tilesRestored (s : State) : Bool := (List.range 8).all (fun t => !s.restoreWaits t)

/-- The actions of R240 on RESTORE, from a slot. A tile with waiting requests is restored when it has served them. -/
def State.restoreAll (s : State) (slot resume : Nat) : State :=
  let u := s.liveTiles.foldl (fun s t => s.setTile t { s.tile t with unwound := false }) s
  let u := (s.liveTiles.filter (fun t => !u.restoreWaits t)).foldl (fun s t => s.restoreTile slot resume t) u
  u.set CLK_STROKE_NO_STROKE_NO 0 resume

end Sys2Proof.Machine
end

