-- ==== Sys2Proof/Machine/Stroke.lean ====
section
/-! DEFINITION. The stroke grid (02 R30-R36, R60): the start of a stroke, the steps of its boundary window, the paged
swap (05 R145-R148), the entry into RUN (16 R433) and the stroke period. Every step of the window happens at one
stroke cycle and once; commanded at any other moment it does nothing. -/

namespace Sys2Proof.Machine

/-- Change the stroke bookkeeping. -/
def State.setStroke (s : State) (x : StrokeSt) : State := { s with stroke := x }
/-- The orders of beats within a stroke begin anew where the emulation enters RUN, joins another, or a rollback goes back (07 R199). -/
def State.rewindLanes (s : State) : State :=
  { s with lanes := s.lanes.map (fun p => (p.1, { p.2 with rxCount := [], outN := 0, outStroke := 0 })) }

/-- Change the checkpoint bookkeeping. -/
def State.setCkp (s : State) (x : CkpSt) : State := { s with ckp := x }

/-- The current cycle is *P* − n of the stroke in progress. -/
def State.atEnd (s : State) (n : Nat) : Bool := s.inStroke && decide (s.cyc + n = s.stroke.period)

/-- A hold begins at the end of the stroke in progress (08 R237). -/
def State.holdDue (s : State) : Bool := s.stroke.started && s.ckp.holdTargets.any (fun h => decide (h.2 ≤ s.stroke.no))

/-! ### What bars entry into RUN (01 R27, R29, 02 R30, 05 R137, 08 R221, 13 R361) -/

/-- *S* declared for a page of a logical cell (05 R136); none where it is not declared. -/
def State.declared (s : State) (t l page : Nat) : Option Nat := lookup s.img.declS ((1024 * t + l) * 2 + page)

/-- Every function number of 16 R449, in ascending order. -/
def functions : List Nat :=
  [(0, 8), (1, 128), (2, 512), (3, 8), (4, 8), (5, 20), (6, 6)].flatMap (fun p : Nat × Nat => (List.range p.2).map (1024 * p.1 + ·))

/-- The first used function that is not ready (01 R29). -/
def State.firstUnready (s : State) : Option Nat := functions.find? (fun f => s.used f && !s.ready f)

/-- The physical cells that run an ACTIVE position, in ascending order of logical address. -/
def State.activeCells (s : State) : List (Nat × Nat) :=
  (List.range 8192).filterMap (fun a => (s.pcellL (a / 1024) (a % 1024)).map (fun c => (a, c)))

/-- The declared *S* of the page that an ACTIVE cell runs (05 R137). -/
def State.declaredOf (s : State) (x : Nat × Nat) : Option Nat :=
  s.declared (x.1 / 1024) (x.1 % 1024) (if s.flag CELL_IMCFG_PAGED x.2 then s.get CELL_IMCFG_RUNPAGE x.2 else 0)

/-- Every *S* declared for an ACTIVE cell: in paged mode those of both its pages (05 R129, R136). -/
def State.declaredAll (s : State) (x : Nat × Nat) : List Nat :=
  (if s.flag CELL_IMCFG_PAGED x.2 then [0, 1] else [0]).filterMap (s.declared (x.1 / 1024) (x.1 % 1024))

/-- The first cell with an *S* larger than *P* − 32 (02 R30, 05 R129). -/
def State.tooLong (s : State) : Option Nat :=
  (s.activeCells.find? (fun x => (s.declaredAll x).any (fun v => decide (s.get CLK_STROKE_CFG_PERIOD < v + 32)))).map (·.1)

/-- The first ACTIVE cell without a declared *S* (05 R137). -/
def State.undeclared (s : State) : Option Nat := (s.activeCells.find? (fun x => (s.declaredOf x).isNone)).map (·.1)

/-- The first tile whose checkpoint area is misplaced (13 R361). -/
def State.areaOverlap (s : State) : Option Nat :=
  (List.range 8).find? (fun t =>
    let ca := s.get CKP_AREA_BASE t * 2 ^ 31 - stackBase t
    let lo := s.get TME_CFG_DMBASE t * 2 ^ 21
    let hi := lo + s.get TME_CFG_DMSIZE t * 2 ^ 21
    (decide (lo < hi) && decide (ca < hi) && decide (lo < ca + 2 ^ 31)) || (decide (ca < 0x880000000) && decide (0x7F0000000 < ca + 2 ^ 31)))

/-- The longest checkpoint interval in FCLK cycles (08 R221). -/
def State.intervalMax (s : State) : Nat := if s.slowClock then 300000 else 400000

/-- Why the module may not enter RUN now, as reason and detail of 15 R407: an image section has failed (01 R27), a used function is not ready
(R29), an *S* does not fit (02 R30), the image does not suit (05 R137), the checkpoint interval does not (08 R221), or a checkpoint area is
misplaced (13 R361). Checked by START, at *T*START, and at a resume from HOLD. Log 145. -/
def State.runRefusal (s : State) : Option (Nat × Nat) :=
  if s.img.failedSection then some (7, s.get MGT_IMG_CTL_FAILSECT)
  else match s.firstUnready with
    | some f => some (2, f)
    | none => match s.tooLong with
      | some a => some (3, a)
      | none => match s.undeclared with
        | some a => some (4, a)
        | none =>
          if s.img.loaded && decide (s.get CLK_STROKE_CFG_PERIOD < s.img.pmin) then some (5, s.img.pmin)
          else if s.img.loaded && s.img.fclk12 != s.slowClock then some (6, 0)
          else if s.get CKP_POL_N = 0 ∨ s.intervalMax < s.get CKP_POL_N * s.get CLK_STROKE_CFG_PERIOD then some (9, s.get CKP_POL_N)
          else s.areaOverlap.map (fun t => (0xA, t))

/-- Entry into RUN is refused: at *T*START the module disarms and sets MISSED (16 R433, R434); in HOLD it stays, and waits for another
resume. -/
def State.refuseRun (s : State) (x : Nat × Nat) : State :=
  if s.mode = .hold then (s.setStroke { s.stroke with nextAt := none }).refuse x.1 x.2
  else (((s.setStroke { s.stroke with entryDone := false }).disarm).refuse x.1 x.2).raise MGT_MODE_MISSED

/-! ### STROKE_START -/

/-- A cell begins its stroke at bundle 0, or at bundle 1,024 × RUNPAGE (04 R125). -/
def State.startCell (s : State) (c : Nat) : State :=
  let a := if s.flag CELL_IMCFG_PAGED c then 1024 * s.get CELL_IMCFG_RUNPAGE c else 0
  ((s.setCell c { s.cell c with next := a, exec := 0, carried := 0 }).raise CELL_STAT_ISSUING c).lower CELL_STAT_ENDED c

/-- What a resume with stroke k adds to `CLK_HOLD_ACC`: what keeps *T*k = *T*START + k·*P* + HOLD_ACC + PAUSE_ACC (02 R36), or,
where *P* changed, the cycles since the end of the last completed stroke (R60). -/
def State.holdAdded (s : State) (k : Nat) : Nat :=
  let p := s.get CLK_STROKE_CFG_PERIOD
  if p = s.stroke.period then
    wrap ((s.tb : Int) - s.get CLK_TSTART_TSTART - k * p - s.get CLK_PAUSE_ACC_ACC - s.get CLK_HOLD_ACC_ACC) 64
  else s.tb - s.stroke.endLast

/-- At a resume the hold is added to `CLK_HOLD_ACC` (02 R36), and *T*START follows where *P* changed (R60). -/
def State.resumeAccounts (s : State) (k : Nat) : State :=
  let p := s.get CLK_STROKE_CFG_PERIOD
  let u := s.set CLK_HOLD_ACC_ACC 0 (s.get CLK_HOLD_ACC_ACC + s.holdAdded k)
  if p = s.stroke.period then u
  else u.set CLK_TSTART_TSTART 0 (wrap ((s.tb : Int) - k * p - u.get CLK_HOLD_ACC_ACC - s.get CLK_PAUSE_ACC_ACC) 64)

/-- A hold ends: replay begins where a rollback went below H, or goes on where the hold fell within it (08 R243, R245), and the module runs
again. A fault whose hold ended without a rollback leads to no interruption, nor does a rollback without a fault of this module (R248). -/
def State.resumeRun (s : State) (k : Nat) : State :=
  let replay := decide (k ≤ s.get CKP_HWM_STROKE) && (s.ckp.restoreTo.isSome || s.flag CKP_STAT_REPLAY)
  let s := s.setCkp { s.ckp with restoreTo := none, restoring := false, fltSince := [], lastHoldReq := none, reports := [],
                                 fencePending := replay, faultAt := if s.ckp.rolledBack then s.ckp.faultAt else none,
                                 rolledBack := s.ckp.rolledBack && s.ckp.faultAt.isSome }
  let s := (if replay then s.raise CKP_STAT_REPLAY else s.lower CKP_STAT_REPLAY)
  s.enter .run

/-- Replay ends with the start of stroke H + 1 (08 R245). -/
def State.endReplay (s : State) (k : Nat) : State :=
  if s.flag CKP_STAT_REPLAY && decide (k = s.get CKP_HWM_STROKE + 1) then
    let u := s.lower CKP_STAT_REPLAY
    if s.ckp.fencePending then (u.setCkp { u.ckp with fencePending := false }).sendPstat else u
  else s

/-- Before stroke k = H + 1 starts, the outputs that the window of stroke H sent before the hold are counted as well (08 R236, R244). -/
def State.closeReplay (s : State) (k : Nat) : State :=
  if s.flag CKP_STAT_REPLAY && s.ckp.restoreTo.isNone && decide (k = s.get CKP_HWM_STROKE + 1) then
    s.liveTiles.foldl (fun s t => s.fenceClose t k) s
  else s

/-- The interruption of a rollback ends with the start of the stroke after the fault's (08 R248). -/
def State.noteInterruption (s : State) (k : Nat) : State :=
  match s.ckp.faultAt with
  | some a =>
    if k = s.ckp.faultStroke + 1 ∧ s.ckp.rolledBack then
      let d := s.tb - a - (s.get CLK_PAUSE_ACC_ACC - s.ckp.faultPause)
      (s.set CKP_TIME_LASTINT 0 (min d (2 ^ 32 - 1))).setCkp { s.ckp with faultAt := none, rolledBack := false }
    else s
  | none => s

/-- `TRC_PCTL` as it stands takes effect for the stroke that begins (18 R478): GEN, and DIV from bit 8. -/
def State.latchProbes (s : State) : State :=
  let l := (List.range 8).map (fun t => (t, s.get TRC_PCTL_GEN t + 2 ^ 8 * s.get TRC_PCTL_DIV t))
  { s with trace := { s.trace with pctl := l.filter (fun p => p.2 != 0) } }

/-- The output-log position at the start of the resume stroke of the last complete checkpoint: what lies before it was sent in the window of
the stroke before. In replay the outputs that the fence took in that window are those before it (08 R236, R244). -/
def State.noteStarts (s : State) (replay : Bool) : State :=
  (List.range 8).foldl (fun s t =>
    let x := s.tile t
    s.setTile t (if replay then { x with outStart := x.outKept + (x.fenced.map (·.2)).foldl (· + ·) 0, fenced := [] }
                 else { x with outStart := x.outPos })) s

/-- The bookkeeping of a stroke that begins. -/
def State.openStroke (s : State) (k : Nat) : State :=
  let p := s.get CLK_STROKE_CFG_PERIOD
  let s := s.latchProbes
  let next := if s.ckpStroke k then none else some (s.tb + p)
  let s := s.setStroke ⟨k, s.tb, p, next, k + 1, true, false, false, false, false, false, false, s.stroke.endLast⟩
  (s.setCkp { s.ckp with failed := false, reported := false, pauseEnd := none, swapOutcome := 0 }).set
    CLK_STROKE_NO_STROKE_NO 0 k

/-- LATE_HOST for a value that is not staged (02 R56). -/
def State.lateHost (s : State) (h : HostVal) : State :=
  s.deadline CLK_DL_STAT_LATE_HOST 0x105 none 8 h.ch 0xFFFF (h.tag % 2 ^ 32 + h.sqIdx % 2 ^ 16 * 2 ^ 32) h.promise

/-- A value promised at stroke k misses the boundary check: it is not staged, or was staged in this cycle (02 R56). -/
def State.missesWindow (s : State) (k : Nat) (h : HostVal) : Bool :=
  h.promise == k && !h.late && !h.written && (!h.staged || h.stagedAt == s.tb)

/-- Mark the late host values: their inbox entries stay not arrived. -/
def State.markLate (s : State) (k : Nat) : State :=
  { s with hostVals := s.hostVals.map (fun h => if s.missesWindow k h then { h with late := true } else h) }

/-- The late values of stroke k are reported and marked. -/
def State.noteLate (s : State) (k : Nat) : State :=
  ((s.hostVals.filter (s.missesWindow k)).foldl (fun s h => s.lateHost h) s).markLate k

/-- The host values of the stroke k that a hold ends with. Those of a stroke that is replayed come from the log (08 R243). Of any other, which the
boundary window before the hold did not find, the staged ones are delivered as it starts. -/
def State.resumeHosts (s : State) (k : Nat) : State :=
  let t := if s.ckp.restoreTo.isSome then (List.range 8).foldl (fun s t => s.replayHosts k t) (s.restoreMoved (s.get CKP_STAT_LASTSLOT) k) else s
  if k ≤ s.get CKP_HWM_STROKE ∧ (s.ckp.restoreTo.isSome ∨ s.flag CKP_STAT_REPLAY) then t
  else (t.hostVals.filter (fun h => h.promise == k && h.staged && !h.late && !h.written && h.stagedAt != t.tb)).foldl (fun s h => s.resumeHost h) t

/-- The values of stroke k that a hold ended without staging are late (02 R56; log 219). -/
def State.lateAtResume (s : State) (k : Nat) : State := if s.flag CKP_STAT_REPLAY then s else s.noteLate k

/-- A hold ends with the start of stroke k: its host values are delivered. The HOLD_END record is written in cycle 0 of that stroke (02 R36, 19
R495). -/
def State.resumeStroke (s : State) (k : Nat) : State :=
  let t := s.resumeHosts k
  ((((t.resumeAccounts k).resumeRun k).openStroke k).logOnly 0xF01 4 0xFF 0 0xFFFF (s.holdAdded k) k).lateAtResume k

/-- A fault of stroke k or of an earlier one whose hold has not begun: no checkpoint takes stroke k in (02 R49), so that of a checkpoint
stroke k fails with cause 4 (08 R228). -/
def State.failCarried (s : State) (k : Nat) : State :=
  if s.ckpStroke k && s.ckp.fltSince.any (fun r => bit r.flags 4 && decide (r.stroke ≤ k)) then s.ckpFail 4 else s

/-- The next stroke may start now: its time has come, and no hold is due. -/
def State.mayStart (s : State) : Bool :=
  s.stroke.nextAt == some s.tb && s.issueClock && (s.mode == .hold || (s.mode == .run && !s.holdDue))

/-- The next stroke starts: out of HOLD the module resumes (02 R33, R36). Where the logs of the resume stroke begin is noted, but for a
replay that begins with it. -/
def State.startStroke (s : State) : State :=
  let k := s.stroke.nextNo
  let replay := s.flag CKP_STAT_REPLAY && decide (k ≤ s.get CKP_HWM_STROKE)
  let back := s.mode == .hold && s.ckp.restoreTo.isSome && decide (k ≤ s.get CKP_HWM_STROKE)
  let s := s.closeReplay k
  let s := if s.mode = .hold then s.resumeStroke k else s.openStroke k
  let s := if k = s.get CKP_LAST_STROKE ∧ !back then s.noteStarts replay else s
  let s := ((s.endReplay k).noteInterruption k).failCarried k
  s.liveCells.foldl (fun s c => s.startCell c) s

/-- STROKE_START. A resume that the checks of entry into RUN refuse leaves the module in HOLD. -/
def execStrokeStart (s : State) : Host.Outcome State Fault Refusal :=
  if s.mayStart then
    match s.runRefusal with
    | some x => if s.mode = .hold then .next (s.refuseRun x) else .next s.startStroke
    | none => .next s.startStroke
  else .next s

/-! ### The boundary window -/

/-- A cell that has not issued ENDSTROKE stops and raises LATE_BOUNDARY (02 R46). -/
def State.stopCell (s : State) (c : Nat) : State :=
  if s.flag CELL_STAT_ISSUING c then (s.lateBoundary c).lower CELL_STAT_ISSUING c else s

/-- BOUNDARY_WINDOW_OPEN at *P* − 32 (02 R33): cell issue stops and the boundary checks are made. -/
def execBoundaryWindowOpen (s : State) : Host.Outcome State Fault Refusal :=
  if s.atEnd 32 && !s.stroke.opened then
    .next ((s.liveCells.foldl (fun s c => s.stopCell c) (s.setStroke { s.stroke with opened := true })).noteLate (s.stroke.no + 1))
  else .next s

/-- The state banks flip: the new current copy is copied into the new next copy (03 R68). -/
def Cell.flipBanks (x : Cell) (cur : Bool) : Cell :=
  (List.range 128).foldl (fun x w =>
    x.wr 1 (32 * physBank (!cur) true (12 + w / 32) + w % 32) (x.rd 1 (32 * physBank (!cur) false (12 + w / 32) + w % 32))
      (BitVec.allOnes 64)) x

/-- Clear ACTIVE of both loop registers (03 R79). -/
def Cell.clearLoops (x : Cell) : Cell :=
  (x.wr 6 0 0 (BitVec.ofNat 64 (2 ^ 48))).wr 6 1 0 (BitVec.ofNat 64 (2 ^ 48))

/-- What *P* − 24 does to a cell: the banks flip, the epoch rolls, arrived flags, BP and ACTIVE clear (03 R68, R75, R79,
04 R104), and in a checkpoint stroke the dirty bitmap is kept for the drain (03 R72). -/
def State.flipCell (s : State) (ckp : Bool) (c : Nat) : State :=
  let s := s.settleCell c
  let cur := s.flag CELL_SBSEL_CUR c
  let x := ((s.cell c).flipBanks cur).clearLoops
  let x := { x with arrived := 0, inbFrom := [], inbOld := [], bp := false, snap := if ckp then x.dirty else x.snap, drained := !ckp }
  ((s.setCell c x).set CELL_SBSEL_CUR c (b2n (!cur))).set CELL_STAT_EPOCH c (b2n (!s.flag CELL_STAT_EPOCH c))

/-- A cell drains, or its drain waits for the preparation of its record (08 R225). -/
def State.startDrain (s : State) (c : Nat) : State :=
  if s.ckp.failed then s
  else if (s.cell c).prepared then s.drainCell c
  else s.raise CKP_STAT_PREPWAIT

/-- The stroke markers of a tile's logs; in replay they are already there, and the fence closes the stroke. -/
def State.closeLogs (s : State) (t : Nat) : State :=
  if s.flag CKP_STAT_REPLAY then s.fenceClose t s.stroke.no
  else (s.putMarker t false s.stroke.no).putMarker t true s.stroke.no

/-- The target slot is not valid while it is written (08 R223). -/
def State.invalidateTarget (s : State) (t : Nat) : State := s.setNum (s.slotBase t s.targetSlot + 8) 8 0

/-- STATE_BANK_FLIP at *P* − 24 (03 R68, R75, R79): the flip on every cell, the log markers (08 R234), and in a
checkpoint stroke the drain (R90, 08 R226); a module whose own fault failed the checkpoint does not drain. -/
def execStateBankFlip (s : State) : Host.Outcome State Fault Refusal :=
  if s.atEnd 24 && !s.stroke.flipped then
    let ckp := s.ckpStroke s.stroke.no
    let s := s.liveCells.foldl (fun s c => s.flipCell ckp c) (s.setStroke { s.stroke with flipped := true })
    let s := s.liveTiles.foldl (fun s t => s.closeLogs t) s
    if ckp then
      let s := s.lower CKP_CTL_SWACK
      let s := s.liveTiles.foldl (fun s t => s.invalidateTarget t) s
      .next (s.liveCells.foldl (fun s c => s.startDrain c) s)
    else .next s
  else .next s

/-- STROKE_NO_ADVANCE at *P* − 16 (02 R34). -/
def execStrokeNoAdvance (s : State) : Host.Outcome State Fault Refusal :=
  if s.atEnd 16 && !s.stroke.advanced then
    .next ((s.setStroke { s.stroke with advanced := true }).set CLK_STROKE_NO_STROKE_NO 0 (s.stroke.no + 1))
  else .next s

/-! ### The paged swap (05 R145-R148) -/

/-- ACTIVE cells of global cluster g. -/
def State.clusterCells (s : State) (g : Nat) : List Nat := ((List.range 68).map (68 * g + ·)).filter (fun c => s.active c)

/-- Clusters that take part in a swap: powered, with an ACTIVE cell. -/
def State.swapClusters (s : State) : List Nat := (List.range 128).filter (fun g => s.domOn g && !(s.clusterCells g).isEmpty)

/-- Cluster g is armed for stroke k. -/
def State.armedFor (s : State) (k g : Nat) : Bool := s.flag CLU_SWAP_CTL_ARM g && decide (s.get CLU_SWAP_STROKE_TARGET g = k)

/-- A cluster's swap is cancelled: MISSED and its event (R146). -/
def State.missSwap (s : State) (g : Nat) : State :=
  ((s.lower CLU_SWAP_CTL_ARM g).raise CLU_SWAP_CTL_MISSED g).lecSample (512 * (g / 16) + 0x120 + g % 16) true

/-- The cells of a cluster are armed to swap. -/
def State.armCells (s : State) (g : Nat) : State := (s.clusterCells g).foldl (fun s c => s.raise CELL_IMCFG_SWAPARM c) s

/-- SWAP_CHECK at *P* − 40 (R146). -/
def execSwapCheck (s : State) : Host.Outcome State Fault Refusal :=
  if s.atEnd 40 && !s.stroke.swapSeen then
    let all := s.swapClusters
    let armed := all.filter (fun g => s.armedFor s.stroke.no g)
    let s := s.setStroke { s.stroke with swapSeen := true }
    if armed.isEmpty then .next s
    else if armed.length = all.length then
      .next (armed.foldl (fun s g => s.armCells g) (s.setCkp { s.ckp with swapOutcome := 1 }))
    else .next (armed.foldl (fun s g => s.missSwap g) (s.setCkp { s.ckp with swapOutcome := 2 }))
  else .next s

/-- A cell inverts RUNPAGE. -/
def State.swapCell (s : State) (c : Nat) : State :=
  if s.flag CELL_IMCFG_SWAPARM c then
    (s.set CELL_IMCFG_RUNPAGE c (1 - s.get CELL_IMCFG_RUNPAGE c)).lower CELL_IMCFG_SWAPARM c
  else s

/-- A cluster has swapped: ARM clears, DONE sets. -/
def State.swapDone (s : State) (g : Nat) : State := (s.lower CLU_SWAP_CTL_ARM g).raise CLU_SWAP_CTL_DONE g

/-- PAGED_SWAP at *P* − 8 (R146). -/
def execPagedSwap (s : State) : Host.Outcome State Fault Refusal :=
  if s.atEnd 8 && !s.stroke.paged then
    let s := s.setStroke { s.stroke with paged := true }
    if s.ckp.swapOutcome = 1 then
      let all := s.swapClusters
      let s := all.foldl (fun s g => (s.clusterCells g).foldl (fun s c => s.swapCell c) s) s
      .next (all.foldl (fun s g => s.swapDone g) s)
    else .next s
  else .next s

/-- The idle page of every ACTIVE cell of a cluster has a declared *S* that fits (R145). -/
def State.idleFits (s : State) (g : Nat) : Bool :=
  (s.clusterCells g).all (fun c => match s.declared (c / 1088) (s.lcell c) (1 - s.get CELL_IMCFG_RUNPAGE c) with
    | some n => decide (n + 32 ≤ s.periodNow)
    | none => false)

/-- The conditions of R145 for arming cluster g. -/
def State.mayArm (s : State) (g : Nat) : Bool :=
  (s.mode == .ready || s.mode == .run || s.mode == .hold) && (s.clusterCells g).all (fun c => s.flag CELL_IMCFG_PAGED c) &&
    s.get CKP_POL_N != 0 && s.get CLU_SWAP_STROKE_TARGET g % s.get CKP_POL_N == 0 &&
    decide (s.get CLK_STROKE_NO_STROKE_NO + 2 ≤ s.get CLU_SWAP_STROKE_TARGET g) && s.idleFits g

/-- A write of ARM (R145). A write of 0 disarms before the check of R146; after it the swap is decided. DESIGN CHOICE (log 158): a refused
write of 1 leaves ARM 0, also where it was 1. -/
def State.swapArm (s : State) (g : Nat) (arm : Bool) : State :=
  if arm then (if s.mayArm g then s.write1 CLU_SWAP_CTL_ARM g else (s.write0 CLU_SWAP_CTL_ARM g).raise CLU_SWAP_CTL_REFUSED g)
  else if s.inStroke && s.stroke.swapSeen && !s.stroke.paged && s.ckp.swapOutcome == 1 then s
  else s.write0 CLU_SWAP_CTL_ARM g

/-- The block that holds a cluster's registers answers: its tile fabric domain is on (13 R353). -/
def State.cluOn (s : State) (g : Nat) : Bool := s.domOn (712 + g / 16)

/-- SWAP_ARM. -/
def execSwapArm (g : Cluster) (arm : Bool) (s : State) : Host.Outcome State Fault Refusal :=
  if s.cluOn g.val then .next (s.swapArm g.val arm) else .next s

/-- Write a page into the page record of the last complete checkpoint (R148). DESIGN CHOICE (log 178): before any checkpoint is complete, the
slot that LASTSLOT names takes it. -/
def State.putPage (s : State) (g page : Nat) : State :=
  let a := s.slotBase (g / 16) (s.get CKP_STAT_LASTSLOT) + 8
  s.setNum a 8 (putBit (s.num a 8) (g % 16 + 1) (page == 1))

/-- A write of SETPAGE (R148). -/
def State.setPage (s : State) (g : Nat) : State :=
  if s.mode = .ready ∨ s.mode = .hold then
    let page := s.get CLU_SWAP_CTL_NEWPAGE g
    ((s.clusterCells g).foldl (fun s c => s.set CELL_IMCFG_RUNPAGE c page) s).putPage g page
  else s

/-- SETPAGE. -/
def execSetpage (g : Cluster) (s : State) : Host.Outcome State Fault Refusal :=
  if s.cluOn g.val then .next (s.setPage g.val) else .next s

/-! ### Entry into RUN (01 R28, 03 R92, 16 R433) -/

/-- A cell prepares stroke 0 (R92). -/
def State.prepareZero (s : State) (c : Nat) : State :=
  let x := ({ s.cell c with arrived := 0, inbFrom := [], inbOld := [], dirty := 0, snap := 0, lastDirty := 0, bp := false, pend := [],
                            slots := [], prepared := false, prepAll := true, carried := 0 }).clearLoops
  (s.setCell c x).lower CELL_STAT_EPOCH c

/-- A tile's logs and journal begin anew at the entry checkpoint. -/
def State.freshLogs (s : State) (t : Nat) : State :=
  let x := s.tile t
  s.setTile t { x with jent := 0, inKept := x.inPos, outKept := x.outPos, inMark := x.inPos, outMark := x.outPos, outStart := x.outPos,
                       fenced := [], consumed := [] }

/-- The entry checkpoint in slot A of every tile (R28). -/
def State.entryCheckpoint (s : State) : State :=
  let s := s.liveCells.foldl (fun s c => s.prepareZero c) s
  let s := s.liveCells.foldl (fun s c => s.entryRecord c) s
  let s := s.liveTiles.foldl (fun s t => (s.putHeader t 0 0 true).freshLogs t) s
  let s := (s.lower CKP_STAT_LASTSLOT).set CKP_LAST_STROKE 0 0
  (s.setCkp { s.ckp with extWrites := [] }).setStroke { s.stroke with entryDone := true }

/-- START is received (R433): an armed module writes `CLK_TSTART` and records the entry checkpoint, which a *T*START that is past has
missed; any other sets MISSED. -/
def State.takeStart (s : State) (v : Nat) : State :=
  if s.mode = .ready ∧ s.flag MGT_MODE_ARMED then
    let s := (s.set CLK_TSTART_TSTART 0 v).entryCheckpoint
    if v < s.tb then (s.setStroke { s.stroke with entryDone := false }).raise MGT_MODE_MISSED else s
  else if s.mode = .ready then s.raise MGT_MODE_MISSED
  else s

/-- RUN is entered: STROKE_NO and both accumulators are 0 and stroke 0 starts now (02, register map). -/
def State.runEntry (s : State) : State :=
  let s := ((s.lower MGT_MODE_ARMED).set CLK_HOLD_ACC_ACC 0 0).set CLK_PAUSE_ACC_ACC 0 0
  let s := (s.set CLK_STROKE_NO_STROKE_NO 0 0).lower CKP_STAT_REPLAY
  let s := s.setStroke { s.stroke with no := 0, period := s.get CLK_STROKE_CFG_PERIOD, nextAt := some s.tb, nextNo := 0, started := false, entryDone := true }
  let s := s.setCkp { s.ckp with holdTargets := [], fltSince := [], cause := [], restoreTo := none, restoring := false, reports := [],
                                 lastHoldReq := none, faultAt := none, rolledBack := false }
  ({ s with hostVals := s.hostVals.filter (!·.written) }.rewindLanes).enter .run

/-- A module that does not run at *T*START (R433). -/
def State.missStart (s : State) : State := (s.setStroke { s.stroke with entryDone := false }).raise MGT_MODE_MISSED

/-- RUN_ENTRY at *T*START (R433): an armed module with its entry checkpoint, which nothing bars, enters RUN; any other sets MISSED, also one
that a command has taken out of READY since the announcement (R434). -/
def execRunEntry (s : State) : Host.Outcome State Fault Refusal :=
  if s.tb = s.get CLK_TSTART_TSTART ∧ s.issueClock then
    if s.mode = .ready then
      if s.flag MGT_MODE_ARMED && s.stroke.entryDone then
        match s.runRefusal with
        | some x => .next (s.refuseRun x)
        | none => .next s.runEntry
      else .next s.missStart
    else if (s.mode = .service ∨ s.mode = .bringUp) ∧ s.stroke.entryDone then .next s.missStart
    else .next s
  else .next s

/-- A write of PERIOD (02 R60): only in READY and HOLD, and not a reserved value. -/
def State.periodWrite (s : State) (p : Nat) : State :=
  if (s.mode = .ready ∨ s.mode = .hold) ∧ 33 ≤ p then s.set CLK_STROKE_CFG_PERIOD 0 p else s

/-- PERIOD_WRITE. -/
def execPeriodWrite (p : BitVec 16) (s : State) : Host.Outcome State Fault Refusal :=
  if s.domOn 760 then .next (s.periodWrite p.toNat) else .next s

end Sys2Proof.Machine
end

