-- ==== Sys2Proof/Machine/Checkpoint.lean ====
section
/-! DEFINITION. Checkpoints, holds, rollback and the announcements of the time-base unit (08, 02 R35, 07 R212). -/

namespace Sys2Proof.Machine

/-- The module is the time master. -/
def State.isMaster (s : State) : Bool := s.get CLK_TM_CTL_ROLE == 1
/-- The value of COMPLETE that a hold follows (R238). -/
def holdValue : Nat := 2 ^ 64 - 1

/-! ### Relay (07 R212) -/

/-- Pass a message on, once, on every other lane in UP whose partner is a module or an expander. -/
def State.relay (s : State) (lane origin seq : Nat) (m : Ctl) : State :=
  let s := s.setCkp { s.ckp with relayed := (origin, seq) :: s.ckp.relayed }
  s.pushAll (s.meshLanes.filter (· != lane)) m

/-- The message has been relayed already. -/
def State.seen (s : State) (origin seq : Nat) : Bool := s.ckp.relayed.contains (origin, seq)

/-- A lane in UP receives. -/
def State.laneUp (s : State) (n : Nat) : Bool := s.get LNK_STAT_STATE n == 6

/-- A beat is received: it starts in a codeword that the decoder accepts, which ends a row of uncorrectable ones (07 R215, R216). -/
def State.goodCodeword (s : State) (n : Nat) : State := s.setLane n { s.lane n with uncRow := 0 }

/-- A beat arrives on a lane: in UP it ends a row of uncorrectable codewords. -/
def State.beatIn (s : State) (n : Nat) : State := if s.laneUp n then s.goodCodeword n else s

/-- An ANNOUNCE of a kind and value is relayed and then acted on; in SERVICE it is only relayed (16 R435), RESTORE
excepted. -/
def State.takeAnnounce (s : State) (a : AnnSource) (kind : Nat) (v : Word) (act : State → State) : State :=
  let s := s.beatIn a.lane.val
  if !s.laneUp a.lane.val || s.seen a.origin.toNat a.seq.toNat then s
  else
    let m : Ctl := ⟨7, [a.origin.toNat + a.seq.toNat * 2 ^ 32 + kind * 2 ^ 48 + a.epoch.toNat * 2 ^ 52, v.toNat]⟩
    let s := s.relay a.lane.val a.origin.toNat a.seq.toNat m
    if s.mode = .service ∧ kind ≠ 0xA then s else act s

/-! ### Completing a checkpoint (R224, R230, 02 R58) -/

/-- Every listed margin register starts a new interval, and may warn again in it (02 R58, R59). -/
def State.resetMargins (s : State) (fMin fPrev : Field) : State :=
  (dedupNat (s.listed fMin ++ s.listed fPrev)).foldl (fun s i => (s.set fPrev i (s.get fMin i)).set fMin i 0xFFFF) { s with warned := [] }

/-- The cells' dirty bitmaps clear, and the next target slot is to be prepared (03 R72, 08 R225). -/
def State.completeCell (s : State) (c : Nat) : State :=
  let x := s.cell c
  s.setCell c { x with dirty := 0, lastDirty := x.snap, prepared := false }

/-- A tile's slot gets its header, its journal is freed and its logs keep what follows the marker (R224, R232, R236). -/
def State.completeTile (s : State) (slot resume t : Nat) : State :=
  let s := s.putHeader t slot resume true
  s.setTile t { s.tile t with jent := 0, inKept := s.markEnd t false s.stroke.no, outKept := s.markEnd t true s.stroke.no }

/-- Host values whose stroke the checkpoint covers are done with. -/
def State.dropHosts (s : State) (k : Nat) : State := { s with hostVals := s.hostVals.filter (fun h => !(h.written && decide (h.promise < k))) }

/-- The stroke of entry i of a channel's ring (14 R393). -/
def State.entryStroke (s : State) (r : HostMapRec) (i : Nat) : Nat := s.num (r.ringBase + 16 * (i % r.ringLen)) 16 / 2 ^ 64 % 2 ^ 48

/-- The entries of a ring that a checkpoint with resume stroke k releases, in ring order: those of earlier strokes (14 R394). -/
def State.ringFrees (s : State) (k n : Nat) (x : ChanSt) : Nat :=
  match lookup s.img.hostmap n with
  | some r => ((List.range (x.wr - x.rel)).takeWhile (fun i => decide (s.entryStroke r (x.rel + i) < k))).length
  | none => 0

/-- The outputs of strokes before k are released (14 R394). -/
def State.releaseRings (s : State) (k : Nat) : State :=
  { s with chans := s.chans.map (fun p => (p.1, { p.2 with rel := p.2.rel + s.ringFrees k p.1 p.2 })) }

/-- The checkpoint of the stroke in progress is complete (R224). -/
def State.finishCheckpoint (s : State) : State :=
  let slot := s.targetSlot
  let k := s.stroke.no + 1
  let s := s.liveTiles.foldl (fun s t => s.completeTile slot k t) s
  let s := s.liveCells.foldl (fun s c => s.completeCell c) (s.setCkp { s.ckp with extWrites := [] })
  let s := (((s.set CKP_STAT_LASTSLOT 0 slot).set CKP_LAST_STROKE 0 k).releaseRings k).dropHosts k
  let s := ((s.resetMargins LNK_MARGIN_MIN LNK_MARGIN_PREV_MIN).resetMargins TME_MARGIN_MIN TME_MARGIN_PREV_MIN).resetMargins
    CPO_SVC_MARGIN_MIN CPO_SVC_MARGIN_PREV_MIN
  (s.listed LNK_LAT_PHYMIN).foldl (fun s n => s.set LNK_LAT_PHYMIN n 0xFFFF) s

/-- The module is in a checkpoint stroke whose checkpoint is neither complete nor failed. -/
def State.inCheckpoint (s : State) : Bool :=
  s.inStroke && s.ckpStroke s.stroke.no && !s.ckp.failed && s.ckp.pauseEnd.isNone

/-- COMPLETE is received: a resume value ends the pause there and fixes the next stroke's start; the hold value ends it
now and a hold follows (R224, R230, 05 R147). -/
def State.takeComplete (s : State) (v : Nat) : State :=
  if !s.inCheckpoint then s
  else
    let s := s.finishCheckpoint
    if v = holdValue then
      let s := (s.endPause s.tb).heldPlan
      s.setCkp { s.ckp with holdTargets := s.ckp.holdTargets ++ [(s.stroke.no, s.stroke.no)] }
    else
      let s := (s.endPause v).heldPlan
      s.setStroke { s.stroke with nextAt := some v }

/-! ### Reports to the time master (R229, R239, R242) -/

/-- The master keeps one report per origin of a group of kinds. -/
def addReport (r : Report) (same : Nat → Bool) (l : List Report) : List Report :=
  l.filter (fun q => !(q.origin == r.origin && same q.kind)) ++ [r]

/-- Drain-complete reports. -/
def isDone (k : Nat) : Bool := k == 2 || k == 3 || k == 4
/-- Hold reports. -/
def isHeld (k : Nat) : Bool := k == 8 || k == 9 || k == 0xB

/-- Reports of the kinds p. -/
def State.reportsOf (s : State) (p : Nat → Bool) : List Report := s.ckp.reports.filter (fun r => p r.kind)

/-- Every module of the placement has reported (R229). -/
def State.allIn (s : State) (p : Nat → Bool) : Bool := decide (max 1 s.img.modules ≤ (s.reportsOf p).length)

/-- The lead of an announced resume: at least 4,096 FCLK cycles; by how much more is left open (02 R35). -/
def State.resumeTime (s : State) : Nat × State :=
  let (w, s) := s.fresh
  (s.tb + 4096 + w.toNat, s)

/-- With every drain-complete report in, the master announces COMPLETE: with a resume time if all outcomes agree, none
is cancelled and no hold is due, and with the hold value otherwise (05 R147, 08 R237). -/
def State.masterComplete (s : State) : State :=
  if s.isMaster && s.inCheckpoint && s.allIn isDone then
    let kinds := (s.reportsOf isDone).map (·.kind)
    let agree := kinds.all (fun k => k != 4 && k == kinds.headD 2)
    let (v, s) := if agree && !s.holdDue then s.resumeTime else (holdValue, s)
    ((s.setCkp { s.ckp with reports := s.ckp.reports.filter (fun r => !isDone r.kind) }).announce 6 v).takeComplete v
  else s

/-- RESUME is received: it fixes the start of the stroke that runs next (02 R36), and `TRC_HSTROKE.VALID` clears (18
R484). -/
def State.takeResume (s : State) (v : Nat) : State :=
  if s.mode = .hold then
    (s.setStroke { s.stroke with nextAt := some v, nextNo := (s.ckp.restoreTo.getD (s.stroke.no + 1)) }).lower TRC_HSTROKE_VALID
  else s

/-- The master announces RESUME (R239, R242). -/
def State.masterResume (s : State) : State :=
  let (v, s) := s.resumeTime
  (s.announce 1 v).takeResume v

/-- Host values as a rollback finds them: what the log holds is replayed from it, and the others may be staged again (R236, R243; 02 R53). -/
def State.rewindHosts (s : State) : State :=
  { s with hostVals := s.hostVals.map (fun h => { h with late := false, written := h.written && h.logged }) }

/-- A record of the slot has an uncorrectable line (13 R365): the TME rebuilds it, or the restore cannot complete; the truth value says so. -/
def State.badRecord (s : State) (slot : Nat) (bad : Option (Tile × Fin 1024 × Fin 576)) : State × Bool :=
  match bad with
  | some (t, l, k) => s.hbmTouch t.val (s.recBase t.val slot l.val + 64 * k.val - stackBase t.val) .uncorrectable
  | none => (s, false)

/-- What RESTORE restores (R240), or CKP_LOST: then the module does not report RESTORED (R242). -/
def State.restoreFrom (s : State) (slot r : Nat) (bad : Option (Tile × Fin 1024 × Fin 576)) : State :=
  match s.lostTile slot, bad with
  | some t, _ => (s.setCkp { s.ckp with restoring := false }).lost t (s.firstRecord t) r
  | none, none => s.restoreAll slot r
  | none, some (t, l, _) =>
    if (s.badRecord slot bad).2 then
      let u := (s.badRecord slot bad).1
      (u.setCkp { u.ckp with restoring := false }).lost t.val l.val r
    else (s.badRecord slot bad).1.restoreAll slot r

/-- RESTORE is received in HOLD (R240): H is recorded, the checkpoint's state comes back, the journal is unwound. -/
def State.takeRestore (s : State) (r : Nat) (bad : Option (Tile × Fin 1024 × Fin 576) := none) : State :=
  if s.mode = .service then s.setCkp { s.ckp with pendRestore := some r }
  else if s.mode ≠ .hold then s
  else
    let h := if s.flag CKP_STAT_REPLAY then max s.stroke.no (s.get CKP_HWM_STROKE) else s.stroke.no
    let slot := s.get CKP_STAT_LASTSLOT
    let s := (s.set CKP_HWM_STROKE 0 h).setCkp { s.ckp with restoreTo := some r, restoring := true, cause := s.ckp.fltSince,
                                                            reports := [], waitFrom := some s.tb, rolledBack := true }
    (s.setStroke { s.stroke with nextAt := none }).rewindHosts.rewindLanes.restoreFrom slot r bad

/-- The master announces RESTORE with the resume stroke of the last complete checkpoint (R239). -/
def State.masterRestore (s : State) (bad : Option (Tile × Fin 1024 × Fin 576) := none) : State :=
  let r := s.get CKP_LAST_STROKE
  (s.announce 0xA r).takeRestore r bad

/-- All reports of the kinds p have the same stroke. -/
def State.sameStroke (s : State) (p : Nat → Bool := isHeld) : Bool :=
  let l := s.reportsOf p
  l.all (fun r => r.value == (l.head?.map (·.value)).getD 0)

/-- With every hold report in, the master decides: on a stop or a hold without rollback it waits for firmware, else it
rolls back (R239). -/
def State.masterHeld (s : State) : State :=
  if s.isMaster && s.mode == .hold && s.ckp.restoreTo.isNone && s.allIn isHeld then
    let l := s.reportsOf isHeld
    if l.any (fun r => r.kind == 0xB) then s
    else if l.all (fun r => r.kind == 8) && s.sameStroke then s
    else s.masterRestore
  else s

/-- With every RESTORED report in, and none of a stop, the master announces RESUME (R242); after a stop for a missing report firmware
decides (R229). -/
def State.masterRestored (s : State) : State :=
  if s.isMaster && s.mode == .hold && s.allIn (· == 7) && (s.reportsOf (· == 0xB)).isEmpty then
    (s.setCkp { s.ckp with reports := [] }).masterResume
  else s

/-- A drain-complete report for the stroke in progress. -/
def State.noteDone (s : State) (origin kind value : Nat) : State :=
  if s.isMaster && value == s.stroke.no then
    (s.setCkp { s.ckp with reports := addReport ⟨origin, kind, value⟩ isDone s.ckp.reports }).masterComplete
  else s

/-- A hold report. -/
def State.noteHeld (s : State) (origin kind value : Nat) : State :=
  if s.isMaster then (s.setCkp { s.ckp with reports := addReport ⟨origin, kind, value⟩ isHeld s.ckp.reports }).masterHeld
  else s

/-- A RESTORED report. -/
def State.noteRestored (s : State) (origin value : Nat) : State :=
  if s.isMaster then (s.setCkp { s.ckp with reports := addReport ⟨origin, 7, value⟩ (· == 7) s.ckp.reports }).masterRestored
  else s

/-- CKP_FAILED for stroke k is received (R228 cause 5). -/
def State.takeFailed (s : State) (k : Nat) : State :=
  if s.inCheckpoint && decide (k = s.stroke.no) then s.ckpFail 5 else s

/-! ### Announcements received -/

/-- START. -/
def execAnnStart (src : AnnSource) (value : Word) (s : State) : Host.Outcome State Fault Refusal :=
  .next (s.takeAnnounce src 0 value (fun s => s.takeStart value.toNat))
/-- RESUME. -/
def execAnnResume (src : AnnSource) (value : Word) (s : State) : Host.Outcome State Fault Refusal :=
  .next (s.takeAnnounce src 1 value (fun s => s.takeResume value.toNat))
/-- CKP_DONE. -/
def execCkpDone (src : AnnSource) (value : Word) (s : State) : Host.Outcome State Fault Refusal :=
  .next (s.takeAnnounce src 2 value (fun s => s.noteDone src.origin.toNat 2 value.toNat))
/-- CKP_SWAPPED. -/
def execCkpSwapped (src : AnnSource) (value : Word) (s : State) : Host.Outcome State Fault Refusal :=
  .next (s.takeAnnounce src 3 value (fun s => s.noteDone src.origin.toNat 3 value.toNat))
/-- CKP_CANCELLED. -/
def execCkpCancelled (src : AnnSource) (value : Word) (s : State) : Host.Outcome State Fault Refusal :=
  .next (s.takeAnnounce src 4 value (fun s => s.noteDone src.origin.toNat 4 value.toNat))
/-- CKP_FAILED. -/
def execCkpFailed (src : AnnSource) (value : Word) (s : State) : Host.Outcome State Fault Refusal :=
  .next (s.takeAnnounce src 5 value (fun s => s.takeFailed value.toNat))
/-- COMPLETE. -/
def execAnnComplete (src : AnnSource) (value : Word) (s : State) : Host.Outcome State Fault Refusal :=
  .next (s.takeAnnounce src 6 value (fun s => s.takeComplete value.toNat))
/-- RESTORED. -/
def execRestored (src : AnnSource) (value : Word) (s : State) : Host.Outcome State Fault Refusal :=
  .next (s.takeAnnounce src 7 value (fun s => s.noteRestored src.origin.toNat value.toNat))
/-- HELD. -/
def execHeld (src : AnnSource) (value : Word) (s : State) : Host.Outcome State Fault Refusal :=
  .next (s.takeAnnounce src 8 value (fun s => s.noteHeld src.origin.toNat 8 value.toNat))
/-- HELD_FAULT. -/
def execHeldFault (src : AnnSource) (value : Word) (s : State) : Host.Outcome State Fault Refusal :=
  .next (s.takeAnnounce src 9 value (fun s => s.noteHeld src.origin.toNat 9 value.toNat))
/-- HELD_STOP. -/
def execHeldStop (src : AnnSource) (value : Word) (s : State) : Host.Outcome State Fault Refusal :=
  .next (s.takeAnnounce src 0xB value (fun s => s.noteHeld src.origin.toNat 0xB value.toNat))
/-- RESTORE. -/
def execAnnRestore (src : AnnSource) (value : Word) (s : State) (bad : Option (Tile × Fin 1024 × Fin 576) := none) :
    Host.Outcome State Fault Refusal :=
  .next (s.takeAnnounce src 0xA value (fun s => s.takeRestore value.toNat bad))

/-- HOLDREQ (R237): relayed once and taken, in RUN and in HOLD. -/
def execHoldreq (n : Lane) (origin : BitVec 32) (seq : BitVec 16) (stroke : Word) (s : State) : Host.Outcome State Fault Refusal :=
  let s := s.beatIn n.val
  if !s.laneUp n.val || s.seen origin.toNat seq.toNat then .next s
  else .next ((s.relay n.val origin.toNat seq.toNat ⟨8, [origin.toNat + seq.toNat * 2 ^ 32, stroke.toNat]⟩).takeHoldReq stroke.toNat)

/-! ### The pause -/

/-- A declared carried slot whose request was issued in this stroke has not landed (R226). -/
def State.carryMissing (s : State) (c : Nat) : Bool :=
  let m := sget s.img.carry (1024 * (c / 1088) + s.lcell c) 0
  (s.cell c).slots.any (fun p => bit m p.1 && p.2.stroke == s.stroke.no && p.2.outst)

/-- The conditions of R226 for the done report. -/
def State.drainDone (s : State) : Bool :=
  s.inCheckpoint && s.stroke.flipped && s.stroke.advanced && s.stroke.paged && !s.ckp.reported &&
    s.liveCells.all (fun c => (s.cell c).drained && !s.carryMissing c) && (!s.flag CKP_POL_SWWAIT || s.flag CKP_CTL_SWACK)

/-- DONE_REPORT (R226): CKP_DONE, CKP_SWAPPED or CKP_CANCELLED, by the swap's outcome (05 R147). -/
def execDoneReport (s : State) : Host.Outcome State Fault Refusal :=
  if s.drainDone then
    let kind := 2 + s.ckp.swapOutcome
    let s := (s.setCkp { s.ckp with reported := true }).announce kind s.stroke.no
    .next (s.noteDone serialLow kind s.stroke.no)
  else .next s

/-- A record that names missing reports (R229): kind awaited and stroke; LEC8 source 0x112 is active (19 R495). -/
def State.reportMissing (s : State) (have_ awaited : Nat) : State :=
  (s.logOnly 0x409 3 0xFF (max 1 s.img.modules - have_) 0xFFFF awaited s.stroke.no).lecPulse (4096 + 0x112)

/-- The master's wait of `CKP_POL.DONEWAIT` has passed since a time-base value. -/
def State.waited (s : State) (from_ : Nat) : Bool := decide (from_ + s.get CKP_POL_DONEWAIT * 65536 ≤ s.tb)

/-- The wait for the reports of a hold or of a rollback has passed. It ends once. -/
def State.waitOver (s : State) : Bool := match s.ckp.waitFrom with
  | some a => s.mode == .hold && s.waited a
  | none => false

/-- Reports of a hold or a rollback are missing: the master writes REPORT_MISSING and reports HELD_STOP. -/
def State.stopForMissing (s : State) (have_ awaited : Nat) : State :=
  let s := (s.setCkp { s.ckp with waitFrom := none }).reportMissing have_ awaited
  (s.announce 0xB s.stroke.no).noteHeld serialLow 0xB s.stroke.no

/-- REPORT_WAIT_TIMEOUT (R229): in a pause the master fails the checkpoint; in a hold or a rollback it stops. -/
def execReportWaitTimeout (s : State) : Host.Outcome State Fault Refusal :=
  if !s.isMaster then .next s
  else if s.inCheckpoint && !s.allIn isDone && s.waited (s.stroke.tk + s.stroke.period) then
    .next ((s.ckpFail 5).reportMissing (s.reportsOf isDone).length 2)
  else if s.waitOver && s.ckp.restoreTo.isNone && !s.allIn isHeld then .next (s.stopForMissing (s.reportsOf isHeld).length 8)
  else if s.waitOver && s.ckp.restoreTo.isSome && !s.allIn (· == 7) then .next (s.stopForMissing (s.reportsOf (· == 7)).length 7)
  else .next s

/-- The physical cell of a logical cell of a tile, if it is live. -/
def State.liveL (s : State) (t l : Nat) : Option Nat := (s.pcellL t l).filter (fun c => s.domOn (cellDomain c))

/-- SLOT_PREPARATION (R225): the record of a cell is brought up to date where no design-memory request waits, and a drain that waited for it
goes on. -/
def execSlotPreparation (t : Tile) (lcell : Fin 1024) (s : State) (errs : LineErrs := []) : Host.Outcome State Fault Refusal :=
  match s.liveL t.val lcell.val with
  | some c =>
    if s.mode = .run && !(s.cell c).prepared && (s.tile (c / 1088)).memq.isEmpty then
      let s := (s.prepareErrs c errs).prepareCell c
      if s.inCheckpoint && s.stroke.flipped && !(s.cell c).drained then .next (s.drainCell c) else .next s
    else .next s
  | none => .next s

/-! ### HOLD (R237, R239) -/

/-- The stroke in progress is over and a hold follows it. -/
def State.mayHold (s : State) : Bool :=
  s.mode == .run && s.holdDue &&
    (if s.ckpStroke s.stroke.no then (match s.ckp.pauseEnd with | some e => decide (e ≤ s.tb) | none => false)
     else decide (s.stroke.tk + s.stroke.period ≤ s.tb))

/-- HELD_STOP after a record of severity S or M since the last resume, HELD_FAULT after one that requested a hold, else
HELD (19 R494). -/
def State.heldKind (s : State) : Nat :=
  if s.ckp.fltSince.any (fun r => r.flags % 8 == 2 || r.flags % 8 == 3) then 0xB
  else if s.ckp.fltSince.any (fun r => bit r.flags 4) then 9 else 8

/-- Every scheduled flit in the fabric and in the transmit queues, and every beat in a receive pad, is discarded (06
R184, 07 R201). -/
def State.dropScheduled (s : State) : State :=
  { s with sends := [], flits := [], pads := [], lanes := s.lanes.map (fun p => (p.1, { p.2 with txq := [] })) }

/-- A pending-list record (14 R397). -/
def State.pendRecord (s : State) (a : Nat) (h : HostVal) : State :=
  let gch := ((lookup s.img.hostmap h.ch).map (·.gch)).getD 0
  ((((s.setNum a 8 h.val.toNat).setNum (a + 8) 8 h.promise).setNum (a + 16) 4 gch).setNum (a + 20) 4 h.tag).setNum (a + 24) 8 0

/-- Write records at successive places. -/
def State.pendRecords (s : State) (a : Nat) (l : List HostVal) : State :=
  l.zipIdx.foldl (fun s p => s.pendRecord (a + 32 * p.2) p.1) s

/-- In a hold that follows a complete checkpoint with no stroke after it, the admitted transactions with a later promise
are listed in the pending region of tile T0 (R255, 14 R397). -/
def State.writePending (s : State) (k : Nat) : State :=
  if s.get CKP_LAST_STROKE = k + 1 ∧ s.domOn 704 then
    let l := s.hostVals.filter (fun h => decide (k < h.promise))
    let a := s.ckpArea 0 + 0x4C000000
    (s.setNum a 8 l.length).pendRecords (a + 0x40) l
  else s

/-- The module's own hold report is sent, and counted where the module is the master. -/
def State.reportHold (s : State) (k : Nat) : State :=
  let kind := s.heldKind
  (s.announce kind k).noteHeld serialLow kind k

/-- HOLD_ENTRY (R237). It meets every request for a stroke up to this one, also one that came too late for it to count here. -/
def execHoldEntry (s : State) : Host.Outcome State Fault Refusal :=
  if s.mayHold then
    let k := s.stroke.no
    let e := (s.ckp.pauseEnd).getD (s.stroke.tk + s.stroke.period)
    let s := s.setStroke { s.stroke with endLast := e, nextAt := none, started := false }
    let s := s.setCkp { s.ckp with holdTargets := s.ckp.holdTargets.filter (fun h => decide (k < h.1)), reports := s.reportsOf isHeld,
                                   waitFrom := some s.tb, restoreTo := none }
    let s := s.dropScheduled.enter .hold
    .next (((s.writePending k).traceEvent TRC_FRZ_ONHOLD 4).reportHold k)
  else .next s

/-! ### Rollback (R240-R242) -/

/-- No commit is in progress (R242). -/
def State.noCommit (s : State) : Bool :=
  !(s.listed CLU_REMAP_CTL_BUSY).any (fun i => s.flag CLU_REMAP_CTL_BUSY i) &&
    !(s.listed LNK_REMAP_CTL_BUSY).any (fun i => s.flag LNK_REMAP_CTL_BUSY i) &&
    !(s.listed FAB_CTL_BUSY).any (fun i => s.flag FAB_CTL_BUSY i)

/-- Before it reports RESTORED, a module with a HALT stroke at or above the resume stroke asks to hold there (18 R484). -/
def State.haltAgain (s : State) (r : Nat) : State :=
  let h := s.get TRC_HSTROKE_STROKE
  if s.flag TRC_HSTROKE_VALID && decide (r ≤ h) then s.requestHold h else s

/-- The restore to stroke r is done, and reported (R242). -/
def State.reportRestored (s : State) (r : Nat) : State :=
  let s := (s.restoreMoved (s.get CKP_STAT_LASTSLOT) r).haltAgain r
  ((s.setCkp { s.ckp with restoring := false }).announce 7 r).noteRestored serialLow r

/-- An entry of a tile's journal has an uncorrectable line (13 R365, R376), as `badRecord` of a slot. -/
def State.badJournal (s : State) (bad : Option (Tile × Nat)) : State × Bool :=
  match bad with
  | some (t, k) => s.hbmTouch t.val (s.ckpArea t.val + 0x8000000 + 16 * k - stackBase t.val) .uncorrectable
  | none => (s, false)

/-- RESTORE_DONE (R242): the module reports RESTORED, or CKP_LOST where a record or a journal entry that it read is unreadable. DESIGN CHOICE
(log 193): for a journal entry, CKP_LOST names the first record of its tile. `fixed` are the tiles of lines that HBM corrected, one for each. -/
def execRestoreDone (s : State) (bad : Option (Tile × Fin 1024 × Fin 576) := none) (jbad : Option (Tile × Nat) := none)
    (fixed : List Tile := []) : Host.Outcome State Fault Refusal :=
  match s.ckp.restoreTo with
  | some r =>
    if s.mode = .hold ∧ s.ckp.restoring ∧ s.noCommit ∧ !s.flag CKP_CTL_HOLDOFF ∧ s.tilesRestored then
      let (u, gone) := s.badRecord (s.get CKP_STAT_LASTSLOT) bad
      let (u, goneJ) := u.badJournal jbad
      let u := fixed.foldl (fun s t => s.bump TME_ECC_CORR t.val) u
      match gone, bad, goneJ, jbad with
      | true, some (t, l, _), _, _ => .next ((u.setCkp { u.ckp with restoring := false }).lost t.val l.val r)
      | _, _, true, some (t, _) => .next ((u.setCkp { u.ckp with restoring := false }).lost t.val (u.firstRecord t.val) r)
      | _, _, _, _ => .next (u.reportRestored r)
    else .next s
  | none => .next s

/-! ### Commands of `CKP_CTL` -/

/-- REQHOLD (R254). -/
def State.reqHold (s : State) : State := s.requestHold (s.get CKP_HOLDAT_STROKE)
/-- REQHOLD. -/
def execReqhold (s : State) : Host.Outcome State Fault Refusal := if s.domOn 760 then .next s.reqHold else .next s

/-- A hold that firmware ends: one without rollback, or a stop at one stroke; or a rollback that a missing report stopped, once every module has
reported RESTORED (R229, R239; 19 R494). -/
def State.mayGo (s : State) : Bool :=
  if s.ckp.restoreTo.isSome then !(s.reportsOf (· == 0xB)).isEmpty && s.allIn (· == 7) && s.sameStroke (· == 7)
  else s.allIn isHeld && s.sameStroke && ((s.reportsOf isHeld).any (fun r => r.kind == 0xB) || (s.reportsOf isHeld).all (fun r => r.kind == 8))

/-- GO on the master (R239): RESUME. -/
def State.goCommand (s : State) : State := if s.isMaster && s.mode == .hold && s.mayGo then s.masterResume else s
/-- GO. -/
def execGo (s : State) : Host.Outcome State Fault Refusal := if s.domOn 760 then .next s.goCommand else .next s

/-- RESTORE on the master in HOLD (R239). -/
def State.restoreCommand (s : State) (bad : Option (Tile × Fin 1024 × Fin 576) := none) : State :=
  if s.isMaster && s.mode == .hold then s.masterRestore bad else s
/-- RESTORE_COMMAND. -/
def execRestoreCommand (s : State) (bad : Option (Tile × Fin 1024 × Fin 576) := none) : Host.Outcome State Fault Refusal :=
  if s.domOn 760 then .next (s.restoreCommand bad) else .next s

/-- ADOPT in READY (R255): slot A becomes the last complete checkpoint and is restored, with no record to replay and no scheduled traffic (06
R184, 07 R201); an invalid slot A sets LOST. -/
def State.adopt (s : State) : State :=
  if s.mode ≠ .ready then s
  else match s.lostTile 0 with
    | some t => s.lost t (s.firstRecord t) 0
    | none =>
      let r := s.num (s.slotBase 0 0) 8
      let s := (((s.lower CKP_STAT_LASTSLOT).set CKP_LAST_STROKE 0 r).set CLK_PAUSE_ACC_ACC 0 0).set CKP_HWM_STROKE 0 (r - 1)
      let s := s.setStroke { s.stroke with no := r - 1, started := false, nextAt := none, endLast := s.tb, period := s.get CLK_STROKE_CFG_PERIOD }
      let s := s.setCkp { s.ckp with restoreTo := some r, restoring := true, reports := [], waitFrom := some s.tb, holdTargets := [], cause := [],
                                     faultAt := none, rolledBack := false, extWrites := [] }
      let s := s.liveTiles.foldl (fun s t => s.freshLogs t) { s with hostVals := s.hostVals.filter (!·.written) }
      let s := (s.dropScheduled.rewindLanes.restoreAll 0 r).enter .hold
      (s.traceEvent TRC_FRZ_ONHOLD 4).reportHold (r - 1)
/-- ADOPT. -/
def execAdoptWrite (s : State) : Host.Outcome State Fault Refusal := if s.domOn 760 then .next s.adopt else .next s

/-- SWACK (R250). -/
def execSwackWrite (s : State) : Host.Outcome State Fault Refusal := if s.domOn 760 then .next (s.raise CKP_CTL_SWACK) else .next s

/-- The start of stroke H + 1 in the module's time base (02 R36). -/
def State.replayEnd (s : State) : Nat :=
  wrap ((s.get CLK_TSTART_TSTART : Int) + (s.get CKP_HWM_STROKE + 1) * s.stroke.period + s.get CLK_HOLD_ACC_ACC +
    s.get CLK_PAUSE_ACC_ACC) 64

/-- The PSTAT that tells of the change from mode code 6 to 3 (R246). -/
def State.liveStat (s : State) : Ctl := ⟨6, [3 + 16 * s.get MGT_MODE_ARMED]⟩

/-- FENCE_LEAD (R246): the PSTAT change from 6 to 3 is queued. -/
def execFenceLead (s : State) : Host.Outcome State Fault Refusal :=
  if s.mode == .run && s.flag CKP_STAT_REPLAY && s.ckp.fencePending && decide (s.replayEnd ≤ s.tb + s.get CKP_FENCE_LEAD) then
    .next ((s.setCkp { s.ckp with fencePending := false }).pushAll s.upLanes s.liveStat)
  else .next s

end Sys2Proof.Machine
end

