-- ==== Sys2Proof/Machine/Links.lean ====
section
/-! DEFINITION. Lanes (07): training, the measurement of latency and classes, identities, control messages, unscheduled
pairs, scheduled flits and beats, link errors and the lane remap. -/

namespace Sys2Proof.Machine

/-- A quotient that the spec gives no rounding for: the floor, or the next whole number. -/
def openDiv (a b : Int) : Int := a / b + (if a % b ≠ 0 && Config.roundUp a then 1 else 0)

/-! ### Lane state (R203, R208, R209) -/

/-- The quad of a physical lane is on; off, its registers read 0 and ignore writes. -/
def State.laneOn (s : State) (n : Nat) : Bool := s.domOn (640 + n / 8)

/-- The flags of `LNK_STAT` that drive the lane-error source (12 R330). -/
def laneErrors : List Field :=
  [LNK_STAT_FECUNC, LNK_STAT_LOSS, LNK_STAT_TXLATE, LNK_STAT_RXLATE, LNK_STAT_RXOVR, LNK_STAT_CALERR, LNK_STAT_CTLUNK,
   LNK_STAT_IDMISM, LNK_STAT_CLASSUP, LNK_STAT_UTXFULL, LNK_STAT_TXDOWN]

/-- The lane-state and lane-error sources follow `LNK_STAT`. -/
def State.laneLevels (s : State) (n : Nat) : State :=
  let g := 512 * (n / 64) + n % 64
  (s.lecSample (g + 0x130) (s.flag LNK_STAT_CHG n)).lecSample (g + 0x170) (laneErrors.any (fun f => s.flag f n))

/-- Set a flag of `LNK_STAT`. -/
def State.laneFlag (s : State) (f : Field) (n : Nat) : State := (s.raise f n).laneLevels n

/-- A change of ready state, partner identity or CLASS (R209). -/
def State.noteChange (s : State) (n : Nat) : State :=
  let l := s.lane n
  (s.setLane n { l with changes := (l.changes + 1) % 2 ^ 32 }).laneFlag LNK_STAT_CHG n

/-- The ready state of a lane takes a value. -/
def State.setLaneReady (s : State) (n : Nat) (b : Bool) : State :=
  if s.flag LNK_STAT_READY n == b then s
  else ((s.set LNK_STAT_READY n (b2n b)).setReady (2048 + n) b).noteChange n

/-- The identity check of R208. -/
def State.checkPasses (s : State) (n : Nat) : Bool :=
  !s.flag LNK_CTL_EXPCHK n ||
    (s.get LNK_PID_SERIAL n % 2 ^ 32 == s.get LNK_EXP_SERLO n && s.get LNK_PINFO_PLANE n == s.get LNK_EXP_LANE n &&
      s.get LNK_PINFO_KIND n == s.get LNK_EXP_KIND n && decide (s.get LNK_STAT_RATE n ≤ s.get LNK_EXP_RATE n))

/-- The identity check of a lane in UP decides whether it is ready: when the lane reaches UP, and when a write in UP changes what it compares
(R203, R208). -/
def State.identityCheck (s : State) (n : Nat) : State :=
  if s.laneUp n then
    if s.checkPasses n then s.setLaneReady n true else (s.setLaneReady n false).laneFlag LNK_STAT_IDMISM n
  else s.setLaneReady n false

/-- A state of R203 begins. -/
def State.setLaneState (s : State) (n st : Nat) : State := s.set LNK_STAT_STATE n st

/-- DETECT begins: no partner is known (R206), which is a change where one was (R209). -/
def State.goDetect (s : State) (n : Nat) : State :=
  let s := if s.get LNK_PINFO_KIND n = 0 then s else s.noteChange n
  let l := s.lane n
  (s.setLane n { l with syncRow := 0, uncRow := 0, measN := 0, measLat := 0, measOff := 0, tsOut := false, ctl := [], sending := [], identIn := false }
    |>.setLaneState n 1).set LNK_PINFO_KIND n 0

/-- The lane starts again from RATEMAX with no failed attempt. -/
def State.restartLane (s : State) (n : Nat) : State :=
  (s.setLane n { s.lane n with attempts := 0 }).set LNK_STAT_RATE n (s.get LNK_CTL_RATEMAX n)

/-- A transition from a state other than UP back to DETECT (R203): a failed attempt; after three, the next lower rate,
and after three at NRZ, FAIL. -/
def State.failAttempt (s : State) (n cause : Nat) : State :=
  let a := (s.lane n).attempts + 1
  let s := s.set LNK_STAT_FAILCAUSE n cause
  if a < 3 then (s.setLane n { s.lane n with attempts := a }).goDetect n
  else
    let s := s.setLane n { s.lane n with attempts := 0 }
    if s.get LNK_STAT_RATE n < 2 then (s.set LNK_STAT_RATE n (s.get LNK_STAT_RATE n + 1)).goDetect n
    else (s.goDetect n).setLaneState n 7

/-- LINK_DOWN of a lane that leaves UP in RUN (R216): physical lane, logical lane, `LNK_FEC`. -/
def State.linkDown (s : State) (n : Nat) : State :=
  s.fault 0x303 1 (n / 64) n 0xFFFF (((s.logicalOf n).getD 0) % 64) (s.get LNK_FEC_CORR n + s.get LNK_FEC_UNC n * 2 ^ 32)

/-- What leaving UP empties, and the bar of a lane that leaves UP in RUN (R214, R216). -/
def State.dropLane (s : State) (n : Nat) : State :=
  let l := s.lane n
  s.setLane n { l with txq := [], utx := [], pairRest := none, barred := l.barred || s.mode == .run, attempts := 0 }

/-- The outstanding DICT request of the module on a lane ends with ERR when the lane leaves UP (15 R427). -/
def State.ldictLost (s : State) (n : Nat) : State :=
  (s.listed MGT_LDICT_BUSY).foldl (fun s i =>
    if s.flag MGT_LDICT_BUSY i && (s.ldict i).lane == n then (s.lower MGT_LDICT_BUSY i).raise MGT_LDICT_ERR i else s) s

/-- A lane leaves UP (R216). -/
def State.leaveUp (s : State) (n : Nat) : State :=
  let used := s.mode == .run && s.laneUsed n
  let s := ((((s.dropLane n).goDetect n).setLaneReady n false).laneFlag LNK_STAT_LOSS n).ldictLost n
  if used then s.linkDown n else s

/-- A lane in UP leaves it; any other lane stays. -/
def State.leaveIfUp (s : State) (n : Nat) : State := if s.laneUp n then s.leaveUp n else s

/-! ### Training commands -/

/-- The time base in 1/16 cycles. -/
def State.tb16 (s : State) (sub : Nat) : Nat := (s.tb * 16 + sub) % 2 ^ 64

/-- A write of `LNK_CTL.EN` (R203). -/
def State.laneEnable (s : State) (n : Nat) (en : Bool) : State :=
  if en then
    let u := s.write1 LNK_CTL_EN n
    if s.get LNK_STAT_STATE n = 0 then (u.restartLane n).goDetect n else u
  else ((s.write0 LNK_CTL_EN n).leaveIfUp n).goDetect n |>.setLaneState n 0

/-- The order in which waiting messages go (R211). -/
def ctlOrder : List Nat := [8, 7, 1, 3, 2, 6, 5, 4, 9]

/-- The beats of a message as its first bit leaves now: a beacon and the timestamps carry the time base. -/
def State.ctlBeats (s : State) (m : Ctl) : List Nat :=
  if m.ctype = 1 then s.tb % 2 ^ 64 :: m.beats
  else if m.ctype = 2 then [s.tb16 0]
  else if m.ctype = 3 then m.beats ++ [s.tb16 0]
  else m.beats

/-- What a lane in UP still sends before a RETRAIN takes it to DETECT (R203, R211): the rest of an unfinished message, the waiting messages
whose turn comes before a PSTAT, and the PSTAT with RETRAIN = 1. DESIGN CHOICE (log 197): the lane does so within the write. -/
def State.lastWords (s : State) (n : Nat) : State :=
  let l := s.lane n
  let first := ((ctlOrder.takeWhile (· ≠ 6)) ++ [6]).flatMap (fun k => l.ctl.filter (·.ctype == k)) ++ [s.pstat true]
  (l.sending ++ first.flatMap (fun m => controlBeats m.ctype (s.ctlBeats m))).foldl (fun s w => s.sendAt n 2 w) s

/-- LANE_ENABLE. -/
def execLaneEnable (n : Lane) (en : Bool) (s : State) : Host.Outcome State Fault Refusal :=
  if s.laneOn n.val then .next (s.laneEnable n.val en) else .next s

/-- A write of RETRAIN (R203): a PSTAT with RETRAIN = 1 goes out, and the lane trains from RATEMAX. -/
def State.retrain (s : State) (n : Nat) : State :=
  if s.get LNK_STAT_STATE n = 0 then s
  else
    (((if s.laneUp n then s.lastWords n else s).leaveIfUp n).restartLane n).goDetect n

/-- RETRAIN. -/
def execRetrain (n : Lane) (s : State) : Host.Outcome State Fault Refusal :=
  if s.laneOn n.val then .next (s.retrain n.val) else .next s

/-- SIGNAL_PRESENT: DETECT to TRAIN; the calendar and the reach take effect (R193). -/
def execSignalPresent (n : Lane) (s : State) : Host.Outcome State Fault Refusal :=
  if s.get LNK_STAT_STATE n.val = 1 then
    .next ((s.setLane n.val { s.lane n.val with calInForce := s.get LNK_CAL_KINDS n.val, reachInForce := s.get LNK_CTL_REACH n.val }).setLaneState
      n.val 2)
  else .next s

/-- TRAINING_ADAPTED: TRAIN to LOCK. The lane sends superframes from now on, each with its SYNC (R192). -/
def execTrainingAdapted (n : Lane) (s : State) : Host.Outcome State Fault Refusal :=
  if s.get LNK_STAT_STATE n.val = 2 then .next ((s.setLaneState n.val 3).sendSync n.val 0) else .next s

/-- The time limit of a training state passes. -/
def State.trainLimit (s : State) (n st cause : Nat) : State :=
  if s.get LNK_STAT_STATE n = st then s.failAttempt n cause else s

/-- TRAIN_TIMEOUT: 50 ms in TRAIN. -/
def execTrainTimeout (n : Lane) (s : State) : Host.Outcome State Fault Refusal := .next (s.trainLimit n.val 2 2)

/-- LOCK_TIMEOUT: 2 ms in LOCK. -/
def execLockTimeout (n : Lane) (s : State) : Host.Outcome State Fault Refusal := .next (s.trainLimit n.val 3 3)

/-- MEASURE_TIMEOUT: 200 µs in MEASURE. -/
def execMeasureTimeout (n : Lane) (s : State) : Host.Outcome State Fault Refusal := .next (s.trainLimit n.val 4 4)

/-- IDENT_TIMEOUT: 1 ms in IDENT. -/
def execIdentTimeout (n : Lane) (s : State) : Host.Outcome State Fault Refusal := .next (s.trainLimit n.val 5 5)

/-- MEASURE begins: the first TSREQ waits (R204). -/
def State.beginMeasure (s : State) (n : Nat) : State :=
  ((s.setLane n { s.lane n with measN := 0, measLat := 0, measOff := 0, tsOut := false }).setLaneState n 4).pushCtl n ⟨2, []⟩

/-- A SYNC in LOCK: four in a row with the lane's own CALID end LOCK (R203). -/
def State.syncInLock (s : State) (n calid : Nat) : State :=
  let l := s.lane n
  if calid ≠ calId l.calInForce then (s.laneFlag LNK_STAT_CALERR n).failAttempt n 6
  else
    let s := s.setLane n { l with syncRow := l.syncRow + 1 }
    if l.syncRow + 1 < 4 then s else s.beginMeasure n

/-- SYNC_RECEIVED (R192, R193): in UP, a differing CALID takes the lane out of UP. DESIGN CHOICE (log 204): in MEASURE and IDENT, for which the
table of R203 names no such exit, it is not compared. -/
def execSyncReceived (n : Lane) (sf : BitVec 32) (calid : Byte) (s : State) : Host.Outcome State Fault Refusal :=
  let n := n.val
  let s := s.goodCodeword n
  if s.get LNK_STAT_STATE n = 3 then .next (s.syncInLock n calid.toNat)
  else if s.laneUp n then
    if calid.toNat = calId (s.lane n).calInForce then .next (s.setLane n { s.lane n with syncRow := 0, rxSf := sf.toNat })
    else .next (((s.laneFlag LNK_STAT_CALERR n).set LNK_STAT_FAILCAUSE n 6).leaveUp n)
  else .next s

/-- SYNC_MISSING (R216): the fourth in a row takes the lane out of UP; in LOCK the row begins again. -/
def execSyncMissing (n : Lane) (s : State) : Host.Outcome State Fault Refusal :=
  let n := n.val
  let l := s.lane n
  if s.laneUp n then
    if l.syncRow + 1 < 4 then .next (s.setLane n { l with syncRow := l.syncRow + 1 }) else .next (s.leaveUp n)
  else if s.get LNK_STAT_STATE n = 3 then .next (s.setLane n { l with syncRow := 0 })
  else .next s

/-- LOSS_OF_SIGNAL (R216). -/
def execLossOfSignal (n : Lane) (s : State) : Host.Outcome State Fault Refusal := .next (s.leaveIfUp n.val)

/-! ### Measurement (R204, R205, R217) -/

/-- TSREQ: the responder answers with *t*1 and *t*2; *t*3 is taken as the answer is sent. -/
def execTsreq (n : Lane) (t1 : Word) (sub : Fin 16) (s : State) : Host.Outcome State Fault Refusal :=
  if 4 ≤ s.get LNK_STAT_STATE n.val ∧ s.get LNK_STAT_STATE n.val ≤ 6 then
    .next ((s.beatIn n.val).pushCtl n.val ⟨3, [t1.toNat, s.tb16 sub.val]⟩)
  else .next s

/-- 2·OFFSET of a round trip. -/
def tripOffset (t1 t2 t3 t4 : Nat) : Int := ((t4 : Int) - t3) - ((t2 : Int) - t1)
/-- 2·LAT of a round trip. -/
def tripLat (t1 t2 t3 t4 : Nat) : Int := ((t4 : Int) - t1) - ((t3 : Int) - t2)

/-- A result of MEASURE is added; the next request follows until there are 64. -/
def State.measured (s : State) (n : Nat) (lat off : Int) : State :=
  let l := s.lane n
  let s := s.setLane n { l with measN := l.measN + 1, measLat := l.measLat + lat, measOff := l.measOff + off, tsOut := false }
  if l.measN + 1 < 64 then s.pushCtl n ⟨2, []⟩ else s

/-- TSRSP: the requester computes LAT and OFFSET. In UP it updates OFFSET only. -/
def execTsrsp (n : Lane) (t1 t2 t3 : Word) (sub : Fin 16) (s : State) : Host.Outcome State Fault Refusal :=
  let n := n.val
  let s := s.beatIn n
  let l := s.lane n
  let t4 := s.tb16 sub.val
  if !l.tsOut || decide (l.lastTs ≠ t1.toNat) then .next s
  else if s.get LNK_STAT_STATE n = 4 then
    .next (s.measured n (tripLat t1.toNat t2.toNat t3.toNat t4) (tripOffset t1.toNat t2.toNat t3.toNat t4))
  else if s.laneUp n then
    .next ((s.setLane n { l with tsOut := false }).set LNK_LAT_OFFSET n
      (wrap (openDiv (tripOffset t1.toNat t2.toNat t3.toNat t4) 2) 24))
  else .next s

/-- The smallest class ≥ CLASSMIN with 16·k ns ≥ LAT + 2 ns (R205), for LAT in 1/16 cycles. -/
def State.classOf (s : State) (n lat : Nat) : Nat :=
  max (s.get LNK_CTL_CLASSMIN n) (if s.slowClock then cdiv (lat * 2500 + 96000) 768000 else cdiv (lat * 625 + 32000) 256000)

/-- The other members of a lane's bundle that have completed MEASURE: those in UP, and those in IDENT on their way there. -/
def State.bundleUp (s : State) (n : Nat) : List Nat :=
  (s.lanes.map (·.1)).filter (fun m => (s.get LNK_STAT_STATE m == 5 || s.get LNK_STAT_STATE m == 6) && m != n && m / 64 == n / 64 &&
    s.get LNK_CTL_BUNDLE n != 0 && s.get LNK_CTL_BUNDLE m == s.get LNK_CTL_BUNDLE n)

/-- The greatest of a list of numbers, at least d. -/
def maxOf (d : Nat) (l : List Nat) : Nat := l.foldl max d

/-- The lanes of a lane's bundle, itself among them. -/
def State.members (s : State) (n : Nat) : List Nat :=
  n :: ((List.range 64).map (64 * (n / 64) + ·)).filter (fun m => m != n && s.get LNK_CTL_BUNDLE n != 0 && s.get LNK_CTL_BUNDLE m == s.get LNK_CTL_BUNDLE n)

/-- The class of a lane's bundle as it was computed last outside RUN; 0 where none was (R217). What a lane holds of a bundle it has left does
not count. -/
def State.frozenClass (s : State) (n : Nat) : Nat :=
  maxOf 0 (((s.members n).filter (fun m => (s.lane m).bundleOf == s.get LNK_CTL_BUNDLE n)).map (fun m => (s.lane m).bundleClass))

/-- CLASS of a lane takes a value (R209). -/
def State.setClass (s : State) (n k : Nat) : State :=
  if s.get LNK_LAT_CLASS n = k then s else (s.set LNK_LAT_CLASS n k).noteChange n

/-- The padded class of a lane that completes MEASURE with class k of R205 (R217): outside RUN the bundle class is
computed again for every member; in RUN it is frozen. -/
def State.padClass (s : State) (n k : Nat) : State :=
  let up := s.bundleUp n
  if s.mode = .run then
    let f := s.frozenClass n
    if s.get LNK_CTL_BUNDLE n = 0 ∨ f = 0 then s.setClass n k
    else if k ≤ f then s.setClass n f
    else (s.setClass n k).laneFlag LNK_STAT_CLASSUP n
  else
    let b := maxOf k (up.map (fun m => (s.lane m).ownClass))
    (n :: up).foldl (fun s m => s.setClass m b) ((s.members n).foldl (fun s m => s.setLane m { s.lane m with bundleClass := b, bundleOf := s.get LNK_CTL_BUNDLE n }) s)

/-- The identity message of this module on a lane (R206, R210): a module, all rates, ROLLBACK, stepping B0. -/
def State.ownIdent (s : State) (n : Nat) : Ctl :=
  ⟨4, [Config.serial.toNat, 1 + n * 2 ^ 4 + 7 * 2 ^ 13 + 2 ^ 16 + 0xB0 * 2 ^ 24 + s.get LNK_LAT_CLASS n * 2 ^ 32, s.img.placement]⟩

/-- MEASURE_DONE: the mean of 64 results, then CLASS; a class above 63 is a failed attempt (R203). -/
def execMeasureDone (n : Lane) (s : State) : Host.Outcome State Fault Refusal :=
  let n := n.val
  let l := s.lane n
  if s.get LNK_STAT_STATE n = 4 ∧ 64 ≤ l.measN then
    let lat := (openDiv l.measLat 128).toNat
    let s := (s.set LNK_LAT_LAT n lat).set LNK_LAT_OFFSET n (wrap (openDiv l.measOff 128) 24)
    let k := s.classOf n lat
    if 63 < k then .next (s.failAttempt n 4)
    else
      let s := (s.setLane n { s.lane n with ownClass := k }).padClass n k
      .next ((s.setLaneState n 5).pushCtl n (s.ownIdent n))
  else .next s

/-- TIMESTAMP_PERIOD: in UP, one round trip every TSPER × 4,096 cycles. -/
def execTimestampPeriod (n : Lane) (s : State) : Host.Outcome State Fault Refusal :=
  let n := n.val
  if s.laneUp n ∧ (s.lane n).lastTs / 16 + s.get LNK_CTL_TSPER n * 4096 ≤ s.tb ∧ !(s.lane n).ctl.any (·.ctype == 2) then
    .next (s.pushCtl n ⟨2, []⟩)
  else .next s

/-! ### Identity (R206, R208) -/

/-- The partner's identity is stored. -/
def State.putIdent (s : State) (n : Nat) (serial info placement : Nat) : State :=
  let s := (s.set LNK_PID_SERIAL n serial).setLane n { s.lane n with placement := BitVec.ofNat 64 placement, identIn := true }
  let s := ((s.set LNK_PINFO_KIND n (bits info 3 0)).set LNK_PINFO_PLANE n (bits info 12 4)).set LNK_PINFO_RATES n (bits info 15 13)
  let s := ((s.set LNK_PINFO_ROLLBACK n (bits info 16 16)).set LNK_PINFO_PSTEP n (bits info 31 24)).set LNK_PINFO_PCLASS n (bits info 37 32)
  s.set LNK_PINFO_PFWD n (bits info 45 38)

/-- The lane reaches UP: full credits, one PSTAT, and the identity check (R208, R213, 08 R246). Once the PSTAT change that ends a replay has been
sent, it follows here too. -/
def State.reachUp (s : State) (n : Nat) : State :=
  let s := (s.setLane n { s.lane n with cred := [64, 64, 64, 64], syncRow := 0, uncRow := 0, tsOut := false, attempts := 0 }).setLaneState n 6
  let s := s.pushCtl n (s.pstat false)
  let s := if s.mode == .run && s.flag CKP_STAT_REPLAY && !s.ckp.fencePending then s.pushCtl n s.liveStat else s
  (s.noteChange n).identityCheck n

/-- A lane in IDENT that has the partner's identity and has sent its own reaches UP (R203; DEDUCED, log 221). -/
def State.identDone (s : State) (n : Nat) : State :=
  let l := s.lane n
  if s.get LNK_STAT_STATE n == 5 && l.identIn && !l.ctl.any (·.ctype == 4) && l.sending.isEmpty then s.reachUp n else s

/-- IDENT, in IDENT or while the lane still measures: a reserved KIND fails the attempt; else the identity is stored. -/
def execIdentMsg (n : Lane) (serial : Word) (info : BitVec 64) (placement : Word) (s : State) : Host.Outcome State Fault Refusal :=
  let n := n.val
  if s.get LNK_STAT_STATE n = 4 ∨ s.get LNK_STAT_STATE n = 5 then
    if 5 ≤ bits info.toNat 3 0 then .next (s.failAttempt n 5)
    else .next ((s.putIdent n serial.toNat info.toNat placement.toNat).identDone n)
  else .next (s.beatIn n)

/-! ### Control and unscheduled traffic (R210-R214) -/

/-- The message that goes next. -/
def nextCtl (l : List Ctl) : Option Ctl := ctlOrder.findSome? (fun k => l.find? (·.ctype == k))

/-- A position of a kind with nothing to carry is idle in a lane that sends superframes, from LOCK on: so every superframe begins with its
SYNC, whatever there is to send (R192). -/
def State.idleAt (s : State) (n kind : Nat) : State :=
  if 3 ≤ s.get LNK_STAT_STATE n ∧ s.get LNK_STAT_STATE n ≤ 6 then s.sendAt n kind idleBeat else s

/-- CONTROL_MESSAGE_SEND (R211): a control position carries the next beat of the message being sent, or the first beat of the message
whose turn it is. Outside UP a lane sends only what MEASURE and IDENT exchange. -/
def execControlMessageSend (n : Lane) (s : State) : Host.Outcome State Fault Refusal :=
  let n := n.val
  let l := s.lane n
  let st := s.get LNK_STAT_STATE n
  let may := l.ctl.filter (fun m => st == 6 || ((st == 4 || st == 5) && (m.ctype == 2 || m.ctype == 3 || m.ctype == 4)))
  match l.sending with
  | w :: rest => .next (((s.setLane n { l with sending := rest }).sendAt n 2 w).identDone n)
  | [] => match nextCtl may with
    | some m =>
      let l := { l with ctl := l.ctl.erase m, sending := (controlBeats m.ctype (s.ctlBeats m)).drop 1 }
      let l := if m.ctype = 2 then { l with tsOut := true, lastTs := s.tb16 0 } else l
      .next (((s.setLane n l).sendAt n 2 ((controlBeats m.ctype (s.ctlBeats m)).headD idleBeat)).identDone n)
    | none => .next (s.idleAt n 2)

/-- CREDIT (R213). -/
def execCredit (n : Lane) (c : BitVec 32) (s : State) : Host.Outcome State Fault Refusal :=
  let n := n.val
  if s.laneUp n then
    let s := s.beatIn n
    let l := s.lane n
    .next (s.setLane n { l with cred := (List.range 4).map (fun k => min 255 (l.cred.getD k 0 + byteOf c.toNat k)) })
  else .next s

/-- PSTAT (R210, 16 R432): the partner's mode and ARMED; RETRAIN takes the lane out of UP. -/
def execPstat (n : Lane) (w : Word) (s : State) : Host.Outcome State Fault Refusal :=
  let n := n.val
  if s.laneUp n then
    let s := s.beatIn n
    let s := s.setLane n { s.lane n with partnerMode := bits w.toNat 2 0, partnerArmed := bit w.toNat 4 }
    .next (if bit w.toNat 3 then s.leaveUp n else s)
  else .next s

/-- UNSCHEDULED_PAIR (R213): the receive queue of a class holds 64 pairs. A lane in UP that is not ready carries control beats only (R208). -/
def execUnscheduledPair (n : Lane) (cls : BitVec 2) (head data : Word) (s : State) : Host.Outcome State Fault Refusal :=
  let n := n.val
  let s := s.beatIn n
  let l := s.lane n
  if s.laneUp n ∧ s.flag LNK_STAT_READY n ∧ l.rxq.countP (fun p => p.1 == cls.toNat) < 64 then
    .next (s.setLane n { l with rxq := l.rxq ++ [(cls.toNat, BitVec.ofNat 64 (head.toNat % 2 ^ 44), data)] })
  else .next s

/-- A write of `LNK_UTXD` (R214). -/
def State.utxdWrite (s : State) (n : Nat) (v : Word) : State :=
  let l := s.lane n
  if l.utx.length < 8 then s.setLane n { l with utx := l.utx ++ [(s.tb, BitVec.ofNat 64 (l.utxh.toNat % 2 ^ 44), v)] }
  else s.laneFlag LNK_STAT_UTXFULL n

/-- UTXD_WRITE. -/
def execUtxdWrite (n : Lane) (v : Word) (s : State) : Host.Outcome State Fault Refusal :=
  if s.laneOn n.val then .next (s.utxdWrite n.val v) else .next s

/-- The oldest received pair of the class `LNK_URXCTL.SEL`. -/
def State.urxHead (s : State) (n : Nat) : Option (Nat × Word × Word) := (s.lane n).rxq.find? (fun p => p.1 == s.get LNK_URXCTL_SEL n)

/-- A write of POP (R213): the pair is removed, and its credit returns in a CREDIT message. -/
def State.urxPop (s : State) (n : Nat) : State :=
  match s.urxHead n with
  | some p =>
    let s := s.setLane n { s.lane n with rxq := (s.lane n).rxq.erase p }
    if s.laneUp n then s.pushCtl n ⟨5, [2 ^ (8 * p.1)]⟩ else s
  | none => s

/-- URX_POP. -/
def execUrxPop (n : Lane) (s : State) : Host.Outcome State Fault Refusal :=
  if s.laneOn n.val then .next (s.urxPop n.val) else .next s

/-- A calendar is legal (R191): position 0 control, no other control, no 0b11. -/
def calLegal (k : Nat) : Bool := bits k 1 0 == 2 && (List.range 31).all (fun p => decide (bits k (2 * p + 3) (2 * p + 2) < 2))

/-- A write of `LNK_CAL` (R191, R193). -/
def State.calWrite (s : State) (n k : Nat) : State := if s.quiet && calLegal k then s.set LNK_CAL_KINDS n k else s

/-- LNK_CAL_WRITE. -/
def execLnkCalWrite (n : Lane) (v : Word) (s : State) : Host.Outcome State Fault Refusal :=
  if s.laneOn n.val then .next (s.calWrite n.val v.toNat) else .next s

/-- The receiver of a lane knows the beats: MEASURE, IDENT or UP. -/
def State.laneFramed (s : State) (n : Nat) : Bool := decide (4 ≤ s.get LNK_STAT_STATE n) && decide (s.get LNK_STAT_STATE n ≤ 6)

/-- RESERVED_CTYPE (R210, 08 R238): a reserved CTYPE, or an ANNOUNCE of a reserved kind. -/
def execReservedCtype (n : Lane) (ctype : BitVec 4) (kind : BitVec 4) (s : State) : Host.Outcome State Fault Refusal :=
  if s.laneFramed n.val ∧ (0xA ≤ ctype.toNat ∨ (ctype.toNat = 7 ∧ 0xC ≤ kind.toNat)) then
    .next ((s.beatIn n.val).laneFlag LNK_STAT_CTLUNK n.val)
  else .next s

/-- BEAT_KIND_MISMATCH (R192). -/
def execBeatKindMismatch (n : Lane) (s : State) : Host.Outcome State Fault Refusal :=
  if s.laneFramed n.val then .next ((s.beatIn n.val).laneFlag LNK_STAT_CALERR n.val) else .next s

/-- UNCORRECTABLE_CODEWORD (R190, R215, R216): a codeword arrives with that many wrong symbols. Up to seven are corrected and counted; with
more it is uncorrectable. -/
def execUncorrectableCodeword (n : Lane) (s : State) (wrong : Fin 273 := 8) : Host.Outcome State Fault Refusal :=
  let n := n.val
  if !s.laneFramed n then .next s
  else if fecCorrects wrong.val then .next ((s.goodCodeword n).bump LNK_FEC_CORR n wrong.val)
  else
    let row := (s.lane n).uncRow + 1
    let s := ((s.setLane n { s.lane n with uncRow := row }).bump LNK_FEC_UNC n).laneFlag LNK_STAT_FECUNC n
    let s := if s.mode == .run && s.laneUsed n then
        s.fault 0x302 1 (n / 64) n 0xFFFF (((s.logicalOf n).getD 0) % 64) (s.get LNK_FEC_CORR n + s.get LNK_FEC_UNC n * 2 ^ 32)
      else s
    .next (if s.get LNK_CTL_UNCLIM n ≤ row then s.leaveIfUp n else s)

/-! ### Scheduled flits and beats (R194-R202) -/

/-- TXFIX in FCLK cycles. -/
def State.txFix (s : State) : Nat := if s.slowClock then 6 else 8
/-- WMAX at a lane's rate. -/
def State.wMax (s : State) (n : Nat) : Nat :=
  let r := s.get LNK_STAT_RATE n
  if s.slowClock then (if r = 0 then 12 else if r = 1 then 24 else 42) else (if r = 0 then 16 else if r = 1 then 32 else 56)
/-- LATCYC = ⌈CLASS × 16 ns × FCLK frequency⌉. -/
def State.latCyc (s : State) (n : Nat) : Nat :=
  let k := s.get LNK_LAT_CLASS n
  if s.slowClock then cdiv (k * 192) 10 else cdiv (k * 256) 10
/-- SKEWCYC (05 R131). -/
def State.skewCyc (s : State) : Nat := if s.slowClock then 10 else 13

/-- The partner of a lane cannot roll back. -/
def State.noRollback (s : State) (n : Nat) : Bool := !s.flag LNK_PINFO_ROLLBACK n

/-- The lane carries scheduled traffic (R195, R216). -/
def State.carries (s : State) (n : Nat) : Bool := s.flag LNK_STAT_READY n && !(s.lane n).barred

/-- LANE_TXLATE (R194). -/
def State.txLate (s : State) (n : Nat) : State :=
  (s.laneFlag LNK_STAT_TXLATE n).fault 0x301 1 (n / 64) n 0xFFFF (((s.logicalAny n).getD 0) % 64) 0

/-- The order of the next output of logical lane g within the stroke, and the state that has counted it. -/
def State.outOrder (s : State) (g : Nat) : Nat × State :=
  let l := s.lane g
  let k := if l.outStroke = s.stroke.no then l.outN else 0
  (k, s.setLane g { l with outN := k + 1, outStroke := s.stroke.no })

/-- The beat of a scheduled flit (R189). -/
def TxFlit.beat (f : TxFlit) : Nat :=
  mkBeat (.scheduled f.epoch (BitVec.ofNat 6 f.c)) f.val.toNat (parByte f.val.toNat ^^^ f.bad.toNat)

/-- A beat leaves on a lane. -/
def State.sendBeat (s : State) (n : Nat) (f : TxFlit) : State := s.sendAt n 0 f.beat

/-- The output of a flit toward a partner that cannot roll back (08 R235, R243, R244): logged and sent, or fenced. -/
def State.sendLogged (s : State) (n : Nat) (f : TxFlit) : State :=
  let g := (s.logicalOf n).getD n
  let cyc := (f.c - s.stroke.tk) % 65536
  if s.flag CKP_STAT_REPLAY then s.fence (g / 64) 3 (g % 64) f.val.toNat cyc g
  else if s.mode = .run then
    let (k, s) := s.outOrder g
    let (s, ok) := s.appendLog (g / 64) true (logRecord f.val.toNat 3 k (g % 64) cyc f.epoch)
    if ok then s.sendBeat n f else s
  else s.sendBeat n f

/-- SCHEDULED_FLIT_TRANSMIT: a scheduled calendar position arrives (R192, R194). A lane in UP that is not ready carries control beats only,
so nothing leaves its queue (R208); a position with nothing to carry is idle. -/
def execScheduledFlitTransmit (n : Lane) (s : State) : Host.Outcome State Fault Refusal :=
  let n := n.val
  match (s.lane n).txq with
  | [] => .next (s.idleAt n 0)
  | f :: rest =>
    if !s.laneUp n ∨ !s.flag LNK_STAT_READY n then .next s
    else if s.tb < f.c + s.txFix ∨ !s.hasPosition n 0 then .next (s.idleAt n 0)
    else
      let late := decide (f.c + s.txFix + s.wMax n < s.tb)
      let s := s.setLane n { s.lane n with txq := rest }
      if late then .next (s.txLate n)
      else if s.noRollback n then .next (s.sendLogged n f)
      else .next (s.sendBeat n f)

/-- The partner's quad-port cycle *c* of a beat that is available now (R198), in 1/80 cycles around the lane's class;
none where TS has no match. -/
def State.rebuild (s : State) (n ts : Nat) : Option Nat :=
  let pad := s.get LNK_LAT_CLASS n * (if s.slowClock then 1536 else 2048)
  let hi80 : Int := (s.tb : Int) * 80 - 5 * sext (s.get LNK_LAT_OFFSET n) 24 - pad - s.txFix * 80
  let hi : Int := hi80 / 80
  let c : Int := hi - (hi - ts) % 64
  if hi80 - s.wMax n * 80 ≤ c * 80 ∧ 0 ≤ c then some c.toNat else none

/-- The stroke in which an ingress cycle falls (R199); none where no stroke runs then. DEDUCED (log 220): before the start of the stroke in progress
lie whole strokes of its length. -/
def State.strokeAt (s : State) (i : Nat) : Option Nat :=
  let back := cdiv (s.stroke.tk - i) s.stroke.period
  if s.mode = .run ∧ i < s.stroke.tk then (if back ≤ s.stroke.no then some (s.stroke.no - back) else none)
  else match s.stroke.nextAt with
  | some t => if t ≤ i then some s.stroke.nextNo else if s.mode = .run then some s.stroke.no else none
  | none => if s.mode = .run then some s.stroke.no else none

/-- The order *n* of a beat of logical lane g with ingress cycle i, and the state that has counted it (R199). -/
def State.inOrder (s : State) (g i : Nat) : Nat × State :=
  let l := s.lane g
  match s.strokeAt i with
  | none => (0, s)
  | some k =>
    let n := sget l.rxCount k 0
    (n, s.setLane g { l with rxCount := sput (l.rxCount.filter (fun p => decide (s.stroke.no ≤ p.1 + 1))) k (n + 1) 0 })

/-- PHYMIN (R200). -/
def State.notePhy (s : State) (n d : Nat) : State :=
  if d < s.get LNK_LAT_PHYMIN n then s.set LNK_LAT_PHYMIN n (min d 0xFFFE) else s

/-- A beat with ingress cycle i of logical lane g is late, beyond LEN, or waits in the pad (R199, R200). -/
def State.padBeat (s : State) (n g i : Nat) (v : Word) (bad : Byte) (epoch : Bool) (hit : Upset := .none) : State :=
  let (k, s) := s.inOrder g i
  if i < s.tb then
    let s := s.laneFlag LNK_STAT_RXLATE n
    if s.get LNK_RXCFG_LEN g ≤ k then s.laneFlag LNK_STAT_RXOVR n else s
  else
    let s := s.notePhy n (i - s.tb)
    if s.get LNK_RXCFG_LEN g ≤ k then s.laneFlag LNK_STAT_RXOVR n
    else { s with pads := s.pads ++ [⟨g, i, k, v, bad, epoch, s.noRollback n, hit⟩] }

/-- SCHEDULED_BEAT. `hit` is what befalls the flit made of the beat at its lookup or on its way (06 R171). -/
def execScheduledBeat (n : Lane) (data : Word) (par : Byte) (epoch : Bool) (ts : BitVec 6) (s : State) (hit : Upset := .none) :
    Host.Outcome State Fault Refusal :=
  let n := n.val
  let s := s.beatIn n
  if !s.laneUp n then .next s
  else match s.logicalAny n with
    | none => .next (s.laneFlag LNK_STAT_CALERR n)
    | some g =>
      if !s.carries n then .next (s.laneFlag LNK_STAT_CALERR n)
      else match s.rebuild n ts.toNat with
        | none => .next (s.laneFlag LNK_STAT_RXLATE n)
        | some c =>
          .next (s.padBeat n g (c + s.txFix + s.wMax n + s.latCyc n + s.skewCyc) data
            (BitVec.ofNat 8 (parByte data.toNat) ^^^ par) epoch hit)

/-- A beat enters its quad's router (R174, R199). -/
def State.ingress (s : State) (g k : Nat) (v : Word) (bad : Byte) (epoch : Bool) (hit : Upset := .none) : State :=
  s.launch (g / 64) (4 + g % 64 / 8) 0 (some g) ((s.get LNK_RXCFG_BASE g + k) % 2 ^ 17) v bad epoch s.tb hit

/-- A pad's beat in its ingress cycle: one of a partner that cannot roll back is input-logged, and in replay it is discarded (08 R234,
R243). Outside RUN, where no stroke runs to take it and lanes carry no scheduled traffic (16 R429), every scheduled beat is discarded (R201, 08
R247; DEDUCED, log 152). -/
def State.padLaunch (s : State) (p : Pad) : State :=
  if (p.logged && s.flag CKP_STAT_REPLAY) || s.mode != .run then s
  else
    let s := s.ingress p.lane p.order p.val p.bad p.epoch p.hit
    if p.logged then
      (s.appendLog (p.lane / 64) false (logRecord p.val.toNat 3 p.order (p.lane % 64) (s.cyc % 65536) p.epoch)).1
    else s

/-- In replay, the logged beats of this cycle enter a tile again (08 R243). -/
def State.replayBeats (s : State) (t : Nat) : State :=
  (s.replayDue t).foldl (fun s p => (s.consume t p.1).ingress (64 * t + recSlot p.2 % 64) (recTgt p.2) (BitVec.ofNat 64 (recVal p.2)) 0 (recEpoch p.2)) s

/-- Every beat whose ingress cycle is now enters the fabric. -/
def State.padTick (s : State) : State :=
  let due := s.pads.filter (fun p => decide (p.at_ ≤ s.tb))
  let s := due.foldl (fun s p => s.padLaunch p) { s with pads := s.pads.filter (fun p => !decide (p.at_ ≤ s.tb)) }
  if s.flag CKP_STAT_REPLAY && s.mode == .run then (List.range 8).foldl (fun s t => s.replayBeats t) s else s

/-- The oldest scheduled flit that waits at the quad port of logical lane g. -/
def State.portFlit (s : State) (g : Nat) : Option Flit :=
  (s.flits.filter (fun f => f.egr && f.dcell == g && decide (f.land ≤ s.tb))).foldl
    (fun o f => match o with | none => some f | some h => if f.land < h.land then some f else some h) none

/-- A lane takes a flit from its quad port; one that carries no scheduled traffic discards every flit there (R194, R195, R216). -/
def State.portTake (s : State) (g : Nat) : State :=
  match s.portFlit g with
  | none => s
  | some f =>
    let n := 64 * (g / 64) + s.laneMap g % 64
    let s := { s with flits := if s.carries n then s.flits.erase f
                               else s.flits.filter (fun h => !(h.egr && h.dcell == g && decide (h.land ≤ s.tb))) }
    if !s.carries n then s.laneFlag LNK_STAT_TXDOWN n
    else if 16 ≤ (s.lane n).txq.length then s.txLate n
    else s.setLane n { s.lane n with txq := (s.lane n).txq ++ [⟨f.val, f.bad, f.epoch, f.land, f.path⟩] }

/-- Every lane takes at most one flit in a cycle; a lane that takes none discards all (R194, R195). -/
def State.portTick (s : State) : State :=
  let gs := dedupNat ((s.flits.filter (fun f => f.egr && decide (f.land ≤ s.tb))).map (·.dcell))
  gs.foldl (fun s g => s.portTake g) s

/-! ### The lane remap (R218-R220) -/

/-- The shadow entry of logical lane g: PHYS, and USED in bit 8. -/
def State.laneShadow (s : State) (g : Nat) : Nat := s.get LNK_REMAP_PHYS g + 256 * s.get LNK_REMAP_USED g

/-- The lowest logical lane of a tile for which a check fails. -/
def State.firstLane (s : State) (t : Nat) (bad : State → Nat → Nat → Bool) : Option Nat :=
  (List.range 64).find? (fun l => bit (s.laneShadow (64 * t + l)) 8 && bad s (64 * t + l) (64 * t + s.get LNK_REMAP_PHYS (64 * t + l)))

/-- The checks of R219 in order: the failing check and ERRL. -/
def State.laneCommitError (s : State) (t : Nat) : Option (Nat × Nat) :=
  let phys := (List.range 64).map (fun l => s.get LNK_REMAP_PHYS (64 * t + l))
  if !s.quiet then some (1, 0)
  else match (List.range 64).find? (fun l => phys.countP (· == phys.getD l 0) != 1) with
    | some l => some (2, l)
    | none => match s.firstLane t (fun s _ n => !s.flag LNK_STAT_READY n) with
      | some l => some (3, l)
      | none => match s.firstLane t (fun s g n => s.get LNK_CTL_BUNDLE n != s.get LNK_CTL_BUNDLE g) with
        | some l => some (4, l)
        | none => match s.firstLane t (fun s _ n => s.flag LNK_STAT_CLASSUP n) with
          | some l => some (5, l)
          | none => none

/-- The shadow entries become live, and every lane a live entry names is free of its bar (R216, R219). -/
def State.laneLive (s : State) (t : Nat) : State :=
  let gs := (List.range 64).map (64 * t + ·)
  let s := gs.foldl (fun s g => { s with liveLanes := sput s.liveLanes g (s.laneShadow g) (g % 64) }) s
  gs.foldl (fun s g =>
    let n := 64 * t + s.laneMap g % 64
    s.setLane n { s.lane n with barred := false }) s

/-- A write of COMMIT (R219). -/
def State.laneCommit (s : State) (t : Nat) : State :=
  if s.flag LNK_REMAP_CTL_BUSY t then s
  else match s.laneCommitError t with
    | some (c, l) => ((s.raise LNK_REMAP_CTL_ERR t).set LNK_REMAP_CTL_ERRCODE t c).set LNK_REMAP_CTL_ERRL t l
    | none => (s.laneLive t).raise LNK_REMAP_CTL_BUSY t

/-- A write of REVERT: live to shadow. -/
def State.laneRevert (s : State) (t : Nat) : State :=
  if s.flag LNK_REMAP_CTL_BUSY t then s
  else ((List.range 64).map (64 * t + ·)).foldl (fun s g =>
    (s.set LNK_REMAP_PHYS g (s.laneMap g % 64)).set LNK_REMAP_USED g (s.laneMap g / 256)) s

/-- LANE_REMAP_COMMIT. -/
def execLaneRemapCommit (t : Tile) (s : State) : Host.Outcome State Fault Refusal :=
  if s.domOn (712 + t.val) then .next (s.laneCommit t.val) else .next s

/-- LANE_REMAP_REVERT. -/
def execLaneRemapRevert (t : Tile) (s : State) : Host.Outcome State Fault Refusal :=
  if s.domOn (712 + t.val) then .next (s.laneRevert t.val) else .next s

end Sys2Proof.Machine
end

