-- ==== Sys2Proof/Machine/Beacon.lean ====
section
/-! DEFINITION. Time beacons and the master role (02 R38-R45). -/

namespace Sys2Proof.Machine

/-- Change the beacon bookkeeping. -/
def State.setBeacon (s : State) (x : BeaconSt) : State := { s with beacon := x }

/-- A beacon in cycles of FCLK (R40): the period of `CLK_TM_CTL.BCN_PER`. -/
def State.beaconPeriod (s : State) : Nat := s.get CLK_TM_CTL_BCN_PER * 256

/-- The message of a beacon: MASTER, EPOCH and HOPS; TBVAL is taken as it is sent. -/
def beaconMsg (master epoch hops : Nat) : Ctl := ⟨1, [master + epoch * 2 ^ 32 + hops * 2 ^ 40]⟩

/-- BEACON_SEND: the master sends a beacon on every module lane each period (R40). -/
def execBeaconSend (s : State) : Host.Outcome State Fault Refusal :=
  if s.isMaster ∧ s.beacon.lastSent + s.beaconPeriod ≤ s.tb then
    .next ((s.setBeacon { s.beacon with lastSent := s.tb }).pushAll s.meshLanes (beaconMsg serialLow (s.get CLK_TM_CTL_EPOCH) 0))
  else .next s

/-- An 8-bit epoch is newer than another: it is ahead of it by fewer than 128 advances. -/
def newer (a b : Nat) : Bool := decide (0 < (a + 256 - b) % 256) && decide ((a + 256 - b) % 256 < 128)

/-- LOSS_LIM beacon periods have passed since a time-base value (R45). -/
def State.beaconsMissing (s : State) (since : Nat) : Bool := decide (since + s.get CLK_TM_CTL_LOSS_LIM * s.beaconPeriod ≤ s.tb)

/-- The source lane delivers no more: it is not in UP, or LOSS_LIM periods have passed without a beacon on it. Log 146. -/
def State.sourceGone (s : State) : Bool := !s.laneUp (s.get CLK_SKEW_SRC_LANE) || s.beaconsMissing s.beacon.srcAt

/-- A beacon of EPOCH e, MASTER m, HOPS h on lane n comes from the follower's source, or makes its lane the source (R40). -/
def State.sourceBeacon (s : State) (n m e h : Nat) : Bool :=
  let cur := s.get CLK_TM_CTL_EPOCH
  let l := s.get CLK_SKEW_SRC_LANE
  if !s.flag CLK_SKEW_VALID || newer e cur then true
  else if e ≠ cur then false
  else if n = l || s.sourceGone then true
  else decide (m < s.beacon.master) || (m == s.beacon.master &&
    (decide (h < s.get CLK_SKEW_HOPS) || (h == s.get CLK_SKEW_HOPS && decide (n < l))))

/-- The offset of R41 in 1/80 FCLK cycles, for a beacon on lane n. -/
def State.offset80 (s : State) (n tbval sub : Nat) : Int :=
  5 * ((s.tb * 16 + sub : Nat) - (tbval * 16 : Nat) : Int) -
    s.get LNK_LAT_CLASS n * (if s.slowClock then 1536 else 2048 : Nat)

/-- The same in picoseconds: a cycle is 625 ps, or 2,500/3 ps. -/
def State.offsetPs (s : State) (off80 : Int) : Int :=
  if s.slowClock then openDiv (off80 * 2500) 240 else openDiv (off80 * 625) 80

/-- The part of an offset that stays after whole cycles are removed, limited to 1/16 cycle. -/
def phaseStep (off80 : Int) : Int := max (-5) (min 5 (off80 - 80 * off80.tdiv 80))

/-- The time base takes a value. The idle timers of the CVUs count CCLK cycles and stay where they are (10 R299). -/
def State.stepTb (s : State) (t : Nat) : State :=
  let move := fun (p : Nat × CoreSt) =>
    (p.1, if s.flag CPO_MODE_DET p.1 then p.2 else { p.2 with idleFor := p.2.idleFor + (s.tb - p.2.idleAt), idleAt := t })
  { s with tb := t, cores := (s.cores.map move).filter (fun p => p.2 != CoreSt.reset) }

/-- A follower corrects its time base (R41): whole cycles outside RUN, and at most 1/16 cycle of phase. -/
def State.correct (s : State) (off80 : Int) : State :=
  let s := if s.quiet then s.stepTb (((s.tb : Int) - off80.tdiv 80).toNat % 2 ^ 64) else s
  { s with tbFrac := s.tbFrac - phaseStep off80 }

/-- SYNC_SKEW of an offset beyond the limit (R43). -/
def State.skewCheck (s : State) (n : Nat) (ps : Int) (hops : Nat) : State :=
  if (s.get CLK_SKEW_LIM_LIMIT : Int) < (ps.natAbs : Int) then s.deadline CLK_DL_STAT_SYNC_SKEW 0x106 none 8 n 0xFFFF (wrap ps 64) hops else s

/-- A beacon from the source lane: what the follower knows of the master, its offset, and the relay (R40, R41). -/
def State.takeBeacon (s : State) (n tbval sub m e h : Nat) : State :=
  let off := s.offset80 n tbval sub
  let ps := s.offsetPs off
  let s := ((((s.set CLK_SKEW_OFFSET 0 (wrap ps 32)).set CLK_SKEW_SRC_LANE 0 n).raise CLK_SKEW_VALID).set CLK_SKEW_HOPS 0 h).set
    CLK_TM_CTL_EPOCH 0 e
  let s := if h ≤ 7 then s.pushAll (s.meshLanes.filter (· != n)) (beaconMsg m e (h + 1)) else s
  let s := (s.skewCheck n ps h).correct off
  s.setBeacon { s.beacon with master := m, lastAt := s.tb, srcAt := s.tb, lost := false }

/-- A beacon of the current master that a follower hears on another lane than its source (R45). -/
def State.hearMaster (s : State) (m e : Nat) : State :=
  if !s.isMaster && s.flag CLK_SKEW_VALID && m == s.beacon.master && e == s.get CLK_TM_CTL_EPOCH then
    s.setBeacon { s.beacon with lastAt := s.tb, lost := false }
  else s

/-- A master hears a beacon (R44, R45): a newer EPOCH, or its own EPOCH with a lower MASTER, ends its role. -/
def State.yields (s : State) (m e : Nat) : Bool :=
  s.isMaster && (newer e (s.get CLK_TM_CTL_EPOCH) || (e == s.get CLK_TM_CTL_EPOCH && decide (m < serialLow)))

/-- ROLE takes a value, by hardware or by software: a bit that either sets in an FCLK cycle is 1 at its end (00 R13). DESIGN CHOICE (log 144): where
one sets bit 0 and the other bit 1, which makes the reserved code 3, the module is master. -/
def State.putRole (s : State) (hard : Bool) (v : Nat) : State :=
  let f := CLK_TM_CTL_ROLE
  let now := v ||| (s.get f &&& (if hard then s.cycle.held f 0 else s.cycle.fresh f 0))
  let y := if hard then s.cycle.addSet f 0 v else s.cycle.addWrite f 0 v
  { s.set f 0 (if now = 3 then 1 else now) with cycle := { y with role := s.cycle.role.or (if hard then none else some (s.get f)) } }

/-- BEACON. -/
def execBeacon (n : Lane) (tbval : Word) (sub : Fin 16) (master : BitVec 32) (epoch : Byte) (hops : BitVec 4) (s : State) :
    Host.Outcome State Fault Refusal :=
  let m := master.toNat
  let e := epoch.toNat
  if !s.laneUp n.val then .next s
  else
    let s := s.beatIn n.val
    let high := if newer e s.beacon.highEpoch || !s.flag CLK_SKEW_VALID then e else s.beacon.highEpoch
    let s := s.setBeacon { s.beacon with highEpoch := high }
    let s := if s.yields m e then (s.putRole true 0).lower CLK_SKEW_VALID else s
    if !s.isMaster && s.sourceBeacon n.val m e hops.toNat then
      .next (s.takeBeacon n.val tbval.toNat sub.val m e hops.toNat)
    else .next (s.hearMaster m e)

/-- The module becomes master with an epoch (R44, R45): no time base steps. DEDUCED (log 175): no beacon has been received in the new EPOCH,
so `CLK_SKEW.VALID` reads 0. `hard` says that no write of ROLE makes it so. -/
def State.becomeMaster (s : State) (hard : Bool) (e : Nat) : State :=
  let s := (((s.putRole hard 1).set CLK_TM_CTL_EPOCH 0 e).set CLK_SKEW_HOPS 0 0).lower CLK_SKEW_VALID
  s.setBeacon { s.beacon with highEpoch := e, lastSent := s.tb - s.beaconPeriod }

/-- A pending checkpoint ends as failed because the master was lost (R45); the spec names no cause code for it. -/
def State.failPending (s : State) : State := if s.inPause then let (w, s) := s.fresh; s.ckpFail (w.toNat % 256) else s

/-- BCN_LOST (R45): a backup becomes master with EPOCH + 1; any other module in a pause ends its checkpoint. A write of ROLE in the same cycle does
not change which it is (00 R13). -/
def execBcnLost (s : State) : Host.Outcome State Fault Refusal :=
  if !s.isMaster && s.flag CLK_SKEW_VALID && !s.beacon.lost &&
      s.beaconsMissing s.beacon.lastAt then
    let s := (s.setBeacon { s.beacon with lost := true }).raise CLK_DL_STAT_BCN_LOST
    let s := s.fault 0x107 0 8 (s.get CLK_SKEW_SRC_LANE) 0xFFFF (s.get CLK_TM_CTL_EPOCH) 0
    if s.cycle.role.getD (s.get CLK_TM_CTL_ROLE) = 2 then .next (s.becomeMaster true ((s.get CLK_TM_CTL_EPOCH + 1) % 256))
    else .next s.failPending
  else .next s

/-- A write of ROLE (R44, register map): 0b01 in READY or HOLD begins a handover; in RUN it is ignored; 0b11 is
reserved. DESIGN CHOICE (log 50): 0b01 written in BRING-UP or SERVICE sets ROLE and advances no EPOCH. -/
def State.roleWrite (s : State) (r : Nat) : State :=
  if r = 3 ∨ (r = 1 ∧ s.mode = .run) then s
  else if r = 1 ∧ (s.mode = .ready ∨ s.mode = .hold) ∧ !s.isMaster then
    let high := if s.flag CLK_SKEW_VALID then s.beacon.highEpoch else s.get CLK_TM_CTL_EPOCH
    s.becomeMaster false ((high + 1) % 256)
  else s.putRole false r

/-- HANDOVER: ROLE is written 0b01; ignored while the hub's domain is off (13 R353). -/
def execHandover (s : State) : Host.Outcome State Fault Refusal := .next (if s.domOn 760 then s.roleWrite 1 else s)

end Sys2Proof.Machine
end

