-- ==== Sys2Proof/Machine/Cluster.lean ====
section
/-! DEFINITION. Cluster remap commits and spare cells (03 R85-R88, 08 R241), and the completion of every commit. -/

namespace Sys2Proof.Machine

/-- Return every register whose fields have ids in [lo, hi) to reset, at the instances p. -/
def State.clearRegs (s : State) (lo hi : Nat) (p : Nat → Bool) : State :=
  { s with regs := s.regs.filter (fun e => !(decide (lo ≤ e.1 % 65536) && decide (e.1 % 65536 < hi) && p (e.1 / 65536))) }

/-- Domain d takes a power state: 0 off, 1 powering up, 2 on, 3 powering down, 4 failed, 5 powering down before it was on. -/
def State.setDom (s : State) (d v : Nat) : State := { s with dom := sput s.dom d v 0 }

/-- LEC8 source 0x11C follows `PWR_STAT.CHG` (17 R468). -/
def State.powerLevel (s : State) : State := s.lecSample (4096 + 0x11C) (s.flag PWR_STAT_CHG)

/-- A domain has changed between off and on (17 R468). -/
def State.domainChanged (s : State) (d : Nat) : State := ((s.raise PWR_STAT_CHG).set PWR_STAT_LASTDOM 0 d).powerLevel

/-- Domain d starts to power down. -/
def State.goOff (s : State) (d : Nat) : State :=
  match sget s.dom d 0 with
  | 1 => s.setDom d 5
  | 2 => s.setDom d 3
  | _ => s

/-- Clear or set the bit of domain d in `PWR_FAIL` (17 R467). -/
def State.failBit (s : State) (d : Nat) (b : Bool) : State :=
  s.set PWR_FAIL_MAP (d / 64) (putBit (s.get PWR_FAIL_MAP (d / 64)) (d % 64) b)

/-- Domain d reads on: its change is noted and its bit in `PWR_FAIL` clears (17 R467, R468). -/
def State.domainUp (s : State) (d : Nat) : State := ((s.setDom d 2).failBit d false).domainChanged d

/-- A physical cell loses power: storage and registers (17 R466); at the next power-up it holds zeros with valid parity
(03 R87, R95). -/
def State.loseCell (s : State) (c : Nat) : State :=
  (s.setCell c Cell.zero).clearRegs CELL_ID_PCELL.id 65536 (· == c)

/-! ### The remap table -/

/-- The shadow entry p of cluster g: LPOS in [5:0], STATE in [9:8]. -/
def State.shadowEntry (s : State) (g p : Nat) : Nat :=
  s.get CLU_REMAP_LPOS (68 * g + p) + 256 * s.get CLU_REMAP_STATE (68 * g + p)

/-- The shadow entries that are ACTIVE at logical position l. -/
def State.shadowAt (s : State) (g l : Nat) : List Nat := (List.range 68).filter (fun p => s.shadowEntry g p == l)

/-- Bit i of `CLU_SPARE.PGOOD`. -/
def State.pgood (s : State) (g i : Nat) : Bool := bit (s.get CLU_SPARE_PGOOD g) i

/-- The checks of R86 in order: ERRCODE, ERRLPOS, ERRP of the first failure. DESIGN CHOICE (log 153): where one position is mapped twice and
another is unmapped, the lower position is reported. -/
def State.remapError (s : State) (g : Nat) : Option (Nat × Nat × Nat) :=
  if !s.quiet then some (3, 0, 0x7F)
  else match (List.range 64).find? (fun l => decide ((s.shadowAt g l).length ≠ 1)) with
    | some l => match s.shadowAt g l with
      | p :: _ => some (1, l, p)
      | [] => some (2, l, 0x7F)
    | none => match (List.range 4).find? (fun i => s.get CLU_REMAP_STATE (68 * g + 64 + i) == 0 && !s.pgood g i) with
      | some i => some (4, s.get CLU_REMAP_LPOS (68 * g + 64 + i), 64 + i)
      | none => none

/-- A spare cell powers off (R87). -/
def State.spareOff (s : State) (g i : Nat) : State :=
  let s := s.set CLU_SPARE_PON g (putBit (s.get CLU_SPARE_PON g) i false)
  let s := s.set CLU_SPARE_PGOOD g (putBit (s.get CLU_SPARE_PGOOD g) i false)
  let d := 128 + 4 * g + i
  ((s.loseCell (68 * g + 64 + i)).cellLevel g).goOff d

/-- A commit releases spare i: it leaves ACTIVE, or is set to RETIRED (R87). -/
def State.releases (s : State) (g i old : Nat) : Bool :=
  let new := s.shadowEntry g (64 + i) / 256
  (old / 256 == 0 && new != 0) || new == 2

/-- The shadow table becomes the live table. -/
def State.remapLive (s : State) (g : Nat) : State :=
  let rel := (List.range 4).filter (fun i => s.releases g i (s.remap (68 * g + 64 + i)))
  let s := (List.range 68).foldl (fun s p =>
    { s with liveRemap := sput s.liveRemap (68 * g + p) (s.shadowEntry g p) (if p < 64 then p else 256) }) s
  rel.foldl (fun s i => s.spareOff g i) s

/-- A cell that takes a position after a restore has started in HOLD is restored once it has been reloaded (08 R241, R249): when the module
reports RESTORED, or at the resume. -/
def State.noteMoved (s : State) (c : Nat) : State :=
  if s.mode = .hold ∧ s.ckp.restoreTo.isSome then s.setCell c { s.cell c with moved := true } else s

/-- The cells of a cluster whose live entry a commit has changed. -/
def State.noteMovedIn (s : State) (g : Nat) (before : List (Nat × Nat)) : State :=
  ((s.clusterCells g).filter (fun c => sget before c (if c % 68 < 64 then c % 68 else 256) != s.remap c)).foldl (fun s c => s.noteMoved c) s

/-- A write of COMMIT (R86). -/
def State.remapCommit (s : State) (g : Nat) : State :=
  if s.flag CLU_REMAP_CTL_BUSY g then s
  else match s.remapError g with
    | some (c, l, p) =>
      (((s.raise CLU_REMAP_CTL_ERR g).set CLU_REMAP_CTL_ERRCODE g c).set CLU_REMAP_CTL_ERRLPOS g l).set CLU_REMAP_CTL_ERRP g p
    | none => ((s.remapLive g).noteMovedIn g s.liveRemap).raise CLU_REMAP_CTL_BUSY g

/-- REMAP_COMMIT. -/
def execRemapCommit (g : Cluster) (s : State) : Host.Outcome State Fault Refusal :=
  if s.cluOn g.val then .next (s.remapCommit g.val) else .next s

/-- A write of REVERT: the live table enters the shadow table. -/
def State.remapRevert (s : State) (g : Nat) : State :=
  if s.flag CLU_REMAP_CTL_BUSY g then s
  else (List.range 68).foldl (fun s p =>
    (s.set CLU_REMAP_LPOS (68 * g + p) (s.remap (68 * g + p) % 64)).set CLU_REMAP_STATE (68 * g + p) (s.remap (68 * g + p) / 256)) s

/-- REMAP_REVERT. -/
def execRemapRevert (g : Cluster) (s : State) : Host.Outcome State Fault Refusal :=
  if s.cluOn g.val then .next (s.remapRevert g.val) else .next s

/-- COMMIT_COMPLETE: BUSY of the commit clears (R86, 06 R183, 07 R219). -/
def execCommitComplete (u : CommitUnit) (s : State) : Host.Outcome State Fault Refusal :=
  match u with
  | .cluster g => if s.cluOn g.val then .next (s.lower CLU_REMAP_CTL_BUSY g.val) else .next s
  | .lanes t => if s.domOn (712 + t.val) then .next (s.lower LNK_REMAP_CTL_BUSY t.val) else .next s
  | .fabric t => if s.domOn (712 + t.val) then .next (s.lower FAB_CTL_BUSY t.val) else .next s

/-! ### Spare power (R87) -/

/-- One bit of a write of PON. A spare that was on and still powers down has gone off when it is switched on again (17 R468). DESIGN CHOICE (log 154): a spare whose live entry is RETIRED powers up when PON is written 1. -/
def State.spareRequest (s : State) (g i : Nat) (on : Bool) : State :=
  let now := bit (s.get CLU_SPARE_PON g) i
  if on && !now then
    let d := 128 + 4 * g + i
    let t := (s.set CLU_SPARE_PON g (putBit (s.get CLU_SPARE_PON g) i true)).setDom d 1
    if sget s.dom d 0 = 3 then t.domainChanged d else t
  else if !on && now && !s.active (68 * g + 64 + i) then s.spareOff g i
  else s

/-- A write of PON. -/
def State.ponWrite (s : State) (g pon : Nat) : State :=
  (List.range 4).foldl (fun s i => s.spareRequest g i (bit pon i)) s

/-- SPARE_POWER_REQUEST. -/
def execSparePowerRequest (g : Cluster) (pon : BitVec 4) (s : State) : Host.Outcome State Fault Refusal :=
  if s.cluOn g.val then .next (s.ponWrite g.val pon.toNat) else .next s

/-- SPARE_PGOOD: the cell holds zeros with valid parity, and its domain is on. -/
def execSparePgood (g : Cluster) (i : Fin 4) (s : State) : Host.Outcome State Fault Refusal :=
  let d := 128 + 4 * g.val + i.val
  if s.awake ∧ sget s.dom d 0 = 1 then
    let s := (s.loseCell (68 * g.val + 64 + i.val)).cellLevel g.val
    .next ((s.set CLU_SPARE_PGOOD g.val (putBit (s.get CLU_SPARE_PGOOD g.val) i.val true)).domainUp d)
  else .next s

end Sys2Proof.Machine
end

