-- ==== Sys2Proof/Machine/HostIf.lean ====
section
/-! DEFINITION. The host interface (14): admission of submission entries (02 R52-R56), completion queues, output rings,
MSI-X messages, the pending list, the mailbox and the endpoint's resets. -/

namespace Sys2Proof.Machine

/-! ### Configuration space (R379, R380) -/

/-- The identity values of configuration space, and its six words of BARs. -/
inductive ConfigId
  | vendorId | deviceId | revisionId | classCode | subsystemVendorId | subsystemId | serialNumber
  | bar (n : Fin 6)
  deriving DecidableEq, Repr

/-- What configuration space shows the host (R379, R380). BAR0 is a 64-bit and not prefetchable one, BAR2 a 64-bit and prefetchable one; the
other words are 0. Its registers' places and the rest of it are the PCIe standard's, which the spec does
not restate. -/
def State.configSpace (s : State) : ConfigId → Nat
  | .vendorId => Config.vendor.toNat
  | .deviceId => 0x8192
  | .revisionId => 0xB0
  | .classCode => 0x120000
  | .subsystemVendorId => s.boot.ssvid
  | .subsystemId => s.boot.ssid
  | .serialNumber => Config.serial.toNat
  | .bar n =>
    if n.val = 0 then s.pci.bar0 % 2 ^ 32 + 4
    else if n.val = 1 then s.pci.bar0 / 2 ^ 32
    else if n.val = 2 then s.pci.bar2 % 2 ^ 32 + 0xC
    else if n.val = 3 then s.pci.bar2 / 2 ^ 32
    else 0

/-- The endpoint's configuration is as after a conventional reset; BAR2 has the profile's default size (R378, R380). -/
def State.resetConfig (s : State) : State :=
  { s with pci := { PciSt.zero with width := s.pci.width, rate := s.pci.rate, topRate := s.pci.topRate, barSize := min s.boot.bar2 6 } }

/-- Put one half of a 64-bit BAR; bits below the size are 0. -/
def barWord (old half v size : Nat) : Nat := (if half = 0 then old / 2 ^ 32 * 2 ^ 32 + v else v * 2 ^ 32 + old % 2 ^ 32) / size * size

/-- A write of configuration space by the host. -/
def State.configWrite (s : State) : ConfigWrite → State
  | .power d => { s with pci := { s.pci with d3 := d } }
  | .msix e m => { s with pci := { s.pci with msixEn := e, msixMask := m } }
  | .bar n v =>
    if n.val < 2 then { s with pci := { s.pci with bar0 := barWord s.pci.bar0 n.val v.toNat (2 ^ 26) } }
    else if n.val < 4 then { s with pci := { s.pci with bar2 := barWord s.pci.bar2 (n.val - 2) v.toNat (2 ^ (30 + s.pci.barSize)) } }
    else s
  | .bar2Size k => { s with pci := { s.pci with barSize := k.val, bar2 := s.pci.bar2 / 2 ^ (30 + k.val) * 2 ^ (30 + k.val) } }
  | .payload k => { s with pci := { s.pci with payload := k.val } }
  | .readRequest k => { s with pci := { s.pci with readReq := k.val } }
  | .ecrc g c => { s with pci := { s.pci with ecrcGen := g, ecrcChk := c } }
  | .aerClear m => { s with pci := { s.pci with aer := s.pci.aer &&& (2 ^ 32 - 1 - m.toNat) } }

/-! ### Channels (R388) -/

/-- A channel. -/
def State.chan (s : State) (n : Nat) : ChanSt := sget s.chans n ChanSt.zero
/-- Replace a channel. -/
def State.setChan (s : State) (n : Nat) (x : ChanSt) : State := { s with chans := sput s.chans n x ChanSt.zero }
/-- Entries of the submission queue. -/
def State.sqLen (s : State) (n : Nat) : Nat := 2 ^ (s.get PCI_CHSQ_SIZE n + 4)
/-- Entries of the completion queue. -/
def State.cqLen (s : State) (n : Nat) : Nat := 2 ^ (s.get PCI_CHCQ_SIZE n + 4)
/-- A submission entry waits. -/
def State.sqWaits (s : State) (n : Nat) : Bool := s.get PCI_CHPTR_SQHEAD n != s.get PCI_CHPTR_SQTAIL n % s.sqLen n
/-- The completion queue has room. -/
def State.cqRoom (s : State) (n : Nat) : Bool := (s.get PCI_CHPTR_CQTAIL n + 1) % s.cqLen n != s.get PCI_CHPTR_CQHEAD n % s.cqLen n
/-- LEC8 source n follows the W1C flags of `PCI_CHSTAT` of channel n (R396). -/
def State.chanLevel (s : State) (n : Nat) : State :=
  s.lecSample (4096 + n) (s.flag PCI_CHSTAT_REFUSED n || s.flag PCI_CHSTAT_OUTHOLD n || s.flag PCI_CHSTAT_CQWAIT n)
/-- Set a flag of `PCI_CHSTAT`. -/
def State.chanFlag (s : State) (f : Field) (n : Nat) : State := (s.raise f n).chanLevel n
/-- LEC8 source 0x115 follows the W1C flags of `PCI_STAT` (R396). -/
def State.pciLevel (s : State) : State :=
  s.lecSample (4096 + 0x115) (s.flag PCI_STAT_BUSERR || s.flag PCI_STAT_OUTLOST || s.flag PCI_STAT_PENDERR || s.flag PCI_STAT_LINKCHG ||
    s.flag PCI_STAT_FLR)
/-- LEC8 source 0x116 follows `PCI_MBX.BUSY` (R396). -/
def State.mbxLevel (s : State) : State := s.lecSample (4096 + 0x116) (s.flag PCI_MBX_BUSY)

/-- CHANNEL_ENABLE: enabling sets every pointer to 0 (R388). -/
def State.channelEnable (s : State) (n : Nat) (en : Bool) : State :=
  if en && !s.flag PCI_CHCTL_EN n then
    let s := (((s.set PCI_CHPTR_SQTAIL n 0).set PCI_CHPTR_SQHEAD n 0).set PCI_CHPTR_CQHEAD n 0).set PCI_CHPTR_CQTAIL n 0
    (s.setChan n { s.chan n with cqSeq := 0, msgDue := false }).write1 PCI_CHCTL_EN n
  else if en then s.write1 PCI_CHCTL_EN n else s.write0 PCI_CHCTL_EN n

/-- CHANNEL_ENABLE. -/
def execChannelEnable (n : Fin 256) (s : State) : Host.Outcome State Fault Refusal :=
  if s.domOn 762 then .next (s.channelEnable n.val true) else .next s

/-! ### Completion entries (R389, R393) -/

/-- Write a completion entry: VALUE, STROKE, TAG, STATUS, PLACE, SQHEAD. PHASE is 1 on the first pass through the ring and
alternates (R389). -/
def State.cqWrite (s : State) (n value stroke tag status place sqHead : Nat) : State :=
  let x := s.chan n
  let tail := s.get PCI_CHPTR_CQTAIL n
  let phase := 1 - x.cqSeq / s.cqLen n % 2
  let e := leBytes 8 value ++ leBytes 8 stroke ++ leBytes 4 tag ++ [status, place] ++ leBytes 2 sqHead ++ leBytes 4 (x.cqSeq % 2 ^ 32) ++
    [0, 0, 0, phase]
  let s := s.emit (.host (s.get PCI_CHCQ_BASE n * 4096 + 32 * tail) e)
  (s.set PCI_CHPTR_CQTAIL n ((tail + 1) % s.cqLen n)).setChan n { x with cqSeq := x.cqSeq + 1, msgDue := x.msgDue || s.flag PCI_CHCTL_IEN n,
                                                                          dueAt := if x.msgDue then x.dueAt else s.tb }

/-- FCLK cycles in a microsecond. -/
def State.usCycles (s : State) : Nat := if s.slowClock then 1200 else 1600

/-- IMOD has not passed at time base value t since the channel's previous message (R385). -/
def State.imodHolds (s : State) (n t : Nat) : Bool :=
  match (s.chan n).lastMsg with
  | some l => decide (t < l + s.get PCI_CHCTL_IMOD n * s.usCycles)
  | none => false

/-- MSIX_MESSAGE: a message of a channel that is due is sent; one that IMOD held back when the tail advanced is sent when the interval ends, if
the tail is still ahead of the head, and dropped otherwise (R385). -/
def execMsixMessage (n : Fin 256) (s : State) : Host.Outcome State Fault Refusal :=
  let n := n.val
  let x := s.chan n
  if !x.msgDue || !s.linkUp || s.imodHolds n s.tb then .next s
  else if s.imodHolds n x.dueAt && s.get PCI_CHPTR_CQTAIL n == s.get PCI_CHPTR_CQHEAD n then .next (s.setChan n { x with msgDue := false })
  else .next ((s.setChan n { x with msgDue := false, lastMsg := some s.tb }).msix (s.get PCI_CHCTL_VEC n))

/-! ### Admission (02 R52, R53; 14 R389-R392) -/

/-- The highest stroke reached before the last rollback, while a replay is in progress or about to begin. -/
def State.highStroke (s : State) : Nat :=
  if s.flag CKP_STAT_REPLAY || s.ckp.restoreTo.isSome then s.get CKP_HWM_STROKE else 0

/-- STROKE_NO at the start of the HCLK cycle (02 R52): its advance at *P* − 16 within the cycle does not show yet. -/
def State.strokeRead (s : State) : Nat :=
  s.get CLK_STROKE_NO_STROKE_NO - b2n (s.stroke.advanced && (s.stroke.tk + s.stroke.period - 16) / 4 == s.tb / 4)

/-- The earliest stroke of a promise (02 R52). -/
def State.earliest (s : State) : Nat :=
  let n := s.strokeRead
  let r := s.highStroke
  max (n + cdiv (s.get CLK_ADM_LEAD) s.periodNow + 1) (if r = 0 then 0 else r + 1)

/-- Place j of stroke k on a channel is taken. -/
def State.placeTaken (s : State) (ch k j : Nat) : Bool := s.hostVals.any (fun h => h.ch == ch && h.promise == k && h.place == j)

/-- The lowest free place of stroke k on a channel. -/
def State.freePlace (s : State) (ch k budget : Nat) : Option Nat := (List.range budget).find? (fun j => !s.placeTaken ch k j)

/-- The promise of the next transaction of a channel: the lowest stroke with room, and its lowest free place. -/
def State.promise (s : State) (ch budget : Nat) : Option (Nat × Nat) :=
  let e := s.earliest
  let last := s.strokeRead + s.get CLK_ADM_HORIZON
  (List.range (last + 1 - e)).findSome? (fun i => (s.freePlace ch (e + i) budget).map (fun j => (e + i, j)))

/-- Values in the admission store (R392). -/
def State.admStore (s : State) : Nat := s.hostVals.countP (fun h => !h.staged)

/-- The refusal of an entry, in the order of R389; a promise and a place where it is admitted. -/
def State.judge (s : State) (n rsv : Nat) : Nat ⊕ (Nat × Nat × HostMapRec) :=
  match (lookup s.img.hostmap n).filter (fun r => r.dir == 0) with
  | none => .inl 3
  | some r =>
    if !(s.mode == .ready || s.mode == .run || s.mode == .hold) then .inl 2
    else if rsv ≠ 0 then .inl 4
    else if 65536 ≤ s.admStore then .inl 5
    else match s.promise n r.budget with
      | some (k, j) => .inr (k, j, r)
      | none => .inl 1

/-- Admit a value of a channel at a promise and place (R391). One promised for the next stroke once its boundary window is open is late at
once, since nothing can stage it in time (02 R46, R56). -/
def State.takeValue (s : State) (n k j : Nat) (r : HostMapRec) (v : Word) (tag sq : Nat) : State :=
  let p := r.places.getD j (0, 0)
  let late := s.inStroke && s.stroke.opened && k == s.stroke.no + 1
  let h : HostVal := ⟨n, r.tile, p.1, p.2, k, v, 0, tag, sq, j, false, false, 0, late, false, false⟩
  let s : State := { s with hostVals := s.hostVals ++ [h] }
  if late then s.lateHost h else s

/-- The channels that admission serves: enabled, an entry waits, and there is room for its completion. -/
def State.servable (s : State) (n : Nat) : Bool := s.flag PCI_CHCTL_EN n && s.sqWaits n && s.cqRoom n

/-- The next channel in the round robin. -/
def State.nextChan (s : State) : Option Nat := ((List.range 256).map (fun k => (s.lastCh + 1 + k) % 256)).find? s.servable

/-- Channels with a waiting entry and no room for its completion note that they wait. -/
def State.noteWaits (s : State) : State :=
  (s.listed PCI_CHCTL_EN).foldl (fun s n => if s.flag PCI_CHCTL_EN n && s.sqWaits n && !s.cqRoom n then s.chanFlag PCI_CHSTAT_CQWAIT n else s) s

/-- One entry of channel n is admitted or refused, and completed. -/
def State.admitEntry (s : State) (n : Nat) (v : Word) (tag rsv : Nat) : State :=
  let sq := s.get PCI_CHPTR_SQHEAD n
  let head := (sq + 1) % s.sqLen n
  let s := { s.set PCI_CHPTR_SQHEAD n head with lastCh := n }
  match s.judge n rsv with
  | .inl st => ((s.chanFlag PCI_CHSTAT_REFUSED n).bump PCI_CHCNT_REFCNT n).cqWrite n 0 0 tag st 0 head
  | .inr (k, j, r) => ((s.takeValue n k j r v tag sq).bump PCI_CHCNT_ADMCNT n).cqWrite n 0 k tag 0 j head

/-- ADMISSION: the entry at the head of the next channel's queue, as fetched from host memory. The unit takes one in an HCLK cycle (02 R52); another
waits. -/
def execAdmission (value : Word) (tag rsv : BitVec 32) (s : State) : Host.Outcome State Fault Refusal :=
  if !s.linkUp || s.pci.admAt == some (s.tb / 4) then .next s
  else
    let s := s.noteWaits
    match s.nextChan with
    | some n => .next ({ s with pci := { s.pci with admAt := some (s.tb / 4) } }.admitEntry n value tag.toNat rsv.toNat)
    | none => .next s

/-! ### Outputs (R393-R395) -/

/-- The OUT channel whose ODADDR a design write of tile t names (R393). -/
def State.outChan (s : State) (t addr : Nat) : Option (Nat × HostMapRec) :=
  s.img.hostmap.find? (fun p => p.2.dir == 1 && p.2.tile == t && p.2.odaddr / 8 == addr / 8)

/-- The ring's fill has risen to 3/4: the endpoint requests a planned hold (R395). -/
def State.outHold (s : State) (n : Nat) (r : HostMapRec) : State :=
  let x := s.chan n
  if x.armed && decide (r.ringLen * 3 ≤ (x.wr - x.rd) * 4) then
    let s := (s.setChan n { x with armed := false }).chanFlag PCI_CHSTAT_OUTHOLD n
    (s.set CKP_HOLDAT_STROKE 0 (s.get CLK_STROKE_NO_STROKE_NO + cdiv 16384 s.periodNow + 1)).reqHold
  else s

/-- HOST_OUTLOST (R395). -/
def State.outLost (s : State) (n : Nat) (v : Word) : State := ((s.raise PCI_STAT_OUTLOST).pciLevel).fault 0x601 2 8 n 0xFFFF v.toNat 0

/-- Place an output in its ring (R393), or lose it; `k` is the stroke in which it reached the TME. -/
def State.ringPut (s : State) (n : Nat) (r : HostMapRec) (v : Word) (k cyc : Nat) : State :=
  let x := s.chan n
  if r.ringLen ≤ x.wr - x.rd then s.outLost n v
  else
    let a := r.ringBase + 16 * (x.wr % r.ringLen)
    let s := s.setNum a 16 (v.toNat + k % 2 ^ 48 * 2 ^ 64 + cyc % 2 ^ 16 * 2 ^ 112)
    ((s.setChan n { x with wr := x.wr + 1 }).bump PCI_CHCNT_ADMCNT n).outHold n r

/-- An output of a cell of tile t (R393): logged and placed in its ring, or fenced in replay. -/
def State.output (s : State) (t n : Nat) (r : HostMapRec) (lcell : Nat) (v : Word) (k cyc : Nat) : State :=
  if s.flag CKP_STAT_REPLAY then s.fence t 1 n v.toNat cyc (0x8000 + n)
  else
    let (s, ok) := s.appendLog t true (logRecord v.toNat 1 lcell n cyc false)
    if ok then s.ringPut n r v k cyc else s

/-- OUTPUT_RELEASE: the oldest released value of an enabled channel enters its completion queue (R394). -/
def execOutputRelease (n : Fin 256) (s : State) : Host.Outcome State Fault Refusal :=
  let n := n.val
  let x := s.chan n
  match (lookup s.img.hostmap n).filter (fun r => r.dir == 1) with
  | none => .next s
  | some r =>
    if !s.flag PCI_CHCTL_EN n || decide (x.rel ≤ x.rd) || !s.linkUp then .next s
    else if !s.cqRoom n then .next (s.chanFlag PCI_CHSTAT_CQWAIT n)
    else
      let e := s.num (r.ringBase + 16 * (x.rd % r.ringLen)) 16
      let fill := x.wr - (x.rd + 1)
      let s := s.setChan n { x with rd := x.rd + 1, armed := x.armed || decide (fill * 4 < r.ringLen * 3) }
      .next (s.cqWrite n (e % 2 ^ 64) (e / 2 ^ 64 % 2 ^ 48) (e / 2 ^ 112 % 2 ^ 16) 0x10 0 0)

/-! ### The pending list (R397) -/

/-- Admit record i of the list; `first` is the first that has found no place. -/
def State.pendAdmit (s : State) (first : Option Nat) (i : Nat) : State × Option Nat :=
  let a := s.ckpArea 0 + 0x4C000040 + 32 * i
  let k := s.num (a + 8) 8
  match s.img.hostmap.find? (fun p => p.2.dir == 0 && p.2.gch == s.num (a + 16) 4) with
  | none => (s, first)
  | some (n, r) => match s.freePlace n k r.budget with
    | some j => (s.takeValue n k j r (s.word a) (s.num (a + 20) 4) 0, first)
    | none => (s, first.or (some i))

/-- A write of PENDLOAD (R397). -/
def State.pendLoad (s : State) : State :=
  if s.mode = .hold ∧ s.domOn 704 then
    let (s, first) := (List.range (min (s.num (s.ckpArea 0 + 0x4C000000) 8) 524286)).foldl (fun p i => p.1.pendAdmit p.2 i) (s, none)
    match first with
    | some i => ((s.raise PCI_STAT_PENDERR).pciLevel).set PCI_PENDSTAT_FIRST 0 i
    | none => s
  else s

/-- PENDLOAD. -/
def execPendload (s : State) : Host.Outcome State Fault Refusal := if s.domOn 762 then .next s.pendLoad else .next s

/-! ### The mailbox (R398) -/

/-- A transport of the dictionary. -/
def State.xport (s : State) (k : Nat) : XportSt := sget s.xports k XportSt.idle
/-- Replace a transport. -/
def State.setXport (s : State) (k : Nat) (x : XportSt) : State := { s with xports := sput s.xports k x XportSt.idle }
/-- A request is complete: it waits on its transport (15 R414). -/
def State.submit (s : State) (k : Nat) (req : List Nat) : State :=
  s.setXport k { s.xport k with waiting := some (s.tb, req) }

/-- The first n bytes of `PCI_MBXREQ`. -/
def State.mbxBytes (s : State) (n : Nat) : List Nat :=
  ((List.range 32).foldl (fun (l : List Nat) r => l ++ leBytes 8 (s.get PCI_MBXREQ_BYTES r)) []).take n

/-- A write of GO with a request length. -/
def State.mailboxGo (s : State) : State :=
  if s.flag PCI_MBX_BUSY || s.get PCI_MBX_REQLEN == 0 || decide (256 < s.get PCI_MBX_REQLEN) then s.raise PCI_MBX_ERR
  else ((s.raise PCI_MBX_BUSY).mbxLevel).submit 0 (s.mbxBytes (s.get PCI_MBX_REQLEN))

/-- MAILBOX_REQUEST. -/
def execMailboxRequest (s : State) : Host.Outcome State Fault Refusal := if s.domOn 762 then .next s.mailboxGo else .next s

/-! ### Resets and the link (R378) -/

/-- Every `PCI_` register returns to its reset value, and the MSI-X table clears (R378). The link stays up, though LWIDTH and LRATE show it
again only as it changes. -/
def State.clearPci (s : State) : State :=
  let l := s.listed PCI_CHSTAT_REFUSED ++ s.listed PCI_CHSTAT_OUTHOLD ++ s.listed PCI_CHSTAT_CQWAIT
  let s : State := { s.clearRegs PCI_CTL_FVEC.id (PCI_CHCNT_REFCNT.id + 32) (fun _ => true) with msixTab := [], msixPba := [] }
  (dedupNat l).foldl (fun s n => s.chanLevel n) s

/-- A Function Level Reset: the mailbox is emptied, so that the response of a value still being programmed goes nowhere; unadmitted entries are
discarded, rings and admitted values stay, and the host's ownership of loading ends (R378, 01 R26). -/
def State.flr (s : State) : State :=
  let s := s.clearPci.setXport 0 XportSt.idle
  let s := { s with persist := s.persist.map (fun p : Persist => if p.xport = 0 then { p with xport := 31 } else p), chans := s.chans.map (fun p : Nat × ChanSt => (p.1, { p.2 with cqSeq := 0, msgDue := false, lastMsg := none })), lastCh := 255,
                    owner := if s.owner = 0x80 then 0 else s.owner }
  ((s.raise PCI_STAT_FLR).pciLevel).mbxLevel

/-- FLR. -/
def execFlr (s : State) : Host.Outcome State Fault Refusal := if s.domOn 762 then .next s.flr else .next s

/-- The link takes a width and rate (R378): `PCI_STAT`, and the ready bit of the PCIe function (16 R449). -/
def State.linkChange (s : State) (width rate : Nat) : State :=
  let s : State := { s with pci := { s.pci with width := width, rate := rate } }
  let s := ((s.set PCI_STAT_LWIDTH 0 width).set PCI_STAT_LRATE 0 rate).raise PCI_STAT_LINKCHG
  (s.setReady (6 * 1024) (rate != 0)).pciLevel.msixFlushAll

/-- CONVENTIONAL_RESET: an FLR, configuration space returns to reset, and the link goes down to train again. -/
def execConventionalReset (s : State) : Host.Outcome State Fault Refusal :=
  if s.domOn 762 then .next (s.flr.resetConfig.linkChange 0 0) else .next s

/-- PCIE_LINK_CHANGE. A rate of 0 is a link that is down; a link of no other width or rate than R377's comes up. -/
def execPcieLinkChange (width : BitVec 5) (rate : BitVec 3) (s : State) : Host.Outcome State Fault Refusal :=
  if !s.domOn 762 then .next s
  else if rate = 0 then .next (s.linkChange 0 0)
  else if [1, 2, 4, 8, 16].contains width.toNat && decide (rate.toNat ≤ s.pci.topRate) then .next (s.linkChange width.toNat rate.toNat)
  else .next s

end Sys2Proof.Machine
end

