-- ==== Sys2Proof/Machine/Tme.lean ====
section
/-! DEFINITION. The tile memory engines (13 R359-R368): channel losses, design-memory requests, the rebuild and the zero
fill; and the flash controller (13 R371-R375). -/

namespace Sys2Proof.Machine

/-- CHANNEL_FAILURE: the PHY loses a channel. -/
def execChannelFailure (t : Tile) (ch : Fin 16) (s : State) : Host.Outcome State Fault Refusal :=
  if s.domOn (704 + t.val) then .next (s.channelFail t.val ch.val) else .next s

/-! ### Design memory (R359-R363) -/

/-- Stack offset of a design address; none where it is out of range. -/
def State.designOffset (s : State) (t addr : Nat) : Option Nat :=
  if addr / 2 ^ 21 < s.get TME_CFG_DMSIZE t then some (s.get TME_CFG_DMBASE t * 2 ^ 21 + addr / 8 * 8) else none

/-- The stack offset that `TME_ERR` names for a design address, in range or not. -/
def State.errOffset (s : State) (t addr : Nat) : Nat := (s.get TME_CFG_DMBASE t * 2 ^ 21 + addr) % 2 ^ 36

/-- An out-of-range request (R359). -/
def State.outOfRange (s : State) (t addr : Nat) : State :=
  (((s.raise TME_STAT_OOR t).tmeCapture t (s.errOffset t addr) 0 1).tmeLevel t)

/-- The response of a read goes to its cell. -/
def State.respond (s : State) (t : Nat) (q : MemReq) (v : Word) : State :=
  match s.pcellL t q.lcell with
  | some c => { s with landings := s.landings ++ [⟨c, q.tag, v, 0, s.tb, q.leaves + 320⟩] }
  | none => s

/-- A read (R359, R362, R365). -/
def State.tmeRead (s : State) (t : Nat) (q : MemReq) (err : HbmRead) : State :=
  match s.designOffset t q.addr.toNat with
  | none => (s.outOfRange t q.addr.toNat).respond t q 0
  | some o =>
    let s := (s.hbmTouch t o err).1
    s.respond t q (s.word (stackBase t + o))

/-- A write of design memory (R359, R363): journalled in RUN. -/
def State.tmeStore (s : State) (t : Nat) (q : MemReq) (o : Nat) : State :=
  let a := stackBase t + o
  if s.mode = .run then
    let (s, ok) := s.journal t a
    if ok then s.setMasked a q.data q.bmask else s
  else s.setMasked a q.data q.bmask

/-- A write: an output where an OUT channel names its address (14 R393), else design memory. -/
def State.tmeWrite (s : State) (t : Nat) (q : MemReq) (err : HbmRead) : State :=
  match s.outChan t q.addr.toNat with
  | some (n, r) =>
    s.output t n r q.lcell (BitVec.ofNat 64 (q.data.toNat &&& byteMask 8 q.bmask.toNat)) q.stroke (q.cyc % 65536)
  | none => match s.designOffset t q.addr.toNat with
    | none => s.outOfRange t q.addr.toNat
    | some o => (s.hbmTouch t o err).1.tmeStore t q o

/-- The TME may take request q in this cycle: at most two, of which one is a write (R362). -/
def State.mayTake (s : State) (t : Nat) (q : MemReq) : Bool :=
  let x := s.tile t
  x.takenAt != s.tb || (decide (x.taken < 2) && !(q.write && decide (0 < x.takenW)))

/-- Count a request taken in this cycle. -/
def TileSt.countTaken (x : TileSt) (now : Nat) (w : Bool) : TileSt :=
  if x.takenAt = now then { x with taken := x.taken + 1, takenW := x.takenW + b2n w }
  else { x with takenAt := now, taken := 1, takenW := b2n w }

/-! ### Writes by cores and the host (R364) -/

/-- A physical address lies in the design-memory window of its tile. -/
def State.inDesign (s : State) (a : Nat) : Bool :=
  let t := a / 0x900000000
  let o := a % 0x900000000
  let b := s.get TME_CFG_DMBASE t * 2 ^ 21
  decide (b ≤ o) && decide (o < b + s.get TME_CFG_DMSIZE t * 2 ^ 21)

/-- A physical address lies in the design-memory window or the checkpoint area of its tile. -/
def State.guarded (s : State) (a : Nat) : Bool :=
  let c := s.ckpArea (a / 0x900000000)
  region a == .hbm && (s.inDesign a || (decide (c ≤ a) && decide (a < c + 2 ^ 31)))

/-- A guarded write is performed. In HOLD and SERVICE no journal holds it, and a rollback leaves one of design memory applied (R364). -/
def State.extWrite (s : State) (a : Nat) (l : List Byte) : State :=
  let u := s.setBytes a l
  if s.mode ≠ .ready ∧ s.inDesign a then u.setCkp { u.ckp with extWrites := u.ckp.extWrites ++ [(a, l)] } else u

/-- A write to stack t waits. -/
def State.heldAt (s : State) (t : Nat) : Bool := s.ckp.heldWrites.any (fun p => p.1 / 0x900000000 == t)

/-- The writes that waited at stack t are performed, in their order. -/
def State.freeStack (s : State) (t : Nat) : State :=
  (s.ckp.heldWrites.filter (fun p => p.1 / 0x900000000 == t)).foldl (fun s p => s.extWrite p.1 p.2)
    (s.setCkp { s.ckp with heldWrites := s.ckp.heldWrites.filter (fun p => p.1 / 0x900000000 != t) })

/-- A guarded write waits (R356, R364). -/
def State.writeWaits (s : State) (a : Nat) : Bool :=
  s.guarded a && s.mode != .run && s.mode != .ready && (s.ckp.pendRestore.isSome || !s.stackIdle a || s.heldAt (a / 0x900000000))

/-- A write of bytes to HBM by a core or the host: in RUN, the design-memory window and the checkpoint area ignore it, and once a RESTORE has
come in SERVICE it waits there for the restore (R364). Outside READY it waits for the requests of the stack's cells before it (R356), and always
for the writes that came before it (14 R383). -/
def State.hbmWrite (s : State) (a : Nat) (l : List Byte) : State :=
  let t := a / 0x900000000
  if !s.guarded a then s.setBytes a l
  else if s.mode = .run then s.raise TME_STAT_EXTWR t
  else if s.mode = .ready then (s.freeStack t).extWrite a l
  else if s.writeWaits a then s.setCkp { s.ckp with heldWrites := s.ckp.heldWrites ++ [(a, l)] }
  else s.extWrite a l

/-- The writes whose wait is over are performed: no restore is ahead, and the stack has served the requests before them (R356, R364). -/
def State.freeIdle (s : State) : State :=
  if s.ckp.pendRestore.isSome then s
  else (List.range 8).foldl (fun s t => if s.heldAt t && (s.tile t).memq.isEmpty then s.freeStack t else s) s

/-- The restore that waited for the requests of tile t is done once they are served (R356; 08 R240). -/
def State.restoreNow (s : State) (t : Nat) : State :=
  match s.ckp.restoreTo with
  | some r =>
    if s.ckp.restoring && !(s.tile t).unwound && (s.tile t).memq.isEmpty && s.domOn (712 + t) then s.restoreTile (s.get CKP_STAT_LASTSLOT) r t else s
  | none => s

/-- The requests that wait at tile t are served now, before work of a lower class (R356). DESIGN CHOICE (log 192). -/
def State.serveAll (s : State) (t : Nat) : State :=
  let u := (s.tile t).memq.foldl (fun s q => if q.write then s.tmeWrite t q .ok else s.tmeRead t q .ok) (s.setTile t { s.tile t with memq := [] })
  u.freeStack t

/-- The memory as an access of class 5 finds it when its turn comes: the waiting requests of the stack's cells have been served, and the
writes of its class that came before it performed (R356, R364; 14 R383). The access reads this memory; the requests themselves are served in
their own time. DESIGN CHOICE (log 192). -/
def State.afterOthers (s : State) (a : Nat) : State :=
  let t := a / 0x900000000
  if s.stackIdle a && !s.heldAt t then s else s.serveAll t

/-- TME_REQUEST: the oldest request of the queue is served. -/
def execTmeRequest (t : Tile) (err : HbmRead) (s : State) : Host.Outcome State Fault Refusal :=
  let t := t.val
  match (s.tile t).memq with
  | [] => .next s
  | q :: rest =>
    if !s.mayTake t q || !s.domOn (704 + t) then .next s
    else
      let x := s.tile t
      let s := s.setTile t (({ x with memq := rest }).countTaken s.tb q.write)
      .next (((if q.write then s.tmeWrite t q err else s.tmeRead t q err).restoreNow t).freeIdle)

/-- A request that meets a full queue (R362). -/
def State.queueFull (s : State) (t : Nat) (q : MemReq) : State :=
  let s := ((s.raise TME_STAT_OVERRUN t).tmeCapture t (s.errOffset t q.addr.toNat) 0 5).tmeLevel t
  s.fault 0x40A 1 t q.lcell ((s.pcellL t q.lcell).getD 0xFFFF) (s.tmeErr t) (b2n q.write)

/-- A request arrives at the TME (R362): it enters the queue of 4,096, or is not taken. -/
def State.memArrive (s : State) (t : Nat) (q : MemReq) : State :=
  let x := s.tile t
  let s := s.setTile t { x with memIn := x.memIn.erase q }
  if (s.tile t).memq.length < 4096 then s.setTile t { s.tile t with memq := (s.tile t).memq ++ [q] } else s.queueFull t q

/-- Put a request in its place by LCELL. -/
def insertReq (q : MemReq) : List MemReq → List MemReq
  | [] => [q]
  | r :: t => if q.lcell < r.lcell then q :: r :: t else r :: insertReq q t

/-- The requests of a tile that arrive now, in ascending LCELL order (R362). -/
def State.arriving (s : State) (t : Nat) : List MemReq :=
  ((s.tile t).memIn.filter (fun q => decide (q.leaves + 8 ≤ s.tb))).foldl (fun l q => insertReq q l) []

/-- Every request whose way takes it to its TME in this cycle arrives. -/
def State.memTick (s : State) : State :=
  s.tiles.foldl (fun s p => (s.arriving p.1).foldl (fun s q => s.memArrive p.1 q) s) s

/-! ### Rebuild and zero fill (R357, R367) -/

/-- The member that the failed channel carried. -/
def State.failedMember (s : State) (t : Nat) : Option Nat := (List.range 15).find? (fun m => s.chFailed t (s.get (chEntry m) t))

/-- The rebuild ends (R367): the former parity channel carries the member, and there is no parity. -/
def State.rebuildEnd (s : State) (t : Nat) : State :=
  let s := match s.failedMember t with
    | some m => s.set (chEntry m) t (s.get TME_CHMAP_CH15 t)
    | none => s
  ((s.set TME_CHSTAT_PARITY t 0).lower TME_RBCTL_ACTIVE t).raise TME_RBCTL_DONE t

/-- Stack offset of member m of group g (R355). -/
def memberOffset (g m : Nat) : Nat :=
  let d := (g * 15 + m) * 64
  if d < 0x7F0000000 then d else d + 0x90000000

/-- What the rebuild meets where it reads a member of group g, 15 the parity (R365, R367): a line that is unreadable leaves the lost one without
its reconstruction too. DEDUCED (log 199). -/
def State.rebuildErr (s : State) (t g : Nat) (err : HbmRead) (m : Nat) : State :=
  match s.failedMember t, err with
  | none, _ | _, .ok => s
  | some _, .corrected => s.bump TME_ECC_CORR t
  | some f, .uncorrectable =>
    let u := (s.hbmTouch t (memberOffset g (if m < 15 then m else f)) .uncorrectable).1
    if m = f ∨ m = 15 then u else u.spoilLine t (memberOffset g f)

/-- REBUILD_GROUP: the next group is rebuilt, once no request of the tile's cells waits (R356). -/
def execRebuildGroup (t : Tile) (s : State) (err : HbmRead := .ok) (member : Fin 16 := 0) : Host.Outcome State Fault Refusal :=
  let t := t.val
  if s.flag TME_RBCTL_ACTIVE t && s.domOn (704 + t) && (s.tile t).memq.isEmpty then
    let g := s.get TME_RBCTL_GROUP t + 1
    let s := s.rebuildErr t (g - 1) err member.val
    let s := s.set TME_RBCTL_GROUP t g
    .next (if groups ≤ g then s.rebuildEnd t else s)
  else .next s

/-- The bytes of stack t are all zero. -/
def State.zeroRange (s : State) (a b : Nat) : State := { s with mem := s.mem.filter (fun p => !(decide (a ≤ p.1) && decide (p.1 < b))) }

/-- ZERO_FILL_DONE: the stack holds zeros with consistent parity, and the TME is ready (R357). Waiting requests of the cells come first (R356). -/
def execZeroFillDone (t : Tile) (s : State) : Host.Outcome State Fault Refusal :=
  let t := t.val
  if (s.tile t).zeroing && s.domOn (704 + t) then
    let s := (s.serveAll t).zeroRange (stackBase t) (stackBase (t + 1))
    .next ((s.setTile t { s.tile t with zeroing := false }).stackReady t)
  else .next s

/-! ### Flash (R371-R375) -/

/-- First address of device d in the flash window. -/
def State.flashBase (s : State) (d : Nat) : Nat := 0x3F0000000000 + (if d = s.get MGT_FLCTL_WINSEL then 0 else 0x10000000)

/-- The command of `MGT_FLCMD` touches the boot firmware or the directory (R373). -/
def State.flashProtected (s : State) : Bool := decide (s.get MGT_FLCMD_OFFSET * 256 < 0x110000)

/-- The flash device behind an address is busy with a command: a read waits (R375). -/
def State.flashWaits (s : State) (a : Nat) : Bool :=
  s.flag MGT_FLCTL_BUSY && region a == .flash && decide (s.flashBase s.flash.dev ≤ a) && decide (a < s.flashBase s.flash.dev + 0x10000000)

/-- A write of GO with an OP (R373): the command starts with the registers as they stand, or is refused while FLASH_WP_N is low. -/
def State.flashGo (s : State) (op : Nat) : State :=
  if s.flag MGT_FLCTL_BUSY then s
  else
    let s := s.set MGT_FLCMD_OP 0 op
    if (s.flashProtected && s.get MGT_FLCTL_WPN == 0) || (op == 1 && s.get MGT_FLCMD_OFFSET % 256 != 0) then s.raise MGT_FLCTL_ERR
    else
      { s with flash := { s.flash with
          op := op, dev := s.get MGT_FLCMD_DEV, off := s.get MGT_FLCMD_OFFSET * 256, len := s.get MGT_FLCMD_LEN * 256,
          src := s.get MGT_FLBUF_ADDR * 8 } }.raise MGT_FLCTL_BUSY

/-- The level of FLASH_WP_N, which `MGT_FLCTL.WPN` shows; none where it is as before. -/
def State.flashPin (s : State) (wpn : Option Bool) : State :=
  match wpn with
  | some b => s.set MGT_FLCTL_WPN 0 (b2n b)
  | none => s

/-- FLASH_ERASE. -/
def execFlashErase (s : State) (wpn : Option Bool := none) : Host.Outcome State Fault Refusal :=
  if s.domOn 761 then .next ((s.flashPin wpn).flashGo 1) else .next s

/-- FLASH_PROGRAM. -/
def execFlashProgram (s : State) (wpn : Option Bool := none) : Host.Outcome State Fault Refusal :=
  if s.domOn 761 then .next ((s.flashPin wpn).flashGo 2) else .next s

/-- Erase sets every byte of whole 64 KB sectors to 0xFF. -/
def State.flashErase (s : State) : State :=
  let a := s.flashBase s.flash.dev + s.flash.off
  s.zeroRange a (min (a + cdiv s.flash.len 65536 * 65536) (s.flashBase s.flash.dev + 0x10000000))

/-- Programming clears bits: each byte becomes the AND of the old and the source byte. -/
def State.flashBytes (s : State) (src dst : Nat) : Nat → State
  | 0 => s
  | n + 1 => (s.setByte dst (s.byte dst &&& s.byte src)).flashBytes (src + 1) (dst + 1) n

/-- Program LEN × 256 bytes from the source of `MGT_FLBUF`. -/
def State.flashProgram (s : State) : State :=
  s.flashBytes s.flash.src (s.flashBase s.flash.dev + s.flash.off) (min s.flash.len (0x10000000 - s.flash.off))

/-- The command in progress ends; one that the device fails sets ERR. -/
def State.flashEnd (s : State) (ok : Bool) : State :=
  let s := s.lower MGT_FLCTL_BUSY
  if !ok then s.raise MGT_FLCTL_ERR else if s.flash.op = 1 then s.flashErase else s.flashProgram

/-! ### What a read by another agent than a core meets (R365, R370, R376) -/

/-- The memory behind an address answers: a backed stack whose TME is on, an LSRAM, or a flash device. -/
def State.memOn (s : State) (a : Nat) : Bool :=
  match region a with
  | .hbm => s.domOn (704 + a / 0x900000000)
  | .lsram => s.domOn 760
  | .flash => s.domOn 761
  | _ => false

/-- What the memory behind an address reports to a read by an agent other than a core: an HBM error (R365), or a parity error on the shared port
of an LSRAM, which completes it with a bus error (R370). -/
def State.readErr (s : State) (a : Nat) (err : HbmRead) : State × Bool :=
  if !s.memOn a then (s, false)
  else match region a, lsramCore a, err with
    | .hbm, _, _ => ((s.hbmTouch (a / 0x900000000) (a % 0x900000000) err).1, false)
    | .lsram, some k, .uncorrectable => (s.perr k 2 a, true)
    | _, _, _ => (s, false)

/-- What a read of `len` bytes meets in the lines it touches, the first and those that `more` names: the first address that completes with a bus
error. -/
def State.readErrs (s : State) (a len : Nat) (err : HbmRead) (more : LineErrs) : State × Option Nat :=
  ((0, err) :: more).foldl (fun p q =>
    let b := if q.1 = 0 then a else (a / 64 + q.1) * 64
    if a + max 1 len ≤ b then p
    else
      let (u, e) := p.1.readErr b q.2
      (u, p.2.or (if e then some b else none))) (s, none)

end Sys2Proof.Machine
end

