-- ==== Sys2Proof/Machine/Image.lean ====
section
/-! DEFINITION. The schedule image (05 R150-R157, R525, R526) and its engine: the header and section checks, the records of every
section type, APPLY, and the ownership of loading (01 R26, 15 R407). -/

namespace Sys2Proof.Machine

/-! ### Ownership (01 R26, 15 R408) -/

/-- The identity with which an agent claims loading; 0 where it has none. -/
def Agent.identity : Agent → Nat
  | .host => 0x80
  | .core n => n.val + 1
  | _ => 0

/-- The agent owns loading. -/
def State.owns (s : State) (a : Agent) : Bool := s.owner != 0 && s.owner == Agent.identity a

/-- The owner claimed loading in the MCLK cycle in progress (16 FCLK cycles, 17 R459). -/
def State.claimedNow (s : State) : Bool := s.owner != 0 && s.claimAt / 16 == s.tb / 16

/-- A write of 0x1200:05 by an agent: the abort code of 15 R408, or the new owner. A claim of the host wins over one that a core made in
the same MCLK cycle (01 R26). -/
def State.claimJudge (s : State) (a : Agent) (v : Nat) : Nat ⊕ Nat :=
  if Agent.identity a = 0 then .inl 3
  else if v = 0 then (if s.owns a then .inr 0 else .inl 0xC)
  else if v ≠ Agent.identity a then .inl 5
  else if s.owner ≠ 0 ∧ !s.owns a ∧ !(a == .host && decide (s.owner < 0x80) && s.claimedNow) then .inl 7
  else .inr v

/-- Loading is owned by a loader, or by none (0). An owner that writes its identity again has claimed no later for it. -/
def State.setOwner (s : State) (o : Nat) : State := if o = s.owner then s else { s with owner := o, claimAt := s.tb }

/-- A write to an image target by an agent that does not own loading is ignored (01 R26). -/
def State.loadForeign (s : State) : State := (s.raise MGT_STAT_LOADFOREIGN).hubLevels

/-- A write of `MGT_IMG_ADDR`. -/
def State.imgAddrWrite (s : State) (a : Agent) (v : Nat) : State :=
  if s.owns a then s.set MGT_IMG_ADDR_ADDR 0 (bits v 45 3) else s.loadForeign

/-- IMG_ADDR_WRITE. -/
def execImgAddrWrite (a : Agent) (v : Word) (s : State) : Host.Outcome State Fault Refusal :=
  if s.domOn 763 then .next (s.imgAddrWrite a v.toNat) else .next s

/-! ### The header (R150, R151, R155) -/

/-- A field of the image header. -/
def State.hdr (s : State) (b off n : Nat) : Nat := s.num (b + off) n

/-- Bytes of memory as numbers. -/
def State.natBytes (s : State) (a n : Nat) : List Nat := (s.bytes a n).map (·.toNat)

/-- The header failure of an image at b: an ERRCODE (R155). PAGEONLY without PAGED fails the header check (R526). DESIGN CHOICE (log 155):
of several failures the first in this order names the ERRCODE; the rule gives none. -/
def State.hdrError (s : State) (b : Nat) : Option Nat :=
  let sects := s.hdr b 0x28 4
  let per := s.hdr b 0x2C 1
  let flags := s.hdr b 0x1D 1
  if s.hdr b 0 4 ≠ 0x49534850 ∨ s.hdr b 4 2 ≠ 1 ∨ s.hdr b 0x3C 4 ≠ crc32c (s.natBytes b 0x3C) then some 1
  else if sects = 0 ∨ 4096 < sects then some 1
  else if s.hdr b 0x38 4 ≠ crc32c (s.natBytes (b + s.hdr b 0x30 8) (32 * sects)) then some 2
  else if s.hdr b 0x1C 1 ≠ 0xB0 then some 3
  else if per < 2 ∨ 64 < per ∨ per ≤ s.hdr b 0x2D 1 then some 1
  else if bit flags 1 && !bit flags 0 then some 1
  else none

/-- In RUN: only a PAGEONLY image, with the reserved cycles in force (R156). DESIGN CHOICE (log 177): where the nine instances of `FAB_RSV`
differ, that of tile 0 is the value in force. -/
def State.runError (s : State) (b : Nat) : Option Nat :=
  if !bit (s.hdr b 0x1D 1) 1 then some 4
  else if s.hdr b 0x2C 1 ≠ s.get FAB_RSV_PERIOD 0 ∨ s.hdr b 0x2D 1 ≠ s.get FAB_RSV_PHASE 0 then some 1
  else none

/-! ### Sections (R150, R152) -/

/-- A section table entry. -/
structure Sect where
  typ : Nat
  tile : Nat
  flags : Nat
  crc : Nat
  base : Nat
  off : Nat
  len : Nat
  deriving DecidableEq, Repr

/-- Entry i of the table of the image at b. -/
def State.sect (s : State) (b i : Nat) : Sect :=
  let e := b + s.hdr b 0x30 8 + 32 * i
  ⟨s.num e 2, s.num (e + 2) 1, s.num (e + 3) 1, s.num (e + 4) 4, b + s.num (e + 8) 8, s.num (e + 8) 8, s.num (e + 16) 8⟩

/-- The sections of the image at b, in table order. -/
def State.sects (s : State) (b : Nat) : List Sect := (List.range (s.hdr b 0x28 4)).map (s.sect b)

/-- The TYPE is known. -/
def Sect.known (e : Sect) : Bool := 1 ≤ e.typ && e.typ ≤ 10
/-- A multiple of 8 not below n. -/
def pad8 (n : Nat) : Nat := (n + 7) / 8 * 8

/-- Length of the record at address a (R152, 13 R360, 14 R386, 18 R477). -/
def State.recLen (s : State) (e : Sect) (a : Nat) : Nat :=
  if e.typ = 1 then 16 + 72 * s.num (a + 8) 2
  else if e.typ = 2 then 8 + pad8 (2 * s.num (a + 4) 2)
  else if e.typ = 3 then 8 + 8 * s.num (a + 4) 4
  else if e.typ = 4 then (if bit e.flags 1 then 160 else 16)
  else if e.typ = 5 then 16
  else if e.typ = 6 ∨ e.typ = 7 then 8
  else if e.typ = 8 then 2048
  else if e.typ = 9 then (if s.num (a + 1) 1 = 0 then 8 + pad8 (4 * s.num (a + 2) 1) else 32)
  else 16

/-- The addresses of the records of a section; `none` where a record runs past LENGTH. -/
def State.recordsFrom (s : State) (e : Sect) : Nat → Nat → Option (List Nat)
  | 0, _ => some []
  | fuel + 1, a =>
    if e.base + e.len ≤ a then some []
    else if e.base + e.len < a + s.recLen e a then none
    else (s.recordsFrom e fuel (a + s.recLen e a)).map (a :: ·)

/-- The records of a section. -/
def State.records (s : State) (e : Sect) : Option (List Nat) := s.recordsFrom e (e.len / 8 + 1) e.base

/-- A BUNDLES record lies in its page (R153). -/
def State.bundlesOk (s : State) (paged : Bool) (a : Nat) : Bool :=
  let page := s.num (a + 2) 1
  let first := s.num (a + 6) 2
  let n := s.num (a + 8) 2
  let lo := if paged then 1024 * page else 0
  n == 0 || (decide (lo ≤ first) && decide (first + n ≤ (if paged then lo + 1024 else 2048)) && decide (first + n ≤ 2048))

/-- A TMECFG record is in bounds (13 R360). -/
def State.tmecfgOk (s : State) (t a : Nat) : Bool :=
  let lo := s.num a 4 * 2 ^ 21
  let hi := lo + s.num (a + 4) 4 * 2 ^ 21
  let ca := s.get CKP_AREA_BASE t * 2 ^ 31 - stackBase t
  decide (lo < hi) && decide (hi ≤ 0x900000000) && !(decide (lo < 0x880000000) && decide (0x7F0000000 < hi)) &&
    !(decide (lo < ca + 2 ^ 31) && decide (ca < hi))

/-- A PROBES record is in bounds (18 R477). -/
def State.probeOk (s : State) (a : Nat) : Bool :=
  let k := s.num (a + 2) 1
  decide (k ≤ 1) && decide (s.num (a + 3) 1 ≤ 7) && decide (s.num (a + 4) 2 ≤ (if k = 0 then 511 else 63))

/-- A HOSTMAP record is in bounds (14 R386). -/
def State.hostmapOk (s : State) (a : Nat) : Bool :=
  let dir := s.num (a + 1) 1
  let n := s.num (a + 2) 1
  decide (dir ≤ 1) && decide (1 ≤ n) && decide (n ≤ 16) && decide (s.num (a + 3) 1 ≤ 7) &&
    (if dir = 0 then (List.range n).all (fun j => decide (s.num (a + 8 + 4 * j) 2 ≤ 1023) && decide (s.num (a + 10 + 4 * j) 2 ≤ 511))
     else
       let ring := s.num (a + 16) 8
       let len := s.num (a + 24) 4
       ring % 16 == 0 && region ring == .hbm && decide (1024 ≤ len) && decide (len ≤ 2 ^ 24) && popcount 32 len == 1)

/-- One record is in bounds (R153). -/
def State.recOk (s : State) (paged : Bool) (e : Sect) (a : Nat) : Bool :=
  if e.typ = 1 then s.bundlesOk paged a
  else if e.typ = 2 then decide (1 ≤ s.num (a + 4) 2) && decide (s.num (a + 4) 2 ≤ 256) && decide (s.num (a + 2) 2 + s.num (a + 4) 2 ≤ 256)
  else if e.typ = 3 then s.num (a + 4) 4 == 0 || decide (s.num a 4 + s.num (a + 4) 4 ≤ 131072)
  else if e.typ = 4 then decide (s.num a 1 ≤ 15) &&
    (!bit e.flags 1 || (List.range 68).all (fun p => bits (s.num (a + 16 + 2 * p) 2) 9 8 != 3))
  else if e.typ = 5 then s.tmecfgOk e.tile a
  else if e.typ = 6 then s.probeOk a
  else if e.typ = 8 then (List.range 256).all (fun i => decide (s.num (a + 8 * i) 1 ≤ 19) || s.num (a + 8 * i) 1 == 0xFF)
  else if e.typ = 9 then s.hostmapOk a
  else true

/-- No value occurs twice. -/
def noRepeat (l : List Nat) : Bool := (dedupNat l).length == l.length

/-- The rules over all records of a section: each channel once (14 R386), at most 16 probes of a cell (18 R477). -/
def State.sectOk (s : State) (e : Sect) (l : List Nat) : Bool :=
  if e.typ = 9 then noRepeat (l.map (fun a => s.num a 1))
  else if e.typ = 6 then l.all (fun a => decide (l.countP (fun b => s.num b 2 == s.num a 2) ≤ 16))
  else true

/-- The TILE of a section's entry fits its type (R153). -/
def Sect.tileOk (e : Sect) : Bool := if e.typ = 9 then e.tile == 0xFF else decide (e.tile ≤ 7)

/-- The check of a section (R27, R153, R155): its records, or an ERRCODE. DESIGN CHOICE (log 176): a body outside IMAGE_LEN is seen first, then
the CRC, then TILE and the records; the rule orders them not. -/
def State.checkSect (s : State) (b : Nat) (e : Sect) : Nat ⊕ List Nat :=
  if s.hdr b 8 8 < e.off + e.len then .inl 8
  else if crc32c (s.natBytes e.base e.len) ≠ e.crc then .inl 5
  else if !e.tileOk then .inl 8
  else match s.records e with
    | none => .inl 8
    | some l => if l.all (s.recOk (bit (s.hdr b 0x1D 1) 0) e) && s.sectOk e l then .inr l else .inl 8

/-- In RUN a section may only be BUNDLES of idle pages, or PATHS (R156): pages 0 and 1 but for the one that runs; a cell in unpaged mode has no
idle page (03 R80). -/
def State.runTypeOk (s : State) (e : Sect) (l : List Nat) : Bool :=
  e.typ == 3 || (e.typ == 1 && l.all (fun a => decide (s.num (a + 2) 1 ≤ 1) && match s.pcellL e.tile (s.num a 2 % 1024) with
    | some c => s.flag CELL_IMCFG_PAGED c && s.num (a + 2) 1 != s.get CELL_IMCFG_RUNPAGE c
    | none => true))

/-! ### Records (R152) -/

/-- Write words into a storage unit of a cell, with new parity. -/
def Cell.load (x : Cell) (u a : Nat) : List Word → Cell
  | [] => x
  | w :: t => (x.wr u a w (BitVec.allOnes 64)).load u (a + 1) t

/-- A BUNDLES record: instruction memory, the declared *S* of its page, and outside RUN PAGED (R526). DESIGN CHOICE (log 174): the *S* that an
earlier image declared for a page stays where the image has no record of it. -/
def State.putBundles (s : State) (t a : Nat) (paged run : Bool) : State :=
  let l := s.num a 2 % 1024
  let page := if paged then s.num (a + 2) 1 else 0
  let s := if page ≤ 1 then { s with img := { s.img with declS := insertKey s.img.declS ((1024 * t + l) * 2 + page) (s.num (a + 4) 2) } } else s
  match s.pcellL t l with
  | some c =>
    if s.domOn (cellDomain c) then
      let s := s.setCell c ((s.cell c).load 0 (9 * s.num (a + 6) 2) (s.getWords (a + 16) (9 * s.num (a + 8) 2)))
      if run then s else s.set CELL_IMCFG_PAGED c (b2n paged)
    else s
  | none => s

/-- A FUNCTAB record. -/
def State.putFunctab (s : State) (t a : Nat) : State :=
  match s.pcellL t (s.num a 2 % 1024) with
  | some c =>
    if s.domOn (cellDomain c) then
      s.setCell c ((s.cell c).load 5 (s.num (a + 2) 2) ((List.range (s.num (a + 4) 2)).map (fun i => BitVec.ofNat 64 (s.num (a + 8 + 2 * i) 2))))
    else s
  | none => s

/-- A PATHS record. -/
def State.putPaths (s : State) (t a : Nat) : State :=
  if s.domOn (712 + t) then
    (List.range (s.num (a + 4) 4)).foldl (fun s i => s.pathWrite t (s.num a 4 + i) (s.word (a + 8 + 8 * i))) s
  else s

/-- The entries of a REMAP record with FORCE go into the shadow table. -/
def State.putShadow (s : State) (g a : Nat) : State :=
  (List.range 68).foldl (fun s p =>
    let v := s.num (a + 16 + 2 * p) 2
    (s.set CLU_REMAP_LPOS (68 * g + p) (bits v 5 0)).set CLU_REMAP_STATE (68 * g + p) (bits v 9 8)) s

/-- A REMAP record with FORCE: a commit under R86; the truth value is false where the commit is refused (R154); a remap block that is off
ignores it (13 R353). DESIGN CHOICE (log 162): the engine waits for a commit of the cluster that is still in progress. -/
def State.forceRemap (s : State) (t a : Nat) : State × Bool :=
  let g := 16 * t + s.num a 1 % 16
  if s.cluOn g then
    let s := (s.putShadow g a).lower CLU_REMAP_CTL_BUSY g
    (s.remapCommit g, (s.remapError g).isNone)
  else (s, true)

/-- The USED mask of a REMAP record (R154, R525). -/
def State.putUsed (s : State) (t a : Nat) : State :=
  { s with img := { s.img with used := sput s.img.used (16 * t + s.num a 1 % 16) (s.num (a + 8) 8) 0 } }

/-- A REMAP section: its commits, and where none was refused its USED masks, which a section that fails does not set (R154, R525). DESIGN CHOICE
(log 202): behind a refused commit the records that follow are still committed, and the commits made before it stand. -/
def State.putRemaps (s : State) (t : Nat) (force : Bool) (l : List Nat) : State × Bool :=
  let r := if force then l.foldl (fun r a => let (u, ok) := r.1.forceRemap t a; (u, r.2 && ok)) (s, true) else (s, true)
  if r.2 then (l.foldl (fun s a => s.putUsed t a) r.1, true) else r

/-- A TMECFG record, with its fill (13 R360), which waiting requests of the cells precede (13 R356). A TME that is off takes neither (13 R353). -/
def State.putTmecfg (s : State) (t a : Nat) : State :=
  if !s.domOn (704 + t) then s
  else
  let s := (s.set TME_CFG_DMBASE t (s.num a 4)).set TME_CFG_DMSIZE t (s.num (a + 4) 4)
  if bit (s.num (a + 8) 1) 0 then
    let lo := stackBase t + s.num a 4 * 2 ^ 21
    (s.serveAll t).zeroRange lo (lo + s.num (a + 4) 4 * 2 ^ 21)
  else s

/-- A PROBES section replaces the tile's list: LCELL, and KIND, GROUP and ADDR as in the record. -/
def State.putProbes (s : State) (t : Nat) (l : List Nat) : State :=
  s.setTile t { s.tile t with probes := l.map (fun a => (s.num a 2, s.num (a + 2) 4)) }

/-- A SERVICE record: CORE, with DIST above bit 16 and DEPTH above bit 32, per channel; the cores that it names serve channels (19 R527). -/
def State.putService (s : State) (t a : Nat) : State :=
  (List.range 256).foldl (fun s i =>
    let n := s.num (a + 8 * i) 1
    let v := n + s.num (a + 8 * i + 2) 2 * 2 ^ 16 + s.num (a + 8 * i + 4) 2 * 2 ^ 32
    { s with img := { s.img with service := sput s.img.service (256 * t + i) v 0xFF,
                                 servers := if n < 20 ∧ !s.img.servers.contains n then n :: s.img.servers else s.img.servers } }) s

/-- A HOSTMAP record read from memory. -/
def State.hostRec (s : State) (a : Nat) : HostMapRec :=
  let n := s.num (a + 2) 1
  if s.num (a + 1) 1 = 0 then
    ⟨0, n, s.num (a + 3) 1, s.num (a + 4) 4, (List.range n).map (fun j => (s.num (a + 8 + 4 * j) 2, s.num (a + 10 + 4 * j) 2)), 0, 0, 0⟩
  else ⟨1, n, s.num (a + 3) 1, s.num (a + 4) 4, [], s.num (a + 8) 8, s.num (a + 16) 8, s.num (a + 24) 4⟩

/-- The ring of an OUT record stays where the map in force names the same ring (14 R394). -/
def State.sameRing (s : State) (n : Nat) (r : HostMapRec) : Bool :=
  match lookup s.img.hostmap n with
  | some q => q.dir == 1 && q.ringBase == r.ringBase && q.ringLen == r.ringLen
  | none => false

/-- Start with an empty ring. -/
def State.emptyRing (s : State) (n : Nat) : State := s.setChan n { s.chan n with wr := 0, rel := 0, rd := 0, armed := true }

/-- A HOSTMAP section replaces the map; rings it does not carry over start empty (14 R394). -/
def State.putHostmap (s : State) (l : List Nat) : State :=
  let recs := l.map (fun a => (s.num a 1, s.hostRec a))
  let fresh := recs.filter (fun p => p.2.dir == 1 && !s.sameRing p.1 p.2)
  let s := fresh.foldl (fun s p => s.emptyRing p.1) s
  { s with img := { s.img with hostmap := recs.foldl (fun m p => insertKey m p.1 p.2) [] } }

/-- A CKPBANKS record. -/
def State.putBanks (s : State) (t a : Nat) : State :=
  { s with img := { s.img with ckpbanks := sput s.img.ckpbanks (1024 * t + s.num a 2 % 1024) (s.num (a + 2) 1 % 16) 15 } }

/-- A CARRY record: response tags in bits [63:0], answer slots above. -/
def State.putCarry (s : State) (t a : Nat) : State :=
  { s with img := { s.img with carry := sput s.img.carry (1024 * t + s.num a 2 % 1024) (s.num (a + 8) 8 + s.num (a + 4) 2 * 2 ^ 64) 0 } }

/-- Apply the records of a section that passed; false where a remap commit is refused (R154; log 202). -/
def State.applySect (s : State) (paged run : Bool) (e : Sect) (l : List Nat) : State × Bool :=
  let each := fun (f : State → Nat → State) => (l.foldl f s, true)
  if e.typ = 1 then each (fun s a => s.putBundles e.tile a paged run)
  else if e.typ = 2 then each (fun s a => s.putFunctab e.tile a)
  else if e.typ = 3 then each (fun s a => s.putPaths e.tile a)
  else if e.typ = 4 then s.putRemaps e.tile (bit e.flags 1) l
  else if e.typ = 5 then each (fun s a => s.putTmecfg e.tile a)
  else if e.typ = 6 then (s.putProbes e.tile l, true)
  else if e.typ = 7 then each (fun s a => s.putBanks e.tile a)
  else if e.typ = 8 then each (fun s a => s.putService e.tile a)
  else if e.typ = 9 then (s.putHostmap l, true)
  else each (fun s a => s.putCarry e.tile a)

/-! ### APPLY (R155-R157, R525) -/

/-- A failure during an apply: ERRCODE and table index of the first; sections applied. -/
structure Apply where
  err : Option (Nat × Nat)
  applied : Nat
  deriving DecidableEq, Repr

/-- Take the sections in table order: a section that fails its check is left out (R27). DESIGN CHOICE (log 157): an unknown TYPE is skipped
(R155) whatever its TILE, though R153 puts a TILE of 8 to 0xFE out of bounds 'for every type'. -/
def State.takeSects (s : State) (b : Nat) (paged run : Bool) : List (Nat × Sect) → Apply → State × Apply
  | [], r => (s, r)
  | (i, e) :: t, r =>
    if !e.known then s.takeSects b paged run t r
    else match s.checkSect b e with
      | .inl c => s.takeSects b paged run t { r with err := r.err.or (some (c, i)) }
      | .inr l =>
        let (u, ok) := s.applySect paged run e l
        if ok then u.takeSects b paged run t { r with applied := r.applied + 1 }
        else u.takeSects b paged run t { r with err := r.err.or (some (9, i)) }

/-- The first section that an apply in RUN refuses (R156): every section is checked before any is applied. DESIGN CHOICE (log 159): an
unknown TYPE without REQUIRED is skipped in RUN also (R155). -/
def State.runSects (s : State) (b : Nat) : List (Nat × Sect) → Option (Nat × Nat)
  | [] => none
  | (i, e) :: t =>
    if !e.known then s.runSects b t
    else if e.typ ≠ 1 ∧ e.typ ≠ 3 then some (7, i)
    else match s.checkSect b e with
      | .inl c => some (c, i)
      | .inr l => if s.runTypeOk e l then s.runSects b t else some (7, i)

/-- The tile has a section of a type in the image. -/
def holdsSect (l : List (Nat × Sect)) (typ t : Nat) : Bool := l.any (fun p => p.2.typ == typ && p.2.tile == t)

/-- The per-tile records of a type return to their defaults where the image holds a section of it (R525). -/
def State.resetRecords (s : State) (l : List (Nat × Sect)) : State :=
  { s with img := { s.img with
      used := s.img.used.filter (fun p => !holdsSect l 4 (p.1 / 16)),
      ckpbanks := s.img.ckpbanks.filter (fun p => !holdsSect l 7 (p.1 / 1024)),
      carry := s.img.carry.filter (fun p => !holdsSect l 10 (p.1 / 1024)) } }

/-- What the header of an image that is applied sets (R155, R168, 08 R221), in the blocks that are on (13 R353). -/
def State.putHdr (s : State) (b : Nat) : State :=
  let on := (List.range 9).filter (fun i => s.domOn (if i = 8 then 760 else 712 + i))
  let s := on.foldl (fun s i => (s.set FAB_RSV_PERIOD i (s.hdr b 0x2C 1)).set FAB_RSV_PHASE i (s.hdr b 0x2D 1)) s
  s.set CKP_POL_N 0 (s.hdr b 0x24 4)

/-- The header of the last image applied, which no SERVICE section has named a core of yet (19 R527). DESIGN CHOICE (log 180): PMIN and FCLK12
of R137 are those of the last image that was applied, a partial one too. -/
def State.keepHdr (s : State) (b : Nat) : State :=
  { s with img := { s.img with servers := [], placement := s.hdr b 0x10 8, module := s.hdr b 0x18 2, modules := s.hdr b 0x1A 2, smax := s.hdr b 0x1E 2,
                               pmin := s.hdr b 0x20 4, fclk12 := bit (s.hdr b 0x1D 1) 2, loaded := true } }

/-- An unknown TYPE with REQUIRED set (R155). -/
def requiredUnknown (l : List (Nat × Sect)) : Option (Nat × Nat) :=
  (l.find? (fun p => !p.2.known && bit p.2.flags 0)).map (fun p => (6, p.1))

/-- The sections of an image whose header passed, in RUN. -/
def State.applyRun (s : State) (b : Nat) (l : List (Nat × Sect)) : State × Apply :=
  match (requiredUnknown l).or (s.runSects b l) with
  | some e => (s, ⟨some e, 0⟩)
  | none => s.keepHdr b |>.takeSects b true true l ⟨none, 0⟩

/-- The sections of an image whose header passed, outside RUN. DESIGN CHOICE (log 156): what the header sets is written before an unknown
REQUIRED type fails the image. -/
def State.applyQuiet (s : State) (b : Nat) (l : List (Nat × Sect)) : State × Apply :=
  let s := s.putHdr b
  match requiredUnknown l with
  | some e => (s, ⟨some e, 0⟩)
  | none => ((s.keepHdr b).resetRecords l).takeSects b (bit (s.hdr b 0x1D 1) 0) false l ⟨none, 0⟩

/-- The work of the engine on the image at `MGT_IMG_ADDR`. -/
def State.runEngine (s : State) : State × Apply :=
  let b := s.get MGT_IMG_ADDR_ADDR * 8
  match s.hdrError b with
  | some c => (s, ⟨some (c, 0), 0⟩)
  | none =>
    let l := (List.range (s.hdr b 0x28 4)).zip (s.sects b)
    if s.mode = .run then
      match s.runError b with
      | some c => (s, ⟨some (c, 0), 0⟩)
      | none => s.applyRun b l
    else s.applyQuiet b l

/-- What an apply reports when it ends: `MGT_IMG_CTL`, a refusal where it failed (15 R407), and R27's bar on RUN, which an
image with every section passing lifts. -/
def State.applyEnd (s : State) (err : Option (Nat × Nat)) (applied : Nat) : State :=
  let s := ((s.lower MGT_IMG_CTL_BUSY).raise MGT_IMG_CTL_DONE).set MGT_IMG_CTL_APPLIED 0 applied
  let s := { s with img := { s.img with applying := none } }
  match err with
  | none =>
    let s := (s.set MGT_IMG_CTL_ERRCODE 0 0).set MGT_IMG_CTL_FAILSECT 0 0
    { s with img := { s.img with failedSection := false } }.hubLevels
  | some (c, i) =>
    let s := (((s.raise MGT_IMG_CTL_ERR).set MGT_IMG_CTL_ERRCODE 0 c).set MGT_IMG_CTL_FAILSECT 0 i)
    let s := if c = 4 then s.refuse 1 s.modeCode
      else if c ≤ 3 ∨ c = 6 then s.refuse 0xB c
      else s.refuse 7 i
    s.hubLevels

/-- The result of an apply, until APPLY_COMPLETE reports it: ERRCODE, FAILSECT, sections applied. -/
def packApply (r : Apply) : Nat := (r.err.getD (0, 0)).1 + (r.err.getD (0, 0)).2 * 2 ^ 8 + r.applied * 2 ^ 20

/-- A section that fails bars RUN from its check on, until an image applies whole (01 R27). -/
def State.barRun (s : State) (r : Apply) : State :=
  let failed := match r.err with
    | some (c, _) => c = 5 || decide (7 ≤ c)
    | none => false
  { s with img := { s.img with failedSection := s.img.failedSection || failed } }

/-- The engine starts: its writes are made now, and it is busy until APPLY_COMPLETE. -/
def State.startApply (s : State) : State :=
  let (u, r) := s.runEngine
  let u := u.barRun r
  { u with img := { u.img with applying := some (packApply r) } }.raise MGT_IMG_CTL_BUSY

/-- The bytes that the engine reads of the image at b: its header where that fails, else up to the end of its last section. -/
def State.imageLen (s : State) (b : Nat) : Nat :=
  if (s.hdrError b).isSome then 64 else (s.sects b).foldl (fun m e => max m (e.off + e.len)) 64

/-- An apply starts; one whose image lies on a flash device that is busy waits for the device (13 R375). The lines that the engine reads
report `err` and `more` (13 R365, R370); DESIGN CHOICE (log 213): a parity error of an LSRAM is a header failure. -/
def State.engageApply (s : State) (err : HbmRead) (more : LineErrs) : State :=
  let b := s.get MGT_IMG_ADDR_ADDR * 8
  if s.flashWaits b then s.raise MGT_IMG_CTL_BUSY
  else
    let (u, e) := s.readErrs b (s.imageLen b) err more
    if e.isSome then { u with img := { u.img with applying := some (packApply ⟨some (1, 0), 0⟩) } }.raise MGT_IMG_CTL_BUSY else u.startApply

/-- A write of APPLY by an agent (R155-R157, 01 R25, R26). -/
def State.applyWrite (s : State) (a : Agent) (err : HbmRead := .ok) (more : LineErrs := []) : State :=
  if !s.owns a then s.loadForeign
  else if s.flag MGT_IMG_CTL_BUSY then s
  else if s.mode = .ready ∨ s.mode = .hold ∨ s.mode = .run then s.engageApply err more
  else s.applyEnd (some (4, 0)) 0

/-- APPLY. -/
def execApply (a : Agent) (s : State) (err : HbmRead := .ok) (more : LineErrs := []) : Host.Outcome State Fault Refusal :=
  if s.domOn 763 then .next (s.applyWrite a err more) else .next s

/-- An apply that waited for its flash device starts. DESIGN CHOICE (log 201): on the image at `MGT_IMG_ADDR` as it stands then. -/
def State.resumeApply (s : State) : State := if s.flag MGT_IMG_CTL_BUSY && s.img.applying.isNone then s.startApply else s

/-- The apply in progress reports its result. -/
def State.applyDone (s : State) : State :=
  match s.img.applying with
  | some r => s.applyEnd (if r % 256 = 0 then none else some (r % 256, r / 256 % 4096)) (r / 2 ^ 20)
  | none => s

/-- APPLY_COMPLETE. -/
def execApplyComplete (s : State) : Host.Outcome State Fault Refusal := .next s.applyDone

end Sys2Proof.Machine
end

