-- ==== Sys2Proof/Machine/Power.lean ====
section
/-! DEFINITION. Clocks and power domains (17): clock losses, the domain tree and its commands, domain faults, what a block loses
with its power, the sensors and the thermal trip. -/

namespace Sys2Proof.Machine

/-! ### Cores (09 R257, 11 R321, 12 R339) -/

/-- A Capo core. -/
def State.core (s : State) (n : Nat) : CoreSt := sget s.cores n CoreSt.reset
/-- Replace a core. -/
def State.setCore (s : State) (n : Nat) (x : CoreSt) : State := { s with cores := sput s.cores n x CoreSt.reset }

/-- Global LEC source of core n, the sources of hub cores and of the tiles' first cores given (12 R330, R331). -/
def coreSource (n hub tile : Nat) : Nat :=
  if n < 4 then 4096 + hub + n else 512 * ((n - 4) / 2) + tile + (n - 4) % 2

/-- The core-fault source of core n: a level while the core is stopped under R279. -/
def State.coreFaultLevel (s : State) (n : Nat) : State := s.lecSample (coreSource n 0x100 0x1F9) (s.core n).stopped

/-- The service-request source of core n: a level while PROD differs from CONS (09 R283). -/
def State.serviceLevel (s : State) (n : Nat) : State :=
  s.lecSample (coreSource n 0x104 0x1FB) (s.get CPO_SVC_RQ_PROD n != s.get CPO_SVC_RQ_CONS n)

/-- The ready bit of core n (16 R449): domain on, not held in reset, not stopped. -/
def State.coreReady (s : State) (n : Nat) : State :=
  s.setReady (5 * 1024 + n) (s.domOn (720 + n) && !(s.core n).held && !(s.core n).stopped)

/-- LEC8 source 0x120 follows `TRC_DBGEV`. -/
def State.debugLevel (s : State) : State := s.lecSample (4096 + 0x120) (s.get TRC_DBGEV_HALTEV != 0)

/-- The core halts: HALTED, CAUSE, its bit of `TRC_DBGEV`, and its registers in `TRC_CR` (18 R486, R487). HALT clears; a write of it in the
same cycle stands, unless it is the request that the core obeys (00 R13). -/
def State.haltCore (s : State) (n cause : Nat) : State :=
  let x := s.core n
  let s := if x.haltReq then s.set TRC_CDBG_HALT n 0 else s.lower TRC_CDBG_HALT n
  let s := s.setCore n { x with halted := true, stepping := false, haltReq := false, first := none }
  let s := (s.raise TRC_CDBG_HALTED n).set TRC_CDBG_CAUSE n cause
  let regs := [x.a.toNat, x.x.toNat, x.y.toNat, x.dp.toNat, x.sp.toNat, x.pc, x.st]
  let s := (List.range 7).foldl (fun s j => s.set TRC_CR_VALUE (7 * n + j) (regs.getD j 0)) s
  (s.setBits TRC_DBGEV_HALTEV 0 (2 ^ n)).debugLevel

/-- The core stands at a group boundary: a debug halt that waits takes place. A frozen pipeline has no boundary (18 R486). -/
def State.boundaryHalt (s : State) (n : Nat) : State :=
  let x := s.core n
  if x.delay ≠ 0 || x.syncing.isSome || x.halted || x.stopped then s
  else if x.stepping then s.haltCore n 2
  else if x.haltReq then s.haltCore n 0
  else s

/-- A TLBSYNC of core n completes (11 R325). -/
def State.endSync (s : State) (n : Nat) : State :=
  if (s.core n).syncing.isSome then (s.setCore n { s.core n with syncing := none }).boundaryHalt n else s

/-- Core n has acknowledged broadcast `id` of core `src`; a TLBSYNC that waits completes with the last one (11 R325). -/
def State.ackInval (s : State) (src id n : Nat) : State :=
  let c := s.core src
  let bs := (c.bcasts.map (fun b : Bcast => if b.id = id then { b with silent := b.silent.filter (· != n) } else b)).filter
    (fun b => !b.silent.isEmpty)
  let s := s.setCore src { c with bcasts := bs }
  let s := (s.set MMU_SYNC_OUTST src (bs.length - 1)).set MMU_SYNC_PENDING src (b2n !bs.isEmpty)
  if bs.isEmpty then s.endSync src else s

/-- The hub acknowledges for a core whose TLBs are empty (11 R324). -/
def State.ackAll (s : State) (n : Nat) : State :=
  (s.core n).invq.foldl (fun s q => s.ackInval q.src q.id n) s

/-- CVU n takes a power state: 0 Active, 1 Retention, 2 Off. A change between off and on is a change of its domain (17 R468). -/
def State.cvuState (s : State) (n v : Nat) : State :=
  let d := 740 + n
  let t := s.set CVU_STAT_PSTATE n v
  if v = 2 then (if sget t.dom d 0 = 2 then (t.setDom d 0).domainChanged d else t.setDom d 0)
  else if sget t.dom d 0 = 2 then t else t.domainUp d

/-- The CVU goes Off: its registers are lost (10 R298). -/
def State.cvuOff (s : State) (n : Nat) : State :=
  let s := s.setCore n { s.core n with vregs := [], vbad := [], vlate := [] }
  (s.lower CVU_STAT_WAKING n).cvuState n 2

/-- A core that is reset is not halted, and its `TRC_CR` reads 0 (18 R487). A HALT that waits goes on to wait: it clears only on halting. -/
def State.endDebug (s : State) (n : Nat) : State :=
  (List.range 7).foldl (fun s j => s.set TRC_CR_VALUE (7 * n + j) 0) (s.lower TRC_CDBG_HALTED n)

/-- A core reset (09 R257, 10 R298, 11 R321): registers, TLBs, caches and its control registers; the CVU goes Off; loading
that it owned is released (01 R26). The core is held in reset until it is released. `CPO_RSTPC` stays. -/
def State.coreReset (s : State) (n : Nat) : State :=
  let pc := s.get CPO_RSTPC_PC n
  let s := (s.ackAll n).cvuOff n
  let s := s.clearRegs CPO_ID_CORE.id (CVU_WAKES_OFFW.id + 32) (· == n)
  let s := s.clearRegs CPO_SVC_MARGIN_MIN.id (CPO_SVC_MARGIN_MIN.id + 64) (fun i => i / 2048 == n)
  let s := s.set CPO_RSTPC_PC n pc
  let s := s.setCore n { CoreSt.fresh (2 * pc) with held := true, bcastNo := (s.core n).bcastNo, haltReq := s.flag TRC_CDBG_HALT n }
  let s := { s with owner := if s.owner = n + 1 then 0 else s.owner }
  ((((s.endDebug n).coreFaultLevel n).serviceLevel n)).coreReady n

/-- Release core n from reset (16 R439): it starts at `CPO_RSTPC`, halted from debug while RSTHALT is 1 (18 R486). A core that runs goes on. -/
def State.coreRelease (s : State) (n : Nat) : State :=
  let x := s.core n
  let s := (s.setCore n { x with held := false, pc := if x.held then 2 * s.get CPO_RSTPC_PC n % 2 ^ 48 else x.pc }).coreReady n
  if s.flag TRC_CDBG_RSTHALT n && s.domOn 765 then s.haltCore n 3 else s

/-! ### The domain tree (R462, R463) -/

/-- The parent of a domain. -/
def parent (d : Nat) : Option Nat :=
  if d < 128 then some (712 + d / 16)
  else if d < 640 then some (712 + (d - 128) / 64)
  else if d < 704 then some (712 + (d - 640) / 8)
  else if d < 712 then some (d + 8)
  else if d < 724 then some 760
  else if d < 740 then some (712 + (d - 724) / 2)
  else if d < 760 then some (d - 20)
  else if d = 760 then none
  else some 760

/-- Domain d lies below domain e. -/
def below (d e : Nat) : Bool :=
  match parent d with
  | none => false
  | some p => p == e || (match parent p with
    | none => false
    | some q => q == e || parent q == some e)

/-- A plan domain (R464): clusters, link quads, TMEs, tile fabrics, C1-C19, PCIe and trace. -/
def planDomain (d : Nat) : Bool :=
  d < 128 || (640 ≤ d && d < 740 && d != 720) || d == 762 || d == 765

/-- The functions of 16 R449 that a domain holds itself. -/
def domainFns (d : Nat) : List Nat :=
  if d < 128 then [1024 + d]
  else if 640 ≤ d ∧ d < 704 then (List.range 8).map (fun k => 2048 + 8 * (d - 640) + k)
  else if 704 ≤ d ∧ d < 712 then [3 * 1024 + (d - 704), 4 * 1024 + (d - 704)]
  else if 712 ≤ d ∧ d < 720 then [d - 712]
  else if 720 ≤ d ∧ d < 740 then [5 * 1024 + (d - 720)]
  else if d = 761 then [6 * 1024 + 3]
  else if d = 762 then [6 * 1024]
  else if d = 763 then [6 * 1024 + 1, 6 * 1024 + 2]
  else if d = 764 then [6 * 1024 + 4]
  else if d = 765 then [6 * 1024 + 5]
  else []

/-- The domains that go off with d, the leaves first. -/
def withChildren (d : Nat) : List Nat := ((List.range 766).filter (fun x => below x d)) ++ [d]

/-- The placement uses a function that domain d or a domain below it holds (16 R451). -/
def State.domainUsed (s : State) (d : Nat) : Bool := (withChildren d).any (fun x => (domainFns x).any s.used)

/-! ### What a block loses with its power (R466) -/

/-- The lanes of a link quad go to OFF and lose their registers; `LNK_MARGIN` and `LNK_RXCFG` are the tile fabric's (07 R218), and the bar of
a lane that left UP in RUN stays (07 R216). -/
def State.loseQuad (s : State) (q : Nat) : State :=
  let s := (List.range 8).foldl (fun s k => s.leaveIfUp (8 * q + k)) s
  let s := s.clearRegs LNK_CTL_EN.id LNK_MARGIN_MIN.id (fun i => i / 8 == q)
  let s := s.clearRegs LNK_EXP_SERLO.id (LNK_URXCTL_SEL.id + 64) (fun i => i / 8 == q)
  (List.range 8).foldl (fun s k =>
    ((s.setLane (8 * q + k) { LaneSt.off with barred := (s.lane (8 * q + k)).barred, rxCount := (s.lane (8 * q + k)).rxCount,
                                                      outN := (s.lane (8 * q + k)).outN, outStroke := (s.lane (8 * q + k)).outStroke }).setReady (2048 + 8 * q + k) false).laneLevels (8 * q + k)) s

/-- A TME loses its settings, its queue and the logs it keeps, and the stack its contents: nothing has written its bytes then (log 9). -/
def State.loseTme (s : State) (t : Nat) : State :=
  let s := s.clearRegs TME_CFG_DMBASE.id (TME_MARGIN_MIN.id + 64) (· == t)
  let x := s.tile t
  let z := TileSt.zero
  let s := s.zeroRange (stackBase t) (stackBase (t + 1))
  let s := s.setTile t { z with pt := x.pt, ptBad := x.ptBad, ptOld := x.ptOld, xspare := x.xspare, uDelivered := x.uDelivered,
                                trigQ := x.trigQ, probes := x.probes }
  (s.stackReady t).tmeLevel t

/-- A tile fabric loses its path table, its maps, its registers and every flit in it. -/
def State.loseFabric (s : State) (t : Nat) : State :=
  let s := s.clearRegs FAB_CTL_COMMIT.id (FAB_XSPARE_BRO_L0.id + 64) (· == t)
  let s := s.clearRegs LEC_SENSE_SENSE.id LEC_LINE_LINES.id (fun i => i / 512 == t)
  let s := s.clearRegs LEC_LINE_LINES.id (LEC_SWEV_EVENT.id + 64) (· == t)
  let s := s.clearRegs LNK_REMAP_PHYS.id LNK_REMAP_CTL_COMMIT.id (fun i => i / 64 == t)
  let s := s.clearRegs LNK_MARGIN_MIN.id LNK_EXP_SERLO.id (fun i => i / 64 == t)
  let s := s.clearRegs LNK_REMAP_CTL_COMMIT.id CLU_REMAP_LPOS.id (· == t)
  let s := s.clearRegs CLU_REMAP_LPOS.id CLU_REMAP_CTL_COMMIT.id (fun i => i / 1088 == t)
  let s := s.clearRegs CLU_REMAP_CTL_COMMIT.id TME_CFG_DMBASE.id (fun i => i / 16 == t)
  let s := s.clearRegs TRC_PCTL_GEN.id (TRC_HALTS_LCELL.id + 64) (· == t)
  let x := s.tile t
  let s := s.setTile t { x with pt := [], ptBad := [], ptOld := [], xspare := 0, uDelivered := [], trigQ := [], probes := [] }
  let s : State := { s with
    liveRemap := s.liveRemap.filter (fun p => p.1 / 1088 != t), liveLanes := s.liveLanes.filter (fun p => p.1 / 64 != t),
    lecFresh := s.lecFresh.filter (fun p => p.1 / 512 != t), trigs := s.trigs.filter (fun p => p.1 != t),
    sends := s.sends.filter (fun f => f.tile != t), flits := s.flits.filter (fun f => f.tile != t), pads := s.pads.filter (fun p => p.lane / 64 != t),
    uflits := (s.uflits.filter (fun f => uDie f.place != t)).map (fun f => if (f.prev.map uDie) == some t then { f with prev := none } else f),
    landings := s.landings.filter (fun l => !(decide (64 ≤ l.slot) && l.cell / 1088 == t)),
    hostVals := s.hostVals.filter (fun h => !(h.tile == t && h.sent && !h.written)) }
  (s.setReady t false).gecSyncLec t

/-- Core n loses power. -/
def State.loseCore (s : State) (n : Nat) : State :=
  let s := s.coreReset n
  (s.lower CPO_RSTPC_PC n).clearRegs CPO_ID_CORE.id (CVU_WAKES_OFFW.id + 32) (· == n)

/-- The GEC and LEC8 lose their registers. -/
def State.loseGec (s : State) : State :=
  let s := s.clearRegs GEC_IN_PRIO.id (GEC_STAT_ORPHAN.id + 64) (fun _ => true)
  let s := s.clearRegs LEC_SENSE_SENSE.id LEC_LINE_LINES.id (fun i => i / 512 == 8)
  let s := s.clearRegs LEC_LINE_LINES.id (LEC_SWEV_EVENT.id + 64) (· == 8)
  ({ s with lecFresh := s.lecFresh.filter (fun p => p.1 / 512 != 8), events := EventPath.zero }).setReady (6 * 1024 + 4) false

/-- The trace block loses its registers, and with them its hold on halted cores: they run on from their own registers. DESIGN CHOICE (log 189):
no rule says what a halted core does without the block. -/
def State.loseTrace (s : State) : State :=
  let s := s.clearRegs TRC_CTL_EN.id (TRC_CR_VALUE.id + 64) (fun _ => true)
  let s := (List.range 20).foldl (fun s n => s.setCore n { s.core n with halted := false, stepping := false, haltReq := false }) s
  ({ s with trace := TraceSt.zero }).trcLevel.debugLevel.setReady (6 * 1024 + 5) false

/-- The PCIe endpoint loses its registers; rings and admitted values stay, as over a reset of the endpoint. -/
def State.losePci (s : State) : State :=
  let s := s.flr.clearRegs PCI_CTL_FVEC.id (PCI_CHCNT_REFCNT.id + 32) (fun _ => true)
  ({ s with pci := PciSt.zero }).pciLevel.setReady (6 * 1024) false

/-- The CAN and management block loses its registers but those of the fault log and the flash controller, the dictionary's values, transports
and claim, and the image engine. -/
def State.loseMgt (s : State) : State :=
  let s := s.clearRegs MGT_STAT_LOADFOREIGN.id MGT_FLT_STAT_STORED.id (fun _ => true)
  let s := s.clearRegs MGT_FLT_SW_DETAIL.id MGT_FLCTL_WINSEL.id (fun _ => true)
  let s := { s with
    ents := [], owner := 0, claimAt := 0, refReason := 0, refCount := 0, backup := [], xports := [], persist := none,
    claim := { ClaimSt.zero with fresh := s.claim.fresh }, ldicts := [], img := ImgSt.zero }
  let s := ((s.lecSample (4096 + 0x117) false).lecSample (4096 + 0x118) false).hubLevels
  (s.setReady (6 * 1024 + 1) false).setReady (6 * 1024 + 2) false

/-- `PWR_THERM.EMG` and `PWR_SUPPLY.EMG` read 1 while an emergency exists (17 R472). -/
def State.emergencyFlags (s : State) : State :=
  (s.set PWR_THERM_EMG 0 (b2n (bit s.pins.emerg 16))).set PWR_SUPPLY_EMG 0 (s.pins.emerg % 2 ^ 15)

/-- The hub interconnect loses its registers but the clock generation's and the profile's, the hub switch, and the admitted values. -/
def State.loseHub (s : State) : State :=
  let s := s.clearRegs CLK_STROKE_NO_STROKE_NO.id CLK_GEN_CTL_REFFLT.id (fun _ => true)
  let s := s.clearRegs CKP_CTL_HOLDOFF.id MGT_STAT_LOADFOREIGN.id (fun _ => true)
  let s := s.clearRegs FAB_CTL_COMMIT.id (FAB_XSPARE_BRO_L0.id + 64) (· == 8)
  let s := s.clearRegs PWR_CMD_DOMAIN.id (PWR_PMBDATA_DATA.id + 64) (fun _ => true)
  { s.setTile 8 TileSt.zero with
    stroke := StrokeSt.zero, beacon := BeaconSt.zero, ckp := CkpSt.zero, hostVals := [], flits := [],
    uflits := s.uflits.filter (fun f => uDie f.place != 8), pins := { s.pins with switching := none } }.emergencyFlags

/-- Exchange the two halves of the flash window. -/
def swapFlash (l : List Host.Cell) : List Host.Cell :=
  let low := l.filter (fun p => decide (p.1 < 0x3F0000000000))
  let a := l.filter (fun p => decide (0x3F0000000000 ≤ p.1) && decide (p.1 < 0x3F0010000000))
  let b := l.filter (fun p => decide (0x3F0010000000 ≤ p.1) && decide (p.1 < 0x3F0020000000))
  let high := l.filter (fun p => decide (0x3F0020000000 ≤ p.1))
  low ++ b.map (fun p => (p.1 - 0x10000000, p.2)) ++ a.map (fun p => (p.1 + 0x10000000, p.2)) ++ high

/-- WINSEL takes a value: the devices change places in the window when it changes (13 R372). -/
def State.flashSelect (s : State) (w : Nat) : State :=
  if s.get MGT_FLCTL_WINSEL = w then s else { s with mem := swapFlash s.mem }.set MGT_FLCTL_WINSEL 0 w

/-- The test access port where a read of MEMACC that waits for a flash device is dropped: it is over, with data 0 (13 R353; log 194). -/
def State.dropMacc (s : State) : TapSt := if s.flash.macc.isSome then { s.tap with macc := 1 } else s.tap

/-- The flash controller goes off: reads that wait for a device read 0 (13 R353), and the command is forgotten. -/
def State.dropReads (s : State) : State :=
  let s := s.flash.bar.foldl (fun s _ => s.emit (.data 0 false)) s
  { s with flash := FlashSt.zero, tap := s.dropMacc }

/-- The flash controller loses its registers; WPN goes on to show the pin (20 R508). -/
def State.loseFlash (s : State) : State :=
  let wp := s.get MGT_FLCTL_WPN
  let s := ((s.flashSelect 0).dropReads).clearRegs MGT_FLCTL_WINSEL.id (MGT_FLBUF_ADDR.id + 61) (fun _ => true)
  (s.set MGT_FLCTL_WPN 0 wp).setReady (6 * 1024 + 3) false

/-- The contents of domain d are lost. The hub interconnect's LSRAMs keep theirs (13 R370). -/
def State.loseDomain (s : State) (d : Nat) : State :=
  if d < 128 then (((List.range 64).foldl (fun s p => s.loseCell (68 * d + p)) s).cellLevel d).setReady (1024 + d) false
  else if d < 640 then
    let g := (d - 128) / 4
    let i := (d - 128) % 4
    let s := s.set CLU_SPARE_PON g (putBit (s.get CLU_SPARE_PON g) i false)
    (s.set CLU_SPARE_PGOOD g (putBit (s.get CLU_SPARE_PGOOD g) i false)).loseCell (68 * g + 64 + i) |>.cellLevel g
  else if d < 704 then s.loseQuad (d - 640)
  else if d < 712 then s.loseTme (d - 704)
  else if d < 720 then s.loseFabric (d - 712)
  else if d < 740 then s.loseCore (d - 720)
  else if d < 760 then s.cvuOff (d - 740)
  else if d = 761 then s.loseFlash
  else if d = 762 then s.losePci
  else if d = 760 then s.loseHub
  else if d = 763 then s.loseMgt
  else if d = 764 then s.loseGec
  else if d = 765 then s.loseTrace
  else s

/-! ### Switching (R464-R468) -/

/-- The sources of LEC8 that flags drive. -/
def State.flagSources (s : State) : List Nat :=
  s.listed PCI_CHSTAT_REFUSED ++ s.listed PCI_CHSTAT_OUTHOLD ++ s.listed PCI_CHSTAT_CQWAIT ++ (List.range 8).map (0x100 + ·) ++
    (List.range 0x17).map (0x10C + ·)

/-- The sources of LEC8 have no reference yet: its next sample of each is the first (12 R332, R351). -/
def State.freshLec8 (s : State) : State :=
  { s with lecFresh := s.flagSources.foldl (fun l k => sput l (4096 + k) true false) s.lecFresh }

/-- A domain reads on: its blocks are reset and zero-filled, except the stack, whose zero fill follows (R466, 13 R357). -/
def State.powerUp (s : State) (d : Nat) : State :=
  let s := if 640 ≤ d ∧ d < 720 then s.loseDomain d else s
  let s := s.setDom d 2
  let s :=
    if d < 128 then (((List.range 64).foldl (fun s p => (s.loseCell (68 * d + p)).noteMoved (68 * d + p)) s).cellLevel d).setReady (1024 + d) true
    else if d < 640 then s.set CLU_SPARE_PGOOD ((d - 128) / 4) (putBit (s.get CLU_SPARE_PGOOD ((d - 128) / 4)) ((d - 128) % 4) true)
    else if d < 704 then s
    else if d < 712 then (s.setTile (d - 704) { s.tile (d - 704) with zeroing := true }).stackReady (d - 704)
    else if d < 720 then (s.setReady (d - 712) true).gecSyncLec (d - 712)
    else if d < 740 then s.coreReset (d - 720)
    else if d = 760 then s.zeroRange (lsramBase 0) (lsramBase 20)
    else if d = 762 then { s with pci := { s.pci with barSize := min s.boot.bar2 6 } }
    else if d = 763 then { s with claim := { s.claim with fresh := true } }
    else if d = 764 then ((List.range 9).foldl (fun s e => s.gecSyncLec e) (s.setReady (6 * 1024 + 4) true)).freshLec8
    else if d = 765 then s.setReady (6 * 1024 + 5) true
    else s
  s.domainUp d

/-- A switch-off starts: isolation, and the contents are lost. -/
def State.powerDown (s : State) (d : Nat) : State := (s.loseDomain d).goOff d

/-- The ERR of a refused or failed power command. -/
def State.powerErr (s : State) (code : Nat) : State := (s.raise PWR_STAT_ERR).set PWR_STAT_ERRCODE 0 code

/-- BUSY ends with the switch of the domain that the command named when it was accepted. -/
def State.powerDone (s : State) (d : Nat) : State :=
  if s.pins.switching = some d then
    { s.lower PWR_STAT_BUSY with pins := { s.pins with switching := none, ended := some (d, s.tb / 4) } }
  else s

/-- The mode allows `PWR_CMD` (R465 check 1). -/
def State.powerMode (s : State) : Bool :=
  match s.mode with
  | .bringUp => decide (6 ≤ s.boot.step)
  | .ready | .hold | .service => true
  | _ => false

/-- A parent is on. -/
def State.parentOn (s : State) (d : Nat) : Bool :=
  match parent d with
  | none => true
  | some p => s.domOn p

/-- A write of GO by an agent (R465). -/
def State.powerGo (s : State) (a : Agent) : State :=
  let d := s.get PWR_CMD_DOMAIN
  let on := s.flag PWR_CMD_ON
  let own := match a with
    | .core n => d == 720 + n.val
    | _ => false
  if s.flag PWR_STAT_BUSY then s.raise PWR_STAT_ERR
  else if !s.powerMode then s.powerErr 1
  else if !planDomain d || own then s.powerErr 2
  else if on && !s.parentOn d then s.powerErr 3
  else if on && s.pins.failed.any (fun p => p.1 == d && p.2 == s.tb / 4) then s.powerErr 5
  else if !on && (List.range 766).any (fun x => parent x == some d && sget s.dom x 0 != 0 && sget s.dom x 0 != 4) then s.powerErr 4
  else
    let st := sget s.dom d 0
    let busy := fun (s : State) => { s.raise PWR_STAT_BUSY with pins := { s.pins with switching := some d } }
    if on && (st == 0 || st == 4) then busy (s.setDom d 1)
    else if !on && (st == 2 || st == 1) then busy (s.powerDown d)
    else s

/-- DOMAIN_SWITCH: `PWR_CMD` is written with GO = 1. -/
def execDomainSwitch (a : Agent) (d : BitVec 10) (on : Bool) (s : State) : Host.Outcome State Fault Refusal :=
  if s.domOn 760 then
    let s := if PWR_CMD_DOMAIN.ok d.toNat then s.set PWR_CMD_DOMAIN 0 d.toNat else s
    .next ((s.set PWR_CMD_ON 0 (b2n on)).powerGo a)
  else .next s

/-- DOMAIN_ON: a domain that was switched on reads on; a core is released from reset. A CVU has rows of its own. -/
def execDomainOn (d : Fin 766) (s : State) : Host.Outcome State Fault Refusal :=
  let d := d.val
  if s.awake ∧ sget s.dom d 0 = 1 ∧ s.parentOn d ∧ ¬(740 ≤ d ∧ d < 760) then
    let s := (s.powerUp d).powerDone d
    .next (if 720 ≤ d ∧ d < 740 then s.coreRelease (d - 720) else s)
  else .next s

/-- DOMAIN_OFF: a power-down ends. One that began before the domain was on changes nothing between off and on (R468). -/
def execDomainOff (d : Fin 766) (s : State) : Host.Outcome State Fault Refusal :=
  let d := d.val
  if !s.awake then .next s
  else if sget s.dom d 0 = 3 then .next (((s.setDom d 0).powerDone d).domainChanged d)
  else if sget s.dom d 0 = 5 then .next ((s.setDom d 0).powerDone d)
  else .next s

/-- A domain goes off for a fault, and each of its children with it. A CVU that was live has lost its state (10 R301). -/
def State.faultOff (s : State) (d : Nat) : State :=
  let was := sget s.dom d 0
  if was = 0 ∨ was = 4 then s
  else
    let live := 740 ≤ d && d < 760 && s.flag CVU_STAT_LIVE (d - 740)
    let s := (s.loseDomain d).setDom d 0
    let s := if live then s.raise CVU_STAT_LOST (d - 740) else s
    if was = 2 ∨ was = 3 then s.domainChanged d else s

/-- The switch-on by `PWR_CMD` that a fault of domain d meets: one that runs, of d or of a domain below it, or one that ended in this HCLK
cycle (R467). DEDUCED (log 188): the rule names the domain's own. -/
def State.faultMeets (s : State) (d : Nat) : Bool :=
  let mine := fun x : Nat => (withChildren d).any (· == x)
  s.pins.switching.any (fun x => mine x && sget s.dom x 0 == 1) ||
    s.pins.ended.any (fun p => mine p.1 && p.2 == s.tb / 4 && sget s.dom p.1 0 == 2)

/-- The domain's fault is noted with its HCLK cycle: a switch-on of that cycle loses to it (R467). -/
def State.noteFault (s : State) (d : Nat) : State :=
  { s with pins := { s.pins with failed := (d, s.tb / 4) :: s.pins.failed.filter (fun p => p.2 == s.tb / 4) } }

/-- LEC8 source 0x11C has its event with the record (19 R495), also where no domain has changed between off and on. -/
def State.faultEvent (s : State) : State := if s.flag PWR_STAT_CHG then s.powerLevel else s.lecPulse (4096 + 0x11C)

/-- DOMAIN_FAULT: overcurrent or undervoltage (R467). -/
def execDomainFault (d : Fin 766) (under : Bool) (s : State) : Host.Outcome State Fault Refusal :=
  let d := d.val
  let was := sget s.dom d 0
  if !s.awake ∨ was = 0 ∨ was = 4 then .next s
  else
    let used := s.domainUsed d
    let met := s.faultMeets d
    let cut := s.pins.switching.filter (fun x => (withChildren d).any (· == x))
    let s := (withChildren d).foldl (fun s x => s.faultOff x) s
    let s := (((s.setDom d 4).failBit d true).noteFault d).raise PWR_STAT_DOMFAULT
    let s := match cut with
      | some x => s.powerDone x
      | none => s
    let s := (if met then s.powerErr 5 else s).faultEvent
    .next (s.fault 0x701 (b2n used) 0xFF d 0xFFFF (if under then 2 else 1) 0)

/-! ### Clock losses (R461) -/

/-- A lost clock outside DORMANT: cell issue stops until a reset, CLOCK_LOSS is recorded, and a RUN becomes a HOLD, which discards what is
scheduled (06 R184, 07 R201). The time base counts on (02 R38). -/
def State.clockLoss (s : State) : State :=
  if s.mode = .dormant ∨ s.pins.low = 2 then s
  else
    let stat := (regFields .CLK_GEN_STAT).foldl (fun a f => a + s.get f * 2 ^ f.lo) 0
    let s := { s with clockLost := true, fltHw := s.fltHw ||| 1 }.fault 0x702 3 0xFF 0 0xFFFF stat 0
    if s.mode = .run then
      (((s.setStroke { s.stroke with nextAt := none, started := false }).dropScheduled).enter .hold).traceEvent TRC_FRZ_ONHOLD 4
    else s

/-- REFCLK_LOSS: no edge for REFFLT AOSC cycles. While POR_N is low every register is held at reset and FAULT_N is released (20 R508, R513). -/
def execRefclkLoss (s : State) : Host.Outcome State Fault Refusal :=
  if s.pins.low = 2 then .next s else .next ((s.raise CLK_GEN_STAT_REFLOSS).clockLoss)

/-- LOSS_OF_LOCK. -/
def execLossOfLock (s : State) : Host.Outcome State Fault Refusal :=
  if s.flag CLK_GEN_STAT_LOCK then
    .next (((((s.lower CLK_GEN_STAT_LOCK).raise CLK_GEN_STAT_LOL).bump CLK_GEN_STAT_LOLCNT)).clockLoss)
  else .next s

/-! ### Sensors (R470-R474) -/

/-- A REAL32 bit pattern times 2^149, exactly; `none` for a NaN, and an infinity as a value above every finite one. -/
def realScaled (b : Nat) : Option Int :=
  let e := bits b 30 23
  let m := bits b 22 0
  let sgn : Int := if bit b 31 then -1 else 1
  if e = 255 then (if m = 0 then some (sgn * 2 ^ 300) else none)
  else if e = 0 then some (sgn * m) else some (sgn * ((2 ^ 23 + m) * 2 ^ (e - 1)))

/-- A reading is at or above a whole number. -/
def realGe (b : Nat) (t : Int) : Bool :=
  match realScaled b with
  | some v => decide (t * 2 ^ 149 ≤ v)
  | none => false

/-- The greater of two readings, by bit pattern. -/
def realMax (a b : Nat) : Nat :=
  match realScaled a, realScaled b with
  | some x, some y => if x < y then b else a
  | none, some _ => b
  | _, _ => a

/-- A reading in whole degrees, as `PWR_THERM` shows it: 0 below zero, at most 255; where it is not whole, the spec states no
rounding. -/
def realWhole (b : Nat) : Nat :=
  match realScaled b with
  | some v => if v ≤ 0 then 0 else min 255 (openDiv v (2 ^ 149)).toNat
  | none => 0

/-- Nominal voltages of rails 0-14 in hundredths of a volt (20 R510). -/
def nominal (r : Nat) : Nat :=
  if r ≤ 8 then 70 else if r = 9 ∨ r = 10 then 75 else if r = 11 then 120 else if r = 12 then 110 else if r = 13 then 40 else 180

/-- How far a rail's reading lies from nominal: the deviation times 10,000 and the nominal value, both scaled alike, so that a
deviation of k percent is one of at least 100 k times the nominal value. -/
def deviation (r b : Nat) : Option (Nat × Nat) :=
  (realScaled b).map (fun v => ((v * 100 - (nominal r : Int) * 2 ^ 149).natAbs * 100, nominal r * 2 ^ 149))

/-- The rail lies at k percent or beyond; `strict`: beyond k percent. An unreadable voltage lies beyond every band. -/
def beyond (r b k : Nat) (strict : Bool) : Bool :=
  match deviation r b with
  | some (d, n) => if strict then decide (k * n < d) else decide (k * n ≤ d)
  | none => true

/-- Sources 0x11A and 0x11B of LEC8 (R471). -/
def State.sensorLevels (s : State) : State :=
  let s := s.lecSample (4096 + 0x11A) (s.flag PWR_THERM_WARN || s.flag PWR_THERM_EMGEV)
  s.lecSample (4096 + 0x11B) (s.get PWR_SUPPLY_WARN != 0 || s.flag PWR_SUPPLY_EMGEV)

/-- The readings enter 0x9000: sub-indices 01-11 temperatures, 12-20 voltages, 21-2F currents, 30 power. -/
def State.putReadings (s : State) (first : Nat) : List Nat → State
  | [] => s
  | v :: t => ({ s with ents := sput s.ents (0x9000 * 256 + first) v 0 }).putReadings (first + 1) t

/-- A mask of the rails that satisfy p. -/
def railMask (v : List Nat) (p : Nat → Nat → Bool) : Nat :=
  (List.range 15).foldl (fun a r => if p r (v.getD r 0) then a + 2 ^ r else a) 0

/-- A sample of every sensor (R470-R473): junctions of T0-T7 and the hub, HBM stacks 0-7, rail voltages. -/
def State.sense (s : State) (j h v : List Nat) : State :=
  let maxT := j.foldl realMax 0
  let maxH := h.foldl realMax 0
  let thot := s.get PWR_THERM_THOT
  let hhot := s.get PWR_THERM_HHOT
  let hyst := s.get PWR_THERM_HYST
  let was := s.pins.emerg
  let hot := j.any (realGe · thot) || h.any (realGe · hhot)
  let cool := j.all (fun x => !realGe x ((thot : Int) - hyst)) && h.all (fun x => !realGe x ((hhot : Int) - hyst))
  let supply := railMask v (fun r x => beyond r x 5 true || (bit was r && beyond r x 4 true))
  let now := was != 0
  let any := hot || supply != 0
  -- an emergency ends only when every reading is back in its band
  let all := cool && railMask v (fun r x => beyond r x 4 true) == 0
  let therm := hot || (bit was 16 && !cool)
  let flags := supply + 2 ^ 16 * b2n therm
  let emerg := if any || (now && !all) then (if flags = 0 then was else flags) else 0
  let s := (s.set PWR_THERM_MAXT 0 (realWhole maxT)).set PWR_THERM_MAXH 0 (realWhole maxH)
  let s := if j.any (realGe · (s.get PWR_THERM_TWARN)) || h.any (realGe · (s.get PWR_THERM_HWARN)) then s.raise PWR_THERM_WARN else s
  let s := s.setBits PWR_SUPPLY_WARN 0 (railMask v (fun r x => beyond r x 3 false))
  let s := { s with pins := { s.pins with emerg := emerg } }.emergencyFlags
  let s := if bit emerg 16 && !bit was 16 then s.raise PWR_THERM_EMGEV else s
  let s := if (emerg % 2 ^ 15) &&& (was % 2 ^ 15 ^^^ 0x7FFF) != 0 then s.raise PWR_SUPPLY_EMGEV else s
  let s := if was = 0 && emerg != 0 then s.planHold else s
  s.sensorLevels

/-- The junction temperature of each die is the highest reading among its sensors, four of each tile and two of the hub (R470). -/
def junctions (t : List Nat) : List Nat :=
  (List.range 9).map (fun d => let r := (t.drop (4 * d)).take (if d = 8 then 2 else 4); (r.drop 1).foldl realMax (r.getD 0 0))

/-- SENSOR_SAMPLE: the 34 junction sensors, tile by tile and the hub's last, the 8 stack temperatures, the 15 voltages and the power, as
REAL32 bit patterns. -/
def execSensorSample (temps volts : List (BitVec 32)) (power : BitVec 32) (s : State) : Host.Outcome State Fault Refusal :=
  if s.domOn 760 then
    let t := (temps.take 34).map (·.toNat)
    let h := ((temps.drop 34).take 8).map (·.toNat)
    let v := (volts.take 15).map (·.toNat)
    let s := s.putReadings 0x01 (junctions t ++ h)
    let s := s.putReadings 0x12 v
    let s := s.putReadings 0x30 [power.toNat]
    let s := { s with pins := { s.pins with sensors := t } }
    .next (s.sense (junctions t) h v)
  else .next s

/-! ### PMBus (20 R521, R522) -/

/-- A write of `PWR_PMBCMD.GO`: one transaction, ignored while BUSY is 1. It goes ahead of what is left of a poll (R522). -/
def State.pmbusGo (s : State) : State :=
  if s.flag PWR_PMBCMD_BUSY then s
  else
    let wr := s.flag PWR_PMBCMD_WRITE
    let s : State := { s with pins := { s.pins with cmdLen := s.get PWR_PMBCMD_LEN, cmdWrite := wr } }
    (s.raise PWR_PMBCMD_BUSY).emit (.pmbus (s.get PWR_PMBCMD_ADDR) (s.get PWR_PMBCMD_CODE) wr
      (if wr then leBytes (s.get PWR_PMBCMD_LEN) (s.get PWR_PMBDATA_DATA) else []))

/-- PMBUS_COMMAND: the fields of `PWR_PMBCMD` are written with GO. A reserved LEN leaves the field (00 R10). -/
def execPmbusCommand (addr : BitVec 7) (code : Byte) (len : BitVec 2) (write : Bool) (s : State) : Host.Outcome State Fault Refusal :=
  if s.domOn 760 then
    let s := (s.set PWR_PMBCMD_ADDR 0 addr.toNat).set PWR_PMBCMD_CODE 0 code.toNat
    let s := if PWR_PMBCMD_LEN.ok len.toNat then s.set PWR_PMBCMD_LEN 0 len.toNat else s
    .next (s.set PWR_PMBCMD_WRITE 0 (b2n write)).pmbusGo
  else .next s

/-- PMBUS_DONE: the transaction ends, with the data of a read, or without an acknowledgement. -/
def execPmbusDone (reply : Option (BitVec 16)) (s : State) : Host.Outcome State Fault Refusal :=
  if s.domOn 760 && s.flag PWR_PMBCMD_BUSY then
    let s := (s.lower PWR_PMBCMD_BUSY).raise PWR_PMBCMD_DONE
    match reply with
    | none => .next (s.raise PWR_PMBCMD_NAK)
    | some v =>
      let n := s.pins.cmdLen
      .next (if s.pins.cmdWrite || n == 0 then s else s.set PWR_PMBDATA_DATA 0 (if n = 1 then v.toNat % 256 else v.toNat))
  else .next s

/-- The rail's regulator reports power good, as its STATUS_WORD says; one that does not acknowledge does not (R521). -/
def PollSt.good (p : PollSt) (r : Nat) : Bool := (p.status.getD r none).any (fun w => !bit w.toNat 11)

/-- The current of a rail, 0 where its regulator does not acknowledge. -/
def PollSt.current (p : PollSt) (r : Nat) : Nat := if (p.status.getD r none).isSome then (p.amps.getD r 0).toNat else 0

/-- One transaction of the poll: STATUS_WORD of a rail, or its READ_IOUT (R521). -/
def State.pollRead (s : State) (p : PollSt) : State :=
  let r := p.next / 2
  let s : State := { s with pins := { s.pins with poll := if p.next < 29 then some { p with next := p.next + 1 } else none } }
  let s := s.emit (.pmbus (0x40 + r) (if p.next % 2 = 0 then 0x79 else 0x8C) false [])
  if p.next % 2 = 0 then { s with pins := { s.pins with pgood := putBit s.pins.pgood r (p.good r) } } else s.putReadings (0x21 + r) [p.current r]

/-- The PMBus master goes on with its poll unless a command waits or runs (R522). -/
def State.pollOn (s : State) : State :=
  match s.pins.poll with
  | some p => if s.flag PWR_PMBCMD_BUSY then s else s.pollRead p
  | none => s

/-- So many transactions of the poll. -/
def State.pollRun (s : State) : Nat → State
  | 0 => s
  | n + 1 => s.pollOn.pollRun n

/-- In each HCLK cycle one transaction of a poll; in each idle step where no derived clock runs. DESIGN CHOICE (log 217): the spec states no time of
a transaction. -/
def State.pollEdge (s : State) : State := if s.clockStopped || s.tb % 4 == 0 then s.pollOn else s

/-- PMBUS_POLL: a poll of every rail is due, with what the regulators answer: STATUS_WORD (`none` where one does not acknowledge) and current. Its
transactions follow, from the next cycle on; one that is due while another is under way is left out (log 217). -/
def execPmbusPoll (status : List (Option (BitVec 16))) (amps : List (BitVec 32)) (s : State) : Host.Outcome State Fault Refusal :=
  if s.mode = .dormant ∨ !s.awake ∨ s.pins.poll.isSome then .next s
  else .next { s with pins := { s.pins with poll := some ⟨0, status, amps⟩ } }

/-- THERMAL_TRIP: a junction sensor reads so many degrees. At 115 or above every derived clock stops, THERMTRIP_N and FAULT_N are asserted,
and the record is written (R474). While POR_N is low the fault log is held at reset and THERMTRIP_N alone goes low (20 R508, R513; log 215). -/
def execThermalTrip (die : Fin 9) (celsius : BitVec 16) (s : State) : Host.Outcome State Fault Refusal :=
  if s.pins.trip || decide (celsius.toInt < 115) then .next s
  else if s.pins.low = 2 then .next { s with pins := { s.pins with trip := true } }
  else
    let s := s.fault 0x703 3 die.val die.val 0xFFFF celsius.toNat 0
    .next { s with clockStopped := true, fltHw := s.fltHw ||| 2, pins := { s.pins with trip := true } }

end Sys2Proof.Machine
end

