-- ==== Sys2Proof/Machine/EventCmds.lean ====
section
/-! DEFINITION. The event path's own commands (12): source changes, trigger records, writes of the LEC registers with an effect
of their own, assignment at the GEC; and the fault log's two command registers (19). -/

namespace Sys2Proof.Machine

/-! ### Source levels (R330, R331) -/

/-- The level of source `src` of tile LEC t as flag registers give it; `none` for a source that events drive. -/
def State.tileSource (s : State) (t src : Nat) : Option Bool :=
  if src < 0x100 then none
  else if src < 0x110 then some (s.cellStatus (16 * t + (src - 0x100)))
  else if src < 0x120 then some (bit (s.get TRC_HALTC_CLUSTERS t) (src - 0x110))
  else if src < 0x130 then some (s.flag CLU_SWAP_CTL_MISSED (16 * t + (src - 0x120)))
  else if src < 0x170 then some (s.flag LNK_STAT_CHG (64 * t + (src - 0x130)))
  else if src < 0x1B0 then some (laneErrors.any (fun f => s.flag f (64 * t + (src - 0x170))))
  else if src < 0x1F0 then none
  else if src = 0x1F0 then some (s.flag FAB_STAT_BADENT t || s.flag FAB_STAT_DUEMISS t || s.flag FAB_STAT_RSVUSE t || s.flag FAB_STAT_TRDROP t)
  else if src = 0x1F1 then
    some (s.flag FAB_STAT_COLL t || s.flag FAB_STAT_COLLREP t || s.flag FAB_STAT_PTPERR t || s.flag FAB_STAT_SBPERR t || s.flag FAB_STAT_DPERR t)
  else if src < 0x1F7 then none
  else if src = 0x1F7 then
    some (s.flag TME_STAT_OOR t || s.flag TME_STAT_OVERRUN t || s.flag TME_STAT_UNREC t || s.flag TME_STAT_STKFAIL t || s.flag TME_STAT_CHFAIL t)
  else if src = 0x1F8 then none
  else if src < 0x1FB then some (s.core (4 + 2 * t + (src - 0x1F9))).stopped
  else if src < 0x1FD then
    let k := 4 + 2 * t + (src - 0x1FB)
    some (s.get CPO_SVC_RQ_PROD k != s.get CPO_SVC_RQ_CONS k)
  else if src < 0x1FF then none
  else some (bit (s.get BJ_RDYEV_CHG) t)

/-- The level of source `src` of LEC8; `none` for a source that events or pins drive. -/
def State.hubSource (s : State) (src : Nat) : Option Bool :=
  if src < 0x100 then some (s.flag PCI_CHSTAT_REFUSED src || s.flag PCI_CHSTAT_OUTHOLD src || s.flag PCI_CHSTAT_CQWAIT src)
  else if src < 0x104 then some (s.core (src - 0x100)).stopped
  else if src < 0x108 then some (s.get CPO_SVC_RQ_PROD (src - 0x104) != s.get CPO_SVC_RQ_CONS (src - 0x104))
  else if src < 0x10C then none
  else if src = 0x110 then some (s.flag FAB_STAT_BADENT 8 || s.flag FAB_STAT_DUEMISS 8 || s.flag FAB_STAT_RSVUSE 8 || s.flag FAB_STAT_TRDROP 8)
  else if src = 0x111 then
    some (s.flag FAB_STAT_COLL 8 || s.flag FAB_STAT_COLLREP 8 || s.flag FAB_STAT_PTPERR 8 || s.flag FAB_STAT_SBPERR 8 || s.flag FAB_STAT_DPERR 8)
  else if src < 0x115 then some (s.hubLevel src)
  else if src = 0x115 then
    some (s.flag PCI_STAT_BUSERR || s.flag PCI_STAT_OUTLOST || s.flag PCI_STAT_PENDERR || s.flag PCI_STAT_LINKCHG || s.flag PCI_STAT_FLR)
  else if src = 0x116 then some (s.flag PCI_MBX_BUSY)
  else if src = 0x117 ∨ src = 0x118 then
    some (s.flag MGT_CAN_BUSOFF (src - 0x117) || s.flag MGT_CAN_PASSIVE (src - 0x117) || s.flag MGT_CAN_RXIGN (src - 0x117) ||
      s.flag MGT_CAN_REQDROP (src - 0x117))
  else if src = 0x11A then some (s.flag PWR_THERM_WARN || s.flag PWR_THERM_EMGEV)
  else if src = 0x11B then some (s.get PWR_SUPPLY_WARN != 0 || s.flag PWR_SUPPLY_EMGEV)
  else if src = 0x11C then some (s.flag PWR_STAT_CHG)
  else if src = 0x11D then some (s.flag BJ_STAT_STEPEV)
  else if src = 0x11E then some (bit (s.get BJ_RDYEV_CHG) 8)
  else if src = 0x11F then some (s.flag TRC_STAT_FROZEN || s.flag TRC_STAT_FULL || s.flag TRC_STAT_WERR || s.flag TRC_STAT_LOST)
  else if src = 0x120 then some (s.get TRC_DBGEV_HALTEV != 0)
  else if src = 0x121 ∨ src = 0x122 then some (s.hubLevel src)
  else none

/-- LEC8 source 0x117 or 0x118 follows the flags of `MGT_CANp` (15 R424). -/
def State.canLevel (s : State) (p : Nat) : State := s.lecSample (4096 + 0x117 + p) ((s.hubSource (0x117 + p)).getD false)

/-- Source src of LEC e is sampled: at the level its flags give it, or, for a source that a pin or an event drives, at the
level given. -/
def State.sampleSource (s : State) (e src : Nat) (lv : Bool) : State :=
  s.lecSample (512 * e + src) (((if e = 8 then s.hubSource src else s.tileSource e src)).getD lv)

/-- SOURCE_CHANGE (R332, R333, R335). With `wpn` it is instead a change of the pin FLASH_WP_N, for which the table has no row (20 R508; log
218). -/
def execSourceChange (e : Fin 9) (src : Fin 512) (level : Bool) (s : State) (wpn : Option Bool := none) : Host.Outcome State Fault Refusal :=
  match wpn with
  | some b => .next (s.set MGT_FLCTL_WPN 0 (b2n b))
  | none => .next (s.sampleSource e.val src.val level)

/-- The sources whose SENSE field was written are sampled again: that sample is their new reference (R332). -/
def State.sampleFresh (s : State) : State :=
  s.lecFresh.foldl (fun s p => s.sampleSource (p.1 / 512) (p.1 % 512) (s.flag LEC_RAW_RAW p.1)) s

/-! ### Trigger records (R334) -/

/-- One record comes before another: by stroke, stroke cycle and LCELL. -/
def TrigRec.before (a b : TrigRec) : Bool :=
  a.stroke < b.stroke || (a.stroke == b.stroke && (a.scyc < b.scyc || (a.scyc == b.scyc && a.lcell ≤ b.lcell)))

/-- The first of several records. -/
def firstTrig : List TrigRec → Option TrigRec
  | [] => none
  | r :: t => match firstTrig t with
    | none => some r
    | some q => if r.before q then some r else some q

/-- A record becomes an event: counted, pending, and queued if there is room; it may freeze the trace window. -/
def State.takeTrig (s : State) (t : Nat) (r : TrigRec) : State :=
  let s := s.lecEvent (512 * t + r.code) 1
  let x := s.tile t
  let s := if x.trigQ.length < 64 then s.setTile t { x with trigQ := x.trigQ ++ [r] } else s.raise LEC_TRQCTL_OVF t
  if s.get TRC_FRZ_CODE = r.code then s.traceEvent TRC_FRZ_CODEEN 1 else s

/-- A record that reaches its LEC in FCLK cycle t is an event in the first CCLK cycle that begins at or after it; those begin where the time base is even
(R334). -/
def TrigRec.dueAt (r : TrigRec) : Nat := r.at_ + r.at_ % 2

/-- TRIGGER_RECORD: the first record that is an event of the LEC of tile t. -/
def execTriggerRecord (t : Tile) (s : State) : Host.Outcome State Fault Refusal :=
  let due := (s.trigs.filter (fun p => p.1 == t.val && decide (p.2.dueAt ≤ s.tb))).map (·.2)
  match firstTrig due with
  | none => .next s
  | some r =>
    if s.lecOn t.val then .next ({ s with trigs := s.trigs.erase (t.val, r) }.takeTrig t.val r) else .next s

/-- TRQ_POP: the oldest queued record leaves. LEC8 has no trigger source. -/
def State.trqPop (s : State) (e : Nat) : State :=
  if e < 8 && s.lecOn e then s.setTile e { s.tile e with trigQ := (s.tile e).trigQ.drop 1 } else s

/-- TRQ_POP. -/
def execTrqPop (e : Fin 9) (s : State) : Host.Outcome State Fault Refusal := .next (s.trqPop e.val)

/-! ### Writes of the LEC registers (R332, R335, R337) -/

/-- LEC_SWEV: a 1 in bit k is an event on source 0x130 + k of LEC8. -/
def State.softEvents (s : State) (mask : Nat) : State :=
  if s.lecOn 8 then (List.range 16).foldl (fun s k => if bit mask k then s.lecEvent (4096 + 0x130 + k) 1 else s) s else s

/-- LEC_SWEV. -/
def execLecSwevWrite (mask : BitVec 16) (s : State) : Host.Outcome State Fault Refusal := .next (s.softEvents mask.toNat)

/-- Software may write the PEND bit of source g: it is not level-sensed (R337). -/
def State.pendWritable (s : State) (g : Nat) : Bool := eventSource g || decide (2 ≤ s.get LEC_SENSE_SENSE g)

/-- The GEC input of source g follows its line. -/
def State.syncSource (s : State) (g : Nat) : State := s.gecSync (64 * (g / 512) + s.get LEC_ROUTE_LINE g)

/-- Software sets or clears the PEND bit of source g; an event of the same cycle is not lost (00 R13). -/
def State.pendPut (s : State) (g : Nat) (b : Bool) : State :=
  if s.pendWritable g then (if b then s.write1 LEC_PEND_PEND g else s.write0 LEC_PEND_PEND g).syncSource g else s

/-- A write of `LEC_PCLR`r. -/
def State.pclrWrite (s : State) (e r v : Nat) : State :=
  if s.lecOn e then (List.range 64).foldl (fun s i => if bit v i then s.pendPut (512 * e + 64 * r + i) false else s) s else s

/-- LEC_PCLR. -/
def execLecPclrWrite (e : Fin 9) (r : Fin 8) (v : Word) (s : State) : Host.Outcome State Fault Refusal :=
  .next (s.pclrWrite e.val r.val v.toNat)

/-- A write of `LEC_PEND`r. -/
def State.pendWrite (s : State) (e r v : Nat) : State :=
  if s.lecOn e then (List.range 64).foldl (fun s i => s.pendPut (512 * e + 64 * r + i) (bit v i)) s else s

/-- LEC_PEND_WRITE. -/
def execLecPendWrite (e : Fin 9) (r : Fin 8) (v : Word) (s : State) : Host.Outcome State Fault Refusal :=
  .next (s.pendWrite e.val r.val v.toNat)

/-- A SENSE field is written: the next sample is a new reference; PEND stays (R332). -/
def State.senseField (s : State) (g v : Nat) : State :=
  if eventSource g || decide (4 < v) then s
  else { s.set LEC_SENSE_SENSE g v with lecFresh := sput s.lecFresh g true false }

/-- A write of the bits of `mask` of `LEC_SENSE`r: fields that the mask does not name keep their reference (00 R8). -/
def State.senseWrite (s : State) (e r v mask : Nat) : State :=
  if s.lecOn e then (List.range 16).foldl (fun s i =>
    if bits mask (4 * i + 2) (4 * i) = 0 then s else s.senseField (512 * e + 16 * r + i) (bits v (4 * i + 2) (4 * i))) s
  else s

/-- LEC_SENSE. -/
def execLecSenseWrite (e : Fin 9) (r : Fin 32) (v : Word) (s : State) : Host.Outcome State Fault Refusal :=
  .next (s.senseWrite e.val r.val v.toNat (2 ^ 64 - 1))

/-! ### The GEC (R340) -/

/-- Input i is 1 and the core it is assigned to, if any, is unavailable: it is assigned again. -/
def State.reassign (s : State) (i : Nat) : State :=
  if s.flag GEC_IN_LEVEL i && (s.get GEC_IN_CUR i == 0x1F || !s.coreAvail (s.get GEC_IN_CUR i)) then (s.gecAssign i).hubLevels else s

/-- GEC_REASSIGNMENT. -/
def execGecReassignment (i : Fin 576) (s : State) : Host.Outcome State Fault Refusal :=
  if s.domOn 764 then .next (s.reassign i.val) else .next s

/-! ### The fault log's command registers (19 R495, R499) -/

/-- A SEQ is acknowledged, if it lies between the acknowledgement in force and the newest record. A record of the cycle of the
acknowledgement stays unacknowledged (R499): it is newer than any that the write can name (log 200). -/
def State.faultAck (s : State) (w : Nat) : State :=
  let a := s.get MGT_FLT_ACK_SEQ
  let new := s.fltRecs.countP (fun r => s.unacked r && r.tb == s.tb)
  let n := (s.fltNext + 2 ^ 32 - 1 - new) % 2 ^ 32
  if s.fltAny && decide ((w + 2 ^ 32 - a) % 2 ^ 32 ≤ (n + 2 ^ 32 - a) % 2 ^ 32) then (s.set MGT_FLT_ACK_SEQ 0 w).hubLevels else s

/-- FAULT_ACK. -/
def execFaultAck (seq : BitVec 32) (s : State) : Host.Outcome State Fault Refusal :=
  if s.domOn 763 then .next (s.faultAck seq.toNat) else .next s

/-- A MODULE_FAULT record with DETAIL0 as written. -/
def State.moduleFault (s : State) (v : Nat) : State := s.fault 0xF02 3 0xFF 0 0xFFFF v 0

/-- MODULE_FAULT. -/
def execModuleFault (v : Word) (s : State) : Host.Outcome State Fault Refusal :=
  if s.domOn 763 then .next (s.moduleFault v.toNat) else .next s

/-- ALERT_N is low while an unacknowledged record has a severity of AMASK (R500), in DORMANT too (R502). DEDUCED (log 214): R507 gives the
column "while POR_N is low" as the state in DORMANT, and there R500, R502 and 20 R512 keep the pins driven. -/
def State.alertLow (s : State) : Bool := s.fltRecs.any (fun r => s.unacked r && bit (s.get MGT_FLT_CTL_AMASK) (r.flags % 8))

/-- A record drives FAULT_N: it is unacknowledged and has a severity of FMASK (`MGT_FLT_STAT.FPEND`). -/
def State.faultRec (s : State) : Bool := s.fltRecs.any (fun r => s.unacked r && bit (s.get MGT_FLT_CTL_FMASK) (r.flags % 8))

/-- FAULT_N is low while a record drives it, or a latched source is 1 (R500). -/
def State.faultLow (s : State) : Bool := s.fltHw != 0 || s.faultRec

end Sys2Proof.Machine
end

