-- ==== Sys2Proof/Machine/Trace.lean ====
section
/-! DEFINITION. Trace and debug (18): the trace block's messages, probe captures, software records and freeze; halting a Capo core
from debug; and the test access port without its memory access. -/

namespace Sys2Proof.Machine

/-! ### Messages (R476, R479) -/

/-- Endpoint of the trace block. -/
def traceUnit : Nat := endUnit 8 0x32

/-- The first whole message that waits at the trace block, and the flits it is made of. A probe capture is a head
(kind 3) and the data flit (kind 4) that follows from the same cell. -/
def firstMessage : List UFlit → Option (UFlit × Option UFlit)
  | [] => none
  | f :: t =>
    if f.dest = traceUnit ∧ f.cls = 2 then
      if f.pay.getD 0 0 = 3 then
        match t.find? (fun g => g.dest == traceUnit && g.srcEnd == f.srcEnd && g.pay.getD 0 0 == 4) with
        | some g => some (f, some g)
        | none => firstMessage t
      else if f.pay.getD 0 0 = 4 then firstMessage t
      else some (f, none)
    else firstMessage t

/-- The record of a message. -/
def State.takeMessage (s : State) (f : UFlit) (g : Option UFlit) : State :=
  let tile := f.pay.getD 1 0
  match g with
  | some d =>
    let h := f.pay.getD 2 0
    s.trcTake (d.pay.getD 2 0) (h % 2 ^ 32) 3 tile (f.srcEnd % 1024) (bits h 44 32)
  | none =>
    let kind := f.pay.getD 0 0
    s.trcTake (f.pay.getD 3 0) (s.get CLK_STROKE_NO_STROKE_NO % 2 ^ 32) kind tile (if kind = 1 then f.srcEnd % 1024 else 0) (f.pay.getD 2 0)

/-- TRACE_MESSAGE: the trace block takes the oldest whole message, one in an HCLK cycle, while its buffer has room and no record waits; the record leaves the
buffer for the window in a later cycle (`State.trcEdge`). -/
def execTraceMessage (s : State) : Host.Outcome State Fault Refusal :=
  if !s.domOn 765 || s.trcFull || s.trace.takenAt == some (s.tb / 4) || !s.trace.waiting.isEmpty then .next s
  else
    let x := s.tile 8
    match firstMessage x.uDelivered with
    | none => .next s
    | some (f, g) =>
      let rest := x.uDelivered.erase f
      let rest := match g with
        | some d => rest.erase d
        | none => rest
      .next ((s.setTile 8 { x with uDelivered := rest }).takeMessage f g)

/-! ### Probes (R477, R478) -/

/-- The records of a cell whose group is enabled in this stroke, in list order: KIND, GROUP, ADDR. -/
def State.probesOf (s : State) (t l : Nat) : List (Nat × Nat × Nat) :=
  let gen := sget s.trace.pctl t 0 % 2 ^ 8
  (((s.tile t).probes.filter (fun p => p.1 == l)).map (fun p => (p.2 % 256, bits p.2 15 8, bits p.2 31 16))).filter
    (fun p => bit gen p.2.1)

/-- The stroke in progress is a capture stroke of tile t. -/
def State.captureStroke (s : State) (t : Nat) : Bool := s.stroke.no % (sget s.trace.pctl t 0 / 2 ^ 8 + 1) == 0

/-- Record i may be read now: in cycle P - 16 + i, or, in a checkpoint stroke, in the i-th cycle after the cell's last drain unit has left. -/
def State.probeNow (s : State) (c i : Nat) : Bool :=
  s.inStroke && s.stroke.flipped && s.captureStroke (c / 1088) &&
    (if s.ckpStroke s.stroke.no then (s.cell c).drained && (s.cell c).drainedAt + 1 + i == s.tb
     else decide (s.cyc + 16 = s.stroke.period + i))

/-- The word a probe record names. -/
def State.probeValue (s : State) (c kind addr : Nat) : Word :=
  let x := s.cell c
  if kind = 0 then x.rd 1 (nsAddr (s.flag CELL_SBSEL_CUR c) (bits addr 8 5) (bits addr 4 0)) else x.d (addr % 64)

/-- Send a capture as a head flit and a data flit, or discard it for lack of two credits (R475). -/
def State.sendProbe (s : State) (c kind group addr : Nat) (v : Word) : State :=
  let t := c / 1088
  let l := s.lcell c
  let place := UPoint.cell (Fin.ofNat 8 t) (Fin.ofNat 1024 l)
  let router := UPoint.router (Fin.ofNat 8 t) (Fin.ofNat 16 (l / 64))
  if s.uCredit place router 2 < 2 || bit (s.get FAB_UCTL_DRAIN t) 2 then s.probeDrop t
  else
    let head := s.stroke.no % 2 ^ 32 + addr % 512 * 2 ^ 32 + kind % 2 * 2 ^ 41 + group % 8 * 2 ^ 42
    (s.inject place 2 traceUnit (endCell t l) [3, t, head] 0 0 false).inject place 2 traceUnit (endCell t l) [4, t, v.toNat]

/-- PROBE_CAPTURE: cell c reads the i-th of its enabled records. -/
def execProbeCapture (c : PCell) (i : Fin 16) (s : State) : Host.Outcome State Fault Refusal :=
  let c := c.val
  if s.active c && s.domOn (cellDomain c) && s.probeNow c i.val then
    match (s.probesOf (c / 1088) (s.lcell c))[i.val]? with
    | some (kind, group, addr) =>
      let s := s.settleCell c
      .next (s.sendProbe c kind group addr (s.probeValue c kind addr))
    | none => .next s
  else .next s

/-! ### Software records, enabling and the freeze (R479, R481, R488) -/

/-- SRC of a software record. -/
def Agent.traceSrc : Agent → Nat
  | .host => 0x80
  | .jtag => 0x81
  | .core n => n.val
  | .can _ => 0
  | .lane _ => 0

/-- A write of `TRC_SWMSG`. -/
def State.swMessage (s : State) (a : Agent) (v : Nat) : State :=
  if s.domOn 765 then s.trcOwn v 4 (Agent.traceSrc a) 0 else s

/-- TRC_SWMSG. -/
def execTrcSwmsg (a : Agent) (v : Word) (s : State) : Host.Outcome State Fault Refusal := .next (s.swMessage a v.toNat)

/-- FRZ_NOW. -/
def execFrzNow (s : State) : Host.Outcome State Fault Refusal := .next (s.traceFreeze 5)

/-- FROZEN: the marker and the records after it have been taken. -/
def execFrozen (s : State) : Host.Outcome State Fault Refusal :=
  if s.trace.left = some 0 ∧ s.trace.waiting.all (fun r => r.2.1 != 5) ∧ s.domOn 765 then
    .next ({ s.raise TRC_STAT_FROZEN with trace := { s.trace with left := none } }.trcLevel)
  else .next s

/-- EN goes from 0 to 1: `TRC_WPTR` and SEQ are cleared. -/
def State.traceEnable (s : State) : State :=
  if s.flag TRC_CTL_EN || !s.domOn 765 then s
  else
    let s := ((s.write1 TRC_CTL_EN).set TRC_WPTR_NEXT 0 0).lower TRC_WPTR_WRAPPED
    { s with trace := { s.trace with seqNo := 0 } }

/-- TRACE_ENABLE. -/
def execTraceEnable (s : State) : Host.Outcome State Fault Refusal := .next s.traceEnable

/-! ### Capo debug (R486, R487) -/

/-- ST as a write through any path leaves it (09 R257): reserved bits and DS read 0, and in user mode SUP and IML stay. -/
def stWrite (old new : Nat) : Nat :=
  let v := new % 2 ^ 14 - bits new 7 4 * 16
  if bit old 12 then v else putBits (putBit v 12 false) 8 4 (bits old 11 8)

/-- The core stands at a group boundary: not within a pair, not before a delay slot, and not frozen. -/
def CoreSt.atBoundary (x : CoreSt) : Bool := x.first.isNone && x.delay == 0 && x.syncing.isNone && !x.frozen

/-- Core n can halt now: powered, running, and at a boundary. -/
def State.canHalt (s : State) (n : Nat) : Bool :=
  s.domOn (720 + n) && s.domOn 765 && !(s.core n).held && !(s.core n).halted && !(s.core n).stopped && (s.core n).atBoundary

/-- A write of HALT: the core halts at its next group boundary. -/
def State.debugHalt (s : State) (n : Nat) : State :=
  if !s.domOn 765 || (s.core n).halted then s
  else
    let s := (s.raise TRC_CDBG_HALT n).setCore n { s.core n with haltReq := true }
    if s.canHalt n then s.haltCore n 0 else s

/-- DEBUG_HALT. -/
def execDebugHalt (n : Core) (s : State) : Host.Outcome State Fault Refusal := .next (s.debugHalt n.val)

/-- The halted core takes its registers from `TRC_CR` and issues again. -/
def State.debugRun (s : State) (n : Nat) (step : Bool) : State :=
  let x := s.core n
  if !x.halted || !s.domOn 765 then s
  else
    let r := fun j => s.get TRC_CR_VALUE (7 * n + j)
    let w := fun j => BitVec.ofNat 64 (r j)
    let y := { x with
      a := w 0, x := w 1, y := w 2, dp := BitVec.ofNat 64 (r 3 / 8 * 8), sp := BitVec.ofNat 64 (r 4 / 8 * 8),
      pc := r 5 % 2 ^ 48 / 2 * 2, odd := x.odd && r 5 == x.pc, st := stWrite x.st (r 6), halted := false, stepping := step, skipBp := true }
    let s := (s.setCore n y).lower TRC_CDBG_HALTED n
    (List.range 7).foldl (fun s j => s.set TRC_CR_VALUE (7 * n + j) 0) s

/-- DEBUG_RUN. -/
def execDebugRun (n : Core) (s : State) : Host.Outcome State Fault Refusal := .next (s.debugRun n.val false)

/-- DEBUG_STEP. -/
def execDebugStep (n : Core) (s : State) : Host.Outcome State Fault Refusal := .next (s.debugRun n.val true)

/-- An enabled breakpoint equals a group address. -/
def State.bpMatch (s : State) (n pc : Nat) : Bool :=
  (s.flag TRC_CDBG_BP0EN n && s.get TRC_CBP_PC (2 * n) * 2 == pc) || (s.flag TRC_CDBG_BP1EN n && s.get TRC_CBP_PC (2 * n + 1) * 2 == pc)

/-- BREAKPOINT: the next group's address matches. -/
def execBreakpointHit (n : Core) (s : State) : Host.Outcome State Fault Refusal :=
  let x := s.core n.val
  if s.canHalt n.val && !x.skipBp && !x.waiting && s.bpMatch n.val x.pc then .next (s.haltCore n.val 1) else .next s

/-! ### The test access port (R489, R490, R492) -/

/-- The boundary-scan cells that are live: a lane's and the PCIe lanes' cells only while their domain is on. The cells are
numbered in the order of the coverage table: 0-511 TX and 512-1023 RX of the lanes, 1024-1039 and 1040-1055 PCIe, 1056-1061
outputs, 1062-1076 inputs, 1077-1079 observe only. -/
def State.scanLive (s : State) (i : Nat) : Bool :=
  if i < 1024 then s.domOn (640 + i % 512 / 8) else if i < 1056 then s.domOn 762 else true

/-- The live bits of a scan. -/
def State.scanMask (s : State) (v : Nat) : Nat :=
  (List.range 1080).foldl (fun a i => if bit v i && s.scanLive i then a + 2 ^ i else a) 0

/-- The output cells of an update: drivers only. -/
def scanDrives (i : Nat) : Bool := i < 512 || (1024 ≤ i && i < 1040) || (1056 ≤ i && i < 1062)

/-- What the instruction register captures (R489). -/
def irCapture : Nat := 1

/-- An instruction is selected, and its data register captures a value. -/
def State.tapScan (s : State) (ir v : Nat) : State := { s with tap := { s.tap with ir := ir } }.emit (.tap irCapture v)

/-- A boundary-scan instruction: capture of the pins, then update of the output latches; the cells of a block that is off capture 0 and ignore
the update (R490). -/
def State.boundaryScan (s : State) (ir cap upd : Nat) : State :=
  let c := s.scanMask cap
  let u := (List.range 1080).foldl (fun a i => if scanDrives i && bit (if s.scanLive i then upd else s.tap.latch) i then a + 2 ^ i else a) 0
  { s with tap := { s.tap with scan := c, latch := u } }.tapScan ir c

/-- An instruction that selects the bypass register, which captures 0. -/
def State.bypassScan (s : State) (ir : Nat) : State := s.tapScan ir 0

/-- TAP_RESET: IDCODE is selected. -/
def execTapReset (s : State) : Host.Outcome State Fault Refusal := .next { s with tap := { s.tap with ir := 2 } }
/-- EXTEST. -/
def execExtest (cap upd : BitVec 1080) (s : State) : Host.Outcome State Fault Refusal := .next (s.boundaryScan 0 cap.toNat upd.toNat)
/-- SAMPLE/PRELOAD. -/
def execSamplePreload (cap upd : BitVec 1080) (s : State) : Host.Outcome State Fault Refusal := .next (s.boundaryScan 1 cap.toNat upd.toNat)
/-- EXTEST_PULSE. -/
def execExtestPulse (cap upd : BitVec 1080) (s : State) : Host.Outcome State Fault Refusal := .next (s.boundaryScan 5 cap.toNat upd.toNat)
/-- EXTEST_TRAIN. -/
def execExtestTrain (cap upd : BitVec 1080) (s : State) : Host.Outcome State Fault Refusal := .next (s.boundaryScan 6 cap.toNat upd.toNat)
/-- CLAMP: the outputs hold the latches. -/
def execClamp (s : State) : Host.Outcome State Fault Refusal := .next (s.bypassScan 3)
/-- HIGHZ: the outputs float. -/
def execHighz (s : State) : Host.Outcome State Fault Refusal := .next (s.bypassScan 4)
/-- BYPASS: its own code, or any that the table does not list. -/
def execBypass (s : State) (code : Byte := 0xFF) : Host.Outcome State Fault Refusal := .next (s.bypassScan code.toNat)

/-- The value of IDCODE: stepping 1, part 0x8192, the maker's identity, 1. -/
def idcodeValue : Nat := 0x18192000 + Config.jep106.toNat * 2 + 1

/-- IDCODE. -/
def execIdcode (s : State) : Host.Outcome State Fault Refusal :=
  .next (s.tapScan 2 idcodeValue)

/-- The value of TAPSTAT (R492). -/
def State.tapStat (s : State) : Nat :=
  s.get BJ_STAT_STEP + s.get BJ_STAT_HALTED * 2 ^ 6 + s.modeCode * 2 ^ 7 + s.get CLK_GEN_STAT_LOCK * 2 ^ 10 +
    s.get CLK_GEN_STAT_REFLOSS * 2 ^ 11 + b2n s.pins.trip * 2 ^ 12

/-- TAPSTAT. -/
def execTapstat (s : State) : Host.Outcome State Fault Refusal :=
  .next (s.tapScan 0x11 s.tapStat)

end Sys2Proof.Machine
end

