-- ==== Sys2Proof/Machine/Journal.lean ====
section
/-! DEFINITION. The boot journal in flash (16 R444, R447, R448): records, the history they give, and the CLEAR pair. -/

namespace Sys2Proof.Machine

/-! ### Records -/

/-- Address of record position p of the copy on device d. -/
def State.bjAddr (s : State) (d p : Nat) : Nat := s.flashBase d + 0x200000 + 16 * (p % 65536)

/-- The 16 bytes of a record: SEQ, its fields (TYPE, STEP, METHOD, RESULT, TIME, DETAIL) and the CRC. -/
def bjBytes (q : Nat) (f : List Nat) : List Nat :=
  let b := leBytes 4 q ++ [f.getD 0 0, f.getD 1 0, f.getD 2 0, f.getD 3 0] ++ leBytes 2 (f.getD 4 0) ++ leBytes 2 (f.getD 5 0)
  b ++ leBytes 4 (crc32c b)

/-- Program bytes: bits are only cleared. -/
def State.flashPut (s : State) (a : Nat) : List Nat → State
  | [] => s
  | b :: t => (s.setByte a (s.byte a &&& BitVec.ofNat 8 b)).flashPut (a + 1) t

/-- Write one record to every usable copy, device 0 first. Copies named in `fail` do not take it: JWERR. -/
def State.bjWrite (s : State) (fail : Nat) (f : List Nat) : State :=
  if s.flag BJ_STAT_NOJRNL then s
  else
    let r := bjBytes s.boot.seqNo f
    let p := s.boot.writePos
    let use := (List.range 2).filter (fun d => bit s.boot.copies d && !bit fail d && s.domOn 761)
    let s := use.foldl (fun s d => s.flashPut (s.bjAddr d p) r) s
    let s := if use.length < popcount 2 s.boot.copies then s.raise BJ_STAT_JWERR else s
    { s with boot := { s.boot with seqNo := (s.boot.seqNo + 1) % 2 ^ 32, writePos := (p + 1) % 65536, current := s.boot.current ++ [r] } }

/-- TIME of a record: ms since the start of bring-up, saturating. -/
def State.bjTime (s : State) : Nat := min s.boot.ms 65535

/-- Write a record of the start, or buffer it before step 4. -/
def State.bjPut (s : State) (fail : Nat) (f : List Nat) : State :=
  if s.boot.step < 4 then { s with boot := { s.boot with buffered := s.boot.buffered ++ [f] } } else s.bjWrite fail f

/-- The START record of a start: cause and profile. -/
def State.bjStart (s : State) (fail cause profile : Nat) : State := s.bjPut fail [1, cause, profile, 0, s.bjTime, 0]

/-! ### Reading -/

/-- The positions at which a copy on device d holds anything but erased bytes. -/
def State.bjPositions (s : State) (d : Nat) : List Nat :=
  let a := s.flashBase d + 0x200000
  dedupNat ((s.mem.filter (fun p => decide (a ≤ p.1) && decide (p.1 < a + 0x100000))).map (fun p => (p.1 - a) / 16))

/-- The record at a position of a copy, if its CRC matches (R448). -/
def State.bjAt (s : State) (d p : Nat) : Option (List Nat) :=
  let b := (s.bytes (s.bjAddr d p) 16).map (·.toNat)
  if crc32c (b.take 12) = ofLe (b.drop 12) then some b else none

/-- SEQ of a record. -/
def bjSeq (r : List Nat) : Nat := ofLe (r.take 4)

/-- The records valid in either copy, with their positions (R448): where the copies hold different valid records at one position, both. A copy
that takes no writes is read as well. -/
def State.bjRecords (s : State) : List (Nat × List Nat) :=
  let at_ := fun d : Nat => (s.bjPositions d).filterMap (fun p => (s.bjAt d p).map (fun r => (p, r)))
  let a := at_ 0
  a ++ (at_ 1).filter (fun x => !a.contains x)

/-- SEQ a lies after SEQ b, modulo 2^32. -/
def seqAfter (a b : Nat) : Bool :=
  let d := (a + 2 ^ 32 - b) % 2 ^ 32
  d != 0 && decide (d < 2 ^ 31)

/-- The record with the highest SEQ. -/
def bjLast : List (Nat × List Nat) → Option (Nat × List Nat)
  | [] => none
  | x :: t => match bjLast t with
    | none => some x
    | some y => if seqAfter (bjSeq x.2) (bjSeq y.2) then some x else some y

/-- Put a record among records of rising SEQ. -/
def bjInsert (x : List Nat) : List (List Nat) → List (List Nat)
  | [] => [x]
  | y :: t => if seqAfter (bjSeq x) (bjSeq y) then y :: bjInsert x t else x :: y :: t

/-- The records of the ring's window in SEQ order. -/
def bjSorted (l : List (Nat × List Nat)) : List (List Nat) :=
  match bjLast l with
  | none => []
  | some h => ((l.filter (fun x => decide ((bjSeq h.2 + 2 ^ 32 - bjSeq x.2) % 2 ^ 32 < 65536))).map (·.2)).foldr bjInsert []

/-- The records of the last start: from the last START on. -/
def bjLastStart (l : List (List Nat)) : List (List Nat) :=
  l.foldl (fun acc r => if r.getD 4 0 = 1 then [r] else if acc.isEmpty then acc else acc ++ [r]) []

/-- The mask of a CLEAR pair. -/
def clearMask (a b : List Nat) : Nat := ofLe (a.drop 8 |>.take 4) + ofLe (b.drop 8 |>.take 4) * 2 ^ 32

/-- The bits of h outside a mask. -/
def clearBits (h m : Nat) : Nat := h &&& (m ^^^ (2 ^ 64 - 1))

/-- The history mask of records in SEQ order (R444); `open_` holds the steps whose primary attempt has no outcome yet. -/
def bjHistory : List (List Nat) → Nat → List Nat → Nat
  | [], h, open_ => open_.foldl (fun h st => putBit h st true) h
  | r :: t, h, open_ =>
    let st := r.getD 5 0 % 64
    match r.getD 4 0 with
    | 1 => bjHistory t (open_.foldl (fun h st => putBit h st true) h) []
    | 2 => bjHistory t h (if r.getD 6 0 = 0 then st :: open_ else open_)
    | 3 =>
      if r.getD 6 0 = 0 ∧ r.getD 7 0 ≠ 3 then bjHistory t (putBit h st (r.getD 7 0 != 0)) (open_.filter (· != st))
      else bjHistory t h open_
    | 4 => match t with
      | x :: _ =>
        if r.getD 5 0 = 0 ∧ x.getD 4 0 = 4 ∧ x.getD 5 0 = 1 ∧ bjSeq x = (bjSeq r + 1) % 2 ^ 32 then bjHistory t (clearBits h (clearMask r x)) open_
        else bjHistory t h open_
      | [] => bjHistory t h open_
    | _ => bjHistory t h open_

/-! ### CLEAR (R444) -/

/-- A write of `BJ_CLEAR` or 0x2100:05: the pair of records, and the history of the steps named is none. It is ignored in DORMANT
and before step 4 has found the place of the records. -/
def State.bjClear (s : State) (fail mask : Nat) : State :=
  if s.mode = .dormant ∨ (s.mode = .bringUp ∧ s.boot.step ≤ 4) ∨ s.flag BJ_STAT_NOJRNL then s
  else
    let m := fun i : Nat => bits mask (16 * i + 15) (16 * i)
    let s := (s.bjWrite fail [4, 0, 0, 0, m 0, m 1]).bjWrite fail [4, 1, 0, 0, m 2, m 3]
    s.set BJ_HIST_STEPS 0 (clearBits (s.get BJ_HIST_STEPS) mask)

/-- CLEAR. `fail` names the flash devices whose programming fails. -/
def execBjClear (mask : Word) (fail : BitVec 2) (s : State) : Host.Outcome State Fault Refusal := .next (s.bjClear fail.toNat mask.toNat)

end Sys2Proof.Machine
end

