-- ==== Sys2Proof/Machine/CapoCr.lean ====
section
/-! DEFINITION. What a write of a core's registers does beside storing their fields: TLB locks (11 R319, R320), the CVU's power
states (10 R298-R301), service answers (09 R284), the core's view of the GEC (12 R341), and the ports by which a core
reaches the dictionary (15 R425, R427). -/

namespace Sys2Proof.Machine

/-! ### TLB entries (11 R317, R318) -/

/-- Bits of the virtual page number below a page size: 4 KB, 2 MB, 1 GB. -/
def sizeBits (size : Nat) : Nat := 9 * (size % 3)

/-- The entry's range contains a virtual page number. -/
def TlbEnt.maps (e : TlbEnt) (vpn : Nat) : Bool := e.vpn / 2 ^ sizeBits e.size == vpn % 2 ^ 36 / 2 ^ sizeBits e.size

/-- The ranges of two entries overlap. -/
def TlbEnt.overlaps (a b : TlbEnt) : Bool := a.maps b.vpn || b.maps a.vpn

/-- The leaf descriptor of an entry, in the layout of R307. -/
def TlbEnt.desc (e : TlbEnt) : Nat :=
  1 + (if e.size = 0 then 2 else 0) + e.mt * 4 + e.ap * 16 + b2n e.xn * 64 + b2n e.glob * 128 + e.oa * 4096

/-- The entry that a leaf descriptor makes. -/
def tlbOf (d vpn size asid : Nat) (glob : Bool) : TlbEnt :=
  ⟨vpn % 2 ^ 36 / 2 ^ sizeBits size * 2 ^ sizeBits size, size, asid, glob, bits d 45 12, bits d 3 2, bits d 5 4, bit d 6⟩

/-- R312 checks 2 and 3 of a leaf: MT, the RSV bits, and the alignment of the output address; 0 where both pass. -/
def leafCause (d size : Nat) : Nat :=
  if bits d 3 2 = 3 ∨ bits d 63 46 ≠ 0 then 2
  else if bits d 45 12 % 2 ^ sizeBits size ≠ 0 then 3
  else 0

/-! ### Locked entries (R319, R320) -/

/-- `MMU_LKCMD.LOCKED`. -/
def CoreSt.lockedMask (x : CoreSt) : Nat := x.locks.foldl (fun a p => a ||| 2 ^ (p.1 % 8)) 0

/-- A WRITE command: refused, or the entry is written and locked. -/
def State.lkWrite (s : State) (n i : Nat) : State :=
  let d := s.get MMU_LKPA_DESC n
  let size := s.get MMU_LKVA_SIZE n
  if !bit d 0 || bit d 1 != (size == 0) || leafCause d size != 0 then s.raise MMU_LKCMD_ERR n
  else
    let e := tlbOf d (s.get MMU_LKVA_VPN n) size (s.get MMU_LKVA_ASID n) (s.flag MMU_LKVA_G n)
    let x := s.core n
    s.setCore n { x with
      l1 := x.l1.filter (fun f => !f.overlaps e), l2 := x.l2.filter (fun f => !f.overlaps e), locks := insertKey x.locks i e }

/-- An UNLOCK command: the entry is removed. -/
def State.lkUnlock (s : State) (n i : Nat) : State := s.setCore n { s.core n with locks := eraseKey (s.core n).locks i }

/-- A READ command: the entry is copied into `MMU_LKVA` and `MMU_LKPA`; an unlocked entry reads as 0. -/
def State.lkRead (s : State) (n i : Nat) : State :=
  let e := lookup (s.core n).locks i
  let v := fun (f : TlbEnt → Nat) => match e with | some e => f e | none => 0
  ((((s.set MMU_LKVA_ASID n (v (·.asid))).set MMU_LKVA_SIZE n (v (·.size))).set MMU_LKVA_G n (v (fun e => b2n e.glob))).set MMU_LKVA_VPN n
    (v (·.vpn))).set MMU_LKPA_DESC n (v TlbEnt.desc)

/-- LKCMD_WRITE: IDX, and the command. -/
def execLkcmdWrite (n : Core) (i : Fin 8) (s : State) : Host.Outcome State Fault Refusal :=
  if s.domOn (720 + n.val) then .next ((s.set MMU_LKCMD_IDX n.val i.val).lkWrite n.val i.val) else .next s

/-- UNLOCK: IDX, and the command. -/
def execUnlock (n : Core) (i : Fin 8) (s : State) : Host.Outcome State Fault Refusal :=
  if s.domOn (720 + n.val) then .next ((s.set MMU_LKCMD_IDX n.val i.val).lkUnlock n.val i.val) else .next s

/-- LKCMD_READ: IDX, and the command. -/
def execLkcmdRead (n : Core) (i : Fin 8) (s : State) : Host.Outcome State Fault Refusal :=
  if s.domOn (720 + n.val) then .next ((s.set MMU_LKCMD_IDX n.val i.val).lkRead n.val i.val) else .next s

/-! ### Power states of the CVU (10 R298-R301) -/

/-- A write of RELEASE: LIVE is cleared and the unit goes Off. -/
def State.cvuRelease (s : State) (n : Nat) : State :=
  let s := s.lower CVU_STAT_LIVE n
  if s.get CVU_STAT_PSTATE n = 2 ∧ ¬ s.flag CVU_STAT_WAKING n then s else s.cvuOff n

/-- A wake starts, unless the unit is Active or a wake is in progress. The domain of a unit that is Off powers up. -/
def State.cvuWake (s : State) (n : Nat) : State :=
  if s.get CVU_STAT_PSTATE n = 0 ∨ s.flag CVU_STAT_WAKING n then s
  else
    let s := if s.get CVU_STAT_PSTATE n = 2 then s.setDom (740 + n) 1 else s
    s.raise CVU_STAT_WAKING n

/-- A wake ends: the unit is Active. From Off its registers read 0 and VL is 256. -/
def State.cvuActive (s : State) (n : Nat) : State :=
  let s := s.lower CVU_STAT_WAKING n
  if s.get CVU_STAT_PSTATE n = 2 then
    let s := (s.set CVU_VL_VL n 0x100).bump CVU_WAKES_OFFW n
    (s.setCore n { s.core n with vregs := [], vbad := [], vlate := [] }).cvuState n 0
  else (s.bump CVU_WAKES_RETW n).cvuState n 0

/-- The block of core n answers: its domain is on. -/
def State.coreOn (s : State) (n : Nat) : Bool := s.domOn (720 + n)

/-- CVU_RELEASE. -/
def execCvuRelease (n : Core) (s : State) : Host.Outcome State Fault Refusal :=
  if s.coreOn n.val then .next (s.cvuRelease n.val) else .next s
/-- CVU_WAKE. -/
def execCvuWake (n : Core) (s : State) : Host.Outcome State Fault Refusal :=
  if s.coreOn n.val then .next (s.cvuWake n.val) else .next s
/-- CVU_WAKE_DONE. -/
def execCvuWakeDone (n : Core) (s : State) : Host.Outcome State Fault Refusal :=
  if s.coreOn n.val && s.flag CVU_STAT_WAKING n.val then .next (s.cvuActive n.val) else .next s
/-- The idle timer in FCLK cycles, two to a CCLK cycle; it is stopped in deterministic mode (R299). -/
def State.cvuIdle (s : State) (n : Nat) : Nat :=
  let x := s.core n
  if s.flag CPO_MODE_DET n then x.idleFor else x.idleFor + (s.tb - x.idleAt)

/-- The idle timer has reached a field, which disables its transition where it is 0. -/
def State.cvuReached (s : State) (n k : Nat) : Bool := k != 0 && decide (2 * k ≤ s.cvuIdle n) && !s.flag CPO_MODE_DET n

/-- CVU_RETENTION (R299). -/
def execCvuRetention (n : Core) (s : State) : Host.Outcome State Fault Refusal :=
  let n := n.val
  if s.coreOn n && s.get CVU_STAT_PSTATE n == 0 && s.cvuReached n (s.get CVU_IDLE_RET n) then .next (s.cvuState n 1)
  else .next s
/-- CVU_OFF (R299): with LIVE = 1 the timer never takes the unit to Off. DESIGN CHOICE (log 209): nor does it while a wake is in progress. -/
def execCvuOff (n : Core) (s : State) : Host.Outcome State Fault Refusal :=
  let n := n.val
  if s.coreOn n && s.get CVU_STAT_PSTATE n != 2 && !s.flag CVU_STAT_WAKING n && !s.flag CVU_STAT_LIVE n &&
      s.cvuReached n (s.get CVU_IDLE_OFF n) then .next (s.cvuOff n)
  else .next s

/-! ### Service answers (09 R284) -/

/-- The core holds no SERVICE credit: its earlier answers take all that are left (06 R178). -/
def State.answerWaits (s : State) (n : Nat) : Bool :=
  let d := coreDie n
  let u := UPoint.unit (Fin.ofNat 9 d)
  let v := match nextPlace ⟨1, endCell (s.get CPO_SVC_AH_TILE n) 0, endUnit d (0x10 + n), [], u, none, 0, 0, 0, true, 0, 0⟩ with
    | some v => v
    | none => u
  decide (s.uCredit u v 1 ≤ s.uflits.countP (fun f => f.place == u && f.srcEnd == endUnit d (0x10 + n)))

/-- A write of `CPO_SVC_AD`: the answer leaves for the cell that `CPO_SVC_AH` names. -/
def State.sendAnswer (s : State) (n v : Nat) : State :=
  let d := coreDie n
  s.inject (.unit (Fin.ofNat 9 d)) 1 (endCell (s.get CPO_SVC_AH_TILE n) (s.get CPO_SVC_AH_LCELL n)) (endUnit d (0x10 + n))
    [v, s.get CPO_SVC_AH_ASLOT n]

/-! ### The offer of the GEC (12 R338, R341) -/

/-- A core's pending inputs: line 1, enabled, assigned to the core. -/
def State.coreInputs (s : State) (n : Nat) : List Nat :=
  (s.listed GEC_EN_EN).filter (fun i => s.flag GEC_EN_EN i && s.flag GEC_IN_LEVEL i && s.get GEC_IN_CUR i == n)

/-- The input with the highest PRIO, and among equals the lowest input number. -/
def State.bestInput (s : State) : List Nat → Option Nat
  | [] => none
  | i :: t => match s.bestInput t with
    | none => some i
    | some j =>
      if s.get GEC_IN_PRIO j < s.get GEC_IN_PRIO i ∨ (s.get GEC_IN_PRIO j = s.get GEC_IN_PRIO i ∧ i ≤ j) then some i else some j

/-- The highest pending input assigned to the core (`CPO_EVT_TOP`). -/
def State.topInput (s : State) (n : Nat) : Option Nat := if s.domOn 764 then s.bestInput (s.coreInputs n) else none

/-- The input that the GEC selects for a core; priority 0 is never offered. -/
def State.selection (s : State) (n : Nat) : Option (Nat × Nat) :=
  match s.topInput n with
  | some i => if s.get GEC_IN_PRIO i = 0 then none else some (i, s.get GEC_IN_PRIO i)
  | none => none

/-- The offer that has reached a core (R341). -/
def State.offer (s : State) (n : Nat) : Option (Nat × Nat) := (s.events.offered.find? (fun e => e.1 == n)).map (·.2)

/-- One CCLK cycle of the GEC: what it had selected reaches the cores, and it selects anew (R341). -/
def State.offerEdge (s : State) : State :=
  { s with events := { s.events with
      offered := s.events.selected
      selected := (List.range 20).filterMap (fun n => (s.selection n).map (fun e => (n, e))) } }

/-! ### Dictionary ports of the cores (15 R425, R427) -/

/-- Byte n of a core's buffer area: n bytes from LSRAM offset 512 × BUF. -/
def State.bufBytes (s : State) (n buf len : Nat) : List Nat := (s.portBytes false (lsramBase n + 512 * buf) len).map (·.toNat)

/-- A write of GO to `MGT_LMBX`n. -/
def State.localGo (s : State) (n : Nat) : State :=
  let len := s.get MGT_LMBX_REQLEN n
  if s.flag MGT_LMBX_BUSY n || len == 0 || decide (256 < len) then s.raise MGT_LMBX_ERR n
  else
    let b := s.bufBytes n (s.get MGT_LMBX_BUF n) len
    (s.raise MGT_LMBX_BUSY n).setXport (1 + n) { s.xport (1 + n) with waiting := some (s.tb, b), buf := s.get MGT_LMBX_BUF n }

/-- LOCAL_PORT_REQUEST: REQLEN, BUF and GO. -/
def execLocalPortRequest (n : Core) (len : BitVec 9) (buf : BitVec 9) (s : State) : Host.Outcome State Fault Refusal :=
  if s.domOn 763 && s.coreOn n.val then
    .next (((s.set MGT_LMBX_REQLEN n.val len.toNat).set MGT_LMBX_BUF n.val buf.toNat).localGo n.val)
  else .next s

/-- A request of the module is outstanding on a lane. -/
def State.ldictBusy (s : State) (l : Nat) : Bool :=
  (s.listed MGT_LDICT_BUSY).any (fun i => s.flag MGT_LDICT_BUSY i && (s.ldict i).lane == l)

/-- Bytes as the 8-byte beats of a DICT message, the last one padded with zeros (R426). -/
def dictBeats : Nat → List Nat → List Nat
  | 0, _ => []
  | k + 1, l => if l.isEmpty then [] else ofLe (l.take 8) :: dictBeats k (l.drop 8)

/-- A write of GO to `MGT_LDICT`n. -/
def State.ldictGo (s : State) (n : Nat) : State :=
  let len := s.get MGT_LDICT_REQLEN n
  let l := s.get MGT_LDICT_LANE n
  if s.flag MGT_LDICT_BUSY n || len == 0 || decide (64 < len) || !s.laneUp l || s.ldictBusy l then s.raise MGT_LDICT_ERR n
  else
    let b := s.bufBytes n (s.get MGT_LDICT_BUF n) len
    let s : State := { s with ldicts := sput s.ldicts n ⟨b.getD 1 0, l, s.get MGT_LDICT_BUF n⟩ LdictSt.zero }
    (s.raise MGT_LDICT_BUSY n).pushCtl l ⟨9, dictBeats 8 b⟩

/-- LDICT_REQUEST: REQLEN, LANE, BUF and GO. -/
def execLdictRequest (n : Core) (len : BitVec 9) (lane : Lane) (buf : BitVec 9) (s : State) : Host.Outcome State Fault Refusal :=
  if s.domOn 763 && s.coreOn n.val then
    let s := ((s.set MGT_LDICT_REQLEN n.val len.toNat).set MGT_LDICT_LANE n.val lane.val).set MGT_LDICT_BUF n.val buf.toNat
    .next (s.ldictGo n.val)
  else .next s

/-- LDICT_TIMEOUT: no response in time. -/
def execLdictTimeout (n : Core) (s : State) : Host.Outcome State Fault Refusal :=
  if s.flag MGT_LDICT_BUSY n.val then .next ((s.lower MGT_LDICT_BUSY n.val).raise MGT_LDICT_TMO n.val) else .next s

end Sys2Proof.Machine
end

