-- ==== Sys2Proof/Machine/Regs.lean ====
section
/-! DEFINITION. The register spaces (00 R7-R14, 13 R352, R353): where an address leads, what a register reads, what a write of it
does, and accesses to any physical address by an agent. -/

namespace Sys2Proof.Machine

/-! ### Where an address leads (R353) -/

/-- A place in the register spaces: a block, its unit (die, lane, cluster, core, channel or cell) and the offset in it. -/
structure RegAt where
  block : Block
  unit : Nat
  off : Nat
  deriving DecidableEq, Repr

/-- The block at an offset of the hub register space. -/
def hubAt (o : Nat) : Option RegAt :=
  if o < 0x1000 then some ⟨.clk, 0, o⟩
  else if o < 0x10000 then some ⟨.clkGen, 0, o - 0x1000⟩
  else if o < 0x20000 then some ⟨.ckp, 0, o % 0x10000⟩
  else if o < 0x21000 then some ⟨.mgt, 0, o % 0x1000⟩
  else if o < 0x22000 then some ⟨.img, 0, o % 0x1000⟩
  else if o < 0x23000 then some ⟨.flash, 0, o % 0x1000⟩
  else if o < 0x30000 then none
  else if o < 0x40000 then some ⟨.fab, 8, o % 0x10000⟩
  else if o < 0x50000 then some ⟨.lec, 8, o % 0x10000⟩
  else if o < 0x60000 then some ⟨.gec, 0, o % 0x10000⟩
  else if o < 0x70000 then some ⟨.spt, 0, o % 0x10000⟩
  else if o < 0x80000 then some ⟨.pwr, 0, o % 0x10000⟩
  else if o < 0x80000 + 0x8000 * 20 then some ⟨.cpo, o / 0x8000 - 16, o % 0x8000⟩
  else if o < 0x200000 then none
  else if o < 0x210000 then some ⟨.pci, 0, o % 0x10000⟩
  else if o < 0x214000 then some ⟨.pciCh, o % 0x4000 / 0x40, o % 0x40⟩
  else if o < 0x300000 then none
  else if o < 0x301000 then some ⟨.trc, 0, o % 0x1000⟩
  else if o < 0x302400 then some ⟨.dbg, o % 0x100000 / 0x100 - 0x10, o % 0x100⟩
  else if o < 0x400000 then none
  else if o < 0x800000 then some ⟨.bj, 0, o % 0x400000⟩
  else none

/-- The block at an offset of tile register space t; the path table is none of them. -/
def tileAt (t o : Nat) : Option RegAt :=
  if o < 0x100000 then none
  else if o < 0x200000 then some ⟨.fab, t, o % 0x100000⟩
  else if o < 0x204000 then some ⟨.lnk, 64 * t + o % 0x100000 / 0x100, o % 0x100⟩
  else if o < 0x210000 then none
  else if o < 0x220000 then some ⟨.lremap, t, o % 0x10000⟩
  else if o < 0x300000 then none
  else if o < 0x310000 then some ⟨.clu, 16 * t + o % 0x10000 / 0x1000, o % 0x1000⟩
  else if o < 0x400000 then none
  else if o < 0x500000 then some ⟨.tme, t, o % 0x100000⟩
  else if o < 0x600000 then some ⟨.lec, t, o % 0x100000⟩
  else if o < 0x800000 then some ⟨.probe, t, o % 0x200000⟩
  else none

/-- The block of a register address. -/
def regAt (a : Nat) : Option RegAt :=
  match region a with
  | .hubReg => hubAt (a % 0x1000000)
  | .tileReg => tileAt (a % 0x200000000 / 0x40000000) (a % 0x40000000)
  | _ => none

/-- The domain that holds a block. `SPT_`, `PWR_`, `BJ_` and the clock and checkpoint blocks answer with the hub interconnect; of a
lane's registers, `LNK_MARGIN` and `LNK_RXCFG` belong to the logical lane and sit in the tile fabric domain (07 R218). -/
def RegAt.domain (r : RegAt) : Nat :=
  match r.block with
  | .mgt | .img => 763
  | .flash => 761
  | .fab => if r.unit = 8 then 760 else 712 + r.unit
  | .lec => if r.unit = 8 then 764 else 712 + r.unit
  | .gec => 764
  | .cpo => 720 + r.unit
  | .pci | .pciCh => 762
  | .trc | .dbg => 765
  | .lnk => if r.off = 0x38 ∨ r.off = 0x40 then 712 + r.unit / 64 else 640 + r.unit / 8
  | .lremap | .probe => 712 + r.unit
  | .clu => 712 + r.unit / 16
  | .tme => 704 + r.unit
  | _ => 760

/-- The register at an offset of a block: its name and instance. -/
def RegAt.reg (r : RegAt) : Option (RegName × Nat) :=
  ((blockRegs r.block).find? (fun e => decide (e.1 ≤ r.off) && decide (r.off < e.1 + 8 * e.2.1))).map
    (fun e => (e.2.2, if e.2.1 = 1 then r.unit else r.unit * e.2.1 + (r.off - e.1) / 8))

/-! ### Reading a register -/

/-- Registers that hold one narrow field for each of many sources or inputs: fields per register, and their stride. -/
def packing : RegName → Option (Nat × Nat)
  | .LEC_SENSE => some (16, 4)
  | .LEC_ROUTE | .LEC_CNT => some (8, 8)
  | .LEC_EN | .LEC_PEND | .LEC_PCLR | .LEC_RAW | .GEC_EN | .GEC_LVL => some (64, 1)
  | _ => none

/-- The value of the fields of a register that are stored as they read. -/
def State.plainRead (s : State) (r : RegName) (i : Nat) : Nat :=
  (regFields r).foldl (fun a f => if f.acc == .wo then a else a + s.get f i * 2 ^ f.lo) 0

/-- A mask of the k in [0, n) that satisfy p. -/
def maskOf (n : Nat) (p : Nat → Bool) : Nat := (List.range n).foldl (fun a k => if p k then a + 2 ^ k else a) 0

/-- A packed register. -/
def State.packedRead (s : State) (f : Field) (m stride i : Nat) : Nat :=
  (List.range m).foldl (fun a k => a + s.get f (m * i + k) * 2 ^ (stride * k)) 0

/-- The lowest source of LEC e that drives a line (12 R349). -/
def State.lecFind (s : State) (e line : Nat) : Option Nat :=
  (List.range 512).find? (fun k => s.flag LEC_EN_EN (512 * e + k) && s.flag LEC_PEND_PEND (512 * e + k) && s.get LEC_ROUTE_LINE (512 * e + k) == line)

/-- The 48 bytes of a fault-log record, as a number (19 R497). -/
def FltRec.image (r : FltRec) : Nat :=
  r.seq + r.code % 2 ^ 16 * 2 ^ 32 + r.mode % 256 * 2 ^ 48 + r.flags % 256 * 2 ^ 56 + r.stroke % 2 ^ 64 * 2 ^ 64 + r.tb % 2 ^ 64 * 2 ^ 128 +
    r.scyc % 2 ^ 16 * 2 ^ 192 + r.tile % 256 * 2 ^ 208 + r.loc % 2 ^ 16 * 2 ^ 224 + r.pcell % 2 ^ 16 * 2 ^ 240 + r.d0 % 2 ^ 64 * 2 ^ 256 +
    r.d1 % 2 ^ 64 * 2 ^ 320

/-- The record that `MGT_FLT_SEL` names. -/
def State.fltSelected (s : State) : Option FltRec := s.fltRecs.find? (fun r => r.seq == s.get MGT_FLT_SEL_SEQ)

/-- A claim-shaped value: input, PRIO and VALID. -/
def State.topValue (s : State) (n : Nat) : Nat :=
  match s.topInput n with
  | some i => i + s.get GEC_IN_PRIO i * 2 ^ 12 + 2 ^ 16
  | none => 0

/-- The oldest trigger record of LEC e. -/
def State.trqHead (s : State) (e : Nat) : Option TrigRec := if e < 8 then (s.tile e).trigQ.head? else none

/-- Credits held by a lane, or pairs it queues, of the four classes. -/
def State.lnkCredits (s : State) (n : Nat) : Nat :=
  (List.range 4).foldl (fun a k => a + (s.lane n).cred.getD k 0 % 256 * 2 ^ (8 * k) + (s.lane n).rxq.countP (fun p => p.1 == k) % 256 * 2 ^ (32 + 8 * k)) 0

/-- What a register reads (R7; computed registers by their own rules). -/
def State.regRead (s : State) (r : RegName) (i : Nat) : Nat :=
  let p := s.plainRead r i
  match r with
  | .CLK_TB => s.tb
  | .CKP_STAT => p + 2 * b2n s.pausing
  | .CKP_FILL => s.ckpFill i
  | .MGT_MODE => p / 8 * 8 + s.modeCode
  | .TRC_STAT => p + min s.trace.buffer.length 4096 * 2 ^ 16
  | .MGT_FLT_STAT => min s.fltRecs.length 1024 + b2n s.alertLow * 2 ^ 11 + b2n s.faultRec * 2 ^ 12 + s.fltHw % 8 * 2 ^ 13 +
      (if s.fltAny then (s.fltNext + 2 ^ 32 - 1) % 2 ^ 32 * 2 ^ 32 else 0)
  | .MGT_FLT_SEL => p % 2 ^ 32 + b2n s.fltSelected.isSome * 2 ^ 32
  | .MGT_FLT_REC => match s.fltSelected with | some x => x.image / 2 ^ (64 * i) % 2 ^ 64 | none => 0
  | .FAB_STAT => p % 2 ^ 32 + maskOf 4 (s.drained i) * 2 ^ 32
  | .LEC_SENSE => s.packedRead LEC_SENSE_SENSE 16 4 i
  | .LEC_ROUTE => s.packedRead LEC_ROUTE_LINE 8 8 i
  | .LEC_CNT => s.packedRead LEC_CNT_CNT 8 8 i
  | .LEC_EN => s.packedRead LEC_EN_EN 64 1 i
  | .LEC_PEND | .LEC_PCLR => s.packedRead LEC_PEND_PEND 64 1 i
  | .LEC_RAW => s.packedRead LEC_RAW_RAW 64 1 i
  | .LEC_LINE => maskOf 64 (fun l => s.gecLine (64 * i + l))
  | .LEC_FIND => match s.lecFind i (s.get LEC_FIND_LINE i) with
    | some k => s.get LEC_FIND_LINE i + k * 2 ^ 16 + 2 ^ 25
    | none => s.get LEC_FIND_LINE i
  | .LEC_TRQV => match s.trqHead i with | some x => x.val.toNat | none => 0
  | .LEC_TRQA => match s.trqHead i with
    | some x => x.code % 256 + x.lcell % 1024 * 2 ^ 8 + x.scyc % 2 ^ 16 * 2 ^ 18 + 2 ^ 34
    | none => 0
  | .LEC_TRQS => match s.trqHead i with | some x => x.stroke % 2 ^ 64 | none => 0
  | .LEC_TRQCTL => p % 4 + (if i < 8 then (s.tile i).trigQ.length else 0) * 2 ^ 8
  | .LEC_SWEV => 0
  | .GEC_EN => s.packedRead GEC_EN_EN 64 1 i
  | .GEC_LVL => maskOf 64 (fun k => s.flag GEC_IN_LEVEL (64 * i + k))
  | .PWR_ON => maskOf 64 (fun k => s.domOn (64 * i + k))
  | .CPO_RSSTAT => p / 32 * 32 + (s.core i).rs.length % 32
  | .CPO_EVT_TOP => s.topValue i
  | .MMU_LKCMD => p % 256 + (s.core i).lockedMask * 2 ^ 8 + p / 2 ^ 16 * 2 ^ 16
  | .PCI_PENDSTAT => p / 2 ^ 32 * 2 ^ 32 + s.admStore % 2 ^ 17
  | .PCI_CHSTAT => p % 256 + ((s.chan i).wr - (s.chan i).rd) % 2 ^ 25 * 2 ^ 8
  | .BJ_RDYT => maskOf 8 (fun t => s.ready t) + maskOf 8 (fun t => s.ready (3072 + t)) * 2 ^ 8 + maskOf 8 (fun t => s.ready (4096 + t)) * 2 ^ 16 +
      maskOf 20 (fun n => s.ready (5120 + n)) * 2 ^ 24 + maskOf 6 (fun k => s.ready (6144 + k)) * 2 ^ 44
  | .BJ_RDYC => maskOf 64 (fun k => s.ready (1024 + 64 * i + k))
  | .BJ_RDYL => maskOf 64 (fun k => s.ready (2048 + 64 * i + k))
  | .LNK_UCRED => s.lnkCredits i
  | .LNK_URXH => match s.urxHead i with | some x => x.2.1.toNat | none => 0
  | .LNK_URXD => match s.urxHead i with | some x => x.2.2.toNat | none => 0
  | .LNK_URXCTL => p % 4 + b2n (s.urxHead i).isNone * 8
  | .LNK_REMAP => p % 2 ^ 9 + b2n (s.laneShadow i != s.laneMap i) * 2 ^ 9
  | .CLU_REMAP => p % 2 ^ 16 + b2n (s.shadowEntry (i / 68) (i % 68) != s.remap i) * 2 ^ 16
  | .CLU_FLAGS0 => maskOf 64 (fun k => s.cellFlags (68 * i + k))
  | .CLU_FLAGS1 => maskOf 4 (fun k => s.cellFlags (68 * i + 64 + k))
  | .CELL_ID => i + s.remap i % 64 * 2 ^ 16 + i % 1088 / 68 * 2 ^ 24 + i / 1088 * 2 ^ 28 + s.remap i / 256 % 4 * 2 ^ 32
  | .CELL_LC0 => ((s.cell i).rd 6 0).toNat
  | .CELL_LC1 => ((s.cell i).rd 6 1).toNat
  | .CELL_DIRTY => (s.cell (i / 8)).dirty / 2 ^ (64 * (i % 8)) % 2 ^ 64
  | .CELL_INBARR => (s.cell (i / 8)).arrived / 2 ^ (64 * (i % 8)) % 2 ^ 64
  | _ => p

/-! ### Writing a register -/

/-- The new value of a field under a write of the bits of `mask` (R8, R10). -/
def Field.merged (f : Field) (old v mask : Nat) : Nat :=
  let m := bits mask (f.lo + f.width - 1) f.lo
  merge old (bits v (f.lo + f.width - 1) f.lo) m

/-- An RW field takes a value that a register write gives it: what hardware has set in the same cycle stands, and a counter counts on by its
increments of the cycle (R13, R14). -/
def State.putRw (s : State) (f : Field) (i v : Nat) : State :=
  { s.set f i (min ((v ||| s.cycle.fresh f i) + s.cycle.counted f i) (2 ^ f.width - 1)) with
    cycle := if f.width = 1 then s.cycle.addWrite f i v else s.cycle }

/-- A field takes a register write by its access code (R7, R10); a W1C write leaves bits that are set in the same cycle (R13). -/
def State.putField (s : State) (f : Field) (i v mask : Nat) : State :=
  let m := bits mask (f.lo + f.width - 1) f.lo
  let w := bits v (f.lo + f.width - 1) f.lo &&& m
  let new := f.merged (s.get f i - s.cycle.counted f i) v mask
  if m = 0 then s
  else match f.acc with
    | .rw => if f.ok new then s.putRw f i new else s
    | .w1c => s.set f i (s.get f i &&& ((w ^^^ (2 ^ f.width - 1)) ||| s.cycle.fresh f i))
    | .w1s => s.setBits f i w
    | .ro | .wo => s

/-- All fields of a register but some take a write. -/
def State.putFields (s : State) (r : RegName) (i v mask : Nat) (skip : List Field) : State :=
  (regFields r).foldl (fun s f => if skip.any (fun g => g.id == f.id) then s else s.putField f i v mask) s

/-- The bit of a trigger field is written 1. -/
def hit (f : Field) (v mask : Nat) : Bool := bit v f.lo && bit mask f.lo

/-- Do something if a trigger is hit. -/
def State.whenHit (s : State) (f : Field) (v mask : Nat) (act : State → State) : State := if hit f v mask then act s else s

/-- A packed RW register takes a write. -/
def State.packedWrite (s : State) (f : Field) (m stride i v mask : Nat) : State :=
  (List.range m).foldl (fun s k =>
    if bits mask (stride * k + f.width - 1) (stride * k) = 0 then s
    else s.putRw f (m * i + k) (merge (s.get f (m * i + k) - s.cycle.counted f (m * i + k)) (bits v (stride * k + f.width - 1) (stride * k))
      (bits mask (stride * k + f.width - 1) (stride * k)))) s

/-- A write of `LEC_CNT`: the counter of a reserved source stays at 0 (12 R331). -/
def State.countWrite (s : State) (i v mask : Nat) : State :=
  let live := (List.range 8).foldl (fun m k => if reservedSource (8 * i + k) then m else m + 255 * 256 ^ k) 0
  s.packedWrite LEC_CNT_CNT 8 8 i v (mask &&& live)

/-- A register whose whole value is one action: its old value with the written bits. -/
def State.mergedReg (s : State) (r : RegName) (i v mask : Nat) : Nat := merge (s.regRead r i) v mask

/-- The readiness sources follow `BJ_RDYEV` (16 R450). -/
def State.readyLevels (s : State) : State :=
  (List.range 9).foldl (fun s t => s.lecSample (if t = 8 then 4096 + 0x11E else 512 * t + 0x1FF) (bit (s.get BJ_RDYEV_CHG) t)) s

/-- A source that flag registers drive is sampled at its level. -/
def State.resample (s : State) (e src : Nat) : State := s.sampleSource e src false

/-- Registers of the clock and checkpoint blocks. -/
def State.writeTime (s : State) (r : RegName) (i v mask : Nat) : State :=
  match r with
  | .CLK_STROKE_CFG => s.periodWrite (CLK_STROKE_CFG_PERIOD.merged (s.get CLK_STROKE_CFG_PERIOD) v mask)
  | .CLK_TSTART => if s.mode = .run then s else s.putFields r i v mask []
  | .CLK_TM_CTL =>
    let s := s.putFields r i v mask [CLK_TM_CTL_ROLE]
    if bits mask 1 0 = 0 then s else s.roleWrite (CLK_TM_CTL_ROLE.merged (s.get CLK_TM_CTL_ROLE) v mask)
  | .CKP_CTL =>
    let s := s.putFields r i v mask []
    let s := s.whenHit CKP_CTL_REQHOLD v mask State.reqHold
    let s := s.whenHit CKP_CTL_GO v mask State.goCommand
    let s := s.whenHit CKP_CTL_ADOPT v mask State.adopt
    s.whenHit CKP_CTL_RESTORE v mask State.restoreCommand
  | .CKP_POL => s.putFields r i v mask (if s.mode = .run then [CKP_POL_N] else [])
  | .CKP_AREA => if s.mode = .ready ∨ s.mode = .bringUp then s.putFields r i v mask [] else s
  | _ => s.putFields r i v mask []

/-- Registers of the management block. Local ports take writes of their own core alone. -/
def State.writeMgt (s : State) (a : Agent) (r : RegName) (i v mask : Nat) : State :=
  let own := match a with | .core n => n.val == i | _ => false
  match r with
  | .MGT_CAN => (s.putFields r i v mask []).canLevel i
  | .MGT_LMBX => if own then (s.putFields r i v mask []).whenHit MGT_LMBX_GO v mask (fun s => s.localGo i) else s
  | .MGT_LDICT => if own then (s.putFields r i v mask []).whenHit MGT_LDICT_GO v mask (fun s => s.ldictGo i) else s
  | .MGT_FLT_ACK => s.faultAck (s.mergedReg r i v mask % 2 ^ 32)
  | .MGT_FLT_SW => s.moduleFault (v &&& mask)
  | .MGT_IMG_ADDR => s.imgAddrWrite a (s.mergedReg r i v mask)
  | .MGT_IMG_CTL =>
    if s.owns a then ((s.putFields r i v mask []).hubLevels).whenHit MGT_IMG_CTL_APPLY v mask (fun s => s.applyWrite a)
    else s.loadForeign
  | .MGT_FLCMD =>
    let s := s.putFields r i v mask []
    s.whenHit MGT_FLCMD_GO v mask (fun s => if s.get MGT_FLCMD_OP = 0 ∨ s.get MGT_FLCMD_OP = 3 then s else s.flashGo (s.get MGT_FLCMD_OP))
  | _ => s.putFields r i v mask []

/-- A write of `FAB_RSV`: a PHASE that is not below PERIOD is reserved (06 R168). -/
def State.reservedWrite (s : State) (i v mask : Nat) : State :=
  let s := s.putFields .FAB_RSV i v mask [FAB_RSV_PHASE]
  if FAB_RSV_PHASE.merged (s.get FAB_RSV_PHASE i) v mask < s.get FAB_RSV_PERIOD i then s.putField FAB_RSV_PHASE i v mask else s

/-- A write of `TME_ECC`: one that leaves RECON 0 clears the reconstruction counts of the channels (13 R366; DESIGN CHOICE, log 170). -/
def State.eccWrite (s : State) (i v mask : Nat) : State :=
  let s := s.putFields .TME_ECC i v mask []
  if bits mask 63 32 ≠ 0 ∧ s.get TME_ECC_RECON i = 0 then s.setTile i { s.tile i with recon := [] } else s

/-- Registers of the fabric, lane and cluster blocks. -/
def State.writeTile (s : State) (r : RegName) (i v mask : Nat) : State :=
  match r with
  | .FAB_CTL => (s.putFields r i v mask []).whenHit FAB_CTL_COMMIT v mask (fun s => if i < 8 then s.spareCommit i else s)
  | .FAB_RSV => if s.mode = .run then s else s.reservedWrite i v mask
  | .LNK_RXCFG => if s.mode = .run then s else s.putFields r i v mask []
  | .FAB_STAT => (s.putFields r i v mask []).fabLevels i
  | .FAB_XSPARE => if i < 8 then s.putFields r i v mask [] else s
  | .LNK_CTL =>
    let s := s.putFields r i v mask (LNK_CTL_EN :: (if s.mode = .run then [LNK_CTL_BUNDLE] else []))
    let s := if bit mask 0 then s.laneEnable i (bit v 0) else s
    let s := if s.laneUp i then s.identityCheck i else s
    s.whenHit LNK_CTL_RETRAIN v mask (fun s => s.retrain i)
  | .LNK_EXP =>
    let s := s.putFields r i v mask []
    if s.laneUp i then s.identityCheck i else s
  | .LNK_STAT => (s.putFields r i v mask []).laneLevels i
  | .LNK_CAL => s.calWrite i (s.mergedReg r i v mask)
  | .LNK_UTXH => s.setLane i { s.lane i with utxh := BitVec.ofNat 64 (merge (s.lane i).utxh.toNat v mask) }
  | .LNK_UTXD => s.utxdWrite i (BitVec.ofNat 64 (v &&& mask))
  | .LNK_URXCTL => (s.putFields r i v mask []).whenHit LNK_URXCTL_POP v mask (fun s => s.urxPop i)
  | .LNK_REMAP_CTL =>
    let s := (s.putFields r i v mask []).whenHit LNK_REMAP_CTL_COMMIT v mask (fun s => s.laneCommit i)
    s.whenHit LNK_REMAP_CTL_REVERT v mask (fun s => s.laneRevert i)
  | .CLU_REMAP_CTL =>
    let s := (s.putFields r i v mask []).whenHit CLU_REMAP_CTL_COMMIT v mask (fun s => s.remapCommit i)
    s.whenHit CLU_REMAP_CTL_REVERT v mask (fun s => s.remapRevert i)
  | .CLU_SPARE => s.ponWrite i (CLU_SPARE_PON.merged (s.get CLU_SPARE_PON i) v mask)
  | .CLU_SWAP_STROKE => if s.flag CLU_SWAP_CTL_ARM i then s else s.putFields r i v mask []
  | .CLU_SWAP_CTL =>
    let s := s.putFields r i v mask [CLU_SWAP_CTL_ARM]
    let s := if bit mask 0 then s.swapArm i (bit v 0) else s
    (s.whenHit CLU_SWAP_CTL_SETPAGE v mask (fun s => s.setPage i)).resample (i / 16) (0x120 + i % 16)
  | .TME_STAT => ((s.putFields r i v mask []).tmeLevel i).stackReady i
  | .TME_ECC => s.eccWrite i v mask
  | .TRC_HALTC => (List.range 16).foldl (fun s k => s.resample i (0x110 + k)) (s.putFields r i v mask [])
  | _ => s.putFields r i v mask []

/-- Registers of a cell. -/
def State.writeCell (s : State) (r : RegName) (i v mask : Nat) : State :=
  let status := fun (s : State) => s.resample (i / 1088) (0x100 + i % 1088 / 68)
  match r with
  | .CELL_CTL | .CELL_STAT => status (s.putFields r i v mask [])
  | .CELL_IMCFG => if s.mode = .ready ∨ s.mode = .hold then s.putFields r i v mask [] else s
  | .CELL_LC0 => if s.mode ≠ .ready ∧ s.mode ≠ .hold then s else s.setCell i ((s.cell i).wr 6 0 (BitVec.ofNat 64 (v &&& 0x107FF07FFFFFF)) (BitVec.ofNat 64 (mask &&& 0x107FF07FFFFFF)))
  | .CELL_LC1 => if s.mode ≠ .ready ∧ s.mode ≠ .hold then s else s.setCell i ((s.cell i).wr 6 1 (BitVec.ofNat 64 (v &&& 0x107FF07FFFFFF)) (BitVec.ofNat 64 (mask &&& 0x107FF07FFFFFF)))
  | _ => s.putFields r i v mask []

/-- Registers of the event path. -/
def State.writeEvent (s : State) (r : RegName) (i v mask : Nat) : State :=
  match r with
  | .LEC_SENSE => s.senseWrite (i / 32) (i % 32) (s.mergedReg r i v mask) mask
  | .LEC_ROUTE => (s.packedWrite LEC_ROUTE_LINE 8 8 i v mask).gecSyncLec (i / 64)
  | .LEC_CNT => s.countWrite i v mask
  | .LEC_EN => (s.packedWrite LEC_EN_EN 64 1 i v mask).gecSyncLec (i / 8)
  | .LEC_PEND => s.pendWrite (i / 8) (i % 8) (s.mergedReg r i v mask)
  | .LEC_PCLR => s.pclrWrite (i / 8) (i % 8) (v &&& mask)
  | .LEC_TRQCTL => (s.putFields r i v mask []).whenHit LEC_TRQCTL_POP v mask (fun s => s.trqPop i)
  | .LEC_SWEV => if i = 8 then s.softEvents (v &&& mask) else s
  | .GEC_EN => s.packedWrite GEC_EN_EN 64 1 i v mask
  | _ => s.putFields r i v mask []

/-- Registers of the power controller. -/
def State.writePower (s : State) (a : Agent) (r : RegName) (i v mask : Nat) : State :=
  let s := s.putFields r i v mask []
  match r with
  | .PWR_CMD => s.whenHit PWR_CMD_GO v mask (fun s => s.powerGo a)
  | .PWR_STAT => s.powerLevel
  | .PWR_THERM | .PWR_SUPPLY => s.sensorLevels
  | .PWR_PMBCMD => s.whenHit PWR_PMBCMD_GO v mask State.pmbusGo
  | _ => s

/-- Control registers of a core, as the core's own MTCR writes them (09 R261, 11 R305). -/
def State.writeCore (s : State) (r : RegName) (n v mask : Nat) : State :=
  let det := s.flag CPO_MODE_DET n
  let t := s.putFields r n v mask []
  match r with
  | .CPO_MODE =>
    let x := t.core n
    if !det && t.flag CPO_MODE_DET n then t.setCore n { x with icache := [], dcache := [], idleFor := s.cvuIdle n }
    else if det && !t.flag CPO_MODE_DET n then t.setCore n { x with idleAt := t.tb }
    else t
  | .CPO_SVC_RQ => t.serviceLevel n
  | .CPO_SVC_AD => t.sendAnswer n (v &&& mask)
  | .MMU_LKCMD =>
    let t := t.whenHit MMU_LKCMD_WRITE v mask (fun s => s.lkWrite n (s.get MMU_LKCMD_IDX n))
    let t := t.whenHit MMU_LKCMD_UNLOCK v mask (fun s => s.lkUnlock n (s.get MMU_LKCMD_IDX n))
    t.whenHit MMU_LKCMD_READ v mask (fun s => s.lkRead n (s.get MMU_LKCMD_IDX n))
  | .CVU_CTL =>
    let t := t.whenHit CVU_CTL_RELEASE v mask (fun s => s.cvuRelease n)
    t.whenHit CVU_CTL_WAKE v mask (fun s => s.cvuWake n)
  | _ => t

/-- Registers of the PCIe endpoint. -/
def State.writePci (s : State) (r : RegName) (i v mask : Nat) : State :=
  match r with
  | .PCI_CTL => (s.putFields r i v mask []).whenHit PCI_CTL_PENDLOAD v mask State.pendLoad
  | .PCI_STAT => (s.putFields r i v mask []).pciLevel
  | .PCI_MBX => (s.putFields r i v mask []).whenHit PCI_MBX_GO v mask State.mailboxGo
  | .PCI_CHSQ | .PCI_CHCQ => if s.flag PCI_CHCTL_EN i then s else s.putFields r i v mask []
  | .PCI_CHCTL =>
    let s := s.putFields r i v mask [PCI_CHCTL_EN]
    if bit mask 0 then s.channelEnable i (bit v 0) else s
  | .PCI_CHSTAT => (s.putFields r i v mask []).chanLevel i
  | _ => s.putFields r i v mask []

/-- Registers of the trace and debug blocks. -/
def State.writeTrace (s : State) (a : Agent) (r : RegName) (i v mask : Nat) : State :=
  match r with
  | .TRC_CTL =>
    let s := s.putFields r i v mask [TRC_CTL_EN]
    if !bit mask 0 then s else if bit v 0 then s.traceEnable else s.write0 TRC_CTL_EN
  | .TRC_WIN => if s.flag TRC_CTL_EN then s else s.putFields r i v mask []
  | .TRC_STAT => (s.putFields r i v mask []).trcLevel
  | .TRC_FRZ => (s.putFields r i v mask []).whenHit TRC_FRZ_NOW v mask (fun s => s.traceFreeze 5)
  | .TRC_SWMSG => s.swMessage a (v &&& mask)
  | .TRC_DBGEV => (s.putFields r i v mask []).debugLevel
  | .TRC_CDBG =>
    let s := s.putFields r i v mask [TRC_CDBG_HALT]
    let s := s.whenHit TRC_CDBG_HALT v mask (fun s => s.debugHalt i)
    let s := s.whenHit TRC_CDBG_RUN v mask (fun s => s.debugRun i false)
    s.whenHit TRC_CDBG_STEP v mask (fun s => s.debugRun i true)
  | .TRC_CR =>
    let n := i / 7
    let w := merge (s.get TRC_CR_VALUE i) v mask
    if !(s.core n).halted then s
    else
      let w := match i % 7 with
        | 3 | 4 => w / 8 * 8
        | 5 => w % 2 ^ 48 / 2 * 2
        | 6 => stWrite (s.core n).st w
        | _ => w
      s.set TRC_CR_VALUE i w
  | _ => s.putFields r i v mask []

/-- Registers of the boot block. -/
def State.writeBoot (s : State) (r : RegName) (i v mask : Nat) : State :=
  match r with
  | .BJ_STAT => (s.putFields r i v mask []).resample 8 0x11D
  | .BJ_CLEAR => s.bjClear 0 (v &&& mask)
  | .BJ_RDYEV => (s.putFields r i v mask []).readyLevels
  | _ => s.putFields r i v mask []

/-- A write of the bits of `mask` of a register by an agent. A core's own registers take the writes of other agents only while
the core is held in reset or halted (09). -/
def State.regWrite (s : State) (a : Agent) (b : Block) (r : RegName) (i v mask : Nat) : State :=
  match b with
  | .clk | .clkGen | .ckp => (s.writeTime r i v mask).hubLevels
  | .mgt | .img | .flash => (s.writeMgt a r i v mask).hubLevels
  | .fab | .lnk | .lremap | .clu | .tme | .probe => s.writeTile r i v mask
  | .cell => s.writeCell r i v mask
  | .lec => s.writeEvent r i v mask
  | .gec => (s.writeEvent r i v mask).hubLevels
  | .spt => s.putFields r i v mask []
  | .pwr => s.writePower a r i v mask
  | .cpo =>
    let n := if r = .CPO_SVC_MARGIN then i / 2048 else i
    let own := match a with | .core m => m.val == n | _ => false
    if own || (s.core n).held || (s.core n).halted then s.writeCore r i v mask else s
  | .pci | .pciCh => s.writePci r i v mask
  | .trc | .dbg => s.writeTrace a r i v mask
  | .bj => s.writeBoot r i v mask

/-! ### Accesses to the register spaces and windows (R8, R12, R352, R353; 03 R93, R94) -/

/-- The access is a naturally aligned one of 4 or 8 bytes (R8). -/
def wordAccess (a size : Nat) : Bool := (size == 8 && a % 8 == 0) || (size == 4 && a % 4 == 0)

/-- The bits of its register that an access names. -/
def accessMask (a size : Nat) : Nat := if size = 8 then 2 ^ 64 - 1 else if a % 8 = 0 then 2 ^ 32 - 1 else 2 ^ 64 - 2 ^ 32

/-- The 64-bit register at an address of the register spaces: its value. Blocks that are off and unassigned addresses read 0. -/
def State.readWord (s : State) (a : Nat) : Nat × Bool × State :=
  let o := a % 0x200000000
  if region a = .tileReg ∧ o % 0x40000000 < 0x100000 then
    let t := o / 0x40000000
    if s.domOn (712 + t) then
      let (v, e, s) := s.pathRead t (o % 0x40000000 / 8)
      (v.toNat, e, s)
    else (0, false, s)
  else match regAt a with
    | none => (0, false, s)
    | some r =>
      if !s.domOn 760 || !s.domOn r.domain then (0, false, s)
      else match r.reg with
        | some (n, i) => (s.regRead n i, false, s)
        | none => (0, false, s)

/-- A write of the bits of `mask` of the 64-bit register at an address. -/
def State.writeWord (s : State) (ag : Agent) (a v mask : Nat) : State :=
  let o := a % 0x200000000
  if region a = .tileReg ∧ o % 0x40000000 < 0x100000 then
    let t := o / 0x40000000
    let p := o % 0x40000000 / 8
    if s.domOn (712 + t) then s.pathWrite t p (BitVec.ofNat 64 (merge (s.pathEntry t p).toNat v mask)) else s
  else match regAt a with
    | none => s
    | some r =>
      if !s.domOn 760 || !s.domOn r.domain then s
      else match r.reg with
        | some (n, i) => s.regWrite ag r.block n i v mask
        | none => s

/-- An access to the window of a cell that is off or RETIRED sets OFFACC (03 R94), be it aligned or not, where the tile's fabric is on (13 R353). -/
def State.offAccess (s : State) (c : Nat) : State := if s.winOn c || !s.domOn (712 + c / 1088) then s else s.raise CLU_STAT_OFFACC (c / 68)

/-- A cell register's name and instance at a window offset. -/
def cellReg (c off : Nat) : Option (RegName × Nat) := RegAt.reg ⟨.cell, c, off % 0x1000⟩

/-- A read of the 8-byte word at an offset of a cell's window (03 R93, R94). -/
def State.readWindow (s : State) (c off : Nat) : Nat × Bool × State :=
  if !s.winOn c then (0, false, s.offAccess c)
  else match winLoc (s.flag CELL_SBSEL_CUR c) off with
    | .regs => match cellReg c off with
      | some (n, i) => (s.regRead n i, false, s)
      | none => (0, false, s)
    | .none => (0, false, s)
    | _ => s.winRead c off

/-- A write of the bytes of `mask` (8 bits) of the word at an offset of a cell's window. -/
def State.writeWindow (s : State) (ag : Agent) (c off v mask : Nat) : State :=
  if !s.winOn c then s.offAccess c
  else match winLoc (s.flag CELL_SBSEL_CUR c) off with
    | .regs => match cellReg c off with
      | some (n, i) => s.regWrite ag .cell n i v (byteMask 8 mask)
      | none => s
    | _ => s.winWrite c off v mask

/-- WINDOW_READ: a 64-bit read; an offset that is not 8-byte-aligned returns 0 (R8). -/
def execWindowRead (c : PCell) (off : BitVec 18) (s : State) : Host.Outcome State Fault Refusal :=
  if off.toNat % 8 ≠ 0 then .next ((s.offAccess c.val).emit (.data 0 false))
  else
    let (v, e, s) := s.readWindow c.val off.toNat
    .next (s.emit (.data v e))

/-- WINDOW_WRITE: a 64-bit write by the host. -/
def execWindowWrite (c : PCell) (off : BitVec 18) (v : Word) (s : State) : Host.Outcome State Fault Refusal :=
  if off.toNat % 8 ≠ 0 then .next (s.offAccess c.val) else .next (s.writeWindow .host c.val off.toNat v.toNat 0xFF)

/-- An access of no legal width and alignment has no effect but R94's. -/
def State.badAccess (s : State) (a : Nat) : State :=
  if region a = .window then s.offAccess (a % 0x100000000 / 0x40000) else s

/-- REGISTER_WRITE: a 32-bit or 64-bit write at an address of the register spaces or windows by an agent (00 R7, R8). -/
def State.busRegWrite (s : State) (ag : Agent) (a size v : Nat) : State :=
  if !wordAccess a size then s.badAccess a
  else
    let sh := if size = 4 ∧ a % 8 = 4 then v * 2 ^ 32 else v
    let m := accessMask a size
    if region a = .window then
      let o := a % 0x100000000
      s.writeWindow ag (o / 0x40000) (o % 0x40000 / 8 * 8) sh (if size = 8 then 0xFF else if a % 8 = 0 then 0x0F else 0xF0)
    else s.writeWord ag (a / 8 * 8) sh m

/-- A read there. -/
def State.busRegRead (s : State) (a size : Nat) : Nat × Bool × State :=
  if !wordAccess a size then (0, false, s.badAccess a)
  else
    let (v, e, s) := if region a = .window then s.readWindow (a % 0x100000000 / 0x40000) (a % 0x40000 / 8 * 8)
      else s.readWord (a / 8 * 8)
    (if size = 8 then v else if a % 8 = 0 then v % 2 ^ 32 else v / 2 ^ 32, e, s)

/-! ### Accesses to any physical address (R352) -/

/-- The agent reaches the LSRAM at an address through its own-core port (13 R369). -/
def ownPort (ag : Agent) (a : Nat) : Bool :=
  match ag with
  | .core n => lsramCore a == some n.val
  | _ => false

/-- A write of Normal memory that the module takes: HBM under 13 R364, and LSRAM. -/
def State.memWrite (s : State) (ag : Agent) (a : Nat) (l : List Byte) : State :=
  if region a = .hbm then s.hbmWrite a l else s.portWrite (ownPort ag a) a l

/-- A read of `size` bytes, `own` through the own-core port of an LSRAM: value, bus error, and the state after it. A memory whose domain is off
reads 0 (R353, 17 R463). -/
def State.busRead (s : State) (a size : Nat) (own : Bool := false) : Nat × Bool × State :=
  match region a with
  | .none => (0, true, s)
  | .window | .tileReg | .hubReg => s.busRegRead a size
  | .lsram => (if s.memOn a then ofLe ((s.portBytes own a size).map (·.toNat)) else 0, false, s)
  | .hbm => (if s.memOn a then (s.afterOthers a).num a size else 0, false, s)
  | .flash => (if s.memOn a then s.num a size else 0, false, s)

/-- A write of the `size` low bytes of a value: bus error, and the state after it. The flash window is read-only; a memory whose domain is
off ignores writes. -/
def State.busWrite (s : State) (ag : Agent) (a size v : Nat) : Bool × State :=
  match region a with
  | .none | .flash => (true, s)
  | .window | .tileReg | .hubReg => (false, s.busRegWrite ag a size v)
  | _ => (false, if s.memOn a then s.memWrite ag a ((leBytes size v).map (BitVec.ofNat 8 ·)) else s)

/-- REGISTER_WRITE. -/
def execRegisterWrite (a : Agent) (addr : BitVec 46) (wide : Bool) (v : Word) (s : State) : Host.Outcome State Fault Refusal :=
  .next (match region addr.toNat with
    | .window | .tileReg | .hubReg => s.busRegWrite a addr.toNat (if wide then 8 else 4) (if wide then v.toNat else v.toNat % 2 ^ 32)
    | _ => s)

end Sys2Proof.Machine
end

