-- ==== Sys2Proof/Machine/Access.lean ====
section
/-! DEFINITION. The host's accesses through the BARs (14 R380-R383, R385) and the test access port's memory access (18 R491). -/

namespace Sys2Proof.Machine

/-- The parts of a TLP of n bytes from address a, cut at 8-byte boundaries, in ascending order (R381): offset in the TLP,
address and length. -/
def tlpParts : Nat → Nat → Nat → Nat → List (Nat × Nat × Nat)
  | 0, _, _, _ => []
  | fuel + 1, k, a, n =>
    if n = 0 then []
    else
      let m := min n (8 - a % 8)
      (k, a, m) :: tlpParts fuel (k + m) (a + m) (n - m)

/-- A BAR access that completes with a bus error (R382). AER logs Completer Abort, bit 15 of its uncorrectable error status (PRESUMED, log
195). -/
def State.pciBusErr (s : State) (a : Nat) (write : Bool) : State :=
  let s : State := { s with pci := { s.pci with aer := s.pci.aer ||| 2 ^ 15 } }
  let s := (s.raise PCI_STAT_BUSERR).pciLevel
  if s.flag PCI_ERRADDR_VALID then s
  else ((s.set PCI_ERRADDR_ADDR 0 a).set PCI_ERRADDR_WRITE 0 (b2n write)).raise PCI_ERRADDR_VALID

/-! ### The MSI-X table and its pending bit array (R385) -/

/-- The 8-byte word at an offset of the MSI-X table: word 0 of an entry the address, word 1 the data and the mask bit. -/
def State.msixWord (s : State) (k : Nat) : Nat := sget s.msixTab k (if k % 2 = 1 then 2 ^ 32 else 0)

/-- A write of part of the MSI-X table. Reserved bits of the vector control are 0. -/
def State.msixWrite (s : State) (k v mask : Nat) : State :=
  let w := merge (s.msixWord k) v mask
  let w := if k % 2 = 1 then w % 2 ^ 33 else w / 4 * 4
  { s with msixTab := sput s.msixTab k w (if k % 2 = 1 then 2 ^ 32 else 0) }.msixFlush (k / 2)

/-! ### BAR0 (R381) -/

/-- Where BAR0 offsets lead. -/
inductive Bar0
  | reg (a : Nat)
  | table (k : Nat)
  | pba (k : Nat)
  | mem (a : Nat)
  | none
  deriving DecidableEq, Repr

/-- The BAR0 layout. An aperture offset reaches a physical address of any region. -/
def State.bar0 (s : State) (o : Nat) : Bar0 :=
  if o < 0x1000000 then .reg (0x300000000000 + o)
  else if o < 0x1008000 then .table (o % 0x8000 / 8)
  else if o < 0x1008100 then .pba (o % 0x100 / 8)
  else if 0x2000000 ≤ o ∧ o < 0x4000000 then .mem (s.get PCI_APBASE_BASE * 2 ^ 25 + o % 0x2000000)
  else .none

/-- A read of one part through BAR0: value, bus error with its address. -/
def State.bar0Read (s : State) (o n : Nat) : Nat × Option Nat × State :=
  let sh := 8 * (o % 8)
  match s.bar0 o with
  | .reg a => let (v, e, s) := s.busRead a n; (v, if e then some a else none, s)
  | .mem a => let (v, e, s) := s.busRead a n; (v, if e then some a else none, s)
  | .table k => (s.msixWord k / 2 ^ sh % 2 ^ (8 * n), none, s)
  | .pba k => (maskOf 64 (fun i => sget s.msixPba (64 * k + i) false) / 2 ^ sh % 2 ^ (8 * n), none, s)
  | .none => (0, none, s)

/-- A write of one part through BAR0. One to the flash window is ignored and completes normally (R382). -/
def State.bar0Write (s : State) (o n v : Nat) : Option Nat × State :=
  match s.bar0 o with
  | .reg a => let (e, s) := s.busWrite .host a n v; (if e then some a else none, s)
  | .mem a => let (e, s) := s.busWrite .host a n v; (if e && region a != .flash then some a else none, s)
  | .table k => (none, s.msixWrite k (v * 2 ^ (8 * (o % 8))) ((2 ^ (8 * n) - 1) * 2 ^ (8 * (o % 8))))
  | .pba _ => (none, s)
  | .none => (none, s)

/-- The parts of a read in order: the value so far, and the first address that failed. -/
def State.readParts (rd : State → Nat → Nat → Nat × Option Nat × State) (s : State) : List (Nat × Nat × Nat) → Nat × Option Nat × State
  | [] => (0, none, s)
  | (k, a, n) :: t =>
    let (v, e, s) := rd s a n
    let (w, f, s) := State.readParts rd s t
    (v % 2 ^ (8 * n) * 2 ^ (8 * k) + w, e.or f, s)

/-- The parts of a write in order. A part that fails is dropped. -/
def State.writeParts (wr : State → Nat → Nat → Nat → Option Nat × State) (v : Nat) (s : State) : List (Nat × Nat × Nat) → Option Nat × State
  | [] => (none, s)
  | (k, a, n) :: t =>
    let (e, s) := wr s a n (v / 2 ^ (8 * k) % 2 ^ (8 * n))
    let (f, s) := State.writeParts wr v s t
    (e.or f, s)

/-- The completion of a read TLP: its data, or Completer Abort. -/
def State.complete (s : State) (v : Nat) (e : Option Nat) : State :=
  match e with
  | none => s.emit (.data v false)
  | some a => (s.pciBusErr a false).emit (.data 0 true)

/-- A TLP: a write of bytes where data are given, else a read of `len` bytes. -/
def State.tlp (s : State) (rd : State → Nat → Nat → Nat × Option Nat × State) (wr : State → Nat → Nat → Nat → Option Nat × State)
    (o len : Nat) (data : Option (List Byte)) : State :=
  match data with
  | none =>
    let (v, e, s) := State.readParts rd s (tlpParts len 0 o len)
    s.complete v e
  | some l =>
    let (e, s) := State.writeParts wr (ofLe (l.map (·.toNat))) s (tlpParts l.length 0 o l.length)
    match e with
    | none => s
    | some a => s.pciBusErr a true

/-- What a read TLP meets in the memory it reads (13 R365, R370): the TLP goes on, or completes with a bus error. -/
def State.tlpErr (s : State) (a len : Nat) (data : Option (List Byte)) (err : HbmRead) (more : LineErrs) (go : State → State) : State :=
  match data with
  | some _ => go s
  | none => let (u, e) := s.readErrs a len err more; if e.isSome then u.complete 0 e else go u

/-- The endpoint takes a TLP, or drops it and logs why (14 R377): a write with more data than Max_Payload_Size is malformed, bit 18 of the
uncorrectable error status; with checking on, an ECRC that does not fit is an error, bit 19. PRESUMED (log 195). -/
def State.tlpTaken (s : State) (data : Option (List Byte)) (ecrc : Bool) : State × Bool :=
  let long := data.any (fun l => decide (128 * 2 ^ s.pci.payload < l.length))
  if long then ({ s with pci := { s.pci with aer := s.pci.aer ||| 2 ^ 18 } }, false)
  else if s.pci.ecrcChk && !ecrc then ({ s with pci := { s.pci with aer := s.pci.aer ||| 2 ^ 19 } }, false)
  else (s, true)

/-- A TLP through BAR0. A read of a flash device that is busy with a command waits for its end (13 R375). -/
def State.bar0Tlp (s : State) (o len : Nat) (data : Option (List Byte)) (err : HbmRead) (more : LineErrs) : State :=
  match s.bar0 o with
  | .mem a =>
    if data.isNone && (s.flashWaits a || s.flashWaits (a + len - 1)) then { s with flash := { s.flash with bar := s.flash.bar ++ [(o, len)] } }
    else s.tlpErr a len data err more (fun s => s.tlp State.bar0Read State.bar0Write o len data)
  | _ => s.tlp State.bar0Read State.bar0Write o len data

/-- A configuration write: vectors that it lets go are sent. -/
def State.hostConfig (s : State) (w : ConfigWrite) : State := (s.configWrite w).msixFlushAll

/-- BAR0_ACCESS; with `cfg` the TLP is a configuration write instead, for which the table has no row (log 195). -/
def execBar0Access (off : BitVec 26) (len : BitVec 13) (data : Option (List Byte)) (s : State) (err : HbmRead := .ok)
    (cfg : Option ConfigWrite := none) (more : LineErrs := []) (ecrc : Bool := true) : Host.Outcome State Fault Refusal :=
  match cfg with
  | some w => if s.domOn 762 && s.pci.rate != 0 then .next (s.hostConfig w) else .next s
  | none =>
    let (u, ok) := s.tlpTaken data ecrc
    if s.linkUp then .next (if ok then u.bar0Tlp off.toNat len.toNat data err more else u) else .next s

/-! ### BAR2 (R383) -/

/-- A read of one part of HBM; anything else is a bus error. -/
def State.bar2Read (s : State) (a n : Nat) : Nat × Option Nat × State :=
  if region a = .hbm then let (v, _, s) := s.busRead a n; (v, none, s) else (0, some a, s)

/-- A write of one part of HBM. -/
def State.bar2Write (s : State) (a n v : Nat) : Option Nat × State :=
  if region a = .hbm then (none, (s.busWrite .host a n v).2) else (some a, s)

/-- BAR2_ACCESS. An offset at or above the size of BAR2 is not the endpoint's (R380). -/
def execBar2Access (off : BitVec 36) (len : BitVec 13) (data : Option (List Byte)) (s : State) (err : HbmRead := .ok)
    (more : LineErrs := []) (ecrc : Bool := true) : Host.Outcome State Fault Refusal :=
  let a := s.get PCI_B2BASE_BASE * 2 ^ 30 + off.toNat
  let (u, ok) := s.tlpTaken data ecrc
  if s.linkUp && decide (off.toNat < 2 ^ (30 + s.pci.barSize)) then
    .next (if ok then u.tlpErr a len.toNat data err more (fun s => s.tlp State.bar2Read State.bar2Write a len.toNat data) else u)
  else .next s

/-! ### MEMACC (18 R491) -/

/-- What Capture-DR of MEMACC returns: DONE, ERR, and the read data. -/
def maccResult (v : Nat) (err : Bool) : Nat := 1 + 2 * b2n err + v % 2 ^ 64 * 2 ^ 64

/-- The read that an update of MEMACC starts. -/
def State.maccRead (s : State) (a : Nat) (err : HbmRead) : State :=
  let (s, e) := s.readErr a err
  let (v, f, s) := s.busRead a 8
  { s with tap := { s.tap with macc := if e then maccResult 0 true else maccResult v f } }

/-- MEMACC: the result of the access before is captured, and an update with GO makes an 8-byte access. A read of a flash device that is busy
with a command waits for its end (13 R375), with BUSY; DESIGN CHOICE (log 194): an update with GO before that end starts nothing. -/
def execMemacc (addr : BitVec 46) (write go : Bool) (data : Word) (s : State) (err : HbmRead := .ok) : Host.Outcome State Fault Refusal :=
  let a := addr.toNat
  let s := s.tapScan 0x10 s.tap.macc
  if !go || s.flash.macc.isSome then .next s
  else if !s.domOn 760 then .next { s with tap := { s.tap with macc := maccResult 0 true } }
  else if a % 8 ≠ 0 then .next { s with tap := { s.tap with macc := maccResult 0 false } }
  else if write then
    let (e, s) := s.busWrite .jtag a 8 data.toNat
    .next { s with tap := { s.tap with macc := maccResult 0 e } }
  else if s.flashWaits a then .next { s with flash := { s.flash with macc := some a }, tap := { s.tap with macc := 4 } }
  else .next (s.maccRead a err)

/-! ### The end of a flash command (13 R373, R375) -/

/-- The reads that waited for a flash device, and an apply, go on. -/
def State.flashGoesOn (s : State) : State :=
  let l := s.flash.bar
  let m := s.flash.macc
  let s : State := { s with flash := { s.flash with bar := [], macc := none } }
  let s := if s.linkUp then l.foldl (fun s p => s.bar0Tlp p.1 p.2 none .ok []) s else s
  let s := match m with
    | some a => s.maccRead a .ok
    | none => s
  s.resumeApply

/-- FLASH_COMMAND_DONE. The reads of a program's source report `err` and `more` (13 R365, R370); DESIGN CHOICE (log 213): a parity error of an LSRAM
fails the command before it programs anything. -/
def execFlashCommandDone (ok : Bool) (s : State) (err : HbmRead := .ok) (more : LineErrs := []) : Host.Outcome State Fault Refusal :=
  if !s.flag MGT_FLCTL_BUSY then .next s
  else
    let (u, e) := if ok && s.flash.op != 1 then s.readErrs s.flash.src s.flash.len err more else (s, none)
    .next (u.flashEnd (ok && e.isNone)).flashGoesOn

end Sys2Proof.Machine
end

