-- ==== Sys2Proof/Machine/Flags.lean ====
section
/-! DEFINITION. The flag computations of the Capo (09 R257, R261): C is bit 0 of ST, Z bit 1, N bit 2 and V bit 3; and the
branch conditions. The cell has no flags (04 R106). -/

namespace Sys2Proof.Machine

/-- 2^64. -/
def two64 : Nat := 2 ^ 64

/-- Z and N of a result. -/
def flagsZN (r : Nat) : Nat := 2 * b2n (r % two64 == 0) + 4 * b2n (bit r 63)

/-- a + b + c: the result, and C Z N V. -/
def addFlags (a b c : Nat) : Nat × Nat :=
  let r := (a + b + c) % two64
  let v := bit a 63 == bit b 63 && bit r 63 != bit a 63
  (r, b2n (decide (two64 ≤ a + b + c)) + flagsZN r + 8 * b2n v)

/-- a − b − (1 − c): the result, and C Z N V. C = 1 means no borrow. -/
def subFlags (a b c : Nat) : Nat × Nat := addFlags a (two64 - 1 - b) c

/-- The shifts and the rotate of A by k (0-63), in the order of the table: left, right, arithmetic right, rotate left. The
result, the flags, and the mask of the flags written: a shift by 0 leaves C unchanged. -/
def shiftFlags (op a k : Nat) : Nat × Nat × Nat :=
  let r :=
    if op = 0 then a * 2 ^ k % two64
    else if op = 1 then a / 2 ^ k
    else if op = 2 then wrap (sext a 64 / 2 ^ k) 64
    else a * 2 ^ k % two64 + a / 2 ^ (64 - k)
  let c := if op = 0 then bit a (64 - k) else if op = 1 ∨ op = 2 then bit a (k - 1) else bit r 0
  if k = 0 then (r % two64, flagsZN r, 6) else (r % two64, b2n c + flagsZN r, 7)

/-- The branch conditions of OP[3:0], over ST and X. -/
def condition (cc st x : Nat) : Bool :=
  let c := bit st 0
  let z := bit st 1
  let n := bit st 2
  let v := bit st 3
  match cc with
  | 0 => true
  | 1 => z
  | 2 => !z
  | 3 => c
  | 4 => !c
  | 5 => n
  | 6 => !n
  | 7 => v
  | 8 => !v
  | 9 => c && !z
  | 10 => !c || z
  | 11 => n == v
  | 12 => n != v
  | 13 => !z && n == v
  | 14 => z || n != v
  | _ => x != 0

end Sys2Proof.Machine
end

