-- ==== Sys2Proof/Machine/CapoMem.lean ====
section
/-! DEFINITION. What a Capo instruction meets in memory (09, 11): exceptions, the store buffer, parity capture, address translation,
loads through the D-cache, fetches through the I-cache. -/

namespace Sys2Proof.Machine

/-- An exception (09 R277): code, the address for `CPO_XADDR`, FETCH, WRITE and ARG of `CPO_XINFO`; `after` for SYSCALL and BRK,
whose stacked PC is the next group. -/
structure Exc where
  code : Nat
  addr : Option Nat := none
  fetch : Bool := false
  write : Bool := false
  arg : Nat := 0
  after : Bool := false
  deriving DecidableEq, Repr

/-- What keeps an instruction from its effect: an exception, or a wait that freezes the pipeline (R266). -/
inductive Stop
  | exc (x : Exc)
  | wait
  deriving DecidableEq, Repr

/-- A computation of an instruction: the state it leaves, and a value or a stop. -/
abbrev Run (α : Type) := State × Except Stop α

/-- One after the other. -/
def Run.andThen {α β : Type} (r : Run α) (f : State → α → Run β) : Run β :=
  match r with
  | (s, .ok a) => f s a
  | (s, .error e) => (s, .error e)

/-- An exception without an address. -/
def excOf (code : Nat) : Stop := .exc { code := code }

/-- `CPO_RSTPC` and the core agent. -/
def coreAgent (n : Nat) : Agent := .core (Fin.ofNat 20 n)

/-- User mode. -/
def CoreSt.user (x : CoreSt) : Bool := !bit x.st 12

/-! ### Store buffer (R273, R274) -/

/-- A store is performed in memory: written through, and its bytes into a D-cache line that it hits, whose other bytes stay: the caches are
not coherent with other agents (R272). A bus error is a STORE_ERROR to be
taken at the next group boundary. -/
def State.performStore (s : State) (n : Nat) (e : StoreEnt) : State :=
  let (err, s) := s.busWrite (coreAgent n) e.pa e.size e.val
  let x := s.core n
  if err then (if x.serr.isSome then s else s.setCore n { x with serr := some e.va })
  else
    let v := (leBytes e.size e.val).map (BitVec.ofNat 8 ·)
    let upd := fun (q : Nat × List Byte) =>
      if q.1 = e.pa / 64 then (q.1, q.2.take (e.pa % 64) ++ v ++ q.2.drop (e.pa % 64 + e.size)) else q
    if x.dcache.any (fun q => q.1 == e.pa / 64) then s.setCore n { x with dcache := x.dcache.map upd } else s

/-- The oldest buffered store is performed. -/
def State.drainOne (s : State) (n : Nat) : State :=
  match (s.core n).sbuf with
  | [] => s
  | e :: t => (s.setCore n { s.core n with sbuf := t }).performStore n e

/-- The k oldest buffered stores are performed. -/
def State.drainK (s : State) (n : Nat) : Nat → State
  | 0 => s
  | k + 1 => (s.drainOne n).drainK n k

/-- The store buffer empties. -/
def State.drainAll (s : State) (n : Nat) : State := s.drainK n (s.core n).sbuf.length

/-- A store touches some of `size` bytes at pa. -/
def StoreEnt.touches (e : StoreEnt) (pa size : Nat) : Bool := decide (e.pa < pa + size) && decide (pa < e.pa + e.size)

/-- How many of the oldest stores must be performed so that none touches the bytes. -/
def touchCount (pa size : Nat) : List StoreEnt → Nat
  | [] => 0
  | e :: t => let r := touchCount pa size t
    if r ≠ 0 then r + 1 else if e.touches pa size then 1 else 0

/-- Every buffered store that touches the bytes is performed. -/
def State.drainTouching (s : State) (n pa size : Nat) : State := s.drainK n (touchCount pa size (s.core n).sbuf)

/-- A store enters the buffer of 8, or, in deterministic mode, is performed at once, behind the stores that the buffer still holds (R273,
R280). -/
def State.pushStore (s : State) (n : Nat) (e : StoreEnt) : State :=
  if s.flag CPO_MODE_DET n then (s.drainAll n).performStore n e
  else
    let s := if 8 ≤ (s.core n).sbuf.length then s.drainOne n else s
    s.setCore n { s.core n with sbuf := (s.core n).sbuf ++ [e] }

/-! ### Parity (R277, 13 R370) -/

/-- An error of an LSRAM read at an address, seen by core n: PARITY from its own, a bus error from another's (13 R370). `none`: the address
lies in no LSRAM. -/
def State.lsramError (s : State) (n a : Nat) : State × Option Nat :=
  match lsramCore a with
  | none => (s, none)
  | some k => (s.perr k 2 a, some (if k = n then 0x0D else 0x0B))

/-! ### Translation (11 R302-R318) -/

/-- The kind of an access: fetch, read, write. -/
inductive MemAcc
  | fetch | read | write
  deriving DecidableEq, Repr

/-- The region type of a physical address (13 R352): 0 Normal, 2 Device. -/
def regionType (a : Nat) : Nat :=
  match region a with
  | .window | .tileReg | .hubReg => 2
  | _ => 0

/-- AP grants an access (R308). -/
def apGrants (ap : Nat) (user write : Bool) : Bool :=
  match ap with
  | 0 => !user
  | 1 => true
  | 2 => !user && !write
  | _ => !write

/-- A translation fault: `MMU_FSR`, and the exception at the virtual address (R314). -/
def State.mmuFault {α : Type} (s : State) (n va cause level : Nat) (acc : MemAcc) (user : Bool) : Run α :=
  let s := (((s.set MMU_FSR_CAUSE n cause).set MMU_FSR_LEVEL n level).set MMU_FSR_WRITE n (b2n (acc == .write))).set MMU_FSR_FETCH n (b2n (acc == .fetch))
  let s := (((s.set MMU_FSR_USER n (b2n user)).set MMU_FSR_ASID n (s.get MMU_ASID_ASID n))).raise MMU_FSR_VALID n
  (s, .error (.exc { code := if acc = .fetch then 0x08 else 0x09, addr := some va, fetch := acc == .fetch, write := acc == .write }))

/-- An entry serves an ASID and a virtual page. -/
def TlbEnt.hits (e : TlbEnt) (vpn asid : Nat) : Bool := e.maps vpn && (e.glob || e.asid == asid)

/-- The set of the L2 TLB that holds an entry (R317). -/
def TlbEnt.set (e : TlbEnt) : Nat := e.vpn / 2 ^ sizeBits e.size % 256

/-- A fill removes f in favour of e (R318). -/
def TlbEnt.yields (f e : TlbEnt) : Bool := f.overlaps e && (f.glob || e.glob || f.asid == e.asid)

/-- Drop the element at a place. -/
def dropNth {α : Type} (l : List α) (i : Nat) : List α := l.take i ++ l.drop (i + 1)

/-- Keep at most four entries of the L2 set of e, most recent first. -/
def trimSet (e : TlbEnt) : List TlbEnt → Nat → List TlbEnt
  | [], _ => []
  | f :: t, k => if f.set = e.set then (if 4 ≤ k then trimSet e t k else f :: trimSet e t (k + 1)) else f :: trimSet e t k

/-- An entry fills the L1 TLB: 56 unlocked entries, and the spec does not fix which one goes. -/
def State.fillL1 (s : State) (n : Nat) (e : TlbEnt) : State :=
  let x := s.core n
  let l := x.l1.filter (fun f => !f.yields e)
  if l.length < 56 then s.setCore n { x with l1 := e :: l }
  else
    let (w, s) := s.fresh
    s.setCore n { x with l1 := e :: dropNth l (w.toNat % l.length) }

/-- An entry fills the L2 TLB: least recently used of its set goes. -/
def State.fillL2 (s : State) (n : Nat) (e : TlbEnt) : State :=
  let x := s.core n
  s.setCore n { x with l2 := trimSet e (e :: x.l2.filter (fun f => !f.yields e)) 0 }

/-- The L2 entry that serves an access, probed by size in the order of R317. -/
def l2Find (l : List TlbEnt) (vpn asid : Nat) : Option TlbEnt :=
  match l.find? (fun e => e.size == 0 && e.hits vpn asid) with
  | some e => some e
  | none => match l.find? (fun e => e.size == 1 && e.hits vpn asid) with
    | some e => some e
    | none => l.find? (fun e => e.size == 2 && e.hits vpn asid)

/-- A walk error (R311, R315): `MMU_FPA` and the CAPO_WALK record. -/
def State.walkFault {α : Type} (s : State) (n va cause level da : Nat) (acc : MemAcc) (user : Bool) : Run α :=
  let s := (s.set MMU_FPA_PA n da).fault 0x503 0 (coreDie n) n 0xFFFF (va % two64) (da % 2 ^ 46 + level * 2 ^ 48 + b2n (cause == 7) * 2 ^ 50)
  s.mmuFault n va cause level acc user

/-- What the descriptor read of a level meets. -/
def walkRead (err : MemErr) (level : Nat) : HbmRead :=
  match err with
  | .walk l c => if l.val = level then (if c then .corrected else .uncorrectable) else .ok
  | _ => .ok

/-- A descriptor is read: its value, or the error that ends the walk. -/
def State.readDesc (s : State) (n da level : Nat) (err : MemErr) : State × Option Nat :=
  let s := s.drainTouching n da 8
  let r := walkRead err level
  let hit := r == .uncorrectable
  match region da with
  | .hbm =>
    let (s, lost) := s.hbmTouch (da / 0x900000000) (da % 0x900000000) r
    if lost then (s, none)
    else let (v, _, s) := s.busRead da 8
      (s, some v)
  | _ =>
    if hit && (lsramCore da).isSome then ((s.lsramError n da).1, none)
    else let (v, e, s) := s.busRead da 8 (lsramCore da == some n)
      (s, if e then none else some v)

/-- The walk from a level down (R309-R312): the leaf as a TLB entry. -/
def State.walk (s : State) (n va level base : Nat) (acc : MemAcc) (user : Bool) (err : MemErr) : Nat → Run TlbEnt
  | 0 => s.mmuFault n va 2 3 acc user
  | fuel + 1 =>
    let da := base + 8 * bits va (47 - 9 * level) (39 - 9 * level)
    if regionType da = 2 then s.walkFault n va 7 level da acc user
    else if s.flashWaits da || !s.stackIdle da then (s, .error .wait)
    else match s.readDesc n da level err with
      | (s, none) => s.walkFault n va 6 level da acc user
      | (s, some d) =>
        let size := if level = 3 then 0 else if level = 2 then 1 else 2
        if !bit d 0 then s.mmuFault n va 1 level acc user
        else if level ≠ 3 && bit d 1 then
          if bits d 11 2 ≠ 0 ∨ bits d 63 46 ≠ 0 then s.mmuFault n va 2 level acc user
          else s.walk n va (level + 1) (bits d 45 12 * 4096) acc user err fuel
        else if level = 0 || (level = 3 && !bit d 1) then s.mmuFault n va 2 level acc user
        else if leafCause d size ≠ 0 then s.mmuFault n va (leafCause d size) level acc user
        else (s, .ok (tlbOf d (bits va 47 12) size (s.get MMU_ASID_ASID n) (bit d 7)))

/-- Checks 4 and 5 of R312 on an entry at a level of the fault: physical address and effective type. -/
def State.useEntry (s : State) (n va level : Nat) (e : TlbEnt) (acc : MemAcc) (user : Bool) : Run (Nat × Nat) :=
  let k := 12 + sizeBits e.size
  let pa := e.oa * 4096 / 2 ^ k * 2 ^ k + va % 2 ^ k
  let ty := max e.mt (regionType pa)
  let ok := apGrants e.ap user (acc == .write)
  if acc = .fetch then
    if !ok || e.xn || ty = 2 then s.mmuFault n va 5 level acc user else (s, .ok (pa, ty))
  else if !ok then s.mmuFault n va 4 level acc user else (s, .ok (pa, ty))

/-- Level of the leaf of a size. -/
def leafLevel (size : Nat) : Nat := 3 - size % 3

/-- The locked entries that serve an access, lowest index first. -/
def CoreSt.lockHits (x : CoreSt) (vpn asid : Nat) : List TlbEnt := (x.locks.map (·.2)).filter (fun e => e.hits vpn asid)

/-- A TLB entry that its lookup finds with wrong parity is removed, and the access is a miss there (13 R376). DESIGN CHOICE (log 167): a locked
entry, which only R319's events remove, is not struck. -/
def State.tlbUpset (s : State) (n vpn asid : Nat) (err : MemErr) : State :=
  let x := s.core n
  match err with
  | .tlb false => s.setCore n { x with l1 := x.l1.filter (fun e => !e.hits vpn asid) }
  | .tlb true => s.setCore n { x with l2 := x.l2.filter (fun e => !e.hits vpn asid) }
  | _ => s

/-- An access is translated (R303, R309, R313, R317, R318): physical address and effective type. -/
def State.translateAs (s : State) (n va : Nat) (acc : MemAcc) (user : Bool) (err : MemErr) : Run (Nat × Nat) :=
  if !s.flag MMU_CTL_EN n then
    if va / 2 ^ 46 ≠ 0 then s.mmuFault n va 8 0 acc user
    else if acc = .fetch && regionType va = 2 then s.mmuFault n va 5 0 acc user
    else (s, .ok (va, regionType va))
  else if bits va 63 47 ≠ 0 ∧ bits va 63 47 ≠ 0x1FFFF then s.mmuFault n va 8 0 acc user
  else
    let vpn := bits va 47 12
    let asid := s.get MMU_ASID_ASID n
    match (s.core n).lockHits vpn asid with
    | e :: t =>
      let s := if t.isEmpty then s else s.raise MMU_STAT_LKOVL n
      s.useEntry n va (leafLevel e.size) e acc user
    | [] =>
      let s := s.tlbUpset n vpn asid err
      match (s.core n).l1.find? (fun e => e.hits vpn asid) with
      | some e => s.useEntry n va (leafLevel e.size) e acc user
      | none =>
        let s := s.bump MMU_CNT_L1MISS n
        match l2Find (s.core n).l2 vpn asid with
        | some e =>
          let x := s.core n
          let s := s.setCore n { x with l2 := e :: x.l2.erase e }
          (s.fillL1 n e).useEntry n va (leafLevel e.size) e acc user
        | none =>
          let s := (s.bump MMU_L2CNT_L2MISS n).bump MMU_CNT_WALKS n
          let base := (if bit va 47 then s.get MMU_TTB1_BASE n else s.get MMU_TTB0_BASE n) * 4096
          (s.walk n va 0 base acc user err 4).andThen fun s e =>
            (s.useEntry n va (leafLevel e.size) e acc user).andThen fun s r =>
              ((s.fillL2 n e).fillL1 n e, .ok r)

/-! ### Walks of a wrong path or a prefetch (R316) -/

/-- A descriptor read of such a walk, behind the stores that touch it (R310): its value, or an error, which only `MMU_STAT.SPECERR` notes. -/
def State.specDesc (s : State) (n da level : Nat) (err : MemErr) : State × Option Nat :=
  let s := s.drainTouching n da 8
  let r := walkRead err level
  let hit := r == .uncorrectable
  match region da with
  | .hbm =>
    let (s, lost) := s.hbmTouch (da / 0x900000000) (da % 0x900000000) r
    if lost then (s, none) else (s, some (s.busRead da 8).1)
  | _ =>
    let (v, e, _) := s.busRead da 8 (lsramCore da == some n)
    if e || (hit && (lsramCore da).isSome) then (s, none) else (s, some v)

/-- Such a walk from a level down: its leaf, where it meets no fault and reads no Device region. -/
def State.specLevels (s : State) (n va level base : Nat) (err : MemErr) : Nat → State × Option TlbEnt
  | 0 => (s, none)
  | fuel + 1 =>
    let da := base + 8 * bits va (47 - 9 * level) (39 - 9 * level)
    if regionType da = 2 || s.flashWaits da || !s.stackIdle da then (s, none)
    else match s.specDesc n da level err with
      | (s, none) => (s.raise MMU_STAT_SPECERR n, none)
      | (s, some d) =>
        let size := if level = 3 then 0 else if level = 2 then 1 else 2
        if !bit d 0 then (s, none)
        else if level ≠ 3 && bit d 1 then
          if bits d 11 2 ≠ 0 ∨ bits d 63 46 ≠ 0 then (s, none) else s.specLevels n va (level + 1) (bits d 45 12 * 4096) err fuel
        else if level = 0 || (level = 3 && !bit d 1) || leafCause d size ≠ 0 then (s, none)
        else (s, some (tlbOf d (bits va 47 12) size (s.get MMU_ASID_ASID n) (bit d 7)))

/-- The core translates an address ahead (R316): an L1 miss is counted and filled from the L2 TLB or by a walk, and nothing else comes of it.
With SPECWALK = 0, or in deterministic mode, which predicts nothing, no such walk starts. -/
def State.specWalk (s : State) (n : Nat) (w : SpecWalk) : State :=
  let va := w.va.toNat
  let acc := if w.fetch then MemAcc.fetch else .read
  let vpn := bits va 47 12
  let asid := s.get MMU_ASID_ASID n
  let fits := fun (s : State) (e : TlbEnt) => match (s.useEntry n va (leafLevel e.size) e acc (s.core n).user).2 with
    | .ok _ => true
    | .error _ => false
  if !s.flag MMU_CTL_EN n || !s.flag MMU_CTL_SPECWALK n || s.flag CPO_MODE_DET n || (bits va 63 47 != 0 && bits va 63 47 != 0x1FFFF) then s
  else if !((s.core n).lockHits vpn asid).isEmpty || (s.core n).l1.any (fun e => e.hits vpn asid) then s
  else
    let s := s.bump MMU_CNT_L1MISS n
    match l2Find (s.core n).l2 vpn asid with
    | some e => if fits s e then s.fillL1 n e else s
    | none =>
      let s := (s.bump MMU_L2CNT_L2MISS n).bump MMU_CNT_WALKS n
      match s.specLevels n va 0 ((if bit va 47 then s.get MMU_TTB1_BASE n else s.get MMU_TTB0_BASE n) * 4096) w.err 4 with
      | (s, none) => s
      | (s, some e) => if fits s e then (s.fillL2 n e).fillL1 n e else s

/-- Translation at the core's own privilege. -/
def State.translate (s : State) (n va : Nat) (acc : MemAcc) (err : MemErr) : Run (Nat × Nat) := s.translateAs n va acc (s.core n).user err

/-! ### Rules of deterministic mode, and alignment (R260, R281) -/

/-- Bytes lie in the core's own LSRAM. -/
def ownLsram (n pa size : Nat) : Bool := decide (lsramBase n ≤ pa) && decide (pa + size ≤ lsramBase n + 0x40000)

/-- An access keeps the rules of deterministic mode: a locked entry or no translation, and the core's own LSRAM. -/
def State.detOk (s : State) (n va size : Nat) : Bool :=
  if !s.flag MMU_CTL_EN n then ownLsram n va size
  else match (s.core n).lockHits (bits va 47 12) (s.get MMU_ASID_ASID n) with
    | e :: _ =>
      let k := 12 + sizeBits e.size
      ownLsram n (e.oa * 4096 / 2 ^ k * 2 ^ k + va % 2 ^ k) size
    | [] => false

/-- Under DET and DETSTRICT, an access outside the rules is an exception. -/
def State.strict (s : State) (n : Nat) : Bool := s.flag CPO_MODE_DET n && s.flag CPO_MODE_DETSTRICT n

/-- R281 for a data access or a fetch: outside the rules of deterministic mode it takes DET_ACCESS under DETSTRICT, and is otherwise made, with
the count of its group open. -/
def State.detRule (s : State) (n va size : Nat) (write : Bool) : Run Unit :=
  if !s.flag CPO_MODE_DET n || s.detOk n va size then (s, .ok ())
  else if s.flag CPO_MODE_DETSTRICT n then (s, .error (.exc { code := 0x0A, addr := some va, write := write }))
  else (s.setCore n { s.core n with outside := true }, .ok ())

/-- DET_ACCESS and ALIGN of a data access. -/
def State.preAccess (s : State) (n va size : Nat) (write : Bool) : Run Unit :=
  (s.detRule n va size write).andThen fun s _ =>
    if va % size ≠ 0 then (s, .error (.exc { code := 0x03, addr := some va, write := write })) else (s, .ok ())

/-! ### Loads (R272-R274) -/

/-- Bytes are read from memory for a core: a wait for a busy flash device (13 R375) or for the requests of a stack's cells (13 R356), a stop
for PARITY or BUS_ERROR, or the bytes. A memory whose domain is off reads 0 (13 R353). -/
def State.readBytes (s : State) (n va pa size : Nat) (err : MemErr) : Run (List Byte) :=
  if s.flashWaits pa || !s.stackIdle pa then (s, .error .wait)
  else
    let stop := fun (s : State) (code : Nat) => ((s, .error (.exc { code := code, addr := some va })) : Run (List Byte))
    let parity := match err with
      | .dataParity => true
      | _ => false
    if region pa = .none then stop s 0x0B
    else if !s.memOn pa then (s, .ok (List.replicate size 0))
    else match (if parity then s.lsramError n pa else (s, none)) with
      | (s, some code) => stop s code
      | (s, none) => match err, region pa with
        | .hbm r, .hbm =>
          let s := (s.hbmTouch (pa / 0x900000000) (pa % 0x900000000) r).1
          (s, .ok ((s.afterOthers pa).bytes pa size))
        | _, .hbm => (s, .ok ((s.afterOthers pa).bytes pa size))
        | _, _ => (s, .ok (s.portBytes (lsramCore pa == some n) pa size))

/-- The D-cache keeps at most four lines of a set; the spec does not fix which one goes. -/
def State.fillD (s : State) (n line : Nat) (l : List Byte) : State :=
  let x := s.core n
  let same := x.dcache.filter (fun q => q.1 % 128 == line % 128)
  if same.length < 4 then s.setCore n { x with dcache := (line, l) :: x.dcache }
  else
    let (w, s) := s.fresh
    match same[w.toNat % same.length]? with
    | some q => s.setCore n { x with dcache := (line, l) :: x.dcache.erase q }
    | none => s

/-- The number that `size` bytes of a line spell. -/
def lineValue (l : List Byte) (pa size : Nat) : Nat := ofLe (((l.drop (pa % 64)).take size).map (·.toNat))

/-- A load of `size` bytes from a physical address with a type (R272-R274, R280). -/
def State.loadPa (s : State) (n va pa size ty : Nat) (err : MemErr) : Run Nat :=
  if ty ≠ 0 then
    let s := s.drainAll n
    if regionType pa = 2 then
      let (v, e, s) := s.busRead pa size
      if e then (s, .error (.exc { code := 0x0B, addr := some va })) else (s, .ok v)
    else (s.readBytes n va pa size err).andThen fun s l => (s, .ok (lineValue l 0 size))
  else
    match (s.core n).sbuf.reverse.find? (fun e => e.touches pa size) with
    | some e =>
      if e.pa = pa ∧ e.size = size then (s, .ok (e.val % 2 ^ (8 * size)))
      else ((s.drainTouching n pa size).readBytes n va pa size err).andThen fun s l => (s, .ok (lineValue l 0 size))
    | none =>
      if s.flag CPO_MODE_DET n then (s.readBytes n va pa size err).andThen fun s l => (s, .ok (lineValue l 0 size))
      else
        let line := pa / 64
        -- a parity error in a cache line drops the line, and it is fetched again
        let bad := match err with
          | .dcacheLine => (s.core n).dcache.any (fun q => q.1 == line)
          | _ => false
        let s := if bad then
            (s.setCore n { s.core n with dcache := (s.core n).dcache.filter (fun q => q.1 != line) }).perr n 1 pa
          else s
        match (s.core n).dcache.find? (fun q => q.1 == line) with
        | some q => (s, .ok (lineValue q.2 pa size))
        | none =>
          let s := s.bump CPO_MISS_DMISS n
          (s.readBytes n va (line * 64) 64 err).andThen fun s l => (s.fillD n line l, .ok (lineValue l pa size))

/-- A scalar data read: the rules of deterministic mode, alignment, translation, and the read. -/
def State.load (s : State) (n va size : Nat) (err : MemErr) : Run Nat :=
  (s.preAccess n va size false).andThen fun s _ =>
    (s.translate n va .read err).andThen fun s p => s.loadPa n va p.1 size p.2 err

/-- A scalar store up to the store buffer. -/
def State.storeCheck (s : State) (n va size v : Nat) (err : MemErr) : Run StoreEnt :=
  (s.preAccess n va size true).andThen fun s _ =>
    (s.translate n va .write err).andThen fun s p => (s, .ok ⟨va, p.1, size, v % 2 ^ (8 * size)⟩)

/-! ### Fetch (R272, R275, 11 R306) -/

/-- The virtual address of a PC: sign-extended from bit 47 under translation (11 R302). -/
def State.pcVa (s : State) (n pc : Nat) : Nat :=
  if s.flag MMU_CTL_EN n && bit pc 47 then pc % 2 ^ 48 + 0xFFFF000000000000 else pc % 2 ^ 48

/-- An I-cache line is looked up, and fetched on a miss. DESIGN CHOICE (log 207): `CPO_PERR` captures the virtual address of the fetch where a line
of the I-cache is bad, and the physical address for the D-cache and the LSRAM. -/
def State.fetchLine (s : State) (n va line : Nat) (err : MemErr) : Run Unit :=
  let bad := match err with
    | .icacheLine => (s.core n).icache.any (· == line)
    | _ => false
  let s := if bad then (s.setCore n { s.core n with icache := (s.core n).icache.filter (· != line) }).perr n 0 va else s
  if (s.core n).icache.any (· == line) then (s, .ok ())
  else
    let e := match err with
      | .fetchParity => MemErr.dataParity
      | .hbm r => .hbm r
      | _ => .none
    let s := s.bump CPO_MISS_IMISS n
    (s.readBytes n va (line * 64) 64 e).andThen fun s _ =>
      let x := s.core n
      let same := x.icache.filter (fun q => q % 128 == line % 128)
      if same.length < 4 then (s.setCore n { x with icache := line :: x.icache }, .ok ())
      else
        let (w, s) := s.fresh
        (s.setCore n { x with icache := line :: x.icache.erase (same.getD (w.toNat % same.length) line) }, .ok ())

/-- The halfwords of one page part of an instruction are fetched. -/
def State.fetchPart (s : State) (n va len : Nat) (err : MemErr) : Run Unit :=
  (s.translate n va .fetch err).andThen fun s p =>
    let pa := p.1
    (s.detRule n va (2 * len) false).andThen fun s _ =>
    if p.2 ≠ 0 || s.flag CPO_MODE_DET n then
      let e := match err with
        | .fetchParity => MemErr.dataParity
        | .hbm r => .hbm r
        | _ => .none
      (s.readBytes n va pa (2 * len) e).andThen fun s _ => (s, .ok ())
    else
      (s.fetchLine n va (pa / 64) err).andThen fun s _ =>
        if (pa + 2 * len - 1) / 64 = pa / 64 then (s, .ok ()) else s.fetchLine n va (pa / 64 + 1) err

/-- An exception of a fetch names it. -/
def asFetch {α : Type} (r : Run α) : Run α :=
  match r with
  | (s, .error (.exc x)) => (s, .error (.exc { x with fetch := true }))
  | r => r

/-- Under DETSTRICT a fetch that no locked entry serves takes DET_ACCESS before any walk (R281). -/
def State.fetchUnlocked (s : State) (n va : Nat) : Bool :=
  s.strict n && s.flag MMU_CTL_EN n && ((s.core n).lockHits (bits va 47 12) (s.get MMU_ASID_ASID n)).isEmpty &&
    (bits va 63 47 == 0 || bits va 63 47 == 0x1FFFF)

/-- The target of a transfer is odd (R260): ALIGN, after what outranks it in R279. Nothing is read. -/
def State.fetchOdd (s : State) (n pc : Nat) (err : MemErr) : Run Unit :=
  let va := s.pcVa n pc
  asFetch (
    if s.fetchUnlocked n va then (s, .error (.exc { code := 0x0A, addr := some va }))
    else (s.translate n va .fetch err).andThen fun s _ =>
      (s.detRule n va 2 false).andThen fun s _ => (s, .error (.exc { code := 0x03, addr := some va })))

/-- The fetch of the second instruction of a pair, `len` halfwords at a PC, is translated before the first one accesses anything (11 R314). DEDUCED
(log 206): its fault is the group's whatever the first instruction would meet, since 09 R279 ranks IFETCH_MMU first within a group. -/
def State.fetchAhead (s : State) (n pc len : Nat) (err : MemErr) : Run Unit :=
  let va := s.pcVa n pc
  let room := (4096 - va % 4096) / 2
  asFetch (
    if s.fetchUnlocked n va then (s, .ok ())
    else (s.translate n va .fetch err).andThen fun s _ =>
      if len ≤ room then (s, .ok ()) else (s.translate n (s.pcVa n (pc + 2 * room)) .fetch err).andThen fun s _ => (s, .ok ()))

/-- An instruction of `len` halfwords is fetched at a PC. -/
def State.fetch (s : State) (n pc len : Nat) (err : MemErr) : Run Unit :=
  let va := s.pcVa n pc
  let room := (4096 - va % 4096) / 2
  asFetch (
    if s.fetchUnlocked n va then (s, .error (.exc { code := 0x0A, addr := some va }))
    else if len ≤ room then s.fetchPart n va len err
    else (s.fetchPart n va room err).andThen fun s _ => s.fetchPart n (s.pcVa n (pc + 2 * room)) (len - room) err)

end Sys2Proof.Machine
end

