-- ==== Sys2Proof/Machine/Capo.lean ====
section
/-! DEFINITION. How a Capo core runs (09): exception entry, how a group completes, and how an instruction issues in its group. -/

namespace Sys2Proof.Machine

/-! ### Registers -/

/-- A register by its code: 0 A, 1 X, 2 Y, 3 SP, 4 DP (R261). -/
def CoreSt.reg (x : CoreSt) (r : Nat) : Word :=
  match r with
  | 0 => x.a
  | 1 => x.x
  | 2 => x.y
  | 3 => x.sp
  | _ => x.dp

/-- Write a register; bits [2:0] of SP and DP stay 0 (R257). -/
def CoreSt.setReg (x : CoreSt) (r : Nat) (w : Word) : CoreSt :=
  let low := BitVec.ofNat 64 (w.toNat / 8 * 8)
  match r with
  | 0 => { x with a := w }
  | 1 => { x with x := w }
  | 2 => { x with y := w }
  | 3 => { x with sp := low }
  | _ => { x with dp := low }

/-- Write several registers, in order. -/
def CoreSt.setRegs (x : CoreSt) (l : List (Nat × Word)) : CoreSt := l.foldl (fun x p => x.setReg p.1 p.2) x

/-- A vector register. -/
def CoreSt.vreg (x : CoreSt) (v : Nat) : Nat := sget x.vregs v 0

/-- The bytes of a 256-bit mask that hold a bit of it. -/
def maskBytes (m : Nat) : Nat := (List.range 32).foldl (fun a b => a + b2n (bits m (8 * b + 7) (8 * b) != 0) * 2 ^ b) 0

/-- Write the bits of a mask of several vector registers; every byte written gets its parity anew (10 R285, R297). -/
def CoreSt.setVecs (x : CoreSt) (l : List (Nat × Nat × Nat)) : CoreSt :=
  l.foldl (fun x p => { x with
    vregs := sput x.vregs p.1 ((p.2.1 &&& p.2.2) ||| (x.vreg p.1 &&& (p.2.2 ^^^ (2 ^ 256 - 1)))) 0
    vbad := sput x.vbad p.1 (sget x.vbad p.1 0 &&& (maskBytes p.2.2 ^^^ (2 ^ 32 - 1))) 0 }) x

/-- Every pending load-class result becomes visible. -/
def CoreSt.settle (x : CoreSt) : CoreSt :=
  { (x.setRegs (x.late.map (·.2))).setVecs (x.vlate.map (·.2)) with late := [], vlate := [] }

/-- The core issues groups: powered, out of reset, not stopped, halted, waiting or frozen. -/
def State.issues (s : State) (n : Nat) : Bool :=
  let x := s.core n
  s.coreOn n && !s.clockStopped && !x.held && !x.stopped && !x.halted && !x.waiting && x.syncing.isNone

/-! ### Exception and event entry (R277-R279, 12 R343) -/

/-- `CPO_XINFO` as a word. -/
def State.xinfo (s : State) (n : Nat) : Nat := s.plainRead .CPO_XINFO n

/-- The core serves channels (19 R527). -/
def State.servesChannels (s : State) (n : Nat) : Bool := s.img.servers.contains n

/-- The core has a backup (19 R527). -/
def State.hasBackup (s : State) (n : Nat) : Bool :=
  let b := s.backup.getD n 0xFF
  decide (b < 20) && b != n && s.ready (5 * 1024 + b)

/-- The frame cannot be stacked: the core stops (R279). -/
def State.capoStop (s : State) (n fa : Nat) : State :=
  let s := s.raise CPO_XINFO_DBL n
  let s := s.setCore n { s.core n with stopped := true, first := none }
  let s : State := { s with owner := if s.owner = n + 1 then 0 else s.owner }
  let s := s.fault 0x501 (if s.servesChannels n && !s.hasBackup n then 3 else 0) (coreDie n) n 0xFFFF (s.xinfo n) fa
  (s.coreFaultLevel n).coreReady n

/-- The six words of a frame: PC, ST, A, X, Y, DP. -/
def CoreSt.frame (x : CoreSt) (pc st : Nat) : List Nat := [pc, st, x.a.toNat, x.x.toNat, x.y.toNat, x.dp.toNat]

/-- The words of a frame from an address up are translated as supervisor writes; every one must lie in the core's own LSRAM. `k` numbers the
first of the words given. -/
def State.frameStores (s : State) (n fa : Nat) (fe : FrameErr) (k : Nat) : List Nat → Run (List StoreEnt)
  | [] => (s, .ok [])
  | v :: t => (s.translateAs n fa .write false (if fe.word.val = k then fe.err else .none)).andThen fun s p =>
      if !ownLsram n p.1 8 then (s, .error (excOf 0))
      else (s.frameStores n ((fa + 8) % two64) fe (k + 1) t).andThen fun s l => (s, .ok (⟨fa, p.1, 8, v⟩ :: l))

/-- Where the frame of core n goes. -/
def State.frameAddr (s : State) (n : Nat) : Nat := ((s.core n).settle.sp.toNat + two64 - 48) % two64

/-- The walk of a frame's translation waits, for a busy flash device or for the requests of a stack's cells: the pipeline freezes (R266). -/
def State.frameWaits (s : State) (n : Nat) (fe : FrameErr) : Bool :=
  match (s.frameStores n (s.frameAddr n) fe 0 (List.replicate 6 0)).2 with
  | .error .wait => true
  | _ => false

/-- A count of hub cores and one of tile cores (R282). -/
def byDie (n hub tile : Nat) : Nat := if n < 4 then hub else tile

/-- A counter takes an increment that the spec leaves open. -/
def State.openCount (s : State) (f : Field) (n : Nat) : State :=
  let (w, s) := s.fresh
  s.bump f n (w.toNat % 2 ^ f.width)

/-- CCLK cycles that are fixed in deterministic mode and open in normal mode. -/
def State.spend (s : State) (n k : Nat) : State :=
  if s.flag CPO_MODE_DET n then s.bump CPO_CYC_COUNT n k else s.openCount CPO_CYC_COUNT n

/-- A frame is stacked: pending loads complete, SP moves, SUP is set, and issue goes on at a vector, `cyc` cycles later (12 R344); or the core
stops. The truth value says that it was stacked. -/
def State.stackFrame (s : State) (n pc st code : Nat) (cyc : Nat := byDie n 12 20) (fe : FrameErr := {}) : State × Bool :=
  let x := (s.core n).settle
  let s := s.setCore n { x with first := none, waiting := false, frozen := false }
  let fa := (x.sp.toNat + two64 - 48) % two64
  match s.frameStores n fa fe 0 (x.frame pc st) with
  | (s, .error _) => (s.capoStop n fa, false)
  | (s, .ok l) =>
    let s := (l.foldl (fun s e => s.pushStore n e) s).spend n cyc
    let y := (s.core n).setReg 3 (BitVec.ofNat 64 fa)
    (s.setCore n { y with
      st := putBit y.st 12 true, delay := 0, dtgt := 0, undo := none, skipBp := false, entry := false, odd := false, outside := false
      pc := (s.get CPO_XVBAR_BASE n * 2 ^ 11 + 0x40 * code) % 2 ^ 48 }, true)

/-- An exception is taken (R277, R278); a STEP of debug ends with it (18 R487). `len` is the length in halfwords of the faulting group, where the stacked PC lies after
it. The pipeline freezes while a walk of the frame's translation waits (R266), and nothing else happens. -/
def State.takeExc (s : State) (n : Nat) (e : Exc) (second : Bool) (len : Nat) (fe : FrameErr := {}) : State :=
  let x := s.core n
  if s.frameWaits n fe then s.setCore n { x with frozen := true }
  else
    let s := ((((s.set CPO_XINFO_CODE n e.code).set CPO_XINFO_SLOT n (b2n second)).set CPO_XINFO_FETCH n (b2n e.fetch)).set CPO_XINFO_WRITE n
      (b2n e.write)).set CPO_XINFO_ARG n e.arg
    let s := match e.addr with
      | some a => s.set CPO_XADDR_ADDR n a
      | none => s
    let s := if x.delay = 1 then s.set CPO_XTGT_ADDR n x.dtgt else s
    let s := if e.code = 0x0D then s.fault 0x502 0 (coreDie n) n 0xFFFF (s.get CPO_XADDR_ADDR n) 0 else s
    let pc := if e.after then (x.pc + 2 * len) % 2 ^ 48 else x.pc
    let s := ((s.stackFrame n pc (putBit x.st 14 (x.delay == 1)) e.code (byDie n 12 20) fe).1).boundaryHalt n
    { s with cycle := s.cycle.coreDone n }

/-! ### How a group completes (R263-R269) -/

/-- The effects of a pair: where both write a register or a flag, the second one's value is kept (R263). -/
def Eff.join (a b : Eff) : Eff :=
  let w := (b.alu ++ b.loads).map (·.1)
  let keep := fun (p : Nat × Word) => !w.any (· == p.1)
  let vw := (b.vec ++ b.vload).map (·.1)
  let vkeep := fun (p : Nat × Nat × Nat) => !vw.any (· == p.1)
  { alu := a.alu.filter keep ++ b.alu, loads := a.loads.filter keep ++ b.loads
    mask := a.mask ||| b.mask, flags := (a.flags &&& a.mask &&& (b.mask ^^^ 15)) ||| (b.flags &&& b.mask)
    stores := a.stores ++ b.stores, rsops := a.rsops ++ b.rsops
    delay := b.delay, target := b.target
    vec := a.vec.filter vkeep ++ b.vec, vload := a.vload.filter vkeep ++ b.vload
    vl := b.vl.orElse (fun _ => a.vl), vstores := a.vstores ++ b.vstores, vbus := b.vbus.orElse (fun _ => a.vbus)
    inval := a.inval ++ b.inval
    drop := if b.drop = 0 then a.drop else b.drop, line := if b.drop = 0 then a.line else b.line
    st := b.st, jump := b.jump, claim := b.claim, cost := a.cost + b.cost, mem := a.mem || b.mem, vector := a.vector || b.vector, free := a.free || b.free }

/-- One operation of the return stack of 16 entries (R268, R269). -/
def State.rsOp (s : State) (n : Nat) (o : Option Nat) : State :=
  let x := s.core n
  match o with
  | none => s.setCore n { x with rs := x.rs.drop 1 }
  | some v =>
    let s := if 16 ≤ x.rs.length then s.raise CPO_RSSTAT_WRAP n else s
    s.setCore n { x with rs := (v % 2 ^ 48 :: x.rs).take 16 }

/-- Load-class results come one group nearer, and those that are due become visible (R265). -/
def CoreSt.advance (x : CoreSt) : CoreSt :=
  let l := x.late.map (fun p => (p.1 - 1, p.2))
  let v := x.vlate.map (fun p => (p.1 - 1, p.2))
  let y := (x.setRegs ((l.filter (fun p => p.1 == 0)).map (·.2))).setVecs ((v.filter (fun p => p.1 == 0)).map (·.2))
  { y with late := l.filter (fun p => p.1 != 0), vlate := v.filter (fun p => p.1 != 0) }

/-- A TLB invalidation is applied by core n (11 R322). -/
def State.applyInval (s : State) (n k a x : Nat) : State :=
  let c := s.core n
  let asid := x % 2 ^ 12
  let vpn := bits a 47 12
  let hit := fun (e : TlbEnt) => match k % 4 with
    | 0 => true
    | 1 => !e.glob && e.asid == asid
    | 2 => e.maps vpn && (e.glob || e.asid == asid)
    | _ => e.maps vpn
  s.setCore n { c with
    l1 := c.l1.filter (fun e => !hit e), l2 := c.l2.filter (fun e => !hit e)
    locks := if bit k 2 then c.locks.filter (fun p => !hit p.2) else c.locks }

/-- A TLBINV of core n completes (11 R322-R324): the store buffer is empty; LOCAL applies to the core alone, a broadcast goes to every
core, and the hub acknowledges for those that are off or held in reset. -/
def State.invalidate (s : State) (n k a x : Nat) : State :=
  let s := s.drainAll n
  if bit k 3 then s.applyInval n k a x
  else
    let live := (List.range 20).filter (fun m => s.coreOn m && !(s.core m).held)
    let c := s.core n
    let id := c.bcastNo
    let s := s.setCore n { c with bcastNo := id + 1, bcasts := c.bcasts ++ [⟨id, live⟩] }
    let s := live.foldl (fun s m => s.setCore m { s.core m with invq := (s.core m).invq ++ [⟨n, id, k % 8, a, x⟩] }) s
    (s.set MMU_SYNC_OUTST n ((s.core n).bcasts.length - 1)).raise MMU_SYNC_PENDING n

/-- A cache line is dropped. -/
def State.dropLine (s : State) (n which line : Nat) : State :=
  let x := s.core n
  match which with
  | 1 => s.setCore n { x with dcache := x.dcache.filter (fun q => q.1 != line) }
  | 2 => s.setCore n { x with icache := x.icache.filter (· != line) }
  | _ => s

/-- Cycles of a group: the fixed count in deterministic mode, else an open number; the counters that a wrong path may change are
open where a control transfer was predicted (R276). -/
def State.countGroup (s : State) (n : Nat) (e : Eff) (ctl : Bool) : State :=
  let s := s.bump CPO_GRP_COUNT n
  if s.flag CPO_MODE_DET n && !e.free && !(s.core n).outside then s.bump CPO_CYC_COUNT n e.cost
  else
    let s := s.openCount CPO_CYC_COUNT n
    if ctl && !s.flag CPO_MODE_DET n then
      [CPO_MISS_IMISS, CPO_MISS_DMISS, MMU_CNT_L1MISS, MMU_CNT_WALKS, MMU_L2CNT_L2MISS].foldl (fun s f => s.openCount f n) s
    else s

/-- The claim of an event (12 R343). -/
def State.evClaim (s : State) (n input prio : Nat) : State :=
  (((s.set CPO_EVT_CLAIM_INPUT n input).set CPO_EVT_CLAIM_PRIO n prio).raise CPO_EVT_CLAIM_VALID n).bump CPO_EVT_STAT_ENTRIES n

/-- What is fixed about an instruction before it runs: its length in halfwords; whether it is a memory access or a control
transfer of R263, has a delay slot, is a conditional branch, must stand alone in its group, or is a vector instruction. -/
structure Info where
  len : Nat
  mem : Bool := false
  ctl : Bool := false
  slot : Bool := false
  cond : Bool := false
  solo : Bool := false
  vector : Bool := false
  deriving DecidableEq, Repr

/-- The BTB takes the target of a transfer at a PC: a way of its set, open where all four hold other tags (R271). -/
def State.btbFill (s : State) (n pc target : Nat) : State :=
  let x := s.core n
  let rest := x.btb.filter (fun e => !(e.1 == bits pc 7 1 && e.2.1 == bits pc 47 8))
  let same := rest.filter (fun e => e.1 == bits pc 7 1)
  let put := fun (s : State) l => s.setCore n { s.core n with btb := (bits pc 7 1, bits pc 47 8, target) :: l }
  if same.length < 4 then put s rest
  else
    let (w, s) := s.fresh
    put s (rest.erase (same.getD (w.toNat % same.length) (0, 0, 0)))

/-- A transfer completes in normal mode: the direction counter of a conditional branch, under PC[13:2] XOR the history, moves towards its
direction, which enters the history; the BTB holds the target of a taken one. With BPOFF = 1 nothing is predicted (R271). DESIGN CHOICE
(log 164): what fills the BTB, which counter values there are, and that a wrong path leaves no trace. -/
def State.predict (s : State) (n : Nat) (i : Info) (taken : Bool) (target : Nat) : State :=
  if !i.slot || s.flag CPO_MODE_DET n || s.flag CPO_MODE_BPOFF n then s
  else
    let x := s.core n
    let k := bits x.pc 13 2 ^^^ x.hist
    let c := sget x.counters k 0
    let s := if i.cond then s.setCore n { x with
        counters := sput x.counters k (if taken then min 3 (c + 1) else c - 1) 0
        hist := (2 * x.hist + b2n taken) % 4096 } else s
    if taken then s.btbFill n x.pc target else s

/-- The idle timer of the CVU starts anew: a vector instruction has completed (10 R299). -/
def State.cvuUsed (s : State) (n : Nat) : State := (s.raise CVU_STAT_LIVE n).setCore n { s.core n with idleAt := s.tb, idleFor := 0 }

/-- A group of `len` halfwords completes. `post` is the further effect of an instruction that stands alone in its group. -/
def State.commit (s : State) (n len : Nat) (e : Eff) (i : Info) (post : State → State) : State :=
  let s := s.predict n i (e.delay == 1) e.target
  let x := s.core n
  let next := match e.jump with
    | some t => t
    | none => if x.delay = 1 then x.dtgt else (x.pc + 2 * len) % 2 ^ 48
  let y := (((x.advance).setRegs e.alu).setVecs e.vec)
  let y := { y with
    late := y.late ++ e.loads.map (fun p => (2, p)), vlate := y.vlate ++ e.vload.map (fun p => (2, p))
    st := e.st.getD (y.st / 16 * 16 + ((y.st % 16 &&& (e.mask ^^^ 15)) ||| (e.flags &&& e.mask)))
    pc := next / 2 * 2, odd := next % 2 == 1, frozen := false, entryF1 := if e.claim.isSome then 1 else x.entryF1, delay := e.delay, dtgt := e.target, first := none, skipBp := false, entry := e.claim.isSome
    undo := if e.jump.isSome && e.claim.isNone then some [x.a.toNat, x.x.toNat, x.y.toNat, x.dp.toNat, x.sp.toNat, x.st] else none }
  let s := e.stores.foldl (fun s q => s.pushStore n q) (s.setCore n y)
  let s := e.rsops.foldl (fun s o => s.rsOp n o) s
  let s := match e.vl with
    | some v => s.set CVU_VL_VL n v
    | none => s
  let s := if e.vector then s.cvuUsed n else s
  let s := s.dropLine n e.drop e.line
  let s := e.inval.foldl (fun s q => s.invalidate n q.1 q.2.1 q.2.2) s
  let s := match e.claim with
    | some (i, p) => (s.evClaim n i p).raise CPO_EVT_STAT_CHAIN n
    | none => s
  let s := (post s).countGroup n e i.ctl
  let s := (s.setCore n { s.core n with outside := false }).boundaryHalt n
  { s with cycle := s.cycle.coreDone n }

/-- Vector stores are performed one by one, in element order; a bus error names its element, and `bus` is one whose write the bus refuses
(10 R292, R294, R295). -/
def State.performVec (s : State) (n : Nat) (bus : Option Nat) : List (Nat × StoreEnt) → State × Option (Nat × Nat)
  | [] => (s, none)
  | (i, e) :: t =>
    if bus == some i then (s, some (i, e.va)) else
    let was := (s.core n).serr
    let s' := (s.setCore n { s.core n with serr := none }).performStore n e
    let r := s'.setCore n { s'.core n with serr := was }
    if (s'.core n).serr.isSome then (r, some (i, e.va)) else r.performVec n bus t

/-- A vector fault is recorded (10 R294). -/
def State.cvuFault (s : State) (n elem cause : Nat) (write : Bool) : State :=
  (((s.set CVU_FAULT_ELEM n elem).set CVU_FAULT_CAUSE n cause).set CVU_FAULT_WRITE n (b2n write)).raise CVU_FAULT_VALID n

/-- The vector stores of a group are performed, and then the group completes; `second`: they are those of the second instruction of a
pair. The pipeline freezes while a write of one would wait (10 R292; 13 R356, R364). -/
def State.finish (s : State) (n len : Nat) (second : Bool) (e : Eff) (i : Info) (post : State → State) (fe : FrameErr := {}) : State :=
  if e.vstores.isEmpty then s.commit n len e i post
  else if e.vstores.any (fun q => (s.drainAll n).writeWaits q.2.pa) then s.setCore n { s.core n with frozen := true }
  else
    match (s.drainAll n).performVec n e.vbus e.vstores with
    | (s, none) => s.commit n len e i post
    | (s, some (k, va)) => (s.cvuFault n k 4 true).takeExc n { code := 0x0F, addr := some va, write := true } second len fe

/-! ### How an instruction issues -/

/-- An annulled delay slot: only the PC moves (R267). -/
def State.annulled (s : State) (n len : Nat) (pair : Bool) : State :=
  let x := s.core n
  let s := s.setCore n { x with pc := (x.pc + 2 * len) % 2 ^ 48, delay := if pair then 3 else 0, skipBp := false, entry := false, undo := none }
  let s := if s.flag CPO_MODE_DET n then (if pair then s else s.bump CPO_CYC_COUNT n) else s.openCount CPO_CYC_COUNT n
  if pair then s else s.boundaryHalt n

/-- Before a group issues: STORE_ERROR, and the halts of debug. The ALIGN of an odd target outranks STORE_ERROR, which waits (R279). -/
def State.beforeGroup (s : State) (n : Nat) (fe : FrameErr := {}) : Option State :=
  let x := s.core n
  if x.first.isSome || x.frozen then none
  else if x.delay = 0 && s.domOn 765 && x.haltReq then some (s.haltCore n 0)
  else match (if x.delay = 3 || x.odd then none else x.serr) with
    | some a =>
      let t := s.setCore n { x with serr := none }
      some (if t.frameWaits n fe then s else t.takeExc n { code := 0x0C, addr := some a, write := true } false 0 fe)
    | none =>
      if x.delay = 0 && s.domOn 765 && !x.skipBp && s.bpMatch n x.pc then some (s.haltCore n 1) else none

/-- R263 and R267 forbid the instruction where it stands. -/
def CoreSt.misplaced (x : CoreSt) (g : Slot) (i : Info) : Bool :=
  (i.ctl && (x.delay == 1 || x.delay == 2)) || (g.pair && (i.ctl || i.solo)) ||
    match x.first with
    | some (e, _) => g.pair || i.solo || (e.mem && i.mem)
    | none => false

/-- An exception of an access that outranks ILLEGAL and what follows it: PARITY, DET_ACCESS, ALIGN (R279). -/
def Exc.outranks (e : Exc) : Bool := e.code == 0x0D || e.code == 0x0A || e.code == 0x03

/-- An instruction ends in an exception without an address, unless one of the accesses that it would make outranks it (R279). -/
def State.stopUnless {α β : Type} (s : State) (code : Nat) (access : State → Run α) : Run β :=
  match access s with
  | (t, .error (.exc e)) => if e.outranks then (t, .error (.exc e)) else (s, .error (excOf code))
  | _ => (s, .error (excOf code))

/-- The instruction stands where R263 or R267 forbids it, or its operation is reserved: ILLEGAL, unless its own access outranks it; a reserved vector operation with VEN = 0 takes CVU_OFF (10 R288). -/
def State.illegal (s : State) (n : Nat) (g : Slot) (i : Info) (eval : State → Run Eff) : Run Eff :=
  if g.rsvd then (s, .error (excOf (if i.vector && !bit (s.core n).st 13 then 0x0E else 0x01))) else s.stopUnless 0x01 eval

/-- Core n issues an instruction: the fetch, its own computation `eval`, and, at the end of its group, the effects. An
exception or a wait ends it otherwise. DEDUCED (log 206): of a pair, the translation fault of the second's fetch comes before any exception of the
first beyond its own fetch, and any other exception of the first before those of the second and of the pair. -/
def State.issue (s : State) (n : Nat) (g : Slot) (i : Info) (eval : State → Run Eff) (post : State → State) : State :=
  if !s.issues n then s
  else match s.beforeGroup n g.stack with
    | some t => t
    | none =>
      let s := match g.spec with
        | some w => s.specWalk n w
        | none => s
      let x := s.core n
      if x.delay = 3 then s.annulled n i.len g.pair
      else
        let before := match x.first with
          | some (_, k) => k
          | none => 0
        let second := x.first.isSome
        if i.slot && !x.skipBp && s.domOn 765 && s.bpMatch n ((x.pc + 2 * (before + i.len)) % 2 ^ 48) then s.haltCore n 1
        else
          let own := if x.odd then s.fetchOdd n (x.pc + 1) g.err else s.fetch n ((x.pc + 2 * before) % 2 ^ 48) i.len g.err
          let both := own.andThen fun s _ => if g.pair then s.fetchAhead n ((x.pc + 2 * (before + i.len)) % 2 ^ 48) g.next.toNat g.ahead else (s, .ok ())
          let second := second || (match own.2, both.2 with
            | .ok _, .error _ => true
            | _, _ => false)
          let r := both.andThen fun s _ => if g.rsvd || x.misplaced g i then s.illegal n g i eval else eval s
          match r with
          | (_, .error .wait) => s.setCore n { x with frozen := true }
          | (t, .error (.exc e)) => t.takeExc n e second (before + i.len) g.stack
          | (t, .ok e) =>
            let e := { e with mem := e.mem || i.mem }
            if g.pair then t.setCore n { t.core n with first := some (e, i.len), frozen := false }
            else
              let whole := match x.first with
                | some (a, _) => a.join e
                | none => e
              t.finish n (before + i.len) (second && !e.vstores.isEmpty) whole i post g.stack

/-- The outcome of a Capo command. -/
def State.capo (s : State) (n : Core) (g : Slot) (i : Info) (eval : State → Run Eff) (post : State → State := id) : Host.Outcome State Fault Refusal :=
  .next (s.issue n.val g i eval post)

end Sys2Proof.Machine
end

