-- ==== Sys2Proof/Machine/CapoInstr.lean ====
section
/-! DEFINITION. The scalar instructions of the Capo (09 R258-R270, 11 R322-R325). -/

namespace Sys2Proof.Machine

/-! ### Shared parts -/

/-- An instruction that ends in an exception. -/
def stop {α : Type} (s : State) (code : Nat) : Run α := (s, .error (excOf code))

/-- A privileged instruction: PRIV in user mode. -/
def State.privileged {α : Type} (s : State) (n : Nat) (f : State → Run α) : Run α := if (s.core n).user then stop s 0x02 else f s

/-- A Word from a number. -/
def wd (v : Nat) : Word := BitVec.ofNat 64 v

/-- An ALU result in a register, with flags under a mask. -/
def aluEff (r v : Nat) (mask : Nat := 0) (flags : Nat := 0) (cost : Nat := 1) : Eff := { alu := [(r, wd v)], mask := mask, flags := flags, cost := cost }

/-- An ALU result with Z and N. -/
def aluZN (r v : Nat) (cost : Nat := 1) : Eff := aluEff r v 6 (flagsZN v) cost

end Sys2Proof.Machine

namespace Sys2Proof

open Sys2Proof.Machine

/-! ### Operand fields (R259, R261, R282) -/

/-- F, and F sign-extended to 64 bits. -/
def MemOp.field (o : MemOp) : Nat := if o.long then o.f.toNat else o.f.toNat % 2 ^ 20

/-- F sign-extended. -/
def MemOp.simm (o : MemOp) : Nat := wrap (sext o.field (if o.long then 36 else 20)) 64

/-- AM as a number. -/
def MemOp.mode (o : MemOp) : Nat := o.am.toNat

/-- The operand fields take ILLEGAL; `imm`: AM 0 is allowed. -/
def MemOp.bad (o : MemOp) (imm : Bool) : Bool :=
  o.mode == 7 || (o.mode == 1 && !o.long) || (o.mode == 2 && o.field / 2 ^ 12 != 0) || (o.mode == 0 && !imm)

/-- Length in halfwords. -/
def MemOp.len (o : MemOp) : Nat := if o.long then 3 else 2

/-- A memory-format instruction, before it runs. -/
def MemOp.info (o : MemOp) : Info := { len := o.len, mem := o.mode != 0 }

/-- What the access at the effective address meets: in mode 5 the second data access. -/
def MemOp.rest (o : MemOp) (g : Slot) : MemErr := if o.mode = 5 && g.nth != 1 then .none else g.err

/-- What the read of the pointer of mode 5 meets. -/
def MemOp.first (o : MemOp) (g : Slot) : MemErr := if o.mode = 5 && g.nth != 0 then .none else g.err

/-- What the k-th word of a frame meets. -/
def Slot.wordErr (g : Slot) (k : Nat) : MemErr := if g.nth.val = k then g.err else .none

/-- The access term of R282. -/
def MemOp.access (o : MemOp) (n : Nat) : Nat := if o.mode = 0 then 0 else if o.mode = 5 then byDie n 2 17 else byDie n 0 8

/-- The store access term. -/
def MemOp.storeAccess (o : MemOp) (n : Nat) : Nat := if o.mode = 5 then byDie n 2 10 else byDie n 0 1

/-- The count of JMP and CALL. -/
def MemOp.jumpCost (o : MemOp) (n : Nat) : Nat := if o.mode = 5 then 6 + o.access n else 2

end Sys2Proof

namespace Sys2Proof.Machine

/-! ### Operands -/

/-- The address the first access of an operand is made at: the pointer's in mode 5. -/
def State.firstAddr (s : State) (n : Nat) (o : MemOp) : Nat :=
  let x := s.core n
  match o.mode with
  | 1 => o.simm
  | 2 => (x.dp.toNat + o.field % 2 ^ 12) % two64
  | 3 => (x.x.toNat + o.simm) % two64
  | 4 => (x.y.toNat + o.simm) % two64
  | 5 => (x.x.toNat + o.simm) % two64
  | _ => (x.sp.toNat + o.simm) % two64

/-- The effective address (R259). -/
def State.ea (s : State) (n : Nat) (o : MemOp) (g : Slot) : Run Nat :=
  if o.mode = 5 then s.load n (s.firstAddr n o) 8 (o.first g) else (s, .ok (s.firstAddr n o))

/-- The operand: the immediate, or `size` bytes at the effective address. -/
def State.operand (s : State) (n : Nat) (o : MemOp) (size : Nat) (g : Slot) : Run Nat :=
  if o.mode = 0 then (s, .ok o.simm) else (s.ea n o g).andThen fun s a => s.load n a size (o.rest g)

/-- A memory-format instruction that reads its operand and computes. -/
def State.reads (s : State) (n : Core) (g : Slot) (o : MemOp) (imm : Bool) (size base : Nat) (f : CoreSt → Nat → Eff) : Host.Outcome State Fault Refusal :=
  s.capo n g o.info fun s =>
    if o.bad imm then stop s 0x01
    else (s.operand n.val o size g).andThen fun s v =>
      (s, .ok { f (s.core n.val) v with cost := base + o.access n.val })

/-- A store of the `size` low bytes of a register value. -/
def State.stores (s : State) (n : Core) (g : Slot) (o : MemOp) (size : Nat) (f : CoreSt → Nat) : Host.Outcome State Fault Refusal :=
  s.capo n g o.info fun s =>
    if o.bad false then stop s 0x01
    else (s.ea n.val o g).andThen fun s a => (s.storeCheck n.val a size (f (s.core n.val)) (o.rest g)).andThen fun s e =>
      (s, .ok { stores := [e], cost := 1 + o.storeAccess n.val })

/-- A 16-bit instruction with an ALU effect. -/
def State.alu (s : State) (n : Core) (g : Slot) (f : CoreSt → Eff) : Host.Outcome State Fault Refusal :=
  s.capo n g { len := 1 } fun s => (s, .ok (f (s.core n.val)))

/-! ### 16-bit instructions -/

/-- NOP. -/
def execNop (n : Core) (g : Slot) (s : State) : Host.Outcome State Fault Refusal := s.alu n g fun _ => {}

/-- MOVR *d*,*s*. -/
def execMovr (n : Core) (g : Slot) (k : BitVec 6) (s : State) : Host.Outcome State Fault Refusal :=
  let src := k.toNat % 8
  let d := k.toNat / 8
  s.capo n g { len := 1 } fun s =>
    if 4 < src || 4 < d || src == d then stop s 0x01 else (s, .ok (aluEff d ((s.core n.val).reg src).toNat))

/-- EXR *d*,*s*. -/
def execExr (n : Core) (g : Slot) (k : BitVec 6) (s : State) : Host.Outcome State Fault Refusal :=
  let src := k.toNat % 8
  let d := k.toNat / 8
  s.capo n g { len := 1 } fun s =>
    let x := s.core n.val
    if 4 < src || 4 < d || src == d then stop s 0x01 else (s, .ok { alu := [(d, x.reg src), (src, x.reg d)] })

/-- INX, DEX, INY, DEY, by OP7 in this order. -/
def execIncDec (n : Core) (g : Slot) (op : BitVec 2) (s : State) : Host.Outcome State Fault Refusal :=
  let r := 1 + op.toNat / 2
  s.alu n g fun x => aluZN r (((x.reg r).toNat + (if op.toNat % 2 = 0 then 1 else two64 - 1)) % two64)

/-- NEG: A := −A, with the flags of 0 − A. -/
def execNeg (n : Core) (g : Slot) (s : State) : Host.Outcome State Fault Refusal :=
  s.alu n g fun x => let (r, f) := subFlags 0 x.a.toNat 1
    aluEff 0 r 15 f

/-- NOT. -/
def execNotA (n : Core) (g : Slot) (s : State) : Host.Outcome State Fault Refusal := s.alu n g fun x => aluZN 0 (two64 - 1 - x.a.toNat)

/-- CLC. -/
def execClc (n : Core) (g : Slot) (s : State) : Host.Outcome State Fault Refusal := s.alu n g fun _ => { mask := 1, flags := 0 }

/-- SEC. -/
def execSec (n : Core) (g : Slot) (s : State) : Host.Outcome State Fault Refusal := s.alu n g fun _ => { mask := 1, flags := 1 }

/-- A shift or rotate of A. -/
def shiftEff (op a k : Nat) : Eff :=
  let (r, f, m) := shiftFlags op a k
  aluEff 0 r m f

/-- SHLI, SHRI, SRAI, ROLI by K. -/
def execShliShriSraiRoli (n : Core) (g : Slot) (op : BitVec 2) (k : BitVec 6) (s : State) : Host.Outcome State Fault Refusal :=
  s.alu n g fun x => shiftEff op.toNat x.a.toNat k.toNat

/-- POPC. -/
def execPopc (n : Core) (g : Slot) (s : State) : Host.Outcome State Fault Refusal := s.alu n g fun x => aluZN 0 (popcount 64 x.a.toNat)

/-- PUSHA, PUSHX, PUSHY: SP := SP − 8, then store. -/
def execPushaPushxPushy (n : Core) (g : Slot) (r : Fin 3) (s : State) : Host.Outcome State Fault Refusal :=
  s.capo n g { len := 1, mem := true } fun s =>
    let x := s.core n.val
    let a := (x.sp.toNat + two64 - 8) % two64
    (s.storeCheck n.val a 8 (x.reg r.val).toNat g.err).andThen fun s e =>
      (s, .ok { alu := [(3, wd a)], stores := [e], cost := byDie n.val 1 2 })

/-- POPA, POPX, POPY: load, then SP := SP + 8. -/
def execPopaPopxPopy (n : Core) (g : Slot) (r : Fin 3) (s : State) : Host.Outcome State Fault Refusal :=
  s.capo n g { len := 1, mem := true } fun s =>
    let a := (s.core n.val).sp.toNat
    (s.load n.val a 8 g.err).andThen fun s v =>
      (s, .ok { alu := [(3, wd (a + 8))], loads := [(r.val, wd v)], cost := byDie n.val 1 9 })

/-! ### Control transfers and the return stack (R267-R270) -/

/-- A transfer with a delay slot. -/
def slotInfo (len : Nat) (mem : Bool) : Info := { len := len, mem := mem, ctl := true, slot := true }

/-- A taken transfer to a target. -/
def takeTo (t cost : Nat) : Eff := { delay := 1, target := t % 2 ^ 48, cost := cost }

/-- The address of the group after the delay slot of a call: `len` halfwords of its own instruction, `dlen` of the slot. -/
def CoreSt.returnAddr (x : CoreSt) (len dlen : Nat) : Nat :=
  let before := match x.first with
    | some (_, k) => k
    | none => 0
  (x.pc + 2 * (before + len + dlen)) % 2 ^ 48

/-- Entries that the return stack holds behind the operations of the pair's first instruction. -/
def CoreSt.rsLeft (x : CoreSt) : Nat :=
  let ops := match x.first with
    | some (e, _) => e.rsops
    | none => []
  ops.foldl (fun k o => if o.isSome then min 16 (k + 1) else k - 1) x.rs.length

/-- A push onto the return stack is an RS_OVERFLOW (R269). DESIGN CHOICE (log 163): in a pair, fullness is judged behind the first instruction. -/
def State.rsFull (s : State) (n : Nat) : Bool := decide (16 ≤ (s.core n).rsLeft) && s.flag CPO_CFG_RSOVF n

/-- The entry that a pop takes: the top as it stands for the group (R263); none on an empty stack, where it is an RS_UNDERFLOW. -/
def CoreSt.rsTop (x : CoreSt) : Option Nat := if x.rsLeft = 0 then none else x.rs.head?

/-- RET. -/
def execRet (n : Core) (g : Slot) (s : State) : Host.Outcome State Fault Refusal :=
  s.capo n g (slotInfo 1 false) fun s =>
    match (s.core n.val).rsTop with
    | none => stop s 0x05
    | some t => (s, .ok { takeTo t 2 with rsops := [none] })

/-- JMPX. -/
def execJmpx (n : Core) (g : Slot) (s : State) : Host.Outcome State Fault Refusal :=
  s.capo n g (slotInfo 1 false) fun s => (s, .ok (takeTo (s.core n.val).x.toNat 2))

/-- CALLX; `dlen` is the length in halfwords of the group in the delay slot. -/
def execCallx (n : Core) (g : Slot) (dlen : BitVec 3) (s : State) : Host.Outcome State Fault Refusal :=
  s.capo n g (slotInfo 1 false) fun s =>
    let x := s.core n.val
    if s.rsFull n.val then stop s 0x04 else (s, .ok { takeTo x.x.toNat 2 with rsops := [some (x.returnAddr 1 dlen.toNat)] })

/-- RSPUSH. -/
def execRspush (n : Core) (g : Slot) (s : State) : Host.Outcome State Fault Refusal :=
  s.capo n g { len := 1 } fun s => if s.rsFull n.val then stop s 0x04 else (s, .ok { rsops := [some (s.core n.val).a.toNat] })

/-- RSPOP. -/
def execRspop (n : Core) (g : Slot) (s : State) : Host.Outcome State Fault Refusal :=
  s.capo n g { len := 1 } fun s =>
    match (s.core n.val).rsTop with
    | none => stop s 0x05
    | some t => (s, .ok { aluEff 0 t with rsops := [none] })

/-- RSCNT. -/
def execRscnt (n : Core) (g : Slot) (s : State) : Host.Outcome State Fault Refusal := s.alu n g fun x => aluEff 0 x.rs.length

/-- RSX: 0 at or beyond the count. -/
def execRsx (n : Core) (g : Slot) (s : State) : Host.Outcome State Fault Refusal := s.alu n g fun x => aluEff 0 (x.rs.getD (x.x.toNat % 16) 0)

/-- DET_ACCESS and ALIGN of the words of a frame. -/
def State.preFrame (s : State) (n : Nat) : List Nat → Run Unit
  | [] => (s, .ok ())
  | a :: t => (s.preAccess n (a % two64) 8 false).andThen fun s _ => s.preFrame n t

/-- The words of a frame are translated: virtual and physical address and type. `k` numbers the first of them. -/
def State.frameAddrs (s : State) (n : Nat) (g : Slot) (k : Nat) : List Nat → Run (List (Nat × Nat × Nat))
  | [] => (s, .ok [])
  | a :: t => (s.translate n (a % two64) .read (g.wordErr k)).andThen fun s p =>
      (s.frameAddrs n g (k + 1) t).andThen fun s l => (s, .ok ((a % two64, p) :: l))

/-- The words of a frame are read. -/
def State.frameLoads (s : State) (n : Nat) (g : Slot) (k : Nat) : List (Nat × Nat × Nat) → Run (List Nat)
  | [] => (s, .ok [])
  | q :: t => (s.loadPa n q.1 q.2.1 8 q.2.2 (g.wordErr k)).andThen fun s v =>
      (s.frameLoads n g (k + 1) t).andThen fun s l => (s, .ok (v :: l))

/-- The words of a frame are read. PARITY of one comes first, then DET_ACCESS and ALIGN of every word, and then their translation
faults; no word is read before these (R279, 11 R314). -/
def State.readFrame (s : State) (n : Nat) (l : List Nat) (g : Slot) : Run (List Nat) :=
  let whole := (s.preFrame n l).andThen fun s _ => (s.frameAddrs n g 0 l).andThen fun s q => s.frameLoads n g 0 q
  let k := g.nth.val % 6
  match s.load n (l.getD k 0 % two64) 8 (g.wordErr k) with
  | (t, .error (.exc e)) => if e.code = 0x0D then (t, .error (.exc e)) else whole
  | _ => whole

/-- RETI: it chains to a higher offer (12 R347), or unstacks (R277, R278). -/
def execReti (n : Core) (g : Slot) (s : State) : Host.Outcome State Fault Refusal :=
  let n' := n.val
  s.capo n g { len := 1, ctl := true, solo := true } fun s =>
    let x := s.core n'
    let sp := x.sp.toNat
    let words := [sp, sp + 8, sp + 16, sp + 24, sp + 32, sp + 40]
    if x.user then s.stopUnless 0x02 fun s => s.readFrame n' words g
    else (s.readFrame n' words g).andThen fun s l =>
      let v := fun k => l.getD k 0
      let chain := match s.offer n' with
        | some (i, p) => if s.flag CPO_EVT_CTL_ACCEPT n' && decide (bits (v 1) 11 8 < p) then some (i, p) else none
        | none => none
      match chain with
      | some (i, p) =>
        (s, .ok { st := some (putBits (putBit x.st 12 true) 8 4 p), claim := some (i, p), cost := byDie n' 7 17
                  jump := some ((s.get CPO_XVBAR_BASE n' * 2 ^ 11 + 0x40 * (0x10 + p)) % 2 ^ 48) })
      | none =>
        let ds := bit (v 1) 14
        (s, .ok { alu := [(0, wd (v 2)), (1, wd (v 3)), (2, wd (v 4)), (4, wd (v 5)), (3, wd (sp + 48))]
                  st := some (stWrite x.st (v 1)), jump := some (v 0 % 2 ^ 48), cost := byDie n' 12 20
                  delay := if ds then 1 else 0, target := if ds then s.get CPO_XTGT_ADDR n' % 2 ^ 48 else 0 })

/-! ### System instructions -/

/-- SYNC: the store buffer is empty before the next group. -/
def execSyncOp (n : Core) (g : Slot) (s : State) : Host.Outcome State Fault Refusal :=
  s.capo n g { len := 1, solo := true } (fun s => (s.drainAll n.val, .ok {}))

/-- SYNCI: SYNC, and the I-cache is invalid. -/
def execSynci (n : Core) (g : Slot) (s : State) : Host.Outcome State Fault Refusal :=
  s.capo n g { len := 1, solo := true } (fun s => (s.drainAll n.val, .ok { cost := 7 }))
    (fun s => s.setCore n.val { s.core n.val with icache := [] })

/-- WAIT: issue stops until an event is accepted. -/
def execWaitOp (n : Core) (g : Slot) (s : State) : Host.Outcome State Fault Refusal :=
  s.capo n g { len := 1, solo := true } (fun s => s.privileged n.val fun s => (s, .ok { free := true }))
    (fun s => s.setCore n.val { s.core n.val with waiting := true })

/-- SYSCALL. -/
def execSyscall (n : Core) (g : Slot) (k : BitVec 6) (s : State) : Host.Outcome State Fault Refusal :=
  s.capo n g { len := 1, ctl := true } fun s => (s, .error (.exc { code := 0x06, arg := k.toNat, after := true }))

/-- BRK. -/
def execBrk (n : Core) (g : Slot) (k : BitVec 6) (s : State) : Host.Outcome State Fault Refusal :=
  s.capo n g { len := 1, ctl := true } fun s => (s, .error (.exc { code := 0x07, arg := k.toNat, after := true }))

/-- Broadcasts that the first instruction of the pair is about to send. -/
def CoreSt.firstBcasts (x : CoreSt) : Nat :=
  match x.first with
  | some (e, _) => e.inval.countP (fun q => !bit q.1 3)
  | none => 0

/-- TLBINV: at most 8 broadcasts outstanding (11 R322, R323). -/
def execTlbinv (n : Core) (g : Slot) (k : BitVec 6) (s : State) : Host.Outcome State Fault Refusal :=
  s.capo n g { len := 1 } fun s =>
    let x := s.core n.val
    if 16 ≤ k.toNat then stop s 0x01
    else s.privileged n.val fun s =>
      if !bit k.toNat 3 && decide (8 ≤ x.bcasts.length + x.firstBcasts) then (s, .error .wait)
      else (s, .ok { inval := [(k.toNat, x.a.toNat, x.x.toNat)], cost := 7 })

/-- TLBSYNC: complete at once where nothing is outstanding (11 R325). -/
def execTlbsync (n : Core) (g : Slot) (s : State) : Host.Outcome State Fault Refusal :=
  s.capo n g { len := 1, solo := true } (fun s => s.privileged n.val fun s => (s, .ok { cost := 1600 }))
    (fun s => if (s.core n.val).bcasts.isEmpty then s else s.setCore n.val { s.core n.val with syncing := some s.tb })

/-- DCINV (privileged): the address A is translated as a read (11 R308), under R281 before PRIV (R279). -/
def execDcinv (n : Core) (g : Slot) (s : State) : Host.Outcome State Fault Refusal :=
  s.capo n g { len := 1, mem := true } fun s => (s.detRule n.val (s.core n.val).a.toNat 1 false).andThen fun s _ => s.privileged n.val fun s =>
    (s.translate n.val (s.core n.val).a.toNat .read g.err).andThen fun s p => (s, .ok { drop := 1, line := p.1 / 64 })

/-- ICINV. -/
def execIcinv (n : Core) (g : Slot) (s : State) : Host.Outcome State Fault Refusal :=
  s.capo n g { len := 1, mem := true } fun s => (s.detRule n.val (s.core n.val).a.toNat 1 false).andThen fun s _ =>
    (s.translate n.val (s.core n.val).a.toNat .read g.err).andThen fun s p => (s, .ok { drop := 2, line := p.1 / 64 })

/-- MFCR: control register K; unassigned numbers read 0 (00 R12). -/
def execMfcr (n : Core) (g : Slot) (k : BitVec 6) (s : State) : Host.Outcome State Fault Refusal :=
  s.capo n g { len := 1 } fun s =>
    if (s.core n.val).user && k.toNat != 9 && k.toNat != 10 then stop s 0x02
    else match RegAt.reg ⟨.cpo, n.val, 8 * k.toNat⟩ with
      | some (r, i) => (s, .ok (aluEff 0 (s.regRead r i)))
      | none => (s, .ok (aluEff 0 0))

/-- MTCR. A write of `CPO_SVC_AD` waits for a SERVICE credit (R284). -/
def execMtcr (n : Core) (g : Slot) (k : BitVec 6) (s : State) : Host.Outcome State Fault Refusal :=
  let v := (s.core n.val).a.toNat
  s.capo n g { len := 1, solo := true }
    (fun s => s.privileged n.val fun s =>
      if k.toNat = 0x0E && s.answerWaits n.val then (s, .error .wait)
      else (s, .ok { cost := if k.toNat = 0x0D ∨ k.toNat = 0x0E then 1 else 7 }))
    (fun s => match RegAt.reg ⟨.cpo, n.val, 8 * k.toNat⟩ with
      | some (r, i) => s.regWrite (.core n) .cpo r i v (two64 - 1)
      | none => s)

/-! ### Memory-format instructions -/

/-- LDA in its full and zero-extended forms: 8, 4, 2, 1 bytes. -/
def execLda (n : Core) (g : Slot) (o : MemOp) (size : BitVec 2) (s : State) : Host.Outcome State Fault Refusal :=
  s.reads n g o (size == 0) (8 / 2 ^ size.toNat) 1 fun _ v => { loads := [(0, wd v)] }

/-- LDAS.W, LDAS.H, LDAS.B: sign-extended. -/
def execLdas (n : Core) (g : Slot) (o : MemOp) (size : Fin 3) (s : State) : Host.Outcome State Fault Refusal :=
  let b := 4 / 2 ^ size.val
  s.reads n g o false b 1 fun _ v => { loads := [(0, wd (wrap (sext v (8 * b)) 64))] }

/-- LDX, LDY. -/
def execLdxLdy (n : Core) (g : Slot) (o : MemOp) (y : Bool) (s : State) : Host.Outcome State Fault Refusal :=
  s.reads n g o true 8 1 fun _ v => { loads := [(if y then 2 else 1, wd v)] }

/-- STA, STA.W, STA.H, STA.B. -/
def execSta (n : Core) (g : Slot) (o : MemOp) (size : BitVec 2) (s : State) : Host.Outcome State Fault Refusal :=
  s.stores n g o (8 / 2 ^ size.toNat) fun x => x.a.toNat

/-- STX, STY. -/
def execStxSty (n : Core) (g : Slot) (o : MemOp) (y : Bool) (s : State) : Host.Outcome State Fault Refusal :=
  s.stores n g o 8 fun x => if y then x.y.toNat else x.x.toNat

/-- LEA. -/
def execLea (n : Core) (g : Slot) (o : MemOp) (s : State) : Host.Outcome State Fault Refusal :=
  s.capo n g o.info fun s =>
    if o.bad false then stop s 0x01
    else (s.ea n.val o g).andThen fun s a => (s, .ok { aluEff 0 a with cost := 1 + o.access n.val })

/-- A := the result of an addition, with all flags. -/
def arith (p : Nat × Nat) : Eff := aluEff 0 p.1 15 p.2

/-- ADD. -/
def execAdd (n : Core) (g : Slot) (o : MemOp) (s : State) : Host.Outcome State Fault Refusal :=
  s.reads n g o true 8 1 fun x v => arith (addFlags x.a.toNat v 0)
/-- ADC. -/
def execAdc (n : Core) (g : Slot) (o : MemOp) (s : State) : Host.Outcome State Fault Refusal :=
  s.reads n g o true 8 1 fun x v => arith (addFlags x.a.toNat v (x.st % 2))
/-- SUB. -/
def execSub (n : Core) (g : Slot) (o : MemOp) (s : State) : Host.Outcome State Fault Refusal :=
  s.reads n g o true 8 1 fun x v => arith (subFlags x.a.toNat v 1)
/-- SBC. -/
def execSbc (n : Core) (g : Slot) (o : MemOp) (s : State) : Host.Outcome State Fault Refusal :=
  s.reads n g o true 8 1 fun x v => arith (subFlags x.a.toNat v (x.st % 2))

/-- AND, OR, XOR. -/
def execAndOrXor (n : Core) (g : Slot) (o : MemOp) (op : Fin 3) (s : State) : Host.Outcome State Fault Refusal :=
  s.reads n g o true 8 1 fun x v =>
    aluZN 0 (if op.val = 0 then x.a.toNat &&& v else if op.val = 1 then x.a.toNat ||| v else x.a.toNat ^^^ v)

/-- CMP, CMPX, CMPY. -/
def execCmpCmpxCmpy (n : Core) (g : Slot) (o : MemOp) (r : Fin 3) (s : State) : Host.Outcome State Fault Refusal :=
  s.reads n g o true 8 1 fun x v => { mask := 15, flags := (subFlags (x.reg r.val).toNat v 1).2 }

/-- MUL. -/
def execMul (n : Core) (g : Slot) (o : MemOp) (s : State) : Host.Outcome State Fault Refusal :=
  s.reads n g o true 8 4 fun x v => aluZN 0 (x.a.toNat * v % two64)

/-- MULHU, MULHS. -/
def execMulhuMulhs (n : Core) (g : Slot) (o : MemOp) (signed : Bool) (s : State) : Host.Outcome State Fault Refusal :=
  s.reads n g o true 8 4 fun x v =>
    aluZN 0 (if signed then wrap (sext x.a.toNat 64 * sext v 64 / 2 ^ 64) 64 else x.a.toNat * v / two64)

/-- The four divisions, in the order of the table (R262). Where a signed quotient is negative and not whole, the spec
states no rounding. -/
def divide (op a b : Nat) : Nat :=
  let z := sext a 64
  let d := sext b 64
  let q : Int := if decide (0 ≤ z) = decide (0 ≤ d) then ((z.natAbs / d.natAbs : Nat) : Int) else openDiv (if d < 0 then -z else z) d.natAbs
  match op with
  | 0 => if b = 0 then two64 - 1 else a / b
  | 1 => if b = 0 then a else a % b
  | 2 => if b = 0 then two64 - 1 else wrap q 64
  | _ => if b = 0 then a else wrap (z - q * d) 64

/-- DIVU, REMU, DIVS, REMS. -/
def execDivuRemuDivsRems (n : Core) (g : Slot) (o : MemOp) (op : BitVec 2) (s : State) : Host.Outcome State Fault Refusal :=
  s.reads n g o true 8 36 fun x v => aluZN 0 (divide op.toNat x.a.toNat v)

/-- SHL, SHR, SRA, ROL by op[5:0]. -/
def execShlShrSraRol (n : Core) (g : Slot) (o : MemOp) (op : BitVec 2) (s : State) : Host.Outcome State Fault Refusal :=
  s.reads n g o true 8 1 fun x v => shiftEff op.toNat x.a.toNat (v % 64)

/-- ADDX, ADDY. -/
def execAddxAddy (n : Core) (g : Slot) (o : MemOp) (y : Bool) (s : State) : Host.Outcome State Fault Refusal :=
  let r := if y then 2 else 1
  s.reads n g o true 8 1 fun x v => aluZN r (((x.reg r).toNat + v) % two64)

/-- LDDP, LDSP. -/
def execLddpLdsp (n : Core) (g : Slot) (o : MemOp) (sp : Bool) (s : State) : Host.Outcome State Fault Refusal :=
  s.reads n g o true 8 1 fun _ v => aluEff (if sp then 3 else 4) v

/-- LDHI: the 48-bit immediate form only. -/
def execLdhi (n : Core) (g : Slot) (o : MemOp) (s : State) : Host.Outcome State Fault Refusal :=
  s.capo n g o.info fun s =>
    if o.mode ≠ 0 || !o.long then stop s 0x01 else (s, .ok (aluEff 0 ((s.core n.val).a.toNat % 2 ^ 36 + o.field % 2 ^ 28 * 2 ^ 36)))

/-- The target of JMP and CALL. -/
def State.target (s : State) (n : Nat) (o : MemOp) (g : Slot) : Run Nat :=
  if o.mode = 0 then (s, .ok (((s.core n).pc + 2 * o.simm) % 2 ^ 48)) else s.ea n o g

/-- JMP. -/
def execJmp (n : Core) (g : Slot) (o : MemOp) (s : State) : Host.Outcome State Fault Refusal :=
  s.capo n g (slotInfo o.len (o.mode != 0)) fun s =>
    if o.bad true then stop s 0x01 else (s.target n.val o g).andThen fun s t => (s, .ok (takeTo t (o.jumpCost n.val)))

/-- CALL. -/
def execCall (n : Core) (g : Slot) (o : MemOp) (dlen : BitVec 3) (s : State) : Host.Outcome State Fault Refusal :=
  s.capo n g (slotInfo o.len (o.mode != 0)) fun s =>
    if o.bad true then stop s 0x01
    else if s.rsFull n.val then s.stopUnless 0x04 fun s => s.target n.val o g
    else (s.target n.val o g).andThen fun s t =>
      (s, .ok { takeTo t (o.jumpCost n.val) with rsops := [some ((s.core n.val).returnAddr o.len dlen.toNat)] })

/-- TST. -/
def execTst (n : Core) (g : Slot) (o : MemOp) (s : State) : Host.Outcome State Fault Refusal :=
  s.reads n g o true 8 1 fun x v => { mask := 6, flags := flagsZN (x.a.toNat &&& v) }

/-- LDST (privileged): ST := op. -/
def execLdst (n : Core) (g : Slot) (o : MemOp) (s : State) : Host.Outcome State Fault Refusal :=
  s.capo n g { o.info with solo := true } fun s =>
    if o.bad true then stop s 0x01
    else if (s.core n.val).user then s.stopUnless 0x02 fun s => s.operand n.val o 8 g
    else (s.operand n.val o 8 g).andThen fun s v =>
      (s, .ok { st := some (stWrite (s.core n.val).st v), cost := 7 + o.access n.val })

/-- ADDSP. -/
def execAddsp (n : Core) (g : Slot) (o : MemOp) (s : State) : Host.Outcome State Fault Refusal :=
  s.reads n g o true 8 1 fun x v => aluEff 3 ((x.sp.toNat + v) % two64)

/-- B*cc*: `annul` executes the delay slot only if taken; `rsv` are the bits [5:4] of halfword 0. -/
def execBcc (n : Core) (g : Slot) (cond : BitVec 4) (annul : Bool) (rsv : BitVec 2) (long : Bool) (f : BitVec 36) (s : State) :
    Host.Outcome State Fault Refusal :=
  let o : MemOp := ⟨long, 0, f⟩
  s.capo n g { slotInfo o.len false with cond := cond != 0 } fun s =>
    let x := s.core n.val
    if rsv ≠ 0 then stop s 0x01
    else if condition cond.toNat x.st x.x.toNat then
      (s, .ok (takeTo (x.pc + 2 * o.simm) (if cond = 0 then 2 else 6)))
    else (s, .ok { delay := if annul then 3 else 2, cost := 1 })

end Sys2Proof.Machine
end

