-- ==== Sys2Proof/Machine/CapoVec.lean ====
section
/-! DEFINITION. The vector instructions of the Capo (10). -/

namespace Sys2Proof.Machine

/-! ### Elements and groups (R285-R288) -/

/-- Bits per element, registers of a group, and elements of a group (R286). -/
def vBits (o : VOp) : Nat := 8 * 2 ^ o.ew.toNat
/-- Registers of a group. -/
def vRegs (o : VOp) : Nat := 2 ^ o.g.toNat
/-- NE. -/
def vNe (o : VOp) : Nat := 256 * vRegs o / vBits o

/-- The value of a register group. -/
def CoreSt.vgroup (x : CoreSt) (v g : Nat) : Nat := (List.range g).foldl (fun a k => a + x.vreg (v + k) * 2 ^ (256 * k)) 0

/-- Element i of a group value. -/
def elemOf (v e i : Nat) : Nat := v / 2 ^ (e * i) % 2 ^ e

/-- The active elements, in ascending order (R287). -/
def CoreSt.active (x : CoreSt) (o : VOp) (vl : Nat) : List Nat :=
  (List.range (min vl (vNe o))).filter (fun i => !o.m || bit (x.vreg 0) i)

/-- Elements as results of the registers of a group: register, value, mask. -/
def vResult (vd g e : Nat) (l : List (Nat × Nat)) : List (Nat × Nat × Nat) :=
  let v := l.foldl (fun a p => a + p.2 % 2 ^ e * 2 ^ (e * p.1)) 0
  let m := l.foldl (fun a p => a + (2 ^ e - 1) * 2 ^ (e * p.1)) 0
  (List.range g).map (fun k => (vd + k, v / 2 ^ (256 * k) % 2 ^ 256, m / 2 ^ (256 * k) % 2 ^ 256))

/-- The fields that an operation uses (R288): VD as a group (`d`) or as one register (`d1`), VA and VB as groups; how much of IMM
(0 none, 1 bits [5:0], 2 all); BR; SC; and the fields that must be 0 beside the unused ones. -/
structure VUse where
  d : Bool := false
  d1 : Bool := false
  a : Bool := false
  b : Bool := false
  imm : Nat := 0
  br : Bool := false
  sc : Bool := false
  noMask : Bool := false
  noShape : Bool := false
  deriving DecidableEq, Repr

/-- R288: the fields take ILLEGAL. -/
def VUse.bad (u : VUse) (o : VOp) : Bool :=
  let g := vRegs o
  let grp := fun (used : Bool) (v : BitVec 5) => if used then v.toNat % g != 0 else v != 0
  o.rsv != 0 || (if u.d1 then false else grp u.d o.vd) || grp u.a o.va || grp u.b o.vb ||
    (o.m && (u.d || u.d1) && o.vd == 0) || (!u.br && o.br) || (!u.sc && o.sc != 0) ||
    (u.imm == 0 && o.imm != 0) || (u.imm == 1 && decide (64 ≤ o.imm.toNat)) ||
    (u.noMask && o.m) || (u.noShape && (o.ew != 0 || o.g != 0))

/-- What an instruction is beside its fields: its uses; whether it stores, whether VD is a source, whether V0 is one; its count. -/
structure VKind where
  use : VUse
  store : Bool := false
  readsD : Bool := false
  readsV0 : Bool := false
  cost : Nat := 1

/-- The source groups that an instruction reads: first register and size. -/
def VKind.sources (k : VKind) (o : VOp) : List (Nat × Nat) :=
  let grp := fun (used : Bool) (v : BitVec 5) => if used then [(v.toNat, vRegs o)] else []
  grp k.use.a o.va ++ grp k.use.b o.vb ++ grp k.readsD o.vd ++ (if o.m || k.readsV0 then [(0, 1)] else [])

/-- The lowest element of the sources that holds a byte with wrong parity (R297). -/
def CoreSt.badElem (x : CoreSt) (k : VKind) (o : VOp) : Option Nat :=
  let all := (k.sources o).flatMap fun p => (List.range (32 * p.2)).filterMap fun b =>
    if bit (sget x.vbad (p.1 + b / 32) 0) (b % 32) then some (b / (vBits o / 8)) else none
  match all with
  | [] => none
  | i :: t => some (t.foldl Nat.min i)

/-- Bytes of a vector register take wrong parity. -/
def CoreSt.vUpset (x : CoreSt) (err : MemErr) : CoreSt :=
  match err with
  | .vreg r b => { x with vbad := sput x.vbad r.val (sget x.vbad r.val 0 ||| b.toNat) 0 }
  | _ => x

/-- CVU_FAULT (R294, R297). -/
def State.vFault {α : Type} (s : State) (n elem cause addr : Nat) (write : Bool) : Run α :=
  (s.cvuFault n elem cause write, .error (.exc { code := 0x0F, addr := some addr, write := write }))

/-- A vector instruction: CVU_OFF and ILLEGAL before the unit is touched, the wake, lost state and register parity (`g.err` may spoil
bytes of a register just before, and they stay so until they are written), then its own computation over the core and the active elements (R288, R297, R300, R301). -/
def State.vec (s : State) (n : Core) (g : Slot) (o : VOp) (mem : Bool) (k : VKind) (f : State → CoreSt → List Nat → Run Eff) :
    Host.Outcome State Fault Refusal :=
  let n' := n.val
  s.capo n g { len := 3, mem := mem, vector := true } fun s =>
    if !bit (s.core n').st 13 then stop s 0x0E
    else if k.use.bad o then stop s 0x01
    else
      let asleep := s.get CVU_STAT_PSTATE n' != 0
      let s := if asleep then (s.cvuWake n').cvuActive n' else s
      if s.flag CVU_STAT_LOST n' then
        let (w, s) := s.fresh
        let (v, s) := s.fresh
        s.vFault n' (w.toNat % 256) 6 v.toNat k.store
      else
        let s := s.setCore n' ((s.core n').vUpset g.err)
        match (s.core n').badElem k o with
        | some i => s.vFault n' i 7 0 k.store
        | none =>
          let x := s.core n'
          (f s x (x.active o (s.get CVU_VL_VL n'))).andThen fun s e =>
            (s, .ok { e with vector := true, cost := k.cost, free := e.free || asleep })

/-- The uses of VD, VA and VB; of VD and VA; of VA alone. -/
def useDAB : VUse := { d := true, a := true, b := true }
/-- VD and VA. -/
def useDA : VUse := { d := true, a := true }
/-- VA. -/
def useA : VUse := { a := true }

/-- An element-wise operation over *a*, *b* and bit i of V0. -/
def State.vMap (s : State) (n : Core) (g : Slot) (o : VOp) (k : VKind) (f : Nat → Nat → Bool → Nat) : Host.Outcome State Fault Refusal :=
  s.vec n g o false k fun s x l =>
    let e := vBits o
    let a := x.vgroup o.va.toNat (vRegs o)
    let b := x.vgroup o.vb.toNat (vRegs o)
    (s, .ok { vec := vResult o.vd.toNat (vRegs o) e (l.map (fun i => (i, f (elemOf a e i) (elemOf b e i) (bit (x.vreg 0) i)))) })

/-- A reduction of the active elements of VA into A. -/
def State.vReduce (s : State) (n : Core) (g : Slot) (o : VOp) (cost : Nat) (f : Word → List Nat → Nat) : Host.Outcome State Fault Refusal :=
  s.vec n g o false { use := useA, cost := cost } fun s x l =>
    let a := x.vgroup o.va.toNat (vRegs o)
    (s, .ok (aluEff 0 (f x.a (l.map (elemOf a (vBits o))))))

/-! ### Register operations -/

/-- Count *g* of the register operations. -/
def vKindDAB (o : VOp) : VKind := { use := useDAB, cost := vRegs o }
/-- The kind of an operation on *a* alone. -/
def vKindDA (o : VOp) : VKind := { use := useDA, cost := vRegs o }

/-- VADD. -/
def execVadd (n : Core) (g : Slot) (o : VOp) (s : State) : Host.Outcome State Fault Refusal := s.vMap n g o (vKindDAB o) fun a b _ => a + b
/-- VSUB. -/
def execVsub (n : Core) (g : Slot) (o : VOp) (s : State) : Host.Outcome State Fault Refusal :=
  s.vMap n g o (vKindDAB o) fun a b _ => a + 2 ^ vBits o - b
/-- VMUL. -/
def execVmul (n : Core) (g : Slot) (o : VOp) (s : State) : Host.Outcome State Fault Refusal :=
  s.vMap n g o { use := useDAB, cost := vRegs o + 3 } fun a b _ => a * b
/-- VMINU, VMAXU, VMINS, VMAXS, in this order. -/
def execVminuVmaxuVminsVmaxs (n : Core) (g : Slot) (o : VOp) (op : BitVec 2) (s : State) : Host.Outcome State Fault Refusal :=
  s.vMap n g o (vKindDAB o) fun a b _ =>
    let less := if op.toNat < 2 then decide (a < b) else decide (sext a (vBits o) < sext b (vBits o))
    if op.toNat % 2 = 0 then (if less then a else b) else (if less then b else a)
/-- VAND, VOR, VXOR, VANDN, in this order. -/
def execVandVorVxorVandn (n : Core) (g : Slot) (o : VOp) (op : BitVec 2) (s : State) : Host.Outcome State Fault Refusal :=
  s.vMap n g o (vKindDAB o) fun a b _ =>
    match op.toNat with
    | 0 => a &&& b
    | 1 => a ||| b
    | 2 => a ^^^ b
    | _ => a &&& (b ^^^ (2 ^ vBits o - 1))
/-- VSHL, VSHR, VSRA, in this order, by the low log2(EW) bits of *b*. -/
def execVshlVshrVsra (n : Core) (g : Slot) (o : VOp) (op : Fin 3) (s : State) : Host.Outcome State Fault Refusal :=
  s.vMap n g o (vKindDAB o) fun a b _ =>
    let k := b % vBits o
    match op.val with
    | 0 => a * 2 ^ k
    | 1 => a / 2 ^ k
    | _ => wrap (sext a (vBits o) / 2 ^ k) (vBits o)
/-- VSHLI: by IMM[5:0] modulo EW. -/
def execVshli (n : Core) (g : Slot) (o : VOp) (s : State) : Host.Outcome State Fault Refusal :=
  s.vMap n g o { use := { useDA with imm := 1 }, cost := vRegs o } fun a _ _ => a * 2 ^ (o.imm.toNat % 64 % vBits o)
/-- VCEQ, VCLTU, VCLTS, in this order. -/
def execVceqVcltuVclts (n : Core) (g : Slot) (o : VOp) (op : Fin 3) (s : State) : Host.Outcome State Fault Refusal :=
  s.vMap n g o (vKindDAB o) fun a b _ =>
    let c := if op.val = 0 then a == b else if op.val = 1 then decide (a < b) else decide (sext a (vBits o) < sext b (vBits o))
    if c then 2 ^ vBits o - 1 else 0
/-- VMSK: VD names one register. -/
def execVmsk (n : Core) (g : Slot) (o : VOp) (s : State) : Host.Outcome State Fault Refusal :=
  s.vec n g o false { use := { d1 := true, a := true }, cost := vRegs o } fun s x l =>
    let a := x.vgroup o.va.toNat (vRegs o)
    (s, .ok { vec := vResult o.vd.toNat 1 1 (l.map (fun i => (i, b2n (elemOf a (vBits o) i != 0)))) })
/-- VSEL. -/
def execVsel (n : Core) (g : Slot) (o : VOp) (s : State) : Host.Outcome State Fault Refusal :=
  s.vMap n g o { use := { useDAB with noMask := true }, readsV0 := true, cost := vRegs o } fun a b m => if m then a else b
/-- VMOV. -/
def execVmov (n : Core) (g : Slot) (o : VOp) (s : State) : Host.Outcome State Fault Refusal := s.vMap n g o (vKindDA o) fun a _ _ => a
/-- VSPLAT. -/
def execVsplat (n : Core) (g : Slot) (o : VOp) (s : State) : Host.Outcome State Fault Refusal :=
  s.vec n g o false { use := { d := true }, cost := vRegs o } fun s x l =>
    (s, .ok { vec := vResult o.vd.toNat (vRegs o) (vBits o) (l.map (fun i => (i, x.a.toNat))) })
/-- VPOPC. -/
def execVpopc (n : Core) (g : Slot) (o : VOp) (s : State) : Host.Outcome State Fault Refusal :=
  s.vMap n g o (vKindDA o) fun a _ _ => popcount (vBits o) a
/-- VINS. -/
def execVins (n : Core) (g : Slot) (o : VOp) (s : State) : Host.Outcome State Fault Refusal :=
  s.vec n g o false { use := { d := true, noMask := true } } fun s x _ =>
    let i := x.x.toNat % 256
    (s, .ok (if i < vNe o then { vec := vResult o.vd.toNat (vRegs o) (vBits o) [(i, x.a.toNat)] } else {}))
/-- VEXT. -/
def execVext (n : Core) (g : Slot) (o : VOp) (s : State) : Host.Outcome State Fault Refusal :=
  s.vec n g o false { use := { a := true, noMask := true } } fun s x _ =>
    let i := x.x.toNat % 256
    (s, .ok (aluEff 0 (if i < vNe o then elemOf (x.vgroup o.va.toNat (vRegs o)) (vBits o) i else 0)))
/-- VSETVL: VL := min(A, 256); A := new VL. -/
def execVsetvl (n : Core) (g : Slot) (o : VOp) (s : State) : Host.Outcome State Fault Refusal :=
  s.vec n g o false { use := { noMask := true, noShape := true } } fun s x _ =>
    let v := min x.a.toNat 256
    (s, .ok { aluEff 0 v with vl := some v })

/-! ### Reductions and moves by rank -/

/-- VRADD. -/
def execVradd (n : Core) (g : Slot) (o : VOp) (s : State) : Host.Outcome State Fault Refusal :=
  s.vReduce n g o (vRegs o + 4) fun _ l => l.foldl (· + ·) 0 % two64
/-- VRXOR. -/
def execVrxor (n : Core) (g : Slot) (o : VOp) (s : State) : Host.Outcome State Fault Refusal :=
  s.vReduce n g o (vRegs o + 4) fun _ l => l.foldl (· ^^^ ·) 0
/-- VRMINU, VRMAXU; all ones or 0 if none is active. -/
def execVrminuVrmaxu (n : Core) (g : Slot) (o : VOp) (max : Bool) (s : State) : Host.Outcome State Fault Refusal :=
  s.vReduce n g o (vRegs o + 4) fun _ l =>
    if max then l.foldl Nat.max 0 else match l with
      | [] => two64 - 1
      | v :: t => t.foldl Nat.min v
/-- VRPOPC. -/
def execVrpopc (n : Core) (g : Slot) (o : VOp) (s : State) : Host.Outcome State Fault Refusal :=
  s.vReduce n g o (vRegs o + 4) fun _ l => l.foldl (fun a v => a + popcount (vBits o) v) 0
/-- VCOMPRESS. -/
def execVcompress (n : Core) (g : Slot) (o : VOp) (s : State) : Host.Outcome State Fault Refusal :=
  s.vec n g o false { use := useDA, cost := 2 * vRegs o + 1 } fun s x l =>
    let a := x.vgroup o.va.toNat (vRegs o)
    (s, .ok { aluEff 0 l.length with
      vec := vResult o.vd.toNat (vRegs o) (vBits o) ((List.range l.length).zip (l.map (elemOf a (vBits o)))) })
/-- VEXPAND. -/
def execVexpand (n : Core) (g : Slot) (o : VOp) (s : State) : Host.Outcome State Fault Refusal :=
  s.vec n g o false { use := useDA, cost := 2 * vRegs o + 1 } fun s x l =>
    let a := x.vgroup o.va.toNat (vRegs o)
    (s, .ok { aluEff 0 l.length with
      vec := vResult o.vd.toNat (vRegs o) (vBits o) (l.zip ((List.range l.length).map (elemOf a (vBits o)))) })
/-- VCRC: the running CRC-32C state, without the final inversion. -/
def execVcrc (n : Core) (g : Slot) (o : VOp) (s : State) : Host.Outcome State Fault Refusal :=
  s.vReduce n g o (8 * vRegs o) fun a l => crcFold (l.flatMap (leBytes (vBits o / 8))) (a.toNat % 2 ^ 32)

/-! ### Memory (R292-R296) -/

/-- The address of element i: base + IMM + i × EW / 8, or base + IMM + *b* × scale. -/
def CoreSt.elemAddr (x : CoreSt) (o : VOp) (indexed : Bool) (i : Nat) : Nat :=
  let base := if o.br then x.y.toNat else x.x.toNat
  let off := if indexed then elemOf (x.vgroup o.vb.toNat (vRegs o)) (vBits o) i * 2 ^ o.sc.toNat else i * (vBits o / 8)
  (base + wrap (sext o.imm.toNat 14) 64 + off) % two64

/-- The check phase: every active element, in ascending order (R293). -/
def State.vCheck (s : State) (n : Nat) (size : Nat) (write : Bool) (err : MemErr) : List (Nat × Nat) → Run (List (Nat × Nat × Nat × Nat))
  | [] => (s, .ok [])
  | (i, va) :: t =>
    match s.detRule n va size write with
    | (s, .error e) => (s, .error e)
    | (s, .ok _) =>
    if va % size ≠ 0 then (s.cvuFault n i 2 write, .error (.exc { code := 0x03, addr := some va, write := write }))
    else match s.translate n va (if write then .write else .read) err with
      | (s, .error e) => (s.cvuFault n i 1 write, .error e)
      | (s, .ok (pa, ty)) =>
        if ty = 2 then s.vFault n i 3 va write
        else (s.vCheck n size write err t).andThen fun s l => (s, .ok ((i, va, pa, ty) :: l))

/-- The error that an element's read meets. -/
def elemErr (err : MemErr) (i : Nat) (first : Bool) : MemErr :=
  match err with
  | .elem j true => if j.toNat = i then .dataParity else .none
  | .elem _ false => .none
  | e => if first then e else .none

/-- An element's access returns a bus error. -/
def elemBus (err : MemErr) (i : Nat) : Bool :=
  match err with
  | .elem j false => j.toNat == i
  | _ => false

/-- The access phase of a load (R294, R295): the elements read. -/
def State.vLoads (s : State) (n size : Nat) (err : MemErr) (first : Bool) : List (Nat × Nat × Nat × Nat) → Run (List (Nat × Nat))
  | [] => (s, .ok [])
  | (i, va, pa, ty) :: t =>
    if elemBus err i then s.vFault n i 4 va false
    else match s.loadPa n va pa size ty (elemErr err i first) with
      | (s, .error (.exc e)) =>
        if e.code = 0x0D then ((s.fault 0x502 0 (coreDie n) n 0xFFFF va 0)).vFault n i 5 va false else s.vFault n i 4 va false
      | (s, .error .wait) => (s, .error .wait)
      | (s, .ok v) => (s.vLoads n size err false t).andThen fun s l => (s, .ok ((i, v) :: l))

/-- A vector load. -/
def State.vLoad (s : State) (n : Core) (g : Slot) (o : VOp) (k : VKind) (indexed : Bool) : Host.Outcome State Fault Refusal :=
  s.vec n g o true k fun s x l =>
    let size := vBits o / 8
    (s.vCheck n.val size false g.err (l.map (fun i => (i, x.elemAddr o indexed i)))).andThen fun s p =>
      (s.vLoads n.val size g.err true p).andThen fun s r => (s, .ok { vload := vResult o.vd.toNat (vRegs o) (vBits o) r })

/-- A vector store: its stores are performed when its group completes. -/
def State.vStore (s : State) (n : Core) (g : Slot) (o : VOp) (k : VKind) (indexed : Bool) : Host.Outcome State Fault Refusal :=
  s.vec n g o true k fun s x l =>
    let size := vBits o / 8
    let d := x.vgroup o.vd.toNat (vRegs o)
    (s.vCheck n.val size true g.err (l.map (fun i => (i, x.elemAddr o indexed i)))).andThen fun s p =>
      (s, .ok { vbus := (p.find? (fun q => elemBus g.err q.1)).map (·.1), vstores := p.map (fun q => (q.1, ⟨q.2.1, q.2.2.1, size, elemOf d (vBits o) q.1⟩)) })

/-- VLD. -/
def execVld (n : Core) (g : Slot) (o : VOp) (s : State) : Host.Outcome State Fault Refusal :=
  s.vLoad n g o { use := { d := true, imm := 2, br := true }, cost := byDie n.val (2 + vRegs o) (9 + vRegs o) } false
/-- VST. -/
def execVst (n : Core) (g : Slot) (o : VOp) (s : State) : Host.Outcome State Fault Refusal :=
  s.vStore n g o { use := { d := true, imm := 2, br := true }, store := true, readsD := true, cost := 1 + vRegs o } false
/-- VGATHER. -/
def execVgather (n : Core) (g : Slot) (o : VOp) (s : State) : Host.Outcome State Fault Refusal :=
  s.vLoad n g o { use := { d := true, b := true, imm := 2, br := true, sc := true }, cost := byDie n.val (2 + vNe o) (9 + vNe o) } true
/-- VSCATTER. -/
def execVscatter (n : Core) (g : Slot) (o : VOp) (s : State) : Host.Outcome State Fault Refusal :=
  s.vStore n g o { use := { d := true, b := true, imm := 2, br := true, sc := true }, store := true, readsD := true, cost := 1 + vNe o } true

end Sys2Proof.Machine
end

