-- ==== Sys2Proof/Machine/CapoEvents.lean ====
section
/-! DEFINITION. What happens to a Capo core beside its instructions: event acceptance (12 R342-R348), buffered stores (09 R273), the
service ring (09 R283), and TLB invalidations (11 R322-R325). -/

namespace Sys2Proof.Machine

/-! ### Events -/

/-- The offer that a core may accept above a mask level (R342): ACCEPT is 1 and the core runs. -/
def State.offerAbove (s : State) (n level : Nat) : Option (Nat × Nat) :=
  let x := s.core n
  if !s.coreOn n || s.clockStopped || x.held || x.stopped || x.halted || !s.flag CPO_EVT_CTL_ACCEPT n then none
  else match s.offer n with
    | some (i, p) => if level < p then some (i, p) else none
    | none => none

/-- ST with SUP set and IML at a priority. -/
def stEvent (st p : Nat) : Nat := putBits (putBit st 12 true) 8 4 p

/-- The vector of a priority (R343). -/
def State.eventVector (s : State) (n p : Nat) : Nat := (s.get CPO_XVBAR_BASE n * 2 ^ 11 + 0x40 * (0x10 + p)) % 2 ^ 48

/-- The vector of an event replaces the one being entered: the frame stays, IML and the claim take the new event (R345, R346). -/
def State.replaceEvent (s : State) (n i p : Nat) (f : Field) : State :=
  let x := s.core n
  ((s.setCore n { x with st := stEvent x.st p, pc := s.eventVector n p, odd := false }).evClaim n i p).raise f n

/-- An event is accepted at a group boundary: the frame, IML and the claim (R343). Its first handler group ends 12 or 20 cycles after the
last interrupted one, and counts the last of them itself (R344). While a walk of the frame's translation waits, the event is not accepted yet. -/
def State.acceptEvent (s : State) (n i p : Nat) (fe : FrameErr := {}) : State :=
  let x := s.core n
  if s.frameWaits n fe then s
  else match s.stackFrame n x.pc x.st (0x10 + p) (byDie n 11 19) fe with
  | (s, false) => s
  | (s, true) => (s.setCore n { s.core n with st := stEvent (s.core n).st p, entry := true, entryF1 := byDie n 6 4 }).evClaim n i p

/-- The CCLK cycles that core n has counted are `more` more and `less` less in deterministic mode, and open in normal mode. -/
def State.recount (s : State) (n more less : Nat) : State :=
  if s.flag CPO_MODE_DET n then s.set CPO_CYC_COUNT n (min (s.get CPO_CYC_COUNT n + more - less) (2 ^ 64 - 1)) else s.openCount CPO_CYC_COUNT n

/-- An offer reaches the core in entry cycle c: in deterministic mode it replaces the vector from cycle 1 to F2, and F1 of the new vector is
the later of the old F1 and c + 1 (R345). In normal mode the cycles are not fixed. -/
def State.replaceEntry (s : State) (n i p c : Nat) : State :=
  let f := (s.core n).entryF1
  if s.flag CPO_MODE_DET n && (c == 0 || decide (f + byDie n 1 11 < c)) then s
  else
    let g := max f (c + 1)
    let s := s.replaceEvent n i p CPO_EVT_STAT_REPL
    (s.setCore n { s.core n with entryF1 := g }).recount n g f

/-- An offer reaches the core between F2 and the E/W of the first handler group, which does not execute: F1 of the new vector is the next
cycle (R346). -/
def State.replaceLate (s : State) (n i p : Nat) : State :=
  let s := s.replaceEvent n i p CPO_EVT_STAT_LATE
  (s.setCore n { s.core n with entryF1 := (s.core n).entryF1 + byDie n 7 17 }).spend n (byDie n 7 17)

/-- An exit is abandoned in cycle c after the E/W of RETI: A, X, Y, DP and SP are those before RETI, and F1 of the vector is cycle c + 1. In
deterministic mode an offer in the last two cycles comes too late (R348). -/
def State.abandonExit (s : State) (n i p c : Nat) (r : List Nat) : State :=
  let x := s.core n
  let v := fun k => wd (r.getD k 0)
  if s.flag CPO_MODE_DET n && (c == 0 || decide (byDie n 10 18 < c)) then s
  else
    let s := (s.setCore n { x with
      a := v 0, x := v 1, y := v 2, dp := v 3, sp := v 4, st := stEvent (r.getD 5 0) p, pc := s.eventVector n p
      delay := 0, dtgt := 0, undo := none, entry := true, entryF1 := c + 1, odd := false }).evClaim n i p
    (s.recount n (c + byDie n 7 17) (byDie n 12 20)).raise CPO_EVT_STAT_CHAIN n

/-- EVENT_ACCEPTANCE: `w` says where the offer meets the core, with its cycle in an entry or exit (R345-R348). An odd target takes its ALIGN
before an event (09 R260; DESIGN CHOICE, log 165). -/
def execEventAcceptance (n : Core) (w : EvWindow) (s : State) (stack : FrameErr := {}) : Host.Outcome State Fault Refusal :=
  let n := n.val
  let x := s.core n
  match s.offerAbove n (bits x.st 11 8) with
  | none => .next s
  | some (i, p) => match w with
    | .boundary => .next (if x.atBoundary && !x.entry && !x.odd then s.acceptEvent n i p stack else s)
    | .entry c => .next (if x.entry then s.replaceEntry n i p c.toNat else s)
    | .late => .next (if x.entry then s.replaceLate n i p else s)
    | .exit c => .next (match x.undo with
      | some r => s.abandonExit n i p c.toNat r
      | none => s)

/-! ### Stores and service requests -/

/-- BUFFERED_STORE: the oldest store of core n is performed. -/
def execBufferedStore (n : Core) (s : State) : Host.Outcome State Fault Refusal :=
  if s.coreOn n.val then .next (s.drainOne n.val) else .next s

/-- The record of a request (09 R283). -/
def serviceRecord (f : UFlit) : Nat :=
  let p := fun k => f.pay.getD k 0
  p 1 % 2 ^ 64 + (p 2 % 256 + f.srcEnd / 2048 % 8 * 2 ^ 8 + p 3 % 1024 * 2 ^ 11 + p 4 % 16 * 2 ^ 21 + p 5 % 2 * 2 ^ 25 + p 8 % 2 * 2 ^ 26 +
    p 7 % 2 ^ 16 * 2 ^ 32 + p 6 % 2 ^ 16 * 2 ^ 48) * 2 ^ 64

/-- The hub writes a request of core n into the ring in its LSRAM and advances PROD. -/
def State.serviceWrite (s : State) (n : Nat) (f : UFlit) : State :=
  let p := s.get CPO_SVC_RQ_PROD n
  let s := s.portWrite false (lsramBase n + 0x3F000 + 16 * p) ((leBytes 16 (serviceRecord f)).map (BitVec.ofNat 8 ·))
  (s.set CPO_SVC_RQ_PROD n ((p + 1) % 256)).serviceLevel n

/-- SERVICE_REQUEST: the oldest request that has reached core n's endpoint; a full ring leaves it waiting, and behind it the fabric (06 R178). -/
def execServiceRequest (n : Core) (s : State) : Host.Outcome State Fault Refusal :=
  let n := n.val
  let x := s.tile (coreDie n)
  match x.uDelivered.find? (fun f => f.dest == endUnit (coreDie n) (0x10 + n)) with
  | none => .next s
  | some f =>
    if !s.coreOn n || (s.get CPO_SVC_RQ_PROD n + 1) % 256 == s.get CPO_SVC_RQ_CONS n then .next s
    else .next ((s.setTile (coreDie n) { x with uDelivered := x.uDelivered.erase f }).serviceWrite n f)

/-! ### TLB invalidations -/

/-- INVALIDATION_RECEIVED: core n applies the oldest broadcast that has reached it, even while its pipeline is frozen (R324). -/
def execInvalidationReceived (n : Core) (s : State) : Host.Outcome State Fault Refusal :=
  let n := n.val
  let x := s.core n
  match x.invq with
  | [] => .next s
  | q :: t =>
    if s.coreOn n && !x.held then .next (((s.setCore n { x with invq := t }).applyInval n q.k q.a q.x).bump MMU_L2CNT_INVRX n)
    else .next s

/-- INVALIDATION_ACK: core `src` hears that core `n` has applied its oldest broadcast that n has not acknowledged. -/
def execInvalidationAck (src : Core) (n : Core) (s : State) : Host.Outcome State Fault Refusal :=
  match (s.core src.val).bcasts.find? (fun b => b.silent.any (· == n.val)) with
  | none => .next s
  | some b =>
    if (s.core n.val).invq.any (fun q => q.src == src.val && q.id == b.id) then .next s else .next (s.ackInval src.val b.id n.val)

/-- The cores that have not acknowledged some broadcast of core n. -/
def CoreSt.silentCores (x : CoreSt) : List Nat := (List.range 20).filter (fun m => x.bcasts.any (fun b => b.silent.any (· == m)))

/-- TLBSYNC_TIMEOUT: 1,600 CCLK cycles (3,200 FCLK cycles) after a TLBSYNC issued, acknowledgements are missing (R325). -/
def execTlbsyncTimeout (n : Core) (s : State) : Host.Outcome State Fault Refusal :=
  let n := n.val
  let x := s.core n
  match x.syncing with
  | none => .next s
  | some t =>
    if s.tb < t + 3200 then .next s
    else
      let silent := x.silentCores
      let missing := silent.foldl (fun a m => a + 2 ^ m) 0
      let s := ((s.endSync n).set MMU_SYNC_MISSING n missing).raise MMU_SYNC_TIMEOUT n
      let s := s.fault 0x504 0 (coreDie n) n 0xFFFF missing 0
      .next (silent.foldl (fun s m => if (s.core m).stopped then s else s.lecPulse (coreSource m 0x100 0x1F9)) s)

end Sys2Proof.Machine
end

