-- ==== Sys2Proof/Machine/Entries.lean ====
section
/-! DEFINITION. The entries of the object dictionary (15 R399-R409, 07 R209, 16 R456, 17, 19): which exist, with type, access,
length and default; their values; and what a write of one does, but for the mode command. -/

namespace Sys2Proof.Machine

/-! ### Types and access (R400, R401) -/

/-- An entry: its type code, its access code (0 RO, 1 RW, 2 WO, 3 CONST, 4 RWP), its size or greatest length, and its default. -/
structure Entry where
  typ : Nat
  acc : Nat
  len : Nat
  dflt : Nat
  deriving DecidableEq, Repr

/-- The size in frames of a type of fixed size; 0 for VSTR, OSTR and DOMAIN. -/
def typeSize : Nat → Nat
  | 1 => 1 | 2 => 1 | 3 => 2 | 4 => 4 | 5 => 8 | 6 => 4 | 7 => 8 | 8 => 4 | _ => 0

/-- An entry of a fixed-size type. -/
def fixed (t a d : Nat) : Option Entry := some ⟨t, a, typeSize t, d⟩

/-- A DOMAIN entry. -/
def block (a n : Nat) : Option Entry := some ⟨0xB, a, n, 0⟩

/-! ### Domains in the dictionary (17) -/

/-- Entries of plan group k. -/
def planTop (k : Nat) : Nat :=
  if k = 0 then 128 else if k = 9 then 64 else if k = 10 ∨ k = 11 then 8 else if k = 12 then 20 else if k = 14 then 6 else 0

/-- Entries of state group k. -/
def stateTop (k : Nat) : Nat := if 1 ≤ k ∧ k ≤ 8 then 64 else if k = 13 then 20 else planTop k

/-- First domain of group k. -/
def groupBase (k : Nat) : Nat :=
  if k = 0 then 0 else if k ≤ 8 then 128 + 64 * (k - 1) else if k = 9 then 640 else if k = 10 then 704 else if k = 11 then 712
  else if k = 12 then 720 else if k = 13 then 740 else 760

/-! ### Policies (16 R439, R442) -/

/-- The default policy byte of step st: policy in bits [1:0], ATTEMPTS in [5:2] where the table names a number, 0 where it
does not. -/
def policyDefault (st : Nat) : Nat :=
  if st = 3 ∨ st = 6 ∨ st = 9 ∨ st = 13 ∨ st = 17 then 2
  else if st = 4 ∨ st = 8 ∨ st = 15 ∨ st = 18 then 1
  else if st = 10 ∨ st = 11 ∨ st = 12 then 8
  else if st = 14 ∨ st = 16 then 4
  else if st < 20 then 3
  else 0

/-- The steps whose policy the profile may set. -/
def policyFree (st : Nat) : Bool := 6 ≤ st && st ≤ 18

/-! ### Mirrors (R404, R409) -/

/-- The register that a mirror entry shows. -/
def mirrorAt (x y : Nat) : Option RegAt :=
  let t := y / 16
  let k := y % 16
  if 0x5000 ≤ x ∧ x < 0x5080 ∧ 1 ≤ y ∧ y ≤ 0x4B then some ⟨.clu, x - 0x5000, 8 * (y - 1)⟩
  else if x = 0x5100 ∧ t < 8 ∧ 1 ≤ k ∧ k ≤ 3 then some ⟨.fab, t, if k = 1 then 0x10 else if k = 2 then 0x30 else 0x40⟩
  else if x = 0x5100 ∧ (y = 0x81 ∨ y = 0x82) then some ⟨.fab, 8, if k = 1 then 0x10 else 0x30⟩
  else if x = 0x6000 ∧ t < 8 ∧ 1 ≤ k ∧ k ≤ 4 then
    some ⟨.tme, t, if k = 1 then 0x08 else if k = 2 then 0x18 else if k = 3 then 0x28 else 0x30⟩
  else if x = 0x7000 ∧ (y = 0xC ∨ y = 0xD) then some ⟨.gec, 0, 0x1300 + 8 * (y - 0xC)⟩
  else if x = 0x8000 ∧ 1 ≤ y ∧ y ≤ 0xB then some ⟨.clk, 0, 8 * (y - 1)⟩
  else if x = 0xA000 ∧ 1 ≤ y ∧ y ≤ 0x18 then some ⟨.ckp, 0, 8 * (y - 1)⟩
  else none

/-- The reset value of a register. -/
def regReset (r : RegName) (i : Nat) : Nat := (regFields r).foldl (fun a f => a + f.rst i * 2 ^ f.lo) 0

/-- A mirror entry: U64, RW if some field is not RO. -/
def mirrorEntry (x y : Nat) : Option Entry :=
  match mirrorAt x y with
  | none => none
  | some r => match r.reg with
    | none => none
    | some (n, i) => fixed 5 (if (regFields n).any (fun f => f.acc != .ro) then 1 else 0) (regReset n i)

/-- The register a mirror shows as it reads now; 0 where its domain is off. -/
def State.mirrorRead (s : State) (r : RegAt) : Nat :=
  if !s.domOn 760 || !s.domOn r.domain then 0
  else match r.reg with
    | some (n, i) => s.regRead n i
    | none => 0

/-- A write of some bits of the register. -/
def State.mirrorWrite (s : State) (a : Agent) (r : RegAt) (v mask : Nat) : State :=
  if !s.domOn 760 || !s.domOn r.domain then s
  else match r.reg with
    | some (n, i) => s.regWrite a r.block n i v mask
    | none => s

/-- Register j of a DOMAIN mirror of 0x7000: the counters of LEC y − 1, the inputs of the GEC, their enables. -/
def eventMirror (y j : Nat) : RegAt :=
  if y ≤ 9 then ⟨.lec, y - 1, 0x300 + 8 * j⟩ else if y = 0xA then ⟨.gec, 0, 8 * j⟩ else ⟨.gec, 0, 0x1200 + 8 * j⟩

/-- Bytes of a DOMAIN mirror. -/
def eventBytes (y : Nat) : Nat := if y ≤ 9 then 512 else if y = 0xA then 4608 else 72

/-! ### Which entries exist (R399, R405) -/

/-- The highest subindex of an index; `none` where the index does not exist. -/
def indexTop (x : Nat) : Option Nat :=
  if x = 0x1000 then some 6 else if x = 0x1001 then some 3
  else if x = 0x1100 ∨ x = 0x1101 ∨ x = 0x1102 then some 8 else if x = 0x1110 then some 2
  else if x = 0x1200 then some 6
  else if 0x2000 ≤ x ∧ x ≤ 0x2004 then some 3
  else if x = 0x2100 then some 0x5F
  else if x = 0x3000 then some 7
  else if 0x3100 ≤ x ∧ x ≤ 0x310E then (if planTop (x - 0x3100) = 0 then none else some (planTop (x - 0x3100)))
  else if 0x3180 ≤ x ∧ x ≤ 0x318E then some (stateTop (x - 0x3180))
  else if 0x4000 ≤ x ∧ x ≤ 0x41FF then some 0xC
  else if 0x5000 ≤ x ∧ x ≤ 0x507F then some 0x4B
  else if x = 0x5100 then some 0x82 else if x = 0x6000 then some 0x74 else if x = 0x7000 then some 0xD
  else if x = 0x7100 then some 6 else if x = 0x8000 then some 0xB else if x = 0x9000 then some 0x35
  else if x = 0xA000 then some 0x18
  else none

/-- Entries of identity, firmware and communication. -/
def commEntry (x y : Nat) : Option Entry :=
  if x = 0x1000 then
    (if y = 1 then some ⟨9, 3, 16, 0x412D323931384850⟩
     else if y = 2 then fixed 2 3 0xB0
     else if y = 3 then fixed 5 3 Config.serial.toNat
     else if y = 4 then fixed 3 3 Config.vendor.toNat
     else if y = 5 then fixed 3 3 0x8192
     else if y = 6 then fixed 3 3 1
     else none)
  else if x = 0x1001 then (if y ≤ 2 then fixed 4 0 0 else fixed 2 0 0)
  else if x = 0x1100 then
    (if y = 1 then fixed 2 0 0
     else if y = 2 then fixed 2 0 0
     else if y = 3 then fixed 2 4 0
     else if y = 4 then fixed 2 4 1
     else if y = 5 then fixed 3 4 100
     else if y = 6 then fixed 1 4 1
     else if y = 7 then fixed 3 4 1000
     else if y = 8 then fixed 2 4 3
     else none)
  else if x = 0x1110 then (if y = 1 then fixed 2 4 6 else fixed 4 0 0)
  else if y ≤ 3 then fixed 2 0 (if y = 1 then 3 else 0)
  else fixed 4 0 0

/-- Entries of mode control, profiles and the journal. -/
def modeEntry (x y : Nat) : Option Entry :=
  if x = 0x1200 then
    (if y = 1 then fixed 2 0 0
     else if y = 2 then fixed 2 2 0
     else if y = 3 then fixed 4 0 0
     else if y = 4 then fixed 4 0 0
     else if y = 5 then fixed 2 1 0
     else if y = 6 then fixed 5 0 0
     else none)
  else if x = 0x2000 then fixed 2 0 0
  else if x ≤ 0x2004 then (if y = 1 then block 1 65536 else if y = 2 then fixed 4 0 0 else fixed 2 0 0)
  else
    (if y = 1 then fixed 2 0 0
     else if y = 2 then block 0 65536
     else if y = 3 then block 0 65536
     else if y = 4 then fixed 5 0 0
     else if y = 5 then fixed 5 2 0
     else if y = 6 then block 0 88
     else if 0x20 ≤ y ∧ y ≤ 0x5F then fixed 2 (if policyFree (y - 0x20) then 4 else 0) (policyDefault (y - 0x20)) else none)

/-- The default of a threshold entry 0x9000:31–:35. -/
def thermDefault (y : Nat) : Nat := [95, 102, 85, 95, 5].getD (y - 0x31) 0

/-- Entries of clocks, domains, lanes, the fault log and the sensors. -/
def stateEntry (x y : Nat) : Option Entry :=
  if x = 0x3000 then (if y ≤ 6 then fixed 4 0 0 else fixed 3 4 64)
  else if x ≤ 0x310E then fixed 1 (if x = 0x310E ∧ y ≠ 3 ∧ y ≠ 6 then 3 else 4) 1
  else if x ≤ 0x318E then fixed 2 0 0
  else if 0x4000 ≤ x ∧ x ≤ 0x41FF then
    (if y = 2 then fixed 1 0 0
     else if y = 5 ∨ y = 9 then fixed 5 0 0
     else if y = 6 then fixed 3 0 0
     else if y = 8 ∨ y = 0xA then fixed 4 0 0
     else fixed 2 0 0)
  else if x = 0x7100 then
    (if y = 1 then fixed 3 0 0
     else if y = 3 then fixed 4 1 0xFFFFFFFF
     else if y = 4 then block 0 49152
     else if y = 6 then fixed 3 4 0x0C03
     else fixed 4 0 0)
  else if y ≤ 0x30 then fixed 8 0 0
  else fixed 2 4 (thermDefault y)

/-- The entry at an index and subindex. -/
def entryAt (x y : Nat) : Option Entry :=
  match indexTop x with
  | none => none
  | some top =>
    if y = 0 then fixed 2 3 top
    else if top < y then none
    else if x < 0x1200 then commEntry x y
    else if x < 0x3000 then modeEntry x y
    else if x = 0x7000 ∧ y ≤ 0xB then block 1 (eventBytes y)
    else if x < 0x5000 ∨ x = 0x7100 ∨ x = 0x9000 then stateEntry x y
    else mirrorEntry x y

/-- The next entry after one of an index, in ascending subindex. -/
def nextSub (x y : Nat) : Option Nat :=
  ((List.range 256).drop y).find? (fun k => (entryAt x k).isSome)

/-- The areas of the index map: first index and how many follow. -/
def indexAreas : List (Nat × Nat) :=
  [(0x1000, 2), (0x1100, 3), (0x1110, 1), (0x1200, 1), (0x2000, 5), (0x2100, 1), (0x3000, 1), (0x3100, 15), (0x3180, 15),
   (0x4000, 512), (0x5000, 128), (0x5100, 1), (0x6000, 1), (0x7000, 1), (0x7100, 1), (0x8000, 1), (0x9000, 1), (0xA000, 1)]

/-- The lowest existing index from x on. -/
def nextIndex (x : Nat) : Option Nat :=
  indexAreas.findSome? (fun a => ((List.range a.2).map (a.1 + ·)).find? (fun i => decide (x ≤ i) && (indexTop i).isSome))

/-- The next existing entry after one (the request NEXT). -/
def nextEntry (x y : Nat) : Nat × Nat :=
  match (if (indexTop x).isSome then nextSub x (y + 1) else none) with
  | some k => (x, k)
  | none => match nextIndex (x + 1) with
    | some i => (i, 0)
    | none => (0xFFFF, 0xFF)

/-! ### Entries the module stores -/

/-- The stored value of an entry, its default where nothing is stored. -/
def State.ent (s : State) (x y : Nat) : Nat := sget s.ents (x * 256 + y) (((entryAt x y).map (·.dflt)).getD 0)

/-- Store a value. -/
def State.setEnt (s : State) (x y v : Nat) : State := { s with ents := sput s.ents (x * 256 + y) v (((entryAt x y).map (·.dflt)).getD 0) }

/-- Count in a U32 entry, wrapping. -/
def State.countEnt (s : State) (x y : Nat) : State := s.setEnt x y ((s.ent x y + 1) % 2 ^ 32)

/-- Plan state of a domain. -/
def State.planned (s : State) (d : Nat) : Bool :=
  let at_ := fun k : Nat => s.ent (0x3100 + k) (d - groupBase k + 1) == 1
  if d < 128 then at_ 0 else if d < 640 then false else if d < 704 then at_ 9 else if d < 712 then at_ 10 else if d < 720 then at_ 11
  else if d < 740 then at_ 12 else if d < 760 then false else at_ 14

/-! ### Profile areas in flash (13 R372, 16 R453, R454) -/

/-- Device offset of profile area i. -/
def profOffset (i : Nat) : Nat := 0x110000 + 0x10000 * i

/-- Entry j of the directory on device d: OFFSET, LENGTH, GEN, CRC. -/
def State.dirEntry (s : State) (d j : Nat) : List Nat :=
  (List.range 4).map (fun k => s.num (s.flashBase d + 0x100010 + 16 * j + 4 * k) 4)

/-- The directory on device d carries its MAGIC: its entries. -/
def State.directory (s : State) (d : Nat) : Option (List (List Nat)) :=
  let b := s.flashBase d + 0x100000
  if s.num b 4 = 0x52444850 then some ((List.range (min (s.num (b + 4) 4) 4095)).map (s.dirEntry d)) else none

/-- GEN of the area at a device offset, as the directory of device d names it. -/
def State.dirGen (s : State) (d off : Nat) : Nat :=
  match (s.directory d).bind (fun l => l.find? (fun e => e.getD 0 0 == off)) with
  | some e => e.getD 2 0
  | none => 0

/-- The records of a profile body, whole; `none` where one runs past its end. -/
def profRecords : Nat → List Nat → Option (List (List Nat))
  | 0, _ => some []
  | n + 1, b =>
    let l := 8 + pad8 (ofLe ((b.drop 2).take 2))
    if b.length < 8 ∨ b.length < l then none else (profRecords n (b.drop l)).map (b.take l :: ·)

/-- A number in a byte list. -/
def numAt (b : List Nat) (o n : Nat) : Nat := ofLe ((b.drop o).take n)

/-- ADDR of a REG record lies in a register space. -/
def regRecOk (r : List Nat) : Bool :=
  r.getD 0 0 != 2 || region (numAt r 8 8) == .hubReg || region (numAt r 8 8) == .tileReg

/-- The checks of R454 on a header. -/
def headerOk (i : Nat) (h : List Nat) : Bool :=
  numAt h 0 4 == 0x46504850 && numAt h 4 2 == 1 && h.getD 6 0 == i && numAt h 0x3C 4 == crc32c (h.take 0x3C) &&
    decide (numAt h 0x30 4 ≤ 65472) && numAt h 0x30 4 % 8 == 0

/-- The checks of R454 on a body, given its header. -/
def bodyOk (h b : List Nat) : Bool :=
  b.length == numAt h 0x30 4 && numAt h 0x34 4 == crc32c b && (match profRecords (min (numAt h 0x24 4) 8192) b with
    | some l => l.all regRecOk && decide (numAt h 0x24 4 ≤ 8192)
    | none => false)

/-- The header of area i on device d. -/
def State.profHeader (s : State) (d i : Nat) : List Nat := s.natBytes (s.flashBase d + profOffset i) 64

/-- The body of area i on device d, as long as its header says. -/
def State.profBody (s : State) (d i : Nat) : List Nat :=
  s.natBytes (s.flashBase d + profOffset i + 64) (min (numAt (s.profHeader d i) 0x30 4) 65472)

/-- The copy of profile i on device d is valid (R454). -/
def State.profValid (s : State) (d i : Nat) : Bool :=
  s.domOn 761 && headerOk i (s.profHeader d i) && bodyOk (s.profHeader d i) (s.profBody d i)

/-- The device whose copy of profile i is current: the valid one with the higher GEN (R374); device 0 where both are equal. -/
def State.profCurrent (s : State) (i : Nat) : Option Nat :=
  let a := s.profValid 0 i
  let b := s.profValid 1 i
  if a && b then some (if s.dirGen 0 (profOffset i) < s.dirGen 1 (profOffset i) then 1 else 0)
  else if a then some 0 else if b then some 1 else none

/-- The profile P i as its current copy holds it: header and body. -/
def State.profBytes (s : State) (i : Nat) : List Nat :=
  match s.profCurrent i with
  | some d => s.profHeader d i ++ s.profBody d i
  | none => []

/-- The header of the built-in defaults (R455) for area i, without its checksums. -/
def builtinHeader (i : Nat) : List Nat :=
  leBytes 4 0x46504850 ++ [1, 0, i % 256] ++ List.replicate 9 0 ++ List.replicate 20 0xFF ++ List.replicate 28 0

/-- A profile made of the parts of a header and records: RECS, BODY_LEN and the checksums are set anew. -/
def sealProfile (h : List Nat) (recs : List (List Nat)) : List Nat :=
  let b := recs.flatten
  let h := h.take 0x24 ++ leBytes 4 recs.length ++ (h.drop 0x28).take 8 ++ leBytes 4 b.length ++ leBytes 4 (crc32c b) ++ leBytes 4 0
  h ++ leBytes 4 (crc32c h) ++ b

/-- An ENTRY record. -/
def entRecord (x y : Nat) (v : List Nat) : List Nat :=
  [1, 0] ++ leBytes 2 v.length ++ leBytes 2 x ++ [y % 256, 0] ++ v ++ List.replicate (pad8 v.length - v.length) 0

/-- The record names an entry. -/
def recordOf (x y : Nat) (r : List Nat) : Bool := r.getD 0 0 == 1 && numAt r 4 2 == x && r.getD 6 0 == y

/-- Records with the ENTRY record of an entry replaced (every one that names it), or appended (R456). -/
def putRecord (x y : Nat) (v : List Nat) (l : List (List Nat)) : List (List Nat) :=
  if l.any (recordOf x y) then l.map (fun r : List Nat => if recordOf x y r then entRecord x y v else r) else l ++ [entRecord x y v]

/-- A profile whose header is that of the built-in defaults, as an RWP write under them leaves it. -/
def builtinMade (i : Nat) (p : List Nat) : Bool := p.take 0x24 == (builtinHeader i).take 0x24 && numAt p 0x28 8 == 0

/-- The active profile with a new value of an entry (R456). Under the built-in defaults the area is made anew, unless an earlier
RWP write under them made it. -/
def State.profWith (s : State) (x y : Nat) (v : List Nat) : List Nat :=
  let i := s.get PRF_ACTIVE_ACTIVE
  let p := s.profBytes i
  if p.isEmpty || (s.get PRF_ACTIVE_SRC == 2 && !builtinMade i p) then sealProfile (builtinHeader i) [entRecord x y v]
  else sealProfile (p.take 64) (putRecord x y v ((profRecords (numAt p 0x24 4) (p.drop 64)).getD []))

/-- A sector is erased and programmed from its first byte on. -/
def State.flashRewrite (s : State) (d off : Nat) (b : List Nat) : State :=
  let a := s.flashBase d + off
  (s.zeroRange a (a + 0x10000)).setBytes a (b.map (BitVec.ofNat 8 ·))

/-- The directory of device d with a new entry for an area, where it carries its MAGIC. -/
def State.dirUpdate (s : State) (d off len gen crc : Nat) : State :=
  match s.directory d with
  | none => s
  | some l =>
    let e := [off, len, gen, crc]
    let l := if l.any (fun x => x.getD 0 0 == off) then l.map (fun x : List Nat => if x.getD 0 0 = off then e else x) else l ++ [e]
    let b := (l.map (fun x : List Nat => leBytes 4 (x.getD 0 0) ++ leBytes 4 (x.getD 1 0) ++ leBytes 4 (x.getD 2 0) ++ leBytes 4 (x.getD 3 0))).flatten
    s.flashRewrite d 0x100000 (leBytes 4 0x52444850 ++ leBytes 4 l.length ++ leBytes 4 (crc32c b) ++ leBytes 4 0 ++ b)

/-- Program profile area i of both devices, one after the other, with GEN advanced (R374, R456). -/
def State.profProgram (s : State) (i : Nat) (b : List Nat) : State :=
  let gen := (max (s.dirGen 0 (profOffset i)) (s.dirGen 1 (profOffset i)) + 1) % 2 ^ 32
  let put := fun (s : State) (d : Nat) => (s.flashRewrite d (profOffset i) b).dirUpdate d (profOffset i) b.length gen (crc32c b)
  put (put s 0) 1

/-! ### Values -/

/-- The value of an entry of identity, firmware or communication. -/
def State.commValue (s : State) (x y : Nat) : Nat :=
  if x = 0x1000 then ((commEntry x y).map (·.dflt)).getD 0
  else if x = 0x1001 then (if y = 3 then s.get MGT_FLCTL_WINSEL else (Config.firmware (y - 1)).toNat)
  else if x = 0x1100 ∧ y = 1 then s.get MGT_STAT_NODE
  else if x = 0x1100 ∧ y = 2 then s.boot.node
  else if (x = 0x1101 ∨ x = 0x1102) ∧ y ≤ 3 then s.get (if y = 1 then MGT_CAN_STATE else if y = 2 then MGT_CAN_TEC else MGT_CAN_REC) (x - 0x1101)
  else s.ent x y

/-- The value of an entry of mode control, profiles or the journal. -/
def State.modeValue (s : State) (x y : Nat) : Nat :=
  if x = 0x1200 then
    (if y = 1 then s.modeCode
     else if y = 3 then s.refReason
     else if y = 4 then s.refCount
     else if y = 5 then s.owner
     else if y = 6 then s.img.placement
     else 0)
  else if x = 0x2000 then s.get (if y = 1 then PRF_ACTIVE_ACTIVE else if y = 2 then PRF_ACTIVE_SRC else PRF_ACTIVE_PINS)
  else if x ≤ 0x2004 then
    (if y = 2 then (match s.profCurrent (x - 0x2001) with | some d => s.dirGen d (profOffset (x - 0x2001)) | none => 0)
     else b2n (s.profValid 0 (x - 0x2001)) + 2 * b2n (s.profValid 1 (x - 0x2001)))
  else
    (if y = 1 then if s.flag BJ_STAT_DONE then 0xFF else s.get BJ_STAT_STEP
     else if y = 4 then s.get BJ_HIST_STEPS
     else s.ent x y)

/-- The frequency of the root in MHz. -/
def State.rootMhz (s : State) : Nat := if s.slowClock then 4800 else 6400

/-- The value of an entry of a lane. -/
def State.laneValue (s : State) (n y : Nat) : Nat :=
  match y with
  | 1 => s.get LNK_STAT_STATE n
  | 2 => b2n (s.ready (2 * 1024 + n))
  | 3 => s.get LNK_STAT_RATE n
  | 4 => s.get LNK_PINFO_KIND n
  | 5 => s.get LNK_PID_SERIAL n
  | 6 => s.get LNK_PINFO_PLANE n
  | 7 => s.get LNK_LAT_CLASS n
  | 8 => s.get LNK_LAT_LAT n
  | 9 => (s.lane n).placement.toNat
  | 0xA => (s.lane n).changes
  | 0xB => s.get LNK_STAT_FAILCAUSE n
  | _ => s.get LNK_PINFO_PFWD n

/-- The field of a threshold entry. -/
def thermField (y : Nat) : Field :=
  if y = 0x31 then PWR_THERM_TWARN else if y = 0x32 then PWR_THERM_THOT else if y = 0x33 then PWR_THERM_HWARN
  else if y = 0x34 then PWR_THERM_HHOT else PWR_THERM_HYST

/-- The value of an entry of clocks, domains, lanes, the fault log or the sensors. -/
def State.stateValue (s : State) (x y : Nat) : Nat :=
  if x = 0x3000 then
    (if y = 1 then s.rootMhz
     else if y = 2 then s.rootMhz / 4
     else if y = 3 then s.rootMhz / 8
     else if y = 4 then s.rootMhz / 16
     else if y = 5 then s.rootMhz / 64
     else if y = 6 then s.get CLK_GEN_STAT_LOLCNT
     else s.ent x y)
  else if x ≤ 0x310E then s.ent x y
  else if x ≤ 0x318E then (let v := sget s.dom (groupBase (x - 0x3180) + y - 1) 0; if v = 5 then 3 else v)
  else if 0x4000 ≤ x ∧ x ≤ 0x41FF then s.laneValue (x - 0x4000) y
  else if x = 0x7100 then
    (if y = 1 then s.fltRecs.length
     else if y = 2 then if s.fltAny then (s.fltNext + 2 ^ 32 - 1) % 2 ^ 32 else 0
     else if y = 3 then s.get MGT_FLT_ACK_SEQ
     else if y = 5 then s.get MGT_FLT_LOST_LOSTCNT
     else s.get MGT_FLT_CTL_AMASK + s.get MGT_FLT_CTL_FMASK * 256)
  else if y ≤ 0x30 then s.ent x y
  else s.get (thermField y)

/-- The value of an entry of a fixed-size type. -/
def State.entryNum (s : State) (x y : Nat) : Nat :=
  if y = 0 then (indexTop x).getD 0
  else if x < 0x1200 then s.commValue x y
  else if x < 0x3000 then s.modeValue x y
  else match mirrorAt x y with
    | some r => s.mirrorRead r
    | none => s.stateValue x y

/-- The value of a DOMAIN or VSTR entry. -/
def State.entryBlock (s : State) (x y : Nat) : List Nat :=
  if x = 0x1000 then [0x50, 0x48, 0x38, 0x31, 0x39, 0x32, 0x2D, 0x41, 0x51]
  else if x ≤ 0x2004 then s.profBytes (x - 0x2001)
  else if x = 0x2100 ∧ y = 2 then s.boot.current.flatten
  else if x = 0x2100 ∧ y = 3 then s.boot.previous.flatten
  else if x = 0x2100 then
    (leBytes 8 (s.regRead .BJ_RDYT 0) ++ leBytes 8 (s.regRead .BJ_RDYC 0) ++ leBytes 8 (s.regRead .BJ_RDYC 1)) ++
      ((List.range 8).map (fun r => leBytes 8 (s.regRead .BJ_RDYL r))).flatten
  else if x = 0x7100 then (s.fltRecs.map (fun r => leBytes 48 r.image)).flatten
  else ((List.range (eventBytes y / 8)).map (fun j => leBytes 8 (s.mirrorRead (eventMirror y j)))).flatten

/-- The value of an entry as bytes (R405). -/
def State.entryBytes (s : State) (x y : Nat) : List Nat :=
  match entryAt x y with
  | none => []
  | some e => if typeSize e.typ = 0 then s.entryBlock x y else leBytes (typeSize e.typ) (s.entryNum x y)

/-! ### Writes of one value -/

/-- The abort code of a value that its RWP entry does not take (R400, R405, 16 R442, 17): 0 where it takes it. -/
def rwpError (x y v : Nat) : Nat :=
  let bad :=
    if x = 0x1100 then
      (y == 3 && decide (1 < v)) || (y == 4 && decide (4 < v)) || (y == 6 && decide (1 < v)) || (y == 7 && v == 0) || (y == 8 && decide (3 < v))
    else if x = 0x2100 then decide (64 ≤ v)
    else if x = 0x3000 then !CLK_GEN_CTL_REFFLT.ok v
    else if x = 0x310C then decide (1 < v) || (y == 1 && v == 0)
    else if 0x3100 ≤ x ∧ x ≤ 0x310E then decide (1 < v)
    else if x = 0x7100 then (v &&& 0xE0E0) != 0
    else if x = 0x9000 then !(thermField y).ok v || (y == 0x35 && decide (15 < v))
    else false
  if bad then 5 else 0

/-- An RWP entry takes a value (R401, R406). -/
def State.rwpPut (s : State) (x y v : Nat) : State :=
  if x = 0x7100 then (s.set MGT_FLT_CTL_AMASK 0 (v % 32)).set MGT_FLT_CTL_FMASK 0 (v / 256 % 32)
  else if x = 0x9000 then s.set (thermField y) 0 v
  else s.setEnt x y v

/-- A write of a RW or WO entry of fixed size, but for the mode command: an abort code, or the state after it. -/
def State.entryPut (s : State) (a : Agent) (x y v : Nat) : Nat × State :=
  if x = 0x1200 then
    match s.claimJudge a v with
    | .inl c => (c, s)
    | .inr o => (0, s.setOwner o)
  else if x = 0x2100 then (0, s.bjClear 0 v)
  else if x = 0x7100 then (0, s.faultAck v)
  else match mirrorAt x y with
    | some r => (0, s.mirrorWrite a r v (2 ^ 64 - 1))
    | none => (3, s)

/-- Write the registers of a DOMAIN mirror whose last byte lies in a segment: bytes from o to e of the data (R409). -/
def State.eventPut (s : State) (a : Agent) (y : Nat) (data : List Nat) (o e : Nat) : State :=
  if y ≤ 9 then
    ((List.range e).drop o).foldl (fun s k => s.mirrorWrite a (eventMirror y (k / 8)) (data.getD k 0 * 2 ^ (8 * (k % 8))) (0xFF * 2 ^ (8 * (k % 8)))) s
  else ((List.range (e / 8)).drop (o / 8)).foldl (fun s j => s.mirrorWrite a (eventMirror y j) (numAt data (8 * j) 8) (2 ^ 64 - 1)) s

/-- A whole profile as written to 0x2001 + i:01 passes the checks of R454. -/
def profileOk (i : Nat) (b : List Nat) : Bool :=
  decide (64 ≤ b.length) && headerOk i (b.take 64) && bodyOk (b.take 64) ((b.drop 64).take (numAt b 0x30 4))

/-! ### Loading a profile (R402, R454, R455) -/

/-- The RWP entries that no register holds return to their defaults, and the others' registers too. -/
def State.rwpDefaults (s : State) : State :=
  let isRwp := fun k : Nat => match entryAt (k / 256) (k % 256) with | some e => e.acc == 4 | none => false
  let s := { s with ents := s.ents.filter (fun p => !isRwp p.1) }
  let s := s.rwpPut 0x7100 6 0x0C03
  [0x31, 0x32, 0x33, 0x34, 0x35].foldl (fun s y => s.rwpPut 0x9000 y (thermDefault y)) s

/-- One ENTRY record: it sets its RWP entry, or is ignored and sets PRFIGN. -/
def State.loadEntry (s : State) (r : List Nat) : State :=
  let x := numAt r 4 2
  let y := r.getD 6 0
  let n := numAt r 2 2
  match entryAt x y with
  | some e =>
    let v := numAt r 8 n
    if e.acc = 4 ∧ n = e.len ∧ rwpError x y v = 0 then s.rwpPut x y v else s.raise BJ_STAT_PRFIGN
  | none => s.raise BJ_STAT_PRFIGN

/-- The ENTRY records in record order; a record of neither kind is ignored. -/
def State.loadEntries (s : State) : List (List Nat) → State
  | [] => s
  | r :: t => (if r.getD 0 0 = 1 then s.loadEntry r else if r.getD 0 0 = 2 then s else s.raise BJ_STAT_PRFIGN).loadEntries t

/-- The header fields and REG records of a profile that the module keeps; BAR2 takes its default size (14 R380) unless the host has the link. -/
def State.takeHeader (s : State) (h : List Nat) (regs : List (Nat × Nat × Nat)) : State :=
  { s with backup := (h.drop 0x10).take 20, pci := { s.pci with barSize := if s.pci.rate = 0 then min (h.getD 0xC 0) 6 else s.pci.barSize },
           boot := { s.boot with profFlags := h.getD 7 0, ssvid := numAt h 8 2, ssid := numAt h 0xA 2, bar2 := h.getD 0xC 0,
                                 imgAddr := numAt h 0x28 8, regRecs := regs } }

/-- Load the current copy of profile i, its RWP entries at their defaults, and its records, whose ENTRY records follow the REG records of step 6
(R454); `none` where no copy is valid. -/
def State.loadProfile (s : State) (i : Nat) : Option (State × List (List Nat)) :=
  match s.profCurrent i with
  | none => none
  | some d =>
    let h := s.profHeader d i
    let l := (profRecords (numAt h 0x24 4) (s.profBody d i)).getD []
    let regs := (l.filter (fun r => r.getD 0 0 == 2)).map (fun r => (r.getD 1 0, numAt r 8 8, numAt r 0x10 8))
    some (s.rwpDefaults.takeHeader h regs, l)

/-- The built-in defaults (R455). -/
def State.loadDefaults (s : State) : State := (s.rwpDefaults.takeHeader (builtinHeader 0) []).set PRF_ACTIVE_SRC 0 2

end Sys2Proof.Machine
end

