-- ==== Sys2Proof/Machine/Can.lean ====
section
/-! DEFINITION. The CAN FD ports as the node uses them (15 R417-R424): frames it sends, the heartbeat, the dynamic node claim and
its defence, error states, bus-off. -/

namespace Sys2Proof.Machine

/-! ### Frames (R419) -/

/-- The CAN FD data length that holds n bytes. -/
def canLength (n : Nat) : Nat := ([0, 1, 2, 3, 4, 5, 6, 7, 8, 12, 16, 20, 24, 32, 48].find? (fun k => decide (n ≤ k))).getD 64

/-- Data padded with zeros to a CAN FD length. -/
def canPad (l : List Nat) : List Nat := l ++ List.replicate (canLength l.length - l.length) 0

/-- Port p takes part in bus traffic: its domain is on, and it is neither disabled nor bus-off. -/
def State.canLive (s : State) (p : Nat) : Bool := s.domOn 763 && decide (s.get MGT_CAN_STATE p ≤ 1)

/-- The error counters take values, and the state follows them: error passive above 127. -/
def State.canErrors (s : State) (p tec rec : Nat) : State :=
  let s := (s.set MGT_CAN_TEC p tec).set MGT_CAN_REC p rec
  let passive := decide (127 < tec) || decide (127 < rec)
  let s := if passive && s.get MGT_CAN_STATE p == 0 then s.raise MGT_CAN_PASSIVE p else s
  (s.set MGT_CAN_STATE p (b2n passive)).canLevel p

/-- A frame with a function code and node number leaves port p: at the rates that took effect last, with BRS unless the data rate is 0
(R417, R406). -/
def State.canFrame (s : State) (p code node : Nat) (data : List Nat) : State :=
  s.emit (.can p s.claim.arbRate s.claim.dataRate ((code * 128 + node % 128) :: canPad data))

/-- Send a frame with a function code and node number on port p. A frame that is sent takes one from TEC (R417; PRESUMED, log 90). -/
def State.canSend (s : State) (p code node : Nat) (data : List Nat) : State :=
  if s.canLive p then
    let s := if s.get MGT_CAN_TEC p = 0 then s else s.canErrors p (s.get MGT_CAN_TEC p - 1) (s.get MGT_CAN_REC p)
    (s.countEnt (0x1101 + p) 6).canFrame p code node data
  else s

/-- Send a frame on every enabled port. -/
def State.canSendAll (s : State) (code node : Nat) (data : List Nat) : State := (s.canSend 0 code node data).canSend 1 code node data

/-- A frame was received on port p. It takes one from REC; from a REC above 127 it leaves a value of 119 to 127 (R417; PRESUMED, log 90). -/
def State.canGot (s : State) (p : Nat) : State :=
  let s := s.countEnt (0x1101 + p) 5
  let r := s.get MGT_CAN_REC p
  if r = 0 then s
  else if r ≤ 127 then s.canErrors p (s.get MGT_CAN_TEC p) (r - 1)
  else
    let (v, s) := s.fresh
    s.canErrors p (s.get MGT_CAN_TEC p) (119 + v.toNat % 9)

/-- The ready bit of CAN port p (16 R449): enabled, node effective, not bus-off. -/
def State.canReady (s : State) (p : Nat) : State := s.setReady (6 * 1024 + 1 + p) (s.canLive p && s.get MGT_STAT_NODE != 0)

/-- Both CAN ready bits. -/
def State.canReadyAll (s : State) : State := (s.canReady 0).canReady 1

/-! ### Heartbeat (R420) and EMCY (R421) -/

/-- The 16 bytes of a heartbeat. -/
def State.beatBytes (s : State) : List Nat :=
  [s.modeCode, s.get PRF_ACTIVE_ACTIVE,
   b2n s.faultLow + 2 * b2n s.alertLow + 4 * b2n (s.owner != 0) + 8 * b2n (s.get CLK_TM_CTL_ROLE == 1), 0] ++
    leBytes 8 Config.serial.toNat ++ leBytes 4 s.claim.beats

/-- Send a heartbeat on every enabled port, once the node number is effective. -/
def State.heartbeat (s : State) : State :=
  if s.get MGT_STAT_NODE = 0 ∨ s.mode = .dormant then s
  else
    let t := s.canSendAll 0xE (s.get MGT_STAT_NODE) s.beatBytes
    if s.canLive 0 || s.canLive 1 then { t with claim := { t.claim with beats := (t.claim.beats + 1) % 2 ^ 32 } } else t

/-- HEARTBEAT: the period of 0x1100:05 has passed. -/
def execHeartbeat (s : State) : Host.Outcome State Fault Refusal := if s.ent 0x1100 5 = 0 then .next s else .next s.heartbeat

/-- The 16 bytes of the EMCY of a record. -/
def emcyBytes (r : FltRec) : List Nat := leBytes 4 r.seq ++ leBytes 2 r.code ++ [r.mode, 0] ++ leBytes 8 r.stroke

/-- The oldest EMCY frame leaves its queue as soon as a port can send it. -/
def State.emcySend (s : State) : State :=
  match s.emcy with
  | [] => s
  | r :: t =>
    if s.get MGT_STAT_NODE != 0 && (s.canLive 0 || s.canLive 1) then { s with emcy := t }.canSendAll 1 (s.get MGT_STAT_NODE) (emcyBytes r) else s

/-! ### The node claim (R422, R423) -/

/-- The serial number as KEY: most significant byte first. -/
def keyBytes (k : Nat) : List Nat := (leBytes 8 k).reverse

/-- Send CLAIM for the candidate. -/
def State.sendClaim (s : State) : State := s.canSendAll 2 s.claim.candidate (keyBytes Config.serial.toNat)

/-- A node number becomes effective: the first heartbeat leaves. -/
def State.nodeEffective (s : State) (node : Nat) (dynamic : Bool) : State :=
  let s := (s.set MGT_STAT_NODE 0 node).lower MGT_STAT_CLAIMING
  ({ s with claim := { s.claim with dynamic := dynamic, beats := 0 } }.heartbeat).canReadyAll

/-- The node number of the pins, or a dynamic claim whose first candidate is (serial mod 126) + 1. -/
def State.startClaim (s : State) : State :=
  let n := s.boot.node
  if n = 0 ∨ n = 0x7F then
    let s := (s.set MGT_STAT_NODE 0 0).raise MGT_STAT_CLAIMING
    { s with claim := { s.claim with candidate := Config.serial.toNat % 126 + 1, retries := 0 } }.sendClaim
  else s.nodeEffective n false

/-- A conflict: the next candidate is claimed. -/
def State.claimConflict (s : State) : State :=
  { s with claim := { s.claim with candidate := s.claim.candidate % 126 + 1, retries := 0 } }.sendClaim

/-- The CLAIM on port p was not acknowledged: it is sent again, up to 16 times, and then counts as sent (R422). -/
def State.claimAgain (s : State) (p : Nat) : State :=
  if s.claim.retries < 16 then
    { s with claim := { s.claim with retries := s.claim.retries + 1 } }.canFrame p 2 s.claim.candidate (keyBytes Config.serial.toNat)
  else s

/-- A received CLAIM. -/
def State.takeClaim (s : State) (node key : Nat) : State :=
  if s.flag MGT_STAT_CLAIMING then
    (if node = s.claim.candidate ∧ key < Config.serial.toNat then s.claimConflict else s)
  else if node = s.get MGT_STAT_NODE ∧ node ≠ 0 then
    s.canSendAll 2 node (keyBytes (if s.claim.dynamic then Config.serial.toNat else 0))
  else s

/-- CLAIM. -/
def execClaim (p : Fin 2) (node : BitVec 7) (key : Word) (s : State) : Host.Outcome State Fault Refusal :=
  if s.canLive p.val then .next ((s.canGot p.val).takeClaim node.toNat key.toNat) else .next s

/-- NODE_CLAIM_TIMEOUT: 100 ms without a conflict. -/
def execNodeClaimTimeout (s : State) : Host.Outcome State Fault Refusal :=
  if s.flag MGT_STAT_CLAIMING then .next (s.nodeEffective s.claim.candidate true) else .next s

/-- HEARTBEAT_RECEIVED: a RESPONSE or HEARTBEAT of a node number. -/
def execHeartbeatReceived (p : Fin 2) (node : BitVec 7) (s : State) : Host.Outcome State Fault Refusal :=
  if s.canLive p.val then
    let s := s.canGot p.val
    if s.flag MGT_STAT_CLAIMING && node.toNat == s.claim.candidate then .next s.claimConflict
    else if s.get MGT_STAT_NODE = node.toNat ∧ node ≠ 0 then .next (s.raise MGT_STAT_NODEDUP)
    else .next s
  else .next s

/-! ### Error states (R417, R418, R424) -/

/-- A port enters bus-off: it drops its waiting request and closes its open transfer (R424). -/
def State.enterBusOff (s : State) (p : Nat) : State :=
  let s := (((s.set MGT_CAN_STATE p 2).raise MGT_CAN_BUSOFF p).countEnt (0x1101 + p) 4).setXport (32 + p) XportSt.idle
  (s.canLevel p).canReady p

/-- What an error adds to the counter of the side on which the port meets it: 8 to TEC, but nothing where an error-passive port misses an
acknowledgement, and to REC 1, or 8 for a dominant bit behind its own error flag (R417). PRESUMED (log 90): the increments of ISO 11898-1. -/
def State.canErrorStep (s : State) (p : Nat) (sender : Bool) (kind : CanError) : Nat :=
  if sender then (if kind = .noAck ∧ s.get MGT_CAN_STATE p = 1 then 0 else 8) else if kind = .dominant then 8 else 1

/-- The controller counts an error: a TEC above 255 is bus-off; REC stays at 255. -/
def State.canCount (s : State) (p : Nat) (sender : Bool) (kind : CanError) : State :=
  let k := s.canErrorStep p sender kind
  if sender then
    (if 255 < s.get MGT_CAN_TEC p + k then s.enterBusOff p else s.canErrors p (s.get MGT_CAN_TEC p + k) (s.get MGT_CAN_REC p))
  else s.canErrors p (s.get MGT_CAN_TEC p) (min 255 (s.get MGT_CAN_REC p + k))

/-- CAN_BUS_ERROR: a port meets an error as the sender or a receiver of a frame. `claim` says that the frame is the module's own CLAIM, which is
sent again if nobody has acknowledged it; of the other errors it names a bit error in the data field, which is a conflict (R422). -/
def execCanBusError (p : Fin 2) (sender : Bool) (kind : CanError) (claim : Bool) (s : State) : Host.Outcome State Fault Refusal :=
  if s.canLive p.val then
    let s := s.canCount p.val sender kind
    .next (if claim && sender && s.flag MGT_STAT_CLAIMING then
        (if kind = .noAck then (if s.canLive p.val then s.claimAgain p.val else s) else s.claimConflict) else s)
  else .next s

/-- BUS_OFF: a port enters bus-off. -/
def execBusOff (p : Fin 2) (s : State) : Host.Outcome State Fault Refusal :=
  if s.canLive p.val then .next (s.enterBusOff p.val) else .next s

/-- BUS_OFF_RECOVERY: the port is error active again with its counters at 0, and sends a heartbeat at once. -/
def execBusOffRecovery (p : Fin 2) (s : State) : Host.Outcome State Fault Refusal :=
  let p := p.val
  if s.domOn 763 && s.get MGT_CAN_STATE p == 2 then .next ((s.canErrors p 0 0).heartbeat.canReady p) else .next s

/-- IGNORED_FRAME. -/
def execIgnoredFrame (p : Fin 2) (addressed : Bool) (s : State) : Host.Outcome State Fault Refusal :=
  let p := p.val
  if s.canLive p then
    let s := s.canGot p
    .next (if addressed then ((s.countEnt (0x1101 + p) 7).raise MGT_CAN_RXIGN p).canLevel p else s)
  else .next s

end Sys2Proof.Machine
end

