-- ==== Sys2Proof/Machine/Boot.lean ====
section
/-! DEFINITION. Resets and bring-up (16 R428-R430, R436-R456; 20 R515): the states that POR_N, WARM_N, REBOOT, SLEEP and a wake leave,
and the boot steps with their policies, attempts, journal records and work. -/

namespace Sys2Proof.Machine

/-! ### What a reset keeps -/

/-- Registers with fields that a warm reset keeps. -/
def keptRegs : List RegName :=
  [.CLK_TB, .MGT_FLT_STAT, .MGT_FLT_ACK, .MGT_FLT_CTL, .MGT_FLT_LOST, .MGT_FLT_SEL, .MGT_FLCTL, .FAB_XSPARE, .SPT_CAUSE, .SPT_WAKEPRF,
   .CPO_RSTPC, .TRC_CDBG, .PRF_ACTIVE, .CLU_REMAP, .CLU_SPARE, .TME_CFG, .TME_CHMAP, .TME_CHSTAT, .TME_RBCTL, .CELL_IMCFG, .CELL_SBSEL]

/-- The fields that a warm reset keeps, by their ids. -/
def keptIds : List Nat := ((keptRegs.map regFields).flatten.filter (·.kept)).map (·.id)

/-- A field of the Soundpost, which only POR_N resets (12 R351). -/
def soundpostId (k : Nat) : Bool := SPT_SEL_INPUT.id ≤ k && k < SPT_WAKEPRF_PRF.id + 64

/-- A field of the fault log, which only POR_N resets (19 R502). -/
def faultLogId (k : Nat) : Bool := MGT_FLT_STAT_STORED.id ≤ k && k < MGT_FLT_SEL_SEQ.id + 64

/-- A register field keeps its value over WARM_N. -/
def warmKept (p : Nat × Nat) : Bool := keptIds.any (· == p.1 % 65536) || soundpostId (p.1 % 65536) || faultLogId (p.1 % 65536)

/-- A register field lies in the always-on domain. -/
def alwaysOn (p : Nat × Nat) : Bool := soundpostId (p.1 % 65536) || faultLogId (p.1 % 65536)

/-- Flash alone. -/
def flashOnly (l : List Host.Cell) : List Host.Cell := l.filter (fun p => decide (0x3F0000000000 ≤ p.1))

/-- The state after POR_N (R436): flash and the test access port keep theirs; NODE, PROFILE_SEL and FLASH_WP_N are sampled. -/
def State.porState (s : State) (sel node : Nat) (wp : Bool) : State :=
  let f := s.flashSelect 0
  let t : State := { State.reset with
    pending := s.pending, mem := flashOnly f.mem, tap := s.dropMacc, out := s.out, free := s.free, boot := { BootSt.zero with node := node } }
  ((t.set PRF_ACTIVE_PINS 0 sel).set PRF_ACTIVE_ACTIVE 0 sel).set MGT_FLCTL_WPN 0 (b2n wp)

/-- A cell after a warm reset: its storage stays (03 R95). -/
def Cell.warm (x : Cell) : Cell := { Cell.zero with mem := x.mem, bad := x.bad }

/-- A tile after a warm reset: path table, spare map and a zero fill in progress stay. -/
def TileSt.warm (x : TileSt) : TileSt := { TileSt.zero with pt := x.pt, ptBad := x.ptBad, xspare := x.xspare, zeroing := x.zeroing }

/-- The functions whose readiness a warm reset leaves: tiles, clusters, stacks, TMEs, flash, GEC and trace. -/
def warmReady (f : Nat) : Bool :=
  f / 1024 == 0 || f / 1024 == 1 || f / 1024 == 3 || f / 1024 == 4 || f == 6 * 1024 + 3 || f == 6 * 1024 + 4 || f == 6 * 1024 + 5

/-- A lane whose EN was 1 keeps it; it is off until the reset is released. -/
def State.keepEn (s old : State) : State :=
  (old.listed LNK_CTL_EN).foldl (fun s n => if old.flag LNK_CTL_EN n then s.set LNK_CTL_EN n 1 else s) s

/-- The state in which WARM_N or REBOOT leaves the module (R437): domains, cell storage, path tables, remap tables, LSRAMs, HBM,
the time base and what the module holds of the applied image stay; every core is reset and held. -/
def State.warmState (s : State) : State :=
  let cores := ((List.range 20).filter (fun n => sget s.dom (720 + n) 0 == 2)).map
    (fun n => (n, { CoreSt.fresh (2 * s.get CPO_RSTPC_PC n) with held := true }))
  let t : State := { State.reset with
    pending := s.pending, tb := s.tb, tbFrac := s.tbFrac, clockStopped := s.clockStopped,
    regs := s.regs.filter warmKept, mem := s.mem,
    cells := (s.cells.map (fun p : Nat × Cell => (p.1, p.2.warm))).filter (fun p => p.2 != Cell.zero),
    tiles := (s.tiles.map (fun p : Nat × TileSt => (p.1, p.2.warm))).filter (fun p => p.2 != TileSt.zero),
    liveRemap := s.liveRemap,
    dom := s.dom.filter (fun p => !(decide (740 ≤ p.1) && decide (p.1 < 760))),
    rdy := s.rdy.filter (fun p => warmReady p.1),
    img := { ImgSt.zero with placement := s.img.placement, failedSection := s.img.failedSection, declS := s.img.declS, used := s.img.used,
                             ckpbanks := s.img.ckpbanks, carry := s.img.carry, servers := s.img.servers },
    fltRecs := s.fltRecs, fltNext := s.fltNext, fltAny := s.fltAny, fltHw := s.fltHw / 2 * 2,
    ents := s.ents, refReason := s.refReason, refCount := s.refCount,
    boot := { BootSt.zero with node := s.boot.node }, claim := { s.claim with candidate := 0, retries := 0, dynamic := false, beats := 0 },
    tap := s.dropMacc, flash := { s.flash with bar := [], macc := none }, out := s.out, free := s.free,
    pins := { s.pins with waitHold := false, switching := none, ended := none, failed := [], poll := none, cmdLen := 0, cmdWrite := false },
    cores := cores.filter (fun p => p.2 != CoreSt.reset) }
  (List.range 8).foldl (fun s k => s.stackReady k) (t.keepEn s).emergencyFlags

/-- The state of DORMANT (R438): the always-on domain and flash alone keep theirs. A lost clock stays lost (17 R461). -/
def State.dormantState (s : State) : State :=
  let f := s.flashSelect 0
  let pins := s.get PRF_ACTIVE_PINS
  let t : State := { State.reset with
    pending := s.pending, mode := .dormant, clockLost := s.clockLost, regs := s.regs.filter alwaysOn, mem := flashOnly f.mem,
    fltRecs := s.fltRecs, fltNext := s.fltNext, fltAny := s.fltAny, fltHw := s.fltHw, boot := { BootSt.zero with node := s.boot.node },
    tap := s.dropMacc, out := s.out, free := s.free,
    pins := { PinSt.zero with low := s.pins.low, trip := s.pins.trip, pgood := s.pins.pgood } }
  ((t.set PRF_ACTIVE_PINS 0 pins).set PRF_ACTIVE_ACTIVE 0 pins).set MGT_FLCTL_WPN 0 (s.get MGT_FLCTL_WPN)

/-! ### Starts (R430, R452) -/

/-- Lanes with EN return to DETECT (R437). -/
def State.lanesDetect (s : State) : State := (s.listed LNK_CTL_EN).foldl (fun s n => if s.laneOn n then s.laneEnable n true else s) s

/-- Bring-up begins at step 0 with a cause and a profile; an early BOOT_HALT clears (19 R500). -/
def State.startBoot (s : State) (cause profile : Nat) : State :=
  let s : State := { s with fltHw := s.fltHw % 4, boot := { s.boot with step := 0, ms := 0, profile := profile } }
  let s := (s.enter .bringUp).set BJ_STAT_CAUSE 0 cause
  s.lanesDetect.bjStart 0 cause profile

/-- POR_RELEASE. -/
def execPorRelease (sel : BitVec 2) (node : BitVec 7) (wp : Bool) (s : State) : Host.Outcome State Fault Refusal :=
  .next ((s.porState sel.toNat node.toNat wp).startBoot 0 sel.toNat)

/-- A warm start, as WARM_N is released or REBOOT commands it: from DORMANT everything outside the always-on domain is already lost. -/
def State.warmStart (s : State) (cause : Nat) : State :=
  let s : State := { s with pins := { s.pins with low := 0 } }
  let t := if s.mode = .dormant then { s.dormantState with clockLost := false, fltHw := s.fltHw / 2 * 2 } else s.warmState
  t.startBoot cause (t.get PRF_ACTIVE_ACTIVE)

/-- WARM_RESET: the release of a WARM_N that was recognised low. -/
def execWarmReset (s : State) : Host.Outcome State Fault Refusal :=
  if s.pins.low = 1 then .next (s.warmStart 1) else .next s

/-- RESET_LOW: a low on POR_N or WARM_N is recognised, and the module is held in reset (20 R515). WARM_N is ignored while POR_N is low. An early
BOOT_HALT is held until bring-up starts again (19 R500). -/
def execResetLow (por : Bool) (s : State) : Host.Outcome State Fault Refusal :=
  if por then
    let t := s.porState (s.get PRF_ACTIVE_PINS) s.boot.node (s.flag MGT_FLCTL_WPN)
    .next { t with pins := { PinSt.zero with low := 2 } }
  else if s.pins.low = 2 then .next s
  else
    let t := if s.mode = .dormant then s else s.warmState
    .next { t with pins := { t.pins with low := 1 } }

/-- A wake source that is enabled (12 R350). -/
def State.wakeEnabled (s : State) : WakeSource → Bool
  | .pin => s.flag SPT_CTL_PINEN
  | .can p => if p.val = 0 then s.flag SPT_CTL_CAN0EN else s.flag SPT_CTL_CAN1EN
  | .slot j => s.flag SPT_SEL_EN j.val && s.gecLine (s.get SPT_SEL_INPUT j.val)

/-- The Soundpost records a source. -/
def State.wakeCause (s : State) : WakeSource → State
  | .pin => s.raise SPT_CAUSE_PIN
  | .can p => s.raise (if p.val = 0 then SPT_CAUSE_CAN0 else SPT_CAUSE_CAN1)
  | .slot j => s.setBits SPT_CAUSE_SLOT 0 (2 ^ j.val)

/-- SOUNDPOST_WAKE: an enabled source is active. In DORMANT bring-up starts with the wake profile. -/
def execSoundpostWake (w : WakeSource) (s : State) : Host.Outcome State Fault Refusal :=
  if !s.awake ∨ !s.wakeEnabled w then .next s
  else
    let s := s.wakeCause w
    .next (if s.mode = .dormant then s.startBoot 2 (s.get SPT_WAKEPRF_PRF) else s)

/-! ### Work of the steps (R439) -/

/-- What an attempt did: the state, whether its own checks passed, and the functions it failed to bring up. -/
structure Work where
  state : State
  ok : Bool
  failed : List Nat

/-- The domains that a step switches on, in the order in which they read on: it requests them in ascending *d* (17 R466), and C0, the first of
step 2, waits for its parent. Those of the hub's plan group, PCIe and trace, belong to step 9. -/
def stepDomains (st : Nat) : List Nat :=
  if st = 2 then [760, 720, 761, 763, 764]
  else if st = 9 then [762, 765]
  else if st = 10 then (List.range 19).map (721 + ·)
  else if st = 11 then (List.range 8).map (712 + ·) ++ (List.range 16).map (724 + ·)
  else if st = 12 then List.range 128
  else if st = 13 then (List.range 8).map (704 + ·)
  else if st = 15 then (List.range 64).map (640 + ·)
  else []

/-- A domain that its step switches on: a fixed one, or one that the plan holds on (R464). -/
def State.wanted (s : State) (st d : Nat) : Bool := st == 2 || s.planned d

/-- The first function of a domain. -/
def firstFn (d : Nat) : Nat := (domainFns d).headD 0

/-- A wanted domain that is off is powered up, and a core is released; the domain counts as failed where its parent is off or the
surroundings fail one of its functions. A core of a tile waits for step 11. -/
def State.bringDomain (s : State) (st : Nat) (fails : List Nat) (d : Nat) : State × List Nat :=
  if !s.wanted st d then (s, [])
  else if st = 10 ∧ 724 ≤ d ∧ !s.parentOn d then (s, [])
  else if !s.parentOn d || (domainFns d).any (fun f => fails.any (· == f)) then (s, [firstFn d])
  else
    let s := if s.domOn d then s else (s.powerUp d).powerDone d
    (if 721 ≤ d ∧ d < 740 ∧ (s.core (d - 720)).held then s.coreRelease (d - 720) else s, [])

/-- The domains of a step, in ascending order (17 R466). -/
def State.bringDomains (s : State) (st : Nat) (fails : List Nat) : List Nat → State × List Nat
  | [] => (s, [])
  | d :: t =>
    let (s, a) := s.bringDomain st fails d
    let (s, b) := s.bringDomains st fails t
    (s, a ++ b)

/-- A domain that the plan of a SELECT switches off goes off with its children (R452). -/
def State.dropDomain (s : State) (d : Nat) : State :=
  (withChildren d).foldl (fun s x =>
    let was := sget s.dom x 0
    if was = 0 then s else
      let s := ((s.loseDomain x).setDom x 0).powerDone x
      if was = 2 ∨ was = 3 then s.domainChanged x else s) s

/-- The plan domains of a step that a SELECT switches off. -/
def State.dropUnplanned (s : State) (st : Nat) : State :=
  (stepDomains st).foldl (fun s d => if planDomain d && !s.planned d && sget s.dom d 0 != 0 then s.dropDomain d else s) s

/-- An area of device d passes the CRC of its directory entry (13 R372, R376). -/
def State.areaOk (s : State) (d : Nat) (e : List Nat) : Bool :=
  crc32c (s.natBytes (s.flashBase d + e.getD 0 0) (min (e.getD 1 0) (0x10000000 - e.getD 0 0))) == e.getD 3 0

/-- The boot area on device d passes the check of 13 R372 against its directory entry. -/
def State.bootAreaOk (s : State) (d : Nat) : Bool :=
  match s.directory d with
  | none => false
  | some l =>
    let b := s.flashBase d
    s.num (b + 0x100008) 4 == crc32c (s.natBytes (b + 0x100010) (16 * l.length)) &&
      (match l with
       | e :: _ => s.areaOk d e
       | [] => false)

/-- The runtime area on device d passes its CRC (13 R374, R376). -/
def State.runtimeOk (s : State) (d : Nat) : Bool :=
  match (s.directory d).bind (fun l => l.find? (fun e => e.getD 0 0 == 0x1000000)) with
  | none => false
  | some e => s.areaOk d e

/-- Step 17: the runtime firmware of the device in the window is loaded and started, or by the alternate method that of the other device. -/
def State.runtimeStep (s : State) (method : Nat) : Work :=
  let d := if method = 1 then 1 - s.get MGT_FLCTL_WINSEL else s.get MGT_FLCTL_WINSEL
  let ok := s.domOn 761 && s.runtimeOk d
  ⟨{ s with boot := { s.boot with runtime := if ok then some d else none } }, ok, []⟩

/-- Step 3: BOOTOK, the exchange of the devices where only the other one passes, and the ready bit of flash. The primary method changes the
devices to 8D-8D-8D, the alternate leaves them in 1S-1S-1S (13 R371). -/
def State.flashStep (s : State) (method : Nat) : Work :=
  let s : State := { s with flash := { s.flash with octal := method == 0 } }
  let ok := b2n (s.bootAreaOk 0) + 2 * b2n (s.bootAreaOk 1)
  let s := s.set MGT_FLCTL_BOOTOK 0 ok
  let w := s.get MGT_FLCTL_WINSEL
  let s := if !bit ok w && bit ok (1 - w) then s.flashSelect (1 - w) else s
  let s := s.setReady (6 * 1024 + 3) (ok != 0)
  ⟨s, ok != 0, if ok = 0 then [6 * 1024 + 3] else []⟩

/-- Sectors ahead of the write position are erased (R447): the sector of a position at its start and the next, or the next two. -/
def State.bjErase (s : State) (d : Nat) : State :=
  let p := s.boot.writePos
  let k := p / 4096
  let ks := if p % 4096 = 0 then [k, (k + 1) % 16] else [(k + 1) % 16, (k + 2) % 16]
  ks.foldl (fun s k => s.zeroRange (s.flashBase d + 0x200000 + 65536 * k) (s.flashBase d + 0x210000 + 65536 * k)) s

/-- Step 4: the history, the previous start, the position after the highest SEQ, erased sectors, and the buffered records. `fail`
names the devices whose copy cannot be used. -/
def State.journalStep (s : State) (fail : Nat) : State :=
  let s : State := { s with boot := { s.boot with copies := 3 - fail % 4 } }
  let l := s.bjRecords
  let sorted := bjSorted l
  let (pos, q) := match bjLast l with
    | some h => ((h.1 + 1) % 65536, (bjSeq h.2 + 1) % 2 ^ 32)
    | none => (0, 0)
  let s := s.set BJ_HIST_STEPS 0 (bjHistory sorted 0 [])
  let buf := s.boot.buffered
  let s : State := { s with boot := { s.boot with writePos := pos, seqNo := q, previous := bjLastStart sorted, current := [], buffered := [], step := 4 } }
  if fail % 4 = 3 then s.raise BJ_STAT_NOJRNL
  else
    let s := (List.range 2).foldl (fun s d => if bit s.boot.copies d then s.bjErase d else s) s
    buf.foldl (fun s f => s.bjWrite 0 f) (if fail % 4 = 0 then s else s.raise BJ_STAT_JWERR)

/-- `PRF_ACTIVE.SRC` of a start: pins, command, wake; a warm start leaves it. -/
def State.profSource (s : State) : State :=
  match s.get BJ_STAT_CAUSE with
  | 0 => s.set PRF_ACTIVE_SRC 0 0
  | 2 => s.set PRF_ACTIVE_SRC 0 3
  | 4 => s.set PRF_ACTIVE_SRC 0 1
  | _ => if s.get PRF_ACTIVE_SRC = 2 then s.set PRF_ACTIVE_SRC 0 0 else s

/-- REG records, in record order, written by the boot firmware on C0 (R454). -/
def State.regRecords (s : State) (l : List (Nat × Nat × Nat)) : State :=
  l.foldl (fun s r => s.busRegWrite (.core 0) r.2.1 8 r.2.2) s

/-- The REG records of a step. -/
def State.stepRecords (s : State) (st : Nat) : List (Nat × Nat × Nat) := s.boot.regRecs.filter (fun r => r.1 == st)

/-- The register of a REG record is that of a lane whose quad is off. -/
def State.laneRecord (s : State) (r : Nat × Nat × Nat) : Bool :=
  match regAt r.2.1 with
  | some x => x.block == .lnk && !s.domOn x.domain
  | none => false

/-- The REG records of step 15 that are work of that step (R439: "lane registers; EN set"): those of lanes that the step's own work switches on
first. DEDUCED (log 216). -/
def State.laneRecords (s : State) (st : Nat) : List (Nat × Nat × Nat) := if st = 15 then (s.stepRecords st).filter s.laneRecord else []

/-- Step 6: the profile, or the built-in defaults (R454, R455). -/
def State.profileStep (s : State) (method : Nat) : Work :=
  let s := s.set PRF_ACTIVE_ACTIVE 0 s.boot.profile
  if method = 1 then ⟨s.loadDefaults, true, []⟩
  else match s.loadProfile s.boot.profile with
    | some (t, l) => ⟨((t.regRecords (t.stepRecords 6)).loadEntries l).profSource, true, []⟩
    | none => ⟨s, false, []⟩

/-- Step 7: the root relocks at 4.8 GHz if ROOT48, and entry 0x3000:07 is applied (17 R458). -/
def State.clockStep (s : State) : State :=
  let s := if bit s.boot.profFlags 0 then s.raise CLK_GEN_STAT_ROOT48 else s
  s.set CLK_GEN_CTL_REFFLT 0 (s.ent 0x3000 7)

/-- Step 8: 0x1100:03, :04 and :08 take effect where their domain has powered up since they did last (15 R406), and the node claim starts
(R422). -/
def State.canStep (s : State) : State :=
  let s := if s.claim.fresh then
      { s with claim := { s.claim with ports := s.ent 0x1100 8, arbRate := s.ent 0x1100 3, dataRate := s.ent 0x1100 4, fresh := false } }
    else s
  let s := (List.range 2).foldl (fun s p => if bit s.claim.ports p && s.get MGT_CAN_STATE p == 3 then s.set MGT_CAN_STATE p 0 else s) s
  (if s.get MGT_STAT_NODE = 0 ∧ !s.flag MGT_STAT_CLAIMING then s.startClaim else s).canReadyAll

/-- Step 14: the zero fill of a powered stack ends (13 R357). -/
def State.fillTme (s : State) (fails : List Nat) (t : Nat) : State × List Nat :=
  if !s.domOn (704 + t) || !s.planned (704 + t) then (s, [])
  else if fails.any (· == 4 * 1024 + t) then (s, [4 * 1024 + t])
  else if (s.tile t).zeroing then
    let s := s.zeroRange (stackBase t) (stackBase (t + 1))
    ((s.setTile t { s.tile t with zeroing := false }).stackReady t, [])
  else (s, [])

/-- The TMEs of step 14. -/
def State.fillTmes (s : State) (fails : List Nat) : List Nat → State × List Nat
  | [] => (s, [])
  | t :: u =>
    let (s, a) := s.fillTme fails t
    let (s, b) := s.fillTmes fails u
    (s, a ++ b)

/-- Step 18 (R440): C0 claims loading, the image at IMGADDR is applied as in HOLD, and C0 releases loading. The step passes where
`MGT_IMG_CTL.ERR` reads 0 then, which an earlier failure may have left 1. -/
def State.imageStep (s : State) : Work :=
  if s.boot.imgAddr = 0 then ⟨s, true, []⟩
  else if s.owner ≠ 0 ∧ s.owner ≠ 1 then ⟨s, false, []⟩
  else
    let s := (s.setOwner 1).imgAddrWrite (.core 0) s.boot.imgAddr
    let (u, r) := s.runEngine
    let t := (u.barRun r).applyEnd r.err r.applied
    ⟨{ t with owner := 0 }, !t.flag MGT_IMG_CTL_ERR, []⟩

/-- The work of one attempt of a step by a method: functions in `fails` do not come up. -/
def State.bootWork (s : State) (st method : Nat) (fails : List Nat) : Work :=
  if st = 0 then let t := s.pollRun 30; ⟨t, t.pins.pgood == 0x7FFF, []⟩
  else if st = 1 then ⟨{ (s.raise CLK_GEN_STAT_LOCK).lower CLK_GEN_STAT_ROOT48 with clockStopped := s.pins.trip }, true, []⟩
  else if st = 3 then s.flashStep method
  else if st = 5 then (if s.get MGT_FLCTL_BOOTOK = 0 then ⟨s, false, [6 * 1024 + 3]⟩ else ⟨if (s.core 0).held then s.coreRelease 0 else s, true, []⟩)
  else if st = 6 then s.profileStep method
  else if st = 7 then ⟨s.clockStep, true, []⟩
  else if st = 8 then ⟨s.canStep, true, []⟩
  else if st = 14 then
    let (t, f) := s.fillTmes fails (List.range 8)
    ⟨t, true, f⟩
  else if st = 17 then s.runtimeStep method
  else if st = 18 then s.imageStep
  else
    let (t, f) := s.bringDomains st fails (stepDomains st)
    ⟨if st = 9 then { t with pci := { t.pci with topRate := if method = 1 then 5 else 6 } } else t, true, f⟩

/-- The steps that bring up several functions, each of which comes up or does not. -/
def manyFns (st : Nat) : Bool := st == 2 || (9 ≤ st && st ≤ 15)

/-- The functions of a step whose work is one whole. -/
def wholeFns (st : Nat) : List Nat := if st = 3 then [6 * 1024 + 3] else if st = 5 then [5 * 1024] else if st = 8 then [6 * 1024 + 1, 6 * 1024 + 2] else []

/-- The work of an attempt that the surroundings stop or let go: where they stop it (`done` is false), or fail a function of a step whose work is
one whole, none of it is done, and flash is not ready (R445): no device has passed the check of step 3 (R441). -/
def State.stepWork (s : State) (st method : Nat) (done : Bool) (fails : List Nat) : Work :=
  let f := (wholeFns st).filter fails.contains
  if done && f.isEmpty then s.bootWork st method fails
  else ⟨if st = 3 then (s.setReady (6 * 1024 + 3) false).set MGT_FLCTL_BOOTOK 0 0 else s, false, f⟩

/-! ### Policies (R442, R443) -/

/-- The policy byte of a step. -/
def State.policyOf (s : State) (st : Nat) : Nat := if policyFree st then s.ent 0x2100 (0x20 + st) else policyDefault st

/-- The steps with an alternate method. -/
def hasAlternate (st : Nat) : Bool := st == 3 || st == 6 || st == 9 || st == 13 || st == 17

/-- A step whose alternate or skipping is recorded in its register of the start. -/
def State.mark (s : State) (f : Field) (st : Nat) : State := s.set f 0 (s.get f ||| 2 ^ st)

/-- The record of an attempt's start. -/
def State.attemptRecord (s : State) (fail st method k : Nat) (t : Try) : State :=
  { s with boot := { s.boot with ms := t.start.toNat } }.bjPut fail [2, st, method, k, t.start.toNat, 0]

/-- The record of an outcome: 0 pass, 1 fail, 2 timeout, 3 skipped. -/
def State.outcomeRecord (s : State) (fail st method result detail : Nat) (ms : Nat) : State :=
  { s with boot := { s.boot with ms := ms } }.bjPut fail [3, st, method, result, ms, detail]

/-- An attempt that the surroundings leave alone. -/
def State.plainTry (s : State) : Try := ⟨true, [], BitVec.ofNat 16 s.bjTime, BitVec.ofNat 16 s.bjTime⟩

/-- One attempt with its two records: state, passed, first failed function. The records of step 4 follow its work, since it is
that work which finds their place. -/
def State.attempt (s : State) (fail st method k : Nat) (t : Try) : State × Bool × Nat :=
  let fails := t.failed.map (·.toNat)
  if st = 4 then
    let s := s.journalStep fail
    let s := s.attemptRecord fail st method k t
    let ok := t.pass && decide (fail % 4 ≠ 3)
    (s.outcomeRecord fail st method (if ok then 0 else 1) 0 t.stop.toNat, ok, 0)
  else
    let s := s.attemptRecord fail st method k t
    let w := s.stepWork st method (t.pass || (manyFns st && !fails.isEmpty)) fails
    let ok := t.pass && w.ok && w.failed.isEmpty
    let d := if ok then 0 else w.failed.headD (fails.headD 0)
    (w.state.outcomeRecord fail st method (if ok then 0 else 1) d t.stop.toNat, ok, d)

/-- An attempt that exceeds the limit of its step (R439): the functions that it did bring up are ready (R445); of work that is one whole nothing is
done. -/
def State.timeoutAttempt (s : State) (fail st method k : Nat) (t : Try) : State :=
  let fails := t.failed.map (·.toNat)
  if st = 4 then ((s.journalStep fail).attemptRecord fail st method k t).outcomeRecord fail st method 2 0 t.stop.toNat
  else
    let w := (s.attemptRecord fail st method k t).stepWork st method (manyFns st) fails
    w.state.outcomeRecord fail st method 2 (w.failed.headD (fails.headD 0)) t.stop.toNat

/-- How the attempts of a step came out: the state, the result (0 pass, 1 fail, 2 timeout), the first failed function, and the
attempts left of those the surroundings decided. -/
structure Ran where
  state : State
  result : Nat
  detail : Nat
  left : List Try

/-- run(m, k) of R443: up to `n` attempts, the first numbered `k`. With `last`, the attempt after the listed ones exceeds the limit
of the step. -/
def State.runMethod (s : State) (fail st method : Nat) (last : Option Try) : Nat → Nat → List Try → Nat → Ran
  | 0, _, tries, d => ⟨s, 1, d, tries⟩
  | n + 1, k, tries, _ =>
    match tries, last with
    | [], some t => ⟨s.timeoutAttempt fail st method k t, 2, (t.failed.headD 0).toNat, []⟩
    | [], none =>
      let (s, ok, d) := s.attempt fail st method k s.plainTry
      if ok then ⟨s, 0, 0, []⟩ else s.runMethod fail st method last n (k + 1) [] d
    | t :: u, _ =>
      let (s, ok, d) := s.attempt fail st method k t
      if ok then ⟨s, 0, 0, u⟩ else s.runMethod fail st method last n (k + 1) u d

/-- The policy of R443: how the step came out, with 3 for skipped. -/
def State.runPolicy (s : State) (fail st : Nat) (tries : List Try) (last : Option Try) : Ran :=
  let b := s.policyOf st
  let n := max 1 (bits b 5 2)
  let h := bit (s.get BJ_HIST_STEPS) st
  let alt := hasAlternate st
  match b % 4 with
  | 1 => if h then ⟨(s.outcomeRecord fail st 0 3 0 s.bjTime).mark BJ_RUNSKIP_STEPS st, 3, 0, tries⟩ else s.runMethod fail st 0 last n 1 tries 0
  | 2 =>
    if alt && h then (s.mark BJ_RUNALT_STEPS st).runMethod fail st 1 last n 1 tries 0
    else
      let r := s.runMethod fail st 0 last n 1 tries 0
      if alt && r.result == 1 then (r.state.mark BJ_RUNALT_STEPS st).runMethod fail st 1 last n 1 r.left 0 else r
  | _ => s.runMethod fail st 0 last n 1 tries 0

/-- A HALT step that fails stops bring-up (R446, 19 R496). -/
def State.bootHalt (s : State) (st detail : Nat) : State :=
  let s := s.raise BJ_STAT_HALTED
  if st ≤ 2 then { s with fltHw := s.fltHw ||| 4 } else s.fault 0x704 3 0xFF st 0xFFFF detail 0

/-- A step ends (R445). -/
def State.stepEnded (s : State) : State := (s.raise BJ_STAT_STEPEV).resample 8 0x11D

/-- The module enters DORMANT at the end of step 6 under STARTDORMANT (R430). -/
def State.startsDormant (s : State) (st : Nat) : Bool := st == 6 && s.get BJ_STAT_CAUSE == 0 && bit s.boot.profFlags 1

/-- What follows a step that ran or was skipped: the next step, READY after step 19, DORMANT under STARTDORMANT, or a halt. -/
def State.afterStep (s : State) (st result detail : Nat) : State :=
  let s := if result = 1 ∨ result = 2 then s.mark BJ_RUNFAIL_STEPS st else s
  let s := { s with boot := { s.boot with step := st + 1 } }.stepEnded
  if (result = 1 ∨ result = 2) ∧ s.policyOf st % 4 = 3 then { s with boot := { s.boot with step := st } }.bootHalt st detail
  else if s.startsDormant st then s.dormantState
  else if st = 19 then (s.raise BJ_STAT_DONE).enter .ready
  else s

/-- Step st is entered: `BJ_STAT.STEP`, and on a SELECT the domains that go off, also where the step is then skipped (R452). -/
def State.enterStep (s : State) (st : Nat) : State :=
  let s := s.set BJ_STAT_STEP 0 st
  if s.get BJ_STAT_CAUSE = 4 then s.dropUnplanned st else s

/-- Step st begins with its REG records (R454), but for those of lanes that step 15 switches on. Those of step 6 come with the profile. -/
def State.beginStep (s : State) (st : Nat) : State :=
  if 7 ≤ st then s.regRecords ((s.stepRecords st).filter (fun r => !(s.laneRecords st).contains r)) else s

/-- The step is skipped by its policy and history. -/
def State.skips (s : State) (st : Nat) : Bool := s.policyOf st % 4 == 1 && bit (s.get BJ_HIST_STEPS) st

/-- One boot step. -/
def State.bootStep (s : State) (tries : List Try) (last : Option Try) (fail : Nat) : State :=
  let st := s.boot.step
  let s := s.enterStep st
  let later := s.laneRecords st
  let s := if s.skips st then s else s.beginStep st
  let r := s.runPolicy fail st tries last
  (if r.result = 3 then r.state else r.state.regRecords later).afterStep st r.result r.detail

/-- The next step reads flash, of which a device is busy with a command: it waits (13 R375). -/
def State.stepWaits (s : State) : Bool := s.flag MGT_FLCTL_BUSY && [3, 4, 6, 17, 18].contains s.boot.step

/-- Bring-up runs: not halted, not held in reset, no thermal trip, no clock lost (17 R461), and its next step does not wait for flash. -/
def State.bootRuns (s : State) : Bool :=
  s.mode == .bringUp && !s.flag BJ_STAT_HALTED && s.awake && !s.clockLost && !s.stepWaits && decide (s.boot.step < 20)

/-- BOOT_STEP: the step that is next runs its attempts. `tries` says how the surroundings let them come out, in order (attempts
beyond it are left alone); `jfail` names the flash devices whose journal copy fails. -/
def execBootStep (tries : List Try) (jfail : BitVec 2) (s : State) : Host.Outcome State Fault Refusal :=
  if s.bootRuns then .next (s.bootStep tries none jfail.toNat) else .next s

/-- BOOT_STEP_TIMEOUT: after the attempts listed, the next one exceeds the limit of the step, which ends with it. -/
def execBootStepTimeout (tries : List Try) (last : Try) (jfail : BitVec 2) (s : State) : Host.Outcome State Fault Refusal :=
  if s.bootRuns then .next (s.bootStep tries (some last) jfail.toNat) else .next s

end Sys2Proof.Machine
end

