-- ==== Sys2Proof/Machine/Modes.lean ====
section
/-! DEFINITION. Mode commands (16 R431-R438, R452; 15 R407): which are accepted, the checks of START, and their effects. -/

namespace Sys2Proof.Machine

/-! ### The checks of START (R432) -/

/-- The first check that fails: reason and detail of 15 R407. -/
def State.startError (s : State) : Option (Nat × Nat) := if s.flag MGT_IMG_CTL_BUSY then some (8, 0) else s.runRefusal

/-! ### Acceptance (R431) -/

/-- A command code that R431 names. -/
def modeCode? (c : Nat) : Bool := (1 ≤ c && c ≤ 8) || (0x10 ≤ c && c ≤ 0x13) || (0x18 ≤ c && c ≤ 0x1B)

/-- The mode allows the command. -/
def State.modeAllows (s : State) (c : Nat) : Bool :=
  if c = 3 then s.mode == .hold && s.isMaster
  else if c = 4 then s.mode == .hold
  else if c = 5 then s.mode == .ready || s.mode == .hold
  else if c = 6 then s.mode == .service
  else if c = 8 then s.mode != .dormant
  else s.mode == .ready

/-- SELECT, SLEEP and STOP wait for no apply: they are refused while one runs. -/
def needsIdleEngine (c : Nat) : Bool := c == 4 || c == 7 || 0x10 ≤ c

/-- A command is judged: ABORT (0 where it is accepted), and the state with a refused START noted. -/
def State.modeJudge (s : State) (c : Nat) : Nat × State :=
  if !modeCode? c then (5, s)
  else if !s.modeAllows c then (6 + 256 * s.modeCode, if c = 1 then s.refuse 1 s.modeCode else s)
  else if needsIdleEngine c && s.flag MGT_IMG_CTL_BUSY then (7, s)
  else if c = 1 then
    match s.startError with
    | some (r, d) => (0xE + 256 * (d % 2 ^ 24), s.refuse r d)
    | none => (0, s)
  else (0, s)

/-! ### Effects -/

/-- START (R432, R433): ARMED, and on the time master the announcement, unless one of its own is still ahead. -/
def State.startCommand (s : State) : State :=
  let s := if s.flag MGT_MODE_ARMED then s else (s.raise MGT_MODE_ARMED).sendPstat
  if s.isMaster && !(s.stroke.entryDone && decide (s.tb < s.get CLK_TSTART_TSTART)) then
    let v := s.tb + s.get MGT_MODE_LEAD
    (s.announce 0 v).takeStart v
  else s

/-- STOP: the emulation is left, design state stays. -/
def State.stopCommand (s : State) : State :=
  let s := s.setStroke { s.stroke with nextAt := none, started := false, entryDone := false }
  (s.setCkp { s.ckp with restoreTo := none, restoring := false, reports := [] }).enter .ready

/-- SERVICE (R435). -/
def State.serviceCommand (s : State) : State :=
  let s := (s.set MGT_MODE_PREV 0 s.modeCode)
  (if s.mode = .hold then s.raise CKP_CTL_HOLDOFF else s).enter .service

/-- ENDSERVICE: back to the mode of PREV. HOLD is entered with no scheduled traffic (06 R184, 07 R201) and is a trace event (18 R481); a RESTORE
that came in SERVICE is acted on, and the writes that waited for it follow (13 R364). -/
def State.endService (s : State) : State :=
  let s := if s.get MGT_MODE_PREV = 4 then (s.dropScheduled.enter .hold).traceEvent TRC_FRZ_ONHOLD 4 else s.enter .ready
  match s.ckp.pendRestore with
  | some r => ((s.setCkp { s.ckp with pendRestore := none }).takeRestore r).freeIdle
  | none => s

/-- The slots of the Soundpost whose GEC input is active. -/
def State.slotsActive (s : State) : Nat := maskOf 32 (fun j => s.flag SPT_SEL_EN j && s.gecLine (s.get SPT_SEL_INPUT j))

/-- SLEEP with a wake profile (R438). The Soundpost watches from the start of the power-down: a slot that is active there wakes the module as soon
as the power-down ends. -/
def State.sleepCommand (s : State) (p : Nat) : State :=
  let m := s.slotsActive
  let t := (s.set SPT_WAKEPRF_PRF 0 p).dormantState
  if m = 0 then t else (t.setBits SPT_CAUSE_SLOT 0 m).startBoot 2 p

/-- SELECT (R452): bring-up runs from step 6 with the named profile; the history is read again. -/
def State.selectCommand (s : State) (p : Nat) : State :=
  let h := if s.flag BJ_STAT_NOJRNL then s.get BJ_HIST_STEPS else bjHistory (bjSorted s.bjRecords) 0 []
  let s := ((s.set BJ_HIST_STEPS 0 h).lower BJ_STAT_DONE).set BJ_STAT_CAUSE 0 4
  let s := ((s.set BJ_RUNALT_STEPS 0 0).set BJ_RUNSKIP_STEPS 0 0).set BJ_RUNFAIL_STEPS 0 0
  let s : State := { s with boot := { s.boot with step := 6, ms := 0, profile := p, previous := s.boot.current, current := [] } }
  (s.enter .bringUp).bjStart 0 4 p

/-- The effect of an accepted command. Any but START disarms the module (R434). -/
def State.modeDo (s : State) (c : Nat) : State :=
  if c = 1 then s.startCommand
  else
    let s := s.disarm
    if c = 3 then s.goCommand
    else if c = 4 then s.stopCommand
    else if c = 5 then s.serviceCommand
    else if c = 6 then s.endService
    else if c = 7 then s.sleepCommand (s.get PRF_ACTIVE_ACTIVE)
    else if c = 8 then s.warmStart 3
    else if 0x18 ≤ c then s.sleepCommand (c - 0x18)
    else if 0x10 ≤ c then s.selectCommand (c - 0x10)
    else s

/-! ### Who is served (R429, 15 R416) -/

/-- A step of this start has passed. -/
def State.stepPassed (s : State) (st : Nat) : Bool :=
  decide (st < s.boot.step) && !bit (s.get BJ_RUNFAIL_STEPS) st && !bit (s.get BJ_RUNSKIP_STEPS) st

/-- The dictionary is served for an agent. The test access port is no transport. -/
def State.dictServed (s : State) (a : Agent) : Bool :=
  let part := match a with
    | .host => s.domOn 762
    | .core n => s.domOn (720 + n.val)
    | .can p => s.canLive p.val
    | .lane n => s.laneUp n.val
    | .jtag => false
  let local_ := match a with
    | .core _ => true
    | _ => false
  part && s.domOn 763 && s.persist.isNone &&
    (match s.mode with
     | .dormant => false
     | .bringUp => s.stepPassed 8 || s.stepPassed 9 || (local_ && s.stepPassed 5)
     | _ => true)

end Sys2Proof.Machine
end

