-- ==== Sys2Proof/Machine/Dict.lean ====
section
/-! DEFINITION. The object dictionary as it serves requests (15 R399-R416, R425-R427): frames, the five commands, segmented
transfers, serving order, persistence of RWP writes, and DICT messages of the lanes. -/

namespace Sys2Proof.Machine

/-! ### Transports -/

/-- The number of an agent's transport. -/
def transport : Agent → Nat
  | .host => 0
  | .core n => 1 + n.val
  | .can p => 32 + p.val
  | .lane n => 64 + n.val
  | .jtag => 31

/-- The agent of a transport. -/
def agentOf (k : Nat) : Agent :=
  if k = 0 then .host else if k ≤ 20 then .core (Fin.ofNat 20 (k - 1)) else if k = 32 then .can 0 else if k = 33 then .can 1
  else if 64 ≤ k then .lane (Fin.ofNat 512 (k - 64)) else .jtag

/-- The data limit of a transport (R410). -/
def dataLimit (k : Nat) : Nat := if k ≤ 20 then 240 else 48

/-! ### Frames -/

/-- A request frame (15, frame header). -/
structure Req where
  cmd : Nat
  seq : Nat
  x : Nat
  y : Nat
  zero : Nat
  len : Nat
  off : Nat
  total : Nat
  data : List Nat
  size : Nat
  deriving DecidableEq, Repr

/-- The request that bytes spell; bytes that are missing read as 0. -/
def reqOf (l : List Nat) : Req :=
  let h := l ++ List.replicate 16 0
  ⟨h.getD 0 0, h.getD 1 0, numAt h 2 2, h.getD 4 0, h.getD 5 0, numAt h 6 2, numAt h 8 4, numAt h 0xC 4, (l.drop 16).take (numAt h 6 2), l.length⟩

/-- The length of an entry's value. -/
def State.entryTotal (s : State) (x y : Nat) : Nat :=
  match entryAt x y with
  | none => 0
  | some e => if typeSize e.typ = 0 then (s.entryBytes x y).length else typeSize e.typ

/-- A response that names an entry. -/
def State.responseAt (s : State) (q : Req) (x y abort : Nat) (data : List Nat) : List Nat :=
  [q.cmd % 128 + 128, q.seq] ++ leBytes 2 x ++ [y % 256, ((entryAt x y).map (·.typ)).getD 0] ++ leBytes 2 data.length ++
    leBytes 4 (s.entryTotal x y) ++ leBytes 4 abort ++ data

/-- A response to a request on its own entry. -/
def State.response (s : State) (q : Req) (abort : Nat) (data : List Nat) : List Nat := s.responseAt q q.x q.y abort data

/-- R410: a byte that must be 0, a LEN above the data limit, or too few bytes. -/
def Req.malformed (q : Req) (k : Nat) : Bool :=
  q.zero != 0 || (q.cmd != 2 && q.total != 0) || decide (dataLimit k < q.len) || decide (q.size < 16 + q.len)

/-! ### Responses on their transports (R398, R425, R426) -/

/-- The mailbox: `PCI_MBXRSP`, RSPLEN, DONE. -/
def State.answerHost (s : State) (l : List Nat) : State :=
  if !s.flag PCI_MBX_BUSY then s
  else
    let s := (List.range 32).foldl (fun s r => s.set PCI_MBXRSP_BYTES r (numAt l (8 * r) 8)) s
    let s := (((s.set PCI_MBX_RSPLEN 0 l.length).lower PCI_MBX_BUSY).raise PCI_MBX_DONE).mbxLevel
    if s.flag PCI_MBX_IEN then s.msix (s.get PCI_MBX_VEC) else s

/-- The local port of core n. -/
def State.answerCore (s : State) (n : Nat) (l : List Nat) : State :=
  if !s.flag MGT_LMBX_BUSY n then s
  else
    let s := s.portWrite false (lsramBase n + 512 * (s.xport (1 + n)).buf + 256) (l.map (BitVec.ofNat 8 ·))
    ((s.set MGT_LMBX_RSPLEN n l.length).lower MGT_LMBX_BUSY n).raise MGT_LMBX_DONE n

/-- A response leaves, and its transport holds no request. -/
def State.reply (s : State) (k : Nat) (l : List Nat) : State :=
  let s := s.setXport k { s.xport k with waiting := none }
  match agentOf k with
  | .host => s.answerHost l
  | .core n => s.answerCore n.val l
  | .can p => s.canSend p.val 6 (s.get MGT_STAT_NODE) l
  | .lane n => if s.laneUp n.val then s.pushCtl n.val ⟨9, dictBeats 8 l⟩ else s
  | .jtag => s

/-! ### Transfers (R411-R413) -/

/-- Replace the open transfer of a transport. -/
def State.setOpen (s : State) (k : Nat) (t : Option Transfer) : State := s.setXport k { s.xport k with opened := t }

/-- Another transport holds an open write transfer on the entry. -/
def State.writtenElsewhere (s : State) (k x y : Nat) : Bool :=
  s.xports.any (fun p => p.1 != k && (match p.2.opened with
    | some t => t.write && t.index == x && t.sub == y
    | none => false))

/-- The open transfer that a request continues: one on its entry, unless the request closes it. -/
def State.continued (s : State) (k : Nat) (q : Req) : Option Transfer :=
  (s.xport k).opened.filter (fun t => t.index == q.x && t.sub == q.y && q.cmd != 3 && !(q.cmd == 2 && q.off == 0))

/-- READ (R411). -/
def State.serveRead (s : State) (k : Nat) (q : Req) (e : Entry) : State :=
  let fail := fun c : Nat => s.reply k (s.response q c [])
  if e.acc = 2 then fail 3
  else if typeSize e.typ ≠ 0 ∧ q.off ≠ 0 then fail 8
  else
    let snap := (((s.continued k q).filter (fun t => !t.write && q.off != 0)).map (·.data)).getD []
    let v := if snap.isEmpty then s.entryBytes q.x q.y else snap
    if v.length < q.off then fail 8
    else
      let d := (v.drop q.off).take (dataLimit k)
      let r := [0x81, q.seq] ++ leBytes 2 q.x ++ [q.y % 256, e.typ] ++ leBytes 2 d.length ++ leBytes 4 v.length ++ leBytes 4 0 ++ d
      let keep := if q.off = 0 ∧ v.length ≤ 8192 then v else snap
      let t := if q.off + d.length < v.length then some ⟨q.x, q.y, false, v.length, q.off + d.length, keep⟩ else (s.continued k q).filter (·.write)
      (s.setOpen k t).reply k r

/-- A response that waits for flash: the profile area of the active profile with the new value (R403), or a whole profile. -/
def State.persistIn (s : State) (k : Nat) (r : List Nat) (area : Nat) (b : List Nat) : State := { s with persist := some ⟨k, r, area, b⟩ }

/-- A write of an entry of fixed size. -/
def State.writeFixed (s : State) (k : Nat) (q : Req) (e : Entry) : State :=
  let fail := fun c : Nat => s.reply k (s.response q c [])
  let v := ofLe q.data
  let a := agentOf k
  if q.off ≠ 0 ∨ q.total ≠ typeSize e.typ ∨ q.len ≠ q.total then fail 4
  else if q.x = 0x1200 ∧ q.y = 2 then
    let (c, t) := s.modeJudge v
    let t := t.reply k (t.response q c [])
    if c = 0 then t.modeDo v else t
  else if e.acc = 4 then
    if rwpError q.x q.y v ≠ 0 then fail (rwpError q.x q.y v)
    else
      let t := s.rwpPut q.x q.y v
      t.persistIn k (t.response q 0 []) (t.get PRF_ACTIVE_ACTIVE) (t.profWith q.x q.y q.data)
  else
    let (c, t) := s.entryPut a q.x q.y v
    t.reply k (t.response q c [])

/-- A segment reached its owner: the registers of an event mirror, or the check of a whole profile. -/
def State.segment (s : State) (k : Nat) (q : Req) (data : List Nat) (o : Nat) (total : Nat) : State :=
  let e := data.length
  let last := e == total
  let s := s.setOpen k (if last then none else some ⟨q.x, q.y, true, total, e, data⟩)
  if q.x = 0x7000 then
    let t := s.eventPut (agentOf k) q.y data o e
    t.reply k (t.response q 0 [])
  else if !last then s.reply k (s.response q 0 [])
  else if profileOk (q.x - 0x2001) data then s.persistIn k (s.response q 0 []) (q.x - 0x2001) data
  else s.reply k (s.response q 5 [])

/-- A write of a DOMAIN entry (R412, R413). -/
def State.writeDomain (s : State) (k : Nat) (q : Req) (e : Entry) : State :=
  let cur := (s.continued k q).filter (·.write)
  let stop := fun c : Nat =>
    let t := s.setOpen k none
    t.reply k (t.response q c [])
  if q.off = 0 then
    if e.len < q.total ∨ q.total < q.len then stop 4 else s.segment k q q.data 0 q.total
  else match cur with
    | none => stop 8
    | some t =>
      if q.off ≠ t.next then stop 8
      else if t.total < q.off + q.len then stop 4
      else s.segment k q (t.data ++ q.data) q.off t.total

/-- WRITE (R412). -/
def State.serveWrite (s : State) (k : Nat) (q : Req) (e : Entry) : State :=
  let fail := fun c : Nat => s.reply k (s.response q c [])
  if e.acc = 0 ∨ e.acc = 3 then fail 3
  else if s.writtenElsewhere k q.x q.y then fail 7
  else if typeSize e.typ = 0 then s.writeDomain k q e
  else s.writeFixed k q e

/-- DESCRIBE (R400). -/
def describeData (e : Entry) : List Nat := [e.typ, e.acc, 0, 0] ++ leBytes 4 e.len ++ leBytes 8 e.dflt

/-- A request on an existing or missing entry, its transport's transfers settled. -/
def State.serveEntry (s : State) (k : Nat) (q : Req) : State :=
  if q.cmd = 3 then s.reply k (s.response q 0 [])
  else if q.cmd = 5 then
    let n := nextEntry q.x q.y
    s.reply k (s.responseAt q n.1 n.2 0 [])
  else match entryAt q.x q.y with
    | none => s.reply k (s.response q (if (indexTop q.x).isNone then 1 else 2) [])
    | some e =>
      if q.cmd = 4 then s.reply k (s.response q 0 (describeData e))
      else if q.cmd = 1 then s.serveRead k q e
      else s.serveWrite k q e

/-- A frame of a transport that its timeout has closed goes on with an OFFSET (R413). -/
def State.lapsedFrame (s : State) (k : Nat) (q : Req) : Bool :=
  (s.xport k).lapsed == some (q.x, q.y) && (q.cmd == 1 || q.cmd == 2) && q.off != 0

/-- A malformed frame from the mailbox sets `PCI_MBX.ERR` (14, `PCI_MBX`). -/
def State.malformedFrom (s : State) (k : Nat) : State := if k = 0 then s.raise PCI_MBX_ERR else s

/-- Serve one request whole (R410-R414): a request on another entry, or a WRITE at OFFSET 0, closes the transport's open transfer, whatever its
answer. -/
def State.serve (s : State) (k : Nat) (l : List Nat) : State :=
  let q := reqOf l
  let late := s.lapsedFrame k q
  let s := s.setXport k { s.xport k with lapsed := none, opened := if (s.continued k q).isSome then (s.xport k).opened else none }
  if q.cmd = 0 ∨ 5 < q.cmd then s.reply k (s.response q 9 [])
  else if q.malformed k then (s.malformedFrom k).reply k (s.response q 0xA [])
  else if late then s.reply k (s.response q 0xD []) else s.serveEntry k q

/-! ### Serving order (R414, R415) -/

/-- A transport whose request can be served now: its key and the MCLK cycle in which the request was complete. -/
def State.servedAt (s : State) (p : Nat × XportSt) : Option (Nat × Nat) :=
  match p.2.waiting with
  | some w => if s.dictServed (agentOf p.1) then some (w.1 / 16, p.1) else none
  | none => none

/-- The transport that is served next; none while the request in service waits for its value to be persistent (R403, R414). -/
def State.nextServed (s : State) : Option Nat :=
  (((s.xports.filterMap s.servedAt).foldl (fun (a : Option (Nat × Nat)) x => match a with
    | none => some x
    | some y => if x.1 < y.1 ∨ (x.1 = y.1 ∧ x.2 < y.2) then some x else some y) none)).map (·.2)

/-- A CAN REQUEST addressed to the module arrives on port p: it waits, or is discarded and counted while one waits or is in service. -/
def State.canRequest (s : State) (p : Nat) (l : List Nat) : State :=
  if !s.canLive p || s.get MGT_STAT_NODE == 0 then s
  else
    let s := s.canGot p
    if (s.xport (32 + p)).waiting.isSome then ((s.countEnt (0x1101 + p) 8).raise MGT_CAN_REQDROP p).canLevel p else s.submit (32 + p) l

/-- A DICT frame is discarded. -/
def State.dictDrop (s : State) : State := s.raise MGT_STAT_DICTDROP

/-- A DICT request arrives on a lane: it waits there, or is discarded and counted (R426). -/
def State.dictRequest (s : State) (n : Nat) (l : List Nat) : State :=
  if !s.laneUp n || !bit (s.ent 0x1110 1) (s.get LNK_PINFO_KIND n) || (s.xport (64 + n)).waiting.isSome then s.dictDrop.countEnt 0x1110 2
  else s.submit (64 + n) l

/-- The host writes a request into `PCI_MBXREQ`, and its length with GO (14 R398). -/
def State.hostRequest (s : State) (l : List Nat) : State :=
  if s.flag PCI_MBX_BUSY then s.raise PCI_MBX_ERR
  else
    let s := (List.range ((l.length + 7) / 8)).foldl (fun s r => s.set PCI_MBXREQ_BYTES r (numAt l (8 * r) 8)) s
    (s.set PCI_MBX_REQLEN 0 l.length).mailboxGo

/-- Core n writes a request into its buffer, and its length with GO (R425). -/
def State.coreRequest (s : State) (n : Nat) (l : List Nat) : State :=
  if s.flag MGT_LMBX_BUSY n then s.raise MGT_LMBX_ERR n
  else ((s.portWrite true (lsramBase n + 512 * s.get MGT_LMBX_BUF n) (l.map (BitVec.ofNat 8 ·))).set MGT_LMBX_REQLEN n l.length).localGo n

/-- A request of an agent arrives on its transport. The test access port is no transport. -/
def State.arrive (s : State) (a : Agent) (l : List Nat) : State :=
  if !s.domOn 763 || s.mode == .dormant then s
  else match a with
    | .host => if s.domOn 762 then s.hostRequest l else s
    | .core n => if s.coreOn n.val then s.coreRequest n.val l else s
    | .can p => s.canRequest p.val l
    | .lane n => (s.beatIn n.val).dictRequest n.val l
    | .jtag => s

/-- A request reads or programs a flash device, and one is busy with a command (13 R375): it names a stored profile, whose length every response
gives, persists a value, or selects a profile. DESIGN CHOICE (log 194): it waits for either device. -/
def State.flashNeeded (s : State) (q : Req) : Bool :=
  let x := if q.cmd = 5 then (nextEntry q.x q.y).1 else q.x
  let rwp := (entryAt q.x q.y).any (fun e => e.acc == 4)
  let select := q.x == 0x1200 && q.y == 2 && decide (0x10 ≤ ofLe q.data) && decide (ofLe q.data ≤ 0x13)
  s.flag MGT_FLCTL_BUSY && (decide (0x2001 ≤ x ∧ x ≤ 0x2004) || (q.cmd == 2 && (rwp || select)))

/-- The request of an agent is served if it is the one that waits on its transport and it is next (R414). -/
def State.dictServe (s : State) (a : Agent) (l : List Nat) (fits : Nat → Bool) : State :=
  match (s.xport (transport a)).waiting with
  | some w => if w.2 = l ∧ s.nextServed = some (transport a) ∧ fits ((reqOf l).cmd) = true ∧ s.flashNeeded (reqOf l) = false then s.serve (transport a) l else s
  | none => s

/-- A request row: a CAN frame arrives first, unless it is the request that waits already; `second` says that it is not, but a frame like
it. -/
def State.dictCommand (s : State) (a : Agent) (frame : List Byte) (second : Bool) (fits : Nat → Bool) : State :=
  let l := frame.map (·.toNat)
  match a with
  | .can p =>
    (match (s.xport (32 + p.val)).waiting with
     | some w => if w.2 = l ∧ !second then s.dictServe a l fits else s.canRequest p.val l
     | none => (s.canRequest p.val l).dictServe a l fits)
  | _ => s.dictServe a l fits

/-- READ. -/
def execDictRead (a : Agent) (frame : List Byte) (s : State) (second : Bool := false) : Host.Outcome State Fault Refusal :=
  .next (s.dictCommand a frame second (· == 1))
/-- WRITE. -/
def execDictWrite (a : Agent) (frame : List Byte) (s : State) (second : Bool := false) : Host.Outcome State Fault Refusal :=
  .next (s.dictCommand a frame second (· == 2))
/-- ABORT. -/
def execDictAbort (a : Agent) (frame : List Byte) (s : State) (second : Bool := false) : Host.Outcome State Fault Refusal :=
  .next (s.dictCommand a frame second (· == 3))
/-- DESCRIBE. -/
def execDictDescribe (a : Agent) (frame : List Byte) (s : State) (second : Bool := false) : Host.Outcome State Fault Refusal :=
  .next (s.dictCommand a frame second (· == 4))
/-- NEXT. -/
def execDictNext (a : Agent) (frame : List Byte) (s : State) (second : Bool := false) : Host.Outcome State Fault Refusal :=
  .next (s.dictCommand a frame second (· == 5))
/-- RESERVED_CMD. -/
def execReservedCmd (a : Agent) (frame : List Byte) (s : State) (second : Bool := false) : Host.Outcome State Fault Refusal :=
  .next (s.dictCommand a frame second (fun c => c == 0 || decide (5 < c)))

/-! ### Writes of 0x1200 (R407, R408, R415, R416) -/

/-- The request that writes a byte v to 0x1200:y. -/
def modeWrite (seq y v : Nat) : List Nat := [2, seq, 0, 0x12, y, 0, 1, 0] ++ leBytes 4 0 ++ leBytes 4 1 ++ [v]

/-- The request that writes a code to 0x1200:02. -/
def modeRequest (seq c : Nat) : List Nat := modeWrite seq 2 c

/-- The response to a write of 0x1200:y: type U8, TOTAL 1, ABORT. -/
def modeResponse (seq y abort : Nat) : List Nat := [0x82, seq, 0, 0x12, y, 2, 0, 0] ++ leBytes 4 1 ++ leBytes 4 abort

/-- A command that is a dictionary write: where the agent's transport holds this request, it is that request's service; else the request
arrives, where a transport that holds another refuses it. A request is served when it is next (R414), and waits until then. -/
def State.writeCommand (s : State) (a : Agent) (l : List Nat) : State :=
  let s := match (s.xport (transport a)).waiting with
    | some w => if w.2.take l.length = l then s else s.arrive a l
    | none => s.arrive a l
  match (s.xport (transport a)).waiting with
  | some w =>
    if w.2.take l.length = l ∧ s.nextServed = some (transport a) ∧ s.flashNeeded (reqOf w.2) = false then s.serve (transport a) w.2 else s
  | none => s

/-- A mode command of an agent. -/
def State.modeCommand (s : State) (a : Agent) (seq c : Nat) : State := s.writeCommand a (modeRequest seq c)

/-- LOADER_CLAIM: a write of 0x1200:05. -/
def execLoaderClaim (a : Agent) (v : Byte) (s : State) (seq : Byte := 0) : Host.Outcome State Fault Refusal :=
  .next (s.writeCommand a (modeWrite seq.toNat 5 v.toNat))

/-- START_COMMAND. -/
def execStartCommand (a : Agent) (seq : Byte) (s : State) : Host.Outcome State Fault Refusal := .next (s.modeCommand a seq.toNat 1)
/-- DISARM. -/
def execDisarmCommand (a : Agent) (seq : Byte) (s : State) : Host.Outcome State Fault Refusal := .next (s.modeCommand a seq.toNat 2)
/-- RESUME_COMMAND. -/
def execResumeCommand (a : Agent) (seq : Byte) (s : State) : Host.Outcome State Fault Refusal := .next (s.modeCommand a seq.toNat 3)
/-- STOP. -/
def execStopCommand (a : Agent) (seq : Byte) (s : State) : Host.Outcome State Fault Refusal := .next (s.modeCommand a seq.toNat 4)
/-- SERVICE. -/
def execServiceCommand (a : Agent) (seq : Byte) (s : State) : Host.Outcome State Fault Refusal := .next (s.modeCommand a seq.toNat 5)
/-- ENDSERVICE. -/
def execEndserviceCommand (a : Agent) (seq : Byte) (s : State) : Host.Outcome State Fault Refusal := .next (s.modeCommand a seq.toNat 6)
/-- SLEEP. -/
def execSleepCommand (a : Agent) (seq : Byte) (s : State) : Host.Outcome State Fault Refusal := .next (s.modeCommand a seq.toNat 7)
/-- REBOOT. -/
def execRebootCommand (a : Agent) (seq : Byte) (s : State) : Host.Outcome State Fault Refusal := .next (s.modeCommand a seq.toNat 8)
/-- SELECT P0–P3. -/
def execSelectCommand (a : Agent) (seq : Byte) (p : Fin 4) (s : State) : Host.Outcome State Fault Refusal :=
  .next (s.modeCommand a seq.toNat (0x10 + p.val))
/-- SLEEP P0–P3. -/
def execSleepProfile (a : Agent) (seq : Byte) (p : Fin 4) (s : State) : Host.Outcome State Fault Refusal :=
  .next (s.modeCommand a seq.toNat (0x18 + p.val))

/-! ### Timeouts and persistence (R403, R413, R456) -/

/-- TRANSFER_TIMEOUT: the open transfer of an agent's transport closes. -/
def execTransferTimeout (a : Agent) (s : State) : Host.Outcome State Fault Refusal :=
  let k := transport a
  match (s.xport k).opened with
  | some t => .next (s.setXport k { s.xport k with opened := none, lapsed := some (t.index, t.sub) })
  | none => .next s

/-- A response with another abort code. -/
def withAbort (l : List Nat) (c : Nat) : List Nat := l.take 12 ++ leBytes 4 c ++ l.drop 16

/-- The programming in both copies ends, or fails: the response leaves. -/
def State.persisted (s : State) (p : Persist) (ok : Bool) : State :=
  let s := { s with persist := none }
  if ok && s.domOn 761 && decide (p.bytes.length ≤ 65536) then (s.profProgram p.area p.bytes).reply p.xport p.response
  else (s.raise MGT_STAT_PERSISTERR).reply p.xport (withAbort p.response 0xB)

/-- RWP_PERSIST: it waits for a flash device that is busy with a command of `MGT_FLCMD`. -/
def execRwpPersist (ok : Bool) (s : State) : Host.Outcome State Fault Refusal :=
  match s.persist with
  | some p => .next (if s.flag MGT_FLCTL_BUSY then s else s.persisted p ok)
  | none => .next s

/-! ### DICT messages (R426, R427) -/

/-- The core whose request on lane n a response with a SEQ answers. -/
def State.ldictOwner (s : State) (n seq : Nat) : Option Nat :=
  (List.range 20).find? (fun i => s.flag MGT_LDICT_BUSY i && (s.ldict i).lane == n && (s.ldict i).seq == seq)

/-- A DICT response: it reaches the core whose request it answers. -/
def State.dictAnswer (s : State) (n : Nat) (l : List Nat) : State :=
  match s.ldictOwner n (l.getD 1 0) with
  | some i =>
    let r := l.take (min 64 (16 + numAt l 6 2))
    let s := s.portWrite false (lsramBase i + 512 * (s.ldict i).buf + 256) (r.map (BitVec.ofNat 8 ·))
    ((s.set MGT_LDICT_RSPLEN i r.length).lower MGT_LDICT_BUSY i).raise MGT_LDICT_DONE i
  | none => if s.ldictBusy n then s else s.dictDrop

/-- DICT: a message of one frame arrives on a lane. -/
def execDictMsg (n : Lane) (frame : List Byte) (s : State) : Host.Outcome State Fault Refusal :=
  let l := (frame.map (·.toNat)).take 64
  let s := s.beatIn n.val
  if s.domOn 763 then .next (if 128 ≤ l.getD 0 0 then s.dictAnswer n.val l else s.dictRequest n.val l) else .next s

end Sys2Proof.Machine
end

