-- ==== Sys2Proof/Machine/Tick.lean ====
section
/-! DEFINITION. One FCLK cycle in which no command acts: what the fabric, the lanes' pads and ports, the TMEs, the GEC and the EMCY
queue do by themselves, and the advance of the time base (02 R38). -/

namespace Sys2Proof.Machine

/-- The time base counts: derived clocks run and the mode is not DORMANT. -/
def State.clocked (s : State) : Bool := s.mode != .dormant && !s.clockStopped

/-- GEC inputs whose core is unavailable are assigned again (12 R340). -/
def State.reassignAll (s : State) : State :=
  if s.domOn 764 then (s.listed GEC_IN_LEVEL).foldl (fun s i => s.reassign i) s else s

/-- A CCLK cycle begins where the time base is even: the event path moves on (12 R332, R341). -/
def State.eventEdge (s : State) : State :=
  if s.tb % 2 = 0 then (s.offerEdge.wireEdge).pulseEdge else s

/-- Results of cell operations that take effect in the cycle that begins do so now (03 R62, 04 R100). -/
def State.settleAll (s : State) : State :=
  (s.cells.filter (fun p => p.2.pend.any (fun q => decide (q.due ≤ s.tb)))).foldl (fun s p => s.settleCell p.1) s

/-- Lookups of the next cycle see the path table as written in this one (06 R172). -/
def State.forgetOld (s : State) : State :=
  (s.tiles.filter (fun p => !p.2.ptOld.isEmpty)).foldl (fun s p => s.setTile p.1 { p.2 with ptOld := [] }) s

/-- One FCLK cycle: the LECs sample every source that is not sampled where it changes (12 R332), and what the cells issued departs with the
next one; lines move on towards the GEC and the cores; the sets and increments of the registers whose clock has an edge are over (00 R13, R14). A clock of d FCLK cycles has its edges
where d divides the time base. -/
def State.tick (s : State) : State :=
  if s.clocked then
    let s := (((s.padTick).fabricCycle).portTick).memTick.trcEdge
    let s := ({ s with uUsed := [] }.sampleFresh.reassignAll).hubLevels.emcySend
    { s with tb := (s.tb + 1) % 2 ^ 64, cycle := s.cycle.next ((s.tb + 1) % 2 ^ 64) }.eventEdge.forgetOld.departAll.settleAll.pollEdge
  else { s with cycle := CycleSt.zero }.pollEdge

end Sys2Proof.Machine
end

