-- ==== Sys2Proof/Machine/Dispatch.lean ====
section
/-! DEFINITION. The meaning of each command: one arm per row of spec/opcode_table.json. -/

namespace Sys2Proof.Machine

/-- The effect of a command on everything but the queue. -/
def exec (i : Instr) (s : State) : Host.Outcome State Fault Refusal :=
  match i with
  | .bundleIssue c hit => Sys2Proof.Machine.execBundleIssue c s hit
  | .flitLanding c slot => Sys2Proof.Machine.execFlitLanding c slot s
  | .responseLanding c tag => Sys2Proof.Machine.execResponseLanding c tag s
  | .answerLanding c aslot err => Sys2Proof.Machine.execAnswerLanding c aslot s err
  | .stagedValueWrite c slot err => Sys2Proof.Machine.execStagedValueWrite c slot s err
  | .strokeStart => Sys2Proof.Machine.execStrokeStart s
  | .boundaryWindowOpen => Sys2Proof.Machine.execBoundaryWindowOpen s
  | .stateBankFlip => Sys2Proof.Machine.execStateBankFlip s
  | .strokeNoAdvance => Sys2Proof.Machine.execStrokeNoAdvance s
  | .swapCheck => Sys2Proof.Machine.execSwapCheck s
  | .pagedSwap => Sys2Proof.Machine.execPagedSwap s
  | .runEntry => Sys2Proof.Machine.execRunEntry s
  | .beaconSend => Sys2Proof.Machine.execBeaconSend s
  | .beacon n tbval sub master epoch hops => Sys2Proof.Machine.execBeacon n tbval sub master epoch hops s
  | .bcnLost => Sys2Proof.Machine.execBcnLost s
  | .handover => Sys2Proof.Machine.execHandover s
  | .periodWrite p => Sys2Proof.Machine.execPeriodWrite p s
  | .admission value tag rsv => Sys2Proof.Machine.execAdmission value tag rsv s
  | .windowRead c off => Sys2Proof.Machine.execWindowRead c off s
  | .windowWrite c off v => Sys2Proof.Machine.execWindowWrite c off v s
  | .pinj c => Sys2Proof.Machine.execPinj c s
  | .remapCommit g => Sys2Proof.Machine.execRemapCommit g s
  | .remapRevert g => Sys2Proof.Machine.execRemapRevert g s
  | .commitComplete u => Sys2Proof.Machine.execCommitComplete u s
  | .sparePowerRequest g pon => Sys2Proof.Machine.execSparePowerRequest g pon s
  | .sparePgood g j => Sys2Proof.Machine.execSparePgood g j s
  | .swapArm g arm => Sys2Proof.Machine.execSwapArm g arm s
  | .setpage g => Sys2Proof.Machine.execSetpage g s
  | .loaderClaim a v seq => Sys2Proof.Machine.execLoaderClaim a v s seq
  | .imgAddrWrite a v => Sys2Proof.Machine.execImgAddrWrite a v s
  | .apply a err more => Sys2Proof.Machine.execApply a s err more
  | .applyComplete => Sys2Proof.Machine.execApplyComplete s
  | .pathTableWrite t p w => Sys2Proof.Machine.execPathTableWrite t p w s
  | .unscheduledFlitForward u hit => Sys2Proof.Machine.execUnscheduledFlitForward u s hit
  | .drainWrite die mask => Sys2Proof.Machine.execDrainWrite die mask s
  | .channelSpareCommit t => Sys2Proof.Machine.execChannelSpareCommit t s
  | .laneEnable n en => Sys2Proof.Machine.execLaneEnable n en s
  | .retrain n => Sys2Proof.Machine.execRetrain n s
  | .signalPresent n => Sys2Proof.Machine.execSignalPresent n s
  | .trainingAdapted n => Sys2Proof.Machine.execTrainingAdapted n s
  | .trainTimeout n => Sys2Proof.Machine.execTrainTimeout n s
  | .syncReceived n sf calid => Sys2Proof.Machine.execSyncReceived n sf calid s
  | .lockTimeout n => Sys2Proof.Machine.execLockTimeout n s
  | .measureDone n => Sys2Proof.Machine.execMeasureDone n s
  | .measureTimeout n => Sys2Proof.Machine.execMeasureTimeout n s
  | .identMsg n serial info placement => Sys2Proof.Machine.execIdentMsg n serial info placement s
  | .identTimeout n => Sys2Proof.Machine.execIdentTimeout n s
  | .lossOfSignal n => Sys2Proof.Machine.execLossOfSignal n s
  | .syncMissing n => Sys2Proof.Machine.execSyncMissing n s
  | .uncorrectableCodeword n wrong => Sys2Proof.Machine.execUncorrectableCodeword n s wrong
  | .scheduledFlitTransmit n => Sys2Proof.Machine.execScheduledFlitTransmit n s
  | .scheduledBeat n data par epoch ts hit => Sys2Proof.Machine.execScheduledBeat n data par epoch ts s hit
  | .controlMessageSend n => Sys2Proof.Machine.execControlMessageSend n s
  | .timestampPeriod n => Sys2Proof.Machine.execTimestampPeriod n s
  | .tsreq n t1 sub => Sys2Proof.Machine.execTsreq n t1 sub s
  | .tsrsp n t1 t2 t3 sub => Sys2Proof.Machine.execTsrsp n t1 t2 t3 sub s
  | .credit n c => Sys2Proof.Machine.execCredit n c s
  | .pstat n w => Sys2Proof.Machine.execPstat n w s
  | .holdreq n origin seq stroke => Sys2Proof.Machine.execHoldreq n origin seq stroke s
  | .dictMsg n frame => Sys2Proof.Machine.execDictMsg n frame s
  | .unscheduledPair n cls head data => Sys2Proof.Machine.execUnscheduledPair n cls head data s
  | .utxdWrite n v => Sys2Proof.Machine.execUtxdWrite n v s
  | .urxPop n => Sys2Proof.Machine.execUrxPop n s
  | .lnkCalWrite n v => Sys2Proof.Machine.execLnkCalWrite n v s
  | .laneRemapCommit t => Sys2Proof.Machine.execLaneRemapCommit t s
  | .laneRemapRevert t => Sys2Proof.Machine.execLaneRemapRevert t s
  | .annStart src value => Sys2Proof.Machine.execAnnStart src value s
  | .annResume src value => Sys2Proof.Machine.execAnnResume src value s
  | .ckpDone src value => Sys2Proof.Machine.execCkpDone src value s
  | .ckpSwapped src value => Sys2Proof.Machine.execCkpSwapped src value s
  | .ckpCancelled src value => Sys2Proof.Machine.execCkpCancelled src value s
  | .ckpFailed src value => Sys2Proof.Machine.execCkpFailed src value s
  | .annComplete src value => Sys2Proof.Machine.execAnnComplete src value s
  | .restored src value => Sys2Proof.Machine.execRestored src value s
  | .held src value => Sys2Proof.Machine.execHeld src value s
  | .heldFault src value => Sys2Proof.Machine.execHeldFault src value s
  | .heldStop src value => Sys2Proof.Machine.execHeldStop src value s
  | .annRestore src value bad => Sys2Proof.Machine.execAnnRestore src value s bad
  | .doneReport => Sys2Proof.Machine.execDoneReport s
  | .reportWaitTimeout => Sys2Proof.Machine.execReportWaitTimeout s
  | .slotPreparation t lcell errs => Sys2Proof.Machine.execSlotPreparation t lcell s errs
  | .holdEntry => Sys2Proof.Machine.execHoldEntry s
  | .restoreDone bad jbad fixed => Sys2Proof.Machine.execRestoreDone s bad jbad fixed
  | .reqhold => Sys2Proof.Machine.execReqhold s
  | .go => Sys2Proof.Machine.execGo s
  | .restoreCommand bad => Sys2Proof.Machine.execRestoreCommand s bad
  | .adoptWrite => Sys2Proof.Machine.execAdoptWrite s
  | .swackWrite => Sys2Proof.Machine.execSwackWrite s
  | .nop n g => Sys2Proof.Machine.execNop n g s
  | .movr n g k => Sys2Proof.Machine.execMovr n g k s
  | .exr n g k => Sys2Proof.Machine.execExr n g k s
  | .incDec n g op => Sys2Proof.Machine.execIncDec n g op s
  | .neg n g => Sys2Proof.Machine.execNeg n g s
  | .notA n g => Sys2Proof.Machine.execNotA n g s
  | .clc n g => Sys2Proof.Machine.execClc n g s
  | .sec n g => Sys2Proof.Machine.execSec n g s
  | .shliShriSraiRoli n g op k => Sys2Proof.Machine.execShliShriSraiRoli n g op k s
  | .popc n g => Sys2Proof.Machine.execPopc n g s
  | .pushaPushxPushy n g r => Sys2Proof.Machine.execPushaPushxPushy n g r s
  | .popaPopxPopy n g r => Sys2Proof.Machine.execPopaPopxPopy n g r s
  | .ret n g => Sys2Proof.Machine.execRet n g s
  | .reti n g => Sys2Proof.Machine.execReti n g s
  | .jmpx n g => Sys2Proof.Machine.execJmpx n g s
  | .callx n g dlen => Sys2Proof.Machine.execCallx n g dlen s
  | .rspush n g => Sys2Proof.Machine.execRspush n g s
  | .rspop n g => Sys2Proof.Machine.execRspop n g s
  | .rscnt n g => Sys2Proof.Machine.execRscnt n g s
  | .rsx n g => Sys2Proof.Machine.execRsx n g s
  | .syncOp n g => Sys2Proof.Machine.execSyncOp n g s
  | .synci n g => Sys2Proof.Machine.execSynci n g s
  | .waitOp n g => Sys2Proof.Machine.execWaitOp n g s
  | .syscall n g k => Sys2Proof.Machine.execSyscall n g k s
  | .brk n g k => Sys2Proof.Machine.execBrk n g k s
  | .tlbinv n g k => Sys2Proof.Machine.execTlbinv n g k s
  | .tlbsync n g => Sys2Proof.Machine.execTlbsync n g s
  | .dcinv n g => Sys2Proof.Machine.execDcinv n g s
  | .icinv n g => Sys2Proof.Machine.execIcinv n g s
  | .mfcr n g k => Sys2Proof.Machine.execMfcr n g k s
  | .mtcr n g k => Sys2Proof.Machine.execMtcr n g k s
  | .lda n g o size => Sys2Proof.Machine.execLda n g o size s
  | .ldas n g o size => Sys2Proof.Machine.execLdas n g o size s
  | .ldxLdy n g o y => Sys2Proof.Machine.execLdxLdy n g o y s
  | .sta n g o size => Sys2Proof.Machine.execSta n g o size s
  | .stxSty n g o y => Sys2Proof.Machine.execStxSty n g o y s
  | .lea n g o => Sys2Proof.Machine.execLea n g o s
  | .add n g o => Sys2Proof.Machine.execAdd n g o s
  | .adc n g o => Sys2Proof.Machine.execAdc n g o s
  | .sub n g o => Sys2Proof.Machine.execSub n g o s
  | .sbc n g o => Sys2Proof.Machine.execSbc n g o s
  | .andOrXor n g o op => Sys2Proof.Machine.execAndOrXor n g o op s
  | .cmpCmpxCmpy n g o r => Sys2Proof.Machine.execCmpCmpxCmpy n g o r s
  | .mul n g o => Sys2Proof.Machine.execMul n g o s
  | .mulhuMulhs n g o signed => Sys2Proof.Machine.execMulhuMulhs n g o signed s
  | .divuRemuDivsRems n g o op => Sys2Proof.Machine.execDivuRemuDivsRems n g o op s
  | .shlShrSraRol n g o op => Sys2Proof.Machine.execShlShrSraRol n g o op s
  | .addxAddy n g o y => Sys2Proof.Machine.execAddxAddy n g o y s
  | .lddpLdsp n g o sp => Sys2Proof.Machine.execLddpLdsp n g o sp s
  | .ldhi n g o => Sys2Proof.Machine.execLdhi n g o s
  | .jmp n g o => Sys2Proof.Machine.execJmp n g o s
  | .call n g o dlen => Sys2Proof.Machine.execCall n g o dlen s
  | .tst n g o => Sys2Proof.Machine.execTst n g o s
  | .ldst n g o => Sys2Proof.Machine.execLdst n g o s
  | .addsp n g o => Sys2Proof.Machine.execAddsp n g o s
  | .bcc n g cond annul rsv long f => Sys2Proof.Machine.execBcc n g cond annul rsv long f s
  | .vadd n g o => Sys2Proof.Machine.execVadd n g o s
  | .vsub n g o => Sys2Proof.Machine.execVsub n g o s
  | .vmul n g o => Sys2Proof.Machine.execVmul n g o s
  | .vminuVmaxuVminsVmaxs n g o op => Sys2Proof.Machine.execVminuVmaxuVminsVmaxs n g o op s
  | .vandVorVxorVandn n g o op => Sys2Proof.Machine.execVandVorVxorVandn n g o op s
  | .vshlVshrVsra n g o op => Sys2Proof.Machine.execVshlVshrVsra n g o op s
  | .vshli n g o => Sys2Proof.Machine.execVshli n g o s
  | .vceqVcltuVclts n g o op => Sys2Proof.Machine.execVceqVcltuVclts n g o op s
  | .vmsk n g o => Sys2Proof.Machine.execVmsk n g o s
  | .vsel n g o => Sys2Proof.Machine.execVsel n g o s
  | .vmov n g o => Sys2Proof.Machine.execVmov n g o s
  | .vsplat n g o => Sys2Proof.Machine.execVsplat n g o s
  | .vpopc n g o => Sys2Proof.Machine.execVpopc n g o s
  | .vins n g o => Sys2Proof.Machine.execVins n g o s
  | .vext n g o => Sys2Proof.Machine.execVext n g o s
  | .vsetvl n g o => Sys2Proof.Machine.execVsetvl n g o s
  | .vradd n g o => Sys2Proof.Machine.execVradd n g o s
  | .vrxor n g o => Sys2Proof.Machine.execVrxor n g o s
  | .vrminuVrmaxu n g o max => Sys2Proof.Machine.execVrminuVrmaxu n g o max s
  | .vrpopc n g o => Sys2Proof.Machine.execVrpopc n g o s
  | .vcompress n g o => Sys2Proof.Machine.execVcompress n g o s
  | .vexpand n g o => Sys2Proof.Machine.execVexpand n g o s
  | .vcrc n g o => Sys2Proof.Machine.execVcrc n g o s
  | .vld n g o => Sys2Proof.Machine.execVld n g o s
  | .vst n g o => Sys2Proof.Machine.execVst n g o s
  | .vgather n g o => Sys2Proof.Machine.execVgather n g o s
  | .vscatter n g o => Sys2Proof.Machine.execVscatter n g o s
  | .eventAcceptance n w stack => Sys2Proof.Machine.execEventAcceptance n w s stack
  | .bufferedStore n => Sys2Proof.Machine.execBufferedStore n s
  | .serviceRequest n => Sys2Proof.Machine.execServiceRequest n s
  | .invalidationReceived n => Sys2Proof.Machine.execInvalidationReceived n s
  | .invalidationAck src n => Sys2Proof.Machine.execInvalidationAck src n s
  | .tlbsyncTimeout n => Sys2Proof.Machine.execTlbsyncTimeout n s
  | .lkcmdWrite n j => Sys2Proof.Machine.execLkcmdWrite n j s
  | .unlock n j => Sys2Proof.Machine.execUnlock n j s
  | .lkcmdRead n j => Sys2Proof.Machine.execLkcmdRead n j s
  | .cvuRelease n => Sys2Proof.Machine.execCvuRelease n s
  | .cvuWake n => Sys2Proof.Machine.execCvuWake n s
  | .cvuWakeDone n => Sys2Proof.Machine.execCvuWakeDone n s
  | .cvuRetention n => Sys2Proof.Machine.execCvuRetention n s
  | .cvuOff n => Sys2Proof.Machine.execCvuOff n s
  | .sourceChange e src level wpn => Sys2Proof.Machine.execSourceChange e src level s wpn
  | .triggerRecord t => Sys2Proof.Machine.execTriggerRecord t s
  | .lecSwevWrite mask => Sys2Proof.Machine.execLecSwevWrite mask s
  | .lecPclrWrite e r v => Sys2Proof.Machine.execLecPclrWrite e r v s
  | .lecPendWrite e r v => Sys2Proof.Machine.execLecPendWrite e r v s
  | .lecSenseWrite e r v => Sys2Proof.Machine.execLecSenseWrite e r v s
  | .trqPop e => Sys2Proof.Machine.execTrqPop e s
  | .gecReassignment j => Sys2Proof.Machine.execGecReassignment j s
  | .soundpostWake w => Sys2Proof.Machine.execSoundpostWake w s
  | .tmeRequest t err => Sys2Proof.Machine.execTmeRequest t err s
  | .channelFailure t ch => Sys2Proof.Machine.execChannelFailure t ch s
  | .rebuildGroup t err member => Sys2Proof.Machine.execRebuildGroup t s err member
  | .zeroFillDone t => Sys2Proof.Machine.execZeroFillDone t s
  | .flashErase wpn => Sys2Proof.Machine.execFlashErase s wpn
  | .flashProgram wpn => Sys2Proof.Machine.execFlashProgram s wpn
  | .flashCommandDone ok err more => Sys2Proof.Machine.execFlashCommandDone ok s err more
  | .bar0Access off len data err cfg more ecrc => Sys2Proof.Machine.execBar0Access off len data s err cfg more ecrc
  | .bar2Access off len data err more ecrc => Sys2Proof.Machine.execBar2Access off len data s err more ecrc
  | .flr => Sys2Proof.Machine.execFlr s
  | .conventionalReset => Sys2Proof.Machine.execConventionalReset s
  | .pcieLinkChange width rate => Sys2Proof.Machine.execPcieLinkChange width rate s
  | .channelEnable n => Sys2Proof.Machine.execChannelEnable n s
  | .msixMessage n => Sys2Proof.Machine.execMsixMessage n s
  | .outputRelease n => Sys2Proof.Machine.execOutputRelease n s
  | .pendload => Sys2Proof.Machine.execPendload s
  | .mailboxRequest => Sys2Proof.Machine.execMailboxRequest s
  | .dictRead a frame second => Sys2Proof.Machine.execDictRead a frame s second
  | .dictWrite a frame second => Sys2Proof.Machine.execDictWrite a frame s second
  | .dictAbort a frame second => Sys2Proof.Machine.execDictAbort a frame s second
  | .dictDescribe a frame second => Sys2Proof.Machine.execDictDescribe a frame s second
  | .dictNext a frame second => Sys2Proof.Machine.execDictNext a frame s second
  | .rwpPersist ok => Sys2Proof.Machine.execRwpPersist ok s
  | .transferTimeout a => Sys2Proof.Machine.execTransferTimeout a s
  | .localPortRequest n len buf => Sys2Proof.Machine.execLocalPortRequest n len buf s
  | .ldictRequest n len lane buf => Sys2Proof.Machine.execLdictRequest n len lane buf s
  | .ldictTimeout n => Sys2Proof.Machine.execLdictTimeout n s
  | .heartbeat => Sys2Proof.Machine.execHeartbeat s
  | .claim p node key => Sys2Proof.Machine.execClaim p node key s
  | .nodeClaimTimeout => Sys2Proof.Machine.execNodeClaimTimeout s
  | .heartbeatReceived p node => Sys2Proof.Machine.execHeartbeatReceived p node s
  | .busOff p => Sys2Proof.Machine.execBusOff p s
  | .busOffRecovery p => Sys2Proof.Machine.execBusOffRecovery p s
  | .startCommand a seq => Sys2Proof.Machine.execStartCommand a seq s
  | .disarmCommand a seq => Sys2Proof.Machine.execDisarmCommand a seq s
  | .resumeCommand a seq => Sys2Proof.Machine.execResumeCommand a seq s
  | .stopCommand a seq => Sys2Proof.Machine.execStopCommand a seq s
  | .serviceCommand a seq => Sys2Proof.Machine.execServiceCommand a seq s
  | .endserviceCommand a seq => Sys2Proof.Machine.execEndserviceCommand a seq s
  | .sleepCommand a seq => Sys2Proof.Machine.execSleepCommand a seq s
  | .sleepProfile a seq p => Sys2Proof.Machine.execSleepProfile a seq p s
  | .rebootCommand a seq => Sys2Proof.Machine.execRebootCommand a seq s
  | .selectCommand a seq p => Sys2Proof.Machine.execSelectCommand a seq p s
  | .porRelease sel node wp => Sys2Proof.Machine.execPorRelease sel node wp s
  | .warmReset => Sys2Proof.Machine.execWarmReset s
  | .bootStep tries jfail => Sys2Proof.Machine.execBootStep tries jfail s
  | .bootStepTimeout tries last jfail => Sys2Proof.Machine.execBootStepTimeout tries last jfail s
  | .bjClear mask fail => Sys2Proof.Machine.execBjClear mask fail s
  | .refclkLoss => Sys2Proof.Machine.execRefclkLoss s
  | .lossOfLock => Sys2Proof.Machine.execLossOfLock s
  | .domainSwitch a d on => Sys2Proof.Machine.execDomainSwitch a d on s
  | .domainOn d => Sys2Proof.Machine.execDomainOn d s
  | .domainFault d under => Sys2Proof.Machine.execDomainFault d under s
  | .sensorSample temps volts power => Sys2Proof.Machine.execSensorSample temps volts power s
  | .thermalTrip die celsius => Sys2Proof.Machine.execThermalTrip die celsius s
  | .pmbusPoll status amps => Sys2Proof.Machine.execPmbusPoll status amps s
  | .pmbusCommand addr code len write => Sys2Proof.Machine.execPmbusCommand addr code len write s
  | .pmbusDone reply => Sys2Proof.Machine.execPmbusDone reply s
  | .traceMessage => Sys2Proof.Machine.execTraceMessage s
  | .probeCapture c j => Sys2Proof.Machine.execProbeCapture c j s
  | .trcSwmsg a v => Sys2Proof.Machine.execTrcSwmsg a v s
  | .frzNow => Sys2Proof.Machine.execFrzNow s
  | .frozen => Sys2Proof.Machine.execFrozen s
  | .traceEnable => Sys2Proof.Machine.execTraceEnable s
  | .debugHalt n => Sys2Proof.Machine.execDebugHalt n s
  | .debugRun n => Sys2Proof.Machine.execDebugRun n s
  | .debugStep n => Sys2Proof.Machine.execDebugStep n s
  | .breakpointHit n => Sys2Proof.Machine.execBreakpointHit n s
  | .tapReset => Sys2Proof.Machine.execTapReset s
  | .extest cap upd => Sys2Proof.Machine.execExtest cap upd s
  | .samplePreload cap upd => Sys2Proof.Machine.execSamplePreload cap upd s
  | .idcode => Sys2Proof.Machine.execIdcode s
  | .clamp => Sys2Proof.Machine.execClamp s
  | .highz => Sys2Proof.Machine.execHighz s
  | .extestPulse cap upd => Sys2Proof.Machine.execExtestPulse cap upd s
  | .extestTrain cap upd => Sys2Proof.Machine.execExtestTrain cap upd s
  | .memacc addr write go data err => Sys2Proof.Machine.execMemacc addr write go data s err
  | .tapstat => Sys2Proof.Machine.execTapstat s
  | .bypass code => Sys2Proof.Machine.execBypass s code
  | .faultAck seq => Sys2Proof.Machine.execFaultAck seq s
  | .moduleFault v => Sys2Proof.Machine.execModuleFault v s
  | .registerWrite a addr wide v => Sys2Proof.Machine.execRegisterWrite a addr wide v s
  | .domainOff d => Sys2Proof.Machine.execDomainOff d s
  | .resetLow por => Sys2Proof.Machine.execResetLow por s
  | .reservedCtype n ctype kind => Sys2Proof.Machine.execReservedCtype n ctype kind s
  | .beatKindMismatch n => Sys2Proof.Machine.execBeatKindMismatch n s
  | .fenceLead => Sys2Proof.Machine.execFenceLead s
  | .canBusError p sender kind claim => Sys2Proof.Machine.execCanBusError p sender kind claim s
  | .ignoredFrame p addressed => Sys2Proof.Machine.execIgnoredFrame p addressed s
  | .reservedCmd a frame second => Sys2Proof.Machine.execReservedCmd a frame s second

end Sys2Proof.Machine
end

