-- ==== Sys2Proof/Safety.lean ====
section
/-! DEFINITION. The terms that statements use: the banks of the register maps, what a command may write (`Writes`), that two states
agree on everything else (`Keeps`), and the canonical form of the stores (`State.Inv`). -/

namespace Sys2Proof.Machine

/-- The register groups of the address map: clock and beacon, checkpoint, management, fabric, LEC, GEC, Soundpost, power, core,
memory management unit, vector unit, PCIe, trace, boot journal, links, cluster, TME, cell. -/
inductive Bank
  | clk | ckp | mgt | fab | lec | gec | spt | pwr | cpo | mmu | cvu | pci | trc | bj | lnk | clu | tme | cell
  deriving DecidableEq, Repr

/-- The group of a field number (the numbers of `RegMap.lean`: 64 for each register). -/
def bankOf (k : Nat) : Bank :=
  let r := k / 64
  if r < 13 then .clk else if r < 23 then .ckp else if r < 40 then .mgt else if r < 49 then .fab else
  if r < 63 then .lec else if r < 68 then .gec else if r < 72 then .spt else if r < 80 then .pwr else
  if r < 96 then .cpo else if r < 109 then .mmu else if r < 113 then .cpo else if r < 119 then .cvu else
  if r < 120 then .cpo else if r < 135 then .pci else if r < 147 then .trc else if r < 158 then .bj else
  if r < 176 then .lnk else if r < 184 then .clu else if r < 192 then .tme else if r < 196 then .trc else .cell

/-- The group of a register field. -/
def Field.bank (f : Field) : Bank := bankOf (f.id % 65536)

/-- What a command may write: register groups, and one flag for each part of the state beside the registers. -/
structure Writes where
  regs : List Bank := []
  /-- The mode (16 R428). -/
  mode : Bool := false
  /-- The time base. -/
  tb : Bool := false
  /-- The stopped and lost derived clocks. -/
  clockStopped : Bool := false
  /-- Memory, flash and local SRAM bytes. -/
  mem : Bool := false
  /-- The storage of cells. -/
  cells : Bool := false
  /-- The per-tile stores. -/
  tiles : Bool := false
  /-- The per-lane state. -/
  lanes : Bool := false
  /-- Live cluster remap entries. -/
  liveRemap : Bool := false
  /-- Live lane maps. -/
  liveLanes : Bool := false
  /-- LEC inputs that changed and wait for their sample. -/
  fresh : Bool := false
  /-- The margins warned of in this interval. -/
  warned : Bool := false
  /-- Power domains. -/
  dom : Bool := false
  /-- The ready bits. -/
  rdy : Bool := false
  /-- Stroke sequencing. -/
  stroke : Bool := false
  /-- Beacon state. -/
  beacon : Bool := false
  /-- Checkpoint state. -/
  ckp : Bool := false
  /-- The image engine. -/
  img : Bool := false
  /-- SENDs of this cycle. -/
  sends : Bool := false
  /-- Scheduled flits and pads. -/
  flits : Bool := false
  /-- Unscheduled flits and the links used. -/
  uflits : Bool := false
  /-- Trigger records under way. -/
  trigs : Bool := false
  /-- Landings. -/
  landings : Bool := false
  /-- Staged host values. -/
  hostVals : Bool := false
  /-- Host channels. -/
  chans : Bool := false
  /-- The MSI-X table. -/
  msixTab : Bool := false
  /-- The MSI-X pending bits. -/
  msixPba : Bool := false
  /-- The fault log and the EMCY queue. -/
  faults : Bool := false
  /-- Dictionary entries. -/
  ents : Bool := false
  /-- The mailbox owner. -/
  owner : Bool := false
  /-- The refusal of START and its count. -/
  refusals : Bool := false
  /-- The battery-backed store. -/
  backup : Bool := false
  /-- The bring-up sequencer. -/
  boot : Bool := false
  /-- Dictionary transports. -/
  xports : Bool := false
  /-- The persist state. -/
  persist : Bool := false
  /-- The node claim. -/
  claim : Bool := false
  /-- What the module asks of partners' dictionaries. -/
  ldicts : Bool := false
  /-- The flash command and the reads that wait for it. -/
  flash : Bool := false
  /-- The PCIe link and configuration space. -/
  pci : Bool := false
  /-- The test access port. -/
  tap : Bool := false
  /-- The trace block beside its registers. -/
  trace : Bool := false
  /-- Pins. -/
  pins : Bool := false
  /-- The Capo cores beside their registers. -/
  cores : Bool := false
  /-- What the module has sent. -/
  out : Bool := false
  /-- The count of free values taken. -/
  free : Bool := false
  deriving DecidableEq, Repr

/-- `t` is `s` but for what `w` names; the queue is untouched, and the canonical forms of the register store and of memory are
kept. What the running cycle has noted about register sets, clears and counts (`State.cycle`, log 144) is not compared: it lasts until the
next tick and shows in no register. -/
structure Keeps (w : Writes) (s t : State) : Prop where
  pending : t.pending = s.pending
  regs : ∀ (f : Field) (i : Nat), f.bank ∉ w.regs → t.get f i = s.get f i
  mode : w.mode = false → t.mode = s.mode
  tb : w.tb = false → t.tb = s.tb ∧ t.tbFrac = s.tbFrac
  clockStopped : w.clockStopped = false → t.clockStopped = s.clockStopped ∧ t.clockLost = s.clockLost
  mem : w.mem = false → t.mem = s.mem
  cells : w.cells = false → t.cells = s.cells
  tiles : w.tiles = false → t.tiles = s.tiles
  lanes : w.lanes = false → t.lanes = s.lanes
  liveRemap : w.liveRemap = false → t.liveRemap = s.liveRemap
  liveLanes : w.liveLanes = false → t.liveLanes = s.liveLanes
  fresh : w.fresh = false → t.lecFresh = s.lecFresh
  events : Bank.lec ∉ w.regs → t.events = s.events
  warned : w.warned = false → t.warned = s.warned
  dom : w.dom = false → t.dom = s.dom
  rdy : w.rdy = false → t.rdy = s.rdy
  stroke : w.stroke = false → t.stroke = s.stroke
  beacon : w.beacon = false → t.beacon = s.beacon
  ckp : w.ckp = false → t.ckp = s.ckp
  img : w.img = false → t.img = s.img
  sends : w.sends = false → t.sends = s.sends
  flits : w.flits = false → t.flits = s.flits ∧ t.pads = s.pads
  uflits : w.uflits = false → t.uflits = s.uflits ∧ t.uUsed = s.uUsed
  trigs : w.trigs = false → t.trigs = s.trigs
  landings : w.landings = false → t.landings = s.landings
  hostVals : w.hostVals = false → t.hostVals = s.hostVals
  chans : w.chans = false → t.chans = s.chans ∧ t.lastCh = s.lastCh
  msixTab : w.msixTab = false → t.msixTab = s.msixTab
  msixPba : w.msixPba = false → t.msixPba = s.msixPba
  faults : w.faults = false → t.fltRecs = s.fltRecs ∧ t.fltNext = s.fltNext ∧ t.fltAny = s.fltAny ∧ t.fltHw = s.fltHw ∧ t.emcy = s.emcy
  ents : w.ents = false → t.ents = s.ents
  owner : w.owner = false → t.owner = s.owner ∧ t.claimAt = s.claimAt
  refusals : w.refusals = false → t.refReason = s.refReason ∧ t.refCount = s.refCount
  backup : w.backup = false → t.backup = s.backup
  boot : w.boot = false → t.boot = s.boot
  xports : w.xports = false → t.xports = s.xports
  persist : w.persist = false → t.persist = s.persist
  claim : w.claim = false → t.claim = s.claim
  ldicts : w.ldicts = false → t.ldicts = s.ldicts
  flash : w.flash = false → t.flash = s.flash
  pci : w.pci = false → t.pci = s.pci
  tap : w.tap = false → t.tap = s.tap
  trace : w.trace = false → t.trace = s.trace
  pins : w.pins = false → t.pins = s.pins
  cores : w.cores = false → t.cores = s.cores
  out : w.out = false → t.out = s.out
  free : w.free = false → t.free = s.free
  regsOk : rising s.regs = true → rising t.regs = true
  memOk : Memory.wf s.mem = true → Memory.wf t.mem = true

/-- The canonical form of the stores: register fields and memory bytes in rising order, and no listed byte equal to what an unlisted
one reads as. -/
def State.Inv (s : State) : Prop := rising s.regs = true ∧ Memory.wf s.mem = true

/-- The level a source has after a change: a source that the module drives itself keeps the level its state gives it (12 R332). -/
def State.sourceLevel (s : State) (e src : Nat) (lv : Bool) : Bool := (if e = 8 then s.hubSource src else s.tileSource e src).getD lv

/-- Where the next trace record goes (18 R481). -/
def State.traceNext (s : State) : Nat := s.get TRC_WIN_BASE * 4096 + 32 * (s.get TRC_WPTR_NEXT % 2 ^ s.get TRC_WIN_SIZE)

/-! ### The dictionary's transports (15 R414) -/

/-- An agent's transport holds this request; a CAN frame may carry padding behind it. -/
def State.holdsRequest (s : State) (a : Agent) (l : List Nat) : Bool :=
  match (s.xport (transport a)).waiting with
  | some w => w.2.take l.length == l
  | none => false

/-- What an agent's transport holds needs a flash device that is busy with a command (13 R375). -/
def State.flashAwaited (s : State) (a : Agent) : Bool :=
  match (s.xport (transport a)).waiting with
  | some w => s.flashNeeded (reqOf w.2)
  | none => false

/-- An agent's transport holds this request, it is the one that is served next, and it needs no busy flash device. -/
def State.serving (s : State) (a : Agent) (l : List Nat) : Bool := s.holdsRequest a l && s.nextServed == some (transport a) && !s.flashAwaited a

/-- The transport of an agent without an open transfer: a WRITE at OFFSET 0 closes it (15 R413). -/
def State.closed (s : State) (a : Agent) : State := s.setXport (transport a) { s.xport (transport a) with opened := none, lapsed := none }

/-- The frame is request q; it waits on the agent's transport, is served next and needs no busy flash device (13 R375); the command does not stand for a second frame like it
on a CAN port. -/
structure State.Asks (s : State) (a : Agent) (frame : List Byte) (second : Bool) (q : Req) : Prop where
  waits : ∃ w, (s.xport (transport a)).waiting = some (w, frame.map (·.toNat))
  next : s.nextServed = some (transport a)
  first : second = true → ∀ p, a ≠ .can p
  req : q = reqOf (frame.map (·.toNat))
  flash : s.flashNeeded q = false

/-- A request closes its transport's open transfer unless it continues it, and the transport has nothing lapsed behind it (15 R413). -/
def State.settled (s : State) (k : Nat) (q : Req) : State :=
  s.setXport k { s.xport k with lapsed := none, opened := if (s.continued k q).isSome then (s.xport k).opened else none }

/-- The row of the request of a command code from 1 to 5 (15 R410). -/
def requestRow (a : Agent) (frame : List Byte) (second : Bool) (cmd : Nat) : Instr :=
  if cmd = 1 then .dictRead a frame second else if cmd = 2 then .dictWrite a frame second else if cmd = 3 then .dictAbort a frame second
  else if cmd = 4 then .dictDescribe a frame second else .dictNext a frame second

/-- The mode commands of an agent and the codes that they write to 0x1200:02 (16 R431). -/
def modeRows (a : Agent) (seq : Byte) (p : Fin 4) : List (Instr × Nat) :=
  [(.startCommand a seq, 1), (.disarmCommand a seq, 2), (.resumeCommand a seq, 3), (.stopCommand a seq, 4), (.serviceCommand a seq, 5),
    (.endserviceCommand a seq, 6), (.sleepCommand a seq, 7), (.rebootCommand a seq, 8), (.selectCommand a seq p, 0x10 + p.val),
    (.sleepProfile a seq p, 0x18 + p.val)]

/-- The mode command of a code is served: its request is the next one, and no other transport writes 0x1200:02 (15 R412, R414). -/
def State.takesMode (s : State) (a : Agent) (seq c : Nat) : Bool :=
  s.serving a (modeRequest seq c) && !s.writtenElsewhere (transport a) 0x1200 2

/-- The state behind the response to a mode command with an abort code: the transport is free and closed (15 R413, R416). -/
def State.answered (s : State) (a : Agent) (seq abort : Nat) : State := (s.closed a).reply (transport a) (modeResponse seq 2 abort)

/-! ### Flash commands (13 R373, R375) -/

/-- FLASH_WP_N is high as a command of the flash finds it. -/
def State.wpHigh (s : State) (wpn : Option Bool) : Bool := wpn.getD (s.get MGT_FLCTL_WPN != 0)

/-- A flash command that starts keeps the registers as they stand. -/
def State.flashStarts (s : State) (op : Nat) : FlashSt :=
  { s.flash with op := op, dev := s.get MGT_FLCMD_DEV, off := s.get MGT_FLCMD_OFFSET * 256, len := s.get MGT_FLCMD_LEN * 256,
                 src := s.get MGT_FLBUF_ADDR * 8 }

/-- Neither a read nor an apply waits for a flash device. -/
def State.nothingWaits (s : State) : Bool :=
  s.flash.bar.isEmpty && s.flash.macc.isNone && (!s.flag MGT_IMG_CTL_BUSY || s.img.applying.isSome)

/-! ### What a Capo instruction leaves -/

/-- The state behind a walk for a wrong path or a prefetch that core n makes as it issues (11 R316). -/
def State.walkedAhead (s : State) (n : Nat) (g : Slot) : State :=
  match g.spec with
  | some w => s.specWalk n w
  | none => s

/-- Core n issues an instruction of `len` halfwords that stands alone in its group, and its fetch leaves `u` (09 R263, R275). -/
structure State.Issues (s : State) (n : Nat) (g : Slot) (len : Nat) (u : State) : Prop where
  runs : s.issues n = true
  due : s.beforeGroup n = none
  alone : (s.core n).first = none
  single : g.pair = false
  known : g.rsvd = false
  even : (s.core n).odd = false
  live : (s.core n).delay ≠ 3
  fetched : (s.walkedAhead n g).fetch n ((s.core n).pc % 2 ^ 48) len g.err = (u, .ok ())

/-- A control transfer of core n may stand here: in no delay slot; where it has one, debug sets no breakpoint on it (09 R267). -/
def State.slotClear (s : State) (n len : Nat) : Bool :=
  (s.core n).delay == 0 && ((s.core n).skipBp || !s.domOn 765 || !s.bpMatch n (((s.core n).pc + 2 * len) % 2 ^ 48))

/-- A group of `len` halfwords completes on core n (09 R263-R269): the registers, flags, PC and loads under way of `e`; what
earlier loads make visible; the counts; and nothing of other cores or outside the core but the level of a debug halt. -/
structure State.Done (u t : State) (n len : Nat) (e : Eff) : Prop where
  regs : ∀ r, r < 5 → (t.core n).reg r = ((u.core n).advance.setRegs e.alu).reg r
  vecs : (t.core n).vregs = ((u.core n).advance.setVecs e.vec).vregs
  late : (t.core n).late = (u.core n).advance.late ++ e.loads.map (fun p => (2, p))
  vlate : (t.core n).vlate = (u.core n).advance.vlate ++ e.vload.map (fun p => (2, p))
  st : (t.core n).st =
    e.st.getD ((u.core n).st / 16 * 16 + (((u.core n).st % 16 &&& (e.mask ^^^ 15)) ||| (e.flags &&& e.mask)))
  pc : (t.core n).pc + b2n (t.core n).odd = e.jump.getD (if (u.core n).delay = 1 then (u.core n).dtgt else ((u.core n).pc + 2 * len) % 2 ^ 48)
  even : (t.core n).pc % 2 = 0
  slot : (t.core n).delay = e.delay ∧ (t.core n).dtgt = e.target
  stack : e.rsops = [] → (t.core n).rs = (u.core n).rs
  groups : t.get CPO_GRP_COUNT n = min (u.get CPO_GRP_COUNT n + 1) (2 ^ 64 - 1)
  cycles : u.flag CPO_MODE_DET n = true → e.free = false → (u.core n).outside = false → t.get CPO_CYC_COUNT n = min (u.get CPO_CYC_COUNT n + e.cost) (2 ^ 64 - 1)
  others : ∀ m, m ≠ n → t.core m = u.core m
  keeps : Keeps { regs := [.cpo, .mmu, .cvu, .lec, .gec, .trc], fresh := true, cores := true, free := true } u t

/-- The state in which a vector instruction computes: a unit that is not Active is woken first (10 R300). -/
def State.cvuReady (u : State) (n : Nat) : State := if u.get CVU_STAT_PSTATE n = 0 then u else (u.cvuWake n).cvuActive n

/-- Core n issues a vector instruction alone: its fetch leaves `u`, vector instructions are enabled, R288 allows its fields, the
woken unit, with the bytes that the command spoils, is `v`, which has not lost its registers, and no register that V0 or an operand field
may name holds a byte with wrong parity (10 R288, R297, R300, R301). -/
structure State.VIssues (s : State) (n : Nat) (g : Slot) (o : VOp) (use : VUse) (u v : State) : Prop where
  issues : s.Issues n g 3 u
  enabled : bit (u.core n).st 13 = true
  fields : use.bad o = false
  ready : v = (u.cvuReady n).setCore n (((u.cvuReady n).core n).vUpset g.err)
  kept : v.flag CVU_STAT_LOST n = false
  parity : ∀ r, sget (v.core n).vbad r 0 ≠ 0 → r ≠ 0 ∧ ∀ f ∈ [o.va, o.vb, o.vd], r < f.toNat ∨ f.toNat + vRegs o ≤ r

/-- The active elements of an operation on core n (10 R287). -/
def State.vActive (v : State) (n : Nat) (o : VOp) : List Nat := (v.core n).active o (v.get CVU_VL_VL n)

/-- Element i of the group that a field names (10 R286). -/
def CoreSt.elem (x : CoreSt) (o : VOp) (r : BitVec 5) (i : Nat) : Nat := elemOf (x.vgroup r.toNat (vRegs o)) (vBits o) i

/-- The values of `f` at the elements of a list, as results of the group VD. -/
def vElems (o : VOp) (l : List Nat) (f : Nat → Nat) : List (Nat × Nat × Nat) := vResult o.vd.toNat (vRegs o) (vBits o) (l.map (fun i => (i, f i)))

end Sys2Proof.Machine
end

