-- ==== Sys2Proof/Certificates/Slice0/Obligations.lean ====
section
/-! DEFINITION. The statements about the model, one proposition each; a statement with several clauses is their conjunction. -/

open Sys2Proof Sys2Proof.Machine

/-- For every command c and state s with c at the front of its queue, step of s is exec of c on s with the queue's rest. The queue is
the model's own (log 1). (95 what_each_step_holds) -/
def Obligations.StepRunsFrontCommand : Prop :=
  ∀ (c : Instr) (rest : List Instr) (s : State), s.pending = c :: rest → step s = Machine.exec c { s with pending := rest }

/-- Every command, with any operands and in any state, answers a next state whose queue is the one it was given: no command ends in a
fault or a refusal. (00 Scope and conventions; 95 what_each_step_holds) -/
def Obligations.EveryCommandAnswers : Prop :=
  ∀ (c : Instr) (s : State), ∃ t, Machine.exec c s = .next t ∧ t.pending = s.pending

/-- For every state whose register fields and memory bytes stand in canonical form, a step leads to a state in that form. The form is
the model's own (logs 1, 211). (13 Memory system and address map) -/
def Obligations.StepKeepsCanonicalStores : Prop :=
  ∀ (s t : State), s.Inv → step s = .next t → t.Inv

/-- State.reset has the canonical form of the stores, an empty queue and no listed memory byte. (16 R436) -/
def Obligations.ResetStoresCanonical : Prop :=
  State.reset.Inv ∧ State.reset.pending = [] ∧ State.reset.mem = []

/-- A source change, a trigger record, a software event and the writes of the pending, clear and sensing registers of an LEC have the
effect of 12 R332 to R337 on the pending bits, the counters and the samples, and change nothing beyond the LEC and GEC registers, the
trigger queue and the trace freeze. A sample that changes with SENSE = 2, 3 or 4 is an event in the direction that SENSE names; no other
sample, and no first sample after a write of SENSE (log 22), is one. A source that flags or events drive is sampled at their level (log
23); FLASH_WP_N reaches MGT_FLCTL.WPN as an operand of SOURCE_CHANGE (log 218). A set by hardware prevails over a clear in the same cycle
(00 R13; what a cycle of the registers is, log 144), and POP removes the oldest record of a tile's trigger queue. Completion, under conditions on the state and the operands alone:
exec answers a next state with the effect of sourceChange, triggerRecord, lecSwevWrite, lecPclrWrite, lecPendWrite, lecSenseWrite, trqPop.
(12 R332; 12 R333; 12 R334; 12 R335; 12 R337; 00 R13) -/
def Obligations.EventSources : Prop :=
  -- sourceChange
  (∀ (e : Fin 9) (src : Fin 512) (level : Bool) (s : State), s.lecOn e.val = true →
     reservedSource (512 * e.val + src.val) = false → eventSource (512 * e.val + src.val) = false →
     s.get LEC_SENSE_SENSE (512 * e.val + src.val) ≤ 1 →
     ∃ t, Machine.exec (.sourceChange e src level) s = .next t ∧
       t.flag LEC_RAW_RAW (512 * e.val + src.val) = s.sourceLevel e.val src.val level ∧
       t.flag LEC_PEND_PEND (512 * e.val + src.val) = (s.sourceLevel e.val src.val level == (s.get LEC_SENSE_SENSE (512 * e.val + src.val) == 0)) ∧
       Keeps { regs := [.lec, .gec], fresh := true } s t) ∧
  -- sourceChangeEdge
  (∀ (e : Fin 9) (src : Fin 512) (level : Bool) (s : State), s.lecOn e.val = true →
     reservedSource (512 * e.val + src.val) = false → eventSource (512 * e.val + src.val) = false →
     sget s.lecFresh (512 * e.val + src.val) false = false →
     ((s.get LEC_SENSE_SENSE (512 * e.val + src.val) = 4 ∧ s.flag LEC_RAW_RAW (512 * e.val + src.val) ≠ s.sourceLevel e.val src.val level) ∨
      (s.get LEC_SENSE_SENSE (512 * e.val + src.val) = 2 ∧ s.flag LEC_RAW_RAW (512 * e.val + src.val) = false ∧
        s.sourceLevel e.val src.val level = true) ∨
      (s.get LEC_SENSE_SENSE (512 * e.val + src.val) = 3 ∧ s.flag LEC_RAW_RAW (512 * e.val + src.val) = true ∧
        s.sourceLevel e.val src.val level = false)) →
     ∃ t, Machine.exec (.sourceChange e src level) s = .next t ∧
       t.flag LEC_RAW_RAW (512 * e.val + src.val) = s.sourceLevel e.val src.val level ∧
       t.flag LEC_PEND_PEND (512 * e.val + src.val) = true ∧
       t.get LEC_CNT_CNT (512 * e.val + src.val) = min (s.get LEC_CNT_CNT (512 * e.val + src.val) + 1) 255 ∧
       Keeps { regs := [.lec, .gec], fresh := true } s t) ∧
  -- sourceChangeNoEdge
  (∀ (e : Fin 9) (src : Fin 512) (level : Bool) (s : State), s.lecOn e.val = true →
     reservedSource (512 * e.val + src.val) = false → eventSource (512 * e.val + src.val) = false →
     2 ≤ s.get LEC_SENSE_SENSE (512 * e.val + src.val) →
     (sget s.lecFresh (512 * e.val + src.val) false = true ∨
      s.flag LEC_RAW_RAW (512 * e.val + src.val) = s.sourceLevel e.val src.val level ∨
      (s.get LEC_SENSE_SENSE (512 * e.val + src.val) = 2 ∧ s.sourceLevel e.val src.val level = false) ∨
      (s.get LEC_SENSE_SENSE (512 * e.val + src.val) = 3 ∧ s.sourceLevel e.val src.val level = true)) →
     ∃ t, Machine.exec (.sourceChange e src level) s = .next t ∧
       t.flag LEC_RAW_RAW (512 * e.val + src.val) = s.sourceLevel e.val src.val level ∧
       (∀ g, t.get LEC_PEND_PEND g = s.get LEC_PEND_PEND g ∧ t.get LEC_CNT_CNT g = s.get LEC_CNT_CNT g) ∧
       Keeps { regs := [.lec], fresh := true } s t) ∧
  -- sourceChangeOfTheFlashPin
  (∀ (e : Fin 9) (src : Fin 512) (level b : Bool) (s : State), ∃ t, Machine.exec (.sourceChange e src level (some b)) s = .next t ∧
     t.flag MGT_FLCTL_WPN = b ∧ Keeps { regs := [.mgt] } s t) ∧
  -- triggerRecord
  (∀ (tl : Tile) (r : TrigRec) (s : State), s.lecOn tl.val = true →
     firstTrig ((s.trigs.filter (fun p => p.1 == tl.val && decide (p.2.dueAt ≤ s.tb))).map (·.2)) = some r →
     ∃ t, Machine.exec (.triggerRecord tl) s = .next t ∧
       t.trigs = s.trigs.erase (tl.val, r) ∧
       t.flag LEC_PEND_PEND (512 * tl.val + r.code) = true ∧
       t.get LEC_CNT_CNT (512 * tl.val + r.code) = min (s.get LEC_CNT_CNT (512 * tl.val + r.code) + 1) 255 ∧
       ((s.tile tl.val).trigQ.length < 64 → (t.tile tl.val).trigQ = (s.tile tl.val).trigQ ++ [r]) ∧
       (64 ≤ (s.tile tl.val).trigQ.length → t.tiles = s.tiles ∧ t.flag LEC_TRQCTL_OVF tl.val = true)) ∧
  -- lecSwevWrite
  (∀ (mask : BitVec 16) (k : Nat) (s : State), s.lecOn 8 = true → k < 16 →
     ∃ t, Machine.exec (.lecSwevWrite mask) s = .next t ∧
       (mask.getLsbD k = true → t.flag LEC_PEND_PEND (4096 + 0x130 + k) = true ∧
         t.get LEC_CNT_CNT (4096 + 0x130 + k) = min (s.get LEC_CNT_CNT (4096 + 0x130 + k) + 1) 255) ∧
       (mask.getLsbD k = false → t.get LEC_PEND_PEND (4096 + 0x130 + k) = s.get LEC_PEND_PEND (4096 + 0x130 + k) ∧
         t.get LEC_CNT_CNT (4096 + 0x130 + k) = s.get LEC_CNT_CNT (4096 + 0x130 + k)) ∧
       Keeps { regs := [.lec, .gec] } s t) ∧
  -- lecPclrWrite
  (∀ (e : Fin 9) (r : Fin 8) (v : Word) (i : Fin 64) (s : State), s.lecOn e.val = true →
     s.cycle.fresh LEC_PEND_PEND (512 * e.val + 64 * r.val + i.val) = 0 →
     ∃ t, Machine.exec (.lecPclrWrite e r v) s = .next t ∧
       t.get LEC_PEND_PEND (512 * e.val + 64 * r.val + i.val) =
         (if v.getLsbD i.val = true ∧ s.pendWritable (512 * e.val + 64 * r.val + i.val) = true then 0
          else s.get LEC_PEND_PEND (512 * e.val + 64 * r.val + i.val)) ∧
       (∀ g, t.get LEC_CNT_CNT g = s.get LEC_CNT_CNT g) ∧
       Keeps { regs := [.lec, .gec] } s t) ∧
  -- lecPclrWriteInTheCycleOfAnEvent
  (∀ (e : Fin 9) (r : Fin 8) (v : Word) (i : Fin 64) (s : State), s.lecOn e.val = true →
     s.cycle.fresh LEC_PEND_PEND (512 * e.val + 64 * r.val + i.val) = 1 → s.flag LEC_PEND_PEND (512 * e.val + 64 * r.val + i.val) = true →
     ∃ t, Machine.exec (.lecPclrWrite e r v) s = .next t ∧ t.flag LEC_PEND_PEND (512 * e.val + 64 * r.val + i.val) = true) ∧
  -- lecPendWrite
  (∀ (e : Fin 9) (r : Fin 8) (v : Word) (i : Fin 64) (s : State), s.lecOn e.val = true →
     s.cycle.fresh LEC_PEND_PEND (512 * e.val + 64 * r.val + i.val) = 0 →
     ∃ t, Machine.exec (.lecPendWrite e r v) s = .next t ∧
       t.get LEC_PEND_PEND (512 * e.val + 64 * r.val + i.val) =
         (if s.pendWritable (512 * e.val + 64 * r.val + i.val) = true then b2n (v.getLsbD i.val)
          else s.get LEC_PEND_PEND (512 * e.val + 64 * r.val + i.val)) ∧
       (∀ g, t.get LEC_CNT_CNT g = s.get LEC_CNT_CNT g) ∧
       Keeps { regs := [.lec, .gec] } s t) ∧
  -- lecSenseWrite
  (∀ (e : Fin 9) (r : Fin 32) (v : Word) (i : Fin 16) (s : State), s.lecOn e.val = true →
     ∃ t, Machine.exec (.lecSenseWrite e r v) s = .next t ∧
       t.get LEC_SENSE_SENSE (512 * e.val + 16 * r.val + i.val) =
         (if eventSource (512 * e.val + 16 * r.val + i.val) = true ∨ 4 < v.toNat / 2 ^ (4 * i.val) % 8 then
            s.get LEC_SENSE_SENSE (512 * e.val + 16 * r.val + i.val)
          else v.toNat / 2 ^ (4 * i.val) % 8) ∧
       (∀ g, t.get LEC_PEND_PEND g = s.get LEC_PEND_PEND g ∧ t.get LEC_CNT_CNT g = s.get LEC_CNT_CNT g) ∧
       Keeps { regs := [.lec], fresh := true } s t) ∧
  -- trqPop
  (∀ (e : Fin 9) (s : State), s.lecOn e.val = true →
     ∃ t, Machine.exec (.trqPop e) s = .next t ∧
       (e.val < 8 → (t.tile e.val).trigQ = (s.tile e.val).trigQ.drop 1) ∧ (e.val = 8 → t = s) ∧ Keeps { tiles := true } s t)

/-- A GEC input that is 1 and whose core is unavailable is assigned again by 12 R340: to its target if available, else to the next
available core of the fallback mask, which becomes RRPTR, else it is orphaned; the flag sources of LEC8 are sampled after it. Completion,
under conditions on the state and the operands alone: exec answers a next state with the effect of gecReassignment. (12 R340; 12 R339) -/
def Obligations.EventAssignment : Prop :=
  -- gecReassignmentTarget
  (∀ (i : Fin 576) (s : State), s.domOn 764 = true → s.flag GEC_IN_LEVEL i.val = true →
     (s.get GEC_IN_CUR i.val = 0x1F ∨ s.coreAvail (s.get GEC_IN_CUR i.val) = false) →
     s.coreAvail (s.get GEC_IN_TARGET i.val) = true →
     ∃ u : State, Machine.exec (.gecReassignment i) s = .next u.hubLevels ∧
       u.get GEC_IN_CUR i.val = s.get GEC_IN_TARGET i.val % 32 ∧ u.get GEC_FALLBACK_RRPTR = s.get GEC_FALLBACK_RRPTR ∧
       Keeps { regs := [.gec] } s u) ∧
  -- gecReassignmentFallback
  (∀ (i : Fin 576) (n : Nat) (s : State), s.domOn 764 = true → s.flag GEC_IN_LEVEL i.val = true →
     (s.get GEC_IN_CUR i.val = 0x1F ∨ s.coreAvail (s.get GEC_IN_CUR i.val) = false) →
     s.coreAvail (s.get GEC_IN_TARGET i.val) = false → s.fallbackCore = some n →
     ∃ u : State, Machine.exec (.gecReassignment i) s = .next u.hubLevels ∧
       u.get GEC_IN_CUR i.val = n ∧ u.get GEC_FALLBACK_RRPTR = n ∧ Keeps { regs := [.gec] } s u) ∧
  -- gecReassignmentOrphan
  (∀ (i : Fin 576) (s : State), s.domOn 764 = true → s.flag GEC_IN_LEVEL i.val = true →
     (s.get GEC_IN_CUR i.val = 0x1F ∨ s.coreAvail (s.get GEC_IN_CUR i.val) = false) →
     s.coreAvail (s.get GEC_IN_TARGET i.val) = false → s.fallbackCore = none →
     ∃ u : State, Machine.exec (.gecReassignment i) s = .next u.hubLevels ∧
       u.get GEC_IN_CUR i.val = 0x1F ∧ u.flag GEC_STAT_ORPHAN = true ∧ u.get GEC_STAT_ORPHIN = i.val ∧ Keeps { regs := [.gec] } s u) ∧
  -- gecReassignmentNone
  (∀ (i : Fin 576) (s : State), s.flag GEC_IN_LEVEL i.val = false → Machine.exec (.gecReassignment i) s = .next s)

/-- Each TAP instruction selects its register and captures what the test access port chapter says: the instruction register 0b0000_0001,
IDCODE and TAPSTAT their values, the boundary-scan instructions the pins of the live cells with new output latches (what the cells hold
are operands, log 137), CLAMP, HIGHZ and every code that is no other instruction's the bypass register with 0; nothing but the port and
its output changes. Completion, under conditions on the
state and the operands alone: exec answers a next state with the effect of tapReset, extest, samplePreload, idcode, clamp, highz,
extestPulse, extestTrain, tapstat, bypass. (18 R489; 18 R490; 18 R492) -/
def Obligations.TestAccessPort : Prop :=
  -- tapReset
  (∀ (s : State), Machine.exec .tapReset s = .next { s with tap := { s.tap with ir := 2 } }) ∧
  -- idcode
  (∀ (s : State), Machine.exec .idcode s = .next { s with tap := { s.tap with ir := 2 }, out := s.out ++ [.tap 1 (0x18192000 + 2 * Config.jep106.toNat + 1)] }) ∧
  -- tapstat
  (∀ (s : State), s.get BJ_STAT_STEP < 64 → s.get BJ_STAT_HALTED < 2 → s.get CLK_GEN_STAT_LOCK < 2 → s.get CLK_GEN_STAT_REFLOSS < 2 →
     ∃ v, Machine.exec .tapstat s = .next { s with tap := { s.tap with ir := 0x11 }, out := s.out ++ [.tap 1 v] } ∧
       bits v 5 0 = s.get BJ_STAT_STEP ∧ v.testBit 6 = s.flag BJ_STAT_HALTED ∧ bits v 9 7 = s.modeCode ∧
       v.testBit 10 = s.flag CLK_GEN_STAT_LOCK ∧ v.testBit 11 = s.flag CLK_GEN_STAT_REFLOSS ∧ v.testBit 12 = s.pins.trip ∧ bits v 31 13 = 0) ∧
  -- clamp
  (∀ (s : State), Machine.exec .clamp s = .next { s with tap := { s.tap with ir := 3 }, out := s.out ++ [.tap 1 0] }) ∧
  -- highz
  (∀ (s : State), Machine.exec .highz s = .next { s with tap := { s.tap with ir := 4 }, out := s.out ++ [.tap 1 0] }) ∧
  -- bypass
  (∀ (code : Byte) (s : State), 7 ≤ code.toNat → code ≠ 0x10 → code ≠ 0x11 → Machine.exec (.bypass code) s = .next { s with tap := { s.tap with ir := code.toNat }, out := s.out ++ [.tap 1 0] }) ∧
  -- extest
  (∀ (cap upd : BitVec 1080) (s : State), ∃ c u, Machine.exec (.extest cap upd) s =
       .next { s with tap := { s.tap with ir := 0, scan := c, latch := u }, out := s.out ++ [.tap 1 c] } ∧
     ∀ i, i < 1080 → c.testBit i = (cap.getLsbD i && s.scanLive i) ∧ u.testBit i = (scanDrives i && (if s.scanLive i then upd.getLsbD i else s.tap.latch.testBit i))) ∧
  -- samplePreload
  (∀ (cap upd : BitVec 1080) (s : State), ∃ c u, Machine.exec (.samplePreload cap upd) s =
       .next { s with tap := { s.tap with ir := 1, scan := c, latch := u }, out := s.out ++ [.tap 1 c] } ∧
     ∀ i, i < 1080 → c.testBit i = (cap.getLsbD i && s.scanLive i) ∧ u.testBit i = (scanDrives i && (if s.scanLive i then upd.getLsbD i else s.tap.latch.testBit i))) ∧
  -- extestPulse
  (∀ (cap upd : BitVec 1080) (s : State), ∃ c u, Machine.exec (.extestPulse cap upd) s =
       .next { s with tap := { s.tap with ir := 5, scan := c, latch := u }, out := s.out ++ [.tap 1 c] } ∧
     ∀ i, i < 1080 → c.testBit i = (cap.getLsbD i && s.scanLive i) ∧ u.testBit i = (scanDrives i && (if s.scanLive i then upd.getLsbD i else s.tap.latch.testBit i))) ∧
  -- extestTrain
  (∀ (cap upd : BitVec 1080) (s : State), ∃ c u, Machine.exec (.extestTrain cap upd) s =
       .next { s with tap := { s.tap with ir := 6, scan := c, latch := u }, out := s.out ++ [.tap 1 c] } ∧
     ∀ i, i < 1080 → c.testBit i = (cap.getLsbD i && s.scanLive i) ∧ u.testBit i = (scanDrives i && (if s.scanLive i then upd.getLsbD i else s.tap.latch.testBit i)))

/-- MEMACC captures the result of the access before; an aligned read of 8 bytes of HBM, with no request of the tile's cells before it,
answers the stored word, a write to HBM stores its 8 bytes and no other (18 R491); a write to the design-memory window or the checkpoint
area is ignored in RUN, with EXTWR, and waits in SERVICE once a RESTORE has come (13 R364). The access is done with its command (log 74),
on the memory that the requests before it leave (13 R356; log 192). Completion, under conditions on the state and
the operands alone: exec answers a next state with the effect of memacc. (18 R491; 13 R364; 13 R356) -/
def Obligations.MemoryAccessPort : Prop :=
  -- memaccRead
  (∀ (addr : BitVec 46) (d : Word) (s : State), s.domOn 760 = true → addr.toNat % 8 = 0 →
     region addr.toNat = .hbm → s.memOn addr.toNat = true → (s.tile (addr.toNat / 0x900000000)).memq = [] → s.ckp.heldWrites = [] →
     s.flash.macc = none →
     ∃ t, Machine.exec (.memacc addr false true d) s = .next t ∧ t.tap.macc = 1 + (s.word addr.toNat).toNat * 2 ^ 64 ∧
       t.out = s.out ++ [.tap 1 s.tap.macc] ∧ Keeps { tap := true, out := true } s t) ∧
  -- memaccWrite
  (∀ (addr : BitVec 46) (d : Word) (s : State), s.domOn 760 = true → addr.toNat % 8 = 0 →
     region addr.toNat = .hbm → s.memOn addr.toNat = true → (s.mode = .ready ∨ s.guarded addr.toNat = false) → s.flash.macc = none →
     ∃ t, Machine.exec (.memacc addr true true d) s = .next t ∧ t.tap.macc = 1 ∧ t.word addr.toNat = d ∧
       (s.guarded addr.toNat = false ∨ s.ckp.heldWrites = [] → ∀ a, ¬ (addr.toNat ≤ a ∧ a < addr.toNat + 8) → t.byte a = s.byte a) ∧ t.out = s.out ++ [.tap 1 s.tap.macc]) ∧
  -- memaccGuarded
  (∀ (addr : BitVec 46) (d : Word) (s : State), s.domOn 760 = true → addr.toNat % 8 = 0 →
     region addr.toNat = .hbm → s.memOn addr.toNat = true → s.mode = .run → s.guarded addr.toNat = true → s.flash.macc = none →
     ∃ t, Machine.exec (.memacc addr true true d) s = .next t ∧ t.mem = s.mem ∧
       t.flag TME_STAT_EXTWR (addr.toNat / 0x900000000) = true) ∧
  -- memaccAwaitsRestore
  (∀ (addr : BitVec 46) (d : Word) (s : State), s.domOn 760 = true → addr.toNat % 8 = 0 →
     region addr.toNat = .hbm → s.memOn addr.toNat = true → s.mode = .service → s.ckp.pendRestore.isSome = true →
     s.guarded addr.toNat = true → s.flash.macc = none →
     ∃ t, Machine.exec (.memacc addr true true d) s = .next t ∧ t.mem = s.mem ∧ t.tap.macc = 1 ∧
       t.ckp.heldWrites = s.ckp.heldWrites ++ [(addr.toNat, (leBytes 8 d.toNat).map (BitVec.ofNat 8 ·))]) ∧
  -- memaccIdle
  (∀ (addr : BitVec 46) (w : Bool) (d : Word) (s : State),
     Machine.exec (.memacc addr w false d) s = .next { s with tap := { s.tap with ir := 0x10 }, out := s.out ++ [.tap 1 s.tap.macc] })

/-- The trace block takes the record of a message or of a software write into its buffer (log 136), and counts what it cannot take as
lost, a software record that finds the buffer full among it (18 R488); it takes one in an HCLK cycle (18 R476), and a software write
behind another record of its cycle is taken later, before further messages (log 190). The oldest record of the buffer goes to the next
place of the ring and nowhere else. TRACE_ENABLE clears the ring's position, FRZ_NOW marks the freeze and FROZEN ends it. A probe record
that is due is sent to the trace block as two flits of class 2 (log 138) where its cell has the credits, and dropped with DROP otherwise. Completion, under conditions on
the state and the operands alone: exec answers a next state with the effect of traceMessage, probeCapture, trcSwmsg, frzNow, frozen,
traceEnable. (18 R475; 18 R476; 18 R478; 18 R479; 18 R481; 18 R488) -/
def Obligations.TraceRecords : Prop :=
  -- trcSwmsg
  (∀ (a : Agent) (v : Word) (s : State), s.domOn 765 = true → s.trcClosed = false → s.trace.buffer.length < 4096 →
     s.trace.takenAt ≠ some (s.tb / 4) → s.trace.waiting = [] →
     ∃ t, Machine.exec (.trcSwmsg a v) s = .next t ∧
       t.trace.buffer = s.trace.buffer ++ [traceRecord v.toNat s.tb (s.get CLK_STROKE_NO_STROKE_NO % 2 ^ 32)
         (4 + 128 * s.get CKP_STAT_REPLAY) 8 (Agent.traceSrc a) 0 s.trace.seqNo] ∧
       t.trace.seqNo = (s.trace.seqNo + 1) % 65536 ∧
       Keeps { regs := [.trc, .lec, .gec], fresh := true, trace := true } s t) ∧
  -- trcSwmsgLost
  (∀ (a : Agent) (v : Word) (s : State), s.domOn 765 = true → (s.trcClosed = true ∨ 4096 ≤ s.trace.buffer.length) →
     s.trace.takenAt ≠ some (s.tb / 4) → s.trace.waiting = [] →
     ∃ t, Machine.exec (.trcSwmsg a v) s = .next t ∧ t.flag TRC_STAT_LOST = true ∧
       t.get TRC_STAT_LOSTCNT = min (s.get TRC_STAT_LOSTCNT + 1) (2 ^ TRC_STAT_LOSTCNT.width - 1) ∧
       Keeps { regs := [.trc, .lec, .gec], fresh := true } s t) ∧
  -- trcSwmsgLater
  (∀ (a : Agent) (v : Word) (s : State), s.domOn 765 = true → (s.trace.takenAt = some (s.tb / 4) ∨ s.trace.waiting ≠ []) →
     Machine.exec (.trcSwmsg a v) s =
       .next { s with trace := { s.trace with waiting := s.trace.waiting ++ [(v.toNat, 4, Agent.traceSrc a, 0)] } }) ∧
  -- traceMessage
  (∀ (f : UFlit) (s : State), s.domOn 765 = true → firstMessage (s.tile 8).uDelivered = some (f, none) → s.trcClosed = false →
     s.trace.buffer.length < 4096 → s.trace.takenAt ≠ some (s.tb / 4) → s.trace.waiting = [] →
     ∃ t, Machine.exec .traceMessage s = .next t ∧
       t.trace.buffer = s.trace.buffer ++ [traceRecord (f.pay.getD 3 0) s.tb (s.get CLK_STROKE_NO_STROKE_NO % 2 ^ 32)
         (f.pay.getD 0 0 + 128 * s.get CKP_STAT_REPLAY) (f.pay.getD 1 0) (if f.pay.getD 0 0 = 1 then f.srcEnd % 1024 else 0)
         (f.pay.getD 2 0) s.trace.seqNo] ∧
       (t.tile 8).uDelivered = (s.tile 8).uDelivered.erase f ∧
       Keeps { regs := [.trc, .lec, .gec], fresh := true, trace := true, tiles := true } s t) ∧
  -- traceMessageProbe
  (∀ (f g : UFlit) (s : State), s.domOn 765 = true → firstMessage (s.tile 8).uDelivered = some (f, some g) → s.trcClosed = false →
     s.trace.buffer.length < 4096 → s.trace.takenAt ≠ some (s.tb / 4) → s.trace.waiting = [] →
     ∃ t, Machine.exec .traceMessage s = .next t ∧ (t.tile 8).uDelivered = ((s.tile 8).uDelivered.erase f).erase g ∧
       t.trace.buffer = s.trace.buffer ++ [traceRecord (g.pay.getD 2 0) s.tb (f.pay.getD 2 0 % 2 ^ 32) (3 + 128 * s.get CKP_STAT_REPLAY)
         (f.pay.getD 1 0) (f.srcEnd % 1024) (bits (f.pay.getD 2 0) 44 32) s.trace.seqNo]) ∧
  -- traceMessageWaits
  (∀ (s : State), (4096 ≤ s.trace.buffer.length ∨ s.trace.takenAt = some (s.tb / 4) ∨ s.trace.waiting ≠ []) →
     Machine.exec .traceMessage s = .next s) ∧
  -- traceWritten
  (∀ (r : Nat) (rest : List Nat) (s : State), s.trace.buffer = r :: rest →
     region s.traceNext = .hbm → s.domOn (704 + s.traceNext / 0x900000000) = true →
     s.trcWrite.num s.traceNext 32 = r % 2 ^ 256 ∧ s.trcWrite.trace.buffer = rest ∧
       (∀ b, ¬ (s.traceNext ≤ b ∧ b < s.traceNext + 32) → s.trcWrite.byte b = s.byte b)) ∧
  -- traceMessageNone
  (∀ (s : State), firstMessage (s.tile 8).uDelivered = none → Machine.exec .traceMessage s = .next s) ∧
  -- traceEnable
  (∀ (s : State), s.domOn 765 = true → s.flag TRC_CTL_EN = false →
     ∃ t, Machine.exec .traceEnable s = .next t ∧ t.flag TRC_CTL_EN = true ∧ t.get TRC_WPTR_NEXT = 0 ∧ t.get TRC_WPTR_WRAPPED = 0 ∧
       t.trace = { s.trace with seqNo := 0 } ∧ Keeps { regs := [.trc], trace := true } s t) ∧
  -- frzNow
  (∀ (s : State), s.domOn 765 = true → s.flag TRC_STAT_FROZEN = false → s.trace.left = none →
     ∃ t, Machine.exec .frzNow s = .next t ∧ t.get TRC_FRZST_CAUSE = 5 ∧
       t.get TRC_FRZST_MARKER = (s.get TRC_WPTR_NEXT + s.trace.buffer.length) % 2 ^ s.get TRC_WIN_SIZE % 2 ^ TRC_FRZST_MARKER.width ∧
       t.trace.left = some (s.get TRC_FRZ_POST)) ∧
  -- frozen
  (∀ (s : State), s.domOn 765 = true → s.trace.left = some 0 → s.trace.waiting = [] →
     ∃ t, Machine.exec .frozen s = .next t ∧ t.flag TRC_STAT_FROZEN = true ∧ t.trace = { s.trace with left := none } ∧
       Keeps { regs := [.trc, .lec, .gec], fresh := true, trace := true } s t) ∧
  -- probeCapture
  (∀ (c : PCell) (i : Fin 16) (kind group addr : Nat) (s : State), s.active c.val = true → s.domOn (cellDomain c.val) = true →
     s.probeNow c.val i.val = true → (s.probesOf (c.val / 1088) (s.lcell c.val))[i.val]? = some (kind, group, addr) →
     2 ≤ s.uCredit (.cell (Fin.ofNat 8 (c.val / 1088)) (Fin.ofNat 1024 (s.lcell c.val)))
       (.router (Fin.ofNat 8 (c.val / 1088)) (Fin.ofNat 16 (s.lcell c.val / 64))) 2 →
     (s.get FAB_UCTL_DRAIN (c.val / 1088)).testBit 2 = false →
     ∃ t f g, Machine.exec (.probeCapture c i) s = .next t ∧ t.uflits = s.uflits ++ [f, g] ∧ f.cls = 2 ∧ g.cls = 2 ∧
       f.dest = traceUnit ∧ g.dest = traceUnit ∧ f.pay.getD 0 0 = 3 ∧
       g.pay = [4, c.val / 1088, ((s.settleCell c.val).probeValue c.val kind addr).toNat] ∧
       Keeps { regs := [.cell, .lec, .gec], fresh := true, cells := true, uflits := true } s t) ∧
  -- probeCaptureDropped
  (∀ (c : PCell) (i : Fin 16) (x : Nat × Nat × Nat) (s : State), s.active c.val = true → s.domOn (cellDomain c.val) = true →
     s.probeNow c.val i.val = true → (s.probesOf (c.val / 1088) (s.lcell c.val))[i.val]? = some x →
     ((s.get FAB_UCTL_DRAIN (c.val / 1088)).testBit 2 = true ∨
       s.uCredit (.cell (Fin.ofNat 8 (c.val / 1088)) (Fin.ofNat 1024 (s.lcell c.val)))
         (.router (Fin.ofNat 8 (c.val / 1088)) (Fin.ofNat 16 (s.lcell c.val / 64))) 2 < 2) →
     ∃ t, Machine.exec (.probeCapture c i) s = .next t ∧ t.flag TRC_PSTAT_DROP (c.val / 1088) = true ∧ t.uflits = s.uflits) ∧
  -- probeCaptureNone
  (∀ (c : PCell) (i : Fin 16) (s : State), s.probeNow c.val i.val = false → Machine.exec (.probeCapture c i) s = .next s)

/-- DEBUG_HALT and an enabled breakpoint halt a core at a group boundary with its registers in TRC_CR; DEBUG_RUN and DEBUG_STEP give the
registers back to the halted core (18 R486, R487). Completion, under conditions on the state and the operands alone: exec answers a next
state with the effect of debugHalt, debugRun, debugStep, breakpointHit. (18 R486; 18 R487) -/
def Obligations.CapoDebug : Prop :=
  -- debugHalt
  (∀ (n : Core) (s : State), s.canHalt n.val = true →
     ∃ t, Machine.exec (.debugHalt n) s = .next t ∧ (t.core n.val).halted = true ∧ t.flag TRC_CDBG_HALTED n.val = true ∧
       t.get TRC_CDBG_CAUSE n.val = 0 ∧ t.get TRC_CR_VALUE (7 * n.val) = (s.core n.val).a.toNat ∧
       t.get TRC_CR_VALUE (7 * n.val + 5) = (s.core n.val).pc % 2 ^ 64 ∧
       Keeps { regs := [.trc, .lec, .gec], fresh := true, cores := true } s t) ∧
  -- debugHaltLater
  (∀ (n : Core) (s : State), s.domOn 765 = true → (s.core n.val).halted = false → s.canHalt n.val = false →
     ∃ t, Machine.exec (.debugHalt n) s = .next t ∧ t.core n.val = { s.core n.val with haltReq := true } ∧
       t.flag TRC_CDBG_HALT n.val = true ∧ Keeps { regs := [.trc], cores := true } s t) ∧
  -- breakpointHit
  (∀ (n : Core) (s : State), s.canHalt n.val = true → (s.core n.val).skipBp = false → (s.core n.val).waiting = false →
     s.bpMatch n.val (s.core n.val).pc = true →
     ∃ t, Machine.exec (.breakpointHit n) s = .next t ∧ (t.core n.val).halted = true ∧ t.flag TRC_CDBG_HALTED n.val = true ∧
       t.get TRC_CDBG_CAUSE n.val = 1 ∧ Keeps { regs := [.trc, .lec, .gec], fresh := true, cores := true } s t) ∧
  -- breakpointNone
  (∀ (n : Core) (s : State), s.bpMatch n.val (s.core n.val).pc = false → Machine.exec (.breakpointHit n) s = .next s) ∧
  -- debugRun
  (∀ (n : Core) (s : State), s.domOn 765 = true → (s.core n.val).halted = true →
     ∃ t, Machine.exec (.debugRun n) s = .next t ∧ (t.core n.val).halted = false ∧ (t.core n.val).stepping = false ∧
       (t.core n.val).a = BitVec.ofNat 64 (s.get TRC_CR_VALUE (7 * n.val)) ∧ (t.core n.val).x = BitVec.ofNat 64 (s.get TRC_CR_VALUE (7 * n.val + 1)) ∧
       (t.core n.val).y = BitVec.ofNat 64 (s.get TRC_CR_VALUE (7 * n.val + 2)) ∧
       (t.core n.val).pc = s.get TRC_CR_VALUE (7 * n.val + 5) % 2 ^ 48 / 2 * 2 ∧ t.flag TRC_CDBG_HALTED n.val = false ∧
       (∀ j, j < 7 → t.get TRC_CR_VALUE (7 * n.val + j) = 0) ∧ Keeps { regs := [.trc], cores := true } s t) ∧
  -- debugStep
  (∀ (n : Core) (s : State), s.domOn 765 = true → (s.core n.val).halted = true →
     ∃ t, Machine.exec (.debugStep n) s = .next t ∧ (t.core n.val).halted = false ∧ (t.core n.val).stepping = true ∧
       (t.core n.val).a = BitVec.ofNat 64 (s.get TRC_CR_VALUE (7 * n.val)) ∧
       (t.core n.val).pc = s.get TRC_CR_VALUE (7 * n.val + 5) % 2 ^ 48 / 2 * 2 ∧ t.flag TRC_CDBG_HALTED n.val = false ∧
       Keeps { regs := [.trc], cores := true } s t)

/-- REMAP_COMMIT of a legal shadow table makes it live and sets BUSY, an illegal one sets ERR with the code and changes nothing live;
REMAP_REVERT copies the live table back; COMMIT_COMPLETE clears BUSY (03 R86). A write of PON powers a spare cell up; SPARE_PGOOD makes it
good with all its storage zero; a spare whose bit is cleared goes off unless its live entry is ACTIVE (03 R87). The live table changes at
the commit command, with BUSY until COMMIT_COMPLETE (log 38). Completion, under
conditions on the state and the operands alone: exec answers a next state with the effect of remapCommit, remapRevert, commitComplete,
sparePowerRequest, sparePgood. (03 R86; 03 R85; 03 R87; 03 R95; 06 R183; 07 R219) -/
def Obligations.ClusterMaps : Prop :=
  -- remapCommit
  (∀ (g : Cluster) (p : Fin 68) (s : State), s.cluOn g.val = true → s.flag CLU_REMAP_CTL_BUSY g.val = false → s.remapError g.val = none →
     ∃ t, Machine.exec (.remapCommit g) s = .next t ∧ t.remap (68 * g.val + p.val) = s.shadowEntry g.val p.val ∧
       t.flag CLU_REMAP_CTL_BUSY g.val = true ∧ (∀ c, c / 68 ≠ g.val → t.remap c = s.remap c)) ∧
  -- remapCommitRefused
  (∀ (g : Cluster) (c l p : Nat) (s : State), s.cluOn g.val = true → s.flag CLU_REMAP_CTL_BUSY g.val = false →
     s.remapError g.val = some (c, l, p) →
     ∃ t, Machine.exec (.remapCommit g) s = .next t ∧ t.flag CLU_REMAP_CTL_ERR g.val = true ∧ t.get CLU_REMAP_CTL_ERRCODE g.val = c ∧
       Keeps { regs := [.clu] } s t) ∧
  -- remapRevert
  (∀ (g : Cluster) (p : Fin 68) (s : State), s.cluOn g.val = true → s.flag CLU_REMAP_CTL_BUSY g.val = false →
     s.remap (68 * g.val + p.val) < 1024 →
     ∃ t, Machine.exec (.remapRevert g) s = .next t ∧
       t.shadowEntry g.val p.val = s.remap (68 * g.val + p.val) % 64 + 256 * (s.remap (68 * g.val + p.val) / 256) ∧
       Keeps { regs := [.clu] } s t) ∧
  -- commitComplete
  (∀ (u : CommitUnit) (s : State), ∃ t, Machine.exec (.commitComplete u) s = .next t ∧
     (match u with
      | .cluster g => if s.cluOn g.val = true then t.flag CLU_REMAP_CTL_BUSY g.val = false else t = s
      | .lanes tl => if s.domOn (712 + tl.val) = true then t.flag LNK_REMAP_CTL_BUSY tl.val = false else t = s
      | .fabric tl => if s.domOn (712 + tl.val) = true then t.flag FAB_CTL_BUSY tl.val = false else t = s) ∧
     Keeps { regs := [.clu, .lnk, .fab] } s t) ∧
  -- sparePowerRequest
  (∀ (g : Cluster) (pon : BitVec 4) (i : Fin 4) (s : State), s.cluOn g.val = true →
     ∃ t, Machine.exec (.sparePowerRequest g pon) s = .next t ∧
       (pon.getLsbD i.val = true → bit (t.get CLU_SPARE_PON g.val) i.val = true ∧
         (bit (s.get CLU_SPARE_PON g.val) i.val = false → sget t.dom (128 + 4 * g.val + i.val) 0 = 1)) ∧
       (pon.getLsbD i.val = false → s.active (68 * g.val + 64 + i.val) = true →
         bit (t.get CLU_SPARE_PON g.val) i.val = bit (s.get CLU_SPARE_PON g.val) i.val) ∧
       Keeps { regs := [.clu, .cell, .pwr, .lec, .gec], cells := true, dom := true, fresh := true } s t) ∧
  -- sparePgood
  (∀ (g : Cluster) (i : Fin 4) (s : State), s.awake = true → sget s.dom (128 + 4 * g.val + i.val) 0 = 1 →
     ∃ t, Machine.exec (.sparePgood g i) s = .next t ∧ t.domOn (128 + 4 * g.val + i.val) = true ∧
       bit (t.get CLU_SPARE_PGOOD g.val) i.val = true ∧ t.cell (68 * g.val + 64 + i.val) = Cell.zero ∧
       t.get PWR_STAT_LASTDOM = 128 + 4 * g.val + i.val ∧
       Keeps { regs := [.clu, .cell, .pwr, .lec, .gec], cells := true, dom := true, fresh := true } s t)

/-- The training commands move a lane through the states of 07 R203: enabling, retraining, signal, adaptation, lock, measurement and
identity each lead to the next state, and a time limit that passes is a failed attempt with its FAILCAUSE. A time limit that passes in
TRAIN, LOCK, MEASURE or IDENT is a failed attempt with FAILCAUSE 2 to 5; the third in a row lowers the rate, and the third at the lowest
rate ends in FAIL (07 R203). A time limit passes as its command comes (log 5); a RETRAIN of a lane in UP sends what goes before the PSTAT
within the write (log 197); an identity may come in MEASURE, and IDENT ends when both have gone (log 221). Completion, under conditions on the state and the operands alone: exec answers a next state with the effect
of laneEnable, retrain, signalPresent, trainingAdapted, trainTimeout, syncReceived, lockTimeout, measureDone, measureTimeout, identMsg,
identTimeout. (07 R203; 07 R193; 07 R204; 07 R206) -/
def Obligations.LaneTraining : Prop :=
  -- laneEnable
  (∀ (n : Lane) (s : State), s.laneOn n.val = true → s.get LNK_STAT_STATE n.val = 0 →
     ∃ t, Machine.exec (.laneEnable n true) s = .next t ∧ t.get LNK_STAT_STATE n.val = 1 ∧ t.flag LNK_CTL_EN n.val = true ∧
       t.get LNK_STAT_RATE n.val = s.get LNK_CTL_RATEMAX n.val % 4 ∧ (t.lane n.val).attempts = 0 ∧ Keeps { regs := [.lnk, .lec, .gec], lanes := true, fresh := true } s t) ∧
  -- laneDisable
  (∀ (n : Lane) (s : State), s.laneOn n.val = true → s.cycle.fresh LNK_CTL_EN n.val = 0 →
     ∃ t, Machine.exec (.laneEnable n false) s = .next t ∧ t.get LNK_STAT_STATE n.val = 0 ∧ t.flag LNK_CTL_EN n.val = false) ∧
  -- retrain
  (∀ (n : Lane) (s : State), s.laneOn n.val = true → s.get LNK_STAT_STATE n.val ≠ 0 → s.get LNK_STAT_STATE n.val ≠ 6 →
     ∃ t, Machine.exec (.retrain n) s = .next t ∧ t.get LNK_STAT_STATE n.val = 1 ∧
       t.get LNK_STAT_RATE n.val = s.get LNK_CTL_RATEMAX n.val % 4 ∧ Keeps { regs := [.lnk, .lec, .gec], lanes := true, fresh := true } s t) ∧
  -- retrainUp
  (∀ (n : Lane) (s : State), s.laneOn n.val = true → s.get LNK_STAT_STATE n.val = 6 → s.hasPosition n.val 2 = true →
     ∃ t sf b, Machine.exec (.retrain n) s = .next t ∧ t.get LNK_STAT_STATE n.val = 1 ∧ t.flag LNK_STAT_READY n.val = false ∧
       OutMsg.beat n.val sf b ((controlBeats 6 (s.pstat true).beats).headD idleBeat) ∈ t.out ∧
       (∀ w ∈ (s.lane n.val).sending, ∃ sf' b', OutMsg.beat n.val sf' b' w ∈ t.out)) ∧
  -- signalPresent
  (∀ (n : Lane) (s : State), s.get LNK_STAT_STATE n.val = 1 →
     ∃ t, Machine.exec (.signalPresent n) s = .next t ∧ t.get LNK_STAT_STATE n.val = 2 ∧
       (t.lane n.val).calInForce = s.get LNK_CAL_KINDS n.val ∧ (t.lane n.val).reachInForce = s.get LNK_CTL_REACH n.val ∧
       Keeps { regs := [.lnk], lanes := true } s t) ∧
  -- trainingAdapted
  (∀ (n : Lane) (s : State), s.get LNK_STAT_STATE n.val = 2 →
     ∃ t, Machine.exec (.trainingAdapted n) s = .next t ∧ t.get LNK_STAT_STATE n.val = 3 ∧ (t.lane n.val).txSf = 0 ∧
       t.out = s.out ++ [.beat n.val 0 0 (syncBeat (s.lane n.val).calInForce 0)] ∧ Keeps { regs := [.lnk], lanes := true, out := true } s t) ∧
  -- syncReceived
  (∀ (n : Lane) (sf : BitVec 32) (calid : Byte) (s : State), s.get LNK_STAT_STATE n.val = 3 →
     calid.toNat = calId (s.lane n.val).calInForce → (s.lane n.val).syncRow = 3 →
     ∃ t, Machine.exec (.syncReceived n sf calid) s = .next t ∧ t.get LNK_STAT_STATE n.val = 4 ∧
       (t.lane n.val).ctl = (s.lane n.val).ctl ++ [⟨2, []⟩] ∧ (t.lane n.val).measN = 0 ∧ Keeps { regs := [.lnk], lanes := true } s t) ∧
  -- syncReceivedWrong
  (∀ (n : Lane) (sf : BitVec 32) (calid : Byte) (s : State), s.get LNK_STAT_STATE n.val = 3 →
     calid.toNat ≠ calId (s.lane n.val).calInForce → (s.lane n.val).attempts < 2 →
     ∃ t, Machine.exec (.syncReceived n sf calid) s = .next t ∧ t.get LNK_STAT_STATE n.val = 1 ∧ t.get LNK_STAT_FAILCAUSE n.val = 6 ∧
       t.flag LNK_STAT_CALERR n.val = true ∧ Keeps { regs := [.lnk, .lec, .gec], lanes := true, fresh := true } s t) ∧
  -- measureDone
  (∀ (n : Lane) (s : State), s.get LNK_STAT_STATE n.val = 4 → 64 ≤ (s.lane n.val).measN →
     s.classOf n.val (openDiv (s.lane n.val).measLat 128).toNat ≤ 63 →
     ∃ t, Machine.exec (.measureDone n) s = .next t ∧ t.get LNK_STAT_STATE n.val = 5 ∧
       t.get LNK_LAT_LAT n.val = (openDiv (s.lane n.val).measLat 128).toNat % 2 ^ LNK_LAT_LAT.width ∧
       Keeps { regs := [.lnk, .lec, .gec], lanes := true, fresh := true } s t) ∧
  -- identMsg
  (∀ (n : Lane) (serial info placement : Word) (s : State), s.get LNK_STAT_STATE n.val = 5 → bits info.toNat 3 0 < 5 →
     (∀ m ∈ (s.lane n.val).ctl, m.ctype ≠ 4) → (s.lane n.val).sending = [] →
     ∃ t, Machine.exec (.identMsg n serial info placement) s = .next t ∧ t.get LNK_STAT_STATE n.val = 6 ∧
       t.get LNK_PID_SERIAL n.val = serial.toNat ∧ t.get LNK_PINFO_KIND n.val = bits info.toNat 3 0 ∧
       (t.lane n.val).cred = [64, 64, 64, 64]) ∧
  -- identMsgFirst
  (∀ (n : Lane) (serial info placement : Word) (s : State), (s.get LNK_STAT_STATE n.val = 4 ∨
       (s.get LNK_STAT_STATE n.val = 5 ∧ ((∃ m ∈ (s.lane n.val).ctl, m.ctype = 4) ∨ (s.lane n.val).sending ≠ []))) →
     bits info.toNat 3 0 < 5 →
     ∃ t, Machine.exec (.identMsg n serial info placement) s = .next t ∧ t.get LNK_STAT_STATE n.val = s.get LNK_STAT_STATE n.val ∧
       t.get LNK_PID_SERIAL n.val = serial.toNat ∧ t.get LNK_PINFO_KIND n.val = bits info.toNat 3 0 ∧ (t.lane n.val).identIn = true ∧
       Keeps { regs := [.lnk], lanes := true } s t) ∧
  -- ownIdentSent
  (∀ (n : Lane) (w : Nat) (s : State), s.get LNK_STAT_STATE n.val = 5 → (s.lane n.val).sending = [w] →
     (∀ m ∈ (s.lane n.val).ctl, m.ctype ≠ 4) → (s.lane n.val).identIn = true → s.hasPosition n.val 2 = true →
     ∃ t sf b, Machine.exec (.controlMessageSend n) s = .next t ∧ t.get LNK_STAT_STATE n.val = 6 ∧
       (t.lane n.val).cred = [64, 64, 64, 64] ∧ OutMsg.beat n.val sf b w ∈ t.out) ∧
  -- identMsgReserved
  (∀ (n : Lane) (serial info placement : Word) (s : State), (s.get LNK_STAT_STATE n.val = 4 ∨ s.get LNK_STAT_STATE n.val = 5) → 5 ≤ bits info.toNat 3 0 →
     (s.lane n.val).attempts < 2 →
     ∃ t, Machine.exec (.identMsg n serial info placement) s = .next t ∧ t.get LNK_STAT_STATE n.val = 1 ∧
       t.get LNK_STAT_FAILCAUSE n.val = 5 ∧ Keeps { regs := [.lnk, .lec, .gec], lanes := true, fresh := true } s t) ∧
  -- trainTimeout
  (∀ (n : Lane) (s : State), s.get LNK_STAT_STATE n.val = 2 →
     ∃ t, Machine.exec (.trainTimeout n) s = .next t ∧ t.get LNK_STAT_FAILCAUSE n.val = 2 ∧
       ((s.lane n.val).attempts < 2 → t.get LNK_STAT_STATE n.val = 1 ∧ (t.lane n.val).attempts = (s.lane n.val).attempts + 1 ∧
         t.get LNK_STAT_RATE n.val = s.get LNK_STAT_RATE n.val) ∧
       (2 ≤ (s.lane n.val).attempts → (t.lane n.val).attempts = 0 ∧
         (s.get LNK_STAT_RATE n.val < 2 → t.get LNK_STAT_STATE n.val = 1 ∧ t.get LNK_STAT_RATE n.val = s.get LNK_STAT_RATE n.val + 1) ∧
         (2 ≤ s.get LNK_STAT_RATE n.val → t.get LNK_STAT_STATE n.val = 7)) ∧
       Keeps { regs := [.lnk, .lec, .gec], lanes := true, fresh := true } s t) ∧
  -- lockTimeout
  (∀ (n : Lane) (s : State), s.get LNK_STAT_STATE n.val = 3 →
     ∃ t, Machine.exec (.lockTimeout n) s = .next t ∧ t.get LNK_STAT_FAILCAUSE n.val = 3 ∧
       ((s.lane n.val).attempts < 2 → t.get LNK_STAT_STATE n.val = 1 ∧ (t.lane n.val).attempts = (s.lane n.val).attempts + 1 ∧
         t.get LNK_STAT_RATE n.val = s.get LNK_STAT_RATE n.val) ∧
       (2 ≤ (s.lane n.val).attempts → (t.lane n.val).attempts = 0 ∧
         (s.get LNK_STAT_RATE n.val < 2 → t.get LNK_STAT_STATE n.val = 1 ∧ t.get LNK_STAT_RATE n.val = s.get LNK_STAT_RATE n.val + 1) ∧
         (2 ≤ s.get LNK_STAT_RATE n.val → t.get LNK_STAT_STATE n.val = 7)) ∧
       Keeps { regs := [.lnk, .lec, .gec], lanes := true, fresh := true } s t) ∧
  -- measureTimeout
  (∀ (n : Lane) (s : State), s.get LNK_STAT_STATE n.val = 4 →
     ∃ t, Machine.exec (.measureTimeout n) s = .next t ∧ t.get LNK_STAT_FAILCAUSE n.val = 4 ∧
       ((s.lane n.val).attempts < 2 → t.get LNK_STAT_STATE n.val = 1 ∧ (t.lane n.val).attempts = (s.lane n.val).attempts + 1 ∧
         t.get LNK_STAT_RATE n.val = s.get LNK_STAT_RATE n.val) ∧
       (2 ≤ (s.lane n.val).attempts → (t.lane n.val).attempts = 0 ∧
         (s.get LNK_STAT_RATE n.val < 2 → t.get LNK_STAT_STATE n.val = 1 ∧ t.get LNK_STAT_RATE n.val = s.get LNK_STAT_RATE n.val + 1) ∧
         (2 ≤ s.get LNK_STAT_RATE n.val → t.get LNK_STAT_STATE n.val = 7)) ∧
       Keeps { regs := [.lnk, .lec, .gec], lanes := true, fresh := true } s t) ∧
  -- identTimeout
  (∀ (n : Lane) (s : State), s.get LNK_STAT_STATE n.val = 5 →
     ∃ t, Machine.exec (.identTimeout n) s = .next t ∧ t.get LNK_STAT_FAILCAUSE n.val = 5 ∧
       ((s.lane n.val).attempts < 2 → t.get LNK_STAT_STATE n.val = 1 ∧ (t.lane n.val).attempts = (s.lane n.val).attempts + 1 ∧
         t.get LNK_STAT_RATE n.val = s.get LNK_STAT_RATE n.val) ∧
       (2 ≤ (s.lane n.val).attempts → (t.lane n.val).attempts = 0 ∧
         (s.get LNK_STAT_RATE n.val < 2 → t.get LNK_STAT_STATE n.val = 1 ∧ t.get LNK_STAT_RATE n.val = s.get LNK_STAT_RATE n.val + 1) ∧
         (2 ≤ s.get LNK_STAT_RATE n.val → t.get LNK_STAT_STATE n.val = 7)) ∧
       Keeps { regs := [.lnk, .lec, .gec], lanes := true, fresh := true } s t)

/-- A lane in UP that loses its signal, misses four SYNCs, receives a SYNC with another CALID, or reaches its limit of uncorrectable
codewords leaves UP: DETECT, not ready, LOSS set (07 R216, R192, R215). A codeword with at most seven wrong symbols is corrected and
counts in CORR alone; outside LOCK, MEASURE, IDENT and UP none is framed. Completion, under conditions on the state and the operands
alone: exec answers a next state with the effect of syncReceived, lossOfSignal, syncMissing, uncorrectableCodeword. (07 R216; 07 R215; 07
R192) -/
def Obligations.LaneLoss : Prop :=
  -- lossOfSignal
  (∀ (n : Lane) (s : State), s.get LNK_STAT_STATE n.val = 6 →
     ∃ t, Machine.exec (.lossOfSignal n) s = .next t ∧ t.get LNK_STAT_STATE n.val = 1 ∧ t.flag LNK_STAT_READY n.val = false ∧
       t.flag LNK_STAT_LOSS n.val = true) ∧
  -- syncMissing
  (∀ (n : Lane) (s : State), s.get LNK_STAT_STATE n.val = 6 → 3 ≤ (s.lane n.val).syncRow →
     ∃ t, Machine.exec (.syncMissing n) s = .next t ∧ t.get LNK_STAT_STATE n.val = 1 ∧ t.flag LNK_STAT_READY n.val = false ∧
       t.flag LNK_STAT_LOSS n.val = true) ∧
  -- syncMissingOnce
  (∀ (n : Lane) (s : State), s.get LNK_STAT_STATE n.val = 6 → (s.lane n.val).syncRow < 3 →
     Machine.exec (.syncMissing n) s = .next (s.setLane n.val { s.lane n.val with syncRow := (s.lane n.val).syncRow + 1 })) ∧
  -- syncReceivedUp
  (∀ (n : Lane) (sf : BitVec 32) (calid : Byte) (s : State), s.get LNK_STAT_STATE n.val = 6 →
     calid.toNat ≠ calId (s.lane n.val).calInForce →
     ∃ t, Machine.exec (.syncReceived n sf calid) s = .next t ∧ t.get LNK_STAT_STATE n.val = 1 ∧ t.flag LNK_STAT_CALERR n.val = true ∧
       t.get LNK_STAT_FAILCAUSE n.val = 6 ∧ t.flag LNK_STAT_READY n.val = false) ∧
  -- uncorrectableCodeword
  (∀ (n : Lane) (wrong : Fin 273) (s : State), 4 ≤ s.get LNK_STAT_STATE n.val → s.get LNK_STAT_STATE n.val ≤ 6 → 7 < wrong.val →
     ∃ t, Machine.exec (.uncorrectableCodeword n wrong) s = .next t ∧ t.flag LNK_STAT_FECUNC n.val = true ∧
       t.get LNK_FEC_UNC n.val = min (s.get LNK_FEC_UNC n.val + 1) (2 ^ LNK_FEC_UNC.width - 1) ∧
       (s.get LNK_STAT_STATE n.val = 6 → s.get LNK_CTL_UNCLIM n.val ≤ (s.lane n.val).uncRow + 1 → t.get LNK_STAT_STATE n.val = 1) ∧
       ((s.get LNK_STAT_STATE n.val ≠ 6 ∨ (s.lane n.val).uncRow + 1 < s.get LNK_CTL_UNCLIM n.val) →
         t.get LNK_STAT_STATE n.val = s.get LNK_STAT_STATE n.val ∧ (t.lane n.val).uncRow = (s.lane n.val).uncRow + 1)) ∧
  -- correctedCodeword
  (∀ (n : Lane) (wrong : Fin 273) (s : State), 4 ≤ s.get LNK_STAT_STATE n.val → s.get LNK_STAT_STATE n.val ≤ 6 → wrong.val ≤ 7 →
     ∃ t, Machine.exec (.uncorrectableCodeword n wrong) s = .next t ∧
       t.get LNK_FEC_CORR n.val = min (s.get LNK_FEC_CORR n.val + wrong.val) (2 ^ LNK_FEC_CORR.width - 1) ∧ (t.lane n.val).uncRow = 0 ∧
       Keeps { regs := [.lnk], lanes := true } s t) ∧
  -- codewordUnframed
  (∀ (n : Lane) (wrong : Fin 273) (s : State), (s.get LNK_STAT_STATE n.val < 4 ∨ 6 < s.get LNK_STAT_STATE n.val) →
     Machine.exec (.uncorrectableCodeword n wrong) s = .next s)

/-- A lane sends its waiting message of the first rank with the time base where 07 R210 asks for it, answers TSREQ, takes credits and
PSTAT, and flags what it must not receive (07 R204, R210, R211, R213). Its beats leave one by one, each at the next position of its kind
in the superframe, with the SYNC of each superframe that begins on the way (07 R191, R193); from LOCK on a position with nothing to carry
is idle (07 R192); that a command which sends says that its position has come is the model's choice (log 61). Completion, under conditions on the state and the operands alone: exec answers a next state with the effect of
controlMessageSend, timestampPeriod, tsreq, tsrsp, credit, pstat, reservedCtype, beatKindMismatch. (07 R204; 07 R210; 07 R211; 07 R213; 07
R192; 07 R191; 07 R193) -/
def Obligations.LaneMessages : Prop :=
  -- controlMessageSend
  (∀ (n : Lane) (m : Ctl) (s : State), s.get LNK_STAT_STATE n.val = 6 → (s.lane n.val).sending = [] → nextCtl (s.lane n.val).ctl = some m →
     s.hasPosition n.val 2 = true →
     ∃ t sf b, Machine.exec (.controlMessageSend n) s = .next t ∧
       OutMsg.beat n.val sf b ((controlBeats m.ctype (s.ctlBeats m)).headD idleBeat) ∈ t.out ∧
       (t.lane n.val).sending = (controlBeats m.ctype (s.ctlBeats m)).drop 1 ∧
       (t.lane n.val).ctl = (s.lane n.val).ctl.erase m ∧ (m.ctype = 2 → (t.lane n.val).tsOut = true ∧ (t.lane n.val).lastTs = s.tb16 0) ∧
       Keeps { lanes := true, out := true } s t) ∧
  -- controlMessageNextBeat
  (∀ (n : Lane) (w : Nat) (rest : List Nat) (s : State), (s.lane n.val).sending = w :: rest → s.hasPosition n.val 2 = true →
     s.get LNK_STAT_STATE n.val ≠ 5 →
     ∃ t sf b, Machine.exec (.controlMessageSend n) s = .next t ∧ OutMsg.beat n.val sf b w ∈ t.out ∧ (t.lane n.val).sending = rest ∧
       (t.lane n.val).ctl = (s.lane n.val).ctl ∧ Keeps { lanes := true, out := true } s t) ∧
  -- beatPosition
  (∀ (n kind w : Nat) (s : State), s.hasPosition n kind = true →
     ∃ sf b l, (s.sendAt n kind w).out = s.out ++ l ++ [OutMsg.beat n sf b w] ∧ kindAt (s.lane n).calInForce b = kind ∧ b % 8224 ≠ 0 ∧
       ((l = [] ∧ sf = (s.lane n).txSf) ∨ (l = [OutMsg.beat n sf 0 (syncBeat (s.lane n).calInForce sf)] ∧ sf = (s.lane n).txSf + 1))) ∧
  -- controlMessageSendIdle
  (∀ (n : Lane) (s : State), (s.lane n.val).ctl = [] → (s.lane n.val).sending = [] → 3 ≤ s.get LNK_STAT_STATE n.val →
     s.get LNK_STAT_STATE n.val ≤ 6 → s.hasPosition n.val 2 = true →
     ∃ t sf b, Machine.exec (.controlMessageSend n) s = .next t ∧ OutMsg.beat n.val sf b idleBeat ∈ t.out ∧
       Keeps { lanes := true, out := true } s t) ∧
  -- controlMessageSendNone
  (∀ (n : Lane) (s : State), (s.lane n.val).ctl = [] → (s.lane n.val).sending = [] →
     (s.get LNK_STAT_STATE n.val < 3 ∨ 6 < s.get LNK_STAT_STATE n.val) → Machine.exec (.controlMessageSend n) s = .next s) ∧
  -- timestampPeriod
  (∀ (n : Lane) (s : State), s.get LNK_STAT_STATE n.val = 6 →
     (s.lane n.val).lastTs / 16 + s.get LNK_CTL_TSPER n.val * 4096 ≤ s.tb → (∀ m ∈ (s.lane n.val).ctl, m.ctype ≠ 2) →
     Machine.exec (.timestampPeriod n) s = .next (s.setLane n.val { s.lane n.val with ctl := (s.lane n.val).ctl ++ [⟨2, []⟩] })) ∧
  -- tsreq
  (∀ (n : Lane) (t1 : Word) (sub : Fin 16) (s : State), 4 ≤ s.get LNK_STAT_STATE n.val → s.get LNK_STAT_STATE n.val ≤ 6 →
     ∃ t, Machine.exec (.tsreq n t1 sub) s = .next t ∧
       (t.lane n.val).ctl = (s.lane n.val).ctl ++ [⟨3, [t1.toNat, s.tb16 sub.val]⟩] ∧ Keeps { lanes := true } s t) ∧
  -- tsrspUp
  (∀ (n : Lane) (t1 t2 t3 : Word) (sub : Fin 16) (s : State), (s.lane n.val).tsOut = true → (s.lane n.val).lastTs = t1.toNat →
     s.get LNK_STAT_STATE n.val = 6 →
     ∃ t, Machine.exec (.tsrsp n t1 t2 t3 sub) s = .next t ∧
       t.get LNK_LAT_OFFSET n.val = wrap (openDiv (tripOffset t1.toNat t2.toNat t3.toNat (s.tb16 sub.val)) 2) 24 ∧
       (t.lane n.val).tsOut = false ∧ t.get LNK_LAT_LAT n.val = s.get LNK_LAT_LAT n.val ∧ Keeps { regs := [.lnk], lanes := true } s t) ∧
  -- tsrspMeasure
  (∀ (n : Lane) (t1 t2 t3 : Word) (sub : Fin 16) (s : State), (s.lane n.val).tsOut = true → (s.lane n.val).lastTs = t1.toNat →
     s.get LNK_STAT_STATE n.val = 4 →
     ∃ t, Machine.exec (.tsrsp n t1 t2 t3 sub) s = .next t ∧ (t.lane n.val).measN = (s.lane n.val).measN + 1 ∧
       (t.lane n.val).measLat = (s.lane n.val).measLat + tripLat t1.toNat t2.toNat t3.toNat (s.tb16 sub.val) ∧
       Keeps { lanes := true } s t) ∧
  -- credit
  (∀ (n : Lane) (c : BitVec 32) (k : Fin 4) (s : State), s.get LNK_STAT_STATE n.val = 6 →
     ∃ t, Machine.exec (.credit n c) s = .next t ∧
       (t.lane n.val).cred.getD k.val 0 = min 255 ((s.lane n.val).cred.getD k.val 0 + c.toNat / 2 ^ (8 * k.val) % 256) ∧
       (t.lane n.val).uncRow = 0 ∧ Keeps { lanes := true } s t) ∧
  -- pstat
  (∀ (n : Lane) (w : Word) (s : State), s.get LNK_STAT_STATE n.val = 6 → w.getLsbD 3 = false →
     ∃ t, Machine.exec (.pstat n w) s = .next t ∧ (t.lane n.val).partnerMode = w.toNat % 8 ∧ (t.lane n.val).partnerArmed = w.getLsbD 4 ∧
       Keeps { lanes := true } s t) ∧
  -- pstatRetrain
  (∀ (n : Lane) (w : Word) (s : State), s.get LNK_STAT_STATE n.val = 6 → w.getLsbD 3 = true →
     ∃ t, Machine.exec (.pstat n w) s = .next t ∧ t.get LNK_STAT_STATE n.val = 1 ∧ t.flag LNK_STAT_READY n.val = false) ∧
  -- reservedCtype
  (∀ (n : Lane) (ctype kind : BitVec 4) (s : State), 4 ≤ s.get LNK_STAT_STATE n.val → s.get LNK_STAT_STATE n.val ≤ 6 →
     (0xA ≤ ctype.toNat ∨ (ctype.toNat = 7 ∧ 0xC ≤ kind.toNat)) →
     ∃ t, Machine.exec (.reservedCtype n ctype kind) s = .next t ∧ t.flag LNK_STAT_CTLUNK n.val = true ∧
       Keeps { regs := [.lnk, .lec, .gec], lanes := true, fresh := true } s t) ∧
  -- beatKindMismatch
  (∀ (n : Lane) (s : State), 4 ≤ s.get LNK_STAT_STATE n.val → s.get LNK_STAT_STATE n.val ≤ 6 →
     ∃ t, Machine.exec (.beatKindMismatch n) s = .next t ∧ t.flag LNK_STAT_CALERR n.val = true ∧
       Keeps { regs := [.lnk, .lec, .gec], lanes := true, fresh := true } s t)

/-- An unscheduled pair enters its class queue of 64; LNK_UTXD queues a pair or sets UTXFULL at eight; POP removes the oldest pair of the
selected class and returns its credit; LNK_CAL takes a legal calendar outside RUN and ignores any other. A scheduled position sends the
oldest queued flit once TXFIX has passed, with LANE_TXLATE when it is beyond WMAX, and none while the lane is not ready; a received
scheduled beat waits in the pad for its ingress cycle, or is late. A beat at a position that no logical lane carries sets CALERR and goes
nowhere; a flit to a partner that cannot roll back is recorded in the output log before it leaves, stays where that log is full, and is
fenced in a replay (08 R235, R236, R244). A position is the next of its kind as the command comes (log 61). Completion, under conditions on the state and the operands
alone: exec answers a next state with the effect of scheduledFlitTransmit, scheduledBeat, unscheduledPair, utxdWrite, urxPop, lnkCalWrite.
(07 R191; 07 R213; 07 R214; 07 R194; 07 R198; 07 R199; 07 R200; 08 R235; 08 R236; 08 R244) -/
def Obligations.LaneTraffic : Prop :=
  -- unscheduledPair
  (∀ (n : Lane) (cls : BitVec 2) (head data : Word) (s : State), s.get LNK_STAT_STATE n.val = 6 → s.flag LNK_STAT_READY n.val = true →
     (s.lane n.val).rxq.countP (fun p => p.1 == cls.toNat) < 64 →
     ∃ t, Machine.exec (.unscheduledPair n cls head data) s = .next t ∧
       t.lane n.val = { s.lane n.val with uncRow := 0, rxq := (s.lane n.val).rxq ++ [(cls.toNat, BitVec.ofNat 64 (head.toNat % 2 ^ 44), data)] } ∧
       (∀ m, m ≠ n.val → t.lane m = s.lane m) ∧ Keeps { lanes := true } s t) ∧
  -- unscheduledPairLost
  (∀ (n : Lane) (cls : BitVec 2) (head data : Word) (s : State), (s.get LNK_STAT_STATE n.val ≠ 6 ∨ s.flag LNK_STAT_READY n.val = false ∨
     64 ≤ (s.lane n.val).rxq.countP (fun p => p.1 == cls.toNat)) →
     ∃ t, Machine.exec (.unscheduledPair n cls head data) s = .next t ∧ (t.lane n.val).rxq = (s.lane n.val).rxq ∧ Keeps { lanes := true } s t) ∧
  -- utxdWrite
  (∀ (n : Lane) (v : Word) (s : State), s.laneOn n.val = true →
     ∃ t, Machine.exec (.utxdWrite n v) s = .next t ∧
       ((s.lane n.val).utx.length < 8 →
         (t.lane n.val).utx = (s.lane n.val).utx ++ [(s.tb, BitVec.ofNat 64 ((s.lane n.val).utxh.toNat % 2 ^ 44), v)] ∧ Keeps { lanes := true } s t) ∧
       (8 ≤ (s.lane n.val).utx.length → t.flag LNK_STAT_UTXFULL n.val = true ∧ Keeps { regs := [.lnk, .lec, .gec], fresh := true } s t)) ∧
  -- urxPop
  (∀ (n : Lane) (p : Nat × Word × Word) (s : State), s.laneOn n.val = true → s.urxHead n.val = some p → s.get LNK_STAT_STATE n.val = 6 →
     Machine.exec (.urxPop n) s =
       .next (s.setLane n.val { s.lane n.val with rxq := (s.lane n.val).rxq.erase p, ctl := (s.lane n.val).ctl ++ [⟨5, [2 ^ (8 * p.1)]⟩] })) ∧
  -- urxPopEmpty
  (∀ (n : Lane) (s : State), s.urxHead n.val = none → Machine.exec (.urxPop n) s = .next s) ∧
  -- lnkCalWrite
  (∀ (n : Lane) (v : Word) (s : State), s.laneOn n.val = true →
     ∃ t, Machine.exec (.lnkCalWrite n v) s = .next t ∧
       t.get LNK_CAL_KINDS n.val = (if s.quiet = true ∧ calLegal v.toNat = true then v.toNat else s.get LNK_CAL_KINDS n.val) ∧
       Keeps { regs := [.lnk] } s t) ∧
  -- scheduledFlitTransmit
  (∀ (n : Lane) (f : TxFlit) (rest : List TxFlit) (s : State), (s.lane n.val).txq = f :: rest →
     s.get LNK_STAT_STATE n.val = 6 → s.flag LNK_STAT_READY n.val = true → f.c + s.txFix ≤ s.tb → s.tb ≤ f.c + s.txFix + s.wMax n.val → s.noRollback n.val = false → s.hasPosition n.val 0 = true →
     ∃ t sf b, Machine.exec (.scheduledFlitTransmit n) s = .next t ∧ (t.lane n.val).txq = rest ∧
       OutMsg.beat n.val sf b (mkBeat (.scheduled f.epoch (BitVec.ofNat 6 f.c)) f.val.toNat (parByte f.val.toNat ^^^ f.bad.toNat)) ∈ t.out ∧
       Keeps { lanes := true, out := true } s t) ∧
  -- scheduledFlitTransmitLogged
  (∀ (n : Lane) (f : TxFlit) (rest : List TxFlit) (s : State), (s.lane n.val).txq = f :: rest →
     s.get LNK_STAT_STATE n.val = 6 → s.flag LNK_STAT_READY n.val = true → f.c + s.txFix ≤ s.tb → s.tb ≤ f.c + s.txFix + s.wMax n.val → s.noRollback n.val = true → s.hasPosition n.val 0 = true →
     s.mode = .run → s.flag CKP_STAT_REPLAY = false → (s.tile ((s.logicalOf n.val).getD n.val / 64)).isFull true = false →
     ∃ t sf b, Machine.exec (.scheduledFlitTransmit n) s = .next t ∧ (t.lane n.val).txq = rest ∧
       OutMsg.beat n.val sf b (mkBeat (.scheduled f.epoch (BitVec.ofNat 6 f.c)) f.val.toNat (parByte f.val.toNat ^^^ f.bad.toNat)) ∈ t.out ∧
       (t.tile ((s.logicalOf n.val).getD n.val / 64)).outPos = (s.tile ((s.logicalOf n.val).getD n.val / 64)).outPos + 1 ∧
       t.num (s.logAddr ((s.logicalOf n.val).getD n.val / 64) true (s.tile ((s.logicalOf n.val).getD n.val / 64)).outPos) 16 =
         logRecord f.val.toNat 3
           (if (s.lane ((s.logicalOf n.val).getD n.val)).outStroke = s.stroke.no then (s.lane ((s.logicalOf n.val).getD n.val)).outN else 0)
           ((s.logicalOf n.val).getD n.val % 64) ((f.c - s.stroke.tk) % 65536) f.epoch) ∧
  -- scheduledFlitTransmitLogFull
  (∀ (n : Lane) (f : TxFlit) (rest : List TxFlit) (s : State), (s.lane n.val).txq = f :: rest →
     s.get LNK_STAT_STATE n.val = 6 → s.flag LNK_STAT_READY n.val = true → f.c + s.txFix ≤ s.tb → s.tb ≤ f.c + s.txFix + s.wMax n.val →
     s.noRollback n.val = true → s.hasPosition n.val 0 = true →
     s.mode = .run → s.flag CKP_STAT_REPLAY = false → (s.tile ((s.logicalOf n.val).getD n.val / 64)).isFull true = true →
     ∃ t, Machine.exec (.scheduledFlitTransmit n) s = .next t ∧ t.flag CKP_STAT_LOGFULL = true ∧
       (∀ m sf b w, OutMsg.beat m sf b w ∈ t.out → OutMsg.beat m sf b w ∈ s.out)) ∧
  -- scheduledFlitTransmitFenced
  (∀ (n : Lane) (f : TxFlit) (rest : List TxFlit) (s : State), (s.lane n.val).txq = f :: rest →
     s.get LNK_STAT_STATE n.val = 6 → s.flag LNK_STAT_READY n.val = true → f.c + s.txFix ≤ s.tb → s.tb ≤ f.c + s.txFix + s.wMax n.val →
     s.noRollback n.val = true → s.hasPosition n.val 0 = true → s.flag CKP_STAT_REPLAY = true →
     ∃ t, Machine.exec (.scheduledFlitTransmit n) s = .next t ∧
       (∀ m sf b w, OutMsg.beat m sf b w ∈ t.out → OutMsg.beat m sf b w ∈ s.out)) ∧
  -- scheduledFlitTransmitOutsideRun
  (∀ (n : Lane) (f : TxFlit) (rest : List TxFlit) (s : State), (s.lane n.val).txq = f :: rest →
     s.get LNK_STAT_STATE n.val = 6 → s.flag LNK_STAT_READY n.val = true → f.c + s.txFix ≤ s.tb → s.tb ≤ f.c + s.txFix + s.wMax n.val →
     s.noRollback n.val = true → s.hasPosition n.val 0 = true → s.mode ≠ .run → s.flag CKP_STAT_REPLAY = false →
     ∃ t sf b, Machine.exec (.scheduledFlitTransmit n) s = .next t ∧ (t.lane n.val).txq = rest ∧
       OutMsg.beat n.val sf b (mkBeat (.scheduled f.epoch (BitVec.ofNat 6 f.c)) f.val.toNat (parByte f.val.toNat ^^^ f.bad.toNat)) ∈ t.out ∧
       Keeps { lanes := true, out := true } s t) ∧
  -- scheduledFlitTransmitLate
  (∀ (n : Lane) (f : TxFlit) (rest : List TxFlit) (s : State), (s.lane n.val).txq = f :: rest →
     s.get LNK_STAT_STATE n.val = 6 → s.flag LNK_STAT_READY n.val = true → f.c + s.txFix + s.wMax n.val < s.tb → s.hasPosition n.val 0 = true →
     ∃ t, Machine.exec (.scheduledFlitTransmit n) s = .next t ∧ t.flag LNK_STAT_TXLATE n.val = true ∧
       (∀ m sf b w, OutMsg.beat m sf b w ∈ t.out → OutMsg.beat m sf b w ∈ s.out)) ∧
  -- scheduledFlitTransmitEarly
  (∀ (n : Lane) (f : TxFlit) (rest : List TxFlit) (s : State), (s.lane n.val).txq = f :: rest →
     s.get LNK_STAT_STATE n.val = 6 → s.flag LNK_STAT_READY n.val = true → s.tb < f.c + s.txFix → s.hasPosition n.val 0 = true →
     ∃ t sf b, Machine.exec (.scheduledFlitTransmit n) s = .next t ∧ (t.lane n.val).txq = (s.lane n.val).txq ∧
       OutMsg.beat n.val sf b idleBeat ∈ t.out ∧ Keeps { lanes := true, out := true } s t) ∧
  -- scheduledFlitTransmitNotReady
  (∀ (n : Lane) (f : TxFlit) (rest : List TxFlit) (s : State), (s.lane n.val).txq = f :: rest →
     (s.get LNK_STAT_STATE n.val ≠ 6 ∨ s.flag LNK_STAT_READY n.val = false) → Machine.exec (.scheduledFlitTransmit n) s = .next s) ∧
  -- scheduledBeat
  (∀ (n : Lane) (data : Word) (par : Byte) (epoch : Bool) (ts : BitVec 6) (hit : Upset) (g c k : Nat) (s : State), s.get LNK_STAT_STATE n.val = 6 →
     s.logicalAny n.val = some g → s.carries n.val = true → s.rebuild n.val ts.toNat = some c →
     s.tb ≤ c + s.txFix + s.wMax n.val + s.latCyc n.val + s.skewCyc →
     k = (match s.strokeAt (c + s.txFix + s.wMax n.val + s.latCyc n.val + s.skewCyc) with
       | some q => sget (s.lane g).rxCount q 0
       | none => 0) →
     k < s.get LNK_RXCFG_LEN g →
     ∃ t, Machine.exec (.scheduledBeat n data par epoch ts hit) s = .next t ∧
       t.pads = s.pads ++ [⟨g, c + s.txFix + s.wMax n.val + s.latCyc n.val + s.skewCyc, k, data,
         BitVec.ofNat 8 (parByte data.toNat) ^^^ par, epoch, s.noRollback n.val, hit⟩] ∧ t.flits = s.flits ∧
       Keeps { regs := [.lnk], lanes := true, flits := true } s t) ∧
  -- scheduledBeatBehindItsIngress
  (∀ (n : Lane) (data : Word) (par : Byte) (epoch : Bool) (ts : BitVec 6) (hit : Upset) (g c : Nat) (s : State), s.get LNK_STAT_STATE n.val = 6 →
     s.logicalAny n.val = some g → s.carries n.val = true → s.rebuild n.val ts.toNat = some c →
     c + s.txFix + s.wMax n.val + s.latCyc n.val + s.skewCyc < s.tb →
     ∃ t, Machine.exec (.scheduledBeat n data par epoch ts hit) s = .next t ∧ t.flag LNK_STAT_RXLATE n.val = true ∧ t.pads = s.pads ∧
       Keeps { regs := [.lnk, .lec, .gec], lanes := true, fresh := true } s t) ∧
  -- scheduledBeatLate
  (∀ (n : Lane) (data : Word) (par : Byte) (epoch : Bool) (ts : BitVec 6) (hit : Upset) (g : Nat) (s : State), s.get LNK_STAT_STATE n.val = 6 →
     s.logicalAny n.val = some g → s.carries n.val = true → s.rebuild n.val ts.toNat = none →
     ∃ t, Machine.exec (.scheduledBeat n data par epoch ts hit) s = .next t ∧ t.flag LNK_STAT_RXLATE n.val = true ∧ t.pads = s.pads ∧
       Keeps { regs := [.lnk, .lec, .gec], lanes := true, fresh := true } s t) ∧
  -- scheduledBeatNotCarried
  (∀ (n : Lane) (data : Word) (par : Byte) (epoch : Bool) (ts : BitVec 6) (hit : Upset) (s : State), s.get LNK_STAT_STATE n.val = 6 →
     (s.logicalAny n.val = none ∨ s.carries n.val = false) →
     ∃ t, Machine.exec (.scheduledBeat n data par epoch ts hit) s = .next t ∧ t.flag LNK_STAT_CALERR n.val = true ∧ t.pads = s.pads ∧
       Keeps { regs := [.lnk, .lec, .gec], lanes := true, fresh := true } s t)

/-- LANE_REMAP_COMMIT of a legal shadow map makes it live and sets BUSY, an illegal one sets ERR with the failing check; LANE_REMAP_REVERT
copies the live map back (07 R219). The live map changes at the commit command, with BUSY until COMMIT_COMPLETE (log 38). Completion, under conditions on the state and the operands alone: exec answers a next state with the
effect of laneRemapCommit, laneRemapRevert. (07 R219; 07 R218; 07 R216) -/
def Obligations.LaneMaps : Prop :=
  -- laneRemapCommit
  (∀ (tl : Tile) (l : Fin 64) (s : State), s.domOn (712 + tl.val) = true → s.flag LNK_REMAP_CTL_BUSY tl.val = false →
     s.laneCommitError tl.val = none →
     ∃ t, Machine.exec (.laneRemapCommit tl) s = .next t ∧ t.laneMap (64 * tl.val + l.val) = s.laneShadow (64 * tl.val + l.val) ∧
       t.flag LNK_REMAP_CTL_BUSY tl.val = true ∧ (∀ g, g / 64 ≠ tl.val → t.laneMap g = s.laneMap g) ∧
       Keeps { regs := [.lnk], lanes := true, liveLanes := true } s t) ∧
  -- laneRemapCommitRefused
  (∀ (tl : Tile) (c l : Nat) (s : State), s.domOn (712 + tl.val) = true → s.flag LNK_REMAP_CTL_BUSY tl.val = false →
     s.laneCommitError tl.val = some (c, l) →
     ∃ t, Machine.exec (.laneRemapCommit tl) s = .next t ∧ t.flag LNK_REMAP_CTL_ERR tl.val = true ∧ t.get LNK_REMAP_CTL_ERRCODE tl.val = c ∧
       t.get LNK_REMAP_CTL_ERRL tl.val = l ∧ Keeps { regs := [.lnk] } s t) ∧
  -- laneRemapRevert
  (∀ (tl : Tile) (l : Fin 64) (s : State), s.domOn (712 + tl.val) = true → s.flag LNK_REMAP_CTL_BUSY tl.val = false →
     s.laneMap (64 * tl.val + l.val) < 512 →
     ∃ t, Machine.exec (.laneRemapRevert tl) s = .next t ∧
       t.laneShadow (64 * tl.val + l.val) = s.laneMap (64 * tl.val + l.val) % 64 + 256 * (s.laneMap (64 * tl.val + l.val) / 256) ∧
       Keeps { regs := [.lnk] } s t)

/-- An ANNOUNCE received in UP for the first time is relayed on the other lanes of the mesh and acted on: RESUME fixes the start of the
next stroke, COMPLETE ends the pause, whose length enters CLK_PAUSE_ACC then (log 29), reports enter the master's table; a repeated one changes nothing but the lane's row of uncorrectable
codewords (07 R212, 08 R224, R229, R238, R239, R242). CKP_DONE and its variants, RESTORED and HELD count at the master once from each
module, a report to a follower is passed on alone, and a RESTORE in SERVICE waits there for its end. Completion, under conditions on the
state and the operands alone: exec answers a next state with the effect of annStart, annResume, ckpDone, ckpSwapped, ckpCancelled,
ckpFailed, annComplete, restored, held, heldFault, heldStop, annRestore. (07 R212; 08 R224; 08 R229; 08 R238; 08 R239; 02 R36; 16 R433) -/
def Obligations.AnnouncementsReceived : Prop :=
  -- annResume
  (∀ (a : AnnSource) (v : Word) (s : State), s.get LNK_STAT_STATE a.lane.val = 6 → s.seen a.origin.toNat a.seq.toNat = false → s.mode = .hold →
     ∃ t, Machine.exec (.annResume a v) s = .next t ∧ t.stroke.nextAt = some v.toNat ∧
       t.stroke.nextNo = s.ckp.restoreTo.getD (s.stroke.no + 1) ∧ t.flag TRC_HSTROKE_VALID = false ∧
       t.seen a.origin.toNat a.seq.toNat = true ∧ Keeps { regs := [.trc], lanes := true, ckp := true, stroke := true } s t) ∧
  -- annResumeElsewhere
  (∀ (a : AnnSource) (v : Word) (s : State), s.get LNK_STAT_STATE a.lane.val = 6 → s.seen a.origin.toNat a.seq.toNat = false → s.mode ≠ .hold →
     ∃ t, Machine.exec (.annResume a v) s = .next t ∧ t.seen a.origin.toNat a.seq.toNat = true ∧ Keeps { lanes := true, ckp := true } s t) ∧
  -- annStart
  (∀ (a : AnnSource) (v : Word) (s : State), s.get LNK_STAT_STATE a.lane.val = 6 → s.seen a.origin.toNat a.seq.toNat = false →
     s.mode = .ready → s.flag MGT_MODE_ARMED = true → s.tb ≤ v.toNat →
     ∃ t, Machine.exec (.annStart a v) s = .next t ∧ t.get CLK_TSTART_TSTART = v.toNat ∧ t.stroke.entryDone = true ∧ t.seen a.origin.toNat a.seq.toNat = true) ∧
  -- annStartPast
  (∀ (a : AnnSource) (v : Word) (s : State), s.get LNK_STAT_STATE a.lane.val = 6 → s.seen a.origin.toNat a.seq.toNat = false →
     s.mode = .ready → s.flag MGT_MODE_ARMED = true → v.toNat < s.tb →
     ∃ t, Machine.exec (.annStart a v) s = .next t ∧ t.flag MGT_MODE_MISSED = true ∧ t.stroke.entryDone = false ∧ t.mode = .ready) ∧
  -- annStartMissed
  (∀ (a : AnnSource) (v : Word) (s : State), s.get LNK_STAT_STATE a.lane.val = 6 → s.seen a.origin.toNat a.seq.toNat = false → s.mode = .ready → s.flag MGT_MODE_ARMED = false →
     ∃ t, Machine.exec (.annStart a v) s = .next t ∧ t.flag MGT_MODE_MISSED = true ∧ t.get CLK_TSTART_TSTART = s.get CLK_TSTART_TSTART ∧
       Keeps { regs := [.mgt], lanes := true, ckp := true } s t) ∧
  -- annComplete
  (∀ (a : AnnSource) (v : Word) (s : State), s.get LNK_STAT_STATE a.lane.val = 6 → s.seen a.origin.toNat a.seq.toNat = false →
     s.inCheckpoint = true → v.toNat ≠ holdValue → s.pins.waitHold = false →
     ∃ t, Machine.exec (.annComplete a v) s = .next t ∧ t.stroke.nextAt = some v.toNat ∧ t.get CKP_STAT_LASTSLOT = s.targetSlot % 2 ∧
       t.get CKP_LAST_STROKE = (s.stroke.no + 1) % 2 ^ 64 ∧ t.ckp.pauseEnd = some (max v.toNat (s.stroke.tk + s.stroke.period)) ∧
       t.get CLK_PAUSE_ACC_ACC = (s.get CLK_PAUSE_ACC_ACC + (v.toNat - (s.stroke.tk + s.stroke.period))) % 2 ^ 64) ∧
  -- annCompleteHold
  (∀ (a : AnnSource) (v : Word) (s : State), s.get LNK_STAT_STATE a.lane.val = 6 → s.seen a.origin.toNat a.seq.toNat = false →
     s.inCheckpoint = true → v.toNat = holdValue → s.pins.waitHold = false →
     ∃ t, Machine.exec (.annComplete a v) s = .next t ∧ (s.stroke.no, s.stroke.no) ∈ t.ckp.holdTargets ∧ t.stroke.nextAt = s.stroke.nextAt ∧
       t.get CKP_LAST_STROKE = (s.stroke.no + 1) % 2 ^ 64) ∧
  -- ckpDone
  (∀ (a : AnnSource) (v : Word) (s : State), s.get LNK_STAT_STATE a.lane.val = 6 → s.seen a.origin.toNat a.seq.toNat = false →
     s.mode ≠ .service → s.isMaster = true → v.toNat = s.stroke.no →
     (addReport ⟨a.origin.toNat, 2, v.toNat⟩ isDone s.ckp.reports).countP (fun r => isDone r.kind) < s.img.modules →
     ∃ t, Machine.exec (.ckpDone a v) s = .next t ∧ t.ckp.reports = addReport ⟨a.origin.toNat, 2, v.toNat⟩ isDone s.ckp.reports ∧
       Keeps { lanes := true, ckp := true } s t) ∧
  -- ckpSwapped
  (∀ (a : AnnSource) (v : Word) (s : State), s.get LNK_STAT_STATE a.lane.val = 6 → s.seen a.origin.toNat a.seq.toNat = false →
     s.mode ≠ .service → s.isMaster = true → v.toNat = s.stroke.no →
     (addReport ⟨a.origin.toNat, 3, v.toNat⟩ isDone s.ckp.reports).countP (fun r => isDone r.kind) < s.img.modules →
     ∃ t, Machine.exec (.ckpSwapped a v) s = .next t ∧ t.ckp.reports = addReport ⟨a.origin.toNat, 3, v.toNat⟩ isDone s.ckp.reports ∧
       Keeps { lanes := true, ckp := true } s t) ∧
  -- ckpCancelled
  (∀ (a : AnnSource) (v : Word) (s : State), s.get LNK_STAT_STATE a.lane.val = 6 → s.seen a.origin.toNat a.seq.toNat = false →
     s.mode ≠ .service → s.isMaster = true → v.toNat = s.stroke.no →
     (addReport ⟨a.origin.toNat, 4, v.toNat⟩ isDone s.ckp.reports).countP (fun r => isDone r.kind) < s.img.modules →
     ∃ t, Machine.exec (.ckpCancelled a v) s = .next t ∧ t.ckp.reports = addReport ⟨a.origin.toNat, 4, v.toNat⟩ isDone s.ckp.reports ∧
       Keeps { lanes := true, ckp := true } s t) ∧
  -- ckpFailed
  (∀ (a : AnnSource) (v : Word) (s : State), s.get LNK_STAT_STATE a.lane.val = 6 → s.seen a.origin.toNat a.seq.toNat = false →
     s.inCheckpoint = true → v.toNat = s.stroke.no →
     ∃ t, Machine.exec (.ckpFailed a v) s = .next t ∧ t.ckp.failed = true ∧ t.flag CKP_STAT_CKPFAIL = true ∧ (s.stroke.no, s.stroke.no) ∈ t.ckp.holdTargets) ∧
  -- ckpFailedElsewhere
  (∀ (a : AnnSource) (v : Word) (s : State), s.get LNK_STAT_STATE a.lane.val = 6 → s.seen a.origin.toNat a.seq.toNat = false → (s.inCheckpoint = false ∨ v.toNat ≠ s.stroke.no) →
     ∃ t, Machine.exec (.ckpFailed a v) s = .next t ∧ t.seen a.origin.toNat a.seq.toNat = true ∧ Keeps { lanes := true, ckp := true } s t) ∧
  -- restored
  (∀ (a : AnnSource) (v : Word) (s : State), s.get LNK_STAT_STATE a.lane.val = 6 → s.seen a.origin.toNat a.seq.toNat = false →
     s.isMaster = true → s.mode = .hold → (∀ r ∈ s.ckp.reports, r.kind ≠ 0xB) →
     (addReport ⟨a.origin.toNat, 7, v.toNat⟩ (· == 7) s.ckp.reports).countP (fun r => r.kind == 7) = max 1 s.img.modules →
     ∃ t x, Machine.exec (.restored a v) s = .next t ∧ t.stroke.nextAt = some x ∧ s.tb + 4096 ≤ x ∧ t.ckp.reports = []) ∧
  -- restoredEarly
  (∀ (a : AnnSource) (v : Word) (s : State), s.get LNK_STAT_STATE a.lane.val = 6 → s.seen a.origin.toNat a.seq.toNat = false →
     s.isMaster = true → s.mode = .hold →
     (addReport ⟨a.origin.toNat, 7, v.toNat⟩ (· == 7) s.ckp.reports).countP (fun r => r.kind == 7) < s.img.modules →
     ∃ t, Machine.exec (.restored a v) s = .next t ∧ t.ckp.reports = addReport ⟨a.origin.toNat, 7, v.toNat⟩ (· == 7) s.ckp.reports ∧
       Keeps { lanes := true, ckp := true } s t) ∧
  -- held
  (∀ (a : AnnSource) (v : Word) (s : State), s.get LNK_STAT_STATE a.lane.val = 6 → s.seen a.origin.toNat a.seq.toNat = false →
     s.mode ≠ .service → s.isMaster = true →
     (addReport ⟨a.origin.toNat, 8, v.toNat⟩ isHeld s.ckp.reports).countP (fun r => isHeld r.kind) < s.img.modules →
     ∃ t, Machine.exec (.held a v) s = .next t ∧ t.ckp.reports = addReport ⟨a.origin.toNat, 8, v.toNat⟩ isHeld s.ckp.reports ∧
       Keeps { lanes := true, ckp := true } s t) ∧
  -- heldFault
  (∀ (a : AnnSource) (v : Word) (s : State), s.get LNK_STAT_STATE a.lane.val = 6 → s.seen a.origin.toNat a.seq.toNat = false →
     s.mode ≠ .service → s.isMaster = true →
     (addReport ⟨a.origin.toNat, 9, v.toNat⟩ isHeld s.ckp.reports).countP (fun r => isHeld r.kind) < s.img.modules →
     ∃ t, Machine.exec (.heldFault a v) s = .next t ∧ t.ckp.reports = addReport ⟨a.origin.toNat, 9, v.toNat⟩ isHeld s.ckp.reports ∧
       Keeps { lanes := true, ckp := true } s t) ∧
  -- heldStop
  (∀ (a : AnnSource) (v : Word) (s : State), s.get LNK_STAT_STATE a.lane.val = 6 → s.seen a.origin.toNat a.seq.toNat = false →
     s.mode ≠ .service → s.isMaster = true →
     ∃ t, Machine.exec (.heldStop a v) s = .next t ∧ t.ckp.reports = addReport ⟨a.origin.toNat, 0xB, v.toNat⟩ isHeld s.ckp.reports ∧
       Keeps { lanes := true, ckp := true } s t) ∧
  -- reportToFollower
  (∀ (a : AnnSource) (v : Word) (c : Instr) (s : State), s.get LNK_STAT_STATE a.lane.val = 6 → s.seen a.origin.toNat a.seq.toNat = false → s.isMaster = false →
     c ∈ [Instr.ckpDone a v, .ckpSwapped a v, .ckpCancelled a v, .restored a v, .held a v, .heldFault a v, .heldStop a v] →
     ∃ t, Machine.exec c s = .next t ∧ t.seen a.origin.toNat a.seq.toNat = true ∧ t.ckp.reports = s.ckp.reports ∧
       Keeps { lanes := true, ckp := true } s t) ∧
  -- annRestore
  (∀ (a : AnnSource) (v : Word) (bad : Option (Tile × Fin 1024 × Fin 576)) (s : State), s.get LNK_STAT_STATE a.lane.val = 6 → s.seen a.origin.toNat a.seq.toNat = false → s.mode = .hold →
     ∃ t, Machine.exec (.annRestore a v bad) s = .next t ∧ t.mode = .hold ∧ t.ckp.restoreTo = some v.toNat ∧ t.ckp.cause = s.ckp.fltSince ∧
       t.stroke.nextAt = none ∧
       t.get CKP_HWM_STROKE =
         (if s.flag CKP_STAT_REPLAY = true then max s.stroke.no (s.get CKP_HWM_STROKE) else s.stroke.no) % 2 ^ 64) ∧
  -- annRestoreInService
  (∀ (a : AnnSource) (v : Word) (bad : Option (Tile × Fin 1024 × Fin 576)) (s : State), s.get LNK_STAT_STATE a.lane.val = 6 → s.seen a.origin.toNat a.seq.toNat = false → s.mode = .service →
     ∃ t, Machine.exec (.annRestore a v bad) s = .next t ∧ t.ckp.pendRestore = some v.toNat ∧ Keeps { lanes := true, ckp := true } s t) ∧
  -- annSeen
  (∀ (a : AnnSource) (v : Word) (bad : Option (Tile × Fin 1024 × Fin 576)) (s : State), s.seen a.origin.toNat a.seq.toNat = true →
     Machine.exec (.annStart a v) s = .next (s.beatIn a.lane.val) ∧ Machine.exec (.annResume a v) s = .next (s.beatIn a.lane.val) ∧ Machine.exec (.ckpDone a v) s = .next (s.beatIn a.lane.val) ∧
     Machine.exec (.ckpSwapped a v) s = .next (s.beatIn a.lane.val) ∧ Machine.exec (.ckpCancelled a v) s = .next (s.beatIn a.lane.val) ∧ Machine.exec (.ckpFailed a v) s = .next (s.beatIn a.lane.val) ∧
     Machine.exec (.annComplete a v) s = .next (s.beatIn a.lane.val) ∧ Machine.exec (.restored a v) s = .next (s.beatIn a.lane.val) ∧ Machine.exec (.held a v) s = .next (s.beatIn a.lane.val) ∧
     Machine.exec (.heldFault a v) s = .next (s.beatIn a.lane.val) ∧ Machine.exec (.heldStop a v) s = .next (s.beatIn a.lane.val) ∧ Machine.exec (.annRestore a v bad) s = .next (s.beatIn a.lane.val))

/-- HOLDREQ is relayed once and taken: in RUN the hold falls at max of the two strokes; REQHOLD sends one for CKP_HOLDAT; at the end of
the hold stroke the module enters HOLD with every scheduled flit discarded (08 R237, R254, 06 R184). After P-33 of a stroke the hold falls
on a later one, and a request in HOLD for a stroke to come is kept; in the other modes, SERVICE among them, it is only relayed (log 205).
REQHOLD is a register's bit, and ignored while domain 760 is off (13 R353). Completion, under conditions on the state and the operands alone: exec
answers a next state with the effect of holdreq, holdEntry, reqhold. (08 R237; 08 R254; 06 R184; 07 R201; 07 R212) -/
def Obligations.HoldRequests : Prop :=
  -- holdreq
  (∀ (n : Lane) (origin : BitVec 32) (seq : BitVec 16) (k : Word) (s : State), s.get LNK_STAT_STATE n.val = 6 →
     s.seen origin.toNat seq.toNat = false → s.mode = .run → s.stroke.started = true → s.cyc + 33 ≤ s.stroke.period →
     ∃ t, Machine.exec (.holdreq n origin seq k) s = .next t ∧ t.ckp.holdTargets = s.ckp.holdTargets ++ [(k.toNat, max k.toNat s.stroke.no)] ∧
       t.seen origin.toNat seq.toNat = true ∧ Keeps { lanes := true, ckp := true } s t) ∧
  -- holdreqLate
  (∀ (n : Lane) (origin : BitVec 32) (seq : BitVec 16) (k : Word) (s : State), s.get LNK_STAT_STATE n.val = 6 →
     s.seen origin.toNat seq.toNat = false → s.mode = .run → s.stroke.period < s.cyc + 33 →
     ∃ t, Machine.exec (.holdreq n origin seq k) s = .next t ∧ t.ckp.holdTargets = s.ckp.holdTargets ++ [(k.toNat, max k.toNat (s.stroke.no + 1))] ∧
       Keeps { lanes := true, ckp := true } s t) ∧
  -- holdreqInHold
  (∀ (n : Lane) (origin : BitVec 32) (seq : BitVec 16) (k : Word) (s : State), s.get LNK_STAT_STATE n.val = 6 →
     s.seen origin.toNat seq.toNat = false → s.mode = .hold → s.ckp.restoreTo = none → s.stroke.no < k.toNat →
     ∃ t, Machine.exec (.holdreq n origin seq k) s = .next t ∧ t.ckp.holdTargets = s.ckp.holdTargets ++ [(k.toNat, k.toNat)] ∧
       Keeps { lanes := true, ckp := true } s t) ∧
  -- holdreqElsewhere
  (∀ (n : Lane) (origin : BitVec 32) (seq : BitVec 16) (k : Word) (s : State), s.get LNK_STAT_STATE n.val = 6 →
     s.seen origin.toNat seq.toNat = false → s.mode ≠ .run → s.mode ≠ .hold →
     ∃ t, Machine.exec (.holdreq n origin seq k) s = .next t ∧ t.ckp.holdTargets = s.ckp.holdTargets ∧
       t.seen origin.toNat seq.toNat = true ∧ Keeps { lanes := true, ckp := true } s t) ∧
  -- reqhold
  (∀ (s : State), s.domOn 760 = true → s.mode = .run → s.stroke.started = true → s.cyc + 33 ≤ s.stroke.period →
     ∃ t, Machine.exec .reqhold s = .next t ∧ t.ckp.holdTargets = s.ckp.holdTargets ++ [(s.get CKP_HOLDAT_STROKE, max (s.get CKP_HOLDAT_STROKE) s.stroke.no)] ∧
       t.ckp.seqNo = (s.ckp.seqNo + 1) % 65536 ∧ Keeps { lanes := true, ckp := true } s t) ∧
  -- reqholdAnyMode
  (∀ (s : State), s.domOn 760 = true → ∃ t, Machine.exec .reqhold s = .next t ∧ t.ckp.seqNo = (s.ckp.seqNo + 1) % 65536 ∧ Keeps { lanes := true, ckp := true } s t) ∧
  -- holdEntry
  (∀ (s : State), s.mode = .run → s.holdDue = true →
     (s.ckpStroke s.stroke.no = false ∧ s.stroke.tk + s.stroke.period ≤ s.tb ∨
       ∃ e, s.ckpStroke s.stroke.no = true ∧ s.ckp.pauseEnd = some e ∧ e ≤ s.tb) →
     ∃ t, Machine.exec .holdEntry s = .next t ∧ t.mode = .hold ∧ t.flits = [] ∧ t.sends = [] ∧ t.pads = [] ∧ t.stroke.nextAt = none ∧
       t.stroke.endLast = (s.ckp.pauseEnd).getD (s.stroke.tk + s.stroke.period) ∧ t.stroke.started = false ∧
       t.ckp.holdTargets = s.ckp.holdTargets.filter (fun h => decide (s.stroke.no < h.1))) ∧
  -- holdEntryNone
  (∀ (s : State), s.mayHold = false → Machine.exec .holdEntry s = .next s)

/-- The done report, slot preparation, the report wait, the end of a restore and the commands of CKP_CTL act as 08 R225, R226, R229, R239,
R242, R250 and R255 say, and only under their conditions. ADOPT of a checkpoint that is lost sets LOST and adopts nothing; SWACK notes
firmware's word; the fence is announced its lead ahead of the end of replay. A wait for reports ends once (log 46), and which record or
journal entry is unreadable, and which tiles corrected a line, are operands (log 193). The registers ignore writes while domain 760 is off
(13 R353). Completion, under conditions on the state and the operands
alone: exec answers a next state with the effect of doneReport, reportWaitTimeout, slotPreparation, restoreDone, go, restoreCommand,
adoptWrite, swackWrite, fenceLead. (08 R225; 08 R226; 08 R229; 08 R239; 08 R242; 08 R250; 08 R255; 08 R246; 13 R353; 13 R365) -/
def Obligations.CheckpointCommands : Prop :=
  -- doneReport
  (∀ (s : State), s.drainDone = true →
     ∃ t, Machine.exec .doneReport s = .next t ∧ t.ckp.reported = true ∧ t.mode = .run ∧
       (s.isMaster = false → t.ckp.seqNo = (s.ckp.seqNo + 1) % 65536 ∧ Keeps { lanes := true, ckp := true } s t)) ∧
  -- doneReportNone
  (∀ (s : State), s.drainDone = false → Machine.exec .doneReport s = .next s) ∧
  -- slotPreparation
  (∀ (tl : Tile) (lc : Fin 1024) (c : Nat) (s : State), s.liveL tl.val lc.val = some c → s.mode = .run → (s.cell c).prepared = false →
     (s.tile (c / 1088)).memq = [] →
     ∃ t, Machine.exec (.slotPreparation tl lc) s = .next t ∧ (t.cell c).prepared = true ∧ (t.cell c).prepAll = false ∧
       (s.inCheckpoint = true → s.stroke.flipped = true → (t.cell c).drained = true) ∧
       (s.inCheckpoint = false → Keeps { cells := true, mem := true } s t)) ∧
  -- slotPreparationErrors
  (∀ (tl : Tile) (lc : Fin 1024) (errs : LineErrs) (c : Nat) (s : State), s.liveL tl.val lc.val = some c → s.mode = .run →
     (s.cell c).prepared = false → (s.tile (c / 1088)).memq = [] → s.inCheckpoint = false →
     ∃ t, Machine.exec (.slotPreparation tl lc errs) s = .next t ∧ (t.cell c).prepared = true ∧ (t.cell c).prepAll = false) ∧
  -- slotPreparationWaits
  (∀ (tl : Tile) (lc : Fin 1024) (c : Nat) (s : State), s.liveL tl.val lc.val = some c → (s.tile (c / 1088)).memq ≠ [] →
     Machine.exec (.slotPreparation tl lc) s = .next s) ∧
  -- reportWaitTimeout
  (∀ (s : State), s.isMaster = true → s.inCheckpoint = true → s.allIn isDone = false → s.waited (s.stroke.tk + s.stroke.period) = true →
     ∃ t, Machine.exec .reportWaitTimeout s = .next t ∧ t.ckp.failed = true ∧ t.flag CKP_STAT_CKPFAIL = true ∧
       (s.stroke.no, s.stroke.no) ∈ t.ckp.holdTargets) ∧
  -- reportWaitTimeoutInHold
  (∀ (s : State), s.isMaster = true → s.waitOver = true →
     (s.ckp.restoreTo = none ∧ s.allIn isHeld = false ∨ s.ckp.restoreTo.isSome = true ∧ s.allIn (· == 7) = false) →
     ∃ t, Machine.exec .reportWaitTimeout s = .next t ∧ t.mode = .hold ∧ t.ckp.waitFrom = none ∧
       ⟨serialLow, 0xB, s.stroke.no⟩ ∈ t.ckp.reports) ∧
  -- reportWaitTimeoutFollower
  (∀ (s : State), s.isMaster = false → Machine.exec .reportWaitTimeout s = .next s) ∧
  -- restoreDone
  (∀ (r : Nat) (s : State), s.ckp.restoreTo = some r → s.mode = .hold → s.ckp.restoring = true → s.noCommit = true →
     s.flag CKP_CTL_HOLDOFF = false → s.tilesRestored = true →
     ∃ t, Machine.exec .restoreDone s = .next t ∧ t.ckp.restoring = false ∧ t.mode = .hold ∧
       (s.flag TRC_HSTROKE_VALID = false → s.isMaster = false → (∀ c ∈ s.liveCells, (s.cell c).moved = false) →
         t.ckp.seqNo = (s.ckp.seqNo + 1) % 65536 ∧ Keeps { lanes := true, ckp := true } s t)) ∧
  -- restoreDoneUnreadable
  (∀ (tl : Tile) (lc : Fin 1024) (k : Fin 576) (jbad : Option (Tile × Nat)) (fixed : List Tile) (r : Nat) (s : State), s.ckp.restoreTo = some r → s.mode = .hold →
     s.ckp.restoring = true → s.noCommit = true → s.flag CKP_CTL_HOLDOFF = false → s.tilesRestored = true →
     s.parityIntact tl.val 0 = false →
     ∃ t, Machine.exec (.restoreDone (some (tl, lc, k)) jbad fixed) s = .next t ∧ t.flag CKP_STAT_LOST = true ∧ t.ckp.restoring = false) ∧
  -- restoreDoneJournalUnreadable
  (∀ (tl : Tile) (k : Nat) (fixed : List Tile) (r : Nat) (s : State), s.ckp.restoreTo = some r → s.mode = .hold →
     s.ckp.restoring = true → s.noCommit = true → s.flag CKP_CTL_HOLDOFF = false → s.tilesRestored = true →
     s.parityIntact tl.val 0 = false →
     ∃ t, Machine.exec (.restoreDone none (some (tl, k)) fixed) s = .next t ∧ t.flag CKP_STAT_LOST = true ∧ t.ckp.restoring = false) ∧
  -- restoreDoneNotYet
  (∀ (bad : Option (Tile × Fin 1024 × Fin 576)) (jbad : Option (Tile × Nat)) (fixed : List Tile) (s : State), (s.mode ≠ .hold ∨ s.ckp.restoring = false ∨ s.noCommit = false ∨ s.flag CKP_CTL_HOLDOFF = true ∨ s.tilesRestored = false) →
     Machine.exec (.restoreDone bad jbad fixed) s = .next s) ∧
  -- go
  (∀ (s : State), s.domOn 760 = true → s.isMaster = true → s.mode = .hold → s.ckp.restoreTo = none → s.allIn isHeld = true → s.sameStroke = true →
     ((s.reportsOf isHeld).any (fun r => r.kind == 0xB) = true ∨ (s.reportsOf isHeld).all (fun r => r.kind == 8) = true) →
     ∃ t x, Machine.exec .go s = .next t ∧ t.stroke.nextAt = some x ∧ s.tb + 4096 ≤ x ∧ t.stroke.nextNo = s.stroke.no + 1 ∧
       Keeps { regs := [.trc], lanes := true, ckp := true, stroke := true, free := true } s t) ∧
  -- goAfterAStop
  (∀ (r : Nat) (s : State), s.domOn 760 = true → s.isMaster = true → s.mode = .hold → s.ckp.restoreTo = some r →
     (∃ q ∈ s.ckp.reports, q.kind = 0xB) → s.allIn (· == 7) = true → s.sameStroke (· == 7) = true →
     ∃ t x, Machine.exec .go s = .next t ∧ t.stroke.nextAt = some x ∧ s.tb + 4096 ≤ x ∧ t.stroke.nextNo = r ∧
       Keeps { regs := [.trc], lanes := true, ckp := true, stroke := true, free := true } s t) ∧
  -- goFollower
  (∀ (s : State), s.isMaster = false → Machine.exec .go s = .next s) ∧
  -- restoreCommand
  (∀ (bad : Option (Tile × Fin 1024 × Fin 576)) (s : State), s.domOn 760 = true → s.isMaster = true → s.mode = .hold →
     ∃ t, Machine.exec (.restoreCommand bad) s = .next t ∧ t.mode = .hold ∧ t.ckp.restoreTo = some (s.get CKP_LAST_STROKE) ∧
       t.stroke.nextAt = none ∧
       t.get CKP_HWM_STROKE =
         (if s.flag CKP_STAT_REPLAY = true then max s.stroke.no (s.get CKP_HWM_STROKE) else s.stroke.no) % 2 ^ 64) ∧
  -- restoreCommandElsewhere
  (∀ (bad : Option (Tile × Fin 1024 × Fin 576)) (s : State), (s.isMaster = false ∨ s.mode ≠ .hold) → Machine.exec (.restoreCommand bad) s = .next s) ∧
  -- adoptWrite
  (∀ (s : State), s.domOn 760 = true → s.mode = .ready → s.lostTile 0 = none →
     ∃ t, Machine.exec .adoptWrite s = .next t ∧ t.mode = .hold ∧ t.get CKP_LAST_STROKE = s.num (s.slotBase 0 0) 8 ∧
       t.stroke.no = s.num (s.slotBase 0 0) 8 - 1 ∧ t.ckp.restoreTo = some (s.num (s.slotBase 0 0) 8) ∧ t.get CKP_STAT_LASTSLOT = 0) ∧
  -- adoptLost
  (∀ (x : Nat) (s : State), s.domOn 760 = true → s.mode = .ready → s.lostTile 0 = some x →
     ∃ t, Machine.exec .adoptWrite s = .next t ∧ t.mode = .ready ∧ t.flag CKP_STAT_LOST = true ∧ t.cells = s.cells) ∧
  -- adoptElsewhere
  (∀ (s : State), s.mode ≠ .ready → Machine.exec .adoptWrite s = .next s) ∧
  -- swackWrite
  (∀ (s : State), s.domOn 760 = true → ∃ t, Machine.exec .swackWrite s = .next t ∧ t.flag CKP_CTL_SWACK = true ∧ Keeps { regs := [.ckp] } s t) ∧
  -- registersOff
  (∀ (bad : Option (Tile × Fin 1024 × Fin 576)) (s : State), s.domOn 760 = false → Machine.exec .go s = .next s ∧
     Machine.exec (.restoreCommand bad) s = .next s ∧ Machine.exec .adoptWrite s = .next s ∧ Machine.exec .swackWrite s = .next s ∧
     Machine.exec .reqhold s = .next s) ∧
  -- fenceLead
  (∀ (s : State), s.mode = .run → s.flag CKP_STAT_REPLAY = true → s.ckp.fencePending = true → s.replayEnd ≤ s.tb + s.get CKP_FENCE_LEAD →
     ∃ t, Machine.exec .fenceLead s = .next t ∧ t.ckp = { s.ckp with fencePending := false } ∧
       (∀ n, n ∈ s.upLanes → ⟨6, [3 + 16 * s.get MGT_MODE_ARMED]⟩ ∈ (t.lane n).ctl) ∧ Keeps { lanes := true, ckp := true } s t) ∧
  -- fenceLeadElsewhere
  (∀ (s : State), s.mode ≠ .run → Machine.exec .fenceLead s = .next s) ∧
  -- fenceLeadEarly
  (∀ (s : State), s.tb + s.get CKP_FENCE_LEAD < s.replayEnd → Machine.exec .fenceLead s = .next s)

/-- The steps of a stroke happen at their cycles and once: STROKE_START begins the stroke, P-40 decides the paged swap, P-32 stops issue
and makes values late, P-24 flips the state banks, P-16 advances CLK_STROKE_NO, P-8 swaps the pages; at any other cycle the command does
nothing (02 R31, R33, R34, 03 R68, 05 R146), as the model has it (log 4). A stroke that would begin after a HOLD whose entry into RUN is refused does not begin, and
the refusal is noted as that of a START (log 145). Completion, under conditions on the state and the operands alone: exec answers a next
state with the effect of strokeStart, boundaryWindowOpen, stateBankFlip, strokeNoAdvance, swapCheck, pagedSwap. (02 R31; 02 R33; 02 R34;
03 R68; 03 R75; 03 R79; 05 R146) -/
def Obligations.StrokeSteps : Prop :=
  -- strokeStart
  (∀ (s : State), s.stroke.nextAt = some s.tb → s.clockStopped = false → s.clockLost = false → s.mode = .run → s.holdDue = false →
     s.flag CKP_STAT_REPLAY = false → s.ckp.faultAt = none → s.ckpStroke s.stroke.nextNo = false →
     ∃ t, Machine.exec .strokeStart s = .next t ∧ t.stroke.nextAt = some (s.tb + s.get CLK_STROKE_CFG_PERIOD) ∧
       (∀ c ∈ s.liveCells, t.flag CELL_STAT_ISSUING c = true ∧ t.flag CELL_STAT_ENDED c = false) ∧
       Keeps { regs := [.clk, .cell], cells := true, tiles := true, stroke := true, ckp := true, trace := true } s t) ∧
  -- strokeStartAny
  (∀ (s : State), s.mayStart = true → (s.mode = .hold → s.runRefusal = none) →
     ∃ t, Machine.exec .strokeStart s = .next t ∧ t.mode = .run ∧ t.stroke.no = s.stroke.nextNo ∧ t.stroke.tk = s.tb ∧
       t.stroke.period = s.get CLK_STROKE_CFG_PERIOD ∧ t.get CLK_STROKE_NO_STROKE_NO = s.stroke.nextNo % 2 ^ 64 ∧
       (∀ c ∈ s.liveCells, t.flag CELL_STAT_ISSUING c = true ∧ t.flag CELL_STAT_ENDED c = false ∧ (t.cell c).exec = 0)) ∧
  -- strokeStartRefused
  (∀ (x : Nat × Nat) (s : State), s.mayStart = true → s.mode = .hold → s.runRefusal = some x →
     ∃ t, Machine.exec .strokeStart s = .next t ∧ t.mode = .hold ∧ t.stroke.nextAt = none ∧ t.refReason = x.1 + 256 * (x.2 % 2 ^ 24) ∧
       Keeps { stroke := true, refusals := true } s t) ∧
  -- strokeStartNone
  (∀ (s : State), s.mayStart = false → Machine.exec .strokeStart s = .next s) ∧
  -- boundaryWindowOpen
  (∀ (s : State), s.inStroke = true → s.cyc + 32 = s.stroke.period → s.stroke.opened = false →
     (∀ c ∈ s.liveCells, s.flag CELL_STAT_ISSUING c = false) → (∀ h ∈ s.hostVals, s.missesWindow (s.stroke.no + 1) h = false) →
     Machine.exec .boundaryWindowOpen s = .next { s with stroke := { s.stroke with opened := true } }) ∧
  -- boundaryWindowLate
  (∀ (s : State), s.inStroke = true → s.cyc + 32 = s.stroke.period → s.stroke.opened = false →
     ∃ t, Machine.exec .boundaryWindowOpen s = .next t ∧ t.stroke = { s.stroke with opened := true } ∧
       (∀ c ∈ s.liveCells, t.flag CELL_STAT_ISSUING c = false) ∧
       (∀ h ∈ t.hostVals, h.promise = s.stroke.no + 1 → h.written = false → (h.staged = false ∨ h.stagedAt = s.tb) → h.late = true)) ∧
  -- stateBankFlip
  (∀ (s : State), s.inStroke = true → s.cyc + 24 = s.stroke.period → s.stroke.flipped = false →
     ∃ t, Machine.exec .stateBankFlip s = .next t ∧ t.stroke = { s.stroke with flipped := true } ∧
       (∀ c ∈ s.liveCells, t.flag CELL_SBSEL_CUR c = !s.flag CELL_SBSEL_CUR c ∧ t.flag CELL_STAT_EPOCH c = !s.flag CELL_STAT_EPOCH c ∧
         (t.cell c).arrived = 0 ∧ (t.cell c).bp = false ∧
         (s.ckpStroke s.stroke.no = true → (t.cell c).snap = ((s.settleCell c).cell c).dirty))) ∧
  -- strokeNoAdvance
  (∀ (s : State), s.inStroke = true → s.cyc + 16 = s.stroke.period → s.stroke.advanced = false →
     ∃ t, Machine.exec .strokeNoAdvance s = .next t ∧ t.get CLK_STROKE_NO_STROKE_NO = (s.stroke.no + 1) % 2 ^ 64 ∧
       t.stroke = { s.stroke with advanced := true } ∧ Keeps { regs := [.clk], stroke := true } s t) ∧
  -- swapCheckMissed
  (∀ (g : Nat) (s : State), s.inStroke = true → s.cyc + 40 = s.stroke.period → s.stroke.swapSeen = false →
     g ∈ s.swapClusters → s.armedFor s.stroke.no g = true → s.cycle.held CLU_SWAP_CTL_ARM g = 0 →
     (s.swapClusters.filter (fun x => s.armedFor s.stroke.no x)).length ≠ s.swapClusters.length →
     ∃ t, Machine.exec .swapCheck s = .next t ∧ t.ckp.swapOutcome = 2 ∧ t.flag CLU_SWAP_CTL_ARM g = false ∧
       t.flag CLU_SWAP_CTL_MISSED g = true ∧ Keeps { regs := [.clu, .lec, .gec], fresh := true, stroke := true, ckp := true } s t) ∧
  -- swapCheckArmed
  (∀ (g : Nat) (s : State), s.inStroke = true → s.cyc + 40 = s.stroke.period → s.stroke.swapSeen = false →
     g ∈ s.swapClusters → (∀ x ∈ s.swapClusters, s.armedFor s.stroke.no x = true) →
     ∃ t, Machine.exec .swapCheck s = .next t ∧ t.ckp.swapOutcome = 1 ∧ (∀ c ∈ s.clusterCells g, t.flag CELL_IMCFG_SWAPARM c = true) ∧
       Keeps { regs := [.cell], stroke := true, ckp := true } s t) ∧
  -- pagedSwap
  (∀ (g : Nat) (s : State), s.inStroke = true → s.cyc + 8 = s.stroke.period → s.stroke.paged = false → s.ckp.swapOutcome = 1 →
     g ∈ s.swapClusters → s.cycle.held CLU_SWAP_CTL_ARM g = 0 →
     ∃ t, Machine.exec .pagedSwap s = .next t ∧ t.flag CLU_SWAP_CTL_DONE g = true ∧ t.flag CLU_SWAP_CTL_ARM g = false ∧
       (∀ c ∈ s.clusterCells g, s.flag CELL_IMCFG_SWAPARM c = true →
         t.get CELL_IMCFG_RUNPAGE c = 1 - s.get CELL_IMCFG_RUNPAGE c ∧ t.flag CELL_IMCFG_SWAPARM c = false) ∧
       Keeps { regs := [.clu, .cell], stroke := true } s t) ∧
  -- wrongCycle
  (∀ (s : State), (s.cyc + 40 ≠ s.stroke.period → Machine.exec .swapCheck s = .next s) ∧
     (s.cyc + 32 ≠ s.stroke.period → Machine.exec .boundaryWindowOpen s = .next s) ∧
     (s.cyc + 24 ≠ s.stroke.period → Machine.exec .stateBankFlip s = .next s) ∧
     (s.cyc + 16 ≠ s.stroke.period → Machine.exec .strokeNoAdvance s = .next s) ∧
     (s.cyc + 8 ≠ s.stroke.period → Machine.exec .pagedSwap s = .next s))

/-- An armed module enters RUN at TSTART with stroke 0 and clear accumulators; PERIOD takes a legal value in READY and HOLD only; a swap
is armed when 05 R145 allows it and refused otherwise; SETPAGE sets the running page of the cluster's cells in READY and HOLD (16 R433, 02
R60, 05 R145, R148). Where entry is refused at TSTART the module stays in READY, disarmed, with MISSED and the reason (log 145), and at any other time the command does nothing (log 4); a module that a command has taken out of READY since the
announcement sets MISSED (16 R434); a refused arming clears ARM (log 158). Completion, under conditions on the state and the operands alone: exec answers a next state with the effect
of runEntry, periodWrite, swapArm, setpage. (16 R433; 16 R434; 02 R60; 05 R145; 05 R148) -/
def Obligations.StrokeControl : Prop :=
  -- runEntry
  (∀ (s : State), s.mode = .ready → s.tb = s.get CLK_TSTART_TSTART → s.issueClock = true → s.flag MGT_MODE_ARMED = true →
     s.stroke.entryDone = true → s.runRefusal = none →
     ∃ t, Machine.exec .runEntry s = .next t ∧ t.mode = .run ∧ t.flag MGT_MODE_ARMED = false ∧ t.get CLK_STROKE_NO_STROKE_NO = 0 ∧
       t.get CLK_HOLD_ACC_ACC = 0 ∧ t.get CLK_PAUSE_ACC_ACC = 0 ∧ t.stroke.nextAt = some s.tb ∧ t.stroke.nextNo = 0 ∧
       t.ckp.holdTargets = [] ∧
       Keeps { regs := [.clk, .ckp, .mgt], mode := true, lanes := true, stroke := true, ckp := true, hostVals := true } s t) ∧
  -- runEntryMissed
  (∀ (s : State), s.mode = .ready → s.tb = s.get CLK_TSTART_TSTART → s.issueClock = true →
     (s.flag MGT_MODE_ARMED = false ∨ s.stroke.entryDone = false) →
     ∃ t, Machine.exec .runEntry s = .next t ∧ t.mode = .ready ∧ t.flag MGT_MODE_MISSED = true ∧
       Keeps { regs := [.mgt], stroke := true } s t) ∧
  -- runEntryRefused
  (∀ (x : Nat × Nat) (s : State), s.mode = .ready → s.tb = s.get CLK_TSTART_TSTART → s.issueClock = true → s.flag MGT_MODE_ARMED = true →
     s.stroke.entryDone = true → s.runRefusal = some x →
     ∃ t, Machine.exec .runEntry s = .next t ∧ t.mode = .ready ∧ t.flag MGT_MODE_ARMED = false ∧ t.flag MGT_MODE_MISSED = true ∧
       t.refReason = x.1 + 256 * (x.2 % 2 ^ 24) ∧ Keeps { regs := [.mgt], lanes := true, stroke := true, refusals := true } s t) ∧
  -- runEntryNone
  (∀ (s : State), (s.mode = .dormant ∨ s.mode = .run ∨ s.mode = .hold ∨ s.tb ≠ s.get CLK_TSTART_TSTART ∨ s.issueClock = false) →
     Machine.exec .runEntry s = .next s) ∧
  -- runEntryTakenOut
  (∀ (s : State), (s.mode = .service ∨ s.mode = .bringUp) → s.stroke.entryDone = true → s.tb = s.get CLK_TSTART_TSTART → s.issueClock = true →
     ∃ t, Machine.exec .runEntry s = .next t ∧ t.mode = s.mode ∧ t.flag MGT_MODE_MISSED = true ∧ t.stroke.entryDone = false ∧
       Keeps { regs := [.mgt], stroke := true } s t) ∧
  -- periodWrite
  (∀ (p : BitVec 16) (s : State), s.domOn 760 = true → ∃ t, Machine.exec (.periodWrite p) s = .next t ∧
     t.get CLK_STROKE_CFG_PERIOD = (if (s.mode = .ready ∨ s.mode = .hold) ∧ 33 ≤ p.toNat then p.toNat else s.get CLK_STROKE_CFG_PERIOD) ∧
     Keeps { regs := [.clk] } s t) ∧
  -- swapArm
  (∀ (g : Cluster) (s : State), s.cluOn g.val = true → s.cycle.fresh CLU_SWAP_CTL_ARM g.val = 0 →
     ∃ t, Machine.exec (.swapArm g true) s = .next t ∧ t.flag CLU_SWAP_CTL_ARM g.val = s.mayArm g.val ∧
       (s.mayArm g.val = false → t.flag CLU_SWAP_CTL_REFUSED g.val = true) ∧ Keeps { regs := [.clu] } s t) ∧
  -- swapDisarm
  (∀ (g : Cluster) (s : State), s.cluOn g.val = true → s.cycle.fresh CLU_SWAP_CTL_ARM g.val = 0 →
     (s.inStroke && s.stroke.swapSeen && !s.stroke.paged && s.ckp.swapOutcome == 1) = false →
     ∃ t, Machine.exec (.swapArm g false) s = .next t ∧ t.flag CLU_SWAP_CTL_ARM g.val = false ∧ Keeps { regs := [.clu] } s t) ∧
  -- swapDecided
  (∀ (g : Cluster) (s : State), (s.inStroke && s.stroke.swapSeen && !s.stroke.paged && s.ckp.swapOutcome == 1) = true →
     Machine.exec (.swapArm g false) s = .next s) ∧
  -- setpage
  (∀ (g : Cluster) (c : Nat) (s : State), s.cluOn g.val = true → (s.mode = .ready ∨ s.mode = .hold) → c ∈ s.clusterCells g.val →
     ∃ t, Machine.exec (.setpage g) s = .next t ∧ t.get CELL_IMCFG_RUNPAGE c = s.get CLU_SWAP_CTL_NEWPAGE g.val % 2 ∧
       Keeps { regs := [.cell], mem := true } s t) ∧
  -- setpageElsewhere
  (∀ (g : Cluster) (s : State), s.mode ≠ .ready → s.mode ≠ .hold → Machine.exec (.setpage g) s = .next s)

/-- A cell that may issue issues the bundle at its next address once in the cycle: the address is shown in BPC, the results of its A0 word
operation become visible after their latency, an empty bundle only advances, HALT and END stop issue; a cell that may not issue does
nothing (02 R32, 04 R96, R100, R106, R124, R127). Every undamaged bundle of any operations adds the results of its slots, at most one of
them from X, and goes on as its C slot says; a damaged one acts as an empty one with PERR; SEND, RECV, MREQ and MRSP act as 04 R112, R113,
R114 and R117 say. Completion, under conditions on the state and the operands alone: exec answers a next state with the effect of
bundleIssue. (02 R32; 04 R100; 04 R106; 04 R96; 04 R112; 04 R113; 04 R114; 04 R117; 03 R81) -/
def Obligations.BundleIssue : Prop :=
  -- emptyBundle
  (∀ (c : PCell) (hit : Upset) (s : State), s.mayIssue c.val = true → (s.cell c.val).pend = [] → (s.cell c.val).bad = [] →
     (s.cell c.val).bundle (s.cell c.val).next = 0 → lcActive ((s.cell c.val).rd 6 0) = false → lcActive ((s.cell c.val).rd 6 1) = false →
     Machine.exec (.bundleIssue c hit) s = .next ((s.setCell c.val { s.cell c.val with
         next := succAddr (s.flag CELL_IMCFG_PAGED c.val) (s.get CELL_IMCFG_RUNPAGE c.val) (s.cell c.val).next,
         exec := s.cyc + 1 }).set CELL_STAT_BPC c.val (s.cell c.val).next)) ∧
  -- wordOperation
  (∀ (c : PCell) (hit : Upset) (v : Word) (s : State), s.mayIssue c.val = true → (s.cell c.val).pend = [] → (s.cell c.val).bad = [] →
     (∀ b, (s.cell c.val).bundle (s.cell c.val).next = b →
       b % 2 ^ 336 = 0 ∧ b / 2 ^ 392 = 0 ∧ bits (bits b 391 336) 49 48 = 0 ∧ bits (bits b 391 336) 55 50 ≠ 0x30 ∧ bits (bits b 391 336) 55 50 ≠ 0x31 ∧
       aluOp (bits (bits b 391 336) 55 50) ((s.cell c.val).d (bits (bits b 391 336) 41 36)) ((s.cell c.val).d (bits (bits b 391 336) 35 30))
         ((s.cell c.val).d (bits (bits b 391 336) 5 0)) (bits (bits b 391 336) 31 0) = some v) →
     ∃ t, Machine.exec (.bundleIssue c hit) s = .next t ∧
       (t.cell c.val).pend = [⟨s.tb + aluLatency (bits (bits ((s.cell c.val).bundle (s.cell c.val).next) 391 336) 55 50), s.tb, 4, 4,
         bits (bits ((s.cell c.val).bundle (s.cell c.val).next) 391 336) 47 42, 0, v, BitVec.allOnes 64⟩] ∧
       t.get CELL_STAT_BPC c.val = (s.cell c.val).next % 2 ^ CELL_STAT_BPC.width ∧ (t.cell c.val).exec = s.cyc + 1 ∧
       Keeps { regs := [.cell], cells := true } s t) ∧
  -- everyBundle
  (∀ (c : PCell) (hit : Upset) (x : Cell) (b : Slots) (s : State), s.mayIssue c.val = true → x = (s.settleCell c.val).cell c.val →
     b = slotsOf (x.bundle x.next) → x.bundleBad x.next = [] →
     ∃ t l, Machine.exec (.bundleIssue c hit) s = .next t ∧ (t.cell c.val).exec = s.cyc + 1 ∧
       t.get CELL_STAT_BPC c.val = x.next % 2 ^ CELL_STAT_BPC.width ∧ List.length l ≤ 1 ∧
       (t.cell c.val).pend = x.pend ++
         ((b.l.mapIdx (fun k w => issueL x (s.flag CELL_SBSEL_CUR c.val) (bundleReqs b x.bp) s.tb k w)).flatten ++
           issueA x (s.flag CELL_SBSEL_CUR c.val) (bundleReqs b x.bp) s.tb 4 b.a0 ++
           issueA x (s.flag CELL_SBSEL_CUR c.val) (bundleReqs b x.bp) s.tb 5 b.a1 ++ issueM x s.tb b.m ++
           issuePred x (s.flag CELL_SBSEL_CUR c.val) (bundleReqs b x.bp) s.tb b.c) ++ l ∧
       ((bits b.c 31 28 = 3 ∨ haltExec b.c x.bp = true) →
         t.flag CELL_STAT_ISSUING c.val = false ∧ t.flag CELL_STAT_ENDED c.val = true ∧ (t.cell c.val).next = x.next) ∧
       ((bits b.c 31 28 ≠ 3 ∧ haltExec b.c x.bp = false) → t.flag CELL_STAT_ISSUING c.val = true ∧
         (t.cell c.val).next = (sequence x (s.flag CELL_IMCFG_PAGED c.val) (s.get CELL_IMCFG_RUNPAGE c.val) x.next b.c).next)) ∧
  -- plainBundle
  (∀ (c : PCell) (hit : Upset) (x : Cell) (b : Slots) (s : State), s.mayIssue c.val = true → x = (s.settleCell c.val).cell c.val →
     b = slotsOf (x.bundle x.next) → x.bundleBad x.next = [] → b.x = 0 → haltExec b.c x.bp = false →
     parityErrs x (s.flag CELL_SBSEL_CUR c.val) s.tb b (bundleReqs b x.bp) = [] →
     ∃ t, Machine.exec (.bundleIssue c hit) s = .next t ∧ (∀ d, d ≠ c.val → t.cell d = s.cell d) ∧
       Keeps { regs := [.cell, .lec, .gec], cells := true, fresh := true } s t) ∧
  -- damagedBundle
  (∀ (c : PCell) (hit : Upset) (x : Cell) (b : Slots) (s : State), s.mayIssue c.val = true → x = (s.settleCell c.val).cell c.val →
     b = slotsOf (x.bundle x.next) → x.bundleBad x.next ≠ [] →
     ∃ t, Machine.exec (.bundleIssue c hit) s = .next t ∧ t.flag CELL_STAT_PERR c.val = true ∧ (t.cell c.val).pend = x.pend ∧
       (t.cell c.val).exec = s.cyc + 1 ∧
       (t.cell c.val).next = (sequence x (s.flag CELL_IMCFG_PAGED c.val) (s.get CELL_IMCFG_RUNPAGE c.val) x.next 0).next) ∧
  -- sendOperation
  (∀ (c : PCell) (hit : Upset) (x : Cell) (b : Slots) (s : State), s.mayIssue c.val = true → x = (s.settleCell c.val).cell c.val →
     b = slotsOf (x.bundle x.next) → x.bundleBad x.next = [] → bits b.x 47 44 = 1 → condPass (bits b.x 43 42) x.bp = true →
     ∃ t, Machine.exec (.bundleIssue c hit) s = .next t ∧ t.sends = s.sends ++ [⟨c.val / 1088, s.lcell c.val, bits b.x 16 0, x.d (bits b.x 41 36),
       x.rdBad 4 (bits b.x 41 36), s.flag CELL_STAT_EPOCH c.val, hit⟩]) ∧
  -- receiveOperation
  (∀ (f : Nat) (v : Word) (p : Byte) (c : PCell) (hit : Upset) (x : Cell) (b : Slots) (s : State), s.mayIssue c.val = true → x = (s.settleCell c.val).cell c.val →
     b = slotsOf (x.bundle x.next) → x.bundleBad x.next = [] → bits b.x 47 44 = 2 → condPass (bits b.x 43 42) x.bp = true →
     x.inboxSees (bits b.x 8 0) s.tb = some (f, v, p) →
     ∃ t, Machine.exec (.bundleIssue c hit) s = .next t ∧
       ⟨s.tb + 2, s.tb, 7, 4, bits b.x 41 36, 0, v, BitVec.allOnes 64⟩ ∈ (t.cell c.val).pend) ∧
  -- receiveTooEarly
  (∀ (c : PCell) (hit : Upset) (x : Cell) (b : Slots) (s : State), s.mayIssue c.val = true → x = (s.settleCell c.val).cell c.val →
     b = slotsOf (x.bundle x.next) → x.bundleBad x.next = [] → bits b.x 47 44 = 2 → condPass (bits b.x 43 42) x.bp = true →
     x.inboxSees (bits b.x 8 0) s.tb = none →
     ∃ t, Machine.exec (.bundleIssue c hit) s = .next t ∧ t.flag CLK_DL_STAT_LATE_FLIT = true ∧
       ⟨s.tb + 2, s.tb, 7, 4, bits b.x 41 36, 0, 0, BitVec.allOnes 64⟩ ∈ (t.cell c.val).pend) ∧
  -- readRequest
  (∀ (c : PCell) (hit : Upset) (x : Cell) (b : Slots) (s : State), s.mayIssue c.val = true → x = (s.settleCell c.val).cell c.val →
     b = slotsOf (x.bundle x.next) → x.bundleBad x.next = [] → bits b.x 47 44 = 3 → condPass (bits b.x 43 42) x.bp = true → bit b.x 29 = false →
     (x.slot (bits b.x 5 0)).outstIn s.tb = false →
     ∃ t, Machine.exec (.bundleIssue c hit) s = .next t ∧ ((t.cell c.val).slot (bits b.x 5 0)).outst = true ∧
       ((t.cell c.val).slot (bits b.x 5 0)).present = false ∧
       (t.tile (c.val / 1088)).memIn = (s.tile (c.val / 1088)).memIn ++
         [⟨false, x.d (bits b.x 35 30), 0, 0, bits b.x 5 0, s.lcell c.val, s.tb + 1, s.stroke.no, s.tb - s.stroke.tk + 9⟩]) ∧
  -- responseUse
  (∀ (c : PCell) (hit : Upset) (x : Cell) (b : Slots) (s : State), s.mayIssue c.val = true → x = (s.settleCell c.val).cell c.val →
     b = slotsOf (x.bundle x.next) → x.bundleBad x.next = [] → bits b.x 47 44 = 4 → condPass (bits b.x 43 42) x.bp = true →
     (x.slot (bits b.x 5 0)).present = true → (x.slot (bits b.x 5 0)).landed < s.tb →
     ∃ t, Machine.exec (.bundleIssue c hit) s = .next t ∧
       ⟨s.tb + 2, s.tb, 7, 4, bits b.x 41 36, 0, (x.slot (bits b.x 5 0)).val, BitVec.allOnes 64⟩ ∈ (t.cell c.val).pend) ∧
  -- notIssued
  (∀ (c : PCell) (hit : Upset) (s : State), s.mayIssue c.val = false → Machine.exec (.bundleIssue c hit) s = .next s)

/-- A flit of the current epoch is written to its inbox slot and marked arrived, one of the other epoch is discarded with LATE_FLIT; a
response and an answer land in their slots and are marked present; a staged host value is written for the next stroke (03 R74, R75, R76,
04 R114, R118). A second flit on a slot sets INBDUP; in a restore and before the first stroke nothing lands; an answer waits while a flit
of its cycle takes the port; in replay values and answers come from the input log (log 150), an answer to a request of the replay is
discarded, and a value of stroke H + 1 is written live. Completion, under conditions on the state and the operands alone: exec answers a
next state with the effect of flitLanding, responseLanding, answerLanding, stagedValueWrite. (03 R74; 03 R76; 04 R114; 04 R118; 03 R75; 03
R81; 06 R179; 04 R120; 08 R243) -/
def Obligations.CellLandings : Prop :=
  -- flitLanding
  (∀ (c : PCell) (slot : Fin 512) (f : Flit) (s : State),
     s.flits.countP (fun g => g.holds (pointOf (c.val / 1088) 6 (s.lcell c.val)) s.tb) ≤ 1 →
     s.flits.find? (fun g => !g.egr && g.dcell == c.val && g.slot == slot.val && decide (g.land ≤ s.tb)) = some f →
     f.due = s.cyc % 65536 → s.domOn (cellDomain c.val) = true → f.epoch = s.flag CELL_STAT_EPOCH c.val → s.lateLanding = false →
     bit (s.cell c.val).arrived slot.val = false →
     ∃ t, Machine.exec (.flitLanding c slot) s = .next t ∧ (t.cell c.val).rd 3 slot.val = f.val ∧ (t.cell c.val).rdBad 3 slot.val = f.bad ∧
       bit (t.cell c.val).arrived slot.val = true ∧ t.flits = s.flits.erase f ∧ (∀ d, d ≠ c.val → t.cell d = s.cell d) ∧
       Keeps { regs := [.fab, .lec, .gec], fresh := true, cells := true, flits := true } s t) ∧
  -- flitLandingTwice
  (∀ (c : PCell) (slot : Fin 512) (f : Flit) (s : State),
     s.flits.countP (fun g => g.holds (pointOf (c.val / 1088) 6 (s.lcell c.val)) s.tb) ≤ 1 →
     s.flits.find? (fun g => !g.egr && g.dcell == c.val && g.slot == slot.val && decide (g.land ≤ s.tb)) = some f →
     f.due = s.cyc % 65536 → s.domOn (cellDomain c.val) = true → f.epoch = s.flag CELL_STAT_EPOCH c.val → s.lateLanding = false →
     bit (s.cell c.val).arrived slot.val = true →
     ∃ t, Machine.exec (.flitLanding c slot) s = .next t ∧ (t.cell c.val).rd 3 slot.val = f.val ∧ t.flag CELL_STAT_INBDUP c.val = true ∧
       Keeps { regs := [.cell, .fab, .lec, .gec], fresh := true, cells := true, flits := true } s t) ∧
  -- flitLandingOtherEpoch
  (∀ (c : PCell) (slot : Fin 512) (f : Flit) (s : State),
     s.flits.countP (fun g => g.holds (pointOf (c.val / 1088) 6 (s.lcell c.val)) s.tb) ≤ 1 →
     s.flits.find? (fun g => !g.egr && g.dcell == c.val && g.slot == slot.val && decide (g.land ≤ s.tb)) = some f →
     f.due = s.cyc % 65536 → s.domOn (cellDomain c.val) = true → f.epoch ≠ s.flag CELL_STAT_EPOCH c.val →
     ∃ t, Machine.exec (.flitLanding c slot) s = .next t ∧ (t.cell c.val).mem = (s.cell c.val).mem ∧ (t.cell c.val).arrived = (s.cell c.val).arrived ∧
       (∀ d, d ≠ c.val → t.cell d = s.cell d) ∧ t.flag CLK_DL_STAT_LATE_FLIT = true ∧ t.flits = s.flits.erase f) ∧
  -- flitLandingAny
  (∀ (c : PCell) (slot : Fin 512) (f : Flit) (p s : State), p = s.portCollision c.val →
     p.flits.find? (fun g => !g.egr && g.dcell == c.val && g.slot == slot.val && decide (g.land ≤ s.tb)) = some f →
     ∃ t, Machine.exec (.flitLanding c slot) s = .next t ∧ t.flits = p.flits.erase f) ∧
  -- flitLandingNone
  (∀ (c : PCell) (slot : Fin 512) (s : State),
     (s.portCollision c.val).flits.find? (fun g => !g.egr && g.dcell == c.val && g.slot == slot.val && decide (g.land ≤ s.tb)) = none →
     Machine.exec (.flitLanding c slot) s = .next (s.portCollision c.val)) ∧
  -- responseLanding
  (∀ (c : PCell) (tag : Fin 64) (l : Landing) (s : State),
     s.landings.find? (fun x => x.cell == c.val && x.slot == tag.val && decide (x.at_ ≤ s.tb)) = some l →
     s.ckp.restoring = false → s.stroke.entryDone = false →
     ∃ t, Machine.exec (.responseLanding c tag) s = .next t ∧ ((t.cell c.val).slot tag.val).val = l.val ∧
       ((t.cell c.val).slot tag.val).present = true ∧ ((t.cell c.val).slot tag.val).outst = false ∧
       (∀ k, k ≠ tag.val → (t.cell c.val).slot k = (s.cell c.val).slot k) ∧ (t.cell c.val).mem = (s.cell c.val).mem ∧
       t.landings = s.landings.erase l ∧ (∀ d, d ≠ c.val → t.cell d = s.cell d) ∧
       ((l.by_ = 0 ∨ s.tb ≤ l.by_) → (s.inStroke && s.ckpStroke s.stroke.no) = false → Keeps { cells := true, landings := true } s t)) ∧
  -- responseLandingNone
  (∀ (c : PCell) (tag : Fin 64) (s : State), s.landings = [] → Machine.exec (.responseLanding c tag) s = .next s) ∧
  -- responseDiscarded
  (∀ (c : PCell) (tag : Fin 64) (l : Landing) (s : State),
     s.landings.find? (fun x => x.cell == c.val && x.slot == tag.val && decide (x.at_ ≤ s.tb)) = some l →
     (s.ckp.restoring = true ∨ s.stroke.entryDone = true) →
     ∃ t, Machine.exec (.responseLanding c tag) s = .next t ∧ t.landings = s.landings.erase l ∧ t.cells = s.cells) ∧
  -- answerLanding
  (∀ (c : PCell) (a : Fin 16) (err : HbmRead) (l : Landing) (s : State), s.portTaken c.val = false → s.flag CKP_STAT_REPLAY = false →
     s.landings.find? (fun x => x.cell == c.val && x.slot == 64 + a.val && decide (x.at_ ≤ s.tb)) = some l →
     s.ckp.restoring = false → s.stroke.entryDone = false → ((s.cell c.val).slot (64 + a.val)).replayed = false →
     ∃ t, Machine.exec (.answerLanding c a err) s = .next t ∧ ((t.cell c.val).slot (64 + a.val)).val = l.val ∧
       ((t.cell c.val).slot (64 + a.val)).present = true ∧ ((t.cell c.val).slot (64 + a.val)).outst = false ∧
       (∀ k, k ≠ 64 + a.val → (t.cell c.val).slot k = (s.cell c.val).slot k) ∧ t.landings = s.landings.erase l ∧
       (∀ d, d ≠ c.val → t.cell d = s.cell d) ∧
       ((s.mode = .run ∨ s.mode = .hold ∨ (s.mode = .service ∧ s.get MGT_MODE_PREV = 4)) → (s.tile (c.val / 1088)).isFull false = false →
         (t.tile (c.val / 1088)).inPos = (s.tile (c.val / 1088)).inPos + 1) ∧
       (s.mode ≠ .run → s.mode ≠ .hold → (s.mode ≠ .service ∨ s.get MGT_MODE_PREV ≠ 4) →
         Keeps { cells := true, landings := true } s t)) ∧
  -- answerOfReplayDiscarded
  (∀ (c : PCell) (a : Fin 16) (err : HbmRead) (l : Landing) (s : State), s.portTaken c.val = false → s.flag CKP_STAT_REPLAY = false →
     s.landings.find? (fun x => x.cell == c.val && x.slot == 64 + a.val && decide (x.at_ ≤ s.tb)) = some l →
     ((s.cell c.val).slot (64 + a.val)).replayed = true →
     Machine.exec (.answerLanding c a err) s = .next { s with landings := s.landings.erase l }) ∧
  -- answerLandingInReplay
  (∀ (c : PCell) (a : Fin 16) (err : HbmRead) (n r : Nat) (s : State), err ≠ .uncorrectable → s.portTaken c.val = false → s.flag CKP_STAT_REPLAY = true →
     s.ckp.restoring = false → s.stroke.entryDone = false → s.loggedAnswer c.val a.val = some (n, r) →
     ∃ t, Machine.exec (.answerLanding c a err) s = .next t ∧ ((t.cell c.val).slot (64 + a.val)).val = BitVec.ofNat 64 (recVal r) ∧
       ((t.cell c.val).slot (64 + a.val)).present = true) ∧
  -- answerLandingWaits
  (∀ (c : PCell) (a : Fin 16) (err : HbmRead) (f : Flit) (s : State), f ∈ s.flits → f.egr = false → f.dcell = c.val → f.land = s.tb →
     s.flag CKP_STAT_REPLAY = false → Machine.exec (.answerLanding c a err) s = .next s) ∧
  -- stagedValueWrite
  (∀ (c : PCell) (slot : Fin 512) (err : HbmRead) (h : HostVal) (s : State), s.inStroke = true → s.stroke.flipped = true →
     s.stroke.period ≤ s.cyc + 23 → s.cyc < s.stroke.period → s.active c.val = true → s.domOn (cellDomain c.val) = true →
     (s.cell c.val).stagedNow s.tb = false → s.flag CKP_STAT_REPLAY = false → s.stagedValue c.val slot.val = some h →
     ∃ t, Machine.exec (.stagedValueWrite c slot err) s = .next t ∧
       t.hostVals = s.hostVals.map (fun g => if g = h then { g with written := true, logged := !(s.tile (c.val / 1088)).isFull false } else g) ∧
       (t.cell c.val).rd 3 slot.val = h.val ∧ (t.cell c.val).rdBad 3 slot.val = h.bad ∧ bit (t.cell c.val).arrived slot.val = true ∧
       (∀ d, d ≠ c.val → t.cell d = s.cell d)) ∧
  -- stagedValueLastReplayed
  (∀ (c : PCell) (slot : Fin 512) (err : HbmRead) (h : HostVal) (s : State), s.inStroke = true → s.stroke.flipped = true →
     s.stroke.period ≤ s.cyc + 23 → s.cyc < s.stroke.period → s.active c.val = true → s.domOn (cellDomain c.val) = true →
     (s.cell c.val).stagedNow s.tb = false → s.flag CKP_STAT_REPLAY = true → s.stroke.no = s.get CKP_HWM_STROKE →
     s.loggedHost c.val slot.val = none → s.stagedValue c.val slot.val = some h →
     ∃ t, Machine.exec (.stagedValueWrite c slot err) s = .next t ∧ (t.cell c.val).rd 3 slot.val = h.val ∧
       bit (t.cell c.val).arrived slot.val = true) ∧
  -- stagedValueInReplay
  (∀ (c : PCell) (slot : Fin 512) (err : HbmRead) (n r : Nat) (s : State), err ≠ .uncorrectable → s.inStroke = true → s.stroke.flipped = true →
     s.stroke.period ≤ s.cyc + 23 → s.cyc < s.stroke.period → s.active c.val = true → s.domOn (cellDomain c.val) = true →
     (s.cell c.val).stagedNow s.tb = false → s.flag CKP_STAT_REPLAY = true → s.loggedHost c.val slot.val = some (n, r) →
     ∃ t, Machine.exec (.stagedValueWrite c slot err) s = .next t ∧ (t.cell c.val).rd 3 slot.val = BitVec.ofNat 64 (recVal r) ∧
       bit (t.cell c.val).arrived slot.val = true ∧ t.hostVals = s.hostVals) ∧
  -- stagedValueEarly
  (∀ (c : PCell) (slot : Fin 512) (err : HbmRead) (s : State), (s.cyc + 23 < s.stroke.period ∨ s.stroke.period ≤ s.cyc) →
     Machine.exec (.stagedValueWrite c slot err) s = .next s)

/-- Outside RUN a window read answers the stored word and a window write of data memory stores it; in RUN a read answers 0 with WINRUN,
and a write is ignored with WINRUN, for the instruction memory with IMWRUN too; PINJ arms inverted parity; an access to the window of a
cell whose domain is off or that is RETIRED returns 0, is ignored and sets OFFACC, in a tile whose fabric is on (03 R94). A data-memory or
inbox word with a parity error reads as it stands and fails the access (log 34); the function table takes writes in READY and HOLD (log
36); what lies at each offset, and an access that is not aligned, are log 37; which writes use up PINJ, log 148. Completion, under conditions on the state and the operands alone:
exec answers a next state with the effect of windowRead, windowWrite, pinj. (03 R80; 03 R81; 03 R84; 03 R93; 03 R94) -/
def Obligations.CellWindow : Prop :=
  -- windowRead
  (∀ (c : PCell) (off : BitVec 18) (u a : Nat) (x : Cell) (s : State), s.winOn c.val = true → off.toNat % 8 = 0 →
     winLoc (s.flag CELL_SBSEL_CUR c.val) off.toNat = .word u a → s.mode ≠ .run → x = (s.settleCell c.val).cell c.val → (x.rdBad u a = 0 ∨ (u ≠ 2 ∧ u ≠ 3)) →
     ∃ t, Machine.exec (.windowRead c off) s = .next t ∧ t.out = s.out ++ [.data (x.rd u a).toNat false] ∧
       Keeps { regs := [.cell, .lec, .gec], fresh := true, cells := true, out := true } s t) ∧
  -- windowReadParity
  (∀ (c : PCell) (off : BitVec 18) (u a : Nat) (x : Cell) (s : State), s.winOn c.val = true → off.toNat % 8 = 0 →
     winLoc (s.flag CELL_SBSEL_CUR c.val) off.toNat = .word u a → s.mode ≠ .run → x = (s.settleCell c.val).cell c.val → x.rdBad u a ≠ 0 → (u = 2 ∨ u = 3) →
     ∃ t, Machine.exec (.windowRead c off) s = .next t ∧ t.out = s.out ++ [.data (x.rd u a).toNat true] ∧
       t.flag CELL_STAT_PERR c.val = true ∧ Keeps { regs := [.cell, .lec, .gec], fresh := true, cells := true, out := true } s t) ∧
  -- windowReadTable
  (∀ (c : PCell) (off : BitVec 18) (f : Nat) (x : Cell) (s : State), s.winOn c.val = true → off.toNat % 8 = 0 →
     winLoc (s.flag CELL_SBSEL_CUR c.val) off.toNat = .ftab f → s.mode ≠ .run → x = (s.settleCell c.val).cell c.val →
     ∃ t, Machine.exec (.windowRead c off) s = .next t ∧ t.out = s.out ++ [.data ((x.rd 5 f).toNat % 2 ^ 16 + (x.rd 5 (f + 1)).toNat % 2 ^ 16 * 2 ^ 16 +
         (x.rd 5 (f + 2)).toNat % 2 ^ 16 * 2 ^ 32 + (x.rd 5 (f + 3)).toNat % 2 ^ 16 * 2 ^ 48) false] ∧
       Keeps { regs := [.cell, .lec, .gec], fresh := true, cells := true, out := true } s t) ∧
  -- windowReadRegister
  (∀ (c : PCell) (off : BitVec 18) (r : RegName) (i : Nat) (s : State), s.winOn c.val = true → off.toNat % 8 = 0 →
     winLoc (s.flag CELL_SBSEL_CUR c.val) off.toNat = .regs → cellReg c.val off.toNat = some (r, i) →
     Machine.exec (.windowRead c off) s = .next { s with out := s.out ++ [.data (s.regRead r i) false] }) ∧
  -- windowReadNothing
  (∀ (c : PCell) (off : BitVec 18) (s : State), s.winOn c.val = true → off.toNat % 8 = 0 →
     (winLoc (s.flag CELL_SBSEL_CUR c.val) off.toNat = .none ∨ (winLoc (s.flag CELL_SBSEL_CUR c.val) off.toNat = .regs ∧ cellReg c.val off.toNat = none)) →
     Machine.exec (.windowRead c off) s = .next { s with out := s.out ++ [.data 0 false] }) ∧
  -- windowReadInRun
  (∀ (c : PCell) (off : BitVec 18) (s : State), s.winOn c.val = true → off.toNat % 8 = 0 → (winLoc (s.flag CELL_SBSEL_CUR c.val) off.toNat).isStorage = true → s.mode = .run →
     ∃ t, Machine.exec (.windowRead c off) s = .next t ∧ t.out = s.out ++ [.data 0 false] ∧
       t.flag CELL_STAT_WINRUN c.val = true ∧ Keeps { regs := [.cell, .lec, .gec], fresh := true, out := true } s t) ∧
  -- windowReadOff
  (∀ (c : PCell) (off : BitVec 18) (s : State), s.domOn (712 + c.val / 1088) = true → (s.domOn (cellDomain c.val) = false ∨ s.remap c.val / 256 = 2) →
     ∃ t, Machine.exec (.windowRead c off) s = .next t ∧ t.out = s.out ++ [.data 0 false] ∧
       t.flag CLU_STAT_OFFACC (c.val / 68) = true ∧ Keeps { regs := [.clu], out := true } s t) ∧
  -- windowWriteOff
  (∀ (c : PCell) (off : BitVec 18) (v : Word) (s : State), s.domOn (712 + c.val / 1088) = true → (s.domOn (cellDomain c.val) = false ∨ s.remap c.val / 256 = 2) →
     ∃ t, Machine.exec (.windowWrite c off v) s = .next t ∧ t.flag CLU_STAT_OFFACC (c.val / 68) = true ∧ Keeps { regs := [.clu] } s t) ∧
  -- windowFabricOff
  (∀ (c : PCell) (off : BitVec 18) (v : Word) (s : State), s.domOn (712 + c.val / 1088) = false → s.winOn c.val = false →
     Machine.exec (.windowRead c off) s = .next { s with out := s.out ++ [.data 0 false] } ∧
     Machine.exec (.windowWrite c off v) s = .next s ∧ Machine.exec (.pinj c) s = .next s) ∧
  -- windowReadUnaligned
  (∀ (c : PCell) (off : BitVec 18) (s : State), s.winOn c.val = true → off.toNat % 8 ≠ 0 →
     Machine.exec (.windowRead c off) s = .next { s with out := s.out ++ [.data 0 false] }) ∧
  -- windowWrite
  (∀ (c : PCell) (off : BitVec 18) (u a : Nat) (v : Word) (x : Cell) (s : State), s.winOn c.val = true → off.toNat % 8 = 0 →
     winLoc (s.flag CELL_SBSEL_CUR c.val) off.toNat = .word u a →
     (s.mode ≠ .run ∨ (s.flag CELL_IMCFG_PAGED c.val = true ∧ u = 0 ∧ a / 9216 ≠ s.get CELL_IMCFG_RUNPAGE c.val)) →
     x = (s.settleCell c.val).cell c.val →
     ∃ t, Machine.exec (.windowWrite c off v) s = .next t ∧ (t.cell c.val).rd u a = v ∧
       (t.cell c.val).rdBad u a = (if s.flag CELL_CTL_PINJ c.val = true then 1 else 0) ∧
       (s.cycle.held CELL_CTL_PINJ c.val = 0 → t.flag CELL_CTL_PINJ c.val = false) ∧
       (∀ u' a', 65536 * u' + a' ≠ 65536 * u + a → (t.cell c.val).rd u' a' = x.rd u' a') ∧
       (∀ d, d ≠ c.val → t.cell d = s.cell d) ∧ Keeps { regs := [.cell, .lec, .gec], fresh := true, cells := true } s t) ∧
  -- windowWriteTable
  (∀ (c : PCell) (off : BitVec 18) (f : Nat) (k : Fin 4) (v : Word) (s : State), s.winOn c.val = true → off.toNat % 8 = 0 →
     winLoc (s.flag CELL_SBSEL_CUR c.val) off.toNat = .ftab f → (s.mode = .ready ∨ s.mode = .hold) →
     ∃ t, Machine.exec (.windowWrite c off v) s = .next t ∧ ((t.cell c.val).rd 5 (f + k.val)).toNat % 2 ^ 16 = v.toNat / 2 ^ (16 * k.val) % 2 ^ 16 ∧
       (∀ d, d ≠ c.val → t.cell d = s.cell d) ∧ Keeps { regs := [.cell, .lec, .gec], fresh := true, cells := true } s t) ∧
  -- windowWriteRegister
  (∀ (c : PCell) (off : BitVec 18) (r : RegName) (i : Nat) (v : Word) (s : State), s.winOn c.val = true → off.toNat % 8 = 0 →
     winLoc (s.flag CELL_SBSEL_CUR c.val) off.toNat = .regs → cellReg c.val off.toNat = some (r, i) →
     Machine.exec (.windowWrite c off v) s = .next (s.writeCell r i v.toNat (2 ^ 64 - 1))) ∧
  -- windowMap
  (∀ (cur : Bool) (w : Fin 4096), winLoc cur (0x28000 + 8 * w.val) = .word 2 w.val ∧ winLoc cur (8 * w.val) = .word 0 w.val ∧
     (w.val < 512 → winLoc cur (0x32000 + 8 * w.val) = .word 3 w.val) ∧ (w.val < 64 → winLoc cur (0x33000 + 8 * w.val) = .word 4 w.val) ∧
     (w.val < 64 → winLoc cur (0x34000 + 8 * w.val) = .ftab (4 * w.val))) ∧
  -- windowWriteInRun
  (∀ (c : PCell) (off : BitVec 18) (v : Word) (s : State), s.winOn c.val = true → off.toNat % 8 = 0 → (winLoc (s.flag CELL_SBSEL_CUR c.val) off.toNat).isStorage = true →
     s.mode = .run → (∀ a, winLoc (s.flag CELL_SBSEL_CUR c.val) off.toNat = .word 0 a → (s.flag CELL_IMCFG_PAGED c.val = false ∨ a / 9216 = s.get CELL_IMCFG_RUNPAGE c.val)) →
     ∃ t, Machine.exec (.windowWrite c off v) s = .next t ∧ t.flag CELL_STAT_WINRUN c.val = true ∧
       (∀ a, winLoc (s.flag CELL_SBSEL_CUR c.val) off.toNat = .word 0 a → t.flag CELL_STAT_IMWRUN c.val = true) ∧ Keeps { regs := [.cell, .lec, .gec], fresh := true } s t) ∧
  -- windowWriteUnaligned
  (∀ (c : PCell) (off : BitVec 18) (v : Word) (s : State), s.winOn c.val = true → off.toNat % 8 ≠ 0 →
     Machine.exec (.windowWrite c off v) s = .next s) ∧
  -- pinj
  (∀ (c : PCell) (s : State), s.winOn c.val = true →
     ∃ t, Machine.exec (.pinj c) s = .next t ∧ t.flag CELL_CTL_PINJ c.val = true ∧ Keeps { regs := [.cell] } s t) ∧
  -- pinjOff
  (∀ (c : PCell) (s : State), s.domOn (712 + c.val / 1088) = true → s.winOn c.val = false →
     ∃ t, Machine.exec (.pinj c) s = .next t ∧ t.flag CLU_STAT_OFFACC (c.val / 68) = true ∧ Keeps { regs := [.clu] } s t)

/-- The time master sends a beacon on every module lane each period; a follower takes a beacon from its source with EPOCH, HOPS and lane
and corrects its time base; a lost beacon makes a backup master with the next EPOCH; a write of ROLE 01 in READY or HOLD is a handover (02
R40, R41, R44, R45). A master gives way to a beacon of a later EPOCH and to no other (what the source of beacons is, log 146); ROLE 01 in
another mode changes no EPOCH (log 50); a write of ROLE and a set by hardware in one cycle join bit by bit (00 R13; log 144); writes are
ignored while domain 760 is off (13 R353). Completion, under conditions on the state and the operands alone: exec answers a next state with
the effect of beaconSend, beacon, bcnLost, handover. (02 R40; 02 R41; 02 R44; 02 R45; 00 R13; 13 R353) -/
def Obligations.TimeBeacons : Prop :=
  -- beaconSend
  (∀ (s : State), s.isMaster = true → s.beacon.lastSent + s.beaconPeriod ≤ s.tb →
     Machine.exec .beaconSend s = .next (({ s with beacon := { s.beacon with lastSent := s.tb } } : State).pushAll s.meshLanes
       ⟨1, [serialLow + s.get CLK_TM_CTL_EPOCH * 2 ^ 32 + 0 * 2 ^ 40]⟩)) ∧
  -- beaconSendEarly
  (∀ (s : State), s.tb < s.beacon.lastSent + s.beaconPeriod → Machine.exec .beaconSend s = .next s) ∧
  -- beaconSendFollower
  (∀ (s : State), s.isMaster = false → Machine.exec .beaconSend s = .next s) ∧
  -- beaconFollower
  (∀ (n : Lane) (tbval : Word) (sub : Fin 16) (master : BitVec 32) (epoch : Byte) (hops : BitVec 4) (s : State), s.laneUp n.val = true →
     s.isMaster = false → s.sourceBeacon n.val master.toNat epoch.toNat hops.toNat = true →
     ∃ t, Machine.exec (.beacon n tbval sub master epoch hops) s = .next t ∧ t.get CLK_TM_CTL_EPOCH = epoch.toNat ∧
       t.get CLK_SKEW_SRC_LANE = n.val ∧ t.flag CLK_SKEW_VALID = true ∧ t.get CLK_SKEW_HOPS = hops.toNat ∧
       t.get CLK_SKEW_OFFSET = wrap (s.offsetPs (s.offset80 n.val tbval.toNat sub.val)) 32 % 2 ^ 32 ∧
       t.beacon.master = master.toNat ∧ t.beacon.lastAt = t.tb ∧ t.beacon.srcAt = t.tb ∧ t.beacon.lost = false ∧ (s.quiet = false → t.tb = s.tb)) ∧
  -- beaconFirst
  (∀ (n : Lane) (master : BitVec 32) (epoch : Byte) (hops : BitVec 4) (s : State),
     (s.flag CLK_SKEW_VALID = false → s.sourceBeacon n.val master.toNat epoch.toNat hops.toNat = true) ∧
     (s.flag CLK_SKEW_VALID = true → epoch.toNat = s.get CLK_TM_CTL_EPOCH → n.val = s.get CLK_SKEW_SRC_LANE →
       s.sourceBeacon n.val master.toNat epoch.toNat hops.toNat = true)) ∧
  -- beaconOther
  (∀ (n : Lane) (tbval : Word) (sub : Fin 16) (master : BitVec 32) (epoch : Byte) (hops : BitVec 4) (s : State), s.laneUp n.val = true →
     s.isMaster = false → s.flag CLK_SKEW_VALID = true → s.sourceBeacon n.val master.toNat epoch.toNat hops.toNat = false →
     ∃ t, Machine.exec (.beacon n tbval sub master epoch hops) s = .next t ∧
       (master.toNat = s.beacon.master → epoch.toNat = s.get CLK_TM_CTL_EPOCH → t.beacon.lastAt = s.tb ∧ t.beacon.lost = false) ∧
       Keeps { lanes := true, beacon := true } s t) ∧
  -- beaconAtMaster
  (∀ (n : Lane) (tbval : Word) (sub : Fin 16) (master : BitVec 32) (epoch : Byte) (hops : BitVec 4) (s : State), s.laneUp n.val = true →
     s.isMaster = true → s.yields master.toNat epoch.toNat = false →
     ∃ t, Machine.exec (.beacon n tbval sub master epoch hops) s = .next t ∧ t.isMaster = true ∧
       (t.lane n.val).uncRow = 0 ∧ Keeps { lanes := true, beacon := true } s t) ∧
  -- beaconEndsMaster
  (∀ (n : Lane) (tbval : Word) (sub : Fin 16) (master : BitVec 32) (epoch : Byte) (hops : BitVec 4) (s : State), s.laneUp n.val = true →
     s.yields master.toNat epoch.toNat = true → s.cycle.held CLK_TM_CTL_ROLE 0 = 0 → s.cycle.held CLK_SKEW_VALID 0 = 0 →
     ∃ t, Machine.exec (.beacon n tbval sub master epoch hops) s = .next t ∧ t.get CLK_TM_CTL_ROLE = 0 ∧ t.flag CLK_SKEW_VALID = true ∧
       t.get CLK_TM_CTL_EPOCH = epoch.toNat ∧ t.get CLK_SKEW_SRC_LANE = n.val) ∧
  -- beaconInRunKeepsTime
  (∀ (n : Lane) (tbval : Word) (sub : Fin 16) (master : BitVec 32) (epoch : Byte) (hops : BitVec 4) (s : State), s.mode = .run →
     ∃ t, Machine.exec (.beacon n tbval sub master epoch hops) s = .next t ∧ t.tb = s.tb) ∧
  -- beaconLaneDown
  (∀ (n : Lane) (tbval : Word) (sub : Fin 16) (master : BitVec 32) (epoch : Byte) (hops : BitVec 4) (s : State), s.laneUp n.val = false →
     Machine.exec (.beacon n tbval sub master epoch hops) s = .next s) ∧
  -- bcnLostBackup
  (∀ (s : State), s.cycle.role.getD (s.get CLK_TM_CTL_ROLE) = 2 → s.get CLK_TM_CTL_ROLE < 4 → s.isMaster = false →
     s.flag CLK_SKEW_VALID = true → s.beacon.lost = false →
     s.beacon.lastAt + s.get CLK_TM_CTL_LOSS_LIM * s.beaconPeriod ≤ s.tb →
     ∃ t, Machine.exec .bcnLost s = .next t ∧ t.get CLK_TM_CTL_ROLE = 1 ∧ t.get CLK_TM_CTL_EPOCH = (s.get CLK_TM_CTL_EPOCH + 1) % 256 ∧
       t.flag CLK_DL_STAT_BCN_LOST = true) ∧
  -- bcnLostFollower
  (∀ (s : State), s.get CLK_TM_CTL_ROLE = 0 → s.cycle.role ≠ some 2 → s.flag CLK_SKEW_VALID = true → s.beacon.lost = false →
     s.beacon.lastAt + s.get CLK_TM_CTL_LOSS_LIM * s.beaconPeriod ≤ s.tb →
     ∃ t, Machine.exec .bcnLost s = .next t ∧ t.get CLK_TM_CTL_ROLE = 0 ∧ t.beacon.lost = true ∧ t.flag CLK_DL_STAT_BCN_LOST = true) ∧
  -- bcnLostEarly
  (∀ (s : State), s.tb < s.beacon.lastAt + s.get CLK_TM_CTL_LOSS_LIM * s.beaconPeriod → Machine.exec .bcnLost s = .next s) ∧
  -- handover
  (∀ (s : State), s.domOn 760 = true → (s.mode = .ready ∨ s.mode = .hold) → s.isMaster = false → s.get CLK_TM_CTL_ROLE < 4 →
     s.flag CLK_SKEW_VALID = true →
     ∃ t, Machine.exec .handover s = .next t ∧ t.get CLK_TM_CTL_ROLE = 1 ∧ t.get CLK_TM_CTL_EPOCH = (s.beacon.highEpoch + 1) % 256 ∧
       t.get CLK_SKEW_HOPS = 0 ∧ t.tb = s.tb ∧ Keeps { regs := [.clk], beacon := true } s t) ∧
  -- handoverFirst
  (∀ (s : State), s.domOn 760 = true → (s.mode = .ready ∨ s.mode = .hold) → s.isMaster = false → s.get CLK_TM_CTL_ROLE < 4 →
     s.flag CLK_SKEW_VALID = false →
     ∃ t, Machine.exec .handover s = .next t ∧ t.get CLK_TM_CTL_ROLE = 1 ∧ t.get CLK_TM_CTL_EPOCH = (s.get CLK_TM_CTL_EPOCH + 1) % 256 ∧
       t.get CLK_SKEW_HOPS = 0 ∧ t.tb = s.tb ∧ Keeps { regs := [.clk], beacon := true } s t) ∧
  -- handoverElsewhere
  (∀ (s : State), (s.isMaster = true ∨ (s.mode ≠ .ready ∧ s.mode ≠ .hold)) → s.mode ≠ .run → s.domOn 760 = true →
     s.get CLK_TM_CTL_ROLE < 4 →
     ∃ t, Machine.exec .handover s = .next t ∧ t.get CLK_TM_CTL_ROLE = 1 ∧ t.get CLK_TM_CTL_EPOCH = s.get CLK_TM_CTL_EPOCH ∧
       Keeps { regs := [.clk] } s t) ∧
  -- handoverOff
  (∀ (s : State), s.domOn 760 = false → Machine.exec .handover s = .next s) ∧
  -- handoverInRun
  (∀ (s : State), s.mode = .run → Machine.exec .handover s = .next s)

/-- Enabling a channel clears its pointers; admission takes the entry at the head of the next channel and completes it, with the promise
of 02 R52 or a refusal; a released output enters the completion queue; a due message is sent once IMOD has passed (14 R385, R388, R389,
R391, R394; 02 R52). An output whose completion queue has no room waits with CQWAIT. One entry is taken in an HCLK cycle (02 R52); IMOD counts
microseconds of 1,600 or 1,200 cycles (17 R459; log 76), and a promise takes the first free place (log 52). Completion, under conditions on the state and the
operands alone: exec answers a next state with the effect of admission, channelEnable, msixMessage, outputRelease. (14 R388; 14 R389; 14
R394; 14 R385; 02 R52; 14 R391; 17 R459) -/
def Obligations.HostChannels : Prop :=
  -- channelEnable
  (∀ (n : Fin 256) (s : State), s.domOn 762 = true → s.flag PCI_CHCTL_EN n.val = false →
     ∃ t, Machine.exec (.channelEnable n) s = .next t ∧ t.flag PCI_CHCTL_EN n.val = true ∧ t.get PCI_CHPTR_SQTAIL n.val = 0 ∧
       t.get PCI_CHPTR_SQHEAD n.val = 0 ∧ t.get PCI_CHPTR_CQHEAD n.val = 0 ∧ t.get PCI_CHPTR_CQTAIL n.val = 0 ∧
       Keeps { regs := [.pci], chans := true } s t) ∧
  -- channelEnableAgain
  (∀ (n : Fin 256) (s : State), s.domOn 762 = true → s.flag PCI_CHCTL_EN n.val = true →
     ∃ t, Machine.exec (.channelEnable n) s = .next t ∧ t.flag PCI_CHCTL_EN n.val = true ∧ Keeps {} s t) ∧
  -- channelEnableOff
  (∀ (n : Fin 256) (s : State), s.domOn 762 = false → Machine.exec (.channelEnable n) s = .next s) ∧
  -- admission
  (∀ (value : Word) (tag rsv : BitVec 32) (n k j : Nat) (r : HostMapRec) (s : State), s.linkUp = true → s.pci.admAt ≠ some (s.tb / 4) → s.nextChan = some n →
     s.judge n rsv.toNat = .inr (k, j, r) →
     ∃ t, Machine.exec (.admission value tag rsv) s = .next t ∧
       t.hostVals = s.hostVals ++ [⟨n, r.tile, (r.places.getD j (0, 0)).1, (r.places.getD j (0, 0)).2, k, value, 0, tag.toNat,
         s.get PCI_CHPTR_SQHEAD n, j, false, false, 0, s.inStroke && s.stroke.opened && k == s.stroke.no + 1, false, false⟩] ∧ t.lastCh = n ∧
       t.get PCI_CHPTR_CQTAIL n = (s.get PCI_CHPTR_CQTAIL n + 1) % s.cqLen n % 2 ^ PCI_CHPTR_CQTAIL.width ∧
       (s.inStroke = true → s.stroke.opened = true → k = s.stroke.no + 1 → t.flag CLK_DL_STAT_LATE_HOST = true) ∧
       ((s.inStroke && s.stroke.opened && k == s.stroke.no + 1) = false →
         t.pci = { s.pci with admAt := some (s.tb / 4) } ∧
           Keeps { regs := [.pci, .lec, .gec], fresh := true, chans := true, hostVals := true, pci := true, out := true } s t)) ∧
  -- admissionRefused
  (∀ (value : Word) (tag rsv : BitVec 32) (n st : Nat) (s : State), s.linkUp = true → s.pci.admAt ≠ some (s.tb / 4) →
     s.nextChan = some n → s.judge n rsv.toNat = .inl st →
     ∃ t, Machine.exec (.admission value tag rsv) s = .next t ∧ t.hostVals = s.hostVals ∧ t.flag PCI_CHSTAT_REFUSED n = true ∧ t.lastCh = n ∧
       Keeps { regs := [.pci, .lec, .gec], chans := true, fresh := true, pci := true, out := true } s t) ∧
  -- admissionIdle
  (∀ (value : Word) (tag rsv : BitVec 32) (s : State), s.linkUp = true → s.nextChan = none →
     ∃ t, Machine.exec (.admission value tag rsv) s = .next t ∧ Keeps { regs := [.pci, .lec, .gec], fresh := true } s t) ∧
  -- admissionNextCycle
  (∀ (value : Word) (tag rsv : BitVec 32) (s : State), s.pci.admAt = some (s.tb / 4) → Machine.exec (.admission value tag rsv) s = .next s) ∧
  -- admissionLinkDown
  (∀ (value : Word) (tag rsv : BitVec 32) (s : State), s.linkUp = false → Machine.exec (.admission value tag rsv) s = .next s) ∧
  -- outputRelease
  (∀ (n : Fin 256) (r : HostMapRec) (s : State), lookup s.img.hostmap n.val = some r → r.dir = 1 → s.flag PCI_CHCTL_EN n.val = true →
     (s.chan n.val).rd < (s.chan n.val).rel → s.linkUp = true → s.cqRoom n.val = true →
     ∃ t, Machine.exec (.outputRelease n) s = .next t ∧ (t.chan n.val).rd = (s.chan n.val).rd + 1 ∧
       (t.chan n.val).cqSeq = (s.chan n.val).cqSeq + 1 ∧
       t.get PCI_CHPTR_CQTAIL n.val = (s.get PCI_CHPTR_CQTAIL n.val + 1) % s.cqLen n.val % 2 ^ PCI_CHPTR_CQTAIL.width ∧
       Keeps { regs := [.pci], chans := true, out := true } s t) ∧
  -- outputReleaseWaits
  (∀ (n : Fin 256) (r : HostMapRec) (s : State), lookup s.img.hostmap n.val = some r → r.dir = 1 → s.flag PCI_CHCTL_EN n.val = true →
     (s.chan n.val).rd < (s.chan n.val).rel → s.linkUp = true → s.cqRoom n.val = false →
     ∃ t, Machine.exec (.outputRelease n) s = .next t ∧ t.flag PCI_CHSTAT_CQWAIT n.val = true ∧
       Keeps { regs := [.pci, .lec, .gec], fresh := true } s t) ∧
  -- outputReleaseNone
  (∀ (n : Fin 256) (s : State), (s.chan n.val).rel ≤ (s.chan n.val).rd → Machine.exec (.outputRelease n) s = .next s) ∧
  -- msixMessage
  (∀ (n : Fin 256) (s : State), (s.chan n.val).msgDue = true → s.linkUp = true → s.imodHolds n.val s.tb = false →
     (s.imodHolds n.val (s.chan n.val).dueAt = false ∨ s.get PCI_CHPTR_CQTAIL n.val ≠ s.get PCI_CHPTR_CQHEAD n.val) →
     ∃ t, Machine.exec (.msixMessage n) s = .next t ∧ (t.chan n.val).msgDue = false ∧ (t.chan n.val).lastMsg = some s.tb ∧
       (s.msixMasked (s.get PCI_CHCTL_VEC n.val) = false → t.out = s.out ++ [.msix (s.get PCI_CHCTL_VEC n.val)] ∧ t.msixPba = s.msixPba) ∧
       (s.msixMasked (s.get PCI_CHCTL_VEC n.val) = true → t.out = s.out ∧ sget t.msixPba (s.get PCI_CHCTL_VEC n.val) false = true) ∧
       Keeps { chans := true, msixPba := true, out := true } s t) ∧
  -- msixMessageHeld
  (∀ (n : Fin 256) (s : State), (s.imodHolds n.val s.tb = true ∨ s.linkUp = false) → Machine.exec (.msixMessage n) s = .next s) ∧
  -- msixMessageDropped
  (∀ (n : Fin 256) (s : State), (s.chan n.val).msgDue = true → s.linkUp = true → s.imodHolds n.val s.tb = false →
     s.imodHolds n.val (s.chan n.val).dueAt = true → s.get PCI_CHPTR_CQTAIL n.val = s.get PCI_CHPTR_CQHEAD n.val →
     ∃ t, Machine.exec (.msixMessage n) s = .next t ∧ (t.chan n.val).msgDue = false ∧ (t.chan n.val).lastMsg = (s.chan n.val).lastMsg ∧
       Keeps { chans := true } s t) ∧
  -- msixMessageNone
  (∀ (n : Fin 256) (s : State), (s.chan n.val).msgDue = false → Machine.exec (.msixMessage n) s = .next s) ∧
  -- imodHolds
  (∀ (n at_ : Nat) (s : State), (s.chan n).lastMsg = none → s.imodHolds n at_ = false) ∧
  -- imodHoldsAfter
  (∀ (n at_ l : Nat) (s : State), (s.chan n).lastMsg = some l →
     (s.imodHolds n at_ = true ↔ at_ < l + s.get PCI_CHCTL_IMOD n * (if s.slowClock then 1200 else 1600)))

/-- PENDLOAD acts in HOLD only; GO puts the mailbox request on its transport or sets ERR; an FLR clears every PCI_ register, FLR of PCI_STAT
excepted, and ends the host's ownership of loading, a conventional reset also takes the link down; a link change shows in PCI_STAT (14
R378, R397, R398; 01 R26). What of configuration space an FLR leaves is log 195. The configuration space shows the identity of 14 R379,
part of it as the model reads it (log 75). Completion, under conditions on
the state and the operands alone: exec answers a next state with the effect of flr, conventionalReset, pcieLinkChange, pendload,
mailboxRequest. (14 R378; 14 R397; 14 R398; 01 R26; 14 R379) -/
def Obligations.HostInterface : Prop :=
  -- pendloadElsewhere
  (∀ (s : State), s.mode ≠ .hold → Machine.exec .pendload s = .next s) ∧
  -- pendload
  (∀ (a k j n : Nat) (r : HostMapRec) (s : State), s.domOn 762 = true → s.domOn 704 = true → s.mode = .hold →
     a = s.ckpArea 0 + 0x4C000040 → s.num (s.ckpArea 0 + 0x4C000000) 8 = 1 → k = s.num (a + 8) 8 →
     s.img.hostmap.find? (fun p => p.2.dir == 0 && p.2.gch == s.num (a + 16) 4) = some (n, r) → s.freePlace n k r.budget = some j →
     ∃ t, Machine.exec .pendload s = .next t ∧ t.hostVals = s.hostVals ++ [⟨n, r.tile, (r.places.getD j (0, 0)).1, (r.places.getD j (0, 0)).2, k, 
       s.word a, 0, s.num (a + 20) 4, 0, j, false, false, 0, false, false, false⟩] ∧ Keeps { hostVals := true } s t) ∧
  -- pendloadList
  (∀ (s : State), s.domOn 762 = true → s.domOn 704 = true → s.mode = .hold →
     ∃ t l, Machine.exec .pendload s = .next t ∧ t.hostVals = s.hostVals ++ l ∧ List.length l ≤ s.num (s.ckpArea 0 + 0x4C000000) 8 ∧
       Keeps { regs := [.pci, .lec, .gec], fresh := true, hostVals := true } s t) ∧
  -- mailboxRequest
  (∀ (s : State), s.domOn 762 = true → s.flag PCI_MBX_BUSY = false → s.get PCI_MBX_REQLEN ≠ 0 → s.get PCI_MBX_REQLEN ≤ 256 →
     ∃ t, Machine.exec .mailboxRequest s = .next t ∧ t.flag PCI_MBX_BUSY = true ∧
       (t.xport 0).waiting = some (s.tb, s.mbxBytes (s.get PCI_MBX_REQLEN)) ∧ Keeps { regs := [.pci, .lec, .gec], fresh := true, xports := true } s t) ∧
  -- mailboxError
  (∀ (s : State), s.domOn 762 = true → (s.flag PCI_MBX_BUSY = true ∨ s.get PCI_MBX_REQLEN = 0 ∨ 256 < s.get PCI_MBX_REQLEN) →
     ∃ t, Machine.exec .mailboxRequest s = .next t ∧ t.flag PCI_MBX_ERR = true ∧ Keeps { regs := [.pci] } s t) ∧
  -- flr
  (∀ (s : State), s.domOn 762 = true →
     ∃ t, Machine.exec .flr s = .next t ∧ t.flag PCI_STAT_FLR = true ∧ (∀ n, t.flag PCI_CHCTL_EN n = false) ∧
       (∀ (f : Field) (i : Nat), PCI_CTL_FVEC.id ≤ f.id → f.id < PCI_CHCNT_REFCNT.id + 32 → f.id ≠ PCI_STAT_FLR.id → t.get f i = f.rst i) ∧
       t.pci = s.pci ∧ t.msixTab = [] ∧ t.msixPba = [] ∧ t.hostVals = s.hostVals ∧
       t.owner = (if s.owner = 0x80 then 0 else s.owner) ∧
       Keeps { regs := [.pci, .lec, .gec], fresh := true, chans := true, msixTab := true, msixPba := true, owner := true, xports := true, persist := true } s t) ∧
  -- conventionalReset
  (∀ (s : State), s.domOn 762 = true →
     ∃ t, Machine.exec .conventionalReset s = .next t ∧ t.get PCI_STAT_LRATE = 0 ∧ t.get PCI_STAT_LWIDTH = 0 ∧ t.flag PCI_STAT_LINKCHG = true ∧
       t.ready (6 * 1024) = false ∧ t.owner = (if s.owner = 0x80 then 0 else s.owner)) ∧
  -- pcieLinkChange
  (∀ (width : BitVec 5) (rate : BitVec 3) (s : State), s.domOn 762 = true → rate ≠ 0 → width.toNat ∈ [1, 2, 4, 8, 16] → rate.toNat ≤ s.pci.topRate →
     ∃ t, Machine.exec (.pcieLinkChange width rate) s = .next t ∧ t.get PCI_STAT_LWIDTH = width.toNat ∧ t.get PCI_STAT_LRATE = rate.toNat ∧
       t.pci = { s.pci with width := width.toNat, rate := rate.toNat } ∧ t.flag PCI_STAT_LINKCHG = true ∧ t.ready (6 * 1024) = true) ∧
  -- pcieLinkChangeOther
  (∀ (width : BitVec 5) (rate : BitVec 3) (s : State), rate ≠ 0 → (width.toNat ∉ [1, 2, 4, 8, 16] ∨ s.pci.topRate < rate.toNat) →
     Machine.exec (.pcieLinkChange width rate) s = .next s) ∧
  -- pcieLinkDown
  (∀ (width : BitVec 5) (s : State), s.domOn 762 = true →
     ∃ t, Machine.exec (.pcieLinkChange width 0) s = .next t ∧ t.get PCI_STAT_LWIDTH = 0 ∧ t.get PCI_STAT_LRATE = 0 ∧
       t.flag PCI_STAT_LINKCHG = true ∧ t.ready (6 * 1024) = false) ∧
  -- configurationSpace
  (∀ (s : State), s.configSpace .classCode = 0x120000 ∧ s.configSpace .deviceId = 0x8192 ∧ s.configSpace .revisionId = 0xB0 ∧
     s.configSpace .serialNumber = Config.serial.toNat ∧ s.configSpace (.bar 4) = 0 ∧ s.configSpace (.bar 5) = 0)

/-- Only the host and the cores claim loading, each with its own identity, and the owner alone sets the address and applies; others are
ignored with LOADFOREIGN; an apply outside READY, HOLD and RUN fails with code 4; its completion clears BUSY and reports (01 R25, R26; 05
R155, R156; 15 R408). A claim of the host prevails over a core's in the same MCLK cycle (which cycles of the time base those are, log
160); a claim that its transport does not hold arrives with its command (log 94); APPLY while BUSY does nothing, and the engine writes as
APPLY starts it, BUSY until APPLY_COMPLETE (log 78); while domain 763 is off the registers ignore both (13 R353). Completion, under conditions on the state and the operands alone: exec answers a next state with the
effect of loaderClaim, imgAddrWrite, apply, applyComplete. (01 R26; 05 R155; 15 R408; 05 R156; 13 R353; 13 R370) -/
def Obligations.ImageLoading : Prop :=
  -- loaderClaim
  (∀ (a : Agent) (v seq : Byte) (o : Nat) (s : State), s.serving a (modeWrite seq.toNat 5 v.toNat) = true → s.writtenElsewhere (transport a) 0x1200 5 = false →
     s.claimJudge a v.toNat = .inr o →
     Machine.exec (.loaderClaim a v seq) s = .next ((s.closed a).setOwner o |>.reply (transport a) (modeResponse seq.toNat 5 0)) ∧
     ((s.closed a).setOwner o).owner = o ∧ ((s.closed a).setOwner o).claimAt = (if o = s.owner then s.claimAt else s.tb)) ∧
  -- loaderClaimRefused
  (∀ (a : Agent) (v seq : Byte) (c : Nat) (s : State), s.serving a (modeWrite seq.toNat 5 v.toNat) = true → s.writtenElsewhere (transport a) 0x1200 5 = false →
     s.claimJudge a v.toNat = .inl c →
     Machine.exec (.loaderClaim a v seq) s = .next ((s.closed a).reply (transport a) (modeResponse seq.toNat 5 c))) ∧
  -- loaderClaimHost
  (∀ (seq : Byte) (s : State), s.serving .host (modeWrite seq.toNat 5 0x80) = true → s.writtenElsewhere 0 0x1200 5 = false →
     (s.owner = 0 ∨ s.owner = 0x80) →
     ∃ t, Machine.exec (.loaderClaim .host 0x80 seq) s = .next t ∧ t.owner = 0x80 ∧ (s.owner = 0 → t.claimAt = s.tb) ∧ (t.xport 0).waiting = none ∧
       Keeps { regs := [.pci, .lec, .gec], fresh := true, msixPba := true, owner := true, xports := true, out := true } s t) ∧
  -- loaderClaimCore
  (∀ (n : Core) (seq : Byte) (s : State), s.serving (.core n) (modeWrite seq.toNat 5 (n.val + 1)) = true →
     s.writtenElsewhere (1 + n.val) 0x1200 5 = false → (s.owner = 0 ∨ s.owner = n.val + 1) →
     ∃ t, Machine.exec (.loaderClaim (.core n) (BitVec.ofNat 8 (n.val + 1)) seq) s = .next t ∧ t.owner = n.val + 1 ∧ (s.owner = 0 → t.claimAt = s.tb) ∧
       (t.xport (1 + n.val)).waiting = none ∧ Keeps { regs := [.mgt], mem := true, owner := true, xports := true } s t) ∧
  -- claimCodes
  (∀ (a : Agent) (v : Nat) (s : State),
     (Agent.identity a = 0 → s.claimJudge a v = .inl 3) ∧
     (Agent.identity a ≠ 0 → v = 0 → s.claimJudge a v = (if s.owner = Agent.identity a then .inr 0 else .inl 0xC)) ∧
     (Agent.identity a ≠ 0 → v ≠ 0 → v ≠ Agent.identity a → s.claimJudge a v = .inl 5) ∧
     (Agent.identity a ≠ 0 → v = Agent.identity a → (s.owner = 0 ∨ s.owner = v) → s.claimJudge a v = .inr v) ∧
     (Agent.identity a ≠ 0 → v = Agent.identity a → s.owner ≠ 0 → s.owner ≠ v → (a ≠ .host ∨ 0x80 ≤ s.owner ∨ s.claimAt / 16 ≠ s.tb / 16) → s.claimJudge a v = .inl 7) ∧
     (a = .host → v = 0x80 → 0 < s.owner → s.owner < 0x80 → s.claimAt / 16 = s.tb / 16 → s.claimJudge a v = .inr 0x80)) ∧
  -- identities
  (Agent.identity .host = 0x80 ∧ (∀ n : Core, Agent.identity (.core n) = n.val + 1) ∧ Agent.identity .jtag = 0 ∧
     (∀ p, Agent.identity (.can p) = 0) ∧ (∀ n, Agent.identity (.lane n) = 0)) ∧
  -- loaderClaimArrives
  (∀ (a : Agent) (v seq : Byte) (s u : State), s.holdsRequest a (modeWrite seq.toNat 5 v.toNat) = false → u = s.arrive a (modeWrite seq.toNat 5 v.toNat) →
     (u.serving a (modeWrite seq.toNat 5 v.toNat) = true → Machine.exec (.loaderClaim a v seq) s = Machine.exec (.loaderClaim a v seq) u) ∧
     (u.serving a (modeWrite seq.toNat 5 v.toNat) = false → Machine.exec (.loaderClaim a v seq) s = .next u ∧ u.owner = s.owner)) ∧
  -- imgAddrWrite
  (∀ (a : Agent) (v : Word) (s : State), s.domOn 763 = true → s.owns a = true →
     ∃ t, Machine.exec (.imgAddrWrite a v) s = .next t ∧ t.get MGT_IMG_ADDR_ADDR = v.toNat / 8 % 2 ^ 43 ∧ Keeps { regs := [.mgt] } s t) ∧
  -- imgAddrForeign
  (∀ (a : Agent) (v : Word) (s : State), s.domOn 763 = true → s.owns a = false →
     ∃ t, Machine.exec (.imgAddrWrite a v) s = .next t ∧ t.get MGT_IMG_ADDR_ADDR = s.get MGT_IMG_ADDR_ADDR ∧ t.flag MGT_STAT_LOADFOREIGN = true) ∧
  -- imageRegistersOff
  (∀ (a : Agent) (v : Word) (err : HbmRead) (more : LineErrs) (s : State), s.domOn 763 = false →
     Machine.exec (.imgAddrWrite a v) s = .next s ∧ Machine.exec (.apply a err more) s = .next s) ∧
  -- apply
  (∀ (a : Agent) (err : HbmRead) (more : LineErrs) (s : State), s.domOn 763 = true → s.owns a = true → s.flag MGT_IMG_CTL_BUSY = false →
     (s.mode = .ready ∨ s.mode = .hold ∨ s.mode = .run) →
     ∃ t, Machine.exec (.apply a err more) s = .next t ∧ t.flag MGT_IMG_CTL_BUSY = true ∧
       (s.flashWaits (s.get MGT_IMG_ADDR_ADDR * 8) = false → t.img.applying ≠ none)) ∧
  -- applyParityError
  (∀ (a : Agent) (err : HbmRead) (more : LineErrs) (x : Nat) (s : State), s.domOn 763 = true → s.owns a = true → s.flag MGT_IMG_CTL_BUSY = false →
     (s.mode = .ready ∨ s.mode = .hold ∨ s.mode = .run) → s.flashWaits (s.get MGT_IMG_ADDR_ADDR * 8) = false →
     (s.readErrs (s.get MGT_IMG_ADDR_ADDR * 8) (s.imageLen (s.get MGT_IMG_ADDR_ADDR * 8)) err more).2 = some x →
     ∃ t, Machine.exec (.apply a err more) s = .next t ∧ t.img = { s.img with applying := some 1 } ∧ t.flag MGT_IMG_CTL_BUSY = true) ∧
  -- applyBadHeader
  (∀ (a : Agent) (err : HbmRead) (c : Nat) (s : State), s.domOn 763 = true → s.owns a = true → s.flag MGT_IMG_CTL_BUSY = false →
     (s.mode = .ready ∨ s.mode = .hold ∨ s.mode = .run) →
     region (s.get MGT_IMG_ADDR_ADDR * 8) ≠ .hbm → (region (s.get MGT_IMG_ADDR_ADDR * 8) ≠ .lsram ∨ err = .ok) → s.flashWaits (s.get MGT_IMG_ADDR_ADDR * 8) = false → s.hdrError (s.get MGT_IMG_ADDR_ADDR * 8) = some c →
     c ≤ 4 →
     ∃ t, Machine.exec (.apply a err) s = .next t ∧ t.img.applying = some c ∧ t.img.failedSection = s.img.failedSection ∧
       t.flag MGT_IMG_CTL_BUSY = true ∧ Keeps { regs := [.mgt], img := true } s t) ∧
  -- applyForeign
  (∀ (a : Agent) (err : HbmRead) (more : LineErrs) (s : State), s.domOn 763 = true → s.owns a = false →
     ∃ t, Machine.exec (.apply a err more) s = .next t ∧ t.flag MGT_STAT_LOADFOREIGN = true ∧ t.img = s.img ∧ t.cells = s.cells ∧ t.mem = s.mem) ∧
  -- applyElsewhere
  (∀ (a : Agent) (err : HbmRead) (more : LineErrs) (s : State), s.domOn 763 = true → s.owns a = true → s.flag MGT_IMG_CTL_BUSY = false →
     s.mode ≠ .ready → s.mode ≠ .hold → s.mode ≠ .run →
     ∃ t, Machine.exec (.apply a err more) s = .next t ∧ t.flag MGT_IMG_CTL_ERR = true ∧ t.get MGT_IMG_CTL_ERRCODE = 4 ∧ t.cells = s.cells ∧ t.mem = s.mem) ∧
  -- applyBusy
  (∀ (a : Agent) (err : HbmRead) (more : LineErrs) (s : State), s.owns a = true → s.flag MGT_IMG_CTL_BUSY = true →
     Machine.exec (.apply a err more) s = .next s) ∧
  -- applyComplete
  (∀ (r : Nat) (s : State), s.img.applying = some r → r % 256 = 0 →
     ∃ t, Machine.exec .applyComplete s = .next t ∧ t.flag MGT_IMG_CTL_BUSY = false ∧ t.flag MGT_IMG_CTL_DONE = true ∧
       t.get MGT_IMG_CTL_ERRCODE = 0 ∧ t.img.failedSection = false ∧ t.img.applying = none) ∧
  -- applyCompleteFailed
  (∀ (r : Nat) (s : State), s.img.applying = some r → r % 256 ≠ 0 →
     ∃ t, Machine.exec .applyComplete s = .next t ∧ t.flag MGT_IMG_CTL_BUSY = false ∧ t.flag MGT_IMG_CTL_ERR = true ∧
       t.get MGT_IMG_CTL_ERRCODE = r % 256 ∧ t.img.applying = none) ∧
  -- applyCompleteNone
  (∀ (s : State), s.img.applying = none → Machine.exec .applyComplete s = .next s)

/-- A path-table write stores its entry with good parity and no other, a read answers it; DRAIN stops classes; a spare-channel commit
takes a legal shadow map and sets ERR otherwise; an unscheduled flit whose turn it is moves to the next place of its route (06 R161, R172,
R177, R180, R183). A flit that arrives is delivered at its unit, staged for its boundary, or lands as an answer; one hit on the way by an
upset of its sideband is dropped with SBPERR; a lane sends a pair for a credit. When a point arbitrates is the model's choice (log 54), as
are the flits' fields (log 55), the time from a unit to its router (log 184) and the spoke router of a route (log 187); a spare map is
live at its commit, with BUSY until COMMIT_COMPLETE (log 38). A die whose domain is off ignores writes of its registers (13 R353).
Completion, under conditions on the state and the operands
alone: exec answers a next state with the effect of pathTableWrite, unscheduledFlitForward, drainWrite, channelSpareCommit. (06 R158; 06 R161; 06
R172; 06 R177; 06 R180; 06 R183; 06 R171; 06 R176; 06 R178; 13 R353) -/
def Obligations.FabricCommands : Prop :=
  -- pathTableWrite
  (∀ (t : Tile) (p : BitVec 17) (w : Word) (s : State), s.domOn (712 + t.val) = true →
     ∃ u, Machine.exec (.pathTableWrite t p (some w)) s = .next u ∧ u.pathEntry t.val p.toNat = w ∧ sget (u.tile t.val).ptBad p.toNat 0 = 0 ∧
       (∀ q, q ≠ p.toNat → u.pathEntry t.val q = s.pathEntry t.val q) ∧ (∀ d, d ≠ t.val → u.tile d = s.tile d) ∧ Keeps { tiles := true } s u) ∧
  -- pathTableRead
  (∀ (t : Tile) (p : BitVec 17) (s : State), s.domOn (712 + t.val) = true → sget (s.tile t.val).ptBad p.toNat 0 = 0 →
     Machine.exec (.pathTableWrite t p none) s = .next { s with out := s.out ++ [.data (s.pathEntry t.val p.toNat).toNat false] }) ∧
  -- pathTableReadBad
  (∀ (t : Tile) (p : BitVec 17) (s : State), s.domOn (712 + t.val) = true → sget (s.tile t.val).ptBad p.toNat 0 ≠ 0 →
     ∃ u, Machine.exec (.pathTableWrite t p none) s = .next u ∧ OutMsg.data (s.pathEntry t.val p.toNat).toNat true ∈ u.out ∧
       (s.flag FAB_ERR_VALID t.val = false → u.get FAB_ERR_KIND t.val = 6 ∧ u.get FAB_ERR_PATH t.val = p.toNat) ∧ u.ckp = s.ckp ∧ u.tiles = s.tiles) ∧
  -- pathTableOff
  (∀ (t : Tile) (p : BitVec 17) (w : Word) (s : State), s.domOn (712 + t.val) = false →
     Machine.exec (.pathTableWrite t p (some w)) s = .next s ∧ Machine.exec (.pathTableWrite t p none) s = .next { s with out := s.out ++ [.data 0 false] }) ∧
  -- drainWrite
  (∀ (die : Fin 9) (mask : BitVec 4) (s : State), s.domOn (if die.val = 8 then 760 else 712 + die.val) = true →
     ∃ t, Machine.exec (.drainWrite die mask) s = .next t ∧
     t.get FAB_UCTL_DRAIN die.val = mask.toNat ∧ (∀ d, d ≠ die.val → t.get FAB_UCTL_DRAIN d = s.get FAB_UCTL_DRAIN d) ∧ Keeps { regs := [.fab] } s t) ∧
  -- fabricRegistersOff
  (∀ (die : Fin 9) (mask : BitVec 4) (t : Tile) (s : State),
     (s.domOn (if die.val = 8 then 760 else 712 + die.val) = false → Machine.exec (.drainWrite die mask) s = .next s) ∧
     (s.domOn (712 + t.val) = false → Machine.exec (.channelSpareCommit t) s = .next s)) ∧
  -- channelSpareCommit
  (∀ (t : Tile) (s : State), s.domOn (712 + t.val) = true → s.flag FAB_CTL_BUSY t.val = false → s.quiet = true → s.xspareClash t.val = false →
     ∃ u, Machine.exec (.channelSpareCommit t) s = .next u ∧ (u.tile t.val).xspare = s.xspareShadow t.val ∧ u.flag FAB_CTL_BUSY t.val = true ∧
       Keeps { regs := [.fab], tiles := true, uflits := true } s u) ∧
  -- channelSpareRefused
  (∀ (t : Tile) (s : State), s.domOn (712 + t.val) = true → s.flag FAB_CTL_BUSY t.val = false → (s.quiet = false ∨ s.xspareClash t.val = true) →
     ∃ u, Machine.exec (.channelSpareCommit t) s = .next u ∧ u.flag FAB_CTL_ERR t.val = true ∧ Keeps { regs := [.fab] } s u) ∧
  -- unscheduledFlitForward
  (∀ (u v : UPoint) (f : UFlit) (p c : Nat) (s : State), (∀ n, u = .lane n → (s.lane n.val).utx = [] ∧ (s.lane n.val).pairRest = none) →
     (u = .unit 8 → s.hostToSend = none) → s.pickU u = some f → s.uHop u f = some (p, c, some v) →
     (endValid f.dest = true ∨ uIsSource u = true) → f.bad = 0 → f.sb = 0 →
     Machine.exec (.unscheduledFlitForward u .none) s = .next { s with
       uUsed := p :: uInjection u f ++ s.uUsed
       uflits := s.uflits.erase f ++ [{ f with place := v, prev := some u, since := s.tb + hopCycles u v, chan := c }] }) ∧
  -- hopTimes
  (∀ t r q d l, hopCycles (.cell t l) (.router t r) = 4 ∧ hopCycles (.router t r) (.router t q) = 2 ∧ hopCycles (.router t r) (.spoke t) = 6 ∧ hopCycles (.spoke t) (.switch d) = 0 ∧
     hopCycles (.switch d) (.router t r) = 9) ∧
  -- unscheduledFlitAny
  (∀ (u : UPoint) (f : UFlit) (h : Nat × Nat × Option UPoint) (hit : Upset) (s : State), (∀ n, u = .lane n → (s.lane n.val).utx = [] ∧ (s.lane n.val).pairRest = none) →
     (u = .unit 8 → s.hostToSend = none) → s.pickU u = some f → s.uHop u f = some h →
     ∃ t l, Machine.exec (.unscheduledFlitForward u hit) s = .next t ∧ t.uUsed = h.1 :: uInjection u f ++ s.uUsed ∧ t.uflits = s.uflits.erase f ++ l ∧
       List.length l ≤ 1) ∧
  -- unscheduledFlitUpset
  (∀ (u v : UPoint) (f : UFlit) (p c : Nat) (b : Fin 48) (s : State), (∀ n, u = .lane n → (s.lane n.val).utx = [] ∧ (s.lane n.val).pairRest = none) →
     (u = .unit 8 → s.hostToSend = none) → s.pickU u = some f → s.uHop u f = some (p, c, some v) → (endValid f.dest = true ∨ uIsSource u = true) →
     f.sb = 0 → checksSb v = true → sidebandOk (f.sideband ^^^ 2 ^ b.val) = false →
     ∃ t, Machine.exec (.unscheduledFlitForward u (.sideband b)) s = .next t ∧ t.uflits = s.uflits.erase f ∧
       t.flag FAB_STAT_SBPERR (uDie v) = true) ∧
  -- unscheduledFlitUpsetCarried
  (∀ (u v : UPoint) (f : UFlit) (p c : Nat) (b : Fin 48) (s : State), (∀ n, u = .lane n → (s.lane n.val).utx = [] ∧ (s.lane n.val).pairRest = none) →
     (u = .unit 8 → s.hostToSend = none) → s.pickU u = some f → s.uHop u f = some (p, c, some v) → (endValid f.dest = true ∨ uIsSource u = true) →
     checksSb v = false → f.bad = 0 →
     Machine.exec (.unscheduledFlitForward u (.sideband b)) s = .next { s with
       uUsed := p :: uInjection u f ++ s.uUsed
       uflits := s.uflits.erase f ++ [{ f with place := v, prev := some u, since := s.tb + hopCycles u v, chan := c, sb := f.sb ^^^ 2 ^ b.val }] }) ∧
  -- unscheduledFlitArrives
  (∀ (u : UPoint) (f : UFlit) (p c : Nat) (hit : Upset) (s : State), (∀ n, u = .lane n → (s.lane n.val).utx = [] ∧ (s.lane n.val).pairRest = none) →
     (u = .unit 8 → s.hostToSend = none) → s.pickU u = some f → s.uHop u f = some (p, c, none) →
     endValid f.dest = true → f.cls ≠ 0 → f.dest.testBit 10 = true →
     ∃ t, Machine.exec (.unscheduledFlitForward u hit) s = .next t ∧ t.uflits = s.uflits.erase f ∧
       (t.tile (f.dest / 2048)).uDelivered = (s.tile (f.dest / 2048)).uDelivered ++ [f] ∧ Keeps { uflits := true, tiles := true } s t) ∧
  -- unscheduledValueStaged
  (∀ (u : UPoint) (f : UFlit) (p c : Nat) (hit : Upset) (s : State), (∀ n, u = .lane n → (s.lane n.val).utx = [] ∧ (s.lane n.val).pairRest = none) →
     (u = .unit 8 → s.hostToSend = none) → s.pickU u = some f → s.uHop u f = some (p, c, none) →
     endValid f.dest = true → f.cls = 0 →
     ∃ t, Machine.exec (.unscheduledFlitForward u hit) s = .next t ∧
       t.hostVals = s.hostVals.map (fun g => if [g.ch, g.promise, g.place] = f.pay then { g with staged := true, stagedAt := s.tb, bad := f.bad } else g) ∧
       Keeps { uflits := true, hostVals := true } s t) ∧
  -- unscheduledAnswerArrives
  (∀ (u : UPoint) (f : UFlit) (p c d : Nat) (hit : Upset) (s : State), (∀ n, u = .lane n → (s.lane n.val).utx = [] ∧ (s.lane n.val).pairRest = none) →
     (u = .unit 8 → s.hostToSend = none) → s.pickU u = some f → s.uHop u f = some (p, c, none) →
     endValid f.dest = true → f.cls ≠ 0 → f.dest.testBit 10 = false → s.pcellL (f.dest / 2048) (f.dest % 1024) = some d →
     s.domOn (cellDomain d) = true →
     ∃ t, Machine.exec (.unscheduledFlitForward u hit) s = .next t ∧
       t.landings = s.landings ++ [⟨d, 64 + f.pay.getD 1 0 % 16, BitVec.ofNat 64 (f.pay.getD 0 0), f.bad, s.tb + 3, 0⟩] ∧
       Keeps { uflits := true, landings := true } s t) ∧
  -- unscheduledFlitWaits
  (∀ (u : UPoint) (hit : Upset) (s : State), (∀ n, u = .lane n → (s.lane n.val).utx = [] ∧ (s.lane n.val).pairRest = none) →
     (u = .unit 8 → s.hostToSend = none) → s.pickU u = none → Machine.exec (.unscheduledFlitForward u hit) s = .next s) ∧
  -- hubSendsHost
  (∀ (h : HostVal) (hit : Upset) (s : State), (s.get FAB_UCTL_DRAIN 8).testBit 0 = false → s.hostToSend = some h →
     ∃ t, Machine.exec (.unscheduledFlitForward (.unit 8) hit) s = .next t ∧
       t.hostVals = s.hostVals.map (fun g => if g = h then { g with sent := true } else g) ∧ t.landings = s.landings) ∧
  -- lanePairNone
  (∀ (n : Lane) (hit : Upset) (s : State), (s.lane n.val).utx = [] → (s.lane n.val).pairRest = none → s.pickU (.lane n) = none →
     Machine.exec (.unscheduledFlitForward (.lane n) hit) s = .next s) ∧
  -- lanePairNotReady
  (∀ (n : Lane) (hit : Upset) (s : State), (s.get LNK_STAT_STATE n.val ≠ 6 ∨ s.flag LNK_STAT_READY n.val = false) → s.pickU (.lane n) = none →
     Machine.exec (.unscheduledFlitForward (.lane n) hit) s = .next s) ∧
  -- lanePairHead
  (∀ (n : Lane) (hit : Upset) (p : Nat × Word × Word) (s : State), (s.lane n.val).utx = [p] → (s.lane n.val).pairRest = none →
     0 < (s.lane n.val).cred.getD (headClass p.2.1) 0 → s.get LNK_STAT_STATE n.val = 6 → s.flag LNK_STAT_READY n.val = true →
     s.hasPosition n.val 1 = true → (∀ f ∈ s.uflits, f.place ≠ .lane n) →
     ∃ t, Machine.exec (.unscheduledFlitForward (.lane n) hit) s = .next t ∧ (t.lane n.val).utx = [] ∧ (t.lane n.val).pairRest ≠ none ∧
       (t.lane n.val).cred = (s.lane n.val).cred.set (headClass p.2.1) ((s.lane n.val).cred.getD (headClass p.2.1) 0 - 1) ∧
       Keeps { lanes := true, out := true } s t) ∧
  -- lanePairData
  (∀ (n : Lane) (hit : Upset) (w : Nat) (s : State), (s.lane n.val).pairRest = some w → s.get LNK_STAT_STATE n.val = 6 →
     s.flag LNK_STAT_READY n.val = true → s.hasPosition n.val 1 = true → (∀ f ∈ s.uflits, f.place ≠ .lane n) →
     ∃ t, Machine.exec (.unscheduledFlitForward (.lane n) hit) s = .next t ∧ (t.lane n.val).pairRest = none ∧
       (t.lane n.val).utx = (s.lane n.val).utx ∧ (∃ sf b, OutMsg.beat n.val sf b w ∈ t.out) ∧ Keeps { lanes := true, out := true } s t)

/-- A 16-bit register instruction that issues alone completes its group: the registers and flags its row names, every other register and
flag as before, and the next PC (09 R257, R261, R265). A push onto a return stack that is not full under RSOVF, and a pop of one that is not empty, complete (09
R269). Two instructions of a pair read before either writes, and the second wins (09 R263). Completion, under conditions on the state and the operands alone: exec answers a next state with the effect of nop, movr, exr,
incDec, neg, notA, clc, sec, shliShriSraiRoli, popc, rspush, rspop, rscnt, rsx. (09 R257; 09 R258; 09 R261; 09 R265; 09 R263; 09
R269) -/
def Obligations.CapoRegisterInstructions : Prop :=
  -- nop
  (∀ (n : Core) (g : Slot) (s u : State), s.Issues n.val g 1 u → 
     ∃ t, Machine.exec (.nop n g) s = .next t ∧ u.Done t n.val 1 {}) ∧
  -- movr
  (∀ (n : Core) (g : Slot) (k : BitVec 6) (s u : State), s.Issues n.val g 1 u → k.toNat % 8 < 5 → k.toNat / 8 < 5 → k.toNat % 8 ≠ k.toNat / 8 → 
     ∃ t, Machine.exec (.movr n g k) s = .next t ∧ u.Done t n.val 1 { alu := [(k.toNat / 8, (u.core n.val).reg (k.toNat % 8))] }) ∧
  -- exr
  (∀ (n : Core) (g : Slot) (k : BitVec 6) (s u : State), s.Issues n.val g 1 u → k.toNat % 8 < 5 → k.toNat / 8 < 5 → k.toNat % 8 ≠ k.toNat / 8 → 
     ∃ t, Machine.exec (.exr n g k) s = .next t ∧ u.Done t n.val 1 { alu := [(k.toNat / 8, (u.core n.val).reg (k.toNat % 8)), (k.toNat % 8, (u.core n.val).reg (k.toNat / 8))] }) ∧
  -- inx
  (∀ (n : Core) (g : Slot) (s u : State), s.Issues n.val g 1 u → 
     ∃ t, Machine.exec (.incDec n g 0) s = .next t ∧ u.Done t n.val 1 { alu := [(1, (u.core n.val).x + 1)], mask := 6, flags := flagsZN ((u.core n.val).x + 1).toNat }) ∧
  -- dex
  (∀ (n : Core) (g : Slot) (s u : State), s.Issues n.val g 1 u → 
     ∃ t, Machine.exec (.incDec n g 1) s = .next t ∧ u.Done t n.val 1 { alu := [(1, (u.core n.val).x - 1)], mask := 6, flags := flagsZN ((u.core n.val).x - 1).toNat }) ∧
  -- iny
  (∀ (n : Core) (g : Slot) (s u : State), s.Issues n.val g 1 u → 
     ∃ t, Machine.exec (.incDec n g 2) s = .next t ∧ u.Done t n.val 1 { alu := [(2, (u.core n.val).y + 1)], mask := 6, flags := flagsZN ((u.core n.val).y + 1).toNat }) ∧
  -- dey
  (∀ (n : Core) (g : Slot) (s u : State), s.Issues n.val g 1 u → 
     ∃ t, Machine.exec (.incDec n g 3) s = .next t ∧ u.Done t n.val 1 { alu := [(2, (u.core n.val).y - 1)], mask := 6, flags := flagsZN ((u.core n.val).y - 1).toNat }) ∧
  -- neg
  (∀ (n : Core) (g : Slot) (s u : State), s.Issues n.val g 1 u → 
     ∃ t, Machine.exec (.neg n g) s = .next t ∧ u.Done t n.val 1 { alu := [(0, -(u.core n.val).a)], mask := 15, flags := (subFlags 0 (u.core n.val).a.toNat 1).2 }) ∧
  -- not
  (∀ (n : Core) (g : Slot) (s u : State), s.Issues n.val g 1 u → 
     ∃ t, Machine.exec (.notA n g) s = .next t ∧ u.Done t n.val 1 { alu := [(0, ~~~(u.core n.val).a)], mask := 6, flags := flagsZN (~~~(u.core n.val).a).toNat }) ∧
  -- clc
  (∀ (n : Core) (g : Slot) (s u : State), s.Issues n.val g 1 u → 
     ∃ t, Machine.exec (.clc n g) s = .next t ∧ u.Done t n.val 1 { mask := 1, flags := 0 }) ∧
  -- sec
  (∀ (n : Core) (g : Slot) (s u : State), s.Issues n.val g 1 u → 
     ∃ t, Machine.exec (.sec n g) s = .next t ∧ u.Done t n.val 1 { mask := 1, flags := 1 }) ∧
  -- shliZero
  (∀ (n : Core) (g : Slot) (op : BitVec 2) (s u : State), s.Issues n.val g 1 u → 
     ∃ t, Machine.exec (.shliShriSraiRoli n g op 0) s = .next t ∧ u.Done t n.val 1 { alu := [(0, (u.core n.val).a)], mask := 6, flags := flagsZN (u.core n.val).a.toNat }) ∧
  -- shli
  (∀ (n : Core) (g : Slot) (op : BitVec 2) (k : BitVec 6) (s u : State), s.Issues n.val g 1 u → k ≠ 0 →
     ∃ t r, Machine.exec (.shliShriSraiRoli n g op k) s = .next t ∧
       r = (if op = 0 then (u.core n.val).a <<< k.toNat else if op = 1 then (u.core n.val).a >>> k.toNat else if op = 2 then (u.core n.val).a.sshiftRight k.toNat else (u.core n.val).a.rotateLeft k.toNat) ∧
       u.Done t n.val 1 { alu := [(0, r)], mask := 7, flags := (shiftFlags op.toNat (u.core n.val).a.toNat k.toNat).2.1 } ∧
       (shiftFlags op.toNat (u.core n.val).a.toNat k.toNat).2.1 = b2n (if op = 0 then (u.core n.val).a.getLsbD (64 - k.toNat) else if op = 3 then r.getLsbD 0
         else (u.core n.val).a.getLsbD (k.toNat - 1)) + flagsZN r.toNat) ∧
  -- popc
  (∀ (n : Core) (g : Slot) (s u : State), s.Issues n.val g 1 u → 
     ∃ t, Machine.exec (.popc n g) s = .next t ∧ u.Done t n.val 1 { alu := [(0, wd (popcount 64 (u.core n.val).a.toNat))], mask := 6, flags := flagsZN (popcount 64 (u.core n.val).a.toNat) }) ∧
  -- rscnt
  (∀ (n : Core) (g : Slot) (s u : State), s.Issues n.val g 1 u → 
     ∃ t, Machine.exec (.rscnt n g) s = .next t ∧ u.Done t n.val 1 { alu := [(0, wd (u.core n.val).rs.length)] }) ∧
  -- rsx
  (∀ (n : Core) (g : Slot) (s u : State), s.Issues n.val g 1 u → 
     ∃ t, Machine.exec (.rsx n g) s = .next t ∧ u.Done t n.val 1 { alu := [(0, wd ((u.core n.val).rs.getD ((u.core n.val).x.toNat % 16) 0))] }) ∧
  -- rspush
  (∀ (n : Core) (g : Slot) (s u : State), s.Issues n.val g 1 u → u.rsFull n.val = false → 
     ∃ t, Machine.exec (.rspush n g) s = .next t ∧ u.Done t n.val 1 { rsops := [some (u.core n.val).a.toNat] } ∧
       (t.core n.val).rs = ((u.core n.val).a.toNat % 2 ^ 48 :: (u.core n.val).rs).take 16) ∧
  -- rspop
  (∀ (n : Core) (g : Slot) (v : Nat) (l : List Nat) (s u : State), s.Issues n.val g 1 u → (u.core n.val).rs = v :: l →
     ∃ t, Machine.exec (.rspop n g) s = .next t ∧ u.Done t n.val 1 { alu := [(0, wd v)], rsops := [none] } ∧ (t.core n.val).rs = l) ∧
  -- secondOfPair
  (∀ (n : Core) (g : Slot) (e : Eff) (k : Nat) (s u : State), s.issues n.val = true → (s.core n.val).first = some (e, k) →
     e.vstores = [] → g.pair = false → g.rsvd = false → (s.core n.val).odd = false → (s.core n.val).delay ≠ 3 →
     s.fetch n.val (((s.core n.val).pc + 2 * k) % 2 ^ 48) 1 g.err = (u, .ok ()) →
     Machine.exec (.clc n g) s = .next (u.commit n.val (k + 1) (e.join { mask := 1, flags := 0 }) { len := 1 } id) ∧
     Machine.exec (.sec n g) s = .next (u.commit n.val (k + 1) (e.join { mask := 1, flags := 1 }) { len := 1 } id)) ∧
  -- pairResult
  (∀ (a b : Eff) (r : Nat) (v w : Word), (r, w) ∈ b.alu → (∀ p ∈ b.alu, p.1 = r → p.2 = w) → (r, v) ∈ a.alu →
     (r, w) ∈ (a.join b).alu ∧ (∀ p ∈ (a.join b).alu, p.1 = r → p.2 = w) ∧ (a.join b).inval = a.inval ++ b.inval ∧
     (a.join b).stores = a.stores ++ b.stores ∧ (a.join b).rsops = a.rsops ++ b.rsops ∧ (a.join b).cost = a.cost + b.cost)

/-- On an empty queue one FCLK cycle passes. The time base counts by one and wraps at 2^64 while the derived clocks run outside DORMANT (02
R38), and stands otherwise, when nothing moves but a poll of the rails. SENDs of the cycle before depart with the path entry they look up (06
R161). With each CCLK cycle, which begins where the time base is even, a line that has crossed arrives at the GEC, an offer goes on, and a
source that was active for one cycle is sampled inactive (12 R332, R333, R341). What an idle step does (logs 1, 23), when the time base counts
(log 14) and that a poll goes on transaction by transaction (log 217) are the model's choices. (02 R38; 06 R161; 12 R332; 12 R333; 12 R341) -/
def Obligations.IdleCycle : Prop :=
  -- counts
  (∀ (s : State), s.pending = [] → s.mode ≠ .dormant → s.clockStopped = false →
     ∃ t, step s = .next t ∧ t.tb = (s.tb + 1) % 2 ^ 64 ∧ t.tbFrac = s.tbFrac ∧ t.pending = [] ∧ t.sends = []) ∧
  -- stands
  (∀ (s : State), s.pending = [] → (s.mode = .dormant ∨ s.clockStopped = true) →
     ∃ t, step s = .next t ∧ t.tb = s.tb ∧ Keeps { ents := true, pins := true, out := true } s t) ∧
  -- departs
  (∀ (x : Send) (w : Word) (s : State), s.sends = [x] → x.hit = .none → s.pathLookup x.tile x.path = (w, 0) → badEntry x.tile w.toNat = false →
     ∃ f, s.departAll.flits = s.flits ++ [f] ∧ f.tile = x.tile ∧ f.path = x.path ∧ f.val = x.val ∧ f.bad = x.bad ∧ f.epoch = x.epoch ∧
       f.egr = w.getLsbD 28 ∧ s.departAll.sends = []) ∧
  -- lineArrives
  (∀ (i : Fin 576) (lv : Bool) (s : State), s.tb % 2 = 0 → s.events.wire = [(1, i.val, lv)] → s.events.pulses = [] →
     s.eventEdge.flag GEC_IN_LEVEL i.val = lv ∧ s.eventEdge.events.wire = [] ∧ s.eventEdge.tb = s.tb) ∧
  -- lineCrosses
  (∀ (i : Fin 576) (k : Nat) (lv : Bool) (s : State), s.tb % 2 = 0 → s.events.wire = [(k + 2, i.val, lv)] → s.events.pulses = [] →
     s.eventEdge.events.wire = [(k + 1, i.val, lv)] ∧ s.eventEdge.regs = s.regs) ∧
  -- offers
  (∀ (s : State), s.tb % 2 = 0 → s.eventEdge.events.offered = s.events.selected ∧ s.eventEdge.events.pulses = []) ∧
  -- pulseEnds
  (∀ (g : Nat) (s : State), s.tb % 2 = 0 → s.events.wire = [] → s.events.pulses = [g] → s.lecOn (g / 512) = true → reservedSource g = false →
     eventSource g = false → s.get LEC_SENSE_SENSE g = 0 → s.afterPulse g = false →
     s.eventEdge.flag LEC_RAW_RAW g = false ∧ s.eventEdge.flag LEC_PEND_PEND g = false) ∧
  -- betweenEdges
  (∀ (s : State), s.tb % 2 = 1 → s.eventEdge = s)

/-- A control transfer outside a delay slot makes the next group its delay slot and names where it goes; a call pushes the address after
the slot, RET pops it, a branch tests its condition, and an annulling branch that is not taken annuls the slot; RETI unstacks its frame
(09 R261, R267, R268, R277). RETI goes on to an offer above the level it returns to without unstacking (12 R347). Completion, under
conditions on the state and the operands alone: exec answers a next state with the effect of ret, reti, jmpx, callx, jmp, call, bcc. (09
R261; 09 R267; 09 R268; 09 R269; 09 R277; 12 R347) -/
def Obligations.CapoTransfers : Prop :=
  -- ret
  (∀ (n : Core) (g : Slot) (v : Nat) (l : List Nat) (s u : State), s.Issues n.val g 1 u → s.slotClear n.val 1 = true →
     (u.core n.val).rs = v :: l →
     ∃ t, Machine.exec (.ret n g) s = .next t ∧ (t.core n.val).rs = l ∧
       u.Done t n.val 1 { delay := 1, target := v % 2 ^ 48, cost := 2, rsops := [none] }) ∧
  -- jmpx
  (∀ (n : Core) (g : Slot) (s u : State), s.Issues n.val g 1 u → s.slotClear n.val 1 = true → 
     ∃ t, Machine.exec (.jmpx n g) s = .next t ∧ u.Done t n.val 1 { delay := 1, target := (u.core n.val).x.toNat % 2 ^ 48, cost := 2 }) ∧
  -- callx
  (∀ (n : Core) (g : Slot) (dlen : BitVec 3) (s u : State), s.Issues n.val g 1 u → s.slotClear n.val 1 = true →
     u.rsFull n.val = false → (u.core n.val).first = none →
     ∃ t, Machine.exec (.callx n g dlen) s = .next t ∧
       (t.core n.val).rs = (((u.core n.val).pc + 2 * (1 + dlen.toNat)) % 2 ^ 48 :: (u.core n.val).rs).take 16 ∧
       u.Done t n.val 1 { delay := 1, target := (u.core n.val).x.toNat % 2 ^ 48, cost := 2, rsops := [some (((u.core n.val).pc + 2 * (1 + dlen.toNat)) % 2 ^ 48)] }) ∧
  -- jmp
  (∀ (n : Core) (g : Slot) (o : MemOp) (w : Nat) (s u v : State), s.Issues n.val g o.len u → s.slotClear n.val o.len = true →
     o.bad true = false → u.target n.val o g = (v, .ok w) →
     ∃ t, Machine.exec (.jmp n g o) s = .next t ∧ v.Done t n.val o.len { delay := 1, target := w % 2 ^ 48, cost := o.jumpCost n.val }) ∧
  -- call
  (∀ (n : Core) (g : Slot) (o : MemOp) (dlen : BitVec 3) (w : Nat) (s u v : State), s.Issues n.val g o.len u →
     s.slotClear n.val o.len = true → o.bad true = false → u.rsFull n.val = false →
     u.target n.val o g = (v, .ok w) → (v.core n.val).first = none →
     ∃ t, Machine.exec (.call n g o dlen) s = .next t ∧
       (t.core n.val).rs = (((v.core n.val).pc + 2 * (o.len + dlen.toNat)) % 2 ^ 48 :: (v.core n.val).rs).take 16 ∧
       v.Done t n.val o.len {
         delay := 1, target := w % 2 ^ 48, cost := o.jumpCost n.val,
         rsops := [some (((v.core n.val).pc + 2 * (o.len + dlen.toNat)) % 2 ^ 48)] }) ∧
  -- targetRelative
  (∀ (n : Nat) (o : MemOp) (g : Slot) (s : State), o.mode = 0 →
     s.target n o g = (s, .ok (((s.core n).pc + 2 * o.simm) % 2 ^ 48))) ∧
  -- bcc
  (∀ (n : Core) (g : Slot) (cond : BitVec 4) (annul long : Bool) (f : BitVec 36) (s u : State),
     s.Issues n.val g (if long then 3 else 2) u → s.slotClear n.val (if long then 3 else 2) = true →
     ∃ t, Machine.exec (.bcc n g cond annul 0 long f) s = .next t ∧ u.Done t n.val (if long then 3 else 2)
       (if condition cond.toNat (u.core n.val).st (u.core n.val).x.toNat then
         { delay := 1, target := ((u.core n.val).pc + 2 * (⟨long, 0, f⟩ : MemOp).simm) % 2 ^ 48, cost := if cond = 0 then 2 else 6 }
       else { delay := if annul then 3 else 2 })) ∧
  -- annulledSlot
  (∀ (n : Core) (g : Slot) (s : State), s.issues n.val = true → s.beforeGroup n.val = none → (s.core n.val).delay = 3 → g.pair = false →
     ∃ t, Machine.exec (.nop n g) s = .next t ∧ (t.core n.val).pc = ((s.core n.val).pc + 2) % 2 ^ 48 ∧ (t.core n.val).delay = 0 ∧
       (∀ r, r < 5 → (t.core n.val).reg r = (s.core n.val).reg r) ∧ (t.core n.val).st = (s.core n.val).st ∧
       Keeps { regs := [.cpo, .lec, .gec, .trc], fresh := true, cores := true, free := true } s t) ∧
  -- reti
  (∀ (n : Core) (g : Slot) (sp : Nat) (l : List Nat) (s u v : State), s.Issues n.val g 1 u → (s.core n.val).delay = 0 →
     (u.core n.val).user = false → (u.core n.val).sp.toNat = sp →
     u.readFrame n.val [sp, sp + 8, sp + 16, sp + 24, sp + 32, sp + 40] g = (v, .ok l) →
     (∀ i p, v.offer n.val = some (i, p) → v.flag CPO_EVT_CTL_ACCEPT n.val = false ∨ p ≤ bits (l.getD 1 0) 11 8) →
     ∃ t, Machine.exec (.reti n g) s = .next t ∧ v.Done t n.val 1 {
       alu := [(0, wd (l.getD 2 0)), (1, wd (l.getD 3 0)), (2, wd (l.getD 4 0)), (4, wd (l.getD 5 0)), (3, (u.core n.val).sp + 48)],
       st := some (stWrite (u.core n.val).st (l.getD 1 0)), jump := some (l.getD 0 0 % 2 ^ 48), cost := if n.val < 4 then 12 else 20,
       delay := if bit (l.getD 1 0) 14 then 1 else 0, target := if bit (l.getD 1 0) 14 then v.get CPO_XTGT_ADDR n.val % 2 ^ 48 else 0 }) ∧
  -- retiChains
  (∀ (n : Core) (g : Slot) (sp i p : Nat) (l : List Nat) (s u v : State), s.Issues n.val g 1 u → (s.core n.val).delay = 0 →
     (u.core n.val).user = false → (u.core n.val).sp.toNat = sp →
     u.readFrame n.val [sp, sp + 8, sp + 16, sp + 24, sp + 32, sp + 40] g = (v, .ok l) → v.offer n.val = some (i, p) →
     v.flag CPO_EVT_CTL_ACCEPT n.val = true → bits (l.getD 1 0) 11 8 < p →
     ∃ t, Machine.exec (.reti n g) s = .next t ∧ (t.core n.val).pc = (v.get CPO_XVBAR_BASE n.val * 2 ^ 11 + 0x40 * (0x10 + p)) % 2 ^ 48 ∧
       (t.core n.val).st = stEvent (u.core n.val).st p ∧ t.get CPO_EVT_CLAIM_INPUT n.val = i % 2 ^ CPO_EVT_CLAIM_INPUT.width ∧
       t.flag CPO_EVT_CLAIM_VALID n.val = true ∧ t.flag CPO_EVT_STAT_CHAIN n.val = true ∧ (t.core n.val).sp = (v.core n.val).advance.sp)

/-- A load fetches its operand, zero- or sign-extended by size, and its value is on its way to the register two groups on; a store puts
its low bytes into the buffer; LEA gives the effective address; a push moves SP down 8 and stores there; a pop loads from SP and moves SP
up 8, its value on its way to the register (09 R259, R261, R265, R273). Completion, under conditions on the state and the operands alone:
exec answers a next state with the effect of lda, ldas, ldxLdy, sta, stxSty, lea, pushaPushxPushy, popaPopxPopy. (09 R259; 09 R261; 09 R265;
09 R273) -/
def Obligations.CapoLoadsAndStores : Prop :=
  -- lda
  (∀ (n : Core) (g : Slot) (o : MemOp) (w : Nat) (s u v : State), s.Issues n.val g o.len u → o.bad true = false → 
     u.operand n.val o 8 g = (v, .ok w) →
     ∃ t, Machine.exec (.lda n g o 0) s = .next t ∧ v.Done t n.val o.len { loads := [(0, wd w)], cost := 1 + o.access n.val }) ∧
  -- ldaNarrow
  (∀ (n : Core) (g : Slot) (o : MemOp) (size : BitVec 2) (w : Nat) (s u v : State), s.Issues n.val g o.len u → o.bad false = false → size ≠ 0 → 
     u.operand n.val o (8 / 2 ^ size.toNat) g = (v, .ok w) →
     ∃ t, Machine.exec (.lda n g o size) s = .next t ∧ v.Done t n.val o.len { loads := [(0, wd w)], cost := 1 + o.access n.val }) ∧
  -- ldas
  (∀ (n : Core) (g : Slot) (o : MemOp) (size : Fin 3) (w : Nat) (s u v : State), s.Issues n.val g o.len u → o.bad false = false → 
     u.operand n.val o (4 / 2 ^ size.val) g = (v, .ok w) →
     ∃ t, Machine.exec (.ldas n g o size) s = .next t ∧ v.Done t n.val o.len { loads := [(0, wd (wrap (sext w (8 * (4 / 2 ^ size.val))) 64))], cost := 1 + o.access n.val }) ∧
  -- ldxLdy
  (∀ (n : Core) (g : Slot) (o : MemOp) (y : Bool) (w : Nat) (s u v : State), s.Issues n.val g o.len u → o.bad true = false → 
     u.operand n.val o 8 g = (v, .ok w) →
     ∃ t, Machine.exec (.ldxLdy n g o y) s = .next t ∧ v.Done t n.val o.len { loads := [(if y then 2 else 1, wd w)], cost := 1 + o.access n.val }) ∧
  -- sta
  (∀ (n : Core) (g : Slot) (o : MemOp) (size : BitVec 2) (a : Nat) (e : StoreEnt) (s u v w : State), s.Issues n.val g o.len u → o.bad false = false →
     u.ea n.val o g = (v, .ok a) → v.storeCheck n.val a (8 / 2 ^ size.toNat) (v.core n.val).a.toNat (o.rest g) = (w, .ok e) →
     w.flag CPO_MODE_DET n.val = false → (w.core n.val).sbuf.length < 8 →
     ∃ t, Machine.exec (.sta n g o size) s = .next t ∧ e.va = a ∧ e.size = (8 / 2 ^ size.toNat) ∧ e.val = (v.core n.val).a.toNat % 2 ^ (8 * (8 / 2 ^ size.toNat)) ∧
       (t.core n.val).sbuf = (w.core n.val).sbuf ++ [e] ∧ w.Done t n.val o.len {}) ∧
  -- staAny
  (∀ (n : Core) (g : Slot) (o : MemOp) (size : BitVec 2) (a : Nat) (e : StoreEnt) (s u v w : State), s.Issues n.val g o.len u → o.bad false = false →
     u.ea n.val o g = (v, .ok a) → v.storeCheck n.val a (8 / 2 ^ size.toNat) (v.core n.val).a.toNat (o.rest g) = (w, .ok e) →
     Machine.exec (.sta n g o size) s = .next (w.commit n.val o.len {
       stores := [e], cost := 1 + o.storeAccess n.val, mem := o.mode != 0 } o.info id)) ∧
  -- stxSty
  (∀ (n : Core) (g : Slot) (o : MemOp) (y : Bool) (a : Nat) (e : StoreEnt) (s u v w : State), s.Issues n.val g o.len u → o.bad false = false →
     u.ea n.val o g = (v, .ok a) → v.storeCheck n.val a 8 (if y then (v.core n.val).y.toNat else (v.core n.val).x.toNat) (o.rest g) = (w, .ok e) →
     w.flag CPO_MODE_DET n.val = false → (w.core n.val).sbuf.length < 8 →
     ∃ t, Machine.exec (.stxSty n g o y) s = .next t ∧ e.va = a ∧ e.size = 8 ∧ e.val = (if y then (v.core n.val).y.toNat else (v.core n.val).x.toNat) % 2 ^ (8 * 8) ∧
       (t.core n.val).sbuf = (w.core n.val).sbuf ++ [e] ∧ w.Done t n.val o.len {}) ∧
  -- stxStyAny
  (∀ (n : Core) (g : Slot) (o : MemOp) (y : Bool) (a : Nat) (e : StoreEnt) (s u v w : State), s.Issues n.val g o.len u → o.bad false = false →
     u.ea n.val o g = (v, .ok a) → v.storeCheck n.val a 8 (if y then (v.core n.val).y.toNat else (v.core n.val).x.toNat) (o.rest g) = (w, .ok e) →
     Machine.exec (.stxSty n g o y) s = .next (w.commit n.val o.len {
       stores := [e], cost := 1 + o.storeAccess n.val, mem := o.mode != 0 } o.info id)) ∧
  -- lea
  (∀ (n : Core) (g : Slot) (o : MemOp) (a : Nat) (s u v : State), s.Issues n.val g o.len u → o.bad false = false →
     u.ea n.val o g = (v, .ok a) →
     ∃ t, Machine.exec (.lea n g o) s = .next t ∧ v.Done t n.val o.len { alu := [(0, wd a)], cost := 1 + o.access n.val }) ∧
  -- effectiveAddress
  (∀ (n : Nat) (o : MemOp) (g : Slot) (s : State), o.mode ≠ 5 → ∃ a, s.ea n o g = (s, .ok a) ∧
     (o.mode = 1 → a = o.simm) ∧ (o.mode = 2 → wd a = (s.core n).dp + wd (o.field % 2 ^ 12)) ∧ (o.mode = 3 → wd a = (s.core n).x + wd o.simm) ∧
     (o.mode = 4 → wd a = (s.core n).y + wd o.simm) ∧ (o.mode = 6 → wd a = (s.core n).sp + wd o.simm)) ∧
  -- push
  (∀ (n : Core) (g : Slot) (r : Fin 3) (e : StoreEnt) (s u v : State), s.Issues n.val g 1 u →
     u.storeCheck n.val ((u.core n.val).sp - 8).toNat 8 ((u.core n.val).reg r.val).toNat g.err = (v, .ok e) →
     v.flag CPO_MODE_DET n.val = false → (v.core n.val).sbuf.length < 8 →
     ∃ t, Machine.exec (.pushaPushxPushy n g r) s = .next t ∧ e.va = ((u.core n.val).sp - 8).toNat ∧ e.size = 8 ∧ e.val = ((u.core n.val).reg r.val).toNat ∧
       (t.core n.val).sbuf = (v.core n.val).sbuf ++ [e] ∧ v.Done t n.val 1 { alu := [(3, (u.core n.val).sp - 8)] }) ∧
  -- pushAny
  (∀ (n : Core) (g : Slot) (r : Fin 3) (e : StoreEnt) (s u v : State), s.Issues n.val g 1 u →
     u.storeCheck n.val ((u.core n.val).sp - 8).toNat 8 ((u.core n.val).reg r.val).toNat g.err = (v, .ok e) →
     Machine.exec (.pushaPushxPushy n g r) s = .next (v.commit n.val 1 {
       alu := [(3, (u.core n.val).sp - 8)], stores := [e], cost := if n.val < 4 then 1 else 2, mem := true } { len := 1, mem := true } id)) ∧
  -- pop
  (∀ (n : Core) (g : Slot) (r : Fin 3) (w : Nat) (s u v : State), s.Issues n.val g 1 u →
     u.load n.val (u.core n.val).sp.toNat 8 g.err = (v, .ok w) →
     ∃ t, Machine.exec (.popaPopxPopy n g r) s = .next t ∧
       v.Done t n.val 1 {
         alu := [(3, (u.core n.val).sp + 8)], loads := [(r.val, wd w)], cost := if n.val < 4 then 1 else 9 })

/-- An arithmetic, logic, compare, multiply, divide or shift instruction that issues alone combines the register of its row with its
operand, writes that register and the flags of its row, and nothing else; an addition sets C on a carry out of bit 63 and V where the
signed sum leaves 64 bits, a subtraction C where there is no borrow and V where the signed difference leaves 64 bits, and Z is a result of
0 and N its bit 63 (09 R257, R261, R262, R282). Completion, under conditions on the state and the operands alone: exec answers a next
state with the effect of add, adc, sub, sbc, andOrXor, cmpCmpxCmpy, mul, mulhuMulhs, divuRemuDivsRems, shlShrSraRol, addxAddy, lddpLdsp,
ldhi, tst, addsp. (09 R257; 09 R261; 09 R262; 09 R265; 09 R282) -/
def Obligations.CapoArithmetic : Prop :=
  -- add
  (∀ (n : Core) (g : Slot) (o : MemOp) (w : Nat) (s u v : State), s.Issues n.val g o.len u → o.bad true = false →
     u.operand n.val o 8 g = (v, .ok w) → 
     ∃ t, Machine.exec (.add n g o) s = .next t ∧
       v.Done t n.val o.len { alu := [(0, (v.core n.val).a + wd w)], mask := 15, flags := (addFlags (v.core n.val).a.toNat w 0).2, cost := 1 + o.access n.val }) ∧
  -- adc
  (∀ (n : Core) (g : Slot) (o : MemOp) (w : Nat) (s u v : State), s.Issues n.val g o.len u → o.bad true = false →
     u.operand n.val o 8 g = (v, .ok w) → 
     ∃ t, Machine.exec (.adc n g o) s = .next t ∧
       v.Done t n.val o.len { alu := [(0, (v.core n.val).a + wd w + wd ((v.core n.val).st % 2))], mask := 15, flags := (addFlags (v.core n.val).a.toNat w ((v.core n.val).st % 2)).2, cost := 1 + o.access n.val }) ∧
  -- sub
  (∀ (n : Core) (g : Slot) (o : MemOp) (w : Nat) (s u v : State), s.Issues n.val g o.len u → o.bad true = false →
     u.operand n.val o 8 g = (v, .ok w) → w < 2 ^ 64 → 
     ∃ t, Machine.exec (.sub n g o) s = .next t ∧
       v.Done t n.val o.len { alu := [(0, (v.core n.val).a - wd w)], mask := 15, flags := (subFlags (v.core n.val).a.toNat w 1).2, cost := 1 + o.access n.val }) ∧
  -- sbc
  (∀ (n : Core) (g : Slot) (o : MemOp) (w : Nat) (s u v : State), s.Issues n.val g o.len u → o.bad true = false →
     u.operand n.val o 8 g = (v, .ok w) → w < 2 ^ 64 → 
     ∃ t, Machine.exec (.sbc n g o) s = .next t ∧
       v.Done t n.val o.len { alu := [(0, (v.core n.val).a - wd w - wd (1 - (v.core n.val).st % 2))], mask := 15, flags := (subFlags (v.core n.val).a.toNat w ((v.core n.val).st % 2)).2, cost := 1 + o.access n.val }) ∧
  -- andOrXor
  (∀ (n : Core) (g : Slot) (o : MemOp) (op : Fin 3) (w : Nat) (s u v : State), s.Issues n.val g o.len u → o.bad true = false →
     u.operand n.val o 8 g = (v, .ok w) → w < 2 ^ 64 → 
     ∃ t, Machine.exec (.andOrXor n g o op) s = .next t ∧
       v.Done t n.val o.len { alu := [(0, if op = 0 then (v.core n.val).a &&& wd w else if op = 1 then (v.core n.val).a ||| wd w else (v.core n.val).a ^^^ wd w)], mask := 6, flags := flagsZN (if op = 0 then (v.core n.val).a &&& wd w else if op = 1 then (v.core n.val).a ||| wd w else (v.core n.val).a ^^^ wd w).toNat, cost := 1 + o.access n.val }) ∧
  -- cmp
  (∀ (n : Core) (g : Slot) (o : MemOp) (r : Fin 3) (w : Nat) (s u v : State), s.Issues n.val g o.len u → o.bad true = false →
     u.operand n.val o 8 g = (v, .ok w) → 
     ∃ t, Machine.exec (.cmpCmpxCmpy n g o r) s = .next t ∧
       v.Done t n.val o.len { mask := 15, flags := (subFlags ((v.core n.val).reg r.val).toNat w 1).2, cost := 1 + o.access n.val }) ∧
  -- mul
  (∀ (n : Core) (g : Slot) (o : MemOp) (w : Nat) (s u v : State), s.Issues n.val g o.len u → o.bad true = false →
     u.operand n.val o 8 g = (v, .ok w) → 
     ∃ t, Machine.exec (.mul n g o) s = .next t ∧
       v.Done t n.val o.len { alu := [(0, (v.core n.val).a * wd w)], mask := 6, flags := flagsZN ((v.core n.val).a * wd w).toNat, cost := 4 + o.access n.val }) ∧
  -- mulhu
  (∀ (n : Core) (g : Slot) (o : MemOp) (w : Nat) (s u v : State), s.Issues n.val g o.len u → o.bad true = false →
     u.operand n.val o 8 g = (v, .ok w) → w < 2 ^ 64 → 
     ∃ t, Machine.exec (.mulhuMulhs n g o false) s = .next t ∧
       v.Done t n.val o.len { alu := [(0, wd ((v.core n.val).a.toNat * w / 2 ^ 64))], mask := 6, flags := flagsZN (wd ((v.core n.val).a.toNat * w / 2 ^ 64)).toNat, cost := 4 + o.access n.val }) ∧
  -- mulhs
  (∀ (n : Core) (g : Slot) (o : MemOp) (w : Nat) (s u v : State), s.Issues n.val g o.len u → o.bad true = false →
     u.operand n.val o 8 g = (v, .ok w) → w < 2 ^ 64 → 
     ∃ t, Machine.exec (.mulhuMulhs n g o true) s = .next t ∧
       v.Done t n.val o.len { alu := [(0, BitVec.ofInt 64 ((v.core n.val).a.toInt * (wd w).toInt / 2 ^ 64))], mask := 6, flags := flagsZN (BitVec.ofInt 64 ((v.core n.val).a.toInt * (wd w).toInt / 2 ^ 64)).toNat, cost := 4 + o.access n.val }) ∧
  -- divide
  (∀ (n : Core) (g : Slot) (o : MemOp) (op : BitVec 2) (w : Nat) (s u v : State), s.Issues n.val g o.len u → o.bad true = false →
     u.operand n.val o 8 g = (v, .ok w) → w < 2 ^ 64 → 
     ∃ t, Machine.exec (.divuRemuDivsRems n g o op) s = .next t ∧
       v.Done t n.val o.len { alu := [(0, wd (divide op.toNat (v.core n.val).a.toNat w))], mask := 6, flags := flagsZN (wd (divide op.toNat (v.core n.val).a.toNat w)).toNat, cost := 36 + o.access n.val }) ∧
  -- shiftByZero
  (∀ (n : Core) (g : Slot) (o : MemOp) (op : BitVec 2) (w : Nat) (s u v : State), s.Issues n.val g o.len u → o.bad true = false →
     u.operand n.val o 8 g = (v, .ok w) → w % 64 = 0 → 
     ∃ t, Machine.exec (.shlShrSraRol n g o op) s = .next t ∧
       v.Done t n.val o.len { alu := [(0, (v.core n.val).a)], mask := 6, flags := flagsZN ((v.core n.val).a).toNat, cost := 1 + o.access n.val }) ∧
  -- shift
  (∀ (n : Core) (g : Slot) (o : MemOp) (op : BitVec 2) (w : Nat) (s u v : State), s.Issues n.val g o.len u → o.bad true = false →
     u.operand n.val o 8 g = (v, .ok w) → w % 64 ≠ 0 → 
     ∃ t, Machine.exec (.shlShrSraRol n g o op) s = .next t ∧
       v.Done t n.val o.len { alu := [(0, wd (shiftFlags op.toNat (v.core n.val).a.toNat (w % 64)).1)], mask := 7, flags := (shiftFlags op.toNat (v.core n.val).a.toNat (w % 64)).2.1, cost := 1 + o.access n.val }) ∧
  -- addxAddy
  (∀ (n : Core) (g : Slot) (o : MemOp) (y : Bool) (w : Nat) (s u v : State), s.Issues n.val g o.len u → o.bad true = false →
     u.operand n.val o 8 g = (v, .ok w) → 
     ∃ t, Machine.exec (.addxAddy n g o y) s = .next t ∧
       v.Done t n.val o.len { alu := [(if y then 2 else 1, (if y then (v.core n.val).y else (v.core n.val).x) + wd w)], mask := 6, flags := flagsZN ((if y then (v.core n.val).y else (v.core n.val).x) + wd w).toNat, cost := 1 + o.access n.val }) ∧
  -- lddpLdsp
  (∀ (n : Core) (g : Slot) (o : MemOp) (sp : Bool) (w : Nat) (s u v : State), s.Issues n.val g o.len u → o.bad true = false →
     u.operand n.val o 8 g = (v, .ok w) → 
     ∃ t, Machine.exec (.lddpLdsp n g o sp) s = .next t ∧
       v.Done t n.val o.len { alu := [(if sp then 3 else 4, wd w)], cost := 1 + o.access n.val }) ∧
  -- addsp
  (∀ (n : Core) (g : Slot) (o : MemOp) (w : Nat) (s u v : State), s.Issues n.val g o.len u → o.bad true = false →
     u.operand n.val o 8 g = (v, .ok w) → 
     ∃ t, Machine.exec (.addsp n g o) s = .next t ∧
       v.Done t n.val o.len { alu := [(3, (v.core n.val).sp + wd w)], cost := 1 + o.access n.val }) ∧
  -- tst
  (∀ (n : Core) (g : Slot) (o : MemOp) (w : Nat) (s u v : State), s.Issues n.val g o.len u → o.bad true = false →
     u.operand n.val o 8 g = (v, .ok w) → 
     ∃ t, Machine.exec (.tst n g o) s = .next t ∧
       v.Done t n.val o.len { mask := 6, flags := flagsZN ((v.core n.val).a.toNat &&& w), cost := 1 + o.access n.val }) ∧
  -- ldhi
  (∀ (n : Core) (g : Slot) (o : MemOp) (s u : State), s.Issues n.val g 3 u → o.am = 0 → o.long = true →
     ∃ t, Machine.exec (.ldhi n g o) s = .next t ∧
       u.Done t n.val 3 { alu := [(0, wd ((u.core n.val).a.toNat % 2 ^ 36 + o.f.toNat % 2 ^ 28 * 2 ^ 36))] }) ∧
  -- addFlags
  (∀ (a b : Word), (addFlags a.toNat b.toNat 0).1 = (a + b).toNat ∧ bit (addFlags a.toNat b.toNat 0).2 0 = decide (2 ^ 64 ≤ a.toNat + b.toNat) ∧
     bit (addFlags a.toNat b.toNat 0).2 1 = decide (a + b = 0) ∧ bit (addFlags a.toNat b.toNat 0).2 2 = (a + b).msb ∧
     bit (addFlags a.toNat b.toNat 0).2 3 = decide (a.toInt + b.toInt < -2 ^ 63 ∨ 2 ^ 63 ≤ a.toInt + b.toInt)) ∧
  -- subFlags
  (∀ (a b : Word), (subFlags a.toNat b.toNat 1).1 = (a - b).toNat ∧ bit (subFlags a.toNat b.toNat 1).2 0 = decide (b.toNat ≤ a.toNat) ∧
     bit (subFlags a.toNat b.toNat 1).2 1 = decide (a = b) ∧ bit (subFlags a.toNat b.toNat 1).2 2 = (a - b).msb ∧
     bit (subFlags a.toNat b.toNat 1).2 3 = decide (a.toInt - b.toInt < -2 ^ 63 ∨ 2 ^ 63 ≤ a.toInt - b.toInt)) ∧
  -- division
  (∀ (a b : Nat), a < 2 ^ 64 → 0 < b → b < 2 ^ 64 → divide 0 a b = a / b ∧ divide 1 a b = a % b ∧
     (sext a 64 ≥ 0 → sext b 64 > 0 → divide 2 a b = a / b ∧ divide 3 a b = a % b))

/-- Division never traps: DIVU by 0 gives all ones and REMU by 0 gives A; DIVS by 0 gives -1 and REMS by 0 gives A; DIVS of -2^63 by
-1 gives -2^63 and REMS then gives 0; the instruction completes and the flags Z and N are those of the result (09 R262). (09 R262) -/
def Obligations.DivisionCorners : Prop :=
  -- byZero
  (∀ (n : Core) (g : Slot) (o : MemOp) (op : BitVec 2) (s u v : State), s.Issues n.val g o.len u → o.bad true = false →
     u.operand n.val o 8 g = (v, .ok 0) →
     ∃ t r, Machine.exec (.divuRemuDivsRems n g o op) s = .next t ∧ r = (if op = 0 ∨ op = 2 then BitVec.allOnes 64 else (v.core n.val).a) ∧
       v.Done t n.val o.len { alu := [(0, r)], mask := 6, flags := flagsZN r.toNat, cost := 36 + o.access n.val }) ∧
  -- lowestByMinusOne
  (∀ (n : Core) (g : Slot) (o : MemOp) (s u v : State), s.Issues n.val g o.len u → o.bad true = false →
     u.operand n.val o 8 g = (v, .ok (2 ^ 64 - 1)) → (v.core n.val).a = BitVec.intMin 64 →
     (∃ t, Machine.exec (.divuRemuDivsRems n g o 2) s = .next t ∧ v.Done t n.val o.len {
       alu := [(0, BitVec.intMin 64)], mask := 6, flags := 4, cost := 36 + o.access n.val }) ∧
     (∃ t, Machine.exec (.divuRemuDivsRems n g o 3) s = .next t ∧ v.Done t n.val o.len {
       alu := [(0, 0)], mask := 6, flags := 2, cost := 36 + o.access n.val }))

/-- SYNC empties the store buffer and SYNCI also the I-cache; WAIT stops issue; SYSCALL and BRK take their exceptions; TLBINV, TLBSYNC,
DCINV, ICINV, MFCR, MTCR and LDST have the effects of their rows, the privileged ones in supervisor mode (09 R261, 11 R308, R322, R325). While the walk of an exception's frame
waits, the pipeline freezes (09 R266). Completion, under conditions on the state and the operands alone: exec answers a next state with
the effect of syncOp, synci, waitOp, syscall, brk, tlbinv, tlbsync, dcinv, icinv, mfcr, mtcr, ldst. (09 R261; 09 R266; 11 R308; 11 R322;
11 R325; 00 R12) -/
def Obligations.CapoSystemInstructions : Prop :=
  -- sync
  (∀ (n : Core) (g : Slot) (s u : State), s.Issues n.val g 1 u →
     ∃ t, Machine.exec (.syncOp n g) s = .next t ∧ (u.drainAll n.val).Done t n.val 1 {} ∧
       ((∀ e ∈ (u.core n.val).sbuf, regionType e.pa = 0) → (t.core n.val).sbuf = [])) ∧
  -- synci
  (∀ (n : Core) (g : Slot) (s u : State), s.Issues n.val g 1 u →
     ∃ t, Machine.exec (.synci n g) s = .next t ∧ (u.drainAll n.val).Done t n.val 1 { cost := 7 } ∧ (t.core n.val).icache = []) ∧
  -- wait
  (∀ (n : Core) (g : Slot) (s u : State), s.Issues n.val g 1 u → (u.core n.val).user = false → 
     ∃ t, Machine.exec (.waitOp n g) s = .next t ∧ u.Done t n.val 1 { free := true } ∧ (t.core n.val).waiting = true) ∧
  -- syscall
  (∀ (n : Core) (g : Slot) (k : BitVec 6) (s u : State), s.Issues n.val g 1 u → (s.core n.val).delay = 0 →
     u.frameWaits n.val g.stack = false →
     Machine.exec (.syscall n g k) s = .next (u.takeExc n.val { code := 0x06, arg := k.toNat, after := true } false 1 g.stack)) ∧
  -- brk
  (∀ (n : Core) (g : Slot) (k : BitVec 6) (s u : State), s.Issues n.val g 1 u → (s.core n.val).delay = 0 →
     u.frameWaits n.val g.stack = false →
     Machine.exec (.brk n g k) s = .next (u.takeExc n.val { code := 0x07, arg := k.toNat, after := true } false 1 g.stack)) ∧
  -- frameWaits
  (∀ (n : Core) (g : Slot) (k : BitVec 6) (s u : State), s.Issues n.val g 1 u → (s.core n.val).delay = 0 →
     u.frameWaits n.val g.stack = true →
     Machine.exec (.syscall n g k) s = .next (u.setCore n.val { u.core n.val with frozen := true }) ∧
     Machine.exec (.brk n g k) s = .next (u.setCore n.val { u.core n.val with frozen := true })) ∧
  -- tlbinvLocal
  (∀ (n : Core) (g : Slot) (k : BitVec 6) (s u : State), s.Issues n.val g 1 u → k.toNat < 16 → k.getLsbD 3 = true →
     (u.core n.val).user = false → (u.core n.val).sbuf = [] →
     ∃ t, Machine.exec (.tlbinv n g k) s = .next t ∧
       u.Done t n.val 1 { inval := [(k.toNat, (u.core n.val).a.toNat, (u.core n.val).x.toNat)], cost := 7 } ∧
       (k.toNat % 4 = 0 → (t.core n.val).l1 = [] ∧ (t.core n.val).l2 = []) ∧
       (k.getLsbD 2 = false → (t.core n.val).locks = (u.core n.val).locks) ∧
       (∀ e ∈ (t.core n.val).l1, e ∈ (u.core n.val).l1) ∧ (∀ e ∈ (t.core n.val).l2, e ∈ (u.core n.val).l2) ∧
       (k.toNat % 4 = 1 → ∀ e ∈ (t.core n.val).l1, e.glob = true ∨ e.asid ≠ (u.core n.val).x.toNat % 2 ^ 12) ∧
       (k.toNat % 4 = 3 → ∀ e ∈ (t.core n.val).l1, e.maps (bits (u.core n.val).a.toNat 47 12) = false)) ∧
  -- tlbinvBroadcast
  (∀ (n m : Core) (g : Slot) (k : BitVec 6) (s u : State), s.Issues n.val g 1 u → k.toNat < 8 →
     (u.core n.val).user = false → (u.core n.val).bcasts.length < 8 → (u.core n.val).sbuf = [] → u.coreOn m.val = true → (u.core m.val).held = false →
     ∃ t, Machine.exec (.tlbinv n g k) s = .next t ∧ t.flag MMU_SYNC_PENDING n.val = true ∧
       t.get MMU_SYNC_OUTST n.val = (u.core n.val).bcasts.length ∧
       (t.core m.val).invq = (u.core m.val).invq ++ [⟨n.val, (u.core n.val).bcastNo, k.toNat, (u.core n.val).a.toNat, (u.core n.val).x.toNat⟩]) ∧
  -- tlbinvPair
  (∀ (n : Core) (k : BitVec 6) (g : Slot) (e : Eff) (len : Nat) (s u : State), s.issues n.val = true →
     (s.core n.val).first = some (e, len) → e.vstores = [] → e.rsops = [] → g.pair = false → g.rsvd = false → (s.core n.val).odd = false →
     (s.core n.val).delay ≠ 3 → (s.walkedAhead n.val g).fetch n.val (((s.core n.val).pc + 2 * len) % 2 ^ 48) 1 g.err = (u, .ok ()) → (u.core n.val).user = false →
     k.toNat < 8 → (u.core n.val).bcasts.length + e.inval.countP (fun q => !bit q.1 3) < 8 → e.mem = false →
     Machine.exec (.tlbinv n g k) s = .next (u.commit n.val (len + 1)
       (e.join { inval := [(k.toNat, (u.core n.val).a.toNat, (u.core n.val).x.toNat)], cost := 7 }) { len := 1 } id)) ∧
  -- tlbinvNinthWaits
  (∀ (n : Core) (g : Slot) (k : BitVec 6) (s u : State), s.Issues n.val g 1 u → k.toNat < 8 →
     (u.core n.val).user = false → 8 ≤ (u.core n.val).bcasts.length →
     Machine.exec (.tlbinv n g k) s =
       .next ((s.walkedAhead n.val g).setCore n.val { (s.walkedAhead n.val g).core n.val with frozen := true })) ∧
  -- tlbsync
  (∀ (n : Core) (g : Slot) (s u : State), s.Issues n.val g 1 u → (u.core n.val).user = false → 
     ∃ t, Machine.exec (.tlbsync n g) s = .next t ∧ u.Done t n.val 1 { cost := 1600 } ∧
       (t.core n.val).syncing = if (u.core n.val).bcasts = [] then (u.core n.val).syncing else some u.tb) ∧
  -- dcinv
  (∀ (n : Core) (g : Slot) (p : Nat × Nat) (s u u' v : State), s.Issues n.val g 1 u → (u.core n.val).user = false →
     u.detRule n.val (u.core n.val).a.toNat 1 false = (u', .ok ()) → u'.translate n.val (u.core n.val).a.toNat .read g.err = (v, .ok p) →
     ∃ t, Machine.exec (.dcinv n g) s = .next t ∧ v.Done t n.val 1 { drop := 1, line := p.1 / 64 } ∧
       (∀ q ∈ (t.core n.val).dcache, q ∈ (v.core n.val).dcache ∧ q.1 ≠ p.1 / 64)) ∧
  -- icinv
  (∀ (n : Core) (g : Slot) (p : Nat × Nat) (s u u' v : State), s.Issues n.val g 1 u →
     u.detRule n.val (u.core n.val).a.toNat 1 false = (u', .ok ()) → u'.translate n.val (u.core n.val).a.toNat .read g.err = (v, .ok p) →
     ∃ t, Machine.exec (.icinv n g) s = .next t ∧ v.Done t n.val 1 { drop := 2, line := p.1 / 64 } ∧
       (∀ q ∈ (t.core n.val).icache, q ∈ (v.core n.val).icache ∧ q ≠ p.1 / 64)) ∧
  -- mfcr
  (∀ (n : Core) (g : Slot) (k : BitVec 6) (s u : State), s.Issues n.val g 1 u →
     ((u.core n.val).user = false ∨ k = 9 ∨ k = 10) →
     ∃ t, Machine.exec (.mfcr n g k) s = .next t ∧ u.Done t n.val 1 {
       alu := [(0, wd (match RegAt.reg ⟨.cpo, n.val, 8 * k.toNat⟩ with
         | some (r, i) => u.regRead r i
         | none => 0))] }) ∧
  -- mtcr
  (∀ (n : Core) (g : Slot) (k : BitVec 6) (s u : State), s.Issues n.val g 1 u → (u.core n.val).user = false →
     (k = 0x0E → u.answerWaits n.val = false) →
     ∃ c, Machine.exec (.mtcr n g k) s = .next (u.commit n.val 1 { cost := c } { len := 1, solo := true } (fun w =>
       match RegAt.reg ⟨.cpo, n.val, 8 * k.toNat⟩ with
       | some (r, i) => w.regWrite (.core n) .cpo r i (s.core n.val).a.toNat (2 ^ 64 - 1)
       | none => w))) ∧
  -- mtcrWaits
  (∀ (n : Core) (g : Slot) (s u : State), s.Issues n.val g 1 u → (u.core n.val).user = false → u.answerWaits n.val = true →
     Machine.exec (.mtcr n g 0x0E) s =
       .next ((s.walkedAhead n.val g).setCore n.val { (s.walkedAhead n.val g).core n.val with frozen := true })) ∧
  -- ldst
  (∀ (n : Core) (g : Slot) (o : MemOp) (w : Nat) (s u v : State), s.Issues n.val g o.len u → o.bad true = false →
     (u.core n.val).user = false → u.operand n.val o 8 g = (v, .ok w) →
     ∃ t, Machine.exec (.ldst n g o) s = .next t ∧
       v.Done t n.val o.len { st := some (stWrite (v.core n.val).st w), cost := 7 + o.access n.val })

/-- A core that cannot issue does nothing; an odd PC is an ALIGN exception, a bad operand field, a register code of 5 to 7 or a transfer
in a delay slot an ILLEGAL one; a privileged instruction in user mode a PRIV one, RETI and LDST where no word that
they read raises an exception of its own first, a push onto a full return stack under RSOVF an RS_OVERFLOW and a pop of an empty one an
RS_UNDERFLOW (09 R260, R261, R267, R269, R279). An operation code that the tables leave reserved is an ILLEGAL exception (how the command list spells one, logs 115, 116).
(09 R260; 09 R261; 09 R263; 09 R267; 09 R269; 09 R277; 09 R279) -/
def Obligations.CapoTraps : Prop :=
  -- notIssuing
  (∀ (n : Core) (g : Slot) (o : MemOp) (k : BitVec 6) (s : State), s.issues n.val = false →
     Machine.exec (.nop n g) s = .next s ∧ Machine.exec (.add n g o) s = .next s ∧ Machine.exec (.mtcr n g k) s = .next s ∧
     Machine.exec (.ret n g) s = .next s) ∧
  -- oddPc
  (∀ (n : Core) (g : Slot) (a : Nat) (p : Nat × Nat) (s w u v : State), s.issues n.val = true → s.beforeGroup n.val = none →
     (s.core n.val).first = none → (s.core n.val).delay ≠ 3 → (s.core n.val).odd = true → w = s.walkedAhead n.val g →
     a = w.pcVa n.val ((s.core n.val).pc + 1) → w.fetchUnlocked n.val a = false → w.translate n.val a .fetch g.err = (u, .ok p) →
     u.detRule n.val a 2 false = (v, .ok ()) →
     Machine.exec (.nop n g) s = .next (v.takeExc n.val { code := 0x03, addr := some a, fetch := true } false 1 g.stack)) ∧
  -- reserved
  (∀ (n : Core) (g : Slot) (o : MemOp) (v : VOp) (len : Nat) (s u : State), s.issues n.val = true → s.beforeGroup n.val = none →
     (s.core n.val).first = none → (s.core n.val).delay ≠ 3 → (s.core n.val).odd = false → g.rsvd = true → g.pair = false →
     (s.walkedAhead n.val g).fetch n.val ((s.core n.val).pc % 2 ^ 48) len g.err = (u, .ok ()) →
     (len = 1 → Machine.exec (.nop n g) s = .next (u.takeExc n.val { code := 0x01 } false 1 g.stack)) ∧
     (len = o.len → Machine.exec (.add n g o) s = .next (u.takeExc n.val { code := 0x01 } false len g.stack)) ∧
     (len = 3 → Machine.exec (.vadd n g v) s =
       .next (u.takeExc n.val { code := if bit (u.core n.val).st 13 then 0x01 else 0x0E } false 3 g.stack))) ∧
  -- reservedWords
  (∀ (n : Core) (err : MemErr) (dlen : BitVec 3) (h1 h2 : BitVec 16), (∀ op k, (2 < op ∧ op < 0x0B ∨ 0x2E < op ∧ op < 0x40 ∨ 0x41 < op ∧ op < 0x80) → k < 64 →
       capoDecode n err dlen (BitVec.ofNat 16 (64 * op + k)) h1 h2 = .nop n { pair := false, err := err, rsvd := true }) ∧
     (∀ k, k < 128 → ∃ o, capoDecode n err dlen (BitVec.ofNat 16 (0x2000 + 128 * 0x2F + k)) h1 h2 = .add n { pair := false, err := err, rsvd := true } o)) ∧
  -- badCode
  (∀ (n : Core) (g : Slot) (k : BitVec 6) (s u : State), s.Issues n.val g 1 u → (5 ≤ k.toNat % 8 ∨ 5 ≤ k.toNat / 8 ∨ k.toNat % 8 = k.toNat / 8) →
     Machine.exec (.movr n g k) s = .next (u.takeExc n.val { code := 0x01 } false 1 g.stack) ∧
     Machine.exec (.exr n g k) s = .next (u.takeExc n.val { code := 0x01 } false 1 g.stack)) ∧
  -- badOperand
  (∀ (n : Core) (g : Slot) (o : MemOp) (s u : State), s.Issues n.val g o.len u → (o.am = 7 ∨ (o.am = 1 ∧ o.long = false)) →
     Machine.exec (.add n g o) s = .next (u.takeExc n.val { code := 0x01 } false o.len g.stack) ∧
     Machine.exec (.sta n g o 0) s = .next (u.takeExc n.val { code := 0x01 } false o.len g.stack)) ∧
  -- storeImmediate
  (∀ (n : Core) (g : Slot) (o : MemOp) (s u : State), s.Issues n.val g o.len u → o.am = 0 →
     Machine.exec (.sta n g o 0) s = .next (u.takeExc n.val { code := 0x01 } false o.len g.stack) ∧
     Machine.exec (.lea n g o) s = .next (u.takeExc n.val { code := 0x01 } false o.len g.stack)) ∧
  -- transferInSlot
  (∀ (n : Core) (g : Slot) (s u : State), s.Issues n.val g 1 u → ((s.core n.val).delay = 1 ∨ (s.core n.val).delay = 2) →
     ((s.core n.val).skipBp || !s.domOn 765 || !s.bpMatch n.val (((s.core n.val).pc + 2) % 2 ^ 48)) = true → Machine.exec (.ret n g) s = .next (u.takeExc n.val { code := 0x01 } false 1 g.stack)) ∧
  -- privileged
  (∀ (n : Core) (g : Slot) (k : BitVec 6) (s u : State), s.Issues n.val g 1 u → (u.core n.val).user = true → k ≠ 9 → k ≠ 10 →
     Machine.exec (.waitOp n g) s = .next (u.takeExc n.val { code := 0x02 } false 1 g.stack) ∧
     Machine.exec (.tlbsync n g) s = .next (u.takeExc n.val { code := 0x02 } false 1 g.stack) ∧
     (u.flag CPO_MODE_DET n.val = false → Machine.exec (.dcinv n g) s = .next (u.takeExc n.val { code := 0x02 } false 1 g.stack)) ∧
     Machine.exec (.mfcr n g k) s = .next (u.takeExc n.val { code := 0x02 } false 1 g.stack) ∧
     Machine.exec (.mtcr n g k) s = .next (u.takeExc n.val { code := 0x02 } false 1 g.stack)) ∧
  -- privilegedTlbinv
  (∀ (n : Core) (g : Slot) (k : BitVec 6) (s u : State), s.Issues n.val g 1 u → (u.core n.val).user = true → k.toNat < 16 →
     Machine.exec (.tlbinv n g k) s = .next (u.takeExc n.val { code := 0x02 } false 1 g.stack)) ∧
  -- privilegedReads
  (∀ (n : Core) (g : Slot) (o : MemOp) (l : List Nat) (w : Nat) (s u v : State), (u.core n.val).user = true →
     (s.Issues n.val g 1 u → (s.core n.val).delay = 0 →
       u.readFrame n.val ((List.range 6).map (fun k => (u.core n.val).sp.toNat + 8 * k)) g = (v, .ok l) →
       Machine.exec (.reti n g) s = .next (u.takeExc n.val { code := 0x02 } false 1 g.stack)) ∧
     (s.Issues n.val g o.len u → o.bad true = false → u.operand n.val o 8 g = (v, .ok w) →
       Machine.exec (.ldst n g o) s = .next (u.takeExc n.val { code := 0x02 } false o.len g.stack))) ∧
  -- returnStack
  (∀ (n : Core) (g : Slot) (s u : State), s.Issues n.val g 1 u →
     ((u.core n.val).rs = [] → Machine.exec (.rspop n g) s = .next (u.takeExc n.val { code := 0x05 } false 1 g.stack)) ∧
     (u.rsFull n.val = true → Machine.exec (.rspush n g) s = .next (u.takeExc n.val { code := 0x04 } false 1 g.stack))) ∧
  -- firstOfPair
  (∀ (n : Core) (g : Slot) (s u v : State), s.issues n.val = true → s.beforeGroup n.val = none → (s.core n.val).first = none →
     g.pair = true → g.rsvd = false → (s.core n.val).odd = false → (s.core n.val).delay ≠ 3 →
     (s.walkedAhead n.val g).fetch n.val ((s.core n.val).pc % 2 ^ 48) 1 g.err = (u, .ok ()) →
     u.fetchAhead n.val (((s.core n.val).pc + 2) % 2 ^ 48) g.next.toNat g.ahead = (v, .ok ()) →
     ∃ t e, Machine.exec (.clc n g) s = .next t ∧ (t.core n.val).first = some (e, 1) ∧ e.mask = 1 ∧ e.flags = 0 ∧
       (t.core n.val).pc = (v.core n.val).pc ∧ (t.core n.val).st = (v.core n.val).st ∧ Keeps { cores := true } v t)

/-- An exception fills CPO_XINFO and stacks PC, ST, A, X, Y and DP below SP in the core's own LSRAM, sets SUP, and goes to the vector of
its code; where the frame cannot be stacked there the core stops (09 R277, R278, R279). In deterministic mode the entry takes its cycles
(09 R282, 12 R344). (09 R277; 09 R278; 09 R279; 09 R282; 12 R344) -/
def Obligations.CapoExceptionEntry : Prop :=
  -- entry
  (∀ (n : Core) (e : Exc) (second : Bool) (len : Nat) (fe : FrameErr) (s : State), (s.core n.val).late = [] → (s.core n.val).vlate = [] →
     (s.core n.val).sbuf = [] → s.flag CPO_MODE_DET n.val = false → s.flag MMU_CTL_EN n.val = false → e.code < 16 → e.code ≠ 0x0D →
     (s.core n.val).sp.toNat % 8 = 0 → lsramBase n.val + 48 ≤ (s.core n.val).sp.toNat → (s.core n.val).sp.toNat ≤ lsramBase n.val + 0x40000 →
     let x := s.core n.val
     let t := s.takeExc n.val e second len fe
     (t.core n.val).pc = (s.get CPO_XVBAR_BASE n.val * 2 ^ 11 + 0x40 * e.code) % 2 ^ 48 ∧ (t.core n.val).sp = x.sp - 48 ∧
       (t.core n.val).st = putBit x.st 12 true ∧ (t.core n.val).delay = 0 ∧ t.get CPO_XINFO_CODE n.val = e.code ∧
       t.flag CPO_XINFO_SLOT n.val = second ∧ t.flag CPO_XINFO_WRITE n.val = e.write ∧ t.flag CPO_XINFO_FETCH n.val = e.fetch ∧
       (t.core n.val).sbuf.map (·.val) = [if e.after then (x.pc + 2 * len) % 2 ^ 48 else x.pc, putBit x.st 14 (x.delay == 1),
         x.a.toNat, x.x.toNat, x.y.toNat, x.dp.toNat] ∧
       (t.core n.val).sbuf.map (·.pa) = (List.range 6).map (fun k => x.sp.toNat - 48 + 8 * k) ∧
       Keeps { regs := [.cpo, .trc, .lec, .gec], fresh := true, cores := true, free := true } s t) ∧
  -- entryTime
  (∀ (n : Core) (pc st code : Nat) (fe : FrameErr) (s v : State),
     s.stackFrame n.val pc st code (if n.val < 4 then 12 else 20) fe = (v, true) → s.flag CPO_MODE_DET n.val = true →
     (s.core n.val).sbuf = [] →
     v.get CPO_CYC_COUNT n.val = min (s.get CPO_CYC_COUNT n.val + if n.val < 4 then 12 else 20) (2 ^ 64 - 1)) ∧
  -- doubleFault
  (∀ (n : Core) (e : Exc) (second : Bool) (len : Nat) (fe : FrameErr) (s : State), s.flag MMU_CTL_EN n.val = false →
     (s.core n.val).sp = 0 → (s.core n.val).late = [] →
     ((s.takeExc n.val e second len fe).core n.val).stopped = true ∧ (s.takeExc n.val e second len fe).flag CPO_XINFO_DBL n.val = true) ∧
  -- fetchLeavesRegisters
  (∀ (n pc len : Nat) (s : State), s.flag MMU_CTL_EN n = false → (s.fetch n pc len .none).1.get CPO_CYC_COUNT n = s.get CPO_CYC_COUNT n ∧
     (∀ r, r < 5 → ((s.fetch n pc len .none).1.core n).reg r = (s.core n).reg r) ∧ ((s.fetch n pc len .none).1.core n).pc = (s.core n).pc ∧
     ((s.fetch n pc len .none).1.core n).st = (s.core n).st ∧ Keeps { regs := [.cpo, .mmu], cores := true, free := true } s (s.fetch n pc len .none).1)

/-- An element-wise vector instruction of a core with VEN = 1 gives each active element of VD its result from the elements of VA and VB;
inactive elements keep their value, LIVE is set, and the rest of the core is kept (10 R285-R289, R300). Completion, under conditions on
the state and the operands alone: exec answers a next state with the effect of vadd, vsub, vmul, vminuVmaxuVminsVmaxs, vandVorVxorVandn,
vshlVshrVsra, vshli, vceqVcltuVclts, vsel, vmov, vpopc. (10 R286; 10 R287; 10 R288; 10 R289; 10 R300) -/
def Obligations.VectorArithmetic : Prop :=
  -- vadd
  (∀ (n : Core) (g : Slot) (o : VOp) (s u v : State), s.VIssues n.val g o useDAB u v →
     ∃ t, Machine.exec (.vadd n g o) s = .next t ∧ t.flag CVU_STAT_LIVE n.val = true ∧ v.Done t n.val 3 {
       vec := vElems o (v.vActive n.val o) (fun i => (v.core n.val).elem o o.va i + (v.core n.val).elem o o.vb i)
       cost := vRegs o
       free := u.get CVU_STAT_PSTATE n.val != 0 }) ∧
  -- vsub
  (∀ (n : Core) (g : Slot) (o : VOp) (s u v : State), s.VIssues n.val g o useDAB u v →
     ∃ t, Machine.exec (.vsub n g o) s = .next t ∧ t.flag CVU_STAT_LIVE n.val = true ∧ v.Done t n.val 3 {
       vec := vElems o (v.vActive n.val o) (fun i => (v.core n.val).elem o o.va i + 2 ^ vBits o - (v.core n.val).elem o o.vb i)
       cost := vRegs o
       free := u.get CVU_STAT_PSTATE n.val != 0 }) ∧
  -- vmul
  (∀ (n : Core) (g : Slot) (o : VOp) (s u v : State), s.VIssues n.val g o useDAB u v →
     ∃ t, Machine.exec (.vmul n g o) s = .next t ∧ t.flag CVU_STAT_LIVE n.val = true ∧ v.Done t n.val 3 {
       vec := vElems o (v.vActive n.val o) (fun i => (v.core n.val).elem o o.va i * (v.core n.val).elem o o.vb i)
       cost := vRegs o + 3
       free := u.get CVU_STAT_PSTATE n.val != 0 }) ∧
  -- vminu
  (∀ (n : Core) (g : Slot) (o : VOp) (s u v : State), s.VIssues n.val g o useDAB u v →
     ∃ t, Machine.exec (.vminuVmaxuVminsVmaxs n g o 0) s = .next t ∧ t.flag CVU_STAT_LIVE n.val = true ∧ v.Done t n.val 3 {
       vec := vElems o (v.vActive n.val o) (fun i => min ((v.core n.val).elem o o.va i) ((v.core n.val).elem o o.vb i))
       cost := vRegs o
       free := u.get CVU_STAT_PSTATE n.val != 0 }) ∧
  -- vmaxu
  (∀ (n : Core) (g : Slot) (o : VOp) (s u v : State), s.VIssues n.val g o useDAB u v →
     ∃ t, Machine.exec (.vminuVmaxuVminsVmaxs n g o 1) s = .next t ∧ t.flag CVU_STAT_LIVE n.val = true ∧ v.Done t n.val 3 {
       vec := vElems o (v.vActive n.val o) (fun i => max ((v.core n.val).elem o o.va i) ((v.core n.val).elem o o.vb i))
       cost := vRegs o
       free := u.get CVU_STAT_PSTATE n.val != 0 }) ∧
  -- vmins
  (∀ (n : Core) (g : Slot) (o : VOp) (s u v : State), s.VIssues n.val g o useDAB u v →
     ∃ t, Machine.exec (.vminuVmaxuVminsVmaxs n g o 2) s = .next t ∧ t.flag CVU_STAT_LIVE n.val = true ∧ v.Done t n.val 3 {
       vec := vElems o (v.vActive n.val o) (fun i => if sext ((v.core n.val).elem o o.va i) (vBits o) ≤ sext ((v.core n.val).elem o o.vb i) (vBits o) then (v.core n.val).elem o o.va i else (v.core n.val).elem o o.vb i)
       cost := vRegs o
       free := u.get CVU_STAT_PSTATE n.val != 0 }) ∧
  -- vmaxs
  (∀ (n : Core) (g : Slot) (o : VOp) (s u v : State), s.VIssues n.val g o useDAB u v →
     ∃ t, Machine.exec (.vminuVmaxuVminsVmaxs n g o 3) s = .next t ∧ t.flag CVU_STAT_LIVE n.val = true ∧ v.Done t n.val 3 {
       vec := vElems o (v.vActive n.val o) (fun i => if sext ((v.core n.val).elem o o.va i) (vBits o) ≤ sext ((v.core n.val).elem o o.vb i) (vBits o) then (v.core n.val).elem o o.vb i else (v.core n.val).elem o o.va i)
       cost := vRegs o
       free := u.get CVU_STAT_PSTATE n.val != 0 }) ∧
  -- vand
  (∀ (n : Core) (g : Slot) (o : VOp) (s u v : State), s.VIssues n.val g o useDAB u v →
     ∃ t, Machine.exec (.vandVorVxorVandn n g o 0) s = .next t ∧ t.flag CVU_STAT_LIVE n.val = true ∧ v.Done t n.val 3 {
       vec := vElems o (v.vActive n.val o) (fun i => (v.core n.val).elem o o.va i &&& (v.core n.val).elem o o.vb i)
       cost := vRegs o
       free := u.get CVU_STAT_PSTATE n.val != 0 }) ∧
  -- vor
  (∀ (n : Core) (g : Slot) (o : VOp) (s u v : State), s.VIssues n.val g o useDAB u v →
     ∃ t, Machine.exec (.vandVorVxorVandn n g o 1) s = .next t ∧ t.flag CVU_STAT_LIVE n.val = true ∧ v.Done t n.val 3 {
       vec := vElems o (v.vActive n.val o) (fun i => (v.core n.val).elem o o.va i ||| (v.core n.val).elem o o.vb i)
       cost := vRegs o
       free := u.get CVU_STAT_PSTATE n.val != 0 }) ∧
  -- vxor
  (∀ (n : Core) (g : Slot) (o : VOp) (s u v : State), s.VIssues n.val g o useDAB u v →
     ∃ t, Machine.exec (.vandVorVxorVandn n g o 2) s = .next t ∧ t.flag CVU_STAT_LIVE n.val = true ∧ v.Done t n.val 3 {
       vec := vElems o (v.vActive n.val o) (fun i => (v.core n.val).elem o o.va i ^^^ (v.core n.val).elem o o.vb i)
       cost := vRegs o
       free := u.get CVU_STAT_PSTATE n.val != 0 }) ∧
  -- vandn
  (∀ (n : Core) (g : Slot) (o : VOp) (s u v : State), s.VIssues n.val g o useDAB u v →
     ∃ t, Machine.exec (.vandVorVxorVandn n g o 3) s = .next t ∧ t.flag CVU_STAT_LIVE n.val = true ∧ v.Done t n.val 3 {
       vec := vElems o (v.vActive n.val o) (fun i => (v.core n.val).elem o o.va i &&& ((v.core n.val).elem o o.vb i ^^^ (2 ^ vBits o - 1)))
       cost := vRegs o
       free := u.get CVU_STAT_PSTATE n.val != 0 }) ∧
  -- vshl
  (∀ (n : Core) (g : Slot) (o : VOp) (s u v : State), s.VIssues n.val g o useDAB u v →
     ∃ t, Machine.exec (.vshlVshrVsra n g o 0) s = .next t ∧ t.flag CVU_STAT_LIVE n.val = true ∧ v.Done t n.val 3 {
       vec := vElems o (v.vActive n.val o) (fun i => (v.core n.val).elem o o.va i * 2 ^ ((v.core n.val).elem o o.vb i % vBits o))
       cost := vRegs o
       free := u.get CVU_STAT_PSTATE n.val != 0 }) ∧
  -- vshr
  (∀ (n : Core) (g : Slot) (o : VOp) (s u v : State), s.VIssues n.val g o useDAB u v →
     ∃ t, Machine.exec (.vshlVshrVsra n g o 1) s = .next t ∧ t.flag CVU_STAT_LIVE n.val = true ∧ v.Done t n.val 3 {
       vec := vElems o (v.vActive n.val o) (fun i => (v.core n.val).elem o o.va i / 2 ^ ((v.core n.val).elem o o.vb i % vBits o))
       cost := vRegs o
       free := u.get CVU_STAT_PSTATE n.val != 0 }) ∧
  -- vsra
  (∀ (n : Core) (g : Slot) (o : VOp) (s u v : State), s.VIssues n.val g o useDAB u v →
     ∃ t, Machine.exec (.vshlVshrVsra n g o 2) s = .next t ∧ t.flag CVU_STAT_LIVE n.val = true ∧ v.Done t n.val 3 {
       vec := vElems o (v.vActive n.val o) (fun i => wrap (sext ((v.core n.val).elem o o.va i) (vBits o) / 2 ^ ((v.core n.val).elem o o.vb i % vBits o)) (vBits o))
       cost := vRegs o
       free := u.get CVU_STAT_PSTATE n.val != 0 }) ∧
  -- vshli
  (∀ (n : Core) (g : Slot) (o : VOp) (s u v : State), s.VIssues n.val g o { useDA with imm := 1 } u v →
     ∃ t, Machine.exec (.vshli n g o) s = .next t ∧ t.flag CVU_STAT_LIVE n.val = true ∧ v.Done t n.val 3 {
       vec := vElems o (v.vActive n.val o) (fun i => (v.core n.val).elem o o.va i * 2 ^ (o.imm.toNat % 64 % vBits o))
       cost := vRegs o
       free := u.get CVU_STAT_PSTATE n.val != 0 }) ∧
  -- vceq
  (∀ (n : Core) (g : Slot) (o : VOp) (s u v : State), s.VIssues n.val g o useDAB u v →
     ∃ t, Machine.exec (.vceqVcltuVclts n g o 0) s = .next t ∧ t.flag CVU_STAT_LIVE n.val = true ∧ v.Done t n.val 3 {
       vec := vElems o (v.vActive n.val o) (fun i => if (v.core n.val).elem o o.va i = (v.core n.val).elem o o.vb i then 2 ^ vBits o - 1 else 0)
       cost := vRegs o
       free := u.get CVU_STAT_PSTATE n.val != 0 }) ∧
  -- vcltu
  (∀ (n : Core) (g : Slot) (o : VOp) (s u v : State), s.VIssues n.val g o useDAB u v →
     ∃ t, Machine.exec (.vceqVcltuVclts n g o 1) s = .next t ∧ t.flag CVU_STAT_LIVE n.val = true ∧ v.Done t n.val 3 {
       vec := vElems o (v.vActive n.val o) (fun i => if (v.core n.val).elem o o.va i < (v.core n.val).elem o o.vb i then 2 ^ vBits o - 1 else 0)
       cost := vRegs o
       free := u.get CVU_STAT_PSTATE n.val != 0 }) ∧
  -- vclts
  (∀ (n : Core) (g : Slot) (o : VOp) (s u v : State), s.VIssues n.val g o useDAB u v →
     ∃ t, Machine.exec (.vceqVcltuVclts n g o 2) s = .next t ∧ t.flag CVU_STAT_LIVE n.val = true ∧ v.Done t n.val 3 {
       vec := vElems o (v.vActive n.val o) (fun i => if sext ((v.core n.val).elem o o.va i) (vBits o) < sext ((v.core n.val).elem o o.vb i) (vBits o) then 2 ^ vBits o - 1 else 0)
       cost := vRegs o
       free := u.get CVU_STAT_PSTATE n.val != 0 }) ∧
  -- vsel
  (∀ (n : Core) (g : Slot) (o : VOp) (s u v : State), s.VIssues n.val g o { useDAB with noMask := true } u v →
     ∃ t, Machine.exec (.vsel n g o) s = .next t ∧ t.flag CVU_STAT_LIVE n.val = true ∧ v.Done t n.val 3 {
       vec := vElems o (v.vActive n.val o) (fun i => if bit ((v.core n.val).vreg 0) i then (v.core n.val).elem o o.va i else (v.core n.val).elem o o.vb i)
       cost := vRegs o
       free := u.get CVU_STAT_PSTATE n.val != 0 }) ∧
  -- vmov
  (∀ (n : Core) (g : Slot) (o : VOp) (s u v : State), s.VIssues n.val g o useDA u v →
     ∃ t, Machine.exec (.vmov n g o) s = .next t ∧ t.flag CVU_STAT_LIVE n.val = true ∧ v.Done t n.val 3 {
       vec := vElems o (v.vActive n.val o) (fun i => (v.core n.val).elem o o.va i)
       cost := vRegs o
       free := u.get CVU_STAT_PSTATE n.val != 0 }) ∧
  -- vpopc
  (∀ (n : Core) (g : Slot) (o : VOp) (s u v : State), s.VIssues n.val g o useDA u v →
     ∃ t, Machine.exec (.vpopc n g o) s = .next t ∧ t.flag CVU_STAT_LIVE n.val = true ∧ v.Done t n.val 3 {
       vec := vElems o (v.vActive n.val o) (fun i => popcount (vBits o) ((v.core n.val).elem o o.va i))
       cost := vRegs o
       free := u.get CVU_STAT_PSTATE n.val != 0 })

/-- VMSK, VSPLAT, VINS, VEXT, VSETVL, VCOMPRESS and VEXPAND move between elements, A and VL as their rows say; results of distinct
elements change those elements of the group VD, to their value modulo 2^EW, and no other element of it, and no register outside the group
(10 R286-R291). Completion, under conditions on the state and the operands alone: exec answers a next state with the effect of vmsk,
vsplat, vins, vext, vsetvl, vcompress, vexpand. (10 R286; 10 R287; 10 R288; 10 R289; 10 R290; 10 R291) -/
def Obligations.VectorMoves : Prop :=
  -- vmsk
  (∀ (n : Core) (g : Slot) (o : VOp) (s u v : State), s.VIssues n.val g o { d1 := true, a := true } u v →
     ∃ t, Machine.exec (.vmsk n g o) s = .next t ∧ t.flag CVU_STAT_LIVE n.val = true ∧ v.Done t n.val 3 {
       vec := vResult o.vd.toNat 1 1 ((v.vActive n.val o).map (fun i => (i, if (v.core n.val).elem o o.va i = 0 then 0 else 1)))
       cost := vRegs o
       free := u.get CVU_STAT_PSTATE n.val != 0 }) ∧
  -- vsplat
  (∀ (n : Core) (g : Slot) (o : VOp) (s u v : State), s.VIssues n.val g o { d := true } u v →
     ∃ t, Machine.exec (.vsplat n g o) s = .next t ∧ t.flag CVU_STAT_LIVE n.val = true ∧ v.Done t n.val 3 {
       vec := vElems o (v.vActive n.val o) (fun _ => (v.core n.val).a.toNat)
       cost := vRegs o
       free := u.get CVU_STAT_PSTATE n.val != 0 }) ∧
  -- vins
  (∀ (n : Core) (g : Slot) (o : VOp) (s u v : State), s.VIssues n.val g o { d := true, noMask := true } u v →
     ∃ t, Machine.exec (.vins n g o) s = .next t ∧ t.flag CVU_STAT_LIVE n.val = true ∧ v.Done t n.val 3 {
       vec := if (v.core n.val).x.toNat % 256 < vNe o then vElems o [(v.core n.val).x.toNat % 256] (fun _ => (v.core n.val).a.toNat) else []
       cost := 1
       free := u.get CVU_STAT_PSTATE n.val != 0 }) ∧
  -- vext
  (∀ (n : Core) (g : Slot) (o : VOp) (s u v : State), s.VIssues n.val g o { a := true, noMask := true } u v →
     ∃ t, Machine.exec (.vext n g o) s = .next t ∧ t.flag CVU_STAT_LIVE n.val = true ∧ v.Done t n.val 3 {
       alu := [(0, wd (if (v.core n.val).x.toNat % 256 < vNe o then (v.core n.val).elem o o.va ((v.core n.val).x.toNat % 256) else 0))]
       cost := 1
       free := u.get CVU_STAT_PSTATE n.val != 0 }) ∧
  -- vsetvl
  (∀ (n : Core) (g : Slot) (o : VOp) (s u v : State), s.VIssues n.val g o { noMask := true, noShape := true } u v →
     ∃ t, Machine.exec (.vsetvl n g o) s = .next t ∧ t.get CVU_VL_VL n.val = min (v.core n.val).a.toNat 256 ∧ t.flag CVU_STAT_LIVE n.val = true ∧ v.Done t n.val 3 {
       alu := [(0, wd (min (v.core n.val).a.toNat 256))]
       vl := some (min (v.core n.val).a.toNat 256)
       cost := 1
       free := u.get CVU_STAT_PSTATE n.val != 0 }) ∧
  -- vcompress
  (∀ (n : Core) (g : Slot) (o : VOp) (s u v : State), s.VIssues n.val g o useDA u v →
     ∃ t, Machine.exec (.vcompress n g o) s = .next t ∧ t.flag CVU_STAT_LIVE n.val = true ∧ v.Done t n.val 3 {
       alu := [(0, wd (v.vActive n.val o).length)]
       vec := vResult o.vd.toNat (vRegs o) (vBits o) ((List.range (v.vActive n.val o).length).zip ((v.vActive n.val o).map (fun i => (v.core n.val).elem o o.va i)))
       cost := 2 * vRegs o + 1
       free := u.get CVU_STAT_PSTATE n.val != 0 }) ∧
  -- vexpand
  (∀ (n : Core) (g : Slot) (o : VOp) (s u v : State), s.VIssues n.val g o useDA u v →
     ∃ t, Machine.exec (.vexpand n g o) s = .next t ∧ t.flag CVU_STAT_LIVE n.val = true ∧ v.Done t n.val 3 {
       alu := [(0, wd (v.vActive n.val o).length)]
       vec := vResult o.vd.toNat (vRegs o) (vBits o) ((v.vActive n.val o).zip ((List.range (v.vActive n.val o).length).map (fun i => (v.core n.val).elem o o.va i)))
       cost := 2 * vRegs o + 1
       free := u.get CVU_STAT_PSTATE n.val != 0 }) ∧
  -- resultOfElements
  (∀ (x : CoreSt) (vd lg le : Nat) (l : List (Nat × Nat)), lg < 4 → 3 ≤ le → le ≤ 6 → (∀ k, x.vreg k < 2 ^ 256) → (l.map (·.1)).Nodup →
     (∀ p ∈ l, p.1 < 256 * 2 ^ lg / 2 ^ le) →
     (∀ i, i < 256 * 2 ^ lg / 2 ^ le → elemOf ((x.setVecs (vResult vd (2 ^ lg) (2 ^ le) l)).vgroup vd (2 ^ lg)) (2 ^ le) i =
       (match l.find? (fun p => p.1 == i) with
       | some p => p.2 % 2 ^ 2 ^ le
       | none => elemOf (x.vgroup vd (2 ^ lg)) (2 ^ le) i)) ∧
     (∀ k, (k < vd ∨ vd + 2 ^ lg ≤ k) → (x.setVecs (vResult vd (2 ^ lg) (2 ^ le) l)).vreg k = x.vreg k))

/-- A reduction puts the sum modulo 2^64, the XOR, the least, the greatest, the count of ones or the CRC-32C of the active elements of VA
in A; none active gives 0, and all ones for the least (10 R289, R291). Completion, under conditions on the state and the operands alone:
exec answers a next state with the effect of vradd, vrxor, vrminuVrmaxu, vrpopc, vcrc. (10 R289; 10 R291) -/
def Obligations.VectorReductions : Prop :=
  -- vradd
  (∀ (n : Core) (g : Slot) (o : VOp) (s u v : State), s.VIssues n.val g o useA u v →
     ∃ t, Machine.exec (.vradd n g o) s = .next t ∧ t.flag CVU_STAT_LIVE n.val = true ∧ v.Done t n.val 3 {
       alu := [(0, wd (((v.vActive n.val o).map (fun i => (v.core n.val).elem o o.va i)).sum % 2 ^ 64))]
       cost := vRegs o + 4
       free := u.get CVU_STAT_PSTATE n.val != 0 }) ∧
  -- vrxor
  (∀ (n : Core) (g : Slot) (o : VOp) (s u v : State), s.VIssues n.val g o useA u v →
     ∃ t, Machine.exec (.vrxor n g o) s = .next t ∧ t.flag CVU_STAT_LIVE n.val = true ∧ v.Done t n.val 3 {
       alu := [(0, wd (((v.vActive n.val o).map (fun i => (v.core n.val).elem o o.va i)).foldl (· ^^^ ·) 0))]
       cost := vRegs o + 4
       free := u.get CVU_STAT_PSTATE n.val != 0 }) ∧
  -- vrminu
  (∀ (n : Core) (g : Slot) (o : VOp) (s u v : State), s.VIssues n.val g o useA u v →
     ∃ t, Machine.exec (.vrminuVrmaxu n g o false) s = .next t ∧ t.flag CVU_STAT_LIVE n.val = true ∧ v.Done t n.val 3 {
       alu := [(0, wd (((v.vActive n.val o).map (fun i => (v.core n.val).elem o o.va i)).foldl min (2 ^ 64 - 1)))]
       cost := vRegs o + 4
       free := u.get CVU_STAT_PSTATE n.val != 0 }) ∧
  -- vrmaxu
  (∀ (n : Core) (g : Slot) (o : VOp) (s u v : State), s.VIssues n.val g o useA u v →
     ∃ t, Machine.exec (.vrminuVrmaxu n g o true) s = .next t ∧ t.flag CVU_STAT_LIVE n.val = true ∧ v.Done t n.val 3 {
       alu := [(0, wd (((v.vActive n.val o).map (fun i => (v.core n.val).elem o o.va i)).foldl max 0))]
       cost := vRegs o + 4
       free := u.get CVU_STAT_PSTATE n.val != 0 }) ∧
  -- vrpopc
  (∀ (n : Core) (g : Slot) (o : VOp) (s u v : State), s.VIssues n.val g o useA u v →
     ∃ t, Machine.exec (.vrpopc n g o) s = .next t ∧ t.flag CVU_STAT_LIVE n.val = true ∧ v.Done t n.val 3 {
       alu := [(0, wd ((((v.vActive n.val o).map (fun i => (v.core n.val).elem o o.va i)).map (popcount (vBits o))).sum))]
       cost := vRegs o + 4
       free := u.get CVU_STAT_PSTATE n.val != 0 }) ∧
  -- vcrc
  (∀ (n : Core) (g : Slot) (o : VOp) (s u v : State), s.VIssues n.val g o useA u v →
     ∃ t, Machine.exec (.vcrc n g o) s = .next t ∧ t.flag CVU_STAT_LIVE n.val = true ∧ v.Done t n.val 3 {
       alu := [(0, wd (crcFold (((v.vActive n.val o).map (fun i => (v.core n.val).elem o o.va i)).flatMap (leBytes (vBits o / 8))) ((v.core n.val).a.toNat % 2 ^ 32)))]
       cost := 8 * vRegs o
       free := u.get CVU_STAT_PSTATE n.val != 0 })

/-- A vector load checks every active element and then reads them in ascending order, its values on their way to VD; a vector store checks
them and performs them in order when its group completes (10 R292-R296). While the write of an element would wait at its stack, the
group does not complete (10 R292; 13 R364). A bus error on an element faults there with cause 4, earlier elements performed. A vector
instruction with VEN = 0 takes CVU_OFF, with fields that R288 forbids ILLEGAL, on a unit that lost its registers a vector fault of cause 6, and
with a parity error in a register it reads one of cause 7 that names the element (10 R288, R294, R297, R301). A byte with wrong parity keeps it
until all of its bits are written. Completion, under conditions on the state and the operands alone: exec answers a next state with the effect
of vld, vst, vgather, vscatter. (10 R288; 10 R292; 10 R293; 10 R294; 10 R295; 10 R296; 10 R297; 10 R301; 13 R364) -/
def Obligations.VectorMemory : Prop :=
  -- vld
  (∀ (n : Core) (g : Slot) (o : VOp) (p : List (Nat × Nat × Nat × Nat)) (r : List (Nat × Nat)) (s u v w z : State),
     s.VIssues n.val g o { d := true, imm := 2, br := true } u v →
     v.vCheck n.val (vBits o / 8) false g.err ((v.vActive n.val o).map (fun i => (i, (v.core n.val).elemAddr o false i))) = (w, .ok p) →
     w.vLoads n.val (vBits o / 8) g.err true p = (z, .ok r) →
     ∃ t, Machine.exec (.vld n g o) s = .next t ∧ t.flag CVU_STAT_LIVE n.val = true ∧ r.map (·.1) = v.vActive n.val o ∧ z.Done t n.val 3 {
       vload := vResult o.vd.toNat (vRegs o) (vBits o) r
       cost := (if n.val < 4 then 2 + vRegs o else 9 + vRegs o)
       free := u.get CVU_STAT_PSTATE n.val != 0 }) ∧
  -- vgather
  (∀ (n : Core) (g : Slot) (o : VOp) (p : List (Nat × Nat × Nat × Nat)) (r : List (Nat × Nat)) (s u v w z : State),
     s.VIssues n.val g o { d := true, b := true, imm := 2, br := true, sc := true } u v →
     v.vCheck n.val (vBits o / 8) false g.err ((v.vActive n.val o).map (fun i => (i, (v.core n.val).elemAddr o true i))) = (w, .ok p) →
     w.vLoads n.val (vBits o / 8) g.err true p = (z, .ok r) →
     ∃ t, Machine.exec (.vgather n g o) s = .next t ∧ t.flag CVU_STAT_LIVE n.val = true ∧ r.map (·.1) = v.vActive n.val o ∧ z.Done t n.val 3 {
       vload := vResult o.vd.toNat (vRegs o) (vBits o) r
       cost := (if n.val < 4 then 2 + vNe o else 9 + vNe o)
       free := u.get CVU_STAT_PSTATE n.val != 0 }) ∧
  -- vst
  (∀ (n : Core) (g : Slot) (o : VOp) (p : List (Nat × Nat × Nat × Nat)) (s u v w z : State),
     s.VIssues n.val g o { d := true, imm := 2, br := true } u v →
     v.vCheck n.val (vBits o / 8) true g.err ((v.vActive n.val o).map (fun i => (i, (v.core n.val).elemAddr o false i))) = (w, .ok p) → p ≠ [] →
     p.any (fun q => (w.drainAll n.val).writeWaits q.2.2.1) = false →
     (w.drainAll n.val).performVec n.val ((p.find? (fun q => elemBus g.err q.1)).map (·.1)) (p.map (fun q => (q.1, ⟨q.2.1, q.2.2.1, vBits o / 8, (v.core n.val).elem o o.vd q.1⟩))) = (z, none) →
     ∃ t, Machine.exec (.vst n g o) s = .next t ∧ t.flag CVU_STAT_LIVE n.val = true ∧ p.map (·.1) = v.vActive n.val o ∧ z.Done t n.val 3 {
       cost := 1 + vRegs o
       free := u.get CVU_STAT_PSTATE n.val != 0 }) ∧
  -- vstNothing
  (∀ (n : Core) (g : Slot) (o : VOp) (s u v : State), s.VIssues n.val g o { d := true, imm := 2, br := true } u v → v.vActive n.val o = [] →
     ∃ t, Machine.exec (.vst n g o) s = .next t ∧ t.flag CVU_STAT_LIVE n.val = true ∧ v.Done t n.val 3 {
       cost := 1 + vRegs o
       free := u.get CVU_STAT_PSTATE n.val != 0 }) ∧
  -- vscatter
  (∀ (n : Core) (g : Slot) (o : VOp) (p : List (Nat × Nat × Nat × Nat)) (s u v w z : State),
     s.VIssues n.val g o { d := true, b := true, imm := 2, br := true, sc := true } u v →
     v.vCheck n.val (vBits o / 8) true g.err ((v.vActive n.val o).map (fun i => (i, (v.core n.val).elemAddr o true i))) = (w, .ok p) → p ≠ [] →
     p.any (fun q => (w.drainAll n.val).writeWaits q.2.2.1) = false →
     (w.drainAll n.val).performVec n.val ((p.find? (fun q => elemBus g.err q.1)).map (·.1)) (p.map (fun q => (q.1, ⟨q.2.1, q.2.2.1, vBits o / 8, (v.core n.val).elem o o.vd q.1⟩))) = (z, none) →
     ∃ t, Machine.exec (.vscatter n g o) s = .next t ∧ t.flag CVU_STAT_LIVE n.val = true ∧ p.map (·.1) = v.vActive n.val o ∧ z.Done t n.val 3 {
       cost := 1 + vNe o
       free := u.get CVU_STAT_PSTATE n.val != 0 }) ∧
  -- vscatterNothing
  (∀ (n : Core) (g : Slot) (o : VOp) (s u v : State), s.VIssues n.val g o { d := true, b := true, imm := 2, br := true, sc := true } u v → v.vActive n.val o = [] →
     ∃ t, Machine.exec (.vscatter n g o) s = .next t ∧ t.flag CVU_STAT_LIVE n.val = true ∧ v.Done t n.val 3 {
       cost := 1 + vNe o
       free := u.get CVU_STAT_PSTATE n.val != 0 }) ∧
  -- busError
  (∀ (n : Core) (g : Slot) (o : VOp) (b : Byte) (p : List (Nat × Nat × Nat × Nat)) (q : Nat × Nat × Nat × Nat) (s u v w : State), vBits o = 64 → g.err = .elem b false →
     s.VIssues n.val g o { d := true, imm := 2, br := true } u v → (w.core n.val).sbuf = [] →
     v.vCheck n.val 8 true g.err ((v.vActive n.val o).map (fun i => (i, (v.core n.val).elemAddr o false i))) = (w, .ok p) →
     p.head? = some q → q.1 = b.toNat → p.any (fun q => w.writeWaits q.2.2.1) = false →
     Machine.exec (.vst n g o) s = .next ((w.cvuFault n.val b.toNat 4 true).takeExc n.val
       { code := 0x0F, addr := some q.2.1, write := true } false 3 g.stack)) ∧
  -- storeWaits
  (∀ (n : Core) (g : Slot) (o : VOp) (p : List (Nat × Nat × Nat × Nat)) (s u v w : State), s.VIssues n.val g o { d := true, imm := 2, br := true } u v →
     v.vCheck n.val (vBits o / 8) true g.err ((v.vActive n.val o).map (fun i => (i, (v.core n.val).elemAddr o false i))) = (w, .ok p) →
     p.any (fun q => (w.drainAll n.val).writeWaits q.2.2.1) = true →
     ∃ t, Machine.exec (.vst n g o) s = .next t ∧ (t.core n.val).frozen = true ∧ (t.core n.val).pc = (w.core n.val).pc ∧ t.mem = w.mem ∧
       t.ckp.heldWrites = w.ckp.heldWrites ∧ t.get CPO_GRP_COUNT n.val = w.get CPO_GRP_COUNT n.val) ∧
  -- unitOff
  (∀ (n : Core) (g : Slot) (o : VOp) (s u : State), s.Issues n.val g 3 u → bit (u.core n.val).st 13 = false →
     Machine.exec (.vadd n g o) s = .next (u.takeExc n.val { code := 0x0E } false 3 g.stack) ∧
     Machine.exec (.vst n g o) s = .next (u.takeExc n.val { code := 0x0E } false 3 g.stack)) ∧
  -- fields
  (∀ (n : Core) (g : Slot) (o : VOp) (s u : State), s.Issues n.val g 3 u → bit (u.core n.val).st 13 = true →
     (o.rsv ≠ 0 ∨ o.va.toNat % vRegs o ≠ 0 ∨ o.vb.toNat % vRegs o ≠ 0 ∨ o.vd.toNat % vRegs o ≠ 0 ∨ (o.m = true ∧ o.vd = 0)) →
     Machine.exec (.vadd n g o) s = .next (u.takeExc n.val { code := 0x01 } false 3 g.stack)) ∧
  -- parity
  (∀ (n : Core) (g : Slot) (o : VOp) (r b : Fin 32) (s u v : State), s.Issues n.val g 3 u → bit (u.core n.val).st 13 = true →
     useDA.bad o = false → v = u.cvuReady n.val → v.flag CVU_STAT_LOST n.val = false → (v.core n.val).vbad = [] →
     g.err = .vreg r (BitVec.ofNat 32 (2 ^ b.val)) → o.va.toNat ≤ r.val → r.val < o.va.toNat + vRegs o →
     Machine.exec (.vmov n g o) s =
       .next (((v.setCore n.val ((v.core n.val).vUpset g.err)).cvuFault n.val (((r.val - o.va.toNat) * 32 + b.val) / (vBits o / 8)) 7 false).takeExc
         n.val { code := 0x0F, addr := some 0 } false 3 g.stack)) ∧
  -- parityStays
  (∀ (x : CoreSt) (r b : Fin 32) (l : List (Nat × Nat × Nat)), x.vbad = [] → (∀ q ∈ l, q.1 = r.val → bits q.2.2 (8 * b.val + 7) (8 * b.val) = 0) →
     bit (sget ((x.vUpset (.vreg r (BitVec.ofNat 32 (2 ^ b.val)))).setVecs l).vbad r.val 0) b.val = true) ∧
  -- parityMended
  (∀ (x : CoreSt) (r : Fin 32) (v : Nat), sget (x.setVecs [(r.val, v, 2 ^ 256 - 1)]).vbad r.val 0 = 0)

/-- At stroke cycle P - 24 each cell clears LC0.ACTIVE and LC1.ACTIVE and keeps COUNT, START and END (03 R79), as they stand when the results that take
effect by then have done so. (03 R79) -/
def Obligations.LoopsEndWithStroke : Prop :=
  ∀ (c : Nat) (k : Fin 2) (x : Cell) (s : State), s.inStroke = true → s.cyc + 24 = s.stroke.period → s.stroke.flipped = false → c ∈ s.liveCells →
    x = (s.settleCell c).cell c →
    ∃ t, Machine.exec .stateBankFlip s = .next t ∧ ((t.cell c).rd 6 k.val).getLsbD 48 = false ∧
      (∀ b, b ≠ 48 → ((t.cell c).rd 6 k.val).getLsbD b = (x.rd 6 k.val).getLsbD b)

/-- An offer above IML is accepted at a group boundary with the frame stacked, the vector of its priority, IML at its priority and the
claim recorded; a higher offer during or after entry replaces the vector; during an exit it abandons it; without such an offer nothing
happens (12 R342, R343, R345, R346, R348). An exit that is abandoned gives back the registers it had restored; an odd program counter
comes before any event (log 165); where the offer meets the core is the command's operand (log 135); while the walk of the frame's
translation waits, no event is accepted. Completion, under conditions on the state and the operands alone: exec answers a next state with the effect of
eventAcceptance. (12 R342; 12 R343; 12 R345; 12 R346; 12 R348) -/
def Obligations.CapoEventAcceptance : Prop :=
  -- none
  (∀ (n : Core) (w : EvWindow) (fe : FrameErr) (s : State), s.offerAbove n.val (bits (s.core n.val).st 11 8) = none →
     Machine.exec (.eventAcceptance n w fe) s = .next s) ∧
  -- lowPriority
  (∀ (n : Core) (w : EvWindow) (i p : Nat) (fe : FrameErr) (s : State), s.offer n.val = some (i, p) → p ≤ bits (s.core n.val).st 11 8 →
     Machine.exec (.eventAcceptance n w fe) s = .next s) ∧
  -- boundary
  (∀ (n : Core) (i p : Nat) (fe : FrameErr) (s v : State), s.offerAbove n.val (bits (s.core n.val).st 11 8) = some (i, p) → p < 16 →
     (s.core n.val).first = none → (s.core n.val).delay = 0 → (s.core n.val).syncing = none → (s.core n.val).frozen = false →
     (s.core n.val).entry = false → (s.core n.val).odd = false →
     s.stackFrame n.val (s.core n.val).pc (s.core n.val).st (0x10 + p) (if n.val < 4 then 11 else 19) fe = (v, true) →
     s.frameWaits n.val fe = false →
     ∃ t, Machine.exec (.eventAcceptance n .boundary fe) s = .next t ∧ bits (t.core n.val).st 11 8 = p ∧ bit (t.core n.val).st 12 = true ∧
       (t.core n.val).entry = true ∧ (t.core n.val).pc = (v.core n.val).pc ∧ (t.core n.val).sp = (v.core n.val).sp ∧
       t.get CPO_EVT_CLAIM_INPUT n.val = i % 1024 ∧ t.get CPO_EVT_CLAIM_PRIO n.val = p ∧ t.flag CPO_EVT_CLAIM_VALID n.val = true ∧
       Keeps { regs := [.cpo], cores := true } v t) ∧
  -- frameWalkWaits
  (∀ (n : Core) (fe : FrameErr) (s : State), s.frameWaits n.val fe = true → Machine.exec (.eventAcceptance n .boundary fe) s = .next s) ∧
  -- noBoundary
  (∀ (n : Core) (fe : FrameErr) (s : State), (s.core n.val).atBoundary = false → Machine.exec (.eventAcceptance n .boundary fe) s = .next s) ∧
  -- oddFirst
  (∀ (n : Core) (fe : FrameErr) (s : State), (s.core n.val).odd = true → Machine.exec (.eventAcceptance n .boundary fe) s = .next s) ∧
  -- frame
  (∀ (n pc st code cyc : Nat) (fe : FrameErr) (s v : State), s.stackFrame n pc st code cyc fe = (v, true) →
     (v.core n).pc = (v.get CPO_XVBAR_BASE n * 2 ^ 11 + 0x40 * code) % 2 ^ 48 ∧ bit (v.core n).st 12 = true ∧ (v.core n).delay = 0) ∧
  -- replaced
  (∀ (n : Core) (c : BitVec 5) (i p : Nat) (fe : FrameErr) (s : State), s.offerAbove n.val (bits (s.core n.val).st 11 8) = some (i, p) → p < 16 →
     (s.core n.val).entry = true →
     (s.flag CPO_MODE_DET n.val = true → 1 ≤ c.toNat ∧ c.toNat ≤ (s.core n.val).entryF1 + if n.val < 4 then 1 else 11) →
     ∃ t, Machine.exec (.eventAcceptance n (.entry c) fe) s = .next t ∧ (t.core n.val).pc = s.eventVector n.val p ∧ bits (t.core n.val).st 11 8 = p ∧
       (t.core n.val).sp = (s.core n.val).sp ∧ t.flag CPO_EVT_STAT_REPL n.val = true ∧ t.get CPO_EVT_CLAIM_INPUT n.val = i % 1024 ∧
       (t.core n.val).entryF1 = max (s.core n.val).entryF1 (c.toNat + 1) ∧
       (s.flag CPO_MODE_DET n.val = true → t.get CPO_CYC_COUNT n.val =
         min (s.get CPO_CYC_COUNT n.val + max (s.core n.val).entryF1 (c.toNat + 1) - (s.core n.val).entryF1) (2 ^ 64 - 1)) ∧
       Keeps { regs := [.cpo], cores := true, free := true } s t) ∧
  -- notReplaced
  (∀ (n : Core) (c : BitVec 5) (fe : FrameErr) (s : State), s.flag CPO_MODE_DET n.val = true →
     (c = 0 ∨ (s.core n.val).entryF1 + (if n.val < 4 then 1 else 11) < c.toNat) → Machine.exec (.eventAcceptance n (.entry c) fe) s = .next s) ∧
  -- replacedLate
  (∀ (n : Core) (i p : Nat) (fe : FrameErr) (s : State), s.offerAbove n.val (bits (s.core n.val).st 11 8) = some (i, p) → p < 16 → (s.core n.val).entry = true →
     ∃ t, Machine.exec (.eventAcceptance n .late fe) s = .next t ∧ (t.core n.val).pc = s.eventVector n.val p ∧ bits (t.core n.val).st 11 8 = p ∧
       (t.core n.val).sp = (s.core n.val).sp ∧ t.flag CPO_EVT_STAT_LATE n.val = true ∧ t.get CPO_EVT_CLAIM_INPUT n.val = i % 1024 ∧
       (s.flag CPO_MODE_DET n.val = true → t.get CPO_CYC_COUNT n.val = min (s.get CPO_CYC_COUNT n.val + if n.val < 4 then 7 else 17) (2 ^ 64 - 1)) ∧
       Keeps { regs := [.cpo], cores := true, free := true } s t) ∧
  -- exitAbandoned
  (∀ (n : Core) (c : BitVec 5) (i p : Nat) (a x y dp sp : Word) (st : Nat) (fe : FrameErr) (s : State),
     s.offerAbove n.val (bits (s.core n.val).st 11 8) = some (i, p) → p < 16 →
     (s.core n.val).undo = some [a.toNat, x.toNat, y.toNat, dp.toNat, sp.toNat, st] →
     (s.flag CPO_MODE_DET n.val = true → 1 ≤ c.toNat ∧ c.toNat ≤ if n.val < 4 then 10 else 18) →
     ∃ t, Machine.exec (.eventAcceptance n (.exit c) fe) s = .next t ∧ (t.core n.val).a = a ∧ (t.core n.val).x = x ∧ (t.core n.val).y = y ∧
       (t.core n.val).dp = dp ∧ (t.core n.val).sp = sp ∧ bits (t.core n.val).st 11 8 = p ∧ (t.core n.val).pc = s.eventVector n.val p ∧
       t.flag CPO_EVT_STAT_CHAIN n.val = true ∧ t.get CPO_EVT_CLAIM_INPUT n.val = i % 1024 ∧
       (s.flag CPO_MODE_DET n.val = true → t.get CPO_CYC_COUNT n.val = min (s.get CPO_CYC_COUNT n.val +
         (c.toNat + if n.val < 4 then 7 else 17) - (if n.val < 4 then 12 else 20)) (2 ^ 64 - 1)) ∧
       Keeps { regs := [.cpo], cores := true, free := true } s t) ∧
  -- exitTooLate
  (∀ (n : Core) (c : BitVec 5) (fe : FrameErr) (s : State), s.flag CPO_MODE_DET n.val = true → (c = 0 ∨ (if n.val < 4 then 10 else 18) < c.toNat) →
     Machine.exec (.eventAcceptance n (.exit c) fe) s = .next s) ∧
  -- notExiting
  (∀ (n : Core) (c : BitVec 5) (fe : FrameErr) (s : State), (s.core n.val).undo = none → Machine.exec (.eventAcceptance n (.exit c) fe) s = .next s) ∧
  -- notEntering
  (∀ (n : Core) (c : BitVec 5) (fe : FrameErr) (s : State), (s.core n.val).entry = false → Machine.exec (.eventAcceptance n (.entry c) fe) s = .next s ∧
     Machine.exec (.eventAcceptance n .late fe) s = .next s)

/-- The oldest buffered store of a powered core is performed; a request at the hub enters the service ring and PROD advances unless the
ring is full; broadcasts of TLBINV are applied and acknowledged, and a TLBSYNC that waits too long reports who is silent (09 R273, R283,
11 R324, R325). A store of the host or another core to an LSRAM byte that the own core writes in the same cycle loses (13 R369; which
commands share a cycle, log 161). A store that fails outside the address map leaves its virtual address for STORE_ERROR (log 117); the
1,600 CCLK cycles of a TLBSYNC are 3,200 FCLK cycles (log 130). Completion, under conditions on the state and the operands alone: exec answers a next state with the
effect of bufferedStore, serviceRequest, invalidationReceived, invalidationAck, tlbsyncTimeout. (09 R273; 09 R283; 11 R324; 11 R325; 13
R369) -/
def Obligations.CapoBackground : Prop :=
  -- bufferedStore
  (∀ (n : Core) (e : StoreEnt) (l : List StoreEnt) (s : State), s.coreOn n.val = true → (s.core n.val).sbuf = e :: l →
     Machine.exec (.bufferedStore n) s = .next ((s.setCore n.val { s.core n.val with sbuf := l }).performStore n.val e)) ∧
  -- performStoreMemory
  (∀ (n : Nat) (e : StoreEnt) (s : State), region e.pa = .lsram → s.memOn e.pa = true → lsramBase 0 ≤ e.pa →
     (lsramCore e.pa = some n ∨ ∀ q ∈ s.cycle.lsram, q.2.2 = false) → n < 20 →
     (∀ a, ¬ (e.pa ≤ a ∧ a < e.pa + e.size) → (s.performStore n e).byte a = s.byte a) ∧
     (∀ k, k < e.size → (s.performStore n e).byte (e.pa + k) = BitVec.ofNat 8 (e.val / 2 ^ (8 * k))) ∧
     ((s.performStore n e).core n).serr = (s.core n).serr) ∧
  -- portConflict
  (∀ (a : Nat) (b : Byte) (s : State), s.cycle.lsram.any (fun e => e.1 == a && e.2.2) = true → (s.portWrite false a [b]).byte a = s.byte a) ∧
  -- portReads
  (∀ (a : Nat) (b : Byte) (own : Bool) (s : State), s.cycle.lsram = [] →
     (s.portWrite own a [b]).portByte own a = b ∧ (s.portWrite own a [b]).portByte (!own) a = s.byte a) ∧
  -- bufferedStoreError
  (∀ (n : Core) (e : StoreEnt) (l : List StoreEnt) (s : State), s.coreOn n.val = true → (s.core n.val).sbuf = e :: l →
     (s.core n.val).serr = none → (region e.pa = .none ∨ region e.pa = .flash) →
     ∃ t, Machine.exec (.bufferedStore n) s = .next t ∧ t.core n.val = { s.core n.val with sbuf := l, serr := some e.va } ∧
       Keeps { cores := true } s t) ∧
  -- bufferEmpty
  (∀ (n : Core) (s : State), ((s.core n.val).sbuf = [] ∨ s.coreOn n.val = false) → Machine.exec (.bufferedStore n) s = .next s) ∧
  -- serviceRequest
  (∀ (n : Core) (f : UFlit) (s : State), (s.tile (coreDie n.val)).uDelivered.find? (fun f => f.dest == endUnit (coreDie n.val) (0x10 + n.val)) = some f →
     s.coreOn n.val = true → (∀ q ∈ s.cycle.lsram, q.2.2 = false) → (s.get CPO_SVC_RQ_PROD n.val + 1) % 256 ≠ s.get CPO_SVC_RQ_CONS n.val →
     ∃ t, Machine.exec (.serviceRequest n) s = .next t ∧ t.get CPO_SVC_RQ_PROD n.val = (s.get CPO_SVC_RQ_PROD n.val + 1) % 256 ∧
       (t.tile (coreDie n.val)).uDelivered = (s.tile (coreDie n.val)).uDelivered.erase f ∧
       (∀ k, k < 16 → t.byte (lsramBase n.val + 0x3F000 + 16 * s.get CPO_SVC_RQ_PROD n.val + k) = BitVec.ofNat 8 (serviceRecord f / 2 ^ (8 * k))) ∧
       (∀ a, ¬ (lsramBase n.val + 0x3F000 + 16 * s.get CPO_SVC_RQ_PROD n.val ≤ a ∧
         a < lsramBase n.val + 0x3F000 + 16 * s.get CPO_SVC_RQ_PROD n.val + 16) → t.byte a = s.byte a) ∧
       Keeps { regs := [.lec, .gec, .cpo], mem := true, tiles := true, fresh := true } s t) ∧
  -- serviceRingFull
  (∀ (n : Core) (s : State), (s.get CPO_SVC_RQ_PROD n.val + 1) % 256 = s.get CPO_SVC_RQ_CONS n.val →
     Machine.exec (.serviceRequest n) s = .next s) ∧
  -- invalidationReceived
  (∀ (n : Core) (q : InvReq) (l : List InvReq) (s : State), (s.core n.val).invq = q :: l → s.coreOn n.val = true → (s.core n.val).held = false →
     ∃ t, Machine.exec (.invalidationReceived n) s = .next t ∧ (t.core n.val).invq = l ∧
       (∀ e ∈ (t.core n.val).l1 ++ (t.core n.val).l2, e ∈ (s.core n.val).l1 ++ (s.core n.val).l2) ∧
       (q.k % 4 = 0 → (t.core n.val).l1 = [] ∧ (t.core n.val).l2 = []) ∧
       (q.k % 4 = 2 → ∀ e ∈ (t.core n.val).l1 ++ (t.core n.val).l2,
         e.maps (bits q.a 47 12) = false ∨ (e.glob = false ∧ e.asid ≠ q.x % 2 ^ 12)) ∧
       (bit q.k 2 = false → (t.core n.val).locks = (s.core n.val).locks) ∧
       t.get MMU_L2CNT_INVRX n.val = min (s.get MMU_L2CNT_INVRX n.val + 1) (2 ^ MMU_L2CNT_INVRX.width - 1) ∧
       Keeps { regs := [.mmu], cores := true } s t) ∧
  -- invalidationAck
  (∀ (src n : Core) (b : Bcast) (s : State), (s.core src.val).bcasts.find? (fun b => b.silent.any (· == n.val)) = some b →
     (s.core n.val).invq.any (fun q => q.src == src.val && q.id == b.id) = false →
     ∃ t, Machine.exec (.invalidationAck src n) s = .next t ∧
       (∀ c ∈ (t.core src.val).bcasts, c.id = b.id → n.val ∉ c.silent) ∧ (∀ c ∈ (t.core src.val).bcasts, c.silent ≠ []) ∧
       ((t.core src.val).bcasts = [] → (t.core src.val).syncing = none ∧ t.flag MMU_SYNC_PENDING src.val = false) ∧
       Keeps { regs := [.mmu, .trc, .lec, .gec], fresh := true, cores := true } s t) ∧
  -- ackBeforeApplied
  (∀ (src n : Core) (b : Bcast) (s : State), (s.core src.val).bcasts.find? (fun b => b.silent.any (· == n.val)) = some b →
     (s.core n.val).invq.any (fun q => q.src == src.val && q.id == b.id) = true → Machine.exec (.invalidationAck src n) s = .next s) ∧
  -- tlbsyncTimeout
  (∀ (n : Core) (since : Nat) (s : State), (s.core n.val).syncing = some since → since + 3200 ≤ s.tb →
     ∃ t, Machine.exec (.tlbsyncTimeout n) s = .next t ∧ (t.core n.val).syncing = none ∧
       ((s.core n.val).stepping = false → (s.core n.val).haltReq = false → t.core n.val = { s.core n.val with syncing := none }) ∧
       t.flag MMU_SYNC_TIMEOUT n.val = true ∧
       t.get MMU_SYNC_MISSING n.val = ((s.core n.val).silentCores.foldl (fun a m => a + 2 ^ m) 0) % 2 ^ 20) ∧
  -- tlbsyncEarly
  (∀ (n : Core) (since : Nat) (s : State), (s.core n.val).syncing = some since → s.tb < since + 3200 →
     Machine.exec (.tlbsyncTimeout n) s = .next s)

/-- LKCMD_WRITE locks the entry that MMU_LKVA and MMU_LKPA describe and drops what overlaps it from the other TLBs, or sets ERR where the
descriptor is not a leaf of its size; UNLOCK removes an entry and LKCMD_READ copies it out (11 R319, R320). Completion, under conditions
on the state and the operands alone: exec answers a next state with the effect of lkcmdWrite, unlock, lkcmdRead. (11 R319; 11 R320) -/
def Obligations.TlbLocks : Prop :=
  -- write
  (∀ (n : Core) (i : Fin 8) (s : State), s.domOn (720 + n.val) = true → bit (s.get MMU_LKPA_DESC n.val) 0 = true →
     bit (s.get MMU_LKPA_DESC n.val) 1 = (s.get MMU_LKVA_SIZE n.val == 0) → leafCause (s.get MMU_LKPA_DESC n.val) (s.get MMU_LKVA_SIZE n.val) = 0 →
     ∃ t e, Machine.exec (.lkcmdWrite n i) s = .next t ∧ lookup (t.core n.val).locks i.val = some e ∧
       e.size = s.get MMU_LKVA_SIZE n.val ∧ e.asid = s.get MMU_LKVA_ASID n.val ∧ e.glob = s.flag MMU_LKVA_G n.val ∧
       e.oa = bits (s.get MMU_LKPA_DESC n.val) 45 12 ∧ e.maps (s.get MMU_LKVA_VPN n.val) = true ∧
       (∀ f ∈ (t.core n.val).l1 ++ (t.core n.val).l2, f.overlaps e = false) ∧
       (∀ j, j ≠ i.val → lookup (t.core n.val).locks j = lookup (s.core n.val).locks j) ∧ Keeps { regs := [.mmu], cores := true } s t) ∧
  -- writeRefused
  (∀ (n : Core) (i : Fin 8) (s : State), s.domOn (720 + n.val) = true →
     (bit (s.get MMU_LKPA_DESC n.val) 0 = false ∨ bit (s.get MMU_LKPA_DESC n.val) 1 ≠ (s.get MMU_LKVA_SIZE n.val == 0) ∨ leafCause (s.get MMU_LKPA_DESC n.val) (s.get MMU_LKVA_SIZE n.val) ≠ 0) →
     ∃ t, Machine.exec (.lkcmdWrite n i) s = .next t ∧ t.flag MMU_LKCMD_ERR n.val = true ∧ t.core n.val = s.core n.val ∧ Keeps { regs := [.mmu] } s t) ∧
  -- unlock
  (∀ (n : Core) (i : Fin 8) (s : State), s.domOn (720 + n.val) = true →
     ∃ t, Machine.exec (.unlock n i) s = .next t ∧ lookup (t.core n.val).locks i.val = none ∧
       (∀ j, j ≠ i.val → lookup (t.core n.val).locks j = lookup (s.core n.val).locks j) ∧ Keeps { regs := [.mmu], cores := true } s t) ∧
  -- read
  (∀ (n : Core) (i : Fin 8) (e : TlbEnt) (s : State), s.domOn (720 + n.val) = true → lookup (s.core n.val).locks i.val = some e →
     ∃ t, Machine.exec (.lkcmdRead n i) s = .next t ∧ t.get MMU_LKVA_ASID n.val = e.asid % 2 ^ MMU_LKVA_ASID.width ∧
       t.get MMU_LKVA_SIZE n.val = e.size % 2 ^ MMU_LKVA_SIZE.width ∧ t.flag MMU_LKVA_G n.val = e.glob ∧
       t.get MMU_LKVA_VPN n.val = e.vpn % 2 ^ MMU_LKVA_VPN.width ∧ t.get MMU_LKPA_DESC n.val = e.desc % 2 ^ MMU_LKPA_DESC.width ∧
       Keeps { regs := [.mmu] } s t) ∧
  -- readUnlocked
  (∀ (n : Core) (i : Fin 8) (s : State), s.domOn (720 + n.val) = true → lookup (s.core n.val).locks i.val = none →
     ∃ t, Machine.exec (.lkcmdRead n i) s = .next t ∧ t.get MMU_LKVA_ASID n.val = 0 ∧ t.get MMU_LKVA_VPN n.val = 0 ∧
       t.get MMU_LKPA_DESC n.val = 0 ∧ Keeps { regs := [.mmu] } s t) ∧
  -- powerOff
  (∀ (n : Core) (i : Fin 8) (s : State), s.domOn (720 + n.val) = false → Machine.exec (.lkcmdWrite n i) s = .next s ∧
     Machine.exec (.unlock n i) s = .next s ∧ Machine.exec (.lkcmdRead n i) s = .next s)

/-- RELEASE clears LIVE and takes the CVU Off; a wake ends Active, from Off with empty registers and VL 256; idling takes it to Retention
and, with LIVE 0, Off; deterministic mode and a timer of 0 stop that (10 R298-R301). An idle time below a timer keeps the state. The timer counts two FCLK cycles
to a CCLK cycle from the last vector instruction (log 166); the wake ends at its command (log 5), and Off does nothing while a wake is in
progress (log 209).
Completion, under conditions on the state and the operands alone: exec answers a next state with the effect of cvuRelease, cvuWake,
cvuWakeDone, cvuRetention, cvuOff. (10 R298; 10 R299; 10 R300; 10 R301) -/
def Obligations.CvuPower : Prop :=
  -- release
  (∀ (n : Core) (s : State), s.coreOn n.val = true →
     ∃ t, Machine.exec (.cvuRelease n) s = .next t ∧ t.flag CVU_STAT_LIVE n.val = false ∧ t.get CVU_STAT_PSTATE n.val = 2 ∧
       t.flag CVU_STAT_WAKING n.val = false ∧ Keeps { regs := [.lec, .gec, .pwr, .cvu], fresh := true, dom := true, cores := true } s t) ∧
  -- wake
  (∀ (n : Core) (s : State), s.coreOn n.val = true → s.get CVU_STAT_PSTATE n.val ≠ 0 → s.flag CVU_STAT_WAKING n.val = false →
     ∃ t, Machine.exec (.cvuWake n) s = .next t ∧ t.flag CVU_STAT_WAKING n.val = true ∧ t.get CVU_STAT_PSTATE n.val = s.get CVU_STAT_PSTATE n.val ∧
       t.cores = s.cores ∧ Keeps { regs := [.cvu], dom := true } s t) ∧
  -- wakeNothing
  (∀ (n : Core) (s : State), (s.get CVU_STAT_PSTATE n.val = 0 ∨ s.flag CVU_STAT_WAKING n.val = true) →
     Machine.exec (.cvuWake n) s = .next s) ∧
  -- wakeDoneFromOff
  (∀ (n : Core) (s : State), s.coreOn n.val = true → s.flag CVU_STAT_WAKING n.val = true → s.get CVU_STAT_PSTATE n.val = 2 →
     ∃ t, Machine.exec (.cvuWakeDone n) s = .next t ∧ t.get CVU_STAT_PSTATE n.val = 0 ∧ t.flag CVU_STAT_WAKING n.val = false ∧
       t.get CVU_VL_VL n.val = 256 ∧ (∀ v, (t.core n.val).vreg v = 0) ∧ t.domOn (740 + n.val) = true ∧
       Keeps { regs := [.lec, .gec, .pwr, .cvu], fresh := true, dom := true, cores := true } s t) ∧
  -- wakeDoneFromRetention
  (∀ (n : Core) (s : State), s.coreOn n.val = true → s.flag CVU_STAT_WAKING n.val = true → s.get CVU_STAT_PSTATE n.val = 1 →
     ∃ t, Machine.exec (.cvuWakeDone n) s = .next t ∧ t.get CVU_STAT_PSTATE n.val = 0 ∧ t.flag CVU_STAT_WAKING n.val = false ∧
       t.cores = s.cores ∧ t.get CVU_VL_VL n.val = s.get CVU_VL_VL n.val ∧
       Keeps { regs := [.lec, .gec, .pwr, .cvu], fresh := true, dom := true } s t) ∧
  -- retention
  (∀ (n : Core) (s : State), s.coreOn n.val = true → s.get CVU_STAT_PSTATE n.val = 0 → s.get CVU_IDLE_RET n.val ≠ 0 →
     2 * s.get CVU_IDLE_RET n.val ≤ s.cvuIdle n.val →
     s.flag CPO_MODE_DET n.val = false →
     ∃ t, Machine.exec (.cvuRetention n) s = .next t ∧ t.get CVU_STAT_PSTATE n.val = 1 ∧ t.cores = s.cores ∧
       Keeps { regs := [.lec, .gec, .pwr, .cvu], fresh := true, dom := true } s t) ∧
  -- off
  (∀ (n : Core) (s : State), s.coreOn n.val = true → s.get CVU_STAT_PSTATE n.val ≠ 2 → s.flag CVU_STAT_WAKING n.val = false →
     s.flag CVU_STAT_LIVE n.val = false → s.get CVU_IDLE_OFF n.val ≠ 0 →
     2 * s.get CVU_IDLE_OFF n.val ≤ s.cvuIdle n.val → s.flag CPO_MODE_DET n.val = false →
     ∃ t, Machine.exec (.cvuOff n) s = .next t ∧ t.get CVU_STAT_PSTATE n.val = 2 ∧ (∀ v, (t.core n.val).vreg v = 0) ∧
       t.domOn (740 + n.val) = false ∧ Keeps { regs := [.lec, .gec, .pwr, .cvu], fresh := true, dom := true, cores := true } s t) ∧
  -- notIdleYet
  (∀ (n : Core) (s : State),
     ((s.get CVU_IDLE_RET n.val = 0 ∨ s.cvuIdle n.val < 2 * s.get CVU_IDLE_RET n.val) → Machine.exec (.cvuRetention n) s = .next s) ∧
     ((s.get CVU_IDLE_OFF n.val = 0 ∨ s.cvuIdle n.val < 2 * s.get CVU_IDLE_OFF n.val) → Machine.exec (.cvuOff n) s = .next s)) ∧
  -- usedAnew
  (∀ (n : Core) (s : State), (s.cvuUsed n.val).cvuIdle n.val = 0 ∧ (s.cvuUsed n.val).flag CVU_STAT_LIVE n.val = true) ∧
  -- timerStopped
  (∀ (n : Core) (s : State), s.flag CPO_MODE_DET n.val = true → Machine.exec (.cvuRetention n) s = .next s ∧
     Machine.exec (.cvuOff n) s = .next s) ∧
  -- offWhileWaking
  (∀ (n : Core) (s : State), s.flag CVU_STAT_WAKING n.val = true → Machine.exec (.cvuOff n) s = .next s) ∧
  -- liveStaysUp
  (∀ (n : Core) (s : State), s.flag CVU_STAT_LIVE n.val = true → Machine.exec (.cvuOff n) s = .next s)

/-- A TME serves the oldest request: a read in range answers its cell with the word of design memory, a write changes the bytes its mask
names, in RUN after the journal, and an address out of range sets OOR, a read then answering 0 (13 R359, R362, R363). A TME takes at most
two requests of a cycle, one of them a write; a read with an error that can be corrected or reconstructed answers the same word and is
counted (13 R365). Once no request of a stack's cells waits, the writes and the restore that waited for them go on (13 R356, R364; log
192). Completion, under conditions on the state and the operands alone: exec answers a next state with the effect of
tmeRequest. (13 R356; 13 R359; 13 R362; 13 R363; 13 R364; 13 R365) -/
def Obligations.DesignMemory : Prop :=
  -- read
  (∀ (t : Tile) (q : MemReq) (l : List MemReq) (o c : Nat) (s : State), (s.tile t.val).memq = q :: l → s.mayTake t.val q = true → s.domOn (704 + t.val) = true → s.ckp.heldWrites = [] → s.ckp.restoring = false →
     q.write = false →
     s.designOffset t.val q.addr.toNat = some o → s.pcellL t.val q.lcell = some c →
     ∃ u, Machine.exec (.tmeRequest t .ok) s = .next u ∧ (u.tile t.val).memq = l ∧
       u.landings = s.landings ++ [⟨c, q.tag, s.word (stackBase t.val + o), 0, s.tb, q.leaves + 320⟩] ∧
       Keeps { tiles := true, landings := true } s u) ∧
  -- readUpset
  (∀ (t : Tile) (q : MemReq) (l : List MemReq) (o c : Nat) (s : State), (s.tile t.val).memq = q :: l → s.mayTake t.val q = true →
     s.domOn (704 + t.val) = true → s.ckp.heldWrites = [] → s.ckp.restoring = false → q.write = false → s.designOffset t.val q.addr.toNat = some o → s.pcellL t.val q.lcell = some c →
     ((∃ u, Machine.exec (.tmeRequest t .corrected) s = .next u ∧ (u.tile t.val).memq = l ∧
        u.landings = s.landings ++ [⟨c, q.tag, s.word (stackBase t.val + o), 0, s.tb, q.leaves + 320⟩] ∧
        u.get TME_ECC_CORR t.val = min (s.get TME_ECC_CORR t.val + 1) (2 ^ TME_ECC_CORR.width - 1) ∧ Keeps { regs := [.tme], tiles := true, landings := true } s u) ∧
      (s.get TME_CHSTAT_PARITY t.val = 1 → s.get TME_CHSTAT_FAILED t.val = 0 →
        sget (s.tile t.val).recon (s.get (chEntry (memberOf o)) t.val) 0 + 1 < s.get TME_CHSTAT_FAILLIM t.val →
        ∃ u, Machine.exec (.tmeRequest t .uncorrectable) s = .next u ∧ (u.tile t.val).memq = l ∧
        u.landings = s.landings ++ [⟨c, q.tag, s.word (stackBase t.val + o), 0, s.tb, q.leaves + 320⟩] ∧
        u.get TME_ECC_RECON t.val = min (s.get TME_ECC_RECON t.val + 1) (2 ^ TME_ECC_RECON.width - 1) ∧
        Keeps { regs := [.tme], tiles := true, landings := true } s u))) ∧
  -- readOutOfRange
  (∀ (t : Tile) (q : MemReq) (l : List MemReq) (c : Nat) (s : State), (s.tile t.val).memq = q :: l → s.mayTake t.val q = true → s.domOn (704 + t.val) = true → s.ckp.heldWrites = [] → s.ckp.restoring = false →
     q.write = false →
     s.designOffset t.val q.addr.toNat = none → s.pcellL t.val q.lcell = some c →
     ∃ u, Machine.exec (.tmeRequest t .ok) s = .next u ∧ (u.tile t.val).memq = l ∧ u.flag TME_STAT_OOR t.val = true ∧
       u.landings = s.landings ++ [⟨c, q.tag, 0, 0, s.tb, q.leaves + 320⟩] ∧
       Keeps { regs := [.tme, .lec, .gec], tiles := true, landings := true, fresh := true } s u) ∧
  -- write
  (∀ (t : Tile) (q : MemReq) (l : List MemReq) (o : Nat) (s : State), (s.tile t.val).memq = q :: l → s.mayTake t.val q = true → s.domOn (704 + t.val) = true → s.ckp.heldWrites = [] → s.ckp.restoring = false →
     q.write = true →
     s.outChan t.val q.addr.toNat = none → s.designOffset t.val q.addr.toNat = some o → s.mode ≠ .run →
     ∃ u, Machine.exec (.tmeRequest t .ok) s = .next u ∧ (u.tile t.val).memq = l ∧
       (∀ k, k < 8 → u.byte (stackBase t.val + o + k) = if q.bmask.getLsbD k then BitVec.ofNat 8 (q.data.toNat / 2 ^ (8 * k)) else s.byte (stackBase t.val + o + k)) ∧
       (∀ a, ¬ (stackBase t.val + o ≤ a ∧ a < stackBase t.val + o + 8) → u.byte a = s.byte a) ∧ Keeps { mem := true, tiles := true } s u) ∧
  -- writeInRun
  (∀ (t : Tile) (q : MemReq) (l : List MemReq) (o : Nat) (v : State) (ok : Bool) (s : State), (s.tile t.val).memq = q :: l → s.mayTake t.val q = true → s.domOn (704 + t.val) = true → s.ckp.heldWrites = [] → s.ckp.restoring = false →
     q.write = true →
     s.outChan t.val q.addr.toNat = none → s.designOffset t.val q.addr.toNat = some o → s.mode = .run →
     (s.setTile t.val (({ s.tile t.val with memq := l } : TileSt).countTaken s.tb true)).journal t.val (stackBase t.val + o) = (v, ok) →
     v.ckp.heldWrites = [] → v.ckp.restoring = false →
     Machine.exec (.tmeRequest t .ok) s = .next (if ok then v.setMasked (stackBase t.val + o) q.data q.bmask else v)) ∧
  -- writeOutOfRange
  (∀ (t : Tile) (q : MemReq) (l : List MemReq) (s : State), (s.tile t.val).memq = q :: l → s.mayTake t.val q = true → s.domOn (704 + t.val) = true → s.ckp.heldWrites = [] → s.ckp.restoring = false →
     q.write = true →
     s.outChan t.val q.addr.toNat = none → s.designOffset t.val q.addr.toNat = none →
     ∃ u, Machine.exec (.tmeRequest t .ok) s = .next u ∧ (u.tile t.val).memq = l ∧ u.flag TME_STAT_OOR t.val = true ∧ u.mem = s.mem ∧
       Keeps { regs := [.tme, .lec, .gec], tiles := true, fresh := true } s u) ∧
  -- output
  (∀ (t : Tile) (q : MemReq) (l : List MemReq) (n : Nat) (r : HostMapRec) (err : HbmRead) (u s : State), (s.tile t.val).memq = q :: l →
     s.mayTake t.val q = true → s.domOn (704 + t.val) = true → q.write = true → s.outChan t.val q.addr.toNat = some (n, r) →
     u = s.setTile t.val (({ s.tile t.val with memq := l } : TileSt).countTaken s.tb true) →
     Machine.exec (.tmeRequest t err) s =
       .next ((u.output t.val n r q.lcell (BitVec.ofNat 64 (q.data.toNat &&& byteMask 8 q.bmask.toNat)) q.stroke (q.cyc % 65536)).restoreNow t.val).freeIdle) ∧
  -- readLost
  (∀ (t : Tile) (q : MemReq) (l : List MemReq) (o c : Nat) (s : State), (s.tile t.val).memq = q :: l → s.mayTake t.val q = true →
     s.domOn (704 + t.val) = true → s.ckp.heldWrites = [] → s.ckp.restoring = false → q.write = false → s.designOffset t.val q.addr.toNat = some o →
     s.pcellL t.val q.lcell = some c → s.parityIntact t.val (groupOf o) = false →
     ∃ u w, Machine.exec (.tmeRequest t .uncorrectable) s = .next u ∧ u.flag TME_STAT_UNREC t.val = true ∧
       u.landings = s.landings ++ [⟨c, q.tag, w, 0, s.tb, q.leaves + 320⟩]) ∧
  -- heldWritesGoOn
  (∀ (s : State), (s.ckp.heldWrites = [] → s.ckp.restoring = false → s.freeIdle = s) ∧
     (s.ckp.pendRestore = none → (∀ p ∈ s.ckp.heldWrites, region p.1 = .hbm ∧ s.stackIdle p.1 = true) → s.freeIdle.ckp.heldWrites = [])) ∧
  -- restoreGoesOn
  (∀ (t r : Nat) (s : State), ((s.tile t).memq ≠ [] → s.restoreNow t = s) ∧
     ((s.tile t).memq = [] → s.ckp.restoreTo = some r → s.ckp.restoring = true → (s.tile t).unwound = false → s.domOn (712 + t) = true →
       s.restoreNow t = s.restoreTile (s.get CKP_STAT_LASTSLOT) r t)) ∧
  -- designOffset
  (∀ (t addr o : Nat) (s : State), s.designOffset t addr = some o →
     addr < s.get TME_CFG_DMSIZE t * 2 ^ 21 ∧ o = s.get TME_CFG_DMBASE t * 2 ^ 21 + addr / 8 * 8) ∧
  -- notTaken
  (∀ (t : Tile) (err : HbmRead) (s : State), ((s.tile t.val).memq = [] ∨ s.domOn (704 + t.val) = false ∨
     (∃ q l, (s.tile t.val).memq = q :: l ∧ s.mayTake t.val q = false)) → Machine.exec (.tmeRequest t err) s = .next s) ∧
  -- mayTake
  (∀ (t : Nat) (q : MemReq) (s : State), s.mayTake t q = true ↔
     (s.tile t).takenAt ≠ s.tb ∨ ((s.tile t).taken < 2 ∧ (q.write = true → (s.tile t).takenW = 0)))

/-- The first failed channel of a stack with parity starts a rebuild; a second failure, or one without parity, is a stack failure; a
rebuilt group advances GROUP, and the last one moves the member to the parity channel and ends parity; the zero fill leaves the stack zero
(13 R357, R366, R367, R368). A failure of the parity channel itself ends parity without a rebuild (log 67); a line that a rebuild finds
unreadable sets UNREC (13 R365; log 199). Requests of the stack's cells come before a rebuild's group and before the zero fill (13 R356; log
192). Completion, under conditions on the state and the operands alone: exec answers a next state with the effect
of channelFailure, rebuildGroup, zeroFillDone. (13 R356; 13 R357; 13 R365; 13 R366; 13 R367; 13 R368) -/
def Obligations.HbmChannels : Prop :=
  -- channelFailure
  (∀ (t : Tile) (ch : Fin 16) (s : State), s.domOn (704 + t.val) = true → s.get TME_CHSTAT_FAILED t.val = 0 →
     s.get TME_CHSTAT_PARITY t.val = 1 → s.get TME_CHMAP_CH15 t.val ≠ ch.val →
     ∃ u, Machine.exec (.channelFailure t ch) s = .next u ∧ u.get TME_CHSTAT_FAILED t.val = 2 ^ ch.val ∧ u.flag TME_STAT_CHFAIL t.val = true ∧
       u.flag TME_RBCTL_ACTIVE t.val = true ∧ u.get TME_RBCTL_GROUP t.val = 0 ∧ u.get TME_CHSTAT_PARITY t.val = 1 ∧
       u.flag TME_STAT_STKFAIL t.val = s.flag TME_STAT_STKFAIL t.val) ∧
  -- parityChannelFails
  (∀ (t : Tile) (ch : Fin 16) (s : State), s.domOn (704 + t.val) = true → s.get TME_CHSTAT_FAILED t.val = 0 →
     s.get TME_CHSTAT_PARITY t.val = 1 → s.get TME_CHMAP_CH15 t.val = ch.val →
     ∃ u, Machine.exec (.channelFailure t ch) s = .next u ∧ u.get TME_CHSTAT_FAILED t.val = 2 ^ ch.val ∧
       u.get TME_CHSTAT_PARITY t.val = 0 ∧ u.flag TME_STAT_STKFAIL t.val = s.flag TME_STAT_STKFAIL t.val) ∧
  -- stackFailure
  (∀ (t : Tile) (ch : Fin 16) (s : State), s.domOn (704 + t.val) = true → s.chFailed t.val ch.val = false →
     (s.get TME_CHSTAT_FAILED t.val ≠ 0 ∨ s.get TME_CHSTAT_PARITY t.val ≠ 1) →
     ∃ u, Machine.exec (.channelFailure t ch) s = .next u ∧ u.flag TME_STAT_STKFAIL t.val = true ∧ u.chFailed t.val ch.val = true ∧
       u.ready (3 * 1024 + t.val) = false ∧ u.ready (4 * 1024 + t.val) = false) ∧
  -- failedAlready
  (∀ (t : Tile) (ch : Fin 16) (s : State), (s.chFailed t.val ch.val = true ∨ s.domOn (704 + t.val) = false) →
     Machine.exec (.channelFailure t ch) s = .next s) ∧
  -- rebuildGroup
  (∀ (t : Tile) (s : State), s.flag TME_RBCTL_ACTIVE t.val = true → s.domOn (704 + t.val) = true →
     (s.tile t.val).memq = [] → s.get TME_RBCTL_GROUP t.val + 1 < 37748736 →
     ∃ u, Machine.exec (.rebuildGroup t) s = .next u ∧ u.get TME_RBCTL_GROUP t.val = s.get TME_RBCTL_GROUP t.val + 1 ∧
       u.flag TME_RBCTL_ACTIVE t.val = true ∧ u.get TME_CHSTAT_PARITY t.val = s.get TME_CHSTAT_PARITY t.val ∧ Keeps { regs := [.tme] } s u) ∧
  -- rebuildEnds
  (∀ (t : Tile) (s : State), s.flag TME_RBCTL_ACTIVE t.val = true → s.domOn (704 + t.val) = true →
     (s.tile t.val).memq = [] → s.get TME_RBCTL_GROUP t.val + 1 = 37748736 →
     ∃ u, Machine.exec (.rebuildGroup t) s = .next u ∧ u.flag TME_RBCTL_ACTIVE t.val = false ∧ u.flag TME_RBCTL_DONE t.val = true ∧
       u.get TME_CHSTAT_PARITY t.val = 0 ∧ (∀ m, s.failedMember t.val = some m → u.get (chEntry m) t.val = s.get TME_CHMAP_CH15 t.val) ∧
       Keeps { regs := [.tme] } s u) ∧
  -- rebuildErrors
  (∀ (t : Tile) (m : Fin 16) (f : Nat) (s : State), s.flag TME_RBCTL_ACTIVE t.val = true → s.domOn (704 + t.val) = true →
     (s.tile t.val).memq = [] → s.get TME_RBCTL_GROUP t.val + 1 < 37748736 → s.failedMember t.val = some f → s.get TME_CHSTAT_PARITY t.val = 1 →
     (∃ u, Machine.exec (.rebuildGroup t .corrected m) s = .next u ∧ u.get TME_RBCTL_GROUP t.val = s.get TME_RBCTL_GROUP t.val + 1 ∧
       u.get TME_ECC_CORR t.val = min (s.get TME_ECC_CORR t.val + 1) (2 ^ TME_ECC_CORR.width - 1) ∧ Keeps { regs := [.tme] } s u) ∧
     (s.get TME_CHSTAT_FAILED t.val ≠ 0 →
       ∃ u, Machine.exec (.rebuildGroup t .uncorrectable m) s = .next u ∧ u.get TME_RBCTL_GROUP t.val = s.get TME_RBCTL_GROUP t.val + 1 ∧
         u.flag TME_STAT_UNREC t.val = true ∧ u.get TME_CHSTAT_PARITY t.val = 1)) ∧
  -- rebuildNothing
  (∀ (t : Tile) (s : State), (s.flag TME_RBCTL_ACTIVE t.val = false ∨ (s.tile t.val).memq ≠ [] ∨ s.domOn (704 + t.val) = false) →
     Machine.exec (.rebuildGroup t) s = .next s) ∧
  -- servingChannel
  (∀ (t o : Nat) (s : State),
     (s.chFailed t (s.get (chEntry (memberOf o)) t) = false → s.channelOf t o = s.get (chEntry (memberOf o)) t) ∧
     (s.chFailed t (s.get (chEntry (memberOf o)) t) = true → s.flag TME_RBCTL_ACTIVE t = true → groupOf o < s.get TME_RBCTL_GROUP t →
       s.channelOf t o = s.get TME_CHMAP_CH15 t) ∧
     (s.get TME_RBCTL_GROUP t ≤ groupOf o → s.channelOf t o = s.get (chEntry (memberOf o)) t)) ∧
  -- zeroFillDone
  (∀ (t : Tile) (s : State), (s.tile t.val).zeroing = true → s.domOn (704 + t.val) = true → (s.tile t.val).memq = [] → s.heldAt t.val = false →
     ∃ u, Machine.exec (.zeroFillDone t) s = .next u ∧ (u.tile t.val).zeroing = false ∧
       (∀ a, stackBase t.val ≤ a → a < stackBase (t.val + 1) → u.byte a = 0) ∧
       (∀ a, ¬ (stackBase t.val ≤ a ∧ a < stackBase (t.val + 1)) → u.byte a = s.byte a) ∧
       Keeps { regs := [.mgt, .lec, .gec, .bj], mem := true, tiles := true, lanes := true, fresh := true, rdy := true, refusals := true } s u) ∧
  -- zeroFillNothing
  (∀ (t : Tile) (s : State), ((s.tile t.val).zeroing = false ∨ s.domOn (704 + t.val) = false) → Machine.exec (.zeroFillDone t) s = .next s) ∧
  -- zeroFillAfterRequests
  (∀ (t : Tile) (s : State), (s.tile t.val).zeroing = true → s.domOn (704 + t.val) = true →
     ∃ u, Machine.exec (.zeroFillDone t) s = .next u ∧ (u.tile t.val).zeroing = false ∧ (u.tile t.val).memq = [] ∧
       (∀ a, stackBase t.val ≤ a → a < stackBase (t.val + 1) → u.byte a = 0))

/-- FLASH_ERASE and FLASH_PROGRAM start a command unless one runs, or refuse it over the protected area while FLASH_WP_N is low; at its
end erased bytes read 0xFF, programmed bytes are the AND of old and source, and a failed command sets ERR (13 R373, R374, R375). The level of FLASH_WP_N comes with the
command where it changes (log 218), the end of the device's work with FLASH_COMMAND_DONE (log 5), and a program whose source has a parity
error of an LSRAM fails before it writes (log 213).
Completion, under conditions on the state and the operands alone: exec answers a next state with the effect of flashErase, flashProgram,
flashCommandDone. (13 R370; 13 R373; 13 R374; 13 R375) -/
def Obligations.FlashCommands : Prop :=
  -- erase
  (∀ (wpn : Option Bool) (s : State), s.domOn 761 = true → s.flag MGT_FLCTL_BUSY = false → (s.flashProtected = false ∨ s.wpHigh wpn = true) →
     s.get MGT_FLCMD_OFFSET % 256 = 0 →
     ∃ t, Machine.exec (.flashErase wpn) s = .next t ∧ t.flag MGT_FLCTL_BUSY = true ∧ t.get MGT_FLCMD_OP = 1 ∧
       t.flash = s.flashStarts 1 ∧ t.flag MGT_FLCTL_ERR = s.flag MGT_FLCTL_ERR ∧ Keeps { regs := [.mgt], flash := true } s t) ∧
  -- program
  (∀ (wpn : Option Bool) (s : State), s.domOn 761 = true → s.flag MGT_FLCTL_BUSY = false → (s.flashProtected = false ∨ s.wpHigh wpn = true) →
     ∃ t, Machine.exec (.flashProgram wpn) s = .next t ∧ t.flag MGT_FLCTL_BUSY = true ∧ t.get MGT_FLCMD_OP = 2 ∧
       t.flash = s.flashStarts 2 ∧ t.flag MGT_FLCTL_ERR = s.flag MGT_FLCTL_ERR ∧ Keeps { regs := [.mgt], flash := true } s t) ∧
  -- started
  (∀ (op : Nat) (s : State), (s.flashStarts op).op = op ∧ (s.flashStarts op).dev = s.get MGT_FLCMD_DEV ∧
     (s.flashStarts op).off = s.get MGT_FLCMD_OFFSET * 256 ∧ (s.flashStarts op).len = s.get MGT_FLCMD_LEN * 256 ∧
     (s.flashStarts op).src = s.get MGT_FLBUF_ADDR * 8) ∧
  -- protected
  (∀ (wpn : Option Bool) (s : State), s.domOn 761 = true → s.flag MGT_FLCTL_BUSY = false → s.flashProtected = true → s.wpHigh wpn = false →
     (∃ t, Machine.exec (.flashErase wpn) s = .next t ∧ t.flag MGT_FLCTL_ERR = true ∧ t.flag MGT_FLCTL_BUSY = false ∧ t.flash = s.flash) ∧
     (∃ t, Machine.exec (.flashProgram wpn) s = .next t ∧ t.flag MGT_FLCTL_ERR = true ∧ t.flag MGT_FLCTL_BUSY = false ∧ t.flash = s.flash)) ∧
  -- eraseUnaligned
  (∀ (wpn : Option Bool) (s : State), s.domOn 761 = true → s.flag MGT_FLCTL_BUSY = false → s.get MGT_FLCMD_OFFSET % 256 ≠ 0 →
     ∃ t, Machine.exec (.flashErase wpn) s = .next t ∧ t.flag MGT_FLCTL_ERR = true ∧ t.flag MGT_FLCTL_BUSY = false ∧ t.flash = s.flash) ∧
  -- busy
  (∀ (wpn : Option Bool) (s : State), s.domOn 761 = true → s.flag MGT_FLCTL_BUSY = true →
     Machine.exec (.flashErase wpn) s = .next (s.flashPin wpn) ∧ Machine.exec (.flashProgram wpn) s = .next (s.flashPin wpn)) ∧
  -- pin
  (∀ (b : Bool) (s : State), s.flashPin none = s ∧ (s.flashPin (some b)).flag MGT_FLCTL_WPN = b ∧ Keeps { regs := [.mgt] } s (s.flashPin (some b))) ∧
  -- off
  (∀ (wpn : Option Bool) (s : State), s.domOn 761 = false → Machine.exec (.flashErase wpn) s = .next s ∧ Machine.exec (.flashProgram wpn) s = .next s) ∧
  -- eraseDone
  (∀ (b : Nat) (s : State), s.flag MGT_FLCTL_BUSY = true → s.nothingWaits = true → s.flash.op = 1 →
     b = s.flashBase s.flash.dev + s.flash.off → b + s.flash.len ≤ s.flashBase s.flash.dev + 0x10000000 →
     ∃ t, Machine.exec (.flashCommandDone true) s = .next t ∧ t.flag MGT_FLCTL_BUSY = false ∧
       (∀ a, b ≤ a → a < b + s.flash.len → t.byte a = 0xFF) ∧
       (∀ a, (a < b ∨ b + cdiv s.flash.len 65536 * 65536 ≤ a) → t.byte a = s.byte a) ∧ Keeps { regs := [.mgt], mem := true } s t) ∧
  -- programDone
  (∀ (b : Nat) (s : State), s.flag MGT_FLCTL_BUSY = true → s.nothingWaits = true → s.flash.op ≠ 1 →
     b = s.flashBase s.flash.dev + s.flash.off → b + s.flash.len ≤ s.flashBase s.flash.dev + 0x10000000 → s.flash.src + s.flash.len ≤ 0x3F0000000000 →
     ∃ t, Machine.exec (.flashCommandDone true) s = .next t ∧ t.flag MGT_FLCTL_BUSY = false ∧
       (∀ k, k < s.flash.len → t.byte (b + k) = s.byte (b + k) &&& s.byte (s.flash.src + k)) ∧
       (∀ a, ¬ (b ≤ a ∧ a < b + s.flash.len) → t.byte a = s.byte a) ∧ Keeps { regs := [.mgt], mem := true } s t) ∧
  -- sourceParity
  (∀ (k : Nat) (s : State), s.flag MGT_FLCTL_BUSY = true → s.nothingWaits = true → s.flash.op ≠ 1 → s.memOn s.flash.src = true →
     region s.flash.src = .lsram → lsramCore s.flash.src = some k →
     ∃ t, Machine.exec (.flashCommandDone true .uncorrectable) s = .next t ∧ t.flag MGT_FLCTL_BUSY = false ∧ t.flag MGT_FLCTL_ERR = true ∧
       t.get CPO_PERR_COUNT k = min (s.get CPO_PERR_COUNT k + 1) (2 ^ CPO_PERR_COUNT.width - 1) ∧ Keeps { regs := [.mgt, .cpo] } s t) ∧
  -- failed
  (∀ (s : State), s.flag MGT_FLCTL_BUSY = true → s.nothingWaits = true →
     ∃ t, Machine.exec (.flashCommandDone false) s = .next t ∧ t.flag MGT_FLCTL_BUSY = false ∧ t.flag MGT_FLCTL_ERR = true ∧ Keeps { regs := [.mgt] } s t) ∧
  -- readsGoOn
  (∀ (ok : Bool) (s : State), s.flag MGT_FLCTL_BUSY = true → (s.flag MGT_IMG_CTL_BUSY = false ∨ s.img.applying ≠ none) →
     ∃ t, Machine.exec (.flashCommandDone ok) s = .next t ∧ t.flag MGT_FLCTL_BUSY = false ∧ t.flash.bar = [] ∧ t.flash.macc = none) ∧
  -- noCommand
  (∀ (ok : Bool) (s : State), s.flag MGT_FLCTL_BUSY = false → Machine.exec (.flashCommandDone ok) s = .next s)

/-- A TLP through BAR0 or BAR2 is split at 8-byte boundaries; a read of HBM answers its bytes, a write changes them unless RUN guards
them, and what is not there sets BUSERR and completes with an abort; with the link down nothing happens; a register write through the map
is that register's write (13 R364, 14 R381, R382, R383; 00 R7). The MSI-X table is read and written through BAR0; an access that is not
aligned does nothing, but for OFFACC of a window that is off (logs 37, 71). A TLP with more data than Max_Payload_Size or, with checking
on, a wrong ECRC is dropped and logged, and a configuration write comes as a BAR0 access (14 R377; log 195). What the lines of a read
report is the command's (log 168); accesses wait for the cells' requests as log 192 says, and the aperture reaches what log 171 says.
Completion, under conditions on the state and the operands alone: exec
answers a next state with the effect of bar0Access, bar2Access, registerWrite. (13 R356; 13 R364; 13 R365; 13 R370; 13 R375; 14 R377; 14
R380; 14 R381; 14 R382; 14 R383; 00 R7) -/
def Obligations.BarAccesses : Prop :=
  -- bar2Read
  (∀ (off : BitVec 36) (len : BitVec 13) (a : Nat) (s : State), s.linkUp = true → off.toNat < 2 ^ (30 + s.pci.barSize) →
     a = s.get PCI_B2BASE_BASE * 2 ^ 30 + off.toNat → s.ckp.heldWrites = [] →
     (∀ k, k < len.toNat → region (a + k) = .hbm ∧ s.memOn (a + k) = true ∧ s.stackIdle (a + k) = true) →
     Machine.exec (.bar2Access off len none) s = .next (s.emit (.data (s.num a len.toNat) false))) ∧
  -- bar2ReadOff
  (∀ (off : BitVec 36) (len : BitVec 13) (a : Nat) (s : State), s.linkUp = true → off.toNat < 2 ^ (30 + s.pci.barSize) →
     a = s.get PCI_B2BASE_BASE * 2 ^ 30 + off.toNat → (∀ k, k < len.toNat → region (a + k) = .hbm ∧ s.memOn (a + k) = false) →
     Machine.exec (.bar2Access off len none) s = .next (s.emit (.data 0 false))) ∧
  -- bar2Write
  (∀ (off : BitVec 36) (len : BitVec 13) (l : List Byte) (a : Nat) (s : State), s.linkUp = true → off.toNat < 2 ^ (30 + s.pci.barSize) →
     a = s.get PCI_B2BASE_BASE * 2 ^ 30 + off.toNat → s.mode ≠ .run → s.ckp.pendRestore = none →
     s.ckp.heldWrites = [] → l.length ≤ 128 * 2 ^ s.pci.payload →
     (∀ k, k < l.length → region (a + k) = .hbm ∧ s.memOn (a + k) = true ∧ s.stackIdle (a + k) = true) →
     ∃ t, Machine.exec (.bar2Access off len (some l)) s = .next t ∧ (∀ k, k < l.length → t.byte (a + k) = l.getD k 0) ∧
       (∀ b, ¬ (a ≤ b ∧ b < a + l.length) → t.byte b = s.byte b) ∧ t.ckp.heldWrites = [] ∧ Keeps { mem := true, ckp := true } s t) ∧
  -- bar2WriteWaits
  (∀ (off : BitVec 36) (len : BitVec 13) (l : List Byte) (a : Nat) (s : State), s.linkUp = true → off.toNat < 2 ^ (30 + s.pci.barSize) →
     a = s.get PCI_B2BASE_BASE * 2 ^ 30 + off.toNat → s.mode ≠ .run → s.mode ≠ .ready → 0 < l.length → a % 8 + l.length ≤ 8 → region a = .hbm →
     s.memOn a = true → s.guarded a = true → (s.ckp.pendRestore ≠ none ∨ s.stackIdle a = false ∨ s.heldAt (a / 0x900000000) = true) →
     Machine.exec (.bar2Access off len (some l)) s = .next { s with ckp := { s.ckp with heldWrites := s.ckp.heldWrites ++ [(a, l)] } }) ∧
  -- bar2Guarded
  (∀ (off : BitVec 36) (len : BitVec 13) (l : List Byte) (a : Nat) (s : State), s.linkUp = true → off.toNat < 2 ^ (30 + s.pci.barSize) →
     a = s.get PCI_B2BASE_BASE * 2 ^ 30 + off.toNat → s.mode = .run → 0 < l.length → a % 8 + l.length ≤ 8 → region a = .hbm → s.memOn a = true →
     s.guarded a = true →
     ∃ t, Machine.exec (.bar2Access off len (some l)) s = .next t ∧ t.flag TME_STAT_EXTWR (a / 0x900000000) = true ∧
       Keeps { regs := [.tme] } s t) ∧
  -- bar2Abort
  (∀ (off : BitVec 36) (len : BitVec 13) (a : Nat) (s : State), s.linkUp = true → off.toNat < 2 ^ (30 + s.pci.barSize) →
     a = s.get PCI_B2BASE_BASE * 2 ^ 30 + off.toNat → 0 < len.toNat → (∀ k, k < len.toNat → region (a + k) ≠ .hbm) →
     s.flag PCI_ERRADDR_VALID = false →
     ∃ t, Machine.exec (.bar2Access off len none) s = .next t ∧ t.flag PCI_STAT_BUSERR = true ∧ t.flag PCI_ERRADDR_VALID = true ∧
       t.get PCI_ERRADDR_ADDR = a % 2 ^ PCI_ERRADDR_ADDR.width ∧ t.flag PCI_ERRADDR_WRITE = false ∧ bit t.pci.aer 15 = true ∧
       t.out = s.out ++ [.data 0 true] ∧ Keeps { regs := [.pci, .lec, .gec], fresh := true, pci := true, out := true } s t) ∧
  -- bar2Beyond
  (∀ (off : BitVec 36) (len : BitVec 13) (d : Option (List Byte)) (err : HbmRead) (more : LineErrs) (ecrc : Bool) (s : State),
     2 ^ (30 + s.pci.barSize) ≤ off.toNat → Machine.exec (.bar2Access off len d err more ecrc) s = .next s) ∧
  -- bar2ReadLaterLine
  (∀ (off : BitVec 36) (len : BitVec 13) (a b : Nat) (s : State), s.linkUp = true → off.toNat < 2 ^ (30 + s.pci.barSize) →
     a = s.get PCI_B2BASE_BASE * 2 ^ 30 + off.toNat → b = (a / 64 + 1) * 64 → b < a + len.toNat → s.ckp.heldWrites = [] →
     (∀ k, k < len.toNat → region (a + k) = .hbm ∧ s.memOn (a + k) = true ∧ s.stackIdle (a + k) = true) →
     ∃ t, Machine.exec (.bar2Access off len none .ok [(1, .corrected)]) s = .next t ∧ t.out = s.out ++ [.data (s.num a len.toNat) false] ∧
       t.get TME_ECC_CORR (b / 0x900000000) = min (s.get TME_ECC_CORR (b / 0x900000000) + 1) (2 ^ TME_ECC_CORR.width - 1) ∧
       Keeps { regs := [.tme], out := true } s t) ∧
  -- tlpDropped
  (∀ (o0 : BitVec 26) (o2 : BitVec 36) (len : BitVec 13) (l : List Byte) (d : Option (List Byte)) (err : HbmRead) (more : LineErrs) (ecrc : Bool)
     (s : State), s.linkUp = true → o2.toNat < 2 ^ (30 + s.pci.barSize) →
     (128 * 2 ^ s.pci.payload < l.length →
       Machine.exec (.bar0Access o0 len (some l) err none more ecrc) s = .next { s with pci := { s.pci with aer := s.pci.aer ||| 2 ^ 18 } } ∧
       Machine.exec (.bar2Access o2 len (some l) err more ecrc) s = .next { s with pci := { s.pci with aer := s.pci.aer ||| 2 ^ 18 } }) ∧
     ((∀ m, d = some m → m.length ≤ 128 * 2 ^ s.pci.payload) → s.pci.ecrcChk = true →
       Machine.exec (.bar0Access o0 len d err none more false) s = .next { s with pci := { s.pci with aer := s.pci.aer ||| 2 ^ 19 } } ∧
       Machine.exec (.bar2Access o2 len d err more false) s = .next { s with pci := { s.pci with aer := s.pci.aer ||| 2 ^ 19 } })) ∧
  -- bar0Unmapped
  (∀ (off : BitVec 26) (s : State), s.linkUp = true → off.toNat % 8 = 0 → 0x1008100 ≤ off.toNat → off.toNat + 8 ≤ 0x2000000 →
     Machine.exec (.bar0Access off 8 none) s = .next (s.emit (.data 0 false)) ∧
     ∀ d, Machine.exec (.bar0Access off 8 (some ((leBytes 8 d).map (BitVec.ofNat 8 ·)))) s = .next s) ∧
  -- bar0Aperture
  (∀ (off : BitVec 26) (a : Nat) (s : State), s.linkUp = true → off.toNat % 8 = 0 → 0x2000000 ≤ off.toNat →
     a = s.get PCI_APBASE_BASE * 2 ^ 25 + off.toNat % 0x2000000 → s.memOn a = true →
     ((region a = .hbm ∧ s.stackIdle a = true ∧ s.ckp.heldWrites = []) ∨ (region a = .flash ∧ s.flag MGT_FLCTL_BUSY = false) ∨
       (region a = .lsram ∧ ∀ e ∈ s.cycle.lsram, e.2.2 = false)) →
     Machine.exec (.bar0Access off 8 none) s = .next (s.emit (.data (s.num a 8) false))) ∧
  -- bar0FlashBusy
  (∀ (off : BitVec 26) (a : Nat) (err : HbmRead) (s : State), s.linkUp = true → 0x2000000 ≤ off.toNat →
     a = s.get PCI_APBASE_BASE * 2 ^ 25 + off.toNat % 0x2000000 → s.flashWaits a = true →
     Machine.exec (.bar0Access off 8 none err) s = .next { s with flash := { s.flash with bar := s.flash.bar ++ [(off.toNat, 8)] } }) ∧
  -- bar0LsramParity
  (∀ (off : BitVec 26) (a k : Nat) (s : State), s.linkUp = true → off.toNat % 8 = 0 → 0x2000000 ≤ off.toNat →
     a = s.get PCI_APBASE_BASE * 2 ^ 25 + off.toNat % 0x2000000 → region a = .lsram → s.memOn a = true → lsramCore a = some k →
     ∃ t, Machine.exec (.bar0Access off 8 none .uncorrectable) s = .next t ∧ t.flag PCI_STAT_BUSERR = true ∧ t.out = s.out ++ [.data 0 true] ∧
       t.get CPO_PERR_COUNT k = min (s.get CPO_PERR_COUNT k + 1) (2 ^ CPO_PERR_COUNT.width - 1)) ∧
  -- configurationWrite
  (∀ (off : BitVec 26) (len : BitVec 13) (d : Option (List Byte)) (err : HbmRead) (w : ConfigWrite) (s : State), s.domOn 762 = true → s.pci.rate ≠ 0 →
     ∃ t, Machine.exec (.bar0Access off len d err (some w)) s = .next t ∧ t.pci = (s.configWrite w).pci ∧
       Keeps { msixPba := true, pci := true, out := true } s t) ∧
  -- configurationUnreached
  (∀ (off : BitVec 26) (len : BitVec 13) (d : Option (List Byte)) (err : HbmRead) (w : ConfigWrite) (s : State), (s.domOn 762 = false ∨ s.pci.rate = 0) →
     Machine.exec (.bar0Access off len d err (some w)) s = .next s) ∧
  -- bar0Register
  (∀ (off : BitVec 26) (d v : Nat) (e f : Bool) (s u w : State), s.linkUp = true → off.toNat % 8 = 0 → off.toNat < 0x1000000 →
     s.busWrite .host (0x300000000000 + off.toNat) 8 (d % 2 ^ 64) = (e, u) → s.busRead (0x300000000000 + off.toNat) 8 = (v, f, w) →
     Machine.exec (.bar0Access off 8 (some ((leBytes 8 d).map (BitVec.ofNat 8 ·)))) s = .next u ∧
     Machine.exec (.bar0Access off 8 none) s = .next (w.emit (.data (v % 2 ^ 64) false))) ∧
  -- msixTable
  (∀ (off : BitVec 26) (k d : Nat) (s : State), s.linkUp = true → off.toNat = 0x1000000 + 8 * k → k < 0x1000 →
     Machine.exec (.bar0Access off 8 none) s = .next (s.emit (.data (s.msixWord k % 2 ^ 64) false)) ∧
     ∃ t, Machine.exec (.bar0Access off 8 (some ((leBytes 8 d).map (BitVec.ofNat 8 ·)))) s = .next t ∧
       t.msixWord k = (if k % 2 = 1 then d % 2 ^ 33 else d % 2 ^ 64 / 4 * 4) ∧ (∀ j, j ≠ k → t.msixWord j = s.msixWord j) ∧
       Keeps { msixTab := true, msixPba := true, out := true } s t) ∧
  -- linkDown
  (∀ (o0 : BitVec 26) (o2 : BitVec 36) (len : BitVec 13) (d : Option (List Byte)) (err : HbmRead) (more : LineErrs) (ecrc : Bool) (s : State),
     s.linkUp = false →
     Machine.exec (.bar0Access o0 len d err none more ecrc) s = .next s ∧ Machine.exec (.bar2Access o2 len d err more ecrc) s = .next s) ∧
  -- registerWrite
  (∀ (a : Agent) (addr : BitVec 46) (v : Word) (s : State), (region addr.toNat = .tileReg ∨ region addr.toNat = .hubReg) → addr.toNat % 8 = 0 →
     Machine.exec (.registerWrite a addr true v) s = .next (s.writeWord a addr.toNat v.toNat (2 ^ 64 - 1))) ∧
  -- registerWritePath
  (∀ (a : Agent) (t : Tile) (p : Fin 131072) (v : Word) (s : State), s.domOn (712 + t.val) = true →
     Machine.exec (.registerWrite a (BitVec.ofNat 46 (0x200000000000 + t.val * 0x40000000 + 8 * p.val)) true v) s = .next (s.pathWrite t.val p.val v)) ∧
  -- registerWriteHalf
  (∀ (a : Agent) (addr : BitVec 46) (v : Word) (s : State), (region addr.toNat = .tileReg ∨ region addr.toNat = .hubReg) → addr.toNat % 8 = 4 →
     Machine.exec (.registerWrite a addr false v) s = .next (s.writeWord a (addr.toNat - 4) (v.toNat % 2 ^ 32 * 2 ^ 32) (2 ^ 64 - 2 ^ 32))) ∧
  -- registerWriteWindow
  (∀ (a : Agent) (addr : BitVec 46) (v : Word) (s : State), region addr.toNat = .window → addr.toNat % 8 = 0 →
     Machine.exec (.registerWrite a addr true v) s =
       .next (s.writeWindow a (addr.toNat % 0x100000000 / 0x40000) (addr.toNat % 0x40000) v.toNat 0xFF)) ∧
  -- registerWriteElsewhere
  (∀ (a : Agent) (addr : BitVec 46) (wide : Bool) (v : Word) (s : State),
     (region addr.toNat = .hbm ∨ region addr.toNat = .lsram ∨ region addr.toNat = .flash ∨ region addr.toNat = .none) →
     Machine.exec (.registerWrite a addr wide v) s = .next s) ∧
  -- misaligned
  (∀ (a : Agent) (addr : BitVec 46) (v : Word) (s : State), addr.toNat % 8 ≠ 0 →
     (region addr.toNat ≠ .window ∨ s.winOn (addr.toNat % 0x100000000 / 0x40000) = true ∨
       s.domOn (712 + addr.toNat % 0x100000000 / 0x40000 / 1088) = false → Machine.exec (.registerWrite a addr true v) s = .next s) ∧
     (region addr.toNat = .window → s.winOn (addr.toNat % 0x100000000 / 0x40000) = false →
       s.domOn (712 + addr.toNat % 0x100000000 / 0x40000 / 1088) = true →
       Machine.exec (.registerWrite a addr true v) s = .next (s.raise CLU_STAT_OFFACC (addr.toNat % 0x100000000 / 0x40000 / 68))))

/-- The request that waits on a transport and is next is served: a reserved command answers abort 9, a malformed frame 0xA (from the
mailbox it also sets PCI_MBX.ERR), a missing entry 1 or 2, a read of a write-only entry and a write of a read-only one 3, DESCRIBE and
NEXT what R400 says, ABORT closes the transfer, a read of an entry of fixed size its value, a write of 0x1200:05 takes the ownership of
loading, a write of an RWP entry waits until it is persistent. A request on another entry closes the open transfer, whatever its answer
(15 R413). One request is served at a time (15 R414); a CAN frame arrives by its row and is dropped while another waits (15 R415); a frame
of a transfer that has lapsed answers 0xD, a value out of its range 5, and a failed persistence 0xB. A request that needs a busy flash
device waits for it (13 R375; log 194). Timeouts and the end of persistence come as commands (log 5), TOTAL is that of log 81, a CAN row is
an arrival or a service as log 91 says, and a lapsed frame answers once (log 93). Completion, under conditions on the
state and the operands alone: exec answers a next state with the effect of dictRead, dictWrite, dictAbort, dictDescribe, dictNext,
rwpPersist, transferTimeout, reservedCmd. (15 R400; 15 R403; 15 R410; 15 R411; 15 R412; 15 R413; 15 R414; 15 R415; 13
R375) -/
def Obligations.DictionaryRequests : Prop :=
  -- reserved
  (∀ (a : Agent) (frame : List Byte) (d : Bool) (q : Req) (s u : State), s.Asks a frame d q → u = s.settled (transport a) q →
     (q.cmd = 0 ∨ 5 < q.cmd) →
     ∃ t, Machine.exec (.reservedCmd a frame d) s = .next t ∧ t = u.reply (transport a) (u.response q 9 []) ∧ (t.xport (transport a)).waiting = none) ∧
  -- malformed
  (∀ (a : Agent) (frame : List Byte) (d : Bool) (q : Req) (s u : State), s.Asks a frame d q → u = s.settled (transport a) q →
     1 ≤ q.cmd → q.cmd ≤ 5 → q.malformed (transport a) = true →
     ∃ t v, Machine.exec (requestRow a frame d q.cmd) s = .next t ∧ t = v.reply (transport a) (u.response q 0xA []) ∧
       v = (if a = .host then u.raise PCI_MBX_ERR else u) ∧ (a = .host → t.flag PCI_MBX_ERR = true) ∧ (t.xport (transport a)).waiting = none) ∧
  -- missing
  (∀ (a : Agent) (frame : List Byte) (d : Bool) (q : Req) (s u : State), s.Asks a frame d q → u = s.settled (transport a) q →
     (q.cmd = 1 ∨ q.cmd = 2 ∨ q.cmd = 4) → q.malformed (transport a) = false → s.lapsedFrame (transport a) q = false → entryAt q.x q.y = none →
     Machine.exec (requestRow a frame d q.cmd) s = .next (u.reply (transport a) (u.response q (if indexTop q.x = none then 1 else 2) []))) ∧
  -- lapsed
  (∀ (a : Agent) (frame : List Byte) (d : Bool) (q : Req) (s u : State), s.Asks a frame d q → u = s.settled (transport a) q →
     (q.cmd = 1 ∨ q.cmd = 2) → q.malformed (transport a) = false → s.lapsedFrame (transport a) q = true →
     ∃ t, Machine.exec (requestRow a frame d q.cmd) s = .next t ∧ t = u.reply (transport a) (u.response q 0xD []) ∧
       (t.xport (transport a)).lapsed = none ∧ (t.xport (transport a)).waiting = none) ∧
  -- readFixed
  (∀ (a : Agent) (frame : List Byte) (d : Bool) (q : Req) (e : Entry) (s u : State), s.Asks a frame d q → u = s.settled (transport a) q →
     q.cmd = 1 → q.malformed (transport a) = false → entryAt q.x q.y = some e → e.acc ≠ 2 → typeSize e.typ ≠ 0 → q.off = 0 →
     ∃ v, Machine.exec (.dictRead a frame d) s = .next (v.reply (transport a) (u.response q 0 (leBytes (typeSize e.typ) (u.entryNum q.x q.y)))) ∧
       Keeps { xports := true } u v) ∧
  -- readMode
  (∀ (p : Fin 2) (frame : List Byte) (q : Req) (s : State), s.Asks (.can p) frame false q → q.cmd = 1 → q.malformed (32 + p.val) = false →
     q.x = 0x1200 → q.y = 1 → q.off = 0 →
     ∃ t, Machine.exec (.dictRead (.can p) frame false) s = .next t ∧
       t.out = s.out ++ [.can p.val s.claim.arbRate s.claim.dataRate ((6 * 128 + s.get MGT_STAT_NODE % 128) ::
         canPad ([0x81, q.seq, 0, 0x12, 1, 2, 1, 0, 1, 0, 0, 0, 0, 0, 0, 0] ++ [s.modeCode % 256]))] ∧
       (t.xport (32 + p.val)).waiting = none ∧ t.ent (0x1101 + p.val) 6 = (s.ent (0x1101 + p.val) 6 + 1) % 2 ^ 32 ∧
       t.get MGT_CAN_TEC p.val = (if s.get MGT_CAN_TEC p.val = 0 then 0 else (s.get MGT_CAN_TEC p.val - 1) % 256) ∧
       Keeps { regs := [.mgt, .lec, .gec], fresh := true, ents := true, xports := true, out := true } s t) ∧
  -- readWriteOnly
  (∀ (a : Agent) (frame : List Byte) (d : Bool) (q : Req) (e : Entry) (s u : State), s.Asks a frame d q → u = s.settled (transport a) q →
     q.cmd = 1 → q.malformed (transport a) = false → s.lapsedFrame (transport a) q = false → entryAt q.x q.y = some e → e.acc = 2 →
     Machine.exec (.dictRead a frame d) s = .next (u.reply (transport a) (u.response q 3 []))) ∧
  -- writeReadOnly
  (∀ (a : Agent) (frame : List Byte) (d : Bool) (q : Req) (e : Entry) (s u : State), s.Asks a frame d q → u = s.settled (transport a) q →
     q.cmd = 2 → q.malformed (transport a) = false → s.lapsedFrame (transport a) q = false → entryAt q.x q.y = some e → (e.acc = 0 ∨ e.acc = 3) →
     Machine.exec (.dictWrite a frame d) s = .next (u.reply (transport a) (u.response q 3 []))) ∧
  -- writeOwner
  (∀ (frame : List Byte) (d : Bool) (q : Req) (s : State), s.Asks .host frame d q → q.cmd = 2 → q.malformed 0 = false → q.x = 0x1200 → q.y = 5 →
     q.off = 0 → q.total = 1 → q.len = 1 → q.data = [0x80] → s.owner = 0 → s.writtenElsewhere 0 0x1200 5 = false → s.flag PCI_MBX_BUSY = true →
     ∃ t, Machine.exec (.dictWrite .host frame d) s = .next t ∧ t.owner = 0x80 ∧ (t.xport 0).waiting = none ∧ t.flag PCI_MBX_BUSY = false ∧
       t.flag PCI_MBX_DONE = true ∧ Keeps { regs := [.pci, .lec, .gec], fresh := true, msixPba := true, owner := true, xports := true, out := true } s t) ∧
  -- writePersistent
  (∀ (a : Agent) (frame : List Byte) (d : Bool) (q : Req) (e : Entry) (s u : State), s.Asks a frame d q → u = s.settled (transport a) q →
     q.cmd = 2 → q.malformed (transport a) = false → entryAt q.x q.y = some e → e.acc = 4 → u.writtenElsewhere (transport a) q.x q.y = false →
     typeSize e.typ ≠ 0 → q.off = 0 → q.total = typeSize e.typ → q.len = q.total → rwpError q.x q.y (ofLe q.data) = 0 → q.x ≠ 0x7100 → q.x ≠ 0x9000 →
     ∃ t p, Machine.exec (.dictWrite a frame d) s = .next t ∧ t.ent q.x q.y = ofLe q.data ∧ t.persist = some p ∧ p.xport = transport a ∧
       p.area = s.get PRF_ACTIVE_ACTIVE ∧ t.nextServed = none ∧ (t.xport (transport a)).waiting = (s.xport (transport a)).waiting ∧
       Keeps { ents := true, xports := true, persist := true } s t) ∧
  -- writeRefusedValue
  (∀ (a : Agent) (frame : List Byte) (d : Bool) (q : Req) (e : Entry) (s u : State), s.Asks a frame d q → u = s.settled (transport a) q →
     q.cmd = 2 → q.malformed (transport a) = false → entryAt q.x q.y = some e → e.acc = 4 → u.writtenElsewhere (transport a) q.x q.y = false →
     typeSize e.typ ≠ 0 → q.off = 0 → q.total = typeSize e.typ → q.len = q.total → rwpError q.x q.y (ofLe q.data) ≠ 0 →
     Machine.exec (.dictWrite a frame d) s = .next (u.reply (transport a) (u.response q (rwpError q.x q.y (ofLe q.data)) []))) ∧
  -- writeElsewhere
  (∀ (a : Agent) (frame : List Byte) (d : Bool) (q : Req) (e : Entry) (s u : State), s.Asks a frame d q → u = s.settled (transport a) q →
     q.cmd = 2 → q.malformed (transport a) = false → s.lapsedFrame (transport a) q = false → entryAt q.x q.y = some e → e.acc ≠ 0 → e.acc ≠ 3 →
     u.writtenElsewhere (transport a) q.x q.y = true →
     Machine.exec (.dictWrite a frame d) s = .next (u.reply (transport a) (u.response q 7 []))) ∧
  -- describe
  (∀ (a : Agent) (frame : List Byte) (d : Bool) (q : Req) (e : Entry) (s u : State), s.Asks a frame d q → u = s.settled (transport a) q →
     q.cmd = 4 → q.malformed (transport a) = false → entryAt q.x q.y = some e →
     Machine.exec (.dictDescribe a frame d) s = .next (u.reply (transport a) (u.response q 0 ([e.typ, e.acc, 0, 0] ++ leBytes 4 e.len ++ leBytes 8 e.dflt)))) ∧
  -- next
  (∀ (a : Agent) (frame : List Byte) (d : Bool) (q : Req) (s u : State), s.Asks a frame d q → u = s.settled (transport a) q →
     q.cmd = 5 → q.malformed (transport a) = false →
     Machine.exec (.dictNext a frame d) s = .next (u.reply (transport a) (u.responseAt q (nextEntry q.x q.y).1 (nextEntry q.x q.y).2 0 []))) ∧
  -- abort
  (∀ (a : Agent) (frame : List Byte) (d : Bool) (q : Req) (s u : State), s.Asks a frame d q → u = s.settled (transport a) q →
     q.cmd = 3 → q.malformed (transport a) = false →
     ∃ t, Machine.exec (.dictAbort a frame d) s = .next t ∧ t = u.reply (transport a) (u.response q 0 []) ∧
       (t.xport (transport a)).opened = none ∧ (t.xport (transport a)).waiting = none) ∧
  -- notWaiting
  (∀ (a : Agent) (frame : List Byte) (d : Bool) (c : Nat) (s : State), (∀ p, a ≠ .can p) → (s.xport (transport a)).waiting = none →
     Machine.exec (requestRow a frame d c) s = .next s ∧ Machine.exec (.reservedCmd a frame d) s = .next s) ∧
  -- oneAtATime
  (∀ (a : Agent) (frame : List Byte) (d : Bool) (c : Nat) (s : State), (∀ p, a ≠ .can p) → s.persist ≠ none →
     Machine.exec (requestRow a frame d c) s = .next s ∧ Machine.exec (.reservedCmd a frame d) s = .next s) ∧
  -- canArrives
  (∀ (p : Fin 2) (frame : List Byte) (d : Bool) (c : Nat) (s u : State), s.canLive p.val = true → s.get MGT_STAT_NODE ≠ 0 →
     s.get MGT_CAN_REC p.val = 0 → (s.xport (32 + p.val)).waiting = none → u = (s.countEnt (0x1101 + p.val) 5).submit (32 + p.val) (frame.map (·.toNat)) →
     u.nextServed ≠ some (32 + p.val) →
     Machine.exec (requestRow (.can p) frame d c) s = .next u ∧ Machine.exec (.reservedCmd (.can p) frame d) s = .next u ∧
       (u.xport (32 + p.val)).waiting = some (s.tb, frame.map (·.toNat))) ∧
  -- canDropped
  (∀ (p : Fin 2) (frame : List Byte) (d : Bool) (c w : Nat) (l : List Nat) (s : State), s.canLive p.val = true → s.get MGT_STAT_NODE ≠ 0 →
     (s.xport (32 + p.val)).waiting = some (w, l) → (d = true ∨ l ≠ frame.map (·.toNat)) →
     ∃ t, Machine.exec (requestRow (.can p) frame d c) s = .next t ∧ Machine.exec (.reservedCmd (.can p) frame d) s = .next t ∧ t.xport (32 + p.val) = s.xport (32 + p.val) ∧
       t.flag MGT_CAN_REQDROP p.val = true ∧ t.ent (0x1101 + p.val) 8 = (s.ent (0x1101 + p.val) 8 + 1) % 2 ^ 32 ∧
       Keeps { regs := [.mgt, .lec, .gec], fresh := true, ents := true, free := true } s t) ∧
  -- transferTimeout
  (∀ (a : Agent) (x : Transfer) (s : State), (s.xport (transport a)).opened = some x →
     ∃ t, Machine.exec (.transferTimeout a) s = .next t ∧ (t.xport (transport a)).opened = none ∧
       (t.xport (transport a)).lapsed = some (x.index, x.sub) ∧ (t.xport (transport a)).waiting = (s.xport (transport a)).waiting ∧
       (∀ k, k ≠ transport a → t.xport k = s.xport k) ∧ Keeps { xports := true } s t) ∧
  -- transferTimeoutNone
  (∀ (a : Agent) (s : State), (s.xport (transport a)).opened = none → Machine.exec (.transferTimeout a) s = .next s) ∧
  -- persisted
  (∀ (p : Persist) (s : State), s.persist = some p → s.domOn 761 = true → s.flag MGT_FLCTL_BUSY = false → p.bytes.length ≤ 65536 →
     Machine.exec (.rwpPersist true) s = .next (({ s with persist := none }.profProgram p.area p.bytes).reply p.xport p.response)) ∧
  -- persistFailed
  (∀ (p : Persist) (ok : Bool) (s : State), s.persist = some p → s.flag MGT_FLCTL_BUSY = false →
     (ok = false ∨ s.domOn 761 = false ∨ 65536 < p.bytes.length) →
     ∃ t, Machine.exec (.rwpPersist ok) s = .next t ∧
       t = ({ s with persist := none }.raise MGT_STAT_PERSISTERR).reply p.xport (p.response.take 12 ++ [0xB, 0, 0, 0] ++ p.response.drop 16) ∧
       t.persist = none ∧ t.flag MGT_STAT_PERSISTERR = true ∧ (t.xport p.xport).waiting = none) ∧
  -- persistWaits
  (∀ (ok : Bool) (s : State), s.flag MGT_FLCTL_BUSY = true → Machine.exec (.rwpPersist ok) s = .next s) ∧
  -- waitsForFlash
  (∀ (a : Agent) (frame : List Byte) (c : Nat) (w : Nat × List Nat) (s : State), (s.xport (transport a)).waiting = some w →
     w.2 = frame.map (·.toNat) → s.flashNeeded (reqOf w.2) = true →
     Machine.exec (requestRow a frame false c) s = .next s ∧ Machine.exec (.reservedCmd a frame false) s = .next s) ∧
  -- flashNeeded
  (∀ (q : Req) (s : State), (s.flag MGT_FLCTL_BUSY = false → s.flashNeeded q = false) ∧
     (s.flag MGT_FLCTL_BUSY = true → q.cmd = 1 → s.flashNeeded q = decide (0x2001 ≤ q.x ∧ q.x ≤ 0x2004))) ∧
  -- persistNone
  (∀ (ok : Bool) (s : State), s.persist = none → Machine.exec (.rwpPersist ok) s = .next s)

/-- GO of a local port puts the bytes of its buffer on the core’s transport and sets BUSY, or sets ERR; GO of an LDICT port sends a DICT
message on its lane, and its timeout ends it; a DICT request that arrives on a lane waits there or is dropped and counted, and a DICT
response reaches the core whose request it answers (15 R425-R427). The timeout comes as a command (log 5), a response with another SEQ is
discarded silently while a request is outstanding (log 92), and GO while BUSY sets ERR (log 96). Completion, under conditions on the state and the operands alone: exec
answers a next state with the effect of dictMsg, localPortRequest, ldictRequest, ldictTimeout. (15 R425; 15 R426; 15 R427) -/
def Obligations.DictionaryPorts : Prop :=
  -- localPort
  (∀ (n : Core) (len buf : BitVec 9) (s : State), s.domOn 763 = true → s.coreOn n.val = true → s.flag MGT_LMBX_BUSY n.val = false →
     1 ≤ len.toNat → len.toNat ≤ 256 →
     ∃ t, Machine.exec (.localPortRequest n len buf) s = .next t ∧ t.flag MGT_LMBX_BUSY n.val = true ∧
       (t.xport (1 + n.val)).waiting = some (s.tb, s.bufBytes n.val buf.toNat len.toNat) ∧ Keeps { regs := [.mgt], xports := true } s t) ∧
  -- localPortError
  (∀ (n : Core) (len buf : BitVec 9) (s : State), s.domOn 763 = true → s.coreOn n.val = true →
     (s.flag MGT_LMBX_BUSY n.val = true ∨ len = 0 ∨ 256 < len.toNat) →
     ∃ t, Machine.exec (.localPortRequest n len buf) s = .next t ∧ t.flag MGT_LMBX_ERR n.val = true ∧ Keeps { regs := [.mgt] } s t) ∧
  -- localPortOff
  (∀ (n : Core) (len buf : BitVec 9) (s : State), (s.domOn 763 = false ∨ s.coreOn n.val = false) →
     Machine.exec (.localPortRequest n len buf) s = .next s) ∧
  -- ldict
  (∀ (n : Core) (len buf : BitVec 9) (lane : Lane) (s : State), s.domOn 763 = true → s.coreOn n.val = true →
     s.flag MGT_LDICT_BUSY n.val = false → 1 ≤ len.toNat → len.toNat ≤ 64 → s.laneUp lane.val = true →
     s.ldictBusy lane.val = false →
     ∃ t, Machine.exec (.ldictRequest n len lane buf) s = .next t ∧ t.flag MGT_LDICT_BUSY n.val = true ∧
       (t.lane lane.val).ctl = (s.lane lane.val).ctl ++ [⟨9, dictBeats 8 (s.bufBytes n.val buf.toNat len.toNat)⟩] ∧
       t.ldict n.val = ⟨(s.bufBytes n.val buf.toNat len.toNat).getD 1 0, lane.val, buf.toNat⟩ ∧
       Keeps { regs := [.mgt], lanes := true, ldicts := true } s t) ∧
  -- ldictError
  (∀ (n : Core) (len buf : BitVec 9) (lane : Lane) (s : State), s.domOn 763 = true → s.coreOn n.val = true →
     (s.flag MGT_LDICT_BUSY n.val = true ∨ len = 0 ∨ 64 < len.toNat ∨ s.laneUp lane.val = false ∨ s.ldictBusy lane.val = true) →
     ∃ t, Machine.exec (.ldictRequest n len lane buf) s = .next t ∧ t.flag MGT_LDICT_ERR n.val = true ∧ Keeps { regs := [.mgt] } s t) ∧
  -- ldictOff
  (∀ (n : Core) (len buf : BitVec 9) (lane : Lane) (s : State), (s.domOn 763 = false ∨ s.coreOn n.val = false) →
     Machine.exec (.ldictRequest n len lane buf) s = .next s) ∧
  -- ldictTimeout
  (∀ (n : Core) (s : State), s.flag MGT_LDICT_BUSY n.val = true →
     ∃ t, Machine.exec (.ldictTimeout n) s = .next t ∧ t.flag MGT_LDICT_BUSY n.val = false ∧ t.flag MGT_LDICT_TMO n.val = true ∧
       Keeps { regs := [.mgt] } s t) ∧
  -- ldictTimeoutNone
  (∀ (n : Core) (s : State), s.flag MGT_LDICT_BUSY n.val = false → Machine.exec (.ldictTimeout n) s = .next s) ∧
  -- dictRequest
  (∀ (n : Lane) (frame : List Byte) (s : State), s.laneUp n.val = true → s.domOn 763 = true → (frame.getD 0 0).toNat < 128 →
     (s.ent 0x1110 1).testBit (s.get LNK_PINFO_KIND n.val) = true → (s.xport (64 + n.val)).waiting = none →
     ∃ t, Machine.exec (.dictMsg n frame) s = .next t ∧ (t.xport (64 + n.val)).waiting = some (s.tb, (frame.map (·.toNat)).take 64) ∧
       (t.lane n.val).uncRow = 0 ∧ Keeps { lanes := true, xports := true } s t) ∧
  -- dictRequestDropped
  (∀ (n : Lane) (frame : List Byte) (s : State), s.domOn 763 = true → (frame.getD 0 0).toNat < 128 →
     (s.laneUp n.val = false ∨ (s.ent 0x1110 1).testBit (s.get LNK_PINFO_KIND n.val) = false ∨ (s.xport (64 + n.val)).waiting ≠ none) →
     ∃ t, Machine.exec (.dictMsg n frame) s = .next t ∧ t.flag MGT_STAT_DICTDROP = true ∧
       t.ent 0x1110 2 = (s.ent 0x1110 2 + 1) % 2 ^ 32 ∧ t.xports = s.xports ∧ Keeps { regs := [.mgt], lanes := true, ents := true } s t) ∧
  -- dictResponse
  (∀ (n : Lane) (frame : List Byte) (i : Nat) (s : State), s.laneUp n.val = true → s.domOn 763 = true → 128 ≤ (frame.getD 0 0).toNat →
     s.ldictOwner n.val (frame.getD 1 0).toNat = some i →
     ∃ t, Machine.exec (.dictMsg n frame) s = .next t ∧ t.flag MGT_LDICT_BUSY i = false ∧ t.flag MGT_LDICT_DONE i = true ∧
       Keeps { regs := [.mgt], lanes := true, mem := true } s t) ∧
  -- dictResponseDropped
  (∀ (n : Lane) (frame : List Byte) (s : State), s.domOn 763 = true → 128 ≤ (frame.getD 0 0).toNat →
     s.ldictOwner n.val (frame.getD 1 0).toNat = none → s.ldictBusy n.val = false →
     ∃ t, Machine.exec (.dictMsg n frame) s = .next t ∧ t.flag MGT_STAT_DICTDROP = true ∧ Keeps { regs := [.mgt], lanes := true } s t) ∧
  -- dictOff
  (∀ (n : Lane) (frame : List Byte) (s : State), s.domOn 763 = false →
     Machine.exec (.dictMsg n frame) s = .next (if s.laneUp n.val then s.goodCodeword n.val else s))

/-- The node sends its heartbeat, claims a node number and defends it, and follows the error states of its ports: an error adds to the
counter of its side, above 127 the port is error passive, above 255 bus-off; bus-off drops the waiting request and the open transfer, and
recovery clears the error counters; a CLAIM that nobody acknowledges is sent again, up to 16 times. A frame carries BRS and the rates that
took effect last as 15 R406 and R417 say. The increments are the model's (log 90), the
counters 0 after recovery (log 87), received frames and heartbeats counted as log 86 says, the CLAIM sent again as log 88 says; timeouts come
as commands (log 5). Completion, under conditions on the state and the
operands alone: exec answers a next state with the effect of heartbeat, claim, nodeClaimTimeout, heartbeatReceived, busOff,
busOffRecovery, canBusError, ignoredFrame. (15 R406; 15 R417; 15 R418; 15 R419; 15 R420; 15 R421; 15 R422; 15 R423; 15 R424) -/
def Obligations.NodeOnCan : Prop :=
  -- heartbeat
  (∀ (f : List Nat) (s : State), s.ent 0x1100 5 ≠ 0 → s.get MGT_STAT_NODE ≠ 0 → s.mode ≠ .dormant → s.canLive 0 = true → s.canLive 1 = true →
     s.get MGT_CAN_TEC 0 = 0 → s.get MGT_CAN_TEC 1 = 0 →
     f = [0xE * 128 + s.get MGT_STAT_NODE % 128, s.modeCode, s.get PRF_ACTIVE_ACTIVE, (b2n s.faultLow + 2 * b2n s.alertLow + 4 * b2n (s.owner != 0) + 8 * b2n (s.get CLK_TM_CTL_ROLE == 1)), 0] ++
       leBytes 8 Config.serial.toNat ++ leBytes 4 s.claim.beats →
     ∃ t, Machine.exec .heartbeat s = .next t ∧ t.out = s.out ++ [.can 0 s.claim.arbRate s.claim.dataRate f, .can 1 s.claim.arbRate s.claim.dataRate f] ∧
       t.claim = { s.claim with beats := (s.claim.beats + 1) % 2 ^ 32 } ∧ t.ent 0x1101 6 = (s.ent 0x1101 6 + 1) % 2 ^ 32 ∧
       t.ent 0x1102 6 = (s.ent 0x1102 6 + 1) % 2 ^ 32 ∧ Keeps { ents := true, claim := true, out := true } s t) ∧
  -- heartbeatNone
  (∀ (s : State), (s.ent 0x1100 5 = 0 ∨ s.get MGT_STAT_NODE = 0 ∨ s.mode = .dormant ∨ (s.canLive 0 = false ∧ s.canLive 1 = false)) →
     Machine.exec .heartbeat s = .next s) ∧
  -- claimLost
  (∀ (p : Fin 2) (node : BitVec 7) (key : Word) (s : State), s.canLive p.val = true → s.flag MGT_STAT_CLAIMING = true →
     node.toNat = s.claim.candidate →
     ∃ t, Machine.exec (.claim p node key) s = .next t ∧
       t.claim = (if key.toNat < Config.serial.toNat then { s.claim with candidate := s.claim.candidate % 126 + 1, retries := 0 } else s.claim) ∧
       t.ent (0x1101 + p.val) 5 = (s.ent (0x1101 + p.val) 5 + 1) % 2 ^ 32 ∧
       Keeps { regs := [.mgt, .lec, .gec], fresh := true, ents := true, claim := true, out := true, free := true } s t ∧
       (Config.serial.toNat ≤ key.toNat → t.out = s.out)) ∧
  -- claimKept
  (∀ (p : Fin 2) (node : BitVec 7) (key : Word) (s : State), s.canLive p.val = true → s.flag MGT_STAT_CLAIMING = true →
     node.toNat ≠ s.claim.candidate →
     ∃ t, Machine.exec (.claim p node key) s = .next t ∧ t.ent (0x1101 + p.val) 5 = (s.ent (0x1101 + p.val) 5 + 1) % 2 ^ 32 ∧
       Keeps { regs := [.mgt, .lec, .gec], fresh := true, ents := true, free := true } s t) ∧
  -- claimDefended
  (∀ (p : Fin 2) (node : BitVec 7) (key : Word) (s : State), s.canLive p.val = true → s.flag MGT_STAT_CLAIMING = false →
     node.toNat = s.get MGT_STAT_NODE → node ≠ 0 →
     ∃ t, Machine.exec (.claim p node key) s = .next t ∧
       .can p.val s.claim.arbRate s.claim.dataRate ((2 * 128 + node.toNat) :: (leBytes 8 (if s.claim.dynamic then Config.serial.toNat else 0)).reverse) ∈ t.out ∧
       Keeps { regs := [.mgt, .lec, .gec], fresh := true, ents := true, out := true, free := true } s t) ∧
  -- claimOff
  (∀ (p : Fin 2) (node : BitVec 7) (key : Word) (s : State), s.canLive p.val = false → Machine.exec (.claim p node key) s = .next s) ∧
  -- nodeClaimTimeout
  (∀ (s : State), s.flag MGT_STAT_CLAIMING = true →
     ∃ t, Machine.exec .nodeClaimTimeout s = .next t ∧ t.get MGT_STAT_NODE = s.claim.candidate % 2 ^ MGT_STAT_NODE.width ∧
       t.flag MGT_STAT_CLAIMING = false ∧ t.claim.dynamic = true ∧ t.claim.candidate = s.claim.candidate) ∧
  -- nodeClaimTimeoutNone
  (∀ (s : State), s.flag MGT_STAT_CLAIMING = false → Machine.exec .nodeClaimTimeout s = .next s) ∧
  -- heartbeatReceived
  (∀ (p : Fin 2) (node : BitVec 7) (s : State), s.canLive p.val = true → s.flag MGT_STAT_CLAIMING = false →
     s.get MGT_STAT_NODE = node.toNat → node ≠ 0 →
     ∃ t, Machine.exec (.heartbeatReceived p node) s = .next t ∧ t.flag MGT_STAT_NODEDUP = true ∧
       Keeps { regs := [.mgt, .lec, .gec], fresh := true, ents := true, free := true } s t) ∧
  -- heartbeatReceivedConflict
  (∀ (p : Fin 2) (node : BitVec 7) (s : State), s.canLive p.val = true → s.flag MGT_STAT_CLAIMING = true →
     node.toNat = s.claim.candidate →
     ∃ t, Machine.exec (.heartbeatReceived p node) s = .next t ∧
       t.claim = { s.claim with candidate := s.claim.candidate % 126 + 1, retries := 0 } ∧
       .can p.val s.claim.arbRate s.claim.dataRate ((2 * 128 + (s.claim.candidate % 126 + 1)) :: (leBytes 8 Config.serial.toNat).reverse) ∈ t.out ∧
       Keeps { regs := [.mgt, .lec, .gec], fresh := true, ents := true, claim := true, out := true, free := true } s t) ∧
  -- heartbeatReceivedOther
  (∀ (p : Fin 2) (node : BitVec 7) (s : State), s.canLive p.val = true →
     (if s.flag MGT_STAT_CLAIMING = true then node.toNat ≠ s.claim.candidate ∧ s.get MGT_STAT_NODE = 0 else s.get MGT_STAT_NODE ≠ node.toNat) →
     ∃ t, Machine.exec (.heartbeatReceived p node) s = .next t ∧ t.ent (0x1101 + p.val) 5 = (s.ent (0x1101 + p.val) 5 + 1) % 2 ^ 32 ∧
       Keeps { regs := [.mgt, .lec, .gec], fresh := true, ents := true, free := true } s t) ∧
  -- heartbeatReceivedOff
  (∀ (p : Fin 2) (node : BitVec 7) (s : State), s.canLive p.val = false → Machine.exec (.heartbeatReceived p node) s = .next s) ∧
  -- receiveCounters
  (∀ (p : Fin 2) (s : State), s.canLive p.val = true →
     ∃ t, Machine.exec (.ignoredFrame p false) s = .next t ∧ t.get MGT_CAN_TEC p.val % 256 = s.get MGT_CAN_TEC p.val % 256 ∧
       (if s.get MGT_CAN_REC p.val ≤ 127 then t.get MGT_CAN_REC p.val = s.get MGT_CAN_REC p.val - 1
        else 119 ≤ t.get MGT_CAN_REC p.val ∧ t.get MGT_CAN_REC p.val ≤ 127)) ∧
  -- busOff
  (∀ (p : Fin 2) (s : State), s.canLive p.val = true →
     ∃ t, Machine.exec (.busOff p) s = .next t ∧ t.get MGT_CAN_STATE p.val = 2 ∧ t.flag MGT_CAN_BUSOFF p.val = true ∧
       t.xport (32 + p.val) = XportSt.idle ∧ t.ready (6 * 1024 + 1 + p.val) = false ∧
       t.ent (0x1101 + p.val) 4 = (s.ent (0x1101 + p.val) 4 + 1) % 2 ^ 32) ∧
  -- busOffNone
  (∀ (p : Fin 2) (s : State), s.canLive p.val = false → Machine.exec (.busOff p) s = .next s) ∧
  -- busOffRecovery
  (∀ (p : Fin 2) (s : State), s.domOn 763 = true → s.get MGT_CAN_STATE p.val = 2 →
     ∃ t, Machine.exec (.busOffRecovery p) s = .next t ∧ t.get MGT_CAN_STATE p.val = 0 ∧ t.get MGT_CAN_TEC p.val = 0 ∧
       t.get MGT_CAN_REC p.val = 0 ∧ (s.get MGT_STAT_NODE ≠ 0 → s.mode ≠ .dormant → t.claim.beats = (s.claim.beats + 1) % 2 ^ 32)) ∧
  -- busOffRecoveryNone
  (∀ (p : Fin 2) (s : State), (s.domOn 763 = false ∨ s.get MGT_CAN_STATE p.val ≠ 2) → Machine.exec (.busOffRecovery p) s = .next s) ∧
  -- canSenderError
  (∀ (p : Fin 2) (kind : CanError) (k : Nat) (s : State), s.canLive p.val = true →
     k = s.get MGT_CAN_TEC p.val + (if kind = .noAck ∧ s.get MGT_CAN_STATE p.val = 1 then 0 else 8) → k ≤ 255 →
     ∃ t, Machine.exec (.canBusError p true kind false) s = .next t ∧ t.get MGT_CAN_TEC p.val = k ∧
       t.get MGT_CAN_REC p.val = s.get MGT_CAN_REC p.val % 256 ∧
       t.get MGT_CAN_STATE p.val = (if 127 < k ∨ 127 < s.get MGT_CAN_REC p.val then 1 else 0) ∧
       (s.get MGT_CAN_STATE p.val = 0 → t.get MGT_CAN_STATE p.val = 1 → t.flag MGT_CAN_PASSIVE p.val = true) ∧
       Keeps { regs := [.mgt, .lec, .gec], fresh := true } s t) ∧
  -- canReceiverError
  (∀ (p : Fin 2) (kind : CanError) (claim : Bool) (k : Nat) (s : State), s.canLive p.val = true →
     k = min 255 (s.get MGT_CAN_REC p.val + (if kind = .dominant then 8 else 1)) →
     ∃ t, Machine.exec (.canBusError p false kind claim) s = .next t ∧ t.get MGT_CAN_REC p.val = k ∧
       t.get MGT_CAN_TEC p.val = s.get MGT_CAN_TEC p.val % 256 ∧
       t.get MGT_CAN_STATE p.val = (if 127 < s.get MGT_CAN_TEC p.val ∨ 127 < k then 1 else 0) ∧
       Keeps { regs := [.mgt, .lec, .gec], fresh := true } s t) ∧
  -- canErrorBusOff
  (∀ (p : Fin 2) (kind : CanError) (s : State), s.canLive p.val = true →
     255 < s.get MGT_CAN_TEC p.val + (if kind = .noAck ∧ s.get MGT_CAN_STATE p.val = 1 then 0 else 8) →
     Machine.exec (.canBusError p true kind false) s = Machine.exec (.busOff p) s) ∧
  -- claimNotAcknowledged
  (∀ (p : Fin 2) (s : State), s.canLive p.val = true → s.flag MGT_STAT_CLAIMING = true → s.get MGT_CAN_TEC p.val ≤ 247 → s.claim.retries < 16 →
     ∃ t, Machine.exec (.canBusError p true .noAck true) s = .next t ∧ t.claim = { s.claim with retries := s.claim.retries + 1 } ∧
       t.out = s.out ++ [.can p.val s.claim.arbRate s.claim.dataRate ((2 * 128 + s.claim.candidate % 128) :: (leBytes 8 Config.serial.toNat).reverse)]) ∧
  -- claimGivenUp
  (∀ (p : Fin 2) (s : State), s.canLive p.val = true → s.flag MGT_STAT_CLAIMING = true → 16 ≤ s.claim.retries →
     ∃ t, Machine.exec (.canBusError p true .noAck true) s = .next t ∧ t.claim = s.claim ∧ (s.get MGT_CAN_TEC p.val ≤ 247 → t.out = s.out)) ∧
  -- claimBitError
  (∀ (p : Fin 2) (kind : CanError) (s : State), s.canLive p.val = true → s.flag MGT_STAT_CLAIMING = true → kind ≠ .noAck →
     s.get MGT_CAN_TEC p.val ≤ 247 →
     ∃ t, Machine.exec (.canBusError p true kind true) s = .next t ∧
       t.claim = { s.claim with candidate := s.claim.candidate % 126 + 1, retries := 0 } ∧
       .can p.val s.claim.arbRate s.claim.dataRate ((2 * 128 + (s.claim.candidate % 126 + 1)) :: (leBytes 8 Config.serial.toNat).reverse) ∈ t.out) ∧
  -- canErrorOff
  (∀ (p : Fin 2) (sender claim : Bool) (kind : CanError) (s : State), s.canLive p.val = false →
     Machine.exec (.canBusError p sender kind claim) s = .next s) ∧
  -- ignoredFrame
  (∀ (p : Fin 2) (s : State), s.canLive p.val = true →
     (∃ t, Machine.exec (.ignoredFrame p true) s = .next t ∧ t.flag MGT_CAN_RXIGN p.val = true ∧
       t.ent (0x1101 + p.val) 7 = (s.ent (0x1101 + p.val) 7 + 1) % 2 ^ 32 ∧
       Keeps { regs := [.mgt, .lec, .gec], fresh := true, ents := true, free := true } s t) ∧
     (∃ t, Machine.exec (.ignoredFrame p false) s = .next t ∧ t.ent (0x1101 + p.val) 5 = (s.ent (0x1101 + p.val) 5 + 1) % 2 ^ 32 ∧
       Keeps { regs := [.mgt, .lec, .gec], fresh := true, ents := true, free := true } s t))

/-- A mode command is a write of 0x1200:02 that its agent's transport serves. One that its mode allows is answered with abort 0 and then
takes its effect: START arms, DISARM disarms, STOP leads to READY, SERVICE notes PREV, ENDSERVICE returns there and then performs a
RESTORE that came in SERVICE, SLEEP leads to DORMANT with its wake profile, REBOOT and SELECT to BRING-UP; in any other mode it is
answered with 0x06 and the mode; a START whose check fails is answered with 0x0E and the reason, and a refused START is noted in 0x1200:03
and :04; while loading runs STOP, SLEEP and SELECT answer 7. A command whose request is not on the transport yet arrives there first; one
that is not next waits, and where the dictionary is not served nothing takes effect (15 R414, R416). A row is the arrival and
the service of its write (log 94); START on an armed master and RESUME on a follower are log 42, a START in a wrong mode log 196; SELECT
waits for a busy flash device (log 194). An ENDSERVICE to HOLD discards scheduled traffic and is a trace event (06 R184, 18 R481), and a wake slot
that is active at SLEEP wakes the module at once (16 R438). Completion, under conditions on the
state and the operands alone: exec answers a next state with the effect of startCommand, disarmCommand, resumeCommand, stopCommand,
serviceCommand, endserviceCommand, sleepCommand, sleepProfile, rebootCommand, selectCommand. (16 R430; 16 R431; 16 R432; 16 R433; 16 R434;
16 R435; 16 R438; 16 R452; 15 R407; 06 R184; 18 R481; 13 R375) -/
def Obligations.ModeCommands : Prop :=
  -- start
  (∀ (a : Agent) (seq : Byte) (s u : State), s.takesMode a seq.toNat 1 = true → u = s.answered a seq.toNat 0 → s.mode = .ready →
     s.startError = none →
     ∃ t, Machine.exec (.startCommand a seq) s = .next t ∧ t.flag MGT_MODE_ARMED = true ∧ t.mode = .ready ∧ t.out = u.out ∧ t.xports = u.xports) ∧
  -- startMaster
  (∀ (a : Agent) (seq : Byte) (s u : State), s.takesMode a seq.toNat 1 = true → u = s.answered a seq.toNat 0 → s.mode = .ready →
     s.startError = none → s.isMaster = true → s.stroke.entryDone = false →
     ∃ t, Machine.exec (.startCommand a seq) s = .next t ∧ t.flag MGT_MODE_ARMED = true ∧
       t.get CLK_TSTART_TSTART = (s.tb + s.get MGT_MODE_LEAD) % 2 ^ CLK_TSTART_TSTART.width ∧ t.stroke.entryDone = true ∧ t.get CKP_LAST_STROKE = 0) ∧
  -- startChecks
  (∀ (a : Agent) (seq : Byte) (r d : Nat) (s : State), s.takesMode a seq.toNat 1 = true → s.mode = .ready → s.startError = some (r, d) →
     Machine.exec (.startCommand a seq) s =
       .next ({ s.closed a with refReason := r + 256 * (d % 2 ^ 24), refCount := (s.refCount + 1) % 2 ^ 32 }.reply (transport a)
         (modeResponse seq.toNat 2 (0xE + 256 * (d % 2 ^ 24))))) ∧
  -- disarm
  (∀ (a : Agent) (seq : Byte) (s u : State), s.takesMode a seq.toNat 2 = true → u = s.answered a seq.toNat 0 → s.mode = .ready →
     ∃ t, Machine.exec (.disarmCommand a seq) s = .next t ∧ t.flag MGT_MODE_ARMED = false ∧ Keeps { regs := [.mgt], lanes := true } u t) ∧
  -- resume
  (∀ (a : Agent) (seq : Byte) (s u : State), s.takesMode a seq.toNat 3 = true → u = s.answered a seq.toNat 0 → s.mode = .hold →
     s.isMaster = true → s.flag MGT_MODE_ARMED = false →
     ∃ t, Machine.exec (.resumeCommand a seq) s = .next t ∧ Machine.exec .go u = .next t) ∧
  -- stop
  (∀ (a : Agent) (seq : Byte) (s u : State), s.takesMode a seq.toNat 4 = true → u = s.answered a seq.toNat 0 → s.mode = .hold →
     s.flag MGT_IMG_CTL_BUSY = false →
     ∃ t, Machine.exec (.stopCommand a seq) s = .next t ∧ t.mode = .ready ∧ t.stroke.started = false ∧ t.stroke.nextAt = none ∧
       t.ckp.restoring = false ∧ Keeps { regs := [.mgt], mode := true, lanes := true, stroke := true, ckp := true } u t) ∧
  -- service
  (∀ (a : Agent) (seq : Byte) (s u : State), s.takesMode a seq.toNat 5 = true → u = s.answered a seq.toNat 0 → (s.mode = .ready ∨ s.mode = .hold) →
     ∃ t, Machine.exec (.serviceCommand a seq) s = .next t ∧ t.mode = .service ∧ t.get MGT_MODE_PREV = (if s.mode = .hold then 4 else 2) ∧
       (s.mode = .hold → t.flag CKP_CTL_HOLDOFF = true) ∧ Keeps { regs := [.ckp, .mgt], mode := true, lanes := true } u t) ∧
  -- endservice
  (∀ (a : Agent) (seq : Byte) (s u : State), s.takesMode a seq.toNat 6 = true → u = s.answered a seq.toNat 0 → s.mode = .service →
     s.ckp.pendRestore = none → s.get MGT_MODE_PREV ≠ 4 →
     ∃ t, Machine.exec (.endserviceCommand a seq) s = .next t ∧ t.mode = .ready ∧ Keeps { regs := [.mgt], mode := true, lanes := true } u t) ∧
  -- endserviceToHold
  (∀ (a : Agent) (seq : Byte) (s u : State), s.takesMode a seq.toNat 6 = true → u = s.answered a seq.toNat 0 → s.mode = .service →
     s.ckp.pendRestore = none → s.get MGT_MODE_PREV = 4 → s.flag TRC_FRZ_ONHOLD = false →
     ∃ t, Machine.exec (.endserviceCommand a seq) s = .next t ∧ t.mode = .hold ∧ t.sends = [] ∧ t.flits = [] ∧ t.pads = [] ∧
       (∀ l, (t.lane l).txq = []) ∧ Keeps { regs := [.mgt], mode := true, lanes := true, sends := true, flits := true } u t) ∧
  -- endserviceRestore
  (∀ (a : Agent) (seq : Byte) (r : Nat) (s u v : State), s.takesMode a seq.toNat 6 = true → u = s.answered a seq.toNat 0 → s.mode = .service →
     s.ckp.pendRestore = some r → s.flag MGT_MODE_ARMED = false →
     v = (if s.get MGT_MODE_PREV = 4 then (u.dropScheduled.enter .hold).traceEvent TRC_FRZ_ONHOLD 4 else u.enter .ready) →
     Machine.exec (.endserviceCommand a seq) s =
       .next (({ v with ckp := { v.ckp with pendRestore := none } } : State).takeRestore r).freeIdle) ∧
  -- sleep
  (∀ (a : Agent) (seq : Byte) (s u : State), s.takesMode a seq.toNat 7 = true → u = s.answered a seq.toNat 0 → s.mode = .ready →
     s.flag MGT_IMG_CTL_BUSY = false → u.slotsActive = 0 →
     ∃ t, Machine.exec (.sleepCommand a seq) s = .next t ∧ t.mode = .dormant ∧ t.get SPT_WAKEPRF_PRF = s.get PRF_ACTIVE_ACTIVE % 4 ∧
       (∀ d, t.domOn d = false) ∧ t.out = u.out) ∧
  -- sleepProfile
  (∀ (a : Agent) (seq : Byte) (p : Fin 4) (s u : State), s.takesMode a seq.toNat (0x18 + p.val) = true → u = s.answered a seq.toNat 0 →
     s.mode = .ready → s.flag MGT_IMG_CTL_BUSY = false → u.slotsActive = 0 →
     ∃ t, Machine.exec (.sleepProfile a seq p) s = .next t ∧ t.mode = .dormant ∧ t.get SPT_WAKEPRF_PRF = p.val ∧
       (∀ d, t.domOn d = false) ∧ t.out = u.out) ∧
  -- sleepWakes
  (∀ (a : Agent) (seq : Byte) (p : Fin 4) (s u : State), s.takesMode a seq.toNat (0x18 + p.val) = true → u = s.answered a seq.toNat 0 →
     s.mode = .ready → s.flag MGT_IMG_CTL_BUSY = false → u.slotsActive ≠ 0 →
     ∃ t, Machine.exec (.sleepProfile a seq p) s = .next t ∧ t.mode = .bringUp ∧ t.boot.step = 0 ∧ t.boot.profile = p.val ∧
       t.get BJ_STAT_CAUSE = 2 ∧ t.get SPT_CAUSE_SLOT = (s.get SPT_CAUSE_SLOT ||| u.slotsActive) % 2 ^ SPT_CAUSE_SLOT.width ∧
       (∀ d, t.domOn d = false)) ∧
  -- reboot
  (∀ (a : Agent) (seq : Byte) (s u : State), s.takesMode a seq.toNat 8 = true → u = s.answered a seq.toNat 0 →
     ∃ t, Machine.exec (.rebootCommand a seq) s = .next t ∧ t.mode = .bringUp ∧ t.boot.step = 0 ∧ t.get BJ_STAT_CAUSE = 3 ∧
       t.tb = s.tb ∧ t.mem = u.mem ∧ t.liveRemap = s.liveRemap ∧ t.out = u.out) ∧
  -- select
  (∀ (a : Agent) (seq : Byte) (p : Fin 4) (s u : State), s.takesMode a seq.toNat (0x10 + p.val) = true → u = s.answered a seq.toNat 0 →
     s.mode = .ready → s.flag MGT_IMG_CTL_BUSY = false →
     ∃ t, Machine.exec (.selectCommand a seq p) s = .next t ∧ t.mode = .bringUp ∧ t.boot.step = 6 ∧ t.boot.profile = p.val ∧
       t.get BJ_STAT_CAUSE = 4 ∧ t.out = u.out) ∧
  -- startWrongMode
  (∀ (a : Agent) (seq : Byte) (s : State), s.takesMode a seq.toNat 1 = true → s.mode ≠ .ready →
     Machine.exec (.startCommand a seq) s =
       .next ({ s.closed a with refReason := 1 + 256 * s.modeCode, refCount := (s.refCount + 1) % 2 ^ 32 }.reply (transport a)
         (modeResponse seq.toNat 2 (6 + 256 * s.modeCode)))) ∧
  -- wrongMode
  (∀ (a : Agent) (seq : Byte) (p : Fin 4) (c : Nat) (i : Instr) (s : State), (i, c) ∈ modeRows a seq p → s.takesMode a seq.toNat c = true →
     c ≠ 1 → ((c = 2 ∨ c = 7 ∨ 0x10 ≤ c) ∧ s.mode ≠ .ready ∨ c = 3 ∧ (s.mode ≠ .hold ∨ s.isMaster = false) ∨ c = 4 ∧ s.mode ≠ .hold ∨
       c = 5 ∧ s.mode ≠ .ready ∧ s.mode ≠ .hold ∨ c = 6 ∧ s.mode ≠ .service) →
     Machine.exec i s = .next (s.answered a seq.toNat (6 + 256 * s.modeCode))) ∧
  -- engineBusy
  (∀ (a : Agent) (seq : Byte) (p : Fin 4) (c : Nat) (i : Instr) (s : State), (i, c) ∈ modeRows a seq p → s.takesMode a seq.toNat c = true →
     s.flag MGT_IMG_CTL_BUSY = true → (c = 4 ∧ s.mode = .hold ∨ (c = 7 ∨ 0x10 ≤ c) ∧ s.mode = .ready) →
     Machine.exec i s = .next (s.answered a seq.toNat 7)) ∧
  -- arrives
  (∀ (a : Agent) (seq : Byte) (p : Fin 4) (c : Nat) (i : Instr) (s u : State), (i, c) ∈ modeRows a seq p →
     s.holdsRequest a (modeRequest seq.toNat c) = false → u = s.arrive a (modeRequest seq.toNat c) →
     (u.serving a (modeRequest seq.toNat c) = true → Machine.exec i s = Machine.exec i u) ∧
     (u.serving a (modeRequest seq.toNat c) = false → Machine.exec i s = .next u)) ∧
  -- hostArrives
  (∀ (seq : Byte) (c : Nat) (s u : State), s.domOn 763 = true → s.domOn 762 = true → s.mode ≠ .dormant → s.flag PCI_MBX_BUSY = false → c < 256 →
     u = s.arrive .host (modeRequest seq.toNat c) →
     (u.xport 0).waiting = some (s.tb, modeRequest seq.toNat c) ∧ u.flag PCI_MBX_BUSY = true ∧
       Keeps { regs := [.pci, .lec, .gec], fresh := true, xports := true } s u) ∧
  -- waits
  (∀ (a : Agent) (seq : Byte) (p : Fin 4) (c : Nat) (i : Instr) (s : State), (i, c) ∈ modeRows a seq p →
     s.holdsRequest a (modeRequest seq.toNat c) = true → (s.nextServed ≠ some (transport a) ∨ s.flashAwaited a = true) →
     Machine.exec i s = .next s) ∧
  -- selectWaits
  (∀ (a : Agent) (seq : Byte) (p : Fin 4) (s : State), s.holdsRequest a (modeRequest seq.toNat (0x10 + p.val)) = true →
     (s.flashAwaited a = true ↔ s.flag MGT_FLCTL_BUSY = true)) ∧
  -- unserved
  (∀ (a : Agent) (seq : Byte) (p : Fin 4) (c : Nat) (i : Instr) (s : State), (i, c) ∈ modeRows a seq p → s.domOn 763 = false ∨ s.mode = .dormant →
     Machine.exec i s = .next s) ∧
  -- writtenElsewhere
  (∀ (a : Agent) (seq : Byte) (p : Fin 4) (c : Nat) (i : Instr) (s : State), (i, c) ∈ modeRows a seq p → s.serving a (modeRequest seq.toNat c) = true →
     s.writtenElsewhere (transport a) 0x1200 2 = true → Machine.exec i s = .next (s.answered a seq.toNat 7))

/-- POR_N resets every register to its reset value, takes the profile from its pins and starts bring-up with cause 0; the release of a
WARM_N that was low keeps the time base, memory and the live maps and starts it with cause 1, unless POR_N is low; a low on either holds
the module in reset; an enabled wake source starts it from DORMANT with the wake profile (16 R430, R436, R437, R438; 20 R513, R515; 12 R350).
What WARM_N keeps is log 104, a warm start from DORMANT log 105; while WARM_N is low the module shows its reset state (log 107); the pins are
read at the release (log 13), and a slot wakes by the level of its GEC input (log 109). Completion, under conditions on the state and the operands alone: exec answers a next
state with the effect of soundpostWake, porRelease, warmReset, resetLow. (16 R430; 16 R436; 16 R437; 16 R438; 20 R513; 20 R515; 12 R350)
-/
def Obligations.ResetsAndWake : Prop :=
  -- porRegisters
  (∀ (sel : BitVec 2) (node : BitVec 7) (wp : Bool) (f : Field) (i : Nat) (s : State),
     f.key i ≠ PRF_ACTIVE_PINS.key 0 → f.key i ≠ PRF_ACTIVE_ACTIVE.key 0 → f.key i ≠ MGT_FLCTL_WPN.key 0 →
     ∃ t, Machine.exec (.porRelease sel node wp) s = .next t ∧ t.get f i = State.reset.get f i) ∧
  -- porRelease
  (∀ (sel : BitVec 2) (node : BitVec 7) (wp : Bool) (s : State),
     ∃ t, Machine.exec (.porRelease sel node wp) s = .next t ∧ t.mode = .bringUp ∧ t.boot.step = 0 ∧ t.boot.profile = sel.toNat ∧
       t.boot.node = node.toNat ∧ t.get PRF_ACTIVE_PINS = sel.toNat ∧ t.get PRF_ACTIVE_ACTIVE = sel.toNat ∧ t.flag MGT_FLCTL_WPN = wp ∧
       t.get BJ_STAT_CAUSE = 0 ∧ t.tb = 0 ∧ t.cells = [] ∧ t.fltRecs = [] ∧ (∀ d, t.domOn d = false) ∧
       (∀ a, a < 0x3F0000000000 → t.byte a = 0) ∧ (s.get MGT_FLCTL_WINSEL = 0 → ∀ a, 0x3F0000000000 ≤ a → t.byte a = s.byte a)) ∧
  -- warmReset
  (∀ (s : State), s.pins.low = 1 → s.mode ≠ .dormant →
     ∃ t, Machine.exec .warmReset s = .next t ∧ t.mode = .bringUp ∧ t.boot.step = 0 ∧ t.boot.profile = s.get PRF_ACTIVE_ACTIVE ∧
       t.get BJ_STAT_CAUSE = 1 ∧ t.pins.low = 0 ∧ t.tb = s.tb ∧ t.mem = s.mem ∧ t.liveRemap = s.liveRemap ∧
       (∀ d, d < 740 → sget t.dom d 0 = sget s.dom d 0) ∧ t.fltRecs = s.fltRecs ∧ t.ents = s.ents ∧ t.clockLost = false ∧
       (∀ n, t.flag TRC_CDBG_RSTHALT n = s.flag TRC_CDBG_RSTHALT n) ∧ (∀ n, t.get TME_CFG_DMBASE n = s.get TME_CFG_DMBASE n)) ∧
  -- warmResetDormant
  (∀ (s : State), s.pins.low = 1 → s.mode = .dormant →
     ∃ t, Machine.exec .warmReset s = .next t ∧ t.mode = .bringUp ∧ t.boot.step = 0 ∧ t.get BJ_STAT_CAUSE = 1 ∧ t.cells = [] ∧ t.fltRecs = s.fltRecs) ∧
  -- warmResetIgnored
  (∀ (s : State), (s.pins.low ≠ 1 → Machine.exec .warmReset s = .next s) ∧ (s.pins.low = 2 → Machine.exec (.resetLow false) s = .next s)) ∧
  -- resetLowPor
  (∀ (s : State), ∃ t, Machine.exec (.resetLow true) s = .next t ∧ t.pins.low = 2 ∧ t.pins.trip = false ∧ t.cells = [] ∧ t.tb = 0 ∧
     (∀ d, t.domOn d = false)) ∧
  -- resetLowWarm
  (∀ (s : State), s.pins.low ≠ 2 → s.mode ≠ .dormant →
     ∃ t, Machine.exec (.resetLow false) s = .next t ∧ t.pins.low = 1 ∧ t.tb = s.tb ∧ t.mem = s.mem ∧ t.liveRemap = s.liveRemap) ∧
  -- resetLowWarmDormant
  (∀ (s : State), s.pins.low ≠ 2 → s.mode = .dormant →
     Machine.exec (.resetLow false) s = .next { s with pins := { s.pins with low := 1 } }) ∧
  -- wakeFromDormant
  (∀ (w : WakeSource) (s : State), s.pins.low = 0 → s.pins.trip = false → s.wakeEnabled w = true → s.mode = .dormant →
     ∃ t, Machine.exec (.soundpostWake w) s = .next t ∧ t.mode = .bringUp ∧ t.boot.step = 0 ∧ t.boot.profile = s.get SPT_WAKEPRF_PRF ∧
       t.get BJ_STAT_CAUSE = 2 ∧ (w = .pin → t.flag SPT_CAUSE_PIN = true) ∧ (w = .can 0 → t.flag SPT_CAUSE_CAN0 = true) ∧
       (w = .can 1 → t.flag SPT_CAUSE_CAN1 = true)) ∧
  -- wakeElsewhere
  (∀ (w : WakeSource) (s : State), s.pins.low = 0 → s.pins.trip = false → s.wakeEnabled w = true → s.mode ≠ .dormant →
     ∃ t, Machine.exec (.soundpostWake w) s = .next t ∧ (w = .pin → t.flag SPT_CAUSE_PIN = true) ∧
       (∀ j, w = .slot j → (t.get SPT_CAUSE_SLOT).testBit j.val = true) ∧ Keeps { regs := [.spt] } s t) ∧
  -- wakeDisabled
  (∀ (w : WakeSource) (s : State), (s.pins.low ≠ 0 ∨ s.pins.trip = true ∨ s.wakeEnabled w = false) → Machine.exec (.soundpostWake w) s = .next s)

/-- Bring-up runs only in BRING-UP, not halted, not held in reset and not where its step waits for a busy flash device; step 0 ends the poll of
the rails that is under way, passes with every rail good and goes on to step 1, and halts bring-up otherwise or when it times out; step 19 leads
to READY; CLEAR empties the history of the steps it names; a finished step sets STEPEV (16 R430, R439, R443-R446; 13 R375; 20 R521). Every step,
whatever its attempts do, goes on to the next one, halts bring-up, or at step 6 leads to DORMANT. The attempts and their timeouts arrive as
operands (logs 5, 101, 102), a poll goes on transaction by transaction (log 217), a lost clock stops bring-up (log 113), a step waits for the
flash (log 216), and BOOTOK after WARM_N follows log 198: the model's choices. Completion, under conditions on the state and the operands alone:
exec answers a next state with the effect of bootStep, bootStepTimeout, bjClear. (16 R439; 16 R441; 16 R443; 16 R444; 16 R445; 16 R446;
16 R430; 13 R375; 20 R521) -/
def Obligations.BringUpSteps : Prop :=
  -- railsGood
  (∀ (jf : BitVec 2) (s : State), s.bootRuns = true → s.boot.step = 0 → (s.pollRun 30).pins.pgood = 0x7FFF →
     ∃ t, Machine.exec (.bootStep [] jf) s = .next t ∧ t.mode = .bringUp ∧ t.boot.step = 1 ∧ t.flag BJ_STAT_STEPEV = true ∧
       t.flag BJ_STAT_HALTED = false ∧ t.get BJ_STAT_STEP = 0 ∧ t.mem = s.mem) ∧
  -- railsBad
  (∀ (jf : BitVec 2) (s : State), s.bootRuns = true → s.boot.step = 0 → (s.pollRun 30).pins.pgood ≠ 0x7FFF →
     ∃ t, Machine.exec (.bootStep [] jf) s = .next t ∧ t.mode = .bringUp ∧ t.boot.step = 0 ∧ t.flag BJ_STAT_HALTED = true ∧
       t.fltHw.testBit 2 = true ∧ t.fltRecs = s.fltRecs) ∧
  -- firstStepTimeout
  (∀ (jf : BitVec 2) (last : Try) (s : State), s.bootRuns = true → s.boot.step = 0 →
     ∃ t, Machine.exec (.bootStepTimeout [] last jf) s = .next t ∧ t.mode = .bringUp ∧ t.boot.step = 0 ∧ t.flag BJ_STAT_HALTED = true ∧
       t.flag BJ_STAT_STEPEV = true ∧ t.fltHw.testBit 2 = true ∧ t.fltRecs = s.fltRecs) ∧
  -- rootLocks
  (∀ (jf : BitVec 2) (s : State), s.bootRuns = true → s.boot.step = 1 →
     ∃ t, Machine.exec (.bootStep [] jf) s = .next t ∧ t.boot.step = 2 ∧ t.flag CLK_GEN_STAT_LOCK = true ∧ t.flag CLK_GEN_STAT_ROOT48 = false ∧
       t.clockStopped = false ∧ t.flag BJ_STAT_STEPEV = true) ∧
  -- lastStep
  (∀ (jf : BitVec 2) (s : State), s.bootRuns = true → s.boot.step = 19 → s.boot.regRecs = [] →
     ∃ t, Machine.exec (.bootStep [] jf) s = .next t ∧ t.mode = .ready ∧ t.flag BJ_STAT_DONE = true ∧ t.boot.step = 20 ∧
       t.flag BJ_STAT_STEPEV = true ∧ t.dom = s.dom) ∧
  -- everyStep
  (∀ (tries : List Try) (last : Try) (jf : BitVec 2) (s : State), s.bootRuns = true →
     (∃ t, Machine.exec (.bootStep tries jf) s = .next t ∧ (t.boot.step = s.boot.step + 1 ∨ (t.boot.step = s.boot.step ∧ t.flag BJ_STAT_HALTED = true) ∨
       (s.boot.step = 6 ∧ t.mode = .dormant))) ∧
     (∃ t, Machine.exec (.bootStepTimeout tries last jf) s = .next t ∧ (t.boot.step = s.boot.step + 1 ∨ (t.boot.step = s.boot.step ∧ t.flag BJ_STAT_HALTED = true) ∨
       (s.boot.step = 6 ∧ t.mode = .dormant)))) ∧
  -- firstCore
  (∀ (jf : BitVec 2) (s : State), s.bootRuns = true → s.boot.step = 5 → s.skips 5 = false → s.get MGT_FLCTL_BOOTOK ≠ 0 →
     ∃ t, Machine.exec (.bootStep [] jf) s = .next t ∧ t.boot.step = 6 ∧ (t.core 0).held = false) ∧
  -- failedImage
  (∀ (jf : BitVec 2) (s : State), s.bootRuns = true → s.boot.step = 18 → s.boot.imgAddr ≠ 0 → s.boot.regRecs = [] → 1 < s.owner →
     ∃ t, Machine.exec (.bootStep [] jf) s = .next t ∧ t.img = s.img ∧ t.owner = s.owner) ∧
  -- lostClock
  (∀ (tries : List Try) (last : Try) (jf : BitVec 2) (s : State), s.clockLost = true →
     Machine.exec (.bootStep tries jf) s = .next s ∧ Machine.exec (.bootStepTimeout tries last jf) s = .next s) ∧
  -- waitsForFlash
  (∀ (tries : List Try) (last : Try) (jf : BitVec 2) (s : State), s.flag MGT_FLCTL_BUSY = true → s.boot.step ∈ [3, 4, 6, 17, 18] →
     Machine.exec (.bootStep tries jf) s = .next s ∧ Machine.exec (.bootStepTimeout tries last jf) s = .next s) ∧
  -- notRunning
  (∀ (tries : List Try) (last : Try) (jf : BitVec 2) (s : State), s.bootRuns = false →
     Machine.exec (.bootStep tries jf) s = .next s ∧ Machine.exec (.bootStepTimeout tries last jf) s = .next s) ∧
  -- clear
  (∀ (mask : Word) (jf : BitVec 2) (i : Nat) (s : State), s.mode ≠ .dormant → s.mode ≠ .bringUp → s.flag BJ_STAT_NOJRNL = false →
     s.get BJ_HIST_STEPS < 2 ^ 64 → i < 64 →
     ∃ t, Machine.exec (.bjClear mask jf) s = .next t ∧
       (t.get BJ_HIST_STEPS).testBit i = ((s.get BJ_HIST_STEPS).testBit i && !mask.getLsbD i) ∧ Keeps { regs := [.bj], mem := true, boot := true } s t) ∧
  -- clearNone
  (∀ (mask : Word) (jf : BitVec 2) (s : State), (s.mode = .dormant ∨ (s.mode = .bringUp ∧ s.boot.step ≤ 4) ∨ s.flag BJ_STAT_NOJRNL = true) →
     Machine.exec (.bjClear mask jf) s = .next s)

/-- A power command is refused with the code of the first check of R465 that fails and otherwise starts the switch; a domain that reads on
is on with its fail bit clear, and each change is noted in PWR_STAT; a fault takes a domain and its children off, and one that is off or
failed already is left alone; of a fault and a switch-on in one HCLK cycle the fault wins (17 R463-R468). Nothing switches while a thermal trip
(17 R474) or a reset pin (20 R515) holds the module. That the end of a switch and a fault arrive as commands (log 5), the codes of a domain's
state (log 114), what a child that powers up or down counts as (log 173), the fault of a parent whose child is switching (log 188), the lanes
of a quad that loses its power (log 66) and the bytes of a stack that does (log 9) are the model's choices. Completion, under conditions on the state and the operands alone: exec answers a next state
with the effect of domainSwitch, domainOn, domainFault, domainOff. (17 R463; 17 R464; 17 R465; 17 R466; 17 R467; 17 R468) -/
def Obligations.PowerDomains : Prop :=
  -- switchOn
  (∀ (a : Agent) (d : BitVec 10) (on : Bool) (s : State), s.domOn 760 = true → d.toNat < 766 → s.flag PWR_STAT_BUSY = false → s.powerMode = true → planDomain d.toNat = true →
     (∀ n, a = .core n → d.toNat ≠ 720 + n.val) → on = true → s.parentOn d.toNat = true →
     s.pins.failed.any (fun p => p.1 == d.toNat && p.2 == s.tb / 4) = false → (sget s.dom d.toNat 0 = 0 ∨ sget s.dom d.toNat 0 = 4) →
     ∃ t, Machine.exec (.domainSwitch a d on) s = .next t ∧ sget t.dom d.toNat 0 = 1 ∧ t.flag PWR_STAT_BUSY = true ∧
       t.get PWR_CMD_DOMAIN = d.toNat ∧ t.pins.switching = some d.toNat ∧ Keeps { regs := [.pwr], dom := true, pins := true } s t) ∧
  -- switchOff
  (∀ (a : Agent) (d : BitVec 10) (on : Bool) (s : State), s.domOn 760 = true → d.toNat < 766 → s.flag PWR_STAT_BUSY = false → s.powerMode = true → planDomain d.toNat = true →
     (∀ n, a = .core n → d.toNat ≠ 720 + n.val) → on = false → (∀ x, x < 766 → parent x = some d.toNat → sget s.dom x 0 = 0 ∨ sget s.dom x 0 = 4) →
     (sget s.dom d.toNat 0 = 2 ∨ sget s.dom d.toNat 0 = 1) →
     ∃ t, Machine.exec (.domainSwitch a d on) s = .next t ∧ sget t.dom d.toNat 0 = (if sget s.dom d.toNat 0 = 2 then 3 else 5) ∧
       t.flag PWR_STAT_BUSY = true ∧ t.pins.switching = some d.toNat) ∧
  -- switchNothing
  (∀ (a : Agent) (d : BitVec 10) (on : Bool) (s : State), s.domOn 760 = true → d.toNat < 766 → s.flag PWR_STAT_BUSY = false → s.powerMode = true → planDomain d.toNat = true →
     (∀ n, a = .core n → d.toNat ≠ 720 + n.val) →
     (if on = true then s.parentOn d.toNat = true ∧ s.pins.failed.any (fun p => p.1 == d.toNat && p.2 == s.tb / 4) = false ∧
        sget s.dom d.toNat 0 ∈ [1, 2, 3, 5]
      else (∀ x, x < 766 → parent x = some d.toNat → sget s.dom x 0 = 0 ∨ sget s.dom x 0 = 4) ∧ sget s.dom d.toNat 0 ∈ [0, 3, 4, 5]) →
     ∃ t, Machine.exec (.domainSwitch a d on) s = .next t ∧ t.flag PWR_STAT_BUSY = false ∧ t.flag PWR_STAT_ERR = s.flag PWR_STAT_ERR ∧
       Keeps { regs := [.pwr] } s t) ∧
  -- switchReserved
  (∀ (a : Agent) (d : BitVec 10) (on : Bool) (s : State), s.domOn 760 = true → 766 ≤ d.toNat → s.flag PWR_STAT_BUSY = true →
     ∃ t, Machine.exec (.domainSwitch a d on) s = .next t ∧ t.get PWR_CMD_DOMAIN = s.get PWR_CMD_DOMAIN ∧ t.flag PWR_STAT_ERR = true ∧
       Keeps { regs := [.pwr] } s t) ∧
  -- switchBusy
  (∀ (a : Agent) (d : BitVec 10) (on : Bool) (s : State), s.domOn 760 = true → d.toNat < 766 → s.flag PWR_STAT_BUSY = true →
     ∃ t, Machine.exec (.domainSwitch a d on) s = .next t ∧ t.flag PWR_STAT_ERR = true ∧ t.get PWR_STAT_ERRCODE = s.get PWR_STAT_ERRCODE ∧
       Keeps { regs := [.pwr] } s t) ∧
  -- switchMode
  (∀ (a : Agent) (d : BitVec 10) (on : Bool) (s : State), s.domOn 760 = true → d.toNat < 766 → s.flag PWR_STAT_BUSY = false → s.powerMode = false →
     ∃ t, Machine.exec (.domainSwitch a d on) s = .next t ∧ t.flag PWR_STAT_ERR = true ∧ t.get PWR_STAT_ERRCODE = 1 ∧ t.dom = s.dom ∧
       Keeps { regs := [.pwr] } s t) ∧
  -- switchFixed
  (∀ (a : Agent) (d : BitVec 10) (on : Bool) (s : State), s.domOn 760 = true → d.toNat < 766 → s.flag PWR_STAT_BUSY = false → s.powerMode = true →
     (planDomain d.toNat = false ∨ ∃ n, a = .core n ∧ d.toNat = 720 + n.val) →
     ∃ t, Machine.exec (.domainSwitch a d on) s = .next t ∧ t.flag PWR_STAT_ERR = true ∧ t.get PWR_STAT_ERRCODE = 2 ∧ t.dom = s.dom ∧
       Keeps { regs := [.pwr] } s t) ∧
  -- switchParent
  (∀ (a : Agent) (d : BitVec 10) (on : Bool) (s : State), s.domOn 760 = true → d.toNat < 766 → s.flag PWR_STAT_BUSY = false → s.powerMode = true → planDomain d.toNat = true →
     (∀ n, a = .core n → d.toNat ≠ 720 + n.val) → on = true → s.parentOn d.toNat = false →
     ∃ t, Machine.exec (.domainSwitch a d on) s = .next t ∧ t.flag PWR_STAT_ERR = true ∧ t.get PWR_STAT_ERRCODE = 3 ∧ t.dom = s.dom ∧
       Keeps { regs := [.pwr] } s t) ∧
  -- switchChild
  (∀ (a : Agent) (d : BitVec 10) (on : Bool) (x : Nat) (s : State), s.domOn 760 = true → d.toNat < 766 → s.flag PWR_STAT_BUSY = false → s.powerMode = true → planDomain d.toNat = true →
     (∀ n, a = .core n → d.toNat ≠ 720 + n.val) → on = false →
     x < 766 → parent x = some d.toNat → sget s.dom x 0 ≠ 0 → sget s.dom x 0 ≠ 4 →
     ∃ t, Machine.exec (.domainSwitch a d on) s = .next t ∧ t.flag PWR_STAT_ERR = true ∧ t.get PWR_STAT_ERRCODE = 4 ∧ t.dom = s.dom ∧
       Keeps { regs := [.pwr] } s t) ∧
  -- switchAfterFault
  (∀ (a : Agent) (d : BitVec 10) (s : State), s.domOn 760 = true → d.toNat < 766 → s.flag PWR_STAT_BUSY = false → s.powerMode = true → planDomain d.toNat = true →
     (∀ n, a = .core n → d.toNat ≠ 720 + n.val) → s.parentOn d.toNat = true → (d.toNat, s.tb / 4) ∈ s.pins.failed →
     ∃ t, Machine.exec (.domainSwitch a d true) s = .next t ∧ t.flag PWR_STAT_ERR = true ∧ t.get PWR_STAT_ERRCODE = 5 ∧ t.dom = s.dom ∧
       Keeps { regs := [.pwr] } s t) ∧
  -- switchHubOff
  (∀ (a : Agent) (d : BitVec 10) (on : Bool) (s : State), s.domOn 760 = false → Machine.exec (.domainSwitch a d on) s = .next s) ∧
  -- domainOn
  (∀ (d : Fin 766) (s : State), s.awake = true → sget s.dom d.val 0 = 1 → s.parentOn d.val = true → (d.val < 740 ∨ 760 ≤ d.val) →
     ∃ t, Machine.exec (.domainOn d) s = .next t ∧ sget t.dom d.val 0 = 2 ∧ t.flag PWR_STAT_CHG = true ∧ t.get PWR_STAT_LASTDOM = d.val ∧
       bit (t.get PWR_FAIL_MAP (d.val / 64)) (d.val % 64) = false ∧ (s.pins.switching = some d.val → t.flag PWR_STAT_BUSY = false ∧ t.pins.switching = none) ∧
       (d.val < 128 → t.ready (1024 + d.val) = true) ∧ (720 ≤ d.val ∧ d.val < 740 → (t.core (d.val - 720)).held = false)) ∧
  -- domainOnNone
  (∀ (d : Fin 766) (s : State), (s.awake = false ∨ sget s.dom d.val 0 ≠ 1 ∨ s.parentOn d.val = false) → Machine.exec (.domainOn d) s = .next s) ∧
  -- domainOff
  (∀ (d : Fin 766) (s : State), s.awake = true → sget s.dom d.val 0 = 3 →
     ∃ t, Machine.exec (.domainOff d) s = .next t ∧ sget t.dom d.val 0 = 0 ∧ t.flag PWR_STAT_CHG = true ∧ t.get PWR_STAT_LASTDOM = d.val ∧
       (s.pins.switching = some d.val → t.flag PWR_STAT_BUSY = false ∧ t.pins.switching = none) ∧
       (∀ x, x ≠ d.val → sget t.dom x 0 = sget s.dom x 0) ∧ Keeps { regs := [.lec, .gec, .pwr], fresh := true, dom := true, pins := true } s t) ∧
  -- domainOffUnused
  (∀ (d : Fin 766) (s : State), s.awake = true → sget s.dom d.val 0 = 5 →
     ∃ t, Machine.exec (.domainOff d) s = .next t ∧ sget t.dom d.val 0 = 0 ∧ t.flag PWR_STAT_CHG = s.flag PWR_STAT_CHG ∧
       t.get PWR_STAT_LASTDOM = s.get PWR_STAT_LASTDOM ∧ Keeps { regs := [.pwr], dom := true, pins := true } s t) ∧
  -- domainOffNone
  (∀ (d : Fin 766) (s : State), (s.awake = false ∨ (sget s.dom d.val 0 ≠ 3 ∧ sget s.dom d.val 0 ≠ 5)) → Machine.exec (.domainOff d) s = .next s) ∧
  -- domainFault
  (∀ (d : Fin 766) (under : Bool) (s : State), s.awake = true → sget s.dom d.val 0 ≠ 0 → sget s.dom d.val 0 ≠ 4 →
     ∃ t, Machine.exec (.domainFault d under) s = .next t ∧ sget t.dom d.val 0 = 4 ∧ t.flag PWR_STAT_DOMFAULT = true ∧
       bit (t.get PWR_FAIL_MAP (d.val / 64)) (d.val % 64) = true ∧
       ∀ x, x < 766 → below x d.val = true → sget t.dom x 0 = 0 ∨ sget t.dom x 0 = 4) ∧
  -- domainFaultSwitch
  (∀ (d : Fin 766) (under : Bool) (s : State), s.awake = true → sget s.dom d.val 0 = 1 → s.pins.switching = some d.val →
     ∃ t, Machine.exec (.domainFault d under) s = .next t ∧ t.flag PWR_STAT_ERR = true ∧ t.get PWR_STAT_ERRCODE = 5 ∧
       t.flag PWR_STAT_BUSY = false ∧ t.pins.switching = none) ∧
  -- domainFaultNone
  (∀ (d : Fin 766) (under : Bool) (s : State), (s.awake = false ∨ sget s.dom d.val 0 = 0 ∨ sget s.dom d.val 0 = 4) →
     Machine.exec (.domainFault d under) s = .next s)

/-- A lost REFCLK or lock outside DORMANT stops cell issue, while the time base counts on, and leads from RUN to HOLD, which empties the
fabric; a sample shows every reading in 0x9000 and raises the warnings and the emergency of its limits; a thermal trip holds until POR_N;
PMBus commands and polls send their transactions, a poll while no command is under way, and show their results (17 R461, R470-R474; 20 R521,
R522); FAULT_ACK and MODULE_FAULT act on the fault log, and an acknowledgement leaves a record of its own cycle (19 R495, R499). While POR_N is
low neither a loss nor a trip writes a record (20 R508). That samples, losses and the ends of transactions arrive as commands (log 5), the codes of
a poll (log 99), a poll transaction by transaction (log 217), DONE and NAK (log 110), the power reading (log 111), a trip while POR_N is low
(log 215) and the acknowledgement in a record's cycle (log 200) are the model's choices. Completion, under conditions on the state and the operands alone: exec answers a next state with the
effect of refclkLoss, lossOfLock, sensorSample, thermalTrip, pmbusPoll, pmbusCommand, pmbusDone, faultAck, moduleFault. (17 R461; 17 R470;
17 R471; 17 R472; 17 R474; 20 R508; 20 R521; 20 R522; 19 R495; 19 R499; 13 R353) -/
def Obligations.ClocksAndSensors : Prop :=
  -- refclkLoss
  (∀ (s : State), s.mode ≠ .dormant → s.pins.low ≠ 2 →
     ∃ t, Machine.exec .refclkLoss s = .next t ∧ t.clockLost = true ∧ t.clockStopped = s.clockStopped ∧ t.flag CLK_GEN_STAT_REFLOSS = true ∧ t.fltHw.testBit 0 = true ∧
       t.mode = (if s.mode = .run then .hold else s.mode) ∧ t.tb = s.tb ∧ t.cells = s.cells ∧ (s.mode = .run → t.flits = [] ∧ t.sends = [] ∧ t.pads = [])) ∧
  -- refclkLossDormant
  (∀ (s : State), s.mode = .dormant → s.pins.low ≠ 2 →
     Machine.exec .refclkLoss s = .next (s.raise CLK_GEN_STAT_REFLOSS)) ∧
  -- refclkLossPor
  (∀ (s : State), s.pins.low = 2 → Machine.exec .refclkLoss s = .next s) ∧
  -- lossOfLock
  (∀ (s : State), s.flag CLK_GEN_STAT_LOCK = true → s.mode ≠ .dormant → s.pins.low ≠ 2 →
     ∃ t, Machine.exec .lossOfLock s = .next t ∧ t.clockLost = true ∧ t.clockStopped = s.clockStopped ∧ t.flag CLK_GEN_STAT_LOCK = false ∧ t.flag CLK_GEN_STAT_LOL = true ∧
       t.mode = (if s.mode = .run then .hold else s.mode) ∧ t.tb = s.tb ∧ t.cells = s.cells ∧ (s.mode = .run → t.flits = [] ∧ t.sends = [] ∧ t.pads = [])) ∧
  -- lossOfLockDormant
  (∀ (s : State), s.flag CLK_GEN_STAT_LOCK = true → (s.mode = .dormant ∨ s.pins.low = 2) →
     ∃ t, Machine.exec .lossOfLock s = .next t ∧ t.clockLost = s.clockLost ∧ t.flag CLK_GEN_STAT_LOCK = false ∧ t.flag CLK_GEN_STAT_LOL = true ∧
       Keeps { regs := [.clk] } s t) ∧
  -- lossOfLockNone
  (∀ (s : State), s.flag CLK_GEN_STAT_LOCK = false → Machine.exec .lossOfLock s = .next s) ∧
  -- sensorSample
  (∀ (temps volts : List (BitVec 32)) (power : BitVec 32) (d i k : Nat) (s : State), s.domOn 760 = true → temps.length = 42 → volts.length = 15 →
     d < 9 → 4 * d ≤ i → i < 4 * d + (if d = 8 then 2 else 4) →
     ∃ t, Machine.exec (.sensorSample temps volts power) s = .next t ∧ t.pins.sensors = (temps.take 34).map (·.toNat) ∧
       (∃ m, 4 * d ≤ m ∧ m < 4 * d + (if d = 8 then 2 else 4) ∧ t.ent 0x9000 (1 + d) = (temps.getD m 0).toNat) ∧
       (∀ x, realScaled (temps.getD i 0).toNat = some x → ∃ y, realScaled (t.ent 0x9000 (1 + d)) = some y ∧ x ≤ y) ∧
       (k < 8 → t.ent 0x9000 (0xA + k) = (temps.getD (34 + k) 0).toNat) ∧ (k < 15 → t.ent 0x9000 (0x12 + k) = (volts.getD k 0).toNat) ∧
       t.ent 0x9000 0x30 = power.toNat ∧
       (realGe (temps.getD i 0).toNat (s.get PWR_THERM_TWARN) = true → t.flag PWR_THERM_WARN = true) ∧
       (k < 8 → realGe (temps.getD (34 + k) 0).toNat (s.get PWR_THERM_HWARN) = true → t.flag PWR_THERM_WARN = true) ∧
       (realGe (temps.getD i 0).toNat (s.get PWR_THERM_THOT) = true → t.flag PWR_THERM_EMG = true) ∧
       (k < 8 → realGe (temps.getD (34 + k) 0).toNat (s.get PWR_THERM_HHOT) = true → t.flag PWR_THERM_EMG = true) ∧
       Keeps { regs := [.ckp, .lec, .gec, .pwr], lanes := true, fresh := true, ckp := true, ents := true, pins := true } s t) ∧
  -- sensorSampleOff
  (∀ (temps volts : List (BitVec 32)) (power : BitVec 32) (s : State), s.domOn 760 = false →
     Machine.exec (.sensorSample temps volts power) s = .next s) ∧
  -- thermalTrip
  (∀ (die : Fin 9) (celsius : BitVec 16) (s : State), s.pins.trip = false → s.pins.low ≠ 2 → 115 ≤ celsius.toInt →
     ∃ t, Machine.exec (.thermalTrip die celsius) s = .next t ∧ t.pins.trip = true ∧ t.clockStopped = true ∧ t.fltHw.testBit 1 = true ∧
       t.mode = s.mode ∧ t.cells = s.cells) ∧
  -- thermalTripPor
  (∀ (die : Fin 9) (celsius : BitVec 16) (s : State), s.pins.trip = false → s.pins.low = 2 → 115 ≤ celsius.toInt →
     Machine.exec (.thermalTrip die celsius) s = .next { s with pins := { s.pins with trip := true } }) ∧
  -- thermalTripAgain
  (∀ (die : Fin 9) (celsius : BitVec 16) (s : State), (s.pins.trip = true ∨ celsius.toInt < 115) → Machine.exec (.thermalTrip die celsius) s = .next s) ∧
  -- pmbusPoll
  (∀ (status : List (Option (BitVec 16))) (amps : List (BitVec 32)) (s : State), s.mode ≠ .dormant → s.pins.low = 0 →
     s.pins.trip = false → s.pins.poll = none →
     Machine.exec (.pmbusPoll status amps) s = .next { s with pins := { s.pins with poll := some ⟨0, status, amps⟩ } }) ∧
  -- pmbusPollNone
  (∀ (status : List (Option (BitVec 16))) (amps : List (BitVec 32)) (s : State),
     (s.mode = .dormant ∨ s.pins.low ≠ 0 ∨ s.pins.trip = true ∨ s.pins.poll ≠ none) → Machine.exec (.pmbusPoll status amps) s = .next s) ∧
  -- pollRuns
  (∀ (status : List (Option (BitVec 16))) (amps : List (BitVec 32)) (r : Nat) (s : State), s.pins.poll = some ⟨0, status, amps⟩ →
     s.flag PWR_PMBCMD_BUSY = false → r < 15 →
     (s.pollRun 30).pins.poll = none ∧
       (s.pollRun 30).pins.pgood.testBit r = (match status.getD r none with | some w => !w.getLsbD 11 | none => false) ∧
       (s.pollRun 30).ent 0x9000 (0x21 + r) = (if (status.getD r none).isSome then (amps.getD r 0).toNat else 0) ∧
       (s.pollRun 30).out = s.out ++ (List.range 15).flatMap (fun i => [.pmbus (0x40 + i) 0x79 false [], .pmbus (0x40 + i) 0x8C false []]) ∧
       Keeps { ents := true, pins := true, out := true } s (s.pollRun 30)) ∧
  -- pollWaits
  (∀ (n : Nat) (s : State), s.flag PWR_PMBCMD_BUSY = true → s.pollRun n = s) ∧
  -- pmbusRead
  (∀ (addr : BitVec 7) (code : Byte) (len : BitVec 2) (s : State), s.domOn 760 = true → s.flag PWR_PMBCMD_BUSY = false →
     ∃ t, Machine.exec (.pmbusCommand addr code len false) s = .next t ∧ t.flag PWR_PMBCMD_BUSY = true ∧
       t.out = s.out ++ [.pmbus addr.toNat code.toNat false []] ∧ t.pins.cmdWrite = false ∧
       Keeps { regs := [.pwr], out := true, pins := true } s t) ∧
  -- pmbusWrite
  (∀ (addr : BitVec 7) (code : Byte) (len : BitVec 2) (s : State), s.domOn 760 = true → s.flag PWR_PMBCMD_BUSY = false → len ≠ 3 →
     ∃ t, Machine.exec (.pmbusCommand addr code len true) s = .next t ∧ t.flag PWR_PMBCMD_BUSY = true ∧
       t.out = s.out ++ [.pmbus addr.toNat code.toNat true (leBytes len.toNat (s.get PWR_PMBDATA_DATA))] ∧
       t.pins.cmdWrite = true ∧ Keeps { regs := [.pwr], out := true, pins := true } s t) ∧
  -- pmbusBusy
  (∀ (addr : BitVec 7) (code : Byte) (len : BitVec 2) (w : Bool) (s : State), s.domOn 760 = true → s.flag PWR_PMBCMD_BUSY = true →
     ∃ t, Machine.exec (.pmbusCommand addr code len w) s = .next t ∧ t.out = s.out ∧ Keeps { regs := [.pwr] } s t) ∧
  -- pmbusDone
  (∀ (v : BitVec 16) (s : State), s.domOn 760 = true → s.flag PWR_PMBCMD_BUSY = true → s.pins.cmdWrite = false →
     (∃ t, Machine.exec (.pmbusDone none) s = .next t ∧ t.flag PWR_PMBCMD_BUSY = false ∧ t.flag PWR_PMBCMD_DONE = true ∧
       t.flag PWR_PMBCMD_NAK = true ∧ Keeps { regs := [.pwr] } s t) ∧
     (∃ t, Machine.exec (.pmbusDone (some v)) s = .next t ∧ t.flag PWR_PMBCMD_BUSY = false ∧ t.flag PWR_PMBCMD_DONE = true ∧
       (s.pins.cmdLen = 1 → t.get PWR_PMBDATA_DATA = v.toNat % 256) ∧ (s.pins.cmdLen = 2 → t.get PWR_PMBDATA_DATA = v.toNat) ∧
       Keeps { regs := [.pwr] } s t)) ∧
  -- pmbusDoneNone
  (∀ (r : Option (BitVec 16)) (s : State), (s.domOn 760 = false ∨ s.flag PWR_PMBCMD_BUSY = false) → Machine.exec (.pmbusDone r) s = .next s) ∧
  -- faultAck
  (∀ (seq : BitVec 32) (s : State), s.domOn 763 = true → s.fltAny = true → s.fltNext < 2 ^ 32 → (∀ r ∈ s.fltRecs, r.tb ≠ s.tb) → s.get MGT_FLT_ACK_SEQ < 2 ^ 32 →
     (seq.toNat + 2 ^ 32 - s.get MGT_FLT_ACK_SEQ) % 2 ^ 32 ≤ (s.fltNext + 2 ^ 32 - 1 + 2 ^ 32 - s.get MGT_FLT_ACK_SEQ) % 2 ^ 32 →
     ∃ t, Machine.exec (.faultAck seq) s = .next t ∧ t.get MGT_FLT_ACK_SEQ = seq.toNat ∧ t.fltRecs = s.fltRecs ∧
       Keeps { regs := [.mgt, .lec, .gec], fresh := true } s t) ∧
  -- faultAckThisCycle
  (∀ (seq : BitVec 32) (s : State), s.domOn 763 = true → s.fltNext < 2 ^ 32 → s.get MGT_FLT_ACK_SEQ < 2 ^ 32 →
     (∃ r ∈ s.fltRecs, s.unacked r = true ∧ r.tb = s.tb) →
     s.fltRecs.countP s.unacked ≤ (s.fltNext + 2 ^ 32 - 1 + 2 ^ 32 - s.get MGT_FLT_ACK_SEQ) % 2 ^ 32 →
     seq.toNat = (s.fltNext + 2 ^ 32 - 1) % 2 ^ 32 → Machine.exec (.faultAck seq) s = .next s) ∧
  -- faultAckNone
  (∀ (seq : BitVec 32) (s : State), (s.domOn 763 = false ∨ s.fltAny = false) → Machine.exec (.faultAck seq) s = .next s) ∧
  -- moduleFault
  (∀ (v : Word) (s : State), s.domOn 763 = true → s.mode ≠ .run → s.fltRecs.length < 1024 →
     ∃ t r, Machine.exec (.moduleFault v) s = .next t ∧ r ∈ t.fltRecs ∧ r.code = 0xF02 ∧ r.d0 = v.toNat ∧ r.tb = s.tb ∧
       t.fltRecs.length = s.fltRecs.length + 1 ∧ t.fltNext = (s.fltNext + 1) % 2 ^ 32 ∧ t.mode = s.mode ∧ t.cells = s.cells) ∧
  -- moduleFaultOff
  (∀ (v : Word) (s : State), s.domOn 763 = false → Machine.exec (.moduleFault v) s = .next s)

/-- Whatever command a step takes, and in whatever state, the mode stays or changes by a transition of the table of 16 R430: into
BRING-UP from any mode, out of it to READY or DORMANT, from READY to DORMANT, RUN, HOLD or SERVICE, from RUN to HOLD only, from
HOLD to RUN, READY or SERVICE, from SERVICE to READY or HOLD. (16 R430; 16 R428; 17 R461) -/
def Obligations.ModeTransitions : Prop :=
  ∀ (s t : State), step s = .next t → t.mode = s.mode ∨ t.mode = .bringUp ∨ (s.mode, t.mode) ∈ ([(.bringUp, .dormant), (.bringUp, .ready),
    (.ready, .dormant), (.ready, .run), (.ready, .hold), (.ready, .service), (.run, .hold), (.hold, .run), (.hold, .ready), (.hold, .service),
    (.service, .ready), (.service, .hold)] : List (Mode × Mode))
end

