-- ==== Sys2Proof/Laws/Sparse.lean ====
section
/-! SUPPORT. Laws of sparse tables: a read after a write to the same key gives the value written, a write leaves every other key
alone, every operation keeps the canonical form, and canonical tables that read alike are equal. -/

namespace Sys2Proof.Machine

variable {α : Type}

/-- What a table lists after an insertion. -/
theorem lookup_insertKey (l : List (Nat × α)) (a b : Nat) (x : α) :
    lookup (insertKey l a x) b = if b = a then some x else lookup l b := by
  induction l with
  | nil => grind [insertKey, lookup]
  | cons p t ih => grind [insertKey, lookup]

/-- What a table lists after a removal. -/
theorem lookup_eraseKey (l : List (Nat × α)) (a b : Nat) :
    lookup (eraseKey l a) b = if b = a then none else lookup l b := by
  induction l with
  | nil => simp [eraseKey, lookup]
  | cons p t ih =>
    obtain ⟨k, v⟩ := p
    simp only [eraseKey]
    split
    · rename_i hk
      rw [ih]
      by_cases hb : b = a
      · simp [hb]
      · have : k ≠ b := by omega
        simp [lookup, hb, this]
    · rename_i hk
      simp only [lookup, ih]
      by_cases hb : b = a
      · have : k ≠ b := by omega
        simp [hb, hk]
      · simp [hb]

/-- A table above a bound stays above it. -/
theorem risingFrom_insertKey (l : List (Nat × α)) (b a : Nat) (x : α) (h : risingFrom b l = true) (ha : b < a) :
    risingFrom b (insertKey l a x) = true := by
  induction l generalizing b with
  | nil => simp [insertKey, risingFrom, ha]
  | cons p t ih =>
    obtain ⟨k, v⟩ := p
    simp only [risingFrom, Bool.and_eq_true, decide_eq_true_eq] at h
    simp only [insertKey]
    split
    · rename_i hlt; simp [risingFrom, ha, hlt, h.2]
    · split
      · rename_i _ heq; subst heq; simp [risingFrom, h.1, h.2]
      · simp only [risingFrom, Bool.and_eq_true, decide_eq_true_eq]
        exact ⟨h.1, ih k h.2 (by omega)⟩

/-- A bound may be lowered. -/
theorem risingFrom_mono (l : List (Nat × α)) (b c : Nat) (h : risingFrom c l = true) (hb : b ≤ c) : risingFrom b l = true := by
  cases l with
  | nil => rfl
  | cons p t =>
    simp only [risingFrom, Bool.and_eq_true, decide_eq_true_eq] at h ⊢
    exact ⟨by omega, h.2⟩

/-- The tail of a table above a bound rises. -/
theorem rising_of_risingFrom (l : List (Nat × α)) (b : Nat) (h : risingFrom b l = true) : rising l = true := by
  cases l with
  | nil => rfl
  | cons p t => simp only [risingFrom, Bool.and_eq_true] at h; exact h.2

/-- A filter of a table above a bound stays above it. -/
theorem risingFrom_filter (p : Nat × α → Bool) (l : List (Nat × α)) (b : Nat) (h : risingFrom b l = true) :
    risingFrom b (l.filter p) = true := by
  induction l generalizing b with
  | nil => rfl
  | cons q t ih =>
    simp only [risingFrom, Bool.and_eq_true, decide_eq_true_eq] at h
    by_cases hp : p q = true
    · simp only [List.filter_cons_of_pos hp, risingFrom, Bool.and_eq_true, decide_eq_true_eq]
      exact ⟨h.1, ih _ h.2⟩
    · simp only [List.filter_cons_of_neg hp]
      exact risingFrom_mono _ _ _ (ih _ h.2) (by omega)

/-- A filter keeps the keys rising. -/
theorem rising_filter (p : Nat × α → Bool) (l : List (Nat × α)) (h : rising l = true) : rising (l.filter p) = true := by
  cases l with
  | nil => rfl
  | cons q t =>
    by_cases hp : p q = true
    · simp only [List.filter_cons_of_pos hp, rising]; exact risingFrom_filter p t _ h
    · simp only [List.filter_cons_of_neg hp]; exact rising_of_risingFrom _ _ (risingFrom_filter p t _ h)

/-- A removal is a filter. -/
theorem eraseKey_eq_filter (l : List (Nat × α)) (a : Nat) : eraseKey l a = l.filter (fun p => p.1 ≠ a) := by
  induction l with
  | nil => rfl
  | cons p t ih =>
    obtain ⟨k, v⟩ := p
    by_cases hk : k = a <;> simp [eraseKey, hk, ih]

/-- A removal keeps the keys rising. -/
theorem rising_eraseKey (l : List (Nat × α)) (a : Nat) (h : rising l = true) : rising (eraseKey l a) = true := by
  rw [eraseKey_eq_filter]; exact rising_filter _ _ h

/-- An insertion keeps the keys rising. -/
theorem rising_insertKey (l : List (Nat × α)) (a : Nat) (x : α) (h : rising l = true) : rising (insertKey l a x) = true := by
  cases l with
  | nil => rfl
  | cons p t =>
    obtain ⟨k, v⟩ := p
    simp only [insertKey]
    split
    · rename_i hlt; simp only [rising, risingFrom, hlt, decide_true, Bool.true_and]; exact h
    · split
      · rename_i _ heq; subst heq; exact h
      · exact risingFrom_insertKey t k a x h (by omega)

/-- A write keeps the keys rising. -/
theorem rising_sput [DecidableEq α] (l : List (Nat × α)) (a : Nat) (x d : α) (h : rising l = true) :
    rising (sput l a x d) = true := by
  unfold sput
  split
  · exact rising_eraseKey l a h
  · exact rising_insertKey l a x h

/-- A read after a write: the value written at its key, the old value elsewhere. -/
theorem sget_sput [DecidableEq α] (l : List (Nat × α)) (a b : Nat) (x d : α) :
    sget (sput l a x d) b d = if b = a then x else sget l b d := by
  unfold sget sput
  split
  · rename_i hx
    rw [lookup_eraseKey]
    by_cases hb : b = a <;> simp [hb, hx]
  · rw [lookup_insertKey]
    by_cases hb : b = a <;> simp [hb]

/-- A write leaves every other key alone, whatever the key reads as where it is unlisted. -/
theorem sget_sput_ne [DecidableEq α] (l : List (Nat × α)) (a b : Nat) (x d e : α) (hb : b ≠ a) :
    sget (sput l a x d) b e = sget l b e := by
  unfold sget sput
  split
  · rw [lookup_eraseKey]; simp [hb]
  · rw [lookup_insertKey]; simp [hb]

/-- What an insertion lists is the new pair or was listed before. -/
theorem mem_insertKey (l : List (Nat × α)) (a : Nat) (x : α) (p : Nat × α) (hp : p ∈ insertKey l a x) :
    p = (a, x) ∨ p ∈ l := by
  induction l with
  | nil => simpa [insertKey] using hp
  | cons q t ih =>
    obtain ⟨k, v⟩ := q
    simp only [insertKey] at hp
    split at hp
    · rcases List.mem_cons.mp hp with h | h
      · exact .inl h
      · exact .inr h
    · split at hp
      · rcases List.mem_cons.mp hp with h | h
        · exact .inl h
        · exact .inr (List.mem_cons_of_mem _ h)
      · rcases List.mem_cons.mp hp with h | h
        · exact .inr (h ▸ List.mem_cons_self)
        · rcases ih h with h | h
          · exact .inl h
          · exact .inr (List.mem_cons_of_mem _ h)

/-- A write lists nothing but its own pair, which is not the default, and what was listed before. -/
theorem mem_sput [DecidableEq α] (l : List (Nat × α)) (a : Nat) (x d : α) (p : Nat × α) (hp : p ∈ sput l a x d) :
    (p = (a, x) ∧ x ≠ d) ∨ p ∈ l := by
  unfold sput at hp
  split at hp
  · rw [eraseKey_eq_filter] at hp; exact .inr (List.mem_filter.mp hp).1
  · rename_i hx
    rcases mem_insertKey l a x p hp with h | h
    · exact .inl ⟨h, hx⟩
    · exact .inr h

/-- A table above a bound: every key is above it, and the keys rise pairwise. -/
theorem risingFrom_iff (l : List (Nat × α)) (b : Nat) :
    risingFrom b l = true ↔ (∀ p ∈ l, b < p.1) ∧ l.Pairwise (fun p q => p.1 < q.1) := by
  induction l generalizing b with
  | nil => simp [risingFrom]
  | cons p t ih =>
    obtain ⟨k, v⟩ := p
    simp only [risingFrom, Bool.and_eq_true, decide_eq_true_eq, ih, List.forall_mem_cons, List.pairwise_cons]
    constructor
    · rintro ⟨h1, h2, h3⟩; exact ⟨⟨h1, fun q hq => Nat.lt_trans h1 (h2 q hq)⟩, h2, h3⟩
    · rintro ⟨⟨h1, _⟩, h2, h3⟩; exact ⟨h1, h2, h3⟩

/-- The keys of a table rise when they rise pairwise. -/
theorem rising_iff (l : List (Nat × α)) : rising l = true ↔ l.Pairwise (fun p q => p.1 < q.1) := by
  cases l with
  | nil => simp [rising]
  | cons p t => obtain ⟨k, v⟩ := p; simp only [rising, risingFrom_iff, List.pairwise_cons]

/-- A filter that keeps every pair of a key leaves what the key reads alone. -/
theorem lookup_filter_key (l : List (Nat × α)) (q : Nat × α → Bool) (b : Nat) (h : ∀ x, q (b, x) = true) :
    lookup (l.filter q) b = lookup l b := by
  induction l with
  | nil => rfl
  | cons p t ih => obtain ⟨k, v⟩ := p; grind [List.filter, lookup]

end Sys2Proof.Machine
end

