-- ==== Sys2Proof/Laws/State.lean ====
section
/-! SUPPORT. The small laws of the state: what each update leaves alone, one lemma for each update and field; what a register field, a
numbered store and a byte read after a write; and that the memory operations keep the canonical form. -/

namespace Sys2Proof.Machine

/-! ### Register fields -/

/-- Instances of one field have keys of their own. -/
theorem Field.key_inj (f : Field) (i j : Nat) : f.key i = f.key j ↔ i = j := by
  unfold Field.key; omega

@[simp] theorem State.get_set_self (s : State) (f : Field) (i v : Nat) : (s.set f i v).get f i = v % 2 ^ f.width := by
  simp [State.get, State.set, sget_sput]

theorem State.get_set_ne (s : State) (f g : Field) (i j v : Nat) (h : g.key j ≠ f.key i) : (s.set f i v).get g j = s.get g j := by
  simp only [State.get, State.set]; exact sget_sput_ne _ _ _ _ _ _ h

theorem State.get_set_index (s : State) (f : Field) (i j v : Nat) (h : j ≠ i) : (s.set f i v).get f j = s.get f j :=
  s.get_set_ne f f i j v (fun e => h ((f.key_inj j i).mp e))

/-- Fields of different numbers never share a key. -/
theorem State.get_set_field (s : State) (f g : Field) (i j v : Nat) (h : g.id % 65536 ≠ f.id % 65536) :
    (s.set f i v).get g j = s.get g j := by
  apply s.get_set_ne; intro e; unfold Field.key at e; omega

theorem Field.bank_of_key (f g : Field) (i j : Nat) (h : f.key i = g.key j) : f.bank = g.bank := by
  unfold Field.key at h
  have : f.id % 65536 = g.id % 65536 := by omega
  simp [Field.bank, this]

/-- A write to one register group leaves every other group alone. -/
theorem State.get_set_bank (s : State) (f g : Field) (i j v : Nat) (h : g.bank ≠ f.bank) : (s.set f i v).get g j = s.get g j :=
  s.get_set_ne f g i j v (fun e => h (Field.bank_of_key _ _ _ _ e))

theorem State.get_raise_self (s : State) (f : Field) (i : Nat) (h : 0 < f.width) : (s.raise f i).get f i = 1 := by
  have : (s.raise f i).get f i = (s.set f i 1).get f i := rfl
  rw [this, State.get_set_self]; exact Nat.mod_eq_of_lt (Nat.one_lt_two_pow (by omega))

theorem State.get_raise_ne (s : State) (f g : Field) (i j : Nat) (h : g.key j ≠ f.key i) : (s.raise f i).get g j = s.get g j :=
  s.get_set_ne f g i j 1 h

theorem State.get_bump_self (s : State) (f : Field) (i k : Nat) : (s.bump f i k).get f i = min (s.get f i + k) (2 ^ f.width - 1) := by
  have : (s.bump f i k).get f i = (s.set f i (min (s.get f i + k) (2 ^ f.width - 1))).get f i := rfl
  rw [this, State.get_set_self]; exact Nat.mod_eq_of_lt (by have := Nat.one_le_two_pow (n := f.width); omega)

theorem State.get_bump_ne (s : State) (f g : Field) (i j k : Nat) (h : g.key j ≠ f.key i) : (s.bump f i k).get g j = s.get g j :=
  s.get_set_ne f g i j _ h

/-- A clear leaves the bits that are set in the same cycle (00 R13). -/
theorem State.get_lower_self (s : State) (f : Field) (i : Nat) :
    (s.lower f i).get f i = (s.get f i &&& s.cycle.held f i) % 2 ^ f.width := by
  rw [State.lower, State.get_set_self]

/-- A clear of a field that nothing has set in this cycle leaves 0. -/
theorem State.get_lower_of_held (s : State) (f : Field) (i : Nat) (h : s.cycle.held f i = 0) : (s.lower f i).get f i = 0 := by
  rw [State.get_lower_self, h]; simp

theorem State.get_lower_ne (s : State) (f g : Field) (i j : Nat) (h : g.key j ≠ f.key i) : (s.lower f i).get g j = s.get g j :=
  s.get_set_ne f g i j _ h

/-- A field that R13 does not join is always cleared. -/
@[simp] theorem CycleSt.held_of_not_joins (y : CycleSt) (f : Field) (i : Nat) (h : f.joins = false) : y.held f i = 0 := by
  simp [CycleSt.held, h]

/-! ### Numbered stores -/

@[simp] theorem State.cell_setCell_self (s : State) (n : Nat) (x : Cell) : (s.setCell n x).cell n = x := by
  simp [State.cell, State.setCell, sget_sput]

theorem State.cell_setCell_ne (s : State) (n m : Nat) (x : Cell) (h : m ≠ n) : (s.setCell n x).cell m = s.cell m := by
  simp only [State.cell, State.setCell]; exact sget_sput_ne _ _ _ _ _ _ h

@[simp] theorem State.tile_setTile_self (s : State) (n : Nat) (x : TileSt) : (s.setTile n x).tile n = x := by
  simp [State.tile, State.setTile, sget_sput]

theorem State.tile_setTile_ne (s : State) (n m : Nat) (x : TileSt) (h : m ≠ n) : (s.setTile n x).tile m = s.tile m := by
  simp only [State.tile, State.setTile]; exact sget_sput_ne _ _ _ _ _ _ h

@[simp] theorem State.lane_setLane_self (s : State) (n : Nat) (x : LaneSt) : (s.setLane n x).lane n = x := by
  simp [State.lane, State.setLane, sget_sput]

theorem State.lane_setLane_ne (s : State) (n m : Nat) (x : LaneSt) (h : m ≠ n) : (s.setLane n x).lane m = s.lane m := by
  simp only [State.lane, State.setLane]; exact sget_sput_ne _ _ _ _ _ _ h

@[simp] theorem State.core_setCore_self (s : State) (n : Nat) (x : CoreSt) : (s.setCore n x).core n = x := by
  simp [State.core, State.setCore, sget_sput]

theorem State.core_setCore_ne (s : State) (n m : Nat) (x : CoreSt) (h : m ≠ n) : (s.setCore n x).core m = s.core m := by
  simp only [State.core, State.setCore]; exact sget_sput_ne _ _ _ _ _ _ h

@[simp] theorem State.xport_setXport_self (s : State) (n : Nat) (x : XportSt) : (s.setXport n x).xport n = x := by
  simp [State.xport, State.setXport, sget_sput]

theorem State.xport_setXport_ne (s : State) (n m : Nat) (x : XportSt) (h : m ≠ n) : (s.setXport n x).xport m = s.xport m := by
  simp only [State.xport, State.setXport]; exact sget_sput_ne _ _ _ _ _ _ h

/-! ### Memory -/

@[simp] theorem State.byte_setByte_self (s : State) (a : Nat) (b : Byte) : (s.setByte a b).byte a = b := by
  simp [State.byte, State.setByte, sget_sput]

theorem State.byte_setByte_ne (s : State) (a c : Nat) (b : Byte) (h : c ≠ a) : (s.setByte a b).byte c = s.byte c := by
  simp only [State.byte, State.setByte]; exact sget_sput_ne _ _ _ _ _ _ h

/-- A run of bytes leaves every byte outside it alone. -/
theorem State.byte_setBytes_outside (s : State) (a c : Nat) (l : List Byte) (h : ¬ (a ≤ c ∧ c < a + l.length)) :
    (s.setBytes a l).byte c = s.byte c := by
  induction l generalizing s a with
  | nil => rfl
  | cons b t ih =>
    simp only [List.length_cons] at h
    rw [State.setBytes, ih _ _ (by omega), State.byte_setByte_ne _ _ _ _ (by omega)]

/-- A byte inside a run is the one the run puts there. -/
theorem State.byte_setBytes_inside (s : State) (a k : Nat) (l : List Byte) (h : k < l.length) :
    (s.setBytes a l).byte (a + k) = l[k] := by
  induction l generalizing s a k with
  | nil => simp at h
  | cons b t ih =>
    rw [State.setBytes]
    cases k with
    | zero => rw [State.byte_setBytes_outside _ _ _ _ (by omega)]; simp
    | succ k =>
      have := ih (s.setByte a b) (a + 1) k (by simpa using h)
      rw [show a + (k + 1) = a + 1 + k by omega, this]; rfl

theorem leBytes_length (n v : Nat) : (leBytes n v).length = n := by
  induction n generalizing v with
  | zero => rfl
  | succ n ih => simp [leBytes, ih]

theorem State.byte_setNum_outside (s : State) (a n v c : Nat) (h : ¬ (a ≤ c ∧ c < a + n)) : (s.setNum a n v).byte c = s.byte c := by
  apply State.byte_setBytes_outside; simpa [leBytes_length] using h

theorem Memory.wf_iff (m : List Host.Cell) : Memory.wf m = true ↔ rising m = true ∧ ∀ p ∈ m, p.2 ≠ memDefault p.1 := by
  simp [Memory.wf, List.all_eq_true]

/-- A write of one byte keeps the canonical form. -/
theorem Memory.wf_sput (m : List Host.Cell) (a : Nat) (b : Byte) (h : Memory.wf m = true) :
    Memory.wf (sput m a b (memDefault a)) = true := by
  rw [Memory.wf_iff] at h ⊢
  refine ⟨rising_sput _ _ _ _ h.1, fun p hp => ?_⟩
  rcases mem_sput _ _ _ _ _ hp with ⟨rfl, hx⟩ | hp
  · exact hx
  · exact h.2 p hp

/-- Dropping bytes keeps the canonical form. -/
theorem Memory.wf_filter (m : List Host.Cell) (q : Host.Cell → Bool) (h : Memory.wf m = true) : Memory.wf (m.filter q) = true := by
  rw [Memory.wf_iff] at h ⊢
  exact ⟨rising_filter _ _ h.1, fun p hp => h.2 p (List.mem_filter.mp hp).1⟩

/-- The exchange of the flash halves keeps the canonical form. -/
theorem Memory.wf_swapFlash (m : List Host.Cell) (h : Memory.wf m = true) : Memory.wf (swapFlash m) = true := by
  rw [Memory.wf_iff, rising_iff] at h ⊢
  obtain ⟨hr, hd⟩ := h
  unfold swapFlash
  dsimp only
  constructor
  · simp only [List.pairwise_append, List.pairwise_map]
    refine ⟨⟨⟨hr.filter _, ?_, ?_⟩, ?_, ?_⟩, hr.filter _, ?_⟩
    · refine (hr.filter _).imp_of_mem (fun {p q} hp hq h => ?_)
      simp only [List.mem_filter, Bool.and_eq_true, decide_eq_true_eq] at hp hq
      omega
    · intro p hp q hq
      simp only [List.mem_map, List.mem_filter, Bool.and_eq_true, decide_eq_true_eq] at hp hq
      obtain ⟨q, hq, rfl⟩ := hq; dsimp only; omega
    · refine (hr.filter _).imp_of_mem (fun {p q} hp hq h => ?_)
      omega
    · intro p hp q hq
      simp only [List.mem_append, List.mem_map, List.mem_filter, Bool.and_eq_true, decide_eq_true_eq] at hp hq
      obtain ⟨q, hq, rfl⟩ := hq
      rcases hp with hp | ⟨p, hp, rfl⟩ <;> (try dsimp only) <;> omega
    · intro p hp q hq
      simp only [List.mem_append, List.mem_map, List.mem_filter, Bool.and_eq_true, decide_eq_true_eq] at hp hq
      rcases hp with (hp | ⟨p, hp, rfl⟩) | ⟨p, hp, rfl⟩ <;> (try dsimp only) <;> omega
  · intro p hp
    simp only [List.mem_append, List.mem_map, List.mem_filter, Bool.and_eq_true, decide_eq_true_eq] at hp
    rcases hp with ((hp | ⟨q, hq, rfl⟩) | ⟨q, hq, rfl⟩) | hp
    · exact hd p hp.1
    · have := hd q hq.1
      rw [memDefault, if_pos (by omega)] at this ⊢
      exact this
    · have := hd q hq.1
      rw [memDefault, if_pos (by omega)] at this ⊢
      exact this
    · exact hd p hp.1
theorem State.wf_setByte (s : State) (a : Nat) (b : Byte) (h : Memory.wf s.mem = true) : Memory.wf (s.setByte a b).mem = true :=
  Memory.wf_sput _ _ _ h

theorem State.wf_setBytes (s : State) (a : Nat) (l : List Byte) (h : Memory.wf s.mem = true) : Memory.wf (s.setBytes a l).mem = true := by
  induction l generalizing s a with
  | nil => exact h
  | cons b t ih => exact ih _ _ (s.wf_setByte a b h)

theorem State.wf_setNum (s : State) (a n v : Nat) (h : Memory.wf s.mem = true) : Memory.wf (s.setNum a n v).mem = true :=
  s.wf_setBytes _ _ h

theorem State.wf_setWord (s : State) (a : Nat) (w : Word) (h : Memory.wf s.mem = true) : Memory.wf (s.setWord a w).mem = true :=
  s.wf_setNum _ _ _ h

theorem State.wf_setMasked (s : State) (a : Nat) (w : Word) (m : Byte) (h : Memory.wf s.mem = true) :
    Memory.wf (s.setMasked a w m).mem = true :=
  s.wf_setWord _ _ h

theorem State.wf_zeroRange (s : State) (a b : Nat) (h : Memory.wf s.mem = true) : Memory.wf (s.zeroRange a b).mem = true :=
  Memory.wf_filter _ _ h

/-- A write through a port of an LSRAM keeps the canonical form. -/
theorem State.wf_portWrite (s : State) (own : Bool) (a : Nat) (l : List Byte) (h : Memory.wf s.mem = true) :
    Memory.wf (s.portWrite own a l).mem = true := by
  induction l generalizing s a with
  | nil => exact h
  | cons b t ih =>
    rw [State.portWrite]
    apply ih
    split <;> split <;> first | exact h | exact Memory.wf_sput _ _ _ h

/-- A write through a port touches no byte outside it. -/
theorem State.byte_portWrite_outside (s : State) (own : Bool) (a c : Nat) (l : List Byte) (h : ¬ (a ≤ c ∧ c < a + l.length)) :
    (s.portWrite own a l).byte c = s.byte c := by
  induction l generalizing s a with
  | nil => rfl
  | cons b t ih =>
    simp only [List.length_cons] at h
    rw [State.portWrite, ih _ _ (by omega)]
    split <;> split <;> first | rfl | exact State.byte_setByte_ne _ _ _ _ (by omega)

theorem State.wf_flashBytes (s : State) (src dst n : Nat) (h : Memory.wf s.mem = true) : Memory.wf (s.flashBytes src dst n).mem = true := by
  induction n generalizing s src dst with
  | zero => exact h
  | succ n ih => exact ih _ _ _ (State.wf_setByte _ _ _ h)

/-- A guarded write keeps the canonical form. -/
theorem State.wf_extWrite (s : State) (a : Nat) (l : List Byte) (h : Memory.wf s.mem = true) : Memory.wf (s.extWrite a l).mem = true := by
  unfold State.extWrite
  split <;> exact State.wf_setBytes _ _ _ h

/-- The writes that waited at a stack keep the canonical form. -/
theorem State.wf_freeStack (s : State) (t : Nat) (h : Memory.wf s.mem = true) : Memory.wf (s.freeStack t).mem = true := by
  suffices ∀ (l : List (Nat × List Byte)) (u : State), Memory.wf u.mem = true → Memory.wf (l.foldl (fun s p => s.extWrite p.1 p.2) u).mem = true from this _ _ h
  intro l
  induction l with
  | nil => exact fun _ hu => hu
  | cons p t ih => exact fun u hu => ih _ (u.wf_extWrite p.1 p.2 hu)

/-- A write of HBM keeps the canonical form. -/
theorem State.wf_hbmWrite (s : State) (a : Nat) (l : List Byte) (h : Memory.wf s.mem = true) : Memory.wf (s.hbmWrite a l).mem = true := by
  unfold State.hbmWrite
  split
  · exact State.wf_setBytes _ _ _ h
  split
  · exact h
  split
  · exact State.wf_extWrite _ _ _ (State.wf_freeStack _ _ h)
  split
  · exact h
  · exact State.wf_extWrite _ _ _ h

/-- A write of Normal memory keeps the canonical form. -/
theorem State.wf_memWrite (s : State) (ag : Agent) (a : Nat) (l : List Byte) (h : Memory.wf s.mem = true) :
    Memory.wf (s.memWrite ag a l).mem = true := by
  unfold State.memWrite
  split
  · exact State.wf_hbmWrite _ _ _ h
  · exact State.wf_portWrite _ _ _ _ h

theorem State.wf_reset : Memory.wf State.reset.mem = true := rfl

/-! ### Runs of an instruction -/

@[simp] theorem Run.andThen_ok {α β : Type} (s : State) (a : α) (f : State → α → Run β) : Run.andThen (s, .ok a) f = f s a := rfl

@[simp] theorem Run.andThen_error {α β : Type} (s : State) (e : Stop) (f : State → α → Run β) : Run.andThen (s, .error e) f = (s, .error e) := rfl

/-- A run that goes on came to a value first. -/
theorem Run.andThen_eq_ok {α β : Type} (r : Run α) (f : State → α → Run β) (t : State) (b : β) :
    r.andThen f = (t, .ok b) ↔ ∃ s a, r = (s, .ok a) ∧ f s a = (t, .ok b) := by
  obtain ⟨s, e | a⟩ := r
  · simp [Run.andThen]
  · constructor
    · exact fun h => ⟨s, a, rfl, h⟩
    · rintro ⟨_, _, h, h'⟩; cases h; exact h'

/-! ### What each update leaves alone -/

@[simp] theorem State.set_pending (s : State) (f : Field) (i v : Nat) : (s.set f i v).pending = s.pending := rfl
@[simp] theorem State.set_mode (s : State) (f : Field) (i v : Nat) : (s.set f i v).mode = s.mode := rfl
@[simp] theorem State.set_tb (s : State) (f : Field) (i v : Nat) : (s.set f i v).tb = s.tb := rfl
@[simp] theorem State.set_tbFrac (s : State) (f : Field) (i v : Nat) : (s.set f i v).tbFrac = s.tbFrac := rfl
@[simp] theorem State.set_clockStopped (s : State) (f : Field) (i v : Nat) : (s.set f i v).clockStopped = s.clockStopped := rfl
@[simp] theorem State.set_clockLost (s : State) (f : Field) (i v : Nat) : (s.set f i v).clockLost = s.clockLost := rfl
@[simp] theorem State.set_cycle (s : State) (f : Field) (i v : Nat) : (s.set f i v).cycle = s.cycle := rfl
@[simp] theorem State.set_mem (s : State) (f : Field) (i v : Nat) : (s.set f i v).mem = s.mem := rfl
@[simp] theorem State.set_cells (s : State) (f : Field) (i v : Nat) : (s.set f i v).cells = s.cells := rfl
@[simp] theorem State.set_tiles (s : State) (f : Field) (i v : Nat) : (s.set f i v).tiles = s.tiles := rfl
@[simp] theorem State.set_lanes (s : State) (f : Field) (i v : Nat) : (s.set f i v).lanes = s.lanes := rfl
@[simp] theorem State.set_liveRemap (s : State) (f : Field) (i v : Nat) : (s.set f i v).liveRemap = s.liveRemap := rfl
@[simp] theorem State.set_liveLanes (s : State) (f : Field) (i v : Nat) : (s.set f i v).liveLanes = s.liveLanes := rfl
@[simp] theorem State.set_lecFresh (s : State) (f : Field) (i v : Nat) : (s.set f i v).lecFresh = s.lecFresh := rfl
@[simp] theorem State.set_events (s : State) (f : Field) (i v : Nat) : (s.set f i v).events = s.events := rfl
@[simp] theorem State.set_warned (s : State) (f : Field) (i v : Nat) : (s.set f i v).warned = s.warned := rfl
@[simp] theorem State.set_dom (s : State) (f : Field) (i v : Nat) : (s.set f i v).dom = s.dom := rfl
@[simp] theorem State.set_rdy (s : State) (f : Field) (i v : Nat) : (s.set f i v).rdy = s.rdy := rfl
@[simp] theorem State.set_stroke (s : State) (f : Field) (i v : Nat) : (s.set f i v).stroke = s.stroke := rfl
@[simp] theorem State.set_beacon (s : State) (f : Field) (i v : Nat) : (s.set f i v).beacon = s.beacon := rfl
@[simp] theorem State.set_ckp (s : State) (f : Field) (i v : Nat) : (s.set f i v).ckp = s.ckp := rfl
@[simp] theorem State.set_img (s : State) (f : Field) (i v : Nat) : (s.set f i v).img = s.img := rfl
@[simp] theorem State.set_sends (s : State) (f : Field) (i v : Nat) : (s.set f i v).sends = s.sends := rfl
@[simp] theorem State.set_flits (s : State) (f : Field) (i v : Nat) : (s.set f i v).flits = s.flits := rfl
@[simp] theorem State.set_pads (s : State) (f : Field) (i v : Nat) : (s.set f i v).pads = s.pads := rfl
@[simp] theorem State.set_uflits (s : State) (f : Field) (i v : Nat) : (s.set f i v).uflits = s.uflits := rfl
@[simp] theorem State.set_uUsed (s : State) (f : Field) (i v : Nat) : (s.set f i v).uUsed = s.uUsed := rfl
@[simp] theorem State.set_trigs (s : State) (f : Field) (i v : Nat) : (s.set f i v).trigs = s.trigs := rfl
@[simp] theorem State.set_landings (s : State) (f : Field) (i v : Nat) : (s.set f i v).landings = s.landings := rfl
@[simp] theorem State.set_hostVals (s : State) (f : Field) (i v : Nat) : (s.set f i v).hostVals = s.hostVals := rfl
@[simp] theorem State.set_chans (s : State) (f : Field) (i v : Nat) : (s.set f i v).chans = s.chans := rfl
@[simp] theorem State.set_lastCh (s : State) (f : Field) (i v : Nat) : (s.set f i v).lastCh = s.lastCh := rfl
@[simp] theorem State.set_msixTab (s : State) (f : Field) (i v : Nat) : (s.set f i v).msixTab = s.msixTab := rfl
@[simp] theorem State.set_msixPba (s : State) (f : Field) (i v : Nat) : (s.set f i v).msixPba = s.msixPba := rfl
@[simp] theorem State.set_fltRecs (s : State) (f : Field) (i v : Nat) : (s.set f i v).fltRecs = s.fltRecs := rfl
@[simp] theorem State.set_fltNext (s : State) (f : Field) (i v : Nat) : (s.set f i v).fltNext = s.fltNext := rfl
@[simp] theorem State.set_fltAny (s : State) (f : Field) (i v : Nat) : (s.set f i v).fltAny = s.fltAny := rfl
@[simp] theorem State.set_fltHw (s : State) (f : Field) (i v : Nat) : (s.set f i v).fltHw = s.fltHw := rfl
@[simp] theorem State.set_emcy (s : State) (f : Field) (i v : Nat) : (s.set f i v).emcy = s.emcy := rfl
@[simp] theorem State.set_ents (s : State) (f : Field) (i v : Nat) : (s.set f i v).ents = s.ents := rfl
@[simp] theorem State.set_owner (s : State) (f : Field) (i v : Nat) : (s.set f i v).owner = s.owner := rfl
@[simp] theorem State.set_claimAt (s : State) (f : Field) (i v : Nat) : (s.set f i v).claimAt = s.claimAt := rfl
@[simp] theorem State.set_refReason (s : State) (f : Field) (i v : Nat) : (s.set f i v).refReason = s.refReason := rfl
@[simp] theorem State.set_refCount (s : State) (f : Field) (i v : Nat) : (s.set f i v).refCount = s.refCount := rfl
@[simp] theorem State.set_backup (s : State) (f : Field) (i v : Nat) : (s.set f i v).backup = s.backup := rfl
@[simp] theorem State.set_boot (s : State) (f : Field) (i v : Nat) : (s.set f i v).boot = s.boot := rfl
@[simp] theorem State.set_xports (s : State) (f : Field) (i v : Nat) : (s.set f i v).xports = s.xports := rfl
@[simp] theorem State.set_persist (s : State) (f : Field) (i v : Nat) : (s.set f i v).persist = s.persist := rfl
@[simp] theorem State.set_claim (s : State) (f : Field) (i v : Nat) : (s.set f i v).claim = s.claim := rfl
@[simp] theorem State.set_ldicts (s : State) (f : Field) (i v : Nat) : (s.set f i v).ldicts = s.ldicts := rfl
@[simp] theorem State.set_tap (s : State) (f : Field) (i v : Nat) : (s.set f i v).tap = s.tap := rfl
@[simp] theorem State.set_trace (s : State) (f : Field) (i v : Nat) : (s.set f i v).trace = s.trace := rfl
@[simp] theorem State.set_pins (s : State) (f : Field) (i v : Nat) : (s.set f i v).pins = s.pins := rfl
@[simp] theorem State.set_flash (s : State) (f : Field) (i v : Nat) : (s.set f i v).flash = s.flash := rfl
@[simp] theorem State.set_pci (s : State) (f : Field) (i v : Nat) : (s.set f i v).pci = s.pci := rfl
@[simp] theorem State.set_cores (s : State) (f : Field) (i v : Nat) : (s.set f i v).cores = s.cores := rfl
@[simp] theorem State.set_out (s : State) (f : Field) (i v : Nat) : (s.set f i v).out = s.out := rfl
@[simp] theorem State.set_free (s : State) (f : Field) (i v : Nat) : (s.set f i v).free = s.free := rfl

@[simp] theorem State.raise_pending (s : State) (f : Field) (i : Nat) : (s.raise f i).pending = s.pending := rfl
@[simp] theorem State.raise_mode (s : State) (f : Field) (i : Nat) : (s.raise f i).mode = s.mode := rfl
@[simp] theorem State.raise_tb (s : State) (f : Field) (i : Nat) : (s.raise f i).tb = s.tb := rfl
@[simp] theorem State.raise_tbFrac (s : State) (f : Field) (i : Nat) : (s.raise f i).tbFrac = s.tbFrac := rfl
@[simp] theorem State.raise_clockStopped (s : State) (f : Field) (i : Nat) : (s.raise f i).clockStopped = s.clockStopped := rfl
@[simp] theorem State.raise_clockLost (s : State) (f : Field) (i : Nat) : (s.raise f i).clockLost = s.clockLost := rfl
@[simp] theorem State.raise_mem (s : State) (f : Field) (i : Nat) : (s.raise f i).mem = s.mem := rfl
@[simp] theorem State.raise_cells (s : State) (f : Field) (i : Nat) : (s.raise f i).cells = s.cells := rfl
@[simp] theorem State.raise_tiles (s : State) (f : Field) (i : Nat) : (s.raise f i).tiles = s.tiles := rfl
@[simp] theorem State.raise_lanes (s : State) (f : Field) (i : Nat) : (s.raise f i).lanes = s.lanes := rfl
@[simp] theorem State.raise_liveRemap (s : State) (f : Field) (i : Nat) : (s.raise f i).liveRemap = s.liveRemap := rfl
@[simp] theorem State.raise_liveLanes (s : State) (f : Field) (i : Nat) : (s.raise f i).liveLanes = s.liveLanes := rfl
@[simp] theorem State.raise_lecFresh (s : State) (f : Field) (i : Nat) : (s.raise f i).lecFresh = s.lecFresh := rfl
@[simp] theorem State.raise_events (s : State) (f : Field) (i : Nat) : (s.raise f i).events = s.events := rfl
@[simp] theorem State.raise_warned (s : State) (f : Field) (i : Nat) : (s.raise f i).warned = s.warned := rfl
@[simp] theorem State.raise_dom (s : State) (f : Field) (i : Nat) : (s.raise f i).dom = s.dom := rfl
@[simp] theorem State.raise_rdy (s : State) (f : Field) (i : Nat) : (s.raise f i).rdy = s.rdy := rfl
@[simp] theorem State.raise_stroke (s : State) (f : Field) (i : Nat) : (s.raise f i).stroke = s.stroke := rfl
@[simp] theorem State.raise_beacon (s : State) (f : Field) (i : Nat) : (s.raise f i).beacon = s.beacon := rfl
@[simp] theorem State.raise_ckp (s : State) (f : Field) (i : Nat) : (s.raise f i).ckp = s.ckp := rfl
@[simp] theorem State.raise_img (s : State) (f : Field) (i : Nat) : (s.raise f i).img = s.img := rfl
@[simp] theorem State.raise_sends (s : State) (f : Field) (i : Nat) : (s.raise f i).sends = s.sends := rfl
@[simp] theorem State.raise_flits (s : State) (f : Field) (i : Nat) : (s.raise f i).flits = s.flits := rfl
@[simp] theorem State.raise_pads (s : State) (f : Field) (i : Nat) : (s.raise f i).pads = s.pads := rfl
@[simp] theorem State.raise_uflits (s : State) (f : Field) (i : Nat) : (s.raise f i).uflits = s.uflits := rfl
@[simp] theorem State.raise_uUsed (s : State) (f : Field) (i : Nat) : (s.raise f i).uUsed = s.uUsed := rfl
@[simp] theorem State.raise_trigs (s : State) (f : Field) (i : Nat) : (s.raise f i).trigs = s.trigs := rfl
@[simp] theorem State.raise_landings (s : State) (f : Field) (i : Nat) : (s.raise f i).landings = s.landings := rfl
@[simp] theorem State.raise_hostVals (s : State) (f : Field) (i : Nat) : (s.raise f i).hostVals = s.hostVals := rfl
@[simp] theorem State.raise_chans (s : State) (f : Field) (i : Nat) : (s.raise f i).chans = s.chans := rfl
@[simp] theorem State.raise_lastCh (s : State) (f : Field) (i : Nat) : (s.raise f i).lastCh = s.lastCh := rfl
@[simp] theorem State.raise_msixTab (s : State) (f : Field) (i : Nat) : (s.raise f i).msixTab = s.msixTab := rfl
@[simp] theorem State.raise_msixPba (s : State) (f : Field) (i : Nat) : (s.raise f i).msixPba = s.msixPba := rfl
@[simp] theorem State.raise_fltRecs (s : State) (f : Field) (i : Nat) : (s.raise f i).fltRecs = s.fltRecs := rfl
@[simp] theorem State.raise_fltNext (s : State) (f : Field) (i : Nat) : (s.raise f i).fltNext = s.fltNext := rfl
@[simp] theorem State.raise_fltAny (s : State) (f : Field) (i : Nat) : (s.raise f i).fltAny = s.fltAny := rfl
@[simp] theorem State.raise_fltHw (s : State) (f : Field) (i : Nat) : (s.raise f i).fltHw = s.fltHw := rfl
@[simp] theorem State.raise_emcy (s : State) (f : Field) (i : Nat) : (s.raise f i).emcy = s.emcy := rfl
@[simp] theorem State.raise_ents (s : State) (f : Field) (i : Nat) : (s.raise f i).ents = s.ents := rfl
@[simp] theorem State.raise_owner (s : State) (f : Field) (i : Nat) : (s.raise f i).owner = s.owner := rfl
@[simp] theorem State.raise_claimAt (s : State) (f : Field) (i : Nat) : (s.raise f i).claimAt = s.claimAt := rfl
@[simp] theorem State.raise_refReason (s : State) (f : Field) (i : Nat) : (s.raise f i).refReason = s.refReason := rfl
@[simp] theorem State.raise_refCount (s : State) (f : Field) (i : Nat) : (s.raise f i).refCount = s.refCount := rfl
@[simp] theorem State.raise_backup (s : State) (f : Field) (i : Nat) : (s.raise f i).backup = s.backup := rfl
@[simp] theorem State.raise_boot (s : State) (f : Field) (i : Nat) : (s.raise f i).boot = s.boot := rfl
@[simp] theorem State.raise_xports (s : State) (f : Field) (i : Nat) : (s.raise f i).xports = s.xports := rfl
@[simp] theorem State.raise_persist (s : State) (f : Field) (i : Nat) : (s.raise f i).persist = s.persist := rfl
@[simp] theorem State.raise_claim (s : State) (f : Field) (i : Nat) : (s.raise f i).claim = s.claim := rfl
@[simp] theorem State.raise_ldicts (s : State) (f : Field) (i : Nat) : (s.raise f i).ldicts = s.ldicts := rfl
@[simp] theorem State.raise_tap (s : State) (f : Field) (i : Nat) : (s.raise f i).tap = s.tap := rfl
@[simp] theorem State.raise_trace (s : State) (f : Field) (i : Nat) : (s.raise f i).trace = s.trace := rfl
@[simp] theorem State.raise_pins (s : State) (f : Field) (i : Nat) : (s.raise f i).pins = s.pins := rfl
@[simp] theorem State.raise_flash (s : State) (f : Field) (i : Nat) : (s.raise f i).flash = s.flash := rfl
@[simp] theorem State.raise_pci (s : State) (f : Field) (i : Nat) : (s.raise f i).pci = s.pci := rfl
@[simp] theorem State.raise_cores (s : State) (f : Field) (i : Nat) : (s.raise f i).cores = s.cores := rfl
@[simp] theorem State.raise_out (s : State) (f : Field) (i : Nat) : (s.raise f i).out = s.out := rfl
@[simp] theorem State.raise_free (s : State) (f : Field) (i : Nat) : (s.raise f i).free = s.free := rfl

@[simp] theorem State.lower_pending (s : State) (f : Field) (i : Nat) : (s.lower f i).pending = s.pending := rfl
@[simp] theorem State.lower_mode (s : State) (f : Field) (i : Nat) : (s.lower f i).mode = s.mode := rfl
@[simp] theorem State.lower_tb (s : State) (f : Field) (i : Nat) : (s.lower f i).tb = s.tb := rfl
@[simp] theorem State.lower_tbFrac (s : State) (f : Field) (i : Nat) : (s.lower f i).tbFrac = s.tbFrac := rfl
@[simp] theorem State.lower_clockStopped (s : State) (f : Field) (i : Nat) : (s.lower f i).clockStopped = s.clockStopped := rfl
@[simp] theorem State.lower_clockLost (s : State) (f : Field) (i : Nat) : (s.lower f i).clockLost = s.clockLost := rfl
@[simp] theorem State.lower_cycle (s : State) (f : Field) (i : Nat) : (s.lower f i).cycle = s.cycle := rfl
@[simp] theorem State.lower_mem (s : State) (f : Field) (i : Nat) : (s.lower f i).mem = s.mem := rfl
@[simp] theorem State.lower_cells (s : State) (f : Field) (i : Nat) : (s.lower f i).cells = s.cells := rfl
@[simp] theorem State.lower_tiles (s : State) (f : Field) (i : Nat) : (s.lower f i).tiles = s.tiles := rfl
@[simp] theorem State.lower_lanes (s : State) (f : Field) (i : Nat) : (s.lower f i).lanes = s.lanes := rfl
@[simp] theorem State.lower_liveRemap (s : State) (f : Field) (i : Nat) : (s.lower f i).liveRemap = s.liveRemap := rfl
@[simp] theorem State.lower_liveLanes (s : State) (f : Field) (i : Nat) : (s.lower f i).liveLanes = s.liveLanes := rfl
@[simp] theorem State.lower_lecFresh (s : State) (f : Field) (i : Nat) : (s.lower f i).lecFresh = s.lecFresh := rfl
@[simp] theorem State.lower_events (s : State) (f : Field) (i : Nat) : (s.lower f i).events = s.events := rfl
@[simp] theorem State.lower_warned (s : State) (f : Field) (i : Nat) : (s.lower f i).warned = s.warned := rfl
@[simp] theorem State.lower_dom (s : State) (f : Field) (i : Nat) : (s.lower f i).dom = s.dom := rfl
@[simp] theorem State.lower_rdy (s : State) (f : Field) (i : Nat) : (s.lower f i).rdy = s.rdy := rfl
@[simp] theorem State.lower_stroke (s : State) (f : Field) (i : Nat) : (s.lower f i).stroke = s.stroke := rfl
@[simp] theorem State.lower_beacon (s : State) (f : Field) (i : Nat) : (s.lower f i).beacon = s.beacon := rfl
@[simp] theorem State.lower_ckp (s : State) (f : Field) (i : Nat) : (s.lower f i).ckp = s.ckp := rfl
@[simp] theorem State.lower_img (s : State) (f : Field) (i : Nat) : (s.lower f i).img = s.img := rfl
@[simp] theorem State.lower_sends (s : State) (f : Field) (i : Nat) : (s.lower f i).sends = s.sends := rfl
@[simp] theorem State.lower_flits (s : State) (f : Field) (i : Nat) : (s.lower f i).flits = s.flits := rfl
@[simp] theorem State.lower_pads (s : State) (f : Field) (i : Nat) : (s.lower f i).pads = s.pads := rfl
@[simp] theorem State.lower_uflits (s : State) (f : Field) (i : Nat) : (s.lower f i).uflits = s.uflits := rfl
@[simp] theorem State.lower_uUsed (s : State) (f : Field) (i : Nat) : (s.lower f i).uUsed = s.uUsed := rfl
@[simp] theorem State.lower_trigs (s : State) (f : Field) (i : Nat) : (s.lower f i).trigs = s.trigs := rfl
@[simp] theorem State.lower_landings (s : State) (f : Field) (i : Nat) : (s.lower f i).landings = s.landings := rfl
@[simp] theorem State.lower_hostVals (s : State) (f : Field) (i : Nat) : (s.lower f i).hostVals = s.hostVals := rfl
@[simp] theorem State.lower_chans (s : State) (f : Field) (i : Nat) : (s.lower f i).chans = s.chans := rfl
@[simp] theorem State.lower_lastCh (s : State) (f : Field) (i : Nat) : (s.lower f i).lastCh = s.lastCh := rfl
@[simp] theorem State.lower_msixTab (s : State) (f : Field) (i : Nat) : (s.lower f i).msixTab = s.msixTab := rfl
@[simp] theorem State.lower_msixPba (s : State) (f : Field) (i : Nat) : (s.lower f i).msixPba = s.msixPba := rfl
@[simp] theorem State.lower_fltRecs (s : State) (f : Field) (i : Nat) : (s.lower f i).fltRecs = s.fltRecs := rfl
@[simp] theorem State.lower_fltNext (s : State) (f : Field) (i : Nat) : (s.lower f i).fltNext = s.fltNext := rfl
@[simp] theorem State.lower_fltAny (s : State) (f : Field) (i : Nat) : (s.lower f i).fltAny = s.fltAny := rfl
@[simp] theorem State.lower_fltHw (s : State) (f : Field) (i : Nat) : (s.lower f i).fltHw = s.fltHw := rfl
@[simp] theorem State.lower_emcy (s : State) (f : Field) (i : Nat) : (s.lower f i).emcy = s.emcy := rfl
@[simp] theorem State.lower_ents (s : State) (f : Field) (i : Nat) : (s.lower f i).ents = s.ents := rfl
@[simp] theorem State.lower_owner (s : State) (f : Field) (i : Nat) : (s.lower f i).owner = s.owner := rfl
@[simp] theorem State.lower_claimAt (s : State) (f : Field) (i : Nat) : (s.lower f i).claimAt = s.claimAt := rfl
@[simp] theorem State.lower_refReason (s : State) (f : Field) (i : Nat) : (s.lower f i).refReason = s.refReason := rfl
@[simp] theorem State.lower_refCount (s : State) (f : Field) (i : Nat) : (s.lower f i).refCount = s.refCount := rfl
@[simp] theorem State.lower_backup (s : State) (f : Field) (i : Nat) : (s.lower f i).backup = s.backup := rfl
@[simp] theorem State.lower_boot (s : State) (f : Field) (i : Nat) : (s.lower f i).boot = s.boot := rfl
@[simp] theorem State.lower_xports (s : State) (f : Field) (i : Nat) : (s.lower f i).xports = s.xports := rfl
@[simp] theorem State.lower_persist (s : State) (f : Field) (i : Nat) : (s.lower f i).persist = s.persist := rfl
@[simp] theorem State.lower_claim (s : State) (f : Field) (i : Nat) : (s.lower f i).claim = s.claim := rfl
@[simp] theorem State.lower_ldicts (s : State) (f : Field) (i : Nat) : (s.lower f i).ldicts = s.ldicts := rfl
@[simp] theorem State.lower_tap (s : State) (f : Field) (i : Nat) : (s.lower f i).tap = s.tap := rfl
@[simp] theorem State.lower_trace (s : State) (f : Field) (i : Nat) : (s.lower f i).trace = s.trace := rfl
@[simp] theorem State.lower_pins (s : State) (f : Field) (i : Nat) : (s.lower f i).pins = s.pins := rfl
@[simp] theorem State.lower_flash (s : State) (f : Field) (i : Nat) : (s.lower f i).flash = s.flash := rfl
@[simp] theorem State.lower_pci (s : State) (f : Field) (i : Nat) : (s.lower f i).pci = s.pci := rfl
@[simp] theorem State.lower_cores (s : State) (f : Field) (i : Nat) : (s.lower f i).cores = s.cores := rfl
@[simp] theorem State.lower_out (s : State) (f : Field) (i : Nat) : (s.lower f i).out = s.out := rfl
@[simp] theorem State.lower_free (s : State) (f : Field) (i : Nat) : (s.lower f i).free = s.free := rfl

@[simp] theorem State.write1_pending (s : State) (f : Field) (i : Nat) : (s.write1 f i).pending = s.pending := rfl
@[simp] theorem State.write1_mode (s : State) (f : Field) (i : Nat) : (s.write1 f i).mode = s.mode := rfl
@[simp] theorem State.write1_tb (s : State) (f : Field) (i : Nat) : (s.write1 f i).tb = s.tb := rfl
@[simp] theorem State.write1_tbFrac (s : State) (f : Field) (i : Nat) : (s.write1 f i).tbFrac = s.tbFrac := rfl
@[simp] theorem State.write1_clockStopped (s : State) (f : Field) (i : Nat) : (s.write1 f i).clockStopped = s.clockStopped := rfl
@[simp] theorem State.write1_clockLost (s : State) (f : Field) (i : Nat) : (s.write1 f i).clockLost = s.clockLost := rfl
@[simp] theorem State.write1_mem (s : State) (f : Field) (i : Nat) : (s.write1 f i).mem = s.mem := rfl
@[simp] theorem State.write1_cells (s : State) (f : Field) (i : Nat) : (s.write1 f i).cells = s.cells := rfl
@[simp] theorem State.write1_tiles (s : State) (f : Field) (i : Nat) : (s.write1 f i).tiles = s.tiles := rfl
@[simp] theorem State.write1_lanes (s : State) (f : Field) (i : Nat) : (s.write1 f i).lanes = s.lanes := rfl
@[simp] theorem State.write1_liveRemap (s : State) (f : Field) (i : Nat) : (s.write1 f i).liveRemap = s.liveRemap := rfl
@[simp] theorem State.write1_liveLanes (s : State) (f : Field) (i : Nat) : (s.write1 f i).liveLanes = s.liveLanes := rfl
@[simp] theorem State.write1_lecFresh (s : State) (f : Field) (i : Nat) : (s.write1 f i).lecFresh = s.lecFresh := rfl
@[simp] theorem State.write1_events (s : State) (f : Field) (i : Nat) : (s.write1 f i).events = s.events := rfl
@[simp] theorem State.write1_warned (s : State) (f : Field) (i : Nat) : (s.write1 f i).warned = s.warned := rfl
@[simp] theorem State.write1_dom (s : State) (f : Field) (i : Nat) : (s.write1 f i).dom = s.dom := rfl
@[simp] theorem State.write1_rdy (s : State) (f : Field) (i : Nat) : (s.write1 f i).rdy = s.rdy := rfl
@[simp] theorem State.write1_stroke (s : State) (f : Field) (i : Nat) : (s.write1 f i).stroke = s.stroke := rfl
@[simp] theorem State.write1_beacon (s : State) (f : Field) (i : Nat) : (s.write1 f i).beacon = s.beacon := rfl
@[simp] theorem State.write1_ckp (s : State) (f : Field) (i : Nat) : (s.write1 f i).ckp = s.ckp := rfl
@[simp] theorem State.write1_img (s : State) (f : Field) (i : Nat) : (s.write1 f i).img = s.img := rfl
@[simp] theorem State.write1_sends (s : State) (f : Field) (i : Nat) : (s.write1 f i).sends = s.sends := rfl
@[simp] theorem State.write1_flits (s : State) (f : Field) (i : Nat) : (s.write1 f i).flits = s.flits := rfl
@[simp] theorem State.write1_pads (s : State) (f : Field) (i : Nat) : (s.write1 f i).pads = s.pads := rfl
@[simp] theorem State.write1_uflits (s : State) (f : Field) (i : Nat) : (s.write1 f i).uflits = s.uflits := rfl
@[simp] theorem State.write1_uUsed (s : State) (f : Field) (i : Nat) : (s.write1 f i).uUsed = s.uUsed := rfl
@[simp] theorem State.write1_trigs (s : State) (f : Field) (i : Nat) : (s.write1 f i).trigs = s.trigs := rfl
@[simp] theorem State.write1_landings (s : State) (f : Field) (i : Nat) : (s.write1 f i).landings = s.landings := rfl
@[simp] theorem State.write1_hostVals (s : State) (f : Field) (i : Nat) : (s.write1 f i).hostVals = s.hostVals := rfl
@[simp] theorem State.write1_chans (s : State) (f : Field) (i : Nat) : (s.write1 f i).chans = s.chans := rfl
@[simp] theorem State.write1_lastCh (s : State) (f : Field) (i : Nat) : (s.write1 f i).lastCh = s.lastCh := rfl
@[simp] theorem State.write1_msixTab (s : State) (f : Field) (i : Nat) : (s.write1 f i).msixTab = s.msixTab := rfl
@[simp] theorem State.write1_msixPba (s : State) (f : Field) (i : Nat) : (s.write1 f i).msixPba = s.msixPba := rfl
@[simp] theorem State.write1_fltRecs (s : State) (f : Field) (i : Nat) : (s.write1 f i).fltRecs = s.fltRecs := rfl
@[simp] theorem State.write1_fltNext (s : State) (f : Field) (i : Nat) : (s.write1 f i).fltNext = s.fltNext := rfl
@[simp] theorem State.write1_fltAny (s : State) (f : Field) (i : Nat) : (s.write1 f i).fltAny = s.fltAny := rfl
@[simp] theorem State.write1_fltHw (s : State) (f : Field) (i : Nat) : (s.write1 f i).fltHw = s.fltHw := rfl
@[simp] theorem State.write1_emcy (s : State) (f : Field) (i : Nat) : (s.write1 f i).emcy = s.emcy := rfl
@[simp] theorem State.write1_ents (s : State) (f : Field) (i : Nat) : (s.write1 f i).ents = s.ents := rfl
@[simp] theorem State.write1_owner (s : State) (f : Field) (i : Nat) : (s.write1 f i).owner = s.owner := rfl
@[simp] theorem State.write1_claimAt (s : State) (f : Field) (i : Nat) : (s.write1 f i).claimAt = s.claimAt := rfl
@[simp] theorem State.write1_refReason (s : State) (f : Field) (i : Nat) : (s.write1 f i).refReason = s.refReason := rfl
@[simp] theorem State.write1_refCount (s : State) (f : Field) (i : Nat) : (s.write1 f i).refCount = s.refCount := rfl
@[simp] theorem State.write1_backup (s : State) (f : Field) (i : Nat) : (s.write1 f i).backup = s.backup := rfl
@[simp] theorem State.write1_boot (s : State) (f : Field) (i : Nat) : (s.write1 f i).boot = s.boot := rfl
@[simp] theorem State.write1_xports (s : State) (f : Field) (i : Nat) : (s.write1 f i).xports = s.xports := rfl
@[simp] theorem State.write1_persist (s : State) (f : Field) (i : Nat) : (s.write1 f i).persist = s.persist := rfl
@[simp] theorem State.write1_claim (s : State) (f : Field) (i : Nat) : (s.write1 f i).claim = s.claim := rfl
@[simp] theorem State.write1_ldicts (s : State) (f : Field) (i : Nat) : (s.write1 f i).ldicts = s.ldicts := rfl
@[simp] theorem State.write1_tap (s : State) (f : Field) (i : Nat) : (s.write1 f i).tap = s.tap := rfl
@[simp] theorem State.write1_trace (s : State) (f : Field) (i : Nat) : (s.write1 f i).trace = s.trace := rfl
@[simp] theorem State.write1_pins (s : State) (f : Field) (i : Nat) : (s.write1 f i).pins = s.pins := rfl
@[simp] theorem State.write1_flash (s : State) (f : Field) (i : Nat) : (s.write1 f i).flash = s.flash := rfl
@[simp] theorem State.write1_pci (s : State) (f : Field) (i : Nat) : (s.write1 f i).pci = s.pci := rfl
@[simp] theorem State.write1_cores (s : State) (f : Field) (i : Nat) : (s.write1 f i).cores = s.cores := rfl
@[simp] theorem State.write1_out (s : State) (f : Field) (i : Nat) : (s.write1 f i).out = s.out := rfl
@[simp] theorem State.write1_free (s : State) (f : Field) (i : Nat) : (s.write1 f i).free = s.free := rfl

@[simp] theorem State.write0_pending (s : State) (f : Field) (i : Nat) : (s.write0 f i).pending = s.pending := rfl
@[simp] theorem State.write0_mode (s : State) (f : Field) (i : Nat) : (s.write0 f i).mode = s.mode := rfl
@[simp] theorem State.write0_tb (s : State) (f : Field) (i : Nat) : (s.write0 f i).tb = s.tb := rfl
@[simp] theorem State.write0_tbFrac (s : State) (f : Field) (i : Nat) : (s.write0 f i).tbFrac = s.tbFrac := rfl
@[simp] theorem State.write0_clockStopped (s : State) (f : Field) (i : Nat) : (s.write0 f i).clockStopped = s.clockStopped := rfl
@[simp] theorem State.write0_clockLost (s : State) (f : Field) (i : Nat) : (s.write0 f i).clockLost = s.clockLost := rfl
@[simp] theorem State.write0_cycle (s : State) (f : Field) (i : Nat) : (s.write0 f i).cycle = s.cycle := rfl
@[simp] theorem State.write0_mem (s : State) (f : Field) (i : Nat) : (s.write0 f i).mem = s.mem := rfl
@[simp] theorem State.write0_cells (s : State) (f : Field) (i : Nat) : (s.write0 f i).cells = s.cells := rfl
@[simp] theorem State.write0_tiles (s : State) (f : Field) (i : Nat) : (s.write0 f i).tiles = s.tiles := rfl
@[simp] theorem State.write0_lanes (s : State) (f : Field) (i : Nat) : (s.write0 f i).lanes = s.lanes := rfl
@[simp] theorem State.write0_liveRemap (s : State) (f : Field) (i : Nat) : (s.write0 f i).liveRemap = s.liveRemap := rfl
@[simp] theorem State.write0_liveLanes (s : State) (f : Field) (i : Nat) : (s.write0 f i).liveLanes = s.liveLanes := rfl
@[simp] theorem State.write0_lecFresh (s : State) (f : Field) (i : Nat) : (s.write0 f i).lecFresh = s.lecFresh := rfl
@[simp] theorem State.write0_events (s : State) (f : Field) (i : Nat) : (s.write0 f i).events = s.events := rfl
@[simp] theorem State.write0_warned (s : State) (f : Field) (i : Nat) : (s.write0 f i).warned = s.warned := rfl
@[simp] theorem State.write0_dom (s : State) (f : Field) (i : Nat) : (s.write0 f i).dom = s.dom := rfl
@[simp] theorem State.write0_rdy (s : State) (f : Field) (i : Nat) : (s.write0 f i).rdy = s.rdy := rfl
@[simp] theorem State.write0_stroke (s : State) (f : Field) (i : Nat) : (s.write0 f i).stroke = s.stroke := rfl
@[simp] theorem State.write0_beacon (s : State) (f : Field) (i : Nat) : (s.write0 f i).beacon = s.beacon := rfl
@[simp] theorem State.write0_ckp (s : State) (f : Field) (i : Nat) : (s.write0 f i).ckp = s.ckp := rfl
@[simp] theorem State.write0_img (s : State) (f : Field) (i : Nat) : (s.write0 f i).img = s.img := rfl
@[simp] theorem State.write0_sends (s : State) (f : Field) (i : Nat) : (s.write0 f i).sends = s.sends := rfl
@[simp] theorem State.write0_flits (s : State) (f : Field) (i : Nat) : (s.write0 f i).flits = s.flits := rfl
@[simp] theorem State.write0_pads (s : State) (f : Field) (i : Nat) : (s.write0 f i).pads = s.pads := rfl
@[simp] theorem State.write0_uflits (s : State) (f : Field) (i : Nat) : (s.write0 f i).uflits = s.uflits := rfl
@[simp] theorem State.write0_uUsed (s : State) (f : Field) (i : Nat) : (s.write0 f i).uUsed = s.uUsed := rfl
@[simp] theorem State.write0_trigs (s : State) (f : Field) (i : Nat) : (s.write0 f i).trigs = s.trigs := rfl
@[simp] theorem State.write0_landings (s : State) (f : Field) (i : Nat) : (s.write0 f i).landings = s.landings := rfl
@[simp] theorem State.write0_hostVals (s : State) (f : Field) (i : Nat) : (s.write0 f i).hostVals = s.hostVals := rfl
@[simp] theorem State.write0_chans (s : State) (f : Field) (i : Nat) : (s.write0 f i).chans = s.chans := rfl
@[simp] theorem State.write0_lastCh (s : State) (f : Field) (i : Nat) : (s.write0 f i).lastCh = s.lastCh := rfl
@[simp] theorem State.write0_msixTab (s : State) (f : Field) (i : Nat) : (s.write0 f i).msixTab = s.msixTab := rfl
@[simp] theorem State.write0_msixPba (s : State) (f : Field) (i : Nat) : (s.write0 f i).msixPba = s.msixPba := rfl
@[simp] theorem State.write0_fltRecs (s : State) (f : Field) (i : Nat) : (s.write0 f i).fltRecs = s.fltRecs := rfl
@[simp] theorem State.write0_fltNext (s : State) (f : Field) (i : Nat) : (s.write0 f i).fltNext = s.fltNext := rfl
@[simp] theorem State.write0_fltAny (s : State) (f : Field) (i : Nat) : (s.write0 f i).fltAny = s.fltAny := rfl
@[simp] theorem State.write0_fltHw (s : State) (f : Field) (i : Nat) : (s.write0 f i).fltHw = s.fltHw := rfl
@[simp] theorem State.write0_emcy (s : State) (f : Field) (i : Nat) : (s.write0 f i).emcy = s.emcy := rfl
@[simp] theorem State.write0_ents (s : State) (f : Field) (i : Nat) : (s.write0 f i).ents = s.ents := rfl
@[simp] theorem State.write0_owner (s : State) (f : Field) (i : Nat) : (s.write0 f i).owner = s.owner := rfl
@[simp] theorem State.write0_claimAt (s : State) (f : Field) (i : Nat) : (s.write0 f i).claimAt = s.claimAt := rfl
@[simp] theorem State.write0_refReason (s : State) (f : Field) (i : Nat) : (s.write0 f i).refReason = s.refReason := rfl
@[simp] theorem State.write0_refCount (s : State) (f : Field) (i : Nat) : (s.write0 f i).refCount = s.refCount := rfl
@[simp] theorem State.write0_backup (s : State) (f : Field) (i : Nat) : (s.write0 f i).backup = s.backup := rfl
@[simp] theorem State.write0_boot (s : State) (f : Field) (i : Nat) : (s.write0 f i).boot = s.boot := rfl
@[simp] theorem State.write0_xports (s : State) (f : Field) (i : Nat) : (s.write0 f i).xports = s.xports := rfl
@[simp] theorem State.write0_persist (s : State) (f : Field) (i : Nat) : (s.write0 f i).persist = s.persist := rfl
@[simp] theorem State.write0_claim (s : State) (f : Field) (i : Nat) : (s.write0 f i).claim = s.claim := rfl
@[simp] theorem State.write0_ldicts (s : State) (f : Field) (i : Nat) : (s.write0 f i).ldicts = s.ldicts := rfl
@[simp] theorem State.write0_tap (s : State) (f : Field) (i : Nat) : (s.write0 f i).tap = s.tap := rfl
@[simp] theorem State.write0_trace (s : State) (f : Field) (i : Nat) : (s.write0 f i).trace = s.trace := rfl
@[simp] theorem State.write0_pins (s : State) (f : Field) (i : Nat) : (s.write0 f i).pins = s.pins := rfl
@[simp] theorem State.write0_flash (s : State) (f : Field) (i : Nat) : (s.write0 f i).flash = s.flash := rfl
@[simp] theorem State.write0_pci (s : State) (f : Field) (i : Nat) : (s.write0 f i).pci = s.pci := rfl
@[simp] theorem State.write0_cores (s : State) (f : Field) (i : Nat) : (s.write0 f i).cores = s.cores := rfl
@[simp] theorem State.write0_out (s : State) (f : Field) (i : Nat) : (s.write0 f i).out = s.out := rfl
@[simp] theorem State.write0_free (s : State) (f : Field) (i : Nat) : (s.write0 f i).free = s.free := rfl

@[simp] theorem State.setBits_pending (s : State) (f : Field) (i v : Nat) : (s.setBits f i v).pending = s.pending := rfl
@[simp] theorem State.setBits_mode (s : State) (f : Field) (i v : Nat) : (s.setBits f i v).mode = s.mode := rfl
@[simp] theorem State.setBits_tb (s : State) (f : Field) (i v : Nat) : (s.setBits f i v).tb = s.tb := rfl
@[simp] theorem State.setBits_tbFrac (s : State) (f : Field) (i v : Nat) : (s.setBits f i v).tbFrac = s.tbFrac := rfl
@[simp] theorem State.setBits_clockStopped (s : State) (f : Field) (i v : Nat) : (s.setBits f i v).clockStopped = s.clockStopped := rfl
@[simp] theorem State.setBits_clockLost (s : State) (f : Field) (i v : Nat) : (s.setBits f i v).clockLost = s.clockLost := rfl
@[simp] theorem State.setBits_mem (s : State) (f : Field) (i v : Nat) : (s.setBits f i v).mem = s.mem := rfl
@[simp] theorem State.setBits_cells (s : State) (f : Field) (i v : Nat) : (s.setBits f i v).cells = s.cells := rfl
@[simp] theorem State.setBits_tiles (s : State) (f : Field) (i v : Nat) : (s.setBits f i v).tiles = s.tiles := rfl
@[simp] theorem State.setBits_lanes (s : State) (f : Field) (i v : Nat) : (s.setBits f i v).lanes = s.lanes := rfl
@[simp] theorem State.setBits_liveRemap (s : State) (f : Field) (i v : Nat) : (s.setBits f i v).liveRemap = s.liveRemap := rfl
@[simp] theorem State.setBits_liveLanes (s : State) (f : Field) (i v : Nat) : (s.setBits f i v).liveLanes = s.liveLanes := rfl
@[simp] theorem State.setBits_lecFresh (s : State) (f : Field) (i v : Nat) : (s.setBits f i v).lecFresh = s.lecFresh := rfl
@[simp] theorem State.setBits_events (s : State) (f : Field) (i v : Nat) : (s.setBits f i v).events = s.events := rfl
@[simp] theorem State.setBits_warned (s : State) (f : Field) (i v : Nat) : (s.setBits f i v).warned = s.warned := rfl
@[simp] theorem State.setBits_dom (s : State) (f : Field) (i v : Nat) : (s.setBits f i v).dom = s.dom := rfl
@[simp] theorem State.setBits_rdy (s : State) (f : Field) (i v : Nat) : (s.setBits f i v).rdy = s.rdy := rfl
@[simp] theorem State.setBits_stroke (s : State) (f : Field) (i v : Nat) : (s.setBits f i v).stroke = s.stroke := rfl
@[simp] theorem State.setBits_beacon (s : State) (f : Field) (i v : Nat) : (s.setBits f i v).beacon = s.beacon := rfl
@[simp] theorem State.setBits_ckp (s : State) (f : Field) (i v : Nat) : (s.setBits f i v).ckp = s.ckp := rfl
@[simp] theorem State.setBits_img (s : State) (f : Field) (i v : Nat) : (s.setBits f i v).img = s.img := rfl
@[simp] theorem State.setBits_sends (s : State) (f : Field) (i v : Nat) : (s.setBits f i v).sends = s.sends := rfl
@[simp] theorem State.setBits_flits (s : State) (f : Field) (i v : Nat) : (s.setBits f i v).flits = s.flits := rfl
@[simp] theorem State.setBits_pads (s : State) (f : Field) (i v : Nat) : (s.setBits f i v).pads = s.pads := rfl
@[simp] theorem State.setBits_uflits (s : State) (f : Field) (i v : Nat) : (s.setBits f i v).uflits = s.uflits := rfl
@[simp] theorem State.setBits_uUsed (s : State) (f : Field) (i v : Nat) : (s.setBits f i v).uUsed = s.uUsed := rfl
@[simp] theorem State.setBits_trigs (s : State) (f : Field) (i v : Nat) : (s.setBits f i v).trigs = s.trigs := rfl
@[simp] theorem State.setBits_landings (s : State) (f : Field) (i v : Nat) : (s.setBits f i v).landings = s.landings := rfl
@[simp] theorem State.setBits_hostVals (s : State) (f : Field) (i v : Nat) : (s.setBits f i v).hostVals = s.hostVals := rfl
@[simp] theorem State.setBits_chans (s : State) (f : Field) (i v : Nat) : (s.setBits f i v).chans = s.chans := rfl
@[simp] theorem State.setBits_lastCh (s : State) (f : Field) (i v : Nat) : (s.setBits f i v).lastCh = s.lastCh := rfl
@[simp] theorem State.setBits_msixTab (s : State) (f : Field) (i v : Nat) : (s.setBits f i v).msixTab = s.msixTab := rfl
@[simp] theorem State.setBits_msixPba (s : State) (f : Field) (i v : Nat) : (s.setBits f i v).msixPba = s.msixPba := rfl
@[simp] theorem State.setBits_fltRecs (s : State) (f : Field) (i v : Nat) : (s.setBits f i v).fltRecs = s.fltRecs := rfl
@[simp] theorem State.setBits_fltNext (s : State) (f : Field) (i v : Nat) : (s.setBits f i v).fltNext = s.fltNext := rfl
@[simp] theorem State.setBits_fltAny (s : State) (f : Field) (i v : Nat) : (s.setBits f i v).fltAny = s.fltAny := rfl
@[simp] theorem State.setBits_fltHw (s : State) (f : Field) (i v : Nat) : (s.setBits f i v).fltHw = s.fltHw := rfl
@[simp] theorem State.setBits_emcy (s : State) (f : Field) (i v : Nat) : (s.setBits f i v).emcy = s.emcy := rfl
@[simp] theorem State.setBits_ents (s : State) (f : Field) (i v : Nat) : (s.setBits f i v).ents = s.ents := rfl
@[simp] theorem State.setBits_owner (s : State) (f : Field) (i v : Nat) : (s.setBits f i v).owner = s.owner := rfl
@[simp] theorem State.setBits_claimAt (s : State) (f : Field) (i v : Nat) : (s.setBits f i v).claimAt = s.claimAt := rfl
@[simp] theorem State.setBits_refReason (s : State) (f : Field) (i v : Nat) : (s.setBits f i v).refReason = s.refReason := rfl
@[simp] theorem State.setBits_refCount (s : State) (f : Field) (i v : Nat) : (s.setBits f i v).refCount = s.refCount := rfl
@[simp] theorem State.setBits_backup (s : State) (f : Field) (i v : Nat) : (s.setBits f i v).backup = s.backup := rfl
@[simp] theorem State.setBits_boot (s : State) (f : Field) (i v : Nat) : (s.setBits f i v).boot = s.boot := rfl
@[simp] theorem State.setBits_xports (s : State) (f : Field) (i v : Nat) : (s.setBits f i v).xports = s.xports := rfl
@[simp] theorem State.setBits_persist (s : State) (f : Field) (i v : Nat) : (s.setBits f i v).persist = s.persist := rfl
@[simp] theorem State.setBits_claim (s : State) (f : Field) (i v : Nat) : (s.setBits f i v).claim = s.claim := rfl
@[simp] theorem State.setBits_ldicts (s : State) (f : Field) (i v : Nat) : (s.setBits f i v).ldicts = s.ldicts := rfl
@[simp] theorem State.setBits_tap (s : State) (f : Field) (i v : Nat) : (s.setBits f i v).tap = s.tap := rfl
@[simp] theorem State.setBits_trace (s : State) (f : Field) (i v : Nat) : (s.setBits f i v).trace = s.trace := rfl
@[simp] theorem State.setBits_pins (s : State) (f : Field) (i v : Nat) : (s.setBits f i v).pins = s.pins := rfl
@[simp] theorem State.setBits_flash (s : State) (f : Field) (i v : Nat) : (s.setBits f i v).flash = s.flash := rfl
@[simp] theorem State.setBits_pci (s : State) (f : Field) (i v : Nat) : (s.setBits f i v).pci = s.pci := rfl
@[simp] theorem State.setBits_cores (s : State) (f : Field) (i v : Nat) : (s.setBits f i v).cores = s.cores := rfl
@[simp] theorem State.setBits_out (s : State) (f : Field) (i v : Nat) : (s.setBits f i v).out = s.out := rfl
@[simp] theorem State.setBits_free (s : State) (f : Field) (i v : Nat) : (s.setBits f i v).free = s.free := rfl

@[simp] theorem State.bump_pending (s : State) (f : Field) (i k : Nat) : (s.bump f i k).pending = s.pending := rfl
@[simp] theorem State.bump_mode (s : State) (f : Field) (i k : Nat) : (s.bump f i k).mode = s.mode := rfl
@[simp] theorem State.bump_tb (s : State) (f : Field) (i k : Nat) : (s.bump f i k).tb = s.tb := rfl
@[simp] theorem State.bump_tbFrac (s : State) (f : Field) (i k : Nat) : (s.bump f i k).tbFrac = s.tbFrac := rfl
@[simp] theorem State.bump_clockStopped (s : State) (f : Field) (i k : Nat) : (s.bump f i k).clockStopped = s.clockStopped := rfl
@[simp] theorem State.bump_clockLost (s : State) (f : Field) (i k : Nat) : (s.bump f i k).clockLost = s.clockLost := rfl
@[simp] theorem State.bump_mem (s : State) (f : Field) (i k : Nat) : (s.bump f i k).mem = s.mem := rfl
@[simp] theorem State.bump_cells (s : State) (f : Field) (i k : Nat) : (s.bump f i k).cells = s.cells := rfl
@[simp] theorem State.bump_tiles (s : State) (f : Field) (i k : Nat) : (s.bump f i k).tiles = s.tiles := rfl
@[simp] theorem State.bump_lanes (s : State) (f : Field) (i k : Nat) : (s.bump f i k).lanes = s.lanes := rfl
@[simp] theorem State.bump_liveRemap (s : State) (f : Field) (i k : Nat) : (s.bump f i k).liveRemap = s.liveRemap := rfl
@[simp] theorem State.bump_liveLanes (s : State) (f : Field) (i k : Nat) : (s.bump f i k).liveLanes = s.liveLanes := rfl
@[simp] theorem State.bump_lecFresh (s : State) (f : Field) (i k : Nat) : (s.bump f i k).lecFresh = s.lecFresh := rfl
@[simp] theorem State.bump_events (s : State) (f : Field) (i k : Nat) : (s.bump f i k).events = s.events := rfl
@[simp] theorem State.bump_warned (s : State) (f : Field) (i k : Nat) : (s.bump f i k).warned = s.warned := rfl
@[simp] theorem State.bump_dom (s : State) (f : Field) (i k : Nat) : (s.bump f i k).dom = s.dom := rfl
@[simp] theorem State.bump_rdy (s : State) (f : Field) (i k : Nat) : (s.bump f i k).rdy = s.rdy := rfl
@[simp] theorem State.bump_stroke (s : State) (f : Field) (i k : Nat) : (s.bump f i k).stroke = s.stroke := rfl
@[simp] theorem State.bump_beacon (s : State) (f : Field) (i k : Nat) : (s.bump f i k).beacon = s.beacon := rfl
@[simp] theorem State.bump_ckp (s : State) (f : Field) (i k : Nat) : (s.bump f i k).ckp = s.ckp := rfl
@[simp] theorem State.bump_img (s : State) (f : Field) (i k : Nat) : (s.bump f i k).img = s.img := rfl
@[simp] theorem State.bump_sends (s : State) (f : Field) (i k : Nat) : (s.bump f i k).sends = s.sends := rfl
@[simp] theorem State.bump_flits (s : State) (f : Field) (i k : Nat) : (s.bump f i k).flits = s.flits := rfl
@[simp] theorem State.bump_pads (s : State) (f : Field) (i k : Nat) : (s.bump f i k).pads = s.pads := rfl
@[simp] theorem State.bump_uflits (s : State) (f : Field) (i k : Nat) : (s.bump f i k).uflits = s.uflits := rfl
@[simp] theorem State.bump_uUsed (s : State) (f : Field) (i k : Nat) : (s.bump f i k).uUsed = s.uUsed := rfl
@[simp] theorem State.bump_trigs (s : State) (f : Field) (i k : Nat) : (s.bump f i k).trigs = s.trigs := rfl
@[simp] theorem State.bump_landings (s : State) (f : Field) (i k : Nat) : (s.bump f i k).landings = s.landings := rfl
@[simp] theorem State.bump_hostVals (s : State) (f : Field) (i k : Nat) : (s.bump f i k).hostVals = s.hostVals := rfl
@[simp] theorem State.bump_chans (s : State) (f : Field) (i k : Nat) : (s.bump f i k).chans = s.chans := rfl
@[simp] theorem State.bump_lastCh (s : State) (f : Field) (i k : Nat) : (s.bump f i k).lastCh = s.lastCh := rfl
@[simp] theorem State.bump_msixTab (s : State) (f : Field) (i k : Nat) : (s.bump f i k).msixTab = s.msixTab := rfl
@[simp] theorem State.bump_msixPba (s : State) (f : Field) (i k : Nat) : (s.bump f i k).msixPba = s.msixPba := rfl
@[simp] theorem State.bump_fltRecs (s : State) (f : Field) (i k : Nat) : (s.bump f i k).fltRecs = s.fltRecs := rfl
@[simp] theorem State.bump_fltNext (s : State) (f : Field) (i k : Nat) : (s.bump f i k).fltNext = s.fltNext := rfl
@[simp] theorem State.bump_fltAny (s : State) (f : Field) (i k : Nat) : (s.bump f i k).fltAny = s.fltAny := rfl
@[simp] theorem State.bump_fltHw (s : State) (f : Field) (i k : Nat) : (s.bump f i k).fltHw = s.fltHw := rfl
@[simp] theorem State.bump_emcy (s : State) (f : Field) (i k : Nat) : (s.bump f i k).emcy = s.emcy := rfl
@[simp] theorem State.bump_ents (s : State) (f : Field) (i k : Nat) : (s.bump f i k).ents = s.ents := rfl
@[simp] theorem State.bump_owner (s : State) (f : Field) (i k : Nat) : (s.bump f i k).owner = s.owner := rfl
@[simp] theorem State.bump_claimAt (s : State) (f : Field) (i k : Nat) : (s.bump f i k).claimAt = s.claimAt := rfl
@[simp] theorem State.bump_refReason (s : State) (f : Field) (i k : Nat) : (s.bump f i k).refReason = s.refReason := rfl
@[simp] theorem State.bump_refCount (s : State) (f : Field) (i k : Nat) : (s.bump f i k).refCount = s.refCount := rfl
@[simp] theorem State.bump_backup (s : State) (f : Field) (i k : Nat) : (s.bump f i k).backup = s.backup := rfl
@[simp] theorem State.bump_boot (s : State) (f : Field) (i k : Nat) : (s.bump f i k).boot = s.boot := rfl
@[simp] theorem State.bump_xports (s : State) (f : Field) (i k : Nat) : (s.bump f i k).xports = s.xports := rfl
@[simp] theorem State.bump_persist (s : State) (f : Field) (i k : Nat) : (s.bump f i k).persist = s.persist := rfl
@[simp] theorem State.bump_claim (s : State) (f : Field) (i k : Nat) : (s.bump f i k).claim = s.claim := rfl
@[simp] theorem State.bump_ldicts (s : State) (f : Field) (i k : Nat) : (s.bump f i k).ldicts = s.ldicts := rfl
@[simp] theorem State.bump_tap (s : State) (f : Field) (i k : Nat) : (s.bump f i k).tap = s.tap := rfl
@[simp] theorem State.bump_trace (s : State) (f : Field) (i k : Nat) : (s.bump f i k).trace = s.trace := rfl
@[simp] theorem State.bump_pins (s : State) (f : Field) (i k : Nat) : (s.bump f i k).pins = s.pins := rfl
@[simp] theorem State.bump_flash (s : State) (f : Field) (i k : Nat) : (s.bump f i k).flash = s.flash := rfl
@[simp] theorem State.bump_pci (s : State) (f : Field) (i k : Nat) : (s.bump f i k).pci = s.pci := rfl
@[simp] theorem State.bump_cores (s : State) (f : Field) (i k : Nat) : (s.bump f i k).cores = s.cores := rfl
@[simp] theorem State.bump_out (s : State) (f : Field) (i k : Nat) : (s.bump f i k).out = s.out := rfl
@[simp] theorem State.bump_free (s : State) (f : Field) (i k : Nat) : (s.bump f i k).free = s.free := rfl

@[simp] theorem State.setCell_pending (s : State) (c : Nat) (x : Cell) : (s.setCell c x).pending = s.pending := rfl
@[simp] theorem State.setCell_mode (s : State) (c : Nat) (x : Cell) : (s.setCell c x).mode = s.mode := rfl
@[simp] theorem State.setCell_tb (s : State) (c : Nat) (x : Cell) : (s.setCell c x).tb = s.tb := rfl
@[simp] theorem State.setCell_tbFrac (s : State) (c : Nat) (x : Cell) : (s.setCell c x).tbFrac = s.tbFrac := rfl
@[simp] theorem State.setCell_clockStopped (s : State) (c : Nat) (x : Cell) : (s.setCell c x).clockStopped = s.clockStopped := rfl
@[simp] theorem State.setCell_clockLost (s : State) (c : Nat) (x : Cell) : (s.setCell c x).clockLost = s.clockLost := rfl
@[simp] theorem State.setCell_regs (s : State) (c : Nat) (x : Cell) : (s.setCell c x).regs = s.regs := rfl
@[simp] theorem State.setCell_cycle (s : State) (c : Nat) (x : Cell) : (s.setCell c x).cycle = s.cycle := rfl
@[simp] theorem State.setCell_mem (s : State) (c : Nat) (x : Cell) : (s.setCell c x).mem = s.mem := rfl
@[simp] theorem State.setCell_tiles (s : State) (c : Nat) (x : Cell) : (s.setCell c x).tiles = s.tiles := rfl
@[simp] theorem State.setCell_lanes (s : State) (c : Nat) (x : Cell) : (s.setCell c x).lanes = s.lanes := rfl
@[simp] theorem State.setCell_liveRemap (s : State) (c : Nat) (x : Cell) : (s.setCell c x).liveRemap = s.liveRemap := rfl
@[simp] theorem State.setCell_liveLanes (s : State) (c : Nat) (x : Cell) : (s.setCell c x).liveLanes = s.liveLanes := rfl
@[simp] theorem State.setCell_lecFresh (s : State) (c : Nat) (x : Cell) : (s.setCell c x).lecFresh = s.lecFresh := rfl
@[simp] theorem State.setCell_events (s : State) (c : Nat) (x : Cell) : (s.setCell c x).events = s.events := rfl
@[simp] theorem State.setCell_warned (s : State) (c : Nat) (x : Cell) : (s.setCell c x).warned = s.warned := rfl
@[simp] theorem State.setCell_dom (s : State) (c : Nat) (x : Cell) : (s.setCell c x).dom = s.dom := rfl
@[simp] theorem State.setCell_rdy (s : State) (c : Nat) (x : Cell) : (s.setCell c x).rdy = s.rdy := rfl
@[simp] theorem State.setCell_stroke (s : State) (c : Nat) (x : Cell) : (s.setCell c x).stroke = s.stroke := rfl
@[simp] theorem State.setCell_beacon (s : State) (c : Nat) (x : Cell) : (s.setCell c x).beacon = s.beacon := rfl
@[simp] theorem State.setCell_ckp (s : State) (c : Nat) (x : Cell) : (s.setCell c x).ckp = s.ckp := rfl
@[simp] theorem State.setCell_img (s : State) (c : Nat) (x : Cell) : (s.setCell c x).img = s.img := rfl
@[simp] theorem State.setCell_sends (s : State) (c : Nat) (x : Cell) : (s.setCell c x).sends = s.sends := rfl
@[simp] theorem State.setCell_flits (s : State) (c : Nat) (x : Cell) : (s.setCell c x).flits = s.flits := rfl
@[simp] theorem State.setCell_pads (s : State) (c : Nat) (x : Cell) : (s.setCell c x).pads = s.pads := rfl
@[simp] theorem State.setCell_uflits (s : State) (c : Nat) (x : Cell) : (s.setCell c x).uflits = s.uflits := rfl
@[simp] theorem State.setCell_uUsed (s : State) (c : Nat) (x : Cell) : (s.setCell c x).uUsed = s.uUsed := rfl
@[simp] theorem State.setCell_trigs (s : State) (c : Nat) (x : Cell) : (s.setCell c x).trigs = s.trigs := rfl
@[simp] theorem State.setCell_landings (s : State) (c : Nat) (x : Cell) : (s.setCell c x).landings = s.landings := rfl
@[simp] theorem State.setCell_hostVals (s : State) (c : Nat) (x : Cell) : (s.setCell c x).hostVals = s.hostVals := rfl
@[simp] theorem State.setCell_chans (s : State) (c : Nat) (x : Cell) : (s.setCell c x).chans = s.chans := rfl
@[simp] theorem State.setCell_lastCh (s : State) (c : Nat) (x : Cell) : (s.setCell c x).lastCh = s.lastCh := rfl
@[simp] theorem State.setCell_msixTab (s : State) (c : Nat) (x : Cell) : (s.setCell c x).msixTab = s.msixTab := rfl
@[simp] theorem State.setCell_msixPba (s : State) (c : Nat) (x : Cell) : (s.setCell c x).msixPba = s.msixPba := rfl
@[simp] theorem State.setCell_fltRecs (s : State) (c : Nat) (x : Cell) : (s.setCell c x).fltRecs = s.fltRecs := rfl
@[simp] theorem State.setCell_fltNext (s : State) (c : Nat) (x : Cell) : (s.setCell c x).fltNext = s.fltNext := rfl
@[simp] theorem State.setCell_fltAny (s : State) (c : Nat) (x : Cell) : (s.setCell c x).fltAny = s.fltAny := rfl
@[simp] theorem State.setCell_fltHw (s : State) (c : Nat) (x : Cell) : (s.setCell c x).fltHw = s.fltHw := rfl
@[simp] theorem State.setCell_emcy (s : State) (c : Nat) (x : Cell) : (s.setCell c x).emcy = s.emcy := rfl
@[simp] theorem State.setCell_ents (s : State) (c : Nat) (x : Cell) : (s.setCell c x).ents = s.ents := rfl
@[simp] theorem State.setCell_owner (s : State) (c : Nat) (x : Cell) : (s.setCell c x).owner = s.owner := rfl
@[simp] theorem State.setCell_claimAt (s : State) (c : Nat) (x : Cell) : (s.setCell c x).claimAt = s.claimAt := rfl
@[simp] theorem State.setCell_refReason (s : State) (c : Nat) (x : Cell) : (s.setCell c x).refReason = s.refReason := rfl
@[simp] theorem State.setCell_refCount (s : State) (c : Nat) (x : Cell) : (s.setCell c x).refCount = s.refCount := rfl
@[simp] theorem State.setCell_backup (s : State) (c : Nat) (x : Cell) : (s.setCell c x).backup = s.backup := rfl
@[simp] theorem State.setCell_boot (s : State) (c : Nat) (x : Cell) : (s.setCell c x).boot = s.boot := rfl
@[simp] theorem State.setCell_xports (s : State) (c : Nat) (x : Cell) : (s.setCell c x).xports = s.xports := rfl
@[simp] theorem State.setCell_persist (s : State) (c : Nat) (x : Cell) : (s.setCell c x).persist = s.persist := rfl
@[simp] theorem State.setCell_claim (s : State) (c : Nat) (x : Cell) : (s.setCell c x).claim = s.claim := rfl
@[simp] theorem State.setCell_ldicts (s : State) (c : Nat) (x : Cell) : (s.setCell c x).ldicts = s.ldicts := rfl
@[simp] theorem State.setCell_tap (s : State) (c : Nat) (x : Cell) : (s.setCell c x).tap = s.tap := rfl
@[simp] theorem State.setCell_trace (s : State) (c : Nat) (x : Cell) : (s.setCell c x).trace = s.trace := rfl
@[simp] theorem State.setCell_pins (s : State) (c : Nat) (x : Cell) : (s.setCell c x).pins = s.pins := rfl
@[simp] theorem State.setCell_flash (s : State) (c : Nat) (x : Cell) : (s.setCell c x).flash = s.flash := rfl
@[simp] theorem State.setCell_pci (s : State) (c : Nat) (x : Cell) : (s.setCell c x).pci = s.pci := rfl
@[simp] theorem State.setCell_cores (s : State) (c : Nat) (x : Cell) : (s.setCell c x).cores = s.cores := rfl
@[simp] theorem State.setCell_out (s : State) (c : Nat) (x : Cell) : (s.setCell c x).out = s.out := rfl
@[simp] theorem State.setCell_free (s : State) (c : Nat) (x : Cell) : (s.setCell c x).free = s.free := rfl

@[simp] theorem State.setTile_pending (s : State) (t : Nat) (x : TileSt) : (s.setTile t x).pending = s.pending := rfl
@[simp] theorem State.setTile_mode (s : State) (t : Nat) (x : TileSt) : (s.setTile t x).mode = s.mode := rfl
@[simp] theorem State.setTile_tb (s : State) (t : Nat) (x : TileSt) : (s.setTile t x).tb = s.tb := rfl
@[simp] theorem State.setTile_tbFrac (s : State) (t : Nat) (x : TileSt) : (s.setTile t x).tbFrac = s.tbFrac := rfl
@[simp] theorem State.setTile_clockStopped (s : State) (t : Nat) (x : TileSt) : (s.setTile t x).clockStopped = s.clockStopped := rfl
@[simp] theorem State.setTile_clockLost (s : State) (t : Nat) (x : TileSt) : (s.setTile t x).clockLost = s.clockLost := rfl
@[simp] theorem State.setTile_regs (s : State) (t : Nat) (x : TileSt) : (s.setTile t x).regs = s.regs := rfl
@[simp] theorem State.setTile_cycle (s : State) (t : Nat) (x : TileSt) : (s.setTile t x).cycle = s.cycle := rfl
@[simp] theorem State.setTile_mem (s : State) (t : Nat) (x : TileSt) : (s.setTile t x).mem = s.mem := rfl
@[simp] theorem State.setTile_cells (s : State) (t : Nat) (x : TileSt) : (s.setTile t x).cells = s.cells := rfl
@[simp] theorem State.setTile_lanes (s : State) (t : Nat) (x : TileSt) : (s.setTile t x).lanes = s.lanes := rfl
@[simp] theorem State.setTile_liveRemap (s : State) (t : Nat) (x : TileSt) : (s.setTile t x).liveRemap = s.liveRemap := rfl
@[simp] theorem State.setTile_liveLanes (s : State) (t : Nat) (x : TileSt) : (s.setTile t x).liveLanes = s.liveLanes := rfl
@[simp] theorem State.setTile_lecFresh (s : State) (t : Nat) (x : TileSt) : (s.setTile t x).lecFresh = s.lecFresh := rfl
@[simp] theorem State.setTile_events (s : State) (t : Nat) (x : TileSt) : (s.setTile t x).events = s.events := rfl
@[simp] theorem State.setTile_warned (s : State) (t : Nat) (x : TileSt) : (s.setTile t x).warned = s.warned := rfl
@[simp] theorem State.setTile_dom (s : State) (t : Nat) (x : TileSt) : (s.setTile t x).dom = s.dom := rfl
@[simp] theorem State.setTile_rdy (s : State) (t : Nat) (x : TileSt) : (s.setTile t x).rdy = s.rdy := rfl
@[simp] theorem State.setTile_stroke (s : State) (t : Nat) (x : TileSt) : (s.setTile t x).stroke = s.stroke := rfl
@[simp] theorem State.setTile_beacon (s : State) (t : Nat) (x : TileSt) : (s.setTile t x).beacon = s.beacon := rfl
@[simp] theorem State.setTile_ckp (s : State) (t : Nat) (x : TileSt) : (s.setTile t x).ckp = s.ckp := rfl
@[simp] theorem State.setTile_img (s : State) (t : Nat) (x : TileSt) : (s.setTile t x).img = s.img := rfl
@[simp] theorem State.setTile_sends (s : State) (t : Nat) (x : TileSt) : (s.setTile t x).sends = s.sends := rfl
@[simp] theorem State.setTile_flits (s : State) (t : Nat) (x : TileSt) : (s.setTile t x).flits = s.flits := rfl
@[simp] theorem State.setTile_pads (s : State) (t : Nat) (x : TileSt) : (s.setTile t x).pads = s.pads := rfl
@[simp] theorem State.setTile_uflits (s : State) (t : Nat) (x : TileSt) : (s.setTile t x).uflits = s.uflits := rfl
@[simp] theorem State.setTile_uUsed (s : State) (t : Nat) (x : TileSt) : (s.setTile t x).uUsed = s.uUsed := rfl
@[simp] theorem State.setTile_trigs (s : State) (t : Nat) (x : TileSt) : (s.setTile t x).trigs = s.trigs := rfl
@[simp] theorem State.setTile_landings (s : State) (t : Nat) (x : TileSt) : (s.setTile t x).landings = s.landings := rfl
@[simp] theorem State.setTile_hostVals (s : State) (t : Nat) (x : TileSt) : (s.setTile t x).hostVals = s.hostVals := rfl
@[simp] theorem State.setTile_chans (s : State) (t : Nat) (x : TileSt) : (s.setTile t x).chans = s.chans := rfl
@[simp] theorem State.setTile_lastCh (s : State) (t : Nat) (x : TileSt) : (s.setTile t x).lastCh = s.lastCh := rfl
@[simp] theorem State.setTile_msixTab (s : State) (t : Nat) (x : TileSt) : (s.setTile t x).msixTab = s.msixTab := rfl
@[simp] theorem State.setTile_msixPba (s : State) (t : Nat) (x : TileSt) : (s.setTile t x).msixPba = s.msixPba := rfl
@[simp] theorem State.setTile_fltRecs (s : State) (t : Nat) (x : TileSt) : (s.setTile t x).fltRecs = s.fltRecs := rfl
@[simp] theorem State.setTile_fltNext (s : State) (t : Nat) (x : TileSt) : (s.setTile t x).fltNext = s.fltNext := rfl
@[simp] theorem State.setTile_fltAny (s : State) (t : Nat) (x : TileSt) : (s.setTile t x).fltAny = s.fltAny := rfl
@[simp] theorem State.setTile_fltHw (s : State) (t : Nat) (x : TileSt) : (s.setTile t x).fltHw = s.fltHw := rfl
@[simp] theorem State.setTile_emcy (s : State) (t : Nat) (x : TileSt) : (s.setTile t x).emcy = s.emcy := rfl
@[simp] theorem State.setTile_ents (s : State) (t : Nat) (x : TileSt) : (s.setTile t x).ents = s.ents := rfl
@[simp] theorem State.setTile_owner (s : State) (t : Nat) (x : TileSt) : (s.setTile t x).owner = s.owner := rfl
@[simp] theorem State.setTile_claimAt (s : State) (t : Nat) (x : TileSt) : (s.setTile t x).claimAt = s.claimAt := rfl
@[simp] theorem State.setTile_refReason (s : State) (t : Nat) (x : TileSt) : (s.setTile t x).refReason = s.refReason := rfl
@[simp] theorem State.setTile_refCount (s : State) (t : Nat) (x : TileSt) : (s.setTile t x).refCount = s.refCount := rfl
@[simp] theorem State.setTile_backup (s : State) (t : Nat) (x : TileSt) : (s.setTile t x).backup = s.backup := rfl
@[simp] theorem State.setTile_boot (s : State) (t : Nat) (x : TileSt) : (s.setTile t x).boot = s.boot := rfl
@[simp] theorem State.setTile_xports (s : State) (t : Nat) (x : TileSt) : (s.setTile t x).xports = s.xports := rfl
@[simp] theorem State.setTile_persist (s : State) (t : Nat) (x : TileSt) : (s.setTile t x).persist = s.persist := rfl
@[simp] theorem State.setTile_claim (s : State) (t : Nat) (x : TileSt) : (s.setTile t x).claim = s.claim := rfl
@[simp] theorem State.setTile_ldicts (s : State) (t : Nat) (x : TileSt) : (s.setTile t x).ldicts = s.ldicts := rfl
@[simp] theorem State.setTile_tap (s : State) (t : Nat) (x : TileSt) : (s.setTile t x).tap = s.tap := rfl
@[simp] theorem State.setTile_trace (s : State) (t : Nat) (x : TileSt) : (s.setTile t x).trace = s.trace := rfl
@[simp] theorem State.setTile_pins (s : State) (t : Nat) (x : TileSt) : (s.setTile t x).pins = s.pins := rfl
@[simp] theorem State.setTile_flash (s : State) (t : Nat) (x : TileSt) : (s.setTile t x).flash = s.flash := rfl
@[simp] theorem State.setTile_pci (s : State) (t : Nat) (x : TileSt) : (s.setTile t x).pci = s.pci := rfl
@[simp] theorem State.setTile_cores (s : State) (t : Nat) (x : TileSt) : (s.setTile t x).cores = s.cores := rfl
@[simp] theorem State.setTile_out (s : State) (t : Nat) (x : TileSt) : (s.setTile t x).out = s.out := rfl
@[simp] theorem State.setTile_free (s : State) (t : Nat) (x : TileSt) : (s.setTile t x).free = s.free := rfl

@[simp] theorem State.setLane_pending (s : State) (n : Nat) (x : LaneSt) : (s.setLane n x).pending = s.pending := rfl
@[simp] theorem State.setLane_mode (s : State) (n : Nat) (x : LaneSt) : (s.setLane n x).mode = s.mode := rfl
@[simp] theorem State.setLane_tb (s : State) (n : Nat) (x : LaneSt) : (s.setLane n x).tb = s.tb := rfl
@[simp] theorem State.setLane_tbFrac (s : State) (n : Nat) (x : LaneSt) : (s.setLane n x).tbFrac = s.tbFrac := rfl
@[simp] theorem State.setLane_clockStopped (s : State) (n : Nat) (x : LaneSt) : (s.setLane n x).clockStopped = s.clockStopped := rfl
@[simp] theorem State.setLane_clockLost (s : State) (n : Nat) (x : LaneSt) : (s.setLane n x).clockLost = s.clockLost := rfl
@[simp] theorem State.setLane_regs (s : State) (n : Nat) (x : LaneSt) : (s.setLane n x).regs = s.regs := rfl
@[simp] theorem State.setLane_cycle (s : State) (n : Nat) (x : LaneSt) : (s.setLane n x).cycle = s.cycle := rfl
@[simp] theorem State.setLane_mem (s : State) (n : Nat) (x : LaneSt) : (s.setLane n x).mem = s.mem := rfl
@[simp] theorem State.setLane_cells (s : State) (n : Nat) (x : LaneSt) : (s.setLane n x).cells = s.cells := rfl
@[simp] theorem State.setLane_tiles (s : State) (n : Nat) (x : LaneSt) : (s.setLane n x).tiles = s.tiles := rfl
@[simp] theorem State.setLane_liveRemap (s : State) (n : Nat) (x : LaneSt) : (s.setLane n x).liveRemap = s.liveRemap := rfl
@[simp] theorem State.setLane_liveLanes (s : State) (n : Nat) (x : LaneSt) : (s.setLane n x).liveLanes = s.liveLanes := rfl
@[simp] theorem State.setLane_lecFresh (s : State) (n : Nat) (x : LaneSt) : (s.setLane n x).lecFresh = s.lecFresh := rfl
@[simp] theorem State.setLane_events (s : State) (n : Nat) (x : LaneSt) : (s.setLane n x).events = s.events := rfl
@[simp] theorem State.setLane_warned (s : State) (n : Nat) (x : LaneSt) : (s.setLane n x).warned = s.warned := rfl
@[simp] theorem State.setLane_dom (s : State) (n : Nat) (x : LaneSt) : (s.setLane n x).dom = s.dom := rfl
@[simp] theorem State.setLane_rdy (s : State) (n : Nat) (x : LaneSt) : (s.setLane n x).rdy = s.rdy := rfl
@[simp] theorem State.setLane_stroke (s : State) (n : Nat) (x : LaneSt) : (s.setLane n x).stroke = s.stroke := rfl
@[simp] theorem State.setLane_beacon (s : State) (n : Nat) (x : LaneSt) : (s.setLane n x).beacon = s.beacon := rfl
@[simp] theorem State.setLane_ckp (s : State) (n : Nat) (x : LaneSt) : (s.setLane n x).ckp = s.ckp := rfl
@[simp] theorem State.setLane_img (s : State) (n : Nat) (x : LaneSt) : (s.setLane n x).img = s.img := rfl
@[simp] theorem State.setLane_sends (s : State) (n : Nat) (x : LaneSt) : (s.setLane n x).sends = s.sends := rfl
@[simp] theorem State.setLane_flits (s : State) (n : Nat) (x : LaneSt) : (s.setLane n x).flits = s.flits := rfl
@[simp] theorem State.setLane_pads (s : State) (n : Nat) (x : LaneSt) : (s.setLane n x).pads = s.pads := rfl
@[simp] theorem State.setLane_uflits (s : State) (n : Nat) (x : LaneSt) : (s.setLane n x).uflits = s.uflits := rfl
@[simp] theorem State.setLane_uUsed (s : State) (n : Nat) (x : LaneSt) : (s.setLane n x).uUsed = s.uUsed := rfl
@[simp] theorem State.setLane_trigs (s : State) (n : Nat) (x : LaneSt) : (s.setLane n x).trigs = s.trigs := rfl
@[simp] theorem State.setLane_landings (s : State) (n : Nat) (x : LaneSt) : (s.setLane n x).landings = s.landings := rfl
@[simp] theorem State.setLane_hostVals (s : State) (n : Nat) (x : LaneSt) : (s.setLane n x).hostVals = s.hostVals := rfl
@[simp] theorem State.setLane_chans (s : State) (n : Nat) (x : LaneSt) : (s.setLane n x).chans = s.chans := rfl
@[simp] theorem State.setLane_lastCh (s : State) (n : Nat) (x : LaneSt) : (s.setLane n x).lastCh = s.lastCh := rfl
@[simp] theorem State.setLane_msixTab (s : State) (n : Nat) (x : LaneSt) : (s.setLane n x).msixTab = s.msixTab := rfl
@[simp] theorem State.setLane_msixPba (s : State) (n : Nat) (x : LaneSt) : (s.setLane n x).msixPba = s.msixPba := rfl
@[simp] theorem State.setLane_fltRecs (s : State) (n : Nat) (x : LaneSt) : (s.setLane n x).fltRecs = s.fltRecs := rfl
@[simp] theorem State.setLane_fltNext (s : State) (n : Nat) (x : LaneSt) : (s.setLane n x).fltNext = s.fltNext := rfl
@[simp] theorem State.setLane_fltAny (s : State) (n : Nat) (x : LaneSt) : (s.setLane n x).fltAny = s.fltAny := rfl
@[simp] theorem State.setLane_fltHw (s : State) (n : Nat) (x : LaneSt) : (s.setLane n x).fltHw = s.fltHw := rfl
@[simp] theorem State.setLane_emcy (s : State) (n : Nat) (x : LaneSt) : (s.setLane n x).emcy = s.emcy := rfl
@[simp] theorem State.setLane_ents (s : State) (n : Nat) (x : LaneSt) : (s.setLane n x).ents = s.ents := rfl
@[simp] theorem State.setLane_owner (s : State) (n : Nat) (x : LaneSt) : (s.setLane n x).owner = s.owner := rfl
@[simp] theorem State.setLane_claimAt (s : State) (n : Nat) (x : LaneSt) : (s.setLane n x).claimAt = s.claimAt := rfl
@[simp] theorem State.setLane_refReason (s : State) (n : Nat) (x : LaneSt) : (s.setLane n x).refReason = s.refReason := rfl
@[simp] theorem State.setLane_refCount (s : State) (n : Nat) (x : LaneSt) : (s.setLane n x).refCount = s.refCount := rfl
@[simp] theorem State.setLane_backup (s : State) (n : Nat) (x : LaneSt) : (s.setLane n x).backup = s.backup := rfl
@[simp] theorem State.setLane_boot (s : State) (n : Nat) (x : LaneSt) : (s.setLane n x).boot = s.boot := rfl
@[simp] theorem State.setLane_xports (s : State) (n : Nat) (x : LaneSt) : (s.setLane n x).xports = s.xports := rfl
@[simp] theorem State.setLane_persist (s : State) (n : Nat) (x : LaneSt) : (s.setLane n x).persist = s.persist := rfl
@[simp] theorem State.setLane_claim (s : State) (n : Nat) (x : LaneSt) : (s.setLane n x).claim = s.claim := rfl
@[simp] theorem State.setLane_ldicts (s : State) (n : Nat) (x : LaneSt) : (s.setLane n x).ldicts = s.ldicts := rfl
@[simp] theorem State.setLane_tap (s : State) (n : Nat) (x : LaneSt) : (s.setLane n x).tap = s.tap := rfl
@[simp] theorem State.setLane_trace (s : State) (n : Nat) (x : LaneSt) : (s.setLane n x).trace = s.trace := rfl
@[simp] theorem State.setLane_pins (s : State) (n : Nat) (x : LaneSt) : (s.setLane n x).pins = s.pins := rfl
@[simp] theorem State.setLane_flash (s : State) (n : Nat) (x : LaneSt) : (s.setLane n x).flash = s.flash := rfl
@[simp] theorem State.setLane_pci (s : State) (n : Nat) (x : LaneSt) : (s.setLane n x).pci = s.pci := rfl
@[simp] theorem State.setLane_cores (s : State) (n : Nat) (x : LaneSt) : (s.setLane n x).cores = s.cores := rfl
@[simp] theorem State.setLane_out (s : State) (n : Nat) (x : LaneSt) : (s.setLane n x).out = s.out := rfl
@[simp] theorem State.setLane_free (s : State) (n : Nat) (x : LaneSt) : (s.setLane n x).free = s.free := rfl

@[simp] theorem State.setCore_pending (s : State) (n : Nat) (x : CoreSt) : (s.setCore n x).pending = s.pending := rfl
@[simp] theorem State.setCore_mode (s : State) (n : Nat) (x : CoreSt) : (s.setCore n x).mode = s.mode := rfl
@[simp] theorem State.setCore_tb (s : State) (n : Nat) (x : CoreSt) : (s.setCore n x).tb = s.tb := rfl
@[simp] theorem State.setCore_tbFrac (s : State) (n : Nat) (x : CoreSt) : (s.setCore n x).tbFrac = s.tbFrac := rfl
@[simp] theorem State.setCore_clockStopped (s : State) (n : Nat) (x : CoreSt) : (s.setCore n x).clockStopped = s.clockStopped := rfl
@[simp] theorem State.setCore_clockLost (s : State) (n : Nat) (x : CoreSt) : (s.setCore n x).clockLost = s.clockLost := rfl
@[simp] theorem State.setCore_regs (s : State) (n : Nat) (x : CoreSt) : (s.setCore n x).regs = s.regs := rfl
@[simp] theorem State.setCore_cycle (s : State) (n : Nat) (x : CoreSt) : (s.setCore n x).cycle = s.cycle := rfl
@[simp] theorem State.setCore_mem (s : State) (n : Nat) (x : CoreSt) : (s.setCore n x).mem = s.mem := rfl
@[simp] theorem State.setCore_cells (s : State) (n : Nat) (x : CoreSt) : (s.setCore n x).cells = s.cells := rfl
@[simp] theorem State.setCore_tiles (s : State) (n : Nat) (x : CoreSt) : (s.setCore n x).tiles = s.tiles := rfl
@[simp] theorem State.setCore_lanes (s : State) (n : Nat) (x : CoreSt) : (s.setCore n x).lanes = s.lanes := rfl
@[simp] theorem State.setCore_liveRemap (s : State) (n : Nat) (x : CoreSt) : (s.setCore n x).liveRemap = s.liveRemap := rfl
@[simp] theorem State.setCore_liveLanes (s : State) (n : Nat) (x : CoreSt) : (s.setCore n x).liveLanes = s.liveLanes := rfl
@[simp] theorem State.setCore_lecFresh (s : State) (n : Nat) (x : CoreSt) : (s.setCore n x).lecFresh = s.lecFresh := rfl
@[simp] theorem State.setCore_events (s : State) (n : Nat) (x : CoreSt) : (s.setCore n x).events = s.events := rfl
@[simp] theorem State.setCore_warned (s : State) (n : Nat) (x : CoreSt) : (s.setCore n x).warned = s.warned := rfl
@[simp] theorem State.setCore_dom (s : State) (n : Nat) (x : CoreSt) : (s.setCore n x).dom = s.dom := rfl
@[simp] theorem State.setCore_rdy (s : State) (n : Nat) (x : CoreSt) : (s.setCore n x).rdy = s.rdy := rfl
@[simp] theorem State.setCore_stroke (s : State) (n : Nat) (x : CoreSt) : (s.setCore n x).stroke = s.stroke := rfl
@[simp] theorem State.setCore_beacon (s : State) (n : Nat) (x : CoreSt) : (s.setCore n x).beacon = s.beacon := rfl
@[simp] theorem State.setCore_ckp (s : State) (n : Nat) (x : CoreSt) : (s.setCore n x).ckp = s.ckp := rfl
@[simp] theorem State.setCore_img (s : State) (n : Nat) (x : CoreSt) : (s.setCore n x).img = s.img := rfl
@[simp] theorem State.setCore_sends (s : State) (n : Nat) (x : CoreSt) : (s.setCore n x).sends = s.sends := rfl
@[simp] theorem State.setCore_flits (s : State) (n : Nat) (x : CoreSt) : (s.setCore n x).flits = s.flits := rfl
@[simp] theorem State.setCore_pads (s : State) (n : Nat) (x : CoreSt) : (s.setCore n x).pads = s.pads := rfl
@[simp] theorem State.setCore_uflits (s : State) (n : Nat) (x : CoreSt) : (s.setCore n x).uflits = s.uflits := rfl
@[simp] theorem State.setCore_uUsed (s : State) (n : Nat) (x : CoreSt) : (s.setCore n x).uUsed = s.uUsed := rfl
@[simp] theorem State.setCore_trigs (s : State) (n : Nat) (x : CoreSt) : (s.setCore n x).trigs = s.trigs := rfl
@[simp] theorem State.setCore_landings (s : State) (n : Nat) (x : CoreSt) : (s.setCore n x).landings = s.landings := rfl
@[simp] theorem State.setCore_hostVals (s : State) (n : Nat) (x : CoreSt) : (s.setCore n x).hostVals = s.hostVals := rfl
@[simp] theorem State.setCore_chans (s : State) (n : Nat) (x : CoreSt) : (s.setCore n x).chans = s.chans := rfl
@[simp] theorem State.setCore_lastCh (s : State) (n : Nat) (x : CoreSt) : (s.setCore n x).lastCh = s.lastCh := rfl
@[simp] theorem State.setCore_msixTab (s : State) (n : Nat) (x : CoreSt) : (s.setCore n x).msixTab = s.msixTab := rfl
@[simp] theorem State.setCore_msixPba (s : State) (n : Nat) (x : CoreSt) : (s.setCore n x).msixPba = s.msixPba := rfl
@[simp] theorem State.setCore_fltRecs (s : State) (n : Nat) (x : CoreSt) : (s.setCore n x).fltRecs = s.fltRecs := rfl
@[simp] theorem State.setCore_fltNext (s : State) (n : Nat) (x : CoreSt) : (s.setCore n x).fltNext = s.fltNext := rfl
@[simp] theorem State.setCore_fltAny (s : State) (n : Nat) (x : CoreSt) : (s.setCore n x).fltAny = s.fltAny := rfl
@[simp] theorem State.setCore_fltHw (s : State) (n : Nat) (x : CoreSt) : (s.setCore n x).fltHw = s.fltHw := rfl
@[simp] theorem State.setCore_emcy (s : State) (n : Nat) (x : CoreSt) : (s.setCore n x).emcy = s.emcy := rfl
@[simp] theorem State.setCore_ents (s : State) (n : Nat) (x : CoreSt) : (s.setCore n x).ents = s.ents := rfl
@[simp] theorem State.setCore_owner (s : State) (n : Nat) (x : CoreSt) : (s.setCore n x).owner = s.owner := rfl
@[simp] theorem State.setCore_claimAt (s : State) (n : Nat) (x : CoreSt) : (s.setCore n x).claimAt = s.claimAt := rfl
@[simp] theorem State.setCore_refReason (s : State) (n : Nat) (x : CoreSt) : (s.setCore n x).refReason = s.refReason := rfl
@[simp] theorem State.setCore_refCount (s : State) (n : Nat) (x : CoreSt) : (s.setCore n x).refCount = s.refCount := rfl
@[simp] theorem State.setCore_backup (s : State) (n : Nat) (x : CoreSt) : (s.setCore n x).backup = s.backup := rfl
@[simp] theorem State.setCore_boot (s : State) (n : Nat) (x : CoreSt) : (s.setCore n x).boot = s.boot := rfl
@[simp] theorem State.setCore_xports (s : State) (n : Nat) (x : CoreSt) : (s.setCore n x).xports = s.xports := rfl
@[simp] theorem State.setCore_persist (s : State) (n : Nat) (x : CoreSt) : (s.setCore n x).persist = s.persist := rfl
@[simp] theorem State.setCore_claim (s : State) (n : Nat) (x : CoreSt) : (s.setCore n x).claim = s.claim := rfl
@[simp] theorem State.setCore_ldicts (s : State) (n : Nat) (x : CoreSt) : (s.setCore n x).ldicts = s.ldicts := rfl
@[simp] theorem State.setCore_tap (s : State) (n : Nat) (x : CoreSt) : (s.setCore n x).tap = s.tap := rfl
@[simp] theorem State.setCore_trace (s : State) (n : Nat) (x : CoreSt) : (s.setCore n x).trace = s.trace := rfl
@[simp] theorem State.setCore_pins (s : State) (n : Nat) (x : CoreSt) : (s.setCore n x).pins = s.pins := rfl
@[simp] theorem State.setCore_flash (s : State) (n : Nat) (x : CoreSt) : (s.setCore n x).flash = s.flash := rfl
@[simp] theorem State.setCore_pci (s : State) (n : Nat) (x : CoreSt) : (s.setCore n x).pci = s.pci := rfl
@[simp] theorem State.setCore_out (s : State) (n : Nat) (x : CoreSt) : (s.setCore n x).out = s.out := rfl
@[simp] theorem State.setCore_free (s : State) (n : Nat) (x : CoreSt) : (s.setCore n x).free = s.free := rfl

@[simp] theorem State.setStroke_pending (s : State) (x : StrokeSt) : (s.setStroke x).pending = s.pending := rfl
@[simp] theorem State.setStroke_mode (s : State) (x : StrokeSt) : (s.setStroke x).mode = s.mode := rfl
@[simp] theorem State.setStroke_tb (s : State) (x : StrokeSt) : (s.setStroke x).tb = s.tb := rfl
@[simp] theorem State.setStroke_tbFrac (s : State) (x : StrokeSt) : (s.setStroke x).tbFrac = s.tbFrac := rfl
@[simp] theorem State.setStroke_clockStopped (s : State) (x : StrokeSt) : (s.setStroke x).clockStopped = s.clockStopped := rfl
@[simp] theorem State.setStroke_clockLost (s : State) (x : StrokeSt) : (s.setStroke x).clockLost = s.clockLost := rfl
@[simp] theorem State.setStroke_regs (s : State) (x : StrokeSt) : (s.setStroke x).regs = s.regs := rfl
@[simp] theorem State.setStroke_cycle (s : State) (x : StrokeSt) : (s.setStroke x).cycle = s.cycle := rfl
@[simp] theorem State.setStroke_mem (s : State) (x : StrokeSt) : (s.setStroke x).mem = s.mem := rfl
@[simp] theorem State.setStroke_cells (s : State) (x : StrokeSt) : (s.setStroke x).cells = s.cells := rfl
@[simp] theorem State.setStroke_tiles (s : State) (x : StrokeSt) : (s.setStroke x).tiles = s.tiles := rfl
@[simp] theorem State.setStroke_lanes (s : State) (x : StrokeSt) : (s.setStroke x).lanes = s.lanes := rfl
@[simp] theorem State.setStroke_liveRemap (s : State) (x : StrokeSt) : (s.setStroke x).liveRemap = s.liveRemap := rfl
@[simp] theorem State.setStroke_liveLanes (s : State) (x : StrokeSt) : (s.setStroke x).liveLanes = s.liveLanes := rfl
@[simp] theorem State.setStroke_lecFresh (s : State) (x : StrokeSt) : (s.setStroke x).lecFresh = s.lecFresh := rfl
@[simp] theorem State.setStroke_events (s : State) (x : StrokeSt) : (s.setStroke x).events = s.events := rfl
@[simp] theorem State.setStroke_warned (s : State) (x : StrokeSt) : (s.setStroke x).warned = s.warned := rfl
@[simp] theorem State.setStroke_dom (s : State) (x : StrokeSt) : (s.setStroke x).dom = s.dom := rfl
@[simp] theorem State.setStroke_rdy (s : State) (x : StrokeSt) : (s.setStroke x).rdy = s.rdy := rfl
@[simp] theorem State.setStroke_beacon (s : State) (x : StrokeSt) : (s.setStroke x).beacon = s.beacon := rfl
@[simp] theorem State.setStroke_ckp (s : State) (x : StrokeSt) : (s.setStroke x).ckp = s.ckp := rfl
@[simp] theorem State.setStroke_img (s : State) (x : StrokeSt) : (s.setStroke x).img = s.img := rfl
@[simp] theorem State.setStroke_sends (s : State) (x : StrokeSt) : (s.setStroke x).sends = s.sends := rfl
@[simp] theorem State.setStroke_flits (s : State) (x : StrokeSt) : (s.setStroke x).flits = s.flits := rfl
@[simp] theorem State.setStroke_pads (s : State) (x : StrokeSt) : (s.setStroke x).pads = s.pads := rfl
@[simp] theorem State.setStroke_uflits (s : State) (x : StrokeSt) : (s.setStroke x).uflits = s.uflits := rfl
@[simp] theorem State.setStroke_uUsed (s : State) (x : StrokeSt) : (s.setStroke x).uUsed = s.uUsed := rfl
@[simp] theorem State.setStroke_trigs (s : State) (x : StrokeSt) : (s.setStroke x).trigs = s.trigs := rfl
@[simp] theorem State.setStroke_landings (s : State) (x : StrokeSt) : (s.setStroke x).landings = s.landings := rfl
@[simp] theorem State.setStroke_hostVals (s : State) (x : StrokeSt) : (s.setStroke x).hostVals = s.hostVals := rfl
@[simp] theorem State.setStroke_chans (s : State) (x : StrokeSt) : (s.setStroke x).chans = s.chans := rfl
@[simp] theorem State.setStroke_lastCh (s : State) (x : StrokeSt) : (s.setStroke x).lastCh = s.lastCh := rfl
@[simp] theorem State.setStroke_msixTab (s : State) (x : StrokeSt) : (s.setStroke x).msixTab = s.msixTab := rfl
@[simp] theorem State.setStroke_msixPba (s : State) (x : StrokeSt) : (s.setStroke x).msixPba = s.msixPba := rfl
@[simp] theorem State.setStroke_fltRecs (s : State) (x : StrokeSt) : (s.setStroke x).fltRecs = s.fltRecs := rfl
@[simp] theorem State.setStroke_fltNext (s : State) (x : StrokeSt) : (s.setStroke x).fltNext = s.fltNext := rfl
@[simp] theorem State.setStroke_fltAny (s : State) (x : StrokeSt) : (s.setStroke x).fltAny = s.fltAny := rfl
@[simp] theorem State.setStroke_fltHw (s : State) (x : StrokeSt) : (s.setStroke x).fltHw = s.fltHw := rfl
@[simp] theorem State.setStroke_emcy (s : State) (x : StrokeSt) : (s.setStroke x).emcy = s.emcy := rfl
@[simp] theorem State.setStroke_ents (s : State) (x : StrokeSt) : (s.setStroke x).ents = s.ents := rfl
@[simp] theorem State.setStroke_owner (s : State) (x : StrokeSt) : (s.setStroke x).owner = s.owner := rfl
@[simp] theorem State.setStroke_claimAt (s : State) (x : StrokeSt) : (s.setStroke x).claimAt = s.claimAt := rfl
@[simp] theorem State.setStroke_refReason (s : State) (x : StrokeSt) : (s.setStroke x).refReason = s.refReason := rfl
@[simp] theorem State.setStroke_refCount (s : State) (x : StrokeSt) : (s.setStroke x).refCount = s.refCount := rfl
@[simp] theorem State.setStroke_backup (s : State) (x : StrokeSt) : (s.setStroke x).backup = s.backup := rfl
@[simp] theorem State.setStroke_boot (s : State) (x : StrokeSt) : (s.setStroke x).boot = s.boot := rfl
@[simp] theorem State.setStroke_xports (s : State) (x : StrokeSt) : (s.setStroke x).xports = s.xports := rfl
@[simp] theorem State.setStroke_persist (s : State) (x : StrokeSt) : (s.setStroke x).persist = s.persist := rfl
@[simp] theorem State.setStroke_claim (s : State) (x : StrokeSt) : (s.setStroke x).claim = s.claim := rfl
@[simp] theorem State.setStroke_ldicts (s : State) (x : StrokeSt) : (s.setStroke x).ldicts = s.ldicts := rfl
@[simp] theorem State.setStroke_tap (s : State) (x : StrokeSt) : (s.setStroke x).tap = s.tap := rfl
@[simp] theorem State.setStroke_trace (s : State) (x : StrokeSt) : (s.setStroke x).trace = s.trace := rfl
@[simp] theorem State.setStroke_pins (s : State) (x : StrokeSt) : (s.setStroke x).pins = s.pins := rfl
@[simp] theorem State.setStroke_flash (s : State) (x : StrokeSt) : (s.setStroke x).flash = s.flash := rfl
@[simp] theorem State.setStroke_pci (s : State) (x : StrokeSt) : (s.setStroke x).pci = s.pci := rfl
@[simp] theorem State.setStroke_cores (s : State) (x : StrokeSt) : (s.setStroke x).cores = s.cores := rfl
@[simp] theorem State.setStroke_out (s : State) (x : StrokeSt) : (s.setStroke x).out = s.out := rfl
@[simp] theorem State.setStroke_free (s : State) (x : StrokeSt) : (s.setStroke x).free = s.free := rfl

@[simp] theorem State.setCkp_pending (s : State) (x : CkpSt) : (s.setCkp x).pending = s.pending := rfl
@[simp] theorem State.setCkp_mode (s : State) (x : CkpSt) : (s.setCkp x).mode = s.mode := rfl
@[simp] theorem State.setCkp_tb (s : State) (x : CkpSt) : (s.setCkp x).tb = s.tb := rfl
@[simp] theorem State.setCkp_tbFrac (s : State) (x : CkpSt) : (s.setCkp x).tbFrac = s.tbFrac := rfl
@[simp] theorem State.setCkp_clockStopped (s : State) (x : CkpSt) : (s.setCkp x).clockStopped = s.clockStopped := rfl
@[simp] theorem State.setCkp_clockLost (s : State) (x : CkpSt) : (s.setCkp x).clockLost = s.clockLost := rfl
@[simp] theorem State.setCkp_regs (s : State) (x : CkpSt) : (s.setCkp x).regs = s.regs := rfl
@[simp] theorem State.setCkp_cycle (s : State) (x : CkpSt) : (s.setCkp x).cycle = s.cycle := rfl
@[simp] theorem State.setCkp_mem (s : State) (x : CkpSt) : (s.setCkp x).mem = s.mem := rfl
@[simp] theorem State.setCkp_cells (s : State) (x : CkpSt) : (s.setCkp x).cells = s.cells := rfl
@[simp] theorem State.setCkp_tiles (s : State) (x : CkpSt) : (s.setCkp x).tiles = s.tiles := rfl
@[simp] theorem State.setCkp_lanes (s : State) (x : CkpSt) : (s.setCkp x).lanes = s.lanes := rfl
@[simp] theorem State.setCkp_liveRemap (s : State) (x : CkpSt) : (s.setCkp x).liveRemap = s.liveRemap := rfl
@[simp] theorem State.setCkp_liveLanes (s : State) (x : CkpSt) : (s.setCkp x).liveLanes = s.liveLanes := rfl
@[simp] theorem State.setCkp_lecFresh (s : State) (x : CkpSt) : (s.setCkp x).lecFresh = s.lecFresh := rfl
@[simp] theorem State.setCkp_events (s : State) (x : CkpSt) : (s.setCkp x).events = s.events := rfl
@[simp] theorem State.setCkp_warned (s : State) (x : CkpSt) : (s.setCkp x).warned = s.warned := rfl
@[simp] theorem State.setCkp_dom (s : State) (x : CkpSt) : (s.setCkp x).dom = s.dom := rfl
@[simp] theorem State.setCkp_rdy (s : State) (x : CkpSt) : (s.setCkp x).rdy = s.rdy := rfl
@[simp] theorem State.setCkp_stroke (s : State) (x : CkpSt) : (s.setCkp x).stroke = s.stroke := rfl
@[simp] theorem State.setCkp_beacon (s : State) (x : CkpSt) : (s.setCkp x).beacon = s.beacon := rfl
@[simp] theorem State.setCkp_img (s : State) (x : CkpSt) : (s.setCkp x).img = s.img := rfl
@[simp] theorem State.setCkp_sends (s : State) (x : CkpSt) : (s.setCkp x).sends = s.sends := rfl
@[simp] theorem State.setCkp_flits (s : State) (x : CkpSt) : (s.setCkp x).flits = s.flits := rfl
@[simp] theorem State.setCkp_pads (s : State) (x : CkpSt) : (s.setCkp x).pads = s.pads := rfl
@[simp] theorem State.setCkp_uflits (s : State) (x : CkpSt) : (s.setCkp x).uflits = s.uflits := rfl
@[simp] theorem State.setCkp_uUsed (s : State) (x : CkpSt) : (s.setCkp x).uUsed = s.uUsed := rfl
@[simp] theorem State.setCkp_trigs (s : State) (x : CkpSt) : (s.setCkp x).trigs = s.trigs := rfl
@[simp] theorem State.setCkp_landings (s : State) (x : CkpSt) : (s.setCkp x).landings = s.landings := rfl
@[simp] theorem State.setCkp_hostVals (s : State) (x : CkpSt) : (s.setCkp x).hostVals = s.hostVals := rfl
@[simp] theorem State.setCkp_chans (s : State) (x : CkpSt) : (s.setCkp x).chans = s.chans := rfl
@[simp] theorem State.setCkp_lastCh (s : State) (x : CkpSt) : (s.setCkp x).lastCh = s.lastCh := rfl
@[simp] theorem State.setCkp_msixTab (s : State) (x : CkpSt) : (s.setCkp x).msixTab = s.msixTab := rfl
@[simp] theorem State.setCkp_msixPba (s : State) (x : CkpSt) : (s.setCkp x).msixPba = s.msixPba := rfl
@[simp] theorem State.setCkp_fltRecs (s : State) (x : CkpSt) : (s.setCkp x).fltRecs = s.fltRecs := rfl
@[simp] theorem State.setCkp_fltNext (s : State) (x : CkpSt) : (s.setCkp x).fltNext = s.fltNext := rfl
@[simp] theorem State.setCkp_fltAny (s : State) (x : CkpSt) : (s.setCkp x).fltAny = s.fltAny := rfl
@[simp] theorem State.setCkp_fltHw (s : State) (x : CkpSt) : (s.setCkp x).fltHw = s.fltHw := rfl
@[simp] theorem State.setCkp_emcy (s : State) (x : CkpSt) : (s.setCkp x).emcy = s.emcy := rfl
@[simp] theorem State.setCkp_ents (s : State) (x : CkpSt) : (s.setCkp x).ents = s.ents := rfl
@[simp] theorem State.setCkp_owner (s : State) (x : CkpSt) : (s.setCkp x).owner = s.owner := rfl
@[simp] theorem State.setCkp_claimAt (s : State) (x : CkpSt) : (s.setCkp x).claimAt = s.claimAt := rfl
@[simp] theorem State.setCkp_refReason (s : State) (x : CkpSt) : (s.setCkp x).refReason = s.refReason := rfl
@[simp] theorem State.setCkp_refCount (s : State) (x : CkpSt) : (s.setCkp x).refCount = s.refCount := rfl
@[simp] theorem State.setCkp_backup (s : State) (x : CkpSt) : (s.setCkp x).backup = s.backup := rfl
@[simp] theorem State.setCkp_boot (s : State) (x : CkpSt) : (s.setCkp x).boot = s.boot := rfl
@[simp] theorem State.setCkp_xports (s : State) (x : CkpSt) : (s.setCkp x).xports = s.xports := rfl
@[simp] theorem State.setCkp_persist (s : State) (x : CkpSt) : (s.setCkp x).persist = s.persist := rfl
@[simp] theorem State.setCkp_claim (s : State) (x : CkpSt) : (s.setCkp x).claim = s.claim := rfl
@[simp] theorem State.setCkp_ldicts (s : State) (x : CkpSt) : (s.setCkp x).ldicts = s.ldicts := rfl
@[simp] theorem State.setCkp_tap (s : State) (x : CkpSt) : (s.setCkp x).tap = s.tap := rfl
@[simp] theorem State.setCkp_trace (s : State) (x : CkpSt) : (s.setCkp x).trace = s.trace := rfl
@[simp] theorem State.setCkp_pins (s : State) (x : CkpSt) : (s.setCkp x).pins = s.pins := rfl
@[simp] theorem State.setCkp_flash (s : State) (x : CkpSt) : (s.setCkp x).flash = s.flash := rfl
@[simp] theorem State.setCkp_pci (s : State) (x : CkpSt) : (s.setCkp x).pci = s.pci := rfl
@[simp] theorem State.setCkp_cores (s : State) (x : CkpSt) : (s.setCkp x).cores = s.cores := rfl
@[simp] theorem State.setCkp_out (s : State) (x : CkpSt) : (s.setCkp x).out = s.out := rfl
@[simp] theorem State.setCkp_free (s : State) (x : CkpSt) : (s.setCkp x).free = s.free := rfl

@[simp] theorem State.setBeacon_pending (s : State) (x : BeaconSt) : (s.setBeacon x).pending = s.pending := rfl
@[simp] theorem State.setBeacon_mode (s : State) (x : BeaconSt) : (s.setBeacon x).mode = s.mode := rfl
@[simp] theorem State.setBeacon_tb (s : State) (x : BeaconSt) : (s.setBeacon x).tb = s.tb := rfl
@[simp] theorem State.setBeacon_tbFrac (s : State) (x : BeaconSt) : (s.setBeacon x).tbFrac = s.tbFrac := rfl
@[simp] theorem State.setBeacon_clockStopped (s : State) (x : BeaconSt) : (s.setBeacon x).clockStopped = s.clockStopped := rfl
@[simp] theorem State.setBeacon_clockLost (s : State) (x : BeaconSt) : (s.setBeacon x).clockLost = s.clockLost := rfl
@[simp] theorem State.setBeacon_regs (s : State) (x : BeaconSt) : (s.setBeacon x).regs = s.regs := rfl
@[simp] theorem State.setBeacon_cycle (s : State) (x : BeaconSt) : (s.setBeacon x).cycle = s.cycle := rfl
@[simp] theorem State.setBeacon_mem (s : State) (x : BeaconSt) : (s.setBeacon x).mem = s.mem := rfl
@[simp] theorem State.setBeacon_cells (s : State) (x : BeaconSt) : (s.setBeacon x).cells = s.cells := rfl
@[simp] theorem State.setBeacon_tiles (s : State) (x : BeaconSt) : (s.setBeacon x).tiles = s.tiles := rfl
@[simp] theorem State.setBeacon_lanes (s : State) (x : BeaconSt) : (s.setBeacon x).lanes = s.lanes := rfl
@[simp] theorem State.setBeacon_liveRemap (s : State) (x : BeaconSt) : (s.setBeacon x).liveRemap = s.liveRemap := rfl
@[simp] theorem State.setBeacon_liveLanes (s : State) (x : BeaconSt) : (s.setBeacon x).liveLanes = s.liveLanes := rfl
@[simp] theorem State.setBeacon_lecFresh (s : State) (x : BeaconSt) : (s.setBeacon x).lecFresh = s.lecFresh := rfl
@[simp] theorem State.setBeacon_events (s : State) (x : BeaconSt) : (s.setBeacon x).events = s.events := rfl
@[simp] theorem State.setBeacon_warned (s : State) (x : BeaconSt) : (s.setBeacon x).warned = s.warned := rfl
@[simp] theorem State.setBeacon_dom (s : State) (x : BeaconSt) : (s.setBeacon x).dom = s.dom := rfl
@[simp] theorem State.setBeacon_rdy (s : State) (x : BeaconSt) : (s.setBeacon x).rdy = s.rdy := rfl
@[simp] theorem State.setBeacon_stroke (s : State) (x : BeaconSt) : (s.setBeacon x).stroke = s.stroke := rfl
@[simp] theorem State.setBeacon_ckp (s : State) (x : BeaconSt) : (s.setBeacon x).ckp = s.ckp := rfl
@[simp] theorem State.setBeacon_img (s : State) (x : BeaconSt) : (s.setBeacon x).img = s.img := rfl
@[simp] theorem State.setBeacon_sends (s : State) (x : BeaconSt) : (s.setBeacon x).sends = s.sends := rfl
@[simp] theorem State.setBeacon_flits (s : State) (x : BeaconSt) : (s.setBeacon x).flits = s.flits := rfl
@[simp] theorem State.setBeacon_pads (s : State) (x : BeaconSt) : (s.setBeacon x).pads = s.pads := rfl
@[simp] theorem State.setBeacon_uflits (s : State) (x : BeaconSt) : (s.setBeacon x).uflits = s.uflits := rfl
@[simp] theorem State.setBeacon_uUsed (s : State) (x : BeaconSt) : (s.setBeacon x).uUsed = s.uUsed := rfl
@[simp] theorem State.setBeacon_trigs (s : State) (x : BeaconSt) : (s.setBeacon x).trigs = s.trigs := rfl
@[simp] theorem State.setBeacon_landings (s : State) (x : BeaconSt) : (s.setBeacon x).landings = s.landings := rfl
@[simp] theorem State.setBeacon_hostVals (s : State) (x : BeaconSt) : (s.setBeacon x).hostVals = s.hostVals := rfl
@[simp] theorem State.setBeacon_chans (s : State) (x : BeaconSt) : (s.setBeacon x).chans = s.chans := rfl
@[simp] theorem State.setBeacon_lastCh (s : State) (x : BeaconSt) : (s.setBeacon x).lastCh = s.lastCh := rfl
@[simp] theorem State.setBeacon_msixTab (s : State) (x : BeaconSt) : (s.setBeacon x).msixTab = s.msixTab := rfl
@[simp] theorem State.setBeacon_msixPba (s : State) (x : BeaconSt) : (s.setBeacon x).msixPba = s.msixPba := rfl
@[simp] theorem State.setBeacon_fltRecs (s : State) (x : BeaconSt) : (s.setBeacon x).fltRecs = s.fltRecs := rfl
@[simp] theorem State.setBeacon_fltNext (s : State) (x : BeaconSt) : (s.setBeacon x).fltNext = s.fltNext := rfl
@[simp] theorem State.setBeacon_fltAny (s : State) (x : BeaconSt) : (s.setBeacon x).fltAny = s.fltAny := rfl
@[simp] theorem State.setBeacon_fltHw (s : State) (x : BeaconSt) : (s.setBeacon x).fltHw = s.fltHw := rfl
@[simp] theorem State.setBeacon_emcy (s : State) (x : BeaconSt) : (s.setBeacon x).emcy = s.emcy := rfl
@[simp] theorem State.setBeacon_ents (s : State) (x : BeaconSt) : (s.setBeacon x).ents = s.ents := rfl
@[simp] theorem State.setBeacon_owner (s : State) (x : BeaconSt) : (s.setBeacon x).owner = s.owner := rfl
@[simp] theorem State.setBeacon_claimAt (s : State) (x : BeaconSt) : (s.setBeacon x).claimAt = s.claimAt := rfl
@[simp] theorem State.setBeacon_refReason (s : State) (x : BeaconSt) : (s.setBeacon x).refReason = s.refReason := rfl
@[simp] theorem State.setBeacon_refCount (s : State) (x : BeaconSt) : (s.setBeacon x).refCount = s.refCount := rfl
@[simp] theorem State.setBeacon_backup (s : State) (x : BeaconSt) : (s.setBeacon x).backup = s.backup := rfl
@[simp] theorem State.setBeacon_boot (s : State) (x : BeaconSt) : (s.setBeacon x).boot = s.boot := rfl
@[simp] theorem State.setBeacon_xports (s : State) (x : BeaconSt) : (s.setBeacon x).xports = s.xports := rfl
@[simp] theorem State.setBeacon_persist (s : State) (x : BeaconSt) : (s.setBeacon x).persist = s.persist := rfl
@[simp] theorem State.setBeacon_claim (s : State) (x : BeaconSt) : (s.setBeacon x).claim = s.claim := rfl
@[simp] theorem State.setBeacon_ldicts (s : State) (x : BeaconSt) : (s.setBeacon x).ldicts = s.ldicts := rfl
@[simp] theorem State.setBeacon_tap (s : State) (x : BeaconSt) : (s.setBeacon x).tap = s.tap := rfl
@[simp] theorem State.setBeacon_trace (s : State) (x : BeaconSt) : (s.setBeacon x).trace = s.trace := rfl
@[simp] theorem State.setBeacon_pins (s : State) (x : BeaconSt) : (s.setBeacon x).pins = s.pins := rfl
@[simp] theorem State.setBeacon_flash (s : State) (x : BeaconSt) : (s.setBeacon x).flash = s.flash := rfl
@[simp] theorem State.setBeacon_pci (s : State) (x : BeaconSt) : (s.setBeacon x).pci = s.pci := rfl
@[simp] theorem State.setBeacon_cores (s : State) (x : BeaconSt) : (s.setBeacon x).cores = s.cores := rfl
@[simp] theorem State.setBeacon_out (s : State) (x : BeaconSt) : (s.setBeacon x).out = s.out := rfl
@[simp] theorem State.setBeacon_free (s : State) (x : BeaconSt) : (s.setBeacon x).free = s.free := rfl

@[simp] theorem State.setChan_pending (s : State) (n : Nat) (x : ChanSt) : (s.setChan n x).pending = s.pending := rfl
@[simp] theorem State.setChan_mode (s : State) (n : Nat) (x : ChanSt) : (s.setChan n x).mode = s.mode := rfl
@[simp] theorem State.setChan_tb (s : State) (n : Nat) (x : ChanSt) : (s.setChan n x).tb = s.tb := rfl
@[simp] theorem State.setChan_tbFrac (s : State) (n : Nat) (x : ChanSt) : (s.setChan n x).tbFrac = s.tbFrac := rfl
@[simp] theorem State.setChan_clockStopped (s : State) (n : Nat) (x : ChanSt) : (s.setChan n x).clockStopped = s.clockStopped := rfl
@[simp] theorem State.setChan_clockLost (s : State) (n : Nat) (x : ChanSt) : (s.setChan n x).clockLost = s.clockLost := rfl
@[simp] theorem State.setChan_regs (s : State) (n : Nat) (x : ChanSt) : (s.setChan n x).regs = s.regs := rfl
@[simp] theorem State.setChan_cycle (s : State) (n : Nat) (x : ChanSt) : (s.setChan n x).cycle = s.cycle := rfl
@[simp] theorem State.setChan_mem (s : State) (n : Nat) (x : ChanSt) : (s.setChan n x).mem = s.mem := rfl
@[simp] theorem State.setChan_cells (s : State) (n : Nat) (x : ChanSt) : (s.setChan n x).cells = s.cells := rfl
@[simp] theorem State.setChan_tiles (s : State) (n : Nat) (x : ChanSt) : (s.setChan n x).tiles = s.tiles := rfl
@[simp] theorem State.setChan_lanes (s : State) (n : Nat) (x : ChanSt) : (s.setChan n x).lanes = s.lanes := rfl
@[simp] theorem State.setChan_liveRemap (s : State) (n : Nat) (x : ChanSt) : (s.setChan n x).liveRemap = s.liveRemap := rfl
@[simp] theorem State.setChan_liveLanes (s : State) (n : Nat) (x : ChanSt) : (s.setChan n x).liveLanes = s.liveLanes := rfl
@[simp] theorem State.setChan_lecFresh (s : State) (n : Nat) (x : ChanSt) : (s.setChan n x).lecFresh = s.lecFresh := rfl
@[simp] theorem State.setChan_events (s : State) (n : Nat) (x : ChanSt) : (s.setChan n x).events = s.events := rfl
@[simp] theorem State.setChan_warned (s : State) (n : Nat) (x : ChanSt) : (s.setChan n x).warned = s.warned := rfl
@[simp] theorem State.setChan_dom (s : State) (n : Nat) (x : ChanSt) : (s.setChan n x).dom = s.dom := rfl
@[simp] theorem State.setChan_rdy (s : State) (n : Nat) (x : ChanSt) : (s.setChan n x).rdy = s.rdy := rfl
@[simp] theorem State.setChan_stroke (s : State) (n : Nat) (x : ChanSt) : (s.setChan n x).stroke = s.stroke := rfl
@[simp] theorem State.setChan_beacon (s : State) (n : Nat) (x : ChanSt) : (s.setChan n x).beacon = s.beacon := rfl
@[simp] theorem State.setChan_ckp (s : State) (n : Nat) (x : ChanSt) : (s.setChan n x).ckp = s.ckp := rfl
@[simp] theorem State.setChan_img (s : State) (n : Nat) (x : ChanSt) : (s.setChan n x).img = s.img := rfl
@[simp] theorem State.setChan_sends (s : State) (n : Nat) (x : ChanSt) : (s.setChan n x).sends = s.sends := rfl
@[simp] theorem State.setChan_flits (s : State) (n : Nat) (x : ChanSt) : (s.setChan n x).flits = s.flits := rfl
@[simp] theorem State.setChan_pads (s : State) (n : Nat) (x : ChanSt) : (s.setChan n x).pads = s.pads := rfl
@[simp] theorem State.setChan_uflits (s : State) (n : Nat) (x : ChanSt) : (s.setChan n x).uflits = s.uflits := rfl
@[simp] theorem State.setChan_uUsed (s : State) (n : Nat) (x : ChanSt) : (s.setChan n x).uUsed = s.uUsed := rfl
@[simp] theorem State.setChan_trigs (s : State) (n : Nat) (x : ChanSt) : (s.setChan n x).trigs = s.trigs := rfl
@[simp] theorem State.setChan_landings (s : State) (n : Nat) (x : ChanSt) : (s.setChan n x).landings = s.landings := rfl
@[simp] theorem State.setChan_hostVals (s : State) (n : Nat) (x : ChanSt) : (s.setChan n x).hostVals = s.hostVals := rfl
@[simp] theorem State.setChan_lastCh (s : State) (n : Nat) (x : ChanSt) : (s.setChan n x).lastCh = s.lastCh := rfl
@[simp] theorem State.setChan_msixTab (s : State) (n : Nat) (x : ChanSt) : (s.setChan n x).msixTab = s.msixTab := rfl
@[simp] theorem State.setChan_msixPba (s : State) (n : Nat) (x : ChanSt) : (s.setChan n x).msixPba = s.msixPba := rfl
@[simp] theorem State.setChan_fltRecs (s : State) (n : Nat) (x : ChanSt) : (s.setChan n x).fltRecs = s.fltRecs := rfl
@[simp] theorem State.setChan_fltNext (s : State) (n : Nat) (x : ChanSt) : (s.setChan n x).fltNext = s.fltNext := rfl
@[simp] theorem State.setChan_fltAny (s : State) (n : Nat) (x : ChanSt) : (s.setChan n x).fltAny = s.fltAny := rfl
@[simp] theorem State.setChan_fltHw (s : State) (n : Nat) (x : ChanSt) : (s.setChan n x).fltHw = s.fltHw := rfl
@[simp] theorem State.setChan_emcy (s : State) (n : Nat) (x : ChanSt) : (s.setChan n x).emcy = s.emcy := rfl
@[simp] theorem State.setChan_ents (s : State) (n : Nat) (x : ChanSt) : (s.setChan n x).ents = s.ents := rfl
@[simp] theorem State.setChan_owner (s : State) (n : Nat) (x : ChanSt) : (s.setChan n x).owner = s.owner := rfl
@[simp] theorem State.setChan_claimAt (s : State) (n : Nat) (x : ChanSt) : (s.setChan n x).claimAt = s.claimAt := rfl
@[simp] theorem State.setChan_refReason (s : State) (n : Nat) (x : ChanSt) : (s.setChan n x).refReason = s.refReason := rfl
@[simp] theorem State.setChan_refCount (s : State) (n : Nat) (x : ChanSt) : (s.setChan n x).refCount = s.refCount := rfl
@[simp] theorem State.setChan_backup (s : State) (n : Nat) (x : ChanSt) : (s.setChan n x).backup = s.backup := rfl
@[simp] theorem State.setChan_boot (s : State) (n : Nat) (x : ChanSt) : (s.setChan n x).boot = s.boot := rfl
@[simp] theorem State.setChan_xports (s : State) (n : Nat) (x : ChanSt) : (s.setChan n x).xports = s.xports := rfl
@[simp] theorem State.setChan_persist (s : State) (n : Nat) (x : ChanSt) : (s.setChan n x).persist = s.persist := rfl
@[simp] theorem State.setChan_claim (s : State) (n : Nat) (x : ChanSt) : (s.setChan n x).claim = s.claim := rfl
@[simp] theorem State.setChan_ldicts (s : State) (n : Nat) (x : ChanSt) : (s.setChan n x).ldicts = s.ldicts := rfl
@[simp] theorem State.setChan_tap (s : State) (n : Nat) (x : ChanSt) : (s.setChan n x).tap = s.tap := rfl
@[simp] theorem State.setChan_trace (s : State) (n : Nat) (x : ChanSt) : (s.setChan n x).trace = s.trace := rfl
@[simp] theorem State.setChan_pins (s : State) (n : Nat) (x : ChanSt) : (s.setChan n x).pins = s.pins := rfl
@[simp] theorem State.setChan_flash (s : State) (n : Nat) (x : ChanSt) : (s.setChan n x).flash = s.flash := rfl
@[simp] theorem State.setChan_pci (s : State) (n : Nat) (x : ChanSt) : (s.setChan n x).pci = s.pci := rfl
@[simp] theorem State.setChan_cores (s : State) (n : Nat) (x : ChanSt) : (s.setChan n x).cores = s.cores := rfl
@[simp] theorem State.setChan_out (s : State) (n : Nat) (x : ChanSt) : (s.setChan n x).out = s.out := rfl
@[simp] theorem State.setChan_free (s : State) (n : Nat) (x : ChanSt) : (s.setChan n x).free = s.free := rfl

@[simp] theorem State.setEnt_pending (s : State) (x y v : Nat) : (s.setEnt x y v).pending = s.pending := rfl
@[simp] theorem State.setEnt_mode (s : State) (x y v : Nat) : (s.setEnt x y v).mode = s.mode := rfl
@[simp] theorem State.setEnt_tb (s : State) (x y v : Nat) : (s.setEnt x y v).tb = s.tb := rfl
@[simp] theorem State.setEnt_tbFrac (s : State) (x y v : Nat) : (s.setEnt x y v).tbFrac = s.tbFrac := rfl
@[simp] theorem State.setEnt_clockStopped (s : State) (x y v : Nat) : (s.setEnt x y v).clockStopped = s.clockStopped := rfl
@[simp] theorem State.setEnt_clockLost (s : State) (x y v : Nat) : (s.setEnt x y v).clockLost = s.clockLost := rfl
@[simp] theorem State.setEnt_regs (s : State) (x y v : Nat) : (s.setEnt x y v).regs = s.regs := rfl
@[simp] theorem State.setEnt_cycle (s : State) (x y v : Nat) : (s.setEnt x y v).cycle = s.cycle := rfl
@[simp] theorem State.setEnt_mem (s : State) (x y v : Nat) : (s.setEnt x y v).mem = s.mem := rfl
@[simp] theorem State.setEnt_cells (s : State) (x y v : Nat) : (s.setEnt x y v).cells = s.cells := rfl
@[simp] theorem State.setEnt_tiles (s : State) (x y v : Nat) : (s.setEnt x y v).tiles = s.tiles := rfl
@[simp] theorem State.setEnt_lanes (s : State) (x y v : Nat) : (s.setEnt x y v).lanes = s.lanes := rfl
@[simp] theorem State.setEnt_liveRemap (s : State) (x y v : Nat) : (s.setEnt x y v).liveRemap = s.liveRemap := rfl
@[simp] theorem State.setEnt_liveLanes (s : State) (x y v : Nat) : (s.setEnt x y v).liveLanes = s.liveLanes := rfl
@[simp] theorem State.setEnt_lecFresh (s : State) (x y v : Nat) : (s.setEnt x y v).lecFresh = s.lecFresh := rfl
@[simp] theorem State.setEnt_events (s : State) (x y v : Nat) : (s.setEnt x y v).events = s.events := rfl
@[simp] theorem State.setEnt_warned (s : State) (x y v : Nat) : (s.setEnt x y v).warned = s.warned := rfl
@[simp] theorem State.setEnt_dom (s : State) (x y v : Nat) : (s.setEnt x y v).dom = s.dom := rfl
@[simp] theorem State.setEnt_rdy (s : State) (x y v : Nat) : (s.setEnt x y v).rdy = s.rdy := rfl
@[simp] theorem State.setEnt_stroke (s : State) (x y v : Nat) : (s.setEnt x y v).stroke = s.stroke := rfl
@[simp] theorem State.setEnt_beacon (s : State) (x y v : Nat) : (s.setEnt x y v).beacon = s.beacon := rfl
@[simp] theorem State.setEnt_ckp (s : State) (x y v : Nat) : (s.setEnt x y v).ckp = s.ckp := rfl
@[simp] theorem State.setEnt_img (s : State) (x y v : Nat) : (s.setEnt x y v).img = s.img := rfl
@[simp] theorem State.setEnt_sends (s : State) (x y v : Nat) : (s.setEnt x y v).sends = s.sends := rfl
@[simp] theorem State.setEnt_flits (s : State) (x y v : Nat) : (s.setEnt x y v).flits = s.flits := rfl
@[simp] theorem State.setEnt_pads (s : State) (x y v : Nat) : (s.setEnt x y v).pads = s.pads := rfl
@[simp] theorem State.setEnt_uflits (s : State) (x y v : Nat) : (s.setEnt x y v).uflits = s.uflits := rfl
@[simp] theorem State.setEnt_uUsed (s : State) (x y v : Nat) : (s.setEnt x y v).uUsed = s.uUsed := rfl
@[simp] theorem State.setEnt_trigs (s : State) (x y v : Nat) : (s.setEnt x y v).trigs = s.trigs := rfl
@[simp] theorem State.setEnt_landings (s : State) (x y v : Nat) : (s.setEnt x y v).landings = s.landings := rfl
@[simp] theorem State.setEnt_hostVals (s : State) (x y v : Nat) : (s.setEnt x y v).hostVals = s.hostVals := rfl
@[simp] theorem State.setEnt_chans (s : State) (x y v : Nat) : (s.setEnt x y v).chans = s.chans := rfl
@[simp] theorem State.setEnt_lastCh (s : State) (x y v : Nat) : (s.setEnt x y v).lastCh = s.lastCh := rfl
@[simp] theorem State.setEnt_msixTab (s : State) (x y v : Nat) : (s.setEnt x y v).msixTab = s.msixTab := rfl
@[simp] theorem State.setEnt_msixPba (s : State) (x y v : Nat) : (s.setEnt x y v).msixPba = s.msixPba := rfl
@[simp] theorem State.setEnt_fltRecs (s : State) (x y v : Nat) : (s.setEnt x y v).fltRecs = s.fltRecs := rfl
@[simp] theorem State.setEnt_fltNext (s : State) (x y v : Nat) : (s.setEnt x y v).fltNext = s.fltNext := rfl
@[simp] theorem State.setEnt_fltAny (s : State) (x y v : Nat) : (s.setEnt x y v).fltAny = s.fltAny := rfl
@[simp] theorem State.setEnt_fltHw (s : State) (x y v : Nat) : (s.setEnt x y v).fltHw = s.fltHw := rfl
@[simp] theorem State.setEnt_emcy (s : State) (x y v : Nat) : (s.setEnt x y v).emcy = s.emcy := rfl
@[simp] theorem State.setEnt_owner (s : State) (x y v : Nat) : (s.setEnt x y v).owner = s.owner := rfl
@[simp] theorem State.setEnt_claimAt (s : State) (x y v : Nat) : (s.setEnt x y v).claimAt = s.claimAt := rfl
@[simp] theorem State.setEnt_refReason (s : State) (x y v : Nat) : (s.setEnt x y v).refReason = s.refReason := rfl
@[simp] theorem State.setEnt_refCount (s : State) (x y v : Nat) : (s.setEnt x y v).refCount = s.refCount := rfl
@[simp] theorem State.setEnt_backup (s : State) (x y v : Nat) : (s.setEnt x y v).backup = s.backup := rfl
@[simp] theorem State.setEnt_boot (s : State) (x y v : Nat) : (s.setEnt x y v).boot = s.boot := rfl
@[simp] theorem State.setEnt_xports (s : State) (x y v : Nat) : (s.setEnt x y v).xports = s.xports := rfl
@[simp] theorem State.setEnt_persist (s : State) (x y v : Nat) : (s.setEnt x y v).persist = s.persist := rfl
@[simp] theorem State.setEnt_claim (s : State) (x y v : Nat) : (s.setEnt x y v).claim = s.claim := rfl
@[simp] theorem State.setEnt_ldicts (s : State) (x y v : Nat) : (s.setEnt x y v).ldicts = s.ldicts := rfl
@[simp] theorem State.setEnt_tap (s : State) (x y v : Nat) : (s.setEnt x y v).tap = s.tap := rfl
@[simp] theorem State.setEnt_trace (s : State) (x y v : Nat) : (s.setEnt x y v).trace = s.trace := rfl
@[simp] theorem State.setEnt_pins (s : State) (x y v : Nat) : (s.setEnt x y v).pins = s.pins := rfl
@[simp] theorem State.setEnt_flash (s : State) (x y v : Nat) : (s.setEnt x y v).flash = s.flash := rfl
@[simp] theorem State.setEnt_pci (s : State) (x y v : Nat) : (s.setEnt x y v).pci = s.pci := rfl
@[simp] theorem State.setEnt_cores (s : State) (x y v : Nat) : (s.setEnt x y v).cores = s.cores := rfl
@[simp] theorem State.setEnt_out (s : State) (x y v : Nat) : (s.setEnt x y v).out = s.out := rfl
@[simp] theorem State.setEnt_free (s : State) (x y v : Nat) : (s.setEnt x y v).free = s.free := rfl

@[simp] theorem State.setDom_pending (s : State) (d v : Nat) : (s.setDom d v).pending = s.pending := rfl
@[simp] theorem State.setDom_mode (s : State) (d v : Nat) : (s.setDom d v).mode = s.mode := rfl
@[simp] theorem State.setDom_tb (s : State) (d v : Nat) : (s.setDom d v).tb = s.tb := rfl
@[simp] theorem State.setDom_tbFrac (s : State) (d v : Nat) : (s.setDom d v).tbFrac = s.tbFrac := rfl
@[simp] theorem State.setDom_clockStopped (s : State) (d v : Nat) : (s.setDom d v).clockStopped = s.clockStopped := rfl
@[simp] theorem State.setDom_clockLost (s : State) (d v : Nat) : (s.setDom d v).clockLost = s.clockLost := rfl
@[simp] theorem State.setDom_regs (s : State) (d v : Nat) : (s.setDom d v).regs = s.regs := rfl
@[simp] theorem State.setDom_cycle (s : State) (d v : Nat) : (s.setDom d v).cycle = s.cycle := rfl
@[simp] theorem State.setDom_mem (s : State) (d v : Nat) : (s.setDom d v).mem = s.mem := rfl
@[simp] theorem State.setDom_cells (s : State) (d v : Nat) : (s.setDom d v).cells = s.cells := rfl
@[simp] theorem State.setDom_tiles (s : State) (d v : Nat) : (s.setDom d v).tiles = s.tiles := rfl
@[simp] theorem State.setDom_lanes (s : State) (d v : Nat) : (s.setDom d v).lanes = s.lanes := rfl
@[simp] theorem State.setDom_liveRemap (s : State) (d v : Nat) : (s.setDom d v).liveRemap = s.liveRemap := rfl
@[simp] theorem State.setDom_liveLanes (s : State) (d v : Nat) : (s.setDom d v).liveLanes = s.liveLanes := rfl
@[simp] theorem State.setDom_lecFresh (s : State) (d v : Nat) : (s.setDom d v).lecFresh = s.lecFresh := rfl
@[simp] theorem State.setDom_events (s : State) (d v : Nat) : (s.setDom d v).events = s.events := rfl
@[simp] theorem State.setDom_warned (s : State) (d v : Nat) : (s.setDom d v).warned = s.warned := rfl
@[simp] theorem State.setDom_rdy (s : State) (d v : Nat) : (s.setDom d v).rdy = s.rdy := rfl
@[simp] theorem State.setDom_stroke (s : State) (d v : Nat) : (s.setDom d v).stroke = s.stroke := rfl
@[simp] theorem State.setDom_beacon (s : State) (d v : Nat) : (s.setDom d v).beacon = s.beacon := rfl
@[simp] theorem State.setDom_ckp (s : State) (d v : Nat) : (s.setDom d v).ckp = s.ckp := rfl
@[simp] theorem State.setDom_img (s : State) (d v : Nat) : (s.setDom d v).img = s.img := rfl
@[simp] theorem State.setDom_sends (s : State) (d v : Nat) : (s.setDom d v).sends = s.sends := rfl
@[simp] theorem State.setDom_flits (s : State) (d v : Nat) : (s.setDom d v).flits = s.flits := rfl
@[simp] theorem State.setDom_pads (s : State) (d v : Nat) : (s.setDom d v).pads = s.pads := rfl
@[simp] theorem State.setDom_uflits (s : State) (d v : Nat) : (s.setDom d v).uflits = s.uflits := rfl
@[simp] theorem State.setDom_uUsed (s : State) (d v : Nat) : (s.setDom d v).uUsed = s.uUsed := rfl
@[simp] theorem State.setDom_trigs (s : State) (d v : Nat) : (s.setDom d v).trigs = s.trigs := rfl
@[simp] theorem State.setDom_landings (s : State) (d v : Nat) : (s.setDom d v).landings = s.landings := rfl
@[simp] theorem State.setDom_hostVals (s : State) (d v : Nat) : (s.setDom d v).hostVals = s.hostVals := rfl
@[simp] theorem State.setDom_chans (s : State) (d v : Nat) : (s.setDom d v).chans = s.chans := rfl
@[simp] theorem State.setDom_lastCh (s : State) (d v : Nat) : (s.setDom d v).lastCh = s.lastCh := rfl
@[simp] theorem State.setDom_msixTab (s : State) (d v : Nat) : (s.setDom d v).msixTab = s.msixTab := rfl
@[simp] theorem State.setDom_msixPba (s : State) (d v : Nat) : (s.setDom d v).msixPba = s.msixPba := rfl
@[simp] theorem State.setDom_fltRecs (s : State) (d v : Nat) : (s.setDom d v).fltRecs = s.fltRecs := rfl
@[simp] theorem State.setDom_fltNext (s : State) (d v : Nat) : (s.setDom d v).fltNext = s.fltNext := rfl
@[simp] theorem State.setDom_fltAny (s : State) (d v : Nat) : (s.setDom d v).fltAny = s.fltAny := rfl
@[simp] theorem State.setDom_fltHw (s : State) (d v : Nat) : (s.setDom d v).fltHw = s.fltHw := rfl
@[simp] theorem State.setDom_emcy (s : State) (d v : Nat) : (s.setDom d v).emcy = s.emcy := rfl
@[simp] theorem State.setDom_ents (s : State) (d v : Nat) : (s.setDom d v).ents = s.ents := rfl
@[simp] theorem State.setDom_owner (s : State) (d v : Nat) : (s.setDom d v).owner = s.owner := rfl
@[simp] theorem State.setDom_claimAt (s : State) (d v : Nat) : (s.setDom d v).claimAt = s.claimAt := rfl
@[simp] theorem State.setDom_refReason (s : State) (d v : Nat) : (s.setDom d v).refReason = s.refReason := rfl
@[simp] theorem State.setDom_refCount (s : State) (d v : Nat) : (s.setDom d v).refCount = s.refCount := rfl
@[simp] theorem State.setDom_backup (s : State) (d v : Nat) : (s.setDom d v).backup = s.backup := rfl
@[simp] theorem State.setDom_boot (s : State) (d v : Nat) : (s.setDom d v).boot = s.boot := rfl
@[simp] theorem State.setDom_xports (s : State) (d v : Nat) : (s.setDom d v).xports = s.xports := rfl
@[simp] theorem State.setDom_persist (s : State) (d v : Nat) : (s.setDom d v).persist = s.persist := rfl
@[simp] theorem State.setDom_claim (s : State) (d v : Nat) : (s.setDom d v).claim = s.claim := rfl
@[simp] theorem State.setDom_ldicts (s : State) (d v : Nat) : (s.setDom d v).ldicts = s.ldicts := rfl
@[simp] theorem State.setDom_tap (s : State) (d v : Nat) : (s.setDom d v).tap = s.tap := rfl
@[simp] theorem State.setDom_trace (s : State) (d v : Nat) : (s.setDom d v).trace = s.trace := rfl
@[simp] theorem State.setDom_pins (s : State) (d v : Nat) : (s.setDom d v).pins = s.pins := rfl
@[simp] theorem State.setDom_flash (s : State) (d v : Nat) : (s.setDom d v).flash = s.flash := rfl
@[simp] theorem State.setDom_pci (s : State) (d v : Nat) : (s.setDom d v).pci = s.pci := rfl
@[simp] theorem State.setDom_cores (s : State) (d v : Nat) : (s.setDom d v).cores = s.cores := rfl
@[simp] theorem State.setDom_out (s : State) (d v : Nat) : (s.setDom d v).out = s.out := rfl
@[simp] theorem State.setDom_free (s : State) (d v : Nat) : (s.setDom d v).free = s.free := rfl

@[simp] theorem State.setXport_pending (s : State) (k : Nat) (x : XportSt) : (s.setXport k x).pending = s.pending := rfl
@[simp] theorem State.setXport_mode (s : State) (k : Nat) (x : XportSt) : (s.setXport k x).mode = s.mode := rfl
@[simp] theorem State.setXport_tb (s : State) (k : Nat) (x : XportSt) : (s.setXport k x).tb = s.tb := rfl
@[simp] theorem State.setXport_tbFrac (s : State) (k : Nat) (x : XportSt) : (s.setXport k x).tbFrac = s.tbFrac := rfl
@[simp] theorem State.setXport_clockStopped (s : State) (k : Nat) (x : XportSt) : (s.setXport k x).clockStopped = s.clockStopped := rfl
@[simp] theorem State.setXport_clockLost (s : State) (k : Nat) (x : XportSt) : (s.setXport k x).clockLost = s.clockLost := rfl
@[simp] theorem State.setXport_regs (s : State) (k : Nat) (x : XportSt) : (s.setXport k x).regs = s.regs := rfl
@[simp] theorem State.setXport_cycle (s : State) (k : Nat) (x : XportSt) : (s.setXport k x).cycle = s.cycle := rfl
@[simp] theorem State.setXport_mem (s : State) (k : Nat) (x : XportSt) : (s.setXport k x).mem = s.mem := rfl
@[simp] theorem State.setXport_cells (s : State) (k : Nat) (x : XportSt) : (s.setXport k x).cells = s.cells := rfl
@[simp] theorem State.setXport_tiles (s : State) (k : Nat) (x : XportSt) : (s.setXport k x).tiles = s.tiles := rfl
@[simp] theorem State.setXport_lanes (s : State) (k : Nat) (x : XportSt) : (s.setXport k x).lanes = s.lanes := rfl
@[simp] theorem State.setXport_liveRemap (s : State) (k : Nat) (x : XportSt) : (s.setXport k x).liveRemap = s.liveRemap := rfl
@[simp] theorem State.setXport_liveLanes (s : State) (k : Nat) (x : XportSt) : (s.setXport k x).liveLanes = s.liveLanes := rfl
@[simp] theorem State.setXport_lecFresh (s : State) (k : Nat) (x : XportSt) : (s.setXport k x).lecFresh = s.lecFresh := rfl
@[simp] theorem State.setXport_events (s : State) (k : Nat) (x : XportSt) : (s.setXport k x).events = s.events := rfl
@[simp] theorem State.setXport_warned (s : State) (k : Nat) (x : XportSt) : (s.setXport k x).warned = s.warned := rfl
@[simp] theorem State.setXport_dom (s : State) (k : Nat) (x : XportSt) : (s.setXport k x).dom = s.dom := rfl
@[simp] theorem State.setXport_rdy (s : State) (k : Nat) (x : XportSt) : (s.setXport k x).rdy = s.rdy := rfl
@[simp] theorem State.setXport_stroke (s : State) (k : Nat) (x : XportSt) : (s.setXport k x).stroke = s.stroke := rfl
@[simp] theorem State.setXport_beacon (s : State) (k : Nat) (x : XportSt) : (s.setXport k x).beacon = s.beacon := rfl
@[simp] theorem State.setXport_ckp (s : State) (k : Nat) (x : XportSt) : (s.setXport k x).ckp = s.ckp := rfl
@[simp] theorem State.setXport_img (s : State) (k : Nat) (x : XportSt) : (s.setXport k x).img = s.img := rfl
@[simp] theorem State.setXport_sends (s : State) (k : Nat) (x : XportSt) : (s.setXport k x).sends = s.sends := rfl
@[simp] theorem State.setXport_flits (s : State) (k : Nat) (x : XportSt) : (s.setXport k x).flits = s.flits := rfl
@[simp] theorem State.setXport_pads (s : State) (k : Nat) (x : XportSt) : (s.setXport k x).pads = s.pads := rfl
@[simp] theorem State.setXport_uflits (s : State) (k : Nat) (x : XportSt) : (s.setXport k x).uflits = s.uflits := rfl
@[simp] theorem State.setXport_uUsed (s : State) (k : Nat) (x : XportSt) : (s.setXport k x).uUsed = s.uUsed := rfl
@[simp] theorem State.setXport_trigs (s : State) (k : Nat) (x : XportSt) : (s.setXport k x).trigs = s.trigs := rfl
@[simp] theorem State.setXport_landings (s : State) (k : Nat) (x : XportSt) : (s.setXport k x).landings = s.landings := rfl
@[simp] theorem State.setXport_hostVals (s : State) (k : Nat) (x : XportSt) : (s.setXport k x).hostVals = s.hostVals := rfl
@[simp] theorem State.setXport_chans (s : State) (k : Nat) (x : XportSt) : (s.setXport k x).chans = s.chans := rfl
@[simp] theorem State.setXport_lastCh (s : State) (k : Nat) (x : XportSt) : (s.setXport k x).lastCh = s.lastCh := rfl
@[simp] theorem State.setXport_msixTab (s : State) (k : Nat) (x : XportSt) : (s.setXport k x).msixTab = s.msixTab := rfl
@[simp] theorem State.setXport_msixPba (s : State) (k : Nat) (x : XportSt) : (s.setXport k x).msixPba = s.msixPba := rfl
@[simp] theorem State.setXport_fltRecs (s : State) (k : Nat) (x : XportSt) : (s.setXport k x).fltRecs = s.fltRecs := rfl
@[simp] theorem State.setXport_fltNext (s : State) (k : Nat) (x : XportSt) : (s.setXport k x).fltNext = s.fltNext := rfl
@[simp] theorem State.setXport_fltAny (s : State) (k : Nat) (x : XportSt) : (s.setXport k x).fltAny = s.fltAny := rfl
@[simp] theorem State.setXport_fltHw (s : State) (k : Nat) (x : XportSt) : (s.setXport k x).fltHw = s.fltHw := rfl
@[simp] theorem State.setXport_emcy (s : State) (k : Nat) (x : XportSt) : (s.setXport k x).emcy = s.emcy := rfl
@[simp] theorem State.setXport_ents (s : State) (k : Nat) (x : XportSt) : (s.setXport k x).ents = s.ents := rfl
@[simp] theorem State.setXport_owner (s : State) (k : Nat) (x : XportSt) : (s.setXport k x).owner = s.owner := rfl
@[simp] theorem State.setXport_claimAt (s : State) (k : Nat) (x : XportSt) : (s.setXport k x).claimAt = s.claimAt := rfl
@[simp] theorem State.setXport_refReason (s : State) (k : Nat) (x : XportSt) : (s.setXport k x).refReason = s.refReason := rfl
@[simp] theorem State.setXport_refCount (s : State) (k : Nat) (x : XportSt) : (s.setXport k x).refCount = s.refCount := rfl
@[simp] theorem State.setXport_backup (s : State) (k : Nat) (x : XportSt) : (s.setXport k x).backup = s.backup := rfl
@[simp] theorem State.setXport_boot (s : State) (k : Nat) (x : XportSt) : (s.setXport k x).boot = s.boot := rfl
@[simp] theorem State.setXport_persist (s : State) (k : Nat) (x : XportSt) : (s.setXport k x).persist = s.persist := rfl
@[simp] theorem State.setXport_claim (s : State) (k : Nat) (x : XportSt) : (s.setXport k x).claim = s.claim := rfl
@[simp] theorem State.setXport_ldicts (s : State) (k : Nat) (x : XportSt) : (s.setXport k x).ldicts = s.ldicts := rfl
@[simp] theorem State.setXport_tap (s : State) (k : Nat) (x : XportSt) : (s.setXport k x).tap = s.tap := rfl
@[simp] theorem State.setXport_trace (s : State) (k : Nat) (x : XportSt) : (s.setXport k x).trace = s.trace := rfl
@[simp] theorem State.setXport_pins (s : State) (k : Nat) (x : XportSt) : (s.setXport k x).pins = s.pins := rfl
@[simp] theorem State.setXport_flash (s : State) (k : Nat) (x : XportSt) : (s.setXport k x).flash = s.flash := rfl
@[simp] theorem State.setXport_pci (s : State) (k : Nat) (x : XportSt) : (s.setXport k x).pci = s.pci := rfl
@[simp] theorem State.setXport_cores (s : State) (k : Nat) (x : XportSt) : (s.setXport k x).cores = s.cores := rfl
@[simp] theorem State.setXport_out (s : State) (k : Nat) (x : XportSt) : (s.setXport k x).out = s.out := rfl
@[simp] theorem State.setXport_free (s : State) (k : Nat) (x : XportSt) : (s.setXport k x).free = s.free := rfl

@[simp] theorem State.emit_pending (s : State) (m : OutMsg) : (s.emit m).pending = s.pending := rfl
@[simp] theorem State.emit_mode (s : State) (m : OutMsg) : (s.emit m).mode = s.mode := rfl
@[simp] theorem State.emit_tb (s : State) (m : OutMsg) : (s.emit m).tb = s.tb := rfl
@[simp] theorem State.emit_tbFrac (s : State) (m : OutMsg) : (s.emit m).tbFrac = s.tbFrac := rfl
@[simp] theorem State.emit_clockStopped (s : State) (m : OutMsg) : (s.emit m).clockStopped = s.clockStopped := rfl
@[simp] theorem State.emit_clockLost (s : State) (m : OutMsg) : (s.emit m).clockLost = s.clockLost := rfl
@[simp] theorem State.emit_regs (s : State) (m : OutMsg) : (s.emit m).regs = s.regs := rfl
@[simp] theorem State.emit_cycle (s : State) (m : OutMsg) : (s.emit m).cycle = s.cycle := rfl
@[simp] theorem State.emit_mem (s : State) (m : OutMsg) : (s.emit m).mem = s.mem := rfl
@[simp] theorem State.emit_cells (s : State) (m : OutMsg) : (s.emit m).cells = s.cells := rfl
@[simp] theorem State.emit_tiles (s : State) (m : OutMsg) : (s.emit m).tiles = s.tiles := rfl
@[simp] theorem State.emit_lanes (s : State) (m : OutMsg) : (s.emit m).lanes = s.lanes := rfl
@[simp] theorem State.emit_liveRemap (s : State) (m : OutMsg) : (s.emit m).liveRemap = s.liveRemap := rfl
@[simp] theorem State.emit_liveLanes (s : State) (m : OutMsg) : (s.emit m).liveLanes = s.liveLanes := rfl
@[simp] theorem State.emit_lecFresh (s : State) (m : OutMsg) : (s.emit m).lecFresh = s.lecFresh := rfl
@[simp] theorem State.emit_events (s : State) (m : OutMsg) : (s.emit m).events = s.events := rfl
@[simp] theorem State.emit_warned (s : State) (m : OutMsg) : (s.emit m).warned = s.warned := rfl
@[simp] theorem State.emit_dom (s : State) (m : OutMsg) : (s.emit m).dom = s.dom := rfl
@[simp] theorem State.emit_rdy (s : State) (m : OutMsg) : (s.emit m).rdy = s.rdy := rfl
@[simp] theorem State.emit_stroke (s : State) (m : OutMsg) : (s.emit m).stroke = s.stroke := rfl
@[simp] theorem State.emit_beacon (s : State) (m : OutMsg) : (s.emit m).beacon = s.beacon := rfl
@[simp] theorem State.emit_ckp (s : State) (m : OutMsg) : (s.emit m).ckp = s.ckp := rfl
@[simp] theorem State.emit_img (s : State) (m : OutMsg) : (s.emit m).img = s.img := rfl
@[simp] theorem State.emit_sends (s : State) (m : OutMsg) : (s.emit m).sends = s.sends := rfl
@[simp] theorem State.emit_flits (s : State) (m : OutMsg) : (s.emit m).flits = s.flits := rfl
@[simp] theorem State.emit_pads (s : State) (m : OutMsg) : (s.emit m).pads = s.pads := rfl
@[simp] theorem State.emit_uflits (s : State) (m : OutMsg) : (s.emit m).uflits = s.uflits := rfl
@[simp] theorem State.emit_uUsed (s : State) (m : OutMsg) : (s.emit m).uUsed = s.uUsed := rfl
@[simp] theorem State.emit_trigs (s : State) (m : OutMsg) : (s.emit m).trigs = s.trigs := rfl
@[simp] theorem State.emit_landings (s : State) (m : OutMsg) : (s.emit m).landings = s.landings := rfl
@[simp] theorem State.emit_hostVals (s : State) (m : OutMsg) : (s.emit m).hostVals = s.hostVals := rfl
@[simp] theorem State.emit_chans (s : State) (m : OutMsg) : (s.emit m).chans = s.chans := rfl
@[simp] theorem State.emit_lastCh (s : State) (m : OutMsg) : (s.emit m).lastCh = s.lastCh := rfl
@[simp] theorem State.emit_msixTab (s : State) (m : OutMsg) : (s.emit m).msixTab = s.msixTab := rfl
@[simp] theorem State.emit_msixPba (s : State) (m : OutMsg) : (s.emit m).msixPba = s.msixPba := rfl
@[simp] theorem State.emit_fltRecs (s : State) (m : OutMsg) : (s.emit m).fltRecs = s.fltRecs := rfl
@[simp] theorem State.emit_fltNext (s : State) (m : OutMsg) : (s.emit m).fltNext = s.fltNext := rfl
@[simp] theorem State.emit_fltAny (s : State) (m : OutMsg) : (s.emit m).fltAny = s.fltAny := rfl
@[simp] theorem State.emit_fltHw (s : State) (m : OutMsg) : (s.emit m).fltHw = s.fltHw := rfl
@[simp] theorem State.emit_emcy (s : State) (m : OutMsg) : (s.emit m).emcy = s.emcy := rfl
@[simp] theorem State.emit_ents (s : State) (m : OutMsg) : (s.emit m).ents = s.ents := rfl
@[simp] theorem State.emit_owner (s : State) (m : OutMsg) : (s.emit m).owner = s.owner := rfl
@[simp] theorem State.emit_claimAt (s : State) (m : OutMsg) : (s.emit m).claimAt = s.claimAt := rfl
@[simp] theorem State.emit_refReason (s : State) (m : OutMsg) : (s.emit m).refReason = s.refReason := rfl
@[simp] theorem State.emit_refCount (s : State) (m : OutMsg) : (s.emit m).refCount = s.refCount := rfl
@[simp] theorem State.emit_backup (s : State) (m : OutMsg) : (s.emit m).backup = s.backup := rfl
@[simp] theorem State.emit_boot (s : State) (m : OutMsg) : (s.emit m).boot = s.boot := rfl
@[simp] theorem State.emit_xports (s : State) (m : OutMsg) : (s.emit m).xports = s.xports := rfl
@[simp] theorem State.emit_persist (s : State) (m : OutMsg) : (s.emit m).persist = s.persist := rfl
@[simp] theorem State.emit_claim (s : State) (m : OutMsg) : (s.emit m).claim = s.claim := rfl
@[simp] theorem State.emit_ldicts (s : State) (m : OutMsg) : (s.emit m).ldicts = s.ldicts := rfl
@[simp] theorem State.emit_tap (s : State) (m : OutMsg) : (s.emit m).tap = s.tap := rfl
@[simp] theorem State.emit_trace (s : State) (m : OutMsg) : (s.emit m).trace = s.trace := rfl
@[simp] theorem State.emit_pins (s : State) (m : OutMsg) : (s.emit m).pins = s.pins := rfl
@[simp] theorem State.emit_flash (s : State) (m : OutMsg) : (s.emit m).flash = s.flash := rfl
@[simp] theorem State.emit_pci (s : State) (m : OutMsg) : (s.emit m).pci = s.pci := rfl
@[simp] theorem State.emit_cores (s : State) (m : OutMsg) : (s.emit m).cores = s.cores := rfl
@[simp] theorem State.emit_free (s : State) (m : OutMsg) : (s.emit m).free = s.free := rfl

@[simp] theorem State.setByte_pending (s : State) (a : Nat) (b : Byte) : (s.setByte a b).pending = s.pending := rfl
@[simp] theorem State.setByte_mode (s : State) (a : Nat) (b : Byte) : (s.setByte a b).mode = s.mode := rfl
@[simp] theorem State.setByte_tb (s : State) (a : Nat) (b : Byte) : (s.setByte a b).tb = s.tb := rfl
@[simp] theorem State.setByte_tbFrac (s : State) (a : Nat) (b : Byte) : (s.setByte a b).tbFrac = s.tbFrac := rfl
@[simp] theorem State.setByte_clockStopped (s : State) (a : Nat) (b : Byte) : (s.setByte a b).clockStopped = s.clockStopped := rfl
@[simp] theorem State.setByte_clockLost (s : State) (a : Nat) (b : Byte) : (s.setByte a b).clockLost = s.clockLost := rfl
@[simp] theorem State.setByte_regs (s : State) (a : Nat) (b : Byte) : (s.setByte a b).regs = s.regs := rfl
@[simp] theorem State.setByte_cycle (s : State) (a : Nat) (b : Byte) : (s.setByte a b).cycle = s.cycle := rfl
@[simp] theorem State.setByte_cells (s : State) (a : Nat) (b : Byte) : (s.setByte a b).cells = s.cells := rfl
@[simp] theorem State.setByte_tiles (s : State) (a : Nat) (b : Byte) : (s.setByte a b).tiles = s.tiles := rfl
@[simp] theorem State.setByte_lanes (s : State) (a : Nat) (b : Byte) : (s.setByte a b).lanes = s.lanes := rfl
@[simp] theorem State.setByte_liveRemap (s : State) (a : Nat) (b : Byte) : (s.setByte a b).liveRemap = s.liveRemap := rfl
@[simp] theorem State.setByte_liveLanes (s : State) (a : Nat) (b : Byte) : (s.setByte a b).liveLanes = s.liveLanes := rfl
@[simp] theorem State.setByte_lecFresh (s : State) (a : Nat) (b : Byte) : (s.setByte a b).lecFresh = s.lecFresh := rfl
@[simp] theorem State.setByte_events (s : State) (a : Nat) (b : Byte) : (s.setByte a b).events = s.events := rfl
@[simp] theorem State.setByte_warned (s : State) (a : Nat) (b : Byte) : (s.setByte a b).warned = s.warned := rfl
@[simp] theorem State.setByte_dom (s : State) (a : Nat) (b : Byte) : (s.setByte a b).dom = s.dom := rfl
@[simp] theorem State.setByte_rdy (s : State) (a : Nat) (b : Byte) : (s.setByte a b).rdy = s.rdy := rfl
@[simp] theorem State.setByte_stroke (s : State) (a : Nat) (b : Byte) : (s.setByte a b).stroke = s.stroke := rfl
@[simp] theorem State.setByte_beacon (s : State) (a : Nat) (b : Byte) : (s.setByte a b).beacon = s.beacon := rfl
@[simp] theorem State.setByte_ckp (s : State) (a : Nat) (b : Byte) : (s.setByte a b).ckp = s.ckp := rfl
@[simp] theorem State.setByte_img (s : State) (a : Nat) (b : Byte) : (s.setByte a b).img = s.img := rfl
@[simp] theorem State.setByte_sends (s : State) (a : Nat) (b : Byte) : (s.setByte a b).sends = s.sends := rfl
@[simp] theorem State.setByte_flits (s : State) (a : Nat) (b : Byte) : (s.setByte a b).flits = s.flits := rfl
@[simp] theorem State.setByte_pads (s : State) (a : Nat) (b : Byte) : (s.setByte a b).pads = s.pads := rfl
@[simp] theorem State.setByte_uflits (s : State) (a : Nat) (b : Byte) : (s.setByte a b).uflits = s.uflits := rfl
@[simp] theorem State.setByte_uUsed (s : State) (a : Nat) (b : Byte) : (s.setByte a b).uUsed = s.uUsed := rfl
@[simp] theorem State.setByte_trigs (s : State) (a : Nat) (b : Byte) : (s.setByte a b).trigs = s.trigs := rfl
@[simp] theorem State.setByte_landings (s : State) (a : Nat) (b : Byte) : (s.setByte a b).landings = s.landings := rfl
@[simp] theorem State.setByte_hostVals (s : State) (a : Nat) (b : Byte) : (s.setByte a b).hostVals = s.hostVals := rfl
@[simp] theorem State.setByte_chans (s : State) (a : Nat) (b : Byte) : (s.setByte a b).chans = s.chans := rfl
@[simp] theorem State.setByte_lastCh (s : State) (a : Nat) (b : Byte) : (s.setByte a b).lastCh = s.lastCh := rfl
@[simp] theorem State.setByte_msixTab (s : State) (a : Nat) (b : Byte) : (s.setByte a b).msixTab = s.msixTab := rfl
@[simp] theorem State.setByte_msixPba (s : State) (a : Nat) (b : Byte) : (s.setByte a b).msixPba = s.msixPba := rfl
@[simp] theorem State.setByte_fltRecs (s : State) (a : Nat) (b : Byte) : (s.setByte a b).fltRecs = s.fltRecs := rfl
@[simp] theorem State.setByte_fltNext (s : State) (a : Nat) (b : Byte) : (s.setByte a b).fltNext = s.fltNext := rfl
@[simp] theorem State.setByte_fltAny (s : State) (a : Nat) (b : Byte) : (s.setByte a b).fltAny = s.fltAny := rfl
@[simp] theorem State.setByte_fltHw (s : State) (a : Nat) (b : Byte) : (s.setByte a b).fltHw = s.fltHw := rfl
@[simp] theorem State.setByte_emcy (s : State) (a : Nat) (b : Byte) : (s.setByte a b).emcy = s.emcy := rfl
@[simp] theorem State.setByte_ents (s : State) (a : Nat) (b : Byte) : (s.setByte a b).ents = s.ents := rfl
@[simp] theorem State.setByte_owner (s : State) (a : Nat) (b : Byte) : (s.setByte a b).owner = s.owner := rfl
@[simp] theorem State.setByte_claimAt (s : State) (a : Nat) (b : Byte) : (s.setByte a b).claimAt = s.claimAt := rfl
@[simp] theorem State.setByte_refReason (s : State) (a : Nat) (b : Byte) : (s.setByte a b).refReason = s.refReason := rfl
@[simp] theorem State.setByte_refCount (s : State) (a : Nat) (b : Byte) : (s.setByte a b).refCount = s.refCount := rfl
@[simp] theorem State.setByte_backup (s : State) (a : Nat) (b : Byte) : (s.setByte a b).backup = s.backup := rfl
@[simp] theorem State.setByte_boot (s : State) (a : Nat) (b : Byte) : (s.setByte a b).boot = s.boot := rfl
@[simp] theorem State.setByte_xports (s : State) (a : Nat) (b : Byte) : (s.setByte a b).xports = s.xports := rfl
@[simp] theorem State.setByte_persist (s : State) (a : Nat) (b : Byte) : (s.setByte a b).persist = s.persist := rfl
@[simp] theorem State.setByte_claim (s : State) (a : Nat) (b : Byte) : (s.setByte a b).claim = s.claim := rfl
@[simp] theorem State.setByte_ldicts (s : State) (a : Nat) (b : Byte) : (s.setByte a b).ldicts = s.ldicts := rfl
@[simp] theorem State.setByte_tap (s : State) (a : Nat) (b : Byte) : (s.setByte a b).tap = s.tap := rfl
@[simp] theorem State.setByte_trace (s : State) (a : Nat) (b : Byte) : (s.setByte a b).trace = s.trace := rfl
@[simp] theorem State.setByte_pins (s : State) (a : Nat) (b : Byte) : (s.setByte a b).pins = s.pins := rfl
@[simp] theorem State.setByte_flash (s : State) (a : Nat) (b : Byte) : (s.setByte a b).flash = s.flash := rfl
@[simp] theorem State.setByte_pci (s : State) (a : Nat) (b : Byte) : (s.setByte a b).pci = s.pci := rfl
@[simp] theorem State.setByte_cores (s : State) (a : Nat) (b : Byte) : (s.setByte a b).cores = s.cores := rfl
@[simp] theorem State.setByte_out (s : State) (a : Nat) (b : Byte) : (s.setByte a b).out = s.out := rfl
@[simp] theorem State.setByte_free (s : State) (a : Nat) (b : Byte) : (s.setByte a b).free = s.free := rfl

end Sys2Proof.Machine
end

