-- ==== Sys2Proof/WellFormed.lean ====
section
/-! DEFINITION. Which commands the surroundings can send: the lengths of frames, lists and transfers, the fields of short forms,
the operands whose types hold more than the spec names. -/

namespace Sys2Proof

/-- The operand field of the 32-bit form has 20 bits (09 R258). -/
def MemOp.wf (o : MemOp) : Bool := o.long || decide (o.f.toNat < 2 ^ 20)

/-- The group in a delay slot has 1 to 6 halfwords (09 R258, R263). -/
def slotOk (dlen : BitVec 3) : Bool := decide (1 ≤ dlen.toNat) && decide (dlen.toNat ≤ 6)

/-- An agent that has a transport of the dictionary (15). -/
def hasTransport : Agent → Bool
  | .jtag => false
  | _ => true

/-- The frame limit of an agent's transport (15 R410). -/
def frameLimit : Agent → Nat
  | .host | .core _ => 256
  | _ => 64

/-- A request frame of an agent: its length, and its CMD. -/
def requestOk (a : Agent) (frame : List Byte) (cmd : Nat → Bool) : Bool :=
  hasTransport a && decide (1 ≤ frame.length) && decide (frame.length ≤ frameLimit a) && cmd (frame.headD 0).toNat

/-- A transfer of 1 to 4,096 bytes; the data of a write are as long as it says (14 R381). -/
def tlpOk (len : BitVec 13) (data : Option (List Byte)) : Bool :=
  decide (1 ≤ len.toNat) && decide (len.toNat ≤ 4096) && (match data with
    | some l => l.length == len.toNat
    | none => true)

/-- At most 30 attempts, 15 by each method (16 R442, R443), none ending before it began. -/
def triesOk (l : List Try) : Bool := decide (l.length ≤ 30) && l.all (fun t => decide (t.start.toNat ≤ t.stop.toNat))

/-- The command is well formed. -/
def Instr.WellFormed : Instr → Bool
  | .bundleIssue _ _ => true
  | .flitLanding _ _ => true
  | .responseLanding _ _ => true
  | .answerLanding _ _ _ => true
  | .stagedValueWrite _ _ _ => true
  | .strokeStart => true
  | .boundaryWindowOpen => true
  | .stateBankFlip => true
  | .strokeNoAdvance => true
  | .swapCheck => true
  | .pagedSwap => true
  | .runEntry => true
  | .beaconSend => true
  | .beacon _ _ _ _ _ _ => true
  | .bcnLost => true
  | .handover => true
  | .periodWrite _ => true
  | .admission _ _ _ => true
  | .windowRead _ _ => true
  | .windowWrite _ _ _ => true
  | .pinj _ => true
  | .remapCommit _ => true
  | .remapRevert _ => true
  | .commitComplete _ => true
  | .sparePowerRequest _ _ => true
  | .sparePgood _ _ => true
  | .swapArm _ _ => true
  | .setpage _ => true
  | .loaderClaim _ _ _ => true
  | .imgAddrWrite _ _ => true
  | .apply _ _ _ => true
  | .applyComplete => true
  | .pathTableWrite _ _ _ => true
  | .unscheduledFlitForward _ _ => true
  | .drainWrite _ _ => true
  | .channelSpareCommit _ => true
  | .laneEnable _ _ => true
  | .retrain _ => true
  | .signalPresent _ => true
  | .trainingAdapted _ => true
  | .trainTimeout _ => true
  | .syncReceived _ _ _ => true
  | .lockTimeout _ => true
  | .measureDone _ => true
  | .measureTimeout _ => true
  | .identMsg _ _ _ _ => true
  | .identTimeout _ => true
  | .lossOfSignal _ => true
  | .syncMissing _ => true
  | .uncorrectableCodeword _ _ => true
  | .scheduledFlitTransmit _ => true
  | .scheduledBeat _ _ _ _ _ _ => true
  | .controlMessageSend _ => true
  | .timestampPeriod _ => true
  | .tsreq _ _ _ => true
  | .tsrsp _ _ _ _ _ => true
  | .credit _ _ => true
  | .pstat _ _ => true
  | .holdreq _ _ _ _ => true
  | .dictMsg _ frame => decide (1 ≤ frame.length) && decide (frame.length ≤ 64)
  | .unscheduledPair _ _ _ _ => true
  | .utxdWrite _ _ => true
  | .urxPop _ => true
  | .lnkCalWrite _ _ => true
  | .laneRemapCommit _ => true
  | .laneRemapRevert _ => true
  | .annStart _ _ => true
  | .annResume _ _ => true
  | .ckpDone _ _ => true
  | .ckpSwapped _ _ => true
  | .ckpCancelled _ _ => true
  | .ckpFailed _ _ => true
  | .annComplete _ _ => true
  | .restored _ _ => true
  | .held _ _ => true
  | .heldFault _ _ => true
  | .heldStop _ _ => true
  | .annRestore _ _ _ => true
  | .doneReport => true
  | .reportWaitTimeout => true
  | .slotPreparation _ _ _ => true
  | .holdEntry => true
  | .restoreDone _ _ _ => true
  | .reqhold => true
  | .go => true
  | .restoreCommand _ => true
  | .adoptWrite => true
  | .swackWrite => true
  | .nop _ _ => true
  | .movr _ _ _ => true
  | .exr _ _ _ => true
  | .incDec _ _ _ => true
  | .neg _ _ => true
  | .notA _ _ => true
  | .clc _ _ => true
  | .sec _ _ => true
  | .shliShriSraiRoli _ _ _ _ => true
  | .popc _ _ => true
  | .pushaPushxPushy _ _ _ => true
  | .popaPopxPopy _ _ _ => true
  | .ret _ _ => true
  | .reti _ _ => true
  | .jmpx _ _ => true
  | .callx _ _ dlen => slotOk dlen
  | .rspush _ _ => true
  | .rspop _ _ => true
  | .rscnt _ _ => true
  | .rsx _ _ => true
  | .syncOp _ _ => true
  | .synci _ _ => true
  | .waitOp _ _ => true
  | .syscall _ _ _ => true
  | .brk _ _ _ => true
  | .tlbinv _ _ _ => true
  | .tlbsync _ _ => true
  | .dcinv _ _ => true
  | .icinv _ _ => true
  | .mfcr _ _ _ => true
  | .mtcr _ _ _ => true
  | .lda _ _ o _ => o.wf
  | .ldas _ _ o _ => o.wf
  | .ldxLdy _ _ o _ => o.wf
  | .sta _ _ o _ => o.wf
  | .stxSty _ _ o _ => o.wf
  | .lea _ _ o => o.wf
  | .add _ _ o => o.wf
  | .adc _ _ o => o.wf
  | .sub _ _ o => o.wf
  | .sbc _ _ o => o.wf
  | .andOrXor _ _ o _ => o.wf
  | .cmpCmpxCmpy _ _ o _ => o.wf
  | .mul _ _ o => o.wf
  | .mulhuMulhs _ _ o _ => o.wf
  | .divuRemuDivsRems _ _ o _ => o.wf
  | .shlShrSraRol _ _ o _ => o.wf
  | .addxAddy _ _ o _ => o.wf
  | .lddpLdsp _ _ o _ => o.wf
  | .ldhi _ _ o => o.wf
  | .jmp _ _ o => o.wf
  | .call _ _ o dlen => o.wf && slotOk dlen
  | .tst _ _ o => o.wf
  | .ldst _ _ o => o.wf
  | .addsp _ _ o => o.wf
  | .bcc _ _ _ _ _ long f => long || decide (f.toNat < 2 ^ 20)
  | .vadd _ _ _ => true
  | .vsub _ _ _ => true
  | .vmul _ _ _ => true
  | .vminuVmaxuVminsVmaxs _ _ _ _ => true
  | .vandVorVxorVandn _ _ _ _ => true
  | .vshlVshrVsra _ _ _ _ => true
  | .vshli _ _ _ => true
  | .vceqVcltuVclts _ _ _ _ => true
  | .vmsk _ _ _ => true
  | .vsel _ _ _ => true
  | .vmov _ _ _ => true
  | .vsplat _ _ _ => true
  | .vpopc _ _ _ => true
  | .vins _ _ _ => true
  | .vext _ _ _ => true
  | .vsetvl _ _ _ => true
  | .vradd _ _ _ => true
  | .vrxor _ _ _ => true
  | .vrminuVrmaxu _ _ _ _ => true
  | .vrpopc _ _ _ => true
  | .vcompress _ _ _ => true
  | .vexpand _ _ _ => true
  | .vcrc _ _ _ => true
  | .vld _ _ _ => true
  | .vst _ _ _ => true
  | .vgather _ _ _ => true
  | .vscatter _ _ _ => true
  | .eventAcceptance _ _ _ => true
  | .bufferedStore _ => true
  | .serviceRequest _ => true
  | .invalidationReceived _ => true
  | .invalidationAck _ _ => true
  | .tlbsyncTimeout _ => true
  | .lkcmdWrite _ _ => true
  | .unlock _ _ => true
  | .lkcmdRead _ _ => true
  | .cvuRelease _ => true
  | .cvuWake _ => true
  | .cvuWakeDone _ => true
  | .cvuRetention _ => true
  | .cvuOff _ => true
  | .sourceChange _ _ _ _ => true
  | .triggerRecord _ => true
  | .lecSwevWrite _ => true
  | .lecPclrWrite _ _ _ => true
  | .lecPendWrite _ _ _ => true
  | .lecSenseWrite _ _ _ => true
  | .trqPop _ => true
  | .gecReassignment _ => true
  | .soundpostWake _ => true
  | .tmeRequest _ _ => true
  | .channelFailure _ _ => true
  | .rebuildGroup _ _ _ => true
  | .zeroFillDone _ => true
  | .flashErase _ => true
  | .flashProgram _ => true
  | .flashCommandDone _ _ _ => true
  | .bar0Access _ len data _ _ _ _ => tlpOk len data
  | .bar2Access _ len data _ _ _ => tlpOk len data
  | .flr => true
  | .conventionalReset => true
  | .pcieLinkChange width rate => rate == 0 || ([1, 2, 4, 8, 16].contains width.toNat && decide (rate.toNat ≤ 6))
  | .channelEnable _ => true
  | .msixMessage _ => true
  | .outputRelease _ => true
  | .pendload => true
  | .mailboxRequest => true
  | .dictRead a frame _ => requestOk a frame (· == 1)
  | .dictWrite a frame _ => requestOk a frame (· == 2)
  | .dictAbort a frame _ => requestOk a frame (· == 3)
  | .dictDescribe a frame _ => requestOk a frame (· == 4)
  | .dictNext a frame _ => requestOk a frame (· == 5)
  | .rwpPersist _ => true
  | .transferTimeout a => hasTransport a
  | .localPortRequest _ _ _ => true
  | .ldictRequest _ _ _ _ => true
  | .ldictTimeout _ => true
  | .heartbeat => true
  | .claim _ _ _ => true
  | .nodeClaimTimeout => true
  | .heartbeatReceived _ _ => true
  | .busOff _ => true
  | .busOffRecovery _ => true
  | .startCommand a _ => hasTransport a
  | .disarmCommand a _ => hasTransport a
  | .resumeCommand a _ => hasTransport a
  | .stopCommand a _ => hasTransport a
  | .serviceCommand a _ => hasTransport a
  | .endserviceCommand a _ => hasTransport a
  | .sleepCommand a _ => hasTransport a
  | .sleepProfile a _ _ => hasTransport a
  | .rebootCommand a _ => hasTransport a
  | .selectCommand a _ _ => hasTransport a
  | .porRelease _ _ _ => true
  | .warmReset => true
  | .bootStep tries _ => triesOk tries
  | .bootStepTimeout tries last _ => triesOk (tries ++ [last])
  | .bjClear _ _ => true
  | .refclkLoss => true
  | .lossOfLock => true
  | .domainSwitch _ _ _ => true
  | .domainOn _ => true
  | .domainFault _ _ => true
  | .sensorSample temps volts _ => temps.length == 42 && volts.length == 15
  | .thermalTrip _ _ => true
  | .pmbusPoll status amps => status.length == 15 && amps.length == 15
  | .pmbusCommand _ _ _ _ => true
  | .pmbusDone _ => true
  | .traceMessage => true
  | .probeCapture _ _ => true
  | .trcSwmsg _ _ => true
  | .frzNow => true
  | .frozen => true
  | .traceEnable => true
  | .debugHalt _ => true
  | .debugRun _ => true
  | .debugStep _ => true
  | .breakpointHit _ => true
  | .tapReset => true
  | .extest _ _ => true
  | .samplePreload _ _ => true
  | .idcode => true
  | .clamp => true
  | .highz => true
  | .extestPulse _ _ => true
  | .extestTrain _ _ => true
  | .memacc _ _ _ _ _ => true
  | .tapstat => true
  | .bypass code => decide (7 ≤ code.toNat) && code != 0x10 && code != 0x11
  | .faultAck _ => true
  | .moduleFault _ => true
  | .registerWrite _ _ _ _ => true
  | .domainOff _ => true
  | .resetLow _ => true
  | .reservedCtype _ ctype _ => decide (10 ≤ ctype.toNat)
  | .beatKindMismatch _ => true
  | .fenceLead => true
  | .canBusError _ _ _ _ => true
  | .ignoredFrame _ _ => true
  | .reservedCmd a frame _ => requestOk a frame (fun c => c == 0 || decide (5 < c))

end Sys2Proof
end

