-- ==== Sys2Proof/Tests/Slice0.lean ====
section
/-! SUPPORT. Tests: for each check of `WellFormed` a command it refuses and one it accepts; words of the Capo encodings of 09 R258, 10 and
11, written out from the spec's tables, with what they decode to; and, for each statement of Obligations.lean, states and operands that meet
the hypotheses of each of its clauses together, under the clause's name. -/

namespace Sys2Proof.Machine.Tests

open Sys2Proof

-- One theorem at a time: many at once take more threads than a bounded check has memory for.
set_option Elab.async false

/-! ### WellFormed -/

theorem test_wf_dictMsg_empty : (Instr.dictMsg 0 []).WellFormed = false := by decide
theorem test_wf_dictMsg_long : (Instr.dictMsg 0 (List.replicate 65 0)).WellFormed = false := by decide
theorem test_wf_dictMsg : (Instr.dictMsg 0 (List.replicate 64 0)).WellFormed = true := by decide
theorem test_wf_callx_dlen0 : (Instr.callx 0 { pair := false, err := .none } 0).WellFormed = false := by decide
theorem test_wf_callx_dlen7 : (Instr.callx 0 { pair := false, err := .none } 7).WellFormed = false := by decide
theorem test_wf_callx : (Instr.callx 0 { pair := false, err := .none } 6).WellFormed = true := by decide
theorem test_wf_call_dlen0 : (Instr.call 0 { pair := false, err := .none } ⟨true, 0, 0⟩ 0).WellFormed = false := by decide
theorem test_wf_lda_short : (Instr.lda 0 { pair := false, err := .none } ⟨false, 0, 0x100000⟩ 3).WellFormed = false := by decide
theorem test_wf_lda_long : (Instr.lda 0 { pair := false, err := .none } ⟨true, 0, 0x100000⟩ 3).WellFormed = true := by decide
theorem test_wf_bcc_short : (Instr.bcc 0 { pair := false, err := .none } 0 false 0 false 0x100000).WellFormed = false := by decide
theorem test_wf_bar0_zero : (Instr.bar0Access 0 0 none).WellFormed = false := by decide
theorem test_wf_bar0_long : (Instr.bar0Access 0 4097 none).WellFormed = false := by decide
theorem test_wf_bar2_data : (Instr.bar2Access 0 2 (some [0])).WellFormed = false := by decide
theorem test_wf_dictRead_jtag : (Instr.dictRead .jtag [1]).WellFormed = false := by decide
theorem test_wf_dictRead_empty : (Instr.dictRead .host []).WellFormed = false := by decide
theorem test_wf_dictRead_cmd : (Instr.dictRead .host [2]).WellFormed = false := by decide
theorem test_wf_dictWrite_can : (Instr.dictWrite (.can 0) (2 :: List.replicate 64 0)).WellFormed = false := by decide
theorem test_wf_reservedCmd : (Instr.reservedCmd .host [5]).WellFormed = false := by decide
theorem test_wf_transferTimeout : (Instr.transferTimeout .jtag).WellFormed = false := by decide
theorem test_wf_start_jtag : (Instr.startCommand .jtag 0).WellFormed = false := by decide
theorem test_wf_bootStep_many : (Instr.bootStep (List.replicate 31 ⟨true, [], 0, 0⟩) 0).WellFormed = false := by decide
theorem test_wf_bootStep_order : (Instr.bootStep [⟨true, [], 1, 0⟩] 0).WellFormed = false := by decide
theorem test_wf_bootTimeout_many : (Instr.bootStepTimeout (List.replicate 30 ⟨true, [], 0, 0⟩) ⟨false, [], 0, 0⟩ 0).WellFormed = false := by decide
theorem test_wf_sensor : (Instr.sensorSample [] (List.replicate 15 0) 0).WellFormed = false := by decide
theorem test_wf_sensor_volts : (Instr.sensorSample (List.replicate 42 0) [] 0).WellFormed = false := by decide
theorem test_wf_pmbusPoll : (Instr.pmbusPoll (List.replicate 15 none) []).WellFormed = false := by decide
theorem test_wf_reservedCtype : (Instr.reservedCtype 0 9 0).WellFormed = false := by decide
theorem test_wf_linkWidth : (Instr.pcieLinkChange 3 6).WellFormed = false := by decide
theorem test_wf_linkRate : (Instr.pcieLinkChange 4 7).WellFormed = false := by decide
theorem test_wf_link : (Instr.pcieLinkChange 16 6).WellFormed = true := by decide

/-! ### Decoding -/

-- ADD 0x18,DP: LEN 01, OP 0x10, AM 2 (DP + F), F 0x00018 (09 R258).
theorem test_decode_add (n : Core) : capoDecode n .none 0 0x2820 0x0018 0 = .add n { pair := false, err := .none } ⟨false, 2, 0x18⟩ := by decide +revert
-- The example of 10 R297, VGATHER: LEN 11, EW 3, G 2, VD V4, VB V8, BR 0 (X), SC 3, IMM 0 (10, vector format).
theorem test_decode_vgather (n : Core) :
    capoDecode n .none 0 0x7970 0x2010 0xC000 = .vgather n { pair := false, err := .none } ⟨3, 2, false, 0, 4, 0, 8, false, 3, 0⟩ := by decide +revert
-- TLBINV 2: LEN 00, OP7 0x2B, K 2 (11).
theorem test_decode_tlbinv (n : Core) : capoDecode n .none 0 0x0AC2 0 0 = .tlbinv n { pair := false, err := .none } 2 := by decide +revert
-- TLBSYNC: LEN 00, OP7 0x2C, K 0 (11).
theorem test_decode_tlbsync (n : Core) : capoDecode n .none 0 0x0B00 0 0 = .tlbsync n { pair := false, err := .none } := by decide +revert

/-! ### States -/

/-- The state after reset with the given power domains on (ascending). -/
def live (ds : List Nat) : State := { State.reset with dom := ds.map (·, 2), clockStopped := false }

/-- Set several register fields. -/
def put (s : State) (l : List (Field × Nat × Nat)) : State := l.foldl (fun s p => s.set p.1 p.2.1 p.2.2) s

/-- A core that is ready and accepts events. -/
def avail (n : Nat) (s : State) : State := { put s [(CPO_EVT_CTL_ACCEPT, n, 1)] with rdy := sput s.rdy (5 * 1024 + n) true false }

/-- An unscheduled flit. -/
def uflit (cls dest src : Nat) (pay : List Nat) : UFlit := ⟨cls, dest, src, pay, .unit 8, none, 0, 0, 0, true, 0, 0⟩

/-- Unscheduled flits delivered at a tile. -/
def delivered (s : State) (t : Nat) (l : List UFlit) : State := s.setTile t { s.tile t with uDelivered := l }

/-- Stroke cycle c of stroke 0 in RUN, with T_k at 0. -/
def cycle (s : State) (c : Nat) : State := { s with mode := .run, tb := c, stroke := { StrokeSt.zero with started := true } }

/-- Cell 0 has one probe record, which is due as record i. -/
def probing (i : Nat) : State :=
  let s := (cycle (live [0, 704, 712, 765]) (0x898 - 16 + i)).setTile 0 { TileSt.zero with probes := (List.range 16).map fun k => (0, 65536 * (k + 1)) }
  { s with stroke := { s.stroke with flipped := true }, trace := { s.trace with pctl := [(0, 255)] } }

/-- Lane 0 with its quad on, in a state of LNK_STAT and with some fields set. -/
def lane (st : Nat) (x : LaneSt) (l : List (Field × Nat)) : State :=
  (put (live [640, 712]) ((LNK_STAT_STATE, 0, st) :: l.map fun p => (p.1, 0, p.2))).setLane 0 x

/-- Lane 0 is in UP. -/
def up (s : State) : State := put s [(LNK_STAT_STATE, 0, 6)]

/-- An announcement of another module, by lane 0. -/
def ann : AnnSource := ⟨0, 5, 6, 0⟩

/-- The module is the master of two. -/
def master (s : State) : State := { put s [(CLK_TM_CTL_ROLE, 0, 1)] with img := { s.img with modules := 2 } }

/-- Stroke cycle c of stroke 2, with every second stroke a checkpoint stroke. -/
def checkpoint (s : State) (c : Nat) : State :=
  let s := put (cycle s c) [(CKP_POL_N, 0, 2)]
  { s with stroke := { s.stroke with no := 2, flipped := true, advanced := true, paged := true } }

/-- HOLD with the start of the next stroke set for now. -/
def resuming : State := { live [0, 712] with mode := .hold, tb := 9, stroke := { StrokeSt.zero with nextAt := some 9, nextNo := 3 } }

/-- READY at TSTART, with the entry announced. -/
def starting (l : List (Field × Nat × Nat)) : State :=
  { put (live []) ((CLK_TSTART_TSTART, 0, 9) :: l) with mode := .ready, tb := 9, stroke := { StrokeSt.zero with entryDone := true } }

/-- The swap of cluster 0 is armed for stroke 2. -/
def arming (s : State) : State := put s [(CLU_SWAP_CTL_ARM, 0, 1), (CLU_SWAP_STROKE_TARGET, 0, 2)]

/-- Cluster 0 may arm the swap of its pages at stroke 2. -/
def swapping (s : State) : State :=
  put s ([(CLU_SWAP_STROKE_TARGET, 0, 2), (CKP_POL_N, 0, 2)] ++ (List.range 64).map fun c => (CELL_IMCFG_PAGED, c, 1))

/-- Cell 0 is to issue bundle 0 in cycle 5, its storage being w. -/
def issuing (w : List (Nat × Word)) : State :=
  (put (cycle (live [0]) 5) [(CELL_STAT_ISSUING, 0, 1)]).setCell 0 { Cell.zero with mem := w, exec := 5 }

/-- A flit that lands at cell 0 now. -/
def landing (slot : Nat) (epoch : Bool) : Flit := ⟨0, 3, 7, 0, epoch, 0, slot, false, 0, [], 0, 0, 0⟩

/-- In the input log of tile 0, one record. -/
def logged (s : State) (r : Nat) : State := s.putLog 0 false r

/-- A staged value for cell 0, slot 511 and stroke 1. -/
def staged : HostVal := ⟨1, 0, 0, 511, 1, 7, 1, 0, 0, 0, true, true, 0, false, false, false⟩

/-- Cell 0, with one stored word. -/
def window (m : Mode) (k : Nat) : State := { (live [0]).setCell 0 { Cell.zero with mem := [(k, 7)], bad := [(k, 1)] } with mode := m }

/-- A time-base follower with a source on lane 0. -/
def follower (l : List (Field × Nat × Nat)) : State := put (up (live [640])) ((CLK_SKEW_VALID, 0, 1) :: l)

/-- Channel 0, mapped with a direction, holds an entry, and the link is up. -/
def channel (dir : Nat) : State :=
  { put (live [762]) [(PCI_CHCTL_EN, 0, 1), (PCI_CHPTR_SQTAIL, 0, 1)] with
    pci := { PciSt.zero with rate := 1, msixEn := true }, mode := .ready, img := { ImgSt.zero with hostmap := [(0, ⟨dir, 2, 0, 0, [(3, 4), (5, 6)], 0, 0, 4⟩)] } }

/-- A pending transaction for stroke 5 of the channel with global number 0, in the list that PENDLOAD reads. -/
def pendingList : State :=
  let s := { channel 0 with dom := [(704, 2), (762, 2)], mode := .hold }
  (s.setNum (s.ckpArea 0 + 0x4C000000) 8 1).setNum (s.ckpArea 0 + 0x4C000048) 8 5

/-- An unscheduled flit at a place. -/
def uat (p : UPoint) (cls dest : Nat) : UFlit := ⟨cls, dest, 0, [1, 3, 0], p, none, 0, 0, 0, true, 0, 0⟩

/-- Cycle 1, with one unscheduled flit. -/
def holding (f : UFlit) : State := { live [0, 712] with tb := 1, uflits := [f] }

/-- Core 0 is on, with its memory. -/
def core0 (x : CoreSt) : State := (live [704, 720, 760, 761, 764]).setCore 0 x

/-- Registers to run from. -/
def regs0 : CoreSt := { CoreSt.reset with a := 5, x := 3, y := 2, dp := 0x10000, sp := 0x20000 }

/-- An instruction that stands alone and meets no error. -/
def g0 : Slot := { pair := false, err := .none }

/-- DP plus 8. -/
def odp : MemOp := ⟨false, 2, 8⟩

/-- Core 0 after the fetch of an instruction. -/
def fetched (s : State) (len : Nat) : State := (s.fetch 0 ((s.core 0).pc % 2 ^ 48) len .none).1

/-- The addresses of the six words of a stack frame. -/
def sixWords (a : Nat) : List Nat := (List.range 6).map (a + 8 * ·)

/-- The value of a computation that ends well. -/
def okVal {α : Type} (r : Run α) : Option α := match r.2 with | .ok a => some a | .error _ => none

/-- The stop of a computation that ends in one. -/
def errVal {α : Type} (r : Run α) : Option Stop := match r.2 with | .ok _ => none | .error e => some e

theorem run_ok {α : Type} {r : Run α} {a : α} (h : okVal r = some a) : r = (r.1, .ok a) := by
  obtain ⟨s, a' | e⟩ := r <;> simp_all [okVal]

theorem run_err {α : Type} {r : Run α} {e : Stop} (h : errVal r = some e) : r = (r.1, .error e) := by
  obtain ⟨s, a' | e⟩ := r <;> simp_all [errVal]

theorem issues_of {s : State} {n len : Nat} {g : Slot} (h : (s.issues n && (s.beforeGroup n).isNone && (s.core n).first.isNone && !g.pair && !g.rsvd && g.spec.isNone &&
    !(s.core n).odd && decide ((s.core n).delay ≠ 3) && okVal (s.fetch n ((s.core n).pc % 2 ^ 48) len g.err) == some ()) = true) :
    s.Issues n g len (s.fetch n ((s.core n).pc % 2 ^ 48) len g.err).1 := by
  simp only [Bool.and_eq_true, Bool.not_eq_true', decide_eq_true_eq, beq_iff_eq, Option.isNone_iff_eq_none] at h
  obtain ⟨⟨⟨⟨⟨⟨⟨⟨h1, h2⟩, h3⟩, h4⟩, h5⟩, h9⟩, h6⟩, h7⟩, h8⟩ := h
  exact ⟨h1, h2, h3, h4, h5, h6, h7, by rw [State.walkedAhead, h9]; exact run_ok h8⟩

/-- Vector registers to run from, with VEN = 1. -/
def vregs0 : CoreSt := { regs0 with
  st := 0x3F00, vregs := [(0, 0xB), (1, 0x80FF7F0102030405), (2, 0x0102030405060708), (4, 0x8000000000000001)], x := 0x10000, y := 0x10040 }

/-- Core 0 with them and a vector length. -/
def vec0 (vl : Nat) : State := put (core0 vregs0) [(CVU_VL_VL, 0, vl), (CVU_STAT_PSTATE, 0, 0)]

/-- Core 0 with a V0 of zeros: no element is active under the mask. -/
def masked : State := { vec0 256 with cores := (core0 { vregs0 with vregs := [] }).cores }

/-- The vector instruction over V3, V1 and V2 with an element width. -/
def v0 (ew : BitVec 2) (m : Bool) : VOp := ⟨ew, 0, m, 0, 3, 1, 2, false, 0, 0⟩

/-- Core 0 after the fetch of a vector instruction, its unit woken. -/
def woken (s : State) : State :=
  ((fetched s 3).cvuReady 0).setCore 0 ((((fetched s 3).cvuReady 0).core 0).vUpset .none)

theorem vissues_of {s : State} {o : VOp} {use : VUse} (h : (s.issues 0 && (s.beforeGroup 0).isNone && (s.core 0).first.isNone && !g0.pair && !g0.rsvd && g0.spec.isNone &&
    !(s.core 0).odd && decide ((s.core 0).delay ≠ 3) && okVal (s.fetch 0 ((s.core 0).pc % 2 ^ 48) 3 .none) == some ()) = true)
    (h2 : (bit ((fetched s 3).core 0).st 13 && !use.bad o && !(woken s).flag CVU_STAT_LOST 0 && decide (((woken s).core 0).vbad = [])) = true) :
    s.VIssues 0 g0 o use (fetched s 3) (woken s) := by
  simp only [Bool.and_eq_true, Bool.not_eq_true', decide_eq_true_eq] at h2
  obtain ⟨⟨⟨h3, h4⟩, h5⟩, h6⟩ := h2
  exact ⟨issues_of h, h3, h4, rfl, h5, fun r hr => by simp [h6, sget, lookup] at hr⟩

/-- Core 0 after the fetch of a vector instruction that meets an error. -/
def fetchedE (s : State) (e : MemErr) : State := (s.fetch 0 ((s.core 0).pc % 2 ^ 48) 3 e).1

/-- The same, its unit woken. -/
def wokenE (s : State) (e : MemErr) : State :=
  ((fetchedE s e).cvuReady 0).setCore 0 ((((fetchedE s e).cvuReady 0).core 0).vUpset e)

theorem vissues_err {s : State} {o : VOp} {use : VUse} {e : MemErr} (h : (s.issues 0 && (s.beforeGroup 0).isNone && (s.core 0).first.isNone &&
    !(s.core 0).odd && decide ((s.core 0).delay ≠ 3) && okVal (s.fetch 0 ((s.core 0).pc % 2 ^ 48) 3 e) == some ()) = true)
    (h2 : (bit ((fetchedE s e).core 0).st 13 && !use.bad o && !(wokenE s e).flag CVU_STAT_LOST 0 && decide (((wokenE s e).core 0).vbad = [])) = true) :
    s.VIssues 0 { pair := false, err := e } o use (fetchedE s e) (wokenE s e) := by
  simp only [Bool.and_eq_true, Bool.not_eq_true', decide_eq_true_eq, beq_iff_eq, Option.isNone_iff_eq_none] at h h2
  obtain ⟨⟨⟨⟨⟨h1, h2'⟩, h3⟩, h4⟩, h5⟩, h6⟩ := h
  obtain ⟨⟨⟨g1, g2⟩, g3⟩, g4⟩ := h2
  exact ⟨⟨h1, h2', h3, rfl, rfl, h4, h5, by rw [State.walkedAhead]; exact run_ok h6⟩, g1, g2, rfl, g3, fun r hr => by simp [g4, sget, lookup] at hr⟩

/-- The check phase of a vector store over V3, element 0 of which meets a bus error. -/
def checkedE : Run (List (Nat × Nat × Nat × Nat)) :=
  (wokenE (vec0 256) (.elem 0 false)).vCheck 0 8 true (.elem 0 false) (((wokenE (vec0 256) (.elem 0 false)).vActive 0 ⟨3, 0, false, 0, 3, 0, 0, false, 0, 0⟩).map
    fun i => (i, ((wokenE (vec0 256) (.elem 0 false)).core 0).elemAddr ⟨3, 0, false, 0, 3, 0, 0, false, 0, 0⟩ false i))

/-- The check phase of a vector access, with the places it finds. -/
def checked (s : State) (o : VOp) (write indexed : Bool) (err : MemErr) : Run (List (Nat × Nat × Nat × Nat)) :=
  (woken s).vCheck 0 (vBits o / 8) write err (((woken s).vActive 0 o).map fun i => (i, ((woken s).core 0).elemAddr o indexed i))

/-- The places that a check phase has found. -/
def places (r : Run (List (Nat × Nat × Nat × Nat))) : List (Nat × Nat × Nat × Nat) := (okVal r).getD []

/-- The loads after a check phase. -/
def loaded (o : VOp) (r : Run (List (Nat × Nat × Nat × Nat))) : Run (List (Nat × Nat)) := r.1.vLoads 0 (vBits o / 8) .none true (places r)

/-- The stores after a check phase. -/
def performed (s : State) (o : VOp) (r : Run (List (Nat × Nat × Nat × Nat))) : State × Option (Nat × Nat) :=
  (r.1.drainAll 0).performVec 0 (((places r).find? fun q => elemBus .none q.1).map (·.1))
    ((places r).map fun q => (q.1, ⟨q.2.1, q.2.2.1, vBits o / 8, ((woken s).core 0).elem o o.vd q.1⟩))

/-- Cycle 20 of stroke 0: the TME of tile 0 has these requests waiting, and 2 MiB of design memory. -/
def asking (l : List MemReq) : State :=
  (put (cycle (live [0, 704, 712, 764]) 20) [(TME_CFG_DMSIZE, 0, 1)]).setTile 0 { TileSt.zero with memq := l }

/-- A write waits there whose address is an OUT channel. -/
def outputting : State :=
  { asking [⟨true, 0x10, 7, 0x81, 3, 0, 9, 0, 9⟩] with img := { ImgSt.zero with hostmap := [(0, ⟨1, 2, 0, 0, [], 0x10, 0, 4⟩)] } }

/-- A flash command of one page at 0x110000 runs. -/
def flashing (op : Nat) : State :=
  { put (live [704, 761]) [(MGT_FLCTL_BUSY, 0, 1)] with flash := { FlashSt.zero with op := op, off := 0x110000, len := 256, src := 0x1000 } }

/-- The link is up. -/
def barred : State := { live [760, 761, 762, 764] with pci := { PciSt.zero with rate := 1, msixEn := true } }

/-- A dictionary request. -/
def frame (cmd seq x y off total : Nat) (data : List Nat) : List Byte :=
  ([cmd, seq] ++ leBytes 2 x ++ [y, 0] ++ leBytes 2 data.length ++ leBytes 4 off ++ leBytes 4 total ++ data).map (BitVec.ofNat 8 ·)

/-- The request that its bytes spell. -/
def spelled (f : List Byte) : Req := reqOf (f.map (·.toNat))

/-- The module in a mode, able to serve requests of every transport. -/
def inMode (m : Mode) : State := { live [640, 704, 720, 760, 761, 762, 763, 764] with mode := m }

/-- A request waits on a transport. -/
def asks (k : Nat) (l : List Nat) : State :=
  (put (inMode .ready) [(PCI_MBX_BUSY, 0, 1), (MGT_STAT_NODE, 0, 5), (MGT_CAN_STATE, 0, 0), (MGT_LMBX_BUSY, 0, 1)]).setXport k
    { XportSt.idle with waiting := some (0, l) }

/-- A request frame waits on a transport. -/
def asked (k : Nat) (f : List Byte) : State := asks k (f.map (·.toNat))

/-- The request that waits since time 0 is the next one served. -/
theorem asks_of {s : State} {a : Agent} {f : List Byte} {q : Req} (h : ((s.xport (transport a)).waiting == some (0, f.map (·.toNat)) &&
    s.nextServed == some (transport a) && q == reqOf (f.map (·.toNat)) && !s.flashNeeded q) = true) : s.Asks a f false q := by
  simp only [Bool.and_eq_true, Bool.not_eq_true', beq_iff_eq] at h
  exact ⟨⟨0, h.1.1.1⟩, h.1.1.2, nofun, h.1.2, h.2⟩

/-- A request waits at the mailbox, and a transfer of its entry has lapsed. -/
def lapsing (f : List Byte) (e : Nat × Nat) : State := (asked 0 f).setXport 0 { (asked 0 f).xport 0 with lapsed := some e }

/-- The response that waits for a value to be persistent. -/
def frameNat : List Nat := (frame 130 4 0x1100 4 0 1 []).map (·.toNat)

/-- The state behind the close of what the request at transport k does not continue. -/
def settledAt (k : Nat) (f : List Byte) (s : State) : State := s.settled k (spelled f)

/-- A value is being made persistent. -/
def persisting : State := { asked 0 (frame 2 4 0x1100 4 0 1 [3]) with persist := some ⟨0, frameNat, 0, [1, 2, 3]⟩ }

/-- SERVICE, entered from HOLD, with a restore and a write that wait for its end. -/
def pendingRestore : State :=
  let s := { put (asks 0 (modeRequest 9 6)) [(MGT_MODE_PREV, 0, 4)] with mode := .service }
  { s with ckp := { s.ckp with pendRestore := some 3, heldWrites := [(8, [1])] } }

/-- Node 5 of the CAN buses. -/
def onCan (m : Mode) : State := put (inMode m) [(MGT_STAT_NODE, 0, 5), (MGT_CAN_STATE, 0, 0), (MGT_CAN_STATE, 1, 0)]

/-- The node claims number 7. -/
def claiming : State := { put (onCan .hold) [(MGT_STAT_CLAIMING, 0, 1), (MGT_STAT_NODE, 0, 0)] with claim := { ClaimSt.zero with candidate := 7 } }

/-- Bring-up stands before a step, with a state of the rails. -/
def booting (n rails : Nat) : State :=
  { inMode .bringUp with boot := { BootSt.zero with step := n }, pins := { PinSt.zero with pgood := rails } }

/-- READY, with domains on. -/
def planning (ds : List Nat) : State := { live ds with mode := .ready }

/-- Core 0 with an offer of priority 3. -/
def offered (x : CoreSt) : State :=
  let s := put (core0 x) [(GEC_EN_EN, 5, 1), (GEC_IN_LEVEL, 5, 1), (GEC_IN_CUR, 5, 0), (GEC_IN_PRIO, 5, 3), (CPO_EVT_CTL_ACCEPT, 0, 1)]
  { s with events := { s.events with offered := [(0, 5, 3)] } }

/-- An S of 1 for page 0 of every logical cell. -/
def allDeclared : List (Nat × Nat) := (List.range 8192).map fun a => (2 * a, 1)

/-- Core 0 at a group boundary, with an offer above IML and an event stack. -/
def accepting : State := offered { regs0 with st := 0x1200, sp := 0x300010000030 }

/-- Core 0 after the frame of that offer. -/
def entered : State := (accepting.stackFrame 0 (accepting.core 0).pc (accepting.core 0).st 0x13 11).1

theorem entered_eq : accepting.stackFrame 0 (accepting.core 0).pc (accepting.core 0).st 0x13 11 = (entered, true) :=
  Prod.ext rfl (by decide +kernel)

/-- Nothing bars entry into RUN: every logical cell declares an S of 1, and the functions every module uses are ready. -/
def fit (s : State) : State :=
  { s with img := { s.img with declS := allDeclared }, rdy := [(6147, true), (6148, true)] }

theorem fit_declS (s : State) : (fit s).img.declS = allDeclared := by simp only [fit]

theorem lookup_evens (l : List Nat) (a v : Nat) (h : a ∈ l) : lookup (l.map fun a => (2 * a, v)) (2 * a) = some v := by
  induction l with
  | nil => simp at h
  | cons b t ih =>
    rcases List.mem_cons.1 h with rfl | h
    · simp [lookup]
    · by_cases e : b = a
      · simp [lookup, e]
      · simp [lookup, ih h]

/-- Core 0 with its MMU on, an L1 entry for page 0, and a table at a stack that still serves requests: the frame's walk waits. -/
def walking : State :=
  let s := put (core0 { regs0 with l1 := [⟨0x3F0000000, 0, 0, true, 0x3F0000000, 0, 0, false⟩] }) [(MMU_CTL_EN, 0, 1)]
  s.setTile 0 { s.tile 0 with memq := [⟨true, 0, 0, 0, 0, 0, 0, 0, 0⟩] }

/-- HOLD, with a vector unit to store from and a RESTORE that has come: a write to the design-memory window waits. -/
def storing : State :=
  let s := put (vec0 4) [(TME_CFG_DMSIZE, 0, 1)]
  { s with mode := .service, ckp := { s.ckp with pendRestore := some 3 } }

/-- READY with SLEEP to wake profile 2 asked for, while the input that a wake slot names is high. -/
def slotUp : State :=
  put (asks 0 (modeRequest 9 0x1A)) [(SPT_SEL_EN, 0, 1), (SPT_SEL_INPUT, 0, 546), (LEC_EN_EN, 4368, 1), (LEC_PEND_PEND, 4368, 1)]

/-- One record of this FCLK cycle, not acknowledged. -/
def faulted : State :=
  { live [763] with fltRecs := [⟨1, 0xF02, 2, 3, 0, 0, 0xFFFF, 0xFF, 0, 0xFFFF, 5, 0⟩], fltNext := 2, fltAny := true }

/-- A flag that no entry of the registers holds reads as after reset. -/
theorem flag_unlisted {s : State} {f : Field} (h : s.listed f = []) (hr : ∀ i, f.rst i = 0) (i : Nat) : s.flag f i = false := by
  have hl : ∀ l : List (Nat × Nat), (l.filter (fun p => p.1 % 65536 == f.id % 65536)).map (fun p => p.1 / 65536) = [] → lookup l (f.key i) = none := by
    intro l
    induction l with
    | nil => simp [lookup]
    | cons p t ih =>
      intro h
      by_cases e : p.1 % 65536 = f.id % 65536
      · simp [e] at h
      · have : p.1 ≠ f.key i := by unfold Field.key; omega
        simp only [lookup, this, if_false]
        exact ih (by simpa [e] using h)
  simp [State.flag, State.get, sget, hl _ h, hr]

/-- In a state that `fit` describes, nothing bars entry into RUN. -/
theorem runRefusal_fit (s : State) (hd : s.img.declS = allDeclared) (hp : ∀ c, s.flag CELL_IMCFG_PAGED c = false)
    (h : (s.img.failedSection || s.firstUnready.isSome || decide (s.get CLK_STROKE_CFG_PERIOD < 33) || s.img.loaded ||
      decide (s.get CKP_POL_N = 0 ∨ s.intervalMax < s.get CKP_POL_N * s.get CLK_STROKE_CFG_PERIOD) || s.areaOverlap.isSome) = false) :
    s.runRefusal = none := by
  simp only [Bool.or_eq_false_iff, decide_eq_false_iff_not, Option.isSome_eq_false_iff, Option.isNone_iff_eq_none] at h
  obtain ⟨⟨⟨⟨⟨h1, h2⟩, h3⟩, h4⟩, h5⟩, h6⟩ := h
  have hdecl : ∀ x ∈ s.activeCells, s.declaredOf x = some 1 := by
    intro x hx
    obtain ⟨a, ha, b, -, rfl⟩ : ∃ a ∈ List.range 8192, ∃ b, _ ∧ (a, b) = x := by simpa [State.activeCells] using hx
    have e : (1024 * (a / 1024) + a % 1024) * 2 = 2 * a := by omega
    simp [State.declaredOf, State.declared, hp, hd, allDeclared, e, lookup_evens _ _ _ ha]
  have hall : ∀ x ∈ s.activeCells, s.declaredAll x = [1] := by
    intro x hx
    have h1 := hdecl x hx
    simp only [State.declaredOf, hp, Bool.false_eq_true, if_false] at h1
    simp [State.declaredAll, hp, h1]
  have ht : s.tooLong = none := by
    simp only [State.tooLong, Option.map_eq_none_iff, List.find?_eq_none]
    intro x hx
    simp only [hall x hx, List.any_cons, List.any_nil, Bool.or_false, decide_eq_true_eq]; omega
  have hu : s.undeclared = none := by
    simp only [State.undeclared, Option.map_eq_none_iff, List.find?_eq_none]
    intro x hx
    simp [hdecl x hx]
  simp [State.runRefusal, h1, h2, ht, hu, h4, h5, h6]

/-! ### Witnesses -/

theorem witness_StepRunsFrontCommand : ∃ (c : Instr) (rest : List Instr) (s : State), s.pending = c :: rest :=
  ⟨.go, [], { State.reset with pending := [.go] }, by decide +kernel⟩

theorem witness_StepKeepsCanonicalStores : ∃ s t : State, s.Inv ∧ step s = .next t ∧ t.regs ≠ s.regs :=
  ⟨{ State.reset with pending := [.porRelease 2 0 false] }, _, ⟨by decide +kernel, by decide +kernel⟩, rfl, by decide +kernel⟩

theorem witness_ModeTransitions : ∃ s t : State, step s = .next t ∧ s.mode = .run ∧ t.mode = .hold :=
  ⟨{ inMode .run with pending := [.refclkLoss] }, _, rfl, by decide +kernel, by decide +kernel⟩

theorem witness_EventSources :
    -- sourceChange
    (∃ (e : Fin 9) (src : Fin 512) (s : State),
      s.lecOn e.val = true ∧ reservedSource (512 * e.val + src.val) = false ∧ eventSource (512 * e.val + src.val) = false ∧ s.get LEC_SENSE_SENSE (512 * e.val + src.val) ≤ 1) ∧
    -- sourceChangeEdge
    (∃ (e : Fin 9) (src : Fin 512) (level : Bool) (s : State),
      s.lecOn e.val = true ∧ reservedSource (512 * e.val + src.val) = false ∧ eventSource (512 * e.val + src.val) = false ∧ sget s.lecFresh (512 * e.val + src.val) false = false ∧ ((s.get LEC_SENSE_SENSE (512 * e.val + src.val) = 4 ∧ s.flag LEC_RAW_RAW (512 * e.val + src.val) ≠ s.sourceLevel e.val src.val level) ∨ (s.get LEC_SENSE_SENSE (512 * e.val + src.val) = 2 ∧ s.flag LEC_RAW_RAW (512 * e.val + src.val) = false ∧ s.sourceLevel e.val src.val level = true) ∨ (s.get LEC_SENSE_SENSE (512 * e.val + src.val) = 3 ∧ s.flag LEC_RAW_RAW (512 * e.val + src.val) = true ∧ s.sourceLevel e.val src.val level = false))) ∧
    -- sourceChangeNoEdge
    (∃ (e : Fin 9) (src : Fin 512) (level : Bool) (s : State),
      s.lecOn e.val = true ∧ reservedSource (512 * e.val + src.val) = false ∧ eventSource (512 * e.val + src.val) = false ∧ 2 ≤ s.get LEC_SENSE_SENSE (512 * e.val + src.val) ∧ (sget s.lecFresh (512 * e.val + src.val) false = true ∨ s.flag LEC_RAW_RAW (512 * e.val + src.val) = s.sourceLevel e.val src.val level ∨ (s.get LEC_SENSE_SENSE (512 * e.val + src.val) = 2 ∧ s.sourceLevel e.val src.val level = false) ∨ (s.get LEC_SENSE_SENSE (512 * e.val + src.val) = 3 ∧ s.sourceLevel e.val src.val level = true))) ∧
    -- triggerRecord
    (∃ (tl : Tile) (r : TrigRec) (s : State),
      s.lecOn tl.val = true ∧ firstTrig ((s.trigs.filter (fun p => p.1 == tl.val && decide (p.2.dueAt ≤ s.tb))).map (·.2)) = some r) ∧
    -- lecSwevWrite
    (∃ (k : Nat) (s : State),
      s.lecOn 8 = true ∧ k < 16) ∧
    -- lecPclrWrite
    (∃ (e : Fin 9) (r : Fin 8) (i : Fin 64) (s : State),
      s.lecOn e.val = true ∧ s.cycle.fresh LEC_PEND_PEND (512 * e.val + 64 * r.val + i.val) = 0) ∧
    -- lecPclrWriteInTheCycleOfAnEvent
    (∃ (e : Fin 9) (r : Fin 8) (i : Fin 64) (s : State),
      s.lecOn e.val = true ∧ s.cycle.fresh LEC_PEND_PEND (512 * e.val + 64 * r.val + i.val) = 1 ∧ s.flag LEC_PEND_PEND (512 * e.val + 64 * r.val + i.val) = true) ∧
    -- lecPendWrite
    (∃ (e : Fin 9) (r : Fin 8) (i : Fin 64) (s : State),
      s.lecOn e.val = true ∧ s.cycle.fresh LEC_PEND_PEND (512 * e.val + 64 * r.val + i.val) = 0) ∧
    -- lecSenseWrite
    (∃ (e : Fin 9) (s : State),
      s.lecOn e.val = true) ∧
    -- trqPop
    (∃ (e : Fin 9) (s : State),
      s.lecOn e.val = true) :=
  ⟨⟨0, 0x100, live [712], by decide +kernel⟩,
   ⟨0, 0x1B0, true, put (live [712]) [(LEC_SENSE_SENSE, 0x1B0, 4)], by decide +kernel⟩,
   ⟨0, 0x1B0, false, put (live [712]) [(LEC_SENSE_SENSE, 0x1B0, 2)], by decide +kernel⟩,
   ⟨0, ⟨5, 7, 0, 0, 0, 0⟩, { live [712] with trigs := [(0, ⟨5, 7, 0, 0, 0, 0⟩)] }, by decide +kernel⟩,
   ⟨15, live [764], by decide +kernel⟩,
   ⟨8, 4, 0, put (live [764]) [(LEC_PEND_PEND, 4352, 1)], by decide +kernel⟩,
   ⟨0, 0, 0, (live [712]).raise LEC_PEND_PEND 0, by decide +kernel⟩,
   ⟨8, 7, 63, live [764], by decide +kernel⟩,
   ⟨0, live [712], by decide +kernel⟩,
   ⟨8, live [764], by decide +kernel⟩⟩

theorem witness_EventAssignment :
    -- gecReassignmentTarget
    (∃ (i : Fin 576) (s : State),
      s.domOn 764 = true ∧ s.flag GEC_IN_LEVEL i.val = true ∧ (s.get GEC_IN_CUR i.val = 0x1F ∨ s.coreAvail (s.get GEC_IN_CUR i.val) = false) ∧ s.coreAvail (s.get GEC_IN_TARGET i.val) = true) ∧
    -- gecReassignmentFallback
    (∃ (i : Fin 576) (n : Nat) (s : State),
      s.domOn 764 = true ∧ s.flag GEC_IN_LEVEL i.val = true ∧ (s.get GEC_IN_CUR i.val = 0x1F ∨ s.coreAvail (s.get GEC_IN_CUR i.val) = false) ∧ s.coreAvail (s.get GEC_IN_TARGET i.val) = false ∧ s.fallbackCore = some n) ∧
    -- gecReassignmentOrphan
    (∃ (i : Fin 576) (s : State),
      s.domOn 764 = true ∧ s.flag GEC_IN_LEVEL i.val = true ∧ (s.get GEC_IN_CUR i.val = 0x1F ∨ s.coreAvail (s.get GEC_IN_CUR i.val) = false) ∧ s.coreAvail (s.get GEC_IN_TARGET i.val) = false ∧ s.fallbackCore = none) ∧
    -- gecReassignmentNone
    (∃ (i : Fin 576) (s : State),
      s.flag GEC_IN_LEVEL i.val = false) :=
  ⟨⟨575, avail 3 (put (live [764]) [(GEC_IN_LEVEL, 575, 1), (GEC_IN_CUR, 575, 0x1F), (GEC_IN_TARGET, 575, 3)]), by decide +kernel⟩,
   ⟨0, 19, avail 19 (put (live [764]) [(GEC_IN_LEVEL, 0, 1), (GEC_IN_CUR, 0, 0x1F), (GEC_IN_TARGET, 0, 3), (GEC_FALLBACK_MASK, 0, 0xFFFFF)]), by decide +kernel⟩,
   ⟨0, put (live [764]) [(GEC_IN_LEVEL, 0, 1), (GEC_IN_CUR, 0, 0x1F)], by decide +kernel⟩,
   ⟨0, State.reset, by decide +kernel⟩⟩

theorem witness_TestAccessPort :
    -- tapstat
    (∃ (s : State),
      s.get BJ_STAT_STEP < 64 ∧ s.get BJ_STAT_HALTED < 2 ∧ s.get CLK_GEN_STAT_LOCK < 2 ∧ s.get CLK_GEN_STAT_REFLOSS < 2) ∧
    -- bypass
    (∃ (code : Byte),
      7 ≤ code.toNat ∧ code ≠ 0x10 ∧ code ≠ 0x11) :=
  ⟨⟨State.reset, by decide +kernel⟩,
   ⟨0x55, by decide +kernel⟩⟩

theorem witness_MemoryAccessPort :
    -- memaccRead
    (∃ (addr : BitVec 46) (s : State),
      s.domOn 760 = true ∧ addr.toNat % 8 = 0 ∧ region addr.toNat = .hbm ∧ s.memOn addr.toNat = true ∧ (s.tile (addr.toNat / 0x900000000)).memq = [] ∧ s.ckp.heldWrites = [] ∧ s.flash.macc = none) ∧
    -- memaccWrite
    (∃ (addr : BitVec 46) (s : State),
      s.domOn 760 = true ∧ addr.toNat % 8 = 0 ∧ region addr.toNat = .hbm ∧ s.memOn addr.toNat = true ∧ (s.mode = .ready ∨ s.guarded addr.toNat = false) ∧ s.flash.macc = none) ∧
    -- memaccGuarded
    (∃ (addr : BitVec 46) (s : State),
      s.domOn 760 = true ∧ addr.toNat % 8 = 0 ∧ region addr.toNat = .hbm ∧ s.memOn addr.toNat = true ∧ s.mode = .run ∧ s.guarded addr.toNat = true ∧ s.flash.macc = none) ∧
    -- memaccAwaitsRestore
    (∃ (addr : BitVec 46) (s : State),
      s.domOn 760 = true ∧ addr.toNat % 8 = 0 ∧ region addr.toNat = .hbm ∧ s.memOn addr.toNat = true ∧ s.mode = .service ∧ s.ckp.pendRestore.isSome = true ∧ s.guarded addr.toNat = true ∧ s.flash.macc = none) :=
  ⟨⟨0, live [704, 760], by decide +kernel⟩,
   ⟨8, live [704, 760], by decide +kernel⟩,
   ⟨0, { put (live [704, 760]) [(TME_CFG_DMSIZE, 0, 1)] with mode := .run }, by decide +kernel⟩,
   ⟨0, { put (live [704, 760]) [(TME_CFG_DMSIZE, 0, 1)] with mode := .service, ckp := { CkpSt.zero with pendRestore := some 4 } }, by decide +kernel⟩⟩

theorem witness_TraceRecords :
    -- trcSwmsg
    (∃ (s : State),
      s.domOn 765 = true ∧ s.trcClosed = false ∧ s.trace.buffer.length < 4096 ∧ s.trace.takenAt ≠ some (s.tb / 4) ∧ s.trace.waiting = []) ∧
    -- trcSwmsgLost
    (∃ (s : State),
      s.domOn 765 = true ∧ (s.trcClosed = true ∨ 4096 ≤ s.trace.buffer.length) ∧ s.trace.takenAt ≠ some (s.tb / 4) ∧ s.trace.waiting = []) ∧
    -- trcSwmsgLater
    (∃ (s : State),
      s.domOn 765 = true ∧ (s.trace.takenAt = some (s.tb / 4) ∨ s.trace.waiting ≠ [])) ∧
    -- traceMessage
    (∃ (f : UFlit) (s : State),
      s.domOn 765 = true ∧ firstMessage (s.tile 8).uDelivered = some (f, none) ∧ s.trcClosed = false ∧ s.trace.buffer.length < 4096 ∧ s.trace.takenAt ≠ some (s.tb / 4) ∧ s.trace.waiting = []) ∧
    -- traceMessageProbe
    (∃ (f : UFlit) (g : UFlit) (s : State),
      s.domOn 765 = true ∧ firstMessage (s.tile 8).uDelivered = some (f, some g) ∧ s.trcClosed = false ∧ s.trace.buffer.length < 4096 ∧ s.trace.takenAt ≠ some (s.tb / 4) ∧ s.trace.waiting = []) ∧
    -- traceMessageWaits
    (∃ (s : State),
      (4096 ≤ s.trace.buffer.length ∨ s.trace.takenAt = some (s.tb / 4) ∨ s.trace.waiting ≠ [])) ∧
    -- traceWritten
    (∃ (r : Nat) (rest : List Nat) (s : State),
      s.trace.buffer = r :: rest ∧ region s.traceNext = .hbm ∧ s.domOn (704 + s.traceNext / 0x900000000) = true) ∧
    -- traceMessageNone
    (∃ (s : State),
      firstMessage (s.tile 8).uDelivered = none) ∧
    -- traceEnable
    (∃ (s : State),
      s.domOn 765 = true ∧ s.flag TRC_CTL_EN = false) ∧
    -- frzNow
    (∃ (s : State),
      s.domOn 765 = true ∧ s.flag TRC_STAT_FROZEN = false ∧ s.trace.left = none) ∧
    -- frozen
    (∃ (s : State),
      s.domOn 765 = true ∧ s.trace.left = some 0 ∧ s.trace.waiting = []) ∧
    -- probeCapture
    (∃ (c : PCell) (i : Fin 16) (kind : Nat) (group : Nat) (addr : Nat) (s : State),
      s.active c.val = true ∧ s.domOn (cellDomain c.val) = true ∧ s.probeNow c.val i.val = true ∧ (s.probesOf (c.val / 1088) (s.lcell c.val))[i.val]? = some (kind, group, addr) ∧ 2 ≤ s.uCredit (.cell (Fin.ofNat 8 (c.val / 1088)) (Fin.ofNat 1024 (s.lcell c.val))) (.router (Fin.ofNat 8 (c.val / 1088)) (Fin.ofNat 16 (s.lcell c.val / 64))) 2 ∧ (s.get FAB_UCTL_DRAIN (c.val / 1088)).testBit 2 = false) ∧
    -- probeCaptureDropped
    (∃ (c : PCell) (i : Fin 16) (x : Nat × Nat × Nat) (s : State),
      s.active c.val = true ∧ s.domOn (cellDomain c.val) = true ∧ s.probeNow c.val i.val = true ∧ (s.probesOf (c.val / 1088) (s.lcell c.val))[i.val]? = some x ∧ ((s.get FAB_UCTL_DRAIN (c.val / 1088)).testBit 2 = true ∨ s.uCredit (.cell (Fin.ofNat 8 (c.val / 1088)) (Fin.ofNat 1024 (s.lcell c.val))) (.router (Fin.ofNat 8 (c.val / 1088)) (Fin.ofNat 16 (s.lcell c.val / 64))) 2 < 2)) ∧
    -- probeCaptureNone
    (∃ (c : PCell) (i : Fin 16) (s : State),
      s.probeNow c.val i.val = false) :=
  ⟨⟨put (live [704, 765]) [(TRC_CTL_EN, 0, 1), (TRC_WIN_SIZE, 0, 12)], by decide +kernel⟩,
   ⟨live [765], by decide +kernel⟩,
   ⟨{ live [765] with trace := { TraceSt.zero with takenAt := some 0 } }, by decide +kernel⟩,
   ⟨uflit 2 traceUnit 5 [1, 2, 3, 4], delivered (put (live [704, 765]) [(TRC_CTL_EN, 0, 1)]) 8 [uflit 2 traceUnit 5 [1, 2, 3, 4]], by decide +kernel⟩,
   ⟨uflit 2 traceUnit 5 [3, 2, 3, 4], { uflit 2 traceUnit 5 [4, 2, 3] with last := true }, delivered (put (live [765]) [(TRC_CTL_EN, 0, 1)]) 8 [uflit 2 traceUnit 5 [3, 2, 3, 4], uflit 2 traceUnit 5 [4, 2, 3]], by decide +kernel⟩,
   ⟨{ State.reset with trace := { TraceSt.zero with buffer := List.replicate 4096 0 } }, by decide +kernel⟩,
   ⟨7, [8], { live [704, 765] with trace := { TraceSt.zero with buffer := [7, 8] } }, by decide +kernel⟩,
   ⟨State.reset, by decide +kernel⟩,
   ⟨put (live [765]) [(TRC_WPTR_NEXT, 0, 5)], by decide +kernel⟩,
   ⟨live [765], by decide +kernel⟩,
   ⟨{ live [765] with trace := { TraceSt.zero with left := some 0 } }, by decide +kernel⟩,
   ⟨0, 15, 0, 0, 16, probing 15, by decide +kernel⟩,
   ⟨0, 0, (0, 0, 1), put (probing 0) [(FAB_UCTL_DRAIN, 0, 4)], by decide +kernel⟩,
   ⟨0, 0, State.reset, by decide +kernel⟩⟩

theorem witness_CapoDebug :
    -- debugHalt
    (∃ (n : Core) (s : State),
      s.canHalt n.val = true) ∧
    -- debugHaltLater
    (∃ (n : Core) (s : State),
      s.domOn 765 = true ∧ (s.core n.val).halted = false ∧ s.canHalt n.val = false) ∧
    -- breakpointHit
    (∃ (n : Core) (s : State),
      s.canHalt n.val = true ∧ (s.core n.val).skipBp = false ∧ (s.core n.val).waiting = false ∧ s.bpMatch n.val (s.core n.val).pc = true) ∧
    -- breakpointNone
    (∃ (n : Core) (s : State),
      s.bpMatch n.val (s.core n.val).pc = false) ∧
    -- debugRun
    (∃ (n : Core) (s : State),
      s.domOn 765 = true ∧ (s.core n.val).halted = true) ∧
    -- debugStep
    (∃ (n : Core) (s : State),
      s.domOn 765 = true ∧ (s.core n.val).halted = true) :=
  ⟨⟨0, live [720, 765], by decide +kernel⟩,
   ⟨0, live [765], by decide +kernel⟩,
   ⟨0, put (live [720, 765]) [(TRC_CDBG_BP0EN, 0, 1), (TRC_CBP_PC, 0, 0x1F8000000000)], by decide +kernel⟩,
   ⟨0, State.reset, by decide +kernel⟩,
   ⟨19, (live [765]).setCore 19 { CoreSt.reset with halted := true }, by decide +kernel⟩,
   ⟨0, (live [765]).setCore 0 { CoreSt.reset with halted := true }, by decide +kernel⟩⟩

theorem witness_ClusterMaps :
    -- remapCommit
    (∃ (g : Cluster) (s : State),
      s.cluOn g.val = true ∧ s.flag CLU_REMAP_CTL_BUSY g.val = false ∧ s.remapError g.val = none) ∧
    -- remapCommitRefused
    (∃ (g : Cluster) (c : Nat) (l : Nat) (p : Nat) (s : State),
      s.cluOn g.val = true ∧ s.flag CLU_REMAP_CTL_BUSY g.val = false ∧ s.remapError g.val = some (c, l, p)) ∧
    -- remapRevert
    (∃ (g : Cluster) (p : Fin 68) (s : State),
      s.cluOn g.val = true ∧ s.flag CLU_REMAP_CTL_BUSY g.val = false ∧ s.remap (68 * g.val + p.val) < 1024) ∧
    -- sparePowerRequest
    (∃ (g : Cluster) (s : State),
      s.cluOn g.val = true) ∧
    -- sparePgood
    (∃ (g : Cluster) (i : Fin 4) (s : State),
      s.awake = true ∧ sget s.dom (128 + 4 * g.val + i.val) 0 = 1) :=
  ⟨⟨127, live [719], by decide +kernel⟩,
   ⟨0, 3, 0, 0x7F, { live [712] with mode := .run }, by decide +kernel⟩,
   ⟨0, 67, live [712], by decide +kernel⟩,
   ⟨0, live [712], by decide +kernel⟩,
   ⟨0, 3, { State.reset with dom := [(131, 1)] }, by decide +kernel⟩⟩

theorem witness_LaneTraining :
    -- laneEnable
    (∃ (n : Lane) (s : State),
      s.laneOn n.val = true ∧ s.get LNK_STAT_STATE n.val = 0) ∧
    -- laneDisable
    (∃ (n : Lane) (s : State),
      s.laneOn n.val = true ∧ s.cycle.fresh LNK_CTL_EN n.val = 0) ∧
    -- retrain
    (∃ (n : Lane) (s : State),
      s.laneOn n.val = true ∧ s.get LNK_STAT_STATE n.val ≠ 0 ∧ s.get LNK_STAT_STATE n.val ≠ 6) ∧
    -- retrainUp
    (∃ (n : Lane) (s : State),
      s.laneOn n.val = true ∧ s.get LNK_STAT_STATE n.val = 6 ∧ s.hasPosition n.val 2 = true) ∧
    -- signalPresent
    (∃ (n : Lane) (s : State),
      s.get LNK_STAT_STATE n.val = 1) ∧
    -- trainingAdapted
    (∃ (n : Lane) (s : State),
      s.get LNK_STAT_STATE n.val = 2) ∧
    -- syncReceived
    (∃ (n : Lane) (calid : Byte) (s : State),
      s.get LNK_STAT_STATE n.val = 3 ∧ calid.toNat = calId (s.lane n.val).calInForce ∧ (s.lane n.val).syncRow = 3) ∧
    -- syncReceivedWrong
    (∃ (n : Lane) (calid : Byte) (s : State),
      s.get LNK_STAT_STATE n.val = 3 ∧ calid.toNat ≠ calId (s.lane n.val).calInForce ∧ (s.lane n.val).attempts < 2) ∧
    -- measureDone
    (∃ (n : Lane) (s : State),
      s.get LNK_STAT_STATE n.val = 4 ∧ 64 ≤ (s.lane n.val).measN ∧ s.classOf n.val (openDiv (s.lane n.val).measLat 128).toNat ≤ 63) ∧
    -- identMsg
    (∃ (n : Lane) (info : Word) (s : State),
      s.get LNK_STAT_STATE n.val = 5 ∧ bits info.toNat 3 0 < 5 ∧ (∀ m ∈ (s.lane n.val).ctl, m.ctype ≠ 4) ∧ (s.lane n.val).sending = []) ∧
    -- identMsgFirst
    (∃ (n : Lane) (info : Word) (s : State),
      (s.get LNK_STAT_STATE n.val = 4 ∨ (s.get LNK_STAT_STATE n.val = 5 ∧ ((∃ m ∈ (s.lane n.val).ctl, m.ctype = 4) ∨ (s.lane n.val).sending ≠ []))) ∧ bits info.toNat 3 0 < 5) ∧
    -- ownIdentSent
    (∃ (n : Lane) (w : Nat) (s : State),
      s.get LNK_STAT_STATE n.val = 5 ∧ (s.lane n.val).sending = [w] ∧ (∀ m ∈ (s.lane n.val).ctl, m.ctype ≠ 4) ∧ (s.lane n.val).identIn = true ∧ s.hasPosition n.val 2 = true) ∧
    -- identMsgReserved
    (∃ (n : Lane) (info : Word) (s : State),
      (s.get LNK_STAT_STATE n.val = 4 ∨ s.get LNK_STAT_STATE n.val = 5) ∧ 5 ≤ bits info.toNat 3 0 ∧ (s.lane n.val).attempts < 2) ∧
    -- trainTimeout
    (∃ (n : Lane) (s : State),
      s.get LNK_STAT_STATE n.val = 2) ∧
    -- lockTimeout
    (∃ (n : Lane) (s : State),
      s.get LNK_STAT_STATE n.val = 3) ∧
    -- measureTimeout
    (∃ (n : Lane) (s : State),
      s.get LNK_STAT_STATE n.val = 4) ∧
    -- identTimeout
    (∃ (n : Lane) (s : State),
      s.get LNK_STAT_STATE n.val = 5) :=
  ⟨⟨0, live [640], by decide +kernel⟩,
   ⟨0, lane 6 LaneSt.off [(LNK_CTL_EN, 1)], by decide +kernel⟩,
   ⟨0, lane 7 LaneSt.off [(LNK_CTL_EN, 1)], by decide +kernel⟩,
   ⟨0, lane 6 LaneSt.off [(LNK_CTL_EN, 1)], by decide +kernel⟩,
   ⟨0, lane 1 LaneSt.off [(LNK_CTL_EN, 1)], by decide +kernel⟩,
   ⟨0, lane 2 LaneSt.off [(LNK_CTL_EN, 1)], by decide +kernel⟩,
   ⟨0, BitVec.ofNat 8 (calId 0x0001000100010002), lane 3 { LaneSt.off with syncRow := 3 } [(LNK_CTL_EN, 1)], by decide +kernel⟩,
   ⟨0, BitVec.ofNat 8 (calId 0x0001000100010002) + 1, lane 3 { LaneSt.off with attempts := 1 } [(LNK_CTL_EN, 1)], by decide +kernel⟩,
   ⟨0, lane 4 { LaneSt.off with measN := 64, measLat := 12800 } [(LNK_CTL_EN, 1)], by decide +kernel⟩,
   ⟨0, 4, lane 5 LaneSt.off [(LNK_CTL_EN, 1)], by decide +kernel⟩,
   ⟨0, 4, lane 4 LaneSt.off [(LNK_CTL_EN, 1)], by decide +kernel⟩,
   ⟨0, 7, lane 5 { LaneSt.off with sending := [7], identIn := true } [], by decide +kernel⟩,
   ⟨0, 5, lane 5 { LaneSt.off with attempts := 1 } [(LNK_CTL_EN, 1)], by decide +kernel⟩,
   ⟨0, lane 2 { LaneSt.off with attempts := 2 } [(LNK_CTL_EN, 1), (LNK_STAT_RATE, 2)], by decide +kernel⟩,
   ⟨0, lane 3 { LaneSt.off with attempts := 2 } [(LNK_CTL_EN, 1), (LNK_STAT_RATE, 1)], by decide +kernel⟩,
   ⟨0, lane 4 { LaneSt.off with attempts := 1 } [(LNK_CTL_EN, 1)], by decide +kernel⟩,
   ⟨0, lane 5 { LaneSt.off with attempts := 2 } [(LNK_CTL_EN, 1)], by decide +kernel⟩⟩

theorem witness_LaneLoss :
    -- lossOfSignal
    (∃ (n : Lane) (s : State),
      s.get LNK_STAT_STATE n.val = 6) ∧
    -- syncMissing
    (∃ (n : Lane) (s : State),
      s.get LNK_STAT_STATE n.val = 6 ∧ 3 ≤ (s.lane n.val).syncRow) ∧
    -- syncMissingOnce
    (∃ (n : Lane) (s : State),
      s.get LNK_STAT_STATE n.val = 6 ∧ (s.lane n.val).syncRow < 3) ∧
    -- syncReceivedUp
    (∃ (n : Lane) (calid : Byte) (s : State),
      s.get LNK_STAT_STATE n.val = 6 ∧ calid.toNat ≠ calId (s.lane n.val).calInForce) ∧
    -- uncorrectableCodeword
    (∃ (n : Lane) (wrong : Fin 273) (s : State),
      4 ≤ s.get LNK_STAT_STATE n.val ∧ s.get LNK_STAT_STATE n.val ≤ 6 ∧ 7 < wrong.val) ∧
    -- correctedCodeword
    (∃ (n : Lane) (wrong : Fin 273) (s : State),
      4 ≤ s.get LNK_STAT_STATE n.val ∧ s.get LNK_STAT_STATE n.val ≤ 6 ∧ wrong.val ≤ 7) ∧
    -- codewordUnframed
    (∃ (n : Lane) (s : State),
      (s.get LNK_STAT_STATE n.val < 4 ∨ 6 < s.get LNK_STAT_STATE n.val)) :=
  ⟨⟨0, lane 6 LaneSt.off [], by decide +kernel⟩,
   ⟨0, lane 6 { LaneSt.off with syncRow := 3 } [], by decide +kernel⟩,
   ⟨0, lane 6 { LaneSt.off with syncRow := 2 } [], by decide +kernel⟩,
   ⟨0, BitVec.ofNat 8 (calId 0x0001000100010002) + 1, lane 6 LaneSt.off [], by decide +kernel⟩,
   ⟨0, 8, lane 6 { LaneSt.off with uncRow := 2 } [(LNK_CTL_UNCLIM, 3)], by decide +kernel⟩,
   ⟨0, 7, lane 4 { LaneSt.off with uncRow := 2 } [], by decide +kernel⟩,
   ⟨0, lane 3 LaneSt.off [], by decide +kernel⟩⟩

theorem witness_LaneMessages :
    -- controlMessageSend
    (∃ (n : Lane) (m : Ctl) (s : State),
      s.get LNK_STAT_STATE n.val = 6 ∧ (s.lane n.val).sending = [] ∧ nextCtl (s.lane n.val).ctl = some m ∧ s.hasPosition n.val 2 = true) ∧
    -- controlMessageNextBeat
    (∃ (n : Lane) (w : Nat) (rest : List Nat) (s : State),
      (s.lane n.val).sending = w :: rest ∧ s.hasPosition n.val 2 = true ∧ s.get LNK_STAT_STATE n.val ≠ 5) ∧
    -- beatPosition
    (∃ (n : Nat) (kind : Nat) (s : State),
      s.hasPosition n kind = true) ∧
    -- controlMessageSendIdle
    (∃ (n : Lane) (s : State),
      (s.lane n.val).ctl = [] ∧ (s.lane n.val).sending = [] ∧ 3 ≤ s.get LNK_STAT_STATE n.val ∧ s.get LNK_STAT_STATE n.val ≤ 6 ∧ s.hasPosition n.val 2 = true) ∧
    -- controlMessageSendNone
    (∃ (n : Lane) (s : State),
      (s.lane n.val).ctl = [] ∧ (s.lane n.val).sending = [] ∧ (s.get LNK_STAT_STATE n.val < 3 ∨ 6 < s.get LNK_STAT_STATE n.val)) ∧
    -- timestampPeriod
    (∃ (n : Lane) (s : State),
      s.get LNK_STAT_STATE n.val = 6 ∧ (s.lane n.val).lastTs / 16 + s.get LNK_CTL_TSPER n.val * 4096 ≤ s.tb ∧ (∀ m ∈ (s.lane n.val).ctl, m.ctype ≠ 2)) ∧
    -- tsreq
    (∃ (n : Lane) (s : State),
      4 ≤ s.get LNK_STAT_STATE n.val ∧ s.get LNK_STAT_STATE n.val ≤ 6) ∧
    -- tsrspUp
    (∃ (n : Lane) (t1 : Word) (s : State),
      (s.lane n.val).tsOut = true ∧ (s.lane n.val).lastTs = t1.toNat ∧ s.get LNK_STAT_STATE n.val = 6) ∧
    -- tsrspMeasure
    (∃ (n : Lane) (t1 : Word) (s : State),
      (s.lane n.val).tsOut = true ∧ (s.lane n.val).lastTs = t1.toNat ∧ s.get LNK_STAT_STATE n.val = 4) ∧
    -- credit
    (∃ (n : Lane) (s : State),
      s.get LNK_STAT_STATE n.val = 6) ∧
    -- pstat
    (∃ (n : Lane) (w : Word) (s : State),
      s.get LNK_STAT_STATE n.val = 6 ∧ w.getLsbD 3 = false) ∧
    -- pstatRetrain
    (∃ (n : Lane) (w : Word) (s : State),
      s.get LNK_STAT_STATE n.val = 6 ∧ w.getLsbD 3 = true) ∧
    -- reservedCtype
    (∃ (n : Lane) (ctype : BitVec 4) (kind : BitVec 4) (s : State),
      4 ≤ s.get LNK_STAT_STATE n.val ∧ s.get LNK_STAT_STATE n.val ≤ 6 ∧ (0xA ≤ ctype.toNat ∨ (ctype.toNat = 7 ∧ 0xC ≤ kind.toNat))) ∧
    -- beatKindMismatch
    (∃ (n : Lane) (s : State),
      4 ≤ s.get LNK_STAT_STATE n.val ∧ s.get LNK_STAT_STATE n.val ≤ 6) :=
  ⟨⟨0, ⟨2, []⟩, lane 6 { LaneSt.off with ctl := [⟨5, [1]⟩, ⟨2, []⟩] } [], by decide +kernel⟩,
   ⟨0, 7, [8], lane 6 { LaneSt.off with sending := [7, 8] } [], by decide +kernel⟩,
   ⟨0, 2, lane 6 { LaneSt.off with txPos := 8223 } [], by decide +kernel⟩,
   ⟨0, lane 6 LaneSt.off [], by decide +kernel⟩,
   ⟨0, lane 2 LaneSt.off [], by decide +kernel⟩,
   ⟨0, { lane 6 LaneSt.off [] with tb := 0x1000000 }, by decide +kernel⟩,
   ⟨0, lane 4 LaneSt.off [], by decide +kernel⟩,
   ⟨0, 16, { lane 6 { LaneSt.off with tsOut := true, lastTs := 16 } [] with tb := 3 }, by decide +kernel⟩,
   ⟨0, 16, { lane 4 { LaneSt.off with tsOut := true, lastTs := 16 } [] with tb := 3 }, by decide +kernel⟩,
   ⟨0, lane 6 { LaneSt.off with cred := [64, 64, 64, 64] } [], by decide +kernel⟩,
   ⟨0, 0x16, lane 6 LaneSt.off [], by decide +kernel⟩,
   ⟨0, 8, lane 6 LaneSt.off [(LNK_STAT_READY, 1)], by decide +kernel⟩,
   ⟨0, 7, 0xC, lane 4 LaneSt.off [], by decide +kernel⟩,
   ⟨0, lane 4 LaneSt.off [], by decide +kernel⟩⟩

theorem witness_LaneTraffic :
    -- unscheduledPair
    (∃ (n : Lane) (cls : BitVec 2) (s : State),
      s.get LNK_STAT_STATE n.val = 6 ∧ s.flag LNK_STAT_READY n.val = true ∧ (s.lane n.val).rxq.countP (fun p => p.1 == cls.toNat) < 64) ∧
    -- unscheduledPairLost
    (∃ (n : Lane) (cls : BitVec 2) (s : State),
      (s.get LNK_STAT_STATE n.val ≠ 6 ∨ s.flag LNK_STAT_READY n.val = false ∨ 64 ≤ (s.lane n.val).rxq.countP (fun p => p.1 == cls.toNat))) ∧
    -- utxdWrite
    (∃ (n : Lane) (s : State),
      s.laneOn n.val = true) ∧
    -- urxPop
    (∃ (n : Lane) (p : Nat × Word × Word) (s : State),
      s.laneOn n.val = true ∧ s.urxHead n.val = some p ∧ s.get LNK_STAT_STATE n.val = 6) ∧
    -- urxPopEmpty
    (∃ (n : Lane) (s : State),
      s.urxHead n.val = none) ∧
    -- lnkCalWrite
    (∃ (n : Lane) (s : State),
      s.laneOn n.val = true) ∧
    -- scheduledFlitTransmit
    (∃ (n : Lane) (f : TxFlit) (rest : List TxFlit) (s : State),
      (s.lane n.val).txq = f :: rest ∧ s.get LNK_STAT_STATE n.val = 6 ∧ s.flag LNK_STAT_READY n.val = true ∧ f.c + s.txFix ≤ s.tb ∧ s.tb ≤ f.c + s.txFix + s.wMax n.val ∧ s.noRollback n.val = false ∧ s.hasPosition n.val 0 = true) ∧
    -- scheduledFlitTransmitLogged
    (∃ (n : Lane) (f : TxFlit) (rest : List TxFlit) (s : State),
      (s.lane n.val).txq = f :: rest ∧ s.get LNK_STAT_STATE n.val = 6 ∧ s.flag LNK_STAT_READY n.val = true ∧ f.c + s.txFix ≤ s.tb ∧ s.tb ≤ f.c + s.txFix + s.wMax n.val ∧ s.noRollback n.val = true ∧ s.hasPosition n.val 0 = true ∧ s.mode = .run ∧ s.flag CKP_STAT_REPLAY = false ∧ (s.tile ((s.logicalOf n.val).getD n.val / 64)).isFull true = false) ∧
    -- scheduledFlitTransmitLogFull
    (∃ (n : Lane) (f : TxFlit) (rest : List TxFlit) (s : State),
      (s.lane n.val).txq = f :: rest ∧ s.get LNK_STAT_STATE n.val = 6 ∧ s.flag LNK_STAT_READY n.val = true ∧ f.c + s.txFix ≤ s.tb ∧ s.tb ≤ f.c + s.txFix + s.wMax n.val ∧ s.noRollback n.val = true ∧ s.hasPosition n.val 0 = true ∧ s.mode = .run ∧ s.flag CKP_STAT_REPLAY = false ∧ (s.tile ((s.logicalOf n.val).getD n.val / 64)).isFull true = true) ∧
    -- scheduledFlitTransmitFenced
    (∃ (n : Lane) (f : TxFlit) (rest : List TxFlit) (s : State),
      (s.lane n.val).txq = f :: rest ∧ s.get LNK_STAT_STATE n.val = 6 ∧ s.flag LNK_STAT_READY n.val = true ∧ f.c + s.txFix ≤ s.tb ∧ s.tb ≤ f.c + s.txFix + s.wMax n.val ∧ s.noRollback n.val = true ∧ s.hasPosition n.val 0 = true ∧ s.flag CKP_STAT_REPLAY = true) ∧
    -- scheduledFlitTransmitOutsideRun
    (∃ (n : Lane) (f : TxFlit) (rest : List TxFlit) (s : State),
      (s.lane n.val).txq = f :: rest ∧ s.get LNK_STAT_STATE n.val = 6 ∧ s.flag LNK_STAT_READY n.val = true ∧ f.c + s.txFix ≤ s.tb ∧ s.tb ≤ f.c + s.txFix + s.wMax n.val ∧ s.noRollback n.val = true ∧ s.hasPosition n.val 0 = true ∧ s.mode ≠ .run ∧ s.flag CKP_STAT_REPLAY = false) ∧
    -- scheduledFlitTransmitLate
    (∃ (n : Lane) (f : TxFlit) (rest : List TxFlit) (s : State),
      (s.lane n.val).txq = f :: rest ∧ s.get LNK_STAT_STATE n.val = 6 ∧ s.flag LNK_STAT_READY n.val = true ∧ f.c + s.txFix + s.wMax n.val < s.tb ∧ s.hasPosition n.val 0 = true) ∧
    -- scheduledFlitTransmitEarly
    (∃ (n : Lane) (f : TxFlit) (rest : List TxFlit) (s : State),
      (s.lane n.val).txq = f :: rest ∧ s.get LNK_STAT_STATE n.val = 6 ∧ s.flag LNK_STAT_READY n.val = true ∧ s.tb < f.c + s.txFix ∧ s.hasPosition n.val 0 = true) ∧
    -- scheduledFlitTransmitNotReady
    (∃ (n : Lane) (f : TxFlit) (rest : List TxFlit) (s : State),
      (s.lane n.val).txq = f :: rest ∧ (s.get LNK_STAT_STATE n.val ≠ 6 ∨ s.flag LNK_STAT_READY n.val = false)) ∧
    -- scheduledBeat
    (∃ (n : Lane) (ts : BitVec 6) (g : Nat) (c : Nat) (k : Nat) (s : State),
      s.get LNK_STAT_STATE n.val = 6 ∧ s.logicalAny n.val = some g ∧ s.carries n.val = true ∧ s.rebuild n.val ts.toNat = some c ∧ s.tb ≤ c + s.txFix + s.wMax n.val + s.latCyc n.val + s.skewCyc ∧ k = (match s.strokeAt (c + s.txFix + s.wMax n.val + s.latCyc n.val + s.skewCyc) with | some q => sget (s.lane g).rxCount q 0 | none => 0) ∧ k < s.get LNK_RXCFG_LEN g) ∧
    -- scheduledBeatBehindItsIngress
    (∃ (n : Lane) (ts : BitVec 6) (g : Nat) (c : Nat) (s : State),
      s.get LNK_STAT_STATE n.val = 6 ∧ s.logicalAny n.val = some g ∧ s.carries n.val = true ∧ s.rebuild n.val ts.toNat = some c ∧ c + s.txFix + s.wMax n.val + s.latCyc n.val + s.skewCyc < s.tb) ∧
    -- scheduledBeatLate
    (∃ (n : Lane) (ts : BitVec 6) (g : Nat) (s : State),
      s.get LNK_STAT_STATE n.val = 6 ∧ s.logicalAny n.val = some g ∧ s.carries n.val = true ∧ s.rebuild n.val ts.toNat = none) ∧
    -- scheduledBeatNotCarried
    (∃ (n : Lane) (s : State),
      s.get LNK_STAT_STATE n.val = 6 ∧ (s.logicalAny n.val = none ∨ s.carries n.val = false)) :=
  ⟨⟨0, 3, lane 6 LaneSt.off [(LNK_STAT_READY, 1)], by decide +kernel⟩,
   ⟨0, 0, lane 6 { LaneSt.off with rxq := List.replicate 64 (0, 0, 0) } [(LNK_STAT_READY, 1)], by decide +kernel⟩,
   ⟨0, lane 0 { LaneSt.off with utx := List.replicate 8 (0, 0, 0) } [], by decide +kernel⟩,
   ⟨0, (1, 5, 6), lane 6 { LaneSt.off with rxq := [(0, 0, 0), (1, 5, 6)] } [(LNK_URXCTL_SEL, 1)], by decide +kernel⟩,
   ⟨0, State.reset, by decide +kernel⟩,
   ⟨0, lane 0 LaneSt.off [], by decide +kernel⟩,
   ⟨0, ⟨5, 0, true, 1, 0⟩, [], { lane 6 { LaneSt.off with txq := [⟨5, 0, true, 1, 0⟩] } [(LNK_STAT_READY, 1), (LNK_PINFO_ROLLBACK, 1)] with tb := 20 }, by decide +kernel⟩,
   ⟨0, ⟨5, 0, true, 1, 0⟩, [], { lane 6 { LaneSt.off with txq := [⟨5, 0, true, 1, 0⟩] } [(LNK_STAT_READY, 1)] with tb := 20, mode := .run }, by decide +kernel⟩,
   ⟨0, ⟨5, 0, true, 1, 0⟩, [], { (lane 6 { LaneSt.off with txq := [⟨5, 0, true, 1, 0⟩] } [(LNK_STAT_READY, 1)]).setTile 0 { TileSt.zero with outPos := ringLen } with tb := 20, mode := .run }, by decide +kernel⟩,
   ⟨0, ⟨5, 0, true, 1, 0⟩, [], { put (lane 6 { LaneSt.off with txq := [⟨5, 0, true, 1, 0⟩] } [(LNK_STAT_READY, 1)]) [(CKP_STAT_REPLAY, 0, 1)] with tb := 20, mode := .run }, by decide +kernel⟩,
   ⟨0, ⟨5, 0, true, 1, 0⟩, [], { lane 6 { LaneSt.off with txq := [⟨5, 0, true, 1, 0⟩] } [(LNK_STAT_READY, 1)] with tb := 20, mode := .hold }, by decide +kernel⟩,
   ⟨0, ⟨5, 0, true, 1, 0⟩, [], { lane 6 { LaneSt.off with txq := [⟨5, 0, true, 1, 0⟩] } [(LNK_STAT_READY, 1), (LNK_PINFO_ROLLBACK, 1)] with tb := 100 }, by decide +kernel⟩,
   ⟨0, ⟨5, 0, true, 1, 0⟩, [], lane 6 { LaneSt.off with txq := [⟨5, 0, true, 1, 0⟩] } [(LNK_STAT_READY, 1)], by decide +kernel⟩,
   ⟨0, ⟨5, 0, true, 1, 0⟩, [], lane 6 { LaneSt.off with txq := [⟨5, 0, true, 1, 0⟩] } [], by decide +kernel⟩,
   ⟨0, 40, 0, 40, 2, { lane 6 { LaneSt.off with rxCount := [(1, 2)] } [(LNK_STAT_READY, 1), (LNK_RXCFG_LEN, 3), (LNK_PINFO_ROLLBACK, 1)] with mode := .run, tb := 50, stroke := { StrokeSt.zero with no := 1 } }, by decide +kernel⟩,
   ⟨0, 0, 0, 64, { lane 6 LaneSt.off [(LNK_STAT_READY, 1), (LNK_RXCFG_LEN, 3), (LNK_LAT_OFFSET, 320)] with mode := .run, tb := 105 }, by decide +kernel⟩,
   ⟨0, 40, 0, { lane 6 LaneSt.off [(LNK_STAT_READY, 1), (LNK_RXCFG_LEN, 3)] with tb := 89 }, by decide +kernel⟩,
   ⟨0, lane 6 LaneSt.off [], by decide +kernel⟩⟩

theorem witness_LaneMaps :
    -- laneRemapCommit
    (∃ (tl : Tile) (s : State),
      s.domOn (712 + tl.val) = true ∧ s.flag LNK_REMAP_CTL_BUSY tl.val = false ∧ s.laneCommitError tl.val = none) ∧
    -- laneRemapCommitRefused
    (∃ (tl : Tile) (c : Nat) (l : Nat) (s : State),
      s.domOn (712 + tl.val) = true ∧ s.flag LNK_REMAP_CTL_BUSY tl.val = false ∧ s.laneCommitError tl.val = some (c, l)) ∧
    -- laneRemapRevert
    (∃ (tl : Tile) (l : Fin 64) (s : State),
      s.domOn (712 + tl.val) = true ∧ s.flag LNK_REMAP_CTL_BUSY tl.val = false ∧ s.laneMap (64 * tl.val + l.val) < 512) :=
  ⟨⟨0, live [712], by decide +kernel⟩,
   ⟨0, 1, 0, { live [712] with mode := .run }, by decide +kernel⟩,
   ⟨0, 63, live [712], by decide +kernel⟩⟩

theorem witness_AnnouncementsReceived :
    -- annResume
    (∃ (a : AnnSource) (s : State),
      s.get LNK_STAT_STATE a.lane.val = 6 ∧ s.seen a.origin.toNat a.seq.toNat = false ∧ s.mode = .hold) ∧
    -- annResumeElsewhere
    (∃ (a : AnnSource) (s : State),
      s.get LNK_STAT_STATE a.lane.val = 6 ∧ s.seen a.origin.toNat a.seq.toNat = false ∧ s.mode ≠ .hold) ∧
    -- annStart
    (∃ (a : AnnSource) (v : Word) (s : State),
      s.get LNK_STAT_STATE a.lane.val = 6 ∧ s.seen a.origin.toNat a.seq.toNat = false ∧ s.mode = .ready ∧ s.flag MGT_MODE_ARMED = true ∧ s.tb ≤ v.toNat) ∧
    -- annStartPast
    (∃ (a : AnnSource) (v : Word) (s : State),
      s.get LNK_STAT_STATE a.lane.val = 6 ∧ s.seen a.origin.toNat a.seq.toNat = false ∧ s.mode = .ready ∧ s.flag MGT_MODE_ARMED = true ∧ v.toNat < s.tb) ∧
    -- annStartMissed
    (∃ (a : AnnSource) (s : State),
      s.get LNK_STAT_STATE a.lane.val = 6 ∧ s.seen a.origin.toNat a.seq.toNat = false ∧ s.mode = .ready ∧ s.flag MGT_MODE_ARMED = false) ∧
    -- annComplete
    (∃ (a : AnnSource) (v : Word) (s : State),
      s.get LNK_STAT_STATE a.lane.val = 6 ∧ s.seen a.origin.toNat a.seq.toNat = false ∧ s.inCheckpoint = true ∧ v.toNat ≠ holdValue ∧ s.pins.waitHold = false) ∧
    -- annCompleteHold
    (∃ (a : AnnSource) (v : Word) (s : State),
      s.get LNK_STAT_STATE a.lane.val = 6 ∧ s.seen a.origin.toNat a.seq.toNat = false ∧ s.inCheckpoint = true ∧ v.toNat = holdValue ∧ s.pins.waitHold = false) ∧
    -- ckpDone
    (∃ (a : AnnSource) (v : Word) (s : State),
      s.get LNK_STAT_STATE a.lane.val = 6 ∧ s.seen a.origin.toNat a.seq.toNat = false ∧ s.mode ≠ .service ∧ s.isMaster = true ∧ v.toNat = s.stroke.no ∧ (addReport ⟨a.origin.toNat, 2, v.toNat⟩ isDone s.ckp.reports).countP (fun r => isDone r.kind) < s.img.modules) ∧
    -- ckpSwapped
    (∃ (a : AnnSource) (v : Word) (s : State),
      s.get LNK_STAT_STATE a.lane.val = 6 ∧ s.seen a.origin.toNat a.seq.toNat = false ∧ s.mode ≠ .service ∧ s.isMaster = true ∧ v.toNat = s.stroke.no ∧ (addReport ⟨a.origin.toNat, 3, v.toNat⟩ isDone s.ckp.reports).countP (fun r => isDone r.kind) < s.img.modules) ∧
    -- ckpCancelled
    (∃ (a : AnnSource) (v : Word) (s : State),
      s.get LNK_STAT_STATE a.lane.val = 6 ∧ s.seen a.origin.toNat a.seq.toNat = false ∧ s.mode ≠ .service ∧ s.isMaster = true ∧ v.toNat = s.stroke.no ∧ (addReport ⟨a.origin.toNat, 4, v.toNat⟩ isDone s.ckp.reports).countP (fun r => isDone r.kind) < s.img.modules) ∧
    -- ckpFailed
    (∃ (a : AnnSource) (v : Word) (s : State),
      s.get LNK_STAT_STATE a.lane.val = 6 ∧ s.seen a.origin.toNat a.seq.toNat = false ∧ s.inCheckpoint = true ∧ v.toNat = s.stroke.no) ∧
    -- ckpFailedElsewhere
    (∃ (a : AnnSource) (v : Word) (s : State),
      s.get LNK_STAT_STATE a.lane.val = 6 ∧ s.seen a.origin.toNat a.seq.toNat = false ∧ (s.inCheckpoint = false ∨ v.toNat ≠ s.stroke.no)) ∧
    -- restored
    (∃ (a : AnnSource) (v : Word) (s : State),
      s.get LNK_STAT_STATE a.lane.val = 6 ∧ s.seen a.origin.toNat a.seq.toNat = false ∧ s.isMaster = true ∧ s.mode = .hold ∧ (∀ r ∈ s.ckp.reports, r.kind ≠ 0xB) ∧ (addReport ⟨a.origin.toNat, 7, v.toNat⟩ (· == 7) s.ckp.reports).countP (fun r => r.kind == 7) = max 1 s.img.modules) ∧
    -- restoredEarly
    (∃ (a : AnnSource) (v : Word) (s : State),
      s.get LNK_STAT_STATE a.lane.val = 6 ∧ s.seen a.origin.toNat a.seq.toNat = false ∧ s.isMaster = true ∧ s.mode = .hold ∧ (addReport ⟨a.origin.toNat, 7, v.toNat⟩ (· == 7) s.ckp.reports).countP (fun r => r.kind == 7) < s.img.modules) ∧
    -- held
    (∃ (a : AnnSource) (v : Word) (s : State),
      s.get LNK_STAT_STATE a.lane.val = 6 ∧ s.seen a.origin.toNat a.seq.toNat = false ∧ s.mode ≠ .service ∧ s.isMaster = true ∧ (addReport ⟨a.origin.toNat, 8, v.toNat⟩ isHeld s.ckp.reports).countP (fun r => isHeld r.kind) < s.img.modules) ∧
    -- heldFault
    (∃ (a : AnnSource) (v : Word) (s : State),
      s.get LNK_STAT_STATE a.lane.val = 6 ∧ s.seen a.origin.toNat a.seq.toNat = false ∧ s.mode ≠ .service ∧ s.isMaster = true ∧ (addReport ⟨a.origin.toNat, 9, v.toNat⟩ isHeld s.ckp.reports).countP (fun r => isHeld r.kind) < s.img.modules) ∧
    -- heldStop
    (∃ (a : AnnSource) (s : State),
      s.get LNK_STAT_STATE a.lane.val = 6 ∧ s.seen a.origin.toNat a.seq.toNat = false ∧ s.mode ≠ .service ∧ s.isMaster = true) ∧
    -- reportToFollower
    (∃ (a : AnnSource) (v : Word) (c : Instr) (s : State),
      s.get LNK_STAT_STATE a.lane.val = 6 ∧ s.seen a.origin.toNat a.seq.toNat = false ∧ s.isMaster = false ∧ c ∈ [Instr.ckpDone a v, .ckpSwapped a v, .ckpCancelled a v, .restored a v, .held a v, .heldFault a v, .heldStop a v]) ∧
    -- annRestore
    (∃ (a : AnnSource) (s : State),
      s.get LNK_STAT_STATE a.lane.val = 6 ∧ s.seen a.origin.toNat a.seq.toNat = false ∧ s.mode = .hold) ∧
    -- annRestoreInService
    (∃ (a : AnnSource) (s : State),
      s.get LNK_STAT_STATE a.lane.val = 6 ∧ s.seen a.origin.toNat a.seq.toNat = false ∧ s.mode = .service) ∧
    -- annSeen
    (∃ (a : AnnSource) (s : State),
      s.seen a.origin.toNat a.seq.toNat = true) :=
  ⟨⟨ann, { up (live [640]) with mode := .hold }, by decide +kernel⟩,
   ⟨ann, up (live [640]), by decide +kernel⟩,
   ⟨ann, 77, { put (up (live [640])) [(MGT_MODE_ARMED, 0, 1)] with mode := .ready }, by decide +kernel⟩,
   ⟨ann, 77, { put (up (live [640])) [(MGT_MODE_ARMED, 0, 1)] with mode := .ready, tb := 78 }, by decide +kernel⟩,
   ⟨ann, { up (live [640]) with mode := .ready }, by decide +kernel⟩,
   ⟨ann, 0x2000, checkpoint (up (live [640])) 2200, by decide +kernel⟩,
   ⟨ann, 0xFFFFFFFFFFFFFFFF, checkpoint (up (live [640])) 2200, by decide +kernel⟩,
   ⟨ann, 2, master (checkpoint (up (live [640])) 2200), by decide +kernel⟩,
   ⟨ann, 2, master (checkpoint (up (live [640])) 2200), by decide +kernel⟩,
   ⟨ann, 2, master (checkpoint (up (live [640])) 2200), by decide +kernel⟩,
   ⟨ann, 2, checkpoint (up (live [640])) 2200, by decide +kernel⟩,
   ⟨ann, 3, checkpoint (up (live [640])) 2200, by decide +kernel⟩,
   ⟨ann, 2, { put (up (live [640])) [(CLK_TM_CTL_ROLE, 0, 1)] with mode := .hold, ckp := { CkpSt.zero with restoreTo := some 2 } }, by decide +kernel⟩,
   ⟨ann, 2, { master (up (live [640])) with mode := .hold }, by decide +kernel⟩,
   ⟨ann, 2, { master (up (live [640])) with mode := .hold }, by decide +kernel⟩,
   ⟨ann, 2, { master (up (live [640])) with mode := .run }, by decide +kernel⟩,
   ⟨ann, { master (up (live [640])) with mode := .hold }, by decide +kernel⟩,
   ⟨ann, 2, .held ann 2, up (live [640]), by decide +kernel⟩,
   ⟨ann, { up (live [640]) with mode := .hold }, by decide +kernel⟩,
   ⟨ann, { up (live [640]) with mode := .service }, by decide +kernel⟩,
   ⟨ann, { live [] with ckp := { CkpSt.zero with relayed := [(5, 6)] } }, by decide +kernel⟩⟩

theorem witness_HoldRequests :
    -- holdreq
    (∃ (n : Lane) (origin : BitVec 32) (seq : BitVec 16) (s : State),
      s.get LNK_STAT_STATE n.val = 6 ∧ s.seen origin.toNat seq.toNat = false ∧ s.mode = .run ∧ s.stroke.started = true ∧ s.cyc + 33 ≤ s.stroke.period) ∧
    -- holdreqLate
    (∃ (n : Lane) (origin : BitVec 32) (seq : BitVec 16) (s : State),
      s.get LNK_STAT_STATE n.val = 6 ∧ s.seen origin.toNat seq.toNat = false ∧ s.mode = .run ∧ s.stroke.period < s.cyc + 33) ∧
    -- holdreqInHold
    (∃ (n : Lane) (origin : BitVec 32) (seq : BitVec 16) (k : Word) (s : State),
      s.get LNK_STAT_STATE n.val = 6 ∧ s.seen origin.toNat seq.toNat = false ∧ s.mode = .hold ∧ s.ckp.restoreTo = none ∧ s.stroke.no < k.toNat) ∧
    -- holdreqElsewhere
    (∃ (n : Lane) (origin : BitVec 32) (seq : BitVec 16) (s : State),
      s.get LNK_STAT_STATE n.val = 6 ∧ s.seen origin.toNat seq.toNat = false ∧ s.mode ≠ .run ∧ s.mode ≠ .hold) ∧
    -- reqhold
    (∃ (s : State),
      s.domOn 760 = true ∧ s.mode = .run ∧ s.stroke.started = true ∧ s.cyc + 33 ≤ s.stroke.period) ∧
    -- reqholdAnyMode
    (∃ (s : State),
      s.domOn 760 = true) ∧
    -- holdEntry
    (∃ (s : State),
      s.mode = .run ∧ s.holdDue = true ∧ (s.ckpStroke s.stroke.no = false ∧ s.stroke.tk + s.stroke.period ≤ s.tb ∨ ∃ e, s.ckpStroke s.stroke.no = true ∧ s.ckp.pauseEnd = some e ∧ e ≤ s.tb)) ∧
    -- holdEntryNone
    (∃ (s : State),
      s.mayHold = false) :=
  ⟨⟨0, 5, 6, cycle (up (live [640])) 2167, by decide +kernel⟩,
   ⟨0, 5, 6, cycle (up (live [640])) 2168, by decide +kernel⟩,
   ⟨0, 5, 6, 1, { up (live [640]) with mode := .hold }, by decide +kernel⟩,
   ⟨0, 5, 6, { up (live [640]) with mode := .ready }, by decide +kernel⟩,
   ⟨put (cycle (live [760]) 2167) [(CKP_HOLDAT_STROKE, 0, 3)], by decide +kernel⟩,
   ⟨live [760], by decide +kernel⟩,
   ⟨{ cycle (live []) 2200 with ckp := { CkpSt.zero with holdTargets := [(0, 0), (1, 1)] } }, ⟨by decide +kernel, by decide +kernel, Or.inl (by decide +kernel)⟩⟩,
   ⟨State.reset, by decide +kernel⟩⟩

theorem witness_CheckpointCommands :
    -- doneReport
    (∃ (s : State),
      s.drainDone = true) ∧
    -- doneReportNone
    (∃ (s : State),
      s.drainDone = false) ∧
    -- slotPreparation
    (∃ (tl : Tile) (lc : Fin 1024) (c : Nat) (s : State),
      s.liveL tl.val lc.val = some c ∧ s.mode = .run ∧ (s.cell c).prepared = false ∧ (s.tile (c / 1088)).memq = []) ∧
    -- slotPreparationErrors
    (∃ (tl : Tile) (lc : Fin 1024) (c : Nat) (s : State),
      s.liveL tl.val lc.val = some c ∧ s.mode = .run ∧ (s.cell c).prepared = false ∧ (s.tile (c / 1088)).memq = [] ∧ s.inCheckpoint = false) ∧
    -- slotPreparationWaits
    (∃ (tl : Tile) (lc : Fin 1024) (c : Nat) (s : State),
      s.liveL tl.val lc.val = some c ∧ (s.tile (c / 1088)).memq ≠ []) ∧
    -- reportWaitTimeout
    (∃ (s : State),
      s.isMaster = true ∧ s.inCheckpoint = true ∧ s.allIn isDone = false ∧ s.waited (s.stroke.tk + s.stroke.period) = true) ∧
    -- reportWaitTimeoutInHold
    (∃ (s : State),
      s.isMaster = true ∧ s.waitOver = true ∧ (s.ckp.restoreTo = none ∧ s.allIn isHeld = false ∨ s.ckp.restoreTo.isSome = true ∧ s.allIn (· == 7) = false)) ∧
    -- reportWaitTimeoutFollower
    (∃ (s : State),
      s.isMaster = false) ∧
    -- restoreDone
    (∃ (r : Nat) (s : State),
      s.ckp.restoreTo = some r ∧ s.mode = .hold ∧ s.ckp.restoring = true ∧ s.noCommit = true ∧ s.flag CKP_CTL_HOLDOFF = false ∧ s.tilesRestored = true) ∧
    -- restoreDoneUnreadable
    (∃ (tl : Tile) (r : Nat) (s : State),
      s.ckp.restoreTo = some r ∧ s.mode = .hold ∧ s.ckp.restoring = true ∧ s.noCommit = true ∧ s.flag CKP_CTL_HOLDOFF = false ∧ s.tilesRestored = true ∧ s.parityIntact tl.val 0 = false) ∧
    -- restoreDoneJournalUnreadable
    (∃ (tl : Tile) (r : Nat) (s : State),
      s.ckp.restoreTo = some r ∧ s.mode = .hold ∧ s.ckp.restoring = true ∧ s.noCommit = true ∧ s.flag CKP_CTL_HOLDOFF = false ∧ s.tilesRestored = true ∧ s.parityIntact tl.val 0 = false) ∧
    -- restoreDoneNotYet
    (∃ (s : State),
      (s.mode ≠ .hold ∨ s.ckp.restoring = false ∨ s.noCommit = false ∨ s.flag CKP_CTL_HOLDOFF = true ∨ s.tilesRestored = false)) ∧
    -- go
    (∃ (s : State),
      s.domOn 760 = true ∧ s.isMaster = true ∧ s.mode = .hold ∧ s.ckp.restoreTo = none ∧ s.allIn isHeld = true ∧ s.sameStroke = true ∧ ((s.reportsOf isHeld).any (fun r => r.kind == 0xB) = true ∨ (s.reportsOf isHeld).all (fun r => r.kind == 8) = true)) ∧
    -- goAfterAStop
    (∃ (r : Nat) (s : State),
      s.domOn 760 = true ∧ s.isMaster = true ∧ s.mode = .hold ∧ s.ckp.restoreTo = some r ∧ (∃ q ∈ s.ckp.reports, q.kind = 0xB) ∧ s.allIn (· == 7) = true ∧ s.sameStroke (· == 7) = true) ∧
    -- goFollower
    (∃ (s : State),
      s.isMaster = false) ∧
    -- restoreCommand
    (∃ (s : State),
      s.domOn 760 = true ∧ s.isMaster = true ∧ s.mode = .hold) ∧
    -- restoreCommandElsewhere
    (∃ (s : State),
      (s.isMaster = false ∨ s.mode ≠ .hold)) ∧
    -- adoptWrite
    (∃ (s : State),
      s.domOn 760 = true ∧ s.mode = .ready ∧ s.lostTile 0 = none) ∧
    -- adoptLost
    (∃ (x : Nat) (s : State),
      s.domOn 760 = true ∧ s.mode = .ready ∧ s.lostTile 0 = some x) ∧
    -- adoptElsewhere
    (∃ (s : State),
      s.mode ≠ .ready) ∧
    -- swackWrite
    (∃ (s : State),
      s.domOn 760 = true) ∧
    -- registersOff
    (∃ (s : State),
      s.domOn 760 = false) ∧
    -- fenceLead
    (∃ (s : State),
      s.mode = .run ∧ s.flag CKP_STAT_REPLAY = true ∧ s.ckp.fencePending = true ∧ s.replayEnd ≤ s.tb + s.get CKP_FENCE_LEAD) ∧
    -- fenceLeadElsewhere
    (∃ (s : State),
      s.mode ≠ .run) ∧
    -- fenceLeadEarly
    (∃ (s : State),
      s.tb + s.get CKP_FENCE_LEAD < s.replayEnd) :=
  ⟨⟨checkpoint (live []) 2200, by decide +kernel⟩,
   ⟨State.reset, by decide +kernel⟩,
   ⟨0, 0, 0, { checkpoint (live [0]) 2180 with cells := [(0, { Cell.zero with prepared := false })] }, by decide +kernel⟩,
   ⟨0, 0, 0, cycle (live [0, 704, 712]) 100, by decide +kernel⟩,
   ⟨0, 0, 0, (checkpoint (live [0]) 2180).setTile 0 { TileSt.zero with memq := [⟨true, 0, 0, 0, 0, 0, 0, 0, 0⟩] }, by decide +kernel⟩,
   ⟨{ put (master (checkpoint (live []) 0x400000)) [(CKP_POL_DONEWAIT, 0, 1)] with ckp := CkpSt.zero }, by decide +kernel⟩,
   ⟨{ put (master (live [])) [(CKP_POL_DONEWAIT, 0, 1)] with mode := .hold, tb := 0x10000, ckp := { CkpSt.zero with waitFrom := some 0 } }, by decide +kernel⟩,
   ⟨State.reset, by decide +kernel⟩,
   ⟨2, { live [] with mode := .hold, ckp := { CkpSt.zero with restoreTo := some 2, restoring := true } }, by decide +kernel⟩,
   ⟨0, 2, { put (live [704, 712]) [(TME_CHSTAT_FAILED, 0, 1)] with mode := .hold, ckp := { CkpSt.zero with restoreTo := some 2, restoring := true } }, by decide +kernel⟩,
   ⟨0, 2, { put (live [704, 712]) [(TME_CHSTAT_PARITY, 0, 0)] with mode := .hold, ckp := { CkpSt.zero with restoreTo := some 2, restoring := true } }, by decide +kernel⟩,
   ⟨State.reset, by decide +kernel⟩,
   ⟨{ master (live [760]) with mode := .hold, ckp := { CkpSt.zero with reports := [⟨5, 8, 0⟩, ⟨0, 8, 0⟩] } }, by decide +kernel⟩,
   ⟨2, { master (live [760]) with mode := .hold, ckp := { CkpSt.zero with restoreTo := some 2, reports := [⟨5, 7, 2⟩, ⟨0, 7, 2⟩, ⟨5, 0xB, 4⟩] } }, by decide +kernel⟩,
   ⟨State.reset, by decide +kernel⟩,
   ⟨{ master (live [760]) with mode := .hold }, by decide +kernel⟩,
   ⟨State.reset, by decide +kernel⟩,
   ⟨{ live [760] with mode := .ready }, by decide +kernel⟩,
   ⟨0, { live [704, 712, 760] with mode := .ready }, by decide +kernel⟩,
   ⟨State.reset, by decide +kernel⟩,
   ⟨live [760], by decide +kernel⟩,
   ⟨State.reset, by decide +kernel⟩,
   ⟨{ put (up (live [640])) [(CKP_STAT_REPLAY, 0, 1)] with mode := .run, tb := 0x10000, ckp := { CkpSt.zero with fencePending := true } }, by decide +kernel⟩,
   ⟨inMode .hold, by decide +kernel⟩,
   ⟨put (live []) [(CLK_TSTART_TSTART, 0, 0x1000000)], by decide +kernel⟩⟩

theorem witness_StrokeSteps :
    -- strokeStart
    (∃ (s : State),
      s.stroke.nextAt = some s.tb ∧ s.clockStopped = false ∧ s.clockLost = false ∧ s.mode = .run ∧ s.holdDue = false ∧ s.flag CKP_STAT_REPLAY = false ∧ s.ckp.faultAt = none ∧ s.ckpStroke s.stroke.nextNo = false) ∧
    -- strokeStartAny
    (∃ (s : State),
      s.mayStart = true ∧ (s.mode = .hold → s.runRefusal = none)) ∧
    -- strokeStartRefused
    (∃ (x : Nat × Nat) (s : State),
      s.mayStart = true ∧ s.mode = .hold ∧ s.runRefusal = some x) ∧
    -- strokeStartNone
    (∃ (s : State),
      s.mayStart = false) ∧
    -- boundaryWindowOpen
    (∃ (s : State),
      s.inStroke = true ∧ s.cyc + 32 = s.stroke.period ∧ s.stroke.opened = false ∧ (∀ c ∈ s.liveCells, s.flag CELL_STAT_ISSUING c = false) ∧ (∀ h ∈ s.hostVals, s.missesWindow (s.stroke.no + 1) h = false)) ∧
    -- boundaryWindowLate
    (∃ (s : State),
      s.inStroke = true ∧ s.cyc + 32 = s.stroke.period ∧ s.stroke.opened = false) ∧
    -- stateBankFlip
    (∃ (s : State),
      s.inStroke = true ∧ s.cyc + 24 = s.stroke.period ∧ s.stroke.flipped = false) ∧
    -- strokeNoAdvance
    (∃ (s : State),
      s.inStroke = true ∧ s.cyc + 16 = s.stroke.period ∧ s.stroke.advanced = false) ∧
    -- swapCheckMissed
    (∃ (g : Nat) (s : State),
      s.inStroke = true ∧ s.cyc + 40 = s.stroke.period ∧ s.stroke.swapSeen = false ∧ g ∈ s.swapClusters ∧ s.armedFor s.stroke.no g = true ∧ s.cycle.held CLU_SWAP_CTL_ARM g = 0 ∧ (s.swapClusters.filter (fun x => s.armedFor s.stroke.no x)).length ≠ s.swapClusters.length) ∧
    -- swapCheckArmed
    (∃ (g : Nat) (s : State),
      s.inStroke = true ∧ s.cyc + 40 = s.stroke.period ∧ s.stroke.swapSeen = false ∧ g ∈ s.swapClusters ∧ (∀ x ∈ s.swapClusters, s.armedFor s.stroke.no x = true)) ∧
    -- pagedSwap
    (∃ (g : Nat) (s : State),
      s.inStroke = true ∧ s.cyc + 8 = s.stroke.period ∧ s.stroke.paged = false ∧ s.ckp.swapOutcome = 1 ∧ g ∈ s.swapClusters ∧ s.cycle.held CLU_SWAP_CTL_ARM g = 0) :=
  ⟨⟨{ cycle (live [0]) 2200 with stroke := { StrokeSt.zero with started := true, nextAt := some 2200, nextNo := 1 } }, by decide +kernel⟩,
   ⟨fit resuming, ⟨by decide +kernel, fun _ => runRefusal_fit _ (fit_declS _) (flag_unlisted (by decide +kernel) fun _ => rfl) (by decide +kernel)⟩⟩,
   ⟨(7, 0), { resuming with img := { ImgSt.zero with failedSection := true } }, by decide +kernel⟩,
   ⟨State.reset, by decide +kernel⟩,
   ⟨cycle (live [0]) 2168, by decide +kernel⟩,
   ⟨{ cycle (put (live [0]) [(CELL_STAT_ISSUING, 5, 1)]) 2168 with hostVals := [⟨1, 0, 0, 0, 1, 7, 0, 0, 0, 0, true, true, 2168, false, false, false⟩] }, by decide +kernel⟩,
   ⟨{ checkpoint (live [0]) 2176 with stroke := { StrokeSt.zero with no := 2, started := true } }, by decide +kernel⟩,
   ⟨cycle (live []) 2184, by decide +kernel⟩,
   ⟨0, { arming (cycle (live [0, 1]) 2160) with stroke := { StrokeSt.zero with started := true, no := 2, tk := 0 } }, by decide +kernel⟩,
   ⟨0, { arming (cycle (live [0]) 2160) with stroke := { StrokeSt.zero with started := true, no := 2, tk := 0 } }, by decide +kernel⟩,
   ⟨0, { put (arming (cycle (live [0]) 2192)) [(CELL_IMCFG_SWAPARM, 63, 1)] with ckp := { CkpSt.zero with swapOutcome := 1 } }, by decide +kernel⟩⟩

theorem witness_StrokeControl :
    -- runEntry
    (∃ (s : State),
      s.mode = .ready ∧ s.tb = s.get CLK_TSTART_TSTART ∧ s.issueClock = true ∧ s.flag MGT_MODE_ARMED = true ∧ s.stroke.entryDone = true ∧ s.runRefusal = none) ∧
    -- runEntryMissed
    (∃ (s : State),
      s.mode = .ready ∧ s.tb = s.get CLK_TSTART_TSTART ∧ s.issueClock = true ∧ (s.flag MGT_MODE_ARMED = false ∨ s.stroke.entryDone = false)) ∧
    -- runEntryRefused
    (∃ (x : Nat × Nat) (s : State),
      s.mode = .ready ∧ s.tb = s.get CLK_TSTART_TSTART ∧ s.issueClock = true ∧ s.flag MGT_MODE_ARMED = true ∧ s.stroke.entryDone = true ∧ s.runRefusal = some x) ∧
    -- runEntryNone
    (∃ (s : State),
      (s.mode = .dormant ∨ s.mode = .run ∨ s.mode = .hold ∨ s.tb ≠ s.get CLK_TSTART_TSTART ∨ s.issueClock = false)) ∧
    -- runEntryTakenOut
    (∃ (s : State),
      (s.mode = .service ∨ s.mode = .bringUp) ∧ s.stroke.entryDone = true ∧ s.tb = s.get CLK_TSTART_TSTART ∧ s.issueClock = true) ∧
    -- periodWrite
    (∃ (s : State),
      s.domOn 760 = true) ∧
    -- swapArm
    (∃ (g : Cluster) (s : State),
      s.cluOn g.val = true ∧ s.cycle.fresh CLU_SWAP_CTL_ARM g.val = 0) ∧
    -- swapDisarm
    (∃ (g : Cluster) (s : State),
      s.cluOn g.val = true ∧ s.cycle.fresh CLU_SWAP_CTL_ARM g.val = 0 ∧ (s.inStroke && s.stroke.swapSeen && !s.stroke.paged && s.ckp.swapOutcome == 1) = false) ∧
    -- swapDecided
    (∃ (s : State),
      (s.inStroke && s.stroke.swapSeen && !s.stroke.paged && s.ckp.swapOutcome == 1) = true) ∧
    -- setpage
    (∃ (g : Cluster) (c : Nat) (s : State),
      s.cluOn g.val = true ∧ (s.mode = .ready ∨ s.mode = .hold) ∧ c ∈ s.clusterCells g.val) ∧
    -- setpageElsewhere
    (∃ (s : State),
      s.mode ≠ .ready ∧ s.mode ≠ .hold) :=
  ⟨⟨fit (starting [(MGT_MODE_ARMED, 0, 1)]), ⟨by decide +kernel, by decide +kernel, by decide +kernel, by decide +kernel, by decide +kernel, runRefusal_fit _ (fit_declS _) (flag_unlisted (by decide +kernel) fun _ => rfl) (by decide +kernel)⟩⟩,
   ⟨starting [], by decide +kernel⟩,
   ⟨(7, 0), { starting [(MGT_MODE_ARMED, 0, 1)] with img := { ImgSt.zero with failedSection := true } }, by decide +kernel⟩,
   ⟨State.reset, by decide +kernel⟩,
   ⟨{ starting [] with mode := .service }, by decide +kernel⟩,
   ⟨{ live [760] with mode := .ready }, by decide +kernel⟩,
   ⟨0, { swapping (live [0, 712]) with mode := .hold }, by decide +kernel⟩,
   ⟨0, arming (live [0, 712]), by decide +kernel⟩,
   ⟨{ cycle (live [712]) 2170 with stroke := { StrokeSt.zero with started := true, swapSeen := true }, ckp := { CkpSt.zero with swapOutcome := 1 } }, by decide +kernel⟩,
   ⟨0, 63, { put (live [0, 712]) [(CLU_SWAP_CTL_NEWPAGE, 0, 1)] with mode := .ready }, by decide +kernel⟩,
   ⟨State.reset, by decide +kernel⟩⟩

theorem witness_BundleIssue :
    -- emptyBundle
    (∃ (c : PCell) (s : State),
      s.mayIssue c.val = true ∧ (s.cell c.val).pend = [] ∧ (s.cell c.val).bad = [] ∧ (s.cell c.val).bundle (s.cell c.val).next = 0 ∧ lcActive ((s.cell c.val).rd 6 0) = false ∧ lcActive ((s.cell c.val).rd 6 1) = false) ∧
    -- wordOperation
    (∃ (c : PCell) (v : Word) (s : State),
      s.mayIssue c.val = true ∧ (s.cell c.val).pend = [] ∧ (s.cell c.val).bad = [] ∧ (∀ b, (s.cell c.val).bundle (s.cell c.val).next = b → b % 2 ^ 336 = 0 ∧ b / 2 ^ 392 = 0 ∧ bits (bits b 391 336) 49 48 = 0 ∧ bits (bits b 391 336) 55 50 ≠ 0x30 ∧ bits (bits b 391 336) 55 50 ≠ 0x31 ∧ aluOp (bits (bits b 391 336) 55 50) ((s.cell c.val).d (bits (bits b 391 336) 41 36)) ((s.cell c.val).d (bits (bits b 391 336) 35 30)) ((s.cell c.val).d (bits (bits b 391 336) 5 0)) (bits (bits b 391 336) 31 0) = some v)) ∧
    -- everyBundle
    (∃ (c : PCell) (x : Cell) (b : Slots) (s : State),
      s.mayIssue c.val = true ∧ x = (s.settleCell c.val).cell c.val ∧ b = slotsOf (x.bundle x.next) ∧ x.bundleBad x.next = []) ∧
    -- plainBundle
    (∃ (c : PCell) (x : Cell) (b : Slots) (s : State),
      s.mayIssue c.val = true ∧ x = (s.settleCell c.val).cell c.val ∧ b = slotsOf (x.bundle x.next) ∧ x.bundleBad x.next = [] ∧ b.x = 0 ∧ haltExec b.c x.bp = false ∧ parityErrs x (s.flag CELL_SBSEL_CUR c.val) s.tb b (bundleReqs b x.bp) = []) ∧
    -- damagedBundle
    (∃ (c : PCell) (x : Cell) (b : Slots) (s : State),
      s.mayIssue c.val = true ∧ x = (s.settleCell c.val).cell c.val ∧ b = slotsOf (x.bundle x.next) ∧ x.bundleBad x.next ≠ []) ∧
    -- sendOperation
    (∃ (c : PCell) (x : Cell) (b : Slots) (s : State),
      s.mayIssue c.val = true ∧ x = (s.settleCell c.val).cell c.val ∧ b = slotsOf (x.bundle x.next) ∧ x.bundleBad x.next = [] ∧ bits b.x 47 44 = 1 ∧ condPass (bits b.x 43 42) x.bp = true) ∧
    -- receiveOperation
    (∃ (f : Nat) (v : Word) (p : Byte) (c : PCell) (x : Cell) (b : Slots) (s : State),
      s.mayIssue c.val = true ∧ x = (s.settleCell c.val).cell c.val ∧ b = slotsOf (x.bundle x.next) ∧ x.bundleBad x.next = [] ∧ bits b.x 47 44 = 2 ∧ condPass (bits b.x 43 42) x.bp = true ∧ x.inboxSees (bits b.x 8 0) s.tb = some (f, v, p)) ∧
    -- receiveTooEarly
    (∃ (c : PCell) (x : Cell) (b : Slots) (s : State),
      s.mayIssue c.val = true ∧ x = (s.settleCell c.val).cell c.val ∧ b = slotsOf (x.bundle x.next) ∧ x.bundleBad x.next = [] ∧ bits b.x 47 44 = 2 ∧ condPass (bits b.x 43 42) x.bp = true ∧ x.inboxSees (bits b.x 8 0) s.tb = none) ∧
    -- readRequest
    (∃ (c : PCell) (x : Cell) (b : Slots) (s : State),
      s.mayIssue c.val = true ∧ x = (s.settleCell c.val).cell c.val ∧ b = slotsOf (x.bundle x.next) ∧ x.bundleBad x.next = [] ∧ bits b.x 47 44 = 3 ∧ condPass (bits b.x 43 42) x.bp = true ∧ bit b.x 29 = false ∧ (x.slot (bits b.x 5 0)).outstIn s.tb = false) ∧
    -- responseUse
    (∃ (c : PCell) (x : Cell) (b : Slots) (s : State),
      s.mayIssue c.val = true ∧ x = (s.settleCell c.val).cell c.val ∧ b = slotsOf (x.bundle x.next) ∧ x.bundleBad x.next = [] ∧ bits b.x 47 44 = 4 ∧ condPass (bits b.x 43 42) x.bp = true ∧ (x.slot (bits b.x 5 0)).present = true ∧ (x.slot (bits b.x 5 0)).landed < s.tb) ∧
    -- notIssued
    (∃ (c : PCell) (s : State),
      s.mayIssue c.val = false) :=
  ⟨⟨0, issuing [], by decide +kernel⟩,
   ⟨0, 0, issuing [(6, 4)], ⟨by decide +kernel, by decide +kernel, by decide +kernel, fun b h => by subst h; decide +kernel⟩⟩,
   ⟨0, ((issuing [(6, 4), (8, 0x3000000010000000)]).settleCell 0).cell 0, slotsOf ((((issuing [(6, 4), (8, 0x3000000010000000)]).settleCell 0).cell 0).bundle 0), issuing [(6, 4), (8, 0x3000000010000000)], by decide +kernel⟩,
   ⟨0, ((issuing [(6, 4)]).settleCell 0).cell 0, slotsOf ((((issuing [(6, 4)]).settleCell 0).cell 0).bundle 0), issuing [(6, 4)], by decide +kernel⟩,
   ⟨0, (((issuing []).setCell 0 { Cell.zero with bad := [(8, 1)], exec := 5 }).settleCell 0).cell 0, slotsOf (((((issuing []).setCell 0 { Cell.zero with bad := [(8, 1)], exec := 5 }).settleCell 0).cell 0).bundle 0), (issuing []).setCell 0 { Cell.zero with bad := [(8, 1)], exec := 5 }, by decide +kernel⟩,
   ⟨0, ((issuing [(8, 0x10000000)]).settleCell 0).cell 0, slotsOf ((((issuing [(8, 0x10000000)]).settleCell 0).cell 0).bundle 0), issuing [(8, 0x10000000)], by decide +kernel⟩,
   ⟨4096, 9, 0, 0, (((issuing []).setCell 0 { Cell.zero with mem := [(8, 0x20000000), (0x30000, 9)], exec := 5, arrived := 1, inbFrom := [(0, 4096)] }).settleCell 0).cell 0, slotsOf (((((issuing []).setCell 0 { Cell.zero with mem := [(8, 0x20000000), (0x30000, 9)], exec := 5, arrived := 1, inbFrom := [(0, 4096)] }).settleCell 0).cell 0).bundle 0), (issuing []).setCell 0 { Cell.zero with mem := [(8, 0x20000000), (0x30000, 9)], exec := 5, arrived := 1, inbFrom := [(0, 4096)] }, by decide +kernel⟩,
   ⟨0, ((issuing [(8, 0x20000000)]).settleCell 0).cell 0, slotsOf ((((issuing [(8, 0x20000000)]).settleCell 0).cell 0).bundle 0), issuing [(8, 0x20000000)], by decide +kernel⟩,
   ⟨0, ((issuing [(8, 0x30000000)]).settleCell 0).cell 0, slotsOf ((((issuing [(8, 0x30000000)]).settleCell 0).cell 0).bundle 0), issuing [(8, 0x30000000)], by decide +kernel⟩,
   ⟨0, (((issuing []).setCell 0 { Cell.zero with mem := [(8, 0x40000000)], exec := 5, slots := [(0, { XSlot.clear with val := 9, present := true, landed := 4 })] }).settleCell 0).cell 0, slotsOf (((((issuing []).setCell 0 { Cell.zero with mem := [(8, 0x40000000)], exec := 5, slots := [(0, { XSlot.clear with val := 9, present := true, landed := 4 })] }).settleCell 0).cell 0).bundle 0), (issuing []).setCell 0 { Cell.zero with mem := [(8, 0x40000000)], exec := 5, slots := [(0, { XSlot.clear with val := 9, present := true, landed := 4 })] }, by decide +kernel⟩,
   ⟨0, State.reset, by decide +kernel⟩⟩

theorem witness_CellLandings :
    -- flitLanding
    (∃ (c : PCell) (slot : Fin 512) (f : Flit) (s : State),
      s.flits.countP (fun g => g.holds (pointOf (c.val / 1088) 6 (s.lcell c.val)) s.tb) ≤ 1 ∧ s.flits.find? (fun g => !g.egr && g.dcell == c.val && g.slot == slot.val && decide (g.land ≤ s.tb)) = some f ∧ f.due = s.cyc % 65536 ∧ s.domOn (cellDomain c.val) = true ∧ f.epoch = s.flag CELL_STAT_EPOCH c.val ∧ s.lateLanding = false ∧ bit (s.cell c.val).arrived slot.val = false) ∧
    -- flitLandingTwice
    (∃ (c : PCell) (slot : Fin 512) (f : Flit) (s : State),
      s.flits.countP (fun g => g.holds (pointOf (c.val / 1088) 6 (s.lcell c.val)) s.tb) ≤ 1 ∧ s.flits.find? (fun g => !g.egr && g.dcell == c.val && g.slot == slot.val && decide (g.land ≤ s.tb)) = some f ∧ f.due = s.cyc % 65536 ∧ s.domOn (cellDomain c.val) = true ∧ f.epoch = s.flag CELL_STAT_EPOCH c.val ∧ s.lateLanding = false ∧ bit (s.cell c.val).arrived slot.val = true) ∧
    -- flitLandingOtherEpoch
    (∃ (c : PCell) (slot : Fin 512) (f : Flit) (s : State),
      s.flits.countP (fun g => g.holds (pointOf (c.val / 1088) 6 (s.lcell c.val)) s.tb) ≤ 1 ∧ s.flits.find? (fun g => !g.egr && g.dcell == c.val && g.slot == slot.val && decide (g.land ≤ s.tb)) = some f ∧ f.due = s.cyc % 65536 ∧ s.domOn (cellDomain c.val) = true ∧ f.epoch ≠ s.flag CELL_STAT_EPOCH c.val) ∧
    -- flitLandingAny
    (∃ (c : PCell) (slot : Fin 512) (f : Flit) (p : State) (s : State),
      p = s.portCollision c.val ∧ p.flits.find? (fun g => !g.egr && g.dcell == c.val && g.slot == slot.val && decide (g.land ≤ s.tb)) = some f) ∧
    -- flitLandingNone
    (∃ (c : PCell) (slot : Fin 512) (s : State),
      (s.portCollision c.val).flits.find? (fun g => !g.egr && g.dcell == c.val && g.slot == slot.val && decide (g.land ≤ s.tb)) = none) ∧
    -- responseLanding
    (∃ (c : PCell) (tag : Fin 64) (l : Landing) (s : State),
      s.landings.find? (fun x => x.cell == c.val && x.slot == tag.val && decide (x.at_ ≤ s.tb)) = some l ∧ s.ckp.restoring = false ∧ s.stroke.entryDone = false) ∧
    -- responseLandingNone
    (∃ (s : State),
      s.landings = []) ∧
    -- responseDiscarded
    (∃ (c : PCell) (tag : Fin 64) (l : Landing) (s : State),
      s.landings.find? (fun x => x.cell == c.val && x.slot == tag.val && decide (x.at_ ≤ s.tb)) = some l ∧ (s.ckp.restoring = true ∨ s.stroke.entryDone = true)) ∧
    -- answerLanding
    (∃ (c : PCell) (a : Fin 16) (l : Landing) (s : State),
      s.portTaken c.val = false ∧ s.flag CKP_STAT_REPLAY = false ∧ s.landings.find? (fun x => x.cell == c.val && x.slot == 64 + a.val && decide (x.at_ ≤ s.tb)) = some l ∧ s.ckp.restoring = false ∧ s.stroke.entryDone = false ∧ ((s.cell c.val).slot (64 + a.val)).replayed = false) ∧
    -- answerOfReplayDiscarded
    (∃ (c : PCell) (a : Fin 16) (l : Landing) (s : State),
      s.portTaken c.val = false ∧ s.flag CKP_STAT_REPLAY = false ∧ s.landings.find? (fun x => x.cell == c.val && x.slot == 64 + a.val && decide (x.at_ ≤ s.tb)) = some l ∧ ((s.cell c.val).slot (64 + a.val)).replayed = true) ∧
    -- answerLandingInReplay
    (∃ (c : PCell) (a : Fin 16) (err : HbmRead) (n : Nat) (r : Nat) (s : State),
      err ≠ .uncorrectable ∧ s.portTaken c.val = false ∧ s.flag CKP_STAT_REPLAY = true ∧ s.ckp.restoring = false ∧ s.stroke.entryDone = false ∧ s.loggedAnswer c.val a.val = some (n, r)) ∧
    -- answerLandingWaits
    (∃ (c : PCell) (f : Flit) (s : State),
      f ∈ s.flits ∧ f.egr = false ∧ f.dcell = c.val ∧ f.land = s.tb ∧ s.flag CKP_STAT_REPLAY = false) ∧
    -- stagedValueWrite
    (∃ (c : PCell) (slot : Fin 512) (h : HostVal) (s : State),
      s.inStroke = true ∧ s.stroke.flipped = true ∧ s.stroke.period ≤ s.cyc + 23 ∧ s.cyc < s.stroke.period ∧ s.active c.val = true ∧ s.domOn (cellDomain c.val) = true ∧ (s.cell c.val).stagedNow s.tb = false ∧ s.flag CKP_STAT_REPLAY = false ∧ s.stagedValue c.val slot.val = some h) ∧
    -- stagedValueLastReplayed
    (∃ (c : PCell) (slot : Fin 512) (h : HostVal) (s : State),
      s.inStroke = true ∧ s.stroke.flipped = true ∧ s.stroke.period ≤ s.cyc + 23 ∧ s.cyc < s.stroke.period ∧ s.active c.val = true ∧ s.domOn (cellDomain c.val) = true ∧ (s.cell c.val).stagedNow s.tb = false ∧ s.flag CKP_STAT_REPLAY = true ∧ s.stroke.no = s.get CKP_HWM_STROKE ∧ s.loggedHost c.val slot.val = none ∧ s.stagedValue c.val slot.val = some h) ∧
    -- stagedValueInReplay
    (∃ (c : PCell) (slot : Fin 512) (err : HbmRead) (n : Nat) (r : Nat) (s : State),
      err ≠ .uncorrectable ∧ s.inStroke = true ∧ s.stroke.flipped = true ∧ s.stroke.period ≤ s.cyc + 23 ∧ s.cyc < s.stroke.period ∧ s.active c.val = true ∧ s.domOn (cellDomain c.val) = true ∧ (s.cell c.val).stagedNow s.tb = false ∧ s.flag CKP_STAT_REPLAY = true ∧ s.loggedHost c.val slot.val = some (n, r)) ∧
    -- stagedValueEarly
    (∃ (s : State),
      (s.cyc + 23 < s.stroke.period ∨ s.stroke.period ≤ s.cyc)) :=
  ⟨⟨0, 511, landing 511 false, { live [0] with flits := [landing 511 false] }, by decide +kernel⟩,
   ⟨0, 0, landing 0 false, { (live [0]).setCell 0 { Cell.zero with arrived := 1 } with flits := [landing 0 false] }, by decide +kernel⟩,
   ⟨0, 0, landing 0 true, { live [0] with flits := [landing 0 true] }, by decide +kernel⟩,
   ⟨0, 0, landing 0 true, ({ live [0] with flits := [landing 0 true] }).portCollision 0, { live [0] with flits := [landing 0 true] }, by decide +kernel⟩,
   ⟨0, 0, State.reset, by decide +kernel⟩,
   ⟨0, 63, ⟨0, 63, 7, 0, 0, 0⟩, { live [0] with landings := [⟨0, 63, 7, 0, 0, 0⟩] }, by decide +kernel⟩,
   ⟨State.reset, by decide +kernel⟩,
   ⟨0, 63, ⟨0, 63, 7, 0, 0, 0⟩, { live [0] with landings := [⟨0, 63, 7, 0, 0, 0⟩], ckp := { CkpSt.zero with restoring := true } }, by decide +kernel⟩,
   ⟨0, 15, ⟨0, 79, 7, 0, 0, 0⟩, { live [0] with landings := [⟨0, 79, 7, 0, 0, 0⟩], mode := .run }, by decide +kernel⟩,
   ⟨0, 15, ⟨0, 79, 7, 0, 0, 0⟩, { (live [0]).setCell 0 { Cell.zero with slots := [(79, { XSlot.clear with outst := true, replayed := true })] } with landings := [⟨0, 79, 7, 0, 0, 0⟩], mode := .run }, by decide +kernel⟩,
   ⟨0, 15, .corrected, 0, 9 + 2 * 2 ^ 64 + 15 * 2 ^ 79 + 5 * 2 ^ 88, logged (put (cycle (live [0]) 5) [(CKP_STAT_REPLAY, 0, 1)]) (9 + 2 * 2 ^ 64 + 15 * 2 ^ 79 + 5 * 2 ^ 88), by decide +kernel⟩,
   ⟨0, landing 0 false, { live [0] with flits := [landing 0 false] }, by decide +kernel⟩,
   ⟨0, 511, { staged with promise := 3 }, { checkpoint (live [0]) 2177 with hostVals := [{ staged with promise := 3 }] }, by decide +kernel⟩,
   ⟨0, 511, { staged with promise := 3 }, { put (checkpoint (live [0]) 2177) [(CKP_STAT_REPLAY, 0, 1), (CKP_HWM_STROKE, 0, 2)] with hostVals := [{ staged with promise := 3 }] }, by decide +kernel⟩,
   ⟨0, 511, .ok, 1, 9 + 2 ^ 64 + 511 * 2 ^ 79 + 2177 * 2 ^ 88, logged (logged (put (checkpoint (live [0]) 2177) [(CKP_STAT_REPLAY, 0, 1)]) 2) (9 + 2 ^ 64 + 511 * 2 ^ 79 + 2177 * 2 ^ 88), by decide +kernel⟩,
   ⟨cycle (live [0]) 2174, by decide +kernel⟩⟩

theorem witness_CellWindow :
    -- windowRead
    (∃ (c : PCell) (off : BitVec 18) (u : Nat) (a : Nat) (x : Cell) (s : State),
      s.winOn c.val = true ∧ off.toNat % 8 = 0 ∧ winLoc (s.flag CELL_SBSEL_CUR c.val) off.toNat = .word u a ∧ s.mode ≠ .run ∧ x = (s.settleCell c.val).cell c.val ∧ (x.rdBad u a = 0 ∨ (u ≠ 2 ∧ u ≠ 3))) ∧
    -- windowReadParity
    (∃ (c : PCell) (off : BitVec 18) (u : Nat) (a : Nat) (x : Cell) (s : State),
      s.winOn c.val = true ∧ off.toNat % 8 = 0 ∧ winLoc (s.flag CELL_SBSEL_CUR c.val) off.toNat = .word u a ∧ s.mode ≠ .run ∧ x = (s.settleCell c.val).cell c.val ∧ x.rdBad u a ≠ 0 ∧ (u = 2 ∨ u = 3)) ∧
    -- windowReadTable
    (∃ (c : PCell) (off : BitVec 18) (f : Nat) (x : Cell) (s : State),
      s.winOn c.val = true ∧ off.toNat % 8 = 0 ∧ winLoc (s.flag CELL_SBSEL_CUR c.val) off.toNat = .ftab f ∧ s.mode ≠ .run ∧ x = (s.settleCell c.val).cell c.val) ∧
    -- windowReadRegister
    (∃ (c : PCell) (off : BitVec 18) (r : RegName) (i : Nat) (s : State),
      s.winOn c.val = true ∧ off.toNat % 8 = 0 ∧ winLoc (s.flag CELL_SBSEL_CUR c.val) off.toNat = .regs ∧ cellReg c.val off.toNat = some (r, i)) ∧
    -- windowReadNothing
    (∃ (c : PCell) (off : BitVec 18) (s : State),
      s.winOn c.val = true ∧ off.toNat % 8 = 0 ∧ (winLoc (s.flag CELL_SBSEL_CUR c.val) off.toNat = .none ∨ (winLoc (s.flag CELL_SBSEL_CUR c.val) off.toNat = .regs ∧ cellReg c.val off.toNat = none))) ∧
    -- windowReadInRun
    (∃ (c : PCell) (off : BitVec 18) (s : State),
      s.winOn c.val = true ∧ off.toNat % 8 = 0 ∧ (winLoc (s.flag CELL_SBSEL_CUR c.val) off.toNat).isStorage = true ∧ s.mode = .run) ∧
    -- windowReadOff
    (∃ (c : PCell) (s : State),
      s.domOn (712 + c.val / 1088) = true ∧ (s.domOn (cellDomain c.val) = false ∨ s.remap c.val / 256 = 2)) ∧
    -- windowWriteOff
    (∃ (c : PCell) (s : State),
      s.domOn (712 + c.val / 1088) = true ∧ (s.domOn (cellDomain c.val) = false ∨ s.remap c.val / 256 = 2)) ∧
    -- windowFabricOff
    (∃ (c : PCell) (s : State),
      s.domOn (712 + c.val / 1088) = false ∧ s.winOn c.val = false) ∧
    -- windowReadUnaligned
    (∃ (c : PCell) (off : BitVec 18) (s : State),
      s.winOn c.val = true ∧ off.toNat % 8 ≠ 0) ∧
    -- windowWrite
    (∃ (c : PCell) (off : BitVec 18) (u : Nat) (a : Nat) (x : Cell) (s : State),
      s.winOn c.val = true ∧ off.toNat % 8 = 0 ∧ winLoc (s.flag CELL_SBSEL_CUR c.val) off.toNat = .word u a ∧ (s.mode ≠ .run ∨ (s.flag CELL_IMCFG_PAGED c.val = true ∧ u = 0 ∧ a / 9216 ≠ s.get CELL_IMCFG_RUNPAGE c.val)) ∧ x = (s.settleCell c.val).cell c.val) ∧
    -- windowWriteTable
    (∃ (c : PCell) (off : BitVec 18) (f : Nat) (s : State),
      s.winOn c.val = true ∧ off.toNat % 8 = 0 ∧ winLoc (s.flag CELL_SBSEL_CUR c.val) off.toNat = .ftab f ∧ (s.mode = .ready ∨ s.mode = .hold)) ∧
    -- windowWriteRegister
    (∃ (c : PCell) (off : BitVec 18) (r : RegName) (i : Nat) (s : State),
      s.winOn c.val = true ∧ off.toNat % 8 = 0 ∧ winLoc (s.flag CELL_SBSEL_CUR c.val) off.toNat = .regs ∧ cellReg c.val off.toNat = some (r, i)) ∧
    -- windowWriteInRun
    (∃ (c : PCell) (off : BitVec 18) (s : State),
      s.winOn c.val = true ∧ off.toNat % 8 = 0 ∧ (winLoc (s.flag CELL_SBSEL_CUR c.val) off.toNat).isStorage = true ∧ s.mode = .run ∧ (∀ a, winLoc (s.flag CELL_SBSEL_CUR c.val) off.toNat = .word 0 a → (s.flag CELL_IMCFG_PAGED c.val = false ∨ a / 9216 = s.get CELL_IMCFG_RUNPAGE c.val))) ∧
    -- windowWriteUnaligned
    (∃ (c : PCell) (off : BitVec 18) (s : State),
      s.winOn c.val = true ∧ off.toNat % 8 ≠ 0) ∧
    -- pinj
    (∃ (c : PCell) (s : State),
      s.winOn c.val = true) ∧
    -- pinjOff
    (∃ (c : PCell) (s : State),
      s.domOn (712 + c.val / 1088) = true ∧ s.winOn c.val = false) :=
  ⟨⟨0, 0x28008, 2, 1, (((live [0]).setCell 0 { Cell.zero with mem := [(0x20001, 7)] }).settleCell 0).cell 0, (live [0]).setCell 0 { Cell.zero with mem := [(0x20001, 7)] }, by decide +kernel⟩,
   ⟨0, 0x32FF8, 3, 511, ((window .hold 0x301FF).settleCell 0).cell 0, window .hold 0x301FF, by decide +kernel⟩,
   ⟨0, 0x34000, 0, ((window .hold 0x50000).settleCell 0).cell 0, window .hold 0x50000, by decide +kernel⟩,
   ⟨0, 0x3F010, .CELL_STAT, 0, live [0], by decide +kernel⟩,
   ⟨0, 0x3E000, live [0], by decide +kernel⟩,
   ⟨0, 0x28008, window .run 0x20001, by decide +kernel⟩,
   ⟨0, live [712], by decide +kernel⟩,
   ⟨0, live [712], by decide +kernel⟩,
   ⟨0, State.reset, by decide +kernel⟩,
   ⟨0, 0x28009, live [0], by decide +kernel⟩,
   ⟨0, 0x28008, 2, 1, (((put (live [0]) [(CELL_CTL_PINJ, 0, 1)]).setCell 0 { Cell.zero with mem := [(0x20001, 7)] }).settleCell 0).cell 0, (put (live [0]) [(CELL_CTL_PINJ, 0, 1)]).setCell 0 { Cell.zero with mem := [(0x20001, 7)] }, by decide +kernel⟩,
   ⟨0, 0x341F8, 252, window .hold 0x50000, by decide +kernel⟩,
   ⟨0, 0x3F010, .CELL_STAT, 0, live [0], by decide +kernel⟩,
   ⟨0, 0, window .run 0, ⟨by decide +kernel, by decide +kernel, by decide +kernel, by decide +kernel, fun a _ => Or.inl (by decide +kernel)⟩⟩,
   ⟨0, 0x28001, live [0], by decide +kernel⟩,
   ⟨0, live [0], by decide +kernel⟩,
   ⟨0, live [712], by decide +kernel⟩⟩

theorem witness_TimeBeacons :
    -- beaconSend
    (∃ (s : State),
      s.isMaster = true ∧ s.beacon.lastSent + s.beaconPeriod ≤ s.tb) ∧
    -- beaconSendEarly
    (∃ (s : State),
      s.tb < s.beacon.lastSent + s.beaconPeriod) ∧
    -- beaconSendFollower
    (∃ (s : State),
      s.isMaster = false) ∧
    -- beaconFollower
    (∃ (n : Lane) (master : BitVec 32) (epoch : Byte) (hops : BitVec 4) (s : State),
      s.laneUp n.val = true ∧ s.isMaster = false ∧ s.sourceBeacon n.val master.toNat epoch.toNat hops.toNat = true) ∧
    -- beaconOther
    (∃ (n : Lane) (master : BitVec 32) (epoch : Byte) (hops : BitVec 4) (s : State),
      s.laneUp n.val = true ∧ s.isMaster = false ∧ s.flag CLK_SKEW_VALID = true ∧ s.sourceBeacon n.val master.toNat epoch.toNat hops.toNat = false) ∧
    -- beaconAtMaster
    (∃ (n : Lane) (master : BitVec 32) (epoch : Byte) (s : State),
      s.laneUp n.val = true ∧ s.isMaster = true ∧ s.yields master.toNat epoch.toNat = false) ∧
    -- beaconEndsMaster
    (∃ (n : Lane) (master : BitVec 32) (epoch : Byte) (s : State),
      s.laneUp n.val = true ∧ s.yields master.toNat epoch.toNat = true ∧ s.cycle.held CLK_TM_CTL_ROLE 0 = 0 ∧ s.cycle.held CLK_SKEW_VALID 0 = 0) ∧
    -- beaconInRunKeepsTime
    (∃ (s : State),
      s.mode = .run) ∧
    -- beaconLaneDown
    (∃ (n : Lane) (s : State),
      s.laneUp n.val = false) ∧
    -- bcnLostBackup
    (∃ (s : State),
      s.cycle.role.getD (s.get CLK_TM_CTL_ROLE) = 2 ∧ s.get CLK_TM_CTL_ROLE < 4 ∧ s.isMaster = false ∧ s.flag CLK_SKEW_VALID = true ∧ s.beacon.lost = false ∧ s.beacon.lastAt + s.get CLK_TM_CTL_LOSS_LIM * s.beaconPeriod ≤ s.tb) ∧
    -- bcnLostFollower
    (∃ (s : State),
      s.get CLK_TM_CTL_ROLE = 0 ∧ s.cycle.role ≠ some 2 ∧ s.flag CLK_SKEW_VALID = true ∧ s.beacon.lost = false ∧ s.beacon.lastAt + s.get CLK_TM_CTL_LOSS_LIM * s.beaconPeriod ≤ s.tb) ∧
    -- bcnLostEarly
    (∃ (s : State),
      s.tb < s.beacon.lastAt + s.get CLK_TM_CTL_LOSS_LIM * s.beaconPeriod) ∧
    -- handover
    (∃ (s : State),
      s.domOn 760 = true ∧ (s.mode = .ready ∨ s.mode = .hold) ∧ s.isMaster = false ∧ s.get CLK_TM_CTL_ROLE < 4 ∧ s.flag CLK_SKEW_VALID = true) ∧
    -- handoverFirst
    (∃ (s : State),
      s.domOn 760 = true ∧ (s.mode = .ready ∨ s.mode = .hold) ∧ s.isMaster = false ∧ s.get CLK_TM_CTL_ROLE < 4 ∧ s.flag CLK_SKEW_VALID = false) ∧
    -- handoverElsewhere
    (∃ (s : State),
      (s.isMaster = true ∨ (s.mode ≠ .ready ∧ s.mode ≠ .hold)) ∧ s.mode ≠ .run ∧ s.domOn 760 = true ∧ s.get CLK_TM_CTL_ROLE < 4) ∧
    -- handoverOff
    (∃ (s : State),
      s.domOn 760 = false) ∧
    -- handoverInRun
    (∃ (s : State),
      s.mode = .run) :=
  ⟨⟨{ master (up (live [640])) with tb := 0x1000000 }, by decide +kernel⟩,
   ⟨live [], by decide +kernel⟩,
   ⟨State.reset, by decide +kernel⟩,
   ⟨0, 7, 1, 15, follower [], by decide +kernel⟩,
   ⟨0, 7, 0, 15, { follower [(CLK_TM_CTL_EPOCH, 0, 1)] with tb := 77, beacon := { BeaconSt.zero with lost := true } }, by decide +kernel⟩,
   ⟨0, 7, 0, put (follower []) [(CLK_TM_CTL_ROLE, 0, 1), (CLK_TM_CTL_EPOCH, 0, 1)], by decide +kernel⟩,
   ⟨0, 7, 0, put (follower []) [(CLK_TM_CTL_ROLE, 0, 1), (CLK_TM_CTL_EPOCH, 0, 0xFF)], by decide +kernel⟩,
   ⟨cycle (follower []) 5, by decide +kernel⟩,
   ⟨0, State.reset, by decide +kernel⟩,
   ⟨{ follower [(CLK_TM_CTL_ROLE, 0, 2), (CLK_TM_CTL_EPOCH, 0, 0xFF)] with tb := 0x1000000 }, by decide +kernel⟩,
   ⟨{ follower [] with tb := 0x1000000 }, by decide +kernel⟩,
   ⟨live [], by decide +kernel⟩,
   ⟨{ put (up (live [640, 760])) [(CLK_SKEW_VALID, 0, 1)] with mode := .hold, beacon := { BeaconSt.zero with highEpoch := 0xFF } }, by decide +kernel⟩,
   ⟨{ live [760] with mode := .ready }, by decide +kernel⟩,
   ⟨live [760], by decide +kernel⟩,
   ⟨State.reset, by decide +kernel⟩,
   ⟨cycle (live []) 5, by decide +kernel⟩⟩

theorem witness_HostChannels :
    -- channelEnable
    (∃ (n : Fin 256) (s : State),
      s.domOn 762 = true ∧ s.flag PCI_CHCTL_EN n.val = false) ∧
    -- channelEnableAgain
    (∃ (n : Fin 256) (s : State),
      s.domOn 762 = true ∧ s.flag PCI_CHCTL_EN n.val = true) ∧
    -- channelEnableOff
    (∃ (s : State),
      s.domOn 762 = false) ∧
    -- admission
    (∃ (rsv : BitVec 32) (n : Nat) (k : Nat) (j : Nat) (r : HostMapRec) (s : State),
      s.linkUp = true ∧ s.pci.admAt ≠ some (s.tb / 4) ∧ s.nextChan = some n ∧ s.judge n rsv.toNat = .inr (k, j, r)) ∧
    -- admissionRefused
    (∃ (rsv : BitVec 32) (n : Nat) (st : Nat) (s : State),
      s.linkUp = true ∧ s.pci.admAt ≠ some (s.tb / 4) ∧ s.nextChan = some n ∧ s.judge n rsv.toNat = .inl st) ∧
    -- admissionIdle
    (∃ (s : State),
      s.linkUp = true ∧ s.nextChan = none) ∧
    -- admissionNextCycle
    (∃ (s : State),
      s.pci.admAt = some (s.tb / 4)) ∧
    -- admissionLinkDown
    (∃ (s : State),
      s.linkUp = false) ∧
    -- outputRelease
    (∃ (n : Fin 256) (r : HostMapRec) (s : State),
      lookup s.img.hostmap n.val = some r ∧ r.dir = 1 ∧ s.flag PCI_CHCTL_EN n.val = true ∧ (s.chan n.val).rd < (s.chan n.val).rel ∧ s.linkUp = true ∧ s.cqRoom n.val = true) ∧
    -- outputReleaseWaits
    (∃ (n : Fin 256) (r : HostMapRec) (s : State),
      lookup s.img.hostmap n.val = some r ∧ r.dir = 1 ∧ s.flag PCI_CHCTL_EN n.val = true ∧ (s.chan n.val).rd < (s.chan n.val).rel ∧ s.linkUp = true ∧ s.cqRoom n.val = false) ∧
    -- outputReleaseNone
    (∃ (n : Fin 256) (s : State),
      (s.chan n.val).rel ≤ (s.chan n.val).rd) ∧
    -- msixMessage
    (∃ (n : Fin 256) (s : State),
      (s.chan n.val).msgDue = true ∧ s.linkUp = true ∧ s.imodHolds n.val s.tb = false ∧ (s.imodHolds n.val (s.chan n.val).dueAt = false ∨ s.get PCI_CHPTR_CQTAIL n.val ≠ s.get PCI_CHPTR_CQHEAD n.val)) ∧
    -- msixMessageHeld
    (∃ (n : Fin 256) (s : State),
      (s.imodHolds n.val s.tb = true ∨ s.linkUp = false)) ∧
    -- msixMessageDropped
    (∃ (n : Fin 256) (s : State),
      (s.chan n.val).msgDue = true ∧ s.linkUp = true ∧ s.imodHolds n.val s.tb = false ∧ s.imodHolds n.val (s.chan n.val).dueAt = true ∧ s.get PCI_CHPTR_CQTAIL n.val = s.get PCI_CHPTR_CQHEAD n.val) ∧
    -- msixMessageNone
    (∃ (n : Fin 256) (s : State),
      (s.chan n.val).msgDue = false) ∧
    -- imodHolds
    (∃ (n : Nat) (s : State),
      (s.chan n).lastMsg = none) ∧
    -- imodHoldsAfter
    (∃ (n : Nat) (l : Nat) (s : State),
      (s.chan n).lastMsg = some l) :=
  ⟨⟨255, put (live [762]) [(PCI_CHPTR_SQTAIL, 255, 3)], by decide +kernel⟩,
   ⟨0, channel 0, by decide +kernel⟩,
   ⟨State.reset, by decide +kernel⟩,
   ⟨0, 0, 11, 0, ⟨0, 2, 0, 0, [(3, 4), (5, 6)], 0, 0, 4⟩, channel 0, by decide +kernel⟩,
   ⟨1, 0, 4, channel 0, by decide +kernel⟩,
   ⟨barred, by decide +kernel⟩,
   ⟨{ channel 0 with pci := { (channel 0).pci with admAt := some 0 } }, by decide +kernel⟩,
   ⟨State.reset, by decide +kernel⟩,
   ⟨0, ⟨1, 2, 0, 0, [(3, 4), (5, 6)], 0, 0, 4⟩, (channel 1).setChan 0 { ChanSt.zero with rel := 1 }, by decide +kernel⟩,
   ⟨0, ⟨1, 2, 0, 0, [(3, 4), (5, 6)], 0, 0, 4⟩, (put (channel 1) [(PCI_CHPTR_CQTAIL, 0, 15)]).setChan 0 { ChanSt.zero with rel := 1 }, by decide +kernel⟩,
   ⟨0, State.reset, by decide +kernel⟩,
   ⟨0, { (put (channel 1) [(PCI_CHPTR_CQTAIL, 0, 1), (PCI_CHCTL_IMOD, 0, 1)]).setChan 0 { ChanSt.zero with msgDue := true } with tb := 1600 }, by decide +kernel⟩,
   ⟨0, { channel 1 with pci := PciSt.zero }, by decide +kernel⟩,
   ⟨0, { (put (channel 1) [(PCI_CHCTL_IMOD, 0, 1)]).setChan 0 { ChanSt.zero with msgDue := true, dueAt := 900, lastMsg := some 0 } with tb := 1600 }, by decide +kernel⟩,
   ⟨0, State.reset, by decide +kernel⟩,
   ⟨0, channel 1, by decide +kernel⟩,
   ⟨0, 0, (put (channel 1) [(PCI_CHCTL_IMOD, 0, 1)]).setChan 0 { ChanSt.zero with lastMsg := some 0 }, by decide +kernel⟩⟩

theorem witness_HostInterface :
    -- pendloadElsewhere
    (∃ (s : State),
      s.mode ≠ .hold) ∧
    -- pendload
    (∃ (a : Nat) (k : Nat) (j : Nat) (n : Nat) (r : HostMapRec) (s : State),
      s.domOn 762 = true ∧ s.domOn 704 = true ∧ s.mode = .hold ∧ a = s.ckpArea 0 + 0x4C000040 ∧ s.num (s.ckpArea 0 + 0x4C000000) 8 = 1 ∧ k = s.num (a + 8) 8 ∧ s.img.hostmap.find? (fun p => p.2.dir == 0 && p.2.gch == s.num (a + 16) 4) = some (n, r) ∧ s.freePlace n k r.budget = some j) ∧
    -- pendloadList
    (∃ (s : State),
      s.domOn 762 = true ∧ s.domOn 704 = true ∧ s.mode = .hold) ∧
    -- mailboxRequest
    (∃ (s : State),
      s.domOn 762 = true ∧ s.flag PCI_MBX_BUSY = false ∧ s.get PCI_MBX_REQLEN ≠ 0 ∧ s.get PCI_MBX_REQLEN ≤ 256) ∧
    -- mailboxError
    (∃ (s : State),
      s.domOn 762 = true ∧ (s.flag PCI_MBX_BUSY = true ∨ s.get PCI_MBX_REQLEN = 0 ∨ 256 < s.get PCI_MBX_REQLEN)) ∧
    -- flr
    (∃ (s : State),
      s.domOn 762 = true) ∧
    -- conventionalReset
    (∃ (s : State),
      s.domOn 762 = true) ∧
    -- pcieLinkChange
    (∃ (width : BitVec 5) (rate : BitVec 3) (s : State),
      s.domOn 762 = true ∧ rate ≠ 0 ∧ width.toNat ∈ [1, 2, 4, 8, 16] ∧ rate.toNat ≤ s.pci.topRate) ∧
    -- pcieLinkChangeOther
    (∃ (width : BitVec 5) (rate : BitVec 3) (s : State),
      rate ≠ 0 ∧ (width.toNat ∉ [1, 2, 4, 8, 16] ∨ s.pci.topRate < rate.toNat)) ∧
    -- pcieLinkDown
    (∃ (s : State),
      s.domOn 762 = true) :=
  ⟨⟨State.reset, by decide +kernel⟩,
   ⟨37782290496, 5, 0, 0, ⟨0, 2, 0, 0, [(3, 4), (5, 6)], 0, 0, 4⟩, pendingList, by decide +kernel⟩,
   ⟨pendingList, by decide +kernel⟩,
   ⟨put (live [762]) [(PCI_MBX_REQLEN, 0, 256)], by decide +kernel⟩,
   ⟨put (live [762]) [(PCI_MBX_REQLEN, 0, 257)], by decide +kernel⟩,
   ⟨{ channel 0 with owner := 0x80 }, by decide +kernel⟩,
   ⟨channel 0, by decide +kernel⟩,
   ⟨16, 6, live [762], by decide +kernel⟩,
   ⟨3, 6, live [762], by decide +kernel⟩,
   ⟨channel 0, by decide +kernel⟩⟩

theorem witness_ImageLoading :
    -- loaderClaim
    (∃ (a : Agent) (v : Byte) (seq : Byte) (o : Nat) (s : State),
      s.serving a (modeWrite seq.toNat 5 v.toNat) = true ∧ s.writtenElsewhere (transport a) 0x1200 5 = false ∧ s.claimJudge a v.toNat = .inr o) ∧
    -- loaderClaimRefused
    (∃ (a : Agent) (v : Byte) (seq : Byte) (c : Nat) (s : State),
      s.serving a (modeWrite seq.toNat 5 v.toNat) = true ∧ s.writtenElsewhere (transport a) 0x1200 5 = false ∧ s.claimJudge a v.toNat = .inl c) ∧
    -- loaderClaimHost
    (∃ (seq : Byte) (s : State),
      s.serving .host (modeWrite seq.toNat 5 0x80) = true ∧ s.writtenElsewhere 0 0x1200 5 = false ∧ (s.owner = 0 ∨ s.owner = 0x80)) ∧
    -- loaderClaimCore
    (∃ (n : Core) (seq : Byte) (s : State),
      s.serving (.core n) (modeWrite seq.toNat 5 (n.val + 1)) = true ∧ s.writtenElsewhere (1 + n.val) 0x1200 5 = false ∧ (s.owner = 0 ∨ s.owner = n.val + 1)) ∧
    -- loaderClaimArrives
    (∃ (a : Agent) (v : Byte) (seq : Byte) (s : State) (u : State),
      s.holdsRequest a (modeWrite seq.toNat 5 v.toNat) = false ∧ u = s.arrive a (modeWrite seq.toNat 5 v.toNat)) ∧
    -- imgAddrWrite
    (∃ (a : Agent) (s : State),
      s.domOn 763 = true ∧ s.owns a = true) ∧
    -- imgAddrForeign
    (∃ (a : Agent) (s : State),
      s.domOn 763 = true ∧ s.owns a = false) ∧
    -- imageRegistersOff
    (∃ (s : State),
      s.domOn 763 = false) ∧
    -- apply
    (∃ (a : Agent) (s : State),
      s.domOn 763 = true ∧ s.owns a = true ∧ s.flag MGT_IMG_CTL_BUSY = false ∧ (s.mode = .ready ∨ s.mode = .hold ∨ s.mode = .run)) ∧
    -- applyParityError
    (∃ (a : Agent) (err : HbmRead) (more : LineErrs) (x : Nat) (s : State),
      s.domOn 763 = true ∧ s.owns a = true ∧ s.flag MGT_IMG_CTL_BUSY = false ∧ (s.mode = .ready ∨ s.mode = .hold ∨ s.mode = .run) ∧ s.flashWaits (s.get MGT_IMG_ADDR_ADDR * 8) = false ∧ (s.readErrs (s.get MGT_IMG_ADDR_ADDR * 8) (s.imageLen (s.get MGT_IMG_ADDR_ADDR * 8)) err more).2 = some x) ∧
    -- applyBadHeader
    (∃ (a : Agent) (err : HbmRead) (c : Nat) (s : State),
      s.domOn 763 = true ∧ s.owns a = true ∧ s.flag MGT_IMG_CTL_BUSY = false ∧ (s.mode = .ready ∨ s.mode = .hold ∨ s.mode = .run) ∧ region (s.get MGT_IMG_ADDR_ADDR * 8) ≠ .hbm ∧ (region (s.get MGT_IMG_ADDR_ADDR * 8) ≠ .lsram ∨ err = .ok) ∧ s.flashWaits (s.get MGT_IMG_ADDR_ADDR * 8) = false ∧ s.hdrError (s.get MGT_IMG_ADDR_ADDR * 8) = some c ∧ c ≤ 4) ∧
    -- applyForeign
    (∃ (a : Agent) (s : State),
      s.domOn 763 = true ∧ s.owns a = false) ∧
    -- applyElsewhere
    (∃ (a : Agent) (s : State),
      s.domOn 763 = true ∧ s.owns a = true ∧ s.flag MGT_IMG_CTL_BUSY = false ∧ s.mode ≠ .ready ∧ s.mode ≠ .hold ∧ s.mode ≠ .run) ∧
    -- applyBusy
    (∃ (a : Agent) (s : State),
      s.owns a = true ∧ s.flag MGT_IMG_CTL_BUSY = true) ∧
    -- applyComplete
    (∃ (r : Nat) (s : State),
      s.img.applying = some r ∧ r % 256 = 0) ∧
    -- applyCompleteFailed
    (∃ (r : Nat) (s : State),
      s.img.applying = some r ∧ r % 256 ≠ 0) ∧
    -- applyCompleteNone
    (∃ (s : State),
      s.img.applying = none) :=
  ⟨⟨.core 0, 1, 4, 1, asks 1 (modeWrite 4 5 1), by decide +kernel⟩,
   ⟨.host, 0, 4, 0xC, asks 0 (modeWrite 4 5 0), by decide +kernel⟩,
   ⟨4, asks 0 (modeWrite 4 5 0x80), by decide +kernel⟩,
   ⟨0, 4, asks 1 (modeWrite 4 5 1), by decide +kernel⟩,
   ⟨.host, 0x80, 4, inMode .ready, (inMode .ready).arrive .host (modeWrite 4 5 0x80), by decide +kernel⟩,
   ⟨.host, { live [763] with owner := 0x80 }, by decide +kernel⟩,
   ⟨.core 3, { live [763] with owner := 0x80 }, by decide +kernel⟩,
   ⟨State.reset, by decide +kernel⟩,
   ⟨.host, { live [763] with owner := 0x80, mode := .run }, by decide +kernel⟩,
   ⟨.host, .uncorrectable, [], lsramBase 0, { put (live [760, 763]) [(MGT_IMG_ADDR_ADDR, 0, lsramBase 0 / 8)] with owner := 0x80, mode := .ready }, by decide +kernel⟩,
   ⟨.host, .ok, 1, { put (live [763]) [(MGT_IMG_ADDR_ADDR, 0, 0x40000000000)] with owner := 0x80, mode := .ready }, by decide +kernel⟩,
   ⟨.jtag, live [763], by decide +kernel⟩,
   ⟨.host, { live [763] with owner := 0x80 }, by decide +kernel⟩,
   ⟨.host, { put (live [763]) [(MGT_IMG_CTL_BUSY, 0, 1)] with owner := 0x80 }, by decide +kernel⟩,
   ⟨0x300000, { put (live []) [(MGT_IMG_CTL_BUSY, 0, 1)] with img := { ImgSt.zero with applying := some 0x300000 } }, by decide +kernel⟩,
   ⟨0x105, { put (live []) [(MGT_IMG_CTL_BUSY, 0, 1)] with img := { ImgSt.zero with applying := some 0x105 } }, by decide +kernel⟩,
   ⟨State.reset, by decide +kernel⟩⟩

theorem witness_FabricCommands :
    -- pathTableWrite
    (∃ (t : Tile) (s : State),
      s.domOn (712 + t.val) = true) ∧
    -- pathTableRead
    (∃ (t : Tile) (p : BitVec 17) (s : State),
      s.domOn (712 + t.val) = true ∧ sget (s.tile t.val).ptBad p.toNat 0 = 0) ∧
    -- pathTableReadBad
    (∃ (t : Tile) (p : BitVec 17) (s : State),
      s.domOn (712 + t.val) = true ∧ sget (s.tile t.val).ptBad p.toNat 0 ≠ 0) ∧
    -- pathTableOff
    (∃ (t : Tile) (s : State),
      s.domOn (712 + t.val) = false) ∧
    -- drainWrite
    (∃ (die : Fin 9) (s : State),
      s.domOn (if die.val = 8 then 760 else 712 + die.val) = true) ∧
    -- channelSpareCommit
    (∃ (t : Tile) (s : State),
      s.domOn (712 + t.val) = true ∧ s.flag FAB_CTL_BUSY t.val = false ∧ s.quiet = true ∧ s.xspareClash t.val = false) ∧
    -- channelSpareRefused
    (∃ (t : Tile) (s : State),
      s.domOn (712 + t.val) = true ∧ s.flag FAB_CTL_BUSY t.val = false ∧ (s.quiet = false ∨ s.xspareClash t.val = true)) ∧
    -- unscheduledFlitForward
    (∃ (u : UPoint) (v : UPoint) (f : UFlit) (p : Nat) (c : Nat) (s : State),
      (∀ n, u = .lane n → (s.lane n.val).utx = [] ∧ (s.lane n.val).pairRest = none) ∧ (u = .unit 8 → s.hostToSend = none) ∧ s.pickU u = some f ∧ s.uHop u f = some (p, c, some v) ∧ (endValid f.dest = true ∨ uIsSource u = true) ∧ f.bad = 0 ∧ f.sb = 0) ∧
    -- unscheduledFlitAny
    (∃ (u : UPoint) (f : UFlit) (h : Nat × Nat × Option UPoint) (s : State),
      (∀ n, u = .lane n → (s.lane n.val).utx = [] ∧ (s.lane n.val).pairRest = none) ∧ (u = .unit 8 → s.hostToSend = none) ∧ s.pickU u = some f ∧ s.uHop u f = some h) ∧
    -- unscheduledFlitUpset
    (∃ (u : UPoint) (v : UPoint) (f : UFlit) (p : Nat) (c : Nat) (b : Fin 48) (s : State),
      (∀ n, u = .lane n → (s.lane n.val).utx = [] ∧ (s.lane n.val).pairRest = none) ∧ (u = .unit 8 → s.hostToSend = none) ∧ s.pickU u = some f ∧ s.uHop u f = some (p, c, some v) ∧ (endValid f.dest = true ∨ uIsSource u = true) ∧ f.sb = 0 ∧ checksSb v = true ∧ sidebandOk (f.sideband ^^^ 2 ^ b.val) = false) ∧
    -- unscheduledFlitUpsetCarried
    (∃ (u : UPoint) (v : UPoint) (f : UFlit) (p : Nat) (c : Nat) (s : State),
      (∀ n, u = .lane n → (s.lane n.val).utx = [] ∧ (s.lane n.val).pairRest = none) ∧ (u = .unit 8 → s.hostToSend = none) ∧ s.pickU u = some f ∧ s.uHop u f = some (p, c, some v) ∧ (endValid f.dest = true ∨ uIsSource u = true) ∧ checksSb v = false ∧ f.bad = 0) ∧
    -- unscheduledFlitArrives
    (∃ (u : UPoint) (f : UFlit) (p : Nat) (c : Nat) (s : State),
      (∀ n, u = .lane n → (s.lane n.val).utx = [] ∧ (s.lane n.val).pairRest = none) ∧ (u = .unit 8 → s.hostToSend = none) ∧ s.pickU u = some f ∧ s.uHop u f = some (p, c, none) ∧ endValid f.dest = true ∧ f.cls ≠ 0 ∧ f.dest.testBit 10 = true) ∧
    -- unscheduledValueStaged
    (∃ (u : UPoint) (f : UFlit) (p : Nat) (c : Nat) (s : State),
      (∀ n, u = .lane n → (s.lane n.val).utx = [] ∧ (s.lane n.val).pairRest = none) ∧ (u = .unit 8 → s.hostToSend = none) ∧ s.pickU u = some f ∧ s.uHop u f = some (p, c, none) ∧ endValid f.dest = true ∧ f.cls = 0) ∧
    -- unscheduledAnswerArrives
    (∃ (u : UPoint) (f : UFlit) (p : Nat) (c : Nat) (d : Nat) (s : State),
      (∀ n, u = .lane n → (s.lane n.val).utx = [] ∧ (s.lane n.val).pairRest = none) ∧ (u = .unit 8 → s.hostToSend = none) ∧ s.pickU u = some f ∧ s.uHop u f = some (p, c, none) ∧ endValid f.dest = true ∧ f.cls ≠ 0 ∧ f.dest.testBit 10 = false ∧ s.pcellL (f.dest / 2048) (f.dest % 1024) = some d ∧ s.domOn (cellDomain d) = true) ∧
    -- unscheduledFlitWaits
    (∃ (u : UPoint) (s : State),
      (∀ n, u = .lane n → (s.lane n.val).utx = [] ∧ (s.lane n.val).pairRest = none) ∧ (u = .unit 8 → s.hostToSend = none) ∧ s.pickU u = none) ∧
    -- hubSendsHost
    (∃ (h : HostVal) (s : State),
      (s.get FAB_UCTL_DRAIN 8).testBit 0 = false ∧ s.hostToSend = some h) ∧
    -- lanePairNone
    (∃ (n : Lane) (s : State),
      (s.lane n.val).utx = [] ∧ (s.lane n.val).pairRest = none ∧ s.pickU (.lane n) = none) ∧
    -- lanePairNotReady
    (∃ (n : Lane) (s : State),
      (s.get LNK_STAT_STATE n.val ≠ 6 ∨ s.flag LNK_STAT_READY n.val = false) ∧ s.pickU (.lane n) = none) ∧
    -- lanePairHead
    (∃ (n : Lane) (p : Nat × Word × Word) (s : State),
      (s.lane n.val).utx = [p] ∧ (s.lane n.val).pairRest = none ∧ 0 < (s.lane n.val).cred.getD (headClass p.2.1) 0 ∧ s.get LNK_STAT_STATE n.val = 6 ∧ s.flag LNK_STAT_READY n.val = true ∧ s.hasPosition n.val 1 = true ∧ (∀ f ∈ s.uflits, f.place ≠ .lane n)) ∧
    -- lanePairData
    (∃ (n : Lane) (w : Nat) (s : State),
      (s.lane n.val).pairRest = some w ∧ s.get LNK_STAT_STATE n.val = 6 ∧ s.flag LNK_STAT_READY n.val = true ∧ s.hasPosition n.val 1 = true ∧ (∀ f ∈ s.uflits, f.place ≠ .lane n)) :=
  ⟨⟨7, live [719], by decide +kernel⟩,
   ⟨7, 0x1FFFF, live [719], by decide +kernel⟩,
   ⟨0, 3, (live [712]).setTile 0 { TileSt.zero with ptBad := [(3, 1)] }, by decide +kernel⟩,
   ⟨0, State.reset, by decide +kernel⟩,
   ⟨8, live [760], by decide +kernel⟩,
   ⟨0, live [712], by decide +kernel⟩,
   ⟨0, { live [712] with mode := .run }, by decide +kernel⟩,
   ⟨.cell 0 0, .router 0 0, uat (.cell 0 0) 1 0, 0, 0, holding (uat (.cell 0 0) 1 0), by decide +kernel⟩,
   ⟨.cell 0 0, uat (.cell 0 0) 1 0, (0, 0, some (.router 0 0)), holding (uat (.cell 0 0) 1 0), by decide +kernel⟩,
   ⟨.cell 0 0, .router 0 0, uat (.cell 0 0) 1 0, 0, 0, 47, holding (uat (.cell 0 0) 1 0), by decide +kernel⟩,
   ⟨.router 0 12, .spoke 0, uat (.router 0 12) 1 17424, 40960, 0, holding (uat (.router 0 12) 1 17424), by decide +kernel⟩,
   ⟨.router 0 12, uat (.router 0 12) 3 (endUnit 0 2), pointOf 0 0xF 12, 0, holding (uat (.router 0 12) 3 (endUnit 0 2)), by decide +kernel⟩,
   ⟨.router 0 12, uat (.router 0 12) 0 (endUnit 0 2), pointOf 0 0xF 12, 0, { holding (uat (.router 0 12) 0 (endUnit 0 2)) with hostVals := [{ staged with promise := 3, staged := false }] }, by decide +kernel⟩,
   ⟨.router 0 0, uat (.router 0 0) 1 0, pointOf 0 0xE 0, 0, 0, holding (uat (.router 0 0) 1 0), by decide +kernel⟩,
   ⟨.unit 0, State.reset, by decide +kernel⟩,
   ⟨{ staged with sent := false, staged := false }, { live [0, 764] with hostVals := [{ staged with sent := false, staged := false }] }, by decide +kernel⟩,
   ⟨0, State.reset, by decide +kernel⟩,
   ⟨0, State.reset, by decide +kernel⟩,
   ⟨0, (0, 1, 7), lane 6 { LaneSt.off with utx := [(0, 1, 7)], cred := [0, 1, 0, 0] } [(LNK_STAT_READY, 1)], by decide +kernel⟩,
   ⟨0, 5, lane 6 { LaneSt.off with pairRest := some 5 } [(LNK_STAT_READY, 1)], by decide +kernel⟩⟩

theorem witness_CapoRegisterInstructions :
    -- nop
    (∃ (n : Core) (g : Slot) (s : State) (u : State),
      s.Issues n.val g 1 u) ∧
    -- movr
    (∃ (n : Core) (g : Slot) (k : BitVec 6) (s : State) (u : State),
      s.Issues n.val g 1 u ∧ k.toNat % 8 < 5 ∧ k.toNat / 8 < 5 ∧ k.toNat % 8 ≠ k.toNat / 8) ∧
    -- exr
    (∃ (n : Core) (g : Slot) (k : BitVec 6) (s : State) (u : State),
      s.Issues n.val g 1 u ∧ k.toNat % 8 < 5 ∧ k.toNat / 8 < 5 ∧ k.toNat % 8 ≠ k.toNat / 8) ∧
    -- inx
    (∃ (n : Core) (g : Slot) (s : State) (u : State),
      s.Issues n.val g 1 u) ∧
    -- dex
    (∃ (n : Core) (g : Slot) (s : State) (u : State),
      s.Issues n.val g 1 u) ∧
    -- iny
    (∃ (n : Core) (g : Slot) (s : State) (u : State),
      s.Issues n.val g 1 u) ∧
    -- dey
    (∃ (n : Core) (g : Slot) (s : State) (u : State),
      s.Issues n.val g 1 u) ∧
    -- neg
    (∃ (n : Core) (g : Slot) (s : State) (u : State),
      s.Issues n.val g 1 u) ∧
    -- not
    (∃ (n : Core) (g : Slot) (s : State) (u : State),
      s.Issues n.val g 1 u) ∧
    -- clc
    (∃ (n : Core) (g : Slot) (s : State) (u : State),
      s.Issues n.val g 1 u) ∧
    -- sec
    (∃ (n : Core) (g : Slot) (s : State) (u : State),
      s.Issues n.val g 1 u) ∧
    -- shliZero
    (∃ (n : Core) (g : Slot) (s : State) (u : State),
      s.Issues n.val g 1 u) ∧
    -- shli
    (∃ (n : Core) (g : Slot) (k : BitVec 6) (s : State) (u : State),
      s.Issues n.val g 1 u ∧ k ≠ 0) ∧
    -- popc
    (∃ (n : Core) (g : Slot) (s : State) (u : State),
      s.Issues n.val g 1 u) ∧
    -- rscnt
    (∃ (n : Core) (g : Slot) (s : State) (u : State),
      s.Issues n.val g 1 u) ∧
    -- rsx
    (∃ (n : Core) (g : Slot) (s : State) (u : State),
      s.Issues n.val g 1 u) ∧
    -- rspush
    (∃ (n : Core) (g : Slot) (s : State) (u : State),
      s.Issues n.val g 1 u ∧ u.rsFull n.val = false) ∧
    -- rspop
    (∃ (n : Core) (g : Slot) (v : Nat) (l : List Nat) (s : State) (u : State),
      s.Issues n.val g 1 u ∧ (u.core n.val).rs = v :: l) ∧
    -- secondOfPair
    (∃ (n : Core) (g : Slot) (e : Eff) (k : Nat) (s : State) (u : State),
      s.issues n.val = true ∧ (s.core n.val).first = some (e, k) ∧ e.vstores = [] ∧ g.pair = false ∧ g.rsvd = false ∧ (s.core n.val).odd = false ∧ (s.core n.val).delay ≠ 3 ∧ s.fetch n.val (((s.core n.val).pc + 2 * k) % 2 ^ 48) 1 g.err = (u, .ok ())) ∧
    -- pairResult
    (∃ (a : Eff) (b : Eff) (r : Nat) (v : Word) (w : Word),
      (r, w) ∈ b.alu ∧ (∀ p ∈ b.alu, p.1 = r → p.2 = w) ∧ (r, v) ∈ a.alu) :=
  ⟨⟨0, g0, core0 regs0, fetched (core0 regs0) 1, issues_of (by decide +kernel)⟩,
   ⟨0, g0, 12, core0 regs0, fetched (core0 regs0) 1, issues_of (by decide +kernel), by decide +kernel⟩,
   ⟨0, g0, 12, core0 regs0, fetched (core0 regs0) 1, issues_of (by decide +kernel), by decide +kernel⟩,
   ⟨0, g0, core0 regs0, fetched (core0 regs0) 1, issues_of (by decide +kernel)⟩,
   ⟨0, g0, core0 regs0, fetched (core0 regs0) 1, issues_of (by decide +kernel)⟩,
   ⟨0, g0, core0 regs0, fetched (core0 regs0) 1, issues_of (by decide +kernel)⟩,
   ⟨0, g0, core0 regs0, fetched (core0 regs0) 1, issues_of (by decide +kernel)⟩,
   ⟨0, g0, core0 regs0, fetched (core0 regs0) 1, issues_of (by decide +kernel)⟩,
   ⟨0, g0, core0 regs0, fetched (core0 regs0) 1, issues_of (by decide +kernel)⟩,
   ⟨0, g0, core0 regs0, fetched (core0 regs0) 1, issues_of (by decide +kernel)⟩,
   ⟨0, g0, core0 regs0, fetched (core0 regs0) 1, issues_of (by decide +kernel)⟩,
   ⟨0, g0, core0 regs0, fetched (core0 regs0) 1, issues_of (by decide +kernel)⟩,
   ⟨0, g0, 63, core0 regs0, fetched (core0 regs0) 1, issues_of (by decide +kernel), by decide +kernel⟩,
   ⟨0, g0, core0 regs0, fetched (core0 regs0) 1, issues_of (by decide +kernel)⟩,
   ⟨0, g0, core0 regs0, fetched (core0 regs0) 1, issues_of (by decide +kernel)⟩,
   ⟨0, g0, core0 regs0, fetched (core0 regs0) 1, issues_of (by decide +kernel)⟩,
   ⟨0, g0, core0 { regs0 with rs := List.replicate 15 7 }, fetched (core0 { regs0 with rs := List.replicate 15 7 }) 1, issues_of (by decide +kernel), by decide +kernel⟩,
   ⟨0, g0, 7, List.replicate 14 7, core0 { regs0 with rs := List.replicate 15 7 }, fetched (core0 { regs0 with rs := List.replicate 15 7 }) 1, issues_of (by decide +kernel), by decide +kernel⟩,
   ⟨0, g0, { mask := 1, flags := 1 }, 1, core0 { regs0 with first := some ({ mask := 1, flags := 1 }, 1) }, ((core0 { regs0 with first := some ({ mask := 1, flags := 1 }, 1) }).fetch 0 (0x3F0000000000 + 2) 1 .none).1, by decide +kernel, by decide +kernel, by decide +kernel, by decide +kernel, by decide +kernel, by decide +kernel, by decide +kernel, run_ok (by decide +kernel)⟩,
   ⟨{ alu := [(0, 5)] }, { alu := [(0, 7)] }, 0, 5, 7, by decide +kernel⟩⟩

theorem witness_IdleCycle :
    -- counts
    (∃ (s : State),
      s.pending = [] ∧ s.mode ≠ .dormant ∧ s.clockStopped = false) ∧
    -- stands
    (∃ (s : State),
      s.pending = [] ∧ (s.mode = .dormant ∨ s.clockStopped = true)) ∧
    -- departs
    (∃ (x : Send) (w : Word) (s : State),
      s.sends = [x] ∧ x.hit = .none ∧ s.pathLookup x.tile x.path = (w, 0) ∧ badEntry x.tile w.toNat = false) ∧
    -- lineArrives
    (∃ (i : Fin 576) (lv : Bool) (s : State),
      s.tb % 2 = 0 ∧ s.events.wire = [(1, i.val, lv)] ∧ s.events.pulses = []) ∧
    -- lineCrosses
    (∃ (i : Fin 576) (k : Nat) (lv : Bool) (s : State),
      s.tb % 2 = 0 ∧ s.events.wire = [(k + 2, i.val, lv)] ∧ s.events.pulses = []) ∧
    -- offers
    (∃ (s : State),
      s.tb % 2 = 0) ∧
    -- pulseEnds
    (∃ (g : Nat) (s : State),
      s.tb % 2 = 0 ∧ s.events.wire = [] ∧ s.events.pulses = [g] ∧ s.lecOn (g / 512) = true ∧ reservedSource g = false ∧ eventSource g = false ∧ s.get LEC_SENSE_SENSE g = 0 ∧ s.afterPulse g = false) ∧
    -- betweenEdges
    (∃ (s : State),
      s.tb % 2 = 1) :=
  ⟨⟨{ live [760, 712] with mode := .hold, tb := 2 ^ 64 - 1 }, by decide +kernel⟩,
   ⟨{ inMode .dormant with tb := 7 }, by decide +kernel⟩,
   ⟨⟨0, 3, 5, 7, 0, true, .none⟩, 0x8000000000000000, { ({ live [712] with sends := [⟨0, 3, 5, 7, 0, true, .none⟩] } : State).setTile 0 { TileSt.zero with pt := [(5, 0x8000000000000000)] } with tb := 9 }, by decide +kernel⟩,
   ⟨575, true, { live [764] with events := { EventPath.zero with wire := [(1, 575, true)] } }, by decide +kernel⟩,
   ⟨575, 1, true, { live [764] with events := { EventPath.zero with wire := [(3, 575, true)] } }, by decide +kernel⟩,
   ⟨{ live [764] with events := { EventPath.zero with pulses := [4368] } }, by decide +kernel⟩,
   ⟨4368, put { live [764] with events := { EventPath.zero with pulses := [4368] } } [(LEC_RAW_RAW, 4368, 1), (LEC_PEND_PEND, 4368, 1)], by decide +kernel⟩,
   ⟨{ live [764] with tb := 1 }, by decide +kernel⟩⟩

theorem witness_CapoTransfers :
    -- ret
    (∃ (n : Core) (g : Slot) (v : Nat) (l : List Nat) (s : State) (u : State),
      s.Issues n.val g 1 u ∧ s.slotClear n.val 1 = true ∧ (u.core n.val).rs = v :: l) ∧
    -- jmpx
    (∃ (n : Core) (g : Slot) (s : State) (u : State),
      s.Issues n.val g 1 u ∧ s.slotClear n.val 1 = true) ∧
    -- callx
    (∃ (n : Core) (g : Slot) (s : State) (u : State),
      s.Issues n.val g 1 u ∧ s.slotClear n.val 1 = true ∧ u.rsFull n.val = false ∧ (u.core n.val).first = none) ∧
    -- jmp
    (∃ (n : Core) (g : Slot) (o : MemOp) (w : Nat) (s : State) (u : State) (v : State),
      s.Issues n.val g o.len u ∧ s.slotClear n.val o.len = true ∧ o.bad true = false ∧ u.target n.val o g = (v, .ok w)) ∧
    -- call
    (∃ (n : Core) (g : Slot) (o : MemOp) (w : Nat) (s : State) (u : State) (v : State),
      s.Issues n.val g o.len u ∧ s.slotClear n.val o.len = true ∧ o.bad true = false ∧ u.rsFull n.val = false ∧ u.target n.val o g = (v, .ok w) ∧ (v.core n.val).first = none) ∧
    -- targetRelative
    (∃ (o : MemOp),
      o.mode = 0) ∧
    -- bcc
    (∃ (n : Core) (g : Slot) (long : Bool) (s : State) (u : State),
      s.Issues n.val g (if long then 3 else 2) u ∧ s.slotClear n.val (if long then 3 else 2) = true) ∧
    -- annulledSlot
    (∃ (n : Core) (g : Slot) (s : State),
      s.issues n.val = true ∧ s.beforeGroup n.val = none ∧ (s.core n.val).delay = 3 ∧ g.pair = false) ∧
    -- reti
    (∃ (n : Core) (g : Slot) (sp : Nat) (l : List Nat) (s : State) (u : State) (v : State),
      s.Issues n.val g 1 u ∧ (s.core n.val).delay = 0 ∧ (u.core n.val).user = false ∧ (u.core n.val).sp.toNat = sp ∧ u.readFrame n.val [sp, sp + 8, sp + 16, sp + 24, sp + 32, sp + 40] g = (v, .ok l) ∧ (∀ i p, v.offer n.val = some (i, p) → v.flag CPO_EVT_CTL_ACCEPT n.val = false ∨ p ≤ bits (l.getD 1 0) 11 8)) ∧
    -- retiChains
    (∃ (n : Core) (g : Slot) (sp : Nat) (i : Nat) (p : Nat) (l : List Nat) (s : State) (u : State) (v : State),
      s.Issues n.val g 1 u ∧ (s.core n.val).delay = 0 ∧ (u.core n.val).user = false ∧ (u.core n.val).sp.toNat = sp ∧ u.readFrame n.val [sp, sp + 8, sp + 16, sp + 24, sp + 32, sp + 40] g = (v, .ok l) ∧ v.offer n.val = some (i, p) ∧ v.flag CPO_EVT_CTL_ACCEPT n.val = true ∧ bits (l.getD 1 0) 11 8 < p) :=
  ⟨⟨0, g0, 7, List.replicate 14 7, core0 { regs0 with rs := List.replicate 15 7 }, fetched (core0 { regs0 with rs := List.replicate 15 7 }) 1, issues_of (by decide +kernel), by decide +kernel⟩,
   ⟨0, g0, core0 regs0, fetched (core0 regs0) 1, issues_of (by decide +kernel), by decide +kernel⟩,
   ⟨0, g0, core0 { regs0 with rs := List.replicate 15 7 }, fetched (core0 { regs0 with rs := List.replicate 15 7 }) 1, issues_of (by decide +kernel), by decide +kernel⟩,
   ⟨0, g0, ⟨false, 3, 8⟩, 11, core0 regs0, (fetched (core0 regs0) 2), ((fetched (core0 regs0) 2).target 0 ⟨false, 3, 8⟩ g0).1, issues_of (by decide +kernel), by decide +kernel, by decide +kernel, run_ok (by decide +kernel)⟩,
   ⟨0, g0, odp, 0x10008, core0 { regs0 with rs := List.replicate 15 7 }, fetched (core0 { regs0 with rs := List.replicate 15 7 }) 2, ((fetched (core0 { regs0 with rs := List.replicate 15 7 }) 2).target 0 odp g0).1, issues_of (by decide +kernel), by decide +kernel, by decide +kernel, by decide +kernel, run_ok (by decide +kernel), by decide +kernel⟩,
   ⟨⟨true, 0, 5⟩, by decide +kernel⟩,
   ⟨0, g0, true, core0 regs0, fetched (core0 regs0) 3, issues_of (by decide +kernel), by decide +kernel⟩,
   ⟨0, g0, core0 { regs0 with delay := 3 }, by decide +kernel⟩,
   ⟨0, g0, 0x20000, [0, 0, 0, 0, 0, 0], core0 regs0, fetched (core0 regs0) 1, ((fetched (core0 regs0) 1).readFrame 0 (sixWords 0x20000) g0).1, issues_of (by decide +kernel), by decide +kernel, by decide +kernel, by decide +kernel, run_ok (by decide +kernel), fun _ _ _ => Or.inl (by decide +kernel)⟩,
   ⟨0, g0, 0x20000, 5, 3, [0, 0, 0, 0, 0, 0], offered regs0, fetched (offered regs0) 1, ((fetched (offered regs0) 1).readFrame 0 (sixWords 0x20000) g0).1, issues_of (by decide +kernel), by decide +kernel, by decide +kernel, by decide +kernel, run_ok (by decide +kernel), by decide +kernel⟩⟩

theorem witness_CapoLoadsAndStores :
    -- lda
    (∃ (n : Core) (g : Slot) (o : MemOp) (w : Nat) (s : State) (u : State) (v : State),
      s.Issues n.val g o.len u ∧ o.bad true = false ∧ u.operand n.val o 8 g = (v, .ok w)) ∧
    -- ldaNarrow
    (∃ (n : Core) (g : Slot) (o : MemOp) (size : BitVec 2) (w : Nat) (s : State) (u : State) (v : State),
      s.Issues n.val g o.len u ∧ o.bad false = false ∧ size ≠ 0 ∧ u.operand n.val o (8 / 2 ^ size.toNat) g = (v, .ok w)) ∧
    -- ldas
    (∃ (n : Core) (g : Slot) (o : MemOp) (size : Fin 3) (w : Nat) (s : State) (u : State) (v : State),
      s.Issues n.val g o.len u ∧ o.bad false = false ∧ u.operand n.val o (4 / 2 ^ size.val) g = (v, .ok w)) ∧
    -- ldxLdy
    (∃ (n : Core) (g : Slot) (o : MemOp) (w : Nat) (s : State) (u : State) (v : State),
      s.Issues n.val g o.len u ∧ o.bad true = false ∧ u.operand n.val o 8 g = (v, .ok w)) ∧
    -- sta
    (∃ (n : Core) (g : Slot) (o : MemOp) (size : BitVec 2) (a : Nat) (e : StoreEnt) (s : State) (u : State) (v : State) (w : State),
      s.Issues n.val g o.len u ∧ o.bad false = false ∧ u.ea n.val o g = (v, .ok a) ∧ v.storeCheck n.val a (8 / 2 ^ size.toNat) (v.core n.val).a.toNat (o.rest g) = (w, .ok e) ∧ w.flag CPO_MODE_DET n.val = false ∧ (w.core n.val).sbuf.length < 8) ∧
    -- staAny
    (∃ (n : Core) (g : Slot) (o : MemOp) (size : BitVec 2) (a : Nat) (e : StoreEnt) (s : State) (u : State) (v : State) (w : State),
      s.Issues n.val g o.len u ∧ o.bad false = false ∧ u.ea n.val o g = (v, .ok a) ∧ v.storeCheck n.val a (8 / 2 ^ size.toNat) (v.core n.val).a.toNat (o.rest g) = (w, .ok e)) ∧
    -- stxSty
    (∃ (n : Core) (g : Slot) (o : MemOp) (y : Bool) (a : Nat) (e : StoreEnt) (s : State) (u : State) (v : State) (w : State),
      s.Issues n.val g o.len u ∧ o.bad false = false ∧ u.ea n.val o g = (v, .ok a) ∧ v.storeCheck n.val a 8 (if y then (v.core n.val).y.toNat else (v.core n.val).x.toNat) (o.rest g) = (w, .ok e) ∧ w.flag CPO_MODE_DET n.val = false ∧ (w.core n.val).sbuf.length < 8) ∧
    -- stxStyAny
    (∃ (n : Core) (g : Slot) (o : MemOp) (y : Bool) (a : Nat) (e : StoreEnt) (s : State) (u : State) (v : State) (w : State),
      s.Issues n.val g o.len u ∧ o.bad false = false ∧ u.ea n.val o g = (v, .ok a) ∧ v.storeCheck n.val a 8 (if y then (v.core n.val).y.toNat else (v.core n.val).x.toNat) (o.rest g) = (w, .ok e)) ∧
    -- lea
    (∃ (n : Core) (g : Slot) (o : MemOp) (a : Nat) (s : State) (u : State) (v : State),
      s.Issues n.val g o.len u ∧ o.bad false = false ∧ u.ea n.val o g = (v, .ok a)) ∧
    -- effectiveAddress
    (∃ (o : MemOp),
      o.mode ≠ 5) ∧
    -- push
    (∃ (n : Core) (g : Slot) (r : Fin 3) (e : StoreEnt) (s : State) (u : State) (v : State),
      s.Issues n.val g 1 u ∧ u.storeCheck n.val ((u.core n.val).sp - 8).toNat 8 ((u.core n.val).reg r.val).toNat g.err = (v, .ok e) ∧ v.flag CPO_MODE_DET n.val = false ∧ (v.core n.val).sbuf.length < 8) ∧
    -- pushAny
    (∃ (n : Core) (g : Slot) (r : Fin 3) (e : StoreEnt) (s : State) (u : State) (v : State),
      s.Issues n.val g 1 u ∧ u.storeCheck n.val ((u.core n.val).sp - 8).toNat 8 ((u.core n.val).reg r.val).toNat g.err = (v, .ok e)) ∧
    -- pop
    (∃ (n : Core) (g : Slot) (w : Nat) (s : State) (u : State) (v : State),
      s.Issues n.val g 1 u ∧ u.load n.val (u.core n.val).sp.toNat 8 g.err = (v, .ok w)) :=
  ⟨⟨0, g0, odp, 0, core0 regs0, (fetched (core0 regs0) 2), ((fetched (core0 regs0) 2).operand 0 odp 8 g0).1, issues_of (by decide +kernel), by decide +kernel, run_ok (by decide +kernel)⟩,
   ⟨0, g0, odp, 3, 0, core0 regs0, (fetched (core0 regs0) 2), ((fetched (core0 regs0) 2).operand 0 odp 1 g0).1, issues_of (by decide +kernel), by decide +kernel, by decide +kernel, run_ok (by decide +kernel)⟩,
   ⟨0, g0, odp, 2, 0, core0 regs0, (fetched (core0 regs0) 2), ((fetched (core0 regs0) 2).operand 0 odp 1 g0).1, issues_of (by decide +kernel), by decide +kernel, run_ok (by decide +kernel)⟩,
   ⟨0, g0, odp, 0, core0 regs0, (fetched (core0 regs0) 2), ((fetched (core0 regs0) 2).operand 0 odp 8 g0).1, issues_of (by decide +kernel), by decide +kernel, run_ok (by decide +kernel)⟩,
   ⟨0, g0, odp, 3, 0x10008, ⟨0x10008, 0x10008, 1, 5⟩, core0 regs0, (fetched (core0 regs0) 2), ((fetched (core0 regs0) 2).ea 0 odp g0).1, ((((fetched (core0 regs0) 2).ea 0 odp g0).1).storeCheck 0 0x10008 1 5 .none).1, issues_of (by decide +kernel), by decide +kernel, run_ok (by decide +kernel), run_ok (by decide +kernel), by decide +kernel⟩,
   ⟨0, g0, odp, 0, 0x10008, ⟨0x10008, 0x10008, 8, 5⟩, core0 regs0, (fetched (core0 regs0) 2), ((fetched (core0 regs0) 2).ea 0 odp g0).1, ((((fetched (core0 regs0) 2).ea 0 odp g0).1).storeCheck 0 0x10008 8 5 .none).1, issues_of (by decide +kernel), by decide +kernel, run_ok (by decide +kernel), run_ok (by decide +kernel)⟩,
   ⟨0, g0, odp, true, 0x10008, ⟨0x10008, 0x10008, 8, 2⟩, core0 regs0, (fetched (core0 regs0) 2), ((fetched (core0 regs0) 2).ea 0 odp g0).1, ((((fetched (core0 regs0) 2).ea 0 odp g0).1).storeCheck 0 0x10008 8 2 .none).1, issues_of (by decide +kernel), by decide +kernel, run_ok (by decide +kernel), run_ok (by decide +kernel), by decide +kernel⟩,
   ⟨0, g0, odp, false, 0x10008, ⟨0x10008, 0x10008, 8, 3⟩, core0 regs0, (fetched (core0 regs0) 2), ((fetched (core0 regs0) 2).ea 0 odp g0).1, ((((fetched (core0 regs0) 2).ea 0 odp g0).1).storeCheck 0 0x10008 8 3 .none).1, issues_of (by decide +kernel), by decide +kernel, run_ok (by decide +kernel), run_ok (by decide +kernel)⟩,
   ⟨0, g0, odp, 0x10008, core0 regs0, (fetched (core0 regs0) 2), ((fetched (core0 regs0) 2).ea 0 odp g0).1, issues_of (by decide +kernel), by decide +kernel, run_ok (by decide +kernel)⟩,
   ⟨⟨false, 6, 0xFFFF8⟩, by decide +kernel⟩,
   ⟨0, g0, 0, ⟨0x1FFF8, 0x1FFF8, 8, 5⟩, core0 regs0, (fetched (core0 regs0) 1), ((fetched (core0 regs0) 1).storeCheck 0 0x1FFF8 8 5 .none).1, issues_of (by decide +kernel), run_ok (by decide +kernel), by decide +kernel⟩,
   ⟨0, g0, 2, ⟨0x1FFF8, 0x1FFF8, 8, 2⟩, core0 regs0, (fetched (core0 regs0) 1), ((fetched (core0 regs0) 1).storeCheck 0 0x1FFF8 8 2 .none).1, issues_of (by decide +kernel), run_ok (by decide +kernel)⟩,
   ⟨0, g0, 0, core0 regs0, (fetched (core0 regs0) 1), ((fetched (core0 regs0) 1).load 0 0x20000 8 .none).1, issues_of (by decide +kernel), run_ok (by decide +kernel)⟩⟩

theorem witness_CapoArithmetic :
    -- add
    (∃ (n : Core) (g : Slot) (o : MemOp) (w : Nat) (s : State) (u : State) (v : State),
      s.Issues n.val g o.len u ∧ o.bad true = false ∧ u.operand n.val o 8 g = (v, .ok w)) ∧
    -- adc
    (∃ (n : Core) (g : Slot) (o : MemOp) (w : Nat) (s : State) (u : State) (v : State),
      s.Issues n.val g o.len u ∧ o.bad true = false ∧ u.operand n.val o 8 g = (v, .ok w)) ∧
    -- sub
    (∃ (n : Core) (g : Slot) (o : MemOp) (w : Nat) (s : State) (u : State) (v : State),
      s.Issues n.val g o.len u ∧ o.bad true = false ∧ u.operand n.val o 8 g = (v, .ok w) ∧ w < 2 ^ 64) ∧
    -- sbc
    (∃ (n : Core) (g : Slot) (o : MemOp) (w : Nat) (s : State) (u : State) (v : State),
      s.Issues n.val g o.len u ∧ o.bad true = false ∧ u.operand n.val o 8 g = (v, .ok w) ∧ w < 2 ^ 64) ∧
    -- andOrXor
    (∃ (n : Core) (g : Slot) (o : MemOp) (w : Nat) (s : State) (u : State) (v : State),
      s.Issues n.val g o.len u ∧ o.bad true = false ∧ u.operand n.val o 8 g = (v, .ok w) ∧ w < 2 ^ 64) ∧
    -- cmp
    (∃ (n : Core) (g : Slot) (o : MemOp) (w : Nat) (s : State) (u : State) (v : State),
      s.Issues n.val g o.len u ∧ o.bad true = false ∧ u.operand n.val o 8 g = (v, .ok w)) ∧
    -- mul
    (∃ (n : Core) (g : Slot) (o : MemOp) (w : Nat) (s : State) (u : State) (v : State),
      s.Issues n.val g o.len u ∧ o.bad true = false ∧ u.operand n.val o 8 g = (v, .ok w)) ∧
    -- mulhu
    (∃ (n : Core) (g : Slot) (o : MemOp) (w : Nat) (s : State) (u : State) (v : State),
      s.Issues n.val g o.len u ∧ o.bad true = false ∧ u.operand n.val o 8 g = (v, .ok w) ∧ w < 2 ^ 64) ∧
    -- mulhs
    (∃ (n : Core) (g : Slot) (o : MemOp) (w : Nat) (s : State) (u : State) (v : State),
      s.Issues n.val g o.len u ∧ o.bad true = false ∧ u.operand n.val o 8 g = (v, .ok w) ∧ w < 2 ^ 64) ∧
    -- divide
    (∃ (n : Core) (g : Slot) (o : MemOp) (w : Nat) (s : State) (u : State) (v : State),
      s.Issues n.val g o.len u ∧ o.bad true = false ∧ u.operand n.val o 8 g = (v, .ok w) ∧ w < 2 ^ 64) ∧
    -- shiftByZero
    (∃ (n : Core) (g : Slot) (o : MemOp) (w : Nat) (s : State) (u : State) (v : State),
      s.Issues n.val g o.len u ∧ o.bad true = false ∧ u.operand n.val o 8 g = (v, .ok w) ∧ w % 64 = 0) ∧
    -- shift
    (∃ (n : Core) (g : Slot) (o : MemOp) (w : Nat) (s : State) (u : State) (v : State),
      s.Issues n.val g o.len u ∧ o.bad true = false ∧ u.operand n.val o 8 g = (v, .ok w) ∧ w % 64 ≠ 0) ∧
    -- addxAddy
    (∃ (n : Core) (g : Slot) (o : MemOp) (w : Nat) (s : State) (u : State) (v : State),
      s.Issues n.val g o.len u ∧ o.bad true = false ∧ u.operand n.val o 8 g = (v, .ok w)) ∧
    -- lddpLdsp
    (∃ (n : Core) (g : Slot) (o : MemOp) (w : Nat) (s : State) (u : State) (v : State),
      s.Issues n.val g o.len u ∧ o.bad true = false ∧ u.operand n.val o 8 g = (v, .ok w)) ∧
    -- addsp
    (∃ (n : Core) (g : Slot) (o : MemOp) (w : Nat) (s : State) (u : State) (v : State),
      s.Issues n.val g o.len u ∧ o.bad true = false ∧ u.operand n.val o 8 g = (v, .ok w)) ∧
    -- tst
    (∃ (n : Core) (g : Slot) (o : MemOp) (w : Nat) (s : State) (u : State) (v : State),
      s.Issues n.val g o.len u ∧ o.bad true = false ∧ u.operand n.val o 8 g = (v, .ok w)) ∧
    -- ldhi
    (∃ (n : Core) (g : Slot) (o : MemOp) (s : State) (u : State),
      s.Issues n.val g 3 u ∧ o.am = 0 ∧ o.long = true) ∧
    -- division
    (∃ (a : Nat) (b : Nat),
      a < 2 ^ 64 ∧ 0 < b ∧ b < 2 ^ 64) :=
  ⟨⟨0, g0, ⟨true, 0, 1⟩, 1, core0 { regs0 with a := 9223372036854775807, st := 7936 }, (fetched (core0 { regs0 with a := 9223372036854775807, st := 7936 }) 3), ((fetched (core0 { regs0 with a := 9223372036854775807, st := 7936 }) 3).operand 0 ⟨true, 0, 1⟩ 8 g0).1, issues_of (by decide +kernel), by decide +kernel, run_ok (by decide +kernel)⟩,
   ⟨0, g0, ⟨true, 0, 1⟩, 1, core0 { regs0 with a := 9223372036854775807, st := 7936 }, (fetched (core0 { regs0 with a := 9223372036854775807, st := 7936 }) 3), ((fetched (core0 { regs0 with a := 9223372036854775807, st := 7936 }) 3).operand 0 ⟨true, 0, 1⟩ 8 g0).1, issues_of (by decide +kernel), by decide +kernel, run_ok (by decide +kernel)⟩,
   ⟨0, g0, ⟨true, 0, 1⟩, 1, core0 { regs0 with a := 9223372036854775807, st := 7936 }, (fetched (core0 { regs0 with a := 9223372036854775807, st := 7936 }) 3), ((fetched (core0 { regs0 with a := 9223372036854775807, st := 7936 }) 3).operand 0 ⟨true, 0, 1⟩ 8 g0).1, issues_of (by decide +kernel), by decide +kernel, run_ok (by decide +kernel), by decide +kernel⟩,
   ⟨0, g0, ⟨true, 0, 1⟩, 1, core0 { regs0 with a := 9223372036854775807, st := 7936 }, (fetched (core0 { regs0 with a := 9223372036854775807, st := 7936 }) 3), ((fetched (core0 { regs0 with a := 9223372036854775807, st := 7936 }) 3).operand 0 ⟨true, 0, 1⟩ 8 g0).1, issues_of (by decide +kernel), by decide +kernel, run_ok (by decide +kernel), by decide +kernel⟩,
   ⟨0, g0, ⟨true, 0, 1⟩, 1, core0 { regs0 with a := 9223372036854775807, st := 7936 }, (fetched (core0 { regs0 with a := 9223372036854775807, st := 7936 }) 3), ((fetched (core0 { regs0 with a := 9223372036854775807, st := 7936 }) 3).operand 0 ⟨true, 0, 1⟩ 8 g0).1, issues_of (by decide +kernel), by decide +kernel, run_ok (by decide +kernel), by decide +kernel⟩,
   ⟨0, g0, ⟨true, 0, 1⟩, 1, core0 { regs0 with a := 9223372036854775807, st := 7936 }, (fetched (core0 { regs0 with a := 9223372036854775807, st := 7936 }) 3), ((fetched (core0 { regs0 with a := 9223372036854775807, st := 7936 }) 3).operand 0 ⟨true, 0, 1⟩ 8 g0).1, issues_of (by decide +kernel), by decide +kernel, run_ok (by decide +kernel)⟩,
   ⟨0, g0, ⟨true, 0, 1⟩, 1, core0 { regs0 with a := 9223372036854775807, st := 7936 }, (fetched (core0 { regs0 with a := 9223372036854775807, st := 7936 }) 3), ((fetched (core0 { regs0 with a := 9223372036854775807, st := 7936 }) 3).operand 0 ⟨true, 0, 1⟩ 8 g0).1, issues_of (by decide +kernel), by decide +kernel, run_ok (by decide +kernel)⟩,
   ⟨0, g0, ⟨true, 0, 1⟩, 1, core0 { regs0 with a := 9223372036854775807, st := 7936 }, (fetched (core0 { regs0 with a := 9223372036854775807, st := 7936 }) 3), ((fetched (core0 { regs0 with a := 9223372036854775807, st := 7936 }) 3).operand 0 ⟨true, 0, 1⟩ 8 g0).1, issues_of (by decide +kernel), by decide +kernel, run_ok (by decide +kernel), by decide +kernel⟩,
   ⟨0, g0, ⟨true, 0, 1⟩, 1, core0 { regs0 with a := 9223372036854775807, st := 7936 }, (fetched (core0 { regs0 with a := 9223372036854775807, st := 7936 }) 3), ((fetched (core0 { regs0 with a := 9223372036854775807, st := 7936 }) 3).operand 0 ⟨true, 0, 1⟩ 8 g0).1, issues_of (by decide +kernel), by decide +kernel, run_ok (by decide +kernel), by decide +kernel⟩,
   ⟨0, g0, ⟨true, 0, 1⟩, 1, core0 { regs0 with a := 9223372036854775807, st := 7936 }, (fetched (core0 { regs0 with a := 9223372036854775807, st := 7936 }) 3), ((fetched (core0 { regs0 with a := 9223372036854775807, st := 7936 }) 3).operand 0 ⟨true, 0, 1⟩ 8 g0).1, issues_of (by decide +kernel), by decide +kernel, run_ok (by decide +kernel), by decide +kernel⟩,
   ⟨0, g0, ⟨true, 0, 64⟩, 64, core0 { regs0 with a := 5, st := 7937 }, (fetched (core0 { regs0 with a := 5, st := 7937 }) 3), ((fetched (core0 { regs0 with a := 5, st := 7937 }) 3).operand 0 ⟨true, 0, 64⟩ 8 g0).1, issues_of (by decide +kernel), by decide +kernel, run_ok (by decide +kernel), by decide +kernel⟩,
   ⟨0, g0, ⟨true, 0, 63⟩, 63, core0 { regs0 with a := 5, st := 7937 }, (fetched (core0 { regs0 with a := 5, st := 7937 }) 3), ((fetched (core0 { regs0 with a := 5, st := 7937 }) 3).operand 0 ⟨true, 0, 63⟩ 8 g0).1, issues_of (by decide +kernel), by decide +kernel, run_ok (by decide +kernel), by decide +kernel⟩,
   ⟨0, g0, ⟨true, 0, 1⟩, 1, core0 { regs0 with a := 9223372036854775807, st := 7936 }, (fetched (core0 { regs0 with a := 9223372036854775807, st := 7936 }) 3), ((fetched (core0 { regs0 with a := 9223372036854775807, st := 7936 }) 3).operand 0 ⟨true, 0, 1⟩ 8 g0).1, issues_of (by decide +kernel), by decide +kernel, run_ok (by decide +kernel)⟩,
   ⟨0, g0, ⟨true, 0, 1⟩, 1, core0 { regs0 with a := 9223372036854775807, st := 7936 }, (fetched (core0 { regs0 with a := 9223372036854775807, st := 7936 }) 3), ((fetched (core0 { regs0 with a := 9223372036854775807, st := 7936 }) 3).operand 0 ⟨true, 0, 1⟩ 8 g0).1, issues_of (by decide +kernel), by decide +kernel, run_ok (by decide +kernel)⟩,
   ⟨0, g0, ⟨true, 0, 1⟩, 1, core0 { regs0 with a := 9223372036854775807, st := 7936 }, (fetched (core0 { regs0 with a := 9223372036854775807, st := 7936 }) 3), ((fetched (core0 { regs0 with a := 9223372036854775807, st := 7936 }) 3).operand 0 ⟨true, 0, 1⟩ 8 g0).1, issues_of (by decide +kernel), by decide +kernel, run_ok (by decide +kernel)⟩,
   ⟨0, g0, ⟨true, 0, 1⟩, 1, core0 { regs0 with a := 9223372036854775807, st := 7936 }, (fetched (core0 { regs0 with a := 9223372036854775807, st := 7936 }) 3), ((fetched (core0 { regs0 with a := 9223372036854775807, st := 7936 }) 3).operand 0 ⟨true, 0, 1⟩ 8 g0).1, issues_of (by decide +kernel), by decide +kernel, run_ok (by decide +kernel)⟩,
   ⟨0, g0, ⟨true, 0, 180150000⟩, core0 regs0, (fetched (core0 regs0) 3), issues_of (by decide +kernel), by decide +kernel⟩,
   ⟨0x7FFFFFFFFFFFFFFF, 7, by decide +kernel⟩⟩

theorem witness_DivisionCorners :
    -- byZero
    (∃ (n : Core) (g : Slot) (o : MemOp) (s : State) (u : State) (v : State),
      s.Issues n.val g o.len u ∧ o.bad true = false ∧ u.operand n.val o 8 g = (v, .ok 0)) ∧
    -- lowestByMinusOne
    (∃ (n : Core) (g : Slot) (o : MemOp) (s : State) (u : State) (v : State),
      s.Issues n.val g o.len u ∧ o.bad true = false ∧ u.operand n.val o 8 g = (v, .ok (2 ^ 64 - 1)) ∧ (v.core n.val).a = BitVec.intMin 64) :=
  ⟨⟨0, g0, ⟨true, 0, 0⟩, core0 regs0, (fetched (core0 regs0) 3), ((fetched (core0 regs0) 3).operand 0 ⟨true, 0, 0⟩ 8 g0).1, issues_of (by decide +kernel), by decide +kernel, run_ok (by decide +kernel)⟩,
   ⟨0, g0, ⟨true, 0, 68719476735⟩, core0 { regs0 with a := 9223372036854775808, st := 7936 }, (fetched (core0 { regs0 with a := 9223372036854775808, st := 7936 }) 3), ((fetched (core0 { regs0 with a := 9223372036854775808, st := 7936 }) 3).operand 0 ⟨true, 0, 68719476735⟩ 8 g0).1, issues_of (by decide +kernel), by decide +kernel, run_ok (by decide +kernel), by decide +kernel⟩⟩

theorem witness_CapoSystemInstructions :
    -- sync
    (∃ (n : Core) (g : Slot) (s : State) (u : State),
      s.Issues n.val g 1 u) ∧
    -- synci
    (∃ (n : Core) (g : Slot) (s : State) (u : State),
      s.Issues n.val g 1 u) ∧
    -- wait
    (∃ (n : Core) (g : Slot) (s : State) (u : State),
      s.Issues n.val g 1 u ∧ (u.core n.val).user = false) ∧
    -- syscall
    (∃ (n : Core) (g : Slot) (s : State) (u : State),
      s.Issues n.val g 1 u ∧ (s.core n.val).delay = 0 ∧ u.frameWaits n.val g.stack = false) ∧
    -- brk
    (∃ (n : Core) (g : Slot) (s : State) (u : State),
      s.Issues n.val g 1 u ∧ (s.core n.val).delay = 0 ∧ u.frameWaits n.val g.stack = false) ∧
    -- frameWaits
    (∃ (n : Core) (g : Slot) (s : State) (u : State),
      s.Issues n.val g 1 u ∧ (s.core n.val).delay = 0 ∧ u.frameWaits n.val g.stack = true) ∧
    -- tlbinvLocal
    (∃ (n : Core) (g : Slot) (k : BitVec 6) (s : State) (u : State),
      s.Issues n.val g 1 u ∧ k.toNat < 16 ∧ k.getLsbD 3 = true ∧ (u.core n.val).user = false ∧ (u.core n.val).sbuf = []) ∧
    -- tlbinvBroadcast
    (∃ (n : Core) (m : Core) (g : Slot) (k : BitVec 6) (s : State) (u : State),
      s.Issues n.val g 1 u ∧ k.toNat < 8 ∧ (u.core n.val).user = false ∧ (u.core n.val).bcasts.length < 8 ∧ (u.core n.val).sbuf = [] ∧ u.coreOn m.val = true ∧ (u.core m.val).held = false) ∧
    -- tlbinvPair
    (∃ (n : Core) (k : BitVec 6) (g : Slot) (e : Eff) (len : Nat) (s : State) (u : State),
      s.issues n.val = true ∧ (s.core n.val).first = some (e, len) ∧ e.vstores = [] ∧ e.rsops = [] ∧ g.pair = false ∧ g.rsvd = false ∧ (s.core n.val).odd = false ∧ (s.core n.val).delay ≠ 3 ∧ (s.walkedAhead n.val g).fetch n.val (((s.core n.val).pc + 2 * len) % 2 ^ 48) 1 g.err = (u, .ok ()) ∧ (u.core n.val).user = false ∧ k.toNat < 8 ∧ (u.core n.val).bcasts.length + e.inval.countP (fun q => !bit q.1 3) < 8 ∧ e.mem = false) ∧
    -- tlbinvNinthWaits
    (∃ (n : Core) (g : Slot) (k : BitVec 6) (s : State) (u : State),
      s.Issues n.val g 1 u ∧ k.toNat < 8 ∧ (u.core n.val).user = false ∧ 8 ≤ (u.core n.val).bcasts.length) ∧
    -- tlbsync
    (∃ (n : Core) (g : Slot) (s : State) (u : State),
      s.Issues n.val g 1 u ∧ (u.core n.val).user = false) ∧
    -- dcinv
    (∃ (n : Core) (g : Slot) (p : Nat × Nat) (s : State) (u : State) (u' : State) (v : State),
      s.Issues n.val g 1 u ∧ (u.core n.val).user = false ∧ u.detRule n.val (u.core n.val).a.toNat 1 false = (u', .ok ()) ∧ u'.translate n.val (u.core n.val).a.toNat .read g.err = (v, .ok p)) ∧
    -- icinv
    (∃ (n : Core) (g : Slot) (p : Nat × Nat) (s : State) (u : State) (u' : State) (v : State),
      s.Issues n.val g 1 u ∧ u.detRule n.val (u.core n.val).a.toNat 1 false = (u', .ok ()) ∧ u'.translate n.val (u.core n.val).a.toNat .read g.err = (v, .ok p)) ∧
    -- mfcr
    (∃ (n : Core) (g : Slot) (k : BitVec 6) (s : State) (u : State),
      s.Issues n.val g 1 u ∧ ((u.core n.val).user = false ∨ k = 9 ∨ k = 10)) ∧
    -- mtcr
    (∃ (n : Core) (g : Slot) (k : BitVec 6) (s : State) (u : State),
      s.Issues n.val g 1 u ∧ (u.core n.val).user = false ∧ (k = 0x0E → u.answerWaits n.val = false)) ∧
    -- mtcrWaits
    (∃ (n : Core) (g : Slot) (s : State) (u : State),
      s.Issues n.val g 1 u ∧ (u.core n.val).user = false ∧ u.answerWaits n.val = true) ∧
    -- ldst
    (∃ (n : Core) (g : Slot) (o : MemOp) (w : Nat) (s : State) (u : State) (v : State),
      s.Issues n.val g o.len u ∧ o.bad true = false ∧ (u.core n.val).user = false ∧ u.operand n.val o 8 g = (v, .ok w)) :=
  ⟨⟨0, g0, core0 { regs0 with sbuf := [⟨0x10000, 0x10000, 8, 7⟩], icache := [5] }, (fetched (core0 { regs0 with sbuf := [⟨0x10000, 0x10000, 8, 7⟩], icache := [5] }) 1), issues_of (by decide +kernel)⟩,
   ⟨0, g0, core0 { regs0 with sbuf := [⟨0x10000, 0x10000, 8, 7⟩], icache := [5] }, (fetched (core0 { regs0 with sbuf := [⟨0x10000, 0x10000, 8, 7⟩], icache := [5] }) 1), issues_of (by decide +kernel)⟩,
   ⟨0, g0, core0 regs0, (fetched (core0 regs0) 1), issues_of (by decide +kernel), by decide +kernel⟩,
   ⟨0, g0, core0 regs0, (fetched (core0 regs0) 1), issues_of (by decide +kernel), by decide +kernel⟩,
   ⟨0, g0, core0 regs0, (fetched (core0 regs0) 1), issues_of (by decide +kernel), by decide +kernel⟩,
   ⟨0, g0, walking, fetched walking 1, issues_of (by decide +kernel), by decide +kernel⟩,
   ⟨0, g0, 9, core0 { regs0 with l1 := [⟨5, 0, 7, false, 0, 0, 0, false⟩, ⟨0, 0, 3, false, 0, 0, 0, false⟩], l2 := [⟨5, 0, 7, true, 0, 0, 0, false⟩] }, (fetched (core0 { regs0 with l1 := [⟨5, 0, 7, false, 0, 0, 0, false⟩, ⟨0, 0, 3, false, 0, 0, 0, false⟩], l2 := [⟨5, 0, 7, true, 0, 0, 0, false⟩] }) 1), issues_of (by decide +kernel), by decide +kernel⟩,
   ⟨0, 1, g0, 0, { core0 regs0 with dom := [(704, 2), (720, 2), (721, 2), (760, 2), (761, 2)] }, (fetched ({ core0 regs0 with dom := [(704, 2), (720, 2), (721, 2), (760, 2), (761, 2)] }) 1), issues_of (by decide +kernel), by decide +kernel⟩,
   ⟨0, 0, g0, { inval := [(0, 0, 0)], cost := 7 }, 1, core0 { regs0 with first := some ({ inval := [(0, 0, 0)], cost := 7 }, 1) }, ((core0 { regs0 with first := some ({ inval := [(0, 0, 0)], cost := 7 }, 1) }).fetch 0 (0x3F0000000000 + 2) 1 .none).1, by decide +kernel, by decide +kernel, by decide +kernel, by decide +kernel, by decide +kernel, by decide +kernel, by decide +kernel, by decide +kernel, run_ok (by decide +kernel), by decide +kernel⟩,
   ⟨0, g0, 7, core0 { regs0 with bcasts := List.replicate 8 ⟨0, []⟩ }, (fetched (core0 { regs0 with bcasts := List.replicate 8 ⟨0, []⟩ }) 1), issues_of (by decide +kernel), by decide +kernel⟩,
   ⟨0, g0, core0 { regs0 with bcasts := [⟨0, []⟩] }, (fetched (core0 { regs0 with bcasts := [⟨0, []⟩] }) 1), issues_of (by decide +kernel), by decide +kernel⟩,
   ⟨0, g0, (5, 0), core0 { regs0 with dcache := [(0, []), (1, [])], icache := [0, 1] }, (fetched (core0 { regs0 with dcache := [(0, []), (1, [])], icache := [0, 1] }) 1), ((fetched (core0 { regs0 with dcache := [(0, []), (1, [])], icache := [0, 1] }) 1).detRule 0 5 1 false).1, ((((fetched (core0 { regs0 with dcache := [(0, []), (1, [])], icache := [0, 1] }) 1).detRule 0 5 1 false).1).translate 0 5 .read .none).1, issues_of (by decide +kernel), by decide +kernel, run_ok (by decide +kernel), run_ok (by decide +kernel)⟩,
   ⟨0, g0, (5, 0), core0 { regs0 with dcache := [(0, []), (1, [])], icache := [0, 1] }, (fetched (core0 { regs0 with dcache := [(0, []), (1, [])], icache := [0, 1] }) 1), ((fetched (core0 { regs0 with dcache := [(0, []), (1, [])], icache := [0, 1] }) 1).detRule 0 5 1 false).1, ((((fetched (core0 { regs0 with dcache := [(0, []), (1, [])], icache := [0, 1] }) 1).detRule 0 5 1 false).1).translate 0 5 .read .none).1, issues_of (by decide +kernel), run_ok (by decide +kernel), run_ok (by decide +kernel)⟩,
   ⟨0, g0, 0, core0 regs0, (fetched (core0 regs0) 1), issues_of (by decide +kernel), by decide +kernel⟩,
   ⟨0, g0, 2, core0 regs0, (fetched (core0 regs0) 1), issues_of (by decide +kernel), by decide +kernel⟩,
   ⟨0, g0, { core0 regs0 with uflits := List.replicate 64 (uflit 1 0 17424 []) }, fetched { core0 regs0 with uflits := List.replicate 64 (uflit 1 0 17424 []) } 1, issues_of (by decide +kernel), by decide +kernel⟩,
   ⟨0, g0, odp, 0, core0 regs0, fetched (core0 regs0) 2, ((fetched (core0 regs0) 2).operand 0 odp 8 g0).1, issues_of (by decide +kernel), by decide +kernel, by decide +kernel, run_ok (by decide +kernel)⟩⟩

theorem witness_CapoTraps :
    -- notIssuing
    (∃ (n : Core) (s : State),
      s.issues n.val = false) ∧
    -- oddPc
    (∃ (n : Core) (g : Slot) (a : Nat) (p : Nat × Nat) (s : State) (w : State) (u : State) (v : State),
      s.issues n.val = true ∧ s.beforeGroup n.val = none ∧ (s.core n.val).first = none ∧ (s.core n.val).delay ≠ 3 ∧ (s.core n.val).odd = true ∧ w = s.walkedAhead n.val g ∧ a = w.pcVa n.val ((s.core n.val).pc + 1) ∧ w.fetchUnlocked n.val a = false ∧ w.translate n.val a .fetch g.err = (u, .ok p) ∧ u.detRule n.val a 2 false = (v, .ok ())) ∧
    -- reserved
    (∃ (n : Core) (g : Slot) (len : Nat) (s : State) (u : State),
      s.issues n.val = true ∧ s.beforeGroup n.val = none ∧ (s.core n.val).first = none ∧ (s.core n.val).delay ≠ 3 ∧ (s.core n.val).odd = false ∧ g.rsvd = true ∧ g.pair = false ∧ (s.walkedAhead n.val g).fetch n.val ((s.core n.val).pc % 2 ^ 48) len g.err = (u, .ok ())) ∧
    -- badCode
    (∃ (n : Core) (g : Slot) (k : BitVec 6) (s : State) (u : State),
      s.Issues n.val g 1 u ∧ (5 ≤ k.toNat % 8 ∨ 5 ≤ k.toNat / 8 ∨ k.toNat % 8 = k.toNat / 8)) ∧
    -- badOperand
    (∃ (n : Core) (g : Slot) (o : MemOp) (s : State) (u : State),
      s.Issues n.val g o.len u ∧ (o.am = 7 ∨ (o.am = 1 ∧ o.long = false))) ∧
    -- storeImmediate
    (∃ (n : Core) (g : Slot) (o : MemOp) (s : State) (u : State),
      s.Issues n.val g o.len u ∧ o.am = 0) ∧
    -- transferInSlot
    (∃ (n : Core) (g : Slot) (s : State) (u : State),
      s.Issues n.val g 1 u ∧ ((s.core n.val).delay = 1 ∨ (s.core n.val).delay = 2) ∧ ((s.core n.val).skipBp || !s.domOn 765 || !s.bpMatch n.val (((s.core n.val).pc + 2) % 2 ^ 48)) = true) ∧
    -- privileged
    (∃ (n : Core) (g : Slot) (k : BitVec 6) (s : State) (u : State),
      s.Issues n.val g 1 u ∧ (u.core n.val).user = true ∧ k ≠ 9 ∧ k ≠ 10) ∧
    -- privilegedTlbinv
    (∃ (n : Core) (g : Slot) (k : BitVec 6) (s : State) (u : State),
      s.Issues n.val g 1 u ∧ (u.core n.val).user = true ∧ k.toNat < 16) ∧
    -- privilegedReads
    (∃ (n : Core) (u : State),
      (u.core n.val).user = true) ∧
    -- returnStack
    (∃ (n : Core) (g : Slot) (s : State) (u : State),
      s.Issues n.val g 1 u) ∧
    -- firstOfPair
    (∃ (n : Core) (g : Slot) (s : State) (u : State) (v : State),
      s.issues n.val = true ∧ s.beforeGroup n.val = none ∧ (s.core n.val).first = none ∧ g.pair = true ∧ g.rsvd = false ∧ (s.core n.val).odd = false ∧ (s.core n.val).delay ≠ 3 ∧ (s.walkedAhead n.val g).fetch n.val ((s.core n.val).pc % 2 ^ 48) 1 g.err = (u, .ok ()) ∧ u.fetchAhead n.val (((s.core n.val).pc + 2) % 2 ^ 48) g.next.toNat g.ahead = (v, .ok ())) :=
  ⟨⟨0, State.reset, by decide +kernel⟩,
   ⟨0, g0, 0x3F0000000001, (0x3F0000000001, 0), core0 { regs0 with odd := true }, core0 { regs0 with odd := true }, ((core0 { regs0 with odd := true }).translate 0 0x3F0000000001 .fetch .none).1, (((core0 { regs0 with odd := true }).translate 0 0x3F0000000001 .fetch .none).1.detRule 0 0x3F0000000001 2 false).1, by decide +kernel, by decide +kernel, by decide +kernel, by decide +kernel, by decide +kernel, by decide +kernel, by decide +kernel, by decide +kernel, run_ok (by decide +kernel), run_ok (by decide +kernel)⟩,
   ⟨0, { g0 with rsvd := true }, 1, core0 regs0, (fetched (core0 regs0) 1), by decide +kernel, by decide +kernel, by decide +kernel, by decide +kernel, by decide +kernel, by decide +kernel, by decide +kernel, run_ok (by decide +kernel)⟩,
   ⟨0, g0, 5, core0 regs0, (fetched (core0 regs0) 1), issues_of (by decide +kernel), by decide +kernel⟩,
   ⟨0, g0, ⟨false, 7, 0⟩, core0 regs0, (fetched (core0 regs0) 2), issues_of (by decide +kernel), by decide +kernel⟩,
   ⟨0, g0, ⟨true, 0, 5⟩, core0 regs0, (fetched (core0 regs0) 3), issues_of (by decide +kernel), by decide +kernel⟩,
   ⟨0, g0, core0 { regs0 with delay := 1 }, (fetched (core0 { regs0 with delay := 1 }) 1), issues_of (by decide +kernel), by decide +kernel⟩,
   ⟨0, g0, 0, core0 { regs0 with st := 0xF00 }, (fetched (core0 { regs0 with st := 0xF00 }) 1), issues_of (by decide +kernel), by decide +kernel⟩,
   ⟨0, g0, 2, core0 { regs0 with st := 0xF00 }, (fetched (core0 { regs0 with st := 0xF00 }) 1), issues_of (by decide +kernel), by decide +kernel⟩,
   ⟨0, fetched (core0 { regs0 with st := 0xF00 }) 1, by decide +kernel⟩,
   ⟨0, g0, core0 regs0, (fetched (core0 regs0) 1), issues_of (by decide +kernel)⟩,
   ⟨0, { g0 with pair := true }, core0 regs0, fetched (core0 regs0) 1, ((fetched (core0 regs0) 1).fetchAhead 0 2 1 .none).1, by decide +kernel, by decide +kernel, by decide +kernel, by decide +kernel, by decide +kernel, by decide +kernel, by decide +kernel, run_ok (by decide +kernel), run_ok (by decide +kernel)⟩⟩

theorem witness_CapoExceptionEntry :
    -- entry
    (∃ (n : Core) (e : Exc) (s : State),
      (s.core n.val).late = [] ∧ (s.core n.val).vlate = [] ∧ (s.core n.val).sbuf = [] ∧ s.flag CPO_MODE_DET n.val = false ∧ s.flag MMU_CTL_EN n.val = false ∧ e.code < 16 ∧ e.code ≠ 0x0D ∧ (s.core n.val).sp.toNat % 8 = 0 ∧ lsramBase n.val + 48 ≤ (s.core n.val).sp.toNat ∧ (s.core n.val).sp.toNat ≤ lsramBase n.val + 0x40000) ∧
    -- entryTime
    (∃ (n : Core) (pc : Nat) (st : Nat) (code : Nat) (fe : FrameErr) (s : State) (v : State),
      s.stackFrame n.val pc st code (if n.val < 4 then 12 else 20) fe = (v, true) ∧ s.flag CPO_MODE_DET n.val = true ∧ (s.core n.val).sbuf = []) ∧
    -- doubleFault
    (∃ (n : Core) (s : State),
      s.flag MMU_CTL_EN n.val = false ∧ (s.core n.val).sp = 0 ∧ (s.core n.val).late = []) ∧
    -- fetchLeavesRegisters
    (∃ (n : Nat) (s : State),
      s.flag MMU_CTL_EN n = false) :=
  ⟨⟨0, { code := 3, arg := 5, addr := some 9, write := true }, core0 { regs0 with sp := 0x300010000030, st := 0xF05, delay := 1 }, by decide +kernel⟩,
   ⟨0, 0x3F0000000000, 0x1F00, 3, {}, put (core0 { regs0 with sp := 0x300010000030 }) [(CPO_MODE_DET, 0, 1)], ((put (core0 { regs0 with sp := 0x300010000030 }) [(CPO_MODE_DET, 0, 1)]).stackFrame 0 0x3F0000000000 0x1F00 3 12 {}).1, Prod.ext rfl (by decide +kernel), by decide +kernel⟩,
   ⟨0, core0 { regs0 with sp := 0 }, by decide +kernel⟩,
   ⟨0, core0 regs0, by decide +kernel⟩⟩

theorem witness_VectorArithmetic :
    -- vadd
    (∃ (n : Core) (g : Slot) (o : VOp) (s : State) (u : State) (v : State),
      s.VIssues n.val g o useDAB u v) ∧
    -- vsub
    (∃ (n : Core) (g : Slot) (o : VOp) (s : State) (u : State) (v : State),
      s.VIssues n.val g o useDAB u v) ∧
    -- vmul
    (∃ (n : Core) (g : Slot) (o : VOp) (s : State) (u : State) (v : State),
      s.VIssues n.val g o useDAB u v) ∧
    -- vminu
    (∃ (n : Core) (g : Slot) (o : VOp) (s : State) (u : State) (v : State),
      s.VIssues n.val g o useDAB u v) ∧
    -- vmaxu
    (∃ (n : Core) (g : Slot) (o : VOp) (s : State) (u : State) (v : State),
      s.VIssues n.val g o useDAB u v) ∧
    -- vmins
    (∃ (n : Core) (g : Slot) (o : VOp) (s : State) (u : State) (v : State),
      s.VIssues n.val g o useDAB u v) ∧
    -- vmaxs
    (∃ (n : Core) (g : Slot) (o : VOp) (s : State) (u : State) (v : State),
      s.VIssues n.val g o useDAB u v) ∧
    -- vand
    (∃ (n : Core) (g : Slot) (o : VOp) (s : State) (u : State) (v : State),
      s.VIssues n.val g o useDAB u v) ∧
    -- vor
    (∃ (n : Core) (g : Slot) (o : VOp) (s : State) (u : State) (v : State),
      s.VIssues n.val g o useDAB u v) ∧
    -- vxor
    (∃ (n : Core) (g : Slot) (o : VOp) (s : State) (u : State) (v : State),
      s.VIssues n.val g o useDAB u v) ∧
    -- vandn
    (∃ (n : Core) (g : Slot) (o : VOp) (s : State) (u : State) (v : State),
      s.VIssues n.val g o useDAB u v) ∧
    -- vshl
    (∃ (n : Core) (g : Slot) (o : VOp) (s : State) (u : State) (v : State),
      s.VIssues n.val g o useDAB u v) ∧
    -- vshr
    (∃ (n : Core) (g : Slot) (o : VOp) (s : State) (u : State) (v : State),
      s.VIssues n.val g o useDAB u v) ∧
    -- vsra
    (∃ (n : Core) (g : Slot) (o : VOp) (s : State) (u : State) (v : State),
      s.VIssues n.val g o useDAB u v) ∧
    -- vshli
    (∃ (n : Core) (g : Slot) (o : VOp) (s : State) (u : State) (v : State),
      s.VIssues n.val g o { useDA with imm := 1 } u v) ∧
    -- vceq
    (∃ (n : Core) (g : Slot) (o : VOp) (s : State) (u : State) (v : State),
      s.VIssues n.val g o useDAB u v) ∧
    -- vcltu
    (∃ (n : Core) (g : Slot) (o : VOp) (s : State) (u : State) (v : State),
      s.VIssues n.val g o useDAB u v) ∧
    -- vclts
    (∃ (n : Core) (g : Slot) (o : VOp) (s : State) (u : State) (v : State),
      s.VIssues n.val g o useDAB u v) ∧
    -- vsel
    (∃ (n : Core) (g : Slot) (o : VOp) (s : State) (u : State) (v : State),
      s.VIssues n.val g o { useDAB with noMask := true } u v) ∧
    -- vmov
    (∃ (n : Core) (g : Slot) (o : VOp) (s : State) (u : State) (v : State),
      s.VIssues n.val g o useDA u v) ∧
    -- vpopc
    (∃ (n : Core) (g : Slot) (o : VOp) (s : State) (u : State) (v : State),
      s.VIssues n.val g o useDA u v) :=
  ⟨⟨0, g0, ⟨0, 0, true, 0, 3, 1, 2, false, 0, 0⟩, vec0 256, fetched (vec0 256) 3, woken (vec0 256), vissues_of (by decide +kernel) (by decide +kernel)⟩,
   ⟨0, g0, ⟨0, 0, true, 0, 3, 1, 2, false, 0, 0⟩, vec0 256, fetched (vec0 256) 3, woken (vec0 256), vissues_of (by decide +kernel) (by decide +kernel)⟩,
   ⟨0, g0, ⟨0, 0, true, 0, 3, 1, 2, false, 0, 0⟩, vec0 256, fetched (vec0 256) 3, woken (vec0 256), vissues_of (by decide +kernel) (by decide +kernel)⟩,
   ⟨0, g0, ⟨0, 0, true, 0, 3, 1, 2, false, 0, 0⟩, vec0 256, fetched (vec0 256) 3, woken (vec0 256), vissues_of (by decide +kernel) (by decide +kernel)⟩,
   ⟨0, g0, ⟨0, 0, true, 0, 3, 1, 2, false, 0, 0⟩, vec0 256, fetched (vec0 256) 3, woken (vec0 256), vissues_of (by decide +kernel) (by decide +kernel)⟩,
   ⟨0, g0, ⟨0, 0, true, 0, 3, 1, 2, false, 0, 0⟩, vec0 256, fetched (vec0 256) 3, woken (vec0 256), vissues_of (by decide +kernel) (by decide +kernel)⟩,
   ⟨0, g0, ⟨0, 0, true, 0, 3, 1, 2, false, 0, 0⟩, vec0 256, fetched (vec0 256) 3, woken (vec0 256), vissues_of (by decide +kernel) (by decide +kernel)⟩,
   ⟨0, g0, ⟨0, 0, true, 0, 3, 1, 2, false, 0, 0⟩, vec0 256, fetched (vec0 256) 3, woken (vec0 256), vissues_of (by decide +kernel) (by decide +kernel)⟩,
   ⟨0, g0, ⟨0, 0, true, 0, 3, 1, 2, false, 0, 0⟩, vec0 256, fetched (vec0 256) 3, woken (vec0 256), vissues_of (by decide +kernel) (by decide +kernel)⟩,
   ⟨0, g0, ⟨0, 0, true, 0, 3, 1, 2, false, 0, 0⟩, vec0 256, fetched (vec0 256) 3, woken (vec0 256), vissues_of (by decide +kernel) (by decide +kernel)⟩,
   ⟨0, g0, ⟨0, 0, true, 0, 3, 1, 2, false, 0, 0⟩, vec0 256, fetched (vec0 256) 3, woken (vec0 256), vissues_of (by decide +kernel) (by decide +kernel)⟩,
   ⟨0, g0, ⟨0, 0, true, 0, 3, 1, 2, false, 0, 0⟩, vec0 256, fetched (vec0 256) 3, woken (vec0 256), vissues_of (by decide +kernel) (by decide +kernel)⟩,
   ⟨0, g0, ⟨0, 0, true, 0, 3, 1, 2, false, 0, 0⟩, vec0 256, fetched (vec0 256) 3, woken (vec0 256), vissues_of (by decide +kernel) (by decide +kernel)⟩,
   ⟨0, g0, ⟨0, 0, true, 0, 3, 1, 2, false, 0, 0⟩, vec0 256, fetched (vec0 256) 3, woken (vec0 256), vissues_of (by decide +kernel) (by decide +kernel)⟩,
   ⟨0, g0, ⟨0, 0, true, 0, 3, 1, 0, false, 0, 63⟩, vec0 256, fetched (vec0 256) 3, woken (vec0 256), vissues_of (by decide +kernel) (by decide +kernel)⟩,
   ⟨0, g0, ⟨0, 0, true, 0, 3, 1, 2, false, 0, 0⟩, vec0 256, fetched (vec0 256) 3, woken (vec0 256), vissues_of (by decide +kernel) (by decide +kernel)⟩,
   ⟨0, g0, ⟨0, 0, true, 0, 3, 1, 2, false, 0, 0⟩, vec0 256, fetched (vec0 256) 3, woken (vec0 256), vissues_of (by decide +kernel) (by decide +kernel)⟩,
   ⟨0, g0, ⟨0, 0, true, 0, 3, 1, 2, false, 0, 0⟩, vec0 256, fetched (vec0 256) 3, woken (vec0 256), vissues_of (by decide +kernel) (by decide +kernel)⟩,
   ⟨0, g0, ⟨0, 0, false, 0, 3, 1, 2, false, 0, 0⟩, vec0 256, fetched (vec0 256) 3, woken (vec0 256), vissues_of (by decide +kernel) (by decide +kernel)⟩,
   ⟨0, g0, ⟨0, 0, true, 0, 3, 1, 0, false, 0, 0⟩, vec0 256, fetched (vec0 256) 3, woken (vec0 256), vissues_of (by decide +kernel) (by decide +kernel)⟩,
   ⟨0, g0, ⟨0, 0, true, 0, 3, 1, 0, false, 0, 0⟩, vec0 256, fetched (vec0 256) 3, woken (vec0 256), vissues_of (by decide +kernel) (by decide +kernel)⟩⟩

theorem witness_VectorMoves :
    -- vmsk
    (∃ (n : Core) (g : Slot) (o : VOp) (s : State) (u : State) (v : State),
      s.VIssues n.val g o { d1 := true, a := true } u v) ∧
    -- vsplat
    (∃ (n : Core) (g : Slot) (o : VOp) (s : State) (u : State) (v : State),
      s.VIssues n.val g o { d := true } u v) ∧
    -- vins
    (∃ (n : Core) (g : Slot) (o : VOp) (s : State) (u : State) (v : State),
      s.VIssues n.val g o { d := true, noMask := true } u v) ∧
    -- vext
    (∃ (n : Core) (g : Slot) (o : VOp) (s : State) (u : State) (v : State),
      s.VIssues n.val g o { a := true, noMask := true } u v) ∧
    -- vsetvl
    (∃ (n : Core) (g : Slot) (o : VOp) (s : State) (u : State) (v : State),
      s.VIssues n.val g o { noMask := true, noShape := true } u v) ∧
    -- vcompress
    (∃ (n : Core) (g : Slot) (o : VOp) (s : State) (u : State) (v : State),
      s.VIssues n.val g o useDA u v) ∧
    -- vexpand
    (∃ (n : Core) (g : Slot) (o : VOp) (s : State) (u : State) (v : State),
      s.VIssues n.val g o useDA u v) ∧
    -- resultOfElements
    (∃ (x : CoreSt) (lg : Nat) (le : Nat) (l : List (Nat × Nat)),
      lg < 4 ∧ 3 ≤ le ∧ le ≤ 6 ∧ (∀ k, x.vreg k < 2 ^ 256) ∧ (l.map (·.1)).Nodup ∧ (∀ p ∈ l, p.1 < 256 * 2 ^ lg / 2 ^ le)) :=
  ⟨⟨0, g0, ⟨0, 0, true, 0, 3, 1, 0, false, 0, 0⟩, vec0 256, fetched (vec0 256) 3, woken (vec0 256), vissues_of (by decide +kernel) (by decide +kernel)⟩,
   ⟨0, g0, ⟨0, 0, true, 0, 3, 0, 0, false, 0, 0⟩, vec0 256, fetched (vec0 256) 3, woken (vec0 256), vissues_of (by decide +kernel) (by decide +kernel)⟩,
   ⟨0, g0, ⟨0, 0, false, 0, 3, 0, 0, false, 0, 0⟩, vec0 256, fetched (vec0 256) 3, woken (vec0 256), vissues_of (by decide +kernel) (by decide +kernel)⟩,
   ⟨0, g0, ⟨0, 0, false, 0, 0, 1, 0, false, 0, 0⟩, vec0 256, fetched (vec0 256) 3, woken (vec0 256), vissues_of (by decide +kernel) (by decide +kernel)⟩,
   ⟨0, g0, ⟨0, 0, false, 0, 0, 0, 0, false, 0, 0⟩, vec0 256, fetched (vec0 256) 3, woken (vec0 256), vissues_of (by decide +kernel) (by decide +kernel)⟩,
   ⟨0, g0, ⟨0, 0, true, 0, 3, 1, 0, false, 0, 0⟩, vec0 256, fetched (vec0 256) 3, woken (vec0 256), vissues_of (by decide +kernel) (by decide +kernel)⟩,
   ⟨0, g0, ⟨0, 0, true, 0, 3, 1, 0, false, 0, 0⟩, vec0 256, fetched (vec0 256) 3, woken (vec0 256), vissues_of (by decide +kernel) (by decide +kernel)⟩,
   ⟨CoreSt.reset, 0, 3, [(1, 7), (31, 300)], by decide +kernel, by decide +kernel, by decide +kernel, fun k => by simp [CoreSt.vreg, CoreSt.reset, CoreSt.fresh, sget, lookup], by decide +kernel⟩⟩

theorem witness_VectorReductions :
    -- vradd
    (∃ (n : Core) (g : Slot) (o : VOp) (s : State) (u : State) (v : State),
      s.VIssues n.val g o useA u v) ∧
    -- vrxor
    (∃ (n : Core) (g : Slot) (o : VOp) (s : State) (u : State) (v : State),
      s.VIssues n.val g o useA u v) ∧
    -- vrminu
    (∃ (n : Core) (g : Slot) (o : VOp) (s : State) (u : State) (v : State),
      s.VIssues n.val g o useA u v) ∧
    -- vrmaxu
    (∃ (n : Core) (g : Slot) (o : VOp) (s : State) (u : State) (v : State),
      s.VIssues n.val g o useA u v) ∧
    -- vrpopc
    (∃ (n : Core) (g : Slot) (o : VOp) (s : State) (u : State) (v : State),
      s.VIssues n.val g o useA u v) ∧
    -- vcrc
    (∃ (n : Core) (g : Slot) (o : VOp) (s : State) (u : State) (v : State),
      s.VIssues n.val g o useA u v) :=
  ⟨⟨0, g0, ⟨0, 0, true, 0, 0, 1, 0, false, 0, 0⟩, vec0 256, fetched (vec0 256) 3, woken (vec0 256), vissues_of (by decide +kernel) (by decide +kernel)⟩,
   ⟨0, g0, ⟨0, 0, true, 0, 0, 1, 0, false, 0, 0⟩, vec0 256, fetched (vec0 256) 3, woken (vec0 256), vissues_of (by decide +kernel) (by decide +kernel)⟩,
   ⟨0, g0, ⟨0, 0, true, 0, 0, 1, 0, false, 0, 0⟩, vec0 256, fetched (vec0 256) 3, woken (vec0 256), vissues_of (by decide +kernel) (by decide +kernel)⟩,
   ⟨0, g0, ⟨0, 0, true, 0, 0, 1, 0, false, 0, 0⟩, vec0 256, fetched (vec0 256) 3, woken (vec0 256), vissues_of (by decide +kernel) (by decide +kernel)⟩,
   ⟨0, g0, ⟨0, 0, true, 0, 0, 1, 0, false, 0, 0⟩, vec0 256, fetched (vec0 256) 3, woken (vec0 256), vissues_of (by decide +kernel) (by decide +kernel)⟩,
   ⟨0, g0, ⟨0, 0, true, 0, 0, 1, 0, false, 0, 0⟩, vec0 256, fetched (vec0 256) 3, woken (vec0 256), vissues_of (by decide +kernel) (by decide +kernel)⟩⟩

theorem witness_VectorMemory :
    -- vld
    (∃ (n : Core) (g : Slot) (o : VOp) (p : List (Nat × Nat × Nat × Nat)) (r : List (Nat × Nat)) (s : State) (u : State) (v : State) (w : State) (z : State),
      s.VIssues n.val g o { d := true, imm := 2, br := true } u v ∧ v.vCheck n.val (vBits o / 8) false g.err ((v.vActive n.val o).map (fun i => (i, (v.core n.val).elemAddr o false i))) = (w, .ok p) ∧ w.vLoads n.val (vBits o / 8) g.err true p = (z, .ok r)) ∧
    -- vgather
    (∃ (n : Core) (g : Slot) (o : VOp) (p : List (Nat × Nat × Nat × Nat)) (r : List (Nat × Nat)) (s : State) (u : State) (v : State) (w : State) (z : State),
      s.VIssues n.val g o { d := true, b := true, imm := 2, br := true, sc := true } u v ∧ v.vCheck n.val (vBits o / 8) false g.err ((v.vActive n.val o).map (fun i => (i, (v.core n.val).elemAddr o true i))) = (w, .ok p) ∧ w.vLoads n.val (vBits o / 8) g.err true p = (z, .ok r)) ∧
    -- vst
    (∃ (n : Core) (g : Slot) (o : VOp) (p : List (Nat × Nat × Nat × Nat)) (s : State) (u : State) (v : State) (w : State) (z : State),
      s.VIssues n.val g o { d := true, imm := 2, br := true } u v ∧ v.vCheck n.val (vBits o / 8) true g.err ((v.vActive n.val o).map (fun i => (i, (v.core n.val).elemAddr o false i))) = (w, .ok p) ∧ p ≠ [] ∧ p.any (fun q => (w.drainAll n.val).writeWaits q.2.2.1) = false ∧ (w.drainAll n.val).performVec n.val ((p.find? (fun q => elemBus g.err q.1)).map (·.1)) (p.map (fun q => (q.1, ⟨q.2.1, q.2.2.1, vBits o / 8, (v.core n.val).elem o o.vd q.1⟩))) = (z, none)) ∧
    -- vstNothing
    (∃ (n : Core) (g : Slot) (o : VOp) (s : State) (u : State) (v : State),
      s.VIssues n.val g o { d := true, imm := 2, br := true } u v ∧ v.vActive n.val o = []) ∧
    -- vscatter
    (∃ (n : Core) (g : Slot) (o : VOp) (p : List (Nat × Nat × Nat × Nat)) (s : State) (u : State) (v : State) (w : State) (z : State),
      s.VIssues n.val g o { d := true, b := true, imm := 2, br := true, sc := true } u v ∧ v.vCheck n.val (vBits o / 8) true g.err ((v.vActive n.val o).map (fun i => (i, (v.core n.val).elemAddr o true i))) = (w, .ok p) ∧ p ≠ [] ∧ p.any (fun q => (w.drainAll n.val).writeWaits q.2.2.1) = false ∧ (w.drainAll n.val).performVec n.val ((p.find? (fun q => elemBus g.err q.1)).map (·.1)) (p.map (fun q => (q.1, ⟨q.2.1, q.2.2.1, vBits o / 8, (v.core n.val).elem o o.vd q.1⟩))) = (z, none)) ∧
    -- vscatterNothing
    (∃ (n : Core) (g : Slot) (o : VOp) (s : State) (u : State) (v : State),
      s.VIssues n.val g o { d := true, b := true, imm := 2, br := true, sc := true } u v ∧ v.vActive n.val o = []) ∧
    -- busError
    (∃ (n : Core) (g : Slot) (o : VOp) (b : Byte) (p : List (Nat × Nat × Nat × Nat)) (q : Nat × Nat × Nat × Nat) (s : State) (u : State) (v : State) (w : State),
      vBits o = 64 ∧ g.err = .elem b false ∧ s.VIssues n.val g o { d := true, imm := 2, br := true } u v ∧ (w.core n.val).sbuf = [] ∧ v.vCheck n.val 8 true g.err ((v.vActive n.val o).map (fun i => (i, (v.core n.val).elemAddr o false i))) = (w, .ok p) ∧ p.head? = some q ∧ q.1 = b.toNat ∧ p.any (fun q => w.writeWaits q.2.2.1) = false) ∧
    -- storeWaits
    (∃ (n : Core) (g : Slot) (o : VOp) (p : List (Nat × Nat × Nat × Nat)) (s : State) (u : State) (v : State) (w : State),
      s.VIssues n.val g o { d := true, imm := 2, br := true } u v ∧ v.vCheck n.val (vBits o / 8) true g.err ((v.vActive n.val o).map (fun i => (i, (v.core n.val).elemAddr o false i))) = (w, .ok p) ∧ p.any (fun q => (w.drainAll n.val).writeWaits q.2.2.1) = true) ∧
    -- unitOff
    (∃ (n : Core) (g : Slot) (s : State) (u : State),
      s.Issues n.val g 3 u ∧ bit (u.core n.val).st 13 = false) ∧
    -- fields
    (∃ (n : Core) (g : Slot) (o : VOp) (s : State) (u : State),
      s.Issues n.val g 3 u ∧ bit (u.core n.val).st 13 = true ∧ (o.rsv ≠ 0 ∨ o.va.toNat % vRegs o ≠ 0 ∨ o.vb.toNat % vRegs o ≠ 0 ∨ o.vd.toNat % vRegs o ≠ 0 ∨ (o.m = true ∧ o.vd = 0))) ∧
    -- parity
    (∃ (n : Core) (g : Slot) (o : VOp) (r : Fin 32) (b : Fin 32) (s : State) (u : State) (v : State),
      s.Issues n.val g 3 u ∧ bit (u.core n.val).st 13 = true ∧ useDA.bad o = false ∧ v = u.cvuReady n.val ∧ v.flag CVU_STAT_LOST n.val = false ∧ (v.core n.val).vbad = [] ∧ g.err = .vreg r (BitVec.ofNat 32 (2 ^ b.val)) ∧ o.va.toNat ≤ r.val ∧ r.val < o.va.toNat + vRegs o) ∧
    -- parityStays
    (∃ (x : CoreSt) (r : Fin 32) (b : Fin 32) (l : List (Nat × Nat × Nat)),
      x.vbad = [] ∧ (∀ q ∈ l, q.1 = r.val → bits q.2.2 (8 * b.val + 7) (8 * b.val) = 0)) :=
  ⟨⟨0, g0, ⟨3, 0, false, 0, 3, 0, 0, false, 0, 0⟩, places (checked (vec0 256) ⟨3, 0, false, 0, 3, 0, 0, false, 0, 0⟩ false false .none), (okVal (loaded ⟨3, 0, false, 0, 3, 0, 0, false, 0, 0⟩ (checked (vec0 256) ⟨3, 0, false, 0, 3, 0, 0, false, 0, 0⟩ false false .none))).getD [], vec0 256, fetched (vec0 256) 3, woken (vec0 256), (checked (vec0 256) ⟨3, 0, false, 0, 3, 0, 0, false, 0, 0⟩ false false .none).1, (loaded ⟨3, 0, false, 0, 3, 0, 0, false, 0, 0⟩ (checked (vec0 256) ⟨3, 0, false, 0, 3, 0, 0, false, 0, 0⟩ false false .none)).1, vissues_of (by decide +kernel) (by decide +kernel), run_ok (by decide +kernel), run_ok (by decide +kernel)⟩,
   ⟨0, g0, ⟨0, 0, true, 0, 3, 0, 2, true, 1, 8⟩, places (checked (vec0 256) ⟨0, 0, true, 0, 3, 0, 2, true, 1, 8⟩ false true .none), (okVal (loaded ⟨0, 0, true, 0, 3, 0, 2, true, 1, 8⟩ (checked (vec0 256) ⟨0, 0, true, 0, 3, 0, 2, true, 1, 8⟩ false true .none))).getD [], vec0 256, fetched (vec0 256) 3, woken (vec0 256), (checked (vec0 256) ⟨0, 0, true, 0, 3, 0, 2, true, 1, 8⟩ false true .none).1, (loaded ⟨0, 0, true, 0, 3, 0, 2, true, 1, 8⟩ (checked (vec0 256) ⟨0, 0, true, 0, 3, 0, 2, true, 1, 8⟩ false true .none)).1, vissues_of (by decide +kernel) (by decide +kernel), run_ok (by decide +kernel), run_ok (by decide +kernel)⟩,
   ⟨0, g0, ⟨3, 0, false, 0, 3, 0, 0, false, 0, 0⟩, places (checked (vec0 256) ⟨3, 0, false, 0, 3, 0, 0, false, 0, 0⟩ true false .none), vec0 256, fetched (vec0 256) 3, woken (vec0 256), (checked (vec0 256) ⟨3, 0, false, 0, 3, 0, 0, false, 0, 0⟩ true false .none).1, (performed (vec0 256) ⟨3, 0, false, 0, 3, 0, 0, false, 0, 0⟩ (checked (vec0 256) ⟨3, 0, false, 0, 3, 0, 0, false, 0, 0⟩ true false .none)).1, vissues_of (by decide +kernel) (by decide +kernel), run_ok (by decide +kernel), by decide +kernel, by decide +kernel, Prod.ext rfl (by decide +kernel)⟩,
   ⟨0, g0, ⟨3, 0, true, 0, 3, 0, 0, false, 0, 0⟩, masked, fetched masked 3, woken masked, vissues_of (by decide +kernel) (by decide +kernel), by decide +kernel⟩,
   ⟨0, g0, ⟨0, 0, true, 0, 3, 0, 2, true, 1, 8⟩, places (checked (vec0 256) ⟨0, 0, true, 0, 3, 0, 2, true, 1, 8⟩ true true .none), vec0 256, fetched (vec0 256) 3, woken (vec0 256), (checked (vec0 256) ⟨0, 0, true, 0, 3, 0, 2, true, 1, 8⟩ true true .none).1, (performed (vec0 256) ⟨0, 0, true, 0, 3, 0, 2, true, 1, 8⟩ (checked (vec0 256) ⟨0, 0, true, 0, 3, 0, 2, true, 1, 8⟩ true true .none)).1, vissues_of (by decide +kernel) (by decide +kernel), run_ok (by decide +kernel), by decide +kernel, by decide +kernel, Prod.ext rfl (by decide +kernel)⟩,
   ⟨0, g0, ⟨0, 0, true, 0, 3, 0, 2, true, 1, 8⟩, masked, fetched masked 3, woken masked, vissues_of (by decide +kernel) (by decide +kernel), by decide +kernel⟩,
   ⟨0, { g0 with err := .elem 0 false }, ⟨3, 0, false, 0, 3, 0, 0, false, 0, 0⟩, 0, places checkedE, (0, 0x10000, 0x10000, 0), vec0 256, fetchedE (vec0 256) (.elem 0 false), wokenE (vec0 256) (.elem 0 false), checkedE.1, by decide +kernel, by decide +kernel, vissues_err (by decide +kernel) (by decide +kernel), by decide +kernel, run_ok (by decide +kernel), by decide +kernel⟩,
   ⟨0, g0, ⟨3, 0, false, 0, 3, 0, 0, false, 0, 0⟩, places (checked storing ⟨3, 0, false, 0, 3, 0, 0, false, 0, 0⟩ true false .none), storing, fetched storing 3, woken storing, (checked storing ⟨3, 0, false, 0, 3, 0, 0, false, 0, 0⟩ true false .none).1, vissues_of (by decide +kernel) (by decide +kernel), run_ok (by decide +kernel), by decide +kernel⟩,
   ⟨0, g0, core0 regs0, fetched (core0 regs0) 3, issues_of (by decide +kernel), by decide +kernel⟩,
   ⟨0, g0, ⟨0, 0, true, 0, 0, 1, 2, false, 0, 0⟩, vec0 8, fetched (vec0 8) 3, issues_of (by decide +kernel), by decide +kernel⟩,
   ⟨0, { g0 with err := .vreg 1 32 }, ⟨0, 0, false, 0, 3, 1, 0, false, 0, 0⟩, 1, 5, vec0 8, fetchedE (vec0 8) (.vreg 1 32), (fetchedE (vec0 8) (.vreg 1 32)).cvuReady 0, issues_of (by decide +kernel), by decide +kernel, by decide +kernel, by decide +kernel, by decide +kernel, by decide +kernel, rfl, by decide +kernel⟩,
   ⟨vregs0, 3, 31, [(3, 5, 1), (1, 7, 0xFF)], by decide +kernel⟩⟩

theorem witness_CapoEventAcceptance :
    -- none
    (∃ (n : Core) (s : State),
      s.offerAbove n.val (bits (s.core n.val).st 11 8) = none) ∧
    -- lowPriority
    (∃ (n : Core) (i : Nat) (p : Nat) (s : State),
      s.offer n.val = some (i, p) ∧ p ≤ bits (s.core n.val).st 11 8) ∧
    -- boundary
    (∃ (n : Core) (i : Nat) (p : Nat) (fe : FrameErr) (s : State) (v : State),
      s.offerAbove n.val (bits (s.core n.val).st 11 8) = some (i, p) ∧ p < 16 ∧ (s.core n.val).first = none ∧ (s.core n.val).delay = 0 ∧ (s.core n.val).syncing = none ∧ (s.core n.val).frozen = false ∧ (s.core n.val).entry = false ∧ (s.core n.val).odd = false ∧ s.stackFrame n.val (s.core n.val).pc (s.core n.val).st (0x10 + p) (if n.val < 4 then 11 else 19) fe = (v, true) ∧ s.frameWaits n.val fe = false) ∧
    -- frameWalkWaits
    (∃ (n : Core) (fe : FrameErr) (s : State),
      s.frameWaits n.val fe = true) ∧
    -- noBoundary
    (∃ (n : Core) (s : State),
      (s.core n.val).atBoundary = false) ∧
    -- oddFirst
    (∃ (n : Core) (s : State),
      (s.core n.val).odd = true) ∧
    -- frame
    (∃ (n : Nat) (pc : Nat) (st : Nat) (code : Nat) (cyc : Nat) (fe : FrameErr) (s : State) (v : State),
      s.stackFrame n pc st code cyc fe = (v, true)) ∧
    -- replaced
    (∃ (n : Core) (c : BitVec 5) (i : Nat) (p : Nat) (s : State),
      s.offerAbove n.val (bits (s.core n.val).st 11 8) = some (i, p) ∧ p < 16 ∧ (s.core n.val).entry = true ∧ (s.flag CPO_MODE_DET n.val = true → 1 ≤ c.toNat ∧ c.toNat ≤ (s.core n.val).entryF1 + if n.val < 4 then 1 else 11)) ∧
    -- notReplaced
    (∃ (n : Core) (c : BitVec 5) (s : State),
      s.flag CPO_MODE_DET n.val = true ∧ (c = 0 ∨ (s.core n.val).entryF1 + (if n.val < 4 then 1 else 11) < c.toNat)) ∧
    -- replacedLate
    (∃ (n : Core) (i : Nat) (p : Nat) (s : State),
      s.offerAbove n.val (bits (s.core n.val).st 11 8) = some (i, p) ∧ p < 16 ∧ (s.core n.val).entry = true) ∧
    -- exitAbandoned
    (∃ (n : Core) (c : BitVec 5) (i : Nat) (p : Nat) (a : Word) (x : Word) (y : Word) (dp : Word) (sp : Word) (st : Nat) (s : State),
      s.offerAbove n.val (bits (s.core n.val).st 11 8) = some (i, p) ∧ p < 16 ∧ (s.core n.val).undo = some [a.toNat, x.toNat, y.toNat, dp.toNat, sp.toNat, st] ∧ (s.flag CPO_MODE_DET n.val = true → 1 ≤ c.toNat ∧ c.toNat ≤ if n.val < 4 then 10 else 18)) ∧
    -- exitTooLate
    (∃ (n : Core) (c : BitVec 5) (s : State),
      s.flag CPO_MODE_DET n.val = true ∧ (c = 0 ∨ (if n.val < 4 then 10 else 18) < c.toNat)) ∧
    -- notExiting
    (∃ (n : Core) (s : State),
      (s.core n.val).undo = none) ∧
    -- notEntering
    (∃ (n : Core) (s : State),
      (s.core n.val).entry = false) :=
  ⟨⟨0, State.reset, by decide +kernel⟩,
   ⟨0, 5, 3, offered { regs0 with st := 0x1300 }, by decide +kernel⟩,
   ⟨0, 5, 3, {}, accepting, entered, by decide +kernel, by decide +kernel, by decide +kernel, by decide +kernel, by decide +kernel, by decide +kernel, by decide +kernel, by decide +kernel, entered_eq, by decide +kernel⟩,
   ⟨0, {}, walking, by decide +kernel⟩,
   ⟨0, core0 { regs0 with delay := 1 }, by decide +kernel⟩,
   ⟨0, core0 { regs0 with odd := true }, by decide +kernel⟩,
   ⟨0, 0x3F0000000000, 0x1F00, 3, 11, {}, core0 { regs0 with sp := 0x300010000030 }, ((core0 { regs0 with sp := 0x300010000030 }).stackFrame 0 0x3F0000000000 0x1F00 3 11 {}).1, Prod.ext rfl (by decide +kernel)⟩,
   ⟨0, 3, 5, 3, offered { regs0 with st := 0x1200, entry := true, entryF1 := 4 }, by decide +kernel⟩,
   ⟨0, 0, put (offered { regs0 with st := 0x1200, entry := true, entryF1 := 4 }) [(CPO_MODE_DET, 0, 1)], by decide +kernel⟩,
   ⟨0, 5, 3, offered { regs0 with st := 0x1200, entry := true }, by decide +kernel⟩,
   ⟨0, 10, 5, 3, 1, 2, 3, 4, 5, 0x1F00, put (offered { regs0 with st := 0x1200, undo := some [1, 2, 3, 4, 5, 0x1F00] }) [(CPO_MODE_DET, 0, 1), (CPO_CYC_COUNT, 0, 100)], by decide +kernel⟩,
   ⟨0, 11, put (offered { regs0 with undo := some [1, 2, 3, 4, 5, 0x1F00] }) [(CPO_MODE_DET, 0, 1)], by decide +kernel⟩,
   ⟨0, offered regs0, by decide +kernel⟩,
   ⟨0, offered regs0, by decide +kernel⟩⟩

theorem witness_CapoBackground :
    -- bufferedStore
    (∃ (n : Core) (e : StoreEnt) (l : List StoreEnt) (s : State),
      s.coreOn n.val = true ∧ (s.core n.val).sbuf = e :: l) ∧
    -- performStoreMemory
    (∃ (n : Nat) (e : StoreEnt) (s : State),
      region e.pa = .lsram ∧ s.memOn e.pa = true ∧ lsramBase 0 ≤ e.pa ∧ (lsramCore e.pa = some n ∨ ∀ q ∈ s.cycle.lsram, q.2.2 = false) ∧ n < 20) ∧
    -- portConflict
    (∃ (a : Nat) (s : State),
      s.cycle.lsram.any (fun e => e.1 == a && e.2.2) = true) ∧
    -- portReads
    (∃ (s : State),
      s.cycle.lsram = []) ∧
    -- bufferedStoreError
    (∃ (n : Core) (e : StoreEnt) (l : List StoreEnt) (s : State),
      s.coreOn n.val = true ∧ (s.core n.val).sbuf = e :: l ∧ (s.core n.val).serr = none ∧ (region e.pa = .none ∨ region e.pa = .flash)) ∧
    -- bufferEmpty
    (∃ (n : Core) (s : State),
      ((s.core n.val).sbuf = [] ∨ s.coreOn n.val = false)) ∧
    -- serviceRequest
    (∃ (n : Core) (f : UFlit) (s : State),
      (s.tile (coreDie n.val)).uDelivered.find? (fun f => f.dest == endUnit (coreDie n.val) (0x10 + n.val)) = some f ∧ s.coreOn n.val = true ∧ (∀ q ∈ s.cycle.lsram, q.2.2 = false) ∧ (s.get CPO_SVC_RQ_PROD n.val + 1) % 256 ≠ s.get CPO_SVC_RQ_CONS n.val) ∧
    -- serviceRingFull
    (∃ (n : Core) (s : State),
      (s.get CPO_SVC_RQ_PROD n.val + 1) % 256 = s.get CPO_SVC_RQ_CONS n.val) ∧
    -- invalidationReceived
    (∃ (n : Core) (q : InvReq) (l : List InvReq) (s : State),
      (s.core n.val).invq = q :: l ∧ s.coreOn n.val = true ∧ (s.core n.val).held = false) ∧
    -- invalidationAck
    (∃ (src : Core) (n : Core) (b : Bcast) (s : State),
      (s.core src.val).bcasts.find? (fun b => b.silent.any (· == n.val)) = some b ∧ (s.core n.val).invq.any (fun q => q.src == src.val && q.id == b.id) = false) ∧
    -- ackBeforeApplied
    (∃ (src : Core) (n : Core) (b : Bcast) (s : State),
      (s.core src.val).bcasts.find? (fun b => b.silent.any (· == n.val)) = some b ∧ (s.core n.val).invq.any (fun q => q.src == src.val && q.id == b.id) = true) ∧
    -- tlbsyncTimeout
    (∃ (n : Core) (since : Nat) (s : State),
      (s.core n.val).syncing = some since ∧ since + 3200 ≤ s.tb) ∧
    -- tlbsyncEarly
    (∃ (n : Core) (since : Nat) (s : State),
      (s.core n.val).syncing = some since ∧ s.tb < since + 3200) :=
  ⟨⟨0, ⟨0x300010000100, 0x300010000100, 8, 7⟩, [], core0 { regs0 with sbuf := [⟨0x300010000100, 0x300010000100, 8, 7⟩] }, by decide +kernel⟩,
   ⟨0, ⟨0x300010000100, 0x300010000100, 8, 0x0102030405060708⟩, core0 regs0, by decide +kernel⟩,
   ⟨0x300010000100, { core0 regs0 with cycle := { CycleSt.zero with lsram := [(0x300010000100, 7, true)] } }, by decide +kernel⟩,
   ⟨core0 regs0, by decide +kernel⟩,
   ⟨0, ⟨0x3F0000000000, 0x3F0000000000, 8, 7⟩, [], core0 { regs0 with sbuf := [⟨0x3F0000000000, 0x3F0000000000, 8, 7⟩] }, by decide +kernel⟩,
   ⟨0, core0 regs0, by decide +kernel⟩,
   ⟨0, uflit 2 (endUnit 8 0x10) 0 [1, 2, 3], delivered (core0 regs0) 8 [uflit 2 (endUnit 8 0x10) 0 [1, 2, 3]], by decide +kernel⟩,
   ⟨0, put (core0 regs0) [(CPO_SVC_RQ_CONS, 0, 1)], by decide +kernel⟩,
   ⟨0, ⟨1, 4, 2, 0x5000, 3⟩, [], core0 { regs0 with invq := [⟨1, 4, 2, 0x5000, 3⟩], l1 := [⟨5, 0, 3, false, 0, 0, 0, false⟩, ⟨6, 0, 3, false, 0, 0, 0, false⟩], locks := [(1, ⟨5, 0, 3, false, 0, 0, 0, false⟩)] }, by decide +kernel⟩,
   ⟨0, 1, ⟨4, [1]⟩, put (core0 { regs0 with bcasts := [⟨4, [1]⟩], syncing := some 3 }) [(MMU_SYNC_PENDING, 0, 1)], by decide +kernel⟩,
   ⟨0, 1, ⟨4, [1]⟩, (core0 { regs0 with bcasts := [⟨4, [1]⟩] }).setCore 1 { regs0 with invq := [⟨0, 4, 2, 0x5000, 3⟩] }, by decide +kernel⟩,
   ⟨0, 0, { core0 { regs0 with syncing := some 0, bcasts := [⟨4, [1, 3]⟩] } with tb := 3200 }, by decide +kernel⟩,
   ⟨0, 0, { core0 { regs0 with syncing := some 0 } with tb := 3199 }, by decide +kernel⟩⟩

theorem witness_TlbLocks :
    -- write
    (∃ (n : Core) (s : State),
      s.domOn (720 + n.val) = true ∧ bit (s.get MMU_LKPA_DESC n.val) 0 = true ∧ bit (s.get MMU_LKPA_DESC n.val) 1 = (s.get MMU_LKVA_SIZE n.val == 0) ∧ leafCause (s.get MMU_LKPA_DESC n.val) (s.get MMU_LKVA_SIZE n.val) = 0) ∧
    -- writeRefused
    (∃ (n : Core) (s : State),
      s.domOn (720 + n.val) = true ∧ (bit (s.get MMU_LKPA_DESC n.val) 0 = false ∨ bit (s.get MMU_LKPA_DESC n.val) 1 ≠ (s.get MMU_LKVA_SIZE n.val == 0) ∨ leafCause (s.get MMU_LKPA_DESC n.val) (s.get MMU_LKVA_SIZE n.val) ≠ 0)) ∧
    -- unlock
    (∃ (n : Core) (s : State),
      s.domOn (720 + n.val) = true) ∧
    -- read
    (∃ (n : Core) (i : Fin 8) (e : TlbEnt) (s : State),
      s.domOn (720 + n.val) = true ∧ lookup (s.core n.val).locks i.val = some e) ∧
    -- readUnlocked
    (∃ (n : Core) (i : Fin 8) (s : State),
      s.domOn (720 + n.val) = true ∧ lookup (s.core n.val).locks i.val = none) ∧
    -- powerOff
    (∃ (n : Core) (s : State),
      s.domOn (720 + n.val) = false) :=
  ⟨⟨0, put (core0 { regs0 with l1 := [⟨5, 0, 3, true, 0, 0, 0, false⟩, ⟨6, 0, 3, false, 0, 0, 0, false⟩], locks := [(2, ⟨9, 0, 3, false, 0, 0, 0, false⟩)] }) [(MMU_LKVA_VPN, 0, 5), (MMU_LKPA_DESC, 0, 0x7003)], by decide +kernel⟩,
   ⟨0, put (core0 regs0) [(MMU_LKVA_VPN, 0, 5), (MMU_LKPA_DESC, 0, 0x7001)], by decide +kernel⟩,
   ⟨0, core0 { regs0 with locks := [(2, ⟨9, 0, 3, false, 0, 0, 0, false⟩), (5, ⟨8, 0, 3, false, 0, 0, 0, false⟩)] }, by decide +kernel⟩,
   ⟨0, 2, ⟨9, 0, 3, true, 4, 1, 2, true⟩, core0 { regs0 with locks := [(2, ⟨9, 0, 3, true, 4, 1, 2, true⟩)] }, by decide +kernel⟩,
   ⟨0, 2, put (core0 regs0) [(MMU_LKPA_DESC, 0, 0x7003)], by decide +kernel⟩,
   ⟨0, State.reset, by decide +kernel⟩⟩

theorem witness_CvuPower :
    -- release
    (∃ (n : Core) (s : State),
      s.coreOn n.val = true) ∧
    -- wake
    (∃ (n : Core) (s : State),
      s.coreOn n.val = true ∧ s.get CVU_STAT_PSTATE n.val ≠ 0 ∧ s.flag CVU_STAT_WAKING n.val = false) ∧
    -- wakeNothing
    (∃ (n : Core) (s : State),
      (s.get CVU_STAT_PSTATE n.val = 0 ∨ s.flag CVU_STAT_WAKING n.val = true)) ∧
    -- wakeDoneFromOff
    (∃ (n : Core) (s : State),
      s.coreOn n.val = true ∧ s.flag CVU_STAT_WAKING n.val = true ∧ s.get CVU_STAT_PSTATE n.val = 2) ∧
    -- wakeDoneFromRetention
    (∃ (n : Core) (s : State),
      s.coreOn n.val = true ∧ s.flag CVU_STAT_WAKING n.val = true ∧ s.get CVU_STAT_PSTATE n.val = 1) ∧
    -- retention
    (∃ (n : Core) (s : State),
      s.coreOn n.val = true ∧ s.get CVU_STAT_PSTATE n.val = 0 ∧ s.get CVU_IDLE_RET n.val ≠ 0 ∧ 2 * s.get CVU_IDLE_RET n.val ≤ s.cvuIdle n.val ∧ s.flag CPO_MODE_DET n.val = false) ∧
    -- off
    (∃ (n : Core) (s : State),
      s.coreOn n.val = true ∧ s.get CVU_STAT_PSTATE n.val ≠ 2 ∧ s.flag CVU_STAT_WAKING n.val = false ∧ s.flag CVU_STAT_LIVE n.val = false ∧ s.get CVU_IDLE_OFF n.val ≠ 0 ∧ 2 * s.get CVU_IDLE_OFF n.val ≤ s.cvuIdle n.val ∧ s.flag CPO_MODE_DET n.val = false) ∧
    -- timerStopped
    (∃ (n : Core) (s : State),
      s.flag CPO_MODE_DET n.val = true) ∧
    -- offWhileWaking
    (∃ (n : Core) (s : State),
      s.flag CVU_STAT_WAKING n.val = true) ∧
    -- liveStaysUp
    (∃ (n : Core) (s : State),
      s.flag CVU_STAT_LIVE n.val = true) :=
  ⟨⟨0, put (core0 vregs0) [(CVU_STAT_PSTATE, 0, 0), (CVU_STAT_LIVE, 0, 1)], by decide +kernel⟩,
   ⟨0, core0 regs0, by decide +kernel⟩,
   ⟨0, vec0 8, by decide +kernel⟩,
   ⟨0, put (core0 vregs0) [(CVU_STAT_WAKING, 0, 1), (CVU_VL_VL, 0, 9)], by decide +kernel⟩,
   ⟨0, put (core0 vregs0) [(CVU_STAT_WAKING, 0, 1), (CVU_STAT_PSTATE, 0, 1), (CVU_VL_VL, 0, 9)], by decide +kernel⟩,
   ⟨0, { put (vec0 9) [(CVU_IDLE_RET, 0, 50)] with tb := 100 }, by decide +kernel⟩,
   ⟨0, { put (vec0 9) [(CVU_IDLE_OFF, 0, 50)] with tb := 100 }, by decide +kernel⟩,
   ⟨0, { put (vec0 9) [(CVU_IDLE_RET, 0, 50), (CPO_MODE_DET, 0, 1)] with tb := 100 }, by decide +kernel⟩,
   ⟨0, put (vec0 9) [(CVU_STAT_WAKING, 0, 1)], by decide +kernel⟩,
   ⟨0, { put (vec0 9) [(CVU_IDLE_OFF, 0, 50), (CVU_STAT_LIVE, 0, 1)] with tb := 100 }, by decide +kernel⟩⟩

theorem witness_DesignMemory :
    -- read
    (∃ (t : Tile) (q : MemReq) (l : List MemReq) (o : Nat) (c : Nat) (s : State),
      (s.tile t.val).memq = q :: l ∧ s.mayTake t.val q = true ∧ s.domOn (704 + t.val) = true ∧ s.ckp.heldWrites = [] ∧ s.ckp.restoring = false ∧ q.write = false ∧ s.designOffset t.val q.addr.toNat = some o ∧ s.pcellL t.val q.lcell = some c) ∧
    -- readUpset
    (∃ (t : Tile) (q : MemReq) (l : List MemReq) (o : Nat) (c : Nat) (s : State),
      (s.tile t.val).memq = q :: l ∧ s.mayTake t.val q = true ∧ s.domOn (704 + t.val) = true ∧ s.ckp.heldWrites = [] ∧ s.ckp.restoring = false ∧ q.write = false ∧ s.designOffset t.val q.addr.toNat = some o ∧ s.pcellL t.val q.lcell = some c) ∧
    -- readOutOfRange
    (∃ (t : Tile) (q : MemReq) (l : List MemReq) (c : Nat) (s : State),
      (s.tile t.val).memq = q :: l ∧ s.mayTake t.val q = true ∧ s.domOn (704 + t.val) = true ∧ s.ckp.heldWrites = [] ∧ s.ckp.restoring = false ∧ q.write = false ∧ s.designOffset t.val q.addr.toNat = none ∧ s.pcellL t.val q.lcell = some c) ∧
    -- write
    (∃ (t : Tile) (q : MemReq) (l : List MemReq) (o : Nat) (s : State),
      (s.tile t.val).memq = q :: l ∧ s.mayTake t.val q = true ∧ s.domOn (704 + t.val) = true ∧ s.ckp.heldWrites = [] ∧ s.ckp.restoring = false ∧ q.write = true ∧ s.outChan t.val q.addr.toNat = none ∧ s.designOffset t.val q.addr.toNat = some o ∧ s.mode ≠ .run) ∧
    -- writeInRun
    (∃ (t : Tile) (q : MemReq) (l : List MemReq) (o : Nat) (v : State) (ok : Bool) (s : State),
      (s.tile t.val).memq = q :: l ∧ s.mayTake t.val q = true ∧ s.domOn (704 + t.val) = true ∧ s.ckp.heldWrites = [] ∧ s.ckp.restoring = false ∧ q.write = true ∧ s.outChan t.val q.addr.toNat = none ∧ s.designOffset t.val q.addr.toNat = some o ∧ s.mode = .run ∧ (s.setTile t.val (({ s.tile t.val with memq := l } : TileSt).countTaken s.tb true)).journal t.val (stackBase t.val + o) = (v, ok) ∧ v.ckp.heldWrites = [] ∧ v.ckp.restoring = false) ∧
    -- writeOutOfRange
    (∃ (t : Tile) (q : MemReq) (l : List MemReq) (s : State),
      (s.tile t.val).memq = q :: l ∧ s.mayTake t.val q = true ∧ s.domOn (704 + t.val) = true ∧ s.ckp.heldWrites = [] ∧ s.ckp.restoring = false ∧ q.write = true ∧ s.outChan t.val q.addr.toNat = none ∧ s.designOffset t.val q.addr.toNat = none) ∧
    -- output
    (∃ (t : Tile) (q : MemReq) (l : List MemReq) (n : Nat) (r : HostMapRec) (u : State) (s : State),
      (s.tile t.val).memq = q :: l ∧ s.mayTake t.val q = true ∧ s.domOn (704 + t.val) = true ∧ q.write = true ∧ s.outChan t.val q.addr.toNat = some (n, r) ∧ u = s.setTile t.val (({ s.tile t.val with memq := l } : TileSt).countTaken s.tb true)) ∧
    -- readLost
    (∃ (t : Tile) (q : MemReq) (l : List MemReq) (o : Nat) (c : Nat) (s : State),
      (s.tile t.val).memq = q :: l ∧ s.mayTake t.val q = true ∧ s.domOn (704 + t.val) = true ∧ s.ckp.heldWrites = [] ∧ s.ckp.restoring = false ∧ q.write = false ∧ s.designOffset t.val q.addr.toNat = some o ∧ s.pcellL t.val q.lcell = some c ∧ s.parityIntact t.val (groupOf o) = false) ∧
    -- designOffset
    (∃ (t : Nat) (addr : Nat) (o : Nat) (s : State),
      s.designOffset t addr = some o) ∧
    -- notTaken
    (∃ (t : Tile) (s : State),
      ((s.tile t.val).memq = [] ∨ s.domOn (704 + t.val) = false ∨ (∃ q l, (s.tile t.val).memq = q :: l ∧ s.mayTake t.val q = false))) :=
  ⟨⟨0, ⟨false, 0x10, 0, 0, 3, 0, 9, 0, 9⟩, [], 0x10, 0, asking [⟨false, 0x10, 0, 0, 3, 0, 9, 0, 9⟩], by decide +kernel⟩,
   ⟨0, ⟨false, 0x10, 0, 0, 3, 0, 9, 0, 9⟩, [], 0x10, 0, put (asking [⟨false, 0x10, 0, 0, 3, 0, 9, 0, 9⟩]) [(TME_CHSTAT_PARITY, 0, 1)], by decide +kernel⟩,
   ⟨0, ⟨false, 0x200010, 0, 0, 3, 0, 9, 0, 9⟩, [], 0, asking [⟨false, 0x200010, 0, 0, 3, 0, 9, 0, 9⟩], by decide +kernel⟩,
   ⟨0, ⟨true, 0x10, 0x0102030405060708, 0x81, 3, 0, 9, 0, 9⟩, [], 0x10, { asking [⟨true, 0x10, 0x0102030405060708, 0x81, 3, 0, 9, 0, 9⟩] with mode := .hold }, by decide +kernel⟩,
   ⟨0, ⟨true, 0x10, 7, 0x81, 3, 0, 9, 0, 9⟩, [], 0x10, (((asking [⟨true, 0x10, 7, 0x81, 3, 0, 9, 0, 9⟩]).setTile 0 (({ (asking [⟨true, 0x10, 7, 0x81, 3, 0, 9, 0, 9⟩]).tile 0 with memq := [] } : TileSt).countTaken 20 true)).journal 0 0x10).1, true, asking [⟨true, 0x10, 7, 0x81, 3, 0, 9, 0, 9⟩], by decide +kernel⟩,
   ⟨0, ⟨true, 0x200010, 7, 0x81, 3, 0, 9, 0, 9⟩, [], asking [⟨true, 0x200010, 7, 0x81, 3, 0, 9, 0, 9⟩], by decide +kernel⟩,
   ⟨0, ⟨true, 0x10, 7, 0x81, 3, 0, 9, 0, 9⟩, [], 0, ⟨1, 2, 0, 0, [], 0x10, 0, 4⟩, outputting.setTile 0 (({ outputting.tile 0 with memq := [] } : TileSt).countTaken 20 true), outputting, by decide +kernel⟩,
   ⟨0, ⟨false, 0x10, 0, 0, 3, 0, 9, 0, 9⟩, [], 0x10, 0, put (asking [⟨false, 0x10, 0, 0, 3, 0, 9, 0, 9⟩]) [(TME_CHSTAT_FAILED, 0, 0x8000)], by decide +kernel⟩,
   ⟨0, 0x13, 0x10, asking [], by decide +kernel⟩,
   ⟨0, asking [], Or.inl (by decide +kernel)⟩⟩

theorem witness_HbmChannels :
    -- channelFailure
    (∃ (t : Tile) (ch : Fin 16) (s : State),
      s.domOn (704 + t.val) = true ∧ s.get TME_CHSTAT_FAILED t.val = 0 ∧ s.get TME_CHSTAT_PARITY t.val = 1 ∧ s.get TME_CHMAP_CH15 t.val ≠ ch.val) ∧
    -- parityChannelFails
    (∃ (t : Tile) (ch : Fin 16) (s : State),
      s.domOn (704 + t.val) = true ∧ s.get TME_CHSTAT_FAILED t.val = 0 ∧ s.get TME_CHSTAT_PARITY t.val = 1 ∧ s.get TME_CHMAP_CH15 t.val = ch.val) ∧
    -- stackFailure
    (∃ (t : Tile) (ch : Fin 16) (s : State),
      s.domOn (704 + t.val) = true ∧ s.chFailed t.val ch.val = false ∧ (s.get TME_CHSTAT_FAILED t.val ≠ 0 ∨ s.get TME_CHSTAT_PARITY t.val ≠ 1)) ∧
    -- failedAlready
    (∃ (t : Tile) (ch : Fin 16) (s : State),
      (s.chFailed t.val ch.val = true ∨ s.domOn (704 + t.val) = false)) ∧
    -- rebuildGroup
    (∃ (t : Tile) (s : State),
      s.flag TME_RBCTL_ACTIVE t.val = true ∧ s.domOn (704 + t.val) = true ∧ (s.tile t.val).memq = [] ∧ s.get TME_RBCTL_GROUP t.val + 1 < 37748736) ∧
    -- rebuildEnds
    (∃ (t : Tile) (s : State),
      s.flag TME_RBCTL_ACTIVE t.val = true ∧ s.domOn (704 + t.val) = true ∧ (s.tile t.val).memq = [] ∧ s.get TME_RBCTL_GROUP t.val + 1 = 37748736) ∧
    -- rebuildErrors
    (∃ (t : Tile) (f : Nat) (s : State),
      s.flag TME_RBCTL_ACTIVE t.val = true ∧ s.domOn (704 + t.val) = true ∧ (s.tile t.val).memq = [] ∧ s.get TME_RBCTL_GROUP t.val + 1 < 37748736 ∧ s.failedMember t.val = some f ∧ s.get TME_CHSTAT_PARITY t.val = 1) ∧
    -- rebuildNothing
    (∃ (t : Tile) (s : State),
      (s.flag TME_RBCTL_ACTIVE t.val = false ∨ (s.tile t.val).memq ≠ [] ∨ s.domOn (704 + t.val) = false)) ∧
    -- zeroFillDone
    (∃ (t : Tile) (s : State),
      (s.tile t.val).zeroing = true ∧ s.domOn (704 + t.val) = true ∧ (s.tile t.val).memq = [] ∧ s.heldAt t.val = false) ∧
    -- zeroFillNothing
    (∃ (t : Tile) (s : State),
      ((s.tile t.val).zeroing = false ∨ s.domOn (704 + t.val) = false)) ∧
    -- zeroFillAfterRequests
    (∃ (t : Tile) (s : State),
      (s.tile t.val).zeroing = true ∧ s.domOn (704 + t.val) = true) :=
  ⟨⟨0, 3, put (live [704, 712, 764]) [(TME_CHSTAT_PARITY, 0, 1), (TME_CHMAP_CH15, 0, 15), (TME_RBCTL_GROUP, 0, 9)], by decide +kernel⟩,
   ⟨0, 15, put (live [704, 712, 764]) [(TME_CHSTAT_PARITY, 0, 1), (TME_CHMAP_CH15, 0, 15)], by decide +kernel⟩,
   ⟨0, 4, put (live [704, 712, 764]) [(TME_CHSTAT_PARITY, 0, 1), (TME_CHSTAT_FAILED, 0, 8)], by decide +kernel⟩,
   ⟨0, 3, put (live [704]) [(TME_CHSTAT_FAILED, 0, 8)], by decide +kernel⟩,
   ⟨0, put (live [704]) [(TME_RBCTL_ACTIVE, 0, 1), (TME_CHSTAT_PARITY, 0, 1), (TME_CHSTAT_FAILED, 0, 8)], by decide +kernel⟩,
   ⟨0, put (live [704]) [(TME_RBCTL_ACTIVE, 0, 1), (TME_CHSTAT_PARITY, 0, 1), (TME_CHSTAT_FAILED, 0, 8), (TME_CHMAP_CH15, 0, 15), (TME_RBCTL_GROUP, 0, 37748735)], by decide +kernel⟩,
   ⟨0, 3, put (live [704]) [(TME_RBCTL_ACTIVE, 0, 1), (TME_CHSTAT_PARITY, 0, 1), (TME_CHSTAT_FAILED, 0, 8)], by decide +kernel⟩,
   ⟨0, live [704], by decide +kernel⟩,
   ⟨0, { (live [704]).setTile 0 { TileSt.zero with zeroing := true } with mem := [(5, 7)] }, by decide +kernel⟩,
   ⟨0, live [704], by decide +kernel⟩,
   ⟨0, { (live [704]).setTile 0 { TileSt.zero with zeroing := true } with mem := [(5, 7)] }, by decide +kernel⟩⟩

theorem witness_FlashCommands :
    -- erase
    (∃ (wpn : Option Bool) (s : State),
      s.domOn 761 = true ∧ s.flag MGT_FLCTL_BUSY = false ∧ (s.flashProtected = false ∨ s.wpHigh wpn = true) ∧ s.get MGT_FLCMD_OFFSET % 256 = 0) ∧
    -- program
    (∃ (wpn : Option Bool) (s : State),
      s.domOn 761 = true ∧ s.flag MGT_FLCTL_BUSY = false ∧ (s.flashProtected = false ∨ s.wpHigh wpn = true)) ∧
    -- protected
    (∃ (wpn : Option Bool) (s : State),
      s.domOn 761 = true ∧ s.flag MGT_FLCTL_BUSY = false ∧ s.flashProtected = true ∧ s.wpHigh wpn = false) ∧
    -- eraseUnaligned
    (∃ (s : State),
      s.domOn 761 = true ∧ s.flag MGT_FLCTL_BUSY = false ∧ s.get MGT_FLCMD_OFFSET % 256 ≠ 0) ∧
    -- busy
    (∃ (s : State),
      s.domOn 761 = true ∧ s.flag MGT_FLCTL_BUSY = true) ∧
    -- off
    (∃ (s : State),
      s.domOn 761 = false) ∧
    -- eraseDone
    (∃ (b : Nat) (s : State),
      s.flag MGT_FLCTL_BUSY = true ∧ s.nothingWaits = true ∧ s.flash.op = 1 ∧ b = s.flashBase s.flash.dev + s.flash.off ∧ b + s.flash.len ≤ s.flashBase s.flash.dev + 0x10000000) ∧
    -- programDone
    (∃ (b : Nat) (s : State),
      s.flag MGT_FLCTL_BUSY = true ∧ s.nothingWaits = true ∧ s.flash.op ≠ 1 ∧ b = s.flashBase s.flash.dev + s.flash.off ∧ b + s.flash.len ≤ s.flashBase s.flash.dev + 0x10000000 ∧ s.flash.src + s.flash.len ≤ 0x3F0000000000) ∧
    -- sourceParity
    (∃ (k : Nat) (s : State),
      s.flag MGT_FLCTL_BUSY = true ∧ s.nothingWaits = true ∧ s.flash.op ≠ 1 ∧ s.memOn s.flash.src = true ∧ region s.flash.src = .lsram ∧ lsramCore s.flash.src = some k) ∧
    -- failed
    (∃ (s : State),
      s.flag MGT_FLCTL_BUSY = true ∧ s.nothingWaits = true) ∧
    -- readsGoOn
    (∃ (s : State),
      s.flag MGT_FLCTL_BUSY = true ∧ (s.flag MGT_IMG_CTL_BUSY = false ∨ s.img.applying ≠ none)) ∧
    -- noCommand
    (∃ (s : State),
      s.flag MGT_FLCTL_BUSY = false) :=
  ⟨⟨none, put (live [761]) [(MGT_FLCMD_OFFSET, 0, 0x1100)], by decide +kernel⟩,
   ⟨none, put (live [761]) [(MGT_FLCMD_OFFSET, 0, 0x1101)], by decide +kernel⟩,
   ⟨some false, put (live [761]) [(MGT_FLCMD_OFFSET, 0, 0x1000), (MGT_FLCTL_WPN, 0, 1)], by decide +kernel⟩,
   ⟨put (live [761]) [(MGT_FLCMD_OFFSET, 0, 0x1101)], by decide +kernel⟩,
   ⟨put (live [761]) [(MGT_FLCTL_BUSY, 0, 1)], by decide +kernel⟩,
   ⟨State.reset, by decide +kernel⟩,
   ⟨0x3F0000110000, flashing 1, by decide +kernel⟩,
   ⟨0x3F0000110000, flashing 2, by decide +kernel⟩,
   ⟨0, { put (live [720, 760, 761]) [(MGT_FLCTL_BUSY, 0, 1)] with flash := { FlashSt.zero with op := 2, src := lsramBase 0 } }, by decide +kernel⟩,
   ⟨flashing 1, by decide +kernel⟩,
   ⟨{ flashing 2 with flash := { (flashing 2).flash with bar := [(0x2000000, 8)], macc := some 0x3F0000110000 } }, by decide +kernel⟩,
   ⟨live [761], by decide +kernel⟩⟩

theorem witness_BarAccesses :
    -- bar2Read
    (∃ (off : BitVec 36) (len : BitVec 13) (a : Nat) (s : State),
      s.linkUp = true ∧ off.toNat < 2 ^ (30 + s.pci.barSize) ∧ a = s.get PCI_B2BASE_BASE * 2 ^ 30 + off.toNat ∧ s.ckp.heldWrites = [] ∧ (∀ k, k < len.toNat → region (a + k) = .hbm ∧ s.memOn (a + k) = true ∧ s.stackIdle (a + k) = true)) ∧
    -- bar2ReadOff
    (∃ (off : BitVec 36) (len : BitVec 13) (a : Nat) (s : State),
      s.linkUp = true ∧ off.toNat < 2 ^ (30 + s.pci.barSize) ∧ a = s.get PCI_B2BASE_BASE * 2 ^ 30 + off.toNat ∧ (∀ k, k < len.toNat → region (a + k) = .hbm ∧ s.memOn (a + k) = false)) ∧
    -- bar2Write
    (∃ (off : BitVec 36) (l : List Byte) (a : Nat) (s : State),
      s.linkUp = true ∧ off.toNat < 2 ^ (30 + s.pci.barSize) ∧ a = s.get PCI_B2BASE_BASE * 2 ^ 30 + off.toNat ∧ s.mode ≠ .run ∧ s.ckp.pendRestore = none ∧ s.ckp.heldWrites = [] ∧ l.length ≤ 128 * 2 ^ s.pci.payload ∧ (∀ k, k < l.length → region (a + k) = .hbm ∧ s.memOn (a + k) = true ∧ s.stackIdle (a + k) = true)) ∧
    -- bar2WriteWaits
    (∃ (off : BitVec 36) (l : List Byte) (a : Nat) (s : State),
      s.linkUp = true ∧ off.toNat < 2 ^ (30 + s.pci.barSize) ∧ a = s.get PCI_B2BASE_BASE * 2 ^ 30 + off.toNat ∧ s.mode ≠ .run ∧ s.mode ≠ .ready ∧ 0 < l.length ∧ a % 8 + l.length ≤ 8 ∧ region a = .hbm ∧ s.memOn a = true ∧ s.guarded a = true ∧ (s.ckp.pendRestore ≠ none ∨ s.stackIdle a = false ∨ s.heldAt (a / 0x900000000) = true)) ∧
    -- bar2Guarded
    (∃ (off : BitVec 36) (l : List Byte) (a : Nat) (s : State),
      s.linkUp = true ∧ off.toNat < 2 ^ (30 + s.pci.barSize) ∧ a = s.get PCI_B2BASE_BASE * 2 ^ 30 + off.toNat ∧ s.mode = .run ∧ 0 < l.length ∧ a % 8 + l.length ≤ 8 ∧ region a = .hbm ∧ s.memOn a = true ∧ s.guarded a = true) ∧
    -- bar2Abort
    (∃ (off : BitVec 36) (len : BitVec 13) (a : Nat) (s : State),
      s.linkUp = true ∧ off.toNat < 2 ^ (30 + s.pci.barSize) ∧ a = s.get PCI_B2BASE_BASE * 2 ^ 30 + off.toNat ∧ 0 < len.toNat ∧ (∀ k, k < len.toNat → region (a + k) ≠ .hbm) ∧ s.flag PCI_ERRADDR_VALID = false) ∧
    -- bar2Beyond
    (∃ (off : BitVec 36) (s : State),
      2 ^ (30 + s.pci.barSize) ≤ off.toNat) ∧
    -- bar2ReadLaterLine
    (∃ (off : BitVec 36) (len : BitVec 13) (a : Nat) (b : Nat) (s : State),
      s.linkUp = true ∧ off.toNat < 2 ^ (30 + s.pci.barSize) ∧ a = s.get PCI_B2BASE_BASE * 2 ^ 30 + off.toNat ∧ b = (a / 64 + 1) * 64 ∧ b < a + len.toNat ∧ s.ckp.heldWrites = [] ∧ (∀ k, k < len.toNat → region (a + k) = .hbm ∧ s.memOn (a + k) = true ∧ s.stackIdle (a + k) = true)) ∧
    -- tlpDropped
    (∃ (o2 : BitVec 36) (s : State),
      s.linkUp = true ∧ o2.toNat < 2 ^ (30 + s.pci.barSize)) ∧
    -- bar0Unmapped
    (∃ (off : BitVec 26) (s : State),
      s.linkUp = true ∧ off.toNat % 8 = 0 ∧ 0x1008100 ≤ off.toNat ∧ off.toNat + 8 ≤ 0x2000000) ∧
    -- bar0Aperture
    (∃ (off : BitVec 26) (a : Nat) (s : State),
      s.linkUp = true ∧ off.toNat % 8 = 0 ∧ 0x2000000 ≤ off.toNat ∧ a = s.get PCI_APBASE_BASE * 2 ^ 25 + off.toNat % 0x2000000 ∧ s.memOn a = true ∧ ((region a = .hbm ∧ s.stackIdle a = true ∧ s.ckp.heldWrites = []) ∨ (region a = .flash ∧ s.flag MGT_FLCTL_BUSY = false) ∨ (region a = .lsram ∧ ∀ e ∈ s.cycle.lsram, e.2.2 = false))) ∧
    -- bar0FlashBusy
    (∃ (off : BitVec 26) (a : Nat) (s : State),
      s.linkUp = true ∧ 0x2000000 ≤ off.toNat ∧ a = s.get PCI_APBASE_BASE * 2 ^ 25 + off.toNat % 0x2000000 ∧ s.flashWaits a = true) ∧
    -- bar0LsramParity
    (∃ (off : BitVec 26) (a : Nat) (k : Nat) (s : State),
      s.linkUp = true ∧ off.toNat % 8 = 0 ∧ 0x2000000 ≤ off.toNat ∧ a = s.get PCI_APBASE_BASE * 2 ^ 25 + off.toNat % 0x2000000 ∧ region a = .lsram ∧ s.memOn a = true ∧ lsramCore a = some k) ∧
    -- configurationWrite
    (∃ (s : State),
      s.domOn 762 = true ∧ s.pci.rate ≠ 0) ∧
    -- configurationUnreached
    (∃ (s : State),
      (s.domOn 762 = false ∨ s.pci.rate = 0)) ∧
    -- bar0Register
    (∃ (off : BitVec 26) (d : Nat) (v : Nat) (e : Bool) (f : Bool) (s : State) (u : State) (w : State),
      s.linkUp = true ∧ off.toNat % 8 = 0 ∧ off.toNat < 0x1000000 ∧ s.busWrite .host (0x300000000000 + off.toNat) 8 (d % 2 ^ 64) = (e, u) ∧ s.busRead (0x300000000000 + off.toNat) 8 = (v, f, w)) ∧
    -- msixTable
    (∃ (off : BitVec 26) (k : Nat) (s : State),
      s.linkUp = true ∧ off.toNat = 0x1000000 + 8 * k ∧ k < 0x1000) ∧
    -- linkDown
    (∃ (s : State),
      s.linkUp = false) ∧
    -- registerWrite
    (∃ (addr : BitVec 46),
      (region addr.toNat = .tileReg ∨ region addr.toNat = .hubReg) ∧ addr.toNat % 8 = 0) ∧
    -- registerWritePath
    (∃ (t : Tile) (s : State),
      s.domOn (712 + t.val) = true) ∧
    -- registerWriteHalf
    (∃ (addr : BitVec 46),
      (region addr.toNat = .tileReg ∨ region addr.toNat = .hubReg) ∧ addr.toNat % 8 = 4) ∧
    -- registerWriteWindow
    (∃ (addr : BitVec 46),
      region addr.toNat = .window ∧ addr.toNat % 8 = 0) ∧
    -- registerWriteElsewhere
    (∃ (addr : BitVec 46),
      (region addr.toNat = .hbm ∨ region addr.toNat = .lsram ∨ region addr.toNat = .flash ∨ region addr.toNat = .none)) ∧
    -- misaligned
    (∃ (addr : BitVec 46),
      addr.toNat % 8 ≠ 0) :=
  ⟨⟨8, 8, 8, { barred with dom := [(704, 2), (762, 2)], mem := [(8, 7)] }, by decide +kernel⟩,
   ⟨8, 8, 8, barred, by decide +kernel⟩,
   ⟨8, [1, 2, 3, 4], 8, { barred with dom := [(704, 2), (762, 2)] }, by decide +kernel⟩,
   ⟨8, [1, 2, 3, 4], 8, { put barred [(TME_CFG_DMSIZE, 0, 1)] with dom := [(704, 2), (762, 2)], mode := .hold, ckp := { barred.ckp with pendRestore := some 3 } }, by decide +kernel⟩,
   ⟨8, [1, 2, 3, 4], 8, { put barred [(TME_CFG_DMSIZE, 0, 1)] with dom := [(704, 2), (762, 2)], mode := .run }, by decide +kernel⟩,
   ⟨8, 4, 0x3E0040000008, put barred [(PCI_B2BASE_BASE, 0, 0xF801)], by decide +kernel⟩,
   ⟨0x40000000, barred, by decide +kernel⟩,
   ⟨8, 96, 8, 64, { barred with dom := [(704, 2), (762, 2)], mem := [(8, 7)] }, by decide +kernel⟩,
   ⟨0, { barred with pci := { barred.pci with ecrcChk := true } }, by decide +kernel⟩,
   ⟨0x1008100, barred, by decide +kernel⟩,
   ⟨0x2000008, 8, { barred with dom := [(704, 2), (762, 2)], mem := [(8, 7)] }, by decide +kernel⟩,
   ⟨0x2000008, 0x3F0000000008, put { flashing 1 with dom := [(704, 2), (761, 2), (762, 2)], pci := barred.pci } [(PCI_APBASE_BASE, 0, 0x1F8000)], by decide +kernel⟩,
   ⟨0x2000008, 0x300010000008, 0, put barred [(PCI_APBASE_BASE, 0, 0x180008)], by decide +kernel⟩,
   ⟨barred, by decide +kernel⟩,
   ⟨live [762], by decide +kernel⟩,
   ⟨0, 5, ((barred).busRead 0x300000000000 8).1, ((barred).busWrite .host 0x300000000000 8 5).1, ((barred).busRead 0x300000000000 8).2.1, barred, ((barred).busWrite .host 0x300000000000 8 5).2, ((barred).busRead 0x300000000000 8).2.2, by decide +kernel⟩,
   ⟨0x1000008, 1, barred, by decide +kernel⟩,
   ⟨live [762], by decide +kernel⟩,
   ⟨0x300000000000, by decide +kernel⟩,
   ⟨0, live [712], by decide +kernel⟩,
   ⟨0x300000000004, by decide +kernel⟩,
   ⟨0x100000000008, by decide +kernel⟩,
   ⟨8, by decide +kernel⟩,
   ⟨0x300000000004, by decide +kernel⟩⟩

theorem witness_DictionaryRequests :
    -- reserved
    (∃ (a : Agent) (frame : List Byte) (d : Bool) (q : Req) (s : State) (u : State),
      s.Asks a frame d q ∧ u = s.settled (transport a) q ∧ (q.cmd = 0 ∨ 5 < q.cmd)) ∧
    -- malformed
    (∃ (a : Agent) (frame : List Byte) (d : Bool) (q : Req) (s : State) (u : State),
      s.Asks a frame d q ∧ u = s.settled (transport a) q ∧ 1 ≤ q.cmd ∧ q.cmd ≤ 5 ∧ q.malformed (transport a) = true) ∧
    -- missing
    (∃ (a : Agent) (frame : List Byte) (d : Bool) (q : Req) (s : State) (u : State),
      s.Asks a frame d q ∧ u = s.settled (transport a) q ∧ (q.cmd = 1 ∨ q.cmd = 2 ∨ q.cmd = 4) ∧ q.malformed (transport a) = false ∧ s.lapsedFrame (transport a) q = false ∧ entryAt q.x q.y = none) ∧
    -- lapsed
    (∃ (a : Agent) (frame : List Byte) (d : Bool) (q : Req) (s : State) (u : State),
      s.Asks a frame d q ∧ u = s.settled (transport a) q ∧ (q.cmd = 1 ∨ q.cmd = 2) ∧ q.malformed (transport a) = false ∧ s.lapsedFrame (transport a) q = true) ∧
    -- readFixed
    (∃ (a : Agent) (frame : List Byte) (d : Bool) (q : Req) (e : Entry) (s : State) (u : State),
      s.Asks a frame d q ∧ u = s.settled (transport a) q ∧ q.cmd = 1 ∧ q.malformed (transport a) = false ∧ entryAt q.x q.y = some e ∧ e.acc ≠ 2 ∧ typeSize e.typ ≠ 0 ∧ q.off = 0) ∧
    -- readMode
    (∃ (p : Fin 2) (frame : List Byte) (q : Req) (s : State),
      s.Asks (.can p) frame false q ∧ q.cmd = 1 ∧ q.malformed (32 + p.val) = false ∧ q.x = 0x1200 ∧ q.y = 1 ∧ q.off = 0) ∧
    -- readWriteOnly
    (∃ (a : Agent) (frame : List Byte) (d : Bool) (q : Req) (e : Entry) (s : State) (u : State),
      s.Asks a frame d q ∧ u = s.settled (transport a) q ∧ q.cmd = 1 ∧ q.malformed (transport a) = false ∧ s.lapsedFrame (transport a) q = false ∧ entryAt q.x q.y = some e ∧ e.acc = 2) ∧
    -- writeReadOnly
    (∃ (a : Agent) (frame : List Byte) (d : Bool) (q : Req) (e : Entry) (s : State) (u : State),
      s.Asks a frame d q ∧ u = s.settled (transport a) q ∧ q.cmd = 2 ∧ q.malformed (transport a) = false ∧ s.lapsedFrame (transport a) q = false ∧ entryAt q.x q.y = some e ∧ (e.acc = 0 ∨ e.acc = 3)) ∧
    -- writeOwner
    (∃ (frame : List Byte) (d : Bool) (q : Req) (s : State),
      s.Asks .host frame d q ∧ q.cmd = 2 ∧ q.malformed 0 = false ∧ q.x = 0x1200 ∧ q.y = 5 ∧ q.off = 0 ∧ q.total = 1 ∧ q.len = 1 ∧ q.data = [0x80] ∧ s.owner = 0 ∧ s.writtenElsewhere 0 0x1200 5 = false ∧ s.flag PCI_MBX_BUSY = true) ∧
    -- writePersistent
    (∃ (a : Agent) (frame : List Byte) (d : Bool) (q : Req) (e : Entry) (s : State) (u : State),
      s.Asks a frame d q ∧ u = s.settled (transport a) q ∧ q.cmd = 2 ∧ q.malformed (transport a) = false ∧ entryAt q.x q.y = some e ∧ e.acc = 4 ∧ u.writtenElsewhere (transport a) q.x q.y = false ∧ typeSize e.typ ≠ 0 ∧ q.off = 0 ∧ q.total = typeSize e.typ ∧ q.len = q.total ∧ rwpError q.x q.y (ofLe q.data) = 0 ∧ q.x ≠ 0x7100 ∧ q.x ≠ 0x9000) ∧
    -- writeRefusedValue
    (∃ (a : Agent) (frame : List Byte) (d : Bool) (q : Req) (e : Entry) (s : State) (u : State),
      s.Asks a frame d q ∧ u = s.settled (transport a) q ∧ q.cmd = 2 ∧ q.malformed (transport a) = false ∧ entryAt q.x q.y = some e ∧ e.acc = 4 ∧ u.writtenElsewhere (transport a) q.x q.y = false ∧ typeSize e.typ ≠ 0 ∧ q.off = 0 ∧ q.total = typeSize e.typ ∧ q.len = q.total ∧ rwpError q.x q.y (ofLe q.data) ≠ 0) ∧
    -- writeElsewhere
    (∃ (a : Agent) (frame : List Byte) (d : Bool) (q : Req) (e : Entry) (s : State) (u : State),
      s.Asks a frame d q ∧ u = s.settled (transport a) q ∧ q.cmd = 2 ∧ q.malformed (transport a) = false ∧ s.lapsedFrame (transport a) q = false ∧ entryAt q.x q.y = some e ∧ e.acc ≠ 0 ∧ e.acc ≠ 3 ∧ u.writtenElsewhere (transport a) q.x q.y = true) ∧
    -- describe
    (∃ (a : Agent) (frame : List Byte) (d : Bool) (q : Req) (e : Entry) (s : State) (u : State),
      s.Asks a frame d q ∧ u = s.settled (transport a) q ∧ q.cmd = 4 ∧ q.malformed (transport a) = false ∧ entryAt q.x q.y = some e) ∧
    -- next
    (∃ (a : Agent) (frame : List Byte) (d : Bool) (q : Req) (s : State) (u : State),
      s.Asks a frame d q ∧ u = s.settled (transport a) q ∧ q.cmd = 5 ∧ q.malformed (transport a) = false) ∧
    -- abort
    (∃ (a : Agent) (frame : List Byte) (d : Bool) (q : Req) (s : State) (u : State),
      s.Asks a frame d q ∧ u = s.settled (transport a) q ∧ q.cmd = 3 ∧ q.malformed (transport a) = false) ∧
    -- notWaiting
    (∃ (a : Agent) (s : State),
      (∀ p, a ≠ .can p) ∧ (s.xport (transport a)).waiting = none) ∧
    -- oneAtATime
    (∃ (a : Agent) (s : State),
      (∀ p, a ≠ .can p) ∧ s.persist ≠ none) ∧
    -- canArrives
    (∃ (p : Fin 2) (frame : List Byte) (s : State) (u : State),
      s.canLive p.val = true ∧ s.get MGT_STAT_NODE ≠ 0 ∧ s.get MGT_CAN_REC p.val = 0 ∧ (s.xport (32 + p.val)).waiting = none ∧ u = (s.countEnt (0x1101 + p.val) 5).submit (32 + p.val) (frame.map (·.toNat)) ∧ u.nextServed ≠ some (32 + p.val)) ∧
    -- canDropped
    (∃ (p : Fin 2) (frame : List Byte) (d : Bool) (w : Nat) (l : List Nat) (s : State),
      s.canLive p.val = true ∧ s.get MGT_STAT_NODE ≠ 0 ∧ (s.xport (32 + p.val)).waiting = some (w, l) ∧ (d = true ∨ l ≠ frame.map (·.toNat))) ∧
    -- transferTimeout
    (∃ (a : Agent) (x : Transfer) (s : State),
      (s.xport (transport a)).opened = some x) ∧
    -- transferTimeoutNone
    (∃ (a : Agent) (s : State),
      (s.xport (transport a)).opened = none) ∧
    -- persisted
    (∃ (p : Persist) (s : State),
      s.persist = some p ∧ s.domOn 761 = true ∧ s.flag MGT_FLCTL_BUSY = false ∧ p.bytes.length ≤ 65536) ∧
    -- persistFailed
    (∃ (p : Persist) (ok : Bool) (s : State),
      s.persist = some p ∧ s.flag MGT_FLCTL_BUSY = false ∧ (ok = false ∨ s.domOn 761 = false ∨ 65536 < p.bytes.length)) ∧
    -- persistWaits
    (∃ (s : State),
      s.flag MGT_FLCTL_BUSY = true) ∧
    -- waitsForFlash
    (∃ (a : Agent) (frame : List Byte) (w : Nat × List Nat) (s : State),
      (s.xport (transport a)).waiting = some w ∧ w.2 = frame.map (·.toNat) ∧ s.flashNeeded (reqOf w.2) = true) ∧
    -- persistNone
    (∃ (s : State),
      s.persist = none) :=
  ⟨⟨.host, frame 9 4 0x1200 1 0 0 [], false, spelled (frame 9 4 0x1200 1 0 0 []), asked 0 (frame 9 4 0x1200 1 0 0 []), settledAt 0 (frame 9 4 0x1200 1 0 0 []) (asked 0 (frame 9 4 0x1200 1 0 0 [])), asks_of (by decide +kernel), by decide +kernel⟩,
   ⟨.host, frame 1 4 0x1200 1 0 7 [], false, spelled (frame 1 4 0x1200 1 0 7 []), asked 0 (frame 1 4 0x1200 1 0 7 []), settledAt 0 (frame 1 4 0x1200 1 0 7 []) (asked 0 (frame 1 4 0x1200 1 0 7 [])), asks_of (by decide +kernel), by decide +kernel⟩,
   ⟨.host, frame 1 4 0x1200 99 0 0 [], false, spelled (frame 1 4 0x1200 99 0 0 []), asked 0 (frame 1 4 0x1200 99 0 0 []), settledAt 0 (frame 1 4 0x1200 99 0 0 []) (asked 0 (frame 1 4 0x1200 99 0 0 [])), asks_of (by decide +kernel), by decide +kernel⟩,
   ⟨.host, frame 1 4 0x2101 2 8 0 [], false, spelled (frame 1 4 0x2101 2 8 0 []), lapsing (frame 1 4 0x2101 2 8 0 []) (0x2101, 2), settledAt 0 (frame 1 4 0x2101 2 8 0 []) (lapsing (frame 1 4 0x2101 2 8 0 []) (0x2101, 2)), asks_of (by decide +kernel), by decide +kernel⟩,
   ⟨.host, frame 1 4 0x1000 2 0 0 [], false, spelled (frame 1 4 0x1000 2 0 0 []), ⟨2, 3, 1, 0xB0⟩, asked 0 (frame 1 4 0x1000 2 0 0 []), settledAt 0 (frame 1 4 0x1000 2 0 0 []) (asked 0 (frame 1 4 0x1000 2 0 0 [])), asks_of (by decide +kernel), by decide +kernel⟩,
   ⟨0, frame 1 4 0x1200 1 0 0 [], spelled (frame 1 4 0x1200 1 0 0 []), put (asked 32 (frame 1 4 0x1200 1 0 0 [])) [(MGT_CAN_TEC, 0, 3)], asks_of (by decide +kernel), by decide +kernel⟩,
   ⟨.host, frame 1 4 0x1200 2 0 0 [], false, spelled (frame 1 4 0x1200 2 0 0 []), ⟨2, 2, 1, 0⟩, asked 0 (frame 1 4 0x1200 2 0 0 []), settledAt 0 (frame 1 4 0x1200 2 0 0 []) (asked 0 (frame 1 4 0x1200 2 0 0 [])), asks_of (by decide +kernel), by decide +kernel⟩,
   ⟨.host, frame 2 4 0x1200 1 0 1 [5], false, spelled (frame 2 4 0x1200 1 0 1 [5]), ⟨2, 0, 1, 0⟩, asked 0 (frame 2 4 0x1200 1 0 1 [5]), settledAt 0 (frame 2 4 0x1200 1 0 1 [5]) (asked 0 (frame 2 4 0x1200 1 0 1 [5])), asks_of (by decide +kernel), by decide +kernel⟩,
   ⟨frame 2 4 0x1200 5 0 1 [0x80], false, spelled (frame 2 4 0x1200 5 0 1 [0x80]), asked 0 (frame 2 4 0x1200 5 0 1 [0x80]), asks_of (by decide +kernel), by decide +kernel⟩,
   ⟨.host, frame 2 4 0x1100 4 0 1 [3], false, spelled (frame 2 4 0x1100 4 0 1 [3]), ⟨2, 4, 1, 1⟩, asked 0 (frame 2 4 0x1100 4 0 1 [3]), settledAt 0 (frame 2 4 0x1100 4 0 1 [3]) (asked 0 (frame 2 4 0x1100 4 0 1 [3])), asks_of (by decide +kernel), by decide +kernel⟩,
   ⟨.host, frame 2 4 0x1100 4 0 1 [5], false, spelled (frame 2 4 0x1100 4 0 1 [5]), ⟨2, 4, 1, 1⟩, asked 0 (frame 2 4 0x1100 4 0 1 [5]), settledAt 0 (frame 2 4 0x1100 4 0 1 [5]) (asked 0 (frame 2 4 0x1100 4 0 1 [5])), asks_of (by decide +kernel), by decide +kernel⟩,
   ⟨.host, frame 2 4 0x1100 4 0 1 [3], false, spelled (frame 2 4 0x1100 4 0 1 [3]), ⟨2, 4, 1, 1⟩, (asked 0 (frame 2 4 0x1100 4 0 1 [3])).setXport 1 { XportSt.idle with opened := some ⟨0x1100, 4, true, 100, 48, []⟩ }, settledAt 0 (frame 2 4 0x1100 4 0 1 [3]) ((asked 0 (frame 2 4 0x1100 4 0 1 [3])).setXport 1 { XportSt.idle with opened := some ⟨0x1100, 4, true, 100, 48, []⟩ }), asks_of (by decide +kernel), by decide +kernel⟩,
   ⟨.host, frame 4 4 0x1100 4 0 0 [], false, spelled (frame 4 4 0x1100 4 0 0 []), ⟨2, 4, 1, 1⟩, asked 0 (frame 4 4 0x1100 4 0 0 []), settledAt 0 (frame 4 4 0x1100 4 0 0 []) (asked 0 (frame 4 4 0x1100 4 0 0 [])), asks_of (by decide +kernel), by decide +kernel⟩,
   ⟨.host, frame 5 4 0x1100 4 0 0 [], false, spelled (frame 5 4 0x1100 4 0 0 []), asked 0 (frame 5 4 0x1100 4 0 0 []), settledAt 0 (frame 5 4 0x1100 4 0 0 []) (asked 0 (frame 5 4 0x1100 4 0 0 [])), asks_of (by decide +kernel), by decide +kernel⟩,
   ⟨.host, frame 3 4 0x1100 4 0 0 [], false, spelled (frame 3 4 0x1100 4 0 0 []), (asked 0 (frame 3 4 0x1100 4 0 0 [])).setXport 0 { (asked 0 (frame 3 4 0x1100 4 0 0 [])).xport 0 with opened := some ⟨0x1100, 4, true, 100, 48, []⟩ }, settledAt 0 (frame 3 4 0x1100 4 0 0 []) ((asked 0 (frame 3 4 0x1100 4 0 0 [])).setXport 0 { (asked 0 (frame 3 4 0x1100 4 0 0 [])).xport 0 with opened := some ⟨0x1100, 4, true, 100, 48, []⟩ }), asks_of (by decide +kernel), by decide +kernel⟩,
   ⟨.host, State.reset, by decide +kernel⟩,
   ⟨.host, persisting, by decide +kernel⟩,
   ⟨0, frame 1 4 0x1000 2 0 0 [], (asked 0 (frame 1 5 0x1000 2 0 0 [])), (((asked 0 (frame 1 5 0x1000 2 0 0 []))).countEnt 0x1101 5).submit 32 ((frame 1 4 0x1000 2 0 0 []).map (·.toNat)), by decide +kernel⟩,
   ⟨0, frame 1 4 0x1000 2 0 0 [], false, 0, (frame 1 5 0x1000 2 0 0 []).map (·.toNat), asked 32 (frame 1 5 0x1000 2 0 0 []), by decide +kernel⟩,
   ⟨.host, ⟨0x2101, 2, false, 100, 48, []⟩, State.reset.setXport 0 { XportSt.idle with opened := some ⟨0x2101, 2, false, 100, 48, []⟩ }, by decide +kernel⟩,
   ⟨.host, State.reset, by decide +kernel⟩,
   ⟨⟨0, frameNat, 0, [1, 2, 3]⟩, persisting, by decide +kernel⟩,
   ⟨⟨0, frameNat, 0, [1, 2, 3]⟩, false, persisting, by decide +kernel⟩,
   ⟨put (live [763]) [(MGT_FLCTL_BUSY, 0, 1)], by decide +kernel⟩,
   ⟨.host, frame 1 4 0x2001 0 0 0 [], (0, (frame 1 4 0x2001 0 0 0 []).map (·.toNat)), put (asked 0 (frame 1 4 0x2001 0 0 0 [])) [(MGT_FLCTL_BUSY, 0, 1)], by decide +kernel⟩,
   ⟨State.reset, by decide +kernel⟩⟩

theorem witness_DictionaryPorts :
    -- localPort
    (∃ (n : Core) (len : BitVec 9) (s : State),
      s.domOn 763 = true ∧ s.coreOn n.val = true ∧ s.flag MGT_LMBX_BUSY n.val = false ∧ 1 ≤ len.toNat ∧ len.toNat ≤ 256) ∧
    -- localPortError
    (∃ (n : Core) (len : BitVec 9) (s : State),
      s.domOn 763 = true ∧ s.coreOn n.val = true ∧ (s.flag MGT_LMBX_BUSY n.val = true ∨ len = 0 ∨ 256 < len.toNat)) ∧
    -- localPortOff
    (∃ (n : Core) (s : State),
      (s.domOn 763 = false ∨ s.coreOn n.val = false)) ∧
    -- ldict
    (∃ (n : Core) (len : BitVec 9) (lane : Lane) (s : State),
      s.domOn 763 = true ∧ s.coreOn n.val = true ∧ s.flag MGT_LDICT_BUSY n.val = false ∧ 1 ≤ len.toNat ∧ len.toNat ≤ 64 ∧ s.laneUp lane.val = true ∧ s.ldictBusy lane.val = false) ∧
    -- ldictError
    (∃ (n : Core) (len : BitVec 9) (lane : Lane) (s : State),
      s.domOn 763 = true ∧ s.coreOn n.val = true ∧ (s.flag MGT_LDICT_BUSY n.val = true ∨ len = 0 ∨ 64 < len.toNat ∨ s.laneUp lane.val = false ∨ s.ldictBusy lane.val = true)) ∧
    -- ldictOff
    (∃ (n : Core) (s : State),
      (s.domOn 763 = false ∨ s.coreOn n.val = false)) ∧
    -- ldictTimeout
    (∃ (n : Core) (s : State),
      s.flag MGT_LDICT_BUSY n.val = true) ∧
    -- ldictTimeoutNone
    (∃ (n : Core) (s : State),
      s.flag MGT_LDICT_BUSY n.val = false) ∧
    -- dictRequest
    (∃ (n : Lane) (frame : List Byte) (s : State),
      s.laneUp n.val = true ∧ s.domOn 763 = true ∧ (frame.getD 0 0).toNat < 128 ∧ (s.ent 0x1110 1).testBit (s.get LNK_PINFO_KIND n.val) = true ∧ (s.xport (64 + n.val)).waiting = none) ∧
    -- dictRequestDropped
    (∃ (n : Lane) (frame : List Byte) (s : State),
      s.domOn 763 = true ∧ (frame.getD 0 0).toNat < 128 ∧ (s.laneUp n.val = false ∨ (s.ent 0x1110 1).testBit (s.get LNK_PINFO_KIND n.val) = false ∨ (s.xport (64 + n.val)).waiting ≠ none)) ∧
    -- dictResponse
    (∃ (n : Lane) (frame : List Byte) (i : Nat) (s : State),
      s.laneUp n.val = true ∧ s.domOn 763 = true ∧ 128 ≤ (frame.getD 0 0).toNat ∧ s.ldictOwner n.val (frame.getD 1 0).toNat = some i) ∧
    -- dictResponseDropped
    (∃ (n : Lane) (frame : List Byte) (s : State),
      s.domOn 763 = true ∧ 128 ≤ (frame.getD 0 0).toNat ∧ s.ldictOwner n.val (frame.getD 1 0).toNat = none ∧ s.ldictBusy n.val = false) ∧
    -- dictOff
    (∃ (s : State),
      s.domOn 763 = false) :=
  ⟨⟨0, 20, live [720, 760, 763], by decide +kernel⟩,
   ⟨0, 257, live [720, 760, 763], by decide +kernel⟩,
   ⟨0, live [720, 760], by decide +kernel⟩,
   ⟨0, 20, 0, up (live [640, 720, 760, 763]), by decide +kernel⟩,
   ⟨0, 65, 0, up (live [640, 720, 760, 763]), by decide +kernel⟩,
   ⟨0, live [720, 760], by decide +kernel⟩,
   ⟨0, put (live [763]) [(MGT_LDICT_BUSY, 0, 1)], by decide +kernel⟩,
   ⟨0, live [763], by decide +kernel⟩,
   ⟨0, frame 1 4 0x1000 2 0 0 [], (put (up (live [640, 763])) [(LNK_PINFO_KIND, 0, 1)]).setLane 0 { LaneSt.off with uncRow := 2 }, by decide +kernel⟩,
   ⟨0, frame 1 4 0x1000 2 0 0 [], up (live [640, 763]), by decide +kernel⟩,
   ⟨0, frame 129 4 0x1000 2 0 0 [], 0, { put (up (live [640, 720, 760, 763])) [(MGT_LDICT_BUSY, 0, 1)] with ldicts := [(0, ⟨4, 0, 3⟩)] }, by decide +kernel⟩,
   ⟨0, frame 129 4 0x1000 2 0 0 [], up (live [640, 763]), by decide +kernel⟩,
   ⟨up (live [640]), by decide +kernel⟩⟩

theorem witness_NodeOnCan :
    -- heartbeat
    (∃ (f : List Nat) (s : State),
      s.ent 0x1100 5 ≠ 0 ∧ s.get MGT_STAT_NODE ≠ 0 ∧ s.mode ≠ .dormant ∧ s.canLive 0 = true ∧ s.canLive 1 = true ∧ s.get MGT_CAN_TEC 0 = 0 ∧ s.get MGT_CAN_TEC 1 = 0 ∧ f = [0xE * 128 + s.get MGT_STAT_NODE % 128, s.modeCode, s.get PRF_ACTIVE_ACTIVE, (b2n s.faultLow + 2 * b2n s.alertLow + 4 * b2n (s.owner != 0) + 8 * b2n (s.get CLK_TM_CTL_ROLE == 1)), 0] ++ leBytes 8 Config.serial.toNat ++ leBytes 4 s.claim.beats) ∧
    -- heartbeatNone
    (∃ (s : State),
      (s.ent 0x1100 5 = 0 ∨ s.get MGT_STAT_NODE = 0 ∨ s.mode = .dormant ∨ (s.canLive 0 = false ∧ s.canLive 1 = false))) ∧
    -- claimLost
    (∃ (p : Fin 2) (node : BitVec 7) (s : State),
      s.canLive p.val = true ∧ s.flag MGT_STAT_CLAIMING = true ∧ node.toNat = s.claim.candidate) ∧
    -- claimKept
    (∃ (p : Fin 2) (node : BitVec 7) (s : State),
      s.canLive p.val = true ∧ s.flag MGT_STAT_CLAIMING = true ∧ node.toNat ≠ s.claim.candidate) ∧
    -- claimDefended
    (∃ (p : Fin 2) (node : BitVec 7) (s : State),
      s.canLive p.val = true ∧ s.flag MGT_STAT_CLAIMING = false ∧ node.toNat = s.get MGT_STAT_NODE ∧ node ≠ 0) ∧
    -- claimOff
    (∃ (p : Fin 2) (s : State),
      s.canLive p.val = false) ∧
    -- nodeClaimTimeout
    (∃ (s : State),
      s.flag MGT_STAT_CLAIMING = true) ∧
    -- nodeClaimTimeoutNone
    (∃ (s : State),
      s.flag MGT_STAT_CLAIMING = false) ∧
    -- heartbeatReceived
    (∃ (p : Fin 2) (node : BitVec 7) (s : State),
      s.canLive p.val = true ∧ s.flag MGT_STAT_CLAIMING = false ∧ s.get MGT_STAT_NODE = node.toNat ∧ node ≠ 0) ∧
    -- heartbeatReceivedConflict
    (∃ (p : Fin 2) (node : BitVec 7) (s : State),
      s.canLive p.val = true ∧ s.flag MGT_STAT_CLAIMING = true ∧ node.toNat = s.claim.candidate) ∧
    -- heartbeatReceivedOther
    (∃ (p : Fin 2) (node : BitVec 7) (s : State),
      s.canLive p.val = true ∧ (if s.flag MGT_STAT_CLAIMING = true then node.toNat ≠ s.claim.candidate ∧ s.get MGT_STAT_NODE = 0 else s.get MGT_STAT_NODE ≠ node.toNat)) ∧
    -- heartbeatReceivedOff
    (∃ (p : Fin 2) (s : State),
      s.canLive p.val = false) ∧
    -- receiveCounters
    (∃ (p : Fin 2) (s : State),
      s.canLive p.val = true) ∧
    -- busOff
    (∃ (p : Fin 2) (s : State),
      s.canLive p.val = true) ∧
    -- busOffNone
    (∃ (p : Fin 2) (s : State),
      s.canLive p.val = false) ∧
    -- busOffRecovery
    (∃ (p : Fin 2) (s : State),
      s.domOn 763 = true ∧ s.get MGT_CAN_STATE p.val = 2) ∧
    -- busOffRecoveryNone
    (∃ (p : Fin 2) (s : State),
      (s.domOn 763 = false ∨ s.get MGT_CAN_STATE p.val ≠ 2)) ∧
    -- canSenderError
    (∃ (p : Fin 2) (kind : CanError) (k : Nat) (s : State),
      s.canLive p.val = true ∧ k = s.get MGT_CAN_TEC p.val + (if kind = .noAck ∧ s.get MGT_CAN_STATE p.val = 1 then 0 else 8) ∧ k ≤ 255) ∧
    -- canReceiverError
    (∃ (p : Fin 2) (kind : CanError) (k : Nat) (s : State),
      s.canLive p.val = true ∧ k = min 255 (s.get MGT_CAN_REC p.val + (if kind = .dominant then 8 else 1))) ∧
    -- canErrorBusOff
    (∃ (p : Fin 2) (kind : CanError) (s : State),
      s.canLive p.val = true ∧ 255 < s.get MGT_CAN_TEC p.val + (if kind = .noAck ∧ s.get MGT_CAN_STATE p.val = 1 then 0 else 8)) ∧
    -- claimNotAcknowledged
    (∃ (p : Fin 2) (s : State),
      s.canLive p.val = true ∧ s.flag MGT_STAT_CLAIMING = true ∧ s.get MGT_CAN_TEC p.val ≤ 247 ∧ s.claim.retries < 16) ∧
    -- claimGivenUp
    (∃ (p : Fin 2) (s : State),
      s.canLive p.val = true ∧ s.flag MGT_STAT_CLAIMING = true ∧ 16 ≤ s.claim.retries) ∧
    -- claimBitError
    (∃ (p : Fin 2) (kind : CanError) (s : State),
      s.canLive p.val = true ∧ s.flag MGT_STAT_CLAIMING = true ∧ kind ≠ .noAck ∧ s.get MGT_CAN_TEC p.val ≤ 247) ∧
    -- canErrorOff
    (∃ (p : Fin 2) (s : State),
      s.canLive p.val = false) ∧
    -- ignoredFrame
    (∃ (p : Fin 2) (s : State),
      s.canLive p.val = true) :=
  ⟨⟨[0xE * 128 + 5, 4, 0, 0, 0] ++ leBytes 8 Config.serial.toNat ++ leBytes 4 0, onCan .hold, by decide +kernel, by decide +kernel, by decide +kernel, by decide +kernel, by decide +kernel, by decide +kernel, by decide +kernel, rfl⟩,
   ⟨onCan .dormant, by decide +kernel⟩,
   ⟨0, 7, claiming, by decide +kernel⟩,
   ⟨0, 8, claiming, by decide +kernel⟩,
   ⟨0, 5, onCan .hold, by decide +kernel⟩,
   ⟨0, State.reset, by decide +kernel⟩,
   ⟨claiming, by decide +kernel⟩,
   ⟨onCan .hold, by decide +kernel⟩,
   ⟨0, 5, onCan .hold, by decide +kernel⟩,
   ⟨0, 7, claiming, by decide +kernel⟩,
   ⟨0, 6, onCan .hold, by decide +kernel⟩,
   ⟨0, State.reset, by decide +kernel⟩,
   ⟨0, put (onCan .hold) [(MGT_CAN_REC, 0, 5)], by decide +kernel⟩,
   ⟨0, onCan .hold, by decide +kernel⟩,
   ⟨0, State.reset, by decide +kernel⟩,
   ⟨0, put (onCan .hold) [(MGT_CAN_STATE, 0, 2), (MGT_CAN_TEC, 0, 99)], by decide +kernel⟩,
   ⟨0, onCan .hold, by decide +kernel⟩,
   ⟨0, .noAck, 128, put (onCan .hold) [(MGT_CAN_TEC, 0, 120)], by decide +kernel⟩,
   ⟨0, .dominant, 255, put (onCan .hold) [(MGT_CAN_REC, 0, 250)], by decide +kernel⟩,
   ⟨0, .frame, put (onCan .hold) [(MGT_CAN_TEC, 0, 248)], by decide +kernel⟩,
   ⟨0, { claiming with claim := { claiming.claim with retries := 15 } }, by decide +kernel⟩,
   ⟨0, { claiming with claim := { claiming.claim with retries := 16 } }, by decide +kernel⟩,
   ⟨0, .frame, claiming, by decide +kernel⟩,
   ⟨0, State.reset, by decide +kernel⟩,
   ⟨0, onCan .hold, by decide +kernel⟩⟩

theorem witness_ModeCommands :
    -- start
    (∃ (a : Agent) (seq : Byte) (s : State) (u : State),
      s.takesMode a seq.toNat 1 = true ∧ u = s.answered a seq.toNat 0 ∧ s.mode = .ready ∧ s.startError = none) ∧
    -- startMaster
    (∃ (a : Agent) (seq : Byte) (s : State) (u : State),
      s.takesMode a seq.toNat 1 = true ∧ u = s.answered a seq.toNat 0 ∧ s.mode = .ready ∧ s.startError = none ∧ s.isMaster = true ∧ s.stroke.entryDone = false) ∧
    -- startChecks
    (∃ (a : Agent) (seq : Byte) (r : Nat) (d : Nat) (s : State),
      s.takesMode a seq.toNat 1 = true ∧ s.mode = .ready ∧ s.startError = some (r, d)) ∧
    -- disarm
    (∃ (a : Agent) (seq : Byte) (s : State) (u : State),
      s.takesMode a seq.toNat 2 = true ∧ u = s.answered a seq.toNat 0 ∧ s.mode = .ready) ∧
    -- resume
    (∃ (a : Agent) (seq : Byte) (s : State) (u : State),
      s.takesMode a seq.toNat 3 = true ∧ u = s.answered a seq.toNat 0 ∧ s.mode = .hold ∧ s.isMaster = true ∧ s.flag MGT_MODE_ARMED = false) ∧
    -- stop
    (∃ (a : Agent) (seq : Byte) (s : State) (u : State),
      s.takesMode a seq.toNat 4 = true ∧ u = s.answered a seq.toNat 0 ∧ s.mode = .hold ∧ s.flag MGT_IMG_CTL_BUSY = false) ∧
    -- service
    (∃ (a : Agent) (seq : Byte) (s : State) (u : State),
      s.takesMode a seq.toNat 5 = true ∧ u = s.answered a seq.toNat 0 ∧ (s.mode = .ready ∨ s.mode = .hold)) ∧
    -- endservice
    (∃ (a : Agent) (seq : Byte) (s : State) (u : State),
      s.takesMode a seq.toNat 6 = true ∧ u = s.answered a seq.toNat 0 ∧ s.mode = .service ∧ s.ckp.pendRestore = none ∧ s.get MGT_MODE_PREV ≠ 4) ∧
    -- endserviceToHold
    (∃ (a : Agent) (seq : Byte) (s : State) (u : State),
      s.takesMode a seq.toNat 6 = true ∧ u = s.answered a seq.toNat 0 ∧ s.mode = .service ∧ s.ckp.pendRestore = none ∧ s.get MGT_MODE_PREV = 4 ∧ s.flag TRC_FRZ_ONHOLD = false) ∧
    -- endserviceRestore
    (∃ (a : Agent) (seq : Byte) (r : Nat) (s : State) (u : State) (v : State),
      s.takesMode a seq.toNat 6 = true ∧ u = s.answered a seq.toNat 0 ∧ s.mode = .service ∧ s.ckp.pendRestore = some r ∧ s.flag MGT_MODE_ARMED = false ∧ v = (if s.get MGT_MODE_PREV = 4 then (u.dropScheduled.enter .hold).traceEvent TRC_FRZ_ONHOLD 4 else u.enter .ready)) ∧
    -- sleep
    (∃ (a : Agent) (seq : Byte) (s : State) (u : State),
      s.takesMode a seq.toNat 7 = true ∧ u = s.answered a seq.toNat 0 ∧ s.mode = .ready ∧ s.flag MGT_IMG_CTL_BUSY = false ∧ u.slotsActive = 0) ∧
    -- sleepProfile
    (∃ (a : Agent) (seq : Byte) (p : Fin 4) (s : State) (u : State),
      s.takesMode a seq.toNat (0x18 + p.val) = true ∧ u = s.answered a seq.toNat 0 ∧ s.mode = .ready ∧ s.flag MGT_IMG_CTL_BUSY = false ∧ u.slotsActive = 0) ∧
    -- sleepWakes
    (∃ (a : Agent) (seq : Byte) (p : Fin 4) (s : State) (u : State),
      s.takesMode a seq.toNat (0x18 + p.val) = true ∧ u = s.answered a seq.toNat 0 ∧ s.mode = .ready ∧ s.flag MGT_IMG_CTL_BUSY = false ∧ u.slotsActive ≠ 0) ∧
    -- reboot
    (∃ (a : Agent) (seq : Byte) (s : State) (u : State),
      s.takesMode a seq.toNat 8 = true ∧ u = s.answered a seq.toNat 0) ∧
    -- select
    (∃ (a : Agent) (seq : Byte) (p : Fin 4) (s : State) (u : State),
      s.takesMode a seq.toNat (0x10 + p.val) = true ∧ u = s.answered a seq.toNat 0 ∧ s.mode = .ready ∧ s.flag MGT_IMG_CTL_BUSY = false) ∧
    -- startWrongMode
    (∃ (a : Agent) (seq : Byte) (s : State),
      s.takesMode a seq.toNat 1 = true ∧ s.mode ≠ .ready) ∧
    -- wrongMode
    (∃ (a : Agent) (seq : Byte) (p : Fin 4) (c : Nat) (i : Instr) (s : State),
      (i, c) ∈ modeRows a seq p ∧ s.takesMode a seq.toNat c = true ∧ c ≠ 1 ∧ ((c = 2 ∨ c = 7 ∨ 0x10 ≤ c) ∧ s.mode ≠ .ready ∨ c = 3 ∧ (s.mode ≠ .hold ∨ s.isMaster = false) ∨ c = 4 ∧ s.mode ≠ .hold ∨ c = 5 ∧ s.mode ≠ .ready ∧ s.mode ≠ .hold ∨ c = 6 ∧ s.mode ≠ .service)) ∧
    -- engineBusy
    (∃ (a : Agent) (seq : Byte) (p : Fin 4) (c : Nat) (i : Instr) (s : State),
      (i, c) ∈ modeRows a seq p ∧ s.takesMode a seq.toNat c = true ∧ s.flag MGT_IMG_CTL_BUSY = true ∧ (c = 4 ∧ s.mode = .hold ∨ (c = 7 ∨ 0x10 ≤ c) ∧ s.mode = .ready)) ∧
    -- arrives
    (∃ (a : Agent) (seq : Byte) (p : Fin 4) (c : Nat) (i : Instr) (s : State) (u : State),
      (i, c) ∈ modeRows a seq p ∧ s.holdsRequest a (modeRequest seq.toNat c) = false ∧ u = s.arrive a (modeRequest seq.toNat c)) ∧
    -- hostArrives
    (∃ (seq : Byte) (c : Nat) (s : State) (u : State),
      s.domOn 763 = true ∧ s.domOn 762 = true ∧ s.mode ≠ .dormant ∧ s.flag PCI_MBX_BUSY = false ∧ c < 256 ∧ u = s.arrive .host (modeRequest seq.toNat c)) ∧
    -- waits
    (∃ (a : Agent) (seq : Byte) (p : Fin 4) (c : Nat) (i : Instr) (s : State),
      (i, c) ∈ modeRows a seq p ∧ s.holdsRequest a (modeRequest seq.toNat c) = true ∧ (s.nextServed ≠ some (transport a) ∨ s.flashAwaited a = true)) ∧
    -- selectWaits
    (∃ (a : Agent) (seq : Byte) (p : Fin 4) (s : State),
      s.holdsRequest a (modeRequest seq.toNat (0x10 + p.val)) = true) ∧
    -- unserved
    (∃ (a : Agent) (seq : Byte) (p : Fin 4) (c : Nat) (i : Instr) (s : State),
      (i, c) ∈ modeRows a seq p ∧ (s.domOn 763 = false ∨ s.mode = .dormant)) ∧
    -- writtenElsewhere
    (∃ (a : Agent) (seq : Byte) (p : Fin 4) (c : Nat) (i : Instr) (s : State),
      (i, c) ∈ modeRows a seq p ∧ s.serving a (modeRequest seq.toNat c) = true ∧ s.writtenElsewhere (transport a) 0x1200 2 = true) :=
  ⟨⟨.host, 9, fit (asks 0 (modeRequest 9 1)), (fit (asks 0 (modeRequest 9 1))).answered .host 9 0, by decide +kernel, rfl, by decide +kernel, by rw [State.startError, if_neg (by decide +kernel)]; exact runRefusal_fit _ (fit_declS _) (flag_unlisted (by decide +kernel) fun _ => rfl) (by decide +kernel)⟩,
   ⟨.host, 9, fit (put (asks 0 (modeRequest 9 1)) [(CLK_TM_CTL_ROLE, 0, 1), (MGT_MODE_LEAD, 0, 1000)]), (fit (put (asks 0 (modeRequest 9 1)) [(CLK_TM_CTL_ROLE, 0, 1), (MGT_MODE_LEAD, 0, 1000)])).answered .host 9 0, by decide +kernel, rfl, by decide +kernel, by rw [State.startError, if_neg (by decide +kernel)]; exact runRefusal_fit _ (fit_declS _) (flag_unlisted (by decide +kernel) fun _ => rfl) (by decide +kernel), by decide +kernel⟩,
   ⟨.host, 9, 2, 6147, { asks 0 (modeRequest 9 1) with rdy := [] }, by decide +kernel⟩,
   ⟨.host, 9, put (asks 0 (modeRequest 9 2)) [(MGT_MODE_ARMED, 0, 1)], (put (asks 0 (modeRequest 9 2)) [(MGT_MODE_ARMED, 0, 1)]).answered .host 9 0, by decide +kernel⟩,
   ⟨.host, 9, { put (asks 0 (modeRequest 9 3)) [(CLK_TM_CTL_ROLE, 0, 1)] with mode := .hold }, { put (asks 0 (modeRequest 9 3)) [(CLK_TM_CTL_ROLE, 0, 1)] with mode := .hold }.answered .host 9 0, by decide +kernel⟩,
   ⟨.host, 9, { asks 0 (modeRequest 9 4) with mode := .hold }, { asks 0 (modeRequest 9 4) with mode := .hold }.answered .host 9 0, by decide +kernel⟩,
   ⟨.host, 9, { asks 0 (modeRequest 9 5) with mode := .hold }, { asks 0 (modeRequest 9 5) with mode := .hold }.answered .host 9 0, by decide +kernel⟩,
   ⟨.host, 9, { put (asks 0 (modeRequest 9 6)) [(MGT_MODE_PREV, 0, 2)] with mode := .service }, { put (asks 0 (modeRequest 9 6)) [(MGT_MODE_PREV, 0, 2)] with mode := .service }.answered .host 9 0, by decide +kernel⟩,
   ⟨.host, 9, { put (asks 0 (modeRequest 9 6)) [(MGT_MODE_PREV, 0, 4)] with mode := .service }, { put (asks 0 (modeRequest 9 6)) [(MGT_MODE_PREV, 0, 4)] with mode := .service }.answered .host 9 0, by decide +kernel⟩,
   ⟨.host, 9, 3, pendingRestore, pendingRestore.answered .host 9 0, (pendingRestore.answered .host 9 0).enter .hold, by decide +kernel⟩,
   ⟨.host, 9, asks 0 (modeRequest 9 7), (asks 0 (modeRequest 9 7)).answered .host 9 0, by decide +kernel⟩,
   ⟨.host, 9, 3, asks 0 (modeRequest 9 0x1B), (asks 0 (modeRequest 9 0x1B)).answered .host 9 0, by decide +kernel⟩,
   ⟨.host, 9, 2, slotUp, slotUp.answered .host 9 0, by decide +kernel⟩,
   ⟨.host, 9, asks 0 (modeRequest 9 8), (asks 0 (modeRequest 9 8)).answered .host 9 0, by decide +kernel⟩,
   ⟨.host, 9, 3, asks 0 (modeRequest 9 0x13), (asks 0 (modeRequest 9 0x13)).answered .host 9 0, by decide +kernel⟩,
   ⟨.host, 9, { asks 0 (modeRequest 9 1) with mode := .hold }, by decide +kernel⟩,
   ⟨.host, 9, 3, 6, .endserviceCommand .host 9, asks 0 (modeRequest 9 6), by decide +kernel⟩,
   ⟨.host, 9, 3, 0x13, .selectCommand .host 9 3, put (asks 0 (modeRequest 9 0x13)) [(MGT_IMG_CTL_BUSY, 0, 1)], by decide +kernel⟩,
   ⟨.host, 9, 3, 6, .endserviceCommand .host 9, inMode .service, (inMode .service).arrive .host (modeRequest 9 6), by decide +kernel⟩,
   ⟨9, 6, inMode .service, (inMode .service).arrive .host (modeRequest 9 6), by decide +kernel⟩,
   ⟨.host, 9, 3, 6, .endserviceCommand .host 9, { asks 0 (modeRequest 9 6) with persist := some ⟨1, frameNat, 0, [1]⟩ }, by decide +kernel⟩,
   ⟨.host, 9, 3, put (asks 0 (modeRequest 9 0x13)) [(MGT_FLCTL_BUSY, 0, 1)], by decide +kernel⟩,
   ⟨.host, 9, 3, 6, .endserviceCommand .host 9, inMode .dormant, by decide +kernel⟩,
   ⟨.host, 9, 3, 6, .endserviceCommand .host 9, (asks 0 (modeRequest 9 6)).setXport 1 { XportSt.idle with opened := some ⟨0x1200, 2, true, 100, 48, []⟩ }, by decide +kernel⟩⟩

theorem witness_ResetsAndWake :
    -- porRegisters
    (∃ (f : Field) (i : Nat),
      f.key i ≠ PRF_ACTIVE_PINS.key 0 ∧ f.key i ≠ PRF_ACTIVE_ACTIVE.key 0 ∧ f.key i ≠ MGT_FLCTL_WPN.key 0) ∧
    -- warmReset
    (∃ (s : State),
      s.pins.low = 1 ∧ s.mode ≠ .dormant) ∧
    -- warmResetDormant
    (∃ (s : State),
      s.pins.low = 1 ∧ s.mode = .dormant) ∧
    -- resetLowWarm
    (∃ (s : State),
      s.pins.low ≠ 2 ∧ s.mode ≠ .dormant) ∧
    -- resetLowWarmDormant
    (∃ (s : State),
      s.pins.low ≠ 2 ∧ s.mode = .dormant) ∧
    -- wakeFromDormant
    (∃ (w : WakeSource) (s : State),
      s.pins.low = 0 ∧ s.pins.trip = false ∧ s.wakeEnabled w = true ∧ s.mode = .dormant) ∧
    -- wakeElsewhere
    (∃ (w : WakeSource) (s : State),
      s.pins.low = 0 ∧ s.pins.trip = false ∧ s.wakeEnabled w = true ∧ s.mode ≠ .dormant) ∧
    -- wakeDisabled
    (∃ (w : WakeSource) (s : State),
      (s.pins.low ≠ 0 ∨ s.pins.trip = true ∨ s.wakeEnabled w = false)) :=
  ⟨⟨CKP_POL_N, 0, by decide +kernel⟩,
   ⟨{ inMode .hold with mem := [(9, 3)], tb := 5, pins := { PinSt.zero with low := 1 } }, by decide +kernel⟩,
   ⟨{ inMode .dormant with pins := { PinSt.zero with low := 1 } }, by decide +kernel⟩,
   ⟨inMode .hold, by decide +kernel⟩,
   ⟨inMode .dormant, by decide +kernel⟩,
   ⟨.pin, put (inMode .dormant) [(SPT_CTL_PINEN, 0, 1)], by decide +kernel⟩,
   ⟨.pin, put (inMode .hold) [(SPT_CTL_PINEN, 0, 1)], by decide +kernel⟩,
   ⟨.slot 3, inMode .dormant, by decide +kernel⟩⟩

theorem witness_BringUpSteps :
    -- railsGood
    (∃ (s : State),
      s.bootRuns = true ∧ s.boot.step = 0 ∧ (s.pollRun 30).pins.pgood = 0x7FFF) ∧
    -- railsBad
    (∃ (s : State),
      s.bootRuns = true ∧ s.boot.step = 0 ∧ (s.pollRun 30).pins.pgood ≠ 0x7FFF) ∧
    -- firstStepTimeout
    (∃ (s : State),
      s.bootRuns = true ∧ s.boot.step = 0) ∧
    -- rootLocks
    (∃ (s : State),
      s.bootRuns = true ∧ s.boot.step = 1) ∧
    -- lastStep
    (∃ (s : State),
      s.bootRuns = true ∧ s.boot.step = 19 ∧ s.boot.regRecs = []) ∧
    -- everyStep
    (∃ (s : State),
      s.bootRuns = true) ∧
    -- firstCore
    (∃ (s : State),
      s.bootRuns = true ∧ s.boot.step = 5 ∧ s.skips 5 = false ∧ s.get MGT_FLCTL_BOOTOK ≠ 0) ∧
    -- failedImage
    (∃ (s : State),
      s.bootRuns = true ∧ s.boot.step = 18 ∧ s.boot.imgAddr ≠ 0 ∧ s.boot.regRecs = [] ∧ 1 < s.owner) ∧
    -- lostClock
    (∃ (s : State),
      s.clockLost = true) ∧
    -- waitsForFlash
    (∃ (s : State),
      s.flag MGT_FLCTL_BUSY = true ∧ s.boot.step ∈ [3, 4, 6, 17, 18]) ∧
    -- notRunning
    (∃ (s : State),
      s.bootRuns = false) ∧
    -- clear
    (∃ (i : Nat) (s : State),
      s.mode ≠ .dormant ∧ s.mode ≠ .bringUp ∧ s.flag BJ_STAT_NOJRNL = false ∧ s.get BJ_HIST_STEPS < 2 ^ 64 ∧ i < 64) ∧
    -- clearNone
    (∃ (s : State),
      (s.mode = .dormant ∨ (s.mode = .bringUp ∧ s.boot.step ≤ 4) ∨ s.flag BJ_STAT_NOJRNL = true)) :=
  ⟨⟨booting 0 0x7FFF, by decide +kernel⟩,
   ⟨booting 0 0x7FFE, by decide +kernel⟩,
   ⟨booting 0 0x7FFF, by decide +kernel⟩,
   ⟨booting 1 0x7FFF, by decide +kernel⟩,
   ⟨booting 19 0x7FFF, by decide +kernel⟩,
   ⟨booting 10 0x7FFF, by decide +kernel⟩,
   ⟨put (booting 5 0x7FFF) [(MGT_FLCTL_BOOTOK, 0, 1)], by decide +kernel⟩,
   ⟨{ booting 18 0x7FFF with boot := { (booting 18 0x7FFF).boot with imgAddr := 0x100000 }, owner := 5 }, by decide +kernel⟩,
   ⟨{ booting 6 0x7FFF with clockLost := true }, by decide +kernel⟩,
   ⟨put (booting 3 0) [(MGT_FLCTL_BUSY, 0, 1)], by decide +kernel⟩,
   ⟨inMode .hold, by decide +kernel⟩,
   ⟨1, put (inMode .hold) [(BJ_HIST_STEPS, 0, 3)], by decide +kernel⟩,
   ⟨inMode .dormant, by decide +kernel⟩⟩

theorem witness_PowerDomains :
    -- switchOn
    (∃ (a : Agent) (d : BitVec 10) (on : Bool) (s : State),
      s.domOn 760 = true ∧ d.toNat < 766 ∧ s.flag PWR_STAT_BUSY = false ∧ s.powerMode = true ∧ planDomain d.toNat = true ∧ (∀ n, a = .core n → d.toNat ≠ 720 + n.val) ∧ on = true ∧ s.parentOn d.toNat = true ∧ s.pins.failed.any (fun p => p.1 == d.toNat && p.2 == s.tb / 4) = false ∧ (sget s.dom d.toNat 0 = 0 ∨ sget s.dom d.toNat 0 = 4)) ∧
    -- switchOff
    (∃ (a : Agent) (d : BitVec 10) (on : Bool) (s : State),
      s.domOn 760 = true ∧ d.toNat < 766 ∧ s.flag PWR_STAT_BUSY = false ∧ s.powerMode = true ∧ planDomain d.toNat = true ∧ (∀ n, a = .core n → d.toNat ≠ 720 + n.val) ∧ on = false ∧ (∀ x, x < 766 → parent x = some d.toNat → sget s.dom x 0 = 0 ∨ sget s.dom x 0 = 4) ∧ (sget s.dom d.toNat 0 = 2 ∨ sget s.dom d.toNat 0 = 1)) ∧
    -- switchNothing
    (∃ (a : Agent) (d : BitVec 10) (on : Bool) (s : State),
      s.domOn 760 = true ∧ d.toNat < 766 ∧ s.flag PWR_STAT_BUSY = false ∧ s.powerMode = true ∧ planDomain d.toNat = true ∧ (∀ n, a = .core n → d.toNat ≠ 720 + n.val) ∧ (if on = true then s.parentOn d.toNat = true ∧ s.pins.failed.any (fun p => p.1 == d.toNat && p.2 == s.tb / 4) = false ∧ sget s.dom d.toNat 0 ∈ [1, 2, 3, 5] else (∀ x, x < 766 → parent x = some d.toNat → sget s.dom x 0 = 0 ∨ sget s.dom x 0 = 4) ∧ sget s.dom d.toNat 0 ∈ [0, 3, 4, 5])) ∧
    -- switchReserved
    (∃ (d : BitVec 10) (s : State),
      s.domOn 760 = true ∧ 766 ≤ d.toNat ∧ s.flag PWR_STAT_BUSY = true) ∧
    -- switchBusy
    (∃ (d : BitVec 10) (s : State),
      s.domOn 760 = true ∧ d.toNat < 766 ∧ s.flag PWR_STAT_BUSY = true) ∧
    -- switchMode
    (∃ (d : BitVec 10) (s : State),
      s.domOn 760 = true ∧ d.toNat < 766 ∧ s.flag PWR_STAT_BUSY = false ∧ s.powerMode = false) ∧
    -- switchFixed
    (∃ (a : Agent) (d : BitVec 10) (s : State),
      s.domOn 760 = true ∧ d.toNat < 766 ∧ s.flag PWR_STAT_BUSY = false ∧ s.powerMode = true ∧ (planDomain d.toNat = false ∨ ∃ n, a = .core n ∧ d.toNat = 720 + n.val)) ∧
    -- switchParent
    (∃ (a : Agent) (d : BitVec 10) (on : Bool) (s : State),
      s.domOn 760 = true ∧ d.toNat < 766 ∧ s.flag PWR_STAT_BUSY = false ∧ s.powerMode = true ∧ planDomain d.toNat = true ∧ (∀ n, a = .core n → d.toNat ≠ 720 + n.val) ∧ on = true ∧ s.parentOn d.toNat = false) ∧
    -- switchChild
    (∃ (a : Agent) (d : BitVec 10) (on : Bool) (x : Nat) (s : State),
      s.domOn 760 = true ∧ d.toNat < 766 ∧ s.flag PWR_STAT_BUSY = false ∧ s.powerMode = true ∧ planDomain d.toNat = true ∧ (∀ n, a = .core n → d.toNat ≠ 720 + n.val) ∧ on = false ∧ x < 766 ∧ parent x = some d.toNat ∧ sget s.dom x 0 ≠ 0 ∧ sget s.dom x 0 ≠ 4) ∧
    -- switchAfterFault
    (∃ (a : Agent) (d : BitVec 10) (s : State),
      s.domOn 760 = true ∧ d.toNat < 766 ∧ s.flag PWR_STAT_BUSY = false ∧ s.powerMode = true ∧ planDomain d.toNat = true ∧ (∀ n, a = .core n → d.toNat ≠ 720 + n.val) ∧ s.parentOn d.toNat = true ∧ (d.toNat, s.tb / 4) ∈ s.pins.failed) ∧
    -- switchHubOff
    (∃ (s : State),
      s.domOn 760 = false) ∧
    -- domainOn
    (∃ (d : Fin 766) (s : State),
      s.awake = true ∧ sget s.dom d.val 0 = 1 ∧ s.parentOn d.val = true ∧ (d.val < 740 ∨ 760 ≤ d.val)) ∧
    -- domainOnNone
    (∃ (d : Fin 766) (s : State),
      (s.awake = false ∨ sget s.dom d.val 0 ≠ 1 ∨ s.parentOn d.val = false)) ∧
    -- domainOff
    (∃ (d : Fin 766) (s : State),
      s.awake = true ∧ sget s.dom d.val 0 = 3) ∧
    -- domainOffUnused
    (∃ (d : Fin 766) (s : State),
      s.awake = true ∧ sget s.dom d.val 0 = 5) ∧
    -- domainOffNone
    (∃ (d : Fin 766) (s : State),
      (s.awake = false ∨ (sget s.dom d.val 0 ≠ 3 ∧ sget s.dom d.val 0 ≠ 5))) ∧
    -- domainFault
    (∃ (d : Fin 766) (s : State),
      s.awake = true ∧ sget s.dom d.val 0 ≠ 0 ∧ sget s.dom d.val 0 ≠ 4) ∧
    -- domainFaultSwitch
    (∃ (d : Fin 766) (s : State),
      s.awake = true ∧ sget s.dom d.val 0 = 1 ∧ s.pins.switching = some d.val) ∧
    -- domainFaultNone
    (∃ (d : Fin 766) (s : State),
      (s.awake = false ∨ sget s.dom d.val 0 = 0 ∨ sget s.dom d.val 0 = 4)) :=
  ⟨⟨.host, 712, true, planning [760], by decide +kernel⟩,
   ⟨.host, 712, false, planning [712, 760], by decide +kernel⟩,
   ⟨.host, 712, true, planning [712, 760], by decide +kernel⟩,
   ⟨766, put (planning [760]) [(PWR_STAT_BUSY, 0, 1)], by decide +kernel⟩,
   ⟨712, put (planning [760]) [(PWR_STAT_BUSY, 0, 1)], by decide +kernel⟩,
   ⟨712, { planning [760] with mode := .run }, by decide +kernel⟩,
   ⟨.host, 760, planning [760], by decide +kernel⟩,
   ⟨.host, 704, true, planning [760], by decide +kernel⟩,
   ⟨.host, 712, false, 704, planning [704, 712, 760], by decide +kernel⟩,
   ⟨.host, 640, { planning [712, 760] with pins := { PinSt.zero with failed := [(640, 0)] } }, by decide +kernel⟩,
   ⟨planning [], by decide +kernel⟩,
   ⟨5, { planning [712, 760, 764] with dom := [(5, 1), (712, 2), (760, 2), (764, 2)], pins := { PinSt.zero with switching := some 5 } }, by decide +kernel⟩,
   ⟨5, planning [712, 760], by decide +kernel⟩,
   ⟨5, { planning [712, 760, 764] with dom := [(5, 3), (712, 2), (760, 2), (764, 2)], pins := { PinSt.zero with switching := some 5 } }, by decide +kernel⟩,
   ⟨5, { planning [712, 760, 764] with dom := [(5, 5), (712, 2), (760, 2), (764, 2)] }, by decide +kernel⟩,
   ⟨5, planning [712, 760], by decide +kernel⟩,
   ⟨712, planning [0, 640, 712, 760, 763, 764], by decide +kernel⟩,
   ⟨5, { planning [712, 760, 763, 764] with dom := [(5, 1), (712, 2), (760, 2), (763, 2), (764, 2)], pins := { PinSt.zero with switching := some 5 } }, by decide +kernel⟩,
   ⟨5, planning [712, 760], by decide +kernel⟩⟩

theorem witness_ClocksAndSensors :
    -- refclkLoss
    (∃ (s : State),
      s.mode ≠ .dormant ∧ s.pins.low ≠ 2) ∧
    -- refclkLossDormant
    (∃ (s : State),
      s.mode = .dormant ∧ s.pins.low ≠ 2) ∧
    -- refclkLossPor
    (∃ (s : State),
      s.pins.low = 2) ∧
    -- lossOfLock
    (∃ (s : State),
      s.flag CLK_GEN_STAT_LOCK = true ∧ s.mode ≠ .dormant ∧ s.pins.low ≠ 2) ∧
    -- lossOfLockDormant
    (∃ (s : State),
      s.flag CLK_GEN_STAT_LOCK = true ∧ (s.mode = .dormant ∨ s.pins.low = 2)) ∧
    -- lossOfLockNone
    (∃ (s : State),
      s.flag CLK_GEN_STAT_LOCK = false) ∧
    -- sensorSample
    (∃ (temps : List (BitVec 32)) (volts : List (BitVec 32)) (d : Nat) (i : Nat) (s : State),
      s.domOn 760 = true ∧ temps.length = 42 ∧ volts.length = 15 ∧ d < 9 ∧ 4 * d ≤ i ∧ i < 4 * d + (if d = 8 then 2 else 4)) ∧
    -- sensorSampleOff
    (∃ (s : State),
      s.domOn 760 = false) ∧
    -- thermalTrip
    (∃ (celsius : BitVec 16) (s : State),
      s.pins.trip = false ∧ s.pins.low ≠ 2 ∧ 115 ≤ celsius.toInt) ∧
    -- thermalTripPor
    (∃ (celsius : BitVec 16) (s : State),
      s.pins.trip = false ∧ s.pins.low = 2 ∧ 115 ≤ celsius.toInt) ∧
    -- thermalTripAgain
    (∃ (celsius : BitVec 16) (s : State),
      (s.pins.trip = true ∨ celsius.toInt < 115)) ∧
    -- pmbusPoll
    (∃ (s : State),
      s.mode ≠ .dormant ∧ s.pins.low = 0 ∧ s.pins.trip = false ∧ s.pins.poll = none) ∧
    -- pmbusPollNone
    (∃ (s : State),
      (s.mode = .dormant ∨ s.pins.low ≠ 0 ∨ s.pins.trip = true ∨ s.pins.poll ≠ none)) ∧
    -- pollRuns
    (∃ (status : List (Option (BitVec 16))) (amps : List (BitVec 32)) (r : Nat) (s : State),
      s.pins.poll = some ⟨0, status, amps⟩ ∧ s.flag PWR_PMBCMD_BUSY = false ∧ r < 15) ∧
    -- pollWaits
    (∃ (s : State),
      s.flag PWR_PMBCMD_BUSY = true) ∧
    -- pmbusRead
    (∃ (s : State),
      s.domOn 760 = true ∧ s.flag PWR_PMBCMD_BUSY = false) ∧
    -- pmbusWrite
    (∃ (len : BitVec 2) (s : State),
      s.domOn 760 = true ∧ s.flag PWR_PMBCMD_BUSY = false ∧ len ≠ 3) ∧
    -- pmbusBusy
    (∃ (s : State),
      s.domOn 760 = true ∧ s.flag PWR_PMBCMD_BUSY = true) ∧
    -- pmbusDone
    (∃ (s : State),
      s.domOn 760 = true ∧ s.flag PWR_PMBCMD_BUSY = true ∧ s.pins.cmdWrite = false) ∧
    -- pmbusDoneNone
    (∃ (s : State),
      (s.domOn 760 = false ∨ s.flag PWR_PMBCMD_BUSY = false)) ∧
    -- faultAck
    (∃ (seq : BitVec 32) (s : State),
      s.domOn 763 = true ∧ s.fltAny = true ∧ s.fltNext < 2 ^ 32 ∧ (∀ r ∈ s.fltRecs, r.tb ≠ s.tb) ∧ s.get MGT_FLT_ACK_SEQ < 2 ^ 32 ∧ (seq.toNat + 2 ^ 32 - s.get MGT_FLT_ACK_SEQ) % 2 ^ 32 ≤ (s.fltNext + 2 ^ 32 - 1 + 2 ^ 32 - s.get MGT_FLT_ACK_SEQ) % 2 ^ 32) ∧
    -- faultAckThisCycle
    (∃ (seq : BitVec 32) (s : State),
      s.domOn 763 = true ∧ s.fltNext < 2 ^ 32 ∧ s.get MGT_FLT_ACK_SEQ < 2 ^ 32 ∧ (∃ r ∈ s.fltRecs, s.unacked r = true ∧ r.tb = s.tb) ∧ s.fltRecs.countP s.unacked ≤ (s.fltNext + 2 ^ 32 - 1 + 2 ^ 32 - s.get MGT_FLT_ACK_SEQ) % 2 ^ 32 ∧ seq.toNat = (s.fltNext + 2 ^ 32 - 1) % 2 ^ 32) ∧
    -- faultAckNone
    (∃ (s : State),
      (s.domOn 763 = false ∨ s.fltAny = false)) ∧
    -- moduleFault
    (∃ (s : State),
      s.domOn 763 = true ∧ s.mode ≠ .run ∧ s.fltRecs.length < 1024) ∧
    -- moduleFaultOff
    (∃ (s : State),
      s.domOn 763 = false) :=
  ⟨⟨inMode .hold, by decide +kernel⟩,
   ⟨inMode .dormant, by decide +kernel⟩,
   ⟨{ live [760] with pins := { PinSt.zero with low := 2 } }, by decide +kernel⟩,
   ⟨put { inMode .run with flits := [landing 3 false] } [(CLK_GEN_STAT_LOCK, 0, 1)], by decide +kernel⟩,
   ⟨put (inMode .dormant) [(CLK_GEN_STAT_LOCK, 0, 1)], by decide +kernel⟩,
   ⟨inMode .dormant, by decide +kernel⟩,
   ⟨List.replicate 42 0x42C80000, List.replicate 15 0x3F800000, 8, 33, live [760, 764], by decide +kernel⟩,
   ⟨live [], by decide +kernel⟩,
   ⟨130, inMode .hold, by decide +kernel⟩,
   ⟨115, { live [760] with pins := { PinSt.zero with low := 2 } }, by decide +kernel⟩,
   ⟨130, { inMode .hold with pins := { PinSt.zero with trip := true } }, by decide +kernel⟩,
   ⟨inMode .ready, by decide +kernel⟩,
   ⟨inMode .dormant, by decide +kernel⟩,
   ⟨[some 0, none, some 0x800], [5, 6, 7], 2, { inMode .ready with pins := { PinSt.zero with poll := some ⟨0, [some 0, none, some 0x800], [5, 6, 7]⟩ } }, by decide +kernel⟩,
   ⟨put State.reset [(PWR_PMBCMD_BUSY, 0, 1)], by decide +kernel⟩,
   ⟨live [760], by decide +kernel⟩,
   ⟨2, live [760], by decide +kernel⟩,
   ⟨put (live [760]) [(PWR_PMBCMD_BUSY, 0, 1)], by decide +kernel⟩,
   ⟨put (live [760]) [(PWR_PMBCMD_BUSY, 0, 1), (PWR_PMBCMD_LEN, 0, 1)], by decide +kernel⟩,
   ⟨live [760], by decide +kernel⟩,
   ⟨0, { put { live [763, 764] with fltRecs := [⟨0, 1, 0, 0, 0, 0, 0, 0, 0, 0, 0, 0⟩], fltNext := 1, fltAny := true } [(MGT_FLT_ACK_SEQ, 0, 0)] with tb := 9 }, by decide +kernel⟩,
   ⟨1, faulted, by decide +kernel⟩,
   ⟨live [763], by decide +kernel⟩,
   ⟨inMode .hold, by decide +kernel⟩,
   ⟨State.reset, by decide +kernel⟩⟩

end Sys2Proof.Machine.Tests
end

section
/-! SUPPORT. What a command leaves alone: the rules of `Keeps` (a wider list, one write after another, a choice, a repetition), one rule for each
update of the state, and what a sample of an event source writes. -/

namespace Sys2Proof.Machine

-- One theorem at a time, as in the tests: many at once take more threads than a bounded check has memory for.
set_option Elab.async false

/-- What one command may write or another. -/
def Writes.join (v w : Writes) : Writes where
  regs := v.regs.filter (fun b => !w.regs.contains b) ++ w.regs
  mode := v.mode || w.mode
  tb := v.tb || w.tb
  clockStopped := v.clockStopped || w.clockStopped
  mem := v.mem || w.mem
  cells := v.cells || w.cells
  tiles := v.tiles || w.tiles
  lanes := v.lanes || w.lanes
  liveRemap := v.liveRemap || w.liveRemap
  liveLanes := v.liveLanes || w.liveLanes
  fresh := v.fresh || w.fresh
  warned := v.warned || w.warned
  dom := v.dom || w.dom
  rdy := v.rdy || w.rdy
  stroke := v.stroke || w.stroke
  beacon := v.beacon || w.beacon
  ckp := v.ckp || w.ckp
  img := v.img || w.img
  sends := v.sends || w.sends
  flits := v.flits || w.flits
  uflits := v.uflits || w.uflits
  trigs := v.trigs || w.trigs
  landings := v.landings || w.landings
  hostVals := v.hostVals || w.hostVals
  chans := v.chans || w.chans
  msixTab := v.msixTab || w.msixTab
  msixPba := v.msixPba || w.msixPba
  faults := v.faults || w.faults
  ents := v.ents || w.ents
  owner := v.owner || w.owner
  refusals := v.refusals || w.refusals
  backup := v.backup || w.backup
  boot := v.boot || w.boot
  xports := v.xports || w.xports
  persist := v.persist || w.persist
  claim := v.claim || w.claim
  ldicts := v.ldicts || w.ldicts
  flash := v.flash || w.flash
  pci := v.pci || w.pci
  tap := v.tap || w.tap
  trace := v.trace || w.trace
  pins := v.pins || w.pins
  cores := v.cores || w.cores
  out := v.out || w.out
  free := v.free || w.free

theorem Writes.mem_join (v w : Writes) (b : Bank) : b ∈ (v.join w).regs ↔ b ∈ v.regs ∨ b ∈ w.regs := by
  by_cases h : b ∈ w.regs <;> simp [Writes.join, h]

/-- A command that writes less writes no more. -/
theorem Keeps.join_left {v : Writes} {s t : State} (h : Keeps v s t) (w : Writes) : Keeps (v.join w) s t := by
  have off {b : Bank} (hb : b ∉ (v.join w).regs) : b ∉ v.regs := fun hv => hb ((v.mem_join w b).mpr (.inl hv))
  constructor
  case pending => exact h.pending
  case regs => exact fun f i hf => h.regs f i (off hf)
  case events => exact fun he => h.events (off he)
  case regsOk => exact h.regsOk
  case memOk => exact h.memOk
  all_goals
    cases h
    simp only [Writes.join, Bool.or_eq_false_iff, and_imp]
    intros
    simp only [*, and_self]

/-- A list of writes may be widened; for lists that are written out, `rfl` sees that one contains the other. -/
theorem Keeps.mono {v w : Writes} {s t : State} (h : Keeps v s t) (hv : v.join w = w := by rfl) : Keeps w s t := hv ▸ h.join_left w

theorem Keeps.refl (w : Writes) (s : State) : Keeps w s s := by constructor <;> simp only [implies_true, and_self, imp_self]

theorem Keeps.trans {w : Writes} {s t u : State} (h : Keeps w s t) (k : Keeps w t u) : Keeps w s u := by
  cases h; cases k
  constructor <;> intros <;> simp only [*, not_false_eq_true, and_self]

/-- The step of every proof of this layer: after writes within `w`, an operation whose own writes lie within `w`. -/
theorem Keeps.andThen {v w : Writes} {s t u : State} (h : Keeps w s t) (k : Keeps v t u) (hv : v.join w = w := by rfl) : Keeps w s u :=
  h.trans (k.mono hv)

theorem Keeps.foldl {α : Type} {w : Writes} {f : State → α → State} (hf : ∀ s x, Keeps w s (f s x)) (l : List α) (s : State) :
    Keeps w s (l.foldl f s) := by
  induction l generalizing s with
  | nil => exact .refl _ s
  | cons x t ih => exact (hf s x).trans (ih _)

/-- A repetition that carries another value beside the state. -/
theorem Keeps.foldl_fst {α β : Type} {w : Writes} {f : State × β → α → State × β} (hf : ∀ p x, Keeps w p.1 (f p x).1) (l : List α)
    (p : State × β) : Keeps w p.1 (l.foldl f p).1 := by
  induction l generalizing p with
  | nil => exact .refl _ _
  | cons x t ih => exact (hf p x).trans (ih _)

theorem Keeps.ite {w : Writes} {s t u : State} {c : Prop} [Decidable c] (h : Keeps w s t) (k : Keeps w s u) :
    Keeps w s (if c then t else u) := by
  split
  · exact h
  · exact k

/-! ### One rule for each update of the state -/

theorem State.set_keeps (s : State) (f : Field) (i v : Nat) : Keeps { regs := [f.bank] } s (s.set f i v) :=
  { Keeps.refl _ s with
    regs := fun g j hg => s.get_set_bank f g i j v (by simpa using hg)
    regsOk := rising_sput _ _ _ _ }

theorem State.raise_keeps (s : State) (f : Field) (i : Nat) : Keeps { regs := [f.bank] } s (s.raise f i) := { s.set_keeps f i 1 with }

theorem State.lower_keeps (s : State) (f : Field) (i : Nat) : Keeps { regs := [f.bank] } s (s.lower f i) := s.set_keeps ..

theorem State.bump_keeps (s : State) (f : Field) (i k : Nat) : Keeps { regs := [f.bank] } s (s.bump f i k) := { s.set_keeps f i _ with }

theorem State.setBits_keeps (s : State) (f : Field) (i v : Nat) : Keeps { regs := [f.bank] } s (s.setBits f i v) :=
  { s.set_keeps f i _ with }

theorem State.setTile_keeps (s : State) (n : Nat) (x : TileSt) : Keeps { tiles := true } s (s.setTile n x) :=
  { Keeps.refl _ s with tiles := nofun }

theorem State.setLane_keeps (s : State) (n : Nat) (x : LaneSt) : Keeps { lanes := true } s (s.setLane n x) :=
  { Keeps.refl _ s with lanes := nofun }

theorem State.setXport_keeps (s : State) (n : Nat) (x : XportSt) : Keeps { xports := true } s (s.setXport n x) :=
  { Keeps.refl _ s with xports := nofun }

theorem State.setEnt_keeps (s : State) (x y v : Nat) : Keeps { ents := true } s (s.setEnt x y v) :=
  { Keeps.refl _ s with ents := nofun }

theorem State.emit_keeps (s : State) (m : OutMsg) : Keeps { out := true } s (s.emit m) :=
  { Keeps.refl _ s with out := nofun }

theorem State.fresh_keeps (s : State) : Keeps { free := true } s s.fresh.2 :=
  { Keeps.refl _ s with free := nofun }

theorem State.withCkp_keeps (s : State) (x : CkpSt) : Keeps { ckp := true } s { s with ckp := x } :=
  { Keeps.refl _ s with ckp := nofun }

theorem State.withImg_keeps (s : State) (x : ImgSt) : Keeps { img := true } s { s with img := x } :=
  { Keeps.refl _ s with img := nofun }

theorem State.withTrace_keeps (s : State) (x : TraceSt) : Keeps { trace := true } s { s with trace := x } :=
  { Keeps.refl _ s with trace := nofun }

theorem State.withPins_keeps (s : State) (x : PinSt) : Keeps { pins := true } s { s with pins := x } :=
  { Keeps.refl _ s with pins := nofun }

theorem State.withRdy_keeps (s : State) (x : List (Nat × Bool)) : Keeps { rdy := true } s { s with rdy := x } :=
  { Keeps.refl _ s with rdy := nofun }

theorem State.withFresh_keeps (s : State) (x : List (Nat × Bool)) : Keeps { fresh := true } s { s with lecFresh := x } :=
  { Keeps.refl _ s with fresh := nofun }

/-- What the cycle has noted is not compared. -/
theorem State.withCycle_keeps (w : Writes) (s : State) (x : CycleSt) : Keeps w s { s with cycle := x } := { Keeps.refl _ s with }

/-! ### Fields of a state that a command leaves alone -/

theorem Keeps.flag {w : Writes} {s t : State} (h : Keeps w s t) (f : Field) (i : Nat) (hf : f.bank ∉ w.regs) : t.flag f i = s.flag f i :=
  congrArg (· == 1) (h.regs f i hf)

theorem Keeps.xport {w : Writes} {s t : State} (h : Keeps w s t) (hw : w.xports = false) (k : Nat) : t.xport k = s.xport k :=
  congrArg (sget · k XportSt.idle) (h.xports hw)

theorem State.flag_raise_self (s : State) (f : Field) (i : Nat) (h : 0 < f.width) : (s.raise f i).flag f i = true := by
  simp [State.flag, State.get_raise_self s f i h]

theorem State.flag_set_ne (s : State) (f g : Field) (i j v : Nat) (h : g.key j ≠ f.key i) : (s.set f i v).flag g j = s.flag g j :=
  congrArg (· == 1) (s.get_set_ne f g i j v h)

theorem State.flag_raise_ne (s : State) (f g : Field) (i j : Nat) (h : g.key j ≠ f.key i) : (s.raise f i).flag g j = s.flag g j :=
  s.flag_set_ne f g i j 1 h

/-! ### Samples of event sources -/

/-- The writes of a sample of an event source (12 R332, R333). -/
def levelWrites : Writes := { regs := [.lec], fresh := true }

theorem State.gecSync_keeps (s : State) (i : Nat) : Keeps { regs := [.lec] } s (s.gecSync i) := by
  unfold State.gecSync
  exact .ite (.refl _ s) { Keeps.refl _ s with events := fun h => absurd (List.mem_singleton.mpr rfl) h }

theorem State.lecEvent_keeps (s : State) (g k : Nat) : Keeps levelWrites s (s.lecEvent g k) :=
  Keeps.refl _ s |>.andThen (s.raise_keeps ..) |>.andThen (State.bump_keeps ..) |>.andThen (State.gecSync_keeps ..)

theorem State.lecSample_keeps (s : State) (g : Nat) (lv : Bool) : Keeps levelWrites s (s.lecSample g lv) := by
  unfold State.lecSample
  refine .ite (.refl _ s) ?_
  extract_lets prev fresh raw t sense q old pended counted
  have ht : Keeps levelWrites s t := Keeps.refl _ s |>.andThen (s.set_keeps ..) |>.andThen (raw.withFresh_keeps _)
  have hp : Keeps levelWrites s pended := ht.andThen (t.set_keeps ..)
  have hc : Keeps levelWrites s counted := .ite (hp.andThen (pended.bump_keeps ..)) hp
  exact .ite (hc.andThen (counted.gecSync_keeps _)) (.ite (ht.trans (t.lecEvent_keeps ..)) ht)

theorem State.hubLevels_keeps (s : State) : Keeps levelWrites s s.hubLevels :=
  .foldl (fun s _ => s.lecSample_keeps ..) _ s

end Sys2Proof.Machine
end

section
/-! SUPPORT. What the shared operations write beyond their caller: messages on the lanes, holds, the trace, faults, readiness, and the errors that a
read of memory meets. -/

namespace Sys2Proof.Machine

set_option Elab.async false

/-! ### Messages on the lanes -/

theorem State.pushCtl_keeps (s : State) (n : Nat) (m : Ctl) : Keeps { lanes := true } s (s.pushCtl n m) := s.setLane_keeps ..

theorem State.pushAll_keeps (s : State) (l : List Nat) (m : Ctl) : Keeps { lanes := true } s (s.pushAll l m) :=
  .foldl (fun s _ => s.pushCtl_keeps ..) l s

theorem State.sendPstat_keeps (s : State) : Keeps { lanes := true } s s.sendPstat := s.pushAll_keeps ..

theorem State.nextSeq_keeps (s : State) : Keeps { ckp := true } s s.nextSeq.2 := s.withCkp_keeps _

/-- The writes of an announcement or a hold request that the module sends (08 R237, R238). -/
def announceWrites : Writes := { lanes := true, ckp := true }

theorem State.announce_keeps (s : State) (kind value : Nat) : Keeps announceWrites s (s.announce kind value) :=
  Keeps.refl _ s |>.andThen s.nextSeq_keeps |>.andThen (State.pushAll_keeps ..)

/-! ### Holds and the trace -/

theorem State.takeHoldReq_keeps (s : State) (k : Nat) : Keeps { ckp := true } s (s.takeHoldReq k) := by
  unfold State.takeHoldReq State.holdTarget
  split
  · exact s.withCkp_keeps _
  · split
    · exact .ite (.refl _ s) (s.withCkp_keeps _)
    · exact .ite (.refl _ s) (s.withCkp_keeps _)
  · exact .refl _ s

theorem State.requestHold_keeps (s : State) (k : Nat) : Keeps announceWrites s (s.requestHold k) :=
  Keeps.refl _ s |>.andThen s.nextSeq_keeps |>.andThen (State.pushAll_keeps ..) |>.andThen (State.takeHoldReq_keeps ..)

/-- The writes of a planned hold (17 R473). -/
def holdWrites : Writes := { regs := [.ckp], lanes := true, ckp := true, pins := true }

theorem State.plannedHold_keeps (s : State) : Keeps holdWrites s s.plannedHold := by
  unfold State.plannedHold
  exact .ite (.refl _ s) (Keeps.refl _ s |>.andThen (s.set_keeps ..) |>.andThen (State.requestHold_keeps ..))

theorem State.planHold_keeps (s : State) : Keeps holdWrites s s.planHold := by
  unfold State.planHold
  exact .ite (.refl _ s) (.ite (s.withPins_keeps _).mono s.plannedHold_keeps)

theorem State.heldPlan_keeps (s : State) : Keeps holdWrites s s.heldPlan := by
  unfold State.heldPlan
  exact .ite (Keeps.refl _ s |>.andThen (s.withPins_keeps _) |>.trans (State.plannedHold_keeps _)) (.refl _ s)

/-- The writes of a record that the trace block takes (18 R479). -/
def traceWrites : Writes := { regs := [.trc, .lec], fresh := true, trace := true }

theorem State.trcTake_keeps (s : State) (value stroke kind tile src info : Nat) :
    Keeps traceWrites s (s.trcTake value stroke kind tile src info) := by
  have hlost : Keeps traceWrites s ((s.raise TRC_STAT_LOST).bump TRC_STAT_LOSTCNT) :=
    Keeps.refl _ s |>.andThen (s.raise_keeps ..) |>.andThen (State.bump_keeps ..)
  have hput : Keeps traceWrites s (s.trcPut value stroke kind tile src info) := (s.withTrace_keeps _).mono
  exact (Keeps.ite hlost hput).andThen (State.lecSample_keeps ..)

theorem State.trcOwn_keeps (s : State) (value kind src info : Nat) : Keeps traceWrites s (s.trcOwn value kind src info) := by
  unfold State.trcOwn
  exact .ite (s.withTrace_keeps _).mono (s.trcTake_keeps ..)

/-- The writes of a freeze event, which may plan a hold (18 R481, R482). -/
def freezeWrites : Writes :=
  { regs := [.trc, .lec, .ckp], fresh := true, trace := true, lanes := true, ckp := true, pins := true }

theorem State.traceFreeze_keeps (s : State) (cause : Nat) : Keeps freezeWrites s (s.traceFreeze cause) := by
  unfold State.traceFreeze
  refine .ite (.refl _ s) ?_
  extract_lets n marked noted _ frozen
  have hf : Keeps freezeWrites s frozen :=
    Keeps.refl _ s |>.andThen (s.set_keeps ..) |>.andThen (State.set_keeps ..) |>.andThen (marked.trcOwn_keeps ..)
      |>.andThen (noted.withTrace_keeps _)
  exact .ite (hf.andThen frozen.planHold_keeps) hf

theorem State.traceEvent_keeps (s : State) (en : Field) (cause : Nat) : Keeps freezeWrites s (s.traceEvent en cause) :=
  .ite (s.traceFreeze_keeps _) (.refl _ s)

/-! ### Faults -/

theorem State.withMsixPba_keeps (s : State) (x : List (Nat × Bool)) : Keeps { msixPba := true } s { s with msixPba := x } :=
  { Keeps.refl _ s with msixPba := nofun }

theorem State.withEmcy_keeps (s : State) (x : List FltRec) : Keeps { faults := true } s { s with emcy := x } :=
  { Keeps.refl _ s with faults := nofun }

theorem State.withFltRecs_keeps (s : State) (l : List FltRec) (n : Nat) (b : Bool) :
    Keeps { faults := true } s { s with fltRecs := l, fltNext := n, fltAny := b } :=
  { Keeps.refl _ s with faults := nofun }

/-- The writes of an MSI-X vector that is signalled (14 R385). -/
def msixWrites : Writes := { msixPba := true, out := true }

theorem State.msix_keeps (s : State) (v : Nat) : Keeps msixWrites s (s.msix v) := by
  unfold State.msix
  exact .ite (s.withMsixPba_keeps _).mono (s.emit_keeps _).mono

/-- The writes of a fault record that is stored (19 R497, R498). -/
def recordWrites : Writes := { regs := [.mgt], faults := true, msixPba := true, out := true }

theorem State.queueEmcy_keeps (s : State) (r : FltRec) : Keeps recordWrites s (s.queueEmcy r) := by
  have hq (l : List FltRec) : Keeps recordWrites s { s with emcy := l } := (s.withEmcy_keeps l).mono
  unfold State.queueEmcy
  exact .ite (hq _) (.ite (hq _) ((hq _).andThen (State.raise_keeps ..)))

theorem State.storeFlt_keeps (s : State) (r : FltRec) : Keeps recordWrites s (s.storeFlt r) := by
  unfold State.storeFlt
  refine .ite (Keeps.refl _ s |>.andThen (s.raise_keeps ..) |>.andThen (State.bump_keeps ..)) ?_
  extract_lets r recs stored queued
  have hq : Keeps recordWrites s queued := Keeps.refl _ s |>.andThen (s.withFltRecs_keeps ..) |>.trans (stored.queueEmcy_keeps r)
  exact .ite (hq.andThen (queued.msix_keeps _)) hq

/-- The writes of a fault: its record, the freeze it may cause and its hold request (19 R493 to R498). -/
def faultWrites : Writes :=
  { regs := [.clk, .ckp, .mgt, .fab, .lec, .trc], fresh := true, lanes := true, ckp := true, msixPba := true, faults := true,
    trace := true, pins := true, out := true, free := true }

theorem State.faultHold_keeps (s : State) : Keeps faultWrites s s.faultHold := by
  have hr : Keeps faultWrites s (s.raise CKP_CTL_HOLDOFF) := (s.raise_keeps ..).mono
  exact .ite hr (hr.andThen (State.withCkp_keeps ..) |>.andThen (State.requestHold_keeps ..))

theorem State.logOnly_keeps (s : State) (code sev tile loc pcell d0 d1 : Nat) :
    Keeps faultWrites s (s.logOnly code sev tile loc pcell d0 d1) := by
  unfold State.logOnly
  extract_lets inRun replay pause
  have hfresh : Keeps faultWrites s (if pause then s.fresh else (0, s)).2 := by
    split
    · exact s.fresh_keeps.mono
    · exact .refl _ s
  split
  rename_i w u hdrawn
  rw [hdrawn] at hfresh
  extract_lets scyc r0 rep sev' hold r repeated collided before recorded _ stored traced
  have hrepeated : Keeps faultWrites s repeated := .ite (hfresh.andThen (State.raise_keeps ..)) hfresh
  have hcollided : Keeps faultWrites s collided := .ite (hrepeated.andThen (State.raise_keeps ..)) hrepeated
  have hstored : Keeps faultWrites s stored := hcollided.andThen (collided.storeFlt_keeps r) |>.andThen (recorded.withCkp_keeps _)
  have htraced : Keeps faultWrites s traced := .ite hstored (hstored.andThen (stored.traceEvent_keeps ..))
  exact (Keeps.ite (htraced.trans traced.faultHold_keeps) htraced).andThen (State.hubLevels_keeps _)

theorem State.endPause_keeps (s : State) (e : Nat) : Keeps { regs := [.clk, .ckp], ckp := true } s (s.endPause e) :=
  Keeps.refl _ s |>.andThen (s.withCkp_keeps _) |>.andThen (State.set_keeps ..) |>.andThen (State.set_keeps ..)

theorem State.ckpFail_keeps (s : State) (cause : Nat) : Keeps faultWrites s (s.ckpFail cause) := by
  unfold State.ckpFail
  refine .ite (.refl _ s) ?_
  exact Keeps.refl _ s |>.andThen (s.withCkp_keeps _) |>.andThen (State.endPause_keeps ..) |>.andThen (State.heldPlan_keeps _)
    |>.andThen (State.raise_keeps ..) |>.andThen (State.announce_keeps ..) |>.trans (State.logOnly_keeps ..)

theorem State.faultCause_keeps (s : State) (cause code sev tile loc pcell d0 d1 : Nat) :
    Keeps faultWrites s (s.faultCause cause code sev tile loc pcell d0 d1) := by
  have hlog := s.logOnly_keeps code sev tile loc pcell d0 d1
  exact .ite (hlog.trans (State.ckpFail_keeps ..)) hlog

theorem State.fault_keeps (s : State) (code sev tile loc pcell d0 d1 : Nat) :
    Keeps faultWrites s (s.fault code sev tile loc pcell d0 d1) := s.faultCause_keeps ..

/-! ### Readiness -/

theorem State.disarm_keeps (s : State) : Keeps { regs := [.mgt], lanes := true } s s.disarm := by
  unfold State.disarm
  exact .ite (Keeps.refl _ s |>.andThen (s.lower_keeps ..) |>.andThen (State.sendPstat_keeps _)) (.refl _ s)

theorem State.refuse_keeps (s : State) (reason detail : Nat) : Keeps { refusals := true } s (s.refuse reason detail) :=
  { Keeps.refl _ s with refusals := nofun }

/-- The writes of a ready bit that changes (16 R434, R450). -/
def readyWrites : Writes := { regs := [.bj, .lec, .mgt], fresh := true, rdy := true, lanes := true, refusals := true }

theorem State.setReady_keeps (s : State) (f : Nat) (b : Bool) : Keeps readyWrites s (s.setReady f b) := by
  unfold State.setReady
  refine .ite (.refl _ s) ?_
  extract_lets marked o sampled
  have hs : Keeps readyWrites s sampled :=
    Keeps.refl _ s |>.andThen (s.withRdy_keeps _) |>.andThen (marked.setBits_keeps ..) |>.andThen (State.lecSample_keeps ..)
  exact .ite (hs.andThen sampled.disarm_keeps |>.andThen (State.refuse_keeps ..)) hs

/-! ### Reads of memory and what they meet -/

/-- The writes of an HBM line that is touched: a channel may fail with it, and a stack (13 R365 to R368). -/
def touchWrites : Writes :=
  { regs := [.clk, .ckp, .mgt, .fab, .lec, .trc, .bj, .tme], fresh := true, lanes := true, ckp := true, msixPba := true,
    faults := true, trace := true, pins := true, out := true, free := true, mem := true, tiles := true, rdy := true,
    refusals := true }

theorem State.tmeLevel_keeps (s : State) (t : Nat) : Keeps levelWrites s (s.tmeLevel t) := s.lecSample_keeps ..

theorem State.tmeCapture_keeps (s : State) (t off ch kind : Nat) : Keeps { regs := [.tme] } s (s.tmeCapture t off ch kind) := by
  unfold State.tmeCapture
  exact .ite (.refl _ s) (Keeps.refl _ s |>.andThen (s.set_keeps ..) |>.andThen (State.set_keeps ..) |>.andThen (State.set_keeps ..)
    |>.andThen (State.raise_keeps ..))

theorem State.stackReady_keeps (s : State) (t : Nat) : Keeps readyWrites s (s.stackReady t) :=
  (s.setReady_keeps ..).trans (State.setReady_keeps ..)

theorem State.stackFail_keeps (s : State) (t ch : Nat) : Keeps touchWrites s (s.stackFail t ch) :=
  Keeps.refl _ s |>.andThen (s.raise_keeps ..) |>.andThen (State.tmeCapture_keeps ..) |>.andThen (State.tmeLevel_keeps ..)
    |>.andThen (State.fault_keeps ..) |>.andThen (State.stackReady_keeps ..)

theorem State.channelFail_keeps (s : State) (t c : Nat) : Keeps touchWrites s (s.channelFail t c) := by
  unfold State.channelFail
  refine .ite (.refl _ s) ?_
  extract_lets first marked logged
  have hl : Keeps touchWrites s logged :=
    Keeps.refl _ s |>.andThen (s.set_keeps ..) |>.andThen (State.raise_keeps ..) |>.andThen (State.tmeLevel_keeps ..)
      |>.andThen (marked.fault_keeps ..)
  exact .ite (hl.trans (logged.stackFail_keeps ..))
    (.ite (hl.andThen (logged.set_keeps ..)) (hl.andThen (logged.set_keeps ..) |>.andThen (State.raise_keeps ..)))

theorem State.reconstruct_keeps (s : State) (t off c : Nat) : Keeps touchWrites s (s.reconstruct t off c) := by
  unfold State.reconstruct
  extract_lets x n counted captured
  have hc : Keeps touchWrites s captured :=
    Keeps.refl _ s |>.andThen (s.setTile_keeps ..) |>.andThen (State.bump_keeps ..) |>.andThen (counted.tmeCapture_keeps ..)
  exact .ite (hc.trans (captured.channelFail_keeps ..)) hc

theorem State.setByte_keeps (s : State) (a : Nat) (b : Byte) : Keeps { mem := true } s (s.setByte a b) :=
  { Keeps.refl _ s with mem := nofun, memOk := s.wf_setByte a b }

theorem State.setBytes_keeps (s : State) (a : Nat) (l : List Byte) : Keeps { mem := true } s (s.setBytes a l) := by
  induction l generalizing s a with
  | nil => exact .refl _ s
  | cons b t ih => exact (s.setByte_keeps a b).trans (ih ..)

theorem State.setNum_keeps (s : State) (a n v : Nat) : Keeps { mem := true } s (s.setNum a n v) := s.setBytes_keeps ..

theorem State.spoilLine_keeps (s : State) (t off : Nat) : Keeps { mem := true, free := true } s (s.spoilLine t off) :=
  .foldl (fun s _ => Keeps.refl _ s |>.andThen s.fresh_keeps |>.andThen (State.setNum_keeps ..)) _ s

theorem State.hbmTouch_keeps (s : State) (t off : Nat) (err : HbmRead) : Keeps touchWrites s (s.hbmTouch t off err).1 := by
  unfold State.hbmTouch
  extract_lets c captured logged
  split
  · exact .refl _ s
  · exact (s.bump_keeps ..).mono
  · split
    · exact s.reconstruct_keeps ..
    · have hc : Keeps touchWrites s captured :=
        Keeps.refl _ s |>.andThen (s.spoilLine_keeps t off) |>.andThen (State.raise_keeps ..) |>.andThen (State.tmeCapture_keeps ..)
          |>.andThen (State.tmeLevel_keeps ..)
      have hl : Keeps touchWrites s logged := hc.andThen (captured.fault_keeps ..)
      simp only [apply_ite Prod.fst]
      exact .ite (hl.trans (logged.stackFail_keeps ..)) hl

theorem State.perr_keeps (s : State) (n unit a : Nat) : Keeps { regs := [.cpo] } s (s.perr n unit a) := by
  unfold State.perr
  extract_lets counted
  have hc : Keeps { regs := [.cpo] } s counted := (s.bump_keeps ..).mono
  exact .ite hc (hc.andThen (counted.set_keeps ..) |>.andThen (State.set_keeps ..) |>.andThen (State.raise_keeps ..))

/-- The writes of a read by an agent other than a core: those of HBM, and the capture of an LSRAM parity error (13 R370). -/
def readWrites : Writes := { touchWrites with regs := .cpo :: touchWrites.regs }

theorem State.readErr_keeps (s : State) (a : Nat) (err : HbmRead) : Keeps readWrites s (s.readErr a err).1 := by
  unfold State.readErr
  split
  · exact .refl _ s
  · split
    · exact (s.hbmTouch_keeps ..).mono
    · exact (s.perr_keeps ..).mono
    · exact .refl _ s

theorem State.readErrs_keeps (s : State) (a len : Nat) (err : HbmRead) (more : LineErrs) :
    Keeps readWrites s (s.readErrs a len err more).1 := by
  refine Keeps.foldl_fst (fun p q => ?_) _ (s, none)
  extract_lets b
  split
  · exact .refl _ _
  · exact p.1.readErr_keeps ..

end Sys2Proof.Machine
end

section
/-! SUPPORT. The dictionary's transports: what a response and a request that arrives write. -/

namespace Sys2Proof.Machine

set_option Elab.async false

/-! ### Responses -/

theorem agentOf_transport (a : Agent) : agentOf (transport a) = a := by
  cases a with
  | host => rfl
  | jtag => rfl
  | core n =>
    have hn : 1 + n.val ≤ 20 := by omega
    simp [agentOf, transport, hn]
  | can p =>
    match p with
    | 0 => rfl
    | 1 => rfl
  | lane n =>
    have hn : ¬ 64 + n.val ≤ 20 ∧ 64 + n.val ≠ 32 ∧ 64 + n.val ≠ 33 := by omega
    simp [agentOf, transport, hn]

theorem State.portWrite_keeps (s : State) (own : Bool) (a : Nat) (l : List Byte) : Keeps { mem := true } s (s.portWrite own a l) := by
  induction l generalizing s a with
  | nil => exact .refl _ s
  | cons b t ih =>
    rw [State.portWrite]
    refine Keeps.trans ?_ (ih ..)
    exact .ite (.ite (.refl _ s) (s.withCycle_keeps _ _))
      ((Keeps.ite (.refl _ s) (s.withCycle_keeps _ _)).trans (State.setByte_keeps ..))

/-- The writes of a response in the mailbox of the host (14 R398). -/
def mailboxWrites : Writes := { regs := [.pci, .lec], fresh := true, msixPba := true, out := true }

theorem State.mbxLevel_keeps (s : State) : Keeps levelWrites s s.mbxLevel := s.lecSample_keeps ..

theorem State.answerHost_keeps (s : State) (l : List Nat) : Keeps mailboxWrites s (s.answerHost l) := by
  unfold State.answerHost
  refine .ite (.refl _ s) ?_
  extract_lets filled answered
  have hf : Keeps { regs := [.pci] } s filled := .foldl (fun s _ => (s.set_keeps ..).mono) _ s
  have ha : Keeps mailboxWrites s answered :=
    hf.mono.andThen (filled.set_keeps ..) |>.andThen (State.lower_keeps ..) |>.andThen (State.raise_keeps ..) |>.andThen (State.mbxLevel_keeps _)
  exact .ite (ha.andThen (answered.msix_keeps _)) ha

theorem State.answerCore_keeps (s : State) (n : Nat) (l : List Nat) : Keeps { regs := [.mgt], mem := true } s (s.answerCore n l) := by
  unfold State.answerCore
  exact .ite (.refl _ s) (Keeps.refl _ s |>.andThen (s.portWrite_keeps ..) |>.andThen (State.set_keeps ..) |>.andThen (State.lower_keeps ..)
    |>.andThen (State.raise_keeps ..))

theorem State.reply_host (s : State) (l : List Nat) : s.reply 0 l = (s.setXport 0 { s.xport 0 with waiting := none }).answerHost l := rfl

theorem State.reply_core (s : State) (n : Core) (l : List Nat) :
    s.reply (1 + n.val) l = (s.setXport (1 + n.val) { s.xport (1 + n.val) with waiting := none }).answerCore n.val l := by
  have h : agentOf (1 + n.val) = .core n := agentOf_transport (.core n)
  unfold State.reply
  rw [h]

theorem State.waiting_reply_host (s : State) (l : List Nat) : ((s.reply 0 l).xport 0).waiting = none := by
  rw [State.reply_host, (State.answerHost_keeps ..).xport rfl, State.xport_setXport_self]

theorem State.waiting_reply_core (s : State) (n : Core) (l : List Nat) : ((s.reply (1 + n.val) l).xport (1 + n.val)).waiting = none := by
  rw [State.reply_core, (State.answerCore_keeps ..).xport rfl, State.xport_setXport_self]

theorem State.reply_host_keeps (s : State) (l : List Nat) : Keeps { mailboxWrites with xports := true } s (s.reply 0 l) :=
  Keeps.refl _ s |>.andThen (s.setXport_keeps ..) |>.andThen (State.answerHost_keeps ..)

theorem State.reply_core_keeps (s : State) (n : Core) (l : List Nat) :
    Keeps { regs := [.mgt], mem := true, xports := true } s (s.reply (1 + n.val) l) := by
  rw [State.reply_core]
  exact Keeps.refl _ s |>.andThen (s.setXport_keeps ..) |>.andThen (State.answerCore_keeps ..)

/-! ### Requests that arrive -/

theorem State.submit_keeps (s : State) (k : Nat) (l : List Nat) : Keeps { xports := true } s (s.submit k l) := s.setXport_keeps ..

/-- The writes of a request that arrives on a transport, whichever it is. -/
def arriveWrites : Writes :=
  { regs := [.pci, .lec, .mgt], fresh := true, mem := true, lanes := true, ents := true, xports := true, free := true }

theorem State.mailboxGo_keeps (s : State) : Keeps arriveWrites s s.mailboxGo := by
  unfold State.mailboxGo
  exact .ite (s.raise_keeps ..).mono
    (Keeps.refl _ s |>.andThen (s.raise_keeps ..) |>.andThen (State.mbxLevel_keeps _) |>.andThen (State.submit_keeps ..))

theorem State.hostRequest_keeps (s : State) (l : List Nat) : Keeps arriveWrites s (s.hostRequest l) := by
  unfold State.hostRequest
  have hf (m : List Nat) : Keeps arriveWrites s (m.foldl (fun s r => s.set PCI_MBXREQ_BYTES r (numAt l (8 * r) 8)) s) :=
    .foldl (fun s _ => (s.set_keeps ..).mono) m s
  exact .ite (s.raise_keeps ..).mono ((hf _).andThen (State.set_keeps ..) |>.trans (State.mailboxGo_keeps _))

theorem State.localGo_keeps (s : State) (n : Nat) : Keeps arriveWrites s (s.localGo n) := by
  unfold State.localGo
  exact .ite (s.raise_keeps ..).mono (Keeps.refl _ s |>.andThen (s.raise_keeps ..) |>.andThen (State.setXport_keeps ..))

theorem State.coreRequest_keeps (s : State) (n : Nat) (l : List Nat) : Keeps arriveWrites s (s.coreRequest n l) := by
  unfold State.coreRequest
  exact .ite (s.raise_keeps ..).mono
    (Keeps.refl _ s |>.andThen (s.portWrite_keeps ..) |>.andThen (State.set_keeps ..) |>.trans (State.localGo_keeps ..))

theorem State.canLevel_keeps (s : State) (p : Nat) : Keeps levelWrites s (s.canLevel p) := s.lecSample_keeps ..

theorem State.countEnt_keeps (s : State) (x y : Nat) : Keeps { ents := true } s (s.countEnt x y) := s.setEnt_keeps ..

theorem State.canErrors_keeps (s : State) (p tec rec : Nat) : Keeps arriveWrites s (s.canErrors p tec rec) := by
  unfold State.canErrors
  extract_lets counted passive raised
  have hc : Keeps arriveWrites s counted := Keeps.refl _ s |>.andThen (s.set_keeps ..) |>.andThen (State.set_keeps ..)
  have hr : Keeps arriveWrites s raised := .ite (hc.andThen (counted.raise_keeps ..)) hc
  exact hr.andThen (raised.set_keeps ..) |>.andThen (State.canLevel_keeps ..)

theorem State.canGot_keeps (s : State) (p : Nat) : Keeps arriveWrites s (s.canGot p) := by
  unfold State.canGot
  extract_lets counted r
  have hc : Keeps arriveWrites s counted := (s.countEnt_keeps ..).mono
  exact .ite hc (.ite (hc.trans (counted.canErrors_keeps ..)) (hc.andThen counted.fresh_keeps |>.trans (State.canErrors_keeps ..)))

theorem State.canRequest_keeps (s : State) (p : Nat) (l : List Nat) : Keeps arriveWrites s (s.canRequest p l) := by
  unfold State.canRequest
  refine .ite (.refl _ s) ?_
  extract_lets got
  have hg : Keeps arriveWrites s got := s.canGot_keeps p
  exact .ite (hg.andThen (got.countEnt_keeps ..) |>.andThen (State.raise_keeps ..) |>.andThen (State.canLevel_keeps ..))
    (hg.andThen (got.submit_keeps ..))

theorem State.beatIn_keeps (s : State) (n : Nat) : Keeps { lanes := true } s (s.beatIn n) :=
  .ite (s.setLane_keeps ..) (.refl _ s)

theorem State.dictRequest_keeps (s : State) (n : Nat) (l : List Nat) : Keeps arriveWrites s (s.dictRequest n l) := by
  unfold State.dictRequest
  exact .ite (Keeps.refl _ s |>.andThen (s.raise_keeps ..) |>.andThen (State.countEnt_keeps ..)) (s.submit_keeps ..).mono

theorem State.arrive_keeps (s : State) (a : Agent) (l : List Nat) : Keeps arriveWrites s (s.arrive a l) := by
  unfold State.arrive
  refine .ite (.refl _ s) ?_
  cases a with
  | host => exact .ite (s.hostRequest_keeps l) (.refl _ s)
  | core n => exact .ite (s.coreRequest_keeps ..) (.refl _ s)
  | can p => exact s.canRequest_keeps ..
  | lane n => exact (s.beatIn_keeps _).mono.trans (State.dictRequest_keeps ..)
  | jtag => exact .refl _ s

end Sys2Proof.Machine
end

section
/-! SUPPORT. A write of 0x1200 from its frame to its response, and the ownership of loading (15 R407, R408; 01 R26). -/

namespace Sys2Proof.Machine

set_option Elab.async false

/-! ### Writes of 0x1200 -/

theorem State.serving_iff (s : State) (a : Agent) (l : List Nat) :
    s.serving a l = true ↔ ∃ w, (s.xport (transport a)).waiting = some w ∧ w.2.take l.length = l ∧
      s.nextServed = some (transport a) ∧ s.flashNeeded (reqOf w.2) = false := by
  unfold State.serving State.holdsRequest State.flashAwaited
  cases h : (s.xport (transport a)).waiting <;> simp [and_assoc]

/-- The second half of `writeCommand`: what an agent's transport holds is served if it is the request and next. -/
def State.serveHeld (s : State) (a : Agent) (l : List Nat) : State :=
  match (s.xport (transport a)).waiting with
  | some w =>
    if w.2.take l.length = l ∧ s.nextServed = some (transport a) ∧ s.flashNeeded (reqOf w.2) = false then s.serve (transport a) w.2 else s
  | none => s

theorem State.writeCommand_eq (s : State) (a : Agent) (l : List Nat) :
    s.writeCommand a l = (if s.holdsRequest a l then s else s.arrive a l).serveHeld a l := by
  unfold State.writeCommand State.holdsRequest
  cases (s.xport (transport a)).waiting with
  | none => rfl
  | some w => by_cases h : w.2.take l.length = l <;> simp [h] <;> rfl

theorem State.serveHeld_of_serving (s : State) (a : Agent) (l : List Nat) (h : s.serving a l = true) :
    ∃ pad, s.serveHeld a l = s.serve (transport a) (l ++ pad) := by
  obtain ⟨w, hw, hserved⟩ := (s.serving_iff a l).mp h
  obtain ⟨pad, hpad⟩ : ∃ pad, w.2 = l ++ pad := ⟨w.2.drop l.length, by rw [← List.take_append_drop l.length w.2, hserved.1]; simp⟩
  exact ⟨pad, by rw [← hpad]; simp only [State.serveHeld, hw, if_pos hserved]⟩

theorem State.serveHeld_of_not_serving (s : State) (a : Agent) (l : List Nat) (h : s.serving a l = false) : s.serveHeld a l = s := by
  unfold State.serveHeld
  split
  next w hw => exact if_neg fun hserved => by simp [(s.serving_iff a l).mpr ⟨w, hw, hserved⟩] at h
  next => rfl

theorem State.holdsRequest_of_serving (s : State) (a : Agent) (l : List Nat) (h : s.serving a l = true) : s.holdsRequest a l = true := by
  simp only [State.serving, Bool.and_eq_true] at h
  exact h.1.1

/-- A command whose request is the one that is served is that request's service. -/
theorem State.writeCommand_of_serving (s : State) (a : Agent) (l : List Nat) (h : s.serving a l = true) :
    ∃ pad, s.writeCommand a l = s.serve (transport a) (l ++ pad) := by
  rw [State.writeCommand_eq, if_pos (s.holdsRequest_of_serving a l h)]
  exact s.serveHeld_of_serving a l h

/-- A command whose request its transport does not hold: the request arrives, and the command is that of the state it arrives in. -/
theorem State.writeCommand_arrives (s : State) (a : Agent) (l : List Nat) (h : s.holdsRequest a l = false)
    (hserving : (s.arrive a l).serving a l = true) : s.writeCommand a l = (s.arrive a l).writeCommand a l := by
  rw [s.writeCommand_eq, State.writeCommand_eq, if_neg (by simp [h]), if_pos (State.holdsRequest_of_serving _ a l hserving)]

/-- A command whose request its transport does not hold, and that is not served as it arrives, does nothing else. -/
theorem State.writeCommand_only_arrives (s : State) (a : Agent) (l : List Nat) (h : s.holdsRequest a l = false)
    (hserving : (s.arrive a l).serving a l = false) : s.writeCommand a l = s.arrive a l := by
  rw [s.writeCommand_eq, if_neg (by simp [h]), State.serveHeld_of_not_serving _ a l hserving]

theorem modeWrite_bytes (seq y v : Nat) : modeWrite seq y v = [2, seq, 0, 0x12, y, 0, 1, 0, 0, 0, 0, 0, 1, 0, 0, 0, v] := by
  simp [modeWrite, leBytes]

theorem reqOf_modeWrite (seq y v : Nat) (pad : List Nat) :
    reqOf (modeWrite seq y v ++ pad) = ⟨2, seq, 0x1200, y, 0, 1, 0, 1, [v], pad.length + 17⟩ := by
  rw [modeWrite_bytes]
  simp [reqOf, numAt, ofLe]

theorem any_insertKey {α : Type} (l : List (Nat × α)) (k : Nat) (x : α) (q : Nat × α → Bool) (hq : ∀ y, q (k, y) = false) :
    (insertKey l k x).any q = l.any q := by
  induction l with
  | nil => simp [insertKey, hq]
  | cons p t ih =>
    obtain ⟨j, y⟩ := p
    unfold insertKey
    split
    · simp [hq]
    · split
      · rename_i hj
        simp [hq, ← hj]
      · simp [ih]

theorem any_eraseKey {α : Type} (l : List (Nat × α)) (k : Nat) (q : Nat × α → Bool) (hq : ∀ y, q (k, y) = false) :
    (eraseKey l k).any q = l.any q := by
  induction l with
  | nil => rfl
  | cons p t ih =>
    obtain ⟨j, y⟩ := p
    by_cases hj : j = k
    · simp [eraseKey, hj, ih, hq]
    · simp [eraseKey, hj, ih]

theorem any_sput {α : Type} [DecidableEq α] (l : List (Nat × α)) (k : Nat) (x d : α) (q : Nat × α → Bool) (hq : ∀ y, q (k, y) = false) :
    (sput l k x d).any q = l.any q := by
  unfold sput
  split
  · exact any_eraseKey l k q hq
  · exact any_insertKey l k x q hq

theorem State.writtenElsewhere_closed (s : State) (a : Agent) (x y : Nat) :
    (s.closed a).writtenElsewhere (transport a) x y = s.writtenElsewhere (transport a) x y :=
  any_sput _ _ _ _ _ (fun _ => by simp)

theorem State.serve_modeWrite (s : State) (k seq y v : Nat) (pad : List Nat) :
    s.serve k (modeWrite seq y v ++ pad) =
      (s.setXport k { s.xport k with opened := none, lapsed := none }).serveEntry k (reqOf (modeWrite seq y v ++ pad)) := by
  unfold State.serve
  rw [reqOf_modeWrite]
  have hopen : s.continued k ⟨2, seq, 0x1200, y, 0, 1, 0, 1, [v], pad.length + 17⟩ = none := by
    simp [State.continued]
  have hlate : s.lapsedFrame k ⟨2, seq, 0x1200, y, 0, 1, 0, 1, [v], pad.length + 17⟩ = false := by
    simp [State.lapsedFrame]
  have hform : Req.malformed ⟨2, seq, 0x1200, y, 0, 1, 0, 1, [v], pad.length + 17⟩ k = false := by
    have hlimit : dataLimit k ≠ 0 := by unfold dataLimit; split <;> decide
    simp [Req.malformed, hlimit]
  simp [hopen, hlate, hform]

theorem entryAt_loader : entryAt 0x1200 5 = some ⟨2, 1, 1, 0⟩ := by decide

theorem response_loader (s : State) (seq v c : Nat) (n : Nat) :
    s.response ⟨2, seq, 0x1200, 5, 0, 1, 0, 1, [v], n⟩ c [] = modeResponse seq 5 c := by
  simp [State.response, State.responseAt, State.entryTotal, entryAt_loader, typeSize, modeResponse, leBytes]

theorem State.serveEntry_loader (s : State) (a : Agent) (seq n : Nat) (v : Byte) (h : s.writtenElsewhere (transport a) 0x1200 5 = false) :
    s.serveEntry (transport a) ⟨2, seq, 0x1200, 5, 0, 1, 0, 1, [v.toNat], n⟩ =
      (s.entryPut a 0x1200 5 v.toNat).2.reply (transport a) (modeResponse seq 5 (s.entryPut a 0x1200 5 v.toNat).1) := by
  have hv : ofLe [v.toNat] = v.toNat := by simp [ofLe]; omega
  simp [State.serveEntry, entryAt_loader, State.serveWrite, h, typeSize, State.writeFixed, response_loader, hv, agentOf_transport]

/-! ### Ownership of loading -/

/-- LOADER_CLAIM whose request is served: the write of 0x1200:05, answered on the transport that made it (15 R408). -/
theorem exec_loaderClaim_of_serving (a : Agent) (v seq : Byte) (s : State) (h : s.serving a (modeWrite seq.toNat 5 v.toNat) = true)
    (hw : s.writtenElsewhere (transport a) 0x1200 5 = false) :
    exec (.loaderClaim a v seq) s = .next (((s.closed a).entryPut a 0x1200 5 v.toNat).2.reply (transport a)
      (modeResponse seq.toNat 5 ((s.closed a).entryPut a 0x1200 5 v.toNat).1)) := by
  obtain ⟨pad, hpad⟩ := s.writeCommand_of_serving a _ h
  calc exec (.loaderClaim a v seq) s
      = .next (s.serve (transport a) (modeWrite seq.toNat 5 v.toNat ++ pad)) := congrArg _ hpad
    _ = .next ((s.closed a).serveEntry (transport a) (reqOf (modeWrite seq.toNat 5 v.toNat ++ pad))) := by
        rw [State.serve_modeWrite]; rfl
    _ = _ := by
        rw [reqOf_modeWrite, State.serveEntry_loader _ _ _ _ _ (by rwa [State.writtenElsewhere_closed])]

theorem State.entryPut_loader_taken (s : State) (a : Agent) (v o : Nat) (h : s.claimJudge a v = .inr o) :
    s.entryPut a 0x1200 5 v = (0, s.setOwner o) := by
  simp [State.entryPut, h]

theorem State.entryPut_loader_refused (s : State) (a : Agent) (v c : Nat) (h : s.claimJudge a v = .inl c) :
    s.entryPut a 0x1200 5 v = (c, s) := by
  simp [State.entryPut, h]

theorem exec_loaderClaim_taken (a : Agent) (v seq : Byte) (o : Nat) (s : State) (h : s.serving a (modeWrite seq.toNat 5 v.toNat) = true)
    (hw : s.writtenElsewhere (transport a) 0x1200 5 = false) (hj : s.claimJudge a v.toNat = .inr o) :
    exec (.loaderClaim a v seq) s = .next (((s.closed a).setOwner o).reply (transport a) (modeResponse seq.toNat 5 0)) := by
  have hj' : (s.closed a).claimJudge a v.toNat = .inr o := hj
  rw [exec_loaderClaim_of_serving a v seq s h hw, State.entryPut_loader_taken _ _ _ _ hj']

theorem exec_loaderClaim_refused (a : Agent) (v seq : Byte) (c : Nat) (s : State) (h : s.serving a (modeWrite seq.toNat 5 v.toNat) = true)
    (hw : s.writtenElsewhere (transport a) 0x1200 5 = false) (hj : s.claimJudge a v.toNat = .inl c) :
    exec (.loaderClaim a v seq) s = .next ((s.closed a).reply (transport a) (modeResponse seq.toNat 5 c)) := by
  have hj' : (s.closed a).claimJudge a v.toNat = .inl c := hj
  rw [exec_loaderClaim_of_serving a v seq s h hw, State.entryPut_loader_refused _ _ _ _ hj']

@[simp] theorem State.setOwner_owner (s : State) (o : Nat) : (s.setOwner o).owner = o := by
  unfold State.setOwner
  split
  next h => exact h.symm
  next => rfl

theorem State.setOwner_claimAt (s : State) (o : Nat) : (s.setOwner o).claimAt = if o = s.owner then s.claimAt else s.tb :=
  apply_ite State.claimAt ..

theorem State.setOwner_keeps (s : State) (o : Nat) : Keeps { owner := true } s (s.setOwner o) :=
  .ite (.refl _ s) { Keeps.refl _ s with owner := nofun }

theorem State.closed_keeps (s : State) (a : Agent) : Keeps { xports := true } s (s.closed a) := s.setXport_keeps ..

/-- What a claim that is taken leaves, whatever its transport: the reply alone writes more than the owner and the transport. -/
theorem State.claimed_keeps {v : Writes} (w : Writes) (s t : State) (a : Agent) (o : Nat) (h : Keeps v ((s.closed a).setOwner o) t)
    (ho : v.owner = false) (hx : Writes.join { xports := true } w = w) (hown : Writes.join { owner := true } w = w) (hv : v.join w = w) :
    t.owner = o ∧ t.claimAt = (if o = s.owner then s.claimAt else s.tb) ∧ Keeps w s t := by
  obtain ⟨howner, hclaim⟩ := h.owner ho
  exact ⟨howner.trans (State.setOwner_owner ..), hclaim.trans (State.setOwner_claimAt ..),
    (s.closed_keeps a).mono hx |>.andThen (State.setOwner_keeps ..) hown |>.andThen h hv⟩

theorem State.owns_iff (s : State) (a : Agent) (h : Agent.identity a ≠ 0) : s.owns a = true ↔ s.owner = Agent.identity a := by
  simp only [State.owns, Bool.and_eq_true, bne_iff_ne, beq_iff_eq]
  exact ⟨And.right, fun e => ⟨e ▸ h, e⟩⟩

theorem State.claimJudge_no_identity (s : State) (a : Agent) (v : Nat) (h : Agent.identity a = 0) : s.claimJudge a v = .inl 3 := if_pos h

theorem State.claimJudge_release (s : State) (a : Agent) (h : Agent.identity a ≠ 0) :
    s.claimJudge a 0 = if s.owner = Agent.identity a then .inr 0 else .inl 0xC := by
  simp [State.claimJudge, h, s.owns_iff a h]

theorem State.claimJudge_other (s : State) (a : Agent) (v : Nat) (h : Agent.identity a ≠ 0) (hv : v ≠ 0) (hne : v ≠ Agent.identity a) :
    s.claimJudge a v = .inl 5 := by
  simp [State.claimJudge, h, hv, hne]

theorem State.claimJudge_own (s : State) (a : Agent) (h : Agent.identity a ≠ 0) (ho : s.owner = 0 ∨ s.owner = Agent.identity a) :
    s.claimJudge a (Agent.identity a) = .inr (Agent.identity a) := by
  have hfree : ¬ (s.owner ≠ 0 ∧ !s.owns a ∧ !(a == .host && decide (s.owner < 0x80) && s.claimedNow)) := by
    rintro ⟨h0, hown, _⟩
    simp [(s.owns_iff a h).mpr (ho.resolve_left h0)] at hown
  simp only [State.claimJudge, if_neg h, ne_eq, not_true_eq_false, if_false]
  exact if_neg hfree

theorem State.claimJudge_taken (s : State) (a : Agent) (h : Agent.identity a ≠ 0) (h0 : s.owner ≠ 0) (ho : s.owner ≠ Agent.identity a) :
    s.claimJudge a (Agent.identity a) = if a = .host ∧ s.owner < 0x80 ∧ s.claimAt / 16 = s.tb / 16 then .inr (Agent.identity a) else .inl 7 := by
  have hown : s.owns a = false := by simpa using mt (s.owns_iff a h).mp ho
  by_cases hp : a = .host ∧ s.owner < 0x80 ∧ s.claimAt / 16 = s.tb / 16
  · obtain ⟨rfl, hlt, hat⟩ := hp
    simp [State.claimJudge, h, hown, h0, State.claimedNow, hlt, hat]
  · have : (a == .host && decide (s.owner < 0x80) && s.claimedNow) = false := by
      simpa [State.claimedNow, h0] using hp
    simp [State.claimJudge, h, hown, h0, hp, this]

end Sys2Proof.Machine
end

section
/-! SUPPORT. The image engine: the registers that the owner alone writes, the start of an apply and what it reports (05 R155, R156). -/

namespace Sys2Proof.Machine

set_option Elab.async false

/-! ### The image registers and APPLY -/

theorem exec_imgAddrWrite_owner (a : Agent) (v : Word) (s : State) (hd : s.domOn 763 = true) (ho : s.owns a = true) :
    exec (.imgAddrWrite a v) s = .next (s.set MGT_IMG_ADDR_ADDR 0 (bits v.toNat 45 3)) := by
  show execImgAddrWrite a v s = _
  simp [execImgAddrWrite, hd, State.imgAddrWrite, ho]

theorem exec_imgAddrWrite_foreign (a : Agent) (v : Word) (s : State) (hd : s.domOn 763 = true) (ho : s.owns a = false) :
    exec (.imgAddrWrite a v) s = .next s.loadForeign := by
  show execImgAddrWrite a v s = _
  simp [execImgAddrWrite, hd, State.imgAddrWrite, ho]

theorem exec_imgAddrWrite_off (a : Agent) (v : Word) (s : State) (hd : s.domOn 763 = false) : exec (.imgAddrWrite a v) s = .next s :=
  if_neg (by simp [hd])

theorem exec_apply_on (a : Agent) (err : HbmRead) (more : LineErrs) (s : State) (hd : s.domOn 763 = true) :
    exec (.apply a err more) s = .next (s.applyWrite a err more) := if_pos hd

theorem exec_apply_off (a : Agent) (err : HbmRead) (more : LineErrs) (s : State) (hd : s.domOn 763 = false) :
    exec (.apply a err more) s = .next s := if_neg (by simp [hd])

theorem State.applyWrite_foreign (s : State) (a : Agent) (err : HbmRead) (more : LineErrs) (ho : s.owns a = false) :
    s.applyWrite a err more = s.loadForeign := if_pos (by simp [ho])

theorem State.applyWrite_busy (s : State) (a : Agent) (err : HbmRead) (more : LineErrs) (ho : s.owns a = true)
    (hb : s.flag MGT_IMG_CTL_BUSY = true) : s.applyWrite a err more = s := by
  simp [State.applyWrite, ho, hb]

theorem State.applyWrite_idle (s : State) (a : Agent) (err : HbmRead) (more : LineErrs) (ho : s.owns a = true)
    (hb : s.flag MGT_IMG_CTL_BUSY = false) :
    s.applyWrite a err more =
      if s.mode = .ready ∨ s.mode = .hold ∨ s.mode = .run then s.engageApply err more else s.applyEnd (some (4, 0)) 0 := by
  simp [State.applyWrite, ho, hb]

theorem State.loadForeign_keeps (s : State) : Keeps { regs := [.mgt, .lec], fresh := true } s s.loadForeign :=
  Keeps.refl _ s |>.andThen (s.raise_keeps ..) |>.andThen (State.hubLevels_keeps _)

theorem State.loadForeign_flag (s : State) : s.loadForeign.flag MGT_STAT_LOADFOREIGN = true := by
  rw [State.loadForeign, (State.hubLevels_keeps _).flag _ _ (by decide), State.flag_raise_self _ _ _ (by decide)]

theorem State.loadForeign_addr (s : State) : s.loadForeign.get MGT_IMG_ADDR_ADDR = s.get MGT_IMG_ADDR_ADDR := by
  rw [State.loadForeign, (State.hubLevels_keeps _).regs _ _ (by decide), State.get_raise_ne _ _ _ _ _ (by decide)]

/-! ### The engine starts -/

/-- The reads of the engine as an apply starts: the state that they leave, and the first address that completed with a bus error. -/
def State.imageReads (s : State) (err : HbmRead) (more : LineErrs) : State × Option Nat :=
  s.readErrs (s.get MGT_IMG_ADDR_ADDR * 8) (s.imageLen (s.get MGT_IMG_ADDR_ADDR * 8)) err more

/-- The engine is busy on an image whose result it will report. -/
def State.applying (s : State) (r : Nat) : State := { s with img := { s.img with applying := some r } }.raise MGT_IMG_CTL_BUSY

theorem State.applying_busy (s : State) (r : Nat) : (s.applying r).flag MGT_IMG_CTL_BUSY = true := State.flag_raise_self _ _ _ (by decide)

theorem State.applying_img (s : State) (r : Nat) : (s.applying r).img = { s.img with applying := some r } := rfl

theorem State.applying_keeps (s : State) (r : Nat) : Keeps { regs := [.mgt], img := true } s (s.applying r) :=
  Keeps.refl _ s |>.andThen (s.withImg_keeps _) |>.andThen (State.raise_keeps ..)

theorem State.startApply_eq (s u : State) (r : Apply) (h : s.runEngine = (u, r)) : s.startApply = (u.barRun r).applying (packApply r) := by
  simp only [State.startApply, h, State.applying]

theorem State.engageApply_waits (s : State) (err : HbmRead) (more : LineErrs) (h : s.flashWaits (s.get MGT_IMG_ADDR_ADDR * 8) = true) :
    s.engageApply err more = s.raise MGT_IMG_CTL_BUSY := if_pos h

theorem State.engageApply_reads (s u : State) (e : Option Nat) (err : HbmRead) (more : LineErrs)
    (hw : s.flashWaits (s.get MGT_IMG_ADDR_ADDR * 8) = false) (h : s.imageReads err more = (u, e)) :
    s.engageApply err more = if e.isSome then u.applying 1 else u.startApply := by
  unfold State.imageReads at h
  simp only [State.engageApply, hw, h, State.applying]
  rfl

/-- An apply that waits for no flash device leaves the engine with a result to report. -/
theorem State.engageApply_applying (s : State) (err : HbmRead) (more : LineErrs) (hw : s.flashWaits (s.get MGT_IMG_ADDR_ADDR * 8) = false) :
    ∃ (u : State) (r : Nat), s.engageApply err more = u.applying r := by
  rcases hreads : s.imageReads err more with ⟨u, e⟩
  rcases hrun : u.runEngine with ⟨v, r⟩
  rw [s.engageApply_reads u e err more hw hreads]
  split
  · exact ⟨u, 1, rfl⟩
  · exact ⟨v.barRun r, packApply r, u.startApply_eq v r hrun⟩

theorem State.engageApply_busy (s : State) (err : HbmRead) (more : LineErrs) : (s.engageApply err more).flag MGT_IMG_CTL_BUSY = true := by
  cases hw : s.flashWaits (s.get MGT_IMG_ADDR_ADDR * 8) with
  | true =>
    rw [s.engageApply_waits err more hw]
    exact s.flag_raise_self _ _ (by decide)
  | false =>
    obtain ⟨u, r, h⟩ := s.engageApply_applying err more hw
    rw [h, u.applying_busy]

theorem State.engageApply_error (s : State) (err : HbmRead) (more : LineErrs) (x : Nat) (hw : s.flashWaits (s.get MGT_IMG_ADDR_ADDR * 8) = false)
    (hx : (s.imageReads err more).2 = some x) : (s.engageApply err more).img = { s.img with applying := some 1 } := by
  have himg : (s.imageReads err more).1.img = s.img := (s.readErrs_keeps ..).img rfl
  rcases hreads : s.imageReads err more with ⟨u, e⟩
  rw [hreads] at hx himg
  rw [s.engageApply_reads u e err more hw hreads, if_pos (Option.isSome_iff_exists.mpr ⟨x, hx⟩), u.applying_img, himg]

theorem State.readErr_none (s : State) (a : Nat) (err : HbmRead) (hh : region a ≠ .hbm) (hl : region a ≠ .lsram ∨ err = .ok) :
    s.readErr a err = (s, false) := by
  unfold State.readErr
  split
  · rfl
  · split
    · contradiction
    · rcases hl with hl | hl <;> contradiction
    · rfl

theorem State.readErrs_single (s : State) (a len : Nat) (err : HbmRead) (h : s.readErr a err = (s, false)) :
    s.readErrs a len err [] = (s, none) := by
  have : ¬ a + max 1 len ≤ a := by omega
  simp [State.readErrs, this, h]

theorem State.runEngine_badHeader (s : State) (c : Nat) (h : s.hdrError (s.get MGT_IMG_ADDR_ADDR * 8) = some c) :
    s.runEngine = (s, ⟨some (c, 0), 0⟩) := by
  simp [State.runEngine, h]

theorem State.startApply_badHeader (s : State) (c : Nat) (h : s.hdrError (s.get MGT_IMG_ADDR_ADDR * 8) = some c) :
    s.startApply = (s.barRun ⟨some (c, 0), 0⟩).applying c := by
  simp [s.startApply_eq _ _ (s.runEngine_badHeader c h), packApply]

theorem State.barRun_header (s : State) (c : Nat) (hc : c ≤ 4) : s.barRun ⟨some (c, 0), 0⟩ = s := by
  have h5 : c ≠ 5 := by omega
  have h7 : ¬ 7 ≤ c := by omega
  simp [State.barRun, h5, h7]

/-! ### The engine ends -/

/-- What every end of an apply reports first (05 R155): BUSY clears, DONE, and the sections applied. -/
def State.applyReported (s : State) (n : Nat) : State :=
  let u := ((s.lower MGT_IMG_CTL_BUSY).raise MGT_IMG_CTL_DONE).set MGT_IMG_CTL_APPLIED 0 n
  { u with img := { u.img with applying := none } }

theorem State.applyReported_busy (s : State) (n : Nat) : (s.applyReported n).flag MGT_IMG_CTL_BUSY = false := by
  have hlow : (s.lower MGT_IMG_CTL_BUSY).get MGT_IMG_CTL_BUSY = 0 := s.get_lower_of_held _ _ (CycleSt.held_of_not_joins _ _ _ (by decide))
  calc (s.applyReported n).flag MGT_IMG_CTL_BUSY
      = ((s.lower MGT_IMG_CTL_BUSY).raise MGT_IMG_CTL_DONE).flag MGT_IMG_CTL_BUSY := State.flag_set_ne _ _ _ _ _ _ (by decide)
    _ = (s.lower MGT_IMG_CTL_BUSY).flag MGT_IMG_CTL_BUSY := State.flag_raise_ne _ _ _ _ _ (by decide)
    _ = false := by simp [State.flag, hlow]

theorem State.applyReported_done (s : State) (n : Nat) : (s.applyReported n).flag MGT_IMG_CTL_DONE = true :=
  (State.flag_set_ne _ _ _ _ _ _ (by decide)).trans (State.flag_raise_self _ _ _ (by decide))

/-- An apply that ends well: no error, and R27's bar on RUN is lifted. -/
def State.applyPassed (s : State) (n : Nat) : State :=
  let u := ((s.applyReported n).set MGT_IMG_CTL_ERRCODE 0 0).set MGT_IMG_CTL_FAILSECT 0 0
  { u with img := { u.img with failedSection := false } }

theorem State.applyEnd_passed (s : State) (n : Nat) : s.applyEnd none n = (s.applyPassed n).hubLevels := rfl

/-- An apply that ends with a failure, but for the refusal that it records. -/
def State.applyFailed (s : State) (c i n : Nat) : State :=
  (((s.applyReported n).raise MGT_IMG_CTL_ERR).set MGT_IMG_CTL_ERRCODE 0 c).set MGT_IMG_CTL_FAILSECT 0 i

theorem State.applyEnd_failed (s : State) (c i n : Nat) :
    ∃ reason detail, s.applyEnd (some (c, i)) n = ((s.applyFailed c i n).refuse reason detail).hubLevels := by
  by_cases h4 : c = 4
  · exact ⟨1, (s.applyFailed c i n).modeCode, by simp only [State.applyEnd, if_pos h4]; rfl⟩
  · by_cases h6 : c ≤ 3 ∨ c = 6
    · exact ⟨0xB, c, by simp only [State.applyEnd, if_neg h4, if_pos h6]; rfl⟩
    · exact ⟨7, i, by simp only [State.applyEnd, if_neg h4, if_neg h6]; rfl⟩

theorem State.refuse_hubLevels_keeps (s : State) (reason detail : Nat) :
    Keeps { regs := [.lec], fresh := true, refusals := true } s (s.refuse reason detail).hubLevels :=
  Keeps.refl _ s |>.andThen (s.refuse_keeps ..) |>.andThen (State.hubLevels_keeps _)

theorem State.applyReported_img (s : State) (n : Nat) : (s.applyReported n).img = { s.img with applying := none } := rfl

theorem State.applyReported_keeps (s : State) (n : Nat) : Keeps { regs := [.mgt], img := true } s (s.applyReported n) :=
  Keeps.refl _ s |>.andThen (s.lower_keeps ..) |>.andThen (State.raise_keeps ..) |>.andThen (State.set_keeps ..) |>.andThen (State.withImg_keeps ..)

theorem State.applyFailed_keeps (s : State) (c i n : Nat) : Keeps { regs := [.mgt] } (s.applyReported n) (s.applyFailed c i n) :=
  Keeps.refl _ _ |>.andThen (State.raise_keeps ..) |>.andThen (State.set_keeps ..) |>.andThen (State.set_keeps ..)

theorem State.applyFailed_fields (s : State) (c i n : Nat) (hc : c < 256) :
    (s.applyFailed c i n).flag MGT_IMG_CTL_BUSY = false ∧ (s.applyFailed c i n).flag MGT_IMG_CTL_ERR = true ∧
      (s.applyFailed c i n).get MGT_IMG_CTL_ERRCODE = c := by
  unfold State.applyFailed
  refine ⟨?_, ?_, ?_⟩
  · rw [State.flag_set_ne _ _ _ _ _ _ (by decide), State.flag_set_ne _ _ _ _ _ _ (by decide),
      State.flag_raise_ne _ _ _ _ _ (by decide), State.applyReported_busy]
  · rw [State.flag_set_ne _ _ _ _ _ _ (by decide), State.flag_set_ne _ _ _ _ _ _ (by decide),
      State.flag_raise_self _ _ _ (by decide)]
  · rw [State.get_set_ne _ _ _ _ _ _ (by decide), State.get_set_self]
    exact Nat.mod_eq_of_lt hc

/-- A failed apply reports its code and clears BUSY; it changes no storage (05 R155). -/
theorem State.applyEnd_failed_reports (s : State) (c i n : Nat) (hc : c < 256) :
    (s.applyEnd (some (c, i)) n).flag MGT_IMG_CTL_BUSY = false ∧ (s.applyEnd (some (c, i)) n).flag MGT_IMG_CTL_ERR = true ∧
      (s.applyEnd (some (c, i)) n).get MGT_IMG_CTL_ERRCODE = c ∧ (s.applyEnd (some (c, i)) n).img = { s.img with applying := none } ∧
      (s.applyEnd (some (c, i)) n).cells = s.cells ∧ (s.applyEnd (some (c, i)) n).mem = s.mem := by
  obtain ⟨reason, detail, h⟩ := s.applyEnd_failed c i n
  obtain ⟨hbusy, herr, hcode⟩ := s.applyFailed_fields c i n hc
  have hr := s.applyReported_keeps n
  have hf := s.applyFailed_keeps c i n
  have hk := (s.applyFailed c i n).refuse_hubLevels_keeps reason detail
  rw [h]
  exact ⟨(hk.flag _ _ (by decide)).trans hbusy, (hk.flag _ _ (by decide)).trans herr, (hk.regs _ _ (by decide)).trans hcode,
    (hk.img rfl).trans ((hf.img rfl).trans (s.applyReported_img n)), (hk.cells rfl).trans ((hf.cells rfl).trans (hr.cells rfl)),
    (hk.mem rfl).trans ((hf.mem rfl).trans (hr.mem rfl))⟩

theorem State.applyPassed_img (s : State) (n : Nat) : (s.applyPassed n).img = { s.img with applying := none, failedSection := false } := rfl

theorem State.applyPassed_fields (s : State) (n : Nat) :
    (s.applyPassed n).flag MGT_IMG_CTL_BUSY = false ∧ (s.applyPassed n).flag MGT_IMG_CTL_DONE = true ∧
      (s.applyPassed n).get MGT_IMG_CTL_ERRCODE = 0 := by
  refine ⟨?_, ?_, ?_⟩
  · rw [State.applyPassed, (State.withImg_keeps ..).flag _ _ (by decide), State.flag_set_ne _ _ _ _ _ _ (by decide),
      State.flag_set_ne _ _ _ _ _ _ (by decide), State.applyReported_busy]
  · rw [State.applyPassed, (State.withImg_keeps ..).flag _ _ (by decide), State.flag_set_ne _ _ _ _ _ _ (by decide),
      State.flag_set_ne _ _ _ _ _ _ (by decide), State.applyReported_done]
  · rw [State.applyPassed, (State.withImg_keeps ..).regs _ _ (by decide), State.get_set_ne _ _ _ _ _ _ (by decide), State.get_set_self]
    rfl

/-- An apply whose sections all passed reports no error, and lifts the bar on RUN (05 R155, 01 R27). -/
theorem State.applyEnd_passed_reports (s : State) (n : Nat) :
    (s.applyEnd none n).flag MGT_IMG_CTL_BUSY = false ∧ (s.applyEnd none n).flag MGT_IMG_CTL_DONE = true ∧
      (s.applyEnd none n).get MGT_IMG_CTL_ERRCODE = 0 ∧ (s.applyEnd none n).img = { s.img with applying := none, failedSection := false } := by
  obtain ⟨hbusy, hdone, hcode⟩ := s.applyPassed_fields n
  have hk := (s.applyPassed n).hubLevels_keeps
  rw [s.applyEnd_passed n]
  exact ⟨(hk.flag _ _ (by decide)).trans hbusy, (hk.flag _ _ (by decide)).trans hdone, (hk.regs _ _ (by decide)).trans hcode,
    (hk.img rfl).trans (s.applyPassed_img n)⟩

theorem exec_applyComplete (s : State) (r : Nat) (h : s.img.applying = some r) :
    exec .applyComplete s = .next (s.applyEnd (if r % 256 = 0 then none else some (r % 256, r / 256 % 4096)) (r / 2 ^ 20)) := by
  show Host.Outcome.next s.applyDone = _
  simp only [State.applyDone, h]

theorem toNat_coreIdentity (n : Core) : (BitVec.ofNat 8 (n.val + 1) : Byte).toNat = n.val + 1 := by
  rw [BitVec.toNat_ofNat]
  omega

/-- Settles O28. A claim whose request is served runs through the dictionary's write of 0x1200:05 to `claimJudge`, and what its reply
writes is known from the `Keeps` rules; APPLY is followed through its branches, with the same rules for what a read error and the event
sources leave alone. -/
theorem imageLoading : Obligations.ImageLoading := by
  unfold Obligations.ImageLoading
  refine ⟨?loaderClaim, ?loaderClaimRefused, ?loaderClaimHost, ?loaderClaimCore, ?claimCodes, ?identities, ?loaderClaimArrives,
    ?imgAddrWrite, ?imgAddrForeign, ?imageRegistersOff, ?apply, ?applyParityError, ?applyBadHeader, ?applyForeign, ?applyElsewhere,
    ?applyBusy, ?applyComplete, ?applyCompleteFailed, ?applyCompleteNone⟩
  case loaderClaim =>
    intro a v seq o s hserving hw hj
    exact ⟨exec_loaderClaim_taken a v seq o s hserving hw hj, State.setOwner_owner .., State.setOwner_claimAt ..⟩
  case loaderClaimRefused => exact fun a v seq c s => exec_loaderClaim_refused a v seq c s
  case loaderClaimHost =>
    intro seq s hserving hw ho
    have hj : s.claimJudge .host 0x80 = .inr 0x80 := s.claimJudge_own .host (by decide) ho
    obtain ⟨howner, hclaim, hkeeps⟩ := s.claimed_keeps
      { regs := [.pci, .lec, .gec], fresh := true, msixPba := true, owner := true, xports := true, out := true } _ .host 0x80
      (State.reply_host_keeps _ (modeResponse seq.toNat 5 0)) rfl rfl rfl rfl
    exact ⟨_, exec_loaderClaim_taken .host 0x80 seq 0x80 s hserving hw hj, howner, fun h0 => hclaim.trans (if_neg (by omega)),
      State.waiting_reply_host .., hkeeps⟩
  case loaderClaimCore =>
    intro n seq s hserving hw ho
    have hj : s.claimJudge (.core n) (n.val + 1) = .inr (n.val + 1) := s.claimJudge_own (.core n) (Nat.succ_ne_zero _) ho
    obtain ⟨howner, hclaim, hkeeps⟩ := s.claimed_keeps { regs := [.mgt], mem := true, owner := true, xports := true } _ (.core n)
      (n.val + 1) (State.reply_core_keeps _ n (modeResponse seq.toNat 5 0)) rfl rfl rfl rfl
    have hexec := exec_loaderClaim_taken (.core n) (BitVec.ofNat 8 (n.val + 1)) seq (n.val + 1) s (by rwa [toNat_coreIdentity]) hw
      (by rwa [toNat_coreIdentity])
    exact ⟨_, hexec, howner, fun h0 => hclaim.trans (if_neg (by omega)), State.waiting_reply_core .., hkeeps⟩
  case claimCodes =>
    refine fun a v s => ⟨?_, ?_, ?_, ?_, ?_, ?_⟩
    · exact s.claimJudge_no_identity a v
    · rintro h rfl
      exact s.claimJudge_release a h
    · exact s.claimJudge_other a v
    · rintro h rfl ho
      exact s.claimJudge_own a h ho
    · rintro h rfl h0 ho hlate
      rw [s.claimJudge_taken a h h0 ho, if_neg]
      rintro ⟨hhost, hlt, hat⟩
      rcases hlate with hl | hl | hl
      · exact hl hhost
      · omega
      · exact hl hat
    · rintro rfl rfl h0 hlt hat
      have h := s.claimJudge_taken .host (by decide) (by omega) (show s.owner ≠ 0x80 by omega)
      rwa [if_pos ⟨rfl, hlt, hat⟩] at h
  case identities => exact ⟨rfl, fun _ => rfl, rfl, fun _ => rfl, fun _ => rfl⟩
  case loaderClaimArrives =>
    rintro a v seq s u hfree rfl
    exact ⟨fun h => congrArg Host.Outcome.next (s.writeCommand_arrives a _ hfree h),
      fun h => ⟨congrArg Host.Outcome.next (s.writeCommand_only_arrives a _ hfree h), ((s.arrive_keeps a _).owner rfl).1⟩⟩
  case imgAddrWrite =>
    intro a v s hd ho
    refine ⟨_, exec_imgAddrWrite_owner a v s hd ho, ?_, (s.set_keeps ..).mono⟩
    rw [State.get_set_self]
    exact Nat.mod_mod _ _
  case imgAddrForeign =>
    exact fun a v s hd ho => ⟨_, exec_imgAddrWrite_foreign a v s hd ho, s.loadForeign_addr, s.loadForeign_flag⟩
  case imageRegistersOff => exact fun a v err more s hd => ⟨exec_imgAddrWrite_off a v s hd, exec_apply_off a err more s hd⟩
  case apply =>
    intro a err more s hd ho hb hm
    refine ⟨_, exec_apply_on a err more s hd, ?_⟩
    rw [s.applyWrite_idle a err more ho hb, if_pos hm]
    refine ⟨s.engageApply_busy err more, fun hw => ?_⟩
    obtain ⟨u, r, h⟩ := s.engageApply_applying err more hw
    rw [h, u.applying_img]
    exact Option.some_ne_none r
  case applyParityError =>
    intro a err more x s hd ho hb hm hw hx
    refine ⟨_, exec_apply_on a err more s hd, ?_⟩
    rw [s.applyWrite_idle a err more ho hb, if_pos hm]
    exact ⟨s.engageApply_error err more x hw hx, s.engageApply_busy err more⟩
  case applyBadHeader =>
    intro a err c s hd ho hb hm hh hl hw he hc
    have hreads : s.imageReads err [] = (s, none) := s.readErrs_single _ _ err (s.readErr_none _ err hh hl)
    have hstart : s.applyWrite a err = s.applying c := by
      rw [s.applyWrite_idle a err [] ho hb, if_pos hm, s.engageApply_reads s none err [] hw hreads, if_neg (by simp),
        s.startApply_badHeader c he, s.barRun_header c hc]
    refine ⟨_, exec_apply_on a err [] s hd, ?_⟩
    rw [hstart]
    exact ⟨rfl, rfl, s.applying_busy c, s.applying_keeps c⟩
  case applyForeign =>
    intro a err more s hd ho
    have hk := s.loadForeign_keeps
    refine ⟨_, exec_apply_on a err more s hd, ?_⟩
    rw [s.applyWrite_foreign a err more ho]
    exact ⟨s.loadForeign_flag, hk.img rfl, hk.cells rfl, hk.mem rfl⟩
  case applyElsewhere =>
    intro a err more s hd ho hb hready hhold hrun
    obtain ⟨_, herr, hcode, _, hcells, hmem⟩ := s.applyEnd_failed_reports 4 0 0 (by decide)
    refine ⟨_, exec_apply_on a err more s hd, ?_⟩
    rw [s.applyWrite_idle a err more ho hb, if_neg (by simp [hready, hhold, hrun])]
    exact ⟨herr, hcode, hcells, hmem⟩
  case applyBusy =>
    intro a err more s ho hb
    cases hd : s.domOn 763 with
    | false => exact exec_apply_off a err more s hd
    | true => rw [exec_apply_on a err more s hd, s.applyWrite_busy a err more ho hb]
  case applyComplete =>
    intro r s h hr
    obtain ⟨hbusy, hdone, hcode, himg⟩ := s.applyEnd_passed_reports (r / 2 ^ 20)
    have hexec := exec_applyComplete s r h
    rw [if_pos hr] at hexec
    exact ⟨_, hexec, hbusy, hdone, hcode, by rw [himg], by rw [himg]⟩
  case applyCompleteFailed =>
    intro r s h hr
    obtain ⟨hbusy, herr, hcode, himg, _, _⟩ := s.applyEnd_failed_reports (r % 256) (r / 256 % 4096) (r / 2 ^ 20) (by omega)
    have hexec := exec_applyComplete s r h
    rw [if_neg hr] at hexec
    exact ⟨_, hexec, hbusy, herr, hcode, by rw [himg]⟩
  case applyCompleteNone =>
    intro s h
    show Host.Outcome.next s.applyDone = _
    simp only [State.applyDone, h]

end Sys2Proof.Machine
end

section
/-! SUPPORT. What the operations of cells and of the fabric write beyond their caller: results that take effect, parity errors, margins, deadline
faults, flits that are launched, and what is logged of them. -/

namespace Sys2Proof.Machine

set_option Elab.async false

/-! ### One rule for each update of the state -/

theorem State.setCell_keeps (s : State) (c : Nat) (x : Cell) : Keeps { cells := true } s (s.setCell c x) :=
  { Keeps.refl _ s with cells := nofun }

theorem State.withFlits_keeps (s : State) (l : List Flit) : Keeps { flits := true } s { s with flits := l } :=
  { Keeps.refl _ s with flits := nofun }

theorem State.withPads_keeps (s : State) (l : List Pad) : Keeps { flits := true } s { s with pads := l } :=
  { Keeps.refl _ s with flits := nofun }

theorem State.withUflits_keeps (s : State) (l : List UFlit) : Keeps { uflits := true } s { s with uflits := l } :=
  { Keeps.refl _ s with uflits := nofun }

theorem State.withUsed_keeps (s : State) (l : List Nat) : Keeps { uflits := true } s { s with uUsed := l } :=
  { Keeps.refl _ s with uflits := nofun }

theorem State.withSends_keeps (s : State) (l : List Send) : Keeps { sends := true } s { s with sends := l } :=
  { Keeps.refl _ s with sends := nofun }

theorem State.withTrigs_keeps (s : State) (l : List (Nat × TrigRec)) : Keeps { trigs := true } s { s with trigs := l } :=
  { Keeps.refl _ s with trigs := nofun }

theorem State.withWarned_keeps (s : State) (l : List (Nat × Bool)) : Keeps { warned := true } s { s with warned := l } :=
  { Keeps.refl _ s with warned := nofun }

theorem State.withEnts_keeps (s : State) (l : List (Nat × Nat)) : Keeps { ents := true } s { s with ents := l } :=
  { Keeps.refl _ s with ents := nofun }

theorem State.withEvents_keeps (s : State) (e : EventPath) : Keeps { regs := [.lec] } s { s with events := e } :=
  { Keeps.refl _ s with events := fun h => absurd (List.mem_singleton.mpr rfl) h }

/-! ### Cells -/

theorem State.lecPulse_keeps (s : State) (g : Nat) : Keeps levelWrites s (s.lecPulse g) := by
  unfold State.lecPulse
  exact .ite ((s.lecSample_keeps g true).andThen (State.withEvents_keeps ..)) (.refl _ s)

theorem State.cellLevel_keeps (s : State) (g : Nat) : Keeps levelWrites s (s.cellLevel g) := s.lecSample_keeps ..

/-- The writes of a flag of a cell (03 R89). -/
def cellWrites : Writes := { regs := [.cell, .lec], fresh := true }

theorem State.cellFlag_keeps (s : State) (f : Field) (c : Nat) (hf : f.bank = .cell) : Keeps cellWrites s (s.cellFlag f c) := by
  have hr : Keeps { regs := [.cell] } s (s.raise f c) := hf ▸ s.raise_keeps f c
  exact hr.mono.andThen (State.cellLevel_keeps ..)

/-- The writes of results that take effect (03 R62). -/
def settleWrites : Writes := { cellWrites with cells := true }

theorem State.settleCell_keeps (s : State) (c : Nat) : Keeps settleWrites s (s.settleCell c) := by
  unfold State.settleCell
  refine .ite (.refl _ s) ?_
  split
  next y w _ =>
    have hc : Keeps settleWrites s (s.setCell c y) := (s.setCell_keeps c y).mono
    exact .ite (hc.andThen (State.cellFlag_keeps _ _ _ rfl)) hc

theorem State.capturePerr_keeps (s : State) (c unit addr bytes : Nat) : Keeps { regs := [.cell] } s (s.capturePerr c unit addr bytes) :=
  .ite (.refl _ s) (Keeps.refl _ s |>.andThen (s.set_keeps ..) |>.andThen (State.set_keeps ..) |>.andThen (State.set_keeps ..)
    |>.andThen (State.raise_keeps ..))

/-- The writes of a fault of a cell's storage (03 R82, R84). -/
def cellFaultWrites : Writes := { faultWrites with regs := .cell :: faultWrites.regs }

theorem State.cellParity_keeps (s : State) (c unit addr bytes cause : Nat) :
    Keeps cellFaultWrites s (s.cellParity c unit addr bytes cause) := by
  unfold State.cellParity
  extract_lets captured
  have hc : Keeps cellFaultWrites s captured :=
    (s.cellFlag_keeps CELL_STAT_PERR c rfl).mono.andThen (State.capturePerr_keeps ..)
  exact .ite (hc.andThen (captured.bump_keeps ..) |>.andThen (State.faultCause_keeps ..)) hc

/-! ### Margins and deadline faults -/

/-- A field of a group that may be written. -/
theorem State.set_keeps_of_mem {w : Writes} (s : State) (f : Field) (i v : Nat) (hf : f.bank ∈ w.regs) : Keeps w s (s.set f i v) :=
  { Keeps.refl w s with
    regs := fun g j hg => s.get_set_bank f g i j v (fun e => hg (e ▸ hf))
    regsOk := rising_sput _ _ _ _ }

theorem State.raise_keeps_of_mem {w : Writes} (s : State) (f : Field) (i : Nat) (hf : f.bank ∈ w.regs) : Keeps w s (s.raise f i) :=
  { s.set_keeps_of_mem f i 1 hf with }

/-- The writes of a margin register of a lane, a TME or a core, and of its warning (02 R57 to R59). -/
def marginWrites : Writes := { regs := [.lnk, .tme, .cpo, .lec], fresh := true, warned := true }

theorem State.margin_keeps (s : State) (fMin fThr fWarn : Field) (i slack g : Nat) (hm : fMin.bank ∈ marginWrites.regs)
    (hw : fWarn.bank ∈ marginWrites.regs) : Keeps marginWrites s (s.margin fMin fThr fWarn i slack g) := by
  unfold State.margin
  extract_lets v noted
  have hn : Keeps marginWrites s noted := s.set_keeps_of_mem _ _ _ hm
  exact .ite (.ite (hn.trans (noted.raise_keeps_of_mem _ _ hw) |>.andThen (State.withWarned_keeps ..) |>.andThen (State.lecPulse_keeps ..)) hn)
    (.refl _ s)

theorem State.deadline_keeps (s : State) (f : Field) (code : Nat) (g : Option Nat) (tile loc pcell d0 d1 : Nat) (hf : f.bank ∈ faultWrites.regs) :
    Keeps faultWrites s (s.deadline f code g tile loc pcell d0 d1) := by
  unfold State.deadline
  extract_lets faulted
  have hd : Keeps faultWrites s faulted :=
    (s.raise_keeps_of_mem f 0 hf).andThen (State.bump_keeps ..) |>.trans (State.fault_keeps ..)
  split
  · exact hd.andThen (faulted.lecPulse_keeps _)
  · exact hd

theorem State.lateFlit_keeps (s : State) (c slot path arr : Nat) : Keeps faultWrites s (s.lateFlit c slot path arr) :=
  s.deadline_keeps _ _ _ _ _ _ _ _ (by decide)

theorem State.lateMem_keeps (s : State) (c tag cyc stroke : Nat) : Keeps faultWrites s (s.lateMem c tag cyc stroke) :=
  s.deadline_keeps _ _ _ _ _ _ _ _ (by decide)

theorem State.lateService_keeps (s : State) (c ch core : Nat) : Keeps faultWrites s (s.lateService c ch core) :=
  s.deadline_keeps _ _ _ _ _ _ _ _ (by decide)

/-! ### A HALT (04 R127) -/

theorem State.noteHalt_keeps (s : State) : Keeps { regs := [.trc] } s s.noteHalt :=
  .ite (.refl _ s) (Keeps.refl _ s |>.andThen (s.set_keeps ..) |>.andThen (State.raise_keeps ..))

theorem State.haltCell_keeps (s : State) (c : Nat) : Keeps freezeWrites s (s.haltCell c) := by
  unfold State.haltCell
  extract_lets t cl marked captured noted
  have hm : Keeps freezeWrites s marked := (s.setBits_keeps ..).mono
  have hc : Keeps freezeWrites s captured :=
    .ite hm (hm.andThen (marked.set_keeps ..) |>.andThen (State.set_keeps ..) |>.andThen (State.raise_keeps ..))
  exact hc.andThen (captured.lecSample_keeps ..) |>.andThen (State.noteHalt_keeps _) |>.trans (noted.traceEvent_keeps ..)
    |>.andThen (State.requestHold_keeps ..)

/-! ### The fabric -/

theorem State.fabLevels_keeps (s : State) (die : Nat) : Keeps levelWrites s (s.fabLevels die) :=
  (s.lecSample_keeps ..).trans (State.lecSample_keeps ..)

theorem State.fabErr_keeps (s : State) (die kind point path : Nat) : Keeps faultWrites s (s.fabErr die kind point path) := by
  unfold State.fabErr
  extract_lets flagged scyc captured faulted
  have hf : Keeps faultWrites s flagged := by
    unfold flagged
    cases hk : fabFlag kind with
    | none => exact .refl _ s
    | some f =>
      have hf : f.bank = .fab := by
        unfold fabFlag at hk
        split at hk <;> cases hk <;> rfl
      exact s.raise_keeps_of_mem f die (hf ▸ by decide)
  have hc : Keeps faultWrites s captured := .ite hf (hf.andThen (flagged.set_keeps ..) |>.andThen (State.set_keeps ..) |>.andThen (State.set_keeps ..)
    |>.andThen (State.set_keeps ..) |>.andThen (State.raise_keeps ..))
  have hd : Keeps faultWrites s faulted := .ite (hc.andThen (captured.bump_keeps ..) |>.trans (State.fault_keeps ..)) hc
  exact hd.andThen (faulted.fabLevels_keeps die)

theorem State.inject_keeps (s : State) (place : UPoint) (cls dest src : Nat) (pay : List Nat) (bad : Byte) (tag : Nat) (last : Bool) :
    Keeps { uflits := true } s (s.inject place cls dest src pay bad tag last) := s.withUflits_keeps _

/-- The writes of a copy for the trace block, which may be discarded (06 R182). -/
def copyWrites : Writes := { regs := [.fab, .trc, .lec], fresh := true, uflits := true }

theorem State.traceDrop_keeps (s : State) (t : Nat) : Keeps copyWrites s (s.traceDrop t) :=
  Keeps.refl _ s |>.andThen (s.raise_keeps ..) |>.andThen (State.fabLevels_keeps ..) |>.andThen (State.raise_keeps ..)
    |>.andThen (State.bump_keeps ..)

theorem State.traceCopy_keeps (s : State) (kind t : Nat) (place router : UPoint) (src path : Nat) (v : Word) (bad : Byte) (since : Nat) :
    Keeps copyWrites s (s.traceCopy kind t place router src path v bad since) := by
  unfold State.traceCopy
  exact .ite (s.traceDrop_keeps t) (s.withUflits_keeps _).mono

/-- The writes of a flit that departs or enters (06 R161, R170, R171). -/
def launchWrites : Writes := { faultWrites with tiles := true, flits := true, uflits := true }

theorem State.spoilEntry_keeps (s : State) (t p : Nat) (m : Byte) : Keeps { tiles := true } s (s.spoilEntry t p m) := s.setTile_keeps ..

theorem State.launch_keeps (s : State) (t src lcell : Nat) (ingress : Option Nat) (path : Nat) (v : Word) (bad : Byte) (epoch : Bool)
    (dep : Nat) (hit : Upset) : Keeps launchWrites s (s.launch t src lcell ingress path v bad epoch dep hit) := by
  unfold State.launch
  extract_lets spoilt point router
  have hs : Keeps launchWrites s spoilt := by
    unfold spoilt
    split
    · exact (s.spoilEntry_keeps ..).mono
    · exact .refl _ s
  split
  extract_lets e delay egr r dcell copied
  have hc : Keeps launchWrites s copied := by
    refine .ite ?_ hs
    split
    · exact hs.andThen (State.traceCopy_keeps ..)
    · exact hs.andThen (State.traceCopy_keeps ..)
  refine .ite (hs.andThen (State.fabErr_keeps ..)) (.ite (hs.andThen (State.fabErr_keeps ..)) ?_)
  split
  exact hc.andThen (copied.withFlits_keeps _)

theorem bit_toNat (w : Word) (i : Nat) : bit w.toNat i = w.getLsbD i := by
  rw [BitVec.getLsbD, Nat.testBit_eq_decide_div_mod_eq]
  rfl

/-- A SEND whose path-table entry can be used becomes a flit of its tile, path, value, parity defects and epoch bit (06 R161). -/
theorem State.launch_sent (s : State) (t src lcell path : Nat) (v w : Word) (bad : Byte) (epoch : Bool) (dep : Nat)
    (hw : s.pathLookup t path = (w, 0)) (he : badEntry t w.toNat = false) :
    ∃ f, (s.launch t src lcell none path v bad epoch dep).flits = s.flits ++ [f] ∧ f.tile = t ∧ f.path = path ∧ f.val = v ∧ f.bad = bad ∧
      f.epoch = epoch ∧ f.egr = w.getLsbD 28 := by
  unfold State.launch
  extract_lets spoilt point router
  split
  next w' bad' hw' =>
    obtain ⟨rfl, rfl⟩ := Prod.mk.inj (hw.symm.trans hw')
    extract_lets e delay egr r dcell copied
    have hc : copied.flits = s.flits := by
      have hk : Keeps copyWrites s copied := .ite (State.traceCopy_keeps ..) (.refl _ s)
      exact (hk.flits rfl).1
    rw [if_neg (by simp), if_neg (by simp [e, he])]
    split
    exact ⟨_, by rw [← hc], rfl, rfl, rfl, BitVec.xor_zero, rfl, bit_toNat w 28⟩

end Sys2Proof.Machine
end

section
/-! SUPPORT. One idle FCLK cycle (log 1): what each of its parts writes, and what the event path does at a CCLK edge. -/

namespace Sys2Proof.Machine

set_option Elab.async false

/-! ### What departs and enters -/

theorem State.passCrossbar_keeps (s : State) (t l : Nat) : Keeps { cells := true } s (s.passCrossbar t l) := by
  unfold State.passCrossbar
  split
  · exact s.setCell_keeps ..
  · exact .refl _ s

theorem State.pathLookup_of_tiles {s t : State} (h : t.tiles = s.tiles) (n p : Nat) : t.pathLookup n p = s.pathLookup n p := by
  simp only [State.pathLookup, State.pathEntry, State.tile, h]

/-- The writes of the flits that depart and enter in a cycle, and of what is logged of them. -/
def flightWrites : Writes := { launchWrites with cells := true, mem := true }

theorem State.departAll_keeps (s : State) : Keeps flightWrites { s with sends := [] } s.departAll :=
  .foldl (fun s x => Keeps.refl _ s |>.andThen (s.passCrossbar_keeps ..) |>.andThen (State.launch_keeps ..)) _ _

theorem State.logFullFault_keeps (s : State) (t : Nat) (out : Bool) : Keeps faultWrites s (s.logFullFault t out) :=
  Keeps.refl _ s |>.andThen (s.raise_keeps ..) |>.trans (State.faultCause_keeps ..) |>.andThen (State.lecPulse_keeps ..)

theorem State.putLog_keeps (s : State) (t : Nat) (out : Bool) (r : Nat) : Keeps { mem := true, tiles := true } s (s.putLog t out r) :=
  Keeps.refl _ s |>.andThen (s.setNum_keeps ..) |>.andThen (State.setTile_keeps ..)

theorem State.appendLog_keeps (s : State) (t : Nat) (out : Bool) (r : Nat) : Keeps flightWrites s (s.appendLog t out r).1 := by
  unfold State.appendLog
  rw [apply_ite Prod.fst]
  exact .ite (s.logFullFault_keeps ..).mono (s.putLog_keeps ..).mono

theorem State.ingress_keeps (s : State) (g k : Nat) (v : Word) (bad : Byte) (epoch : Bool) (hit : Upset) :
    Keeps flightWrites s (s.ingress g k v bad epoch hit) := (s.launch_keeps ..).mono

theorem State.padLaunch_keeps (s : State) (p : Pad) : Keeps flightWrites s (s.padLaunch p) := by
  unfold State.padLaunch
  extract_lets entered
  have he : Keeps flightWrites s entered := s.ingress_keeps ..
  exact .ite (.refl _ s) (.ite (he.trans (entered.appendLog_keeps ..)) he)

theorem State.consume_keeps (s : State) (t n : Nat) : Keeps { tiles := true } s (s.consume t n) := s.setTile_keeps ..

theorem State.replayBeats_keeps (s : State) (t : Nat) : Keeps flightWrites s (s.replayBeats t) :=
  .foldl (fun s p => Keeps.refl _ s |>.andThen (s.consume_keeps ..) |>.trans (State.ingress_keeps ..)) _ s

theorem State.padTick_keeps (s : State) : Keeps flightWrites s s.padTick := by
  unfold State.padTick
  extract_lets due launched
  have hl : Keeps flightWrites s launched :=
    (s.withPads_keeps _).mono.trans (.foldl (fun s p => s.padLaunch_keeps p) ..)
  exact .ite (hl.trans (.foldl (fun s t => s.replayBeats_keeps t) ..)) hl

/-! ### The fabric's points -/

theorem State.sidebandDrop_keeps (s : State) (p : Nat) (f : Flit) : Keeps flightWrites s (s.sidebandDrop p f) :=
  Keeps.refl _ s |>.andThen (s.withFlits_keeps _) |>.andThen (State.fabErr_keeps ..)

theorem State.noteReserved_keeps (s : State) (die : Nat) : Keeps flightWrites s (s.noteReserved die) :=
  .ite (Keeps.refl _ s |>.andThen (s.raise_keeps ..) |>.andThen (State.fabLevels_keeps ..)) (.refl _ s)

theorem State.collision_keeps (s : State) (p : Nat) : Keeps flightWrites s (s.collision p) := by
  unfold State.collision
  extract_lets here cap lost die win lo n point dropped counted captured
  have hc : Keeps flightWrites s counted :=
    Keeps.refl _ s |>.andThen (s.withFlits_keeps _) |>.andThen (State.raise_keeps ..) |>.andThen (State.bump_keeps ..)
  have hd : Keeps flightWrites s captured := .ite hc (hc.andThen (counted.set_keeps ..) |>.andThen (State.set_keeps ..)
    |>.andThen (State.set_keeps ..) |>.andThen (State.set_keeps ..) |>.andThen (State.raise_keeps ..) |>.andThen (State.set_keeps ..)
    |>.andThen (State.set_keeps ..))
  exact hd.andThen (captured.fault_keeps ..) |>.andThen (State.fabLevels_keeps ..)

theorem State.pointCycle_keeps (s : State) (p : Nat) : Keeps flightWrites s (s.pointCycle p) := by
  unfold State.pointCycle
  extract_lets wrong checked noted received
  have hc : Keeps flightWrites s checked := .ite (.foldl (fun s f => s.sidebandDrop_keeps p f) _ s) (.refl _ s)
  have hn : Keeps flightWrites s noted := hc.trans (checked.noteReserved_keeps _)
  have hr : Keeps flightWrites s received := .ite (hn.trans (.foldl (fun s f => (s.fabErr_keeps ..).mono) ..)) hn
  exact .ite (hr.trans (received.collision_keeps p)) hr

theorem State.fabricCycle_keeps (s : State) : Keeps flightWrites s s.fabricCycle :=
  (s.withFlits_keeps _).mono.trans (.foldl (fun s p => s.pointCycle_keeps p) ..)

/-! ### Quad ports -/

/-- The writes of the quad ports: queues of the lanes, and what becomes of a flit that finds no place there (07 R194, R195). -/
def portWrites : Writes := { faultWrites with regs := .lnk :: faultWrites.regs, flits := true }

theorem State.laneFlag_keeps (s : State) (f : Field) (n : Nat) (hf : f.bank = .lnk) : Keeps portWrites s (s.laneFlag f n) :=
  (s.raise_keeps_of_mem f n (hf ▸ by decide)).andThen (State.lecSample_keeps ..) |>.andThen (State.lecSample_keeps ..)

theorem State.txLate_keeps (s : State) (n : Nat) : Keeps portWrites s (s.txLate n) :=
  (s.laneFlag_keeps _ n rfl).andThen (State.fault_keeps ..)

theorem State.portTake_keeps (s : State) (g : Nat) : Keeps portWrites s (s.portTake g) := by
  unfold State.portTake
  split
  · exact .refl _ s
  · extract_lets n taken
    have ht : Keeps portWrites s taken := (s.withFlits_keeps _).mono
    exact .ite (ht.trans (taken.laneFlag_keeps _ n rfl)) (.ite (ht.trans (taken.txLate_keeps n)) (ht.andThen (taken.setLane_keeps ..)))

theorem State.portTick_keeps (s : State) : Keeps portWrites s s.portTick := .foldl (fun s g => s.portTake_keeps g) _ s

/-! ### Requests to the tile memory engines -/

/-- The writes of requests that arrive at a TME (13 R362). -/
def arrivalWrites : Writes := { faultWrites with regs := .tme :: faultWrites.regs, tiles := true }

theorem State.queueFull_keeps (s : State) (t : Nat) (q : MemReq) : Keeps arrivalWrites s (s.queueFull t q) := by
  unfold State.queueFull
  extract_lets noted
  have hn : Keeps arrivalWrites s noted :=
    Keeps.refl _ s |>.andThen (s.raise_keeps ..) |>.andThen (State.tmeCapture_keeps ..) |>.andThen (State.tmeLevel_keeps ..)
  exact hn.andThen (noted.fault_keeps ..)

theorem State.memArrive_keeps (s : State) (t : Nat) (q : MemReq) : Keeps arrivalWrites s (s.memArrive t q) := by
  unfold State.memArrive
  extract_lets x left
  have hl : Keeps arrivalWrites s left := (s.setTile_keeps ..).mono
  exact .ite (hl.andThen (left.setTile_keeps ..)) (hl.trans (left.queueFull_keeps ..))

theorem State.memTick_keeps (s : State) : Keeps arrivalWrites s s.memTick :=
  .foldl (fun s _ => .foldl (fun s _ => s.memArrive_keeps ..) _ s) _ s

/-! ### The trace window -/

/-- The writes of the trace block in an HCLK cycle (18 R476, R479). -/
def ringWrites : Writes := { traceWrites with mem := true }

theorem State.trcLevel_keeps (s : State) : Keeps levelWrites s s.trcLevel := s.lecSample_keeps ..

theorem State.trcAdvance_keeps (s : State) : Keeps { regs := [.trc] } s s.trcAdvance := by
  unfold State.trcAdvance
  exact .ite (s.set_keeps ..).mono (.ite (Keeps.refl _ s |>.andThen (s.set_keeps ..) |>.andThen (State.raise_keeps ..))
    (Keeps.refl _ s |>.andThen (s.set_keeps ..) |>.andThen (State.raise_keeps ..)))

theorem State.trcWrite_keeps (s : State) : Keeps ringWrites s s.trcWrite := by
  unfold State.trcWrite
  split
  next => exact .refl _ s
  next r rest _ =>
    extract_lets a _ taken
    have ht : Keeps ringWrites s taken := (s.withTrace_keeps _).mono
    have hm : Keeps ringWrites s (if taken.domOn (704 + a / 0x900000000) then taken.setNum a 32 r else taken) :=
      .ite (ht.andThen (taken.setNum_keeps ..)) ht
    exact .ite (hm.andThen (State.trcAdvance_keeps _) |>.andThen (State.trcLevel_keeps _))
      (ht.andThen (taken.raise_keeps ..) |>.andThen (State.lower_keeps ..) |>.andThen (State.trcLevel_keeps _))

theorem State.trcNext_keeps (s : State) : Keeps ringWrites s s.trcNext := by
  unfold State.trcNext
  split
  · extract_lets _ u t _
    have hu : Keeps ringWrites s u := (s.withTrace_keeps _).mono
    exact .ite (.refl _ s) (hu.andThen (u.trcTake_keeps ..) |>.andThen (t.withTrace_keeps _))
  · exact .refl _ s

theorem State.trcEdge_keeps (s : State) : Keeps ringWrites s s.trcEdge := by
  unfold State.trcEdge
  exact .ite (.refl _ s) ((Keeps.ite s.trcWrite_keeps (.refl _ s)).trans (State.trcNext_keeps _))

/-! ### Samples, assignments and the CAN ports -/

theorem State.sampleFresh_keeps (s : State) : Keeps levelWrites s s.sampleFresh := .foldl (fun s _ => s.lecSample_keeps ..) _ s

/-- The writes of an assignment of a GEC input (12 R340). -/
def assignWrites : Writes := { levelWrites with regs := [.gec, .lec] }

theorem State.gecAssign_keeps (s : State) (i : Nat) : Keeps { regs := [.gec] } s (s.gecAssign i) := by
  unfold State.gecAssign
  refine .ite (s.set_keeps ..).mono ?_
  split
  · exact Keeps.refl _ s |>.andThen (s.set_keeps ..) |>.andThen (State.set_keeps ..)
  · exact Keeps.refl _ s |>.andThen (s.set_keeps ..) |>.andThen (State.raise_keeps ..) |>.andThen (State.set_keeps ..)

theorem State.reassign_keeps (s : State) (i : Nat) : Keeps assignWrites s (s.reassign i) :=
  .ite (Keeps.refl _ s |>.andThen (s.gecAssign_keeps i) |>.andThen (State.hubLevels_keeps _)) (.refl _ s)

theorem State.reassignAll_keeps (s : State) : Keeps assignWrites s s.reassignAll :=
  .ite (.foldl (fun s i => s.reassign_keeps i) _ s) (.refl _ s)

/-- The writes of an EMCY frame that leaves (15 R421). -/
def emcyWrites : Writes := { arriveWrites with faults := true, out := true }

theorem State.canSend_keeps (s : State) (p code node : Nat) (data : List Nat) : Keeps emcyWrites s (s.canSend p code node data) := by
  unfold State.canSend
  extract_lets counted
  have hc : Keeps emcyWrites s counted := .ite (.refl _ s) (s.canErrors_keeps ..).mono
  exact .ite (hc.andThen (counted.countEnt_keeps ..) |>.andThen (State.emit_keeps ..)) (.refl _ s)

theorem State.emcySend_keeps (s : State) : Keeps emcyWrites s s.emcySend := by
  unfold State.emcySend
  split
  · exact .refl _ s
  · exact .ite ((s.withEmcy_keeps _).mono.trans (State.canSend_keeps ..) |>.trans (State.canSend_keeps ..)) (.refl _ s)

/-! ### The poll of the rails -/

/-- The writes of a transaction of the poll (20 R521). -/
def pollWrites : Writes := { ents := true, pins := true, out := true }

theorem State.putReadings_keeps (s : State) (first : Nat) (l : List Nat) : Keeps { ents := true } s (s.putReadings first l) := by
  induction l generalizing s first with
  | nil => exact .refl _ s
  | cons v t ih => exact (s.withEnts_keeps _).trans (ih ..)

theorem State.pollRead_keeps (s : State) (p : PollSt) : Keeps pollWrites s (s.pollRead p) := by
  unfold State.pollRead
  extract_lets r _ moved sent _
  have hs : Keeps pollWrites s sent := Keeps.refl _ s |>.andThen (s.withPins_keeps _) |>.andThen (moved.emit_keeps _)
  exact .ite (hs.andThen (sent.withPins_keeps _)) (hs.andThen (sent.putReadings_keeps ..))

theorem State.pollEdge_keeps (s : State) : Keeps pollWrites s s.pollEdge := by
  unfold State.pollEdge State.pollOn
  refine .ite ?_ (.refl _ s)
  split
  · exact .ite (.refl _ s) (s.pollRead_keeps _)
  · exact .refl _ s

/-! ### The event path at a CCLK edge (12 R341) -/

theorem State.eventEdge_even (s : State) (h : s.tb % 2 = 0) : s.eventEdge = s.offerEdge.wireEdge.pulseEdge := if_pos h

theorem State.eventEdge_odd (s : State) (h : s.tb % 2 = 1) : s.eventEdge = s := if_neg (by omega)

theorem State.gecArrive_keeps (s : State) (i : Nat) (lv : Bool) : Keeps { regs := [.gec] } s (s.gecArrive i lv) := by
  unfold State.gecArrive
  exact .ite (Keeps.refl _ s |>.andThen (s.raise_keeps ..) |>.andThen (State.bump_keeps ..) |>.trans (State.gecAssign_keeps ..))
    (.ite (Keeps.refl _ s |>.andThen (s.lower_keeps ..) |>.andThen (State.set_keeps ..)) (.refl _ s))

theorem State.offerEdge_keeps (s : State) : Keeps { regs := [.lec] } s s.offerEdge := s.withEvents_keeps _

theorem State.wireEdge_keeps (s : State) : Keeps assignWrites s s.wireEdge :=
  (s.withEvents_keeps _).mono.trans (.foldl (fun s _ => (s.gecArrive_keeps ..).mono) ..)

theorem State.pulseEdge_keeps (s : State) : Keeps levelWrites s s.pulseEdge :=
  (s.withEvents_keeps _).mono.trans (.foldl (fun s _ => s.lecSample_keeps ..) ..)

theorem State.eventEdge_keeps (s : State) : Keeps assignWrites s s.eventEdge := by
  unfold State.eventEdge
  exact .ite (Keeps.refl _ s |>.andThen s.offerEdge_keeps |>.trans (State.wireEdge_keeps _) |>.andThen (State.pulseEdge_keeps _)) (.refl _ s)

theorem State.flag_set_field (s : State) (f g : Field) (i j v : Nat) (h : g.id % 65536 ≠ f.id % 65536) : (s.set f i v).flag g j = s.flag g j :=
  congrArg (· == 1) (s.get_set_field f g i j v h)

theorem State.flag_raise_field (s : State) (f g : Field) (i j : Nat) (h : g.id % 65536 ≠ f.id % 65536) : (s.raise f i).flag g j = s.flag g j :=
  s.flag_set_field f g i j 1 h

theorem State.flag_bump_field (s : State) (f g : Field) (i j k : Nat) (h : g.id % 65536 ≠ f.id % 65536) : (s.bump f i k).flag g j = s.flag g j :=
  s.flag_set_field f g i j _ h

theorem State.flag_lower_self (s : State) (f : Field) (i : Nat) (h : f.joins = false) : (s.lower f i).flag f i = false := by
  rw [State.flag, s.get_lower_of_held f i (CycleSt.held_of_not_joins _ _ _ h)]
  rfl

theorem State.flag_gecAssign_level (s : State) (i j : Nat) : (s.gecAssign i).flag GEC_IN_LEVEL j = s.flag GEC_IN_LEVEL j := by
  unfold State.gecAssign
  split
  · exact s.flag_set_field _ _ _ _ _ (by decide)
  · split
    · rw [State.flag_set_field _ _ _ _ _ _ (by decide), State.flag_set_field _ _ _ _ _ _ (by decide)]
    · rw [State.flag_set_field _ _ _ _ _ _ (by decide), State.flag_raise_field _ _ _ _ _ (by decide),
        State.flag_set_field _ _ _ _ _ _ (by decide)]

/-- A change that reaches a GEC input gives it its level. -/
theorem State.flag_gecArrive (s : State) (i : Nat) (lv : Bool) : (s.gecArrive i lv).flag GEC_IN_LEVEL i = lv := by
  unfold State.gecArrive
  extract_lets old
  split
  next hrise =>
    obtain ⟨rfl, _⟩ : lv = true ∧ _ := by simpa using hrise
    rw [State.flag_gecAssign_level, State.flag_bump_field _ _ _ _ _ _ (by decide), s.flag_raise_self _ _ (by decide)]
  next hrise =>
    split
    next hfall =>
      obtain ⟨rfl, _⟩ : lv = false ∧ _ := by simpa using hfall
      rw [State.flag_set_field _ _ _ _ _ _ (by decide), s.flag_lower_self _ _ (by decide)]
    next hfall =>
      show old = lv
      revert hrise hfall
      cases lv <;> cases old <;> decide

/-- Replace what is under way on the event path. -/
def State.setEvents (s : State) (e : EventPath) : State := { s with events := e }

theorem State.wireEdge_empty (s : State) (h : s.events.wire = []) : s.wireEdge = s.setEvents { s.events with wire := [] } := by
  simp [State.wireEdge, State.setEvents, h]

theorem State.wireEdge_arrival (s : State) (i : Nat) (lv : Bool) (h : s.events.wire = [(1, i, lv)]) :
    s.wireEdge = (s.setEvents { s.events with wire := [] }).gecArrive i lv := by
  simp [State.wireEdge, State.setEvents, h]

theorem State.wireEdge_crossing (s : State) (k i : Nat) (lv : Bool) (h : s.events.wire = [(k + 2, i, lv)]) :
    s.wireEdge = s.setEvents { s.events with wire := [(k + 1, i, lv)] } := by
  simp [State.wireEdge, State.setEvents, h]

theorem State.pulseEdge_none (s : State) (h : s.events.pulses = []) : s.pulseEdge = s.setEvents { s.events with pulses := [] } := by
  simp [State.pulseEdge, State.setEvents, h]

theorem State.pulseEdge_single (s : State) (g : Nat) (h : s.events.pulses = [g]) :
    s.pulseEdge = (s.setEvents { s.events with pulses := [] }).lecSample g (s.afterPulse g) := by
  simp only [State.pulseEdge, h, List.foldl_cons, List.foldl_nil]
  rfl

/-- The event path but for the changes on their way to the GEC. -/
def State.beside (s : State) : EventPath := { s.events with wire := [] }

theorem State.beside_of_events {s t : State} (h : t.events = s.events) : t.beside = s.beside := by rw [State.beside, State.beside, h]

theorem State.gecSync_beside (s : State) (i : Nat) : (s.gecSync i).beside = s.beside := by
  unfold State.gecSync
  extract_lets lv
  split <;> rfl

theorem State.lecEvent_beside (s : State) (g k : Nat) : (s.lecEvent g k).beside = s.beside :=
  (State.gecSync_beside ..).trans (State.beside_of_events (State.bump_events ..))

theorem State.lecSample_beside (s : State) (g : Nat) (lv : Bool) : (s.lecSample g lv).beside = s.beside := by
  unfold State.lecSample
  split
  · rfl
  · extract_lets prev fresh raw t sense q old pended counted
    have ht : t.beside = s.beside := State.beside_of_events rfl
    have hc : counted.beside = t.beside := by
      refine State.beside_of_events ?_
      unfold counted
      split
      · exact State.bump_events ..
      · rfl
    split
    · exact (counted.gecSync_beside _).trans (hc.trans ht)
    · split
      · exact (t.lecEvent_beside ..).trans ht
      · exact ht

theorem State.pulseEdge_beside (s : State) : s.pulseEdge.beside = { s.events with wire := [], pulses := [] } := by
  have hfold (l : List Nat) (u : State) : (l.foldl (fun s g => s.lecSample g (s.afterPulse g)) u).beside = u.beside := by
    induction l generalizing u with
    | nil => rfl
    | cons g t ih => exact (ih _).trans (u.lecSample_beside ..)
  exact hfold ..

theorem State.wireEdge_beside (s : State) : s.wireEdge.beside = s.beside := by
  have hfold (l : List (Nat × Nat × Bool)) (u : State) : (l.foldl (fun s e => s.gecArrive e.2.1 e.2.2) u).events = u.events :=
    (Keeps.foldl (fun s _ => s.gecArrive_keeps ..) l u).events (by decide)
  unfold State.wireEdge State.beside
  rw [hfold]

theorem State.flag_gecSync (s : State) (i : Nat) (f : Field) (j : Nat) : (s.gecSync i).flag f j = s.flag f j := by
  unfold State.gecSync
  extract_lets lv
  split <;> rfl

theorem State.flag_set_b2n (s : State) (f : Field) (i : Nat) (b : Bool) (h : 0 < f.width := by decide) : (s.set f i (b2n b)).flag f i = b := by
  have hb : b2n b < 2 ^ f.width := Nat.lt_of_lt_of_le (by cases b <;> decide) (Nat.pow_le_pow_right (by decide) h : 2 ^ 1 ≤ _)
  rw [State.flag, State.get_set_self, Nat.mod_eq_of_lt hb]
  cases b <;> rfl

/-- A sample of a source that is sensed high: RAW and PEND take its level (12 R332, R333). -/
theorem State.lecSample_high (s : State) (g : Nat) (lv : Bool) (hon : s.lecOn (g / 512) = true) (hr : reservedSource g = false)
    (he : eventSource g = false) (hs : s.get LEC_SENSE_SENSE g = 0) :
    (s.lecSample g lv).flag LEC_RAW_RAW g = lv ∧ (s.lecSample g lv).flag LEC_PEND_PEND g = lv := by
  unfold State.lecSample
  rw [if_neg (by simp [hon, hr, he])]
  extract_lets prev fresh raw t sense q old pended counted
  have hsense : sense = 0 := (s.get_set_field _ _ _ _ _ (by decide)).trans hs
  have hraw : pended.flag LEC_RAW_RAW g = lv :=
    (t.flag_set_field _ _ _ _ _ (by decide)).trans (s.flag_set_b2n ..)
  have hpend : pended.flag LEC_PEND_PEND g = lv := by
    have hq : q = lv := if_pos hsense
    rw [← hq]
    exact t.flag_set_b2n ..
  have hcounted (f : Field) (hf : f.id % 65536 ≠ LEC_CNT_CNT.id % 65536) : counted.flag f g = pended.flag f g := by
    unfold counted
    split
    · exact pended.flag_bump_field _ _ _ _ _ hf
    · rfl
  rw [if_pos (by omega), State.flag_gecSync, State.flag_gecSync, hcounted _ (by decide), hcounted _ (by decide)]
  exact ⟨hraw, hpend⟩

/-! ### One cycle -/

/-- What the ending cycle does before the time base counts: beats, flits, requests and trace records move, and sources are sampled. -/
def State.cycleDone (s : State) : State :=
  { s.padTick.fabricCycle.portTick.memTick.trcEdge with uUsed := [] }.sampleFresh.reassignAll.hubLevels.emcySend

/-- The time base counts, and the notes of the cycle are over (02 R38; 00 R13, R14). -/
def State.counted (s : State) : State := { s with tb := (s.tb + 1) % 2 ^ 64, cycle := s.cycle.next ((s.tb + 1) % 2 ^ 64) }

/-- The writes of an idle cycle but for the time base and the SENDs that depart. -/
def idleWrites : Writes :=
  { regs := [.clk, .ckp, .mgt, .fab, .lec, .gec, .trc, .lnk, .tme, .pci, .cell], mem := true, cells := true, tiles := true, lanes := true,
    fresh := true, ckp := true, flits := true, uflits := true, msixPba := true, faults := true, ents := true, xports := true, trace := true,
    pins := true, out := true, free := true }

theorem State.cycleDone_keeps (s : State) : Keeps idleWrites s s.cycleDone :=
  Keeps.refl _ s |>.andThen s.padTick_keeps |>.andThen (State.fabricCycle_keeps _) |>.andThen (State.portTick_keeps _)
    |>.andThen (State.memTick_keeps _) |>.andThen (State.trcEdge_keeps _) |>.andThen (State.withUsed_keeps ..)
    |>.andThen (State.sampleFresh_keeps _) |>.andThen (State.reassignAll_keeps _) |>.andThen (State.hubLevels_keeps _)
    |>.andThen (State.emcySend_keeps _)

theorem State.forgetOld_keeps (s : State) : Keeps { tiles := true } s s.forgetOld := .foldl (fun s _ => s.setTile_keeps ..) _ s

theorem State.settleAll_keeps (s : State) : Keeps settleWrites s s.settleAll :=
  .foldl (fun s (p : Nat × Cell) => s.settleCell_keeps p.1) _ s

/-- What the beginning cycle does. -/
def State.cycleBegun (s : State) : State := s.eventEdge.forgetOld.departAll.settleAll.pollEdge

theorem State.tick_clocked (s : State) (h : s.clocked = true) : s.tick = s.cycleDone.counted.cycleBegun := if_pos h

theorem State.tick_stands (s : State) (h : s.clocked = false) : s.tick = { s with cycle := CycleSt.zero }.pollEdge :=
  if_neg (by simp [h])

theorem State.cycleBegun_keeps (s : State) : Keeps { idleWrites with sends := true } s s.cycleBegun :=
  Keeps.refl _ s |>.andThen s.eventEdge_keeps |>.andThen (State.forgetOld_keeps _) |>.andThen (State.withSends_keeps _ [])
    |>.andThen (State.departAll_keeps _) |>.andThen (State.settleAll_keeps _) |>.andThen (State.pollEdge_keeps _)

theorem State.cycleBegun_sends (s : State) : s.cycleBegun.sends = [] :=
  ((State.pollEdge_keeps _).sends rfl).trans (((State.settleAll_keeps _).sends rfl).trans ((State.departAll_keeps _).sends rfl))

theorem step_idle (s : State) (h : s.pending = []) : step s = .next s.tick := by
  unfold step
  rw [h]

theorem State.clocked_iff (s : State) : s.clocked = true ↔ s.mode ≠ .dormant ∧ s.clockStopped = false := by
  simp [State.clocked]

theorem State.counted_tb (s : State) : s.counted.tb = (s.tb + 1) % 2 ^ 64 := rfl

theorem State.counted_tbFrac (s : State) : s.counted.tbFrac = s.tbFrac := rfl

theorem State.counted_pending (s : State) : s.counted.pending = s.pending := rfl

/-- The time base counts by one while it is clocked (02 R38). -/
theorem State.tick_counts (s : State) (h : s.clocked = true) :
    s.tick.tb = (s.tb + 1) % 2 ^ 64 ∧ s.tick.tbFrac = s.tbFrac ∧ s.tick.pending = s.pending ∧ s.tick.sends = [] := by
  have hdone := s.cycleDone_keeps
  have hbegun := s.cycleDone.counted.cycleBegun_keeps
  obtain ⟨htb, hfrac⟩ := hdone.tb rfl
  obtain ⟨htb', hfrac'⟩ := hbegun.tb rfl
  rw [s.tick_clocked h, htb', hfrac', hbegun.pending, State.counted_tb, State.counted_tbFrac, State.counted_pending, htb, hfrac,
    hdone.pending, State.cycleBegun_sends]
  exact ⟨rfl, rfl, rfl, rfl⟩

theorem State.tick_keeps_stands (s : State) (h : s.clocked = false) : Keeps pollWrites s s.tick := by
  rw [s.tick_stands h]
  exact (s.withCycle_keeps _ _).trans (State.pollEdge_keeps _)

/-- A SEND alone departs as one flit along its path-table entry (06 R161). -/
theorem State.departAll_single (s : State) (x : Send) (w : Word) (hx : s.sends = [x]) (hit : x.hit = .none)
    (hw : s.pathLookup x.tile x.path = (w, 0)) (he : badEntry x.tile w.toNat = false) :
    ∃ f, s.departAll.flits = s.flits ++ [f] ∧ f.tile = x.tile ∧ f.path = x.path ∧ f.val = x.val ∧ f.bad = x.bad ∧ f.epoch = x.epoch ∧
      f.egr = w.getLsbD 28 := by
  have hk := State.passCrossbar_keeps { s with sends := [] } x.tile x.lcell
  have hflits : (State.passCrossbar { s with sends := [] } x.tile x.lcell).flits = s.flits := (hk.flits rfl).1
  obtain ⟨f, hf, hrest⟩ := State.launch_sent _ x.tile (x.lcell / 64) x.lcell x.path x.val w x.bad x.epoch s.tb
    ((State.pathLookup_of_tiles (hk.tiles rfl) _ _).trans hw) he
  rw [hflits] at hf
  exact ⟨f, by simpa only [State.departAll, hx, List.foldl_cons, List.foldl_nil, hit] using hf, hrest⟩

/-! ### The CCLK edge of one line and of one pulse -/

theorem State.eventEdge_offered (s : State) (h : s.tb % 2 = 0) :
    s.eventEdge.events.offered = s.events.selected ∧ s.eventEdge.events.pulses = [] := by
  have hp : s.eventEdge.beside = { s.offerEdge.wireEdge.events with wire := [], pulses := [] } := by
    rw [s.eventEdge_even h, State.pulseEdge_beside]
  have hw : s.offerEdge.wireEdge.beside = s.offerEdge.beside := State.wireEdge_beside _
  exact ⟨(congrArg EventPath.offered hp).trans (congrArg EventPath.offered hw), congrArg EventPath.pulses hp⟩

/-- The state behind the CCLK edge of a line alone: the pulses, of which there are none, end. -/
theorem State.eventEdge_line (s : State) (h : s.tb % 2 = 0) (hp : s.events.pulses = []) :
    s.eventEdge = s.offerEdge.wireEdge.setEvents { s.offerEdge.wireEdge.events with pulses := [] } := by
  have hw : s.offerEdge.wireEdge.beside = s.offerEdge.beside := State.wireEdge_beside _
  rw [s.eventEdge_even h, State.pulseEdge_none _ ((congrArg EventPath.pulses hw).trans hp)]

/-- Settles O31. Every part of an idle cycle but the count itself leaves the time base alone, by the rules of what each part writes; the
departures and the CCLK edge are followed for the one SEND, line or pulse that the clause names. -/
theorem idleCycle : Obligations.IdleCycle := by
  unfold Obligations.IdleCycle
  refine ⟨?counts, ?stands, ?departs, ?lineArrives, ?lineCrosses, ?offers, ?pulseEnds, ?betweenEdges⟩
  case counts =>
    intro s hp hm hc
    obtain ⟨htb, hfrac, hpending, hsends⟩ := s.tick_counts (s.clocked_iff.mpr ⟨hm, hc⟩)
    exact ⟨_, step_idle s hp, htb, hfrac, hpending.trans hp, hsends⟩
  case stands =>
    intro s hp hstands
    have hclock : s.clocked = false := by
      rw [Bool.eq_false_iff, Ne, s.clocked_iff]
      rintro ⟨hm, hc⟩
      rcases hstands with h | h
      · exact hm h
      · simp [hc] at h
    have hk := s.tick_keeps_stands hclock
    exact ⟨_, step_idle s hp, (hk.tb rfl).1, hk⟩
  case departs =>
    intro x w s hx hit hw he
    obtain ⟨f, hflits, htile, hpath, hval, hbad, hepoch, hegr⟩ := s.departAll_single x w hx hit hw he
    exact ⟨f, hflits, htile, hpath, hval, hbad, hepoch, hegr, s.departAll_keeps.sends rfl⟩
  case lineArrives =>
    intro i lv s htb hwire hpulses
    have hw := s.offerEdge.wireEdge_arrival i lv hwire
    have hk := (s.offerEdge.setEvents { s.offerEdge.events with wire := [] }).gecArrive_keeps i lv
    have hedge := s.eventEdge_line htb hpulses
    rw [hw] at hedge
    rw [hedge]
    exact ⟨State.flag_gecArrive _ i lv, congrArg EventPath.wire (hk.events (by decide)), (hk.tb rfl).1⟩
  case lineCrosses =>
    intro i k lv s htb hwire hpulses
    rw [s.eventEdge_line htb hpulses, s.offerEdge.wireEdge_crossing k i lv hwire]
    exact ⟨rfl, rfl⟩
  case offers => exact fun s htb => s.eventEdge_offered htb
  case pulseEnds =>
    intro g s htb hwire hpulses hon hres hev hsense hafter
    have hpulse := (s.offerEdge.setEvents { s.offerEdge.events with wire := [] }).pulseEdge_single g hpulses
    rw [s.eventEdge_even htb, s.offerEdge.wireEdge_empty hwire, hpulse, ← hafter]
    exact State.lecSample_high _ g _ hon hres hev hsense
  case betweenEdges => exact fun s htb => s.eventEdge_odd htb

end Sys2Proof.Machine
end

section
/-! SUPPORT. The issue of a bundle (04 R96 to R127): what its slots leave, how it goes on, and what its X slot does. -/

namespace Sys2Proof.Machine

set_option Elab.async false

/-! ### The stages of an issue -/

/-- A bundle that holds nothing. -/
def noSlots : Slots := ⟨[0, 0, 0, 0], 0, 0, 0, 0, 0⟩

/-- The slots that the bundle at an address executes: a damaged one acts as an empty one (03 R83). -/
def Cell.executed (x : Cell) (a : Nat) : Slots := if (x.bundleBad a).isEmpty then slotsOf (x.bundle a) else noSlots

/-- The results that the L, A, M and C slots leave for later cycles (04 R100). -/
def Cell.results (x : Cell) (cur : Bool) (t : Nat) (b : Slots) : List Pend :=
  (b.l.mapIdx (fun k w => issueL x cur (bundleReqs b x.bp) t k w)).flatten ++ issueA x cur (bundleReqs b x.bp) t 4 b.a0 ++
    issueA x cur (bundleReqs b x.bp) t 5 b.a1 ++ issueM x t b.m ++ issuePred x cur (bundleReqs b x.bp) t b.c

/-- The cell behind the bundle's issue, as the sequencer leaves it (04 R124). -/
def State.sequenced (s : State) (c : Nat) (x : Cell) (b : Slots) : Cell :=
  if bits b.c 31 28 = 3 ∨ haltExec b.c x.bp then x
  else sequence x (s.flag CELL_IMCFG_PAGED c) (s.get CELL_IMCFG_RUNPAGE c) x.next b.c

/-- The parity errors that the bundle meets: in its own words, and in what it reads (03 R81, R83). -/
def State.issueErrs (s : State) (c : Nat) (x : Cell) (b : Slots) : List (Nat × Nat × Nat) :=
  (x.bundleBad x.next).map (fun p => (0, p.1, p.2.toNat)) ++ parityErrs x (s.flag CELL_SBSEL_CUR c) s.tb b (bundleReqs b x.bp)

/-- The bundle is entered in the cell and shown in BPC. -/
def State.entered (s : State) (c : Nat) (x : Cell) (b : Slots) : State :=
  (s.setCell c { s.sequenced c x b with pend := x.pend ++ x.results (s.flag CELL_SBSEL_CUR c) s.tb b, exec := s.cyc + 1 }).set
    CELL_STAT_BPC c x.next

/-- The flags of a bank or port in excess that the bundle sets (03 R64, R71). -/
def State.noted (s : State) (c t : Nat) (x : Cell) (b : Slots) : State :=
  let u := if (bundleReqs b x.bp).any (fun r => (serveWord (bundleReqs b x.bp) r).2) then s.cellFlag CELL_STAT_BANKOVR c else s
  if condPass (bits b.m 43 42) x.bp && bits b.m 47 44 == 1 && x.storeBusy t (memWord x b.m) then u.cellFlag CELL_STAT_DMCONF c else u

/-- The state as the X slot finds it: with those flags, and with those of the end of issue. -/
def State.issued (s : State) (c : Nat) (x : Cell) (b : Slots) : State :=
  let u := (s.entered c x b).noted c s.tb x b
  if bits b.c 31 28 = 3 ∨ haltExec b.c x.bp then (u.lower CELL_STAT_ISSUING c).raise CELL_STAT_ENDED c else u

/-- What follows the X slot: the parity errors, and the effect of a HALT outside replay. -/
def State.issueEnded (s : State) (c : Nat) (errs : List (Nat × Nat × Nat)) (halt : Bool) : State :=
  let s := errs.foldl (fun s e => s.cellParity c e.1 e.2.1 e.2.2) s
  if halt && !s.flag CKP_STAT_REPLAY then s.haltCell c else s

theorem State.issueBundle_eq (s : State) (c : Nat) (x : Cell) (hit : Upset) :
    s.issueBundle c x hit = ((s.issued c x (x.executed x.next)).issueX c s.tb (x.executed x.next).x x hit).issueEnded c
      (s.issueErrs c x (x.executed x.next)) (haltExec (x.executed x.next).c x.bp) := by
  rfl

/-! ### The X operations (04 R112 to R121), by the operands w of the slot, for cell c in cycle t with `x` as it stood -/

/-- The result of an X operation of cell c is under way to the word file (04 R100). -/
def State.xResult (s : State) (c t dr : Nat) (v : Word) : State :=
  s.setCell c { s.cell c with pend := (s.cell c).pend ++ [⟨t + 2, t, 7, 4, dr, 0, v, BitVec.allOnes 64⟩] }

/-- SEND (04 R112). -/
def State.xSend (s : State) (c w : Nat) (x : Cell) (hit : Upset) : State :=
  { s with sends := s.sends ++
      [⟨c / 1088, s.lcell c, bits w 16 0, x.d (bits w 41 36), x.rdBad 4 (bits w 41 36), s.flag CELL_STAT_EPOCH c, hit⟩] }

/-- The margin of a flit that came from source `src`, where a lane brought it (02 R57). -/
def State.laneMargin (s : State) (t src : Nat) : State :=
  if src % 1024 = 0 ∨ src % 1024 = 1023 then s
  else s.margin LNK_MARGIN_MIN LNK_MARGIN_THRESH LNK_MARGIN_WARN (src % 1024 - 1) (t - src / 1024)
    (512 * ((src % 1024 - 1) / 64) + 0x1B0 + (src % 1024 - 1) % 64)

/-- RECV (04 R113). -/
def State.xRecv (s : State) (c t w : Nat) (x : Cell) : State :=
  match x.inboxSees (bits w 8 0) t with
  | some (src, v, _) => (s.laneMargin t src).xResult c t (bits w 41 36) v
  | none => (s.xResult c t (bits w 41 36) 0).lateFlit c (bits w 8 0) 0x1FFFF 0xFFFF

/-- A request joins those on their way to the TME of the cell's tile (04 R115). -/
def State.memIssue (s : State) (c : Nat) (q : MemReq) : State :=
  s.setTile (c / 1088) { s.tile (c / 1088) with memIn := (s.tile (c / 1088)).memIn ++ [q] }

/-- The request of an MREQ that reads. -/
def State.readReq (s : State) (c t w : Nat) (x : Cell) : MemReq :=
  ⟨false, x.d (bits w 35 30), 0, 0, bits w 5 0, s.lcell c, t + 1, s.stroke.no, t - s.stroke.tk + 9⟩

/-- The request of an MREQ that writes. -/
def State.writeReq (s : State) (c t w : Nat) (x : Cell) : MemReq :=
  ⟨true, x.d (bits w 35 30), x.d (bits w 41 36), BitVec.ofNat 8 (bits w 28 21), 0, s.lcell c, t + 1, s.stroke.no, t - s.stroke.tk + 9⟩

/-- The slot of a tag whose request has left (04 R116). -/
def State.asked (s : State) (t : Nat) (q : XSlot) : XSlot :=
  { q with present := false, outst := true, stroke := s.stroke.no, cyc := t - s.stroke.tk }

/-- MREQ (04 R115, R116). -/
def State.xMreq (s : State) (c t w : Nat) (x : Cell) : State :=
  if bit w 29 then (if bits w 28 21 = 0 then s else s.memIssue c (s.writeReq c t w x))
  else if (x.slot (bits w 5 0)).outstIn t then s.lateMem c (bits w 5 0) (t - s.stroke.tk) s.stroke.no
  else (s.setCell c ((s.cell c).setSlot (bits w 5 0) (s.asked t (x.slot (bits w 5 0))))).memIssue c (s.readReq c t w x)

/-- MRSP (04 R117). -/
def State.xMrsp (s : State) (c t w : Nat) (x : Cell) : State :=
  if (x.slot (bits w 5 0)).present && decide ((x.slot (bits w 5 0)).landed < t) then
    (s.margin TME_MARGIN_MIN TME_MARGIN_THRESH TME_MARGIN_WARN (c / 1088) (t - (x.slot (bits w 5 0)).landed)
      (512 * (c / 1088) + 0x1F6)).xResult c t (bits w 41 36) (x.slot (bits w 5 0)).val
  else (s.xResult c t (bits w 41 36) 0).lateMem c (bits w 5 0) (x.slot (bits w 5 0)).cyc (x.slot (bits w 5 0)).stroke

/-- The core that serves a channel of the cell's tile (05 R152). -/
def State.coreFor (s : State) (c ch : Nat) : Nat := s.svc (c / 1088) ch % 256

/-- The slot of an answer whose request has left (04 R118). -/
def State.requested (s : State) (c w : Nat) (q : XSlot) : XSlot :=
  { q with
    present := false, outst := true, stroke := s.stroke.no, cyc := 256 * bits w 11 4 + b2n (s.coreFor c (bits w 11 4) ≠ 0xFF)
    replayed := s.flag CKP_STAT_REPLAY }

/-- The request of an SREQ in cycle j of the stroke leaves logical cell lc for core n. -/
def State.serviceFlit (s : State) (c lc j w : Nat) (x : Cell) (n : Nat) : State :=
  s.inject (.cell (Fin.ofNat 8 (c / 1088)) (Fin.ofNat 1024 lc)) 1 (endUnit (coreDie n) (0x10 + n)) (endCell (c / 1088) lc)
    [0, (x.d (bits w 41 36)).toNat, bits w 11 4, lc, bits w 3 0, b2n (bit w 12), s.stroke.no, j, b2n (s.flag CKP_STAT_REPLAY)]
    (x.rdBad 4 (bits w 41 36))

/-- The answer slot of an SREQ awaits the answer, where one is to come. -/
def State.awaiting (s : State) (c w : Nat) (x : Cell) : State :=
  if bit w 12 then s else s.setCell c ((s.cell c).setSlot (64 + bits w 3 0) (s.requested c w (x.slot (64 + bits w 3 0))))

/-- SREQ (04 R118, R119). -/
def State.xSreq (s : State) (c t w : Nat) (x : Cell) : State :=
  if !bit w 12 && (x.slot (64 + bits w 3 0)).outstIn t then s.lateService c (bits w 11 4) (s.coreFor c (bits w 11 4))
  else if s.coreFor c (bits w 11 4) = 0xFF then s.awaiting c w x
  else (s.awaiting c w x).serviceFlit c (s.lcell c) (t - s.stroke.tk) w x (s.coreFor c (bits w 11 4))

/-- The margin of an answer of core n on a channel (02 R58). -/
def State.serviceMargin (s : State) (c n ch slack : Nat) : State :=
  if n = 0xFF then s
  else s.margin CPO_SVC_MARGIN_MIN CPO_SVC_MARGIN_THRESH CPO_SVC_MARGIN_WARN (2048 * n + 256 * (c / 1088) + ch) slack
    (if n < 4 then 4096 + 0x108 + n else 512 * ((n - 4) / 2) + 0x1FD + (n % 2))

/-- The channel of the last request on an answer slot. -/
def XSlot.channel (q : XSlot) : Nat := q.cyc / 256 % 256

/-- SRSP (04 R119). -/
def State.xSrsp (s : State) (c t w : Nat) (x : Cell) : State :=
  let q := x.slot (64 + bits w 3 0)
  if q.present && decide (q.landed < t) then
    (s.serviceMargin c (s.coreFor c q.channel) q.channel (t - q.landed)).xResult c t (bits w 41 36) q.val
  else (s.xResult c t (bits w 41 36) 0).lateService c q.channel (s.coreFor c q.channel)

/-- TRIG (04 R121). -/
def State.xTrig (s : State) (c t w : Nat) (x : Cell) : State :=
  if s.flag CKP_STAT_REPLAY then s
  else { s with trigs := s.trigs ++
      [(c / 1088, ⟨bits w 7 0, x.d (bits w 41 36), s.lcell c, s.stroke.no, t - s.stroke.tk, t + 4⟩)] }

theorem State.issueX_eq (s : State) (c t w : Nat) (x : Cell) (hit : Upset) :
    s.issueX c t w x hit =
      if !condPass (bits w 43 42) x.bp then s
      else if bits w 47 44 = 1 then s.xSend c w x hit
      else if bits w 47 44 = 2 then s.xRecv c t w x
      else if bits w 47 44 = 3 then s.xMreq c t w x
      else if bits w 47 44 = 4 then s.xMrsp c t w x
      else if bits w 47 44 = 5 then s.xSreq c t w x
      else if bits w 47 44 = 6 then s.xSrsp c t w x
      else if bits w 47 44 = 7 then s.xTrig c t w x
      else s := by
  rfl

/-! ### What the X slot leaves -/

/-- The writes of an X operation. -/
def issueXWrites : Writes :=
  { faultWrites with
    regs := [.clk, .ckp, .mgt, .fab, .lec, .trc, .lnk, .tme, .cpo], warned := true, cells := true, tiles := true, sends := true, uflits := true,
    trigs := true }

/-- What a part of an X operation of cell c may do: it adds at most n results to those under way, and leaves the sequencer alone. -/
structure State.XStep (c n : Nat) (s t : State) : Prop where
  keeps : Keeps issueXWrites s t
  cell : ∃ l, List.length l ≤ n ∧ (t.cell c).pend = (s.cell c).pend ++ l ∧
    (t.cell c).next = (s.cell c).next ∧ (t.cell c).exec = (s.cell c).exec

theorem Keeps.cell {w : Writes} {s t : State} (h : Keeps w s t) (hw : w.cells = false) (c : Nat) : t.cell c = s.cell c :=
  congrArg (sget · c Cell.zero) (h.cells hw)

theorem Keeps.tile {w : Writes} {s t : State} (h : Keeps w s t) (hw : w.tiles = false) (n : Nat) : t.tile n = s.tile n :=
  congrArg (sget · n TileSt.zero) (h.tiles hw)

theorem State.XStep.of_keeps {v : Writes} {c n : Nat} {s t : State} (h : Keeps v s t) (hv : v.join issueXWrites = issueXWrites := by rfl)
    (hc : v.cells = false := by rfl) : State.XStep c n s t where
  keeps := h.mono hv
  cell := by
    rw [h.cell hc c]
    exact ⟨[], Nat.zero_le _, by simp⟩

theorem State.XStep.refl (c n : Nat) (s : State) : State.XStep c n s s := .of_keeps (Keeps.refl {} s)

theorem State.XStep.trans {c n m : Nat} {s t u : State} (h : State.XStep c n s t) (k : State.XStep c m t u) : State.XStep c (n + m) s u where
  keeps := h.keeps.trans k.keeps
  cell := by
    obtain ⟨l, hl, hpend, hnext, hexec⟩ := h.cell
    obtain ⟨l', hl', hpend', hnext', hexec'⟩ := k.cell
    refine ⟨l ++ l', ?_, ?_, hnext'.trans hnext, hexec'.trans hexec⟩
    · rw [List.length_append]
      omega
    · rw [hpend', hpend, List.append_assoc]

theorem State.XStep.result (c t dr : Nat) (v : Word) (s : State) : State.XStep c 1 s (s.xResult c t dr v) where
  keeps := (s.setCell_keeps ..).mono
  cell := by
    rw [State.xResult, State.cell_setCell_self]
    exact ⟨[_], Nat.le_refl _, rfl, rfl, rfl⟩

theorem State.XStep.slot (c n k : Nat) (q : XSlot) (s : State) : State.XStep c n s (s.setCell c ((s.cell c).setSlot k q)) where
  keeps := (s.setCell_keeps ..).mono
  cell := by
    rw [State.cell_setCell_self]
    exact ⟨[], Nat.zero_le _, by simp [Cell.setSlot]⟩

theorem State.XStep.ite {c n : Nat} {s t u : State} {p : Prop} [Decidable p] (h : State.XStep c n s t) (k : State.XStep c n s u) :
    State.XStep c n s (if p then t else u) := by
  split
  · exact h
  · exact k

/-- An X operation adds at most one result. -/
theorem State.issueX_step (s : State) (c t w : Nat) (x : Cell) (hit : Upset) : State.XStep c 1 s (s.issueX c t w x hit) := by
  have hlate {u : State} (h : Keeps faultWrites s u) : State.XStep c 1 s u := .of_keeps h
  rw [State.issueX_eq]
  refine .ite (.refl c 1 s) (.ite ?send (.ite ?recv (.ite ?mreq (.ite ?mrsp (.ite ?sreq (.ite ?srsp (.ite ?trig (.refl c 1 s))))))))
  case send => exact .of_keeps (s.withSends_keeps _)
  case recv =>
    unfold State.xRecv
    split
    · exact State.XStep.trans (n := 0) (.ite (.refl c 0 s) (.of_keeps (s.margin_keeps _ _ _ _ _ _ (by decide) (by decide)))) (.result ..)
    · exact State.XStep.trans (m := 0) (.result ..) (.of_keeps (State.lateFlit_keeps ..))
  case mreq =>
    refine .ite (.ite (.refl c 1 s) (.of_keeps (s.setTile_keeps ..))) (.ite (.of_keeps (s.lateMem_keeps ..)) ?_)
    exact State.XStep.trans (m := 0) (.slot ..) (.of_keeps (State.setTile_keeps ..))
  case mrsp =>
    refine .ite ?_ (State.XStep.trans (m := 0) (.result ..) (.of_keeps (State.lateMem_keeps ..)))
    exact State.XStep.trans (n := 0) (.of_keeps (s.margin_keeps _ _ _ _ _ _ (by decide) (by decide))) (.result ..)
  case sreq =>
    have ha : State.XStep c 1 s (s.awaiting c w x) := .ite (.refl c 1 s) (.slot ..)
    exact .ite (.of_keeps (s.lateService_keeps ..)) (.ite ha (ha.trans (m := 0) (.of_keeps (State.inject_keeps ..))))
  case srsp =>
    refine .ite ?_ (State.XStep.trans (m := 0) (.result ..) (.of_keeps (State.lateService_keeps ..)))
    exact State.XStep.trans (n := 0) (.ite (.refl c 0 s) (.of_keeps (s.margin_keeps _ _ _ _ _ _ (by decide) (by decide)))) (.result ..)
  case trig => exact .ite (.refl c 1 s) (.of_keeps (s.withTrigs_keeps _))

end Sys2Proof.Machine
end

section
/-! SUPPORT. What the parts of an issue leave of a cell's registers and of the deadline flags, and the state that a bundle leaves. -/

namespace Sys2Proof.Machine

set_option Elab.async false

/-! ### The registers of a cell that errors leave (03 R82, R89) -/

/-- The registers of a cell that note its errors. -/
def errorFields : List Field :=
  [CELL_STAT_BANKOVR, CELL_STAT_WCOLL, CELL_STAT_DMCONF, CELL_STAT_PERR, CELL_PERR_UNIT, CELL_PERR_BYTES, CELL_PERR_ADDR, CELL_PERR_VALID,
    CELL_PERR_COUNT]

/-- A register notes errors of a cell. -/
def Field.notesError (f : Field) : Bool := (errorFields.map (fun g => g.id % 65536)).contains (f.id % 65536)

/-- A register of a cell that no error changes. -/
def Field.errorFree (g : Field) : Bool := g.bank == .cell && !g.notesError

/-- The registers of the cells are as they were, but for those that note errors. -/
structure State.SameButErrors (s t : State) : Prop where
  get : ∀ (g : Field) (j : Nat), g.errorFree = true → t.get g j = s.get g j

theorem State.SameButErrors.refl (s : State) : s.SameButErrors s := ⟨fun _ _ _ => rfl⟩

theorem State.SameButErrors.trans {s t u : State} (h : s.SameButErrors t) (k : t.SameButErrors u) : s.SameButErrors u :=
  ⟨fun g j hg => (k.get g j hg).trans (h.get g j hg)⟩

theorem State.SameButErrors.ite {s t u : State} {p : Prop} [Decidable p] (h : s.SameButErrors t) (k : s.SameButErrors u) :
    s.SameButErrors (if p then t else u) := by
  split
  · exact h
  · exact k

theorem State.SameButErrors.flag {s t : State} (h : s.SameButErrors t) (g : Field) (j : Nat) (hg : g.errorFree = true := by rfl) :
    t.flag g j = s.flag g j :=
  congrArg (· == 1) (h.get g j hg)

theorem Keeps.sameButErrors {w : Writes} {s t : State} (h : Keeps w s t) (hw : Bank.cell ∉ w.regs) : s.SameButErrors t where
  get g j hg := by
    obtain ⟨hb, -⟩ := Bool.and_eq_true_iff.mp hg
    exact h.regs g j (beq_iff_eq.mp hb ▸ hw)

theorem State.set_sameButErrors (s : State) (f : Field) (i v : Nat) (hf : f.notesError = true) : s.SameButErrors (s.set f i v) where
  get g j hg := by
    obtain ⟨-, hg⟩ := Bool.and_eq_true_iff.mp hg
    refine s.get_set_field f g i j v (fun h => ?_)
    rw [Field.notesError, h, ← Field.notesError, hf] at hg
    exact Bool.false_ne_true hg

theorem State.raise_sameButErrors (s : State) (f : Field) (i : Nat) (hf : f.notesError = true) : s.SameButErrors (s.raise f i) :=
  ⟨(s.set_sameButErrors f i 1 hf).get⟩

theorem State.bump_sameButErrors (s : State) (f : Field) (i k : Nat) (hf : f.notesError = true) : s.SameButErrors (s.bump f i k) :=
  ⟨(s.set_sameButErrors f i _ hf).get⟩

theorem State.cellFlag_sameButErrors (s : State) (f : Field) (c : Nat) (hf : f.notesError = true) : s.SameButErrors (s.cellFlag f c) :=
  (s.raise_sameButErrors f c hf).trans ((State.cellLevel_keeps ..).sameButErrors (by decide))

theorem State.capturePerr_sameButErrors (s : State) (c unit addr bytes : Nat) : s.SameButErrors (s.capturePerr c unit addr bytes) := by
  refine .ite (.refl s) ?_
  exact (s.set_sameButErrors CELL_PERR_UNIT c unit rfl).trans (State.set_sameButErrors _ CELL_PERR_BYTES _ _ rfl)
    |>.trans (State.set_sameButErrors _ CELL_PERR_ADDR _ _ rfl) |>.trans (State.raise_sameButErrors _ CELL_PERR_VALID _ rfl)

theorem State.cellParity_sameButErrors (s : State) (c unit addr bytes cause : Nat) :
    s.SameButErrors (s.cellParity c unit addr bytes cause) := by
  unfold State.cellParity
  extract_lets captured
  have hc : s.SameButErrors captured :=
    (s.cellFlag_sameButErrors CELL_STAT_PERR c rfl).trans (State.capturePerr_sameButErrors ..)
  exact .ite (hc.trans (captured.bump_sameButErrors CELL_PERR_COUNT c 1 rfl) |>.trans
    ((State.faultCause_keeps ..).sameButErrors (by decide))) hc

theorem State.settleCell_sameButErrors (s : State) (c : Nat) : s.SameButErrors (s.settleCell c) := by
  unfold State.settleCell
  refine .ite (.refl s) ?_
  split
  next y w _ =>
    have hc : s.SameButErrors (s.setCell c y) := (s.setCell_keeps c y).sameButErrors (by decide)
    exact .ite (hc.trans (State.cellFlag_sameButErrors _ CELL_STAT_WCOLL _ rfl)) hc

theorem State.noted_sameButErrors (s : State) (c t : Nat) (x : Cell) (b : Slots) : s.SameButErrors (s.noted c t x b) := by
  unfold State.noted
  extract_lets u
  have hu : s.SameButErrors u := .ite (s.cellFlag_sameButErrors _ c rfl) (.refl s)
  exact .ite (hu.trans (u.cellFlag_sameButErrors _ c rfl)) hu

theorem State.noted_keeps (s : State) (c t : Nat) (x : Cell) (b : Slots) : Keeps cellWrites s (s.noted c t x b) := by
  unfold State.noted
  extract_lets u
  have hu : Keeps cellWrites s u := .ite (s.cellFlag_keeps _ c rfl) (.refl _ s)
  exact .ite (hu.trans (u.cellFlag_keeps _ c rfl)) hu

/-- A parity error of a cell is flagged (03 R82). -/
theorem State.cellParity_flagged (s : State) (c unit addr bytes cause : Nat) :
    (s.cellParity c unit addr bytes cause).flag CELL_STAT_PERR c = true := by
  unfold State.cellParity
  extract_lets captured
  have hraised : (s.cellFlag CELL_STAT_PERR c).flag CELL_STAT_PERR c = true :=
    ((State.cellLevel_keeps ..).flag _ _ (by decide)).trans (s.flag_raise_self _ _ (by decide))
  have hc : captured.flag CELL_STAT_PERR c = true := by
    unfold captured State.capturePerr
    split
    · exact hraised
    · rw [State.flag_raise_field _ _ _ _ _ (by decide), State.flag_set_field _ _ _ _ _ _ (by decide),
        State.flag_set_field _ _ _ _ _ _ (by decide), State.flag_set_field _ _ _ _ _ _ (by decide), hraised]
  split
  · rw [(State.faultCause_keeps ..).flag _ _ (by decide), State.flag_bump_field _ _ _ _ _ _ (by decide), hc]
  · exact hc

/-! ### LATE_FLIT (02 R56) stays through what is logged of other faults -/

/-- The writes of a fault beside the clock registers. -/
def unclockedWrites : Writes := { faultWrites with regs := [.ckp, .mgt, .fab, .lec, .trc] }

theorem State.faultHold_keeps_clk (s : State) : Keeps unclockedWrites s s.faultHold := by
  have hr : Keeps unclockedWrites s (s.raise CKP_CTL_HOLDOFF) := (s.raise_keeps ..).mono
  exact .ite hr (hr.andThen (State.withCkp_keeps ..) |>.andThen (State.requestHold_keeps ..))

theorem State.flag_logOnly_lateFlit (s : State) (code sev tile loc pcell d0 d1 : Nat) :
    (s.logOnly code sev tile loc pcell d0 d1).flag CLK_DL_STAT_LATE_FLIT = s.flag CLK_DL_STAT_LATE_FLIT := by
  unfold State.logOnly
  extract_lets inRun replay pause
  have hdrawn : Keeps unclockedWrites s (if pause then s.fresh else (0, s)).2 := by
    split
    · exact s.fresh_keeps.mono
    · exact .refl _ s
  split
  next w u hu =>
  rw [hu] at hdrawn
  extract_lets scyc r0 rep sev' hold r repeated collided before recorded _ stored traced
  have hrepeated : repeated.flag CLK_DL_STAT_LATE_FLIT = u.flag CLK_DL_STAT_LATE_FLIT := by
    unfold repeated
    split
    · exact u.flag_raise_field _ _ _ _ (by decide)
    · rfl
  have hcollided : Keeps unclockedWrites repeated collided := .ite (repeated.raise_keeps ..).mono (.refl _ _)
  have hstored : Keeps unclockedWrites repeated stored := hcollided.andThen (collided.storeFlt_keeps r) |>.andThen (recorded.withCkp_keeps _)
  have htraced : Keeps unclockedWrites repeated traced := .ite hstored (hstored.andThen (stored.traceEvent_keeps ..))
  have hall := (Keeps.ite (c := hold = true) (htraced.trans traced.faultHold_keeps_clk) htraced).andThen (State.hubLevels_keeps _)
  rw [hall.flag _ _ (by decide), hrepeated, hdrawn.flag _ _ (by decide)]

theorem State.flag_endPause_lateFlit (s : State) (e : Nat) : (s.endPause e).flag CLK_DL_STAT_LATE_FLIT = s.flag CLK_DL_STAT_LATE_FLIT :=
  (State.flag_set_field _ _ _ _ _ _ (by decide)).trans (State.flag_set_field _ _ _ _ _ _ (by decide))

theorem State.flag_ckpFail_lateFlit (s : State) (cause : Nat) : (s.ckpFail cause).flag CLK_DL_STAT_LATE_FLIT = s.flag CLK_DL_STAT_LATE_FLIT := by
  have hkeeps (u : State) (k : Nat) : Keeps unclockedWrites u ((u.heldPlan.raise CKP_STAT_CKPFAIL).announce 5 k) :=
    Keeps.refl _ u |>.andThen u.heldPlan_keeps |>.andThen (State.raise_keeps ..) |>.andThen (State.announce_keeps ..)
  unfold State.ckpFail
  split
  · rfl
  · exact (State.flag_logOnly_lateFlit ..).trans (((hkeeps ..).flag _ _ (by decide)).trans (State.flag_endPause_lateFlit ..))

theorem State.flag_faultCause_lateFlit (s : State) (cause code sev tile loc pcell d0 d1 : Nat) :
    (s.faultCause cause code sev tile loc pcell d0 d1).flag CLK_DL_STAT_LATE_FLIT = s.flag CLK_DL_STAT_LATE_FLIT := by
  unfold State.faultCause
  extract_lets logged
  have hl : logged.flag CLK_DL_STAT_LATE_FLIT = s.flag CLK_DL_STAT_LATE_FLIT := s.flag_logOnly_lateFlit ..
  split
  · rw [State.flag_ckpFail_lateFlit, hl]
  · exact hl

theorem State.flag_cellParity_lateFlit (s : State) (c unit addr bytes cause : Nat) :
    (s.cellParity c unit addr bytes cause).flag CLK_DL_STAT_LATE_FLIT = s.flag CLK_DL_STAT_LATE_FLIT := by
  unfold State.cellParity
  extract_lets captured
  have hc : Keeps cellWrites s captured :=
    (s.cellFlag_keeps CELL_STAT_PERR c rfl).andThen (State.capturePerr_keeps ..)
  split
  · rw [State.flag_faultCause_lateFlit, (captured.bump_keeps ..).flag _ _ (by decide), hc.flag _ _ (by decide)]
  · exact hc.flag _ _ (by decide)

/-- A RECV that finds nothing sets LATE_FLIT (04 R113). -/
theorem State.lateFlit_flagged (s : State) (c slot path arr : Nat) : (s.lateFlit c slot path arr).flag CLK_DL_STAT_LATE_FLIT = true := by
  unfold State.lateFlit State.deadline
  extract_lets faulted
  have hf : faulted.flag CLK_DL_STAT_LATE_FLIT = true := by
    unfold faulted State.fault
    rw [State.flag_faultCause_lateFlit, State.flag_bump_field _ _ _ _ _ _ (by decide), State.flag_raise_self _ _ _ (by decide)]
  exact ((faulted.lecPulse_keeps _).flag _ _ (by decide)).trans hf

end Sys2Proof.Machine
end

section
/-! SUPPORT. The state that the issue of a bundle leaves: what each part adds to it, and what it keeps. -/

namespace Sys2Proof.Machine

set_option Elab.async false

/-! ### What stays -/

theorem Keeps.lcell {w : Writes} {s t : State} (h : Keeps w s t) (hw : w.liveRemap = false) (c : Nat) : t.lcell c = s.lcell c := by
  unfold State.lcell State.remap
  rw [h.liveRemap hw]

theorem Keeps.cyc {w : Writes} {s t : State} (h : Keeps w s t) (ht : w.tb = false) (hs : w.stroke = false) : t.cyc = s.cyc := by
  rw [State.cyc, State.cyc, (h.tb ht).1, h.stroke hs]

theorem State.SameButErrors.foldl {α : Type} {f : State → α → State} (hf : ∀ s x, State.SameButErrors s (f s x)) (l : List α) (s : State) :
    s.SameButErrors (l.foldl f s) := by
  induction l generalizing s with
  | nil => exact .refl s
  | cons x l ih => exact (hf s x).trans (ih _)

theorem State.settleCell_of_empty (s : State) (c : Nat) (h : (s.cell c).pend = []) : s.settleCell c = s := by
  simp [State.settleCell, h]

theorem State.cell_settleCell_ne (s : State) (c d : Nat) (h : d ≠ c) : (s.settleCell c).cell d = s.cell d := by
  unfold State.settleCell
  extract_lets x
  split
  · rfl
  · split
    next y w _ =>
      have hc : (s.setCell c y).cell d = s.cell d := s.cell_setCell_ne c d y h
      split
      · exact ((State.cellFlag_keeps _ CELL_STAT_WCOLL c rfl).cell rfl d).trans hc
      · exact hc

/-! ### Before the X slot -/

theorem State.entered_keeps (s : State) (c : Nat) (x : Cell) (b : Slots) : Keeps { regs := [.cell], cells := true } s (s.entered c x b) :=
  Keeps.refl _ s |>.andThen (s.setCell_keeps ..) |>.andThen (State.set_keeps ..)

theorem State.cell_entered (s : State) (c : Nat) (x : Cell) (b : Slots) : (s.entered c x b).cell c =
    { s.sequenced c x b with pend := x.pend ++ x.results (s.flag CELL_SBSEL_CUR c) s.tb b, exec := s.cyc + 1 } :=
  s.cell_setCell_self c _

theorem State.issued_keeps (s : State) (c : Nat) (x : Cell) (b : Slots) : Keeps settleWrites s (s.issued c x b) := by
  unfold State.issued
  extract_lets u
  have hu : Keeps settleWrites s u := Keeps.refl _ s |>.andThen (s.entered_keeps c x b) |>.andThen (State.noted_keeps ..)
  exact .ite (hu.andThen (u.lower_keeps ..) |>.andThen (State.raise_keeps ..)) hu

/-- The state before the X slot has the cells of the bundle's entry: what comes between are flags. -/
theorem State.cell_issued_entered (s : State) (c d : Nat) (x : Cell) (b : Slots) : (s.issued c x b).cell d = (s.entered c x b).cell d := by
  have hu : ((s.entered c x b).noted c s.tb x b).cell d = (s.entered c x b).cell d := (State.noted_keeps ..).cell rfl d
  unfold State.issued
  split
  · exact hu
  · exact hu

theorem State.cell_issued (s : State) (c : Nat) (x : Cell) (b : Slots) : (s.issued c x b).cell c =
    { s.sequenced c x b with pend := x.pend ++ x.results (s.flag CELL_SBSEL_CUR c) s.tb b, exec := s.cyc + 1 } :=
  (s.cell_issued_entered c c x b).trans (s.cell_entered c x b)

theorem State.cell_issued_ne (s : State) (c d : Nat) (x : Cell) (b : Slots) (h : d ≠ c) : (s.issued c x b).cell d = s.cell d :=
  (s.cell_issued_entered c d x b).trans (s.cell_setCell_ne c d _ h)

theorem State.get_raise_field (s : State) (f g : Field) (i j : Nat) (h : g.id % 65536 ≠ f.id % 65536) : (s.raise f i).get g j = s.get g j :=
  s.get_set_field f g i j 1 h

theorem State.get_lower_field (s : State) (f g : Field) (i j : Nat) (h : g.id % 65536 ≠ f.id % 65536) : (s.lower f i).get g j = s.get g j :=
  s.get_set_field f g i j _ h

/-- A register of the cells that neither the bundle's address nor its end nor an error writes is as it was. -/
theorem State.get_issued (s : State) (c : Nat) (x : Cell) (b : Slots) (g : Field) (j : Nat) (hg : g.errorFree = true)
    (hi : g.id % 65536 ≠ CELL_STAT_ISSUING.id % 65536) (he : g.id % 65536 ≠ CELL_STAT_ENDED.id % 65536) :
    (s.issued c x b).get g j = (s.entered c x b).get g j := by
  have hu := (State.noted_sameButErrors (s.entered c x b) c s.tb x b).get g j hg
  unfold State.issued
  split
  · exact (State.get_raise_field _ _ _ _ _ he).trans ((State.get_lower_field _ _ _ _ _ hi).trans hu)
  · exact hu

theorem State.bpc_issued (s : State) (c : Nat) (x : Cell) (b : Slots) :
    (s.issued c x b).get CELL_STAT_BPC c = x.next % 2 ^ CELL_STAT_BPC.width :=
  (s.get_issued c x b _ c rfl (by decide) (by decide)).trans (State.get_set_self ..)

theorem State.epoch_issued (s : State) (c : Nat) (x : Cell) (b : Slots) :
    (s.issued c x b).flag CELL_STAT_EPOCH c = s.flag CELL_STAT_EPOCH c :=
  congrArg (· == 1) ((s.get_issued c x b _ c rfl (by decide) (by decide)).trans (State.get_set_field _ _ _ _ _ _ (by decide)))

theorem State.ended_issued (s : State) (c : Nat) (x : Cell) (b : Slots) (h : bits b.c 31 28 = 3 ∨ haltExec b.c x.bp = true) :
    (s.issued c x b).flag CELL_STAT_ISSUING c = false ∧ (s.issued c x b).flag CELL_STAT_ENDED c = true := by
  rw [State.issued, if_pos h]
  refine ⟨?_, State.flag_raise_self _ _ _ (by decide)⟩
  exact (State.flag_raise_field _ _ _ _ _ (by decide)).trans (State.flag_lower_self _ _ _ rfl)

theorem State.issuing_issued (s : State) (c : Nat) (x : Cell) (b : Slots) (h : ¬(bits b.c 31 28 = 3 ∨ haltExec b.c x.bp = true)) :
    (s.issued c x b).flag CELL_STAT_ISSUING c = s.flag CELL_STAT_ISSUING c := by
  rw [State.issued, if_neg h]
  exact ((State.noted_sameButErrors ..).flag _ c).trans (State.flag_set_field _ _ _ _ _ _ (by decide))

/-! ### After the X slot -/

theorem State.issueEnded_keeps (s : State) (c : Nat) (errs : List (Nat × Nat × Nat)) (halt : Bool) :
    Keeps cellFaultWrites s (s.issueEnded c errs halt) := by
  unfold State.issueEnded
  extract_lets u
  have hu : Keeps cellFaultWrites s u := .foldl (fun s _ => s.cellParity_keeps ..) errs s
  exact .ite (hu.andThen (u.haltCell_keeps c)) hu

theorem State.issueEnded_sameButErrors (s : State) (c : Nat) (errs : List (Nat × Nat × Nat)) (halt : Bool) :
    s.SameButErrors (s.issueEnded c errs halt) := by
  unfold State.issueEnded
  extract_lets u
  have hu : s.SameButErrors u := .foldl (fun s _ => s.cellParity_sameButErrors ..) errs s
  exact .ite (hu.trans ((u.haltCell_keeps c).sameButErrors (by decide))) hu

theorem State.flag_issueEnded_lateFlit (s : State) (c : Nat) (errs : List (Nat × Nat × Nat)) (halt : Bool) :
    (s.issueEnded c errs halt).flag CLK_DL_STAT_LATE_FLIT = s.flag CLK_DL_STAT_LATE_FLIT := by
  unfold State.issueEnded
  extract_lets u
  have hu : u.flag CLK_DL_STAT_LATE_FLIT = s.flag CLK_DL_STAT_LATE_FLIT :=
    List.foldlRecOn errs _ (motive := fun (v : State) => v.flag CLK_DL_STAT_LATE_FLIT = s.flag CLK_DL_STAT_LATE_FLIT) rfl
      (fun v hv e _ => (v.flag_cellParity_lateFlit ..).trans hv)
  split
  · exact ((u.haltCell_keeps c).flag _ _ (by decide)).trans hu
  · exact hu

/-- Errors of a bundle show in PERR: the last of them sets it. -/
theorem State.issueEnded_flagged (s : State) (c : Nat) (errs : List (Nat × Nat × Nat)) (h : errs ≠ []) :
    (s.issueEnded c errs false).flag CELL_STAT_PERR c = true := by
  obtain ⟨l, e, rfl⟩ := (List.eq_nil_or_concat' errs).resolve_left h
  rw [State.issueEnded, List.foldl_append]
  exact State.cellParity_flagged ..

@[simp] theorem State.issueEnded_nil (s : State) (c : Nat) : s.issueEnded c [] false = s := rfl

end Sys2Proof.Machine
end

section
/-! SUPPORT. Bundles of at most one A0 operation, the issue of a settled cell, and what each X operation leaves at the end of the bundle. -/

namespace Sys2Proof.Machine

set_option Elab.async false

/-! ### A bundle with at most an A0 operation -/

/-- A bundle whose one operation is in A0. -/
def onlyA0 (a : Nat) : Slots := { noSlots with a0 := a }

/-- Whether a word operation is listed does not depend on its operands (04 R107). -/
theorem aluOp_isSome (op : Nat) (a b c : Word) (raw : Nat) : (aluOp op a b c raw).isSome = (aluOp op 0 0 0 0).isSome := by
  unfold aluOp
  split <;> simp only [Option.isSome]

theorem bits_zero (hi lo : Nat) : bits 0 hi lo = 0 := by
  simp [bits]

theorem bits_of_div_zero {b n lo : Nat} (hi : Nat) (h : b / 2 ^ n = 0) (hn : n ≤ lo) : bits b hi lo = 0 := by
  have hlt : b < 2 ^ lo := (Nat.lt_of_div_eq_zero (Nat.two_pow_pos n) h).trans_le (Nat.pow_le_pow_right (by decide) hn)
  rw [bits, Nat.div_eq_of_lt hlt, Nat.zero_mod]

theorem slotsOf_onlyA0 (b : Nat) (hl : b % 2 ^ 336 = 0) (hr : b / 2 ^ 392 = 0) : slotsOf b = onlyA0 (bits b 391 336) := by
  have hhigh {lo : Nat} (hi : Nat) (h : 392 ≤ lo) : bits b hi lo = 0 := bits_of_div_zero hi hr h
  have hlow {k : Nat} (h : k < 4) : b / 2 ^ (84 * k) % 2 ^ 84 = 0 := by
    have hdvd : 2 ^ (84 * k) * 2 ^ 84 ∣ b := by
      rw [← pow_add]
      exact (pow_dvd_pow 2 (by omega)).trans (Nat.dvd_of_mod_eq_zero hl)
    exact Nat.mod_eq_zero_of_dvd (Nat.dvd_div_of_mul_dvd hdvd)
  have hl' : (List.range 4).map (fun k => b / 2 ^ (84 * k) % 2 ^ 84) = [0, 0, 0, 0] :=
    List.map_congr_left (g := fun _ => 0) (fun k hk => hlow (List.mem_range.mp hk))
  rw [slotsOf, hl', hhigh 447 (by decide), hhigh 495 (by decide), hhigh 543 (by decide), hhigh 575 (by decide)]
  rfl

theorem bundleReqs_onlyA0 (a : Nat) (bp : Bool) (h : bits a 55 50 ≠ 0x30) : bundleReqs (onlyA0 a) bp = [] := by
  simp [bundleReqs, onlyA0, noSlots, h, bits_zero]

theorem Cell.rdBad_intact (x : Cell) (u a : Nat) (h : x.bad = []) : x.rdBad u a = 0 := by
  rw [Cell.rdBad, h]
  rfl

theorem Cell.bundleBad_intact (x : Cell) (a : Nat) (h : x.bad = []) : x.bundleBad a = [] := by
  simp [Cell.bundleBad, x.rdBad_intact _ _ h]

theorem parityErrs_onlyA0 (x : Cell) (cur : Bool) (t a : Nat) (h : x.bad = []) (ha : bits a 55 50 ≠ 0x30) :
    parityErrs x cur t (onlyA0 a) (bundleReqs (onlyA0 a) x.bp) = [] := by
  rw [bundleReqs_onlyA0 a x.bp ha]
  simp [parityErrs, onlyA0, noSlots, bits_zero, x.rdBad_intact _ _ h]

/-- An empty slot executes nothing. -/
theorem issueA_zero (x : Cell) (cur : Bool) (reqs : List NsReq) (t k : Nat) : issueA x cur reqs t k 0 = [] := rfl

theorem Cell.results_onlyA0 (x : Cell) (cur : Bool) (t a : Nat) (ha : bits a 55 50 ≠ 0x30) :
    x.results cur t (onlyA0 a) = issueA x cur [] t 4 a := by
  rw [Cell.results, bundleReqs_onlyA0 a x.bp ha]
  simp [onlyA0, noSlots, issueL, issueA_zero, issueM, issuePred, bits_zero]

theorem State.issueX_empty (s : State) (c t : Nat) (x : Cell) (hit : Upset) : s.issueX c t 0 x hit = s := by
  simp [State.issueX_eq, bits_zero]

theorem State.issueX_onlyA0 (s : State) (c t a : Nat) (x : Cell) (hit : Upset) : s.issueX c t (onlyA0 a).x x hit = s := s.issueX_empty ..

theorem haltExec_zero (bp : Bool) : haltExec 0 bp = false := rfl

theorem haltExec_onlyA0 (a : Nat) (bp : Bool) : haltExec (onlyA0 a).c bp = false := haltExec_zero bp

theorem State.issued_onlyA0 (s : State) (c : Nat) (x : Cell) (a : Nat) (ha : bits a 55 50 ≠ 0x30) :
    s.issued c x (onlyA0 a) = s.entered c x (onlyA0 a) := by
  rw [State.issued, State.noted, bundleReqs_onlyA0 a x.bp ha]
  simp [onlyA0, noSlots, bits_zero, haltExec_zero]

theorem State.sequenced_onlyA0 (s : State) (c : Nat) (x : Cell) (a : Nat) :
    s.sequenced c x (onlyA0 a) = sequence x (s.flag CELL_IMCFG_PAGED c) (s.get CELL_IMCFG_RUNPAGE c) x.next 0 := by
  simp [State.sequenced, onlyA0, noSlots, bits_zero, haltExec_zero]

theorem Cell.results_noSlots (x : Cell) (cur : Bool) (t : Nat) : x.results cur t noSlots = [] := x.results_onlyA0 cur t 0 (by decide)

theorem State.sequenced_noSlots (s : State) (c : Nat) (x : Cell) :
    s.sequenced c x noSlots = sequence x (s.flag CELL_IMCFG_PAGED c) (s.get CELL_IMCFG_RUNPAGE c) x.next 0 := s.sequenced_onlyA0 c x 0

/-- Outside loops the sequencer goes to the next address (04 R125). -/
theorem sequence_next (x : Cell) (paged : Bool) (page a : Nat) (h0 : lcActive (x.rd 6 0) = false) (h1 : lcActive (x.rd 6 1) = false) :
    sequence x paged page a 0 = { x with next := succAddr paged page a } := by
  simp [sequence, loopEnd, h0, h1, bits_zero]

theorem issueA_word (x : Cell) (cur : Bool) (reqs : List NsReq) (t k a : Nat) (v : Word) (hcond : bits a 49 48 = 0)
    (hpack : bits a 55 50 ≠ 0x30) (hunpack : bits a 55 50 ≠ 0x31)
    (hv : aluOp (bits a 55 50) (x.d (bits a 41 36)) (x.d (bits a 35 30)) (x.d (bits a 5 0)) (bits a 31 0) = some v) :
    issueA x cur reqs t k a = [⟨t + aluLatency (bits a 55 50), t, k, 4, bits a 47 42, 0, v, BitVec.allOnes 64⟩] := by
  have hlisted : (aluOp (bits a 55 50) 0 0 0 0).isSome = true := by
    rw [← aluOp_isSome, hv]
    rfl
  have hactive : aActive a x.bp = true := by
    rw [aActive, hlisted, hcond]
    rfl
  simp [issueA, hactive, hpack, hunpack, hv]

/-! ### The issue of a settled cell -/

theorem exec_bundleIssue (c : PCell) (hit : Upset) (s : State) (h : s.mayIssue c.val = true) :
    exec (.bundleIssue c hit) s = .next ((s.settleCell c.val).issueBundle c.val ((s.settleCell c.val).cell c.val) hit) :=
  if_pos h

theorem State.issuing_of_mayIssue (s : State) (c : Nat) (h : s.mayIssue c = true) : s.flag CELL_STAT_ISSUING c = true := by
  simp only [State.mayIssue, Bool.and_eq_true] at h
  obtain ⟨⟨⟨_, hissuing⟩, _⟩, _⟩ := h
  exact hissuing

theorem exec_bundleIssue_none (c : PCell) (hit : Upset) (s : State) (h : s.mayIssue c.val = false) :
    exec (.bundleIssue c hit) s = .next s :=
  if_neg (Bool.eq_false_iff.mp h)

theorem State.issueBundle_intact (s : State) (c : Nat) (x : Cell) (hit : Upset) (h : x.bundleBad x.next = []) :
    s.issueBundle c x hit = ((s.issued c x (slotsOf (x.bundle x.next))).issueX c s.tb (slotsOf (x.bundle x.next)).x x hit).issueEnded c
      (s.issueErrs c x (slotsOf (x.bundle x.next))) (haltExec (slotsOf (x.bundle x.next)).c x.bp) := by
  rw [State.issueBundle_eq, Cell.executed, h]
  rfl

theorem State.issueBundle_damaged (s : State) (c : Nat) (x : Cell) (hit : Upset) (h : x.bundleBad x.next ≠ []) :
    s.issueBundle c x hit = (s.entered c x noSlots).issueEnded c (s.issueErrs c x noSlots) false := by
  have hexec : x.executed x.next = onlyA0 0 := if_neg (by simpa using h)
  rw [State.issueBundle_eq, hexec, s.issued_onlyA0 c x 0 (by decide)]
  rw [State.issueX_onlyA0, haltExec_onlyA0]
  rfl

theorem exec_bundleIssue_intact (c : PCell) (hit : Upset) (x : Cell) (b : Slots) (s : State) (h : s.mayIssue c.val = true)
    (hx : x = (s.settleCell c.val).cell c.val) (hb : b = slotsOf (x.bundle x.next)) (hgood : x.bundleBad x.next = []) :
    exec (.bundleIssue c hit) s = .next ((((s.settleCell c.val).issued c.val x b).issueX c.val s.tb b.x x hit).issueEnded c.val
      ((s.settleCell c.val).issueErrs c.val x b) (haltExec b.c x.bp)) := by
  have htb : (s.settleCell c.val).tb = s.tb := ((s.settleCell_keeps c.val).tb rfl).1
  rw [exec_bundleIssue c hit s h, ← hx, State.issueBundle_intact _ _ x hit hgood, htb, ← hb]

theorem State.issueErrs_onlyA0 (s : State) (c : Nat) (x : Cell) (a : Nat) (h : x.bad = []) (ha : bits a 55 50 ≠ 0x30) :
    s.issueErrs c x (onlyA0 a) = [] := by
  rw [State.issueErrs, x.bundleBad_intact _ h, parityErrs_onlyA0 x _ _ a h ha]
  rfl

/-- The issue of a bundle of at most one A0 operation in a cell with nothing under way and intact storage is its entry. -/
theorem exec_bundleIssue_onlyA0 (c : PCell) (hit : Upset) (a : Nat) (s : State) (h : s.mayIssue c.val = true)
    (hpend : (s.cell c.val).pend = []) (hbad : (s.cell c.val).bad = [])
    (hslots : slotsOf ((s.cell c.val).bundle (s.cell c.val).next) = onlyA0 a) (ha : bits a 55 50 ≠ 0x30) :
    exec (.bundleIssue c hit) s = .next (s.entered c.val (s.cell c.val) (onlyA0 a)) := by
  rw [exec_bundleIssue c hit s h, s.settleCell_of_empty _ hpend, State.issueBundle_intact _ _ _ hit (Cell.bundleBad_intact _ _ hbad), hslots,
    State.issued_onlyA0 _ _ _ a ha, State.issueErrs_onlyA0 _ _ _ a hbad ha]
  rw [State.issueX_onlyA0, haltExec_onlyA0, State.issueEnded_nil]

/-! ### The X operations at the end of the bundle -/

theorem State.pend_xResult (s : State) (c t dr : Nat) (v : Word) :
    ⟨t + 2, t, 7, 4, dr, 0, v, BitVec.allOnes 64⟩ ∈ ((s.xResult c t dr v).cell c).pend := by
  rw [State.xResult, State.cell_setCell_self]
  exact List.mem_append_right _ (List.mem_singleton_self _)

theorem State.cell_issueEnded (s : State) (c d : Nat) (errs : List (Nat × Nat × Nat)) (halt : Bool) :
    (s.issueEnded c errs halt).cell d = s.cell d :=
  (s.issueEnded_keeps c errs halt).cell rfl d

theorem State.issueX_send (s : State) (c t w : Nat) (x : Cell) (hit : Upset) (hop : bits w 47 44 = 1) (hpass : condPass (bits w 43 42) x.bp = true) :
    s.issueX c t w x hit = s.xSend c w x hit := by
  simp [State.issueX_eq, hpass, hop]

theorem State.issueX_recv (s : State) (c t w : Nat) (x : Cell) (hit : Upset) (hop : bits w 47 44 = 2) (hpass : condPass (bits w 43 42) x.bp = true) :
    s.issueX c t w x hit = s.xRecv c t w x := by
  simp [State.issueX_eq, hpass, hop]

theorem State.issueX_mreq (s : State) (c t w : Nat) (x : Cell) (hit : Upset) (hop : bits w 47 44 = 3) (hpass : condPass (bits w 43 42) x.bp = true) :
    s.issueX c t w x hit = s.xMreq c t w x := by
  simp [State.issueX_eq, hpass, hop]

theorem State.issueX_mrsp (s : State) (c t w : Nat) (x : Cell) (hit : Upset) (hop : bits w 47 44 = 4) (hpass : condPass (bits w 43 42) x.bp = true) :
    s.issueX c t w x hit = s.xMrsp c t w x := by
  simp [State.issueX_eq, hpass, hop]

theorem State.xRecv_some (s : State) (c t w f : Nat) (x : Cell) (v : Word) (p : Byte) (h : x.inboxSees (bits w 8 0) t = some (f, v, p)) :
    s.xRecv c t w x = (s.laneMargin t f).xResult c t (bits w 41 36) v := by
  rw [State.xRecv, h]

theorem State.xRecv_none (s : State) (c t w : Nat) (x : Cell) (h : x.inboxSees (bits w 8 0) t = none) :
    s.xRecv c t w x = (s.xResult c t (bits w 41 36) 0).lateFlit c (bits w 8 0) 0x1FFFF 0xFFFF := by
  rw [State.xRecv, h]

@[simp] theorem Cell.slot_setSlot_self (x : Cell) (k : Nat) (q : XSlot) : (x.setSlot k q).slot k = q := by
  simp [Cell.slot, Cell.setSlot, sget_sput]

theorem State.xMreq_read (s : State) (c t w : Nat) (x : Cell) (hread : bit w 29 = false) (hout : (x.slot (bits w 5 0)).outstIn t = false) :
    s.xMreq c t w x =
      (s.setCell c ((s.cell c).setSlot (bits w 5 0) (s.asked t (x.slot (bits w 5 0))))).memIssue c (s.readReq c t w x) := by
  simp [State.xMreq, hread, hout]

/-- The slot of a read's tag awaits the response (04 R115). -/
theorem State.slot_xMreq_read (s : State) (c t w : Nat) (x : Cell) (hread : bit w 29 = false) (hout : (x.slot (bits w 5 0)).outstIn t = false) :
    ((s.xMreq c t w x).cell c).slot (bits w 5 0) = s.asked t (x.slot (bits w 5 0)) := by
  have hcell : (s.xMreq c t w x).cell c = (s.cell c).setSlot (bits w 5 0) (s.asked t (x.slot (bits w 5 0))) := by
    rw [s.xMreq_read c t w x hread hout]
    exact s.cell_setCell_self c _
  rw [hcell, Cell.slot_setSlot_self]

theorem State.memIn_xMreq_read (s : State) (c t w : Nat) (x : Cell) (hread : bit w 29 = false) (hout : (x.slot (bits w 5 0)).outstIn t = false) :
    ((s.xMreq c t w x).tile (c / 1088)).memIn = (s.tile (c / 1088)).memIn ++ [s.readReq c t w x] := by
  rw [s.xMreq_read c t w x hread hout, State.memIssue, State.tile_setTile_self]
  rfl

theorem State.xMrsp_present (s : State) (c t w : Nat) (x : Cell) (hp : (x.slot (bits w 5 0)).present = true)
    (hl : (x.slot (bits w 5 0)).landed < t) :
    ⟨t + 2, t, 7, 4, bits w 41 36, 0, (x.slot (bits w 5 0)).val, BitVec.allOnes 64⟩ ∈ ((s.xMrsp c t w x).cell c).pend := by
  rw [State.xMrsp, if_pos (by simp [hp, hl])]
  exact State.pend_xResult ..

/-- Settles O22. The bundle is followed from the settled cell over its entry, its X operation and its errors; what each of them keeps of the
cell, its registers and the deadline flags gives the clauses. -/
theorem bundleIssue : Obligations.BundleIssue := by
  unfold Obligations.BundleIssue
  refine ⟨?emptyBundle, ?wordOperation, ?everyBundle, ?plainBundle, ?damagedBundle, ?sendOperation, ?receiveOperation, ?receiveTooEarly,
    ?readRequest, ?responseUse, ?notIssued⟩
  case emptyBundle =>
    intro c hit s hmay hpend hbad hb h0 h1
    have hslots : slotsOf ((s.cell c.val).bundle (s.cell c.val).next) = onlyA0 0 := by
      rw [hb, slotsOf_onlyA0 0 (Nat.zero_mod _) (Nat.zero_div _), bits_zero]
    rw [exec_bundleIssue_onlyA0 c hit 0 s hmay hpend hbad hslots (by decide), State.entered, State.sequenced_onlyA0, sequence_next _ _ _ _ h0 h1,
      Cell.results_onlyA0 _ _ _ _ (by decide), issueA_zero, List.append_nil]
  case wordOperation =>
    intro c hit v s hmay hpend hbad hb
    obtain ⟨hlow, hhigh, hcond, hpack, hunpack, hv⟩ := hb _ rfl
    refine ⟨_, exec_bundleIssue_onlyA0 c hit _ s hmay hpend hbad (slotsOf_onlyA0 _ hlow hhigh) hpack, ?_,
      State.get_set_self .., ?_, s.entered_keeps ..⟩
    · rw [State.cell_entered, Cell.results_onlyA0 _ _ _ _ hpack, hpend, issueA_word _ _ _ _ _ _ v hcond hpack hunpack hv]
      rfl
    · rw [State.cell_entered]
  case everyBundle =>
    intro c hit x b s hmay hx hb hgood
    have hset := s.settleCell_sameButErrors c.val
    have hk := s.settleCell_keeps c.val
    obtain ⟨l, hl, hpend, hnext, hexec⟩ := (State.issueX_step ((s.settleCell c.val).issued c.val x b) c.val s.tb b.x x hit).cell
    have hX := (State.issueX_step ((s.settleCell c.val).issued c.val x b) c.val s.tb b.x x hit).keeps.sameButErrors (by decide)
    have hsame := hX.trans (State.issueEnded_sameButErrors _ c.val ((s.settleCell c.val).issueErrs c.val x b) (haltExec b.c x.bp))
    refine ⟨_, l, exec_bundleIssue_intact c hit x b s hmay hx hb hgood, ?_, ?_, hl, ?_, ?_, ?_⟩
    · rw [State.cell_issueEnded, hexec, State.cell_issued, hk.cyc rfl rfl]
    · exact (hsame.get _ _ rfl).trans (State.bpc_issued ..)
    · rw [State.cell_issueEnded, hpend, State.cell_issued, hset.flag CELL_SBSEL_CUR, (hk.tb rfl).1]
      rfl
    · intro hends
      obtain ⟨hissuing, hended⟩ := State.ended_issued (s.settleCell c.val) c.val x b hends
      refine ⟨(hsame.flag ..).trans hissuing, (hsame.flag ..).trans hended, ?_⟩
      rw [State.cell_issueEnded, hnext, State.cell_issued, State.sequenced, if_pos hends]
    · rintro ⟨hend, hhalt⟩
      have hends : ¬(bits b.c 31 28 = 3 ∨ haltExec b.c x.bp = true) := by simp [hend, hhalt]
      have hissuing := (hset.flag CELL_STAT_ISSUING c.val).trans (s.issuing_of_mayIssue _ hmay)
      refine ⟨(hsame.flag ..).trans ((State.issuing_issued _ _ _ _ hends).trans hissuing), ?_⟩
      rw [State.cell_issueEnded, hnext, State.cell_issued, State.sequenced, if_neg hends, hset.flag CELL_IMCFG_PAGED,
        hset.get CELL_IMCFG_RUNPAGE _ rfl]
  case plainBundle =>
    intro c hit x b s hmay hx hb hgood hX hhalt herrs
    have hk := s.settleCell_keeps c.val
    have herrs' : (s.settleCell c.val).issueErrs c.val x b = [] := by
      rw [State.issueErrs, hgood, (s.settleCell_sameButErrors c.val).flag CELL_SBSEL_CUR, (hk.tb rfl).1, herrs]
      rfl
    have hexec := exec_bundleIssue_intact c hit x b s hmay hx hb hgood
    rw [hX, hhalt, herrs', State.issueX_empty, State.issueEnded_nil] at hexec
    refine ⟨_, hexec, fun d hd => ?_, (hk.trans (State.issued_keeps ..)).mono⟩
    rw [State.cell_issued_ne _ _ _ _ _ hd, s.cell_settleCell_ne _ _ hd]
  case damagedBundle =>
    intro c hit x b s hmay hx hb hbad
    have hset := s.settleCell_sameButErrors c.val
    have hexec := exec_bundleIssue c hit s hmay
    rw [← hx, State.issueBundle_damaged _ _ x hit hbad] at hexec
    refine ⟨_, hexec, State.issueEnded_flagged _ _ _ (by simp [State.issueErrs, hbad]), ?_, ?_, ?_⟩
    · rw [State.cell_issueEnded, State.cell_entered, Cell.results_noSlots, List.append_nil]
    · rw [State.cell_issueEnded, State.cell_entered, (s.settleCell_keeps c.val).cyc rfl rfl]
    · rw [State.cell_issueEnded, State.cell_entered, State.sequenced_noSlots, hset.flag CELL_IMCFG_PAGED, hset.get CELL_IMCFG_RUNPAGE _ rfl]
  case sendOperation =>
    intro c hit x b s hmay hx hb hgood hop hpass
    have hk : Keeps settleWrites s ((s.settleCell c.val).issued c.val x b) := (s.settleCell_keeps c.val).trans (State.issued_keeps ..)
    refine ⟨_, exec_bundleIssue_intact c hit x b s hmay hx hb hgood, ((State.issueEnded_keeps ..).sends rfl).trans ?_⟩
    have hepoch : ((s.settleCell c.val).issued c.val x b).flag CELL_STAT_EPOCH c.val = s.flag CELL_STAT_EPOCH c.val :=
      (State.epoch_issued ..).trans ((s.settleCell_sameButErrors c.val).flag ..)
    rw [State.issueX_send _ _ _ _ _ _ hop hpass, State.xSend, hk.sends rfl, hk.lcell rfl, hepoch]
  case receiveOperation =>
    intro f v p c hit x b s hmay hx hb hgood hop hpass hsees
    refine ⟨_, exec_bundleIssue_intact c hit x b s hmay hx hb hgood, ?_⟩
    rw [State.cell_issueEnded, State.issueX_recv _ _ _ _ _ _ hop hpass, State.xRecv_some _ _ _ _ _ _ _ _ hsees]
    exact State.pend_xResult ..
  case receiveTooEarly =>
    intro c hit x b s hmay hx hb hgood hop hpass hsees
    refine ⟨_, exec_bundleIssue_intact c hit x b s hmay hx hb hgood, ?_, ?_⟩
    · rw [State.flag_issueEnded_lateFlit, State.issueX_recv _ _ _ _ _ _ hop hpass, State.xRecv_none _ _ _ _ _ hsees]
      exact State.lateFlit_flagged ..
    · rw [State.cell_issueEnded, State.issueX_recv _ _ _ _ _ _ hop hpass, State.xRecv_none _ _ _ _ _ hsees,
        (State.lateFlit_keeps ..).cell rfl]
      exact State.pend_xResult ..
  case readRequest =>
    intro c hit x b s hmay hx hb hgood hop hpass hread hout
    have hk : Keeps settleWrites s ((s.settleCell c.val).issued c.val x b) := (s.settleCell_keeps c.val).trans (State.issued_keeps ..)
    refine ⟨_, exec_bundleIssue_intact c hit x b s hmay hx hb hgood, ?_, ?_, ?_⟩
    · rw [State.cell_issueEnded, State.issueX_mreq _ _ _ _ _ _ hop hpass, State.slot_xMreq_read _ _ _ _ _ hread hout]
      rfl
    · rw [State.cell_issueEnded, State.issueX_mreq _ _ _ _ _ _ hop hpass, State.slot_xMreq_read _ _ _ _ _ hread hout]
      rfl
    · rw [(State.issueEnded_keeps ..).tile rfl, State.issueX_mreq _ _ _ _ _ _ hop hpass, State.memIn_xMreq_read _ _ _ _ _ hread hout,
        hk.tile rfl, State.readReq, hk.lcell rfl, hk.stroke rfl]
  case responseUse =>
    intro c hit x b s hmay hx hb hgood hop hpass hpresent hlanded
    refine ⟨_, exec_bundleIssue_intact c hit x b s hmay hx hb hgood, ?_⟩
    rw [State.cell_issueEnded, State.issueX_mrsp _ _ _ _ _ _ hop hpass]
    exact State.xMrsp_present _ _ _ _ _ hpresent hlanded
  case notIssued => exact exec_bundleIssue_none

end Sys2Proof.Machine
end

section
/-! SUPPORT. The storage of a cell: what a word reads after a write, which cell an operation leaves, and the logs of a tile, which hold no cell. -/

namespace Sys2Proof.Machine

set_option Elab.async false

/-! ### Words of a cell (03 R61, R81) -/

theorem Cell.rd_wr (x : Cell) (u a u' a' : Nat) (w m : Word) : (x.wr u a w m).rd u' a' =
    if 65536 * u' + a' = 65536 * u + a then (w &&& m) ||| (x.rd u a &&& ~~~m) else x.rd u' a' :=
  sget_sput ..

theorem Cell.rd_wr_self (x : Cell) (u a : Nat) (w m : Word) : (x.wr u a w m).rd u a = (w &&& m) ||| (x.rd u a &&& ~~~m) :=
  (x.rd_wr ..).trans (if_pos rfl)

theorem Cell.rd_wr_ne (x : Cell) (u a u' a' : Nat) (w m : Word) (h : 65536 * u' + a' ≠ 65536 * u + a) :
    (x.wr u a w m).rd u' a' = x.rd u' a' :=
  (x.rd_wr ..).trans (if_neg h)

/-- A repetition of writes elsewhere leaves a word as it was. -/
theorem Cell.rd_foldl {α : Type} {f : Cell → α → Cell} {u a : Nat} {l : List α} (hf : ∀ x, ∀ k ∈ l, (f x k).rd u a = x.rd u a) (x : Cell) :
    (l.foldl f x).rd u a = x.rd u a :=
  List.foldlRecOn l f (motive := fun y => y.rd u a = x.rd u a) rfl (fun y hy k hk => (hf y k hk).trans hy)

/-! ### One cell and the others -/

/-- What a cell holds as its results take effect depends on that cell and the time base alone (03 R62). -/
theorem State.cell_settleCell (s : State) (c : Nat) : (s.settleCell c).cell c = ((s.cell c).settle (s.cell c).pend.length s.tb).1 := by
  unfold State.settleCell
  extract_lets x
  split
  next hempty =>
    rw [List.isEmpty_iff.mp hempty]
    rfl
  next =>
    split
    next y w hsettled =>
      have hc : (s.setCell c y).cell c = y := s.cell_setCell_self c y
      rw [hsettled]
      split
      · exact ((State.cellFlag_keeps _ CELL_STAT_WCOLL c rfl).cell rfl c).trans hc
      · exact hc

theorem State.cell_foldl_ne {α : Type} {f : State → α → State} {l : List α} {c : Nat} (hf : ∀ s, ∀ k ∈ l, (f s k).cell c = s.cell c) (s : State) :
    (l.foldl f s).cell c = s.cell c :=
  List.foldlRecOn l f (motive := fun t => t.cell c = s.cell c) rfl (fun _ ht k hk => (hf _ k hk).trans ht)

/-- The storage words of every cell are as they were. -/
structure State.SameWords (s t : State) : Prop where
  mem : ∀ d, (t.cell d).mem = (s.cell d).mem

theorem State.SameWords.refl (s : State) : s.SameWords s := ⟨fun _ => rfl⟩

theorem State.SameWords.trans {s t u : State} (h : s.SameWords t) (k : t.SameWords u) : s.SameWords u := ⟨fun d => (k.mem d).trans (h.mem d)⟩

theorem State.SameWords.rd {s t : State} (h : s.SameWords t) (d u a : Nat) : (t.cell d).rd u a = (s.cell d).rd u a :=
  congrArg (sget · (65536 * u + a) 0) (h.mem d)

theorem Keeps.sameWords {w : Writes} {s t : State} (h : Keeps w s t) (hw : w.cells = false := by rfl) : s.SameWords t :=
  ⟨fun d => congrArg Cell.mem (h.cell hw d)⟩

theorem State.SameWords.ite {s t u : State} {p : Prop} [Decidable p] (h : s.SameWords t) (k : s.SameWords u) :
    s.SameWords (if p then t else u) := by
  split
  · exact h
  · exact k

theorem State.SameWords.foldl {α : Type} {f : State → α → State} (hf : ∀ s k, State.SameWords s (f s k)) (l : List α) (s : State) :
    s.SameWords (l.foldl f s) :=
  List.foldlRecOn l f (motive := fun t => s.SameWords t) (.refl s) (fun t ht k _ => ht.trans (hf t k))

theorem State.setCell_sameWords (s : State) (c : Nat) (x : Cell) (h : x.mem = (s.cell c).mem) : s.SameWords (s.setCell c x) where
  mem d := by
    by_cases hd : d = c
    · rw [hd, State.cell_setCell_self, h]
    · rw [State.cell_setCell_ne _ _ _ _ hd]

/-! ### The logs of a tile (08 R234 to R236, R244) -/

/-- The writes of a log: its records and marks, and the fault of one that is full or diverges. -/
def logWrites : Writes := { faultWrites with mem := true, tiles := true }

theorem State.appendLog_keeps_cells (s : State) (t : Nat) (out : Bool) (r : Nat) : Keeps logWrites s (s.appendLog t out r).1 := by
  unfold State.appendLog
  rw [apply_ite Prod.fst]
  exact .ite (s.logFullFault_keeps ..).mono (s.putLog_keeps ..).mono

theorem State.putMarker_keeps (s : State) (t : Nat) (out : Bool) (k : Nat) : Keeps logWrites s (s.putMarker t out k) := by
  unfold State.putMarker
  extract_lets x n
  have ha := s.appendLog_keeps_cells t out (k % 2 ^ 64 + n * 2 ^ 68)
  split
  next u ok happended =>
    rw [happended] at ha
    exact .ite (ha.andThen (State.setTile_keeps ..)) ha

theorem State.diverge_keeps (s : State) (loc fenced logged : Nat) : Keeps faultWrites s (s.diverge loc fenced logged) :=
  Keeps.refl _ s |>.andThen (s.raise_keeps ..) |>.andThen (State.bump_keeps ..) |>.trans (State.fault_keeps ..)

theorem State.fenceClose_keeps (s : State) (t k : Nat) : Keeps logWrites s (s.fenceClose t k) := by
  unfold State.fenceClose
  extract_lets recs keys short compared
  have hc : Keeps faultWrites s compared := .foldl (fun s _ => s.diverge_keeps ..) short s
  exact hc.mono.andThen (State.setTile_keeps ..)

theorem State.closeLogs_keeps (s : State) (t : Nat) : Keeps logWrites s (s.closeLogs t) :=
  .ite (s.fenceClose_keeps ..) ((s.putMarker_keeps ..).trans (State.putMarker_keeps ..))

end Sys2Proof.Machine
end

section
/-! SUPPORT. The steps of a cell at P − 24 (03 R68, R79): what the flip of its banks and the drain leave of its storage. -/

namespace Sys2Proof.Machine

set_option Elab.async false

/-! ### The loop registers (03 R79) -/

/-- The net store is no loop register. -/
theorem Cell.loops_flipBanks (x : Cell) (cur : Bool) (k : Nat) : (x.flipBanks cur).rd 6 k = x.rd 6 k := by
  refine Cell.rd_foldl (fun y w hw => y.rd_wr_ne _ _ _ _ _ _ ?_) x
  have hw : w < 128 := List.mem_range.mp hw
  have hbank : physBank (!cur) true (12 + w / 32) ≤ 19 := by
    unfold physBank
    rw [if_neg (by omega)]
    have : b2n ((!cur) != true) ≤ 1 := by cases cur <;> decide
    omega
  omega

/-- A clear of bit 48 alone. -/
theorem getLsbD_clear_active (w : Word) (b : Nat) :
    (((0 : Word) &&& BitVec.ofNat 64 (2 ^ 48)) ||| (w &&& ~~~BitVec.ofNat 64 (2 ^ 48))).getLsbD b = (!decide (b = 48) && w.getLsbD b) := by
  have hbit : (BitVec.ofNat 64 (2 ^ 48)).getLsbD b = decide (b = 48) := by
    rw [show BitVec.ofNat 64 (2 ^ 48) = BitVec.twoPow 64 48 from rfl, BitVec.getLsbD_twoPow]
    simp [eq_comm]
  rw [show (0 : Word) &&& BitVec.ofNat 64 (2 ^ 48) = 0 from rfl, show (0 : Word) = 0#64 from rfl, BitVec.zero_or, BitVec.getLsbD_and, BitVec.getLsbD_not, hbit]
  by_cases hb : b < 64
  · rw [decide_eq_true hb, Bool.true_and, Bool.and_comm]
  · rw [BitVec.getLsbD_of_ge w b (by omega), Bool.and_false, Bool.false_and]

/-- ACTIVE of each loop register clears and every other bit stays (03 R79). -/
theorem Cell.loop_clearLoops (x : Cell) (k : Fin 2) (b : Nat) :
    (x.clearLoops.rd 6 k.val).getLsbD b = (!decide (b = 48) && (x.rd 6 k.val).getLsbD b) := by
  unfold Cell.clearLoops
  match k with
  | 0 =>
    rw [Cell.rd_wr_ne _ _ _ _ _ _ _ (by decide), Fin.val_zero, Cell.rd_wr_self]
    exact getLsbD_clear_active ..
  | 1 =>
    rw [Fin.val_one, Cell.rd_wr_self, Cell.rd_wr_ne _ _ _ _ _ _ _ (by decide)]
    exact getLsbD_clear_active ..

/-! ### The flip of the live cells -/

/-- The writes of the flip of a cell. -/
theorem State.flipCell_keeps (s : State) (ckp : Bool) (c : Nat) : Keeps settleWrites s (s.flipCell ckp c) :=
  (s.settleCell_keeps c).andThen (State.setCell_keeps ..) |>.andThen (State.set_keeps ..) |>.andThen (State.set_keeps ..)

theorem State.cell_flipCell_ne (s : State) (ckp : Bool) (c d : Nat) (h : d ≠ c) : (s.flipCell ckp c).cell d = s.cell d := by
  unfold State.flipCell
  extract_lets u cur x y
  exact (u.cell_setCell_ne c d y h).trans (s.cell_settleCell_ne c d h)

theorem State.loop_flipCell (s : State) (ckp : Bool) (c : Nat) (k : Fin 2) (b : Nat) : (((s.flipCell ckp c).cell c).rd 6 k.val).getLsbD b =
    (!decide (b = 48) && ((((s.cell c).settle (s.cell c).pend.length s.tb).1).rd 6 k.val).getLsbD b) := by
  have hflipped : ((s.flipCell ckp c).cell c).rd 6 k.val =
      ((((s.settleCell c).cell c).flipBanks ((s.settleCell c).flag CELL_SBSEL_CUR c)).clearLoops).rd 6 k.val := by
    unfold State.flipCell
    extract_lets u cur x y
    have hy := congrArg (Cell.rd · 6 k.val) (u.cell_setCell_self c y)
    exact hy
  rw [hflipped, Cell.loop_clearLoops, Cell.loops_flipBanks, State.cell_settleCell]

/-- The live cells have flipped (03 R68, R75, R79). -/
def State.banksFlipped (s : State) : State :=
  s.liveCells.foldl (fun u c => u.flipCell (s.ckpStroke s.stroke.no) c) (s.setStroke { s.stroke with flipped := true })

theorem State.liveCells_nodup (s : State) : s.liveCells.Nodup := List.nodup_range.filter _

/-- Each live cell is flipped once, from what its own results leave. -/
theorem State.loop_banksFlipped (s : State) (c : Nat) (hc : c ∈ s.liveCells) (k : Fin 2) (b : Nat) :
    ((s.banksFlipped.cell c).rd 6 k.val).getLsbD b = (!decide (b = 48) && (((s.settleCell c).cell c).rd 6 k.val).getLsbD b) := by
  obtain ⟨l, r, hlr⟩ := List.append_of_mem hc
  have hnodup := s.liveCells_nodup
  rw [hlr, List.nodup_middle, List.nodup_cons, List.mem_append, not_or] at hnodup
  obtain ⟨⟨hl, hr⟩, -⟩ := hnodup
  have hne {l : List Nat} (hl : c ∉ l) (u : State) :
      (l.foldl (fun u d => u.flipCell (s.ckpStroke s.stroke.no) d) u).cell c = u.cell c :=
    State.cell_foldl_ne (fun u d hd => u.cell_flipCell_ne _ d c (fun e => hl (e ▸ hd))) u
  have htb (u : State) : (l.foldl (fun u d => u.flipCell (s.ckpStroke s.stroke.no) d) u).tb = u.tb :=
    ((Keeps.foldl (fun u d => u.flipCell_keeps _ d) l u).tb rfl).1
  rw [State.banksFlipped, hlr, List.foldl_append, List.foldl_cons, hne hr, State.loop_flipCell, hne hl, htb, State.cell_settleCell]
  rfl

/-! ### What follows the flip -/

/-- The logs are closed, and in a checkpoint stroke the drain starts (08 R226, R234). -/
def State.drainStarted (s : State) (ckp : Bool) : State :=
  let u := s.liveTiles.foldl (fun s t => s.closeLogs t) s
  if ckp then
    let v := (u.lower CKP_CTL_SWACK).liveTiles.foldl (fun s t => s.invalidateTarget t) (u.lower CKP_CTL_SWACK)
    v.liveCells.foldl (fun s c => s.startDrain c) v
  else u

theorem exec_stateBankFlip (s : State) (hs : s.atEnd 24 = true) (hf : s.stroke.flipped = false) :
    exec .stateBankFlip s = .next (s.banksFlipped.drainStarted (s.ckpStroke s.stroke.no)) := by
  show execStateBankFlip s = _
  unfold execStateBankFlip
  rw [if_pos (by rw [hs, hf]; rfl)]
  exact (apply_ite Host.Outcome.next ..).symm

theorem State.putWords_keeps (s : State) (a : Nat) (l : List Word) : Keeps { mem := true } s (s.putWords a l) := s.setBytes_keeps ..

theorem State.putUnits_keeps (s : State) (b : Nat) (x : Cell) (cur : Bool) (banks : Nat) :
    Keeps { mem := true } s (s.putUnits b x cur banks) :=
  (s.putWords_keeps ..).trans (.foldl (fun s _ => .ite (s.putWords_keeps ..) (.refl _ s)) _ _)

theorem State.putLines_keeps (s : State) (b : Nat) (x : Cell) (l : List Nat) : Keeps { mem := true } s (s.putLines b x l) :=
  .foldl (fun s _ => s.putWords_keeps ..) l s

theorem State.putMasks_keeps (s : State) (b m : Nat) : Keeps { mem := true } s (s.putMasks b m) :=
  (s.setNum_keeps ..).trans (State.setNum_keeps ..)

/-- A drain reads a cell and changes none of its words (08 R226). -/
theorem State.drainCell_sameWords (s : State) (c : Nat) : s.SameWords (s.drainCell c) := by
  unfold State.drainCell
  extract_lets x t l cur b put last u
  have hu : s.SameWords u :=
    (s.setCell_sameWords c { x with drained := true, drainedAt := last } rfl).trans (.foldl (fun s e => (s.cellParity_keeps ..).sameWords) _ _)
  have hput : Keeps { mem := true } u (put u) :=
    (u.putUnits_keeps ..).trans (State.putLines_keeps ..) |>.trans (State.putMasks_keeps ..)
  exact .ite (hu.trans (u.ckpFail_keeps 2).sameWords) (hu.trans hput.sameWords)

theorem State.startDrain_sameWords (s : State) (c : Nat) : s.SameWords (s.startDrain c) :=
  .ite (.refl s) (.ite (s.drainCell_sameWords c) (s.raise_keeps ..).sameWords)

theorem State.drainStarted_sameWords (s : State) (ckp : Bool) : s.SameWords (s.drainStarted ckp) := by
  unfold State.drainStarted
  extract_lets u v
  have hu : s.SameWords u := .foldl (fun s t => (s.closeLogs_keeps t).sameWords) _ s
  have hv : s.SameWords v := hu.trans (u.lower_keeps ..).sameWords |>.trans (.foldl (fun s t => (s.setNum_keeps ..).sameWords) _ _)
  exact .ite (hv.trans (.foldl (fun s c => s.startDrain_sameWords c) _ v)) hu

/-- Settles O43. Each live cell is flipped once, after its own results; the flip clears bit 48 of its loop registers, and nothing after it
changes a word of a cell. -/
theorem loopsEndWithStroke : Obligations.LoopsEndWithStroke := by
  unfold Obligations.LoopsEndWithStroke
  intro c k x s hin hcyc hflipped hc hx
  have hend : s.atEnd 24 = true := by rw [State.atEnd, hin, decide_eq_true hcyc]; rfl
  refine ⟨_, exec_stateBankFlip s hend hflipped, ?_, fun b hb => ?_⟩
  · rw [(State.drainStarted_sameWords ..).rd, s.loop_banksFlipped c hc]
    rfl
  · rw [(State.drainStarted_sameWords ..).rd, s.loop_banksFlipped c hc, hx, decide_eq_false hb, Bool.not_false, Bool.true_and]

end Sys2Proof.Machine
end

section
/-! SUPPORT. What the storage window stores in a cell (03 R80, R81): a word or a row of the function table, with the parity of what is written. -/

namespace Sys2Proof.Machine

set_option Elab.async false

/-! ### Bytes with wrong parity (03 R81) -/

theorem Cell.rdBad_wrBad_self (x : Cell) (u a : Nat) (w : Word) (b : Byte) : (x.wrBad u a w b).rdBad u a = b :=
  (sget_sput ..).trans (if_pos rfl)

/-- A write of a whole word leaves good parity. -/
theorem Cell.rdBad_wr_full (x : Cell) (u a : Nat) (w : Word) : (x.wr u a w (BitVec.allOnes 64)).rdBad u a = 0 := by
  unfold Cell.wr
  rw [Cell.rdBad_wrBad_self]
  have hbytes : ∀ k ∈ List.range 8, byteOf (BitVec.allOnes 64).toNat k ≠ 0 := by decide
  refine congrArg (BitVec.ofNat 8) (List.foldlRecOn (List.range 8) _ (motive := (· = 0)) rfl (fun acc hacc k hk => ?_))
  rw [if_neg (fun h => hbytes k hk h.1), hacc]

theorem Cell.rd_wr_full (x : Cell) (u a : Nat) (w : Word) : (x.wr u a w (BitVec.allOnes 64)).rd u a = w := by
  rw [Cell.rd_wr_self, BitVec.and_allOnes, BitVec.not_allOnes, BitVec.and_zero, BitVec.or_zero]

/-! ### A word and a quarter of the function table as the window stores them -/

/-- All eight bytes are written. -/
theorem fullMask : BitVec.ofNat 64 (byteMask 8 0xFF) = BitVec.allOnes 64 := by decide

theorem Cell.rd_winPut_word (x : Cell) (u a : Nat) (v : Word) (inj : Bool) : (x.winPut (.word u a) v.toNat 0xFF inj).rd u a = v := by
  have hword : (x.wr u a (BitVec.ofNat 64 v.toNat) (BitVec.ofNat 64 (byteMask 8 0xFF))).rd u a = v := by
    rw [fullMask, BitVec.ofNat_toNat, BitVec.setWidth_eq, Cell.rd_wr_full]
  unfold Cell.winPut
  dsimp only
  split
  · exact hword
  · exact hword

theorem Cell.rd_winPut_word_ne (x : Cell) (u a u' a' v mask : Nat) (inj : Bool) (h : 65536 * u' + a' ≠ 65536 * u + a) :
    (x.winPut (.word u a) v mask inj).rd u' a' = x.rd u' a' := by
  have hword := x.rd_wr_ne u a u' a' (BitVec.ofNat 64 v) (BitVec.ofNat 64 (byteMask 8 mask)) h
  unfold Cell.winPut
  dsimp only
  split
  · exact hword
  · exact hword

/-- With PINJ armed byte 0 gets inverted parity (03 R81). -/
theorem Cell.rdBad_winPut_word (x : Cell) (u a v : Nat) (inj : Bool) :
    (x.winPut (.word u a) v 0xFF inj).rdBad u a = if inj = true then 1 else 0 := by
  unfold Cell.winPut
  dsimp only
  rw [fullMask]
  cases inj
  · rw [if_neg (by decide), if_neg (by decide), Cell.rdBad_wr_full]
  · rw [if_pos (by decide), if_pos rfl, Cell.rdBad_wr_full]
    have hbad := sget_sput (x.wr u a (BitVec.ofNat 64 v) (BitVec.allOnes 64)).bad (65536 * u + a) (65536 * u + a) (0 ||| 1 : Byte) 0
    exact hbad.trans (if_pos rfl)

/-- Quarter i of a write goes to word f + i of the function table. -/
def Cell.putQuarter (f v mask : Nat) (inj : Bool) (y : Cell) (i : Nat) : Cell :=
  let m := mask / 4 ^ i % 4
  if m = 0 then y
  else
    let y := y.wr 5 (f + i) (BitVec.ofNat 64 (bits v (16 * i + 15) (16 * i))) (BitVec.ofNat 64 (byteMask 2 m))
    if inj && i == 0 && bit m 0 then { y with bad := sput y.bad (65536 * 5 + f) (y.rdBad 5 f ||| 1) 0 } else y

theorem Cell.winPut_ftab (x : Cell) (f v mask : Nat) (inj : Bool) :
    x.winPut (.ftab f) v mask inj = (List.range 4).foldl (Cell.putQuarter f v mask inj) x := rfl

theorem Cell.rd_putQuarter_ne (f v mask : Nat) (inj : Bool) (y : Cell) (i a : Nat) (h : a ≠ f + i) :
    (Cell.putQuarter f v mask inj y i).rd 5 a = y.rd 5 a := by
  unfold Cell.putQuarter
  extract_lets m z
  have hz : z.rd 5 a = y.rd 5 a := y.rd_wr_ne _ _ _ _ _ _ (by omega)
  split
  · rfl
  · split
    · exact hz
    · exact hz

/-- The low half-word of a masked write of it is the one written. -/
theorem low16_of_masked (p old : Word) : ((p &&& BitVec.ofNat 64 0xFFFF) ||| (old &&& ~~~BitVec.ofNat 64 0xFFFF)).toNat % 2 ^ 16 = p.toNat % 2 ^ 16 := by
  rw [← BitVec.toNat_setWidth, ← BitVec.toNat_setWidth, BitVec.setWidth_or, BitVec.setWidth_and, BitVec.setWidth_and,
    BitVec.setWidth_not (by decide), show (BitVec.ofNat 64 0xFFFF).setWidth 16 = BitVec.allOnes 16 by decide, BitVec.not_allOnes,
    BitVec.and_allOnes, BitVec.and_zero, BitVec.or_zero]

theorem Cell.rd_putQuarter_self (f v mask : Nat) (inj : Bool) (y : Cell) (i : Nat) (hm : mask / 4 ^ i % 4 = 3) :
    ((Cell.putQuarter f v mask inj y i).rd 5 (f + i)).toNat % 2 ^ 16 = v / 2 ^ (16 * i) % 2 ^ 16 := by
  have hz : ((y.wr 5 (f + i) (BitVec.ofNat 64 (bits v (16 * i + 15) (16 * i))) (BitVec.ofNat 64 (byteMask 2 3))).rd 5 (f + i)).toNat % 2 ^ 16 =
      v / 2 ^ (16 * i) % 2 ^ 16 := by
    rw [Cell.rd_wr_self, show byteMask 2 3 = 0xFFFF by decide, low16_of_masked, BitVec.toNat_ofNat, bits,
      show 16 * i + 15 + 1 - 16 * i = 16 by omega]
    omega
  unfold Cell.putQuarter
  rw [hm]
  dsimp only
  rw [if_neg (by decide)]
  split
  · exact hz
  · exact hz

/-- A write of a whole table row stores its four quarters in four words of the table. -/
theorem Cell.rd_winPut_ftab (x : Cell) (f v : Nat) (inj : Bool) (k : Fin 4) :
    ((x.winPut (.ftab f) v 0xFF inj).rd 5 (f + k.val)).toNat % 2 ^ 16 = v / 2 ^ (16 * k.val) % 2 ^ 16 := by
  obtain ⟨l, r, hlr⟩ := List.append_of_mem (List.mem_range.mpr k.isLt)
  have hnodup : (List.range 4).Nodup := List.nodup_range
  rw [hlr, List.nodup_middle, List.nodup_cons, List.mem_append, not_or] at hnodup
  obtain ⟨⟨-, hr⟩, -⟩ := hnodup
  have hlater : ∀ y, ∀ i ∈ r, (Cell.putQuarter f v 0xFF inj y i).rd 5 (f + k.val) = y.rd 5 (f + k.val) :=
    fun y i hi => Cell.rd_putQuarter_ne _ _ _ _ _ _ _ (fun e => hr (Nat.add_left_cancel e ▸ hi))
  rw [Cell.winPut_ftab, hlr, List.foldl_append, List.foldl_cons, Cell.rd_foldl hlater]
  exact Cell.rd_putQuarter_self _ _ _ _ _ _ ((by decide : ∀ i : Fin 4, 0xFF / 4 ^ i.val % 4 = 3) k)

end Sys2Proof.Machine
end

section
/-! SUPPORT. The flags of a cell (03 R84, R89), and what the running cycle holds set as they rise (00 R13). -/

namespace Sys2Proof.Machine

set_option Elab.async false

/-! ### The flags of a cell -/

theorem State.cellFlag_flagged (s : State) (f : Field) (c : Nat) (hf : f.bank ≠ .lec) (hw : 0 < f.width) : (s.cellFlag f c).flag f c = true :=
  ((State.cellLevel_keeps ..).flag _ _ (by simpa [levelWrites] using hf)).trans (s.flag_raise_self f c hw)

/-- Outside RUN a parity error is flagged and captured alone (03 R84). -/
theorem State.cellParity_keeps_quiet (s : State) (c unit addr bytes cause : Nat) (h : s.mode ≠ .run) :
    Keeps cellWrites s (s.cellParity c unit addr bytes cause) := by
  unfold State.cellParity
  extract_lets captured
  have hc : Keeps cellWrites s captured := (s.cellFlag_keeps CELL_STAT_PERR c rfl).andThen (State.capturePerr_keeps ..)
  rw [if_neg (by rw [hc.mode rfl]; exact h)]
  exact hc

/-! ### What the running cycle holds set (00 R13) -/

theorem CycleSt.held_addSet_field (y : CycleSt) (f g : Field) (i j v : Nat) (h : g.id % 65536 ≠ f.id % 65536) :
    (y.addSet f i v).held g j = y.held g j := by
  have hkey : g.key j ≠ f.key i := by
    unfold Field.key
    omega
  unfold CycleSt.addSet
  by_cases hf : f.joins = true
  · rw [if_pos hf, CycleSt.held, CycleSt.held, sget_sput_ne _ _ _ _ _ _ hkey]
  · rw [if_neg hf]

/-- Nothing of what a field of a cell holds set in this cycle changes. -/
def State.SameHeld (g : Field) (s t : State) : Prop := ∀ j, t.cycle.held g j = s.cycle.held g j

theorem State.SameHeld.ite {g : Field} {s t u : State} {p : Prop} [Decidable p] (h : State.SameHeld g s t) (k : State.SameHeld g s u) :
    State.SameHeld g s (if p then t else u) := by
  split
  · exact h
  · exact k

theorem State.raise_sameHeld (s : State) (f g : Field) (i : Nat) (h : g.id % 65536 ≠ f.id % 65536) : State.SameHeld g s (s.raise f i) :=
  fun j => s.cycle.held_addSet_field f g i j 1 h

theorem State.bump_sameHeld (s : State) (f g : Field) (i k : Nat) : State.SameHeld g s (s.bump f i k) := by
  intro j
  show (s.cycle.addInc f i k).held g j = s.cycle.held g j
  unfold CycleSt.addInc
  split
  · rfl
  · rfl

theorem State.gecSync_sameHeld (s : State) (g : Field) (i : Nat) : State.SameHeld g s (s.gecSync i) := by
  unfold State.gecSync
  exact .ite (fun _ => rfl) (fun _ => rfl)

/-- A sample of an event source sets PEND and no bit of a cell. -/
theorem State.lecSample_sameHeld (s : State) (g : Field) (n : Nat) (lv : Bool) (h : g.id % 65536 ≠ LEC_PEND_PEND.id % 65536) :
    State.SameHeld g s (s.lecSample n lv) := by
  have hevent (u : State) : State.SameHeld g u (u.lecEvent n 1) := fun j =>
    (State.gecSync_sameHeld _ g _ j).trans ((State.bump_sameHeld _ _ g _ _ j).trans (u.raise_sameHeld _ g _ h j))
  unfold State.lecSample
  refine .ite (fun _ => rfl) ?_
  extract_lets prev fresh raw t sense q old pended counted
  have hc : State.SameHeld g s counted := .ite (fun j => pended.bump_sameHeld _ g _ _ j) (fun _ => rfl)
  exact .ite (fun j => (counted.gecSync_sameHeld g _ j).trans (hc j)) (.ite (fun j => hevent t j) (fun _ => rfl))

/-- Results that take effect set WCOLL at most. -/
theorem State.settleCell_sameHeld (s : State) (g : Field) (c : Nat) (hp : g.id % 65536 ≠ LEC_PEND_PEND.id % 65536)
    (hw : g.id % 65536 ≠ CELL_STAT_WCOLL.id % 65536) : State.SameHeld g s (s.settleCell c) := by
  have hflag (u : State) : State.SameHeld g u (u.cellFlag CELL_STAT_WCOLL c) :=
    fun j => (State.lecSample_sameHeld _ g _ _ hp j).trans (u.raise_sameHeld _ g c hw j)
  unfold State.settleCell
  refine .ite (fun _ => rfl) ?_
  split
  next y w _ => exact .ite (hflag (s.setCell c y)) (fun _ => rfl)

end Sys2Proof.Machine
end

section
/-! SUPPORT. The storage window of a cell (03 R80, R81, R84, R93, R94): what lies at an offset, what a read answers, and what a write leaves. -/

namespace Sys2Proof.Machine

set_option Elab.async false

/-! ### Reads of the window -/

/-- Four half-words as a number. -/
theorem foldl_quarters (g : Nat → Nat) :
    (List.range 4).foldl (fun acc i => acc + g i * 2 ^ (16 * i)) 0 = g 0 + g 1 * 2 ^ 16 + g 2 * 2 ^ 32 + g 3 * 2 ^ 48 := by
  rw [show List.range 4 = [0, 1, 2, 3] from rfl, List.foldl_cons, List.foldl_cons, List.foldl_cons, List.foldl_cons, List.foldl_nil,
    Nat.zero_add, Nat.mul_zero, Nat.pow_zero, Nat.mul_one]

/-- A row of the function table holds four half-words of it. -/
theorem Cell.winGet_ftab (x : Cell) (f : Nat) : x.winGet (.ftab f) =
    ((x.rd 5 f).toNat % 2 ^ 16 + (x.rd 5 (f + 1)).toNat % 2 ^ 16 * 2 ^ 16 + (x.rd 5 (f + 2)).toNat % 2 ^ 16 * 2 ^ 32 +
      (x.rd 5 (f + 3)).toNat % 2 ^ 16 * 2 ^ 48, 5, f,
     (List.range 4).foldl (fun acc i => acc + (x.rdBad 5 (f + i)).toNat % 4 * 4 ^ i) 0) := by
  rw [Cell.winGet, foldl_quarters (fun i => (x.rd 5 (f + i)).toNat % 2 ^ 16)]
  rfl

theorem exec_windowRead_unaligned (c : PCell) (off : BitVec 18) (s : State) (h : off.toNat % 8 ≠ 0) :
    exec (.windowRead c off) s = .next ((s.offAccess c.val).emit (.data 0 false)) := by
  show execWindowRead c off s = _
  rw [execWindowRead, if_pos h]

theorem exec_windowRead_off (c : PCell) (off : BitVec 18) (s : State) (h : s.winOn c.val = false) :
    exec (.windowRead c off) s = .next ((s.offAccess c.val).emit (.data 0 false)) := by
  show execWindowRead c off s = _
  unfold execWindowRead
  split
  · rfl
  · rw [State.readWindow, h]
    rfl

/-- An aligned read of a window that answers. -/
theorem exec_windowRead (c : PCell) (off : BitVec 18) (v : Nat) (e : Bool) (s t : State) (h : off.toNat % 8 = 0)
    (hread : s.readWindow c.val off.toNat = (v, e, t)) : exec (.windowRead c off) s = .next (t.emit (.data v e)) := by
  show execWindowRead c off s = _
  rw [execWindowRead, if_neg (not_not.mpr h), hread]

theorem State.readWindow_storage (s : State) (c off : Nat) (hon : s.winOn c = true)
    (hst : (winLoc (s.flag CELL_SBSEL_CUR c) off).isStorage = true) : s.readWindow c off = s.winRead c off := by
  rw [State.readWindow, hon]
  cases hloc : winLoc (s.flag CELL_SBSEL_CUR c) off with
  | word u a => rfl
  | ftab f => rfl
  | regs => simp [hloc, WinLoc.isStorage] at hst
  | none => simp [hloc, WinLoc.isStorage] at hst

theorem State.readWindow_register (s : State) (c off : Nat) (r : RegName) (i : Nat) (hon : s.winOn c = true)
    (hloc : winLoc (s.flag CELL_SBSEL_CUR c) off = .regs) (hr : cellReg c off = some (r, i)) :
    s.readWindow c off = (s.regRead r i, false, s) := by
  simp [State.readWindow, hon, hloc, hr]

theorem State.readWindow_nothing (s : State) (c off : Nat) (hon : s.winOn c = true)
    (hloc : winLoc (s.flag CELL_SBSEL_CUR c) off = .none ∨ (winLoc (s.flag CELL_SBSEL_CUR c) off = .regs ∧ cellReg c off = none)) :
    s.readWindow c off = (0, false, s) := by
  obtain hnone | ⟨hregs, hr⟩ := hloc
  · simp [State.readWindow, hon, hnone]
  · simp [State.readWindow, hon, hregs, hr]

theorem State.winRead_inRun (s : State) (c off : Nat) (hst : (winLoc (s.flag CELL_SBSEL_CUR c) off).isStorage = true) (hrun : s.mode = .run) :
    s.winRead c off = (0, false, s.cellFlag CELL_STAT_WINRUN c) := by
  rw [State.winRead, hst, Bool.not_true, if_neg Bool.false_ne_true, if_pos hrun]

theorem State.winRead_word (s : State) (c off u a : Nat) (x : Cell) (hloc : winLoc (s.flag CELL_SBSEL_CUR c) off = .word u a)
    (hrun : s.mode ≠ .run) (hx : x = (s.settleCell c).cell c) (hgood : x.rdBad u a = 0 ∨ (u ≠ 2 ∧ u ≠ 3)) :
    s.winRead c off = ((x.rd u a).toNat, false, s.settleCell c) := by
  have hgood' : (x.rdBad u a).toNat = 0 ∨ (u ≠ 2 ∧ u ≠ 3) := hgood.imp_left (fun h => by rw [h]; rfl)
  unfold State.winRead
  simp [hloc, WinLoc.isStorage, hrun, ← hx, Cell.winGet, hgood']

theorem State.winRead_damaged (s : State) (c off u a : Nat) (x : Cell) (hloc : winLoc (s.flag CELL_SBSEL_CUR c) off = .word u a)
    (hrun : s.mode ≠ .run) (hx : x = (s.settleCell c).cell c) (hbad : x.rdBad u a ≠ 0) (hu : u = 2 ∨ u = 3) :
    s.winRead c off = ((x.rd u a).toNat, true, (s.settleCell c).cellParity c u a (x.rdBad u a).toNat) := by
  have hbad' : ¬((x.rdBad u a).toNat = 0 ∨ (u ≠ 2 ∧ u ≠ 3)) := by
    rintro (h | ⟨h2, h3⟩)
    · exact hbad (BitVec.eq_of_toNat_eq h)
    · exact hu.elim h2 h3
  unfold State.winRead
  simp only [hloc, WinLoc.isStorage, hrun, ← hx, Cell.winGet, hbad', Bool.not_true, if_false, Bool.false_eq_true]

theorem State.winRead_table (s : State) (c off f : Nat) (x : Cell) (hloc : winLoc (s.flag CELL_SBSEL_CUR c) off = .ftab f)
    (hrun : s.mode ≠ .run) (hx : x = (s.settleCell c).cell c) :
    s.winRead c off = ((x.rd 5 f).toNat % 2 ^ 16 + (x.rd 5 (f + 1)).toNat % 2 ^ 16 * 2 ^ 16 + (x.rd 5 (f + 2)).toNat % 2 ^ 16 * 2 ^ 32 +
      (x.rd 5 (f + 3)).toNat % 2 ^ 16 * 2 ^ 48, false, s.settleCell c) := by
  unfold State.winRead
  rw [hloc]
  simp only [WinLoc.isStorage, hrun, ← hx, Cell.winGet_ftab, Bool.not_true, Bool.false_eq_true, if_false]
  exact if_pos (.inr (by decide))

/-! ### Writes of the window -/

theorem exec_windowWrite_unaligned (c : PCell) (off : BitVec 18) (v : Word) (s : State) (h : off.toNat % 8 ≠ 0) :
    exec (.windowWrite c off v) s = .next (s.offAccess c.val) := by
  show execWindowWrite c off v s = _
  rw [execWindowWrite, if_pos h]

theorem exec_windowWrite_off (c : PCell) (off : BitVec 18) (v : Word) (s : State) (h : s.winOn c.val = false) :
    exec (.windowWrite c off v) s = .next (s.offAccess c.val) := by
  show execWindowWrite c off v s = _
  unfold execWindowWrite
  split
  · rfl
  · rw [State.writeWindow, h]
    rfl

/-- An aligned write of storage. -/
theorem exec_windowWrite_storage (c : PCell) (off : BitVec 18) (v : Word) (s : State) (hon : s.winOn c.val = true) (h : off.toNat % 8 = 0)
    (hst : (winLoc (s.flag CELL_SBSEL_CUR c.val) off.toNat).isStorage = true) :
    exec (.windowWrite c off v) s = .next (s.winWrite c.val off.toNat v.toNat 0xFF) := by
  show execWindowWrite c off v s = _
  rw [execWindowWrite, if_neg (not_not.mpr h), State.writeWindow, hon]
  cases hloc : winLoc (s.flag CELL_SBSEL_CUR c.val) off.toNat with
  | word u a => rfl
  | ftab f => rfl
  | regs => simp [hloc, WinLoc.isStorage] at hst
  | none => simp [hloc, WinLoc.isStorage] at hst

theorem exec_windowWrite_register (c : PCell) (off : BitVec 18) (r : RegName) (i : Nat) (v : Word) (s : State) (hon : s.winOn c.val = true)
    (h : off.toNat % 8 = 0) (hloc : winLoc (s.flag CELL_SBSEL_CUR c.val) off.toNat = .regs) (hr : cellReg c.val off.toNat = some (r, i)) :
    exec (.windowWrite c off v) s = .next (s.writeCell r i v.toNat (2 ^ 64 - 1)) := by
  show execWindowWrite c off v s = _
  simp [execWindowWrite, h, State.writeWindow, hon, hloc, hr, State.regWrite, byteMask]

/-- A write of storage that is performed (03 R80, R81): the cell's results take effect, the location is stored, PINJ is used up. -/
def State.windowStored (s : State) (c : Nat) (loc : WinLoc) (v mask : Nat) : State :=
  ((s.settleCell c).setCell c (((s.settleCell c).cell c).winPut loc v mask (s.flag CELL_CTL_PINJ c))).lower CELL_CTL_PINJ c

theorem State.windowStored_keeps (s : State) (c : Nat) (loc : WinLoc) (v mask : Nat) : Keeps settleWrites s (s.windowStored c loc v mask) :=
  (s.settleCell_keeps c).andThen (State.setCell_keeps ..) |>.andThen (State.lower_keeps ..)

theorem State.cell_windowStored (s : State) (c : Nat) (loc : WinLoc) (v mask : Nat) :
    (s.windowStored c loc v mask).cell c = ((s.settleCell c).cell c).winPut loc v mask (s.flag CELL_CTL_PINJ c) :=
  State.cell_setCell_self ..

theorem State.cell_windowStored_ne (s : State) (c d : Nat) (loc : WinLoc) (v mask : Nat) (h : d ≠ c) :
    (s.windowStored c loc v mask).cell d = s.cell d :=
  (State.cell_setCell_ne _ _ _ _ h).trans (s.cell_settleCell_ne c d h)

theorem State.pinj_windowStored (s : State) (c : Nat) (loc : WinLoc) (v mask : Nat) (h : s.cycle.held CELL_CTL_PINJ c = 0) :
    (s.windowStored c loc v mask).flag CELL_CTL_PINJ c = false := by
  have hheld : (s.settleCell c).cycle.held CELL_CTL_PINJ c = 0 := (s.settleCell_sameHeld CELL_CTL_PINJ c (by decide) (by decide) c).trans h
  rw [State.flag, State.windowStored, State.get_lower_of_held (State.setCell ..) _ _ hheld]
  rfl

theorem State.winWrite_word (s : State) (c off u a v mask : Nat) (hloc : winLoc (s.flag CELL_SBSEL_CUR c) off = .word u a)
    (hmay : s.mode ≠ .run ∨ (s.flag CELL_IMCFG_PAGED c = true ∧ u = 0 ∧ a / 9216 ≠ s.get CELL_IMCFG_RUNPAGE c)) :
    s.winWrite c off v mask = s.windowStored c (.word u a) v mask := by
  have hinj := (s.settleCell_sameButErrors c).flag CELL_CTL_PINJ c
  unfold State.winWrite State.windowStored
  rw [hloc, ← hinj]
  obtain hmode | ⟨hpaged, rfl, hidle⟩ := hmay
  · simp [WinLoc.isStorage, hmode]
  · simp [WinLoc.isStorage, hpaged, hidle]

theorem State.winWrite_table (s : State) (c off f v mask : Nat) (hloc : winLoc (s.flag CELL_SBSEL_CUR c) off = .ftab f)
    (hmode : s.mode = .ready ∨ s.mode = .hold) : s.winWrite c off v mask = s.windowStored c (.ftab f) v mask := by
  have hinj := (s.settleCell_sameButErrors c).flag CELL_CTL_PINJ c
  unfold State.winWrite State.windowStored
  rw [hloc, ← hinj]
  obtain hmode | hmode := hmode
  · simp [WinLoc.isStorage, hmode]
  · simp [WinLoc.isStorage, hmode]

/-- A write of storage in RUN but for the idle page is ignored; the instruction memory shows it in two flags (03 R80, R93). -/
theorem State.winWrite_inRun (s : State) (c off v mask : Nat) (hst : (winLoc (s.flag CELL_SBSEL_CUR c) off).isStorage = true)
    (hrun : s.mode = .run) (hpage : ∀ a, winLoc (s.flag CELL_SBSEL_CUR c) off = .word 0 a →
      (s.flag CELL_IMCFG_PAGED c = false ∨ a / 9216 = s.get CELL_IMCFG_RUNPAGE c)) :
    (s.winWrite c off v mask = s.cellFlag CELL_STAT_WINRUN c ∧ ∀ a, winLoc (s.flag CELL_SBSEL_CUR c) off ≠ .word 0 a) ∨
      s.winWrite c off v mask = (s.raise CELL_STAT_IMWRUN c).cellFlag CELL_STAT_WINRUN c := by
  unfold State.winWrite
  cases hloc : winLoc (s.flag CELL_SBSEL_CUR c) off with
  | regs => simp [hloc, WinLoc.isStorage] at hst
  | none => simp [hloc, WinLoc.isStorage] at hst
  | ftab f => exact .inl ⟨by simp [WinLoc.isStorage, hrun], nofun⟩
  | word u a =>
    cases u with
    | succ n => exact .inl ⟨by simp [WinLoc.isStorage, hrun], nofun⟩
    | zero =>
      refine .inr ?_
      obtain hpaged | hrunning := hpage a hloc
      · simp [WinLoc.isStorage, hrun, hpaged]
      · simp [WinLoc.isStorage, hrun, hrunning]

/-! ### Windows that do not answer (03 R94) -/

theorem State.winOn_eq_false (s : State) (c : Nat) (h : s.domOn (cellDomain c) = false ∨ s.remap c / 256 = 2) : s.winOn c = false := by
  obtain h | h := h
  · simp [State.winOn, h]
  · simp [State.winOn, h]

theorem State.offAccess_on (s : State) (c : Nat) (h : s.winOn c = true) : s.offAccess c = s := by
  rw [State.offAccess, h, Bool.true_or, if_pos rfl]

theorem State.offAccess_fabricOff (s : State) (c : Nat) (h : s.domOn (712 + c / 1088) = false) : s.offAccess c = s := by
  rw [State.offAccess, h, Bool.not_false, Bool.or_true, if_pos rfl]

theorem State.offAccess_off (s : State) (c : Nat) (hoff : s.winOn c = false) (hfab : s.domOn (712 + c / 1088) = true) :
    s.offAccess c = s.raise CLU_STAT_OFFACC (c / 68) := by
  rw [State.offAccess, hoff, hfab]
  rfl

/-! ### Offsets and PINJ -/

theorem winLoc_words (cur : Bool) (w : Fin 4096) : winLoc cur (0x28000 + 8 * w.val) = .word 2 w.val ∧ winLoc cur (8 * w.val) = .word 0 w.val ∧
    (w.val < 512 → winLoc cur (0x32000 + 8 * w.val) = .word 3 w.val) ∧ (w.val < 64 → winLoc cur (0x33000 + 8 * w.val) = .word 4 w.val) ∧
    (w.val < 64 → winLoc cur (0x34000 + 8 * w.val) = .ftab (4 * w.val)) := by
  have hw := w.isLt
  refine ⟨?data, ?instructions, fun h => ?inbox, fun h => ?file, fun h => ?table⟩
  case data =>
    rw [winLoc, if_neg (by omega), if_pos (by omega)]
    congr 1; omega
  case instructions =>
    rw [winLoc, if_pos (by omega)]
    congr 1; omega
  case inbox =>
    rw [winLoc, if_neg (by omega), if_neg (by omega), if_neg (by omega), if_neg (by omega), if_pos (by omega)]
    congr 1; omega
  case file =>
    rw [winLoc, if_neg (by omega), if_neg (by omega), if_neg (by omega), if_neg (by omega), if_neg (by omega), if_pos (by omega)]
    congr 1; omega
  case table =>
    rw [winLoc, if_neg (by omega), if_neg (by omega), if_neg (by omega), if_neg (by omega), if_neg (by omega), if_neg (by omega),
      if_pos (by omega)]
    congr 1; omega

theorem exec_pinj (c : PCell) (s : State) : exec (.pinj c) s =
    .next (if s.winOn c.val = true then s.raise CELL_CTL_PINJ c.val else s.offAccess c.val) := by
  show execPinj c s = _
  unfold execPinj State.offAccess
  by_cases hon : s.winOn c.val = true
  · simp [hon]
  · by_cases hfab : s.domOn (712 + c.val / 1088) = true
    · simp [hon, hfab]
    · simp [hon, hfab]

/-- Settles O24. An access goes to the registers, to storage or to nothing by its offset; a read of storage answers from the settled cell, a write
that is performed is `windowStored`, and any other leaves flags alone. -/
theorem cellWindow : Obligations.CellWindow := by
  unfold Obligations.CellWindow
  have hstorage {loc loc' : WinLoc} (h : loc = loc') (hst : loc'.isStorage = true) : loc.isStorage = true := h ▸ hst
  refine ⟨?windowRead, ?windowReadParity, ?windowReadTable, ?windowReadRegister, ?windowReadNothing, ?windowReadInRun, ?windowReadOff,
    ?windowWriteOff, ?windowFabricOff, ?windowReadUnaligned, ?windowWrite, ?windowWriteTable, ?windowWriteRegister, ?windowMap,
    ?windowWriteInRun, ?windowWriteUnaligned, ?pinj, ?pinjOff⟩
  case windowRead =>
    intro c off u a x s hon hoff hloc hmode hx hgood
    have hk := s.settleCell_keeps c.val
    refine ⟨_, exec_windowRead c off _ _ s _ hoff ((s.readWindow_storage _ _ hon (hstorage hloc rfl)).trans
      (s.winRead_word _ _ u a x hloc hmode hx hgood)), ?_, hk.mono.andThen (State.emit_keeps ..)⟩
    exact congrArg (· ++ _) (hk.out rfl)
  case windowReadParity =>
    intro c off u a x s hon hoff hloc hmode hx hbad hu
    have hk := s.settleCell_keeps c.val
    have hp : Keeps settleWrites s ((s.settleCell c.val).cellParity c.val u a (x.rdBad u a).toNat) :=
      hk.andThen (State.cellParity_keeps_quiet _ _ _ _ _ _ (by rw [hk.mode rfl]; exact hmode))
    refine ⟨_, exec_windowRead c off _ _ s _ hoff ((s.readWindow_storage _ _ hon (hstorage hloc rfl)).trans
      (s.winRead_damaged _ _ u a x hloc hmode hx hbad hu)), ?_,
      ((State.emit_keeps ..).flag _ _ (by decide)).trans (State.cellParity_flagged ..), hp.mono.andThen (State.emit_keeps ..)⟩
    exact congrArg (· ++ _) (hp.out rfl)
  case windowReadTable =>
    intro c off f x s hon hoff hloc hmode hx
    have hk := s.settleCell_keeps c.val
    refine ⟨_, exec_windowRead c off _ _ s _ hoff ((s.readWindow_storage _ _ hon (hstorage hloc rfl)).trans
      (s.winRead_table _ _ f x hloc hmode hx)), ?_, hk.mono.andThen (State.emit_keeps ..)⟩
    exact congrArg (· ++ _) (hk.out rfl)
  case windowReadRegister =>
    intro c off r i s hon hoff hloc hr
    exact exec_windowRead c off _ _ s _ hoff (s.readWindow_register _ _ r i hon hloc hr)
  case windowReadNothing =>
    intro c off s hon hoff hloc
    exact exec_windowRead c off _ _ s _ hoff (s.readWindow_nothing _ _ hon hloc)
  case windowReadInRun =>
    intro c off s hon hoff hst hrun
    have hk := s.cellFlag_keeps CELL_STAT_WINRUN c.val rfl
    refine ⟨_, exec_windowRead c off _ _ s _ hoff ((s.readWindow_storage _ _ hon hst).trans (s.winRead_inRun _ _ hst hrun)), ?_,
      ((State.emit_keeps ..).flag _ _ (by decide)).trans (s.cellFlag_flagged _ _ (by decide) (by decide)), hk.mono.andThen (State.emit_keeps ..)⟩
    exact congrArg (· ++ _) (hk.out rfl)
  case windowReadOff =>
    intro c off s hfab hoff
    refine ⟨_, exec_windowRead_off c off s (s.winOn_eq_false _ hoff), ?_⟩
    rw [s.offAccess_off _ (s.winOn_eq_false _ hoff) hfab]
    exact ⟨rfl, ((State.emit_keeps ..).flag _ _ (by decide)).trans (s.flag_raise_self _ _ (by decide)),
      Keeps.refl _ s |>.andThen (s.raise_keeps ..) |>.andThen (State.emit_keeps ..)⟩
  case windowWriteOff =>
    intro c off v s hfab hoff
    refine ⟨_, exec_windowWrite_off c off v s (s.winOn_eq_false _ hoff), ?_⟩
    rw [s.offAccess_off _ (s.winOn_eq_false _ hoff) hfab]
    exact ⟨s.flag_raise_self _ _ (by decide), s.raise_keeps CLU_STAT_OFFACC _⟩
  case windowFabricOff =>
    intro c off v s hfab hoff
    rw [exec_windowRead_off c off s hoff, exec_windowWrite_off c off v s hoff, exec_pinj, hoff, s.offAccess_fabricOff _ hfab]
    exact ⟨rfl, rfl, rfl⟩
  case windowReadUnaligned =>
    intro c off s hon hoff
    rw [exec_windowRead_unaligned c off s hoff, s.offAccess_on _ hon]
    rfl
  case windowWrite =>
    intro c off u a v x s hon hoff hloc hmay hx
    have hcell := s.cell_windowStored c.val (.word u a) v.toNat 0xFF
    rw [← hx] at hcell
    refine ⟨s.windowStored c.val (.word u a) v.toNat 0xFF, ?_, ?_, ?_, s.pinj_windowStored _ _ _ _, fun u' a' hne => ?_,
      fun d hd => s.cell_windowStored_ne _ d _ _ _ hd, (s.windowStored_keeps ..).mono⟩
    · rw [exec_windowWrite_storage c off v s hon hoff (hstorage hloc rfl), s.winWrite_word _ _ u a _ _ hloc hmay]
    · rw [hcell, Cell.rd_winPut_word]
    · rw [hcell, Cell.rdBad_winPut_word]
    · rw [hcell, Cell.rd_winPut_word_ne _ _ _ _ _ _ _ _ hne]
  case windowWriteTable =>
    intro c off f k v s hon hoff hloc hmode
    refine ⟨s.windowStored c.val (.ftab f) v.toNat 0xFF, ?_, ?_, fun d hd => s.cell_windowStored_ne _ d _ _ _ hd,
      (s.windowStored_keeps ..).mono⟩
    · rw [exec_windowWrite_storage c off v s hon hoff (hstorage hloc rfl), s.winWrite_table _ _ f _ _ hloc hmode]
    · rw [State.cell_windowStored, Cell.rd_winPut_ftab]
  case windowWriteRegister =>
    intro c off r i v s hon hoff hloc hr
    exact exec_windowWrite_register c off r i v s hon hoff hloc hr
  case windowMap => exact winLoc_words
  case windowWriteInRun =>
    intro c off v s hon hoff hst hrun hpage
    have hexec := exec_windowWrite_storage c off v s hon hoff hst
    obtain ⟨hw, hloc⟩ | hw := s.winWrite_inRun c.val off.toNat v.toNat 0xFF hst hrun hpage
    · rw [hw] at hexec
      exact ⟨_, hexec, s.cellFlag_flagged _ _ (by decide) (by decide), fun a ha => absurd ha (hloc a), (s.cellFlag_keeps _ _ rfl).mono⟩
    · rw [hw] at hexec
      refine ⟨_, hexec, State.cellFlag_flagged _ _ _ (by decide) (by decide), fun a _ => ?_,
        Keeps.refl _ s |>.andThen (s.raise_keeps ..) |>.andThen (State.cellFlag_keeps _ _ _ rfl)⟩
      rw [State.cellFlag, (State.cellLevel_keeps ..).flag _ _ (by decide), State.flag_raise_field _ _ _ _ _ (by decide),
        s.flag_raise_self _ _ (by decide)]
  case windowWriteUnaligned =>
    intro c off v s hon hoff
    rw [exec_windowWrite_unaligned c off v s hoff, s.offAccess_on _ hon]
  case pinj =>
    intro c s hon
    refine ⟨_, exec_pinj c s, ?_⟩
    rw [if_pos hon]
    exact ⟨s.flag_raise_self _ _ (by decide), s.raise_keeps CELL_CTL_PINJ _⟩
  case pinjOff =>
    intro c s hfab hoff
    refine ⟨_, exec_pinj c s, ?_⟩
    rw [hoff, if_neg Bool.false_ne_true, s.offAccess_off _ hoff hfab]
    exact ⟨s.flag_raise_self _ _ (by decide), s.raise_keeps CLU_STAT_OFFACC _⟩

end Sys2Proof.Machine
end

section
/-! SUPPORT. What comes to the inbox of a cell: an entry of it, and the flit that takes the cell's port (03 R74, R76, 06 R166 to R169). -/

namespace Sys2Proof.Machine

set_option Elab.async false

/-! ### Inbox entries (03 R74, R76) -/

theorem bit_putBit_true (n i : Nat) : bit (putBit n i true) i = true := by
  have hlow : n % 2 ^ i < 2 ^ i := Nat.mod_lt _ (Nat.two_pow_pos i)
  have hsum : putBit n i true = n % 2 ^ i + 2 ^ i * (1 + 2 * (n / 2 ^ (i + 1))) := by
    rw [putBit, putBits, pow_succ]
    simp only [b2n, if_true]
    ring
  rw [bit, hsum, Nat.add_mul_div_left _ _ (Nat.two_pow_pos i), Nat.div_eq_of_lt hlow, beq_iff_eq]
  omega

/-- An inbox slot holds a value that has arrived, with its parity. -/
structure State.InboxHolds (t : State) (c e : Nat) (v : Word) (bad : Byte) : Prop where
  value : (t.cell c).rd 3 e = v
  parity : (t.cell c).rdBad 3 e = bad
  arrived : bit (t.cell c).arrived e = true

/-- The cell behind an entry of its inbox. -/
def Cell.withEntry (x : Cell) (e : Nat) (v : Word) (bad : Byte) (src at_ : Nat) : Cell :=
  { x.wrBad 3 e v bad with
    arrived := putBit x.arrived e true
    inbFrom := sput x.inbFrom e (at_ * 1024 + src) 0
    inbOld := if sget x.inbFrom e 0 / 1024 < at_ then insertKey x.inbOld e (sget x.inbFrom e 0, x.rd 3 e, x.rdBad 3 e) else x.inbOld }

theorem State.inboxPut_eq (s : State) (c e : Nat) (v : Word) (bad : Byte) (src at_ : Nat) : s.inboxPut c e v bad src at_ =
    if bit (s.cell c).arrived e = true then (s.setCell c ((s.cell c).withEntry e v bad src at_)).cellFlag CELL_STAT_INBDUP c
    else s.setCell c ((s.cell c).withEntry e v bad src at_) := rfl

theorem State.cell_inboxPut (s : State) (c d e : Nat) (v : Word) (bad : Byte) (src at_ : Nat) :
    (s.inboxPut c e v bad src at_).cell d = (s.setCell c ((s.cell c).withEntry e v bad src at_)).cell d := by
  rw [State.inboxPut_eq]
  split
  · exact (State.cellFlag_keeps _ _ _ rfl).cell rfl d
  · rfl

theorem State.cell_inboxPut_ne (s : State) (c d e : Nat) (v : Word) (bad : Byte) (src at_ : Nat) (h : d ≠ c) :
    (s.inboxPut c e v bad src at_).cell d = s.cell d :=
  (s.cell_inboxPut ..).trans (s.cell_setCell_ne c d _ h)

theorem State.inboxPut_holds (s : State) (c e : Nat) (v : Word) (bad : Byte) (src at_ : Nat) :
    State.InboxHolds (s.inboxPut c e v bad src at_) c e v bad := by
  have hcell : (s.inboxPut c e v bad src at_).cell c = (s.cell c).withEntry e v bad src at_ :=
    (s.cell_inboxPut ..).trans (s.cell_setCell_self c _)
  refine ⟨?_, ?_, ?_⟩
  · rw [hcell]
    exact (sget_sput ..).trans (if_pos rfl)
  · rw [hcell]
    exact (s.cell c).rdBad_wrBad_self 3 e v bad
  · rw [hcell]
    exact bit_putBit_true ..

theorem State.inboxPut_keeps (s : State) (c e : Nat) (v : Word) (bad : Byte) (src at_ : Nat) :
    Keeps settleWrites s (s.inboxPut c e v bad src at_) := by
  have hput := s.setCell_keeps c ((s.cell c).withEntry e v bad src at_)
  rw [State.inboxPut_eq]
  exact .ite (hput.mono.andThen (State.cellFlag_keeps _ _ _ rfl)) hput.mono

/-- A first arrival writes the cell alone. -/
theorem State.inboxPut_keeps_first (s : State) (c e : Nat) (v : Word) (bad : Byte) (src at_ : Nat) (h : bit (s.cell c).arrived e = false) :
    Keeps { cells := true } s (s.inboxPut c e v bad src at_) := by
  rw [State.inboxPut_eq, h, if_neg Bool.false_ne_true]
  exact s.setCell_keeps ..

/-- A second arrival sets INBDUP (03 R76). -/
theorem State.inboxPut_twice (s : State) (c e : Nat) (v : Word) (bad : Byte) (src at_ : Nat) (h : bit (s.cell c).arrived e = true) :
    (s.inboxPut c e v bad src at_).flag CELL_STAT_INBDUP c = true := by
  rw [State.inboxPut_eq, h, if_pos rfl]
  exact State.cellFlag_flagged _ _ _ (by decide) (by decide)

/-! ### A flit at the port of a cell (03 R74, 06 R168, R169) -/

/-- One flit at a port collides with none. -/
theorem State.portCollision_single (s : State) (c : Nat) (h : s.flits.countP (fun g => g.holds (pointOf (c / 1088) 6 (s.lcell c)) s.tb) ≤ 1) :
    s.portCollision c = s := by
  unfold State.portCollision
  split
  · exact if_neg (Nat.not_lt.mpr h)
  · rfl

theorem State.portCollision_keeps (s : State) (c : Nat) : Keeps flightWrites s (s.portCollision c) := by
  unfold State.portCollision
  split
  · exact .ite (s.collision_keeps _) (.refl _ s)
  · exact .refl _ s

/-- The flit of a slot that comes to a cell. -/
def State.flitFor (p : State) (c slot tb : Nat) : Option Flit :=
  p.flits.find? (fun g => !g.egr && g.dcell == c && g.slot == slot && decide (g.land ≤ tb))

theorem State.slot_of_flitFor (p : State) (c slot tb : Nat) (f : Flit) (h : p.flitFor c slot tb = some f) : f.slot = slot := by
  have hf := List.find?_some h
  simp only [Bool.and_eq_true, beq_iff_eq] at hf
  obtain ⟨⟨-, hslot⟩, -⟩ := hf
  exact hslot

theorem exec_flitLanding_some (c : PCell) (slot : Fin 512) (f : Flit) (s : State)
    (h : (s.portCollision c.val).flitFor c.val slot.val s.tb = some f) :
    exec (.flitLanding c slot) s = .next ((s.portCollision c.val).landFlit c.val f) := by
  rw [← ((s.portCollision_keeps c.val).tb rfl).1] at h
  show execFlitLanding c slot s = _
  unfold execFlitLanding
  dsimp only
  rw [show List.find? _ (s.portCollision c.val).flits = _ from h]

theorem exec_flitLanding_none (c : PCell) (slot : Fin 512) (s : State)
    (h : (s.portCollision c.val).flitFor c.val slot.val s.tb = none) :
    exec (.flitLanding c slot) s = .next (s.portCollision c.val) := by
  rw [← ((s.portCollision_keeps c.val).tb rfl).1] at h
  show execFlitLanding c slot s = _
  unfold execFlitLanding
  dsimp only
  rw [show List.find? _ (s.portCollision c.val).flits = _ from h]

theorem State.noteReserved_keeps_level (s : State) (die : Nat) : Keeps { regs := [.fab, .lec], fresh := true } s (s.noteReserved die) :=
  .ite (Keeps.refl _ s |>.andThen (s.raise_keeps ..) |>.andThen (State.fabLevels_keeps ..)) (.refl _ s)

/-- The flit has left the fabric and taken the cell's port in this cycle (06 R168, R179). -/
def State.ported (s : State) (c : Nat) (f : Flit) : State :=
  State.noteReserved (State.setCell { s with flits := s.flits.erase f } c { s.cell c with landedAt := some s.tb }) (c / 1088)

/-- The writes of a flit that takes a port. -/
def portedWrites : Writes := { regs := [.fab, .lec], fresh := true, cells := true, flits := true }

theorem State.ported_keeps (s : State) (c : Nat) (f : Flit) : Keeps portedWrites s (s.ported c f) :=
  (s.withFlits_keeps _).mono.andThen (State.setCell_keeps ..) |>.andThen (State.noteReserved_keeps_level ..)

theorem State.flits_ported (s : State) (c : Nat) (f : Flit) : (s.ported c f).flits = s.flits.erase f :=
  ((State.noteReserved_keeps_level ..).flits rfl).1

theorem State.cell_ported (s : State) (c : Nat) (f : Flit) : (s.ported c f).cell c = { s.cell c with landedAt := some s.tb } :=
  ((State.noteReserved_keeps_level ..).cell rfl c).trans (State.cell_setCell_self ..)

theorem State.cell_ported_ne (s : State) (c d : Nat) (f : Flit) (h : d ≠ c) : (s.ported c f).cell d = s.cell d :=
  ((State.noteReserved_keeps_level ..).cell rfl d).trans (State.cell_setCell_ne _ _ _ _ h)

/-- A flit that comes in its expected cycle to a powered cell is judged by its epoch (03 R74, 06 R166). -/
theorem State.landFlit_due (s : State) (c : Nat) (f : Flit) (hdue : f.due = s.cyc % 65536) (hon : s.domOn (cellDomain c) = true) :
    s.landFlit c f = (s.ported c f).acceptFlit c f := by
  have hcyc : (s.ported c f).cyc = s.cyc := (s.ported_keeps c f).cyc rfl rfl
  refine (if_pos hon).trans (congrArg (State.acceptFlit · c f) (if_pos ?_))
  exact hdue.trans (congrArg (· % 65536) hcyc.symm)

theorem Keeps.lateLanding {w : Writes} {s t : State} (h : Keeps w s t) (hm : w.mode = false) (ht : w.tb = false) (hs : w.stroke = false) :
    t.lateLanding = s.lateLanding := by
  rw [State.lateLanding, State.lateLanding, State.inStroke, State.inStroke, h.mode hm, h.stroke hs, h.cyc ht hs]

/-- A flit of the current epoch is written (03 R74). -/
theorem State.acceptFlit_current (s : State) (c : Nat) (f : Flit) (he : f.epoch = s.flag CELL_STAT_EPOCH c) (hl : s.lateLanding = false) :
    s.acceptFlit c f = s.inboxPut c f.slot f.val f.bad f.lane s.tb := by
  have hlate : (s.inboxWrite c f.slot f.val f.bad f.lane).lateLanding = false := ((s.inboxPut_keeps ..).lateLanding rfl rfl rfl).trans hl
  unfold State.acceptFlit
  rw [he, beq_self_eq_true, if_pos rfl]
  dsimp only
  rw [hlate, if_neg Bool.false_ne_true]
  rfl

theorem State.acceptFlit_other (s : State) (c : Nat) (f : Flit) (he : f.epoch ≠ s.flag CELL_STAT_EPOCH c) :
    s.acceptFlit c f = s.lateFlit c f.slot f.path s.cyc := by
  unfold State.acceptFlit
  rw [if_neg (by simpa using he)]

/-- The only flit of its port lands. -/
theorem exec_flitLanding_single (c : PCell) (slot : Fin 512) (f : Flit) (s : State)
    (hone : s.flits.countP (fun g => g.holds (pointOf (c.val / 1088) 6 (s.lcell c.val)) s.tb) ≤ 1)
    (hfind : s.flitFor c.val slot.val s.tb = some f) : exec (.flitLanding c slot) s = .next (s.landFlit c.val f) := by
  have hs := s.portCollision_single c.val hone
  have hexec := exec_flitLanding_some c slot f s (by rw [hs]; exact hfind)
  rwa [hs] at hexec

/-- A flit of the current epoch that is on time is put into the inbox (03 R74). -/
theorem exec_flitLanding_current (c : PCell) (slot : Fin 512) (f : Flit) (s : State)
    (hone : s.flits.countP (fun g => g.holds (pointOf (c.val / 1088) 6 (s.lcell c.val)) s.tb) ≤ 1)
    (hfind : s.flitFor c.val slot.val s.tb = some f) (hdue : f.due = s.cyc % 65536) (hon : s.domOn (cellDomain c.val) = true)
    (he : f.epoch = s.flag CELL_STAT_EPOCH c.val) (hl : s.lateLanding = false) :
    ∃ t, exec (.flitLanding c slot) s = .next t ∧
      t = (s.ported c.val f).inboxPut c.val slot.val f.val f.bad f.lane (s.ported c.val f).tb := by
  have hk := s.ported_keeps c.val f
  refine ⟨_, exec_flitLanding_single c slot f s hone hfind, ?_⟩
  rw [s.landFlit_due _ f hdue hon, State.acceptFlit_current _ _ _ (he.trans (hk.flag _ _ (by decide)).symm)
    ((hk.lateLanding rfl rfl rfl).trans hl), s.slot_of_flitFor _ _ _ _ hfind]

/-- The writes of a flit that is judged. -/
def acceptWrites : Writes := { cellFaultWrites with cells := true }

theorem State.acceptFlit_keeps (s : State) (c : Nat) (f : Flit) : Keeps acceptWrites s (s.acceptFlit c f) := by
  have hw : Keeps acceptWrites s (s.inboxWrite c f.slot f.val f.bad f.lane) := (s.inboxPut_keeps ..).mono
  unfold State.acceptFlit
  exact .ite (.ite (hw.andThen (State.lateFlit_keeps ..)) hw) (s.lateFlit_keeps ..).mono

/-- Whatever becomes of a flit that lands, it has left the fabric. -/
theorem State.flits_landFlit (s : State) (c : Nat) (f : Flit) : (s.landFlit c f).flits = s.flits.erase f := by
  unfold State.landFlit
  extract_lets u
  split
  · have hdue : Keeps acceptWrites (s.ported c f) ((s.ported c f).dueCheck (c / 1088) (u.lcell c) f) :=
      .ite (.refl _ _) (State.fabErr_keeps ..).mono
    exact ((hdue.trans (State.acceptFlit_keeps ..)).flits rfl).1.trans (s.flits_ported c f)
  · exact ((u.fabErr_keeps ..).flits rfl).1

end Sys2Proof.Machine
end

section
/-! SUPPORT. What comes to the slots of a cell: responses, live answers and those of the input log (04 R114, R118, 08 R227, R234, R243). -/

namespace Sys2Proof.Machine

set_option Elab.async false

/-! ### A value in a slot (04 R114, R118; 08 R227) -/

theorem Cell.slot_setSlot (x : Cell) (k j : Nat) (q : XSlot) : (x.setSlot k q).slot j = if j = k then q else x.slot j := sget_sput ..

/-- From s to t a value has landed in slot k of cell c: present, no longer outstanding; its other slots, its words and the other cells stay. -/
structure State.Lands (s t : State) (c k : Nat) (v : Word) : Prop where
  value : ((t.cell c).slot k).val = v
  present : ((t.cell c).slot k).present = true
  answered : ((t.cell c).slot k).outst = false
  slots : ∀ j, j ≠ k → (t.cell c).slot j = (s.cell c).slot j
  words : (t.cell c).mem = (s.cell c).mem
  others : ∀ d, d ≠ c → t.cell d = s.cell d

theorem State.Lands.after {s u t : State} {c k : Nat} {v : Word} (h : State.Lands u t c k v) (hu : ∀ d, u.cell d = s.cell d) :
    State.Lands s t c k v where
  value := h.value
  present := h.present
  answered := h.answered
  slots j hj := (h.slots j hj).trans (congrArg (Cell.slot · j) (hu c))
  words := h.words.trans (congrArg Cell.mem (hu c))
  others d hd := (h.others d hd).trans (hu d)

theorem State.capture_keeps (s : State) (c k : Nat) (v : Word) : Keeps { cells := true, mem := true } s (s.capture c k v) := by
  unfold State.capture
  refine .ite ?_ (.refl _ s)
  exact (s.setCell_keeps ..).mono.andThen (State.setNum_keeps ..) |>.andThen (State.setNum_keeps ..) |>.andThen (State.setNum_keeps ..)

/-- Outside a checkpoint stroke nothing is captured. -/
theorem State.capture_none (s : State) (c k : Nat) (v : Word) (h : (s.inStroke && s.ckpStroke s.stroke.no) = false) : s.capture c k v = s := by
  unfold State.capture
  rw [h]
  rfl

/-- A capture notes the slot in the cell and changes nothing else of it. -/
theorem State.cell_capture (s : State) (c k : Nat) (v : Word) : ∃ m, ∀ d,
    (s.capture c k v).cell d = (s.setCell c { s.cell c with carried := m }).cell d := by
  unfold State.capture
  extract_lets t l x m b noted
  split
  · have hk : Keeps { mem := true } noted (((noted.setNum (b + 0x640) 8 (m % 2 ^ 64)).setNum (b + 0x648) 8 (m / 2 ^ 64)).setNum
        (b + 0x650 + 8 * k) 8 v.toNat) := (noted.setNum_keeps ..).trans (State.setNum_keeps ..) |>.trans (State.setNum_keeps ..)
    exact ⟨m, fun d => hk.cell rfl d⟩
  · refine ⟨x.carried, fun d => ?_⟩
    by_cases hd : d = c
    · rw [hd, State.cell_setCell_self]
    · rw [State.cell_setCell_ne _ _ _ _ hd]

/-- A value that lands is captured or not, and lands in both cases. -/
theorem State.landSlot_capture_lands (s : State) (c k : Nat) (v : Word) (bad : Byte) :
    State.Lands s ((s.landSlot c k v bad).capture c k v) c k v := by
  obtain ⟨m, hm⟩ := (s.landSlot c k v bad).cell_capture c k v
  have hlanded : (s.landSlot c k v bad).cell c = (s.cell c).setSlot k
      { (s.cell c).slot k with val := v, bad := bad, present := true, outst := false, landed := s.tb } := State.cell_setCell_self ..
  have hcell : ((s.landSlot c k v bad).capture c k v).cell c = { (s.cell c).setSlot k
      { (s.cell c).slot k with val := v, bad := bad, present := true, outst := false, landed := s.tb } with carried := m } := by
    rw [hm, State.cell_setCell_self, hlanded]
  have hslot (j : Nat) : (((s.landSlot c k v bad).capture c k v).cell c).slot j = if j = k then
      { (s.cell c).slot k with val := v, bad := bad, present := true, outst := false, landed := s.tb } else (s.cell c).slot j := by
    rw [hcell]
    exact Cell.slot_setSlot ..
  refine ⟨?_, ?_, ?_, fun j hj => (hslot j).trans (if_neg hj), by rw [hcell]; rfl, fun d hd => ?_⟩
  · rw [hslot, if_pos rfl]
  · rw [hslot, if_pos rfl]
  · rw [hslot, if_pos rfl]
  · rw [hm, State.cell_setCell_ne _ _ _ _ hd]
    exact State.cell_setCell_ne _ _ _ _ hd

theorem State.landSlot_keeps (s : State) (c k : Nat) (v : Word) (bad : Byte) : Keeps { cells := true } s (s.landSlot c k v bad) :=
  s.setCell_keeps ..

theorem State.landSlot_capture_keeps (s : State) (c k : Nat) (v : Word) (bad : Byte) :
    Keeps { cells := true, mem := true } s ((s.landSlot c k v bad).capture c k v) :=
  (s.landSlot_keeps ..).mono.trans (State.capture_keeps ..)

theorem Keeps.inCkpStroke {w : Writes} {s t : State} (h : Keeps w s t) (hm : w.mode = false) (hs : w.stroke = false) (hr : Bank.ckp ∉ w.regs) :
    (t.inStroke && t.ckpStroke t.stroke.no) = (s.inStroke && s.ckpStroke s.stroke.no) := by
  rw [State.inStroke, State.inStroke, State.ckpStroke, State.ckpStroke, h.mode hm, h.stroke hs, h.regs CKP_POL_N 0 hr]

/-- Outside a checkpoint stroke a landing writes the cell alone. -/
theorem State.landSlot_capture_keeps_cells (s : State) (c k : Nat) (v : Word) (bad : Byte) (h : (s.inStroke && s.ckpStroke s.stroke.no) = false) :
    Keeps { cells := true } s ((s.landSlot c k v bad).capture c k v) := by
  have hk := s.landSlot_keeps c k v bad
  rw [State.capture_none _ _ _ _ ((hk.inCkpStroke rfl rfl (by decide)).trans h)]
  exact hk

/-! ### Landings under way -/

/-- The value that comes to a slot of a cell. -/
def State.landingFor (s : State) (c k : Nat) : Option Landing :=
  s.landings.find? (fun l => l.cell == c && l.slot == k && decide (l.at_ ≤ s.tb))

/-- The value is taken off the way. -/
def State.withoutLanding (s : State) (l : Landing) : State := { s with landings := s.landings.erase l }

theorem State.withoutLanding_keeps (s : State) (l : Landing) : Keeps { landings := true } s (s.withoutLanding l) :=
  { Keeps.refl _ s with landings := nofun }

theorem State.overrun_keeps (s : State) (t : Nat) (l : Landing) : Keeps { regs := [.tme, .lec], fresh := true } s (s.overrun t l) :=
  .ite (Keeps.refl _ s |>.andThen (s.raise_keeps ..) |>.andThen (State.tmeLevel_keeps ..)) (.refl _ s)

theorem State.overrun_onTime (s : State) (t : Nat) (l : Landing) (h : l.by_ = 0 ∨ s.tb ≤ l.by_) : s.overrun t l = s :=
  if_neg (by omega)

theorem Keeps.discardsLandings {w : Writes} {s t : State} (h : Keeps w s t) (hc : w.ckp = false) (hs : w.stroke = false) :
    t.discardsLandings = s.discardsLandings := by
  rw [State.discardsLandings, State.discardsLandings, h.ckp hc, h.stroke hs]

theorem State.discardsLandings_eq_false (s : State) (hr : s.ckp.restoring = false) (he : s.stroke.entryDone = false) :
    s.discardsLandings = false := by
  rw [State.discardsLandings, hr, he]
  rfl

/-- The response is taken off its way, and an overrun of it noted (13 R362). -/
def State.responseTaken (s : State) (c : Nat) (l : Landing) : State := (s.withoutLanding l).overrun (c / 1088) l

theorem State.responseTaken_keeps (s : State) (c : Nat) (l : Landing) :
    Keeps { regs := [.tme, .lec], fresh := true, landings := true } s (s.responseTaken c l) :=
  (s.withoutLanding_keeps l).mono.andThen (State.overrun_keeps ..)

theorem State.landings_responseTaken (s : State) (c : Nat) (l : Landing) : (s.responseTaken c l).landings = s.landings.erase l :=
  (State.overrun_keeps ..).landings rfl

theorem exec_responseLanding_some (c : PCell) (tag : Fin 64) (l : Landing) (s : State) (h : s.landingFor c.val tag.val = some l) :
    exec (.responseLanding c tag) s = .next (if s.discardsLandings = true then s.responseTaken c.val l
      else ((s.responseTaken c.val l).landSlot c.val tag.val l.val l.bad).capture c.val tag.val l.val) := by
  rw [← (s.responseTaken_keeps c.val l).discardsLandings rfl rfl]
  show execResponseLanding c tag s = _
  unfold execResponseLanding
  rw [show List.find? _ s.landings = _ from h]
  exact (apply_ite Host.Outcome.next ..).symm

theorem exec_responseLanding_none (c : PCell) (tag : Fin 64) (s : State) (h : s.landings = []) : exec (.responseLanding c tag) s = .next s := by
  show execResponseLanding c tag s = _
  rw [execResponseLanding, h]
  rfl

/-! ### Answers (04 R118, 06 R179, 08 R243) -/

/-- The answer enters the input log where inputs are recorded (08 R234). -/
def State.answerLogged (s : State) (c a : Nat) (l : Landing) : State :=
  if s.recordsInput then (s.appendLog (c / 1088) false (logRecord l.val.toNat 2 (s.lcell c) a s.logCycle false)).1 else s

theorem State.answerLogged_keeps (s : State) (c a : Nat) (l : Landing) : Keeps logWrites s (s.answerLogged c a l) :=
  .ite (s.appendLog_keeps_cells ..) (.refl _ s)

theorem State.appendLog_room (s : State) (t : Nat) (out : Bool) (r : Nat) (h : (s.tile t).isFull out = false) :
    s.appendLog t out r = (s.putLog t out r, true) := by
  rw [State.appendLog, h, if_neg Bool.false_ne_true]

/-- The truth value of an append says whether the log had room. -/
theorem State.appendLog_snd (s : State) (t : Nat) (out : Bool) (r : Nat) : (s.appendLog t out r).2 = !(s.tile t).isFull out := by
  rw [State.appendLog]
  cases (s.tile t).isFull out
  · rfl
  · rfl

theorem State.inPos_putLog (s : State) (t r : Nat) : ((s.putLog t false r).tile t).inPos = (s.tile t).inPos + 1 := by
  rw [State.putLog, State.tile_setTile_self]
  rfl

theorem State.recordsInput_iff (s : State) :
    s.recordsInput = true ↔ s.mode = .run ∨ s.mode = .hold ∨ (s.mode = .service ∧ s.get MGT_MODE_PREV = 4) := by
  simp [State.recordsInput, or_assoc]

theorem State.inPos_answerLogged (s : State) (c a : Nat) (l : Landing) (h : s.recordsInput = true) (hroom : (s.tile (c / 1088)).isFull false = false) :
    ((s.answerLogged c a l).tile (c / 1088)).inPos = (s.tile (c / 1088)).inPos + 1 := by
  rw [State.answerLogged, if_pos h, s.appendLog_room _ _ _ hroom, State.inPos_putLog]

theorem exec_answerLanding_live (c : PCell) (a : Fin 16) (err : HbmRead) (l : Landing) (s : State) (hport : s.portTaken c.val = false)
    (hreplay : s.flag CKP_STAT_REPLAY = false) (h : s.landingFor c.val (64 + a.val) = some l) :
    exec (.answerLanding c a err) s = .next (
      if (s.discardsLandings || ((s.cell c.val).slot (64 + a.val)).replayed) = true then s.withoutLanding l
      else (((s.withoutLanding l).answerLogged c.val a.val l).landSlot c.val (64 + a.val) l.val l.bad).capture c.val (64 + a.val) l.val) := by
  show execAnswerLanding c a s err = _
  unfold execAnswerLanding
  simp only [hport, hreplay, Bool.false_and, Bool.false_eq_true, if_false, show List.find? _ s.landings = _ from h]
  exact (apply_ite Host.Outcome.next ..).symm

/-- A flit that lands in the cycle takes the port. -/
theorem State.portTaken_of_flit (s : State) (c : Nat) (f : Flit) (hf : f ∈ s.flits) (he : f.egr = false) (hd : f.dcell = c) (hl : f.land = s.tb) :
    s.portTaken c = true := by
  have hany : s.flits.any (fun f => !f.egr && f.dcell == c && f.land == s.tb) = true :=
    List.any_eq_true.mpr ⟨f, hf, by simp [he, hd, hl]⟩
  rw [State.portTaken, hany, Bool.true_or, Bool.true_or]

theorem exec_answerLanding_waits (c : PCell) (a : Fin 16) (err : HbmRead) (s : State) (hport : s.portTaken c.val = true)
    (hreplay : s.flag CKP_STAT_REPLAY = false) : exec (.answerLanding c a err) s = .next s := by
  show execAnswerLanding c a s err = _
  rw [execAnswerLanding, hport, hreplay]
  rfl

/-! ### Values of the input log (08 R236, R243) -/

theorem State.bytes_of_mem {s t : State} (h : t.mem = s.mem) (a n : Nat) : t.bytes a n = s.bytes a n := by
  induction n generalizing a with
  | zero => rfl
  | succ n ih => rw [State.bytes, State.bytes, ih, State.byte, State.byte, h]

theorem State.num_of_mem {s t : State} (h : t.mem = s.mem) (a n : Nat) : t.num a n = s.num a n := by
  rw [State.num, State.num, State.bytes_of_mem h]

/-- The records of a stroke are kept records of the log. -/
theorem State.mem_logRecords_of_mem_strokeRecords (s : State) (t : Nat) (out : Bool) (k : Nat) (p : Nat × Nat)
    (h : p ∈ s.strokeRecords t out k) : p ∈ s.logRecords t out := by
  have hafter := (List.takeWhile_sublist _).subset h
  unfold afterMarker at hafter
  split at hafter
  · exact List.mem_of_mem_drop hafter
  · split at hafter
    · exact hafter
    · exact absurd hafter List.not_mem_nil

theorem State.value_of_mem_logRecords (s : State) (t : Nat) (out : Bool) (n r : Nat) (h : (n, r) ∈ s.logRecords t out) :
    r = s.num (s.logAddr t out n) 16 := by
  obtain ⟨i, -, hi⟩ := List.mem_map.mp h
  obtain ⟨rfl, rfl⟩ := Prod.mk.inj hi
  rfl

/-- A read that the HBM serves answers the record as it was found. -/
theorem State.logRead_value (s : State) (t n r : Nat) (err : HbmRead) (herr : err ≠ .uncorrectable) (h : (n, r) ∈ s.logRecords t false) :
    (s.logRead t n err).1 = r := by
  rw [s.value_of_mem_logRecords t false n r h]
  cases err with
  | ok => rfl
  | corrected =>
    have hk := s.bump_keeps TME_ECC_CORR t 1
    have haddr : (s.bump TME_ECC_CORR t).logAddr t false n = s.logAddr t false n := by
      rw [State.logAddr, State.logAddr, State.ckpArea, State.ckpArea, hk.regs _ _ (by decide)]
    exact (congrArg (State.num _ · 16) haddr).trans (State.num_of_mem (hk.mem rfl) ..)
  | uncorrectable => exact absurd rfl herr

theorem State.logRead_keeps (s : State) (t n : Nat) (err : HbmRead) : Keeps touchWrites s (s.logRead t n err).2 := s.hbmTouch_keeps ..

theorem State.mem_logRecords_of_loggedAnswer (s : State) (c a n r : Nat) (h : s.loggedAnswer c a = some (n, r)) :
    (n, r) ∈ s.logRecords (c / 1088) false :=
  s.mem_logRecords_of_mem_strokeRecords _ _ _ _ (List.mem_of_find?_eq_some h)

theorem State.mem_logRecords_of_loggedHost (s : State) (c slot n r : Nat) (h : s.loggedHost c slot = some (n, r)) :
    (n, r) ∈ s.logRecords (c / 1088) false :=
  s.mem_logRecords_of_mem_strokeRecords _ _ _ _ (List.mem_of_find?_eq_some h)

/-- A live answer is discarded in replay (08 R243). -/
def State.liveDropped (s : State) (c k : Nat) : State :=
  match s.landingFor c k with
  | some l => s.withoutLanding l
  | none => s

theorem State.liveDropped_eq (s : State) (c k : Nat) : ∃ l, s.liveDropped c k = { s with landings := l } := by
  unfold State.liveDropped
  split
  · exact ⟨_, rfl⟩
  · exact ⟨_, rfl⟩

/-- An answer of the input log lands (08 R243). -/
def State.answerReplayed (s : State) (c k n : Nat) (err : HbmRead) : State :=
  (((s.logRead (c / 1088) n err).2.consume (c / 1088) n).landSlot c k (BitVec.ofNat 64 (recVal (s.logRead (c / 1088) n err).1)) 0).capture c k
    (BitVec.ofNat 64 (recVal (s.logRead (c / 1088) n err).1))

theorem exec_answerLanding_replayed (c : PCell) (a : Fin 16) (err : HbmRead) (n r : Nat) (s : State) (hport : s.portTaken c.val = false)
    (hreplay : s.flag CKP_STAT_REPLAY = true) (hd : s.discardsLandings = false) (hlog : s.loggedAnswer c.val a.val = some (n, r)) :
    exec (.answerLanding c a err) s = .next ((s.liveDropped c.val (64 + a.val)).answerReplayed c.val (64 + a.val) n err) := by
  show execAnswerLanding c a s err = _
  have hd' (l : Landing) : State.discardsLandings { s with landings := s.landings.erase l } = false := hd
  have hlog' (l : Landing) : State.loggedAnswer { s with landings := s.landings.erase l } c.val a.val = some (n, r) := hlog
  unfold execAnswerLanding State.liveDropped
  cases hlive : s.landingFor c.val (64 + a.val) with
  | some l =>
    simp only [hport, hreplay, show List.find? _ s.landings = _ from hlive, hd', hlog', Bool.false_and, Bool.false_eq_true, if_false, if_true]
    rfl
  | none =>
    simp only [hport, hreplay, show List.find? _ s.landings = _ from hlive, hd, hlog, Bool.false_and, Bool.false_eq_true, if_false, if_true]
    rfl

end Sys2Proof.Machine
end

section
/-! SUPPORT. The staged values of a cell (03 R75, 06 R181), and the statement of what lands in it. -/

namespace Sys2Proof.Machine

set_option Elab.async false

/-! ### Staged host values (03 R75, 06 R181) -/

/-- The port of a powered cell takes staged values in this cycle: P − 23 to P − 1, and none has gone there yet. -/
def State.takesStaged (s : State) (c : Nat) : Bool :=
  s.inStroke && s.stroke.flipped && decide (s.stroke.period ≤ s.cyc + 23) && decide (s.cyc < s.stroke.period) && s.active c &&
    s.domOn (cellDomain c) && !(s.cell c).stagedNow s.tb

theorem State.takesStaged_of (s : State) (c : Nat) (hin : s.inStroke = true) (hflip : s.stroke.flipped = true)
    (hfrom : s.stroke.period ≤ s.cyc + 23) (hto : s.cyc < s.stroke.period) (hactive : s.active c = true) (hon : s.domOn (cellDomain c) = true)
    (hfree : (s.cell c).stagedNow s.tb = false) : s.takesStaged c = true := by
  simp [State.takesStaged, hin, hflip, hfrom, hto, hactive, hon, hfree]

/-- The value that the input log holds goes to the inbox (08 R243). -/
def State.hostReplayed (s : State) (c slot n : Nat) (err : HbmRead) : State :=
  ((s.logRead (c / 1088) n err).2.consume (c / 1088) n).inboxWrite c slot (BitVec.ofNat 64 (recVal (s.logRead (c / 1088) n err).1)) 0 1023

/-- Nothing keeps a staged value back. -/
theorem State.notKeptBack_of_takesStaged (s : State) (c : Nat) (h : s.takesStaged c = true) :
    ¬(!s.inStroke || !s.stroke.flipped || decide (s.cyc + 23 < s.stroke.period) || decide (s.stroke.period ≤ s.cyc) ||
      !s.active c || !s.domOn (cellDomain c) || (s.cell c).stagedNow s.tb) = true := by
  simp only [State.takesStaged, Bool.and_eq_true, decide_eq_true_eq, Bool.not_eq_true'] at h
  obtain ⟨⟨⟨⟨⟨⟨hin, hflip⟩, hfrom⟩, hto⟩, hactive⟩, hon⟩, hfree⟩ := h
  rw [hin, hflip, hactive, hon, hfree, decide_eq_false (Nat.not_lt.mpr hfrom), decide_eq_false (Nat.not_le.mpr hto)]
  exact Bool.false_ne_true

/-- A staged value goes to its inbox where no record of the input log does. -/
theorem exec_stagedValueWrite_staged (c : PCell) (slot : Fin 512) (err : HbmRead) (h : HostVal) (s : State) (ht : s.takesStaged c.val = true)
    (hlog : s.flag CKP_STAT_REPLAY = true → s.loggedHost c.val slot.val = none) (hst : s.stagedValue c.val slot.val = some h) :
    exec (.stagedValueWrite c slot err) s = .next (s.writeStaged c.val h) := by
  have hnone : (if s.flag CKP_STAT_REPLAY = true then s.loggedHost c.val slot.val else none) = none := by
    split
    next hreplay => exact hlog hreplay
    next => rfl
  show execStagedValueWrite c slot s err = _
  rw [execStagedValueWrite, if_neg (s.notKeptBack_of_takesStaged _ ht), hnone, hst]

theorem exec_stagedValueWrite_logged (c : PCell) (slot : Fin 512) (err : HbmRead) (n r : Nat) (s : State) (ht : s.takesStaged c.val = true)
    (hreplay : s.flag CKP_STAT_REPLAY = true) (hlog : s.loggedHost c.val slot.val = some (n, r)) :
    exec (.stagedValueWrite c slot err) s = .next (s.hostReplayed c.val slot.val n err) := by
  show execStagedValueWrite c slot s err = _
  rw [execStagedValueWrite, if_neg (s.notKeptBack_of_takesStaged _ ht), hreplay, if_pos rfl, hlog, State.hostReplayed]

theorem State.slot_of_stagedValue (s : State) (c slot : Nat) (h : HostVal) (hst : s.stagedValue c slot = some h) : h.slot = slot := by
  have hh := List.find?_some hst
  simp only [Bool.and_eq_true, beq_iff_eq] at hh
  obtain ⟨⟨⟨⟨⟨⟨-, hslot⟩, -⟩, -⟩, -⟩, -⟩, -⟩ := hh
  exact hslot

/-- The input record of a staged value (08 R234). -/
def State.stagedRecord (s : State) (c : Nat) (h : HostVal) : Nat := logRecord h.val.toNat 1 (s.lcell c) h.slot s.cyc false

theorem State.writeStaged_logged (s : State) (c : Nat) (h : HostVal)
    (hlog : (!s.flag CKP_STAT_REPLAY || decide (s.stroke.no = s.get CKP_HWM_STROKE)) = true) : s.writeStaged c h =
      ((s.appendLog (c / 1088) false (s.stagedRecord c h)).1.markWritten h (s.appendLog (c / 1088) false (s.stagedRecord c h)).2).inboxWrite
        c h.slot h.val h.bad 1023 := by
  unfold State.writeStaged
  rw [hlog]
  rfl

theorem State.markWritten_keeps (s : State) (h : HostVal) (ok : Bool) : Keeps { hostVals := true } s (s.markWritten h ok) :=
  { Keeps.refl _ s with hostVals := nofun }

theorem exec_stagedValueWrite_early (c : PCell) (slot : Fin 512) (err : HbmRead) (s : State)
    (h : s.cyc + 23 < s.stroke.period ∨ s.stroke.period ≤ s.cyc) : exec (.stagedValueWrite c slot err) s = .next s := by
  show execStagedValueWrite c slot s err = _
  unfold execStagedValueWrite
  obtain h | h := h
  · simp [h]
  · simp [h]

/-- Settles O23. A landing takes what comes off its way (`ported`, `responseTaken`, `withoutLanding`) and then writes one entry of the inbox or one
slot; what those writes keep gives the frames. -/
theorem cellLandings : Obligations.CellLandings := by
  unfold Obligations.CellLandings
  refine ⟨?flitLanding, ?flitLandingTwice, ?flitLandingOtherEpoch, ?flitLandingAny, ?flitLandingNone, ?responseLanding, ?responseLandingNone,
    ?responseDiscarded, ?answerLanding, ?answerOfReplayDiscarded, ?answerLandingInReplay, ?answerLandingWaits, ?stagedValueWrite,
    ?stagedValueLastReplayed, ?stagedValueInReplay, ?stagedValueEarly⟩
  case flitLanding =>
    intro c slot f s hone hfind hdue hon hepoch hlate harrived
    obtain ⟨t, hexec, hput⟩ := exec_flitLanding_current c slot f s hone hfind hdue hon hepoch hlate
    have hk := s.ported_keeps c.val f
    have hholds := (s.ported c.val f).inboxPut_holds c.val slot.val f.val f.bad f.lane (s.ported c.val f).tb
    have hfirst := (s.ported c.val f).inboxPut_keeps_first c.val slot.val f.val f.bad f.lane (s.ported c.val f).tb
      (by rw [State.cell_ported]; exact harrived)
    rw [← hput] at hholds hfirst
    refine ⟨t, hexec, hholds.value, hholds.parity, hholds.arrived, (hfirst.flits rfl).1.trans (s.flits_ported ..), fun d hd => ?_,
      hk.mono.andThen hfirst⟩
    rw [hput, State.cell_inboxPut_ne _ _ _ _ _ _ _ _ hd, s.cell_ported_ne _ _ _ hd]
  case flitLandingTwice =>
    intro c slot f s hone hfind hdue hon hepoch hlate harrived
    obtain ⟨t, hexec, rfl⟩ := exec_flitLanding_current c slot f s hone hfind hdue hon hepoch hlate
    refine ⟨_, hexec, (State.inboxPut_holds ..).value, State.inboxPut_twice _ _ _ _ _ _ _ (by rw [State.cell_ported]; exact harrived), ?_⟩
    exact (s.ported_keeps c.val f).mono.andThen (State.inboxPut_keeps ..)
  case flitLandingOtherEpoch =>
    intro c slot f s hone hfind hdue hon hepoch
    have hk := s.ported_keeps c.val f
    have hlate := (s.ported c.val f).lateFlit_keeps c.val f.slot f.path (s.ported c.val f).cyc
    have hexec := exec_flitLanding_single c slot f s hone hfind
    rw [s.landFlit_due _ f hdue hon, State.acceptFlit_other _ _ _ (by rw [hk.flag _ _ (by decide)]; exact hepoch)] at hexec
    refine ⟨_, hexec, ?_, ?_, fun d hd => ?_, State.lateFlit_flagged .., (hlate.flits rfl).1.trans (s.flits_ported ..)⟩
    · rw [hlate.cell rfl, State.cell_ported]
    · rw [hlate.cell rfl, State.cell_ported]
    · rw [hlate.cell rfl, s.cell_ported_ne _ _ _ hd]
  case flitLandingAny =>
    intro c slot f p s hp hfind
    rw [hp] at hfind ⊢
    exact ⟨_, exec_flitLanding_some c slot f s hfind, State.flits_landFlit ..⟩
  case flitLandingNone =>
    intro c slot s hfind
    exact exec_flitLanding_none c slot s hfind
  case responseLanding =>
    intro c tag l s hfind hrestoring hentry
    have hexec := exec_responseLanding_some c tag l s hfind
    rw [s.discardsLandings_eq_false hrestoring hentry, if_neg Bool.false_ne_true] at hexec
    have hk := s.responseTaken_keeps c.val l
    have hlands := ((s.responseTaken c.val l).landSlot_capture_lands c.val tag.val l.val l.bad).after (hk.cell rfl)
    refine ⟨_, hexec, hlands.value, hlands.present, hlands.answered, hlands.slots, hlands.words,
      ((State.landSlot_capture_keeps ..).landings rfl).trans (s.landings_responseTaken ..), hlands.others, fun htime hquiet => ?_⟩
    have hontime : s.responseTaken c.val l = s.withoutLanding l := State.overrun_onTime _ _ _ htime
    rw [hontime]
    exact (s.withoutLanding_keeps l).mono.andThen (State.landSlot_capture_keeps_cells _ _ _ _ _ hquiet)
  case responseLandingNone =>
    intro c tag s hnone
    exact exec_responseLanding_none c tag s hnone
  case responseDiscarded =>
    intro c tag l s hfind hdiscards
    have hd : s.discardsLandings = true := Bool.or_eq_true_iff.mpr hdiscards
    have hexec := exec_responseLanding_some c tag l s hfind
    rw [if_pos hd] at hexec
    exact ⟨_, hexec, s.landings_responseTaken .., (s.responseTaken_keeps ..).cells rfl⟩
  case answerLanding =>
    intro c a err l s hport hreplay hfind hrestoring hentry hlive
    have hexec := exec_answerLanding_live c a err l s hport hreplay hfind
    rw [s.discardsLandings_eq_false hrestoring hentry, hlive, if_neg (by decide)] at hexec
    have hlogged := (s.withoutLanding l).answerLogged_keeps c.val a.val l
    have hlands := (((s.withoutLanding l).answerLogged c.val a.val l).landSlot_capture_lands c.val (64 + a.val) l.val l.bad).after
      (s := s) (hlogged.cell rfl)
    have hk := ((s.withoutLanding l).answerLogged c.val a.val l).landSlot_capture_keeps c.val (64 + a.val) l.val l.bad
    refine ⟨_, hexec, hlands.value, hlands.present, hlands.answered, hlands.slots, (hk.landings rfl).trans (hlogged.landings rfl), hlands.others,
      fun hrecords hroom => ?_, fun hrun hhold hservice => ?_⟩
    · rw [hk.tile rfl]
      exact (s.withoutLanding l).inPos_answerLogged c.val a.val l (s.recordsInput_iff.mpr hrecords) hroom
    · have hunlogged : (s.withoutLanding l).answerLogged c.val a.val l = s.withoutLanding l :=
        if_neg (fun h => (s.recordsInput_iff.mp h).elim hrun (Or.elim · hhold (fun hs => hservice.elim (· hs.1) (· hs.2))))
      rw [hunlogged]
      exact (s.withoutLanding_keeps l).mono.andThen
        (State.landSlot_capture_keeps_cells _ _ _ _ _ (by simp [State.inStroke, State.withoutLanding, hrun]))
  case answerOfReplayDiscarded =>
    intro c a err l s hport hreplay hfind hreplayed
    have hexec := exec_answerLanding_live c a err l s hport hreplay hfind
    rw [hreplayed, Bool.or_true, if_pos rfl] at hexec
    exact hexec
  case answerLandingInReplay =>
    intro c a err n r s herr hport hreplay hrestoring hentry hlog
    have hvalue : ((s.liveDropped c.val (64 + a.val)).logRead (c.val / 1088) n err).1 = r := by
      obtain ⟨l, hl⟩ := s.liveDropped_eq c.val (64 + a.val)
      rw [hl]
      exact State.logRead_value _ _ _ _ _ herr (s.mem_logRecords_of_loggedAnswer _ _ _ _ hlog)
    have hlands := State.landSlot_capture_lands
      (((s.liveDropped c.val (64 + a.val)).logRead (c.val / 1088) n err).2.consume (c.val / 1088) n) c.val (64 + a.val) (BitVec.ofNat 64 (recVal r)) 0
    rw [← hvalue] at hlands ⊢
    exact ⟨_, exec_answerLanding_replayed c a err n r s hport hreplay (s.discardsLandings_eq_false hrestoring hentry) hlog,
      hlands.value, hlands.present⟩
  case answerLandingWaits =>
    intro c a err f s hmem hegr hcell hland hreplay
    exact exec_answerLanding_waits c a err s (s.portTaken_of_flit _ f hmem hegr hcell hland) hreplay
  case stagedValueWrite =>
    intro c slot err h s hin hflip hfrom hto hactive hon hfree hreplay hst
    have htakes := s.takesStaged_of c.val hin hflip hfrom hto hactive hon hfree
    have hexec := exec_stagedValueWrite_staged c slot err h s htakes (fun h => absurd (hreplay.symm.trans h) Bool.false_ne_true) hst
    rw [s.writeStaged_logged _ _ (by rw [hreplay]; rfl), s.slot_of_stagedValue _ _ _ hst] at hexec
    have hlogged := s.appendLog_keeps_cells (c.val / 1088) false (s.stagedRecord c.val h)
    refine ⟨_, hexec, ((State.inboxPut_keeps ..).hostVals rfl).trans ?_, (State.inboxPut_holds ..).value, (State.inboxPut_holds ..).parity,
      (State.inboxPut_holds ..).arrived, fun d hd => ?_⟩
    · rw [State.markWritten, hlogged.hostVals rfl, s.appendLog_snd]
    · exact (State.cell_inboxPut_ne _ _ _ _ _ _ _ _ hd).trans (((State.markWritten_keeps ..).cell rfl d).trans (hlogged.cell rfl d))
  case stagedValueLastReplayed =>
    intro c slot err h s hin hflip hfrom hto hactive hon hfree hreplay hlast hlog hst
    have htakes := s.takesStaged_of c.val hin hflip hfrom hto hactive hon hfree
    have hexec := exec_stagedValueWrite_staged c slot err h s htakes (fun _ => hlog) hst
    rw [s.writeStaged_logged _ _ (by rw [decide_eq_true hlast, Bool.or_true]), s.slot_of_stagedValue _ _ _ hst] at hexec
    exact ⟨_, hexec, (State.inboxPut_holds ..).value, (State.inboxPut_holds ..).arrived⟩
  case stagedValueInReplay =>
    intro c slot err n r s herr hin hflip hfrom hto hactive hon hfree hreplay hlog
    have htakes := s.takesStaged_of c.val hin hflip hfrom hto hactive hon hfree
    have hvalue : (s.logRead (c.val / 1088) n err).1 = r := s.logRead_value _ _ _ _ herr (s.mem_logRecords_of_loggedHost _ _ _ _ hlog)
    have hread := (s.logRead_keeps (c.val / 1088) n err).hostVals rfl
    refine ⟨_, exec_stagedValueWrite_logged c slot err n r s htakes hreplay hlog, ?_, (State.inboxPut_holds ..).arrived,
      ((State.inboxPut_keeps ..).hostVals rfl).trans (((State.consume_keeps ..).hostVals rfl).trans hread)⟩
    rw [State.hostReplayed, hvalue]
    exact (State.inboxPut_holds ..).value
  case stagedValueEarly =>
    intro c slot err s hcyc
    exact exec_stagedValueWrite_early c slot err s hcyc

end Sys2Proof.Machine
end

section
/-! SUPPORT. The lanes (07): what their shared operations write, which register fields of the links they leave alone, and what they make of a lane's
record. -/

namespace Sys2Proof.Machine

set_option Elab.async false

/-! ### Reads through updates of the lanes -/

@[simp] theorem State.get_setLane (s : State) (n : Nat) (x : LaneSt) (f : Field) (i : Nat) : (s.setLane n x).get f i = s.get f i := rfl

@[simp] theorem State.lane_set (s : State) (f : Field) (i v n : Nat) : (s.set f i v).lane n = s.lane n := rfl

@[simp] theorem State.get_pushCtl (s : State) (n : Nat) (m : Ctl) (f : Field) (i : Nat) : (s.pushCtl n m).get f i = s.get f i := rfl

@[simp] theorem State.lane_pushCtl_self (s : State) (n : Nat) (m : Ctl) :
    (s.pushCtl n m).lane n = { s.lane n with ctl := (s.lane n).ctl ++ [m] } := s.lane_setLane_self ..

theorem Keeps.lane {w : Writes} {s t : State} (h : Keeps w s t) (hw : w.lanes = false) (n : Nat) : t.lane n = s.lane n :=
  congrArg (sget · n LaneSt.off) (h.lanes hw)

/-! ### Register fields of the links that an operation leaves alone -/

/-- Of the register fields of the links, t differs from s in the listed ones at most. -/
structure State.SameLinks (l : List Field) (s t : State) : Prop where
  get : ∀ (g : Field) (j : Nat), g.bank = .lnk → l.all (fun f => g.id % 65536 != f.id % 65536) = true → t.get g j = s.get g j

theorem Keeps.sameLinks {w : Writes} {s t : State} (h : Keeps w s t) (hw : Bank.lnk ∉ w.regs := by decide) : s.SameLinks [] t where
  get g j hg _ := h.regs g j (hg ▸ hw)

theorem State.SameLinks.trans {l m : List Field} {s t u : State} (h : s.SameLinks l t) (k : t.SameLinks m u) : s.SameLinks (l ++ m) u where
  get g j hg hl := by
    rw [List.all_append, Bool.and_eq_true] at hl
    rw [k.get g j hg hl.2, h.get g j hg hl.1]

theorem State.SameLinks.ite {l : List Field} {s t u : State} {p : Prop} [Decidable p] (h : s.SameLinks l t) (k : s.SameLinks l u) :
    s.SameLinks l (if p then t else u) := by
  split
  · exact h
  · exact k

/-- An operation that changes fewer fields changes no more. -/
theorem State.SameLinks.append {l : List Field} {s t : State} (h : s.SameLinks l t) (m : List Field) : s.SameLinks (l ++ m) t where
  get g j hg hl := h.get g j hg (by rw [List.all_append, Bool.and_eq_true] at hl; exact hl.1)

theorem State.SameLinks.refl (l : List Field) (s : State) : s.SameLinks l s := ⟨fun _ _ _ _ => rfl⟩

theorem State.set_sameLinks (s : State) (f : Field) (i v : Nat) : s.SameLinks [f] (s.set f i v) where
  get g j _ hl := s.get_set_field f g i j v (by simpa using hl)

theorem State.SameLinks.flag {l : List Field} {s t : State} (h : s.SameLinks l t) (g : Field) (j : Nat) (hg : g.bank = .lnk := by rfl)
    (hl : l.all (fun f => g.id % 65536 != f.id % 65536) = true := by rfl) : t.flag g j = s.flag g j :=
  congrArg (· == 1) (h.get g j hg hl)

/-! ### Flags and changes (07 R209, 12 R330) -/

/-- The writes of training: the links' registers, what samples them, and the lane itself. -/
def laneWrites : Writes := { regs := [.lnk, .lec, .gec], lanes := true, fresh := true }

theorem State.laneLevels_keeps (s : State) (n : Nat) : Keeps levelWrites s (s.laneLevels n) :=
  (s.lecSample_keeps ..).trans (State.lecSample_keeps ..)

theorem State.laneFlag_keeps_links (s : State) (f : Field) (n : Nat) (hf : f.bank = .lnk) :
    Keeps { regs := [.lnk, .lec], fresh := true } s (s.laneFlag f n) :=
  (s.raise_keeps_of_mem f n (by rw [hf]; decide)).andThen (State.laneLevels_keeps ..)

theorem State.raise_sameLinks (s : State) (f : Field) (i : Nat) : s.SameLinks [f] (s.raise f i) := ⟨(s.set_sameLinks f i 1).get⟩

theorem State.laneFlag_sameLinks (s : State) (f : Field) (n : Nat) : s.SameLinks [f] (s.laneFlag f n) := by
  have hl := ((s.raise f n).laneLevels_keeps n).sameLinks
  exact (s.raise_sameLinks f n).trans hl

@[simp] theorem State.lane_laneFlag (s : State) (f : Field) (n m : Nat) : (s.laneFlag f n).lane m = s.lane m :=
  (State.laneLevels_keeps ..).lane rfl m

theorem State.flag_laneFlag (s : State) (f : Field) (n : Nat) (hf : f.bank = .lnk := by rfl) (hw : 0 < f.width := by decide) :
    (s.laneFlag f n).flag f n = true :=
  ((State.laneLevels_keeps ..).sameLinks.flag f n hf).trans (s.flag_raise_self f n hw)

theorem State.noteChange_keeps (s : State) (n : Nat) : Keeps laneWrites s (s.noteChange n) :=
  (s.setLane_keeps ..).mono.andThen (State.laneFlag_keeps_links _ _ _ rfl)

theorem State.noteChange_sameLinks (s : State) (n : Nat) : s.SameLinks [LNK_STAT_CHG] (s.noteChange n) :=
  ⟨((s.setLane n _).laneFlag_sameLinks ..).get⟩

theorem State.lane_noteChange (s : State) (n : Nat) :
    (s.noteChange n).lane n = { s.lane n with changes := ((s.lane n).changes + 1) % 2 ^ 32 } := by
  rw [State.noteChange, State.lane_laneFlag, State.lane_setLane_self]

end Sys2Proof.Machine
end

section
/-! SUPPORT. The states of a lane in training (07 R203): DETECT, the start from RATEMAX, and a failed attempt. -/

namespace Sys2Proof.Machine

set_option Elab.async false

/-! ### States of a lane (07 R203) -/

theorem State.laneUp_iff (s : State) (n : Nat) : s.laneUp n = true ↔ s.get LNK_STAT_STATE n = 6 := beq_iff_eq

theorem State.laneUp_eq_false (s : State) (n : Nat) (h : s.get LNK_STAT_STATE n ≠ 6) : s.laneUp n = false := beq_false_of_ne h

theorem State.get_setLaneState (s : State) (n st : Nat) (h : st < 16) : (s.setLaneState n st).get LNK_STAT_STATE n = st :=
  (s.get_set_self ..).trans (Nat.mod_eq_of_lt h)

theorem State.goDetect_keeps (s : State) (n : Nat) : Keeps laneWrites s (s.goDetect n) := by
  unfold State.goDetect
  extract_lets noted l
  have hn : Keeps laneWrites s noted := .ite (.refl _ s) (s.noteChange_keeps n)
  exact hn.andThen (noted.setLane_keeps ..) |>.andThen (State.set_keeps ..) |>.andThen (State.set_keeps ..)

theorem State.goDetect_sameLinks (s : State) (n : Nat) : s.SameLinks [LNK_STAT_CHG, LNK_STAT_STATE, LNK_PINFO_KIND] (s.goDetect n) := by
  unfold State.goDetect
  extract_lets noted l
  have hn : s.SameLinks [LNK_STAT_CHG] noted := .ite (.refl _ s) (s.noteChange_sameLinks n)
  exact (hn.trans (noted.setLane_keeps ..).sameLinks).trans (State.set_sameLinks ..) |>.trans (State.set_sameLinks ..)

theorem State.state_goDetect (s : State) (n : Nat) : (s.goDetect n).get LNK_STAT_STATE n = 1 :=
  (State.get_set_field _ _ _ _ _ _ (by decide)).trans (State.get_setLaneState _ _ _ (by decide))

theorem State.attempts_goDetect (s : State) (n : Nat) : ((s.goDetect n).lane n).attempts = (s.lane n).attempts := by
  have hnoted : ((if s.get LNK_PINFO_KIND n = 0 then s else s.noteChange n).lane n).attempts = (s.lane n).attempts := by
    split
    · rfl
    · rw [State.lane_noteChange]
  simp only [State.goDetect, State.setLaneState, State.lane_set, State.lane_setLane_self]
  exact hnoted

theorem State.restartLane_keeps (s : State) (n : Nat) : Keeps { regs := [.lnk], lanes := true } s (s.restartLane n) :=
  (s.setLane_keeps ..).mono.andThen (State.set_keeps ..)

theorem State.restartLane_sameLinks (s : State) (n : Nat) : s.SameLinks [LNK_STAT_RATE] (s.restartLane n) :=
  (s.setLane_keeps n { s.lane n with attempts := 0 }).sameLinks.trans (State.set_sameLinks ..)

theorem State.rate_restartLane (s : State) (n : Nat) : (s.restartLane n).get LNK_STAT_RATE n = s.get LNK_CTL_RATEMAX n % 4 :=
  State.get_set_self ..

theorem State.attempts_restartLane (s : State) (n : Nat) : ((s.restartLane n).lane n).attempts = 0 := by
  rw [State.restartLane, State.lane_set, State.lane_setLane_self]

/-- A lane that trains from RATEMAX on begins in DETECT. -/
theorem State.restarted_detects (s : State) (n : Nat) : ((s.restartLane n).goDetect n).get LNK_STAT_STATE n = 1 ∧
    ((s.restartLane n).goDetect n).get LNK_STAT_RATE n = s.get LNK_CTL_RATEMAX n % 4 ∧
    (((s.restartLane n).goDetect n).lane n).attempts = 0 ∧ Keeps laneWrites s ((s.restartLane n).goDetect n) :=
  ⟨State.state_goDetect .., ((State.goDetect_sameLinks ..).get _ _ rfl rfl).trans (s.rate_restartLane n),
    (State.attempts_goDetect ..).trans (s.attempts_restartLane n), (s.restartLane_keeps n).mono.andThen (State.goDetect_keeps ..)⟩

/-! ### Failed attempts (07 R203) -/

/-- What a failed attempt with a cause makes of lane n: it starts again in DETECT; the third in a row lowers the rate, and at the lowest rate it ends
in FAIL. -/
structure State.FailsAttempt (s t : State) (n cause : Nat) : Prop where
  cause : t.get LNK_STAT_FAILCAUSE n = cause
  again : (s.lane n).attempts < 2 → t.get LNK_STAT_STATE n = 1 ∧ (t.lane n).attempts = (s.lane n).attempts + 1 ∧
    t.get LNK_STAT_RATE n = s.get LNK_STAT_RATE n
  third : 2 ≤ (s.lane n).attempts → (t.lane n).attempts = 0 ∧
    (s.get LNK_STAT_RATE n < 2 → t.get LNK_STAT_STATE n = 1 ∧ t.get LNK_STAT_RATE n = s.get LNK_STAT_RATE n + 1) ∧
    (2 ≤ s.get LNK_STAT_RATE n → t.get LNK_STAT_STATE n = 7)
  keeps : Keeps laneWrites s t

/-- Lane n with the cause of a failed attempt and a count of attempts in a row. -/
def State.noteAttempt (s : State) (n cause a : Nat) : State :=
  (s.set LNK_STAT_FAILCAUSE n cause).setLane n { s.lane n with attempts := a }

theorem State.noteAttempt_keeps (s : State) (n cause a : Nat) : Keeps { regs := [.lnk], lanes := true } s (s.noteAttempt n cause a) :=
  (s.set_keeps ..).mono.andThen (State.setLane_keeps ..)

theorem State.attempts_noteAttempt (s : State) (n cause a : Nat) : ((s.noteAttempt n cause a).lane n).attempts = a := by
  rw [State.noteAttempt, State.lane_setLane_self]

theorem State.cause_noteAttempt (s : State) (n cause a : Nat) (h : cause < 16) : (s.noteAttempt n cause a).get LNK_STAT_FAILCAUSE n = cause :=
  (s.get_set_self ..).trans (Nat.mod_eq_of_lt h)

theorem State.rate_noteAttempt (s : State) (n cause a : Nat) : (s.noteAttempt n cause a).get LNK_STAT_RATE n = s.get LNK_STAT_RATE n :=
  s.get_set_field _ _ _ _ _ (by decide)

theorem State.failAttempt_again (s : State) (n cause : Nat) (h : (s.lane n).attempts < 2) :
    s.failAttempt n cause = (s.noteAttempt n cause ((s.lane n).attempts + 1)).goDetect n := if_pos (by omega)

theorem State.failAttempt_slower (s : State) (n cause : Nat) (h : 2 ≤ (s.lane n).attempts) (hr : s.get LNK_STAT_RATE n < 2) :
    s.failAttempt n cause = ((s.noteAttempt n cause 0).set LNK_STAT_RATE n (s.get LNK_STAT_RATE n + 1)).goDetect n := by
  rw [← s.rate_noteAttempt n cause 0] at hr ⊢
  exact (if_neg (by omega)).trans (if_pos hr)

theorem State.failAttempt_ends (s : State) (n cause : Nat) (h : 2 ≤ (s.lane n).attempts) (hr : 2 ≤ s.get LNK_STAT_RATE n) :
    s.failAttempt n cause = ((s.noteAttempt n cause 0).goDetect n).setLaneState n 7 := by
  rw [← s.rate_noteAttempt n cause 0] at hr
  exact (if_neg (by omega)).trans (if_neg (Nat.not_lt.mpr hr))

theorem State.failAttempt_fails (s : State) (n cause : Nat) (h : cause < 16) : s.FailsAttempt (s.failAttempt n cause) n cause := by
  have hcause := s.cause_noteAttempt n cause
  have hnoted (a : Nat) : Keeps laneWrites s (s.noteAttempt n cause a) := (s.noteAttempt_keeps ..).mono
  by_cases ha : (s.lane n).attempts < 2
  · rw [s.failAttempt_again n cause ha]
    have hd := (s.noteAttempt n cause ((s.lane n).attempts + 1)).goDetect_sameLinks n
    exact {
      cause := (hd.get _ _ rfl rfl).trans (hcause _ h)
      again := fun _ => ⟨State.state_goDetect .., (State.attempts_goDetect ..).trans (s.attempts_noteAttempt ..),
        (hd.get _ _ rfl rfl).trans (s.rate_noteAttempt ..)⟩
      third := fun h2 => absurd ha (by omega)
      keeps := (hnoted _).trans (State.goDetect_keeps ..) }
  · have h2 : 2 ≤ (s.lane n).attempts := by omega
    by_cases hr : s.get LNK_STAT_RATE n < 2
    · rw [s.failAttempt_slower n cause h2 hr]
      have hd := (s.noteAttempt n cause 0).set_sameLinks LNK_STAT_RATE n (s.get LNK_STAT_RATE n + 1) |>.trans (State.goDetect_sameLinks _ n)
      have hrate : (((s.noteAttempt n cause 0).set LNK_STAT_RATE n (s.get LNK_STAT_RATE n + 1)).goDetect n).get LNK_STAT_RATE n =
          s.get LNK_STAT_RATE n + 1 :=
        ((State.goDetect_sameLinks ..).get _ _ rfl rfl).trans ((State.get_set_self ..).trans (Nat.mod_eq_of_lt (by show _ < 4; omega)))
      exact {
        cause := (hd.get _ _ rfl rfl).trans (hcause _ h)
        again := fun h1 => absurd h1 ha
        third := fun _ => ⟨(State.attempts_goDetect ..).trans (s.attempts_noteAttempt ..), fun _ => ⟨State.state_goDetect .., hrate⟩,
          fun h' => absurd hr (by omega)⟩
        keeps := (hnoted _).andThen (State.set_keeps ..) |>.trans (State.goDetect_keeps ..) }
    · rw [s.failAttempt_ends n cause h2 (by omega)]
      have hd := (s.noteAttempt n cause 0).goDetect_sameLinks n |>.trans (State.set_sameLinks _ LNK_STAT_STATE n 7)
      exact {
        cause := (hd.get _ _ rfl rfl).trans (hcause _ h)
        again := fun h1 => absurd h1 ha
        third := fun _ => ⟨(State.attempts_goDetect ..).trans (s.attempts_noteAttempt ..), fun h' => absurd h' hr,
          fun _ => State.get_setLaneState _ _ _ (by decide)⟩
        keeps := (hnoted _).trans (State.goDetect_keeps ..) |>.andThen (State.set_keeps ..) }

end Sys2Proof.Machine
end

section
/-! SUPPORT. How a lane leaves UP (07 R208, R216), and that what has left the module stays sent whatever follows. -/

namespace Sys2Proof.Machine

set_option Elab.async false

/-! ### What has left stays sent -/

/-- What has left the module in s has left it in t. -/
structure State.StaysSent (s t : State) : Prop where
  out : s.out ⊆ t.out

theorem State.StaysSent.refl (s : State) : s.StaysSent s := ⟨List.Subset.refl _⟩

theorem State.StaysSent.trans {s t u : State} (h : s.StaysSent t) (k : t.StaysSent u) : s.StaysSent u := ⟨List.Subset.trans h.out k.out⟩

theorem State.StaysSent.ite {s t u : State} {p : Prop} [Decidable p] (h : s.StaysSent t) (k : s.StaysSent u) :
    s.StaysSent (if p then t else u) := by
  split
  · exact h
  · exact k

theorem State.StaysSent.foldl {α : Type} {f : State → α → State} (hf : ∀ s x, State.StaysSent s (f s x)) (l : List α) (s : State) :
    s.StaysSent (l.foldl f s) := by
  induction l generalizing s with
  | nil => exact .refl s
  | cons x t ih => exact (hf s x).trans (ih _)

theorem Keeps.staysSent {w : Writes} {s t : State} (h : Keeps w s t) (hw : w.out = false := by rfl) : s.StaysSent t where
  out := h.out hw ▸ List.Subset.refl _

theorem State.emit_staysSent (s : State) (m : OutMsg) : s.StaysSent (s.emit m) := ⟨List.subset_append_left ..⟩

theorem State.msix_staysSent (s : State) (v : Nat) : s.StaysSent (s.msix v) := .ite (s.withMsixPba_keeps _).staysSent (s.emit_staysSent _)

theorem State.queueEmcy_staysSent (s : State) (r : FltRec) : s.StaysSent (s.queueEmcy r) := by
  have hq (l : List FltRec) : s.StaysSent { s with emcy := l } := (s.withEmcy_keeps l).staysSent
  exact .ite (hq _) (.ite (hq _) ((hq _).trans (State.raise_keeps ..).staysSent))

theorem State.storeFlt_staysSent (s : State) (r : FltRec) : s.StaysSent (s.storeFlt r) := by
  unfold State.storeFlt
  refine .ite ((s.raise_keeps ..).staysSent.trans (State.bump_keeps ..).staysSent) ?_
  extract_lets r recs stored queued
  have hq : s.StaysSent queued := (s.withFltRecs_keeps ..).staysSent.trans (stored.queueEmcy_staysSent r)
  exact .ite (hq.trans (queued.msix_staysSent _)) hq

theorem State.faultHold_staysSent (s : State) : s.StaysSent s.faultHold := by
  have hr : s.StaysSent (s.raise CKP_CTL_HOLDOFF) := (s.raise_keeps ..).staysSent
  exact .ite hr (hr.trans (State.withCkp_keeps ..).staysSent |>.trans (State.requestHold_keeps ..).staysSent)

theorem State.logOnly_staysSent (s : State) (code sev tile loc pcell d0 d1 : Nat) : s.StaysSent (s.logOnly code sev tile loc pcell d0 d1) := by
  unfold State.logOnly
  extract_lets inRun replay pause
  have hfresh : s.StaysSent (if pause then s.fresh else (0, s)).2 := by
    split
    · exact s.fresh_keeps.staysSent
    · exact .refl s
  split
  rename_i w u hdrawn
  rw [hdrawn] at hfresh
  extract_lets scyc r0 rep sev' hold r repeated collided before recorded _ stored traced
  have hrepeated : s.StaysSent repeated := .ite (hfresh.trans (State.raise_keeps ..).staysSent) hfresh
  have hcollided : s.StaysSent collided := .ite (hrepeated.trans (State.raise_keeps ..).staysSent) hrepeated
  have hstored : s.StaysSent stored := hcollided.trans (collided.storeFlt_staysSent r) |>.trans (recorded.withCkp_keeps _).staysSent
  have htraced : s.StaysSent traced := .ite hstored (hstored.trans (stored.traceEvent_keeps ..).staysSent)
  exact (State.StaysSent.ite (htraced.trans traced.faultHold_staysSent) htraced).trans (State.hubLevels_keeps _).staysSent

theorem State.ckpFail_staysSent (s : State) (cause : Nat) : s.StaysSent (s.ckpFail cause) := by
  unfold State.ckpFail
  refine .ite (.refl s) ?_
  exact (s.withCkp_keeps _).staysSent.trans (State.endPause_keeps ..).staysSent |>.trans (State.heldPlan_keeps _).staysSent
    |>.trans (State.raise_keeps ..).staysSent |>.trans (State.announce_keeps ..).staysSent |>.trans (State.logOnly_staysSent ..)

theorem State.fault_staysSent (s : State) (code sev tile loc pcell d0 d1 : Nat) : s.StaysSent (s.fault code sev tile loc pcell d0 d1) := by
  have hlog := s.logOnly_staysSent code sev tile loc pcell d0 d1
  exact .ite (hlog.trans (State.ckpFail_staysSent ..)) hlog

/-! ### Leaving UP (07 R208, R216) -/

theorem State.setLaneReady_sameLinks (s : State) (n : Nat) (b : Bool) : s.SameLinks [LNK_STAT_READY, LNK_STAT_CHG] (s.setLaneReady n b) := by
  unfold State.setLaneReady
  exact .ite (.refl _ s) ((s.set_sameLinks ..).trans (State.setReady_keeps ..).sameLinks |>.trans (State.noteChange_sameLinks ..))

theorem State.ready_setLaneReady (s : State) (n : Nat) (b : Bool) : (s.setLaneReady n b).flag LNK_STAT_READY n = b := by
  unfold State.setLaneReady
  split
  next h => exact beq_iff_eq.mp h
  next =>
    exact ((State.noteChange_sameLinks ..).flag _ _).trans (((State.setReady_keeps ..).flag _ _ (by decide)).trans (s.flag_set_b2n ..))

/-- The writes of a lane that is ready or no longer: the ready bit of its logical function may disarm the module (16 R434). -/
def laneReadyWrites : Writes := { readyWrites with regs := .lnk :: .gec :: readyWrites.regs }

theorem State.setLaneReady_keeps (s : State) (n : Nat) (b : Bool) : Keeps laneReadyWrites s (s.setLaneReady n b) := by
  unfold State.setLaneReady
  exact .ite (.refl _ s) (Keeps.refl _ s |>.andThen (s.set_keeps ..) |>.andThen (State.setReady_keeps ..) |>.andThen (State.noteChange_keeps ..))

theorem State.ldictLost_keeps (s : State) (n : Nat) : Keeps { regs := [.mgt] } s (s.ldictLost n) :=
  .foldl (fun s i => .ite (Keeps.refl _ s |>.andThen (s.lower_keeps ..) |>.andThen (State.raise_keeps ..)) (.refl _ s)) _ s

/-- A lane that has left UP, before the fault that this is in RUN (07 R216). -/
def State.leftUp (s : State) (n : Nat) : State := ((((s.dropLane n).goDetect n).setLaneReady n false).laneFlag LNK_STAT_LOSS n).ldictLost n

theorem State.leaveUp_cases (s : State) (n : Nat) : s.leaveUp n = (s.leftUp n).linkDown n ∨ s.leaveUp n = s.leftUp n := ite_eq_or_eq ..

theorem State.leftUp_keeps (s : State) (n : Nat) : Keeps laneReadyWrites s (s.leftUp n) :=
  Keeps.refl _ s |>.andThen (s.setLane_keeps ..) |>.andThen (State.goDetect_keeps ..) |>.trans (State.setLaneReady_keeps ..)
    |>.andThen (State.laneFlag_keeps_links _ _ _ rfl) |>.andThen (State.ldictLost_keeps ..)

/-- A lane that leaves UP is in DETECT and not ready; of the links' registers nothing changes beside what says so. -/
structure State.Left (s t : State) (n : Nat) : Prop where
  state : t.get LNK_STAT_STATE n = 1
  ready : t.flag LNK_STAT_READY n = false
  links : s.SameLinks [LNK_STAT_CHG, LNK_STAT_STATE, LNK_PINFO_KIND, LNK_STAT_READY, LNK_STAT_CHG, LNK_STAT_LOSS] t
  sent : s.StaysSent t

theorem State.leftUp_left (s : State) (n : Nat) : s.Left (s.leftUp n) n where
  state := by
    have hreadied := ((s.dropLane n).goDetect n).setLaneReady_sameLinks n false
    have hflagged := (((s.dropLane n).goDetect n).setLaneReady n false).laneFlag_sameLinks LNK_STAT_LOSS n
    exact (((hreadied.trans hflagged).trans (State.ldictLost_keeps ..).sameLinks).get _ _ rfl rfl).trans (State.state_goDetect ..)
  ready := by
    have hflagged := (((s.dropLane n).goDetect n).setLaneReady n false).laneFlag_sameLinks LNK_STAT_LOSS n
    exact ((hflagged.trans (State.ldictLost_keeps ..).sameLinks).flag _ _).trans (State.ready_setLaneReady ..)
  links := (s.setLane_keeps ..).sameLinks.trans (State.goDetect_sameLinks ..) |>.trans (State.setLaneReady_sameLinks ..)
    |>.trans (State.laneFlag_sameLinks ..) |>.trans (State.ldictLost_keeps ..).sameLinks
  sent := (s.leftUp_keeps n).staysSent

theorem State.leaveUp_left (s : State) (n : Nat) : s.Left (s.leaveUp n) n := by
  have hleft := s.leftUp_left n
  obtain h | h := s.leaveUp_cases n
  · rw [h]
    have hdown : (s.leftUp n).SameLinks [] ((s.leftUp n).linkDown n) := (State.fault_keeps ..).sameLinks
    exact {
      state := (hdown.get _ _ rfl rfl).trans hleft.state
      ready := (hdown.flag _ _).trans hleft.ready
      links := hleft.links.trans hdown
      sent := hleft.sent.trans (State.fault_staysSent ..) }
  · rwa [h]

theorem State.leaveIfUp_up (s : State) (n : Nat) (h : s.get LNK_STAT_STATE n = 6) : s.leaveIfUp n = s.leaveUp n := if_pos ((s.laneUp_iff n).mpr h)

theorem State.leaveIfUp_not_up (s : State) (n : Nat) (h : s.get LNK_STAT_STATE n ≠ 6) : s.leaveIfUp n = s := if_neg (mt (s.laneUp_iff n).mp h)

end Sys2Proof.Machine
end

section
/-! SUPPORT. Messages and beats on a lane (07 R189 to R193, R204, R210, R211). -/

namespace Sys2Proof.Machine

set_option Elab.async false

/-! ### Positions of a superframe (07 R191 to R193) -/

theorem kindAt_congr (kinds : Nat) {x y : Nat} (h : x % 32 = y % 32) : kindAt kinds x = kindAt kinds y := by rw [kindAt, kindAt, h]

theorem nextBeat_position {kinds kind b x : Nat} (h : nextBeat kinds kind b = some x) : kindAt kinds x = kind ∧ x % sfBeats ≠ 0 := by
  simpa using List.find?_some h

/-- The calendar repeats itself before the search ends, and of two calendar cycles in a row one at most begins a superframe. -/
theorem nextBeat_isSome_iff (kinds kind b : Nat) : (nextBeat kinds kind b).isSome = true ↔ ∃ r, kindAt kinds r = kind := by
  constructor
  · intro h
    obtain ⟨x, hx⟩ := Option.isSome_iff_exists.mp h
    exact ⟨x, (nextBeat_position hx).1⟩
  · rintro ⟨r, hr⟩
    have hposition (k : Nat) (hk : k < 64) (hmod : (b + k) % 32 = r % 32) (hsync : (b + k) % sfBeats ≠ 0) : (nextBeat kinds kind b).isSome = true :=
      List.find?_isSome.mpr ⟨b + k, List.mem_map.mpr ⟨k, List.mem_range.mpr hk, rfl⟩, by simp [(kindAt_congr kinds hmod).trans hr, hsync]⟩
    have hk : (r + 32 - b % 32) % 32 < 32 := Nat.mod_lt _ (by decide)
    have hmod : (b + (r + 32 - b % 32) % 32) % 32 = r % 32 := by omega
    by_cases hsync : (b + (r + 32 - b % 32) % 32) % sfBeats = 0
    · refine hposition ((r + 32 - b % 32) % 32 + 32) (by omega) (by omega) ?_
      unfold sfBeats at hsync ⊢
      omega
    · exact hposition _ (by omega) hmod hsync

theorem State.hasPosition_iff (s : State) (n kind : Nat) : s.hasPosition n kind = true ↔ ∃ r, kindAt (s.lane n).calInForce r = kind :=
  nextBeat_isSome_iff ..

theorem State.hasPosition_congr {s t : State} {n : Nat} (h : (t.lane n).calInForce = (s.lane n).calInForce) (kind : Nat) :
    t.hasPosition n kind = s.hasPosition n kind := by
  rw [Bool.eq_iff_iff, State.hasPosition_iff, State.hasPosition_iff, h]

/-! ### A beat leaves (07 R191 to R193, R211) -/

/-- A beat leaves lane n at position b of superframe sf. -/
def State.putBeat (s : State) (n sf b w : Nat) : State := (s.setLane n { s.lane n with txPos := b + 1 }).emit (.beat n sf b w)

/-- What `sendAt` can do: nothing where the kind has no position; else the beat leaves in the superframe in progress or, behind its SYNC, in the next. -/
theorem State.sendAt_cases (s : State) (n kind w : Nat) :
    (s.hasPosition n kind = false ∧ s.sendAt n kind w = s) ∨
    ∃ b, nextBeat (s.lane n).calInForce kind (s.lane n).txPos = some b ∧
      ((b < sfBeats ∧ s.sendAt n kind w = s.putBeat n (s.lane n).txSf b w) ∨
       (sfBeats ≤ b ∧ s.sendAt n kind w = (s.sendSync n ((s.lane n).txSf + 1)).putBeat n ((s.lane n).txSf + 1) (b - sfBeats) w)) := by
  unfold State.sendAt State.hasPosition State.putBeat
  cases h : nextBeat (s.lane n).calInForce kind (s.lane n).txPos with
  | none => exact .inl ⟨rfl, by simp only [h]⟩
  | some b =>
    refine .inr ⟨b, rfl, ?_⟩
    by_cases hb : b < sfBeats
    · exact .inl ⟨hb, by simp only [h, if_pos hb]⟩
    · exact .inr ⟨Nat.le_of_not_lt hb, by simp only [h, if_neg hb]⟩

theorem State.lane_sendSync (s : State) (n sf : Nat) : (s.sendSync n sf).lane n = { s.lane n with txSf := sf, txPos := 1 } := s.lane_setLane_self ..

theorem State.lane_putBeat (s : State) (n sf b w : Nat) : (s.putBeat n sf b w).lane n = { s.lane n with txPos := b + 1 } := s.lane_setLane_self ..

theorem State.sendSync_keeps (s : State) (n sf : Nat) : Keeps { lanes := true, out := true } s (s.sendSync n sf) :=
  (s.setLane_keeps ..).mono.andThen (State.emit_keeps ..)

theorem State.putBeat_keeps (s : State) (n sf b w : Nat) : Keeps { lanes := true, out := true } s (s.putBeat n sf b w) :=
  (s.setLane_keeps ..).mono.andThen (State.emit_keeps ..)

theorem State.sendSync_staysSent (s : State) (n sf : Nat) : s.StaysSent (s.sendSync n sf) :=
  (s.setLane_keeps ..).staysSent.trans (State.emit_staysSent ..)

theorem State.putBeat_staysSent (s : State) (n sf b w : Nat) : s.StaysSent (s.putBeat n sf b w) :=
  (s.setLane_keeps ..).staysSent.trans (State.emit_staysSent ..)

theorem State.sendAt_keeps (s : State) (n kind w : Nat) : Keeps { lanes := true, out := true } s (s.sendAt n kind w) := by
  obtain ⟨-, h⟩ | ⟨b, -, ⟨-, h⟩ | ⟨-, h⟩⟩ := s.sendAt_cases n kind w <;> rw [h]
  · exact .refl _ s
  · exact s.putBeat_keeps ..
  · exact (s.sendSync_keeps ..).trans (State.putBeat_keeps ..)

theorem State.sendAt_staysSent (s : State) (n kind w : Nat) : s.StaysSent (s.sendAt n kind w) := by
  obtain ⟨-, h⟩ | ⟨b, -, ⟨-, h⟩ | ⟨-, h⟩⟩ := s.sendAt_cases n kind w <;> rw [h]
  · exact .refl s
  · exact s.putBeat_staysSent ..
  · exact (s.sendSync_staysSent ..).trans (State.putBeat_staysSent ..)

/-- A beat that leaves moves the lane on in its superframes and changes nothing else of it. -/
theorem State.lane_sendAt (s : State) (n kind w : Nat) : ∃ sf p, (s.sendAt n kind w).lane n = { s.lane n with txSf := sf, txPos := p } := by
  obtain ⟨-, h⟩ | ⟨b, -, ⟨-, h⟩ | ⟨-, h⟩⟩ := s.sendAt_cases n kind w <;> rw [h]
  · exact ⟨_, _, rfl⟩
  · exact ⟨_, _, s.lane_putBeat ..⟩
  · exact ⟨_, _, (State.lane_putBeat ..).trans (by rw [State.lane_sendSync])⟩

theorem State.hasPosition_sendAt (s : State) (n kind w k : Nat) : (s.sendAt n kind w).hasPosition n k = s.hasPosition n k := by
  obtain ⟨sf, p, h⟩ := s.lane_sendAt n kind w
  exact State.hasPosition_congr (by rw [h]) k

/-- A beat leaves at the next position of its kind, behind the SYNC of its superframe where that begins on the way. -/
theorem State.out_sendAt (s : State) (n kind w : Nat) (h : s.hasPosition n kind = true) :
    ∃ sf b l, (s.sendAt n kind w).out = s.out ++ l ++ [OutMsg.beat n sf b w] ∧ kindAt (s.lane n).calInForce b = kind ∧ b % 8224 ≠ 0 ∧
      ((l = [] ∧ sf = (s.lane n).txSf) ∨ (l = [OutMsg.beat n sf 0 (syncBeat (s.lane n).calInForce sf)] ∧ sf = (s.lane n).txSf + 1)) := by
  obtain ⟨hnone, -⟩ | ⟨b, hb, hsent⟩ := s.sendAt_cases n kind w
  · exact absurd (h.symm.trans hnone) (by decide)
  obtain ⟨hkind, hsync⟩ := nextBeat_position hb
  unfold sfBeats at hsync hsent
  obtain ⟨-, hsent⟩ | ⟨hlate, hsent⟩ := hsent <;> rw [hsent]
  · exact ⟨_, b, [], by rw [List.append_nil]; rfl, hkind, hsync, .inl ⟨rfl, rfl⟩⟩
  · exact ⟨_, b - 8224, _, rfl, (kindAt_congr _ (by omega)).trans hkind, by omega, .inr ⟨rfl, rfl⟩⟩

theorem State.beat_sendAt (s : State) (n kind w : Nat) (h : s.hasPosition n kind = true) :
    ∃ sf b, OutMsg.beat n sf b w ∈ (s.sendAt n kind w).out := by
  obtain ⟨sf, b, l, hout, -⟩ := s.out_sendAt n kind w h
  exact ⟨sf, b, by rw [hout]; exact List.mem_append_right _ (List.mem_singleton.mpr rfl)⟩

/-- Every beat of a list leaves where its kind has a position. -/
theorem State.beats_sendAt (n kind : Nat) (l : List Nat) (s : State) (h : s.hasPosition n kind = true) :
    ∀ w ∈ l, ∃ sf b, OutMsg.beat n sf b w ∈ (l.foldl (fun s w => s.sendAt n kind w) s).out := by
  induction l generalizing s with
  | nil => exact fun w hw => absurd hw List.not_mem_nil
  | cons x t ih =>
    intro w hw
    obtain rfl | hw := List.mem_cons.mp hw
    · obtain ⟨sf, b, hb⟩ := s.beat_sendAt n kind w h
      exact ⟨sf, b, (State.StaysSent.foldl (fun s w => s.sendAt_staysSent n kind w) t _).out hb⟩
    · exact ih _ ((s.hasPosition_sendAt ..).trans h) w hw

end Sys2Proof.Machine
end

section
/-! SUPPORT. The messages of a lane (07 R204, R210, R211, R213), and the statement about them. -/

namespace Sys2Proof.Machine

set_option Elab.async false

/-! ### Sending (07 R192, R203, R211) -/

theorem State.identDone_of_state (s : State) (n : Nat) (h : s.get LNK_STAT_STATE n ≠ 5) : s.identDone n = s :=
  if_neg (by simp [h])

theorem State.idleAt_training (s : State) (n kind : Nat) (h : 3 ≤ s.get LNK_STAT_STATE n ∧ s.get LNK_STAT_STATE n ≤ 6) :
    s.idleAt n kind = s.sendAt n kind idleBeat := if_pos h

theorem State.idleAt_silent (s : State) (n kind : Nat) (h : s.get LNK_STAT_STATE n < 3 ∨ 6 < s.get LNK_STAT_STATE n) : s.idleAt n kind = s :=
  if_neg (by omega)

/-- The record of a lane that begins a message of these beats: the first is on its way. -/
def LaneSt.begins (l : LaneSt) (m : Ctl) (beats : List Nat) (tb16 : Nat) : LaneSt :=
  if m.ctype = 2 then { l with ctl := l.ctl.erase m, sending := beats.drop 1, tsOut := true, lastTs := tb16 }
  else { l with ctl := l.ctl.erase m, sending := beats.drop 1 }

theorem LaneSt.begins_fields (l : LaneSt) (m : Ctl) (beats : List Nat) (tb16 : Nat) :
    (l.begins m beats tb16).sending = beats.drop 1 ∧ (l.begins m beats tb16).ctl = l.ctl.erase m ∧
    (l.begins m beats tb16).calInForce = l.calInForce ∧
    (m.ctype = 2 → (l.begins m beats tb16).tsOut = true ∧ (l.begins m beats tb16).lastTs = tb16) := by
  unfold LaneSt.begins
  split <;> simp [*]

theorem exec_controlMessageSend_goesOn (n : Lane) (w : Nat) (rest : List Nat) (s : State) (h : (s.lane n.val).sending = w :: rest) :
    exec (.controlMessageSend n) s =
      .next (((s.setLane n.val { s.lane n.val with sending := rest }).sendAt n.val 2 w).identDone n.val) := by
  show execControlMessageSend n s = _
  simp only [execControlMessageSend, h]

theorem exec_controlMessageSend_begins (n : Lane) (m : Ctl) (s : State) (hup : s.get LNK_STAT_STATE n.val = 6) (hs : (s.lane n.val).sending = [])
    (hm : nextCtl (s.lane n.val).ctl = some m) :
    exec (.controlMessageSend n) s =
      .next ((s.setLane n.val ((s.lane n.val).begins m (controlBeats m.ctype (s.ctlBeats m)) (s.tb16 0))).sendAt n.val 2
        ((controlBeats m.ctype (s.ctlBeats m)).headD idleBeat)) := by
  have hdone (x : LaneSt) (w : Nat) : ((s.setLane n.val x).sendAt n.val 2 w).identDone n.val = (s.setLane n.val x).sendAt n.val 2 w :=
    State.identDone_of_state _ _ (by rw [(State.sendAt_keeps ..).regs _ _ (by decide), State.get_setLane, hup]; decide)
  show execControlMessageSend n s = _
  simp only [execControlMessageSend, hs, hup, beq_self_eq_true, Bool.true_or, List.filter_true, hm, hdone]
  unfold LaneSt.begins
  split <;> rfl

theorem exec_controlMessageSend_idle (n : Lane) (s : State) (hc : (s.lane n.val).ctl = []) (hs : (s.lane n.val).sending = []) :
    exec (.controlMessageSend n) s = .next (s.idleAt n.val 2) := by
  have hnone : nextCtl [] = none := by decide
  show execControlMessageSend n s = _
  simp only [execControlMessageSend, hc, hs, List.filter_nil, hnone]

/-! ### Receiving (07 R204, R210, R213) -/

theorem State.beatIn_fields (s : State) (n : Nat) : ∃ k, (s.beatIn n).lane n = { s.lane n with uncRow := k } := by
  unfold State.beatIn State.goodCodeword
  split
  · exact ⟨0, s.lane_setLane_self ..⟩
  · exact ⟨_, rfl⟩

theorem State.beatIn_up (s : State) (n : Nat) (h : s.get LNK_STAT_STATE n = 6) : s.beatIn n = s.goodCodeword n := if_pos ((s.laneUp_iff n).mpr h)

theorem State.lane_goodCodeword (s : State) (n : Nat) : (s.goodCodeword n).lane n = { s.lane n with uncRow := 0 } := s.lane_setLane_self ..

@[simp] theorem State.get_beatIn (s : State) (n : Nat) (f : Field) (i : Nat) : (s.beatIn n).get f i = s.get f i :=
  (s.beatIn_keeps n).regs f i List.not_mem_nil

theorem State.tb16_beatIn (s : State) (n sub : Nat) : (s.beatIn n).tb16 sub = s.tb16 sub := by
  rw [State.tb16, ((s.beatIn_keeps n).tb rfl).1, State.tb16]

theorem exec_timestampPeriod_due (n : Lane) (s : State) (hup : s.get LNK_STAT_STATE n.val = 6)
    (hdue : (s.lane n.val).lastTs / 16 + s.get LNK_CTL_TSPER n.val * 4096 ≤ s.tb) (hnone : ∀ m ∈ (s.lane n.val).ctl, m.ctype ≠ 2) :
    exec (.timestampPeriod n) s = .next (s.pushCtl n.val ⟨2, []⟩) :=
  if_pos ⟨(s.laneUp_iff _).mpr hup, hdue, by simpa using hnone⟩

theorem exec_tsreq_framed (n : Lane) (t1 : Word) (sub : Fin 16) (s : State) (h : 4 ≤ s.get LNK_STAT_STATE n.val ∧ s.get LNK_STAT_STATE n.val ≤ 6) :
    exec (.tsreq n t1 sub) s = .next ((s.beatIn n.val).pushCtl n.val ⟨3, [t1.toNat, s.tb16 sub.val]⟩) := if_pos h

/-- A TSRSP with the timestamp that is outstanding is taken; what it makes of the lane depends on the state (07 R204). -/
theorem exec_tsrsp_answer (n : Lane) (t1 t2 t3 : Word) (sub : Fin 16) (s : State) (hout : (s.lane n.val).tsOut = true)
    (hts : (s.lane n.val).lastTs = t1.toNat) :
    exec (.tsrsp n t1 t2 t3 sub) s =
      if s.get LNK_STAT_STATE n.val = 4 then
        .next ((s.beatIn n.val).measured n.val (tripLat t1.toNat t2.toNat t3.toNat (s.tb16 sub.val))
          (tripOffset t1.toNat t2.toNat t3.toNat (s.tb16 sub.val)))
      else if s.get LNK_STAT_STATE n.val = 6 then
        .next (((s.beatIn n.val).setLane n.val { (s.beatIn n.val).lane n.val with tsOut := false }).set LNK_LAT_OFFSET n.val
          (wrap (openDiv (tripOffset t1.toNat t2.toNat t3.toNat (s.tb16 sub.val)) 2) 24))
      else .next (s.beatIn n.val) := by
  obtain ⟨k, hk⟩ := s.beatIn_fields n.val
  have hlate : (!((s.beatIn n.val).lane n.val).tsOut || decide (((s.beatIn n.val).lane n.val).lastTs ≠ t1.toNat)) = false := by
    simp [hk, hout, hts]
  show execTsrsp n t1 t2 t3 sub s = _
  simp only [execTsrsp, hlate, Bool.false_eq_true, if_false, State.laneUp_iff, State.get_beatIn, State.tb16_beatIn]

theorem wrap_lt (z : Int) (w : Nat) : wrap z w < 2 ^ w := by
  have hpos : (0 : Int) < 2 ^ w := by positivity
  have hlt : z % 2 ^ w < 2 ^ w := Int.emod_lt_of_pos z hpos
  unfold wrap
  exact_mod_cast (Int.toNat_lt (Int.emod_nonneg z hpos.ne')).mpr (by exact_mod_cast hlt)

theorem State.measured_keeps (s : State) (n : Nat) (lat off : Int) : Keeps { lanes := true } s (s.measured n lat off) := by
  unfold State.measured
  exact .ite ((s.setLane_keeps ..).trans (State.pushCtl_keeps ..)) (s.setLane_keeps ..)

theorem State.lane_measured (s : State) (n : Nat) (lat off : Int) : ((s.measured n lat off).lane n).measN = (s.lane n).measN + 1 ∧
    ((s.measured n lat off).lane n).measLat = (s.lane n).measLat + lat := by
  simp only [State.measured]
  split <;> simp

/-- The pairs that a lane may send once CREDIT c has come (07 R213). -/
def LaneSt.credited (l : LaneSt) (c : Nat) : LaneSt :=
  { l with uncRow := 0, cred := (List.range 4).map (fun k => min 255 (l.cred.getD k 0 + byteOf c k)) }

theorem exec_credit_up (n : Lane) (c : BitVec 32) (s : State) (hup : s.get LNK_STAT_STATE n.val = 6) :
    exec (.credit n c) s = .next ((s.goodCodeword n.val).setLane n.val ((s.lane n.val).credited c.toNat)) := by
  show execCredit n c s = _
  simp only [execCredit, (s.laneUp_iff _).mpr hup, if_true, s.beatIn_up _ hup, s.lane_goodCodeword]
  rfl

theorem byteOf_eq (c k : Nat) : byteOf c k = c / 2 ^ (8 * k) % 256 := by
  rw [byteOf, Nat.pow_mul]

theorem LaneSt.cred_credited (l : LaneSt) (c : Nat) (k : Fin 4) :
    (l.credited c).cred.getD k.val 0 = min 255 (l.cred.getD k.val 0 + c / 2 ^ (8 * k.val) % 256) := by
  simp [LaneSt.credited, byteOf_eq, List.getD_eq_getElem?_getD, k.isLt]

/-- A lane that has received a PSTAT of these 64 bits (07 R210). -/
def State.partnerSays (s : State) (n w : Nat) : State :=
  (s.goodCodeword n).setLane n { s.lane n with uncRow := 0, partnerMode := bits w 2 0, partnerArmed := bit w 4 }

theorem exec_pstat_up (n : Lane) (w : Word) (s : State) (hup : s.get LNK_STAT_STATE n.val = 6) :
    exec (.pstat n w) s =
      .next (if w.getLsbD 3 = true then (s.partnerSays n.val w.toNat).leaveUp n.val else s.partnerSays n.val w.toNat) := by
  show execPstat n w s = _
  simp only [execPstat, (s.laneUp_iff _).mpr hup, if_true, s.beatIn_up _ hup, s.lane_goodCodeword, bit_toNat]
  rw [State.partnerSays, bit_toNat]

theorem State.laneFramed_iff (s : State) (n : Nat) : s.laneFramed n = true ↔ 4 ≤ s.get LNK_STAT_STATE n ∧ s.get LNK_STAT_STATE n ≤ 6 := by
  simp [State.laneFramed]

theorem exec_reservedCtype_framed (n : Lane) (ctype kind : BitVec 4) (s : State)
    (h : 4 ≤ s.get LNK_STAT_STATE n.val ∧ s.get LNK_STAT_STATE n.val ≤ 6) (hr : 0xA ≤ ctype.toNat ∨ (ctype.toNat = 7 ∧ 0xC ≤ kind.toNat)) :
    exec (.reservedCtype n ctype kind) s = .next ((s.beatIn n.val).laneFlag LNK_STAT_CTLUNK n.val) :=
  if_pos ⟨(s.laneFramed_iff _).mpr h, hr⟩

theorem exec_beatKindMismatch_framed (n : Lane) (s : State) (h : 4 ≤ s.get LNK_STAT_STATE n.val ∧ s.get LNK_STAT_STATE n.val ≤ 6) :
    exec (.beatKindMismatch n) s = .next ((s.beatIn n.val).laneFlag LNK_STAT_CALERR n.val) :=
  if_pos ((s.laneFramed_iff _).mpr h)

/-- What a received beat flags: the writes of the flag and the row of uncorrectable codewords. -/
theorem State.laneFlag_beatIn_keeps (s : State) (f : Field) (n : Nat) (hf : f.bank = .lnk) : Keeps laneWrites s ((s.beatIn n).laneFlag f n) :=
  (s.beatIn_keeps n).mono.andThen (State.laneFlag_keeps_links _ _ _ hf)

/-- Settles O14. Each command is the lane's record and the beats that leave with it (`sendAt_cases`); a received beat touches the row of uncorrectable
codewords alone before it acts. -/
theorem laneMessages : Obligations.LaneMessages := by
  unfold Obligations.LaneMessages
  refine ⟨?controlMessageSend, ?controlMessageNextBeat, ?beatPosition, ?controlMessageSendIdle, ?controlMessageSendNone, ?timestampPeriod, ?tsreq,
    ?tsrspUp, ?tsrspMeasure, ?credit, ?pstat, ?pstatRetrain, ?reservedCtype, ?beatKindMismatch⟩
  case controlMessageSend =>
    intro n m s hup hs hm hpos
    have hrec := (s.lane n.val).begins_fields m (controlBeats m.ctype (s.ctlBeats m)) (s.tb16 0)
    generalize hx : (s.lane n.val).begins m (controlBeats m.ctype (s.ctlBeats m)) (s.tb16 0) = x at hrec
    obtain ⟨hsending, hctl, hcal, hts⟩ := hrec
    have hexec := exec_controlMessageSend_begins n m s hup hs hm
    rw [hx] at hexec
    have hcal' : ((s.setLane n.val x).lane n.val).calInForce = (s.lane n.val).calInForce := by rw [State.lane_setLane_self, hcal]
    obtain ⟨sf, b, hb⟩ := (s.setLane n.val x).beat_sendAt n.val 2 ((controlBeats m.ctype (s.ctlBeats m)).headD idleBeat)
      ((State.hasPosition_congr hcal' 2).trans hpos)
    obtain ⟨sf', p, hlane⟩ := (s.setLane n.val x).lane_sendAt n.val 2 ((controlBeats m.ctype (s.ctlBeats m)).headD idleBeat)
    rw [State.lane_setLane_self] at hlane
    refine ⟨_, sf, b, hexec, hb, ?_⟩
    rw [hlane]
    exact ⟨hsending, hctl, hts, (s.setLane_keeps ..).mono.trans (State.sendAt_keeps ..)⟩
  case controlMessageNextBeat =>
    intro n w rest s hs hpos hstate
    have hexec := exec_controlMessageSend_goesOn n w rest s hs
    have hk := (s.setLane_keeps n.val { s.lane n.val with sending := rest }).mono.trans (State.sendAt_keeps _ n.val 2 w)
    rw [State.identDone_of_state _ _ (by rwa [hk.regs _ _ (by decide)])] at hexec
    obtain ⟨sf, b, hb⟩ := (s.setLane n.val { s.lane n.val with sending := rest }).beat_sendAt n.val 2 w
      ((State.hasPosition_congr (by rw [State.lane_setLane_self]) 2).trans hpos)
    obtain ⟨sf', p, hlane⟩ := (s.setLane n.val { s.lane n.val with sending := rest }).lane_sendAt n.val 2 w
    refine ⟨_, sf, b, hexec, hb, ?_⟩
    rw [hlane, State.lane_setLane_self]
    exact ⟨rfl, rfl, hk⟩
  case beatPosition => exact fun n kind w s h => s.out_sendAt n kind w h
  case controlMessageSendIdle =>
    intro n s hc hs h3 h6 hpos
    have hexec := exec_controlMessageSend_idle n s hc hs
    rw [s.idleAt_training _ _ ⟨h3, h6⟩] at hexec
    obtain ⟨sf, b, hb⟩ := s.beat_sendAt n.val 2 idleBeat hpos
    exact ⟨_, sf, b, hexec, hb, s.sendAt_keeps ..⟩
  case controlMessageSendNone =>
    intro n s hc hs hstate
    rw [exec_controlMessageSend_idle n s hc hs, s.idleAt_silent _ _ hstate]
  case timestampPeriod => exact fun n s hup hdue hnone => exec_timestampPeriod_due n s hup hdue hnone
  case tsreq =>
    intro n t1 sub s h4 h6
    obtain ⟨k, hk⟩ := s.beatIn_fields n.val
    refine ⟨_, exec_tsreq_framed n t1 sub s ⟨h4, h6⟩, ?_, (s.beatIn_keeps _).trans (State.pushCtl_keeps ..)⟩
    rw [State.lane_pushCtl_self, hk]
  case tsrspUp =>
    intro n t1 t2 t3 sub s hout hts hup
    have hexec := exec_tsrsp_answer n t1 t2 t3 sub s hout hts
    rw [if_neg (by rw [hup]; decide), if_pos hup] at hexec
    refine ⟨_, hexec, (State.get_set_self ..).trans (Nat.mod_eq_of_lt (wrap_lt ..)), ?_, ?_,
      (s.beatIn_keeps _).mono.andThen (State.setLane_keeps ..) |>.andThen (State.set_keeps ..)⟩
    · rw [State.lane_set, State.lane_setLane_self]
    · rw [State.get_set_field _ _ _ _ _ _ (by decide), State.get_setLane, State.get_beatIn]
  case tsrspMeasure =>
    intro n t1 t2 t3 sub s hout hts hstate
    have hexec := exec_tsrsp_answer n t1 t2 t3 sub s hout hts
    rw [if_pos hstate] at hexec
    obtain ⟨k, hk⟩ := s.beatIn_fields n.val
    have hlane := (s.beatIn n.val).lane_measured n.val (tripLat t1.toNat t2.toNat t3.toNat (s.tb16 sub.val))
      (tripOffset t1.toNat t2.toNat t3.toNat (s.tb16 sub.val))
    rw [hk] at hlane
    exact ⟨_, hexec, hlane.1, hlane.2, (s.beatIn_keeps _).trans (State.measured_keeps ..)⟩
  case credit =>
    intro n c k s hup
    refine ⟨_, exec_credit_up n c s hup, ?_, ?_, (s.setLane_keeps ..).trans (State.setLane_keeps ..)⟩
    · rw [State.lane_setLane_self, LaneSt.cred_credited]
    · rw [State.lane_setLane_self, LaneSt.credited]
  case pstat =>
    intro n w s hup hretrain
    have hexec := exec_pstat_up n w s hup
    rw [if_neg (by rw [hretrain]; decide)] at hexec
    refine ⟨_, hexec, ?_, ?_, (s.setLane_keeps ..).trans (State.setLane_keeps ..)⟩
    · simp [State.partnerSays, bits]
    · simp [State.partnerSays, bit_toNat]
  case pstatRetrain =>
    intro n w s hup hretrain
    have hexec := exec_pstat_up n w s hup
    rw [if_pos hretrain] at hexec
    have hleft := (s.partnerSays n.val w.toNat).leaveUp_left n.val
    exact ⟨_, hexec, hleft.state, hleft.ready⟩
  case reservedCtype =>
    intro n ctype kind s h4 h6 hr
    exact ⟨_, exec_reservedCtype_framed n ctype kind s ⟨h4, h6⟩ hr, State.flag_laneFlag .., s.laneFlag_beatIn_keeps _ _ rfl⟩
  case beatKindMismatch =>
    intro n s h4 h6
    exact ⟨_, exec_beatKindMismatch_framed n s ⟨h4, h6⟩, State.flag_laneFlag .., s.laneFlag_beatIn_keeps _ _ rfl⟩

end Sys2Proof.Machine
end

section
/-! SUPPORT. The lane maps of a tile (07 R218, R219), and the statement about them. -/

namespace Sys2Proof.Machine

set_option Elab.async false

/-! ### Commit (07 R216, R219) -/

theorem State.laneMap_raise (s : State) (f : Field) (i g : Nat) : (s.raise f i).laneMap g = s.laneMap g := rfl

/-- The shadow entry of logical lane g becomes live. -/
def State.takeShadow (s : State) (g : Nat) : State := { s with liveLanes := sput s.liveLanes g (s.laneShadow g) (g % 64) }

/-- The physical lane that the live map gives logical lane g of tile t is free of its bar. -/
def State.freeLane (s : State) (t g : Nat) : State :=
  s.setLane (64 * t + s.laneMap g % 64) { s.lane (64 * t + s.laneMap g % 64) with barred := false }

/-- The logical lanes of a tile. -/
def lanesOf (t : Nat) : List Nat := (List.range 64).map (64 * t + ·)

theorem mem_lanesOf (t g : Nat) : g ∈ lanesOf t ↔ g / 64 = t := by
  simp only [lanesOf, List.mem_map, List.mem_range]
  exact ⟨fun ⟨l, hl, hg⟩ => by omega, fun h => ⟨g % 64, by omega, by omega⟩⟩

theorem State.laneLive_eq (s : State) (t : Nat) :
    s.laneLive t = (lanesOf t).foldl (fun s g => s.freeLane t g) ((lanesOf t).foldl State.takeShadow s) := rfl

theorem State.takeShadow_keeps (s : State) (g : Nat) : Keeps { liveLanes := true } s (s.takeShadow g) :=
  { Keeps.refl _ s with liveLanes := nofun }

theorem State.laneShadow_takeShadow (s : State) (g h : Nat) : (s.takeShadow g).laneShadow h = s.laneShadow h := rfl

theorem State.laneMap_takeShadow (s : State) (g h : Nat) : (s.takeShadow g).laneMap h = if h = g then s.laneShadow g else s.laneMap h := by
  split
  next heq =>
    subst heq
    exact (sget_sput ..).trans (if_pos rfl)
  next hne => exact sget_sput_ne _ _ _ _ _ _ hne

theorem State.laneMap_takeShadows (l : List Nat) (s : State) (h : Nat) :
    (l.foldl State.takeShadow s).laneMap h = if h ∈ l then s.laneShadow h else s.laneMap h := by
  induction l generalizing s with
  | nil => rfl
  | cons g t ih =>
    rw [List.foldl_cons, ih, State.laneShadow_takeShadow, State.laneMap_takeShadow]
    by_cases hg : h = g
    · subst hg
      simp
    · simp [hg]

theorem State.laneLive_keeps (s : State) (t : Nat) : Keeps { lanes := true, liveLanes := true } s (s.laneLive t) := by
  rw [State.laneLive_eq]
  exact (Keeps.foldl State.takeShadow_keeps _ s).mono.trans (.foldl (fun s _ => (s.setLane_keeps ..).mono) _ _)

theorem State.laneMap_laneLive (s : State) (t g : Nat) : (s.laneLive t).laneMap g = if g / 64 = t then s.laneShadow g else s.laneMap g := by
  have hfreed (u : State) : Keeps { lanes := true } u ((lanesOf t).foldl (fun s g => s.freeLane t g) u) := .foldl (fun s _ => s.setLane_keeps ..) _ u
  have hmap (u : State) : ((lanesOf t).foldl (fun s g => s.freeLane t g) u).laneMap g = u.laneMap g :=
    congrArg (sget · g (g % 64)) ((hfreed u).liveLanes rfl)
  rw [State.laneLive_eq, hmap, State.laneMap_takeShadows]
  simp only [mem_lanesOf]

/-- A failing check has a code from 1 to 5 and names a logical lane of the tile (07 R219). -/
theorem State.laneCommitError_bounds (s : State) (t c l : Nat) (h : s.laneCommitError t = some (c, l)) : c ≤ 5 ∧ l < 64 := by
  have hfound {p : Nat → Bool} {l : Nat} (h : (List.range 64).find? p = some l) : l < 64 := List.mem_range.mp (List.mem_of_find?_eq_some h)
  unfold State.laneCommitError State.firstLane at h
  extract_lets phys at h
  split at h
  next => cases h; decide
  next =>
    split at h
    next hl => cases h; exact ⟨by decide, hfound hl⟩
    next =>
      split at h
      next hl => cases h; exact ⟨by decide, hfound hl⟩
      next =>
        split at h
        next hl => cases h; exact ⟨by decide, hfound hl⟩
        next =>
          split at h
          next hl => cases h; exact ⟨by decide, hfound hl⟩
          next => cases h

theorem State.laneCommit_legal (s : State) (t : Nat) (hbusy : s.flag LNK_REMAP_CTL_BUSY t = false) (h : s.laneCommitError t = none) :
    s.laneCommit t = (s.laneLive t).raise LNK_REMAP_CTL_BUSY t := by
  simp [State.laneCommit, hbusy, h]

theorem State.laneCommit_illegal (s : State) (t c l : Nat) (hbusy : s.flag LNK_REMAP_CTL_BUSY t = false) (h : s.laneCommitError t = some (c, l)) :
    s.laneCommit t = ((s.raise LNK_REMAP_CTL_ERR t).set LNK_REMAP_CTL_ERRCODE t c).set LNK_REMAP_CTL_ERRL t l := by
  simp [State.laneCommit, hbusy, h]

/-! ### Revert (07 R219) -/

/-- The live entry of logical lane g becomes its shadow entry. -/
def State.takeLive (s : State) (g : Nat) : State := (s.set LNK_REMAP_PHYS g (s.laneMap g % 64)).set LNK_REMAP_USED g (s.laneMap g / 256)

theorem State.laneRevert_idle (s : State) (t : Nat) (hbusy : s.flag LNK_REMAP_CTL_BUSY t = false) :
    s.laneRevert t = (lanesOf t).foldl State.takeLive s := if_neg (by simp [hbusy])

theorem State.takeLive_keeps (s : State) (g : Nat) : Keeps { regs := [.lnk] } s (s.takeLive g) := (s.set_keeps ..).mono.andThen (State.set_keeps ..)

theorem State.laneMap_takeLive (s : State) (g h : Nat) : (s.takeLive g).laneMap h = s.laneMap h := rfl

theorem State.laneShadow_takeLive_self (s : State) (g : Nat) (h : s.laneMap g < 512) :
    (s.takeLive g).laneShadow g = s.laneMap g % 64 + 256 * (s.laneMap g / 256) := by
  have hphys : (s.takeLive g).get LNK_REMAP_PHYS g = s.laneMap g % 64 % 64 :=
    (State.get_set_field _ _ _ _ _ _ (by decide)).trans (State.get_set_self ..)
  have hused : (s.takeLive g).get LNK_REMAP_USED g = s.laneMap g / 256 % 2 := State.get_set_self ..
  rw [State.laneShadow, hphys, hused]
  omega

theorem State.laneShadow_takeLive_ne (s : State) (g h : Nat) (hne : h ≠ g) : (s.takeLive g).laneShadow h = s.laneShadow h := by
  have hphys : (s.takeLive g).get LNK_REMAP_PHYS h = s.get LNK_REMAP_PHYS h :=
    (State.get_set_field _ _ _ _ _ _ (by decide)).trans (s.get_set_index _ _ _ _ hne)
  have hused : (s.takeLive g).get LNK_REMAP_USED h = s.get LNK_REMAP_USED h :=
    (State.get_set_index _ _ _ _ _ hne).trans (s.get_set_field _ _ _ _ _ (by decide))
  rw [State.laneShadow, hphys, hused, State.laneShadow]

theorem State.laneShadow_takeLives (l : List Nat) (s : State) (h : Nat) (hlive : s.laneMap h < 512) :
    (l.foldl State.takeLive s).laneShadow h = if h ∈ l then s.laneMap h % 64 + 256 * (s.laneMap h / 256) else s.laneShadow h := by
  induction l generalizing s with
  | nil => rfl
  | cons g t ih =>
    rw [List.foldl_cons, ih (s.takeLive g) hlive, State.laneMap_takeLive]
    by_cases hg : h = g
    · subst hg
      rw [s.laneShadow_takeLive_self _ hlive]
      simp
    · simp [hg, s.laneShadow_takeLive_ne _ _ hg]

/-- Settles O16. A commit and a revert are folds over the logical lanes of the tile, of which each entry is written from the other map alone. -/
theorem laneMaps : Obligations.LaneMaps := by
  unfold Obligations.LaneMaps
  refine ⟨?laneRemapCommit, ?laneRemapCommitRefused, ?laneRemapRevert⟩
  case laneRemapCommit =>
    intro tl l s hon hbusy hlegal
    have hexec : exec (.laneRemapCommit tl) s = .next (s.laneCommit tl.val) := if_pos hon
    rw [s.laneCommit_legal _ hbusy hlegal] at hexec
    refine ⟨_, hexec, ?_, State.flag_raise_self _ _ _ (by decide), fun g hg => ?_, (s.laneLive_keeps _).mono.andThen (State.raise_keeps ..)⟩
    · rw [State.laneMap_raise, State.laneMap_laneLive, if_pos (by omega)]
    · rw [State.laneMap_raise, State.laneMap_laneLive, if_neg hg]
  case laneRemapCommitRefused =>
    intro tl c l s hon hbusy hillegal
    have hexec : exec (.laneRemapCommit tl) s = .next (s.laneCommit tl.val) := if_pos hon
    rw [s.laneCommit_illegal _ c l hbusy hillegal] at hexec
    obtain ⟨hc, hl⟩ := s.laneCommitError_bounds _ _ _ hillegal
    refine ⟨_, hexec, ?_, ?_, ?_, (s.raise_keeps ..).mono.andThen (State.set_keeps ..) |>.andThen (State.set_keeps ..)⟩
    · rw [State.flag_set_field _ _ _ _ _ _ (by decide), State.flag_set_field _ _ _ _ _ _ (by decide), s.flag_raise_self _ _ (by decide)]
    · rw [State.get_set_field _ _ _ _ _ _ (by decide), State.get_set_self]
      exact Nat.mod_eq_of_lt (by show c < 8; omega)
    · rw [State.get_set_self]
      exact Nat.mod_eq_of_lt hl
  case laneRemapRevert =>
    intro tl l s hon hbusy hlive
    have hexec : exec (.laneRemapRevert tl) s = .next (s.laneRevert tl.val) := if_pos hon
    rw [s.laneRevert_idle _ hbusy] at hexec
    have hmem : 64 * tl.val + l.val ∈ lanesOf tl.val := (mem_lanesOf ..).mpr (by omega)
    exact ⟨_, hexec, (State.laneShadow_takeLives _ s _ hlive).trans (if_pos hmem), .foldl State.takeLive_keeps _ s⟩

end Sys2Proof.Machine
end

section
/-! SUPPORT. The training commands of a lane (07 R203, R204, R206), and the statement about them. -/

namespace Sys2Proof.Machine

set_option Elab.async false

/-! ### Enabling and retraining (07 R203, R211) -/

theorem State.write1_keeps (s : State) (f : Field) (i : Nat) : Keeps { regs := [f.bank] } s (s.write1 f i) := { s.set_keeps f i 1 with }

theorem State.write1_sameLinks (s : State) (f : Field) (i : Nat) : s.SameLinks [f] (s.write1 f i) := ⟨(s.set_sameLinks f i 1).get⟩

theorem State.flag_write1_self (s : State) (f : Field) (i : Nat) (h : 0 < f.width) : (s.write1 f i).flag f i = true := s.flag_raise_self f i h

theorem State.flag_write0_self (s : State) (f : Field) (i : Nat) (h : s.cycle.fresh f i = 0) : (s.write0 f i).flag f i = false := by
  rw [State.flag, State.write0, State.get_set_self, h]
  simp

theorem exec_laneEnable_on (n : Lane) (s : State) (hon : s.laneOn n.val = true) (hoff : s.get LNK_STAT_STATE n.val = 0) :
    exec (.laneEnable n true) s = .next (((s.write1 LNK_CTL_EN n.val).restartLane n.val).goDetect n.val) := by
  show execLaneEnable n true s = _
  simp only [execLaneEnable, hon, if_true, State.laneEnable, hoff]

theorem exec_laneEnable_off (n : Lane) (s : State) (hon : s.laneOn n.val = true) :
    exec (.laneEnable n false) s =
      .next ((((s.write0 LNK_CTL_EN n.val).leaveIfUp n.val).goDetect n.val).setLaneState n.val 0) := if_pos hon

theorem State.leaveIfUp_sameLinks (s : State) (n : Nat) :
    s.SameLinks [LNK_STAT_CHG, LNK_STAT_STATE, LNK_PINFO_KIND, LNK_STAT_READY, LNK_STAT_CHG, LNK_STAT_LOSS] (s.leaveIfUp n) :=
  .ite (s.leaveUp_left n).links (.refl _ s)

theorem exec_retrain_down (n : Lane) (s : State) (hon : s.laneOn n.val = true) (h0 : s.get LNK_STAT_STATE n.val ≠ 0)
    (h6 : s.get LNK_STAT_STATE n.val ≠ 6) : exec (.retrain n) s = .next ((s.restartLane n.val).goDetect n.val) := by
  show execRetrain n s = _
  simp only [execRetrain, hon, if_true, State.retrain, h0, if_false, s.laneUp_eq_false _ h6, Bool.false_eq_true, s.leaveIfUp_not_up _ h6]

theorem State.lastWords_keeps (s : State) (n : Nat) : Keeps { lanes := true, out := true } s (s.lastWords n) :=
  .foldl (fun s w => s.sendAt_keeps n 2 w) _ s

/-- What a lane sends before a RETRAIN takes it out of UP: the message in progress, and its PSTAT with RETRAIN = 1. -/
theorem State.beats_lastWords (s : State) (n : Nat) (h : s.hasPosition n 2 = true) :
    (∃ sf b, OutMsg.beat n sf b ((controlBeats 6 (s.pstat true).beats).headD idleBeat) ∈ (s.lastWords n).out) ∧
    (∀ w ∈ (s.lane n).sending, ∃ sf b, OutMsg.beat n sf b w ∈ (s.lastWords n).out) := by
  have hsent := State.beats_sendAt n 2 ((s.lane n).sending ++ (((ctlOrder.takeWhile (· ≠ 6)) ++ [6]).flatMap
    (fun k => (s.lane n).ctl.filter (·.ctype == k)) ++ [s.pstat true]).flatMap (fun m => controlBeats m.ctype (s.ctlBeats m))) s h
  refine ⟨hsent _ (List.mem_append_right _ (List.mem_flatMap.mpr ⟨s.pstat true, ?_, ?_⟩)), fun w hw => hsent w (List.mem_append_left _ hw)⟩
  · exact List.mem_append_right _ (List.mem_singleton.mpr rfl)
  · exact List.mem_singleton.mpr rfl

theorem exec_retrain_up (n : Lane) (s : State) (hon : s.laneOn n.val = true) (h6 : s.get LNK_STAT_STATE n.val = 6) :
    exec (.retrain n) s = .next ((((s.lastWords n.val).leaveUp n.val).restartLane n.val).goDetect n.val) := by
  have hup : (s.lastWords n.val).get LNK_STAT_STATE n.val = 6 := ((s.lastWords_keeps _).regs _ _ (by decide)).trans h6
  have h0 : s.get LNK_STAT_STATE n.val ≠ 0 := by rw [h6]; decide
  show execRetrain n s = _
  simp only [execRetrain, hon, if_true, State.retrain, h0, if_false, (s.laneUp_iff _).mpr h6, State.leaveIfUp_up _ _ hup]

/-! ### Signal, lock and time limits (07 R193, R203) -/

theorem exec_trainingAdapted_training (n : Lane) (s : State) (h : s.get LNK_STAT_STATE n.val = 2) :
    exec (.trainingAdapted n) s = .next ((s.setLaneState n.val 3).sendSync n.val 0) := if_pos h

theorem exec_syncReceived_locking (n : Lane) (sf : BitVec 32) (calid : Byte) (s : State) (h : s.get LNK_STAT_STATE n.val = 3) :
    exec (.syncReceived n sf calid) s = .next ((s.goodCodeword n.val).syncInLock n.val calid.toNat) := if_pos h

theorem State.syncInLock_wrong (s : State) (n calid : Nat) (h : calid ≠ calId (s.lane n).calInForce) :
    s.syncInLock n calid = (s.laneFlag LNK_STAT_CALERR n).failAttempt n 6 := if_pos h

theorem State.syncInLock_fourth (s : State) (n calid : Nat) (h : calid = calId (s.lane n).calInForce) (hrow : (s.lane n).syncRow = 3) :
    s.syncInLock n calid = (s.setLane n { s.lane n with syncRow := (s.lane n).syncRow + 1 }).beginMeasure n := by
  simp only [State.syncInLock, h, ne_eq, not_true_eq_false, if_false, hrow]
  rfl

theorem State.beginMeasure_keeps (s : State) (n : Nat) : Keeps { regs := [.lnk], lanes := true } s (s.beginMeasure n) :=
  (s.setLane_keeps ..).mono.andThen (State.set_keeps ..) |>.andThen (State.pushCtl_keeps ..)

theorem State.lane_beginMeasure (s : State) (n : Nat) :
    (s.beginMeasure n).lane n =
      { s.lane n with measN := 0, measLat := 0, measOff := 0, tsOut := false, ctl := (s.lane n).ctl ++ [⟨2, []⟩] } := by
  rw [State.beginMeasure, State.lane_pushCtl_self, State.setLaneState, State.lane_set, State.lane_setLane_self]

theorem State.state_beginMeasure (s : State) (n : Nat) : (s.beginMeasure n).get LNK_STAT_STATE n = 4 := by
  rw [State.beginMeasure, State.get_pushCtl]
  exact State.get_setLaneState _ _ _ (by decide)

theorem State.noteAttempt_sameLinks (s : State) (n cause a : Nat) : s.SameLinks [LNK_STAT_FAILCAUSE] (s.noteAttempt n cause a) :=
  (s.set_sameLinks ..).trans (State.setLane_keeps ..).sameLinks

/-- An attempt that fails short of the third in a row leaves the lane's other flags. -/
theorem State.failAttempt_sameLinks (s : State) (n cause : Nat) (h : (s.lane n).attempts < 2) :
    s.SameLinks [LNK_STAT_FAILCAUSE, LNK_STAT_CHG, LNK_STAT_STATE, LNK_PINFO_KIND] (s.failAttempt n cause) := by
  rw [s.failAttempt_again n cause h]
  exact (s.noteAttempt_sameLinks ..).trans (State.goDetect_sameLinks ..)

theorem State.trainLimit_fails (s : State) (n st cause : Nat) (h : s.get LNK_STAT_STATE n = st) (hc : cause < 16) :
    s.FailsAttempt (s.trainLimit n st cause) n cause := by
  rw [State.trainLimit, if_pos h]
  exact s.failAttempt_fails n cause hc

/-! ### The class of a lane that has measured (07 R204, R205, R217) -/

theorem State.SameLinks.foldl {α : Type} {l : List Field} {f : State → α → State} (hf : ∀ s x, State.SameLinks l s (f s x)) (m : List α)
    (s : State) : s.SameLinks l (m.foldl f s) := by
  induction m generalizing s with
  | nil => exact .refl _ s
  | cons x t ih => exact ⟨fun g j hg hl => ((ih _).get g j hg hl).trans ((hf s x).get g j hg hl)⟩

theorem State.setClass_keeps (s : State) (n k : Nat) : Keeps laneWrites s (s.setClass n k) :=
  .ite (.refl _ s) ((s.set_keeps ..).mono.trans (State.noteChange_keeps ..))

theorem State.setClass_sameLinks (s : State) (n k : Nat) : s.SameLinks [LNK_LAT_CLASS, LNK_STAT_CHG] (s.setClass n k) :=
  .ite (.refl _ s) ((s.set_sameLinks ..).trans (State.noteChange_sameLinks ..))

theorem State.padClass_keeps (s : State) (n k : Nat) : Keeps laneWrites s (s.padClass n k) := by
  have hset (u : State) (m b : Nat) := u.setClass_keeps m b
  exact .ite (.ite (hset ..) (.ite (hset ..) ((hset ..).andThen (State.laneFlag_keeps_links _ _ _ rfl))))
    ((Keeps.foldl (fun s _ => (s.setLane_keeps ..).mono) _ s).trans (.foldl (fun s _ => hset ..) _ _))

theorem State.padClass_sameLinks (s : State) (n k : Nat) : s.SameLinks [LNK_LAT_CLASS, LNK_STAT_CHG, LNK_STAT_CLASSUP] (s.padClass n k) := by
  have hset (u : State) (m b : Nat) : u.SameLinks [LNK_LAT_CLASS, LNK_STAT_CHG, LNK_STAT_CLASSUP] (u.setClass m b) :=
    (u.setClass_sameLinks m b).append _
  have hnoted (f : State → Nat → LaneSt) (l : List Nat) : s.SameLinks [] (l.foldl (fun s m => s.setLane m (f s m)) s) :=
    .foldl (fun s _ => (s.setLane_keeps ..).sameLinks) l s
  exact .ite (.ite (hset ..) (.ite (hset ..) ((s.setClass_sameLinks ..).trans (State.laneFlag_sameLinks ..))))
    ((hnoted _ _).trans (.foldl (fun s _ => hset ..) _ _))

/-- A lane whose mean latency and offset have been computed (07 R204). -/
def State.meanTaken (s : State) (n : Nat) : State :=
  (s.set LNK_LAT_LAT n (openDiv (s.lane n).measLat 128).toNat).set LNK_LAT_OFFSET n (wrap (openDiv (s.lane n).measOff 128) 24)

/-- A lane that enters IDENT with class k (07 R203, R206). -/
def State.beginIdent (s : State) (n k : Nat) : State :=
  let u := (s.setLane n { s.lane n with ownClass := k }).padClass n k
  (u.setLaneState n 5).pushCtl n (u.ownIdent n)

theorem State.meanTaken_keeps (s : State) (n : Nat) : Keeps { regs := [.lnk] } s (s.meanTaken n) :=
  (s.set_keeps ..).mono.andThen (State.set_keeps ..)

theorem State.lat_meanTaken (s : State) (n : Nat) :
    (s.meanTaken n).get LNK_LAT_LAT n = (openDiv (s.lane n).measLat 128).toNat % 2 ^ LNK_LAT_LAT.width :=
  (State.get_set_field _ _ _ _ _ _ (by decide)).trans (s.get_set_self ..)

theorem State.classOf_meanTaken (s : State) (n lat : Nat) : (s.meanTaken n).classOf n lat = s.classOf n lat := by
  have hmin : (s.meanTaken n).get LNK_CTL_CLASSMIN n = s.get LNK_CTL_CLASSMIN n :=
    (State.get_set_field _ _ _ _ _ _ (by decide)).trans (s.get_set_field _ _ _ _ _ (by decide))
  have hclock : (s.meanTaken n).slowClock = s.slowClock := (s.meanTaken_keeps n).flag _ _ (by decide)
  rw [State.classOf, hmin, hclock, State.classOf]

theorem State.beginIdent_keeps (s : State) (n k : Nat) : Keeps laneWrites s (s.beginIdent n k) :=
  (s.setLane_keeps ..).mono.trans (State.padClass_keeps ..) |>.andThen (State.set_keeps ..) |>.andThen (State.pushCtl_keeps ..)

theorem State.beginIdent_sameLinks (s : State) (n k : Nat) :
    s.SameLinks [LNK_LAT_CLASS, LNK_STAT_CHG, LNK_STAT_CLASSUP, LNK_STAT_STATE] (s.beginIdent n k) :=
  (s.setLane_keeps ..).sameLinks.trans (State.padClass_sameLinks ..) |>.trans (State.set_sameLinks ..) |>.trans (State.pushCtl_keeps ..).sameLinks

theorem exec_measureDone_measured (n : Lane) (s : State) (h4 : s.get LNK_STAT_STATE n.val = 4) (h64 : 64 ≤ (s.lane n.val).measN)
    (hk : s.classOf n.val (openDiv (s.lane n.val).measLat 128).toNat ≤ 63) :
    exec (.measureDone n) s =
      .next ((s.meanTaken n.val).beginIdent n.val (s.classOf n.val (openDiv (s.lane n.val).measLat 128).toNat)) := by
  rw [← s.classOf_meanTaken] at hk ⊢
  exact (if_pos ⟨h4, h64⟩).trans (if_neg (Nat.not_lt.mpr hk))

/-! ### Identities (07 R206, R208, R213) -/

theorem State.cred_pushCtl (s : State) (n m : Nat) (c : Ctl) : ((s.pushCtl n c).lane m).cred = (s.lane m).cred := by
  by_cases h : m = n
  · subst h
    rw [State.lane_pushCtl_self]
  · exact congrArg LaneSt.cred (s.lane_setLane_ne _ _ _ h)

theorem State.cred_pushAll (l : List Nat) (c : Ctl) (s : State) (m : Nat) : ((s.pushAll l c).lane m).cred = (s.lane m).cred := by
  induction l generalizing s with
  | nil => rfl
  | cons n t ih => exact (ih (s.pushCtl n c)).trans (s.cred_pushCtl n m c)

/-- A module that is disarmed tells its partners; no lane's credits change. -/
theorem State.cred_disarm (s : State) (m : Nat) : (s.disarm.lane m).cred = (s.lane m).cred := by
  unfold State.disarm
  split
  · exact State.cred_pushAll ..
  · rfl

theorem State.cred_setReady (s : State) (f : Nat) (b : Bool) (m : Nat) : ((s.setReady f b).lane m).cred = (s.lane m).cred := by
  unfold State.setReady
  split
  · rfl
  extract_lets marked o sampled
  have hs : (sampled.lane m).cred = (s.lane m).cred := congrArg LaneSt.cred ((State.lecSample_keeps ..).lane rfl m)
  split
  · rw [(State.refuse_keeps ..).lane rfl, State.cred_disarm, hs]
  · exact hs

theorem State.cred_noteChange (s : State) (n : Nat) : ((s.noteChange n).lane n).cred = (s.lane n).cred := by rw [State.lane_noteChange]

theorem State.cred_setLaneReady (s : State) (n : Nat) (b : Bool) : ((s.setLaneReady n b).lane n).cred = (s.lane n).cred := by
  unfold State.setLaneReady
  split
  · rfl
  · rw [State.cred_noteChange, State.cred_setReady, State.lane_set]

/-- What the identity check writes of a lane: whether it is ready, and the mismatch (07 R208). -/
structure State.Checked (s t : State) (n : Nat) : Prop where
  links : s.SameLinks [LNK_STAT_READY, LNK_STAT_CHG, LNK_STAT_IDMISM] t
  cred : (t.lane n).cred = (s.lane n).cred
  sent : s.StaysSent t

theorem State.setLaneReady_checked (s : State) (n : Nat) (b : Bool) : s.Checked (s.setLaneReady n b) n where
  links := (s.setLaneReady_sameLinks n b).append _
  cred := s.cred_setLaneReady n b
  sent := (s.setLaneReady_keeps n b).staysSent

theorem State.identityCheck_checked (s : State) (n : Nat) : s.Checked (s.identityCheck n) n := by
  unfold State.identityCheck
  split
  · split
    · exact s.setLaneReady_checked ..
    · exact {
        links := (s.setLaneReady_sameLinks ..).trans (State.laneFlag_sameLinks ..)
        cred := by rw [State.lane_laneFlag, State.cred_setLaneReady]
        sent := (s.setLaneReady_keeps ..).staysSent.trans (State.laneFlag_keeps_links _ _ _ rfl).staysSent }
  · exact s.setLaneReady_checked ..

/-- A lane that reaches UP has full credits. -/
structure State.Reached (s t : State) (n : Nat) : Prop where
  state : t.get LNK_STAT_STATE n = 6
  cred : (t.lane n).cred = [64, 64, 64, 64]
  links : s.SameLinks [LNK_STAT_STATE, LNK_STAT_CHG, LNK_STAT_READY, LNK_STAT_CHG, LNK_STAT_IDMISM] t
  sent : s.StaysSent t

theorem State.reachUp_reached (s : State) (n : Nat) : s.Reached (s.reachUp n) n := by
  unfold State.reachUp
  extract_lets l up told live
  have hup : Keeps { regs := [.lnk], lanes := true } s up := (s.setLane_keeps ..).mono.andThen (State.set_keeps ..)
  have hlive : Keeps { lanes := true } up live := .ite ((up.pushCtl_keeps ..).trans (told.pushCtl_keeps ..)) (up.pushCtl_keeps ..)
  have hlinks : s.SameLinks [LNK_STAT_STATE] up := (s.setLane_keeps ..).sameLinks.trans (State.set_sameLinks ..)
  have hcred : (live.lane n).cred = [64, 64, 64, 64] := by
    have hset : (up.lane n).cred = [64, 64, 64, 64] := by simp [up, State.setLaneState]
    have htold : (told.lane n).cred = [64, 64, 64, 64] := (up.cred_pushCtl ..).trans hset
    simp only [live]
    split
    · exact (told.cred_pushCtl ..).trans htold
    · exact htold
  have hchecked := (live.noteChange n).identityCheck_checked n
  have hnoted := live.noteChange_sameLinks n
  exact {
    state := ((hnoted.trans hchecked.links).get _ _ rfl rfl).trans ((hlive.regs _ _ (by decide)).trans (State.get_setLaneState _ _ _ (by decide)))
    cred := hchecked.cred.trans ((live.cred_noteChange n).trans hcred)
    links := hlinks.trans hlive.sameLinks |>.trans hnoted |>.trans hchecked.links
    sent := hup.staysSent.trans hlive.staysSent |>.trans (live.noteChange_keeps n).staysSent |>.trans hchecked.sent }

/-- Nothing of the identity of lane n is still to be sent. -/
def State.identSent (s : State) (n : Nat) : Prop := (∀ m ∈ (s.lane n).ctl, m.ctype ≠ 4) ∧ (s.lane n).sending = []

theorem State.identDone_reaches (s : State) (n : Nat) (h5 : s.get LNK_STAT_STATE n = 5) (hin : (s.lane n).identIn = true) (hsent : s.identSent n) :
    s.identDone n = s.reachUp n := by
  obtain ⟨hctl, hsending⟩ := hsent
  exact if_pos (by simpa [h5, hin, hsending] using hctl)

theorem State.identDone_waits (s : State) (n : Nat) (h : ¬ s.identSent n) : s.identDone n = s := by
  refine if_neg fun hdone => h ?_
  simp only [Bool.and_eq_true, Bool.not_eq_true', List.any_eq_false, beq_iff_eq, List.isEmpty_iff] at hdone
  exact ⟨hdone.1.2, hdone.2⟩

theorem exec_identMsg_stored (n : Lane) (serial info placement : Word) (s : State)
    (h : s.get LNK_STAT_STATE n.val = 4 ∨ s.get LNK_STAT_STATE n.val = 5) (hkind : bits info.toNat 3 0 < 5) :
    exec (.identMsg n serial info placement) s =
      .next ((s.putIdent n.val serial.toNat info.toNat placement.toNat).identDone n.val) :=
  (if_pos h).trans (if_neg (Nat.not_le.mpr hkind))

theorem exec_identMsg_reserved (n : Lane) (serial info placement : Word) (s : State)
    (h : s.get LNK_STAT_STATE n.val = 4 ∨ s.get LNK_STAT_STATE n.val = 5) (hkind : 5 ≤ bits info.toNat 3 0) :
    exec (.identMsg n serial info placement) s = .next (s.failAttempt n.val 5) :=
  (if_pos h).trans (if_pos hkind)

theorem State.putIdent_keeps (s : State) (n serial info placement : Nat) :
    Keeps { regs := [.lnk], lanes := true } s (s.putIdent n serial info placement) :=
  (s.set_keeps ..).mono.andThen (State.setLane_keeps ..) |>.andThen (State.set_keeps ..) |>.andThen (State.set_keeps ..)
    |>.andThen (State.set_keeps ..) |>.andThen (State.set_keeps ..) |>.andThen (State.set_keeps ..) |>.andThen (State.set_keeps ..)
    |>.andThen (State.set_keeps ..)

theorem State.lane_putIdent (s : State) (n serial info placement : Nat) :
    (s.putIdent n serial info placement).lane n = { s.lane n with placement := BitVec.ofNat 64 placement, identIn := true } := by
  simp [State.putIdent]

/-- What a stored identity leaves in the registers (07 R206). -/
theorem State.get_putIdent (s : State) (n serial info placement : Nat) :
    (s.putIdent n serial info placement).get LNK_STAT_STATE n = s.get LNK_STAT_STATE n ∧
    (s.putIdent n serial info placement).get LNK_PID_SERIAL n = serial % 2 ^ 64 ∧
    (s.putIdent n serial info placement).get LNK_PINFO_KIND n = bits info 3 0 % 16 := by
  simp only [State.putIdent]
  refine ⟨?_, ?_, ?_⟩
  · iterate 7 rw [State.get_set_field _ _ _ _ _ _ (by decide)]
    rw [State.get_setLane, State.get_set_field _ _ _ _ _ _ (by decide)]
  · iterate 7 rw [State.get_set_field _ _ _ _ _ _ (by decide)]
    rw [State.get_setLane, State.get_set_self]
    rfl
  · iterate 6 rw [State.get_set_field _ _ _ _ _ _ (by decide)]
    rw [State.get_set_self]
    rfl

/-- Settles O12. Each command is one step of the lane's state on the facts about restarting, leaving UP, a failed attempt
(`failAttempt_fails`) and reaching UP (`reachUp_reached`). -/
theorem laneTraining : Obligations.LaneTraining := by
  unfold Obligations.LaneTraining
  refine ⟨?laneEnable, ?laneDisable, ?retrain, ?retrainUp, ?signalPresent, ?trainingAdapted, ?syncReceived, ?syncReceivedWrong, ?measureDone,
    ?identMsg, ?identMsgFirst, ?ownIdentSent, ?identMsgReserved, ?trainTimeout, ?lockTimeout, ?measureTimeout, ?identTimeout⟩
  case laneEnable =>
    intro n s hon hoff
    obtain ⟨hstate, hrate, hattempts, hk⟩ := (s.write1 LNK_CTL_EN n.val).restarted_detects n.val
    have hlinks := ((s.write1 LNK_CTL_EN n.val).restartLane_sameLinks n.val).trans (State.goDetect_sameLinks _ n.val)
    exact ⟨_, exec_laneEnable_on n s hon hoff, hstate, (hlinks.flag _ _).trans (s.flag_write1_self _ _ (by decide)),
      hrate.trans (congrArg (· % 4) ((s.write1_sameLinks ..).get _ _ rfl rfl)), hattempts, (s.write1_keeps ..).mono.trans hk⟩
  case laneDisable =>
    intro n s hon hfresh
    have hlinks := ((s.write0 LNK_CTL_EN n.val).leaveIfUp_sameLinks n.val).trans (State.goDetect_sameLinks _ n.val)
      |>.trans (State.set_sameLinks _ LNK_STAT_STATE n.val 0)
    exact ⟨_, exec_laneEnable_off n s hon, State.get_setLaneState _ _ _ (by decide),
      (hlinks.flag LNK_CTL_EN n.val).trans (s.flag_write0_self _ _ hfresh)⟩
  case retrain =>
    intro n s hon h0 h6
    obtain ⟨hstate, hrate, -, hk⟩ := s.restarted_detects n.val
    exact ⟨_, exec_retrain_down n s hon h0 h6, hstate, hrate, hk⟩
  case retrainUp =>
    intro n s hon h6 hpos
    obtain ⟨⟨sf, b, hpstat⟩, hsending⟩ := s.beats_lastWords n.val hpos
    have hleft := (s.lastWords n.val).leaveUp_left n.val
    have hlinks := (((s.lastWords n.val).leaveUp n.val).restartLane_sameLinks n.val).trans (State.goDetect_sameLinks _ n.val)
    have hout := (hleft.sent.trans (State.restartLane_keeps _ n.val).staysSent).trans (State.goDetect_keeps _ n.val).staysSent |>.out
    refine ⟨_, sf, b, exec_retrain_up n s hon h6, State.state_goDetect .., (hlinks.flag _ _).trans hleft.ready, hout hpstat, fun w hw => ?_⟩
    obtain ⟨sf', b', hbeat⟩ := hsending w hw
    exact ⟨sf', b', hout hbeat⟩
  case signalPresent =>
    intro n s h
    refine ⟨_, if_pos h, State.get_setLaneState _ _ _ (by decide), ?_, ?_, (s.setLane_keeps ..).mono.andThen (State.set_keeps ..)⟩ <;>
      rw [State.setLaneState, State.lane_set, State.lane_setLane_self]
  case trainingAdapted =>
    intro n s h
    have hk := (s.setLaneState n.val 3).sendSync_keeps n.val 0
    exact ⟨_, exec_trainingAdapted_training n s h, (hk.regs _ _ (by decide)).trans (State.get_setLaneState _ _ _ (by decide)),
      congrArg LaneSt.txSf (State.lane_sendSync ..), rfl, (s.set_keeps ..).mono.trans hk.mono⟩
  case syncReceived =>
    intro n sf calid s h hcal hrow
    have hexec := exec_syncReceived_locking n sf calid s h
    rw [State.syncInLock_fourth _ _ _ (by rwa [s.lane_goodCodeword]) (by rwa [s.lane_goodCodeword])] at hexec
    refine ⟨_, hexec, State.state_beginMeasure .., ?_, ?_, (s.setLane_keeps ..).mono.andThen (State.setLane_keeps ..) |>.trans (State.beginMeasure_keeps ..)⟩
    · rw [State.lane_beginMeasure, State.lane_setLane_self, s.lane_goodCodeword]
    · rw [State.lane_beginMeasure]
  case syncReceivedWrong =>
    intro n sf calid s h hcal hatt
    have hexec := exec_syncReceived_locking n sf calid s h
    rw [State.syncInLock_wrong _ _ _ (by rwa [s.lane_goodCodeword])] at hexec
    have hatt' : (((s.goodCodeword n.val).laneFlag LNK_STAT_CALERR n.val).lane n.val).attempts < 2 := by
      rwa [State.lane_laneFlag, s.lane_goodCodeword]
    have hfails := ((s.goodCodeword n.val).laneFlag LNK_STAT_CALERR n.val).failAttempt_fails n.val 6 (by decide)
    have hlinks := State.failAttempt_sameLinks _ n.val 6 hatt'
    exact ⟨_, hexec, (hfails.again hatt').1, hfails.cause, (hlinks.flag _ _).trans (State.flag_laneFlag ..),
      (s.setLane_keeps ..).mono.andThen (State.laneFlag_keeps_links _ _ _ rfl) |>.trans hfails.keeps⟩
  case measureDone =>
    intro n s h4 h64 hk
    refine ⟨_, exec_measureDone_measured n s h4 h64 hk, ?_, ?_, (s.meanTaken_keeps _).mono.trans (State.beginIdent_keeps ..)⟩
    · rw [State.beginIdent, State.get_pushCtl]
      exact State.get_setLaneState _ _ _ (by decide)
    · exact ((State.beginIdent_sameLinks ..).get _ _ rfl rfl).trans (s.lat_meanTaken _)
  case identMsg =>
    intro n serial info placement s h5 hkind hctl hsending
    have hexec := exec_identMsg_stored n serial info placement s (.inr h5) hkind
    obtain ⟨hstate, hserial, hinfo⟩ := s.get_putIdent n.val serial.toNat info.toNat placement.toNat
    have hlane := s.lane_putIdent n.val serial.toNat info.toNat placement.toNat
    rw [State.identDone_reaches _ _ (hstate.trans h5) (by rw [hlane]) (by rw [State.identSent, hlane]; exact ⟨hctl, hsending⟩)] at hexec
    have hup := (s.putIdent n.val serial.toNat info.toNat placement.toNat).reachUp_reached n.val
    exact ⟨_, hexec, hup.state, ((hup.links.get _ _ rfl rfl).trans hserial).trans (Nat.mod_eq_of_lt serial.isLt),
      ((hup.links.get _ _ rfl rfl).trans hinfo).trans (Nat.mod_eq_of_lt (by omega)), hup.cred⟩
  case identMsgFirst =>
    intro n serial info placement s hstates hkind
    have hexec := exec_identMsg_stored n serial info placement s (hstates.imp_right And.left) hkind
    obtain ⟨hstate, hserial, hinfo⟩ := s.get_putIdent n.val serial.toNat info.toNat placement.toNat
    have hlane := s.lane_putIdent n.val serial.toNat info.toNat placement.toNat
    have hwaits : (s.putIdent n.val serial.toNat info.toNat placement.toNat).identDone n.val = s.putIdent n.val serial.toNat info.toNat placement.toNat := by
      obtain h4 | ⟨-, hunsent⟩ := hstates
      · exact State.identDone_of_state _ _ (by rw [hstate, h4]; decide)
      · refine State.identDone_waits _ _ fun ⟨hctl, hsending⟩ => ?_
        rw [hlane] at hctl hsending
        obtain ⟨m, hm, h4⟩ | hrest := hunsent
        · exact hctl m hm h4
        · exact hrest hsending
    rw [hwaits] at hexec
    exact ⟨_, hexec, hstate, hserial.trans (Nat.mod_eq_of_lt serial.isLt), hinfo.trans (Nat.mod_eq_of_lt (by omega)), by rw [hlane],
      s.putIdent_keeps ..⟩
  case ownIdentSent =>
    intro n w s h5 hsending hctl hin hpos
    have hexec := exec_controlMessageSend_goesOn n w [] s hsending
    have hk := (s.setLane_keeps n.val { s.lane n.val with sending := [] }).mono.trans (State.sendAt_keeps _ n.val 2 w)
    obtain ⟨sf', p, hlane⟩ := (s.setLane n.val { s.lane n.val with sending := [] }).lane_sendAt n.val 2 w
    rw [State.lane_setLane_self] at hlane
    obtain ⟨sf, b, hbeat⟩ := (s.setLane n.val { s.lane n.val with sending := [] }).beat_sendAt n.val 2 w
      ((State.hasPosition_congr (by rw [State.lane_setLane_self]) 2).trans hpos)
    rw [State.identDone_reaches _ _ ((hk.regs _ _ (by decide)).trans h5) (by rw [hlane]; exact hin)
      (by rw [State.identSent, hlane]; exact ⟨hctl, rfl⟩)] at hexec
    have hup := ((s.setLane n.val { s.lane n.val with sending := [] }).sendAt n.val 2 w).reachUp_reached n.val
    exact ⟨_, sf, b, hexec, hup.state, hup.cred, hup.sent.out hbeat⟩
  case identMsgReserved =>
    intro n serial info placement s hstates hkind hatt
    have hfails := s.failAttempt_fails n.val 5 (by decide)
    exact ⟨_, exec_identMsg_reserved n serial info placement s hstates hkind, (hfails.again hatt).1, hfails.cause, hfails.keeps⟩
  case trainTimeout =>
    intro n s h
    obtain ⟨hcause, hagain, hthird, hk⟩ := s.trainLimit_fails n.val 2 2 h (by decide)
    exact ⟨_, rfl, hcause, hagain, hthird, hk⟩
  case lockTimeout =>
    intro n s h
    obtain ⟨hcause, hagain, hthird, hk⟩ := s.trainLimit_fails n.val 3 3 h (by decide)
    exact ⟨_, rfl, hcause, hagain, hthird, hk⟩
  case measureTimeout =>
    intro n s h
    obtain ⟨hcause, hagain, hthird, hk⟩ := s.trainLimit_fails n.val 4 4 h (by decide)
    exact ⟨_, rfl, hcause, hagain, hthird, hk⟩
  case identTimeout =>
    intro n s h
    obtain ⟨hcause, hagain, hthird, hk⟩ := s.trainLimit_fails n.val 5 5 h (by decide)
    exact ⟨_, rfl, hcause, hagain, hthird, hk⟩

end Sys2Proof.Machine
end

section
/-! SUPPORT. The removal of a received pair (07 R213), and a state in which the statement about the traffic of a lane fails. -/

namespace Sys2Proof.Machine

set_option Elab.async false

/-- Lane 0 is in UP and is listed twice: the entry that reads see holds one received pair and nothing else. -/
def State.laneListedTwice : State :=
  { State.reset with
    regs := [(LNK_STAT_STATE.key 0, 6)], dom := [(640, 2)],
    lanes := [(0, { LaneSt.off with rxq := [(0, 0, 0)] }), (0, { LaneSt.off with attempts := 1 })] }

theorem exec_urxPop (n : Lane) (s : State) (h : s.laneOn n.val = true) : exec (.urxPop n) s = .next (s.urxPop n.val) := if_pos h

/-- The pop writes the lane twice. Its first write leaves the lane as a lane that is off, which removes every entry of the lane. -/
theorem State.lanes_urxPop_laneListedTwice : (State.laneListedTwice.urxPop 0).lanes = [(0, { LaneSt.off with ctl := [⟨5, [1]⟩] })] := by
  decide

/-- One write of the lane replaces the entry that reads see and leaves the other. -/
theorem State.lanes_setLane_laneListedTwice (x : LaneSt) (h : x ≠ LaneSt.off) :
    (State.laneListedTwice.setLane 0 x).lanes = [(0, x), (0, { LaneSt.off with attempts := 1 })] := if_neg h

/-- Refutes O15. The clause urxPop asks for the state that one write of the lane makes, entry for entry. In `State.laneListedTwice`, whose list of lanes
is not in canonical form, the pop leaves one entry and that one write two. -/
theorem not_laneTraffic : ¬ Obligations.LaneTraffic := by
  unfold Obligations.LaneTraffic
  rintro ⟨-, -, -, hpop, -⟩
  have hnext := hpop 0 (0, 0, 0) State.laneListedTwice (by decide) (by decide) (by decide)
  rw [exec_urxPop 0 _ (by decide)] at hnext
  have hlanes := (congrArg State.lanes (Host.Outcome.next.inj hnext)).trans (State.lanes_setLane_laneListedTwice _ (by decide))
  exact absurd (State.lanes_urxPop_laneListedTwice.symm.trans hlanes) (by simp)

end Sys2Proof.Machine
end

section
/-! SUPPORT. What stands in the checkpoint unit through faults, hold requests and announcements: the mode, the registers that a rollback rests on,
the flags that software clears, and the bookkeeping that only reports and restores change. -/

namespace Sys2Proof.Machine

set_option Elab.async false

/-! ### What stands -/

/-- The registers of the rollback and of the role that no fault and no hold request writes (02 R35, 08 R239, R240). -/
def rollbackFields : List Field := [CLK_TM_CTL_ROLE, CKP_HWM_STROKE, CKP_LAST_STROKE, CKP_STAT_LASTSLOT]

/-- The flags of `CKP_STAT` that a failed checkpoint and a lost one set, and that only software clears (08 R228, R242). -/
def lossFlags : List Field := [CKP_STAT_CKPFAIL, CKP_STAT_LOST]

/-- A register field is none of a list. -/
abbrev Field.apart (f : Field) (l : List Field) : Prop := ∀ g ∈ l, g.id % 65536 ≠ f.id % 65536

/-- y is what the bookkeeping x may become by faults, hold requests and announcements. -/
structure CkpSt.Goes (x y : CkpSt) : Prop where
  reported : y.reported = x.reported
  waitFrom : y.waitFrom = x.waitFrom
  restoreTo : y.restoreTo = x.restoreTo
  failed : x.failed = true → y.failed = true
  restored : x.restoring = false → y.restoring = false
  targets : x.holdTargets ⊆ y.holdTargets

theorem CkpSt.Goes.refl (x : CkpSt) : x.Goes x := ⟨rfl, rfl, rfl, id, id, List.Subset.refl _⟩

theorem CkpSt.Goes.trans {x y z : CkpSt} (h : x.Goes y) (k : y.Goes z) : x.Goes z where
  reported := k.reported.trans h.reported
  waitFrom := k.waitFrom.trans h.waitFrom
  restoreTo := k.restoreTo.trans h.restoreTo
  failed := k.failed ∘ h.failed
  restored := k.restored ∘ h.restored
  targets := List.Subset.trans h.targets k.targets

/-- A hold request that is taken adds a target (08 R237). -/
theorem CkpSt.Goes.addTarget (x : CkpSt) (h : Nat × Nat) : x.Goes { x with holdTargets := x.holdTargets ++ [h] } :=
  { CkpSt.Goes.refl x with targets := List.subset_append_left .. }

/-- The mode stands, and the bookkeeping of the checkpoint unit goes on. -/
structure State.CkpGoes (s t : State) : Prop where
  mode : t.mode = s.mode
  ckp : s.ckp.Goes t.ckp

theorem State.CkpGoes.trans {s t u : State} (h : s.CkpGoes t) (k : t.CkpGoes u) : s.CkpGoes u :=
  ⟨k.mode.trans h.mode, h.ckp.trans k.ckp⟩

/-- What stands in the checkpoint unit from s to t: its bookkeeping goes on, the registers of a rollback read alike, and no flag of a loss clears. -/
structure State.CkpStands (s t : State) : Prop extends State.CkpGoes s t where
  get : ∀ f ∈ rollbackFields, t.get f = s.get f
  flag : ∀ f ∈ lossFlags, s.flag f = true → t.flag f = true

theorem State.CkpStands.refl (s : State) : s.CkpStands s := ⟨⟨rfl, .refl _⟩, fun _ _ => rfl, fun _ _ => id⟩

theorem State.CkpStands.trans {s t u : State} (h : s.CkpStands t) (k : t.CkpStands u) : s.CkpStands u where
  toCkpGoes := h.toCkpGoes.trans k.toCkpGoes
  get f hf := (k.get f hf).trans (h.get f hf)
  flag f hf := k.flag f hf ∘ h.flag f hf

theorem State.CkpStands.isMaster {s t : State} (h : s.CkpStands t) : t.isMaster = s.isMaster := congrArg (· == 1) (h.get CLK_TM_CTL_ROLE (.head _))

theorem State.CkpStands.ite {s t u : State} {p : Prop} [Decidable p] (h : s.CkpStands t) (k : s.CkpStands u) :
    s.CkpStands (if p then t else u) := by
  split
  · exact h
  · exact k

/-- A command that leaves the mode and the bookkeeping of the checkpoint unit alone. -/
theorem Keeps.ckpGoes {w : Writes} {s t : State} (h : Keeps w s t) (hm : w.mode = false := by rfl) (hc : w.ckp = false := by rfl) :
    s.CkpGoes t :=
  ⟨h.mode hm, h.ckp hc ▸ .refl _⟩

/-- A command that leaves the mode, the checkpoint unit and the groups CLK and CKP alone. -/
theorem Keeps.ckpStands {w : Writes} {s t : State} (h : Keeps w s t) (hm : w.mode = false := by rfl) (hc : w.ckp = false := by rfl)
    (hr : Bank.clk ∉ w.regs ∧ Bank.ckp ∉ w.regs := by decide) : s.CkpStands t := by
  have hget (f : Field) (hf : f ∈ rollbackFields ++ lossFlags) : t.get f = s.get f := by
    have hbank : ∀ f ∈ rollbackFields ++ lossFlags, f.bank = .clk ∨ f.bank = .ckp := by decide
    rcases hbank f hf with hb | hb
    · exact h.regs f 0 (hb ▸ hr.1)
    · exact h.regs f 0 (hb ▸ hr.2)
  exact
    { h.ckpGoes hm hc with
      get := fun f hf => hget f (List.mem_append_left _ hf)
      flag := fun f hf hs => (congrArg (· == 1) (hget f (List.mem_append_right _ hf))).trans hs }

/-- Another bookkeeping; by default one that differs in nothing that must stand. -/
theorem State.withCkp_ckpStands (s : State) (x : CkpSt) (h : s.ckp.Goes x := by exact ⟨rfl, rfl, rfl, id, id, List.Subset.refl _⟩) :
    s.CkpStands { s with ckp := x } :=
  { State.CkpStands.refl s with ckp := h }

/-- A write of any other register. -/
theorem State.set_ckpStands (s : State) (f : Field) (i v : Nat) (h : f.apart (rollbackFields ++ lossFlags) := by decide) :
    s.CkpStands (s.set f i v) :=
  { State.CkpStands.refl s with
    get := fun g hg => s.get_set_field f g i 0 v (h g (List.mem_append_left _ hg))
    flag := fun g hg hs => (s.flag_set_field f g i 0 v (h g (List.mem_append_right _ hg))).trans hs }

theorem State.raise_ckpStands (s : State) (f : Field) (i : Nat) (h : f.apart (rollbackFields ++ lossFlags) := by decide) :
    s.CkpStands (s.raise f i) :=
  { s.set_ckpStands f i 1 h with }

/-- A flag of `CKP_STAT` that is set leaves the other. -/
theorem State.raise_lossFlag_ckpStands (s : State) (f : Field) (hf : f ∈ lossFlags) : s.CkpStands (s.raise f) := by
  have hget : ∀ f ∈ lossFlags, f.apart rollbackFields := by decide
  refine { State.CkpStands.refl s with
    get := fun g hg => s.get_raise_field f g 0 0 (hget f hf g hg), flag := fun g hg hs => ?_ }
  have hflags : ∀ f ∈ lossFlags, ∀ g ∈ lossFlags, g.id % 65536 = f.id % 65536 → (s.raise f).flag g = true := by
    simp only [lossFlags, List.forall_mem_cons, List.not_mem_nil, false_implies, implies_true, and_true]
    exact ⟨⟨fun _ => s.flag_raise_self _ _ (by decide), fun h => absurd h (by decide)⟩,
      ⟨fun h => absurd h (by decide), fun _ => s.flag_raise_self _ _ (by decide)⟩⟩
  by_cases h : g.id % 65536 = f.id % 65536
  · exact hflags f hf g hg h
  · exact (s.flag_raise_field f g 0 0 h).trans hs

/-! ### Announcements, holds and the trace -/

theorem State.nextSeq_ckpStands (s : State) : s.CkpStands s.nextSeq.2 := s.withCkp_ckpStands _

theorem State.announce_ckpStands (s : State) (kind value : Nat) : s.CkpStands (s.announce kind value) :=
  s.nextSeq_ckpStands.trans (State.pushAll_keeps ..).ckpStands

theorem State.takeHoldReq_ckpStands (s : State) (k : Nat) : s.CkpStands (s.takeHoldReq k) := by
  have hadd (h : Nat × Nat) : s.CkpStands { s with ckp := { s.ckp with holdTargets := s.ckp.holdTargets ++ [h] } } :=
    s.withCkp_ckpStands _ (.addTarget s.ckp h)
  unfold State.takeHoldReq State.holdTarget
  split
  · exact hadd _
  · split
    · exact .ite (.refl s) (hadd _)
    · exact .ite (.refl s) (hadd _)
  · exact .refl s

theorem State.requestHold_ckpStands (s : State) (k : Nat) : s.CkpStands (s.requestHold k) :=
  s.nextSeq_ckpStands.trans (State.pushAll_keeps ..).ckpStands |>.trans (State.takeHoldReq_ckpStands ..)

theorem State.plannedHold_ckpStands (s : State) : s.CkpStands s.plannedHold := by
  unfold State.plannedHold
  exact .ite (.refl s) ((s.set_ckpStands ..).trans (State.requestHold_ckpStands ..))

theorem State.heldPlan_ckpStands (s : State) : s.CkpStands s.heldPlan := by
  unfold State.heldPlan
  exact .ite ((s.withPins_keeps _).ckpStands.trans (State.plannedHold_ckpStands _)) (.refl s)

theorem State.planHold_ckpStands (s : State) : s.CkpStands s.planHold := by
  unfold State.planHold
  exact .ite (.refl s) (.ite (s.withPins_keeps _).ckpStands s.plannedHold_ckpStands)

theorem State.traceFreeze_ckpStands (s : State) (cause : Nat) : s.CkpStands (s.traceFreeze cause) := by
  unfold State.traceFreeze
  refine .ite (.refl s) ?_
  extract_lets n marked noted _ frozen
  have hf : s.CkpStands frozen :=
    (s.set_ckpStands ..).trans (State.set_ckpStands ..) |>.trans (marked.trcOwn_keeps ..).ckpStands |>.trans (noted.withTrace_keeps _).ckpStands
  exact .ite (hf.trans frozen.planHold_ckpStands) hf

theorem State.traceEvent_ckpStands (s : State) (en : Field) (cause : Nat) : s.CkpStands (s.traceEvent en cause) :=
  .ite (s.traceFreeze_ckpStands _) (.refl s)

/-! ### Faults -/

theorem State.faultHold_ckpStands (s : State) : s.CkpStands s.faultHold := by
  unfold State.faultHold
  extract_lets raised first _ noted
  have hr : s.CkpStands raised := s.raise_ckpStands ..
  have hn : raised.CkpStands noted := raised.withCkp_ckpStands _
  exact .ite hr (hr.trans hn |>.trans (noted.requestHold_ckpStands _))

theorem State.logOnly_ckpStands (s : State) (code sev tile loc pcell d0 d1 : Nat) : s.CkpStands (s.logOnly code sev tile loc pcell d0 d1) := by
  unfold State.logOnly
  extract_lets inRun replay pause
  have hfresh : s.CkpStands (if pause then s.fresh else (0, s)).2 := by
    split
    · exact s.fresh_keeps.ckpStands
    · exact .refl s
  split
  rename_i w u hdrawn
  rw [hdrawn] at hfresh
  extract_lets scyc r0 rep sev' hold r repeated collided before recorded _ stored traced
  have hrepeated : s.CkpStands repeated := .ite (hfresh.trans (State.raise_ckpStands ..)) hfresh
  have hcollided : s.CkpStands collided := .ite (hrepeated.trans (State.raise_ckpStands ..)) hrepeated
  have hsame : recorded.ckp = collided.ckp := (collided.storeFlt_keeps r).ckp rfl
  have hgoes : collided.ckp.Goes stored.ckp := ⟨rfl, rfl, rfl, id, id, List.Subset.refl _⟩
  have hnoted : recorded.CkpStands stored := recorded.withCkp_ckpStands _ ((congrArg (CkpSt.Goes · stored.ckp) hsame).mpr hgoes)
  have hstored : s.CkpStands stored := hcollided.trans (collided.storeFlt_keeps r).ckpStands |>.trans hnoted
  have htraced : s.CkpStands traced := .ite hstored (hstored.trans (stored.traceEvent_ckpStands ..))
  exact (State.CkpStands.ite (htraced.trans traced.faultHold_ckpStands) htraced).trans (State.hubLevels_keeps _).ckpStands

theorem State.endPause_ckpStands (s : State) (e : Nat) : s.CkpStands (s.endPause e) := by
  unfold State.endPause
  extract_lets len _ ended
  have hended : s.CkpStands ended := s.withCkp_ckpStands _
  exact hended.trans (ended.set_ckpStands CKP_TIME_LASTPAUSE ..) |>.trans (State.set_ckpStands _ CLK_PAUSE_ACC_ACC ..)

/-- A checkpoint that has not failed yet fails, and a hold at the end of its stroke is due (08 R228). -/
theorem State.ckpFail_fails (s : State) (cause : Nat) (h : s.ckp.failed = false) : s.CkpStands (s.ckpFail cause) ∧
    (s.ckpFail cause).ckp.failed = true ∧ (s.ckpFail cause).flag CKP_STAT_CKPFAIL = true ∧
      (s.stroke.no, s.stroke.no) ∈ (s.ckpFail cause).ckp.holdTargets := by
  rw [State.ckpFail, if_neg (by simp [h])]
  extract_lets k _ u
  have htargets : s.ckp.holdTargets ⊆ u.ckp.holdTargets := List.subset_append_left ..
  have hu : s.CkpStands u := s.withCkp_ckpStands _ ⟨rfl, rfl, rfl, fun _ => rfl, id, htargets⟩
  have hplan : u.CkpStands (u.endPause s.tb).heldPlan := (u.endPause_ckpStands _).trans (State.heldPlan_ckpStands _)
  have hraised := State.raise_lossFlag_ckpStands (u.endPause s.tb).heldPlan CKP_STAT_CKPFAIL (.head _)
  have hlog (v : State) : v.CkpStands ((v.announce 5 k).logOnly 0x401 1 0xFF 0 0xFFFF cause k) :=
    (v.announce_ckpStands ..).trans (State.logOnly_ckpStands ..)
  have hall := hplan.trans hraised |>.trans (hlog _)
  exact ⟨hu.trans hall, hall.ckp.failed rfl, (hlog _).flag _ (.head _) (State.flag_raise_self _ _ _ (by decide)),
    hall.ckp.targets (List.mem_append_right _ (List.mem_singleton.mpr rfl))⟩

theorem State.ckpFail_ckpStands (s : State) (cause : Nat) : s.CkpStands (s.ckpFail cause) := by
  by_cases h : s.ckp.failed = true
  · rw [State.ckpFail, if_pos h]
    exact .refl s
  · exact (s.ckpFail_fails cause (eq_false_of_ne_true h)).1

theorem State.fault_ckpStands (s : State) (code sev tile loc pcell d0 d1 : Nat) : s.CkpStands (s.fault code sev tile loc pcell d0 d1) := by
  have hlog := s.logOnly_ckpStands code sev tile loc pcell d0 d1
  exact .ite (hlog.trans (State.ckpFail_ckpStands ..)) hlog

/-! ### Lines of HBM that are touched (13 R365 to R368) -/

theorem State.stackFail_ckpStands (s : State) (t ch : Nat) : s.CkpStands (s.stackFail t ch) :=
  (s.raise_ckpStands ..).trans (State.tmeCapture_keeps ..).ckpStands |>.trans (State.tmeLevel_keeps ..).ckpStands
    |>.trans (State.fault_ckpStands ..) |>.trans (State.stackReady_keeps ..).ckpStands

theorem State.channelFail_ckpStands (s : State) (t c : Nat) : s.CkpStands (s.channelFail t c) := by
  unfold State.channelFail
  refine .ite (.refl s) ?_
  extract_lets first marked logged
  have hl : s.CkpStands logged :=
    (s.set_ckpStands ..).trans (State.raise_ckpStands ..) |>.trans (State.tmeLevel_keeps ..).ckpStands |>.trans (marked.fault_ckpStands ..)
  exact .ite (hl.trans (logged.stackFail_ckpStands ..))
    (.ite (hl.trans (logged.set_ckpStands ..)) (hl.trans (logged.set_ckpStands ..) |>.trans (State.raise_ckpStands ..)))

theorem State.reconstruct_ckpStands (s : State) (t off c : Nat) : s.CkpStands (s.reconstruct t off c) := by
  unfold State.reconstruct
  extract_lets x n counted captured
  have hc : s.CkpStands captured :=
    (s.setTile_keeps ..).ckpStands.trans (State.bump_keeps ..).ckpStands |>.trans (counted.tmeCapture_keeps ..).ckpStands
  exact .ite (hc.trans (captured.channelFail_ckpStands ..)) hc

theorem State.hbmTouch_ckpStands (s : State) (t off : Nat) (err : HbmRead) : s.CkpStands (s.hbmTouch t off err).1 := by
  unfold State.hbmTouch
  extract_lets c captured logged
  split
  · exact .refl s
  · exact (s.bump_keeps ..).ckpStands
  · split
    · exact s.reconstruct_ckpStands ..
    · have hl : s.CkpStands logged :=
        (s.spoilLine_keeps t off).ckpStands.trans (State.raise_ckpStands ..) |>.trans (State.tmeCapture_keeps ..).ckpStands
          |>.trans (State.tmeLevel_keeps ..).ckpStands |>.trans (captured.fault_ckpStands ..)
      simp only [apply_ite Prod.fst]
      exact .ite (hl.trans (logged.stackFail_ckpStands ..)) hl

/-- A line of a group that has lost a member, or has no parity, cannot be reconstructed (13 R365). -/
theorem State.hbmTouch_unreadable (s : State) (t off : Nat) (h : s.parityIntact t 0 = false) : (s.hbmTouch t off .uncorrectable).2 = true := by
  have hg : s.parityIntact t (groupOf off) = false := h
  unfold State.hbmTouch
  simp only [hg, Bool.false_eq_true, if_false]
  split <;> rfl

end Sys2Proof.Machine
end

section
/-! SUPPORT. The reports to the time master and what it announces (08 R224, R229, R239, R242): what each writes, what stands in the checkpoint unit, and
the stroke that a resume fixes. -/

namespace Sys2Proof.Machine

set_option Elab.async false

/-! ### The module's own announcements -/

theorem State.setStroke_keeps (s : State) (x : StrokeSt) : Keeps { stroke := true } s (s.setStroke x) := { Keeps.refl _ s with stroke := nofun }

theorem State.seqNo_announce (s : State) (kind value : Nat) : (s.announce kind value).ckp.seqNo = (s.ckp.seqNo + 1) % 65536 :=
  congrArg CkpSt.seqNo ((State.pushAll_keeps ..).ckp rfl)

/-! ### RESUME (02 R35, R36) -/

theorem State.le_resumeTime (s : State) : s.tb + 4096 ≤ s.resumeTime.1 := Nat.le_add_right ..

theorem State.resumeTime_keeps (s : State) : Keeps { free := true } s s.resumeTime.2 := s.fresh_keeps

theorem State.takeResume_keeps (s : State) (v : Nat) : Keeps { regs := [.trc], stroke := true } s (s.takeResume v) :=
  .ite (Keeps.refl _ s |>.andThen (s.setStroke_keeps _) |>.andThen (State.lower_keeps ..)) (.refl _ s)

/-- The writes of a RESUME that the master announces. -/
def resumeWrites : Writes := { regs := [.trc], lanes := true, ckp := true, stroke := true, free := true }

theorem State.masterResume_keeps (s : State) : Keeps resumeWrites s s.masterResume :=
  s.resumeTime_keeps.mono.andThen (State.announce_keeps ..) |>.andThen (State.takeResume_keeps ..)

theorem State.masterResume_ckpStands (s : State) : s.CkpStands s.masterResume :=
  s.resumeTime_keeps.ckpStands.trans (State.announce_ckpStands ..) |>.trans (State.takeResume_keeps ..).ckpStands

theorem State.stroke_takeResume (s : State) (v : Nat) (h : s.mode = .hold) :
    (s.takeResume v).stroke = { s.stroke with nextAt := some v, nextNo := s.ckp.restoreTo.getD (s.stroke.no + 1) } :=
  congrArg State.stroke (if_pos h)

/-- The master's resume fixes the stroke that runs next: that of the rollback, or the one after the hold. -/
theorem State.stroke_masterResume (s : State) (h : s.mode = .hold) :
    s.masterResume.stroke = { s.stroke with nextAt := some s.resumeTime.1, nextNo := s.ckp.restoreTo.getD (s.stroke.no + 1) } := by
  have ha := State.announce_keeps s.resumeTime.2 1 s.resumeTime.1
  have hc := State.announce_ckpStands s.resumeTime.2 1 s.resumeTime.1
  refine (State.stroke_takeResume _ _ (hc.mode.trans h)).trans ?_
  rw [ha.stroke rfl, hc.ckp.restoreTo]
  rfl

/-! ### Reports of a hold (08 R229, R239) -/

theorem mem_addReport (r : Report) (same : Nat → Bool) (l : List Report) : r ∈ addReport r same l :=
  List.mem_append_right _ (List.mem_singleton.mpr rfl)

/-- A report is counted. -/
def State.counting (s : State) (r : Report) (same : Nat → Bool) : State := s.setCkp { s.ckp with reports := addReport r same s.ckp.reports }

theorem State.counting_keeps (s : State) (r : Report) (same : Nat → Bool) : Keeps { ckp := true } s (s.counting r same) := s.withCkp_keeps _

theorem State.counting_ckpStands (s : State) (r : Report) (same : Nat → Bool) : s.CkpStands (s.counting r same) := s.withCkp_ckpStands _

/-- The master does nothing more after a stop: it waits for firmware. -/
theorem State.noteHeld_stop (s : State) (origin value : Nat) (h : s.isMaster = true) :
    s.noteHeld origin 0xB value = s.counting ⟨origin, 0xB, value⟩ isHeld := by
  have hstop : (((s.counting ⟨origin, 0xB, value⟩ isHeld).reportsOf isHeld).any (fun r => r.kind == 0xB)) = true :=
    List.any_eq_true.mpr ⟨_, List.mem_filter.mpr ⟨mem_addReport _ _ _, rfl⟩, rfl⟩
  rw [State.noteHeld, if_pos h, ← State.counting, State.masterHeld]
  split
  · exact if_pos hstop
  · rfl

/-- In a rollback a hold report is counted and no more. -/
theorem State.noteHeld_inRollback (s : State) (origin kind value : Nat) (h : s.ckp.restoreTo.isSome = true) :
    s.noteHeld origin kind value = if s.isMaster then s.counting ⟨origin, kind, value⟩ isHeld else s := by
  have hnone : (s.counting ⟨origin, kind, value⟩ isHeld).ckp.restoreTo.isNone = false := Option.isNone_eq_false_iff.mpr h
  by_cases hm : s.isMaster = true
  · rw [State.noteHeld, if_pos hm, if_pos hm, ← State.counting]
    exact if_neg (by simp [hnone])
  · rw [State.noteHeld, if_neg hm, if_neg hm]

theorem State.reportMissing_keeps (s : State) (n kind : Nat) : Keeps faultWrites s (s.reportMissing n kind) :=
  (s.logOnly_keeps ..).andThen (State.lecPulse_keeps ..)

theorem State.reportMissing_ckpStands (s : State) (n kind : Nat) : s.CkpStands (s.reportMissing n kind) :=
  (s.logOnly_ckpStands ..).trans (State.lecPulse_keeps ..).ckpStands

/-- The wait for reports has ended. -/
def State.waitEnded (s : State) : State := s.setCkp { s.ckp with waitFrom := none }

theorem State.stopForMissing_eq (s : State) (n kind : Nat) : s.stopForMissing n kind =
    ((s.waitEnded.reportMissing n kind).announce 0xB s.stroke.no).noteHeld serialLow 0xB s.stroke.no := by
  have hno : (s.waitEnded.reportMissing n kind).stroke.no = s.stroke.no :=
    congrArg StrokeSt.no ((State.reportMissing_keeps ..).stroke rfl)
  rw [State.stopForMissing, ← State.waitEnded, hno]

/-- A hold or a rollback with reports missing ends its wait and is reported as a stop (08 R229). -/
theorem State.stopForMissing_stops (s : State) (n kind : Nat) (h : s.isMaster = true) :
    (s.stopForMissing n kind).mode = s.mode ∧ (s.stopForMissing n kind).ckp.waitFrom = none ∧
      ⟨serialLow, 0xB, s.stroke.no⟩ ∈ (s.stopForMissing n kind).ckp.reports := by
  have hsent : s.waitEnded.CkpStands ((s.waitEnded.reportMissing n kind).announce 0xB s.stroke.no) :=
    (State.reportMissing_ckpStands ..).trans (State.announce_ckpStands ..)
  rw [State.stopForMissing_eq, State.noteHeld_stop _ _ _ (hsent.isMaster.trans h)]
  have hcounted := hsent.trans (State.counting_ckpStands _ ⟨serialLow, 0xB, s.stroke.no⟩ isHeld)
  exact ⟨hcounted.mode, hcounted.ckp.waitFrom, mem_addReport ..⟩

/-! ### Reports of a rollback (08 R242) -/

theorem State.noteRestored_ckpStands (s : State) (origin value : Nat) : s.CkpStands (s.noteRestored origin value) := by
  have hc : s.CkpStands (s.counting ⟨origin, 7, value⟩ (· == 7)) := s.counting_ckpStands ..
  have hforgets (u : State) : u.CkpStands (u.setCkp { u.ckp with reports := [] }) := u.withCkp_ckpStands _
  exact .ite (.ite (hc.trans (hforgets _) |>.trans (State.masterResume_ckpStands _)) hc) (.refl s)

/-! ### Completing a checkpoint (08 R224) -/

theorem State.completeTile_keeps (s : State) (slot resume t : Nat) : Keeps { mem := true, tiles := true } s (s.completeTile slot resume t) :=
  (s.setNum_keeps ..).mono.andThen (State.setNum_keeps ..) |>.andThen (State.setNum_keeps ..) |>.andThen (State.setTile_keeps ..)

theorem State.resetMargins_keeps (s : State) (fMin fPrev : Field) :
    Keeps { regs := [fMin.bank, fPrev.bank], warned := true } s (s.resetMargins fMin fPrev) := by
  have hset (u : State) (f : Field) (i v : Nat) (hf : f.bank ∈ [fMin.bank, fPrev.bank]) :
      Keeps { regs := [fMin.bank, fPrev.bank], warned := true } u (u.set f i v) := u.set_keeps_of_mem f i v hf
  have hwarned : Keeps { regs := [fMin.bank, fPrev.bank], warned := true } s { s with warned := [] } := { Keeps.refl _ s with warned := nofun }
  unfold State.resetMargins
  refine hwarned.trans (.foldl (fun u i => ?_) _ _)
  exact (hset u fPrev i _ (by simp)).trans (hset _ fMin i _ (by simp))

theorem State.releaseRings_keeps (s : State) (k : Nat) : Keeps { chans := true } s (s.releaseRings k) := { Keeps.refl _ s with chans := nofun }

theorem State.dropHosts_keeps (s : State) (k : Nat) : Keeps { hostVals := true } s (s.dropHosts k) := { Keeps.refl _ s with hostVals := nofun }

/-- The writes of a checkpoint that is complete, beside the bookkeeping. -/
def finishWrites : Writes :=
  { regs := [.ckp, .lnk, .tme, .cpo], mem := true, tiles := true, cells := true, chans := true, hostVals := true, warned := true }

theorem State.finishCheckpoint_ckpGoes (s : State) : s.CkpGoes s.finishCheckpoint := by
  unfold State.finishCheckpoint
  extract_lets slot k headed _ cleared released reset
  have hheaded : Keeps finishWrites s headed := .foldl (fun u t => (u.completeTile_keeps ..).mono) _ s
  have hcleared : Keeps finishWrites (headed.setCkp { headed.ckp with extWrites := [] }) cleared :=
    .foldl (fun u c => (u.setCell_keeps ..).mono) _ _
  have hreleased : Keeps finishWrites cleared released :=
    (cleared.set_keeps CKP_STAT_LASTSLOT ..).mono.andThen (State.set_keeps _ CKP_LAST_STROKE ..) |>.andThen (State.releaseRings_keeps ..)
      |>.andThen (State.dropHosts_keeps ..)
  have hreset : Keeps finishWrites released reset :=
    (released.resetMargins_keeps ..).mono.andThen (State.resetMargins_keeps ..) |>.andThen (State.resetMargins_keeps ..)
  have hend := hcleared.trans hreleased |>.trans hreset |>.trans
    (.foldl (fun u n => (u.set_keeps LNK_LAT_PHYMIN n 0xFFFF).mono) (reset.listed LNK_LAT_PHYMIN) reset)
  exact hheaded.ckpGoes.trans (headed.withCkp_ckpStands { headed.ckp with extWrites := [] }).toCkpGoes |>.trans hend.ckpGoes

theorem State.takeComplete_ckpGoes (s : State) (v : Nat) : s.CkpGoes (s.takeComplete v) := by
  have hpaused (e : Nat) : s.CkpGoes (s.finishCheckpoint.endPause e).heldPlan :=
    s.finishCheckpoint_ckpGoes.trans ((State.endPause_ckpStands ..).trans (State.heldPlan_ckpStands _)).toCkpGoes
  unfold State.takeComplete
  split
  · exact (State.CkpStands.refl s).toCkpGoes
  · extract_lets finished held _ resumed
    split
    · exact (hpaused _).trans (held.withCkp_ckpStands _ (.addTarget held.ckp _)).toCkpGoes
    · exact (hpaused v).trans (resumed.setStroke_keeps _).ckpStands.toCkpGoes

theorem State.masterComplete_ckpGoes (s : State) : s.CkpGoes s.masterComplete := by
  have hcompletes (u : State) (v : Nat) :
      u.CkpGoes (((u.setCkp { u.ckp with reports := u.ckp.reports.filter (fun r => !isDone r.kind) }).announce 6 v).takeComplete v) :=
    ((u.withCkp_ckpStands _).trans (State.announce_ckpStands ..)).toCkpGoes.trans (State.takeComplete_ckpGoes ..)
  unfold State.masterComplete
  split
  · extract_lets kinds agree
    have htime : s.CkpGoes (if agree && !s.holdDue then s.resumeTime else (holdValue, s)).2 := by
      split
      · exact s.resumeTime_keeps.ckpStands.toCkpGoes
      · exact (State.CkpStands.refl s).toCkpGoes
    exact htime.trans (hcompletes _ _)
  · exact (State.CkpStands.refl s).toCkpGoes

theorem State.noteDone_ckpGoes (s : State) (origin kind value : Nat) : s.CkpGoes (s.noteDone origin kind value) := by
  unfold State.noteDone
  split
  · exact (s.counting_ckpStands _ isDone).toCkpGoes.trans (State.masterComplete_ckpGoes _)
  · exact (State.CkpStands.refl s).toCkpGoes

/-- A module that is not the time master counts no report. -/
theorem State.noteDone_follower (s : State) (origin kind value : Nat) (h : s.isMaster = false) : s.noteDone origin kind value = s := by
  rw [State.noteDone, h]
  rfl

theorem State.noteRestored_follower (s : State) (origin value : Nat) (h : s.isMaster = false) : s.noteRestored origin value = s := by
  rw [State.noteRestored, h]
  rfl

end Sys2Proof.Machine
end

section
/-! SUPPORT. Restores (08 R240 to R242): what each part writes, what stands in the checkpoint unit, and what a restore that cannot complete leaves. -/

namespace Sys2Proof.Machine

set_option Elab.async false

/-! ### Cells, tiles and what lies beside them -/

theorem State.rewindLanes_keeps (s : State) : Keeps { lanes := true } s s.rewindLanes := { Keeps.refl _ s with lanes := nofun }

theorem State.rewindHosts_keeps (s : State) : Keeps { hostVals := true } s s.rewindHosts := { Keeps.refl _ s with hostVals := nofun }

theorem State.restoreOne_keeps (s : State) (slot resume c : Nat) : Keeps { regs := [.cell], cells := true } s (s.restoreOne slot resume c) :=
  (s.setCell_keeps ..).mono.andThen (State.set_keeps ..) |>.andThen (State.set_keeps ..)

theorem State.restoreMoved_keeps (s : State) (slot resume : Nat) : Keeps { regs := [.cell], cells := true } s (s.restoreMoved slot resume) :=
  .foldl (fun s _ => s.restoreOne_keeps ..) _ s

theorem State.unwind_keeps (s : State) (t n : Nat) : Keeps { mem := true } s (s.unwind t n) := .foldl (fun s _ => s.setNum_keeps ..) _ s

theorem State.reapply_keeps (s : State) (t : Nat) : Keeps { mem := true } s (s.reapply t) := .foldl (fun s _ => s.setBytes_keeps ..) _ s

theorem State.unwindTile_keeps (s : State) (t : Nat) : Keeps { mem := true, tiles := true } s (s.unwindTile t) :=
  (s.unwind_keeps ..).mono.andThen (State.reapply_keeps ..) |>.andThen (State.setTile_keeps ..)

/-- The writes of a restore beside the stroke number. -/
def restoreWrites : Writes := { regs := [.cell], cells := true, mem := true, tiles := true }

theorem State.restoreTile_keeps (s : State) (slot resume t : Nat) : Keeps restoreWrites s (s.restoreTile slot resume t) :=
  Keeps.andThen (.foldl (fun s c => (s.restoreOne_keeps ..).mono) _ s) (State.unwindTile_keeps ..)

/-- A restore puts back cells and tiles, and then the stroke number. -/
theorem State.restoreAll_eq (s : State) (slot resume : Nat) :
    ∃ u, Keeps restoreWrites s u ∧ s.restoreAll slot resume = u.set CLK_STROKE_NO_STROKE_NO 0 resume := by
  unfold State.restoreAll
  extract_lets waiting restored
  have hw : Keeps restoreWrites s waiting := .foldl (fun s t => (s.setTile_keeps ..).mono) _ s
  exact ⟨restored, hw.trans (.foldl (fun s t => s.restoreTile_keeps ..) _ waiting), rfl⟩

theorem State.restoreAll_keeps (s : State) (slot resume : Nat) :
    Keeps { restoreWrites with regs := [.cell, .clk] } s (s.restoreAll slot resume) := by
  obtain ⟨u, hu, heq⟩ := s.restoreAll_eq slot resume
  rw [heq]
  exact hu.mono.andThen (u.set_keeps ..)

theorem State.restoreAll_ckpStands (s : State) (slot resume : Nat) : s.CkpStands (s.restoreAll slot resume) := by
  obtain ⟨u, hu, heq⟩ := s.restoreAll_eq slot resume
  rw [heq]
  exact hu.ckpStands.trans (u.set_ckpStands ..)

/-! ### A restore that cannot complete (08 R242, R255) -/

theorem State.lost_keeps (s : State) (t l resume : Nat) : Keeps faultWrites s (s.lost t l resume) :=
  (s.raise_keeps ..).mono.andThen (State.fault_keeps ..)

theorem lost_mem_lossFlags : CKP_STAT_LOST ∈ lossFlags := .tail _ (.head _)

theorem State.lost_ckpStands (s : State) (t l resume : Nat) : s.CkpStands (s.lost t l resume) :=
  (s.raise_lossFlag_ckpStands _ lost_mem_lossFlags).trans (State.fault_ckpStands ..)

theorem State.flag_lost (s : State) (t l resume : Nat) : (s.lost t l resume).flag CKP_STAT_LOST = true :=
  (State.fault_ckpStands (s.raise CKP_STAT_LOST) ..).flag _ lost_mem_lossFlags (s.flag_raise_self _ _ (by decide))

/-- No restore is in progress. -/
def State.restoreEnded (s : State) : State := s.setCkp { s.ckp with restoring := false }

@[simp] theorem State.restoring_restoreEnded (s : State) : s.restoreEnded.ckp.restoring = false := rfl

theorem State.restoreEnded_keeps (s : State) : Keeps { ckp := true } s s.restoreEnded := s.withCkp_keeps _

theorem State.restoreEnded_ckpStands (s : State) : s.CkpStands s.restoreEnded :=
  s.withCkp_ckpStands _ ⟨rfl, rfl, rfl, id, fun _ => rfl, List.Subset.refl _⟩

/-- The restore is given up, and the checkpoint is lost. -/
def State.abandon (s : State) (t l resume : Nat) : State := s.restoreEnded.lost t l resume

theorem State.abandon_keeps (s : State) (t l resume : Nat) : Keeps faultWrites s (s.abandon t l resume) :=
  s.restoreEnded_keeps.mono.trans (State.lost_keeps ..)

theorem State.abandon_ckpStands (s : State) (t l resume : Nat) : s.CkpStands (s.abandon t l resume) :=
  s.restoreEnded_ckpStands.trans (State.lost_ckpStands ..)

theorem State.abandon_lost (s : State) (t l resume : Nat) :
    (s.abandon t l resume).flag CKP_STAT_LOST = true ∧ (s.abandon t l resume).ckp.restoring = false :=
  ⟨State.flag_lost .., (State.lost_ckpStands ..).ckp.restored s.restoring_restoreEnded⟩

/-! ### RESTORE (08 R239, R240) -/

theorem State.badRecord_keeps (s : State) (slot : Nat) (bad : Option (Tile × Fin 1024 × Fin 576)) :
    Keeps touchWrites s (s.badRecord slot bad).1 := by
  cases bad with
  | none => exact .refl _ s
  | some b => exact s.hbmTouch_keeps ..

theorem State.badRecord_ckpStands (s : State) (slot : Nat) (bad : Option (Tile × Fin 1024 × Fin 576)) : s.CkpStands (s.badRecord slot bad).1 := by
  cases bad with
  | none => exact .refl s
  | some b => exact s.hbmTouch_ckpStands ..

/-- The writes of a restore with what its reads meet. -/
def restoreReadWrites : Writes := { touchWrites with regs := .cell :: touchWrites.regs, cells := true }

/-- A restore reads a record that may be bad, and then restores everything or gives up. -/
theorem State.restoreFrom_cases (s : State) (slot r : Nat) (bad : Option (Tile × Fin 1024 × Fin 576)) :
    ∃ b, s.restoreFrom slot r bad = (s.badRecord slot b).1.restoreAll slot r ∨
      ∃ t l, s.restoreFrom slot r bad = (s.badRecord slot b).1.abandon t l r := by
  unfold State.restoreFrom
  split
  next t _ => exact ⟨none, .inr ⟨t, s.firstRecord t, rfl⟩⟩
  next => exact ⟨none, .inl rfl⟩
  next t l k _ =>
    refine ⟨some (t, l, k), ?_⟩
    split
    · exact .inr ⟨t.val, l.val, rfl⟩
    · exact .inl rfl

theorem State.restoreFrom_keeps (s : State) (slot r : Nat) (bad : Option (Tile × Fin 1024 × Fin 576)) :
    Keeps restoreReadWrites s (s.restoreFrom slot r bad) := by
  obtain ⟨b, heq | ⟨t, l, heq⟩⟩ := s.restoreFrom_cases slot r bad
  · rw [heq]
    exact (s.badRecord_keeps ..).mono.andThen (State.restoreAll_keeps ..)
  · rw [heq]
    exact (s.badRecord_keeps ..).mono.andThen (State.abandon_keeps ..)

theorem State.restoreFrom_ckpStands (s : State) (slot r : Nat) (bad : Option (Tile × Fin 1024 × Fin 576)) :
    s.CkpStands (s.restoreFrom slot r bad) := by
  obtain ⟨b, heq | ⟨t, l, heq⟩⟩ := s.restoreFrom_cases slot r bad
  · rw [heq]
    exact (s.badRecord_ckpStands ..).trans (State.restoreAll_ckpStands ..)
  · rw [heq]
    exact (s.badRecord_ckpStands ..).trans (State.abandon_ckpStands ..)

/-- H, the last stroke that has run: in replay what it was before (08 R240). -/
def State.lastRun (s : State) : Nat := if s.flag CKP_STAT_REPLAY then max s.stroke.no (s.get CKP_HWM_STROKE) else s.stroke.no

theorem Keeps.lastRun {w : Writes} {s t : State} (h : Keeps w s t) (hs : w.stroke = false) (hr : Bank.ckp ∉ w.regs) : t.lastRun = s.lastRun := by
  rw [State.lastRun, State.lastRun, h.flag CKP_STAT_REPLAY 0 hr, h.regs CKP_HWM_STROKE 0 hr, h.stroke hs]

/-- No stroke starts, and host values and the orders of beats are as a rollback finds them. -/
def State.rewound (s : State) : State := (s.setStroke { s.stroke with nextAt := none }).rewindHosts.rewindLanes

theorem State.rewound_keeps (s : State) : Keeps { stroke := true, hostVals := true, lanes := true } s s.rewound :=
  (s.setStroke_keeps _).mono.andThen (State.rewindHosts_keeps _) |>.andThen (State.rewindLanes_keeps _)

/-- RESTORE in HOLD: H is recorded, the resume stroke is noted, and no stroke starts (08 R240). -/
theorem State.takeRestore_inHold (s : State) (r : Nat) (bad : Option (Tile × Fin 1024 × Fin 576)) (h : s.mode = .hold) :
    (s.takeRestore r bad).mode = .hold ∧ (s.takeRestore r bad).ckp.restoreTo = some r ∧ (s.takeRestore r bad).stroke.nextAt = none ∧
      (s.takeRestore r bad).get CKP_HWM_STROKE = s.lastRun % 2 ^ 64 := by
  rw [State.takeRestore, if_neg (by rw [h]; decide), if_neg (not_not.mpr h)]
  extract_lets hwm slot _ u
  have hhwm : u.get CKP_HWM_STROKE = s.lastRun % 2 ^ 64 := s.get_set_self CKP_HWM_STROKE 0 hwm
  have hstands : u.CkpStands (u.rewound.restoreFrom slot r bad) := u.rewound_keeps.ckpStands.trans (State.restoreFrom_ckpStands ..)
  have hstroke : (u.rewound.restoreFrom slot r bad).stroke = u.rewound.stroke := (State.restoreFrom_keeps ..).stroke rfl
  exact ⟨hstands.mode.trans h, hstands.ckp.restoreTo, congrArg StrokeSt.nextAt hstroke,
    (hstands.get CKP_HWM_STROKE (.tail _ (.head _))).trans hhwm⟩

/-- The master restores to the last complete checkpoint (08 R239). -/
theorem State.masterRestore_inHold (s : State) (bad : Option (Tile × Fin 1024 × Fin 576)) (h : s.mode = .hold) :
    (s.masterRestore bad).mode = .hold ∧ (s.masterRestore bad).ckp.restoreTo = some (s.get CKP_LAST_STROKE) ∧
      (s.masterRestore bad).stroke.nextAt = none ∧ (s.masterRestore bad).get CKP_HWM_STROKE = s.lastRun % 2 ^ 64 := by
  have ha := s.announce_keeps 0xA (s.get CKP_LAST_STROKE)
  have hr := State.takeRestore_inHold _ (s.get CKP_LAST_STROKE) bad ((ha.mode rfl).trans h)
  rw [ha.lastRun rfl (by decide)] at hr
  exact hr

/-! ### RESTORE_DONE (08 R242) -/

/-- The restore, the unwind and the commits are done, and HOLDOFF is 0. -/
def State.restoreComplete (s : State) : Prop :=
  s.mode = .hold ∧ s.ckp.restoring ∧ s.noCommit ∧ !s.flag CKP_CTL_HOLDOFF ∧ s.tilesRestored

theorem State.not_restoreComplete (s : State) (h : s.mode ≠ .hold ∨ s.ckp.restoring = false ∨ s.noCommit = false ∨
    s.flag CKP_CTL_HOLDOFF = true ∨ s.tilesRestored = false) : ¬ s.restoreComplete := by
  rintro ⟨hhold, hrestoring, hcommit, hoff, htiles⟩
  rcases h with h | h | h | h | h
  · exact h hhold
  · exact absurd hrestoring (by simp [h])
  · exact absurd hcommit (by simp [h])
  · exact absurd hoff (by simp [h])
  · exact absurd htiles (by simp [h])

theorem exec_restoreDone (bad : Option (Tile × Fin 1024 × Fin 576)) (jbad : Option (Tile × Nat)) (fixed : List Tile) (s : State) :
    exec (.restoreDone bad jbad fixed) s = execRestoreDone s bad jbad fixed := rfl

theorem exec_restoreDone_readable (r : Nat) (s : State) (hr : s.ckp.restoreTo = some r) (hc : s.restoreComplete) :
    exec .restoreDone s = .next (s.reportRestored r) := by
  rw [exec_restoreDone, execRestoreDone, hr]
  exact if_pos hc

/-- A record that a command names and that its tile cannot rebuild is gone. -/
theorem exec_restoreDone_unreadable (tl : Tile) (lc : Fin 1024) (k : Fin 576) (jbad : Option (Tile × Nat)) (fixed : List Tile) (r : Nat) (s : State)
    (hr : s.ckp.restoreTo = some r) (hc : s.restoreComplete) (hp : s.parityIntact tl.val 0 = false) :
    ∃ u, exec (.restoreDone (some (tl, lc, k)) jbad fixed) s = .next (State.abandon u tl.val lc.val r) := by
  have hgone : (s.badRecord (s.get CKP_STAT_LASTSLOT) (some (tl, lc, k))).2 = true := s.hbmTouch_unreadable _ _ hp
  rw [exec_restoreDone, execRestoreDone, hr]
  simp only [State.restoreComplete] at hc
  simp only [hc, and_self, if_true, hgone]
  exact ⟨_, rfl⟩

/-- So is an entry of a journal; the checkpoint is lost with the first record of its tile (log 193). -/
theorem exec_restoreDone_journalUnreadable (tl : Tile) (k : Nat) (fixed : List Tile) (r : Nat) (s : State) (hr : s.ckp.restoreTo = some r)
    (hc : s.restoreComplete) (hp : s.parityIntact tl.val 0 = false) :
    ∃ u l, exec (.restoreDone none (some (tl, k)) fixed) s = .next (State.abandon u tl.val l r) := by
  have hgone : (s.badJournal (some (tl, k))).2 = true := s.hbmTouch_unreadable _ _ hp
  rw [exec_restoreDone, execRestoreDone, hr]
  simp only [State.restoreComplete] at hc
  simp only [hc, and_self, if_true, State.badRecord, hgone]
  exact ⟨_, _, rfl⟩

theorem exec_restoreDone_notYet (bad : Option (Tile × Fin 1024 × Fin 576)) (jbad : Option (Tile × Nat)) (fixed : List Tile) (s : State)
    (h : ¬ s.restoreComplete) : exec (.restoreDone bad jbad fixed) s = .next s := by
  rw [exec_restoreDone]
  unfold execRestoreDone
  split
  · exact if_neg h
  · rfl

theorem State.haltAgain_ckpStands (s : State) (r : Nat) : s.CkpStands (s.haltAgain r) := by
  unfold State.haltAgain
  exact .ite (s.requestHold_ckpStands _) (.refl s)

theorem State.reportRestored_eq (s : State) (r : Nat) : s.reportRestored r =
    ((((s.restoreMoved (s.get CKP_STAT_LASTSLOT) r).haltAgain r).restoreEnded).announce 7 r).noteRestored serialLow r := rfl

theorem State.reportRestored_ends (s : State) (r : Nat) : s.CkpStands (s.reportRestored r) ∧ (s.reportRestored r).ckp.restoring = false := by
  have hu : s.CkpStands ((s.restoreMoved (s.get CKP_STAT_LASTSLOT) r).haltAgain r) :=
    (s.restoreMoved_keeps ..).ckpStands.trans (State.haltAgain_ckpStands ..)
  have hreport (v : State) : v.CkpStands ((v.announce 7 r).noteRestored serialLow r) :=
    (v.announce_ckpStands ..).trans (State.noteRestored_ckpStands ..)
  rw [State.reportRestored_eq]
  generalize (s.restoreMoved (s.get CKP_STAT_LASTSLOT) r).haltAgain r = u at hu ⊢
  exact ⟨hu.trans u.restoreEnded_ckpStands |>.trans (hreport _), (hreport u.restoreEnded).ckp.restored u.restoring_restoreEnded⟩

/-- Without a HALT stroke and moved cells, a module that is not the master announces RESTORED and does no more. -/
theorem State.reportRestored_quiet (s : State) (r : Nat) (hv : s.flag TRC_HSTROKE_VALID = false) (hm : s.isMaster = false)
    (hmoved : ∀ c ∈ s.liveCells, (s.cell c).moved = false) :
    s.reportRestored r = s.restoreEnded.announce 7 r := by
  have hnone : s.liveCells.filter (fun c => (s.cell c).moved) = [] := List.filter_eq_nil_iff.mpr (fun c hc => by simp [hmoved c hc])
  have hstill : s.restoreMoved (s.get CKP_STAT_LASTSLOT) r = s := by rw [State.restoreMoved, hnone, List.foldl_nil]
  have hhalt : s.haltAgain r = s := by simp [State.haltAgain, hv]
  have hfollower : (s.restoreEnded.announce 7 r).isMaster = false :=
    (s.restoreEnded_ckpStands.trans (State.announce_ckpStands ..)).isMaster.trans hm
  rw [State.reportRestored_eq, hstill, hhalt, State.noteRestored_follower _ _ _ hfollower]

end Sys2Proof.Machine
end

section
/-! SUPPORT. Slot preparation (08 R225): the record of a cell, the errors that its lines meet, and the drain that waited for it. -/

namespace Sys2Proof.Machine

set_option Elab.async false

theorem State.prepareErrs_keeps (s : State) (c : Nat) (errs : LineErrs) : Keeps touchWrites s (s.prepareErrs c errs) :=
  .foldl (fun s _ => s.hbmTouch_keeps ..) _ s

theorem State.prepareCell_keeps (s : State) (c : Nat) : Keeps { cells := true, mem := true } s (s.prepareCell c) := by
  unfold State.prepareCell
  extract_lets x t l src dst u
  have hu : Keeps { cells := true, mem := true } s u := .foldl (fun s n => (s.setBytes_keeps ..).mono) _ s
  exact hu.andThen (u.setCell_keeps ..)

theorem State.cell_prepareCell (s : State) (c : Nat) : (s.prepareCell c).cell c = { s.cell c with prepared := true, prepAll := false } :=
  State.cell_setCell_self ..

/-- A cell that drains changes in that alone (08 R226). -/
theorem State.cell_drainCell (s : State) (c : Nat) : ∃ last, (s.drainCell c).cell c = { s.cell c with drained := true, drainedAt := last } := by
  unfold State.drainCell
  extract_lets x t l cur b put last u
  have hu : u.cell c = { x with drained := true, drainedAt := last } := by
    have hparity : Keeps cellFaultWrites (s.setCell c { x with drained := true, drainedAt := last }) u :=
      .foldl (fun s e => s.cellParity_keeps ..) _ _
    exact (hparity.cell rfl c).trans (s.cell_setCell_self ..)
  have hput : Keeps { mem := true } u (put u) :=
    (u.putUnits_keeps ..).trans (State.putLines_keeps ..) |>.trans (State.putMasks_keeps ..)
  refine ⟨last, ?_⟩
  split
  · exact ((u.ckpFail_keeps 2).cell rfl c).trans hu
  · exact (hput.cell rfl c).trans hu

/-- The record of a cell is up to date. -/
def State.recordPrepared (s : State) (c : Nat) (errs : LineErrs) : State := (s.prepareErrs c errs).prepareCell c

/-- A drain that waited for it goes on. -/
def State.slotPrepared (s : State) (c : Nat) (errs : LineErrs) : State :=
  let u := s.recordPrepared c errs
  if u.inCheckpoint && u.stroke.flipped && !(u.cell c).drained then u.drainCell c else u

theorem exec_slotPreparation (tl : Tile) (lc : Fin 1024) (errs : LineErrs) (c : Nat) (s : State) (hc : s.liveL tl.val lc.val = some c)
    (hrun : s.mode = .run) (hp : (s.cell c).prepared = false) (hq : (s.tile (c / 1088)).memq = []) :
    exec (.slotPreparation tl lc errs) s = .next (s.slotPrepared c errs) := by
  show execSlotPreparation tl lc s errs = _
  rw [execSlotPreparation, hc]
  exact (if_pos (by simp [hrun, hp, hq])).trans (apply_ite Host.Outcome.next ..).symm

theorem exec_slotPreparation_waits (tl : Tile) (lc : Fin 1024) (c : Nat) (s : State) (hc : s.liveL tl.val lc.val = some c)
    (hq : (s.tile (c / 1088)).memq ≠ []) : exec (.slotPreparation tl lc) s = .next s := by
  show execSlotPreparation tl lc s = _
  rw [execSlotPreparation, hc]
  exact if_neg (by simp [hq])

theorem State.cell_recordPrepared (s : State) (c : Nat) (errs : LineErrs) :
    (s.recordPrepared c errs).cell c = { s.cell c with prepared := true, prepAll := false } := by
  rw [State.recordPrepared, State.cell_prepareCell, (s.prepareErrs_keeps c errs).cell rfl]

theorem State.slotPrepared_prepared (s : State) (c : Nat) (errs : LineErrs) :
    ((s.slotPrepared c errs).cell c).prepared = true ∧ ((s.slotPrepared c errs).cell c).prepAll = false := by
  have hcell := s.cell_recordPrepared c errs
  obtain ⟨last, hdrain⟩ := (s.recordPrepared c errs).cell_drainCell c
  unfold State.slotPrepared
  extract_lets u
  split
  · rw [hdrain, hcell]
    exact ⟨rfl, rfl⟩
  · rw [hcell]
    exact ⟨rfl, rfl⟩

theorem State.recordPrepared_keeps (s : State) (c : Nat) : Keeps { cells := true, mem := true } s (s.recordPrepared c []) := s.prepareCell_keeps c

theorem Keeps.inCheckpoint {w : Writes} {s t : State} (h : Keeps w s t) (hm : w.mode = false) (hs : w.stroke = false) (hc : w.ckp = false)
    (hr : Bank.ckp ∉ w.regs) : t.inCheckpoint = s.inCheckpoint := by
  rw [State.inCheckpoint, State.inCheckpoint, h.inCkpStroke hm hs hr, h.ckp hc]

theorem State.slotPrepared_drained (s : State) (c : Nat) (hin : s.inCheckpoint = true) (hf : s.stroke.flipped = true) :
    ((s.slotPrepared c []).cell c).drained = true := by
  have hk := s.recordPrepared_keeps c
  have hin' := (hk.inCheckpoint rfl rfl rfl (by decide)).trans hin
  have hf' := (congrArg StrokeSt.flipped (hk.stroke rfl)).trans hf
  obtain ⟨last, hdrain⟩ := (s.recordPrepared c []).cell_drainCell c
  unfold State.slotPrepared
  extract_lets u
  split
  · rw [hdrain]
  next hn => simpa [u, hin', hf'] using hn

theorem State.slotPrepared_keeps (s : State) (c : Nat) (hin : s.inCheckpoint = false) :
    Keeps { cells := true, mem := true } s (s.slotPrepared c []) := by
  have hk := s.recordPrepared_keeps c
  have hin' := (hk.inCheckpoint rfl rfl rfl (by decide)).trans hin
  unfold State.slotPrepared
  extract_lets u
  rw [if_neg (by simp [u, hin'])]
  exact hk

end Sys2Proof.Machine
end

section
/-! SUPPORT. Adoption and the fence (08 R246, R255): what an adopted checkpoint leaves, and the lanes on which the fence is announced. -/

namespace Sys2Proof.Machine

set_option Elab.async false

/-! ### Adoption (08 R255) -/

theorem State.dropScheduled_keeps (s : State) : Keeps { sends := true, flits := true, lanes := true } s s.dropScheduled :=
  { Keeps.refl _ s with sends := nofun, flits := nofun, lanes := nofun }

theorem State.freshLogs_keeps (s : State) (t : Nat) : Keeps { tiles := true } s (s.freshLogs t) := s.setTile_keeps ..

/-- The mode is m, and the partners know it where its code is another (08 R246). -/
theorem State.enter_keeps (s : State) (m : Mode) : Keeps { mode := true, lanes := true } s (s.enter m) := by
  have hmode : Keeps { mode := true, lanes := true } s { s with mode := m } := { Keeps.refl _ s with mode := nofun }
  exact .ite hmode (hmode.andThen (State.sendPstat_keeps _))

theorem State.mode_enter (s : State) (m : Mode) : (s.enter m).mode = m := by
  unfold State.enter
  extract_lets t
  split
  · rfl
  · exact t.sendPstat_keeps.mode rfl

theorem State.reportHold_inRollback (s : State) (k : Nat) (h : s.ckp.restoreTo.isSome = true) :
    Keeps announceWrites s (s.reportHold k) ∧ s.CkpStands (s.reportHold k) := by
  have ha := s.announce_ckpStands s.heldKind k
  have hnote := State.noteHeld_inRollback (s.announce s.heldKind k) serialLow s.heldKind k (ha.ckp.restoreTo ▸ h)
  rw [State.reportHold, hnote]
  exact ⟨(s.announce_keeps ..).trans (.ite (State.counting_keeps ..).mono (.refl _ _)), ha.trans (.ite (State.counting_ckpStands ..) (.refl _))⟩

theorem ofLe_lt (l : List Nat) : ofLe l < 256 ^ l.length := by
  induction l with
  | nil => decide
  | cons b t ih =>
    rw [ofLe, List.length_cons, pow_succ]
    omega

theorem State.length_bytes (s : State) (a n : Nat) : (s.bytes a n).length = n := by
  induction n generalizing a with
  | zero => rfl
  | succ n ih => rw [State.bytes, List.length_cons, ih]

theorem State.num_lt (s : State) (a n : Nat) : s.num a n < 256 ^ n := by
  have h := ofLe_lt ((s.bytes a n).map (·.toNat))
  rwa [List.length_map, s.length_bytes] at h

/-- A checkpoint with resume stroke r in slot A is noted as the last complete one, and a rollback to it has begun. -/
def State.adoptNoted (s : State) (r : Nat) : State :=
  let u := (((s.lower CKP_STAT_LASTSLOT).set CKP_LAST_STROKE 0 r).set CLK_PAUSE_ACC_ACC 0 0).set CKP_HWM_STROKE 0 (r - 1)
  let v := u.setStroke { u.stroke with no := r - 1, started := false, nextAt := none, endLast := u.tb, period := u.get CLK_STROKE_CFG_PERIOD }
  v.setCkp { v.ckp with restoreTo := some r, restoring := true, reports := [], waitFrom := some v.tb, holdTargets := [], cause := [],
                        faultAt := none, rolledBack := false, extWrites := [] }

/-- No record is left to replay. -/
def State.logsForgotten (s : State) : State :=
  s.liveTiles.foldl (fun (u : State) t => u.freshLogs t) { s with hostVals := s.hostVals.filter (!·.written) }

/-- The checkpoint is restored with no scheduled traffic, and the module holds. -/
def State.adoptRestored (s : State) (r : Nat) : State := (s.logsForgotten.dropScheduled.rewindLanes.restoreAll 0 r).enter .hold

/-- A valid slot A is adopted in READY. -/
theorem State.adopt_valid (s : State) (hm : s.mode = .ready) (hl : s.lostTile 0 = none) : s.adopt =
    (((s.adoptNoted (s.num (s.slotBase 0 0) 8)).adoptRestored (s.num (s.slotBase 0 0) 8)).traceEvent TRC_FRZ_ONHOLD 4).reportHold
      (s.num (s.slotBase 0 0) 8 - 1) := by
  rw [State.adopt, if_neg (not_not.mpr hm), hl]
  rfl

theorem State.get_adoptNoted_last (s : State) (r : Nat) (h : r < 2 ^ 64) : (s.adoptNoted r).get CKP_LAST_STROKE = r := by
  have hset := (s.lower CKP_STAT_LASTSLOT).get_set_self CKP_LAST_STROKE 0 r
  have hlater := (State.get_set_field (((s.lower CKP_STAT_LASTSLOT).set CKP_LAST_STROKE 0 r).set CLK_PAUSE_ACC_ACC 0 0) CKP_HWM_STROKE
    CKP_LAST_STROKE 0 0 (r - 1) (by decide)).trans (State.get_set_field _ CLK_PAUSE_ACC_ACC CKP_LAST_STROKE 0 0 0 (by decide))
  exact (hlater.trans hset).trans (Nat.mod_eq_of_lt h)

theorem State.get_adoptNoted_slot (s : State) (r : Nat) : (s.adoptNoted r).get CKP_STAT_LASTSLOT = 0 := by
  have hclear := s.get_lower_of_held CKP_STAT_LASTSLOT 0 (CycleSt.held_of_not_joins _ _ _ rfl)
  have hlater := (State.get_set_field (((s.lower CKP_STAT_LASTSLOT).set CKP_LAST_STROKE 0 r).set CLK_PAUSE_ACC_ACC 0 0) CKP_HWM_STROKE
    CKP_STAT_LASTSLOT 0 0 (r - 1) (by decide)).trans (State.get_set_field _ CLK_PAUSE_ACC_ACC CKP_STAT_LASTSLOT 0 0 0 (by decide))
      |>.trans (State.get_set_field _ CKP_LAST_STROKE CKP_STAT_LASTSLOT 0 0 r (by decide))
  exact hlater.trans hclear

/-- The writes of an adoption after its registers and its bookkeeping. -/
def adoptWrites : Writes :=
  { regs := [.cell, .clk], mode := true, cells := true, mem := true, tiles := true, hostVals := true, sends := true, flits := true,
    lanes := true }

theorem State.logsForgotten_keeps (s : State) : Keeps { hostVals := true, tiles := true } s s.logsForgotten := by
  have hvals : Keeps { hostVals := true, tiles := true } s { s with hostVals := s.hostVals.filter (!·.written) } :=
    { Keeps.refl _ s with hostVals := nofun }
  exact hvals.trans (.foldl (fun u t => (u.freshLogs_keeps t).mono) _ _)

theorem State.adoptRestored_keeps (s : State) (r : Nat) : Keeps adoptWrites s (s.adoptRestored r) :=
  s.logsForgotten_keeps.mono.andThen (State.dropScheduled_keeps _) |>.andThen (State.rewindLanes_keeps _)
    |>.andThen (State.restoreAll_keeps ..) |>.andThen (State.enter_keeps ..)

/-- The adopted checkpoint is the last complete one, and the module holds before its resume stroke (08 R255). -/
theorem State.adopt_adopts (s : State) (hm : s.mode = .ready) (hl : s.lostTile 0 = none) :
    s.adopt.mode = .hold ∧ s.adopt.get CKP_LAST_STROKE = s.num (s.slotBase 0 0) 8 ∧ s.adopt.stroke.no = s.num (s.slotBase 0 0) 8 - 1 ∧
      s.adopt.ckp.restoreTo = some (s.num (s.slotBase 0 0) 8) ∧ s.adopt.get CKP_STAT_LASTSLOT = 0 := by
  have hlt := s.num_lt (s.slotBase 0 0) 8
  rw [s.adopt_valid hm hl]
  generalize s.num (s.slotBase 0 0) 8 = r at hlt ⊢
  have hrestored := (s.adoptNoted r).adoptRestored_keeps r
  have hmode : ((s.adoptNoted r).adoptRestored r).mode = .hold := State.mode_enter ..
  have hto : ((s.adoptNoted r).adoptRestored r).ckp.restoreTo = some r := congrArg CkpSt.restoreTo (hrestored.ckp rfl)
  have hno : ((s.adoptNoted r).adoptRestored r).stroke.no = r - 1 := congrArg StrokeSt.no (hrestored.stroke rfl)
  have hlast := (hrestored.regs CKP_LAST_STROKE 0 (by decide)).trans (s.get_adoptNoted_last r hlt)
  have hslot := (hrestored.regs CKP_STAT_LASTSLOT 0 (by decide)).trans (s.get_adoptNoted_slot r)
  generalize (s.adoptNoted r).adoptRestored r = u at hmode hto hno hlast hslot ⊢
  have hfrozen := u.traceEvent_ckpStands TRC_FRZ_ONHOLD 4
  obtain ⟨hkeeps, hreported⟩ := State.reportHold_inRollback (u.traceEvent TRC_FRZ_ONHOLD 4) (r - 1) (by rw [hfrozen.ckp.restoreTo, hto]; rfl)
  have hall := hfrozen.trans hreported
  have hstroke := (hkeeps.stroke rfl).trans ((u.traceEvent_keeps TRC_FRZ_ONHOLD 4).stroke rfl)
  exact ⟨hall.mode.trans hmode, (hall.get _ (.tail _ (.tail _ (.head _)))).trans hlast, (congrArg StrokeSt.no hstroke).trans hno,
    hall.ckp.restoreTo.trans hto, (hall.get _ (.tail _ (.tail _ (.tail _ (.head _))))).trans hslot⟩

theorem State.adopt_lost (s : State) (x : Nat) (hm : s.mode = .ready) (hl : s.lostTile 0 = some x) :
    s.adopt = s.lost x (s.firstRecord x) 0 := by
  rw [State.adopt, if_neg (not_not.mpr hm), hl]

/-! ### The fence (08 R246) -/

theorem State.ctl_pushCtl_subset (s : State) (n k : Nat) (m : Ctl) : (s.lane k).ctl ⊆ ((s.pushCtl n m).lane k).ctl := by
  by_cases h : k = n
  · subst h
    rw [State.lane_pushCtl_self]
    exact List.subset_append_left ..
  · rw [show (s.pushCtl n m).lane k = s.lane k from s.lane_setLane_ne _ _ _ h]
    exact List.Subset.refl _

theorem State.ctl_pushAll_subset (l : List Nat) (m : Ctl) (s : State) (k : Nat) : (s.lane k).ctl ⊆ ((s.pushAll l m).lane k).ctl := by
  induction l generalizing s with
  | nil => exact List.Subset.refl _
  | cons n t ih => exact List.Subset.trans (s.ctl_pushCtl_subset n k m) (ih (s.pushCtl n m))

/-- A message to several lanes waits on each of them. -/
theorem State.mem_ctl_pushAll (l : List Nat) (m : Ctl) (s : State) (n : Nat) (h : n ∈ l) : m ∈ ((s.pushAll l m).lane n).ctl := by
  induction l generalizing s with
  | nil => exact absurd h List.not_mem_nil
  | cons k t ih =>
    rcases List.mem_cons.mp h with rfl | ht
    · refine State.ctl_pushAll_subset t m (s.pushCtl n m) n ?_
      rw [State.lane_pushCtl_self]
      exact List.mem_append_right _ (List.mem_singleton.mpr rfl)
    · exact ih (s.pushCtl k m) ht

/-- The fence is announced its lead ahead. -/
theorem exec_fenceLead_due (s : State) (hm : s.mode = .run) (hr : s.flag CKP_STAT_REPLAY = true) (hp : s.ckp.fencePending = true)
    (hlead : s.replayEnd ≤ s.tb + s.get CKP_FENCE_LEAD) :
    exec .fenceLead s = .next ((s.setCkp { s.ckp with fencePending := false }).pushAll s.upLanes s.liveStat) :=
  if_pos (by simp [hm, hr, hp, hlead])

theorem exec_fenceLead_not (s : State) (h : s.mode ≠ .run ∨ s.tb + s.get CKP_FENCE_LEAD < s.replayEnd) : exec .fenceLead s = .next s := by
  refine if_neg (fun hall => ?_)
  simp only [Bool.and_eq_true, beq_iff_eq, decide_eq_true_eq] at hall
  obtain ⟨⟨⟨hrun, -⟩, -⟩, hlead⟩ := hall
  rcases h with h | h
  · exact h hrun
  · exact absurd hlead (Nat.not_le.mpr h)

end Sys2Proof.Machine
end

section
/-! SUPPORT. The reports and the commands of `CKP_CTL` by their conditions, and the statement about them. -/

namespace Sys2Proof.Machine

set_option Elab.async false

/-! ### Reports (08 R226, R229) -/

theorem State.inCheckpoint_iff (s : State) : s.inCheckpoint = true ↔
    s.inStroke = true ∧ s.ckpStroke s.stroke.no = true ∧ s.ckp.failed = false ∧ s.ckp.pauseEnd = none := by
  simp [State.inCheckpoint, and_assoc]

theorem State.mode_of_inCheckpoint (s : State) (h : s.inCheckpoint = true) : s.mode = .run := by
  obtain ⟨hin, -⟩ := s.inCheckpoint_iff.mp h
  rw [State.inStroke, Bool.and_eq_true, beq_iff_eq] at hin
  exact hin.1

theorem State.inCheckpoint_of_drainDone (s : State) (h : s.drainDone = true) : s.inCheckpoint = true := by
  simp only [State.drainDone, Bool.and_eq_true] at h
  obtain ⟨⟨⟨⟨⟨⟨hin, -⟩, -⟩, -⟩, -⟩, -⟩, -⟩ := h
  exact hin

/-- The module has reported its drain. -/
def State.drainReported (s : State) : State :=
  (s.setCkp { s.ckp with reported := true }).announce (2 + s.ckp.swapOutcome) s.stroke.no

theorem State.drainReported_stands (s : State) :
    s.drainReported.mode = s.mode ∧ s.drainReported.ckp.reported = true ∧ s.drainReported.isMaster = s.isMaster := by
  have ha : State.CkpStands (s.setCkp { s.ckp with reported := true }) s.drainReported := State.announce_ckpStands ..
  exact ⟨ha.mode, ha.ckp.reported, ha.isMaster⟩

theorem State.drainReported_keeps (s : State) : Keeps announceWrites s s.drainReported :=
  (s.withCkp_keeps _).mono.trans (State.announce_keeps ..)

theorem State.seqNo_drainReported (s : State) : s.drainReported.ckp.seqNo = (s.ckp.seqNo + 1) % 65536 := State.seqNo_announce ..

theorem exec_doneReport_done (s : State) (h : s.drainDone = true) :
    exec .doneReport s = .next (s.drainReported.noteDone serialLow (2 + s.ckp.swapOutcome) s.stroke.no) := by
  have hno : s.drainReported.stroke.no = s.stroke.no := congrArg StrokeSt.no (s.drainReported_keeps.stroke rfl)
  refine (if_pos h).trans ?_
  show Host.Outcome.next (s.drainReported.noteDone serialLow (2 + s.ckp.swapOutcome) s.drainReported.stroke.no) = _
  rw [hno]

theorem State.mode_of_waitOver (s : State) (h : s.waitOver = true) : s.mode = .hold := by
  unfold State.waitOver at h
  split at h
  · rw [Bool.and_eq_true, beq_iff_eq] at h
    exact h.1
  · exact absurd h Bool.false_ne_true

theorem exec_reportWaitTimeout_inPause (s : State) (hm : s.isMaster = true) (hin : s.inCheckpoint = true) (hr : s.allIn isDone = false)
    (hw : s.waited (s.stroke.tk + s.stroke.period) = true) :
    exec .reportWaitTimeout s = .next ((s.ckpFail 5).reportMissing (s.reportsOf isDone).length 2) :=
  (if_neg (by simp [hm])).trans (if_pos (by simp [hin, hr, hw]))

/-- Reports of a hold, or of a rollback, are missing when the wait for them is over. -/
theorem exec_reportWaitTimeout_inHold (s : State) (hm : s.isMaster = true) (hw : s.waitOver = true)
    (h : s.ckp.restoreTo = none ∧ s.allIn isHeld = false ∨ s.ckp.restoreTo.isSome = true ∧ s.allIn (· == 7) = false) :
    ∃ n kind, exec .reportWaitTimeout s = .next (s.stopForMissing n kind) := by
  have hpause : s.inCheckpoint = false := eq_false_of_ne_true (fun hin => by
    have := (s.mode_of_waitOver hw).symm.trans (s.mode_of_inCheckpoint hin)
    contradiction)
  show ∃ _ _, execReportWaitTimeout s = _
  rw [execReportWaitTimeout, if_neg (by simp [hm]), if_neg (by simp [hpause])]
  rcases h with ⟨hto, hheld⟩ | ⟨hto, hrestored⟩
  · exact ⟨_, _, if_pos (by simp [hw, hto, hheld])⟩
  · have hsome : s.ckp.restoreTo.isNone = false := Option.isNone_eq_false_iff.mpr hto
    rw [if_neg (by simp [Option.isSome_iff_ne_none.mp hto])]
    exact ⟨_, _, if_pos (by simp [hw, hto, hrestored])⟩

/-- A module that is not the time master waits for no report. -/
theorem exec_reportWaitTimeout_follower (s : State) (hm : s.isMaster = false) : exec .reportWaitTimeout s = .next s := if_pos (by simp [hm])

/-! ### Commands of `CKP_CTL` (08 R239, R255; 13 R353) -/

theorem exec_go_on (s : State) (hd : s.domOn 760 = true) : exec .go s = .next s.goCommand := if_pos hd

theorem exec_restoreCommand_on (bad : Option (Tile × Fin 1024 × Fin 576)) (s : State) (hd : s.domOn 760 = true) :
    exec (.restoreCommand bad) s = .next (s.restoreCommand bad) := if_pos hd

theorem exec_adoptWrite_on (s : State) (hd : s.domOn 760 = true) : exec .adoptWrite s = .next s.adopt := if_pos hd

/-- The registers ignore writes while their domain is off. -/
theorem exec_ckpCtl_off (bad : Option (Tile × Fin 1024 × Fin 576)) (s : State) (hd : s.domOn 760 = false) :
    exec .go s = .next s ∧ exec (.restoreCommand bad) s = .next s ∧ exec .adoptWrite s = .next s ∧ exec .swackWrite s = .next s ∧
      exec .reqhold s = .next s := by
  have hoff : ¬ s.domOn 760 = true := by simp [hd]
  exact ⟨if_neg hoff, if_neg hoff, if_neg hoff, if_neg hoff, if_neg hoff⟩

/-- A command that changes nothing answers its state, whether the registers take it or not. -/
theorem next_ite_of_eq {s u : State} {p : Prop} [Decidable p] (h : u = s) :
    (if p then .next u else .next s : Host.Outcome State Fault Refusal) = .next s := by
  rw [h, ite_self]

theorem State.goCommand_allowed (s : State) (hm : s.isMaster = true) (hh : s.mode = .hold) (hg : s.mayGo = true) : s.goCommand = s.masterResume :=
  if_pos (by simp [hm, hh, hg])

/-- Firmware may end a hold without a rollback, or one with a stop, when every report is in and names one stroke. -/
theorem State.mayGo_hold (s : State) (hto : s.ckp.restoreTo = none) (hall : s.allIn isHeld = true) (hsame : s.sameStroke = true)
    (hkinds : (s.reportsOf isHeld).any (fun r => r.kind == 0xB) = true ∨ (s.reportsOf isHeld).all (fun r => r.kind == 8) = true) :
    s.mayGo = true := by
  rw [State.mayGo, if_neg (by simp [hto]), hall, hsame, Bool.true_and, Bool.true_and, Bool.or_eq_true]
  exact hkinds

/-- It may end a rollback that a missing report stopped, when every module has restored. -/
theorem State.mayGo_rollback (s : State) (r : Nat) (hto : s.ckp.restoreTo = some r) (hstop : ∃ q ∈ s.ckp.reports, q.kind = 0xB)
    (hall : s.allIn (· == 7) = true) (hsame : s.sameStroke (· == 7) = true) : s.mayGo = true := by
  obtain ⟨q, hq, hkind⟩ := hstop
  have hsome : (s.reportsOf (· == 0xB)).isEmpty = false :=
    List.isEmpty_eq_false_iff.mpr (List.ne_nil_of_mem (List.mem_filter.mpr ⟨hq, beq_iff_eq.mpr hkind⟩))
  rw [State.mayGo, if_pos (by simp [hto]), hsome, hall, hsame]
  rfl

/-- GO fixes the start of the next stroke. -/
theorem exec_go_resumes (s : State) (hd : s.domOn 760 = true) (hm : s.isMaster = true) (hh : s.mode = .hold) (hg : s.mayGo = true) :
    ∃ t x, exec .go s = .next t ∧ t.stroke.nextAt = some x ∧ s.tb + 4096 ≤ x ∧ t.stroke.nextNo = s.ckp.restoreTo.getD (s.stroke.no + 1) ∧
      Keeps resumeWrites s t := by
  have hstroke := s.stroke_masterResume hh
  refine ⟨s.masterResume, s.resumeTime.1, ?_, by rw [hstroke], s.le_resumeTime, by rw [hstroke], s.masterResume_keeps⟩
  rw [exec_go_on s hd, s.goCommand_allowed hm hh hg]

/-- Settles O19. Each command is followed to the state that it leaves. What a report, a fault or an announcement leaves of the checkpoint unit is the
relation `State.CkpStands`, and what a command leaves alone its `Keeps`. -/
theorem checkpointCommands : Obligations.CheckpointCommands := by
  unfold Obligations.CheckpointCommands
  refine ⟨?doneReport, ?doneReportNone, ?slotPreparation, ?slotPreparationErrors, ?slotPreparationWaits, ?reportWaitTimeout,
    ?reportWaitTimeoutInHold, ?reportWaitTimeoutFollower, ?restoreDone, ?restoreDoneUnreadable, ?restoreDoneJournalUnreadable,
    ?restoreDoneNotYet, ?go, ?goAfterAStop, ?goFollower, ?restoreCommand, ?restoreCommandElsewhere, ?adoptWrite, ?adoptLost,
    ?adoptElsewhere, ?swackWrite, ?registersOff, ?fenceLead, ?fenceLeadElsewhere, ?fenceLeadEarly⟩
  case doneReport =>
    intro s h
    obtain ⟨hmode, hreported, hmaster⟩ := s.drainReported_stands
    have hn := s.drainReported.noteDone_ckpGoes serialLow (2 + s.ckp.swapOutcome) s.stroke.no
    refine ⟨_, exec_doneReport_done s h, hn.ckp.reported.trans hreported,
      (hn.mode.trans hmode).trans (s.mode_of_inCheckpoint (s.inCheckpoint_of_drainDone h)), fun hm => ?_⟩
    rw [State.noteDone_follower _ _ _ _ (hmaster.trans hm)]
    exact ⟨s.seqNo_drainReported, s.drainReported_keeps⟩
  case doneReportNone =>
    intro s h
    exact if_neg (by simp [h])
  case slotPreparation =>
    intro tl lc c s hc hrun hp hq
    obtain ⟨hprep, hall⟩ := s.slotPrepared_prepared c []
    exact ⟨_, exec_slotPreparation tl lc [] c s hc hrun hp hq, hprep, hall, s.slotPrepared_drained c, s.slotPrepared_keeps c⟩
  case slotPreparationErrors =>
    intro tl lc errs c s hc hrun hp hq _
    exact ⟨_, exec_slotPreparation tl lc errs c s hc hrun hp hq, s.slotPrepared_prepared c errs⟩
  case slotPreparationWaits => exact exec_slotPreparation_waits
  case reportWaitTimeout =>
    intro s hm hin hr hw
    obtain ⟨-, -, hnot, -⟩ := s.inCheckpoint_iff.mp hin
    obtain ⟨-, hfailed, hflag, htarget⟩ := s.ckpFail_fails 5 hnot
    have hmissing := State.reportMissing_ckpStands (s.ckpFail 5) (s.reportsOf isDone).length 2
    exact ⟨_, exec_reportWaitTimeout_inPause s hm hin hr hw, hmissing.ckp.failed hfailed, hmissing.flag _ (.head _) hflag,
      hmissing.ckp.targets htarget⟩
  case reportWaitTimeoutInHold =>
    intro s hm hw h
    obtain ⟨n, kind, hexec⟩ := exec_reportWaitTimeout_inHold s hm hw h
    obtain ⟨hmode, hwait, hreport⟩ := s.stopForMissing_stops n kind hm
    exact ⟨_, hexec, hmode.trans (s.mode_of_waitOver hw), hwait, hreport⟩
  case reportWaitTimeoutFollower => exact exec_reportWaitTimeout_follower
  case restoreDone =>
    intro r s hr hh hres hcommit hoff htiles
    obtain ⟨hstands, hended⟩ := s.reportRestored_ends r
    refine ⟨_, exec_restoreDone_readable r s hr ⟨hh, hres, hcommit, by simp [hoff], htiles⟩, hended, hstands.mode.trans hh, ?_⟩
    intro hv hm hmoved
    rw [s.reportRestored_quiet r hv hm hmoved]
    exact ⟨State.seqNo_announce .., s.restoreEnded_keeps.mono.trans (State.announce_keeps ..)⟩
  case restoreDoneUnreadable =>
    intro tl lc k jbad fixed r s hr hh hres hcommit hoff htiles hp
    obtain ⟨u, hexec⟩ := exec_restoreDone_unreadable tl lc k jbad fixed r s hr ⟨hh, hres, hcommit, by simp [hoff], htiles⟩ hp
    exact ⟨_, hexec, u.abandon_lost ..⟩
  case restoreDoneJournalUnreadable =>
    intro tl k fixed r s hr hh hres hcommit hoff htiles hp
    obtain ⟨u, l, hexec⟩ := exec_restoreDone_journalUnreadable tl k fixed r s hr ⟨hh, hres, hcommit, by simp [hoff], htiles⟩ hp
    exact ⟨_, hexec, u.abandon_lost ..⟩
  case restoreDoneNotYet =>
    intro bad jbad fixed s h
    exact exec_restoreDone_notYet bad jbad fixed s (s.not_restoreComplete h)
  case go =>
    intro s hd hm hh hto hall hsame hkinds
    obtain ⟨t, x, hexec, hat, hle, hno, hk⟩ := exec_go_resumes s hd hm hh (s.mayGo_hold hto hall hsame hkinds)
    exact ⟨t, x, hexec, hat, hle, hno.trans (by rw [hto]; rfl), hk⟩
  case goAfterAStop =>
    intro r s hd hm hh hto hstop hall hsame
    obtain ⟨t, x, hexec, hat, hle, hno, hk⟩ := exec_go_resumes s hd hm hh (s.mayGo_rollback r hto hstop hall hsame)
    exact ⟨t, x, hexec, hat, hle, hno.trans (by rw [hto]; rfl), hk⟩
  case goFollower =>
    intro s hm
    exact next_ite_of_eq (if_neg (by simp [hm]))
  case restoreCommand =>
    intro bad s hd hm hh
    have hcommand : s.restoreCommand bad = s.masterRestore bad := if_pos (by simp [hm, hh])
    exact ⟨_, (exec_restoreCommand_on bad s hd).trans (congrArg _ hcommand), s.masterRestore_inHold bad hh⟩
  case restoreCommandElsewhere =>
    intro bad s h
    exact next_ite_of_eq (if_neg (by rcases h with h | h <;> simp [h]))
  case adoptWrite =>
    intro s hd hm hl
    exact ⟨_, exec_adoptWrite_on s hd, s.adopt_adopts hm hl⟩
  case adoptLost =>
    intro x s hd hm hl
    have hk := s.lost_keeps x (s.firstRecord x) 0
    exact ⟨_, (exec_adoptWrite_on s hd).trans (congrArg _ (s.adopt_lost x hm hl)), (hk.mode rfl).trans hm, s.flag_lost .., hk.cells rfl⟩
  case adoptElsewhere =>
    intro s hm
    exact next_ite_of_eq (if_pos hm)
  case swackWrite =>
    intro s hd
    exact ⟨_, if_pos hd, s.flag_raise_self _ _ (by decide), s.raise_keeps CKP_CTL_SWACK 0⟩
  case registersOff => exact exec_ckpCtl_off
  case fenceLead =>
    intro s hm hr hp hlead
    refine ⟨_, exec_fenceLead_due s hm hr hp hlead, (State.pushAll_keeps ..).ckp rfl, fun n hn => State.mem_ctl_pushAll _ _ _ n hn, ?_⟩
    exact (s.withCkp_keeps _).mono.andThen (State.pushAll_keeps ..)
  case fenceLeadElsewhere => exact fun s h => exec_fenceLead_not s (.inl h)
  case fenceLeadEarly => exact fun s h => exec_fenceLead_not s (.inr h)

end Sys2Proof.Machine
end

section
/-! SUPPORT. A walk ahead (11 R316) that moves the PC of its own core, and the statements about instructions that fail there. Such a walk performs the
buffered stores that touch a descriptor, and the stores before them, which may be writes of the core's own debug registers. `State.Issues` and the
clauses about pairs have the group fetched at the PC before the walk, the model at the PC behind it. -/

namespace Sys2Proof.Machine

set_option Elab.async false

/-- While the fetch of a group waits, the pipeline freezes, and nothing else happens but the walk ahead. The fetch is made at the PC behind the walk. -/
theorem State.issue_fetch_waits (s u : State) (n : Nat) (g : Slot) (w : SpecWalk) (i : Info) (eval : State → Run Eff) (post : State → State)
    (hruns : s.issues n = true) (hdue : s.beforeGroup n g.stack = none) (hspec : g.spec = some w) (hwalk : s.specWalk n w = u)
    (hfirst : (u.core n).first = none) (hodd : (u.core n).odd = false) (hdelay : (u.core n).delay ≠ 3) (hskip : (u.core n).skipBp = true)
    (hwait : (u.fetch n ((u.core n).pc % 2 ^ 48) i.len g.err).2 = .error .wait) :
    s.issue n g i eval post = u.setCore n { u.core n with frozen := true } := by
  rcases hfetch : u.fetch n ((u.core n).pc % 2 ^ 48) i.len g.err with ⟨v, r⟩
  obtain rfl : r = .error .wait := (congrArg Prod.snd hfetch).symm.trans hwait
  simp [-Nat.reducePow, State.issue, hruns, hdue, hspec, hwalk, hfirst, hodd, hdelay, hskip, hfetch]

/-! ### A core that debugs itself (18 R486, R487) -/

/-- Core 0 runs from the boot flash, whose device is busy with a command, in a line that its I-cache holds. In its store buffer wait HALT, the PC 0x1040
and RUN for its own debug registers, in this order, and behind them a store to the first descriptor of its page table. -/
def State.selfDebugging : State :=
  { State.reset with
    clockStopped := false
    dom := [(720, 2), (760, 2), (765, 2)]
    regs := [(MGT_FLCTL_BUSY.key 0, 1), (MMU_CTL_EN.key 0, 1), (MMU_TTB0_BASE.key 0, 0x300010000)]
    cores := [(0, { CoreSt.fresh 0x1000 with
      l1 := [⟨1, 0, 0, false, 0x3F0000000, 0, 0, false⟩], icache := [0x3F0000000000 / 64]
      sbuf := [⟨0, 0x300000301000, 8, 1⟩, ⟨0, 0x300000301068, 8, 0x1040⟩, ⟨0, 0x300000301000, 8, 2⟩, ⟨0, 0x300010000000, 8, 0⟩] })] }

/-- An instruction with which the core translates address 0 ahead. -/
def walkingSlot (pair : Bool) : Slot := { pair := pair, err := .none, spec := some ⟨0, false, .none⟩ }

/-- The state behind that walk: the core has halted, has taken the new PC, and runs. -/
def State.selfDebugged : State := State.selfDebugging.walkedAhead 0 (walkingSlot false)

/-- The core there. -/
def CoreSt.moved : CoreSt :=
  { CoreSt.fresh 0x1040 with l1 := [⟨1, 0, 0, false, 0x3F0000000, 0, 0, false⟩], icache := [0x3F0000000000 / 64], skipBp := true }

theorem State.core_selfDebugged : State.selfDebugged.core 0 = CoreSt.moved := by decide +kernel

/-- A fetch at the old PC hits the I-cache and leaves the state as it is. -/
theorem State.fetch_selfDebugged_old : ∀ len ∈ [1, 2, 3], State.selfDebugged.fetch 0 0x1000 len .none = (State.selfDebugged, .ok ()) := by
  decide +kernel

/-- A fetch at the new PC waits for the flash device (13 R375). -/
theorem State.fetch_selfDebugged_new : ∀ len ∈ [1, 2, 3], (State.selfDebugged.fetch 0 0x1040 len .none).2 = .error .wait := by
  decide +kernel

theorem State.selfDebugging_issues (len : Nat) (hlen : len ∈ [1, 2, 3]) :
    State.selfDebugging.Issues 0 (walkingSlot false) len State.selfDebugged where
  runs := by decide +kernel
  due := by decide +kernel
  alone := rfl
  single := rfl
  known := rfl
  even := rfl
  live := nofun
  fetched := State.fetch_selfDebugged_old len hlen

/-- What every instruction leaves of `State.selfDebugging`: the state behind the walk, with a frozen pipeline. -/
def State.selfFrozen : State := State.selfDebugged.setCore 0 { CoreSt.moved with frozen := true }

theorem State.core_selfFrozen : State.selfFrozen.core 0 = { CoreSt.moved with frozen := true } := State.core_setCore_self ..

theorem State.capo_selfDebugging (pair : Bool) (i : Info) (eval : State → Run Eff) (post : State → State) (hlen : i.len ∈ [1, 2, 3]) :
    State.selfDebugging.capo 0 (walkingSlot pair) i eval post = .next State.selfFrozen := by
  obtain ⟨hruns, hdue⟩ : State.selfDebugging.issues 0 = true ∧ State.selfDebugging.beforeGroup 0 = none := by decide +kernel
  have hfrozen := State.selfDebugging.issue_fetch_waits State.selfDebugged 0 (walkingSlot pair) ⟨0, false, .none⟩ i eval post hruns hdue rfl rfl
  rw [State.core_selfDebugged] at hfrozen
  exact congrArg Host.Outcome.next (hfrozen rfl rfl nofun rfl (State.fetch_selfDebugged_new i.len hlen))

/-- No group without a jump completes there: the PC stands. -/
theorem State.not_done_selfFrozen (len : Nat) (e : Eff) (hlen : len ∈ [1, 2, 3]) (hjump : e.jump = none) :
    ¬ State.selfDebugged.Done State.selfFrozen 0 len e := by
  intro h
  have hpc : 0x1040 + 0 = (0x1040 + 2 * len) % 2 ^ 48 := by
    have hdone := h.pc
    rw [hjump, State.core_selfDebugged, State.core_selfFrozen] at hdone
    exact hdone
  simp only [List.mem_cons, List.not_mem_nil, or_false] at hlen
  omega

/-- So no instruction completes there. -/
theorem State.not_completes_selfDebugging (i : Info) (e : Eff) {eval : State → Run Eff} {post : State → State} {t : State}
    (hlen : i.len ∈ [1, 2, 3]) (hjump : e.jump = none) (hexec : State.selfDebugging.capo 0 (walkingSlot false) i eval post = .next t) :
    ¬ State.selfDebugged.Done t 0 i.len e := by
  obtain rfl : t = State.selfFrozen := Host.Outcome.next.inj (hexec.symm.trans (State.capo_selfDebugging false i eval post hlen))
  exact State.not_done_selfFrozen i.len e hlen hjump

/-! ### The statements -/

/-- Refutes O30. In `State.selfDebugging` a NOP is fetched at the PC before its walk, as the clause asks; the model fetches at the PC behind the walk, where
the flash device keeps it waiting. -/
theorem not_capoRegisterInstructions : ¬ Obligations.CapoRegisterInstructions := by
  unfold Obligations.CapoRegisterInstructions
  rintro ⟨hnop, -⟩
  obtain ⟨t, hexec, hdone⟩ := hnop 0 (walkingSlot false) _ _ (State.selfDebugging_issues 1 (by decide))
  exact State.not_completes_selfDebugging { len := 1 } _ (by decide) rfl hexec hdone

/-- Refutes O32. The JMPX of `State.selfDebugging` waits for its fetch at the PC behind its walk. -/
theorem not_capoTransfers : ¬ Obligations.CapoTransfers := by
  unfold Obligations.CapoTransfers
  rintro ⟨-, hjmpx, -⟩
  obtain ⟨t, hexec, hdone⟩ := hjmpx 0 (walkingSlot false) _ _ (State.selfDebugging_issues 1 (by decide)) (by decide +kernel)
  exact State.not_completes_selfDebugging (slotInfo 1 false) _ (by decide) rfl hexec hdone

/-- The effective address DP. -/
def dpOperand : MemOp := ⟨false, 2, 0⟩

/-- Refutes O33. The LEA of `State.selfDebugging` waits for its fetch at the PC behind its walk. -/
theorem not_capoLoadsAndStores : ¬ Obligations.CapoLoadsAndStores := by
  unfold Obligations.CapoLoadsAndStores
  rintro ⟨-, -, -, -, -, -, -, -, hlea, -⟩
  obtain ⟨t, hexec, hdone⟩ := hlea 0 (walkingSlot false) dpOperand _ _ _ _ (State.selfDebugging_issues 2 (by decide)) rfl rfl
  exact State.not_completes_selfDebugging dpOperand.info _ (by decide) rfl hexec hdone

/-- The immediate operand 0. -/
def zeroOperand : MemOp := ⟨false, 0, 0⟩

/-- Refutes O34. The ADD of `State.selfDebugging` waits for its fetch at the PC behind its walk. -/
theorem not_capoArithmetic : ¬ Obligations.CapoArithmetic := by
  unfold Obligations.CapoArithmetic
  rintro ⟨hadd, -⟩
  obtain ⟨t, hexec, hdone⟩ := hadd 0 (walkingSlot false) zeroOperand 0 _ _ _ (State.selfDebugging_issues 2 (by decide)) rfl rfl
  exact State.not_completes_selfDebugging zeroOperand.info _ (by decide) rfl hexec hdone

/-- Refutes O35. The DIVU of `State.selfDebugging` waits for its fetch at the PC behind its walk. -/
theorem not_divisionCorners : ¬ Obligations.DivisionCorners := by
  unfold Obligations.DivisionCorners
  rintro ⟨hzero, -⟩
  obtain ⟨t, r, hexec, -, hdone⟩ := hzero 0 (walkingSlot false) zeroOperand 0 _ _ _ (State.selfDebugging_issues 2 (by decide)) rfl rfl
  exact State.not_completes_selfDebugging zeroOperand.info _ (by decide) rfl hexec hdone

/-- Refutes O36. The WAIT of `State.selfDebugging` waits for its fetch at the PC behind its walk. -/
theorem not_capoSystemInstructions : ¬ Obligations.CapoSystemInstructions := by
  unfold Obligations.CapoSystemInstructions
  rintro ⟨-, -, hwait, -⟩
  obtain ⟨t, hexec, hdone, -⟩ := hwait 0 (walkingSlot false) _ _ (State.selfDebugging_issues 1 (by decide)) (by decide +kernel)
  exact State.not_completes_selfDebugging { len := 1, solo := true } _ (by decide) rfl hexec hdone

/-- Refutes O37. A CLC that is the first of a pair waits in `State.selfDebugging` for its fetch at the PC behind its walk, and is not noted as the first. -/
theorem not_capoTraps : ¬ Obligations.CapoTraps := by
  unfold Obligations.CapoTraps
  rintro ⟨-, -, -, -, -, -, -, -, -, -, -, -, hpair⟩
  have hissues := State.selfDebugging_issues 1 (by decide)
  obtain ⟨t, e, hexec, hfirst, -⟩ := hpair 0 (walkingSlot true) State.selfDebugging State.selfDebugged State.selfDebugged
    hissues.runs hissues.due rfl rfl rfl rfl nofun hissues.fetched (by decide +kernel)
  obtain rfl : t = State.selfFrozen := Host.Outcome.next.inj (hexec.symm.trans (State.capo_selfDebugging true { len := 1 } _ _ (by decide)))
  exact absurd ((congrArg CoreSt.first State.core_selfFrozen).symm.trans hfirst) nofun

end Sys2Proof.Machine
end

section
/-! SUPPORT. A Capo core beside its registers: what an update of a core, a debug halt, and the end of a TLBSYNC leave of the cores and of all else. -/

namespace Sys2Proof.Machine

set_option Elab.async false

theorem State.setCore_keeps (s : State) (n : Nat) (x : CoreSt) : Keeps { cores := true } s (s.setCore n x) :=
  { Keeps.refl _ s with cores := nofun }

theorem Keeps.core {w : Writes} {s t : State} (h : Keeps w s t) (hw : w.cores = false) (n : Nat) : t.core n = s.core n :=
  congrArg (sget · n CoreSt.reset) (h.cores hw)

theorem Keeps.byte {w : Writes} {s t : State} (h : Keeps w s t) (hw : w.mem = false) (a : Nat) : t.byte a = s.byte a :=
  congrArg (sget · a (memDefault a)) (h.mem hw)

/-! ### Debug halts (18 R486, R487) -/

/-- The writes of a debug halt beside the core that halts. -/
def debugWrites : Writes := { regs := [.trc, .lec], fresh := true }

/-- A core that halts shows its registers in `TRC_CR` and its bit of `TRC_DBGEV`. -/
theorem State.haltCore_shows (s : State) (n cause : Nat) :
    ∃ u, Keeps { regs := [.trc] } s u ∧
      Keeps debugWrites (u.setCore n { s.core n with halted := true, stepping := false, haltReq := false, first := none }) (s.haltCore n cause) := by
  refine ⟨if (s.core n).haltReq then s.set TRC_CDBG_HALT n 0 else s.lower TRC_CDBG_HALT n, .ite (s.set_keeps TRC_CDBG_HALT n 0) (s.lower_keeps TRC_CDBG_HALT n), ?_⟩
  unfold State.haltCore State.debugLevel
  exact Keeps.refl _ _ |>.andThen (State.raise_keeps ..) |>.andThen (State.set_keeps ..)
    |>.trans (.foldl (fun s _ => (s.set_keeps ..).mono) ..) |>.andThen (State.setBits_keeps ..) |>.andThen (State.lecSample_keeps ..)

theorem State.core_haltCore (s : State) (n cause : Nat) :
    (s.haltCore n cause).core n = { s.core n with halted := true, stepping := false, haltReq := false, first := none } := by
  obtain ⟨u, -, hk⟩ := s.haltCore_shows n cause
  rw [hk.core rfl, State.core_setCore_self]

/-- The writes of a core that may halt. -/
def haltWrites : Writes := { debugWrites with cores := true }

theorem State.haltCore_keeps (s : State) (n cause : Nat) : Keeps haltWrites s (s.haltCore n cause) := by
  obtain ⟨u, hu, hk⟩ := s.haltCore_shows n cause
  exact hu.mono.andThen (u.setCore_keeps ..) |>.andThen hk

/-- At a group boundary the core halts or goes on. -/
theorem State.boundaryHalt_cases (s : State) (n : Nat) :
    s.boundaryHalt n = s ∨ ((s.core n).stepping = true ∨ (s.core n).haltReq = true) ∧ ∃ cause, s.boundaryHalt n = s.haltCore n cause := by
  unfold State.boundaryHalt
  extract_lets x
  split
  · exact .inl rfl
  split
  next hstep => exact .inr ⟨.inl hstep, 2, rfl⟩
  split
  next hreq => exact .inr ⟨.inr hreq, 0, rfl⟩
  · exact .inl rfl

theorem State.boundaryHalt_keeps (s : State) (n : Nat) : Keeps haltWrites s (s.boundaryHalt n) := by
  rcases s.boundaryHalt_cases n with h | ⟨-, cause, h⟩ <;> rw [h]
  · exact .refl _ s
  · exact s.haltCore_keeps n cause

/-- A halt at a boundary changes nothing of the core but what says that it runs. -/
theorem State.core_boundaryHalt (s : State) (n : Nat) : ∃ halted stepping haltReq first,
    (s.boundaryHalt n).core n = { s.core n with halted := halted, stepping := stepping, haltReq := haltReq, first := first } := by
  rcases s.boundaryHalt_cases n with h | ⟨-, cause, h⟩ <;> rw [h]
  · exact ⟨_, _, _, _, rfl⟩
  · exact ⟨_, _, _, _, s.core_haltCore n cause⟩

/-! ### The end of a TLBSYNC (11 R325) -/

theorem State.endSync_syncing (s : State) (n : Nat) (h : (s.core n).syncing.isSome = true) :
    s.endSync n = (s.setCore n { s.core n with syncing := none }).boundaryHalt n := if_pos h

theorem State.endSync_keeps (s : State) (n : Nat) : Keeps haltWrites s (s.endSync n) := by
  unfold State.endSync
  exact .ite ((s.setCore_keeps ..).mono.trans (State.boundaryHalt_keeps ..)) (.refl _ s)

theorem State.core_endSync (s : State) (n : Nat) : ∃ halted stepping haltReq first,
    (s.endSync n).core n = { s.core n with syncing := none, halted := halted, stepping := stepping, haltReq := haltReq, first := first } := by
  by_cases h : (s.core n).syncing.isSome = true
  · obtain ⟨halted, stepping, haltReq, first, hcore⟩ := (s.setCore n { s.core n with syncing := none }).core_boundaryHalt n
    rw [s.endSync_syncing n h, hcore, State.core_setCore_self]
    exact ⟨halted, stepping, haltReq, first, rfl⟩
  · have hnone : (s.core n).syncing = none := Option.not_isSome_iff_eq_none.mp h
    refine ⟨(s.core n).halted, (s.core n).stepping, (s.core n).haltReq, (s.core n).first, ?_⟩
    rw [State.endSync, if_neg h, ← hnone]

/-- Where debug asks for no halt, the core goes on with its next group. -/
theorem State.core_endSync_running (s : State) (n : Nat) (hsync : (s.core n).syncing.isSome = true) (hstep : (s.core n).stepping = false)
    (hreq : (s.core n).haltReq = false) : (s.endSync n).core n = { s.core n with syncing := none } := by
  rw [s.endSync_syncing n hsync]
  rcases (s.setCore n { s.core n with syncing := none }).boundaryHalt_cases n with h | ⟨h, -⟩
  · rw [h, State.core_setCore_self]
  · rw [State.core_setCore_self] at h
    rcases h with h | h
    · exact absurd (hstep.symm.trans h) Bool.false_ne_true
    · exact absurd (hreq.symm.trans h) Bool.false_ne_true

end Sys2Proof.Machine
end

section
/-! SUPPORT. What runs beside the instructions of a Capo core: LSRAM ports, buffered stores, the service ring and TLB invalidations; and the statement
about them. -/

namespace Sys2Proof.Machine

set_option Elab.async false

/-! ### LSRAM ports (13 R369) -/

/-- What the running CCLK cycle holds of a byte after a port has written it. -/
def State.portNoted (s : State) (own : Bool) (a : Nat) : State :=
  if s.cycle.lsram.any (fun e => e.1 == a && e.2.2 == own) then s
  else { s with cycle := { s.cycle with lsram := (a, s.byte a, own) :: s.cycle.lsram } }

/-- No own-core write of this cycle takes a write of the other port. -/
def State.portFree (s : State) (own : Bool) : Prop := own = true ∨ ∀ q ∈ s.cycle.lsram, q.2.2 = false

theorem State.portFree_portNoted (s : State) (own : Bool) (a : Nat) (h : s.portFree own) : (s.portNoted own a).portFree own := by
  rcases h with h | h
  · exact .inl h
  cases own with
  | true => exact .inl rfl
  | false =>
    unfold State.portNoted
    split
    · exact .inr h
    · exact .inr (List.forall_mem_cons.mpr ⟨rfl, h⟩)

theorem State.portWrite_free (s : State) (own : Bool) (a : Nat) (b : Byte) (l : List Byte) (h : s.portFree own) :
    s.portWrite own a (b :: l) = ((s.portNoted own a).setByte a b).portWrite own (a + 1) l := by
  have hlost : (!own && s.cycle.lsram.any (fun e => e.1 == a && e.2.2)) = false := by
    rcases h with h | h
    · simp [h]
    · rw [Bool.and_eq_false_iff]
      exact .inr (List.any_eq_false.mpr (fun q hq => by simp [h q hq]))
  simp only [State.portWrite, hlost, Bool.or_false, State.portNoted]
  rfl

/-- A free port writes every byte. -/
theorem State.byte_portWrite_inside (s : State) (own : Bool) (a k : Nat) (l : List Byte) (h : s.portFree own) (hk : k < l.length) :
    (s.portWrite own a l).byte (a + k) = l[k] := by
  induction l generalizing s a k with
  | nil => exact absurd hk (Nat.not_lt_zero k)
  | cons b l ih =>
    rw [s.portWrite_free own a b l h]
    cases k with
    | zero => exact (State.byte_portWrite_outside _ _ _ _ _ (by omega)).trans (State.byte_setByte_self ..)
    | succ k =>
      rw [show a + (k + 1) = a + 1 + k by omega]
      exact ih ((s.portNoted own a).setByte a b) (a + 1) k (s.portFree_portNoted own a h) (Nat.lt_of_succ_lt_succ hk)

theorem leBytes_getElem (n v k : Nat) (hk : k < (leBytes n v).length) : (leBytes n v)[k] = v / 2 ^ (8 * k) % 256 := by
  induction n generalizing v k with
  | zero => exact absurd hk (Nat.not_lt_zero k)
  | succ n ih =>
    cases k with
    | zero => simp [leBytes]
    | succ k =>
      simp only [leBytes, List.getElem_cons_succ, ih, Nat.div_div_eq_div_mul]
      rw [show 8 * (k + 1) = 8 + 8 * k by omega, Nat.pow_add]

/-- The bytes of a number through a free port. -/
theorem State.byte_portWrite_num (s : State) (own : Bool) (a n v k : Nat) (h : s.portFree own) (hk : k < n) :
    (s.portWrite own a ((leBytes n v).map (BitVec.ofNat 8 ·))).byte (a + k) = BitVec.ofNat 8 (v / 2 ^ (8 * k)) := by
  rw [s.byte_portWrite_inside own a k _ h (by simpa [leBytes_length] using hk), List.getElem_map, leBytes_getElem]
  exact BitVec.eq_of_toNat_eq (by simp)

theorem State.byte_portWrite_num_outside (s : State) (own : Bool) (a n v c : Nat) (h : ¬ (a ≤ c ∧ c < a + n)) :
    (s.portWrite own a ((leBytes n v).map (BitVec.ofNat 8 ·))).byte c = s.byte c :=
  s.byte_portWrite_outside own a c _ (by simpa [leBytes_length] using h)

/-! ### Stores (09 R273) -/

theorem State.busWrite_lsram (s : State) (ag : Agent) (a size v : Nat) (hr : region a = .lsram) (hon : s.memOn a = true) :
    s.busWrite ag a size v = (false, s.portWrite (ownPort ag a) a ((leBytes size v).map (BitVec.ofNat 8 ·))) := by
  simp [State.busWrite, hr, hon, State.memWrite]

theorem State.busWrite_error (s : State) (ag : Agent) (a size v : Nat) (hr : region a = .none ∨ region a = .flash) :
    s.busWrite ag a size v = (true, s) := by
  rcases hr with hr | hr <;> simp [State.busWrite, hr]

/-- A store that the bus takes changes at most the D-cache beyond what the bus writes. -/
theorem State.performStore_taken (s t : State) (n : Nat) (e : StoreEnt) (h : s.busWrite (coreAgent n) e.pa e.size e.val = (false, t)) :
    (∀ a, (s.performStore n e).byte a = t.byte a) ∧ ((s.performStore n e).core n).serr = (t.core n).serr := by
  unfold State.performStore
  rw [h]
  dsimp only
  split
  · contradiction
  · split
    · exact ⟨fun _ => rfl, by rw [State.core_setCore_self]⟩
    · exact ⟨fun _ => rfl, rfl⟩

theorem State.performStore_error (s : State) (n : Nat) (e : StoreEnt) (hr : region e.pa = .none ∨ region e.pa = .flash)
    (hs : (s.core n).serr = none) : s.performStore n e = s.setCore n { s.core n with serr := some e.va } := by
  unfold State.performStore
  rw [s.busWrite_error _ _ _ _ hr]
  simp [hs]

theorem State.drainOne_cons (s : State) (n : Nat) (e : StoreEnt) (l : List StoreEnt) (h : (s.core n).sbuf = e :: l) :
    s.drainOne n = (s.setCore n { s.core n with sbuf := l }).performStore n e := by
  simp [State.drainOne, h]

theorem exec_bufferedStore_on (n : Core) (s : State) (hon : s.coreOn n.val = true) : exec (.bufferedStore n) s = .next (s.drainOne n.val) :=
  if_pos hon

/-- The core reaches its own LSRAM through its own port. -/
theorem ownPort_coreAgent (n a : Nat) (hn : n < 20) : ownPort (coreAgent n) a = (lsramCore a == some n) := by
  simp [ownPort, coreAgent, Fin.ofNat, Nat.mod_eq_of_lt hn]

/-! ### Service requests (09 R283) -/

theorem exec_serviceRequest_taken (n : Core) (f : UFlit) (s : State)
    (hf : (s.tile (coreDie n.val)).uDelivered.find? (fun f => f.dest == endUnit (coreDie n.val) (0x10 + n.val)) = some f)
    (hon : s.coreOn n.val = true) (hroom : (s.get CPO_SVC_RQ_PROD n.val + 1) % 256 ≠ s.get CPO_SVC_RQ_CONS n.val) :
    exec (.serviceRequest n) s = .next ((s.setTile (coreDie n.val) { s.tile (coreDie n.val) with
      uDelivered := (s.tile (coreDie n.val)).uDelivered.erase f }).serviceWrite n.val f) := by
  show execServiceRequest n s = _
  simp [execServiceRequest, hf, hon, hroom]

theorem exec_serviceRequest_full (n : Core) (s : State) (hfull : (s.get CPO_SVC_RQ_PROD n.val + 1) % 256 = s.get CPO_SVC_RQ_CONS n.val) :
    exec (.serviceRequest n) s = .next s := by
  show execServiceRequest n s = _
  rcases hf : (s.tile (coreDie n.val)).uDelivered.find? (fun f => f.dest == endUnit (coreDie n.val) (0x10 + n.val)) with _ | f <;>
    simp [execServiceRequest, hf, hfull]

theorem State.serviceLevel_keeps (s : State) (n : Nat) : Keeps levelWrites s (s.serviceLevel n) := s.lecSample_keeps ..

/-- The record goes into the ring, and PROD advances. -/
theorem State.serviceWrite_writes (s : State) (n : Nat) (f : UFlit) :
    Keeps { regs := [.cpo, .lec], fresh := true }
        (s.portWrite false (lsramBase n + 0x3F000 + 16 * s.get CPO_SVC_RQ_PROD n) ((leBytes 16 (serviceRecord f)).map (BitVec.ofNat 8 ·)))
        (s.serviceWrite n f) ∧
      (s.serviceWrite n f).get CPO_SVC_RQ_PROD n = (s.get CPO_SVC_RQ_PROD n + 1) % 256 := by
  unfold State.serviceWrite
  extract_lets p u
  refine ⟨(u.set_keeps ..).mono.andThen (State.serviceLevel_keeps ..), ?_⟩
  rw [(State.serviceLevel_keeps ..).regs _ _ (by decide), State.get_set_self]
  exact Nat.mod_mod _ _

/-! ### TLB invalidations (11 R322 to R325) -/

theorem exec_invalidationReceived_on (n : Core) (q : InvReq) (l : List InvReq) (s : State) (hq : (s.core n.val).invq = q :: l)
    (hon : s.coreOn n.val = true) (hheld : (s.core n.val).held = false) :
    exec (.invalidationReceived n) s =
      .next (((s.setCore n.val { s.core n.val with invq := l }).applyInval n.val q.k q.a q.x).bump MMU_L2CNT_INVRX n.val) := by
  show execInvalidationReceived n s = _
  simp [execInvalidationReceived, hq, hon, hheld]

theorem State.applyInval_keeps (s : State) (n k a x : Nat) : Keeps { cores := true } s (s.applyInval n k a x) := s.setCore_keeps ..

/-- The entries that an invalidation takes. -/
def TlbEnt.struck (k a x : Nat) (e : TlbEnt) : Bool :=
  match k % 4 with
  | 0 => true
  | 1 => !e.glob && e.asid == x % 2 ^ 12
  | 2 => e.maps (bits a 47 12) && (e.glob || e.asid == x % 2 ^ 12)
  | _ => e.maps (bits a 47 12)

theorem State.core_applyInval (s : State) (n k a x : Nat) :
    (s.applyInval n k a x).core n = { s.core n with
      l1 := (s.core n).l1.filter (fun e => !TlbEnt.struck k a x e), l2 := (s.core n).l2.filter (fun e => !TlbEnt.struck k a x e)
      locks := if bit k 2 then (s.core n).locks.filter (fun p => !TlbEnt.struck k a x p.2) else (s.core n).locks } :=
  (State.core_setCore_self ..).trans rfl

theorem exec_invalidationAck_applied (src n : Core) (b : Bcast) (s : State)
    (hb : (s.core src.val).bcasts.find? (fun b => b.silent.any (· == n.val)) = some b)
    (hq : (s.core n.val).invq.any (fun q => q.src == src.val && q.id == b.id) = false) :
    exec (.invalidationAck src n) s = .next (s.ackInval src.val b.id n.val) := by
  show execInvalidationAck src n s = _
  simp only [execInvalidationAck, hb, hq]
  rfl

theorem exec_invalidationAck_early (src n : Core) (b : Bcast) (s : State)
    (hb : (s.core src.val).bcasts.find? (fun b => b.silent.any (· == n.val)) = some b)
    (hq : (s.core n.val).invq.any (fun q => q.src == src.val && q.id == b.id) = true) : exec (.invalidationAck src n) s = .next s := by
  show execInvalidationAck src n s = _
  simp only [execInvalidationAck, hb, hq]
  rfl

/-- The broadcasts that stay open behind an acknowledgement. -/
def CoreSt.unacked (x : CoreSt) (id n : Nat) : List Bcast :=
  (x.bcasts.map (fun b : Bcast => if b.id = id then { b with silent := b.silent.filter (· != n) } else b)).filter (fun b => !b.silent.isEmpty)

/-- The state behind an acknowledgement, before a TLBSYNC ends with it. -/
def State.acked (s : State) (src id n : Nat) : State :=
  ((s.setCore src { s.core src with bcasts := (s.core src).unacked id n }).set MMU_SYNC_OUTST src (((s.core src).unacked id n).length - 1)).set
    MMU_SYNC_PENDING src (b2n !((s.core src).unacked id n).isEmpty)

theorem State.ackInval_eq (s : State) (src id n : Nat) :
    s.ackInval src id n = if ((s.core src).unacked id n).isEmpty then (s.acked src id n).endSync src else s.acked src id n := rfl

theorem CoreSt.unacked_silent (x : CoreSt) (id n : Nat) (c : Bcast) (hc : c ∈ x.unacked id n) : (c.id = id → n ∉ c.silent) ∧ c.silent ≠ [] := by
  obtain ⟨hmem, hsilent⟩ := List.mem_filter.mp hc
  obtain ⟨b, -, rfl⟩ := List.mem_map.mp hmem
  refine ⟨fun hid => ?_, by simpa using hsilent⟩
  by_cases hb : b.id = id
  · simp [hb]
  · exact absurd hid (by simp [hb])

theorem State.core_acked (s : State) (src id n : Nat) :
    (s.acked src id n).core src = { s.core src with bcasts := (s.core src).unacked id n } := State.core_setCore_self ..

theorem State.acked_keeps (s : State) (src id n : Nat) : Keeps { regs := [.mmu], cores := true } s (s.acked src id n) :=
  (s.setCore_keeps ..).mono.andThen (State.set_keeps ..) |>.andThen (State.set_keeps ..)

/-- The writes of an acknowledgement, with which a TLBSYNC may end and its core halt. -/
def ackWrites : Writes := { haltWrites with regs := .mmu :: haltWrites.regs }

theorem State.ackInval_keeps (s : State) (src id n : Nat) : Keeps ackWrites s (s.ackInval src id n) := by
  rw [s.ackInval_eq]
  exact .ite ((s.acked_keeps ..).mono.andThen (State.endSync_keeps ..)) (s.acked_keeps ..).mono

theorem State.bcasts_ackInval (s : State) (src id n : Nat) : ((s.ackInval src id n).core src).bcasts = (s.core src).unacked id n := by
  rw [s.ackInval_eq]
  split
  · obtain ⟨halted, stepping, haltReq, first, hcore⟩ := (s.acked src id n).core_endSync src
    rw [hcore, s.core_acked]
  · rw [s.core_acked]

/-- With the last acknowledgement nothing is outstanding, and a TLBSYNC ends. -/
theorem State.ackInval_last (s : State) (src id n : Nat) (h : (s.core src).unacked id n = []) :
    ((s.ackInval src id n).core src).syncing = none ∧ (s.ackInval src id n).flag MMU_SYNC_PENDING src = false := by
  rw [s.ackInval_eq, if_pos (by simp [h])]
  obtain ⟨halted, stepping, haltReq, first, hcore⟩ := (s.acked src id n).core_endSync src
  refine ⟨by rw [hcore], ?_⟩
  rw [((s.acked src id n).endSync_keeps src).flag _ _ (by decide), State.acked, h]
  simp [State.flag, b2n]

theorem exec_tlbsyncTimeout_early (n : Core) (since : Nat) (s : State) (h : (s.core n.val).syncing = some since) (hearly : s.tb < since + 3200) :
    exec (.tlbsyncTimeout n) s = .next s := by
  show execTlbsyncTimeout n s = _
  simp [execTlbsyncTimeout, h, hearly]

theorem Field.key_ne (f : Field) {g : Field} (i : Nat) (h : f.id % 65536 ≠ g.id % 65536) : f.key i ≠ g.key i := by
  unfold Field.key
  omega

/-- The cores, as bits, that a TLBSYNC waits for in vain. -/
def CoreSt.missing (x : CoreSt) : Nat := x.silentCores.foldl (fun a m => a + 2 ^ m) 0

/-- The registers of a TLBSYNC that has timed out. -/
def State.syncOver (s : State) (n : Nat) : State := ((s.endSync n).set MMU_SYNC_MISSING n (s.core n).missing).raise MMU_SYNC_TIMEOUT n

theorem State.syncOver_shows (s : State) (n : Nat) :
    Keeps { regs := [.mmu] } (s.endSync n) (s.syncOver n) ∧ (s.syncOver n).flag MMU_SYNC_TIMEOUT n = true ∧
      (s.syncOver n).get MMU_SYNC_MISSING n = (s.core n).missing % 2 ^ 20 := by
  refine ⟨((s.endSync n).set_keeps ..).mono.andThen (State.raise_keeps ..), State.flag_raise_self _ _ _ (by decide), ?_⟩
  rw [State.syncOver, State.get_raise_ne _ _ _ _ _ (MMU_SYNC_MISSING.key_ne n (by decide)), State.get_set_self]
  rfl

/-- A timeout is reported as a fault and to the silent cores. -/
theorem exec_tlbsyncTimeout_due (n : Core) (since : Nat) (s : State) (h : (s.core n.val).syncing = some since) (hdue : since + 3200 ≤ s.tb) :
    ∃ t, exec (.tlbsyncTimeout n) s = .next t ∧ Keeps faultWrites (s.syncOver n.val) t := by
  have hlate : ¬ s.tb < since + 3200 := by omega
  show ∃ t, execTlbsyncTimeout n s = .next t ∧ _
  simp only [execTlbsyncTimeout, h, if_neg hlate]
  refine ⟨_, rfl, ?_⟩
  exact (State.fault_keeps ..).trans (.foldl (fun s _ => .ite (.refl _ s) (s.lecPulse_keeps _).mono) ..)

/-! ### The statement -/

theorem State.performStore_lsram (s : State) (n : Nat) (e : StoreEnt) (hr : region e.pa = .lsram) (hon : s.memOn e.pa = true)
    (hfree : lsramCore e.pa = some n ∨ ∀ q ∈ s.cycle.lsram, q.2.2 = false) (hn : n < 20) :
    (∀ a, ¬ (e.pa ≤ a ∧ a < e.pa + e.size) → (s.performStore n e).byte a = s.byte a) ∧
    (∀ k, k < e.size → (s.performStore n e).byte (e.pa + k) = BitVec.ofNat 8 (e.val / 2 ^ (8 * k))) ∧
    ((s.performStore n e).core n).serr = (s.core n).serr := by
  obtain ⟨hbyte, hserr⟩ := s.performStore_taken _ n e (s.busWrite_lsram (coreAgent n) e.pa e.size e.val hr hon)
  have hport : s.portFree (ownPort (coreAgent n) e.pa) := by
    rcases hfree with hown | hnone
    · exact .inl (by simp [ownPort_coreAgent n _ hn, hown])
    · exact .inr hnone
  refine ⟨fun a ha => ?_, fun k hk => ?_, ?_⟩
  · rw [hbyte, s.byte_portWrite_num_outside _ _ _ _ _ ha]
  · rw [hbyte, s.byte_portWrite_num _ _ _ _ _ hport hk]
  · rw [hserr, (s.portWrite_keeps ..).core rfl]

/-- A byte that the own core writes in this cycle is kept from the other port. -/
theorem State.byte_portWrite_lost (s : State) (a : Nat) (b : Byte) (h : s.cycle.lsram.any (fun e => e.1 == a && e.2.2) = true) :
    (s.portWrite false a [b]).byte a = s.byte a := by
  simp [State.portWrite, h]

/-- In the cycle of the first write of a byte, its port reads the new value and the other port the old one. -/
theorem State.portByte_portWrite (s : State) (own : Bool) (a : Nat) (b : Byte) (h : s.cycle.lsram = []) :
    (s.portWrite own a [b]).portByte own a = b ∧ (s.portWrite own a [b]).portByte (!own) a = s.byte a := by
  have hfree : s.portFree own := .inr (by simp [h])
  have hbyte : (s.portWrite own a [b]).byte a = b := s.byte_portWrite_inside own a 0 [b] hfree Nat.zero_lt_one
  have hnoted : (s.portWrite own a [b]).cycle.lsram = [(a, s.byte a, own)] := by
    rw [s.portWrite_free own a b [] hfree]
    simp [State.portNoted, State.portWrite, State.setByte, h]
  simp [State.portByte, hnoted, hbyte]

/-- A store outside the address map leaves its virtual address, and nothing else of it. -/
theorem exec_bufferedStore_error (n : Core) (e : StoreEnt) (l : List StoreEnt) (s : State) (hon : s.coreOn n.val = true)
    (hbuf : (s.core n.val).sbuf = e :: l) (hserr : (s.core n.val).serr = none) (hr : region e.pa = .none ∨ region e.pa = .flash) :
    ∃ t, exec (.bufferedStore n) s = .next t ∧ t.core n.val = { s.core n.val with sbuf := l, serr := some e.va } ∧ Keeps { cores := true } s t := by
  refine ⟨_, exec_bufferedStore_on n s hon, ?_⟩
  rw [s.drainOne_cons n.val e l hbuf, State.performStore_error _ _ _ hr (by rw [State.core_setCore_self]; exact hserr), State.core_setCore_self,
    State.core_setCore_self]
  exact ⟨rfl, (s.setCore_keeps ..).andThen (State.setCore_keeps ..)⟩

theorem exec_bufferedStore_none (n : Core) (s : State) (h : (s.core n.val).sbuf = [] ∨ s.coreOn n.val = false) :
    exec (.bufferedStore n) s = .next s := by
  rcases h with hbuf | hoff
  · by_cases hon : s.coreOn n.val = true
    · rw [exec_bufferedStore_on n s hon, State.drainOne, hbuf]
    · exact if_neg hon
  · exact if_neg (by simp [hoff])

theorem exec_serviceRequest_written (n : Core) (f : UFlit) (s : State)
    (hf : (s.tile (coreDie n.val)).uDelivered.find? (fun f => f.dest == endUnit (coreDie n.val) (0x10 + n.val)) = some f)
    (hon : s.coreOn n.val = true) (hfree : ∀ q ∈ s.cycle.lsram, q.2.2 = false)
    (hroom : (s.get CPO_SVC_RQ_PROD n.val + 1) % 256 ≠ s.get CPO_SVC_RQ_CONS n.val) :
    ∃ t, exec (.serviceRequest n) s = .next t ∧ t.get CPO_SVC_RQ_PROD n.val = (s.get CPO_SVC_RQ_PROD n.val + 1) % 256 ∧
      (t.tile (coreDie n.val)).uDelivered = (s.tile (coreDie n.val)).uDelivered.erase f ∧
      (∀ k, k < 16 → t.byte (lsramBase n.val + 0x3F000 + 16 * s.get CPO_SVC_RQ_PROD n.val + k) = BitVec.ofNat 8 (serviceRecord f / 2 ^ (8 * k))) ∧
      (∀ a, ¬ (lsramBase n.val + 0x3F000 + 16 * s.get CPO_SVC_RQ_PROD n.val ≤ a ∧
        a < lsramBase n.val + 0x3F000 + 16 * s.get CPO_SVC_RQ_PROD n.val + 16) → t.byte a = s.byte a) ∧
      Keeps { regs := [.lec, .gec, .cpo], mem := true, tiles := true, fresh := true } s t := by
  refine ⟨_, exec_serviceRequest_taken n f s hf hon hroom, ?_⟩
  generalize hu : s.setTile (coreDie n.val) { s.tile (coreDie n.val) with uDelivered := (s.tile (coreDie n.val)).uDelivered.erase f } = u
  have htaken : Keeps { tiles := true } s u := hu ▸ s.setTile_keeps ..
  obtain ⟨hkeeps, hprod⟩ := u.serviceWrite_writes n.val f
  have hget : u.get CPO_SVC_RQ_PROD n.val = s.get CPO_SVC_RQ_PROD n.val := htaken.regs _ _ (by decide)
  rw [hget] at hkeeps hprod
  refine ⟨hprod, ?_, fun k hk => ?_, fun a ha => ?_, ?_⟩
  · rw [hkeeps.tile rfl, (u.portWrite_keeps ..).tile rfl, ← hu, State.tile_setTile_self]
  · rw [hkeeps.byte rfl, u.byte_portWrite_num _ _ _ _ _ (.inr (hu ▸ hfree)) hk]
  · rw [hkeeps.byte rfl, u.byte_portWrite_num_outside _ _ _ _ _ ha, htaken.byte rfl]
  · exact htaken.mono.andThen (u.portWrite_keeps ..) |>.trans hkeeps.mono

/-- What an invalidation leaves of the entries and locks of a core. -/
theorem exec_invalidationReceived_applied (n : Core) (q : InvReq) (l : List InvReq) (s : State) (hq : (s.core n.val).invq = q :: l)
    (hon : s.coreOn n.val = true) (hheld : (s.core n.val).held = false) :
    ∃ t, exec (.invalidationReceived n) s = .next t ∧ (t.core n.val).invq = l ∧
      (∀ e ∈ (t.core n.val).l1 ++ (t.core n.val).l2,
        e ∈ (s.core n.val).l1 ++ (s.core n.val).l2 ∧ TlbEnt.struck q.k q.a q.x e = false) ∧
      (bit q.k 2 = false → (t.core n.val).locks = (s.core n.val).locks) ∧
      t.get MMU_L2CNT_INVRX n.val = min (s.get MMU_L2CNT_INVRX n.val + 1) (2 ^ MMU_L2CNT_INVRX.width - 1) ∧
      Keeps { regs := [.mmu], cores := true } s t := by
  refine ⟨_, exec_invalidationReceived_on n q l s hq hon hheld, ?_⟩
  have happlied : Keeps { cores := true } s ((s.setCore n.val { s.core n.val with invq := l }).applyInval n.val q.k q.a q.x) :=
    (s.setCore_keeps ..).andThen (State.applyInval_keeps ..)
  rw [(State.bump_keeps ..).core rfl, State.core_applyInval, State.core_setCore_self, State.get_bump_self, happlied.regs _ _ (by decide)]
  refine ⟨rfl, fun e he => ?_, fun h => ?_, rfl, happlied.mono.andThen (State.bump_keeps ..)⟩
  · rw [← List.filter_append] at he
    simpa using List.mem_filter.mp he
  · simp [h]

theorem exec_invalidationAck_taken (src n : Core) (b : Bcast) (s : State)
    (hb : (s.core src.val).bcasts.find? (fun b => b.silent.any (· == n.val)) = some b)
    (hq : (s.core n.val).invq.any (fun q => q.src == src.val && q.id == b.id) = false) :
    ∃ t, exec (.invalidationAck src n) s = .next t ∧
      (∀ c ∈ (t.core src.val).bcasts, c.id = b.id → n.val ∉ c.silent) ∧ (∀ c ∈ (t.core src.val).bcasts, c.silent ≠ []) ∧
      ((t.core src.val).bcasts = [] → (t.core src.val).syncing = none ∧ t.flag MMU_SYNC_PENDING src.val = false) ∧
      Keeps { regs := [.mmu, .trc, .lec, .gec], fresh := true, cores := true } s t := by
  refine ⟨_, exec_invalidationAck_applied src n b s hb hq, ?_⟩
  rw [s.bcasts_ackInval]
  have hopen := (s.core src.val).unacked_silent b.id n.val
  exact ⟨fun c hc => (hopen c hc).1, fun c hc => (hopen c hc).2, s.ackInval_last src.val b.id n.val, (s.ackInval_keeps ..).mono⟩

theorem exec_tlbsyncTimeout_reported (n : Core) (since : Nat) (s : State) (hsync : (s.core n.val).syncing = some since)
    (hdue : since + 3200 ≤ s.tb) :
    ∃ t, exec (.tlbsyncTimeout n) s = .next t ∧ (t.core n.val).syncing = none ∧
      ((s.core n.val).stepping = false → (s.core n.val).haltReq = false → t.core n.val = { s.core n.val with syncing := none }) ∧
      t.flag MMU_SYNC_TIMEOUT n.val = true ∧ t.get MMU_SYNC_MISSING n.val = (s.core n.val).missing % 2 ^ 20 := by
  obtain ⟨t, ht, hreport⟩ := exec_tlbsyncTimeout_due n since s hsync hdue
  obtain ⟨hregs, htimeout, hmissing⟩ := s.syncOver_shows n.val
  have hcore : t.core n.val = (s.endSync n.val).core n.val := (hreport.core rfl n.val).trans (hregs.core rfl n.val)
  refine ⟨t, ht, ?_, fun hstep hreq => ?_, ?_, ?_⟩
  · obtain ⟨halted, stepping, haltReq, first, hend⟩ := s.core_endSync n.val
    rw [hcore, hend]
  · rw [hcore, s.core_endSync_running n.val (by simp [hsync]) hstep hreq]
  · rw [hreport.flag _ _ (by decide), htimeout]
  · rw [hreport.regs _ _ (by decide), hmissing]

/-- Settles O45: every background command changes its own store, ring or TLBs, and what it tells other modules changes none of these. -/
theorem capoBackground : Obligations.CapoBackground := by
  unfold Obligations.CapoBackground
  refine ⟨?bufferedStore, ?performStoreMemory, ?portConflict, ?portReads, ?bufferedStoreError, ?bufferEmpty, ?serviceRequest, ?serviceRingFull,
    ?invalidationReceived, ?invalidationAck, ?ackBeforeApplied, ?tlbsyncTimeout, ?tlbsyncEarly⟩
  case bufferedStore =>
    intro n e l s hon hbuf
    rw [exec_bufferedStore_on n s hon, s.drainOne_cons n.val e l hbuf]
  case performStoreMemory => exact fun n e s hr hon _ hfree hn => s.performStore_lsram n e hr hon hfree hn
  case portConflict => exact fun a b s h => s.byte_portWrite_lost a b h
  case portReads => exact fun a b own s h => s.portByte_portWrite own a b h
  case bufferedStoreError => exact exec_bufferedStore_error
  case bufferEmpty => exact exec_bufferedStore_none
  case serviceRequest => exact exec_serviceRequest_written
  case serviceRingFull => exact exec_serviceRequest_full
  case invalidationReceived =>
    intro n q l s hq hon hheld
    obtain ⟨t, ht, hinvq, hleft, hlocks, hcount, hkeeps⟩ := exec_invalidationReceived_applied n q l s hq hon hheld
    refine ⟨t, ht, hinvq, fun e he => (hleft e he).1, fun hall => ?all, fun hpage e he => ?page, hlocks, hcount, hkeeps⟩
    case all =>
      have hnil : (t.core n.val).l1 ++ (t.core n.val).l2 = [] :=
        List.eq_nil_iff_forall_not_mem.mpr fun e he => by simpa [TlbEnt.struck, hall] using (hleft e he).2
      exact List.append_eq_nil_iff.mp hnil
    case page =>
      have hstays : (e.maps (bits q.a 47 12) && (e.glob || e.asid == q.x % 2 ^ 12)) = false := by
        simpa only [TlbEnt.struck, hpage] using (hleft e he).2
      rcases Bool.and_eq_false_iff.mp hstays with hmaps | hother
      · exact .inl hmaps
      · exact .inr (by simpa using hother)
  case invalidationAck => exact exec_invalidationAck_taken
  case ackBeforeApplied => exact exec_invalidationAck_early
  case tlbsyncTimeout => exact exec_tlbsyncTimeout_reported
  case tlbsyncEarly => exact exec_tlbsyncTimeout_early

end Sys2Proof.Machine
end

section
/-! SUPPORT. The power states of the vector unit (10 R298 to R301): what a change of a power domain writes, what a new state of the unit leaves of its
other registers, and the state behind each of its transitions. -/

namespace Sys2Proof.Machine

set_option Elab.async false

/-! ### Changes of a power domain (17 R467, R468) -/

theorem Keeps.awake {w : Writes} {s t : State} (h : Keeps w s t) (hw : w.pins = false) : t.awake = s.awake := by
  rw [State.awake, h.pins hw, State.awake]

theorem State.awake_of_domOn {s : State} {d : Nat} (h : s.domOn d = true) : s.awake = true := (Bool.and_eq_true_iff.mp h).2

theorem State.setDom_keeps (s : State) (d v : Nat) : Keeps { dom := true } s (s.setDom d v) := { Keeps.refl _ s with dom := nofun }

theorem State.dom_setDom_self (s : State) (d v : Nat) : sget (s.setDom d v).dom d 0 = v := by
  rw [State.setDom, sget_sput, if_pos rfl]

/-- The writes of a domain's change but for the domain itself. -/
def domainNotes : Writes := { regs := [.pwr, .lec], fresh := true }

theorem State.domainChanged_keeps (s : State) (d : Nat) : Keeps domainNotes s (s.domainChanged d) :=
  (s.raise_keeps ..).mono.andThen (State.set_keeps ..) |>.andThen (State.lecSample_keeps ..)

/-- The writes of a domain's change. -/
def domainWrites : Writes := { domainNotes with dom := true }

theorem State.domainUp_keeps (s : State) (d : Nat) : Keeps domainWrites s (s.domainUp d) :=
  (s.setDom_keeps ..).mono.andThen (State.set_keeps ..) |>.andThen (State.domainChanged_keeps ..)

theorem State.dom_domainChanged (s : State) (d : Nat) : (s.domainChanged d).dom = s.dom := (s.domainChanged_keeps d).dom rfl

theorem State.dom_domainUp (s : State) (d : Nat) : sget (s.domainUp d).dom d 0 = 2 := by
  rw [State.domainUp, State.dom_domainChanged]
  exact s.dom_setDom_self d 2

/-! ### A new power state of the unit (10 R298) -/

/-- A new state is written to `PSTATE`; beside that the unit's domain may change. -/
theorem State.cvuState_keeps_set (s : State) (n v : Nat) : Keeps domainWrites (s.set CVU_STAT_PSTATE n v) (s.cvuState n v) := by
  unfold State.cvuState
  extract_lets d t
  exact .ite (.ite ((t.setDom_keeps ..).mono.andThen (State.domainChanged_keeps ..)) (t.setDom_keeps ..).mono)
    (.ite (.refl _ t) (t.domainUp_keeps d))

/-- The writes of a transition that keeps the unit's vector registers. -/
def cvuWrites : Writes := { domainWrites with regs := [.lec, .gec, .pwr, .cvu] }

theorem State.cvuState_keeps (s : State) (n v : Nat) : Keeps cvuWrites s (s.cvuState n v) :=
  (s.set_keeps ..).mono.andThen (s.cvuState_keeps_set n v)

theorem State.pstate_cvuState (s : State) (n v : Nat) (h : v < 4) : (s.cvuState n v).get CVU_STAT_PSTATE n = v := by
  rw [(s.cvuState_keeps_set n v).regs _ _ (by decide), State.get_set_self]
  exact Nat.mod_eq_of_lt h

theorem State.get_cvuState_cvu (s : State) (n v : Nat) (f : Field) (hf : f.bank = .cvu) (h : f.id % 65536 ≠ CVU_STAT_PSTATE.id % 65536) :
    (s.cvuState n v).get f n = s.get f n := by
  rw [(s.cvuState_keeps_set n v).regs f n (by rw [hf]; decide), State.get_set_field _ _ _ _ _ _ h]

theorem State.flag_cvuState_cvu (s : State) (n v : Nat) (f : Field) (hf : f.bank = .cvu) (h : f.id % 65536 ≠ CVU_STAT_PSTATE.id % 65536) :
    (s.cvuState n v).flag f n = s.flag f n := congrArg (· == 1) (s.get_cvuState_cvu n v f hf h)

theorem State.dom_cvuState_off (s : State) (n : Nat) : sget (s.cvuState n 2).dom (740 + n) 0 = 0 := by
  unfold State.cvuState
  extract_lets d t
  rw [if_pos rfl]
  split
  · rw [State.dom_domainChanged, State.dom_setDom_self]
  · exact t.dom_setDom_self d 0

theorem State.dom_cvuState_up (s : State) (n v : Nat) (h : v ≠ 2) : sget (s.cvuState n v).dom (740 + n) 0 = 2 := by
  unfold State.cvuState
  extract_lets d t
  rw [if_neg h]
  split
  · assumption
  · exact t.dom_domainUp d

/-! ### Off (10 R298) -/

/-- The vector registers of core n read 0, and no load is on its way to them. -/
def State.emptyCvu (s : State) (n : Nat) : State := s.setCore n { s.core n with vregs := [], vbad := [], vlate := [] }

theorem State.emptyCvu_keeps (s : State) (n : Nat) : Keeps { cores := true } s (s.emptyCvu n) := s.setCore_keeps ..

theorem State.vreg_emptyCvu (s : State) (n v : Nat) : ((s.emptyCvu n).core n).vreg v = 0 := by
  rw [State.emptyCvu, State.core_setCore_self]
  rfl

/-- The writes of a transition with which the vector registers are lost. -/
def cvuLossWrites : Writes := { cvuWrites with cores := true }

/-- What the unit shows that is Off. -/
structure State.CvuIsOff (t : State) (n : Nat) : Prop where
  pstate : t.get CVU_STAT_PSTATE n = 2
  waking : t.flag CVU_STAT_WAKING n = false
  empty : ∀ v, (t.core n).vreg v = 0
  unpowered : t.domOn (740 + n) = false

theorem State.cvuOff_eq (s : State) (n : Nat) : s.cvuOff n = ((s.emptyCvu n).lower CVU_STAT_WAKING n).cvuState n 2 := rfl

theorem State.cvuOff_isOff (s : State) (n : Nat) : (s.cvuOff n).CvuIsOff n where
  pstate := State.pstate_cvuState _ n 2 (by decide)
  waking := (State.flag_cvuState_cvu _ n 2 CVU_STAT_WAKING rfl (by decide)).trans (State.flag_lower_self _ _ _ (by decide))
  empty v := (congrArg (CoreSt.vreg · v) ((State.cvuState_keeps _ n 2).core rfl n)).trans (s.vreg_emptyCvu n v)
  unpowered := Bool.and_eq_false_iff.mpr (.inl (beq_eq_false_iff_ne.mpr (by rw [s.cvuOff_eq, State.dom_cvuState_off]; decide)))

theorem State.cvuOff_keeps (s : State) (n : Nat) : Keeps cvuLossWrites s (s.cvuOff n) := by
  rw [s.cvuOff_eq]
  exact (s.emptyCvu_keeps n).mono.andThen (State.lower_keeps ..) |>.andThen (State.cvuState_keeps ..)

theorem State.live_cvuOff (s : State) (n : Nat) : (s.cvuOff n).flag CVU_STAT_LIVE n = s.flag CVU_STAT_LIVE n :=
  (State.flag_cvuState_cvu _ n 2 CVU_STAT_LIVE rfl (by decide)).trans (congrArg (· == 1) (State.get_lower_field _ _ _ _ _ (by decide)))

/-- RELEASE: LIVE is cleared, and the unit is Off, also where it was. -/
theorem State.cvuRelease_leaves (s : State) (n : Nat) :
    (s.cvuRelease n).flag CVU_STAT_LIVE n = false ∧ (s.cvuRelease n).get CVU_STAT_PSTATE n = 2 ∧
      (s.cvuRelease n).flag CVU_STAT_WAKING n = false ∧ Keeps cvuLossWrites s (s.cvuRelease n) := by
  have hlive : (s.lower CVU_STAT_LIVE n).flag CVU_STAT_LIVE n = false := s.flag_lower_self _ _ (by decide)
  have hkeeps : Keeps cvuLossWrites s (s.lower CVU_STAT_LIVE n) := (s.lower_keeps ..).mono
  unfold State.cvuRelease
  extract_lets t
  split
  case isTrue hoff => exact ⟨hlive, hoff.1, Bool.eq_false_iff.mpr hoff.2, hkeeps⟩
  case isFalse =>
    have hisOff := t.cvuOff_isOff n
    exact ⟨(t.live_cvuOff n).trans hlive, hisOff.pstate, hisOff.waking, hkeeps.trans (t.cvuOff_keeps n)⟩

/-! ### Wakes (10 R300, R301) -/

theorem State.cvuWake_starts (s : State) (n : Nat) (hp : s.get CVU_STAT_PSTATE n ≠ 0) (hw : s.flag CVU_STAT_WAKING n = false) :
    (s.cvuWake n).flag CVU_STAT_WAKING n = true ∧ (s.cvuWake n).get CVU_STAT_PSTATE n = s.get CVU_STAT_PSTATE n ∧
      Keeps { regs := [.cvu], dom := true } s (s.cvuWake n) := by
  have hstarts : ¬ (s.get CVU_STAT_PSTATE n = 0 ∨ s.flag CVU_STAT_WAKING n = true) := by simp [hp, hw]
  unfold State.cvuWake
  rw [if_neg hstarts]
  extract_lets t
  have hpowers : Keeps { dom := true } s t := .ite (s.setDom_keeps ..) (.refl _ s)
  refine ⟨t.flag_raise_self _ _ (by decide), ?_, hpowers.mono.andThen (t.raise_keeps ..)⟩
  exact (t.get_raise_field _ _ _ _ (by decide)).trans (hpowers.regs _ _ (by decide))

theorem State.cvuWake_nothing (s : State) (n : Nat) (h : s.get CVU_STAT_PSTATE n = 0 ∨ s.flag CVU_STAT_WAKING n = true) : s.cvuWake n = s :=
  if_pos h

theorem State.pstate_lower_waking (s : State) (n : Nat) : (s.lower CVU_STAT_WAKING n).get CVU_STAT_PSTATE n = s.get CVU_STAT_PSTATE n :=
  s.get_lower_field _ _ _ _ (by decide)

theorem State.waking_lower (s : State) (n : Nat) : (s.lower CVU_STAT_WAKING n).flag CVU_STAT_WAKING n = false := s.flag_lower_self _ _ (by decide)

/-- The registers of a unit that wakes from Off, before it is Active. -/
def State.cvuReset (s : State) (n : Nat) : State := ((s.lower CVU_STAT_WAKING n).set CVU_VL_VL n 0x100).bump CVU_WAKES_OFFW n

theorem State.cvuReset_keeps (s : State) (n : Nat) : Keeps { regs := [.cvu] } s (s.cvuReset n) :=
  (s.lower_keeps ..).mono.andThen (State.set_keeps ..) |>.andThen (State.bump_keeps ..)

theorem State.vl_cvuReset (s : State) (n : Nat) : (s.cvuReset n).get CVU_VL_VL n = 256 :=
  (State.get_set_field _ _ _ _ _ _ (by decide)).trans (State.get_set_self ..)

theorem State.waking_cvuReset (s : State) (n : Nat) : (s.cvuReset n).flag CVU_STAT_WAKING n = false :=
  (State.flag_bump_field _ _ _ _ _ _ (by decide)).trans ((State.flag_set_field _ _ _ _ _ _ (by decide)).trans (s.waking_lower n))

theorem State.cvuActive_fromOff (s : State) (n : Nat) (h : s.get CVU_STAT_PSTATE n = 2) :
    s.cvuActive n = ((s.cvuReset n).emptyCvu n).cvuState n 0 := if_pos ((s.pstate_lower_waking n).trans h)

theorem State.cvuActive_fromRetention (s : State) (n : Nat) (h : s.get CVU_STAT_PSTATE n = 1) :
    s.cvuActive n = ((s.lower CVU_STAT_WAKING n).bump CVU_WAKES_RETW n).cvuState n 0 :=
  if_neg (by rw [s.pstate_lower_waking n, h]; decide)

/-- A unit that was Off is Active, powered and empty, with VL 256. -/
theorem State.cvuActive_fromOff_leaves (s : State) (n : Nat) (hawake : s.awake = true) (h : s.get CVU_STAT_PSTATE n = 2) :
    (s.cvuActive n).get CVU_STAT_PSTATE n = 0 ∧ (s.cvuActive n).flag CVU_STAT_WAKING n = false ∧ (s.cvuActive n).get CVU_VL_VL n = 256 ∧
      (∀ v, ((s.cvuActive n).core n).vreg v = 0) ∧ (s.cvuActive n).domOn (740 + n) = true ∧ Keeps cvuLossWrites s (s.cvuActive n) := by
  rw [s.cvuActive_fromOff n h]
  generalize hu : (s.cvuReset n).emptyCvu n = u
  have hreset : Keeps { cores := true } (s.cvuReset n) u := hu ▸ (s.cvuReset n).emptyCvu_keeps n
  have hkeeps : Keeps cvuLossWrites s (u.cvuState n 0) :=
    (s.cvuReset_keeps n).mono.andThen hreset |>.andThen (u.cvuState_keeps n 0)
  refine ⟨u.pstate_cvuState n 0 (by decide), ?_, ?_, fun v => ?_, ?_, hkeeps⟩
  · rw [u.flag_cvuState_cvu n 0 _ rfl (by decide), hreset.flag _ _ (by decide), s.waking_cvuReset]
  · rw [u.get_cvuState_cvu n 0 _ rfl (by decide), hreset.regs _ _ (by decide), s.vl_cvuReset]
  · rw [(u.cvuState_keeps n 0).core rfl, ← hu, State.vreg_emptyCvu]
  · rw [State.domOn, u.dom_cvuState_up n 0 (by decide), hkeeps.awake rfl, hawake]
    rfl

/-- A unit that was in Retention is Active with its registers. -/
theorem State.cvuActive_fromRetention_leaves (s : State) (n : Nat) (h : s.get CVU_STAT_PSTATE n = 1) :
    (s.cvuActive n).get CVU_STAT_PSTATE n = 0 ∧ (s.cvuActive n).flag CVU_STAT_WAKING n = false ∧
      (s.cvuActive n).get CVU_VL_VL n = s.get CVU_VL_VL n ∧ Keeps cvuWrites s (s.cvuActive n) := by
  rw [s.cvuActive_fromRetention n h]
  refine ⟨State.pstate_cvuState _ n 0 (by decide), ?_, ?_,
    (s.lower_keeps ..).mono.andThen (State.bump_keeps ..) |>.andThen (State.cvuState_keeps ..)⟩
  · rw [State.flag_cvuState_cvu _ n 0 _ rfl (by decide), State.flag_bump_field _ _ _ _ _ _ (by decide), s.waking_lower]
  · rw [State.get_cvuState_cvu _ n 0 _ rfl (by decide), State.get_bump_ne _ _ _ _ _ _ (CVU_VL_VL.key_ne n (by decide)),
      State.get_lower_field _ _ _ _ _ (by decide)]

/-! ### The idle timer (10 R299) -/

theorem State.cvuReached_of (s : State) (n k : Nat) (hk : k ≠ 0) (hidle : 2 * k ≤ s.cvuIdle n) (hdet : s.flag CPO_MODE_DET n = false) :
    s.cvuReached n k = true := by
  simp [State.cvuReached, hk, hidle, hdet]

theorem State.not_cvuReached (s : State) (n k : Nat) (h : k = 0 ∨ s.cvuIdle n < 2 * k) : s.cvuReached n k = false := by
  rcases h with hk | hidle
  · simp [State.cvuReached, hk]
  · simp [State.cvuReached, hidle]

theorem State.cvuReached_deterministic (s : State) (n k : Nat) (h : s.flag CPO_MODE_DET n = true) : s.cvuReached n k = false := by
  simp [State.cvuReached, h]

theorem exec_cvuRetention_due (n : Core) (s : State) (hon : s.coreOn n.val = true) (hp : s.get CVU_STAT_PSTATE n.val = 0)
    (hdue : s.cvuReached n.val (s.get CVU_IDLE_RET n.val) = true) : exec (.cvuRetention n) s = .next (s.cvuState n.val 1) :=
  if_pos (by simp [hon, hp, hdue])

theorem exec_cvuRetention_early (n : Core) (s : State) (h : s.cvuReached n.val (s.get CVU_IDLE_RET n.val) = false) :
    exec (.cvuRetention n) s = .next s := if_neg (by simp [h])

theorem exec_cvuOff_due (n : Core) (s : State) (hon : s.coreOn n.val = true) (hp : s.get CVU_STAT_PSTATE n.val ≠ 2)
    (hw : s.flag CVU_STAT_WAKING n.val = false) (hl : s.flag CVU_STAT_LIVE n.val = false)
    (hdue : s.cvuReached n.val (s.get CVU_IDLE_OFF n.val) = true) : exec (.cvuOff n) s = .next (s.cvuOff n.val) :=
  if_pos (by simp [hon, hp, hw, hl, hdue])

/-- The timer does not take a unit Off whose time has not come, that wakes, or that is LIVE. -/
theorem exec_cvuOff_not (n : Core) (s : State)
    (h : s.cvuReached n.val (s.get CVU_IDLE_OFF n.val) = false ∨ s.flag CVU_STAT_WAKING n.val = true ∨ s.flag CVU_STAT_LIVE n.val = true) :
    exec (.cvuOff n) s = .next s := if_neg (by rcases h with h | h | h <;> simp [h])

/-- A vector instruction that completes starts the timer anew and sets LIVE (10 R299, R300). -/
theorem State.cvuUsed_starts (s : State) (n : Nat) : (s.cvuUsed n).cvuIdle n = 0 ∧ (s.cvuUsed n).flag CVU_STAT_LIVE n = true := by
  have hcore : (s.cvuUsed n).core n = { s.core n with idleAt := s.tb, idleFor := 0 } := State.core_setCore_self ..
  refine ⟨?_, s.flag_raise_self CVU_STAT_LIVE n (by decide)⟩
  unfold State.cvuIdle
  rw [hcore]
  exact ite_eq_left_iff.mpr fun _ => by show 0 + (s.tb - s.tb) = 0; omega

/-! ### The statement -/

/-- Settles O47: every transition is a write of `PSTATE` with a change of the unit's domain (`cvuState_keeps_set`), and the timer's two are made only once
its time has come (`cvuReached`). -/
theorem cvuPower : Obligations.CvuPower := by
  unfold Obligations.CvuPower
  refine ⟨?release, ?wake, ?wakeNothing, ?wakeDoneFromOff, ?wakeDoneFromRetention, ?retention, ?off, ?notIdleYet, ?usedAnew, ?timerStopped,
    ?offWhileWaking, ?liveStaysUp⟩
  case release => exact fun n s hon => ⟨_, if_pos hon, s.cvuRelease_leaves n.val⟩
  case wake =>
    intro n s hon hp hw
    obtain ⟨hwaking, hpstate, hkeeps⟩ := s.cvuWake_starts n.val hp hw
    exact ⟨_, if_pos hon, hwaking, hpstate, hkeeps.cores rfl, hkeeps⟩
  case wakeNothing => exact fun n s h => next_ite_of_eq (s.cvuWake_nothing n.val h)
  case wakeDoneFromOff =>
    intro n s hon hw hp
    exact ⟨_, if_pos (by simp [hon, hw]), s.cvuActive_fromOff_leaves n.val (State.awake_of_domOn hon) hp⟩
  case wakeDoneFromRetention =>
    intro n s hon hw hp
    obtain ⟨hpstate, hwaking, hvl, hkeeps⟩ := s.cvuActive_fromRetention_leaves n.val hp
    exact ⟨_, if_pos (by simp [hon, hw]), hpstate, hwaking, hkeeps.cores rfl, hvl, hkeeps⟩
  case retention =>
    intro n s hon hp hret hidle hdet
    have hkeeps := s.cvuState_keeps n.val 1
    exact ⟨_, exec_cvuRetention_due n s hon hp (s.cvuReached_of _ _ hret hidle hdet), s.pstate_cvuState n.val 1 (by decide), hkeeps.cores rfl, hkeeps⟩
  case off =>
    intro n s hon hp hw hl hoff hidle hdet
    have hisOff := s.cvuOff_isOff n.val
    exact ⟨_, exec_cvuOff_due n s hon hp hw hl (s.cvuReached_of _ _ hoff hidle hdet), hisOff.pstate, hisOff.empty, hisOff.unpowered,
      s.cvuOff_keeps n.val⟩
  case notIdleYet =>
    exact fun n s => ⟨fun h => exec_cvuRetention_early n s (s.not_cvuReached _ _ h), fun h => exec_cvuOff_not n s (.inl (s.not_cvuReached _ _ h))⟩
  case usedAnew => exact fun n s => s.cvuUsed_starts n.val
  case timerStopped =>
    exact fun n s h => ⟨exec_cvuRetention_early n s (s.cvuReached_deterministic _ _ h), exec_cvuOff_not n s (.inl (s.cvuReached_deterministic _ _ h))⟩
  case offWhileWaking => exact fun n s h => exec_cvuOff_not n s (.inr (.inl h))
  case liveStaysUp => exact fun n s h => exec_cvuOff_not n s (.inr (.inr h))

end Sys2Proof.Machine
end

section
/-! SUPPORT. Vector instructions behind a walk ahead (11 R316) that moves the PC of its own core. `State.VIssues` rests on `State.Issues` and with it on a
fetch at the PC before the walk, where the model fetches at the PC behind it. -/

namespace Sys2Proof.Machine

set_option Elab.async false

/-! ### A core that debugs itself, with vector instructions -/

/-- The core of `State.selfDebugging` with ST.VEN set and an Active vector unit. -/
def State.selfVectoring : State :=
  (State.selfDebugging.setCore 0 { State.selfDebugging.core 0 with st := 0x3F00 }).set CVU_STAT_PSTATE 0 0

/-- The state behind its walk. -/
def State.selfVectored : State := State.selfVectoring.walkedAhead 0 (walkingSlot false)

/-- The core there. -/
def CoreSt.movedVectoring : CoreSt := { CoreSt.moved with st := 0x3F00 }

theorem State.core_selfVectored : State.selfVectored.core 0 = CoreSt.movedVectoring := by decide +kernel

theorem State.cvuReady_selfVectored : State.selfVectored.cvuReady 0 = State.selfVectored := if_pos (by decide +kernel)

/-- The state in which a vector instruction would compute: the unit is Active, and the command spoils no byte. -/
def State.selfReady : State := State.selfVectored.setCore 0 CoreSt.movedVectoring

theorem State.core_selfReady : State.selfReady.core 0 = CoreSt.movedVectoring := State.core_setCore_self ..

theorem State.selfVectoring_issues : State.selfVectoring.Issues 0 (walkingSlot false) 3 State.selfVectored where
  runs := by decide +kernel
  due := by decide +kernel
  alone := by decide +kernel
  single := rfl
  known := rfl
  even := by decide +kernel
  live := by decide +kernel
  fetched := by decide +kernel

theorem State.selfVectoring_vIssues (o : VOp) (use : VUse) (hfields : use.bad o = false) :
    State.selfVectoring.VIssues 0 (walkingSlot false) o use State.selfVectored State.selfReady where
  issues := State.selfVectoring_issues
  enabled := by decide +kernel
  fields := hfields
  ready := by
    show _ = (State.selfVectored.cvuReady 0).setCore 0 (((State.selfVectored.cvuReady 0).core 0).vUpset .none)
    rw [State.cvuReady_selfVectored, State.core_selfVectored]
    rfl
  kept := by decide +kernel
  parity r hr := absurd rfl (State.core_selfReady ▸ hr)

/-- What every vector instruction leaves of `State.selfVectoring`: the state behind the walk, with a frozen pipeline. -/
def State.vectorFrozen : State := State.selfVectored.setCore 0 { CoreSt.movedVectoring with frozen := true }

theorem State.core_vectorFrozen : State.vectorFrozen.core 0 = { CoreSt.movedVectoring with frozen := true } := State.core_setCore_self ..

/-- The fetch of every vector instruction, at the new PC, waits for the flash device (13 R375). -/
theorem State.vec_selfVectoring (o : VOp) (mem : Bool) (k : VKind) (f : State → CoreSt → List Nat → Run Eff) :
    State.selfVectoring.vec 0 (walkingSlot false) o mem k f = .next State.vectorFrozen := by
  obtain ⟨hruns, hdue⟩ : State.selfVectoring.issues 0 = true ∧ State.selfVectoring.beforeGroup 0 = none := by decide +kernel
  have hwait : (State.selfVectored.fetch 0 0x1040 3 .none).2 = .error .wait := by decide +kernel
  have hfrozen := State.selfVectoring.issue_fetch_waits State.selfVectored 0 (walkingSlot false) ⟨0, false, .none⟩
    { len := 3, mem := mem, vector := true }
  rw [State.core_selfVectored] at hfrozen
  exact congrArg Host.Outcome.next (hfrozen _ id hruns hdue rfl rfl rfl rfl nofun rfl hwait)

/-- No group without a jump completes there: the PC stands. -/
theorem State.not_done_vectorFrozen (e : Eff) (hjump : e.jump = none) : ¬ State.selfReady.Done State.vectorFrozen 0 3 e := by
  intro h
  have hpc := h.pc
  rw [hjump, State.core_selfReady, State.core_vectorFrozen] at hpc
  exact absurd hpc (by decide +kernel)

/-- So an instruction that waits there does not complete. -/
theorem State.not_completes_selfVectoring {i : Instr} {t : State} (e : Eff) (hwaits : exec i State.selfVectoring = .next State.vectorFrozen)
    (hjump : e.jump = none) (hexec : exec i State.selfVectoring = .next t) : ¬ State.selfReady.Done t 0 3 e := by
  obtain rfl : t = State.vectorFrozen := Host.Outcome.next.inj (hexec.symm.trans hwaits)
  exact State.not_done_vectorFrozen e hjump

theorem exec_vadd_selfVectoring (o : VOp) : exec (.vadd 0 (walkingSlot false) o) State.selfVectoring = .next State.vectorFrozen := by
  show execVadd 0 _ o _ = _
  rw [execVadd, State.vMap, State.vec_selfVectoring]

theorem exec_vmsk_selfVectoring (o : VOp) : exec (.vmsk 0 (walkingSlot false) o) State.selfVectoring = .next State.vectorFrozen := by
  show execVmsk 0 _ o _ = _
  rw [execVmsk, State.vec_selfVectoring]

theorem exec_vradd_selfVectoring (o : VOp) : exec (.vradd 0 (walkingSlot false) o) State.selfVectoring = .next State.vectorFrozen := by
  show execVradd 0 _ o _ = _
  rw [execVradd, State.vReduce, State.vec_selfVectoring]

theorem exec_vst_selfVectoring (o : VOp) : exec (.vst 0 (walkingSlot false) o) State.selfVectoring = .next State.vectorFrozen := by
  show execVst 0 _ o _ = _
  rw [execVst, State.vStore, State.vec_selfVectoring]

/-! ### The statements -/

/-- An operation on single registers of bytes, V0, without a mask. -/
def plainVOp : VOp := ⟨0, 0, false, 0, 0, 0, 0, false, 0, 0⟩

/-- Refutes O39. The VADD of `State.selfVectoring` waits for its fetch at the PC behind its walk. -/
theorem not_vectorArithmetic : ¬ Obligations.VectorArithmetic := by
  unfold Obligations.VectorArithmetic
  rintro ⟨hvadd, -⟩
  obtain ⟨t, hexec, -, hdone⟩ := hvadd 0 (walkingSlot false) plainVOp _ _ _ (State.selfVectoring_vIssues plainVOp _ (by decide))
  exact State.not_completes_selfVectoring _ (exec_vadd_selfVectoring _) rfl hexec hdone

/-- Refutes O40. The VMSK of `State.selfVectoring` waits for its fetch at the PC behind its walk. -/
theorem not_vectorMoves : ¬ Obligations.VectorMoves := by
  unfold Obligations.VectorMoves
  rintro ⟨hvmsk, -⟩
  obtain ⟨t, hexec, -, hdone⟩ := hvmsk 0 (walkingSlot false) plainVOp _ _ _ (State.selfVectoring_vIssues plainVOp _ (by decide))
  exact State.not_completes_selfVectoring _ (exec_vmsk_selfVectoring _) rfl hexec hdone

/-- Refutes O41. The VRADD of `State.selfVectoring` waits for its fetch at the PC behind its walk. -/
theorem not_vectorReductions : ¬ Obligations.VectorReductions := by
  unfold Obligations.VectorReductions
  rintro ⟨hvradd, -⟩
  obtain ⟨t, hexec, -, hdone⟩ := hvradd 0 (walkingSlot false) plainVOp _ _ _ (State.selfVectoring_vIssues plainVOp _ (by decide))
  exact State.not_completes_selfVectoring _ (exec_vradd_selfVectoring _) rfl hexec hdone

/-- An operation under a mask on V1; V0 is 0, so that no element is active. -/
def maskedVOp : VOp := { plainVOp with m := true, vd := 1 }

/-- Refutes O42. A VST of `State.selfVectoring` without active elements waits for its fetch at the PC behind its walk. -/
theorem not_vectorMemory : ¬ Obligations.VectorMemory := by
  unfold Obligations.VectorMemory
  rintro ⟨-, -, -, hnothing, -⟩
  obtain ⟨t, hexec, -, hdone⟩ := hnothing 0 (walkingSlot false) maskedVOp _ _ _ (State.selfVectoring_vIssues maskedVOp _ (by decide)) (by decide +kernel)
  exact State.not_completes_selfVectoring _ (exec_vst_selfVectoring _) rfl hexec hdone

end Sys2Proof.Machine
end

section
/-! SUPPORT. The lock commands of a core's TLB (11 R319, R320): the entry that a leaf makes, what a WRITE, an UNLOCK and a READ make of the state,
and that the index which a command sets is none of the fields that it reads. -/

namespace Sys2Proof.Machine

set_option Elab.async false

/-! ### The entry that `MMU_LKVA` and `MMU_LKPA` describe -/

/-- An entry maps the page that it was made for: its page number is that of the start of its page. -/
theorem tlbOf_maps (d vpn size asid : Nat) (glob : Bool) : (tlbOf d vpn size asid glob).maps vpn = true := by
  simp [tlbOf, TlbEnt.maps, Nat.mul_div_cancel _ (Nat.two_pow_pos _)]

/-- The entry that a WRITE command locks. -/
def State.lockEntry (s : State) (n : Nat) : TlbEnt :=
  tlbOf (s.get MMU_LKPA_DESC n) (s.get MMU_LKVA_VPN n) (s.get MMU_LKVA_SIZE n) (s.get MMU_LKVA_ASID n) (s.flag MMU_LKVA_G n)

/-- The descriptor is no leaf of its size (R320). -/
def State.NoLeaf (s : State) (n : Nat) : Prop :=
  bit (s.get MMU_LKPA_DESC n) 0 = false ∨ bit (s.get MMU_LKPA_DESC n) 1 ≠ (s.get MMU_LKVA_SIZE n == 0) ∨
    leafCause (s.get MMU_LKPA_DESC n) (s.get MMU_LKVA_SIZE n) ≠ 0

/-- The index of a command. -/
def State.lockIndexed (s : State) (n i : Nat) : State := s.set MMU_LKCMD_IDX n i

theorem State.lockIndexed_keeps (s : State) (n i : Nat) : Keeps { regs := [.mmu] } s (s.lockIndexed n i) := s.set_keeps MMU_LKCMD_IDX n i

theorem State.core_lockIndexed (s : State) (n i : Nat) : (s.lockIndexed n i).core n = s.core n := (s.lockIndexed_keeps n i).core rfl n

theorem State.get_lockIndexed (s : State) (n i : Nat) (f : Field) (h : f.id % 65536 ≠ MMU_LKCMD_IDX.id % 65536) :
    (s.lockIndexed n i).get f n = s.get f n := s.get_set_field _ _ _ _ _ h

theorem State.lockEntry_lockIndexed (s : State) (n i : Nat) : (s.lockIndexed n i).lockEntry n = s.lockEntry n := by
  have hglob : (s.lockIndexed n i).flag MMU_LKVA_G n = s.flag MMU_LKVA_G n := s.flag_set_field _ _ _ _ _ (by decide)
  simp only [State.lockEntry, hglob, s.get_lockIndexed n i MMU_LKPA_DESC (by decide), s.get_lockIndexed n i MMU_LKVA_VPN (by decide),
    s.get_lockIndexed n i MMU_LKVA_SIZE (by decide), s.get_lockIndexed n i MMU_LKVA_ASID (by decide)]

theorem State.noLeaf_lockIndexed (s : State) (n i : Nat) : (s.lockIndexed n i).NoLeaf n ↔ s.NoLeaf n := by
  simp only [State.NoLeaf, s.get_lockIndexed n i MMU_LKPA_DESC (by decide), s.get_lockIndexed n i MMU_LKVA_SIZE (by decide)]

/-! ### WRITE (R319, R320) -/

/-- A core that has locked an entry at index i: what overlaps the entry is gone from the other TLBs. -/
def CoreSt.locked (x : CoreSt) (i : Nat) (e : TlbEnt) : CoreSt :=
  { x with l1 := x.l1.filter (fun f => !f.overlaps e), l2 := x.l2.filter (fun f => !f.overlaps e), locks := insertKey x.locks i e }

theorem CoreSt.lookup_locked_self (x : CoreSt) (i : Nat) (e : TlbEnt) : lookup (x.locked i e).locks i = some e :=
  (lookup_insertKey ..).trans (if_pos rfl)

theorem CoreSt.lookup_locked_ne (x : CoreSt) (i j : Nat) (e : TlbEnt) (h : j ≠ i) : lookup (x.locked i e).locks j = lookup x.locks j :=
  (lookup_insertKey ..).trans (if_neg h)

theorem CoreSt.locked_drops_overlaps (x : CoreSt) (i : Nat) (e f : TlbEnt) (hf : f ∈ (x.locked i e).l1 ++ (x.locked i e).l2) :
    f.overlaps e = false := by
  rcases List.mem_append.mp hf with hl1 | hl2
  · simpa using (List.mem_filter.mp hl1).2
  · simpa using (List.mem_filter.mp hl2).2

theorem State.lkWrite_noLeaf (s : State) (n i : Nat) (h : s.NoLeaf n) : s.lkWrite n i = s.raise MMU_LKCMD_ERR n :=
  if_pos (by simpa [State.NoLeaf, or_assoc] using h)

theorem State.lkWrite_leaf (s : State) (n i : Nat) (h : ¬ s.NoLeaf n) : s.lkWrite n i = s.setCore n ((s.core n).locked i (s.lockEntry n)) :=
  if_neg (by simpa [State.NoLeaf, and_assoc] using h)

/-! ### UNLOCK (R319) -/

theorem State.locks_lkUnlock (s : State) (n i j : Nat) :
    lookup ((s.lkUnlock n i).core n).locks j = if j = i then none else lookup (s.core n).locks j := by
  rw [State.lkUnlock, State.core_setCore_self]
  exact lookup_eraseKey ..

/-! ### READ (R319) -/

/-- The values of an entry in `MMU_LKVA` and `MMU_LKPA`. -/
def State.lockShown (s : State) (n asid size glob vpn desc : Nat) : State :=
  ((((s.set MMU_LKVA_ASID n asid).set MMU_LKVA_SIZE n size).set MMU_LKVA_G n glob).set MMU_LKVA_VPN n vpn).set MMU_LKPA_DESC n desc

theorem State.lkRead_some (s : State) (n i : Nat) (e : TlbEnt) (h : lookup (s.core n).locks i = some e) :
    s.lkRead n i = s.lockShown n e.asid e.size (b2n e.glob) e.vpn e.desc := by
  simp only [State.lkRead, h, State.lockShown]

theorem State.lkRead_none (s : State) (n i : Nat) (h : lookup (s.core n).locks i = none) : s.lkRead n i = s.lockShown n 0 0 0 0 0 := by
  simp only [State.lkRead, h, State.lockShown]

theorem State.lockShown_keeps (s : State) (n asid size glob vpn desc : Nat) :
    Keeps { regs := [.mmu] } s (s.lockShown n asid size glob vpn desc) :=
  (s.set_keeps MMU_LKVA_ASID n asid).andThen (State.set_keeps ..) |>.andThen (State.set_keeps ..) |>.andThen (State.set_keeps ..)
    |>.andThen (State.set_keeps ..)

section
variable (s : State) (n asid size glob vpn desc : Nat)

theorem State.asid_lockShown : (s.lockShown n asid size glob vpn desc).get MMU_LKVA_ASID n = asid % 2 ^ MMU_LKVA_ASID.width := by
  rw [State.lockShown, State.get_set_field _ _ _ _ _ _ (by decide), State.get_set_field _ _ _ _ _ _ (by decide),
    State.get_set_field _ _ _ _ _ _ (by decide), State.get_set_field _ _ _ _ _ _ (by decide), State.get_set_self]

theorem State.size_lockShown : (s.lockShown n asid size glob vpn desc).get MMU_LKVA_SIZE n = size % 2 ^ MMU_LKVA_SIZE.width := by
  rw [State.lockShown, State.get_set_field _ _ _ _ _ _ (by decide), State.get_set_field _ _ _ _ _ _ (by decide),
    State.get_set_field _ _ _ _ _ _ (by decide), State.get_set_self]

theorem State.glob_lockShown (b : Bool) : (s.lockShown n asid size (b2n b) vpn desc).flag MMU_LKVA_G n = b := by
  rw [State.lockShown, State.flag_set_field _ _ _ _ _ _ (by decide), State.flag_set_field _ _ _ _ _ _ (by decide), State.flag_set_b2n _ MMU_LKVA_G]

theorem State.vpn_lockShown : (s.lockShown n asid size glob vpn desc).get MMU_LKVA_VPN n = vpn % 2 ^ MMU_LKVA_VPN.width := by
  rw [State.lockShown, State.get_set_field _ _ _ _ _ _ (by decide), State.get_set_self]

theorem State.desc_lockShown : (s.lockShown n asid size glob vpn desc).get MMU_LKPA_DESC n = desc % 2 ^ MMU_LKPA_DESC.width :=
  State.get_set_self ..

end

/-! ### The commands in a core that is on, and in one that is off -/

theorem exec_lkcmdWrite_on (n : Core) (i : Fin 8) (s : State) (hon : s.domOn (720 + n.val) = true) :
    exec (.lkcmdWrite n i) s = .next ((s.lockIndexed n.val i.val).lkWrite n.val i.val) := if_pos hon

theorem exec_unlock_on (n : Core) (i : Fin 8) (s : State) (hon : s.domOn (720 + n.val) = true) :
    exec (.unlock n i) s = .next ((s.lockIndexed n.val i.val).lkUnlock n.val i.val) := if_pos hon

theorem exec_lkcmdRead_on (n : Core) (i : Fin 8) (s : State) (hon : s.domOn (720 + n.val) = true) :
    exec (.lkcmdRead n i) s = .next ((s.lockIndexed n.val i.val).lkRead n.val i.val) := if_pos hon

theorem exec_lockCommands_off (n : Core) (i : Fin 8) (s : State) (hoff : s.domOn (720 + n.val) = false) :
    exec (.lkcmdWrite n i) s = .next s ∧ exec (.unlock n i) s = .next s ∧ exec (.lkcmdRead n i) s = .next s := by
  have h : ¬ s.domOn (720 + n.val) = true := by simp [hoff]
  exact ⟨if_neg h, if_neg h, if_neg h⟩

theorem exec_lkcmdWrite_leaf (n : Core) (i : Fin 8) (s : State) (hon : s.domOn (720 + n.val) = true) (hleaf : ¬ s.NoLeaf n.val) :
    ∃ t, exec (.lkcmdWrite n i) s = .next t ∧ t.core n.val = (s.core n.val).locked i.val (s.lockEntry n.val) ∧
      Keeps { regs := [.mmu], cores := true } s t := by
  refine ⟨_, exec_lkcmdWrite_on n i s hon, ?_⟩
  rw [State.lkWrite_leaf _ _ _ ((s.noLeaf_lockIndexed ..).not.mpr hleaf), s.core_lockIndexed, s.lockEntry_lockIndexed]
  exact ⟨State.core_setCore_self .., (s.lockIndexed_keeps ..).mono.andThen (State.setCore_keeps ..)⟩

theorem exec_lkcmdWrite_noLeaf (n : Core) (i : Fin 8) (s : State) (hon : s.domOn (720 + n.val) = true) (h : s.NoLeaf n.val) :
    ∃ t, exec (.lkcmdWrite n i) s = .next t ∧ t.flag MMU_LKCMD_ERR n.val = true ∧ Keeps { regs := [.mmu] } s t := by
  refine ⟨_, exec_lkcmdWrite_on n i s hon, ?_⟩
  rw [State.lkWrite_noLeaf _ _ _ ((s.noLeaf_lockIndexed ..).mpr h)]
  exact ⟨State.flag_raise_self _ _ _ (by decide), (s.lockIndexed_keeps ..).andThen (State.raise_keeps ..)⟩

theorem exec_unlock_unlocks (n : Core) (i : Fin 8) (s : State) (hon : s.domOn (720 + n.val) = true) :
    ∃ t, exec (.unlock n i) s = .next t ∧
      (∀ j, lookup (t.core n.val).locks j = if j = i.val then none else lookup (s.core n.val).locks j) ∧
      Keeps { regs := [.mmu], cores := true } s t := by
  refine ⟨_, exec_unlock_on n i s hon, fun j => ?_, (s.lockIndexed_keeps ..).mono.andThen (State.setCore_keeps ..)⟩
  rw [State.locks_lkUnlock, s.core_lockIndexed]

/-! ### The statement -/

/-- Settles O46. A command sets its index and acts on the fields as they stood before; a WRITE of a leaf leaves the core `locked`, an UNLOCK takes one
index from the locks, and a READ leaves the entry `lockShown`. -/
theorem tlbLocks : Obligations.TlbLocks := by
  unfold Obligations.TlbLocks
  refine ⟨?write, ?writeRefused, ?unlock, ?read, ?readUnlocked, ?powerOff⟩
  case write =>
    intro n i s hon hvalid htype hcause
    have hleaf : ¬ s.NoLeaf n.val := by simp [State.NoLeaf, hvalid, htype, hcause]
    obtain ⟨t, hexec, hcore, hkeeps⟩ := exec_lkcmdWrite_leaf n i s hon hleaf
    refine ⟨t, s.lockEntry n.val, hexec, ?_, rfl, rfl, rfl, rfl, tlbOf_maps .., ?_, ?_, hkeeps⟩ <;> rw [hcore]
    · exact CoreSt.lookup_locked_self ..
    · exact CoreSt.locked_drops_overlaps _ _ _
    · exact fun j hj => CoreSt.lookup_locked_ne _ _ _ _ hj
  case writeRefused =>
    intro n i s hon hbad
    obtain ⟨t, hexec, herr, hkeeps⟩ := exec_lkcmdWrite_noLeaf n i s hon hbad
    exact ⟨t, hexec, herr, hkeeps.core rfl _, hkeeps⟩
  case unlock =>
    intro n i s hon
    obtain ⟨t, hexec, hlocks, hkeeps⟩ := exec_unlock_unlocks n i s hon
    exact ⟨t, hexec, (hlocks _).trans (if_pos rfl), fun j hj => (hlocks j).trans (if_neg hj), hkeeps⟩
  case read =>
    intro n i e s hon hlocked
    refine ⟨_, exec_lkcmdRead_on n i s hon, ?_⟩
    rw [State.lkRead_some _ _ _ e (by rwa [s.core_lockIndexed])]
    exact ⟨State.asid_lockShown .., State.size_lockShown .., State.glob_lockShown .., State.vpn_lockShown .., State.desc_lockShown ..,
      (s.lockIndexed_keeps ..).trans (State.lockShown_keeps ..)⟩
  case readUnlocked =>
    intro n i s hon hfree
    refine ⟨_, exec_lkcmdRead_on n i s hon, ?_⟩
    rw [State.lkRead_none _ _ _ (by rwa [s.core_lockIndexed])]
    exact ⟨State.asid_lockShown .., State.vpn_lockShown .., State.desc_lockShown .., (s.lockIndexed_keeps ..).trans (State.lockShown_keeps ..)⟩
  case powerOff => exact exec_lockCommands_off

end Sys2Proof.Machine
end

section
/-! SUPPORT. The assignment of a GEC input to a core (12 R340): one equation for each of its outcomes, and what a field holds after it. -/

namespace Sys2Proof.Machine

set_option Elab.async false

theorem State.gecAssign_target (s : State) (i : Nat) (h : s.coreAvail (s.get GEC_IN_TARGET i) = true) :
    s.gecAssign i = s.set GEC_IN_CUR i (s.get GEC_IN_TARGET i) := if_pos h

theorem State.gecAssign_fallback (s : State) (i n : Nat) (h : s.coreAvail (s.get GEC_IN_TARGET i) = false) (hn : s.fallbackCore = some n) :
    s.gecAssign i = (s.set GEC_IN_CUR i n).set GEC_FALLBACK_RRPTR 0 n := by
  simp only [State.gecAssign, h, Bool.false_eq_true, if_false, hn]

theorem State.gecAssign_orphan (s : State) (i : Nat) (h : s.coreAvail (s.get GEC_IN_TARGET i) = false) (hn : s.fallbackCore = none) :
    s.gecAssign i = ((s.set GEC_IN_CUR i 0x1F).raise GEC_STAT_ORPHAN).set GEC_STAT_ORPHIN 0 i := by
  simp only [State.gecAssign, h, Bool.false_eq_true, if_false, hn]

/-- A fallback core is a number modulo 20, so the fields of five bits hold it whole. -/
theorem State.fallbackCore_lt (s : State) (n : Nat) (h : s.fallbackCore = some n) : n < 20 := by
  obtain ⟨k, -, rfl⟩ := List.mem_map.mp (List.mem_of_find?_eq_some h)
  exact Nat.mod_lt _ (by decide)

theorem exec_gecReassignment_assigns (i : Fin 576) (s : State) (hdom : s.domOn 764 = true) (hlevel : s.flag GEC_IN_LEVEL i.val = true)
    (hcur : s.get GEC_IN_CUR i.val = 0x1F ∨ s.coreAvail (s.get GEC_IN_CUR i.val) = false) :
    exec (.gecReassignment i) s = .next (s.gecAssign i.val).hubLevels := by
  have hassign : s.reassign i.val = (s.gecAssign i.val).hubLevels := if_pos (by simpa [hlevel] using hcur)
  exact (if_pos hdom).trans (congrArg _ hassign)

theorem exec_gecReassignment_inactive (i : Fin 576) (s : State) (hlevel : s.flag GEC_IN_LEVEL i.val = false) :
    exec (.gecReassignment i) s = .next s := by
  have hsame : s.reassign i.val = s := if_neg (by simp [hlevel])
  change (if s.domOn 764 then _ else _) = _
  rw [hsame, ite_self]

/-- Settles O6. The command is one assignment, `gecAssign`, of which each outcome is one or two writes of GEC fields. -/
theorem eventAssignment : Obligations.EventAssignment := by
  unfold Obligations.EventAssignment
  refine ⟨?target, ?fallback, ?orphan, exec_gecReassignment_inactive⟩
  case target =>
    intro i s hdom hlevel hcur havail
    refine ⟨_, exec_gecReassignment_assigns i s hdom hlevel hcur, ?_, ?_, s.gecAssign_keeps _⟩ <;> rw [s.gecAssign_target _ havail]
    · exact State.get_set_self ..
    · exact State.get_set_field _ _ _ _ _ _ (by decide)
  case fallback =>
    intro i n s hdom hlevel hcur havail hn
    have hfits : n % 2 ^ 5 = n := Nat.mod_eq_of_lt (by have := s.fallbackCore_lt n hn; omega)
    refine ⟨_, exec_gecReassignment_assigns i s hdom hlevel hcur, ?_, ?_, s.gecAssign_keeps _⟩ <;> rw [s.gecAssign_fallback _ n havail hn]
    · exact (State.get_set_field _ _ _ _ _ _ (by decide)).trans ((State.get_set_self ..).trans hfits)
    · exact (State.get_set_self ..).trans hfits
  case orphan =>
    intro i s hdom hlevel hcur havail hn
    have hfits : i.val % 2 ^ 10 = i.val := Nat.mod_eq_of_lt (by omega)
    refine ⟨_, exec_gecReassignment_assigns i s hdom hlevel hcur, ?_, ?_, ?_, s.gecAssign_keeps _⟩ <;> rw [s.gecAssign_orphan _ havail hn]
    · rw [State.get_set_field _ _ _ _ _ _ (by decide), State.get_raise_field _ _ _ _ _ (by decide), State.get_set_self]
      rfl
    · rw [State.flag_set_field _ _ _ _ _ _ (by decide), State.flag_raise_self _ _ _ (by decide)]
    · exact (State.get_set_self ..).trans hfits

end Sys2Proof.Machine
end

section
/-! SUPPORT. What an accepted event leaves of a core and its registers (12 R342 to R348): the claim, the cycles counted, and the core at the vector; one
equation for each way in which an offer meets the core. -/

namespace Sys2Proof.Machine

set_option Elab.async false

/-! ### ST at an event -/

theorem bits_stEvent_iml (st p : Nat) (h : p < 16) : bits (stEvent st p) 11 8 = p := by
  simp only [bits, stEvent, putBits]
  omega

/-- The write of IML leaves the bits above it as the set of SUP made them. -/
theorem bit_stEvent_sup (st p : Nat) : bit (stEvent st p) 12 = true := by
  have hsup := bit_putBit_true st 12
  simp only [bit, stEvent, putBits, beq_iff_eq] at hsup ⊢
  omega

/-! ### The claim (R343) -/

theorem State.get_setCore (s : State) (n : Nat) (x : CoreSt) (f : Field) (j : Nat) : (s.setCore n x).get f j = s.get f j := rfl

theorem State.get_bump_field (s : State) (f g : Field) (i j k : Nat) (h : g.id % 65536 ≠ f.id % 65536) : (s.bump f i k).get g j = s.get g j :=
  s.get_set_field f g i j _ h

/-- The fields that a claim writes. -/
def claimFields : List Field := [CPO_EVT_CLAIM_INPUT, CPO_EVT_CLAIM_PRIO, CPO_EVT_CLAIM_VALID, CPO_EVT_STAT_ENTRIES]

section
variable (s : State) (n i p : Nat)

theorem State.evClaim_keeps : Keeps { regs := [.cpo] } s (s.evClaim n i p) :=
  (s.set_keeps CPO_EVT_CLAIM_INPUT n i).andThen (State.set_keeps ..) |>.andThen (State.raise_keeps ..) |>.andThen (State.bump_keeps ..)

theorem State.input_evClaim : (s.evClaim n i p).get CPO_EVT_CLAIM_INPUT n = i % 1024 := by
  rw [State.evClaim, State.get_bump_field _ _ _ _ _ _ (by decide), State.get_raise_field _ _ _ _ _ (by decide),
    State.get_set_field _ _ _ _ _ _ (by decide), State.get_set_self]
  rfl

theorem State.prio_evClaim (h : p < 16) : (s.evClaim n i p).get CPO_EVT_CLAIM_PRIO n = p := by
  rw [State.evClaim, State.get_bump_field _ _ _ _ _ _ (by decide), State.get_raise_field _ _ _ _ _ (by decide), State.get_set_self]
  exact Nat.mod_eq_of_lt h

theorem State.valid_evClaim : (s.evClaim n i p).flag CPO_EVT_CLAIM_VALID n = true := by
  rw [State.evClaim, State.flag_bump_field _ _ _ _ _ _ (by decide), State.flag_raise_self _ _ _ (by decide)]

theorem State.get_evClaim_field (g : Field) (j : Nat) (h : ∀ f ∈ claimFields, g.id % 65536 ≠ f.id % 65536) :
    (s.evClaim n i p).get g j = s.get g j := by
  simp only [claimFields, List.forall_mem_cons] at h
  obtain ⟨hinput, hprio, hvalid, hentries, -⟩ := h
  rw [State.evClaim, State.get_bump_field _ _ _ _ _ _ hentries, State.get_raise_field _ _ _ _ _ hvalid, State.get_set_field _ _ _ _ _ _ hprio,
    State.get_set_field _ _ _ _ _ _ hinput]

/-! ### The cycles counted (R344 to R348) -/

/-- `t` is `s` but for the count of cycles, of which normal mode takes a free value. -/
structure State.Counted (s t : State) : Prop where
  keeps : Keeps { regs := [.cpo], free := true } s t
  get : ∀ (g : Field) (j : Nat), g.id % 65536 ≠ CPO_CYC_COUNT.id % 65536 → t.get g j = s.get g j

theorem State.Counted.core {s t : State} (h : s.Counted t) (k : Nat) : t.core k = s.core k := h.keeps.core rfl k

theorem State.Counted.flag {s t : State} (h : s.Counted t) (g : Field) (j : Nat) (hg : g.id % 65536 ≠ CPO_CYC_COUNT.id % 65536) :
    t.flag g j = s.flag g j := congrArg (· == 1) (h.get g j hg)

theorem State.counted_set (v : Nat) : s.Counted (s.set CPO_CYC_COUNT n v) := ⟨(s.set_keeps ..).mono, fun _ _ hg => s.get_set_field _ _ _ _ _ hg⟩

theorem State.counted_bump (k : Nat) : s.Counted (s.bump CPO_CYC_COUNT n k) :=
  ⟨(s.bump_keeps ..).mono, fun _ _ hg => s.get_bump_field _ _ _ _ _ hg⟩

theorem State.counted_openCount : s.Counted (s.openCount CPO_CYC_COUNT n) :=
  ⟨s.fresh_keeps.mono.andThen (State.bump_keeps ..), fun _ _ hg => State.get_bump_field _ _ _ _ _ _ hg⟩

theorem State.counted_recount (more less : Nat) : s.Counted (s.recount n more less) := by
  unfold State.recount
  split
  · exact s.counted_set n _
  · exact s.counted_openCount n

theorem State.counted_spend (k : Nat) : s.Counted (s.spend n k) := by
  unfold State.spend
  split
  · exact s.counted_bump n k
  · exact s.counted_openCount n

theorem State.cycles_recount (more less : Nat) (h : s.flag CPO_MODE_DET n = true) :
    (s.recount n more less).get CPO_CYC_COUNT n = min (s.get CPO_CYC_COUNT n + more - less) (2 ^ 64 - 1) := by
  have hfits (k : Nat) : min k (2 ^ 64 - 1) % 2 ^ 64 = min k (2 ^ 64 - 1) := Nat.mod_eq_of_lt (by omega)
  rw [State.recount, if_pos h]
  exact (State.get_set_self ..).trans (hfits _)

theorem State.cycles_spend (k : Nat) (h : s.flag CPO_MODE_DET n = true) :
    (s.spend n k).get CPO_CYC_COUNT n = min (s.get CPO_CYC_COUNT n + k) (2 ^ 64 - 1) := by
  rw [State.spend, if_pos h]
  exact State.get_bump_self ..

end

/-! ### A core that takes the vector of an event (R343) -/

/-- In `t` core n is at the vector of an event of priority p and has claimed its input i; beside the registers, the cores and a free value it is `s`. -/
structure State.TakesVector (s t : State) (n i p : Nat) : Prop where
  pc : (t.core n).pc = s.eventVector n p
  iml : bits (t.core n).st 11 8 = p
  input : t.get CPO_EVT_CLAIM_INPUT n = i % 1024
  keeps : Keeps { regs := [.cpo], cores := true, free := true } s t

theorem State.TakesVector.counted {s t u : State} {n i p : Nat} (h : s.TakesVector t n i p) (hc : t.Counted u) : s.TakesVector u n i p where
  pc := hc.core n ▸ h.pc
  iml := hc.core n ▸ h.iml
  input := (hc.get _ _ (by decide)).trans h.input
  keeps := h.keeps.andThen hc.keeps

theorem State.TakesVector.raised {s t : State} {n i p : Nat} (h : s.TakesVector t n i p) (flag : Field) (hbank : flag.bank = .cpo)
    (hne : CPO_EVT_CLAIM_INPUT.id % 65536 ≠ flag.id % 65536) : s.TakesVector (t.raise flag n) n i p where
  pc := h.pc
  iml := h.iml
  input := (State.get_raise_field _ _ _ _ _ hne).trans h.input
  keeps := h.keeps.andThen (State.raise_keeps ..) (by rw [hbank]; rfl)

/-- Whatever else a command makes of a core that it puts at a vector, with a claim the core takes the event. -/
theorem State.takesVector_evClaim (s : State) (n i p st : Nat) (x : CoreSt) (hp : p < 16) (hpc : x.pc = s.eventVector n p) (hst : x.st = stEvent st p) :
    s.TakesVector ((s.setCore n x).evClaim n i p) n i p := by
  have hcore : ((s.setCore n x).evClaim n i p).core n = x := ((State.evClaim_keeps ..).core rfl n).trans (State.core_setCore_self ..)
  refine ⟨by rw [hcore, hpc], ?_, State.input_evClaim .., (s.setCore_keeps n x).mono.andThen (State.evClaim_keeps ..)⟩
  rw [hcore, hst, bits_stEvent_iml _ _ hp]

/-! ### An event at a group boundary (R343) -/

/-- Whatever the stores of a frame leave, issue goes on at the vector with SUP set. -/
theorem State.stackFrame_vectors (n pc st code cyc : Nat) (fe : FrameErr) (s v : State) (h : s.stackFrame n pc st code cyc fe = (v, true)) :
    (v.core n).pc = (v.get CPO_XVBAR_BASE n * 2 ^ 11 + 0x40 * code) % 2 ^ 48 ∧ bit (v.core n).st 12 = true ∧ (v.core n).delay = 0 := by
  unfold State.stackFrame at h
  extract_lets x t fa at h
  split at h
  · cases h
  · obtain ⟨rfl, -⟩ := Prod.mk.inj h
    rw [State.core_setCore_self]
    exact ⟨rfl, bit_putBit_true _ _, rfl⟩

/-- A core whose frame is stacked enters the handler of an event of priority p. -/
def CoreSt.entering (x : CoreSt) (n p : Nat) : CoreSt := { x with st := stEvent x.st p, entry := true, entryF1 := byDie n 6 4 }

theorem State.acceptEvent_stacked (s v : State) (n i p : Nat) (fe : FrameErr) (hwalk : s.frameWaits n fe = false)
    (h : s.stackFrame n (s.core n).pc (s.core n).st (0x10 + p) (byDie n 11 19) fe = (v, true)) :
    s.acceptEvent n i p fe = (v.setCore n ((v.core n).entering n p)).evClaim n i p := by
  simp only [State.acceptEvent, hwalk, Bool.false_eq_true, if_false, h, CoreSt.entering]

theorem State.acceptEvent_waits (s : State) (n i p : Nat) (fe : FrameErr) (h : s.frameWaits n fe = true) : s.acceptEvent n i p fe = s := if_pos h

/-! ### An event during an entry or after it (R345, R346) -/

/-- The core takes the vector of an event of priority p in place of the one that it enters. -/
def CoreSt.revectored (x : CoreSt) (pc p : Nat) : CoreSt := { x with st := stEvent x.st p, pc := pc, odd := false }

section
variable (s : State) (n i p : Nat) (flag : Field)

theorem State.replaceEvent_eq : s.replaceEvent n i p flag =
    ((s.setCore n ((s.core n).revectored (s.eventVector n p) p)).evClaim n i p).raise flag n := rfl

theorem State.core_replaceEvent : (s.replaceEvent n i p flag).core n = (s.core n).revectored (s.eventVector n p) p := by
  rw [State.replaceEvent_eq, (State.raise_keeps ..).core rfl, (State.evClaim_keeps ..).core rfl, State.core_setCore_self]

theorem State.takesVector_replaceEvent (hp : p < 16) (hbank : flag.bank = .cpo) (hne : CPO_EVT_CLAIM_INPUT.id % 65536 ≠ flag.id % 65536) :
    s.TakesVector (s.replaceEvent n i p flag) n i p := by
  rw [State.replaceEvent_eq]
  exact (s.takesVector_evClaim n i p (s.core n).st _ hp rfl rfl).raised flag hbank hne

variable (f : Nat)

/-- Core n has the vector of another event, from cycle f of its entry on, and has counted no cycle for it yet. -/
def State.replaced : State :=
  (s.replaceEvent n i p flag).setCore n { (s.replaceEvent n i p flag).core n with entryF1 := f }

theorem State.core_replaced : (s.replaced n i p flag f).core n = { (s.core n).revectored (s.eventVector n p) p with entryF1 := f } := by
  rw [State.replaced, State.core_setCore_self, State.core_replaceEvent]

theorem State.flag_replaced (h : 0 < flag.width) : (s.replaced n i p flag f).flag flag n = true := by
  rw [State.replaced, State.flag, State.get_setCore, State.replaceEvent_eq, State.get_raise_self _ _ _ h]
  rfl

theorem State.get_replaced (g : Field) (j : Nat) (h : ∀ f ∈ flag :: claimFields, g.id % 65536 ≠ f.id % 65536) :
    (s.replaced n i p flag f).get g j = s.get g j := by
  obtain ⟨hflag, hclaim⟩ := List.forall_mem_cons.mp h
  rw [State.replaced, State.get_setCore, State.replaceEvent_eq, State.get_raise_field _ _ _ _ _ hflag, State.get_evClaim_field _ _ _ _ _ _ hclaim,
    State.get_setCore]

theorem State.takesVector_replaced (hp : p < 16) (hbank : flag.bank = .cpo) (hne : CPO_EVT_CLAIM_INPUT.id % 65536 ≠ flag.id % 65536) :
    s.TakesVector (s.replaced n i p flag f) n i p := by
  have ht := s.takesVector_replaceEvent n i p flag hp hbank hne
  rw [State.replaced]
  refine ⟨?_, ?_, (State.get_setCore ..).trans ht.input, ht.keeps.andThen (State.setCore_keeps ..)⟩ <;> rw [State.core_setCore_self]
  · exact ht.pc
  · exact ht.iml

end

/-- An offer that must reach the core from cycle 1 to a last one of a fixed interval comes in time. -/
theorem offer_inTime_iff (det : Bool) (c last : Nat) :
    (det && (c == 0 || decide (last < c))) = false ↔ (det = true → 1 ≤ c ∧ c ≤ last) := by
  cases det with
  | false => simp
  | true =>
    simp only [Bool.true_and, Bool.or_eq_false_iff, beq_eq_false_iff_ne, decide_eq_false_iff_not, true_implies]
    omega

theorem State.replaceEntry_inTime (s : State) (n i p c : Nat)
    (h : s.flag CPO_MODE_DET n = true → 1 ≤ c ∧ c ≤ (s.core n).entryF1 + byDie n 1 11) :
    s.replaceEntry n i p c =
      (s.replaced n i p CPO_EVT_STAT_REPL (max (s.core n).entryF1 (c + 1))).recount n (max (s.core n).entryF1 (c + 1))
        (s.core n).entryF1 :=
  if_neg (by simpa only [Bool.not_eq_true] using (offer_inTime_iff ..).mpr h)

theorem State.replaceEntry_missed (s : State) (n i p c : Nat) (hdet : s.flag CPO_MODE_DET n = true)
    (h : c = 0 ∨ (s.core n).entryF1 + byDie n 1 11 < c) : s.replaceEntry n i p c = s :=
  if_pos (by simpa [hdet] using h)

theorem State.replaceLate_eq (s : State) (n i p : Nat) :
    s.replaceLate n i p = (s.replaced n i p CPO_EVT_STAT_LATE ((s.core n).entryF1 + byDie n 7 17)).spend n (byDie n 7 17) := by
  have hF1 : ((s.replaceEvent n i p CPO_EVT_STAT_LATE).core n).entryF1 = (s.core n).entryF1 := by rw [State.core_replaceEvent, CoreSt.revectored]
  rw [← hF1, State.replaceLate, State.replaced]

/-! ### An event during an exit (R348) -/

/-- The core has the registers r of before RETI again and enters the handler of an event of priority p, in whose entry F1 is cycle f. -/
def CoreSt.chained (x : CoreSt) (r : List Nat) (pc p f : Nat) : CoreSt :=
  { x with
    a := wd (r.getD 0 0), x := wd (r.getD 1 0), y := wd (r.getD 2 0), dp := wd (r.getD 3 0), sp := wd (r.getD 4 0), st := stEvent (r.getD 5 0) p
    pc := pc, delay := 0, dtgt := 0, undo := none, entry := true, entryF1 := f, odd := false }

/-- The exit that core n abandons for an event, with nothing counted yet. -/
def State.chained (s : State) (n i p f : Nat) (r : List Nat) : State :=
  (s.setCore n ((s.core n).chained r (s.eventVector n p) p f)).evClaim n i p

theorem State.core_chained (s : State) (n i p f : Nat) (r : List Nat) :
    (s.chained n i p f r).core n = (s.core n).chained r (s.eventVector n p) p f :=
  ((State.evClaim_keeps ..).core rfl n).trans (State.core_setCore_self ..)

theorem State.get_chained (s : State) (n i p f : Nat) (r : List Nat) (g : Field) (j : Nat) (h : ∀ f ∈ claimFields, g.id % 65536 ≠ f.id % 65536) :
    (s.chained n i p f r).get g j = s.get g j := State.get_evClaim_field _ _ _ _ _ _ h

theorem State.takesVector_chained (s : State) (n i p f : Nat) (r : List Nat) (hp : p < 16) : s.TakesVector (s.chained n i p f r) n i p :=
  s.takesVector_evClaim n i p _ _ hp rfl rfl

theorem State.abandonExit_inTime (s : State) (n i p c : Nat) (r : List Nat) (h : s.flag CPO_MODE_DET n = true → 1 ≤ c ∧ c ≤ byDie n 10 18) :
    s.abandonExit n i p c r =
      ((s.chained n i p (c + 1) r).recount n (c + byDie n 7 17) (byDie n 12 20)).raise CPO_EVT_STAT_CHAIN n :=
  if_neg (by simpa only [Bool.not_eq_true] using (offer_inTime_iff ..).mpr h)

theorem State.abandonExit_missed (s : State) (n i p c : Nat) (r : List Nat) (hdet : s.flag CPO_MODE_DET n = true)
    (h : c = 0 ∨ byDie n 10 18 < c) : s.abandonExit n i p c r = s :=
  if_pos (by simpa [hdet] using h)

/-! ### The command -/

section
variable (n : Core) (fe : FrameErr) (s : State)

theorem exec_eventAcceptance_none (w : EvWindow) (h : s.offerAbove n.val (bits (s.core n.val).st 11 8) = none) :
    exec (.eventAcceptance n w fe) s = .next s := by
  change execEventAcceptance n w s fe = _
  simp only [execEventAcceptance, h]

/-- A command that changes nothing with an offer changes nothing. -/
theorem exec_eventAcceptance_same (w : EvWindow)
    (h : ∀ i p, s.offerAbove n.val (bits (s.core n.val).st 11 8) = some (i, p) → exec (.eventAcceptance n w fe) s = .next s) :
    exec (.eventAcceptance n w fe) s = .next s := by
  cases hoffer : s.offerAbove n.val (bits (s.core n.val).st 11 8) with
  | none => exact exec_eventAcceptance_none n fe s w hoffer
  | some q => exact h q.1 q.2 hoffer

variable {i p : Nat} (h : s.offerAbove n.val (bits (s.core n.val).st 11 8) = some (i, p))
include h

theorem exec_eventAcceptance_boundary : exec (.eventAcceptance n .boundary fe) s =
    .next (if (s.core n.val).atBoundary && !(s.core n.val).entry && !(s.core n.val).odd then s.acceptEvent n.val i p fe else s) := by
  change execEventAcceptance n .boundary s fe = _
  simp only [execEventAcceptance, h]

theorem exec_eventAcceptance_entry (c : BitVec 5) : exec (.eventAcceptance n (.entry c) fe) s =
    .next (if (s.core n.val).entry then s.replaceEntry n.val i p c.toNat else s) := by
  change execEventAcceptance n (.entry c) s fe = _
  simp only [execEventAcceptance, h]

theorem exec_eventAcceptance_late : exec (.eventAcceptance n .late fe) s =
    .next (if (s.core n.val).entry then s.replaceLate n.val i p else s) := by
  change execEventAcceptance n .late s fe = _
  simp only [execEventAcceptance, h]

theorem exec_eventAcceptance_exiting (c : BitVec 5) (r : List Nat) (hr : (s.core n.val).undo = some r) :
    exec (.eventAcceptance n (.exit c) fe) s = .next (s.abandonExit n.val i p c.toNat r) := by
  change execEventAcceptance n (.exit c) s fe = _
  simp only [execEventAcceptance, h, hr]

theorem exec_eventAcceptance_notExiting (c : BitVec 5) (hr : (s.core n.val).undo = none) :
    exec (.eventAcceptance n (.exit c) fe) s = .next s := by
  change execEventAcceptance n (.exit c) s fe = _
  simp only [execEventAcceptance, h, hr]

end

theorem State.offerAbove_low (s : State) (n level i p : Nat) (ho : s.offer n = some (i, p)) (h : p ≤ level) : s.offerAbove n level = none := by
  simp only [State.offerAbove, ho, Nat.not_lt.mpr h, if_false, ite_self]

/-! ### The statement -/

/-- The event is claimed in the state v that its frame leaves. -/
theorem exec_eventAcceptance_stacked (n : Core) (i p : Nat) (fe : FrameErr) (s v : State)
    (hoffer : s.offerAbove n.val (bits (s.core n.val).st 11 8) = some (i, p)) (hboundary : (s.core n.val).atBoundary = true)
    (hentry : (s.core n.val).entry = false) (hodd : (s.core n.val).odd = false)
    (hstack : s.stackFrame n.val (s.core n.val).pc (s.core n.val).st (0x10 + p) (byDie n.val 11 19) fe = (v, true))
    (hwalk : s.frameWaits n.val fe = false) :
    exec (.eventAcceptance n .boundary fe) s = .next ((v.setCore n.val ((v.core n.val).entering n.val p)).evClaim n.val i p) := by
  rw [exec_eventAcceptance_boundary n fe s hoffer, if_pos (by simp [hboundary, hentry, hodd]), s.acceptEvent_stacked v _ _ _ _ hwalk hstack]

/-- Settles O44. An offer that is accepted leaves the core `entering`, `replaced` or `chained`; the frame, the claim and the cycles counted each have their
own rules, and every other command answers the state that it was given. -/
theorem capoEventAcceptance : Obligations.CapoEventAcceptance := by
  unfold Obligations.CapoEventAcceptance
  refine ⟨?none, ?lowPriority, ?boundary, ?frameWalkWaits, ?noBoundary, ?oddFirst, State.stackFrame_vectors, ?replaced, ?notReplaced, ?replacedLate,
    ?exitAbandoned, ?exitTooLate, ?notExiting, ?notEntering⟩
  case none => exact fun n w fe s h => exec_eventAcceptance_none n fe s w h
  case lowPriority => exact fun n w i p fe s hoffer hp => exec_eventAcceptance_none n fe s w (s.offerAbove_low _ _ i p hoffer hp)
  case boundary =>
    intro n i p fe s v hoffer hp hfirst hdelay hsync hfrozen hentry hodd hstack hwalk
    have hboundary : (s.core n.val).atBoundary = true := by simp [CoreSt.atBoundary, hfirst, hdelay, hsync, hfrozen]
    have hcore : ((v.setCore n.val ((v.core n.val).entering n.val p)).evClaim n.val i p).core n.val = (v.core n.val).entering n.val p :=
      ((State.evClaim_keeps ..).core rfl _).trans (State.core_setCore_self ..)
    refine ⟨_, exec_eventAcceptance_stacked n i p fe s v hoffer hboundary hentry hodd hstack hwalk, ?_, ?_, ?_, ?_, ?_, State.input_evClaim ..,
      State.prio_evClaim _ _ _ _ hp, State.valid_evClaim .., (v.setCore_keeps ..).mono.andThen (State.evClaim_keeps ..)⟩ <;> rw [hcore]
    · exact bits_stEvent_iml _ _ hp
    · exact bit_stEvent_sup _ _
    all_goals rfl
  case frameWalkWaits =>
    refine fun n fe s hwalk => exec_eventAcceptance_same n fe s _ fun i p hoffer => ?_
    rw [exec_eventAcceptance_boundary n fe s hoffer, s.acceptEvent_waits _ _ _ _ hwalk, ite_self]
  case noBoundary =>
    refine fun n fe s hboundary => exec_eventAcceptance_same n fe s _ fun i p hoffer => ?_
    rw [exec_eventAcceptance_boundary n fe s hoffer, if_neg (by simp [hboundary])]
  case oddFirst =>
    refine fun n fe s hodd => exec_eventAcceptance_same n fe s _ fun i p hoffer => ?_
    rw [exec_eventAcceptance_boundary n fe s hoffer, if_neg (by simp [hodd])]
  case replaced =>
    intro n c i p fe s hoffer hp hentry hinTime
    have hexec := (exec_eventAcceptance_entry n fe s hoffer c).trans (congrArg _ ((if_pos hentry).trans (s.replaceEntry_inTime _ i p _ hinTime)))
    have hc := State.counted_recount (s.replaced n.val i p CPO_EVT_STAT_REPL (max (s.core n.val).entryF1 (c.toNat + 1))) n.val
      (max (s.core n.val).entryF1 (c.toNat + 1)) (s.core n.val).entryF1
    have ht := (s.takesVector_replaced n.val i p CPO_EVT_STAT_REPL _ hp rfl (by decide)).counted hc
    refine ⟨_, hexec, ht.pc, ht.iml, ?_, ?_, ht.input, ?_, fun hdet => ?_, ht.keeps⟩
    · rw [hc.core, State.core_replaced, CoreSt.revectored]
    · exact (hc.flag _ _ (by decide)).trans (State.flag_replaced _ _ _ _ _ _ (by decide))
    · rw [hc.core, State.core_replaced]
    · rw [State.cycles_recount _ _ _ _ (by rwa [State.flag, State.get_replaced _ _ _ _ _ _ _ _ (by decide)]),
        State.get_replaced _ _ _ _ _ _ _ _ (by decide)]
  case notReplaced =>
    refine fun n c fe s hdet hmissed => exec_eventAcceptance_same n fe s _ fun i p hoffer => ?_
    have hcycle : c.toNat = 0 ∨ (s.core n.val).entryF1 + byDie n.val 1 11 < c.toNat := hmissed.imp_left (congrArg BitVec.toNat)
    rw [exec_eventAcceptance_entry n fe s hoffer, s.replaceEntry_missed _ _ _ _ hdet hcycle, ite_self]
  case replacedLate =>
    intro n i p fe s hoffer hp hentry
    have hexec := (exec_eventAcceptance_late n fe s hoffer).trans (congrArg _ ((if_pos hentry).trans (s.replaceLate_eq _ i p)))
    have hc := State.counted_spend (s.replaced n.val i p CPO_EVT_STAT_LATE ((s.core n.val).entryF1 + byDie n.val 7 17)) n.val (byDie n.val 7 17)
    have ht := (s.takesVector_replaced n.val i p CPO_EVT_STAT_LATE _ hp rfl (by decide)).counted hc
    refine ⟨_, hexec, ht.pc, ht.iml, ?_, ?_, ht.input, fun hdet => ?_, ht.keeps⟩
    · rw [hc.core, State.core_replaced, CoreSt.revectored]
    · exact (hc.flag _ _ (by decide)).trans (State.flag_replaced _ _ _ _ _ _ (by decide))
    · rw [State.cycles_spend _ _ _ (by rwa [State.flag, State.get_replaced _ _ _ _ _ _ _ _ (by decide)]),
        State.get_replaced _ _ _ _ _ _ _ _ (by decide), byDie]
  case exitAbandoned =>
    intro n c i p a x y dp sp st fe s hoffer hp hundo hinTime
    have hexec := (exec_eventAcceptance_exiting n fe s hoffer c _ hundo).trans (congrArg _ (s.abandonExit_inTime _ i p _ _ hinTime))
    have hc := State.counted_recount (s.chained n.val i p (c.toNat + 1) [a.toNat, x.toNat, y.toNat, dp.toNat, sp.toNat, st]) n.val
      (c.toNat + byDie n.val 7 17) (byDie n.val 12 20)
    have ht := ((s.takesVector_chained n.val i p _ _ hp).counted hc).raised CPO_EVT_STAT_CHAIN rfl (by decide)
    have hcore := ((State.raise_keeps _ CPO_EVT_STAT_CHAIN n.val).core rfl n.val).trans ((hc.core _).trans (State.core_chained ..))
    refine ⟨_, hexec, ?regA, ?regX, ?regY, ?regDP, ?regSP, ht.iml, ht.pc, State.flag_raise_self _ _ _ (by decide), ht.input, fun hdet => ?cycles,
      ht.keeps⟩
    case cycles =>
      rw [State.get_raise_field _ _ _ _ _ (by decide),
        State.cycles_recount _ _ _ _ (by rwa [State.flag, State.get_chained _ _ _ _ _ _ _ _ (by decide)]),
        State.get_chained _ _ _ _ _ _ _ _ (by decide), byDie, byDie]
    all_goals rw [hcore]; exact BitVec.ofNat_toNat ..
  case exitTooLate =>
    refine fun n c fe s hdet hmissed => exec_eventAcceptance_same n fe s _ fun i p hoffer => ?_
    have hcycle : c.toNat = 0 ∨ byDie n.val 10 18 < c.toNat := hmissed.imp_left (congrArg BitVec.toNat)
    cases hundo : (s.core n.val).undo with
    | none => exact exec_eventAcceptance_notExiting n fe s hoffer c hundo
    | some r => rw [exec_eventAcceptance_exiting n fe s hoffer c r hundo, s.abandonExit_missed _ _ _ _ _ hdet hcycle]
  case notExiting =>
    exact fun n c fe s hundo => exec_eventAcceptance_same n fe s _ fun i p hoffer => exec_eventAcceptance_notExiting n fe s hoffer c hundo
  case notEntering =>
    refine fun n c fe s hentry => ⟨exec_eventAcceptance_same n fe s _ fun i p hoffer => ?_, exec_eventAcceptance_same n fe s _ fun i p hoffer => ?_⟩
    · rw [exec_eventAcceptance_entry n fe s hoffer, if_neg (by simp [hentry])]
    · rw [exec_eventAcceptance_late n fe s hoffer, if_neg (by simp [hentry])]

end Sys2Proof.Machine
end

section
/-! SUPPORT. What PENDLOAD and a mailbox request leave (14 R397, R398): the values that the pending list admits, the request on its transport. -/

namespace Sys2Proof.Machine

set_option Elab.async false

/-! ### The pending list (R397) -/

/-- The state with further values in the admission store. -/
def State.withAdmitted (s : State) (l : List HostVal) : State := { s with hostVals := s.hostVals ++ l }

theorem State.withAdmitted_nil (s : State) : s.withAdmitted [] = s := by simp [State.withAdmitted]

theorem State.withAdmitted_append (s : State) (l m : List HostVal) : (s.withAdmitted l).withAdmitted m = s.withAdmitted (l ++ m) := by
  simp [State.withAdmitted]

theorem State.withAdmitted_keeps (s : State) (l : List HostVal) : Keeps { hostVals := true } s (s.withAdmitted l) :=
  { Keeps.refl _ s with hostVals := nofun }

theorem State.inStroke_of_hold (s : State) (h : s.mode = .hold) : s.inStroke = false := by simp [State.inStroke, h]

/-- In HOLD no stroke is in progress, so no value is late as it is admitted (02 R56). -/
theorem State.takeValue_of_hold (s : State) (n k j : Nat) (r : HostMapRec) (v : Word) (tag sq : Nat) (h : s.mode = .hold) :
    s.takeValue n k j r v tag sq = s.withAdmitted [⟨n, r.tile, (r.places.getD j (0, 0)).1, (r.places.getD j (0, 0)).2, k, v, 0, tag, sq, j,
      false, false, 0, false, false, false⟩] := by
  simp [State.takeValue, State.inStroke_of_hold s h, State.withAdmitted]

/-- A record whose channel has a free place in its stroke. -/
theorem State.pendAdmit_placed (s : State) (first : Option Nat) (i a n j : Nat) (r : HostMapRec) (ha : a = s.ckpArea 0 + 0x4C000040 + 32 * i)
    (hchannel : s.img.hostmap.find? (fun p => p.2.dir == 0 && p.2.gch == s.num (a + 16) 4) = some (n, r))
    (hplace : s.freePlace n (s.num (a + 8) 8) r.budget = some j) :
    s.pendAdmit first i = (s.takeValue n (s.num (a + 8) 8) j r (s.word a) (s.num (a + 20) 4) 0, first) := by
  subst ha
  simp only [State.pendAdmit, hchannel, hplace]

/-- A record of the list adds one value or none. -/
theorem State.pendAdmit_admits (s : State) (first : Option Nat) (i : Nat) (h : s.mode = .hold) :
    ∃ l, (s.pendAdmit first i).1 = s.withAdmitted l ∧ l.length ≤ 1 := by
  unfold State.pendAdmit
  extract_lets a k
  split
  · exact ⟨[], s.withAdmitted_nil.symm, Nat.zero_le _⟩
  · split
    · exact ⟨_, s.takeValue_of_hold _ _ _ _ _ _ _ h, Nat.le_refl _⟩
    · exact ⟨[], s.withAdmitted_nil.symm, Nat.zero_le _⟩

/-- Records of the list one after another, from the first that has found no place. -/
def State.pendAdmitAll (s : State) (first : Option Nat) (l : List Nat) : State × Option Nat := l.foldl (fun p i => p.1.pendAdmit p.2 i) (s, first)

theorem State.pendAdmitAll_admits (s : State) (first : Option Nat) (is : List Nat) (h : s.mode = .hold) :
    ∃ l, (s.pendAdmitAll first is).1 = s.withAdmitted l ∧ l.length ≤ is.length := by
  induction is generalizing s first with
  | nil => exact ⟨[], s.withAdmitted_nil.symm, Nat.le_refl _⟩
  | cons i is ih =>
    obtain ⟨l, hl, hone⟩ := s.pendAdmit_admits first i h
    have hmode : (s.pendAdmit first i).1.mode = .hold := hl ▸ h
    obtain ⟨m, hm, hlen⟩ := ih _ (s.pendAdmit first i).2 hmode
    refine ⟨l ++ m, ?_, ?_⟩
    · calc (s.pendAdmitAll first (i :: is)).1 = (s.pendAdmit first i).1.withAdmitted m := hm
        _ = s.withAdmitted (l ++ m) := by rw [hl, State.withAdmitted_append]
    · rw [List.length_append, List.length_cons]
      omega

/-- The list as PENDLOAD goes through it. -/
def State.pendList (s : State) : State × Option Nat :=
  s.pendAdmitAll none (List.range (min (s.num (s.ckpArea 0 + 0x4C000000) 8) 524286))

/-- The list adds no more values than its count says. -/
theorem State.pendList_admits (s : State) (h : s.mode = .hold) :
    ∃ l, s.pendList.1 = s.withAdmitted l ∧ l.length ≤ s.num (s.ckpArea 0 + 0x4C000000) 8 := by
  obtain ⟨l, hl, hlen⟩ := s.pendAdmitAll_admits none (List.range (min (s.num (s.ckpArea 0 + 0x4C000000) 8) 524286)) h
  rw [List.length_range] at hlen
  exact ⟨l, hl, hlen.trans (Nat.min_le_left ..)⟩

theorem State.pendList_one (s : State) (h : s.num (s.ckpArea 0 + 0x4C000000) 8 = 1) : s.pendList = s.pendAdmit none 0 := by
  rw [State.pendList, h]
  rfl

theorem State.pciLevel_keeps (s : State) : Keeps levelWrites s s.pciLevel := s.lecSample_keeps ..

/-- The first record without a place is noted in `PCI_STAT` and `PCI_PENDSTAT`. -/
def State.pendNoted (s : State) : Option Nat → State
  | some i => ((s.raise PCI_STAT_PENDERR).pciLevel).set PCI_PENDSTAT_FIRST 0 i
  | none => s

theorem State.pendNoted_keeps (s : State) (first : Option Nat) : Keeps { regs := [.pci, .lec], fresh := true } s (s.pendNoted first) := by
  cases first with
  | none => exact .refl _ s
  | some i => exact (s.raise_keeps ..).mono.andThen (State.pciLevel_keeps _) |>.andThen (State.set_keeps ..)

theorem State.pendLoad_of_hold (s : State) (hm : s.mode = .hold) (hd : s.domOn 704 = true) :
    s.pendLoad = s.pendList.1.pendNoted s.pendList.2 := by
  rw [State.pendLoad, if_pos ⟨hm, hd⟩, State.pendList, State.pendAdmitAll]
  generalize List.foldl _ _ _ = q
  obtain ⟨t, _ | i⟩ := q <;> rfl

theorem State.pendLoad_elsewhere (s : State) (h : s.mode ≠ .hold) : s.pendLoad = s := if_neg fun hh => h hh.1

theorem exec_pendload (s : State) (h : s.domOn 762 = true) : exec .pendload s = .next s.pendLoad := if_pos h

theorem exec_pendload_elsewhere (s : State) (h : s.mode ≠ .hold) : exec .pendload s = .next s := by
  change (if s.domOn 762 then Host.Outcome.next s.pendLoad else .next s) = _
  rw [s.pendLoad_elsewhere h, ite_self]

/-! ### The mailbox (R398) -/

theorem exec_mailboxRequest (s : State) (h : s.domOn 762 = true) : exec .mailboxRequest s = .next s.mailboxGo := if_pos h

/-- GO with a length that R398 allows, while no request is under way. -/
theorem State.mailboxGo_request (s : State) (hb : s.flag PCI_MBX_BUSY = false) (h0 : s.get PCI_MBX_REQLEN ≠ 0) (h : s.get PCI_MBX_REQLEN ≤ 256) :
    s.mailboxGo = ((s.raise PCI_MBX_BUSY).mbxLevel).submit 0 (s.mbxBytes (s.get PCI_MBX_REQLEN)) :=
  if_neg (by simp [hb, h0, h])

theorem State.mailboxGo_error (s : State) (h : s.flag PCI_MBX_BUSY = true ∨ s.get PCI_MBX_REQLEN = 0 ∨ 256 < s.get PCI_MBX_REQLEN) :
    s.mailboxGo = s.raise PCI_MBX_ERR :=
  if_pos (by simpa [or_assoc] using h)

theorem State.waiting_submit (s : State) (k : Nat) (l : List Nat) : ((s.submit k l).xport k).waiting = some (s.tb, l) := by
  rw [State.submit, State.xport_setXport_self]

end Sys2Proof.Machine
end

section
/-! SUPPORT. The resets of the endpoint and its link (14 R378; 01 R26): what the `PCI_` registers and the ready bit of the PCIe function read behind
them, and the statement about the host interface. -/

namespace Sys2Proof.Machine

set_option Elab.async false

/-! ### Registers that return to reset -/

theorem lookup_filter_dropped {α : Type} (l : List (Nat × α)) (q : Nat × α → Bool) (b : Nat) (h : ∀ x, q (b, x) = false) :
    lookup (l.filter q) b = none := by
  induction l with
  | nil => rfl
  | cons p t ih =>
    obtain ⟨k, v⟩ := p
    by_cases hq : q (k, v) = true
    · have hk : k ≠ b := fun e => by simp [e, h] at hq
      rw [List.filter_cons_of_pos hq, lookup, if_neg hk, ih]
    · rw [List.filter_cons_of_neg hq, ih]

theorem Field.key_mod (f : Field) (i : Nat) : f.key i % 65536 = f.id % 65536 := by
  unfold Field.key
  omega

theorem State.get_clearRegs_inside (s : State) (lo hi : Nat) (f : Field) (i : Nat) (h : lo ≤ f.id % 65536 ∧ f.id % 65536 < hi) :
    (s.clearRegs lo hi (fun _ => true)).get f i = f.rst i := by
  have hk : lookup (s.clearRegs lo hi (fun _ => true)).regs (f.key i) = none :=
    lookup_filter_dropped _ _ _ fun _ => by simp [f.key_mod, h.1, h.2]
  simp [State.get, sget, hk]

theorem State.get_clearRegs_outside (s : State) (lo hi : Nat) (p : Nat → Bool) (f : Field) (i : Nat) (h : f.id % 65536 < lo ∨ hi ≤ f.id % 65536) :
    (s.clearRegs lo hi p).get f i = s.get f i := by
  have hk : lookup (s.clearRegs lo hi p).regs (f.key i) = lookup s.regs (f.key i) :=
    lookup_filter_key _ _ _ fun _ => by
      rcases h with h | h <;> simp [f.key_mod, h, Nat.not_le.mpr, Nat.not_lt.mpr]
  simp only [State.get, sget, hk]

/-- The field is one of the `PCI_` registers. -/
def Field.InPci (f : Field) : Prop := PCI_CTL_FVEC.id ≤ f.id % 65536 ∧ f.id % 65536 < PCI_CHCNT_REFCNT.id + 32

theorem Field.bank_of_inPci (f : Field) (h : f.InPci) : f.bank = .pci := by
  have hr : 120 ≤ f.id % 65536 / 64 ∧ f.id % 65536 / 64 < 135 := by
    obtain ⟨hlo, hhi⟩ := h
    change 7680 ≤ _ at hlo
    change _ < 8640 at hhi
    omega
  unfold Field.bank bankOf
  grind

/-- The state with the `PCI_` registers at reset. -/
def State.pciZero (s : State) : State := s.clearRegs PCI_CTL_FVEC.id (PCI_CHCNT_REFCNT.id + 32) (fun _ => true)

theorem State.get_pciZero (s : State) (f : Field) (i : Nat) (h : f.InPci) : s.pciZero.get f i = f.rst i := s.get_clearRegs_inside _ _ f i h

theorem State.pciZero_keeps (s : State) : Keeps { regs := [.pci] } s s.pciZero :=
  { Keeps.refl _ s with
    regs := fun f i hf => s.get_clearRegs_outside _ _ _ f i (by
      have hp : ¬ f.InPci := fun h => hf (List.mem_singleton.mpr (f.bank_of_inPci h))
      simpa only [Field.InPci, Classical.not_and_iff_not_or_not, Nat.not_le, Nat.not_lt] using hp)
    regsOk := rising_filter _ _ }

/-! ### Function Level Reset (14 R378, 01 R26) -/

theorem State.chanLevel_keeps (s : State) (n : Nat) : Keeps levelWrites s (s.chanLevel n) := s.lecSample_keeps ..

theorem State.withMsixTab_keeps (s : State) (l : List (Nat × Nat)) : Keeps { msixTab := true } s { s with msixTab := l } :=
  { Keeps.refl _ s with msixTab := nofun }

/-- Behind the `PCI_` registers and the MSI-X table only event sources follow. -/
theorem State.clearPci_keeps_zero (s : State) : Keeps levelWrites { s.pciZero with msixTab := [], msixPba := [] } s.clearPci :=
  .foldl (fun s _ => s.chanLevel_keeps _) _ _

/-- The writes of an FLR (14 R378). -/
def flrWrites : Writes :=
  { regs := [.pci, .lec], fresh := true, chans := true, msixTab := true, msixPba := true, owner := true, xports := true, persist := true }

/-- An FLR as it leaves the mailbox, the values being programmed, the channels and the ownership of loading. -/
def State.flrReleased (s : State) : State :=
  { s.setXport 0 XportSt.idle with
    persist := s.persist.map (fun p : Persist => if p.xport = 0 then { p with xport := 31 } else p)
    chans := s.chans.map (fun p : Nat × ChanSt => (p.1, { p.2 with cqSeq := 0, msgDue := false, lastMsg := none }))
    lastCh := 255
    owner := if s.owner = 0x80 then 0 else s.owner }

theorem State.flrReleased_keeps (s : State) : Keeps { chans := true, owner := true, xports := true, persist := true } s s.flrReleased :=
  { Keeps.refl _ s with chans := nofun, owner := nofun, xports := nofun, persist := nofun }

theorem State.clearPci_keeps (s : State) : Keeps { regs := [.pci, .lec], fresh := true, msixTab := true, msixPba := true } s s.clearPci :=
  s.pciZero_keeps.mono.andThen (State.withMsixTab_keeps _ []) |>.andThen (State.withMsixPba_keeps _ []) |>.andThen s.clearPci_keeps_zero

/-- Once its flag has risen, an FLR writes no more than event sources. -/
theorem State.flr_keeps_raised (s : State) : Keeps levelWrites (s.clearPci.flrReleased.raise PCI_STAT_FLR) s.flr :=
  (State.pciLevel_keeps _).trans (State.mbxLevel_keeps _)

theorem State.flr_keeps_clearPci (s : State) : Keeps { flrWrites with msixTab := false, msixPba := false } s.clearPci s.flr :=
  s.clearPci.flrReleased_keeps.mono.andThen (State.raise_keeps ..) |>.andThen s.flr_keeps_raised

theorem State.flr_keeps (s : State) : Keeps flrWrites s s.flr := s.clearPci_keeps.mono.andThen s.flr_keeps_clearPci

theorem State.flag_flr (s : State) : s.flr.flag PCI_STAT_FLR = true :=
  (s.flr_keeps_raised.flag _ _ (by decide)).trans (State.flag_raise_self _ _ _ (by decide))

theorem State.get_clearPci (s : State) (f : Field) (i : Nat) (h : f.InPci) : s.clearPci.get f i = f.rst i := by
  rw [s.clearPci_keeps_zero.regs f i (by rw [f.bank_of_inPci h]; decide)]
  exact s.get_pciZero f i h

theorem State.get_flr (s : State) (f : Field) (i : Nat) (h : f.InPci) (hne : f.id % 65536 ≠ PCI_STAT_FLR.id % 65536) :
    s.flr.get f i = f.rst i := by
  have hb := f.bank_of_inPci h
  calc s.flr.get f i = (s.clearPci.flrReleased.raise PCI_STAT_FLR).get f i := s.flr_keeps_raised.regs f i (by rw [hb]; decide)
    _ = s.clearPci.flrReleased.get f i := State.get_raise_field _ _ _ _ _ hne
    _ = f.rst i := s.get_clearPci f i h

theorem State.owner_flr (s : State) : s.flr.owner = if s.owner = 0x80 then 0 else s.owner := by
  rw [(s.flr_keeps_raised.owner rfl).1, ← (s.clearPci_keeps.owner rfl).1]
  rfl

theorem State.msixTab_flr (s : State) : s.flr.msixTab = [] := (s.flr_keeps_clearPci.msixTab rfl).trans (s.clearPci_keeps_zero.msixTab rfl)

theorem State.msixPba_flr (s : State) : s.flr.msixPba = [] := (s.flr_keeps_clearPci.msixPba rfl).trans (s.clearPci_keeps_zero.msixPba rfl)

theorem exec_flr (s : State) (h : s.domOn 762 = true) : exec .flr s = .next s.flr := if_pos h

/-! ### The link (14 R378, 16 R449) -/

theorem Keeps.ready {w : Writes} {s t : State} (h : Keeps w s t) (hw : w.rdy = false) (f : Nat) : t.ready f = s.ready f :=
  congrArg (sget · f false) (h.rdy hw)

theorem State.ready_setReady (s : State) (f : Nat) (b : Bool) : (s.setReady f b).ready f = b := by
  unfold State.setReady
  split
  · next h => exact eq_of_beq h
  · extract_lets marked o sampled
    have hmarked : marked.ready f = b := by simp [State.ready, marked, sget_sput]
    have hkept : Keeps { regs := [.bj, .lec], fresh := true } marked sampled := (marked.setBits_keeps ..).mono.andThen (State.lecSample_keeps ..)
    have hsampled : sampled.ready f = b := (hkept.ready rfl f).trans hmarked
    split
    · have hrefused : Keeps { regs := [.mgt], lanes := true, refusals := true } sampled (sampled.disarm.refuse 2 f) :=
        sampled.disarm_keeps.mono.andThen (State.refuse_keeps ..)
      exact (hrefused.ready rfl f).trans hsampled
    · exact hsampled

theorem State.msixFlush_keeps (s : State) (v : Nat) : Keeps msixWrites s (s.msixFlush v) := by
  unfold State.msixFlush
  exact .ite ((s.withMsixPba_keeps _).mono.andThen (State.emit_keeps ..)) (.refl _ s)

theorem State.msixFlushAll_keeps (s : State) : Keeps msixWrites s s.msixFlushAll := .foldl (fun s v => s.msixFlush_keeps v) _ s

theorem State.withPci_keeps (s : State) (x : PciSt) : Keeps { pci := true } s { s with pci := x } := { Keeps.refl _ s with pci := nofun }

theorem State.resetConfig_keeps (s : State) : Keeps { pci := true } s s.resetConfig := s.withPci_keeps _

/-- The link's width and rate in the endpoint and in `PCI_STAT`. -/
def State.linkShown (s : State) (width rate : Nat) : State :=
  ((({ s with pci := { s.pci with width := width, rate := rate } } : State).set PCI_STAT_LWIDTH 0 width).set PCI_STAT_LRATE 0 rate).raise
    PCI_STAT_LINKCHG

/-- The writes of what follows a change of the link: the ready bit of the PCIe function, event sources, and vectors that were pending. -/
def linkWrites : Writes := { readyWrites with msixPba := true, out := true }

theorem State.linkChange_keeps_shown (s : State) (width rate : Nat) : Keeps linkWrites (s.linkShown width rate) (s.linkChange width rate) :=
  (State.setReady_keeps ..).mono.andThen (State.pciLevel_keeps _) |>.andThen (State.msixFlushAll_keeps _)

theorem State.linkShown_keeps (s : State) (width rate : Nat) : Keeps { regs := [.pci], pci := true } s (s.linkShown width rate) :=
  (s.withPci_keeps _).mono.andThen (State.set_keeps ..) |>.andThen (State.set_keeps ..) |>.andThen (State.raise_keeps ..)

theorem State.ready_linkChange (s : State) (width rate : Nat) : (s.linkChange width rate).ready (6 * 1024) = (rate != 0) := by
  have hkept : Keeps { levelWrites with msixPba := true, out := true } ((s.linkShown width rate).setReady (6 * 1024) (rate != 0))
      (s.linkChange width rate) := (State.pciLevel_keeps _).mono.andThen (State.msixFlushAll_keeps _)
  exact (hkept.ready rfl _).trans (State.ready_setReady ..)

theorem State.linkchg_linkChange (s : State) (width rate : Nat) : (s.linkChange width rate).flag PCI_STAT_LINKCHG = true :=
  ((s.linkChange_keeps_shown width rate).flag _ _ (by decide)).trans (State.flag_raise_self _ _ _ (by decide))

theorem State.lrate_linkChange (s : State) (width rate : Nat) (h : rate < 2 ^ 3) : (s.linkChange width rate).get PCI_STAT_LRATE = rate := by
  rw [(s.linkChange_keeps_shown width rate).regs _ _ (by decide), State.linkShown, State.get_raise_ne _ _ _ _ _ (by decide), State.get_set_self]
  exact Nat.mod_eq_of_lt h

theorem State.lwidth_linkChange (s : State) (width rate : Nat) (h : width < 2 ^ 5) : (s.linkChange width rate).get PCI_STAT_LWIDTH = width := by
  rw [(s.linkChange_keeps_shown width rate).regs _ _ (by decide), State.linkShown, State.get_raise_ne _ _ _ _ _ (by decide),
    State.get_set_ne _ _ _ _ _ _ (by decide), State.get_set_self]
  exact Nat.mod_eq_of_lt h

theorem State.pci_linkChange (s : State) (width rate : Nat) : (s.linkChange width rate).pci = { s.pci with width := width, rate := rate } :=
  (s.linkChange_keeps_shown width rate).pci rfl

theorem State.owner_linkChange (s : State) (width rate : Nat) : (s.linkChange width rate).owner = s.owner :=
  ((s.linkChange_keeps_shown width rate).owner rfl).1.trans ((s.linkShown_keeps width rate).owner rfl).1

theorem exec_conventionalReset (s : State) (h : s.domOn 762 = true) :
    exec .conventionalReset s = .next (s.flr.resetConfig.linkChange 0 0) := if_pos h

theorem exec_pcieLinkChange (width : BitVec 5) (rate : BitVec 3) (s : State) : exec (.pcieLinkChange width rate) s =
    if !s.domOn 762 then .next s
    else if rate = 0 then .next (s.linkChange 0 0)
    else if [1, 2, 4, 8, 16].contains width.toNat && decide (rate.toNat ≤ s.pci.topRate) then .next (s.linkChange width.toNat rate.toNat)
    else .next s := rfl

/-- A width or a rate that the link cannot have, whether or not the endpoint is powered. -/
theorem exec_pcieLinkChange_other (width : BitVec 5) (rate : BitVec 3) (s : State) (h0 : rate ≠ 0)
    (h : width.toNat ∉ [1, 2, 4, 8, 16] ∨ s.pci.topRate < rate.toNat) : exec (.pcieLinkChange width rate) s = .next s := by
  have hno : ¬ ([1, 2, 4, 8, 16].contains width.toNat && decide (rate.toNat ≤ s.pci.topRate)) = true := by
    rw [Bool.and_eq_true, List.contains_iff_mem, decide_eq_true_eq]
    rintro ⟨hw, hr⟩
    exact h.elim (· hw) (Nat.not_lt.mpr hr)
  rw [exec_pcieLinkChange, if_neg h0, if_neg hno, ite_self]

/-! ### The statement -/

/-- Settles O27. A list of PENDLOAD is a repetition of its records, each of which adds a value or none in HOLD; behind an FLR and behind a change of the
link the `PCI_` registers are read as they stand before the event sources follow. -/
theorem hostInterface : Obligations.HostInterface := by
  unfold Obligations.HostInterface
  refine ⟨exec_pendload_elsewhere, ?pendload, ?pendloadList, ?mailboxRequest, ?mailboxError, ?flr, ?conventionalReset, ?pcieLinkChange,
    exec_pcieLinkChange_other, ?pcieLinkDown, fun s => ⟨rfl, rfl, rfl, rfl, rfl, rfl⟩⟩
  case pendload =>
    rintro a _ j n r s hon hfabric hold ha hcount rfl hchannel hplace
    have hadmit := s.pendAdmit_placed none 0 a n j r ha hchannel hplace
    have hload : s.pendLoad = s.withAdmitted [⟨n, r.tile, (r.places.getD j (0, 0)).1, (r.places.getD j (0, 0)).2, s.num (a + 8) 8, s.word a, 0,
        s.num (a + 20) 4, 0, j, false, false, 0, false, false, false⟩] := by
      rw [s.pendLoad_of_hold hold hfabric, s.pendList_one hcount, hadmit, s.takeValue_of_hold _ _ _ _ _ _ _ hold, State.pendNoted]
    exact ⟨_, (exec_pendload s hon).trans (congrArg _ hload), rfl, s.withAdmitted_keeps _⟩
  case pendloadList =>
    intro s hon hfabric hold
    obtain ⟨l, hlist, hlen⟩ := s.pendList_admits hold
    have hnoted := State.pendNoted_keeps s.pendList.1 s.pendList.2
    refine ⟨_, l, (exec_pendload s hon).trans (congrArg _ (s.pendLoad_of_hold hold hfabric)), ?_, hlen, ?_⟩
    · rw [hnoted.hostVals rfl, hlist, State.withAdmitted]
    · rw [hlist] at hnoted ⊢
      exact (s.withAdmitted_keeps l).mono.andThen hnoted
  case mailboxRequest =>
    intro s hon hfree hlen hmax
    have hkept := (s.raise PCI_MBX_BUSY).mbxLevel_keeps
    have hraised := s.raise_keeps PCI_MBX_BUSY 0
    refine ⟨_, (exec_mailboxRequest s hon).trans (congrArg _ (s.mailboxGo_request hfree hlen hmax)), ?_, ?_,
      hraised.mono.andThen hkept |>.andThen (State.submit_keeps ..)⟩
    · rw [(State.submit_keeps ..).flag _ _ (by decide), hkept.flag _ _ (by decide), State.flag_raise_self _ _ _ (by decide)]
    · rw [State.waiting_submit, (hkept.tb rfl).1, (hraised.tb rfl).1]
  case mailboxError =>
    intro s hon hbad
    exact ⟨_, (exec_mailboxRequest s hon).trans (congrArg _ (s.mailboxGo_error hbad)), State.flag_raise_self _ _ _ (by decide),
      s.raise_keeps PCI_MBX_ERR 0⟩
  case flr =>
    intro s hon
    refine ⟨_, exec_flr s hon, s.flag_flr, fun n => ?_, fun f i hlo hhi hne => ?_, s.flr_keeps.pci rfl, s.msixTab_flr, s.msixPba_flr,
      s.flr_keeps.hostVals rfl, s.owner_flr, s.flr_keeps.mono⟩
    · rw [State.flag, s.get_flr PCI_CHCTL_EN n (by constructor <;> decide) (by decide)]
      rfl
    · have hid : f.id % 65536 = f.id := Nat.mod_eq_of_lt (hhi.trans (by decide))
      exact s.get_flr f i (by rw [Field.InPci, hid]; exact ⟨hlo, hhi⟩) (by rwa [hid])
  case conventionalReset =>
    intro s hon
    have howner : s.flr.resetConfig.owner = if s.owner = 0x80 then 0 else s.owner := (s.flr.resetConfig_keeps.owner rfl).1.trans s.owner_flr
    exact ⟨_, exec_conventionalReset s hon, State.lrate_linkChange _ 0 0 (by decide), State.lwidth_linkChange _ 0 0 (by decide),
      State.linkchg_linkChange _ 0 0, State.ready_linkChange _ 0 0, (State.owner_linkChange _ 0 0).trans howner⟩
  case pcieLinkChange =>
    intro width rate s hon h0 hwidth hrate
    have hexec : exec (.pcieLinkChange width rate) s = .next (s.linkChange width.toNat rate.toNat) := by
      rw [exec_pcieLinkChange, if_neg (by simp [hon]), if_neg h0, if_pos (by simpa [hrate] using hwidth)]
    have hup : rate.toNat ≠ 0 := fun h => h0 (BitVec.eq_of_toNat_eq h)
    exact ⟨_, hexec, s.lwidth_linkChange _ _ width.isLt, s.lrate_linkChange _ _ rate.isLt, s.pci_linkChange .., s.linkchg_linkChange ..,
      (s.ready_linkChange ..).trans (bne_iff_ne.mpr hup)⟩
  case pcieLinkDown =>
    intro width s hon
    have hexec : exec (.pcieLinkChange width 0) s = .next (s.linkChange 0 0) := by
      rw [exec_pcieLinkChange, if_neg (by simp [hon]), if_pos rfl]
    exact ⟨_, hexec, s.lwidth_linkChange 0 0 (by decide), s.lrate_linkChange 0 0 (by decide), s.linkchg_linkChange 0 0,
      s.ready_linkChange 0 0⟩

end Sys2Proof.Machine
end

section
/-! SUPPORT. What every command leaves, whatever it does: the queue, the canonical forms of the register store and of memory, and the mode but
for the transitions of 16 R430. One lemma for each operation of the model, in the order of the model; a command leads to a state that follows
calmly (`Leads`) or by a transition (`Moves`). -/

namespace Sys2Proof.Machine

set_option Elab.async false

/-- `t` follows from `s` within one command: the queue is untouched, the canonical forms of the register store and of memory are kept, and the
mode stays, or is HOLD where it was READY (an ADOPT among the registers written, 08 R255). -/
structure Calm (s t : State) : Prop where
  pending : t.pending = s.pending
  mode : t.mode = s.mode ∨ s.mode = .ready ∧ t.mode = .hold
  regsOk : rising s.regs = true → rising t.regs = true
  memOk : Memory.wf s.mem = true → Memory.wf t.mem = true

/-- An outcome that is a next state, which follows calmly. -/
def Leads (s : State) (o : Host.Outcome State Fault Refusal) : Prop := ∃ t, o = .next t ∧ Calm s t

section
variable {s₀ s t : State}

theorem Calm.refl (s : State) : Calm s s := ⟨rfl, .inl rfl, id, id⟩

theorem Calm.trans {u : State} (h : Calm s t) (k : Calm t u) : Calm s u where
  pending := k.pending.trans h.pending
  mode := by
    rcases k.mode with hk | ⟨hk, hk'⟩
    · rw [hk]; exact h.mode
    · rcases h.mode with hh | ⟨_, hh⟩
      · exact .inr ⟨hh ▸ hk, hk'⟩
      · rw [hh] at hk; cases hk
  regsOk := k.regsOk ∘ h.regsOk
  memOk := k.memOk ∘ h.memOk

theorem Calm.keeps {w : Writes} (h : Calm s₀ s) (k : Keeps w s t) (hm : w.mode = false := by rfl) : Calm s₀ t :=
  h.trans ⟨k.pending, .inl (k.mode hm), k.regsOk, k.memOk⟩

/-- An update of other parts of the state. -/
theorem Calm.frame (h : Calm s₀ s) (hp : t.pending = s.pending := by rfl) (hm : t.mode = s.mode := by rfl) (hr : t.regs = s.regs := by rfl)
    (hmem : t.mem = s.mem := by rfl) : Calm s₀ t :=
  h.trans ⟨hp, .inl hm, fun hs => hr ▸ hs, fun hs => hmem ▸ hs⟩

theorem Calm.ite {c : Prop} {_ : Decidable c} (h : Calm s₀ s) (k : Calm s₀ t) : Calm s₀ (if c then s else t) := by
  split
  · exact h
  · exact k

theorem Calm.foldl {α : Type} {f : State → α → State} {l : List α} (hf : ∀ s x, Calm s₀ s → Calm s₀ (f s x)) (h : Calm s₀ s) :
    Calm s₀ (l.foldl f s) := by
  induction l generalizing s with
  | nil => exact h
  | cons x t ih => exact ih (hf s x h)

theorem Calm.of_eq {α : Type} {p q : α} (g : α → State) (e : p = q) (h : Calm s₀ (g p)) : Calm s₀ (g q) := e ▸ h

/-- A run that goes on with what a run before it leaves. -/
theorem Calm.andThen {α β : Type} {r : Run α} {f : State → α → Run β} (h : Calm s₀ r.1) (hf : ∀ {u} a, Calm s₀ u → Calm s₀ (f u a).1) :
    Calm s₀ (r.andThen f).1 := by
  obtain ⟨u, e | a⟩ := r
  · exact h
  · exact hf a h

theorem Calm.iteOf {α : Type} (g : α → State) {c : Prop} {_ : Decidable c} {p q : α} (h : Calm s₀ (g p)) (k : Calm s₀ (g q)) :
    Calm s₀ (g (if c then p else q)) := by
  split
  · exact h
  · exact k

theorem Calm.iteFst {α : Type} {c : Prop} {_ : Decidable c} {p q : State × α} (h : Calm s₀ p.1) (k : Calm s₀ q.1) :
    Calm s₀ (if c then p else q).1 := .iteOf Prod.fst h k

theorem Calm.iteSnd {α : Type} {c : Prop} {_ : Decidable c} {p q : α × State} (h : Calm s₀ p.2) (k : Calm s₀ q.2) :
    Calm s₀ (if c then p else q).2 := .iteOf Prod.snd h k

theorem Calm.iteTrd {α β : Type} {c : Prop} {_ : Decidable c} {p q : α × β × State} (h : Calm s₀ p.2.2) (k : Calm s₀ q.2.2) :
    Calm s₀ (if c then p else q).2.2 := .iteOf (fun x : α × β × State => x.2.2) h k

theorem Calm.iteRun {α : Type} {c : Prop} {_ : Decidable c} {p q : Run α} (h : Calm s₀ p.1) (k : Calm s₀ q.1) :
    Calm s₀ (if c then p else q).1 := .iteOf Prod.fst h k

theorem Leads.next (h : Calm s₀ s) : Leads s₀ (.next s) := ⟨s, rfl, h⟩

theorem Leads.ite {c : Prop} {_ : Decidable c} {o p : Host.Outcome State Fault Refusal} (h : Leads s₀ o) (k : Leads s₀ p) :
    Leads s₀ (if c then o else p) := by
  split
  · exact h
  · exact k

end

section
variable {s₀ s : State}
theorem Calm.set {f : Field} {i v : Nat} (h : Calm s₀ s) : Calm s₀ (s.set f i v) := h.keeps (s.set_keeps ..)

theorem Calm.raise {f : Field} {i : Nat} (h : Calm s₀ s) : Calm s₀ (s.raise f i) := h.keeps (s.raise_keeps ..)

theorem Calm.setCore {n : Nat} {x : CoreSt} (h : Calm s₀ s) : Calm s₀ (s.setCore n x) := h.keeps (s.setCore_keeps ..)

theorem Calm.lower {f : Field} {i : Nat} (h : Calm s₀ s) : Calm s₀ (s.lower f i) := h.keeps (s.lower_keeps ..)

theorem Calm.bump {f : Field} {i k : Nat} (h : Calm s₀ s) : Calm s₀ (s.bump f i k) := h.keeps (s.bump_keeps ..)

theorem Calm.setLane {n : Nat} {x : LaneSt} (h : Calm s₀ s) : Calm s₀ (s.setLane n x) := h.keeps (s.setLane_keeps ..)

theorem Calm.setTile {n : Nat} {x : TileSt} (h : Calm s₀ s) : Calm s₀ (s.setTile n x) := h.keeps (s.setTile_keeps ..)

theorem Calm.setReady {f : Nat} {b : Bool} (h : Calm s₀ s) : Calm s₀ (s.setReady f b) := h.keeps (s.setReady_keeps ..)

theorem Calm.setNum {a n v : Nat} (h : Calm s₀ s) : Calm s₀ (s.setNum a n v) := h.keeps (s.setNum_keeps ..)

theorem Calm.setStroke {x : StrokeSt} (h : Calm s₀ s) : Calm s₀ (s.setStroke x) := h.keeps (s.setStroke_keeps ..)

theorem Calm.hubLevels (h : Calm s₀ s) : Calm s₀ s.hubLevels := h.keeps s.hubLevels_keeps

theorem Calm.fault {code sev tile loc pcell d0 d1 : Nat} (h : Calm s₀ s) : Calm s₀ (s.fault code sev tile loc pcell d0 d1) :=
    h.keeps (s.fault_keeps ..)

theorem Calm.beatIn {n : Nat} (h : Calm s₀ s) : Calm s₀ (s.beatIn n) := h.keeps (s.beatIn_keeps ..)

theorem Calm.setDom {d v : Nat} (h : Calm s₀ s) : Calm s₀ (s.setDom d v) := h.keeps (s.setDom_keeps ..)

theorem Calm.setCell {c : Nat} {x : Cell} (h : Calm s₀ s) : Calm s₀ (s.setCell c x) := h.keeps (s.setCell_keeps ..)

theorem Calm.emit {m : OutMsg} (h : Calm s₀ s) : Calm s₀ (s.emit m) := h.keeps (s.emit_keeps ..)

theorem Calm.lecSample {g : Nat} {lv : Bool} (h : Calm s₀ s) : Calm s₀ (s.lecSample g lv) := h.keeps (s.lecSample_keeps ..)

theorem Calm.fabErr {die kind point path : Nat} (h : Calm s₀ s) : Calm s₀ (s.fabErr die kind point path) := h.keeps (s.fabErr_keeps ..)

theorem Calm.pushCtl {n : Nat} {m : Ctl} (h : Calm s₀ s) : Calm s₀ (s.pushCtl n m) := h.keeps (s.pushCtl_keeps ..)

theorem Calm.fresh (h : Calm s₀ s) : Calm s₀ s.fresh.2 := h.keeps s.fresh_keeps

theorem Calm.refuse {reason detail : Nat} (h : Calm s₀ s) : Calm s₀ (s.refuse reason detail) := h.keeps (s.refuse_keeps ..)

theorem Calm.hbmTouch {t off : Nat} {err : HbmRead} (h : Calm s₀ s) : Calm s₀ (s.hbmTouch t off err).1 := h.keeps (s.hbmTouch_keeps ..)

theorem Calm.goDetect {n : Nat} (h : Calm s₀ s) : Calm s₀ (s.goDetect n) := h.keeps (s.goDetect_keeps ..)

theorem Calm.appendLog {t : Nat} {out : Bool} {r : Nat} (h : Calm s₀ s) : Calm s₀ (s.appendLog t out r).1 := h.keeps (s.appendLog_keeps ..)

theorem Calm.announce {kind value : Nat} (h : Calm s₀ s) : Calm s₀ (s.announce kind value) := h.keeps (s.announce_keeps ..)

theorem Calm.write1 {f : Field} {i : Nat} (h : Calm s₀ s) : Calm s₀ (s.write1 f i) := h.keeps (s.write1_keeps ..)

theorem Calm.sendAt {n kind w : Nat} (h : Calm s₀ s) : Calm s₀ (s.sendAt n kind w) := h.keeps (s.sendAt_keeps ..)

theorem Calm.cellLevel {g : Nat} (h : Calm s₀ s) : Calm s₀ (s.cellLevel g) := h.keeps (s.cellLevel_keeps ..)

theorem Calm.stackReady {t : Nat} (h : Calm s₀ s) : Calm s₀ (s.stackReady t) := h.keeps (s.stackReady_keeps ..)

theorem Calm.settleCell {c : Nat} (h : Calm s₀ s) : Calm s₀ (s.settleCell c) := h.keeps (s.settleCell_keeps ..)

theorem Calm.readErrs {a len : Nat} {err : HbmRead} {more : LineErrs} (h : Calm s₀ s) : Calm s₀ (s.readErrs a len err more).1 :=
    h.keeps (s.readErrs_keeps ..)

theorem Calm.pciLevel (h : Calm s₀ s) : Calm s₀ s.pciLevel := h.keeps s.pciLevel_keeps

theorem Calm.lecPulse {g : Nat} (h : Calm s₀ s) : Calm s₀ (s.lecPulse g) := h.keeps (s.lecPulse_keeps ..)

theorem Calm.setXport {n : Nat} {x : XportSt} (h : Calm s₀ s) : Calm s₀ (s.setXport n x) := h.keeps (s.setXport_keeps ..)

theorem Calm.setLaneReady {n : Nat} {b : Bool} (h : Calm s₀ s) : Calm s₀ (s.setLaneReady n b) := h.keeps (s.setLaneReady_keeps ..)

theorem Calm.setBytes {a : Nat} {l : List Byte} (h : Calm s₀ s) : Calm s₀ (s.setBytes a l) := h.keeps (s.setBytes_keeps ..)

theorem Calm.pushAll {l : List Nat} {m : Ctl} (h : Calm s₀ s) : Calm s₀ (s.pushAll l m) := h.keeps (s.pushAll_keeps ..)

theorem Calm.perr {n unit a : Nat} (h : Calm s₀ s) : Calm s₀ (s.perr n unit a) := h.keeps (s.perr_keeps ..)

theorem Calm.inject {place : UPoint} {cls dest src : Nat} {pay : List Nat} {bad : Byte} {tag : Nat} {last : Bool} (h : Calm s₀ s) :
    Calm s₀ (s.inject place cls dest src pay bad tag last) := h.keeps (s.inject_keeps ..)

theorem Calm.domainChanged {d : Nat} (h : Calm s₀ s) : Calm s₀ (s.domainChanged d) := h.keeps (s.domainChanged_keeps ..)

theorem Calm.cvuOff {n : Nat} (h : Calm s₀ s) : Calm s₀ (s.cvuOff n) := h.keeps (s.cvuOff_keeps ..)

theorem Calm.ckpFail {cause : Nat} (h : Calm s₀ s) : Calm s₀ (s.ckpFail cause) := h.keeps (s.ckpFail_keeps ..)

/-! ### Sys2Proof/Machine/Ops.lean -/

theorem Calm.write0 {f : Field} {i : Nat} (h : Calm s₀ s) : Calm s₀ (State.write0 s f i) := h.set

theorem Calm.setWord {a : Nat} {w : Word} (h : Calm s₀ s) : Calm s₀ (State.setWord s a w) := h.setNum

theorem Calm.setMasked {a : Nat} {w : Word} {m : Byte} (h : Calm s₀ s) : Calm s₀ (State.setMasked s a w m) := h.setWord

/-! ### Sys2Proof/Machine/Events.lean -/

theorem Calm.gecSyncLec {e : Nat} (h : Calm s₀ s) : Calm s₀ (State.gecSyncLec s e) := Calm.foldl (fun _ _ h => h.keeps (State.gecSync_keeps ..)) h

/-! ### Sys2Proof/Machine/Faults.lean -/

theorem Calm.holdTarget {k : Nat} (h : Calm s₀ s) : Calm s₀ (State.holdTarget s k) := h.frame

theorem Calm.trcPut {value stroke kind tile src info : Nat} (h : Calm s₀ s) : Calm s₀ (State.trcPut s value stroke kind tile src info) := h.frame

theorem Calm.deadline {f : Field} {code : Nat} {g : Option Nat} {tile loc pcell d0 d1 : Nat} (h : Calm s₀ s) :
    Calm s₀ (State.deadline s f code g tile loc pcell d0 d1) := by
  unfold State.deadline
  extract_lets +onlyGivenNames s1
  have h1 : Calm s₀ s1 := h.raise.bump.fault
  split
  · exact h1.lecPulse
  · exact h1

theorem Calm.lateBoundary {c : Nat} (h : Calm s₀ s) : Calm s₀ (State.lateBoundary s c) := h.deadline

theorem Calm.cellFlag {f : Field} {c : Nat} (h : Calm s₀ s) : Calm s₀ (State.cellFlag s f c) := h.raise.cellLevel

theorem Calm.margin {fMin fThr fWarn : Field} {i slack g : Nat} (h : Calm s₀ s) : Calm s₀ (State.margin s fMin fThr fWarn i slack g) := by
  unfold State.margin
  extract_lets +onlyGivenNames v1
  refine .ite ?_ ?_
  · extract_lets +onlyGivenNames s2
    have h2 : Calm s₀ s2 := h.set
    exact Calm.ite h2.raise.frame.lecPulse h2
  · exact h

/-! ### Sys2Proof/Machine/Fabric.lean -/

theorem Calm.probeDrop {t : Nat} (h : Calm s₀ s) : Calm s₀ (State.probeDrop s t) := h.raise.bump

theorem Calm.dropUnpowered (h : Calm s₀ s) : Calm s₀ (State.dropUnpowered s) := h.frame

theorem execDrainWrite_leads {die : Fin 9} {mask : BitVec 4} (h : Calm s₀ s) : Leads s₀ (execDrainWrite die mask s) :=
  Leads.ite (.next h.set) (.next h)

theorem Calm.spareLive {t : Nat} (h : Calm s₀ s) : Calm s₀ (State.spareLive s t) := by
  unfold State.spareLive
  extract_lets +onlyGivenNames new1 old2 _ __src3
  have h3 : Calm s₀ __src3 := h.setTile
  exact h3.frame

theorem Calm.spareCommit {t : Nat} (h : Calm s₀ s) : Calm s₀ (State.spareCommit s t) := .ite h (Calm.ite h.raise h.spareLive.raise)

theorem execChannelSpareCommit_leads {t : Tile} (h : Calm s₀ s) : Leads s₀ (execChannelSpareCommit t s) := Leads.ite (.next h.spareCommit) (.next h)

theorem Calm.pathWrite {t p : Nat} {w : Word} (h : Calm s₀ s) : Calm s₀ (State.pathWrite s t p w) := h.setTile

theorem Calm.pathRead {t p : Nat} (h : Calm s₀ s) : Calm s₀ (State.pathRead s t p).2.2 := by
  unfold State.pathRead
  split
  · exact h.fabErr
  · exact h

theorem execPathTableWrite_leads {t : Tile} {p : BitVec 17} {w : Option Word} (h : Calm s₀ s) : Leads s₀ (execPathTableWrite t p w s) := by
  unfold execPathTableWrite
  exact Leads.ite (by split; exacts [.next h, .next h.emit]) (by split; exacts [.next h.pathWrite, .next h.pathRead.emit])

/-! ### Sys2Proof/Machine/CellExec.lean -/

theorem Calm.issueX {c t w : Nat} {x : Cell} {hit : Upset} (h : Calm s₀ s) : Calm s₀ (State.issueX s c t w x hit) := by
  unfold State.issueX
  extract_lets +onlyGivenNames op dr tile lc j result
  have hres {u : State} {v : Word} (hu : Calm s₀ u) : Calm s₀ (result u v) := hu.setCell
  refine .ite h (.ite h.frame (.ite ?recv (.ite ?memory (.ite ?answer (.ite ?request (.ite ?service (.ite (.ite h h.frame) h)))))))
  case recv =>
    extract_lets e
    cases x.inboxSees e t with
    | some q => exact hres (.ite h (h.margin))
    | none => exact (hres h).keeps (State.lateFlit_keeps ..)
  case memory =>
    exact .ite (.ite h h.setTile) (.ite (h.keeps (State.lateMem_keeps ..)) h.setCell.setTile)
  case answer =>
    exact .ite (hres (h.margin)) ((hres h).keeps (State.lateMem_keeps ..))
  case request =>
    extract_lets +onlyGivenNames ch a noans core y z u
    have hu : Calm s₀ u := .ite h h.setCell
    exact .ite (h.keeps (State.lateService_keeps ..)) (.ite hu hu.inject)
  case service =>
    extract_lets +onlyGivenNames a q ch core u
    have hu : Calm s₀ u := .ite h (h.margin)
    exact .ite (hres hu) ((hres h).keeps (State.lateService_keeps ..))

theorem Calm.issueBundle {c : Nat} {x : Cell} {hit : Upset} (h : Calm s₀ s) : Calm s₀ (State.issueBundle s c x hit) := by
  unfold State.issueBundle
  extract_lets +onlyGivenNames t1 cur2 paged3 page4 a5 badWords6 b07 b8 reqs9 ns10 errs11 ovr12 conf13 halt14 ends15 y16 s17 s18 s19 s20 s21 s22 s23
  have h17 : Calm s₀ s17 := h.setCell
  have h18 : Calm s₀ s18 := h17.set
  have h19 : Calm s₀ s19 := Calm.ite h18.cellFlag h18
  have h20 : Calm s₀ s20 := Calm.ite h19.cellFlag h19
  have h21 : Calm s₀ s21 := Calm.ite h20.lower.raise h20
  have h22 : Calm s₀ s22 := h21.issueX
  have h23 : Calm s₀ s23 := Calm.foldl (fun _ _ h => h.keeps (State.cellParity_keeps ..)) h22
  exact Calm.ite (h23.keeps (State.haltCell_keeps ..)) h23

theorem execBundleIssue_leads {c : PCell} {hit : Upset} (h : Calm s₀ s) : Leads s₀ (execBundleIssue c s hit) := by
  unfold execBundleIssue
  refine .ite ?_ ?_
  · extract_lets +onlyGivenNames s1
    have h1 : Calm s₀ s1 := h.settleCell
    exact .next h1.issueBundle
  · exact .next h

/-! ### Sys2Proof/Machine/Logs.lean -/

theorem Calm.fence {t kind slot val cyc loc : Nat} (h : Calm s₀ s) : Calm s₀ (State.fence s t kind slot val cyc loc) := by
  unfold State.fence
  extract_lets +onlyGivenNames x1 key2 n3 recs4 s5
  have h5 : Calm s₀ s5 := h.setTile
  split
  · exact Calm.ite h5 (h5.keeps (State.diverge_keeps ..))
  · exact Calm.ite (h5.keeps (State.logFullFault_keeps ..)) (h5.keeps (State.diverge_keeps ..))

theorem Calm.journal {t addr : Nat} (h : Calm s₀ s) : Calm s₀ (State.journal s t addr).1 := by
  unfold State.journal
  extract_lets +onlyGivenNames x1
  split
  · exact (h.raise.keeps (State.faultCause_keeps ..)).lecPulse
  · exact h.setNum.setNum.setTile

/-! ### Sys2Proof/Machine/Unscheduled.lean -/

theorem Calm.sendHost (h : Calm s₀ s) : Calm s₀ (State.sendHost s) := by
  unfold State.sendHost
  exact Calm.ite h (by split; exacts [h, h.frame.inject])

theorem Calm.uDeliver {f : UFlit} (h : Calm s₀ s) : Calm s₀ (State.uDeliver s f) := by
  unfold State.uDeliver
  extract_lets +onlyGivenNames d1
  exact .ite h.frame (Calm.ite (by split; exacts [Calm.ite h.frame h.fabErr, h.fabErr]) h.setTile)

theorem Calm.sendPair {n : Nat} (h : Calm s₀ s) : Calm s₀ (State.sendPair s n) := by
  unfold State.sendPair
  extract_lets +onlyGivenNames l1
  refine .ite h ?_
  split
  · exact h.setLane.sendAt
  · extract_lets +onlyGivenNames cand2 best3
    split
    · exact h.setLane.sendAt
    · exact h

theorem Calm.uReceive {u v : UPoint} {f : UFlit} {hit : Upset} (h : Calm s₀ s) : Calm s₀ (State.uReceive s u v f hit) := by
  unfold State.uReceive
  extract_lets +onlyGivenNames g1
  refine .ite h.fabErr ?_
  extract_lets +onlyGivenNames s2
  have h2 : Calm s₀ s2 := h.frame
  split
  · exact Calm.ite h2 h2.fabErr
  · exact Calm.ite h2 h2.fabErr
  · exact h2

theorem Calm.uForward {u : UPoint} {hit : Upset} (h : Calm s₀ s) : Calm s₀ (State.uForward s u hit) := by
  unfold State.uForward
  split
  · exact h
  · split
    · exact h
    · extract_lets +onlyGivenNames s3
      have h3 : Calm s₀ s3 := h.frame
      exact Calm.ite h3.fabErr (by split; exacts [h3.uReceive, h3.uDeliver])

theorem execUnscheduledFlitForward_leads {u : UPoint} {hit : Upset} (h : Calm s₀ s) : Leads s₀ (execUnscheduledFlitForward u s hit) := by
  unfold execUnscheduledFlitForward
  split
  · exact .next h.sendPair.uForward
  · exact .next (Calm.ite h.sendHost h).uForward

/-! ### Sys2Proof/Machine/CellEvents.lean -/

theorem Calm.inboxWrite {c e : Nat} {v : Word} {bad : Byte} {src : Nat} (h : Calm s₀ s) : Calm s₀ (State.inboxWrite s c e v bad src) :=
  h.keeps (State.inboxPut_keeps ..)

theorem Calm.dueCheck {t l : Nat} {f : Flit} (h : Calm s₀ s) : Calm s₀ (State.dueCheck s t l f) := Calm.ite h h.fabErr

theorem Calm.landFlit {c : Nat} {f : Flit} (h : Calm s₀ s) : Calm s₀ (State.landFlit s c f) := by
  unfold State.landFlit
  extract_lets +onlyGivenNames u1
  have h1 : Calm s₀ u1 := h.frame
  exact Calm.ite ((h1.setCell.keeps (State.noteReserved_keeps ..)).dueCheck.keeps (State.acceptFlit_keeps ..)) h1.fabErr

theorem execFlitLanding_leads {c : PCell} {slot : Fin 512} (h : Calm s₀ s) : Leads s₀ (execFlitLanding c slot s) := by
  unfold execFlitLanding
  extract_lets +onlyGivenNames s1
  have h1 : Calm s₀ s1 := h.keeps (State.portCollision_keeps ..)
  split
  · exact .next h1.landFlit
  · exact .next h1

theorem execResponseLanding_leads {c : PCell} {tag : Fin 64} (h : Calm s₀ s) : Leads s₀ (execResponseLanding c tag s) := by
  unfold execResponseLanding
  split
  · extract_lets +onlyGivenNames s2
    have h2 : Calm s₀ s2 := h.frame.keeps (State.overrun_keeps ..)
    exact Leads.ite (.next h2) (.next ((h2.keeps (State.landSlot_keeps ..)).keeps (State.capture_keeps ..)))
  · exact .next h

theorem execAnswerLanding_leads {c : PCell} {a : Fin 16} {err : HbmRead} (h : Calm s₀ s) : Leads s₀ (execAnswerLanding c a s err) := by
  unfold execAnswerLanding
  extract_lets +onlyGivenNames k1 t2 live3
  have hlive : Calm s₀ (match live3 with | some l => { s with landings := s.landings.erase l } | none => s) := by
    cases live3 with
    | some l => exact h.frame
    | none => exact h
  refine .ite (.next h) (.ite ?_ ?_)
  · extract_lets +onlyGivenNames s4
    have h4 : Calm s₀ s4 := hlive
    clear_value s4
    cases (if s4.discardsLandings then none else s4.loggedAnswer c.val a.val) with
    | some x => exact .next ((h4.keeps (State.logRead_keeps ..)).keeps (State.consume_keeps ..) |>.keeps (State.landSlot_keeps ..) |>.keeps
        (State.capture_keeps ..))
    | none => exact .next h4
  · cases live3 with
    | some l =>
      have h5 : Calm s₀ { s with landings := s.landings.erase l } := h.frame
      refine .ite (.next h5) ?_
      exact .next (((Calm.ite h5.appendLog h5).keeps (State.landSlot_keeps ..)).keeps (State.capture_keeps ..))
    | none => exact .next h

theorem Calm.writeStaged {c : Nat} {hv : HostVal} (h : Calm s₀ s) : Calm s₀ (State.writeStaged s c hv) := by
  unfold State.writeStaged
  extract_lets +onlyGivenNames log1
  exact ((Calm.iteFst h.appendLog h).keeps (State.markWritten_keeps ..)).inboxWrite

theorem execStagedValueWrite_leads {c : PCell} {slot : Fin 512} {err : HbmRead} (h : Calm s₀ s) : Leads s₀ (execStagedValueWrite c slot s err) := by
  unfold execStagedValueWrite
  exact Leads.ite (.next h) (by split; exacts [.next ((h.keeps (State.logRead_keeps ..)).keeps (State.consume_keeps ..)).inboxWrite, by split; exacts [.next h.writeStaged, .next h]])

theorem Calm.replayHost {t : Nat} {p : Nat × Nat} (h : Calm s₀ s) : Calm s₀ (State.replayHost s t p) := by
  unfold State.replayHost
  split
  · exact Calm.ite ((h.keeps (State.consume_keeps ..)).keeps (State.inboxPut_keeps ..)) h
  · exact h

theorem Calm.replayHosts {k t : Nat} (h : Calm s₀ s) : Calm s₀ (State.replayHosts s k t) := Calm.foldl (fun _ _ h => h.replayHost) h

theorem Calm.resumeHost {hv : HostVal} (h : Calm s₀ s) : Calm s₀ (State.resumeHost s hv) := by
  unfold State.resumeHost
  split
  · exact Calm.ite ((h.appendLog.keeps (State.markWritten_keeps ..)).keeps (State.inboxPut_keeps ..)) h
  · exact h

theorem Calm.winRead {c off : Nat} (h : Calm s₀ s) : Calm s₀ (State.winRead s c off).2.2 := by
  unfold State.winRead
  exact .iteTrd h (.iteTrd h.cellFlag (.iteTrd h.settleCell (h.settleCell.keeps (State.cellParity_keeps ..))))

theorem Calm.winWrite {c off v mask : Nat} (h : Calm s₀ s) : Calm s₀ (State.winWrite s c off v mask) := by
  unfold State.winWrite
  extract_lets +onlyGivenNames loc1 idle2 ftab3
  refine .ite h (.ite ?_ (.ite h h.settleCell.setCell.lower))
  clear_value loc1
  split
  · exact h.raise.cellFlag
  · exact h.cellFlag

theorem execPinj_leads {c : PCell} (h : Calm s₀ s) : Leads s₀ (execPinj c s) := Leads.ite (.next h.raise) (.next (Calm.ite h.raise h))

/-! ### Sys2Proof/Machine/Record.lean -/

theorem Calm.drainCell {c : Nat} (h : Calm s₀ s) : Calm s₀ (State.drainCell s c) := by
  unfold State.drainCell
  extract_lets +onlyGivenNames x t l cur b put last u
  have hu : Calm s₀ u := Calm.foldl (fun _ _ h => h.keeps (State.cellParity_keeps ..)) h.setCell
  clear_value u
  exact .ite hu.ckpFail (((hu.keeps (State.putUnits_keeps ..)).keeps (State.putLines_keeps ..)).keeps (State.putMasks_keeps ..))

theorem Calm.copyLine {src dst : Nat} (h : Calm s₀ s) : Calm s₀ (State.copyLine s src dst) := h.setBytes

theorem Calm.putHeader {t slot resume : Nat} {valid : Bool} (h : Calm s₀ s) : Calm s₀ (State.putHeader s t slot resume valid) :=
  h.setNum.setNum.setNum

theorem Calm.entryRecord {c : Nat} (h : Calm s₀ s) : Calm s₀ (State.entryRecord s c) :=
  ((h.keeps (State.putUnits_keeps ..)).keeps (State.putLines_keeps ..)).keeps (State.putMasks_keeps ..)

theorem Calm.restoreCell {slot resume c : Nat} (h : Calm s₀ s) : Calm s₀ (State.restoreCell s slot resume c) := h.setCell.set

/-! ### Sys2Proof/Machine/Stroke.lean -/

theorem Calm.setCkp {x : CkpSt} (h : Calm s₀ s) : Calm s₀ (State.setCkp s x) := h.frame

theorem Calm.refuseRun {x : Nat × Nat} (h : Calm s₀ s) : Calm s₀ (State.refuseRun s x) :=
  Calm.ite h.setStroke.refuse (h.setStroke.keeps (State.disarm_keeps ..)).refuse.raise

theorem Calm.startCell {c : Nat} (h : Calm s₀ s) : Calm s₀ (State.startCell s c) := h.setCell.raise.lower

theorem Calm.resumeAccounts {k : Nat} (h : Calm s₀ s) : Calm s₀ (State.resumeAccounts s k) := by
  unfold State.resumeAccounts
  extract_lets +onlyGivenNames p1 u2
  have h2 : Calm s₀ u2 := h.set
  exact Calm.ite h2 h2.set

theorem Calm.endReplay {k : Nat} (h : Calm s₀ s) : Calm s₀ (State.endReplay s k) := by
  unfold State.endReplay
  refine .ite ?_ ?_
  · extract_lets +onlyGivenNames u1
    have h1 : Calm s₀ u1 := h.lower
    exact Calm.ite (h1.setCkp.keeps (State.sendPstat_keeps ..)) h1
  · exact h

theorem Calm.closeReplay {k : Nat} (h : Calm s₀ s) : Calm s₀ (State.closeReplay s k) :=
  Calm.ite (Calm.foldl (fun _ _ h => h.keeps (State.fenceClose_keeps ..)) h) h

theorem Calm.noteInterruption {k : Nat} (h : Calm s₀ s) : Calm s₀ (State.noteInterruption s k) := by
  unfold State.noteInterruption
  split
  · refine .ite ?_ ?_
    · exact h.set.setCkp
    · exact h
  · exact h

theorem Calm.latchProbes (h : Calm s₀ s) : Calm s₀ (State.latchProbes s) := h.frame

theorem Calm.noteStarts {replay : Bool} (h : Calm s₀ s) : Calm s₀ (State.noteStarts s replay) := Calm.foldl (fun _ _ h => h.setTile) h

theorem Calm.openStroke {k : Nat} (h : Calm s₀ s) : Calm s₀ (State.openStroke s k) := by
  unfold State.openStroke
  extract_lets +onlyGivenNames p1 s2 next3 s4
  have h2 : Calm s₀ s2 := h.latchProbes
  have h4 : Calm s₀ s4 := h2.setStroke
  exact h4.setCkp.set

theorem Calm.lateHost {hv : HostVal} (h : Calm s₀ s) : Calm s₀ (State.lateHost s hv) := h.deadline

theorem Calm.markLate {k : Nat} (h : Calm s₀ s) : Calm s₀ (State.markLate s k) := h.frame

theorem Calm.noteLate {k : Nat} (h : Calm s₀ s) : Calm s₀ (State.noteLate s k) := (Calm.foldl (fun _ _ h => h.lateHost) h).markLate

theorem Calm.resumeHosts {k : Nat} (h : Calm s₀ s) : Calm s₀ (State.resumeHosts s k) := by
  unfold State.resumeHosts
  extract_lets +onlyGivenNames t1
  have h1 : Calm s₀ t1 := Calm.ite (Calm.foldl (fun _ _ h => h.replayHosts) (h.keeps (State.restoreMoved_keeps ..))) h
  exact Calm.ite h1 (Calm.foldl (fun _ _ h => h.resumeHost) h1)

theorem Calm.lateAtResume {k : Nat} (h : Calm s₀ s) : Calm s₀ (State.lateAtResume s k) := Calm.ite h h.noteLate

theorem Calm.failCarried {k : Nat} (h : Calm s₀ s) : Calm s₀ (State.failCarried s k) := Calm.ite h.ckpFail h

theorem Calm.stopCell {c : Nat} (h : Calm s₀ s) : Calm s₀ (State.stopCell s c) := Calm.ite h.lateBoundary.lower h

theorem execBoundaryWindowOpen_leads (h : Calm s₀ s) : Leads s₀ (execBoundaryWindowOpen s) :=
  Leads.ite (.next (Calm.foldl (fun _ _ h => h.stopCell) h.setStroke).noteLate) (.next h)

theorem Calm.startDrain {c : Nat} (h : Calm s₀ s) : Calm s₀ (State.startDrain s c) := .ite h (Calm.ite h.drainCell h.raise)

theorem Calm.invalidateTarget {t : Nat} (h : Calm s₀ s) : Calm s₀ (State.invalidateTarget s t) := h.setNum

theorem execStateBankFlip_leads (h : Calm s₀ s) : Leads s₀ (execStateBankFlip s) := by
  unfold execStateBankFlip
  refine .ite ?_ ?_
  · extract_lets +onlyGivenNames ckp1 _ s2 s3
    have h2 : Calm s₀ s2 := Calm.foldl (fun _ _ h => h.keeps (State.flipCell_keeps ..)) h.setStroke
    have h3 : Calm s₀ s3 := Calm.foldl (fun _ _ h => h.keeps (State.closeLogs_keeps ..)) h2
    refine .ite ?_ ?_
    · extract_lets +onlyGivenNames s4 s5
      have h4 : Calm s₀ s4 := h3.lower
      have h5 : Calm s₀ s5 := Calm.foldl (fun _ _ h => h.invalidateTarget) h4
      exact .next (Calm.foldl (fun _ _ h => h.startDrain) h5)
    · exact .next h3
  · exact .next h

theorem execStrokeNoAdvance_leads (h : Calm s₀ s) : Leads s₀ (execStrokeNoAdvance s) := Leads.ite (.next h.setStroke.set) (.next h)

theorem Calm.missSwap {g : Nat} (h : Calm s₀ s) : Calm s₀ (State.missSwap s g) := h.lower.raise.lecSample

theorem Calm.armCells {g : Nat} (h : Calm s₀ s) : Calm s₀ (State.armCells s g) := Calm.foldl (fun _ _ h => h.raise) h

theorem execSwapCheck_leads (h : Calm s₀ s) : Leads s₀ (execSwapCheck s) := by
  unfold execSwapCheck
  refine .ite ?_ ?_
  · extract_lets +onlyGivenNames all1 armed2 _ s3
    have h3 : Calm s₀ s3 := h.setStroke
    exact .ite (.next h3) (Leads.ite (.next (Calm.foldl (fun _ _ h => h.armCells) h3.setCkp)) (.next (Calm.foldl
      (fun _ _ h => h.missSwap) h3.setCkp)))
  · exact .next h

theorem Calm.swapCell {c : Nat} (h : Calm s₀ s) : Calm s₀ (State.swapCell s c) := Calm.ite h.set.lower h

theorem Calm.swapDone {g : Nat} (h : Calm s₀ s) : Calm s₀ (State.swapDone s g) := h.lower.raise

theorem execPagedSwap_leads (h : Calm s₀ s) : Leads s₀ (execPagedSwap s) := by
  unfold execPagedSwap
  refine .ite ?_ ?_
  · extract_lets +onlyGivenNames _ s1
    have h1 : Calm s₀ s1 := h.setStroke
    refine .ite ?_ ?_
    · extract_lets +onlyGivenNames all2 s3
      have h3 : Calm s₀ s3 := Calm.foldl (fun _ _ h => Calm.foldl (fun _ _ h => h.swapCell) h) h1
      exact .next (Calm.foldl (fun _ _ h => h.swapDone) h3)
    · exact .next h1
  · exact .next h

theorem Calm.swapArm {g : Nat} {arm : Bool} (h : Calm s₀ s) : Calm s₀ (State.swapArm s g arm) :=
  .ite (Calm.ite h.write1 h.write0.raise) (Calm.ite h h.write0)

theorem execSwapArm_leads {g : Cluster} {arm : Bool} (h : Calm s₀ s) : Leads s₀ (execSwapArm g arm s) := Leads.ite (.next h.swapArm) (.next h)

theorem Calm.putPage {g page : Nat} (h : Calm s₀ s) : Calm s₀ (State.putPage s g page) := h.setNum

theorem Calm.setPage {g : Nat} (h : Calm s₀ s) : Calm s₀ (State.setPage s g) := by
  unfold State.setPage
  refine .ite ?_ ?_
  · exact (Calm.foldl (fun _ _ h => h.set) h).putPage
  · exact h

theorem execSetpage_leads {g : Cluster} (h : Calm s₀ s) : Leads s₀ (execSetpage g s) := Leads.ite (.next h.setPage) (.next h)

theorem Calm.prepareZero {c : Nat} (h : Calm s₀ s) : Calm s₀ (State.prepareZero s c) := h.setCell.lower

theorem Calm.entryCheckpoint (h : Calm s₀ s) : Calm s₀ (State.entryCheckpoint s) := by
  unfold State.entryCheckpoint
  extract_lets +onlyGivenNames s1 s2 s3 s4
  have h1 : Calm s₀ s1 := Calm.foldl (fun _ _ h => h.prepareZero) h
  have h2 : Calm s₀ s2 := Calm.foldl (fun _ _ h => h.entryRecord) h1
  have h3 : Calm s₀ s3 := Calm.foldl (fun _ _ h => h.putHeader.keeps (State.freshLogs_keeps ..)) h2
  have h4 : Calm s₀ s4 := h3.lower.set
  exact h4.setCkp.setStroke

theorem Calm.takeStart {v : Nat} (h : Calm s₀ s) : Calm s₀ (State.takeStart s v) := by
  unfold State.takeStart
  refine .ite ?_ ?_
  · extract_lets +onlyGivenNames s1
    have h1 : Calm s₀ s1 := h.set.entryCheckpoint
    exact Calm.ite h1.setStroke.raise h1
  · exact Calm.ite h.raise h

theorem Calm.missStart (h : Calm s₀ s) : Calm s₀ (State.missStart s) := h.setStroke.raise

theorem Calm.periodWrite {p : Nat} (h : Calm s₀ s) : Calm s₀ (State.periodWrite s p) := Calm.ite h.set h

theorem execPeriodWrite_leads {p : BitVec 16} (h : Calm s₀ s) : Leads s₀ (execPeriodWrite p s) := Leads.ite (.next h.periodWrite) (.next h)

/-! ### Sys2Proof/Machine/Checkpoint.lean -/

theorem Calm.relay {lane origin seq : Nat} {m : Ctl} (h : Calm s₀ s) : Calm s₀ (State.relay s lane origin seq m) := by
  unfold State.relay
  extract_lets +onlyGivenNames _ s1
  have h1 : Calm s₀ s1 := h.setCkp
  exact h1.pushAll

theorem Calm.goodCodeword {n : Nat} (h : Calm s₀ s) : Calm s₀ (State.goodCodeword s n) := h.setLane

theorem Calm.takeAnnounce {a : AnnSource} {kind : Nat} {v : Word} {act : State → State} (h : Calm s₀ s) (hact : ∀ {u}, Calm s₀ u → Calm s₀ (act u)) :
    Calm s₀ (State.takeAnnounce s a kind v act) := by
  unfold State.takeAnnounce
  extract_lets +onlyGivenNames s1
  have h1 : Calm s₀ s1 := h.beatIn
  refine .ite h1 ?_
  extract_lets +onlyGivenNames m2 s3
  have h3 : Calm s₀ s3 := h1.relay
  exact Calm.ite h3 (hact h3)

theorem Calm.completeCell {c : Nat} (h : Calm s₀ s) : Calm s₀ (State.completeCell s c) := h.setCell

theorem Calm.finishCheckpoint (h : Calm s₀ s) : Calm s₀ (State.finishCheckpoint s) := by
  unfold State.finishCheckpoint
  extract_lets +onlyGivenNames slot1 k2 s3 _ s4 s5 s6
  have h3 : Calm s₀ s3 := Calm.foldl (fun _ _ h => h.keeps (State.completeTile_keeps ..)) h
  have h4 : Calm s₀ s4 := Calm.foldl (fun _ _ h => h.completeCell) h3.setCkp
  have h5 : Calm s₀ s5 := (h4.set.set.keeps (State.releaseRings_keeps ..)).keeps (State.dropHosts_keeps ..)
  have h6 : Calm s₀ s6 := ((h5.keeps (State.resetMargins_keeps ..)).keeps (State.resetMargins_keeps ..)).keeps (State.resetMargins_keeps ..)
  exact Calm.foldl (fun _ _ h => h.set) h6

theorem Calm.takeComplete {v : Nat} (h : Calm s₀ s) : Calm s₀ (State.takeComplete s v) := by
  unfold State.takeComplete
  refine .ite h ?_
  extract_lets +onlyGivenNames s1
  have h1 : Calm s₀ s1 := h.finishCheckpoint
  refine .ite ?_ ?_
  · extract_lets +onlyGivenNames s2
    have h2 : Calm s₀ s2 := (h1.keeps (State.endPause_keeps ..)).keeps (State.heldPlan_keeps ..)
    exact h2.setCkp
  · extract_lets +onlyGivenNames s2
    have h2 : Calm s₀ s2 := (h1.keeps (State.endPause_keeps ..)).keeps (State.heldPlan_keeps ..)
    exact h2.setStroke

theorem Calm.masterComplete (h : Calm s₀ s) : Calm s₀ (State.masterComplete s) := by
  unfold State.masterComplete
  refine .ite ?_ h
  extract_lets +onlyGivenNames kinds1 agree2
  split
  rename_i v t heq
  have ht : Calm s₀ t := .of_eq (·.2) heq (.iteSnd (h.keeps (State.resumeTime_keeps ..)) h)
  exact ht.setCkp.announce.takeComplete

theorem Calm.takeRestore {r : Nat} {bad : Option (Tile × Fin 1024 × Fin 576)} (h : Calm s₀ s) : Calm s₀ (State.takeRestore s r bad) := by
  unfold State.takeRestore
  refine .ite h.setCkp ?_
  refine .ite h ?_
  extract_lets +onlyGivenNames h1 slot2 _ s3
  have h3 : Calm s₀ s3 := h.set.setCkp
  exact ((h3.setStroke.keeps (State.rewindHosts_keeps ..)).keeps (State.rewindLanes_keeps ..)).keeps (State.restoreFrom_keeps ..)

theorem Calm.masterRestore {bad : Option (Tile × Fin 1024 × Fin 576)} (h : Calm s₀ s) : Calm s₀ (State.masterRestore s bad) := h.announce.takeRestore

theorem Calm.masterHeld (h : Calm s₀ s) : Calm s₀ (State.masterHeld s) := by
  unfold State.masterHeld
  refine .ite ?_ ?_
  · exact .ite h (Calm.ite h h.masterRestore)
  · exact h

theorem Calm.masterRestored (h : Calm s₀ s) : Calm s₀ (State.masterRestored s) := Calm.ite (h.setCkp.keeps (State.masterResume_keeps ..)) h

theorem Calm.noteDone {origin kind value : Nat} (h : Calm s₀ s) : Calm s₀ (State.noteDone s origin kind value) := Calm.ite h.setCkp.masterComplete h

theorem Calm.noteHeld {origin kind value : Nat} (h : Calm s₀ s) : Calm s₀ (State.noteHeld s origin kind value) := Calm.ite h.setCkp.masterHeld h

theorem Calm.noteRestored {origin value : Nat} (h : Calm s₀ s) : Calm s₀ (State.noteRestored s origin value) := Calm.ite h.setCkp.masterRestored h

theorem Calm.takeFailed {k : Nat} (h : Calm s₀ s) : Calm s₀ (State.takeFailed s k) := Calm.ite h.ckpFail h

theorem execAnnStart_leads {src : AnnSource} {value : Word} (h : Calm s₀ s) : Leads s₀ (execAnnStart src value s) :=
  .next (h.takeAnnounce (fun h => h.takeStart))

theorem execAnnResume_leads {src : AnnSource} {value : Word} (h : Calm s₀ s) : Leads s₀ (execAnnResume src value s) :=
  .next (h.takeAnnounce (fun h => h.keeps (State.takeResume_keeps ..)))

theorem execCkpDone_leads {src : AnnSource} {value : Word} (h : Calm s₀ s) : Leads s₀ (execCkpDone src value s) :=
  .next (h.takeAnnounce (fun h => h.noteDone))

theorem execCkpSwapped_leads {src : AnnSource} {value : Word} (h : Calm s₀ s) : Leads s₀ (execCkpSwapped src value s) :=
  .next (h.takeAnnounce (fun h => h.noteDone))

theorem execCkpCancelled_leads {src : AnnSource} {value : Word} (h : Calm s₀ s) : Leads s₀ (execCkpCancelled src value s) :=
  .next (h.takeAnnounce (fun h => h.noteDone))

theorem execCkpFailed_leads {src : AnnSource} {value : Word} (h : Calm s₀ s) : Leads s₀ (execCkpFailed src value s) :=
  .next (h.takeAnnounce (fun h => h.takeFailed))

theorem execAnnComplete_leads {src : AnnSource} {value : Word} (h : Calm s₀ s) : Leads s₀ (execAnnComplete src value s) :=
  .next (h.takeAnnounce (fun h => h.takeComplete))

theorem execRestored_leads {src : AnnSource} {value : Word} (h : Calm s₀ s) : Leads s₀ (execRestored src value s) :=
  .next (h.takeAnnounce (fun h => h.noteRestored))

theorem execHeld_leads {src : AnnSource} {value : Word} (h : Calm s₀ s) : Leads s₀ (execHeld src value s) :=
  .next (h.takeAnnounce (fun h => h.noteHeld))

theorem execHeldFault_leads {src : AnnSource} {value : Word} (h : Calm s₀ s) : Leads s₀ (execHeldFault src value s) :=
  .next (h.takeAnnounce (fun h => h.noteHeld))

theorem execHeldStop_leads {src : AnnSource} {value : Word} (h : Calm s₀ s) : Leads s₀ (execHeldStop src value s) :=
  .next (h.takeAnnounce (fun h => h.noteHeld))

theorem execAnnRestore_leads {src : AnnSource} {value : Word} {bad : Option (Tile × Fin 1024 × Fin 576)} (h :
    Calm s₀ s) : Leads s₀ (execAnnRestore src value s bad) :=
  .next (h.takeAnnounce (fun h => h.takeRestore))

theorem execHoldreq_leads {n : Lane} {origin : BitVec 32} {seq : BitVec 16} {stroke : Word} (h :
    Calm s₀ s) : Leads s₀ (execHoldreq n origin seq stroke s) := by
  unfold execHoldreq
  extract_lets +onlyGivenNames s1
  have h1 : Calm s₀ s1 := h.beatIn
  exact Leads.ite (.next h1) (.next (h1.relay.keeps (State.takeHoldReq_keeps ..)))

theorem execDoneReport_leads (h : Calm s₀ s) : Leads s₀ (execDoneReport s) := by
  unfold execDoneReport
  refine .ite ?_ ?_
  · extract_lets +onlyGivenNames kind1 _ s2
    have h2 : Calm s₀ s2 := h.setCkp.announce
    exact .next h2.noteDone
  · exact .next h

theorem Calm.stopForMissing {have_ awaited : Nat} (h : Calm s₀ s) : Calm s₀ (State.stopForMissing s have_ awaited) := by
  unfold State.stopForMissing
  extract_lets +onlyGivenNames _ s1
  have h1 : Calm s₀ s1 := h.setCkp.keeps (State.reportMissing_keeps ..)
  exact h1.announce.noteHeld

theorem execReportWaitTimeout_leads (h : Calm s₀ s) : Leads s₀ (execReportWaitTimeout s) :=
  .ite (.next h) (.ite (.next (h.ckpFail.keeps (State.reportMissing_keeps ..))) (.ite (.next h.stopForMissing) (Leads.ite (.next h.stopForMissing)
    (.next h))))

theorem execSlotPreparation_leads {t : Tile} {lcell : Fin 1024} {errs : LineErrs} (h :
    Calm s₀ s) : Leads s₀ (execSlotPreparation t lcell s errs) := by
  unfold execSlotPreparation
  split
  · refine .ite ?_ ?_
    · extract_lets +onlyGivenNames s2
      have h2 : Calm s₀ s2 := (h.keeps (State.prepareErrs_keeps ..)).keeps (State.prepareCell_keeps ..)
      exact Leads.ite (.next h2.drainCell) (.next h2)
    · exact .next h
  · exact .next h

theorem Calm.pendRecord {a : Nat} {hv : HostVal} (h : Calm s₀ s) : Calm s₀ (State.pendRecord s a hv) := h.setNum.setNum.setNum.setNum.setNum

theorem Calm.pendRecords {a : Nat} {l : List HostVal} (h : Calm s₀ s) : Calm s₀ (State.pendRecords s a l) := Calm.foldl (fun _ _ h => h.pendRecord) h

theorem Calm.writePending {k : Nat} (h : Calm s₀ s) : Calm s₀ (State.writePending s k) := by
  unfold State.writePending
  refine .ite ?_ ?_
  · exact h.setNum.pendRecords
  · exact h

theorem Calm.reportHold {k : Nat} (h : Calm s₀ s) : Calm s₀ (State.reportHold s k) := h.announce.noteHeld

theorem Calm.haltAgain {r : Nat} (h : Calm s₀ s) : Calm s₀ (State.haltAgain s r) := Calm.ite (h.keeps (State.requestHold_keeps ..)) h

theorem Calm.reportRestored {r : Nat} (h : Calm s₀ s) : Calm s₀ (State.reportRestored s r) := by
  unfold State.reportRestored
  extract_lets +onlyGivenNames s1
  have h1 : Calm s₀ s1 := (h.keeps (State.restoreMoved_keeps ..)).haltAgain
  exact h1.setCkp.announce.noteRestored

theorem Calm.badJournal {bad : Option (Tile × Nat)} (h : Calm s₀ s) : Calm s₀ (State.badJournal s bad).1 := by
  unfold State.badJournal
  split
  · exact h.hbmTouch
  · exact h

theorem execRestoreDone_leads {bad : Option (Tile × Fin 1024 × Fin 576)} {jbad : Option (Tile × Nat)} {fixed : List Tile}
    (h : Calm s₀ s) : Leads s₀ (execRestoreDone s bad jbad fixed) := by
  unfold execRestoreDone
  split
  case h_2 => exact .next h
  refine .ite ?_ (.next h)
  have hu := Calm.foldl (l := fixed) (f := fun s t => s.bump TME_ECC_CORR t.val) (fun _ _ h => h.bump)
    (h.keeps (s.badRecord_keeps (s.get CKP_STAT_LASTSLOT) bad) |>.badJournal (bad := jbad))
  dsimp only
  split
  · exact .next (hu.setCkp.keeps (State.lost_keeps ..))
  · exact .next (hu.setCkp.keeps (State.lost_keeps ..))
  · exact .next hu.reportRestored

theorem Calm.reqHold (h : Calm s₀ s) : Calm s₀ (State.reqHold s) := h.keeps (State.requestHold_keeps ..)

theorem execReqhold_leads (h : Calm s₀ s) : Leads s₀ (execReqhold s) := Leads.ite (.next h.reqHold) (.next h)

theorem Calm.goCommand (h : Calm s₀ s) : Calm s₀ (State.goCommand s) := Calm.ite (h.keeps (State.masterResume_keeps ..)) h

theorem execGo_leads (h : Calm s₀ s) : Leads s₀ (execGo s) := Leads.ite (.next h.goCommand) (.next h)

theorem Calm.restoreCommand {bad : Option (Tile × Fin 1024 × Fin 576)} (h : Calm s₀ s) : Calm s₀ (State.restoreCommand s bad) :=
  Calm.ite h.masterRestore h

theorem execRestoreCommand_leads {bad : Option (Tile × Fin 1024 × Fin 576)} (h : Calm s₀ s) : Leads s₀ (execRestoreCommand s bad) :=
  Leads.ite (.next h.restoreCommand) (.next h)

theorem State.adoptNoted_keeps (s : State) (r : Nat) : Keeps { regs := [.ckp, .clk], stroke := true, ckp := true } s (s.adoptNoted r) := by
  unfold State.adoptNoted
  extract_lets u v
  have hu : Keeps { regs := [.ckp, .clk], stroke := true, ckp := true } s u :=
    Keeps.refl _ s |>.andThen (s.lower_keeps CKP_STAT_LASTSLOT 0) |>.andThen (State.set_keeps _ CKP_LAST_STROKE 0 r)
      |>.andThen (State.set_keeps _ CLK_PAUSE_ACC_ACC 0 0) |>.andThen (State.set_keeps _ CKP_HWM_STROKE 0 (r - 1))
  clear_value u
  have hv := hu.andThen (u.setStroke_keeps { u.stroke with no := r - 1, started := false, nextAt := none, endLast := u.tb, period := u.get CLK_STROKE_CFG_PERIOD })
  exact hv.trans { Keeps.refl _ _ with ckp := nofun }

/-- An adoption leads from READY to HOLD (08 R255). -/
theorem Calm.adopt (h : Calm s₀ s) : Calm s₀ (State.adopt s) := by
  by_cases hm : s.mode = .ready
  case neg => rwa [State.adopt, if_pos hm]
  cases hl : s.lostTile 0 with
  | some x =>
    rw [s.adopt_lost x hm hl]
    exact h.keeps (State.lost_keeps ..)
  | none =>
    rw [s.adopt_valid hm hl]
    generalize s.num (s.slotBase 0 0) 8 = r
    have hnoted := s.adoptNoted_keeps r
    have hrestored := (s.adoptNoted r).adoptRestored_keeps r
    have hheld : Calm s₀ ((s.adoptNoted r).adoptRestored r) :=
      (h.keeps hnoted).trans ⟨hrestored.pending, .inr ⟨(hnoted.mode rfl).trans hm, State.mode_enter ..⟩, hrestored.regsOk, hrestored.memOk⟩
    exact (hheld.keeps (State.traceEvent_keeps ..)).reportHold

theorem execAdoptWrite_leads (h : Calm s₀ s) : Leads s₀ (execAdoptWrite s) := Leads.ite (.next h.adopt) (.next h)

theorem execSwackWrite_leads (h : Calm s₀ s) : Leads s₀ (execSwackWrite s) := Leads.ite (.next h.raise) (.next h)

theorem execFenceLead_leads (h : Calm s₀ s) : Leads s₀ (execFenceLead s) := Leads.ite (.next h.setCkp.pushAll) (.next h)

/-! ### Sys2Proof/Machine/Links.lean -/

theorem Calm.laneFlag {f : Field} {n : Nat} (h : Calm s₀ s) : Calm s₀ (State.laneFlag s f n) := h.raise.keeps (State.laneLevels_keeps ..)

theorem Calm.identityCheck {n : Nat} (h : Calm s₀ s) : Calm s₀ (State.identityCheck s n) :=
  .ite (Calm.ite h.setLaneReady h.setLaneReady.laneFlag) h.setLaneReady

theorem Calm.setLaneState {n st : Nat} (h : Calm s₀ s) : Calm s₀ (State.setLaneState s n st) := h.set

theorem Calm.failAttempt {n cause : Nat} (h : Calm s₀ s) : Calm s₀ (State.failAttempt s n cause) := by
  unfold State.failAttempt
  extract_lets +onlyGivenNames a1 s2
  have h2 : Calm s₀ s2 := h.set
  refine .ite h2.setLane.goDetect ?_
  extract_lets +onlyGivenNames _ s3
  have h3 : Calm s₀ s3 := h2.setLane
  exact Calm.ite h3.set.goDetect h3.goDetect.setLaneState

theorem Calm.linkDown {n : Nat} (h : Calm s₀ s) : Calm s₀ (State.linkDown s n) := h.fault

theorem Calm.dropLane {n : Nat} (h : Calm s₀ s) : Calm s₀ (State.dropLane s n) := h.setLane

theorem Calm.leaveUp {n : Nat} (h : Calm s₀ s) : Calm s₀ (State.leaveUp s n) := by
  unfold State.leaveUp
  extract_lets +onlyGivenNames used1 s2
  have h2 : Calm s₀ s2 := h.dropLane.goDetect.setLaneReady.laneFlag.keeps (State.ldictLost_keeps ..)
  exact Calm.ite h2.linkDown h2

theorem Calm.leaveIfUp {n : Nat} (h : Calm s₀ s) : Calm s₀ (State.leaveIfUp s n) := Calm.ite h.leaveUp h

theorem Calm.laneEnable {n : Nat} {en : Bool} (h : Calm s₀ s) : Calm s₀ (State.laneEnable s n en) := by
  unfold State.laneEnable
  refine .ite ?_ ?_
  · extract_lets +onlyGivenNames u1
    have h1 : Calm s₀ u1 := h.write1
    exact Calm.ite (h1.keeps (State.restartLane_keeps ..)).goDetect h1
  · exact h.write0.leaveIfUp.goDetect.setLaneState

theorem execLaneEnable_leads {n : Lane} {en : Bool} (h : Calm s₀ s) : Leads s₀ (execLaneEnable n en s) := Leads.ite (.next h.laneEnable) (.next h)

theorem Calm.retrain {n : Nat} (h : Calm s₀ s) : Calm s₀ (State.retrain s n) :=
  Calm.ite h ((Calm.ite (h.keeps (State.lastWords_keeps ..)) h).leaveIfUp.keeps (State.restartLane_keeps ..)).goDetect

theorem execRetrain_leads {n : Lane} (h : Calm s₀ s) : Leads s₀ (execRetrain n s) := Leads.ite (.next h.retrain) (.next h)

theorem execSignalPresent_leads {n : Lane} (h : Calm s₀ s) : Leads s₀ (execSignalPresent n s) := Leads.ite (.next h.setLane.setLaneState) (.next h)

theorem execTrainingAdapted_leads {n : Lane} (h : Calm s₀ s) : Leads s₀ (execTrainingAdapted n s) :=
  Leads.ite (.next (h.setLaneState.keeps (State.sendSync_keeps ..))) (.next h)

theorem Calm.trainLimit {n st cause : Nat} (h : Calm s₀ s) : Calm s₀ (State.trainLimit s n st cause) := Calm.ite h.failAttempt h

theorem execTrainTimeout_leads {n : Lane} (h : Calm s₀ s) : Leads s₀ (execTrainTimeout n s) := .next h.trainLimit

theorem execLockTimeout_leads {n : Lane} (h : Calm s₀ s) : Leads s₀ (execLockTimeout n s) := .next h.trainLimit

theorem execMeasureTimeout_leads {n : Lane} (h : Calm s₀ s) : Leads s₀ (execMeasureTimeout n s) := .next h.trainLimit

theorem execIdentTimeout_leads {n : Lane} (h : Calm s₀ s) : Leads s₀ (execIdentTimeout n s) := .next h.trainLimit

theorem Calm.syncInLock {n calid : Nat} (h : Calm s₀ s) : Calm s₀ (State.syncInLock s n calid) := by
  unfold State.syncInLock
  extract_lets +onlyGivenNames l1
  refine .ite h.laneFlag.failAttempt ?_
  extract_lets +onlyGivenNames s2
  have h2 : Calm s₀ s2 := h.setLane
  exact Calm.ite h2 (h2.keeps (State.beginMeasure_keeps ..))

theorem execSyncReceived_leads {n : Lane} {sf : BitVec 32} {calid : Byte} (h : Calm s₀ s) : Leads s₀ (execSyncReceived n sf calid s) := by
  unfold execSyncReceived
  extract_lets +onlyGivenNames n1 s2
  have h2 : Calm s₀ s2 := h.goodCodeword
  exact .ite (.next h2.syncInLock) (.ite (Leads.ite (.next h2.setLane) (.next h2.laneFlag.set.leaveUp)) (.next h2))

theorem execSyncMissing_leads {n : Lane} (h : Calm s₀ s) : Leads s₀ (execSyncMissing n s) :=
  .ite (Leads.ite (.next h.setLane) (.next h.leaveUp)) (Leads.ite (.next h.setLane) (.next h))

theorem execLossOfSignal_leads {n : Lane} (h : Calm s₀ s) : Leads s₀ (execLossOfSignal n s) := .next h.leaveIfUp

theorem execTsreq_leads {n : Lane} {t1 : Word} {sub : Fin 16} (h : Calm s₀ s) : Leads s₀ (execTsreq n t1 sub s) :=
  Leads.ite (.next h.beatIn.pushCtl) (.next h)

theorem execTsrsp_leads {n : Lane} {t1 t2 t3 : Word} {sub : Fin 16} (h : Calm s₀ s) : Leads s₀ (execTsrsp n t1 t2 t3 sub s) := by
  unfold execTsrsp
  extract_lets +onlyGivenNames n1 s2 l3 t44
  have h2 : Calm s₀ s2 := h.beatIn
  exact .ite (.next h2) (.ite (.next (h2.keeps (State.measured_keeps ..))) (Leads.ite (.next h2.setLane.set) (.next h2)))

theorem execMeasureDone_leads {n : Lane} (h : Calm s₀ s) : Leads s₀ (execMeasureDone n s) := by
  unfold execMeasureDone
  extract_lets +onlyGivenNames n1 l2
  refine .ite ?_ ?_
  · extract_lets +onlyGivenNames lat3 s4 k5
    have h4 : Calm s₀ s4 := h.set.set
    refine .ite (.next h4.failAttempt) ?_
    extract_lets +onlyGivenNames _ s6
    have h6 : Calm s₀ s6 := h4.setLane.keeps (State.padClass_keeps ..)
    exact .next h6.setLaneState.pushCtl
  · exact .next h

theorem execTimestampPeriod_leads {n : Lane} (h : Calm s₀ s) : Leads s₀ (execTimestampPeriod n s) := Leads.ite (.next h.pushCtl) (.next h)

theorem Calm.reachUp {n : Nat} (h : Calm s₀ s) : Calm s₀ (State.reachUp s n) := by
  unfold State.reachUp
  extract_lets +onlyGivenNames _ s1 s2 s3
  have h1 : Calm s₀ s1 := h.setLane.setLaneState
  have h2 : Calm s₀ s2 := h1.pushCtl
  have h3 : Calm s₀ s3 := Calm.ite h2.pushCtl h2
  exact (h3.keeps (State.noteChange_keeps ..)).identityCheck

theorem Calm.identDone {n : Nat} (h : Calm s₀ s) : Calm s₀ (State.identDone s n) := Calm.ite h.reachUp h

theorem execIdentMsg_leads {n : Lane} {serial : Word} {info : BitVec 64} {placement : Word} (h :
    Calm s₀ s) : Leads s₀ (execIdentMsg n serial info placement s) :=
  .ite (Leads.ite (.next h.failAttempt) (.next (h.keeps (State.putIdent_keeps ..)).identDone)) (.next h.beatIn)

theorem Calm.idleAt {n kind : Nat} (h : Calm s₀ s) : Calm s₀ (State.idleAt s n kind) := Calm.ite h.sendAt h

theorem execControlMessageSend_leads {n : Lane} (h : Calm s₀ s) : Leads s₀ (execControlMessageSend n s) := by
  unfold execControlMessageSend
  extract_lets +onlyGivenNames n1 l2 st3 may4
  split
  · exact .next h.setLane.sendAt.identDone
  · split
    · exact .next h.setLane.sendAt.identDone
    · exact .next h.idleAt

theorem execCredit_leads {n : Lane} {c : BitVec 32} (h : Calm s₀ s) : Leads s₀ (execCredit n c s) := by
  unfold execCredit
  extract_lets +onlyGivenNames n1
  refine .ite ?_ ?_
  · extract_lets +onlyGivenNames s2 l3
    have h2 : Calm s₀ s2 := h.beatIn
    exact .next h2.setLane
  · exact .next h

theorem execPstat_leads {n : Lane} {w : Word} (h : Calm s₀ s) : Leads s₀ (execPstat n w s) := by
  unfold execPstat
  extract_lets +onlyGivenNames n1
  refine .ite ?_ ?_
  · extract_lets +onlyGivenNames s2 _ s3
    have h2 : Calm s₀ s2 := h.beatIn
    have h3 : Calm s₀ s3 := h2.setLane
    exact .next (Calm.ite h3.leaveUp h3)
  · exact .next h

theorem execUnscheduledPair_leads {n : Lane} {cls : BitVec 2} {head data : Word} (h :
    Calm s₀ s) : Leads s₀ (execUnscheduledPair n cls head data s) := by
  unfold execUnscheduledPair
  extract_lets +onlyGivenNames n1 s2 l3
  have h2 : Calm s₀ s2 := h.beatIn
  exact Leads.ite (.next h2.setLane) (.next h2)

theorem Calm.utxdWrite {n : Nat} {v : Word} (h : Calm s₀ s) : Calm s₀ (State.utxdWrite s n v) := Calm.ite h.setLane h.laneFlag

theorem execUtxdWrite_leads {n : Lane} {v : Word} (h : Calm s₀ s) : Leads s₀ (execUtxdWrite n v s) := Leads.ite (.next h.utxdWrite) (.next h)

theorem Calm.urxPop {n : Nat} (h : Calm s₀ s) : Calm s₀ (State.urxPop s n) := by
  unfold State.urxPop
  split
  · extract_lets +onlyGivenNames _ s2
    have h2 : Calm s₀ s2 := h.setLane
    exact Calm.ite h2.pushCtl h2
  · exact h

theorem execUrxPop_leads {n : Lane} (h : Calm s₀ s) : Leads s₀ (execUrxPop n s) := Leads.ite (.next h.urxPop) (.next h)

theorem Calm.calWrite {n k : Nat} (h : Calm s₀ s) : Calm s₀ (State.calWrite s n k) := Calm.ite h.set h

theorem execLnkCalWrite_leads {n : Lane} {v : Word} (h : Calm s₀ s) : Leads s₀ (execLnkCalWrite n v s) := Leads.ite (.next h.calWrite) (.next h)

theorem execReservedCtype_leads {n : Lane} {ctype kind : BitVec 4} (h : Calm s₀ s) : Leads s₀ (execReservedCtype n ctype kind s) :=
  Leads.ite (.next h.beatIn.laneFlag) (.next h)

theorem execBeatKindMismatch_leads {n : Lane} (h : Calm s₀ s) : Leads s₀ (execBeatKindMismatch n s) := Leads.ite (.next h.beatIn.laneFlag) (.next h)

theorem execUncorrectableCodeword_leads {n : Lane} {wrong : Fin 273} (h : Calm s₀ s) : Leads s₀ (execUncorrectableCodeword n s wrong) := by
  unfold execUncorrectableCodeword
  extract_lets +onlyGivenNames n1
  refine .ite (.next h) ?_
  refine .ite (.next h.goodCodeword.bump) ?_
  extract_lets +onlyGivenNames row2 _ s3 s4
  have h3 : Calm s₀ s3 := h.setLane.bump.laneFlag
  have h4 : Calm s₀ s4 := Calm.ite h3.fault h3
  exact .next (Calm.ite h4.leaveIfUp h4)

theorem Calm.outOrder {g : Nat} (h : Calm s₀ s) : Calm s₀ (State.outOrder s g).2 := h.setLane

theorem Calm.sendBeat {n : Nat} {f : TxFlit} (h : Calm s₀ s) : Calm s₀ (State.sendBeat s n f) := h.sendAt

theorem Calm.sendLogged {n : Nat} {f : TxFlit} (h : Calm s₀ s) : Calm s₀ (State.sendLogged s n f) :=
  .ite h.fence (Calm.ite (Calm.ite h.outOrder.appendLog.sendBeat h.outOrder.appendLog) h.sendBeat)

theorem execScheduledFlitTransmit_leads {n : Lane} (h : Calm s₀ s) : Leads s₀ (execScheduledFlitTransmit n s) := by
  unfold execScheduledFlitTransmit
  extract_lets +onlyGivenNames n1
  split
  · exact .next h.idleAt
  · refine .ite (.next h) ?_
    refine .ite (.next h.idleAt) ?_
    extract_lets +onlyGivenNames late3 _ s4
    have h4 : Calm s₀ s4 := h.setLane
    exact .ite (.next (h4.keeps (State.txLate_keeps ..))) (Leads.ite (.next h4.sendLogged) (.next h4.sendBeat))

theorem Calm.inOrder {g i : Nat} (h : Calm s₀ s) : Calm s₀ (State.inOrder s g i).2 := by
  unfold State.inOrder
  extract_lets +onlyGivenNames l1
  split
  · exact h
  · exact h.setLane

theorem Calm.notePhy {n d : Nat} (h : Calm s₀ s) : Calm s₀ (State.notePhy s n d) := Calm.ite h.set h

theorem Calm.padBeat {n g i : Nat} {v : Word} {bad : Byte} {epoch : Bool} {hit : Upset} (h : Calm s₀ s) :
    Calm s₀ (State.padBeat s n g i v bad epoch hit) := by
  unfold State.padBeat
  split
  · rename_i x11 x12 e
    have hs : Calm s₀ x12 := Calm.of_eq (·.2) e h.inOrder
    refine .ite ?_ ?_
    · extract_lets +onlyGivenNames s2
      have h2 : Calm s₀ s2 := hs.laneFlag
      exact Calm.ite h2.laneFlag h2
    · extract_lets +onlyGivenNames s2
      have h2 : Calm s₀ s2 := hs.notePhy
      exact Calm.ite h2.laneFlag h2.frame

theorem execScheduledBeat_leads {n : Lane} {data : Word} {par : Byte} {epoch : Bool} {ts : BitVec 6} {hit : Upset} (h :
    Calm s₀ s) : Leads s₀ (execScheduledBeat n data par epoch ts s hit) := by
  unfold execScheduledBeat
  extract_lets +onlyGivenNames n1 s2
  have h2 : Calm s₀ s2 := h.beatIn
  exact Leads.ite (.next h2) (by split; exacts [.next h2.laneFlag, Leads.ite (.next h2.laneFlag) (by split; exacts [.next h2.laneFlag, .next h2.padBeat])])

theorem Calm.laneCommit {t : Nat} (h : Calm s₀ s) : Calm s₀ (State.laneCommit s t) := by
  unfold State.laneCommit
  exact Calm.ite h (by split; exacts [h.raise.set.set, (h.keeps (State.laneLive_keeps ..)).raise])

theorem Calm.laneRevert {t : Nat} (h : Calm s₀ s) : Calm s₀ (State.laneRevert s t) := Calm.ite h (Calm.foldl (fun _ _ h => h.set.set) h)

theorem execLaneRemapCommit_leads {t : Tile} (h : Calm s₀ s) : Leads s₀ (execLaneRemapCommit t s) := Leads.ite (.next h.laneCommit) (.next h)

theorem execLaneRemapRevert_leads {t : Tile} (h : Calm s₀ s) : Leads s₀ (execLaneRemapRevert t s) := Leads.ite (.next h.laneRevert) (.next h)

/-! ### Sys2Proof/Machine/Beacon.lean -/

theorem Calm.setBeacon {x : BeaconSt} (h : Calm s₀ s) : Calm s₀ (State.setBeacon s x) := h.frame

theorem execBeaconSend_leads (h : Calm s₀ s) : Leads s₀ (execBeaconSend s) := Leads.ite (.next h.setBeacon.pushAll) (.next h)

theorem Calm.stepTb {t : Nat} (h : Calm s₀ s) : Calm s₀ (State.stepTb s t) := h.frame

theorem Calm.correct {off80 : ℤ} (h : Calm s₀ s) : Calm s₀ (State.correct s off80) := by
  unfold State.correct
  extract_lets +onlyGivenNames s1
  have h1 : Calm s₀ s1 := Calm.ite h.stepTb h
  exact h1.frame

theorem Calm.skewCheck {n : Nat} {ps : ℤ} {hops : Nat} (h : Calm s₀ s) : Calm s₀ (State.skewCheck s n ps hops) := Calm.ite h.deadline h

theorem Calm.takeBeacon {n tbval sub m e hv : Nat} (h : Calm s₀ s) : Calm s₀ (State.takeBeacon s n tbval sub m e hv) := by
  unfold State.takeBeacon
  extract_lets +onlyGivenNames off1 ps2 s3 s4 s5
  have h3 : Calm s₀ s3 := h.set.set.raise.set.set
  have h4 : Calm s₀ s4 := Calm.ite h3.pushAll h3
  have h5 : Calm s₀ s5 := h4.skewCheck.correct
  exact h5.setBeacon

theorem Calm.hearMaster {m e : Nat} (h : Calm s₀ s) : Calm s₀ (State.hearMaster s m e) := Calm.ite h.setBeacon h

theorem Calm.putRole {hard : Bool} {v : Nat} (h : Calm s₀ s) : Calm s₀ (State.putRole s hard v) := by
  unfold State.putRole
  extract_lets +onlyGivenNames f1 now2 y3 __src4
  have h4 : Calm s₀ __src4 := h.set
  exact h4.frame

theorem execBeacon_leads {n : Lane} {tbval : Word} {sub : Fin 16} {master : BitVec 32} {epoch : Byte} {hops : BitVec 4} (h :
    Calm s₀ s) : Leads s₀ (execBeacon n tbval sub master epoch hops s) := by
  unfold execBeacon
  extract_lets +onlyGivenNames m1 e2
  refine .ite (.next h) ?_
  extract_lets +onlyGivenNames s3 high4 _ s5 s6
  have h3 : Calm s₀ s3 := h.beatIn
  have h5 : Calm s₀ s5 := h3.setBeacon
  have h6 : Calm s₀ s6 := Calm.ite h5.putRole.lower h5
  exact Leads.ite (.next h6.takeBeacon) (.next h6.hearMaster)

theorem Calm.becomeMaster {hard : Bool} {e : Nat} (h : Calm s₀ s) : Calm s₀ (State.becomeMaster s hard e) := by
  unfold State.becomeMaster
  extract_lets +onlyGivenNames s1
  have h1 : Calm s₀ s1 := h.putRole.set.set.lower
  exact h1.setBeacon

theorem Calm.failPending (h : Calm s₀ s) : Calm s₀ (State.failPending s) := Calm.ite h.fresh.ckpFail h

theorem execBcnLost_leads (h : Calm s₀ s) : Leads s₀ (execBcnLost s) := by
  unfold execBcnLost
  refine .ite ?_ ?_
  · extract_lets +onlyGivenNames _ s1 s2
    have h1 : Calm s₀ s1 := h.setBeacon.raise
    have h2 : Calm s₀ s2 := h1.fault
    exact Leads.ite (.next h2.becomeMaster) (.next h2.failPending)
  · exact .next h

theorem Calm.roleWrite {r : Nat} (h : Calm s₀ s) : Calm s₀ (State.roleWrite s r) := by
  unfold State.roleWrite
  refine .ite h ?_
  refine .ite ?_ ?_
  · exact h.becomeMaster
  · exact h.putRole

theorem execHandover_leads (h : Calm s₀ s) : Leads s₀ (execHandover s) := .next (Calm.ite h.roleWrite h)

/-! ### Sys2Proof/Machine/Cluster.lean -/

theorem Calm.clearRegs {lo hi : Nat} {p : Nat → Bool} (h : Calm s₀ s) : Calm s₀ (State.clearRegs s lo hi p) :=
  h.trans ⟨rfl, .inl rfl, rising_filter _ _, id⟩

theorem Calm.powerLevel (h : Calm s₀ s) : Calm s₀ (State.powerLevel s) := h.lecSample

theorem Calm.goOff {d : Nat} (h : Calm s₀ s) : Calm s₀ (State.goOff s d) := by
  unfold State.goOff
  split
  · exact h.setDom
  · exact h.setDom
  · exact h

theorem Calm.failBit {d : Nat} {b : Bool} (h : Calm s₀ s) : Calm s₀ (State.failBit s d b) := h.set

theorem Calm.loseCell {c : Nat} (h : Calm s₀ s) : Calm s₀ (State.loseCell s c) := h.setCell.clearRegs

theorem Calm.spareOff {g i : Nat} (h : Calm s₀ s) : Calm s₀ (State.spareOff s g i) := by
  unfold State.spareOff
  extract_lets +onlyGivenNames s1 s2 d3
  have h1 : Calm s₀ s1 := h.set
  have h2 : Calm s₀ s2 := h1.set
  exact h2.loseCell.cellLevel.goOff

theorem Calm.remapLive {g : Nat} (h : Calm s₀ s) : Calm s₀ (State.remapLive s g) := by
  unfold State.remapLive
  extract_lets +onlyGivenNames rel1 s2
  have h2 : Calm s₀ s2 := Calm.foldl (fun _ _ h => h.frame) h
  exact Calm.foldl (fun _ _ h => h.spareOff) h2

theorem Calm.noteMoved {c : Nat} (h : Calm s₀ s) : Calm s₀ (State.noteMoved s c) := Calm.ite h.setCell h

theorem Calm.noteMovedIn {g : Nat} {before : List (Nat × Nat)} (h : Calm s₀ s) : Calm s₀ (State.noteMovedIn s g before) :=
  Calm.foldl (fun _ _ h => h.noteMoved) h

theorem Calm.remapCommit {g : Nat} (h : Calm s₀ s) : Calm s₀ (State.remapCommit s g) := by
  unfold State.remapCommit
  exact Calm.ite h (by split; exacts [h.raise.set.set.set, h.remapLive.noteMovedIn.raise])

theorem execRemapCommit_leads {g : Cluster} (h : Calm s₀ s) : Leads s₀ (execRemapCommit g s) := Leads.ite (.next h.remapCommit) (.next h)

theorem Calm.remapRevert {g : Nat} (h : Calm s₀ s) : Calm s₀ (State.remapRevert s g) := Calm.ite h (Calm.foldl (fun _ _ h => h.set.set) h)

theorem execRemapRevert_leads {g : Cluster} (h : Calm s₀ s) : Leads s₀ (execRemapRevert g s) := Leads.ite (.next h.remapRevert) (.next h)

theorem execCommitComplete_leads {u : CommitUnit} (h : Calm s₀ s) : Leads s₀ (execCommitComplete u s) := by
  unfold execCommitComplete
  split
  · exact Leads.ite (.next h.lower) (.next h)
  · exact Leads.ite (.next h.lower) (.next h)
  · exact Leads.ite (.next h.lower) (.next h)

theorem Calm.spareRequest {g i : Nat} {on : Bool} (h : Calm s₀ s) : Calm s₀ (State.spareRequest s g i on) := by
  unfold State.spareRequest
  extract_lets +onlyGivenNames now1
  refine .ite ?_ ?_
  · extract_lets +onlyGivenNames d2 t3
    have h3 : Calm s₀ t3 := h.set.setDom
    exact Calm.ite h3.domainChanged h3
  · exact Calm.ite h.spareOff h

theorem Calm.ponWrite {g pon : Nat} (h : Calm s₀ s) : Calm s₀ (State.ponWrite s g pon) := Calm.foldl (fun _ _ h => h.spareRequest) h

theorem execSparePowerRequest_leads {g : Cluster} {pon : BitVec 4} (h : Calm s₀ s) : Leads s₀ (execSparePowerRequest g pon s) :=
  Leads.ite (.next h.ponWrite) (.next h)

theorem execSparePgood_leads {g : Cluster} {i : Fin 4} (h : Calm s₀ s) : Leads s₀ (execSparePgood g i s) := by
  unfold execSparePgood
  extract_lets +onlyGivenNames d1
  refine .ite ?_ ?_
  · extract_lets +onlyGivenNames s2
    have h2 : Calm s₀ s2 := h.loseCell.cellLevel
    exact .next (h2.set.keeps (State.domainUp_keeps ..))
  · exact .next h

/-! ### Sys2Proof/Machine/HostIf.lean -/

theorem Calm.configWrite {l1 : ConfigWrite} (h : Calm s₀ s) : Calm s₀ (State.configWrite s l1) := by
  unfold State.configWrite
  split
  · exact h.frame
  · exact h.frame
  · exact .ite h.frame (Calm.ite h.frame h)
  · exact h.frame
  · exact h.frame
  · exact h.frame
  · exact h.frame
  · exact h.frame

theorem Calm.setChan {n : Nat} {x : ChanSt} (h : Calm s₀ s) : Calm s₀ (State.setChan s n x) := h.frame

theorem Calm.chanFlag {f : Field} {n : Nat} (h : Calm s₀ s) : Calm s₀ (State.chanFlag s f n) := h.raise.keeps (State.chanLevel_keeps ..)

theorem Calm.channelEnable {n : Nat} {en : Bool} (h : Calm s₀ s) : Calm s₀ (State.channelEnable s n en) := by
  unfold State.channelEnable
  refine .ite ?_ ?_
  · extract_lets +onlyGivenNames s1
    have h1 : Calm s₀ s1 := h.set.set.set.set
    exact h1.setChan.write1
  · exact Calm.ite h.write1 h.write0

theorem execChannelEnable_leads {n : Fin 256} (h : Calm s₀ s) : Leads s₀ (execChannelEnable n s) := Leads.ite (.next h.channelEnable) (.next h)

theorem Calm.cqWrite {n value stroke tag status place sqHead : Nat} (h : Calm s₀ s) :
    Calm s₀ (State.cqWrite s n value stroke tag status place sqHead) := by
  unfold State.cqWrite
  extract_lets +onlyGivenNames x1 tail2 phase3 e4 s5
  have h5 : Calm s₀ s5 := h.emit
  exact h5.set.setChan

theorem execMsixMessage_leads {n : Fin 256} (h : Calm s₀ s) : Leads s₀ (execMsixMessage n s) :=
  .ite (.next h) (Leads.ite (.next h.setChan) (.next (h.setChan.keeps (State.msix_keeps ..))))

theorem Calm.takeValue {n k j : Nat} {r : HostMapRec} {v : Word} {tag sq : Nat} (h : Calm s₀ s) : Calm s₀ (State.takeValue s n k j r v tag sq) := by
  unfold State.takeValue
  extract_lets +onlyGivenNames p1 late2 h3 s4
  have h4 : Calm s₀ s4 := h.frame
  exact Calm.ite h4.lateHost h4

theorem Calm.noteWaits (h : Calm s₀ s) : Calm s₀ (State.noteWaits s) := Calm.foldl (fun _ _ h => Calm.ite h.chanFlag h) h

theorem Calm.admitEntry {n : Nat} {v : Word} {tag rsv : Nat} (h : Calm s₀ s) : Calm s₀ (State.admitEntry s n v tag rsv) := by
  unfold State.admitEntry
  extract_lets +onlyGivenNames sq1 head2 _ s3
  have h3 : Calm s₀ s3 := h.set.frame
  split
  · exact h3.chanFlag.bump.cqWrite
  · exact h3.takeValue.bump.cqWrite

theorem execAdmission_leads {value : Word} {tag rsv : BitVec 32} (h : Calm s₀ s) : Leads s₀ (execAdmission value tag rsv s) := by
  unfold execAdmission
  refine .ite (.next h) ?_
  extract_lets +onlyGivenNames s1
  have h1 : Calm s₀ s1 := h.noteWaits
  split
  · exact .next h1.frame.admitEntry
  · exact .next h1

theorem Calm.outHold {n : Nat} {r : HostMapRec} (h : Calm s₀ s) : Calm s₀ (State.outHold s n r) := by
  unfold State.outHold
  extract_lets +onlyGivenNames x1
  refine .ite ?_ ?_
  · extract_lets +onlyGivenNames s2
    have h2 : Calm s₀ s2 := h.setChan.chanFlag
    exact h2.set.reqHold
  · exact h

theorem Calm.outLost {n : Nat} {v : Word} (h : Calm s₀ s) : Calm s₀ (State.outLost s n v) := h.raise.pciLevel.fault

theorem Calm.ringPut {n : Nat} {r : HostMapRec} {v : Word} {k cyc : Nat} (h : Calm s₀ s) : Calm s₀ (State.ringPut s n r v k cyc) := by
  unfold State.ringPut
  extract_lets +onlyGivenNames x1
  refine .ite h.outLost ?_
  extract_lets +onlyGivenNames a2 s3
  have h3 : Calm s₀ s3 := h.setNum
  exact h3.setChan.bump.outHold

theorem Calm.output {t n : Nat} {r : HostMapRec} {lcell : Nat} {v : Word} {k cyc : Nat} (h : Calm s₀ s) :
    Calm s₀ (State.output s t n r lcell v k cyc) :=
  Calm.ite h.fence (Calm.ite h.appendLog.ringPut h.appendLog)

theorem execOutputRelease_leads {n : Fin 256} (h : Calm s₀ s) : Leads s₀ (execOutputRelease n s) := by
  unfold execOutputRelease
  extract_lets +onlyGivenNames n1 x2
  split
  · exact .next h
  · refine .ite (.next h) ?_
    refine .ite (.next h.chanFlag) ?_
    extract_lets +onlyGivenNames e4 fill5 s6
    have h6 : Calm s₀ s6 := h.setChan
    exact .next h6.cqWrite

theorem Calm.pendAdmit {first : Option Nat} {i : Nat} (h : Calm s₀ s) : Calm s₀ (State.pendAdmit s first i).1 := by
  unfold State.pendAdmit
  extract_lets +onlyGivenNames a1 k2
  split
  · exact h
  · split
    · exact h.takeValue
    · exact h

theorem Calm.pendLoad (h : Calm s₀ s) : Calm s₀ (State.pendLoad s) := by
  have hfold (l : List Nat) (p : State × Option Nat) (hp : Calm s₀ p.1) :
      Calm s₀ (l.foldl (fun p i => p.1.pendAdmit p.2 i) p).1 := by
    induction l generalizing p with
    | nil => exact hp
    | cons a l ih => exact ih _ hp.pendAdmit
  unfold State.pendLoad
  refine .ite ?_ h
  split
  rename_i u first heq
  have hu : Calm s₀ u := .of_eq (·.1) heq (hfold _ _ h)
  cases first with
  | some i => exact hu.raise.pciLevel.set
  | none => exact hu

theorem execPendload_leads (h : Calm s₀ s) : Leads s₀ (execPendload s) := Leads.ite (.next h.pendLoad) (.next h)

theorem execMailboxRequest_leads (h : Calm s₀ s) : Leads s₀ (execMailboxRequest s) := Leads.ite (.next (h.keeps (State.mailboxGo_keeps ..))) (.next h)

theorem execFlr_leads (h : Calm s₀ s) : Leads s₀ (execFlr s) := Leads.ite (.next (h.keeps (State.flr_keeps ..))) (.next h)

theorem Calm.linkChange {width rate : Nat} (h : Calm s₀ s) : Calm s₀ (State.linkChange s width rate) := by
  unfold State.linkChange
  extract_lets +onlyGivenNames _ s1 s2
  have h1 : Calm s₀ s1 := h.frame
  have h2 : Calm s₀ s2 := h1.set.set.raise
  exact h2.setReady.pciLevel.keeps (State.msixFlushAll_keeps ..)

theorem execConventionalReset_leads (h : Calm s₀ s) : Leads s₀ (execConventionalReset s) :=
  Leads.ite (.next ((h.keeps (State.flr_keeps ..)).keeps (State.resetConfig_keeps ..)).linkChange) (.next h)

theorem execPcieLinkChange_leads {width : BitVec 5} {rate : BitVec 3} (h : Calm s₀ s) : Leads s₀ (execPcieLinkChange width rate s) :=
  .ite (.next h) (.ite (.next h.linkChange) (Leads.ite (.next h.linkChange) (.next h)))

/-! ### Sys2Proof/Machine/Tme.lean -/

theorem execChannelFailure_leads {t : Tile} {ch : Fin 16} (h : Calm s₀ s) : Leads s₀ (execChannelFailure t ch s) :=
  Leads.ite (.next (h.keeps (State.channelFail_keeps ..))) (.next h)

theorem Calm.outOfRange {t addr : Nat} (h : Calm s₀ s) : Calm s₀ (State.outOfRange s t addr) :=
  (h.raise.keeps (State.tmeCapture_keeps ..)).keeps (State.tmeLevel_keeps ..)

theorem Calm.respond {t : Nat} {q : MemReq} {v : Word} (h : Calm s₀ s) : Calm s₀ (State.respond s t q v) := by
  unfold State.respond
  split
  · exact h.frame
  · exact h

theorem Calm.tmeRead {t : Nat} {q : MemReq} {err : HbmRead} (h : Calm s₀ s) : Calm s₀ (State.tmeRead s t q err) := by
  unfold State.tmeRead
  split
  · exact h.outOfRange.respond
  · extract_lets +onlyGivenNames s2
    have h2 : Calm s₀ s2 := h.hbmTouch
    exact h2.respond

theorem Calm.tmeStore {t : Nat} {q : MemReq} {o : Nat} (h : Calm s₀ s) : Calm s₀ (State.tmeStore s t q o) :=
  Calm.ite (Calm.ite h.journal.setMasked h.journal) h.setMasked

theorem Calm.tmeWrite {t : Nat} {q : MemReq} {err : HbmRead} (h : Calm s₀ s) : Calm s₀ (State.tmeWrite s t q err) := by
  unfold State.tmeWrite
  split
  · exact h.output
  · split
    · exact h.outOfRange
    · exact h.hbmTouch.tmeStore

theorem Calm.extWrite {a : Nat} {l : List Byte} (h : Calm s₀ s) : Calm s₀ (State.extWrite s a l) := by
  unfold State.extWrite
  extract_lets +onlyGivenNames u1
  have h1 : Calm s₀ u1 := h.setBytes
  exact Calm.ite h1.setCkp h1

theorem Calm.freeStack {t : Nat} (h : Calm s₀ s) : Calm s₀ (State.freeStack s t) := Calm.foldl (fun _ _ h => h.extWrite) h.setCkp

theorem Calm.hbmWrite {a : Nat} {l : List Byte} (h : Calm s₀ s) : Calm s₀ (State.hbmWrite s a l) :=
  .ite h.setBytes (.ite h.raise (.ite h.freeStack.extWrite (Calm.ite h.setCkp h.extWrite)))

theorem Calm.freeIdle (h : Calm s₀ s) : Calm s₀ (State.freeIdle s) := Calm.ite h (Calm.foldl (fun _ _ h => Calm.ite h.freeStack h) h)

theorem Calm.restoreNow {t : Nat} (h : Calm s₀ s) : Calm s₀ (State.restoreNow s t) := by
  unfold State.restoreNow
  split
  · exact Calm.ite (h.keeps (State.restoreTile_keeps ..)) h
  · exact h

theorem Calm.serveAll {t : Nat} (h : Calm s₀ s) : Calm s₀ (State.serveAll s t) := by
  unfold State.serveAll
  extract_lets +onlyGivenNames _ u1
  have h1 : Calm s₀ u1 := Calm.foldl (fun _ _ h => Calm.ite h.tmeWrite h.tmeRead) h.setTile
  exact h1.freeStack

theorem Calm.afterOthers {a : Nat} (h : Calm s₀ s) : Calm s₀ (State.afterOthers s a) := Calm.ite h h.serveAll

theorem execTmeRequest_leads {t : Tile} {err : HbmRead} (h : Calm s₀ s) : Leads s₀ (execTmeRequest t err s) := by
  unfold execTmeRequest
  extract_lets +onlyGivenNames t1
  split
  · exact .next h
  · refine .ite (.next h) ?_
    extract_lets +onlyGivenNames x3 s4
    have h4 : Calm s₀ s4 := h.setTile
    exact .next (Calm.ite h4.tmeWrite h4.tmeRead).restoreNow.freeIdle

theorem Calm.rebuildEnd {t : Nat} (h : Calm s₀ s) : Calm s₀ (State.rebuildEnd s t) := by
  unfold State.rebuildEnd
  extract_lets +onlyGivenNames s1
  have h1 : Calm s₀ s1 := by
    unfold s1
    split
    · exact h.set
    · exact h
  exact h1.set.lower.raise

theorem Calm.rebuildErr {t g : Nat} {err : HbmRead} {m : Nat} (h : Calm s₀ s) : Calm s₀ (State.rebuildErr s t g err m) := by
  unfold State.rebuildErr
  split
  · exact h
  · exact h
  · exact h.bump
  · extract_lets +onlyGivenNames u2
    have h2 : Calm s₀ u2 := h.hbmTouch
    exact Calm.ite h2 (h2.keeps (State.spoilLine_keeps ..))

theorem execRebuildGroup_leads {t : Tile} {err : HbmRead} {member : Fin 16} (h : Calm s₀ s) : Leads s₀ (execRebuildGroup t s err member) := by
  unfold execRebuildGroup
  extract_lets +onlyGivenNames t1
  refine .ite ?_ ?_
  · extract_lets +onlyGivenNames g2 s3 s4
    have h3 : Calm s₀ s3 := h.rebuildErr
    have h4 : Calm s₀ s4 := h3.set
    exact .next (Calm.ite h4.rebuildEnd h4)
  · exact .next h

theorem Calm.zeroRange {a b : Nat} (h : Calm s₀ s) : Calm s₀ (State.zeroRange s a b) := h.trans ⟨rfl, .inl rfl, id, s.wf_zeroRange a b⟩

theorem execZeroFillDone_leads {t : Tile} (h : Calm s₀ s) : Leads s₀ (execZeroFillDone t s) := by
  unfold execZeroFillDone
  extract_lets +onlyGivenNames t1
  refine .ite ?_ ?_
  · extract_lets +onlyGivenNames s2
    have h2 : Calm s₀ s2 := h.serveAll.zeroRange
    exact .next h2.setTile.stackReady
  · exact .next h

theorem Calm.flashGo {op : Nat} (h : Calm s₀ s) : Calm s₀ (State.flashGo s op) := by
  unfold State.flashGo
  refine .ite h ?_
  extract_lets +onlyGivenNames s1
  have h1 : Calm s₀ s1 := h.set
  exact Calm.ite h1.raise h1.frame.raise

theorem Calm.flashPin {wpn : Option Bool} (h : Calm s₀ s) : Calm s₀ (State.flashPin s wpn) := by
  unfold State.flashPin
  split
  · exact h.set
  · exact h

theorem execFlashErase_leads {wpn : Option Bool} (h : Calm s₀ s) : Leads s₀ (execFlashErase s wpn) := Leads.ite (.next h.flashPin.flashGo) (.next h)

theorem execFlashProgram_leads {wpn : Option Bool} (h : Calm s₀ s) : Leads s₀ (execFlashProgram s wpn) :=
  Leads.ite (.next h.flashPin.flashGo) (.next h)

theorem Calm.flashErase (h : Calm s₀ s) : Calm s₀ (State.flashErase s) := h.zeroRange

theorem Calm.flashBytes {src dst n : Nat} (h : Calm s₀ s) : Calm s₀ (State.flashBytes s src dst n) := by
  induction n generalizing s src dst with
  | zero => exact h
  | succ n ih => exact ih (h.keeps (State.setByte_keeps ..))

theorem Calm.flashProgram (h : Calm s₀ s) : Calm s₀ (State.flashProgram s) := h.flashBytes

theorem Calm.flashEnd {ok : Bool} (h : Calm s₀ s) : Calm s₀ (State.flashEnd s ok) := by
  unfold State.flashEnd
  extract_lets +onlyGivenNames s1
  have h1 : Calm s₀ s1 := h.lower
  exact .ite h1.raise (Calm.ite h1.flashErase h1.flashProgram)

/-! ### Sys2Proof/Machine/Image.lean -/

theorem Calm.imgAddrWrite {a : Agent} {v : Nat} (h : Calm s₀ s) : Calm s₀ (State.imgAddrWrite s a v) :=
  Calm.ite h.set (h.keeps (State.loadForeign_keeps ..))

theorem execImgAddrWrite_leads {a : Agent} {v : Word} (h : Calm s₀ s) : Leads s₀ (execImgAddrWrite a v s) :=
  Leads.ite (.next h.imgAddrWrite) (.next h)

theorem Calm.putBundles {t a : Nat} {paged run : Bool} (h : Calm s₀ s) : Calm s₀ (State.putBundles s t a paged run) := by
  unfold State.putBundles
  extract_lets +onlyGivenNames l1 page2 _ s3
  have h3 : Calm s₀ s3 := Calm.ite h.frame h
  split
  · refine .ite ?_ ?_
    · extract_lets +onlyGivenNames s5
      have h5 : Calm s₀ s5 := h3.setCell
      exact Calm.ite h5 h5.set
    · exact h3
  · exact h3

theorem Calm.putFunctab {t a : Nat} (h : Calm s₀ s) : Calm s₀ (State.putFunctab s t a) := by
  unfold State.putFunctab
  split
  · exact Calm.ite h.setCell h
  · exact h

theorem Calm.putPaths {t a : Nat} (h : Calm s₀ s) : Calm s₀ (State.putPaths s t a) := Calm.ite (Calm.foldl (fun _ _ h => h.pathWrite) h) h

theorem Calm.putShadow {g a : Nat} (h : Calm s₀ s) : Calm s₀ (State.putShadow s g a) := Calm.foldl (fun _ _ h => h.set.set) h

theorem Calm.forceRemap {t a : Nat} (h : Calm s₀ s) : Calm s₀ (State.forceRemap s t a).1 := by
  unfold State.forceRemap
  extract_lets +onlyGivenNames g1
  split
  · exact h.putShadow.lower.remapCommit
  · exact h

theorem Calm.putUsed {t a : Nat} (h : Calm s₀ s) : Calm s₀ (State.putUsed s t a) := by
  unfold State.putUsed
  exact h.frame

theorem Calm.putRemaps {t : Nat} {force : Bool} {l : List Nat} (h : Calm s₀ s) : Calm s₀ (State.putRemaps s t force l).1 := by
  unfold State.putRemaps
  extract_lets r
  have hr : Calm s₀ r.1 := by
    have hfold (l : List Nat) (p : State × Bool) (hp : Calm s₀ p.1) :
        Calm s₀ (l.foldl (fun r a => let (u, ok) := r.1.forceRemap t a; (u, r.2 && ok)) p).1 := by
      induction l generalizing p with
      | nil => exact hp
      | cons a l ih => exact ih _ hp.forceRemap
    exact .iteFst (hfold l _ h) h
  exact .iteFst (Calm.foldl (fun _ _ h => h.putUsed) hr) hr

theorem Calm.putTmecfg {t a : Nat} (h : Calm s₀ s) : Calm s₀ (State.putTmecfg s t a) := by
  unfold State.putTmecfg
  refine .ite h ?_
  extract_lets +onlyGivenNames s1
  have h1 : Calm s₀ s1 := h.set.set
  refine .ite ?_ ?_
  · exact h1.serveAll.zeroRange
  · exact h1

theorem Calm.putProbes {t : Nat} {l : List Nat} (h : Calm s₀ s) : Calm s₀ (State.putProbes s t l) := h.setTile

theorem Calm.putService {t a : Nat} (h : Calm s₀ s) : Calm s₀ (State.putService s t a) := Calm.foldl (fun _ _ h => h.frame) h

theorem Calm.emptyRing {n : Nat} (h : Calm s₀ s) : Calm s₀ (State.emptyRing s n) := h.setChan

theorem Calm.putHostmap {l : List Nat} (h : Calm s₀ s) : Calm s₀ (State.putHostmap s l) := by
  unfold State.putHostmap
  extract_lets +onlyGivenNames recs1 fresh2 s3
  have h3 : Calm s₀ s3 := Calm.foldl (fun _ _ h => h.emptyRing) h
  exact h3.frame

theorem Calm.putBanks {t a : Nat} (h : Calm s₀ s) : Calm s₀ (State.putBanks s t a) := h.frame

theorem Calm.putCarry {t a : Nat} (h : Calm s₀ s) : Calm s₀ (State.putCarry s t a) := by
  unfold State.putCarry
  exact h.frame

theorem Calm.applySect {paged run : Bool} {e : Sect} {l : List Nat} (h : Calm s₀ s) : Calm s₀ (State.applySect s paged run e l).1 := by
  unfold State.applySect
  refine .iteFst (Calm.foldl (fun _ _ h => h.putBundles) h) ?_
  refine .iteFst (Calm.foldl (fun _ _ h => h.putFunctab) h) ?_
  refine .iteFst (Calm.foldl (fun _ _ h => h.putPaths) h) ?_
  refine .iteFst h.putRemaps ?_
  refine .iteFst (Calm.foldl (fun _ _ h => h.putTmecfg) h) ?_
  refine .iteFst h.putProbes ?_
  refine .iteFst (Calm.foldl (fun _ _ h => h.putBanks) h) ?_
  refine .iteFst (Calm.foldl (fun _ _ h => h.putService) h) ?_
  exact .iteFst h.putHostmap (Calm.foldl (fun _ _ h => h.putCarry) h)

theorem Calm.takeSects {b : Nat} {paged run : Bool} {l : List (Nat × Sect)} {r : Apply} (h : Calm s₀ s) :
    Calm s₀ (State.takeSects s b paged run l r).1 := by
  induction l generalizing s r with
  | nil => exact h
  | cons p t ih =>
    obtain ⟨i, e⟩ := p
    rw [State.takeSects]
    refine .iteFst (ih h) ?_
    cases s.checkSect b e with
    | inl c => exact ih h
    | inr l => exact .iteFst (ih h.applySect) (ih h.applySect)

theorem Calm.resetRecords {l : List (Nat × Sect)} (h : Calm s₀ s) : Calm s₀ (State.resetRecords s l) := h.frame

theorem Calm.putHdr {b : Nat} (h : Calm s₀ s) : Calm s₀ (State.putHdr s b) := by
  unfold State.putHdr
  extract_lets +onlyGivenNames on1 s2
  have h2 : Calm s₀ s2 := Calm.foldl (fun _ _ h => h.set.set) h
  exact h2.set

theorem Calm.keepHdr {b : Nat} (h : Calm s₀ s) : Calm s₀ (State.keepHdr s b) := by
  unfold State.keepHdr
  exact h.frame

theorem Calm.applyRun {b : Nat} {l : List (Nat × Sect)} (h : Calm s₀ s) : Calm s₀ (State.applyRun s b l).1 := by
  unfold State.applyRun
  split
  · exact h
  · exact h.keepHdr.takeSects

theorem Calm.applyQuiet {b : Nat} {l : List (Nat × Sect)} (h : Calm s₀ s) : Calm s₀ (State.applyQuiet s b l).1 := by
  unfold State.applyQuiet
  extract_lets +onlyGivenNames s1
  have h1 : Calm s₀ s1 := h.putHdr
  split
  · exact h1
  · exact h1.keepHdr.resetRecords.takeSects

theorem Calm.runEngine (h : Calm s₀ s) : Calm s₀ (State.runEngine s).1 := by
  unfold State.runEngine
  extract_lets +onlyGivenNames b1
  split
  · exact h
  · extract_lets +onlyGivenNames l3
    split
    · split
      · exact h
      · exact h.applyRun
    · exact h.applyQuiet

theorem Calm.applyEnd {err : Option (Nat × Nat)} {applied : Nat} (h : Calm s₀ s) : Calm s₀ (State.applyEnd s err applied) := by
  unfold State.applyEnd
  extract_lets +onlyGivenNames s1 _ s2
  have h1 : Calm s₀ s1 := h.lower.raise.set
  have h2 : Calm s₀ s2 := h1.frame
  split
  · extract_lets +onlyGivenNames s4
    have h4 : Calm s₀ s4 := h2.set.set
    exact h4.frame.hubLevels
  · extract_lets +onlyGivenNames s4 s5
    have h4 : Calm s₀ s4 := h2.raise.set.set
    have h5 : Calm s₀ s5 := Calm.ite h4.refuse (Calm.ite h4.refuse h4.refuse)
    exact h5.hubLevels

theorem Calm.barRun {r : Apply} (h : Calm s₀ s) : Calm s₀ (State.barRun s r) := h.frame

theorem Calm.startApply (h : Calm s₀ s) : Calm s₀ (State.startApply s) := by
  unfold State.startApply
  split
  · rename_i x11 x12 e
    have hs : Calm s₀ x11 := Calm.of_eq (·.1) e h.runEngine
    extract_lets +onlyGivenNames u2
    have h2 : Calm s₀ u2 := hs.barRun
    exact h2.frame.raise

theorem Calm.engageApply {err : HbmRead} {more : LineErrs} (h : Calm s₀ s) : Calm s₀ (State.engageApply s err more) := by
  unfold State.engageApply
  extract_lets +onlyGivenNames b1
  refine .ite h.raise ?_
  split
  rename_i u e heq
  have hu : Calm s₀ u := Calm.of_eq (·.1) heq h.readErrs
  exact .ite hu.frame.raise hu.startApply

theorem Calm.applyWrite {a : Agent} {err : HbmRead} {more : LineErrs} (h : Calm s₀ s) : Calm s₀ (State.applyWrite s a err more) :=
  .ite (h.keeps (State.loadForeign_keeps ..)) (.ite h (Calm.ite h.engageApply h.applyEnd))

theorem execApply_leads {a : Agent} {err : HbmRead} {more : LineErrs} (h : Calm s₀ s) : Leads s₀ (execApply a s err more) :=
  Leads.ite (.next h.applyWrite) (.next h)

theorem Calm.resumeApply (h : Calm s₀ s) : Calm s₀ (State.resumeApply s) := Calm.ite h.startApply h

theorem Calm.applyDone (h : Calm s₀ s) : Calm s₀ (State.applyDone s) := by
  unfold State.applyDone
  split
  · exact h.applyEnd
  · exact h

theorem execApplyComplete_leads (h : Calm s₀ s) : Leads s₀ (execApplyComplete s) := .next h.applyDone

/-! ### Sys2Proof/Machine/Power.lean -/

theorem Calm.coreFaultLevel {n : Nat} (h : Calm s₀ s) : Calm s₀ (State.coreFaultLevel s n) := h.lecSample

theorem Calm.coreReady {n : Nat} (h : Calm s₀ s) : Calm s₀ (State.coreReady s n) := h.setReady

theorem Calm.debugLevel (h : Calm s₀ s) : Calm s₀ (State.debugLevel s) := h.lecSample

theorem Calm.ackAll {n : Nat} (h : Calm s₀ s) : Calm s₀ (State.ackAll s n) := Calm.foldl (fun _ _ h => h.keeps (State.ackInval_keeps ..)) h

theorem Calm.endDebug {n : Nat} (h : Calm s₀ s) : Calm s₀ (State.endDebug s n) := Calm.foldl (fun _ _ h => h.set) h.lower

theorem Calm.coreReset {n : Nat} (h : Calm s₀ s) : Calm s₀ (State.coreReset s n) := by
  unfold State.coreReset
  extract_lets +onlyGivenNames pc1 s2 s3 s4 s5 _ s6 s7
  have h2 : Calm s₀ s2 := h.ackAll.cvuOff
  have h3 : Calm s₀ s3 := h2.clearRegs
  have h4 : Calm s₀ s4 := h3.clearRegs
  have h5 : Calm s₀ s5 := h4.set
  have h6 : Calm s₀ s6 := h5.setCore
  have h7 : Calm s₀ s7 := h6.frame
  exact (h7.endDebug.coreFaultLevel.keeps (State.serviceLevel_keeps ..)).coreReady

theorem Calm.coreRelease {n : Nat} (h : Calm s₀ s) : Calm s₀ (State.coreRelease s n) := by
  unfold State.coreRelease
  extract_lets +onlyGivenNames x1 s2
  have h2 : Calm s₀ s2 := h.setCore.coreReady
  exact Calm.ite (h2.keeps (State.haltCore_keeps ..)) h2

theorem Calm.loseQuad {q : Nat} (h : Calm s₀ s) : Calm s₀ (State.loseQuad s q) := by
  unfold State.loseQuad
  extract_lets +onlyGivenNames s1 s2 s3
  have h1 : Calm s₀ s1 := Calm.foldl (fun _ _ h => h.leaveIfUp) h
  have h2 : Calm s₀ s2 := h1.clearRegs
  have h3 : Calm s₀ s3 := h2.clearRegs
  exact Calm.foldl (fun _ _ h => h.setLane.setReady.keeps (State.laneLevels_keeps ..)) h3

theorem Calm.loseTme {t : Nat} (h : Calm s₀ s) : Calm s₀ (State.loseTme s t) := by
  unfold State.loseTme
  extract_lets +onlyGivenNames s1 x2 z3 s4 s5
  have h1 : Calm s₀ s1 := h.clearRegs
  have h4 : Calm s₀ s4 := h1.zeroRange
  have h5 : Calm s₀ s5 := h4.setTile
  exact h5.stackReady.keeps (State.tmeLevel_keeps ..)

theorem Calm.loseFabric {t : Nat} (h : Calm s₀ s) : Calm s₀ (State.loseFabric s t) := by
  unfold State.loseFabric
  extract_lets +onlyGivenNames s1 s2 s3 s4 s5 s6 s7 s8 s9 x10 s11 s12
  have h1 : Calm s₀ s1 := h.clearRegs
  have h2 : Calm s₀ s2 := h1.clearRegs
  have h3 : Calm s₀ s3 := h2.clearRegs
  have h4 : Calm s₀ s4 := h3.clearRegs
  have h5 : Calm s₀ s5 := h4.clearRegs
  have h6 : Calm s₀ s6 := h5.clearRegs
  have h7 : Calm s₀ s7 := h6.clearRegs
  have h8 : Calm s₀ s8 := h7.clearRegs
  have h9 : Calm s₀ s9 := h8.clearRegs
  have h11 : Calm s₀ s11 := h9.setTile
  have h12 : Calm s₀ s12 := h11.frame
  exact h12.setReady.gecSyncLec

theorem Calm.loseCore {n : Nat} (h : Calm s₀ s) : Calm s₀ (State.loseCore s n) := by
  unfold State.loseCore
  extract_lets +onlyGivenNames s1
  have h1 : Calm s₀ s1 := h.coreReset
  exact h1.lower.clearRegs

theorem Calm.loseGec (h : Calm s₀ s) : Calm s₀ (State.loseGec s) := by
  unfold State.loseGec
  extract_lets +onlyGivenNames s1 s2 s3
  have h1 : Calm s₀ s1 := h.clearRegs
  have h2 : Calm s₀ s2 := h1.clearRegs
  have h3 : Calm s₀ s3 := h2.clearRegs
  exact h3.frame.setReady

theorem Calm.loseTrace (h : Calm s₀ s) : Calm s₀ (State.loseTrace s) := by
  unfold State.loseTrace
  extract_lets +onlyGivenNames s1 s2
  have h1 : Calm s₀ s1 := h.clearRegs
  have h2 : Calm s₀ s2 := Calm.foldl (fun _ _ h => h.setCore) h1
  clear_value s2
  have h3 : Calm s₀ { s2 with trace := TraceSt.zero } := h2.frame
  exact (h3.keeps (State.trcLevel_keeps ..)).debugLevel.setReady

theorem Calm.losePci (h : Calm s₀ s) : Calm s₀ (State.losePci s) := by
  unfold State.losePci
  extract_lets +onlyGivenNames s1
  have h1 : Calm s₀ s1 := (h.keeps (State.flr_keeps ..)).clearRegs
  exact h1.frame.pciLevel.setReady

theorem Calm.loseMgt (h : Calm s₀ s) : Calm s₀ (State.loseMgt s) := by
  unfold State.loseMgt
  extract_lets +onlyGivenNames s1 s2 _ s3 s4
  have h1 : Calm s₀ s1 := h.clearRegs
  have h2 : Calm s₀ s2 := h1.clearRegs
  have h3 : Calm s₀ s3 := h2.frame
  have h4 : Calm s₀ s4 := h3.lecSample.lecSample.hubLevels
  exact h4.setReady.setReady

theorem Calm.emergencyFlags (h : Calm s₀ s) : Calm s₀ (State.emergencyFlags s) := h.set.set

theorem Calm.loseHub (h : Calm s₀ s) : Calm s₀ (State.loseHub s) := by
  unfold State.loseHub
  extract_lets +onlyGivenNames s1 s2 s3 s4
  have h4 : Calm s₀ s4 := h.clearRegs.clearRegs.clearRegs.clearRegs
  clear_value s4
  exact (h4.setTile (n := 8) (x := TileSt.zero) |>.frame).emergencyFlags

theorem Calm.flashSelect {w : Nat} (h : Calm s₀ s) : Calm s₀ (State.flashSelect s w) := by
  have hswap : Calm s₀ { s with mem := swapFlash s.mem } := h.trans ⟨rfl, .inl rfl, id, Memory.wf_swapFlash _⟩
  exact .ite h hswap.set

theorem Calm.dropReads (h : Calm s₀ s) : Calm s₀ (State.dropReads s) := by
  unfold State.dropReads
  extract_lets +onlyGivenNames s1
  have h1 : Calm s₀ s1 := Calm.foldl (fun _ _ h => h.emit) h
  exact h1.frame

theorem Calm.loseFlash (h : Calm s₀ s) : Calm s₀ (State.loseFlash s) := by
  unfold State.loseFlash
  extract_lets +onlyGivenNames wp1 s2
  have h2 : Calm s₀ s2 := h.flashSelect.dropReads.clearRegs
  exact h2.set.setReady

theorem Calm.loseDomain {d : Nat} (h : Calm s₀ s) : Calm s₀ (State.loseDomain s d) := by
  unfold State.loseDomain
  refine .ite (Calm.foldl (fun _ _ h => h.loseCell) h).cellLevel.setReady ?_
  refine .ite ?_ ?_
  · extract_lets +onlyGivenNames g1 i2 s3
    have h3 : Calm s₀ s3 := h.set
    exact h3.set.loseCell.cellLevel
  · exact .ite h.loseQuad (.ite h.loseTme (.ite h.loseFabric (.ite h.loseCore (.ite h.cvuOff (.ite h.loseFlash (.ite h.losePci (.ite h.loseHub
      (.ite h.loseMgt (.ite h.loseGec (Calm.ite h.loseTrace h))))))))))

theorem Calm.freshLec8 (h : Calm s₀ s) : Calm s₀ (State.freshLec8 s) := h.frame

theorem Calm.powerUp {d : Nat} (h : Calm s₀ s) : Calm s₀ (State.powerUp s d) := by
  unfold State.powerUp
  extract_lets +onlyGivenNames s1 s2 _ _ _ s3
  have h1 : Calm s₀ s1 := Calm.ite h.loseDomain h
  have h2 : Calm s₀ s2 := h1.setDom
  have h3 : Calm s₀ s3 := Calm.ite (Calm.foldl (fun _ _ h => h.loseCell.noteMoved) h2).cellLevel.setReady (Calm.ite h2.set (Calm.ite h2
    (Calm.ite h2.setTile.stackReady (Calm.ite h2.setReady.gecSyncLec (Calm.ite h2.coreReset (Calm.ite h2.zeroRange (Calm.ite h2.frame
      (Calm.ite h2.frame (Calm.ite (Calm.foldl (fun _ _ h => h.gecSyncLec) h2.setReady).freshLec8 (Calm.ite h2.setReady h2))))))))))
  exact h3.keeps (State.domainUp_keeps ..)

theorem Calm.powerDown {d : Nat} (h : Calm s₀ s) : Calm s₀ (State.powerDown s d) := h.loseDomain.goOff

theorem Calm.powerErr {code : Nat} (h : Calm s₀ s) : Calm s₀ (State.powerErr s code) := h.raise.set

theorem Calm.powerDone {d : Nat} (h : Calm s₀ s) : Calm s₀ (State.powerDone s d) := by
  unfold State.powerDone
  refine .ite ?_ ?_
  · extract_lets +onlyGivenNames __src1
    have h1 : Calm s₀ __src1 := h.lower
    exact h1.frame
  · exact h

theorem Calm.powerGo {a : Agent} (h : Calm s₀ s) : Calm s₀ (State.powerGo s a) := by
  unfold State.powerGo
  extract_lets +onlyGivenNames d on own
  have hbusy {u : State} (hu : Calm s₀ u) : Calm s₀ { u.raise PWR_STAT_BUSY with pins := { u.pins with switching := some d } } := by
    have hr := hu.raise (f := PWR_STAT_BUSY) (i := 0)
    exact ⟨hr.pending, hr.mode, hr.regsOk, hr.memOk⟩
  exact .ite h.raise (.ite h.powerErr (.ite h.powerErr (.ite h.powerErr (.ite h.powerErr (.ite h.powerErr (.ite (hbusy h.setDom)
    (.ite (hbusy h.powerDown) h)))))))

theorem execDomainSwitch_leads {a : Agent} {d : BitVec 10} {on : Bool} (h : Calm s₀ s) : Leads s₀ (execDomainSwitch a d on s) := by
  unfold execDomainSwitch
  refine .ite ?_ ?_
  · extract_lets +onlyGivenNames s1
    have h1 : Calm s₀ s1 := Calm.ite h.set h
    exact .next h1.set.powerGo
  · exact .next h

theorem execDomainOn_leads {d : Fin 766} (h : Calm s₀ s) : Leads s₀ (execDomainOn d s) := by
  unfold execDomainOn
  extract_lets +onlyGivenNames d1
  refine .ite ?_ ?_
  · extract_lets +onlyGivenNames s2
    have h2 : Calm s₀ s2 := h.powerUp.powerDone
    exact .next (Calm.ite h2.coreRelease h2)
  · exact .next h

theorem execDomainOff_leads {d : Fin 766} (h : Calm s₀ s) : Leads s₀ (execDomainOff d s) :=
  .ite (.next h) (.ite (.next h.setDom.powerDone.domainChanged) (Leads.ite (.next h.setDom.powerDone) (.next h)))

theorem Calm.faultOff {d : Nat} (h : Calm s₀ s) : Calm s₀ (State.faultOff s d) := by
  unfold State.faultOff
  extract_lets +onlyGivenNames was1
  refine .ite h ?_
  extract_lets +onlyGivenNames live2 s3 s4
  have h3 : Calm s₀ s3 := h.loseDomain.setDom
  have h4 : Calm s₀ s4 := Calm.ite h3.raise h3
  exact Calm.ite h4.domainChanged h4

theorem Calm.noteFault {d : Nat} (h : Calm s₀ s) : Calm s₀ (State.noteFault s d) := h.frame

theorem Calm.faultEvent (h : Calm s₀ s) : Calm s₀ (State.faultEvent s) := Calm.ite h.powerLevel h.lecPulse

theorem execDomainFault_leads {d : Fin 766} {under : Bool} (h : Calm s₀ s) : Leads s₀ (execDomainFault d under s) := by
  unfold execDomainFault
  extract_lets +onlyGivenNames d1 was2
  refine .ite (.next h) ?_
  extract_lets +onlyGivenNames used3 met4 cut5 s6 s7 s8 s9
  have h6 : Calm s₀ s6 := Calm.foldl (fun _ _ h => h.faultOff) h
  have h7 : Calm s₀ s7 := h6.setDom.failBit.noteFault.raise
  have h8 : Calm s₀ s8 := by
    unfold s8
    cases cut5 with
    | none => exact h7
    | some x => exact h7.powerDone
  have h9 : Calm s₀ s9 := (Calm.ite h8.powerErr h8).faultEvent
  exact .next h9.fault

theorem Calm.sensorLevels (h : Calm s₀ s) : Calm s₀ (State.sensorLevels s) := by
  unfold State.sensorLevels
  extract_lets +onlyGivenNames s1
  have h1 : Calm s₀ s1 := h.lecSample
  exact h1.lecSample

theorem Calm.sense {j hv v : List Nat} (h : Calm s₀ s) : Calm s₀ (State.sense s j hv v) := by
  unfold State.sense
  extract_lets +onlyGivenNames maxT1 maxH2 thot3 hhot4 hyst5 was6 hot7 cool8 supply9 now10 any11 all12 therm13 flags14 emerg15 s16 s17 s18 _ s19 s20
    s21 s22
  have h16 : Calm s₀ s16 := h.set.set
  have h17 : Calm s₀ s17 := Calm.ite h16.raise h16
  have h18 : Calm s₀ s18 := h17.keeps (State.setBits_keeps ..)
  have h19 : Calm s₀ s19 := h18.frame.emergencyFlags
  have h20 : Calm s₀ s20 := Calm.ite h19.raise h19
  have h21 : Calm s₀ s21 := Calm.ite h20.raise h20
  have h22 : Calm s₀ s22 := Calm.ite (h21.keeps (State.planHold_keeps ..)) h21
  exact h22.sensorLevels

theorem execSensorSample_leads {temps volts : List (BitVec 32)} {power : BitVec 32} (h :
    Calm s₀ s) : Leads s₀ (execSensorSample temps volts power s) := by
  unfold execSensorSample
  refine .ite ?_ ?_
  · extract_lets +onlyGivenNames t1 h2 v3 s4 s5 s6 _ s7
    have h4 : Calm s₀ s4 := h.keeps (State.putReadings_keeps ..)
    have h5 : Calm s₀ s5 := h4.keeps (State.putReadings_keeps ..)
    have h6 : Calm s₀ s6 := h5.keeps (State.putReadings_keeps ..)
    have h7 : Calm s₀ s7 := h6.frame
    exact .next h7.sense
  · exact .next h

theorem Calm.pmbusGo (h : Calm s₀ s) : Calm s₀ (State.pmbusGo s) := by
  unfold State.pmbusGo
  refine .ite h ?_
  extract_lets +onlyGivenNames wr1 _ s2
  have h2 : Calm s₀ s2 := h.frame
  exact h2.raise.emit

theorem execPmbusCommand_leads {addr : BitVec 7} {code : Byte} {len : BitVec 2} {write : Bool} (h :
    Calm s₀ s) : Leads s₀ (execPmbusCommand addr code len write s) := by
  unfold execPmbusCommand
  refine .ite ?_ ?_
  · extract_lets +onlyGivenNames s1 s2
    have h1 : Calm s₀ s1 := h.set.set
    have h2 : Calm s₀ s2 := Calm.ite h1.set h1
    exact .next h2.set.pmbusGo
  · exact .next h

theorem execPmbusDone_leads {reply : Option (BitVec 16)} (h : Calm s₀ s) : Leads s₀ (execPmbusDone reply s) := by
  unfold execPmbusDone
  refine .ite ?_ ?_
  · extract_lets +onlyGivenNames s1
    have h1 : Calm s₀ s1 := h.lower.raise
    split
    · exact .next h1.raise
    · exact .next (Calm.ite h1 h1.set)
  · exact .next h

theorem Calm.pollOn (h : Calm s₀ s) : Calm s₀ (State.pollOn s) := by
  unfold State.pollOn
  split
  · exact Calm.ite h (h.keeps (State.pollRead_keeps ..))
  · exact h

theorem Calm.pollRun {n : Nat} (h : Calm s₀ s) : Calm s₀ (State.pollRun s n) := by
  induction n generalizing s with
  | zero => exact h
  | succ n ih => exact ih h.pollOn

theorem execPmbusPoll_leads {status : List (Option (BitVec 16))} {amps : List (BitVec 32)} (h : Calm s₀ s) : Leads s₀ (execPmbusPoll status amps s) :=
  Leads.ite (.next h) (.next h.frame)

theorem execThermalTrip_leads {die : Fin 9} {celsius : BitVec 16} (h : Calm s₀ s) : Leads s₀ (execThermalTrip die celsius s) := by
  unfold execThermalTrip
  refine .ite (.next h) ?_
  refine .ite (.next h.frame) ?_
  extract_lets +onlyGivenNames s1
  have h1 : Calm s₀ s1 := h.fault
  exact .next h1.frame

/-! ### Sys2Proof/Machine/EventCmds.lean -/

theorem Calm.sampleSource {e src : Nat} {lv : Bool} (h : Calm s₀ s) : Calm s₀ (State.sampleSource s e src lv) := h.lecSample

theorem execSourceChange_leads {e : Fin 9} {src : Fin 512} {level : Bool} {wpn : Option Bool} (h :
    Calm s₀ s) : Leads s₀ (execSourceChange e src level s wpn) := by
  unfold execSourceChange
  split
  · exact .next h.set
  · exact .next h.sampleSource

theorem Calm.takeTrig {t : Nat} {r : TrigRec} (h : Calm s₀ s) : Calm s₀ (State.takeTrig s t r) := by
  unfold State.takeTrig
  extract_lets +onlyGivenNames s1 x2 s3
  have h1 : Calm s₀ s1 := h.keeps (State.lecEvent_keeps ..)
  have h3 : Calm s₀ s3 := Calm.ite h1.setTile h1.raise
  exact Calm.ite (h3.keeps (State.traceEvent_keeps ..)) h3

theorem execTriggerRecord_leads {t : Tile} (h : Calm s₀ s) : Leads s₀ (execTriggerRecord t s) := by
  unfold execTriggerRecord
  extract_lets +onlyGivenNames due1
  split
  · exact .next h
  · exact Leads.ite (.next h.frame.takeTrig) (.next h)

theorem Calm.trqPop {e : Nat} (h : Calm s₀ s) : Calm s₀ (State.trqPop s e) := Calm.ite h.setTile h

theorem execTrqPop_leads {e : Fin 9} (h : Calm s₀ s) : Leads s₀ (execTrqPop e s) := .next h.trqPop

theorem Calm.softEvents {mask : Nat} (h : Calm s₀ s) : Calm s₀ (State.softEvents s mask) :=
  Calm.ite (Calm.foldl (fun _ _ h => Calm.ite (h.keeps (State.lecEvent_keeps ..)) h) h) h

theorem execLecSwevWrite_leads {mask : BitVec 16} (h : Calm s₀ s) : Leads s₀ (execLecSwevWrite mask s) := .next h.softEvents

theorem Calm.syncSource {g : Nat} (h : Calm s₀ s) : Calm s₀ (State.syncSource s g) := h.keeps (State.gecSync_keeps ..)

theorem Calm.pendPut {g : Nat} {b : Bool} (h : Calm s₀ s) : Calm s₀ (State.pendPut s g b) := Calm.ite (Calm.ite h.write1 h.write0).syncSource h

theorem Calm.pclrWrite {e r v : Nat} (h : Calm s₀ s) : Calm s₀ (State.pclrWrite s e r v) :=
  Calm.ite (Calm.foldl (fun _ _ h => Calm.ite h.pendPut h) h) h

theorem execLecPclrWrite_leads {e : Fin 9} {r : Fin 8} {v : Word} (h : Calm s₀ s) : Leads s₀ (execLecPclrWrite e r v s) := .next h.pclrWrite

theorem Calm.pendWrite {e r v : Nat} (h : Calm s₀ s) : Calm s₀ (State.pendWrite s e r v) := Calm.ite (Calm.foldl (fun _ _ h => h.pendPut) h) h

theorem execLecPendWrite_leads {e : Fin 9} {r : Fin 8} {v : Word} (h : Calm s₀ s) : Leads s₀ (execLecPendWrite e r v s) := .next h.pendWrite

theorem Calm.senseField {g v : Nat} (h : Calm s₀ s) : Calm s₀ (State.senseField s g v) := by
  unfold State.senseField
  refine .ite h ?_
  extract_lets +onlyGivenNames __src1
  have h1 : Calm s₀ __src1 := h.set
  exact h1.frame

theorem Calm.senseWrite {e r v mask : Nat} (h : Calm s₀ s) : Calm s₀ (State.senseWrite s e r v mask) :=
  Calm.ite (Calm.foldl (fun _ _ h => Calm.ite h h.senseField) h) h

theorem execLecSenseWrite_leads {e : Fin 9} {r : Fin 32} {v : Word} (h : Calm s₀ s) : Leads s₀ (execLecSenseWrite e r v s) := .next h.senseWrite

theorem execGecReassignment_leads {i : Fin 576} (h : Calm s₀ s) : Leads s₀ (execGecReassignment i s) :=
  Leads.ite (.next (h.keeps (State.reassign_keeps ..))) (.next h)

theorem Calm.faultAck {w : Nat} (h : Calm s₀ s) : Calm s₀ (State.faultAck s w) := Calm.ite h.set.hubLevels h

theorem execFaultAck_leads {seq : BitVec 32} (h : Calm s₀ s) : Leads s₀ (execFaultAck seq s) := Leads.ite (.next h.faultAck) (.next h)

theorem Calm.moduleFault {v : Nat} (h : Calm s₀ s) : Calm s₀ (State.moduleFault s v) := h.fault

theorem execModuleFault_leads {v : Word} (h : Calm s₀ s) : Leads s₀ (execModuleFault v s) := Leads.ite (.next h.moduleFault) (.next h)

/-! ### Sys2Proof/Machine/Trace.lean -/

theorem Calm.takeMessage {f : UFlit} {g : Option UFlit} (h : Calm s₀ s) : Calm s₀ (State.takeMessage s f g) := by
  unfold State.takeMessage
  extract_lets +onlyGivenNames tile1
  split
  · exact h.keeps (State.trcTake_keeps ..)
  · exact h.keeps (State.trcTake_keeps ..)

theorem execTraceMessage_leads (h : Calm s₀ s) : Leads s₀ (execTraceMessage s) := by
  unfold execTraceMessage
  refine .ite (.next h) ?_
  extract_lets +onlyGivenNames x1
  split
  · exact .next h
  · exact .next h.setTile.takeMessage

theorem Calm.sendProbe {c kind group addr : Nat} {v : Word} (h : Calm s₀ s) : Calm s₀ (State.sendProbe s c kind group addr v) := by
  unfold State.sendProbe
  extract_lets +onlyGivenNames t1 l2 place3 router4
  refine .ite h.probeDrop ?_
  exact h.inject.inject

theorem execProbeCapture_leads {c : PCell} {i : Fin 16} (h : Calm s₀ s) : Leads s₀ (execProbeCapture c i s) := by
  unfold execProbeCapture
  extract_lets +onlyGivenNames c1
  exact Leads.ite (by split; exacts [.next h.settleCell.sendProbe, .next h]) (.next h)

theorem Calm.swMessage {a : Agent} {v : Nat} (h : Calm s₀ s) : Calm s₀ (State.swMessage s a v) := Calm.ite (h.keeps (State.trcOwn_keeps ..)) h

theorem execTrcSwmsg_leads {a : Agent} {v : Word} (h : Calm s₀ s) : Leads s₀ (execTrcSwmsg a v s) := .next h.swMessage

theorem execFrzNow_leads (h : Calm s₀ s) : Leads s₀ (execFrzNow s) := .next (h.keeps (State.traceFreeze_keeps ..))

theorem execFrozen_leads (h : Calm s₀ s) : Leads s₀ (execFrozen s) := by
  unfold execFrozen
  have hr := h.raise (f := TRC_STAT_FROZEN) (i := 0)
  have hf : Calm s₀ { s.raise TRC_STAT_FROZEN with trace := { s.trace with left := none } } := ⟨hr.pending, hr.mode, hr.regsOk, hr.memOk⟩
  exact Leads.ite (.next (hf.keeps (State.trcLevel_keeps ..))) (.next h)

theorem Calm.traceEnable (h : Calm s₀ s) : Calm s₀ (State.traceEnable s) := by
  unfold State.traceEnable
  refine .ite h ?_
  extract_lets +onlyGivenNames s1
  have h1 : Calm s₀ s1 := h.write1.set.lower
  exact h1.frame

theorem execTraceEnable_leads (h : Calm s₀ s) : Leads s₀ (execTraceEnable s) := .next h.traceEnable

theorem Calm.debugHalt {n : Nat} (h : Calm s₀ s) : Calm s₀ (State.debugHalt s n) := by
  unfold State.debugHalt
  refine .ite h ?_
  extract_lets +onlyGivenNames _ s1
  have h1 : Calm s₀ s1 := h.raise.setCore
  exact Calm.ite (h1.keeps (State.haltCore_keeps ..)) h1

theorem execDebugHalt_leads {n : Core} (h : Calm s₀ s) : Leads s₀ (execDebugHalt n s) := .next h.debugHalt

theorem Calm.debugRun {n : Nat} {step : Bool} (h : Calm s₀ s) : Calm s₀ (State.debugRun s n step) := by
  unfold State.debugRun
  extract_lets +onlyGivenNames x1
  refine .ite h ?_
  extract_lets +onlyGivenNames r2 w3 y4 s5
  have h5 : Calm s₀ s5 := h.setCore.lower
  exact Calm.foldl (fun _ _ h => h.set) h5

theorem execDebugRun_leads {n : Core} (h : Calm s₀ s) : Leads s₀ (execDebugRun n s) := .next h.debugRun

theorem execDebugStep_leads {n : Core} (h : Calm s₀ s) : Leads s₀ (execDebugStep n s) := .next h.debugRun

theorem execBreakpointHit_leads {n : Core} (h : Calm s₀ s) : Leads s₀ (execBreakpointHit n s) :=
  Leads.ite (.next (h.keeps (State.haltCore_keeps ..))) (.next h)

theorem Calm.tapScan {ir v : Nat} (h : Calm s₀ s) : Calm s₀ (State.tapScan s ir v) := h.frame.emit

theorem Calm.boundaryScan {ir cap upd : Nat} (h : Calm s₀ s) : Calm s₀ (State.boundaryScan s ir cap upd) := h.frame.tapScan

theorem Calm.bypassScan {ir : Nat} (h : Calm s₀ s) : Calm s₀ (State.bypassScan s ir) := h.tapScan

theorem execTapReset_leads (h : Calm s₀ s) : Leads s₀ (execTapReset s) := .next h.frame

theorem execExtest_leads {cap upd : BitVec 1080} (h : Calm s₀ s) : Leads s₀ (execExtest cap upd s) := .next h.boundaryScan

theorem execSamplePreload_leads {cap upd : BitVec 1080} (h : Calm s₀ s) : Leads s₀ (execSamplePreload cap upd s) := .next h.boundaryScan

theorem execExtestPulse_leads {cap upd : BitVec 1080} (h : Calm s₀ s) : Leads s₀ (execExtestPulse cap upd s) := .next h.boundaryScan

theorem execExtestTrain_leads {cap upd : BitVec 1080} (h : Calm s₀ s) : Leads s₀ (execExtestTrain cap upd s) := .next h.boundaryScan

theorem execClamp_leads (h : Calm s₀ s) : Leads s₀ (execClamp s) := .next h.bypassScan

theorem execHighz_leads (h : Calm s₀ s) : Leads s₀ (execHighz s) := .next h.bypassScan

theorem execBypass_leads {code : Byte} (h : Calm s₀ s) : Leads s₀ (execBypass s code) := .next h.bypassScan

theorem execIdcode_leads (h : Calm s₀ s) : Leads s₀ (execIdcode s) := .next h.tapScan

theorem execTapstat_leads (h : Calm s₀ s) : Leads s₀ (execTapstat s) := .next h.tapScan

/-! ### Sys2Proof/Machine/Journal.lean -/

theorem Calm.flashPut {a : Nat} {l : List Nat} (h : Calm s₀ s) : Calm s₀ (State.flashPut s a l) := by
  induction l generalizing s a with
  | nil => exact h
  | cons b t ih => exact ih (h.keeps (State.setByte_keeps ..))

theorem Calm.bjWrite {fail : Nat} {f : List Nat} (h : Calm s₀ s) : Calm s₀ (State.bjWrite s fail f) := by
  unfold State.bjWrite
  refine .ite h ?_
  extract_lets +onlyGivenNames r1 p2 use3 s4 s5
  have h4 : Calm s₀ s4 := Calm.foldl (fun _ _ h => h.flashPut) h
  have h5 : Calm s₀ s5 := Calm.ite h4.raise h4
  exact h5.frame

theorem Calm.bjPut {fail : Nat} {f : List Nat} (h : Calm s₀ s) : Calm s₀ (State.bjPut s fail f) := Calm.ite h.frame h.bjWrite

theorem Calm.bjStart {fail cause profile : Nat} (h : Calm s₀ s) : Calm s₀ (State.bjStart s fail cause profile) := h.bjPut

theorem Calm.bjClear {fail mask : Nat} (h : Calm s₀ s) : Calm s₀ (State.bjClear s fail mask) := by
  unfold State.bjClear
  refine .ite h ?_
  extract_lets +onlyGivenNames m1 s2
  have h2 : Calm s₀ s2 := h.bjWrite.bjWrite
  exact h2.set

theorem execBjClear_leads {mask : Word} {fail : BitVec 2} (h : Calm s₀ s) : Leads s₀ (execBjClear mask fail s) := .next h.bjClear

/-! ### Sys2Proof/Machine/CapoCr.lean -/

theorem Calm.lkWrite {n i : Nat} (h : Calm s₀ s) : Calm s₀ (State.lkWrite s n i) := by
  unfold State.lkWrite
  extract_lets +onlyGivenNames d1 size2
  refine .ite h.raise ?_
  exact h.setCore

theorem Calm.lkUnlock {n i : Nat} (h : Calm s₀ s) : Calm s₀ (State.lkUnlock s n i) := h.setCore

theorem Calm.lkRead {n i : Nat} (h : Calm s₀ s) : Calm s₀ (State.lkRead s n i) := h.set.set.set.set.set

theorem execLkcmdWrite_leads {n : Core} {i : Fin 8} (h : Calm s₀ s) : Leads s₀ (execLkcmdWrite n i s) := Leads.ite (.next h.set.lkWrite) (.next h)

theorem execUnlock_leads {n : Core} {i : Fin 8} (h : Calm s₀ s) : Leads s₀ (execUnlock n i s) := Leads.ite (.next h.set.lkUnlock) (.next h)

theorem execLkcmdRead_leads {n : Core} {i : Fin 8} (h : Calm s₀ s) : Leads s₀ (execLkcmdRead n i s) := Leads.ite (.next h.set.lkRead) (.next h)

theorem Calm.cvuRelease {n : Nat} (h : Calm s₀ s) : Calm s₀ (State.cvuRelease s n) := by
  unfold State.cvuRelease
  extract_lets +onlyGivenNames s1
  have h1 : Calm s₀ s1 := h.lower
  exact Calm.ite h1 h1.cvuOff

theorem Calm.cvuWake {n : Nat} (h : Calm s₀ s) : Calm s₀ (State.cvuWake s n) := by
  unfold State.cvuWake
  refine .ite h ?_
  extract_lets +onlyGivenNames s1
  have h1 : Calm s₀ s1 := Calm.ite h.setDom h
  exact h1.raise

theorem Calm.cvuActive {n : Nat} (h : Calm s₀ s) : Calm s₀ (State.cvuActive s n) := by
  unfold State.cvuActive
  extract_lets +onlyGivenNames s1
  have h1 : Calm s₀ s1 := h.lower
  refine .ite ?_ ?_
  · extract_lets +onlyGivenNames s2
    have h2 : Calm s₀ s2 := h1.set.bump
    exact h2.setCore.keeps (State.cvuState_keeps ..)
  · exact h1.bump.keeps (State.cvuState_keeps ..)

theorem execCvuRelease_leads {n : Core} (h : Calm s₀ s) : Leads s₀ (execCvuRelease n s) := Leads.ite (.next h.cvuRelease) (.next h)

theorem execCvuWake_leads {n : Core} (h : Calm s₀ s) : Leads s₀ (execCvuWake n s) := Leads.ite (.next h.cvuWake) (.next h)

theorem execCvuWakeDone_leads {n : Core} (h : Calm s₀ s) : Leads s₀ (execCvuWakeDone n s) := Leads.ite (.next h.cvuActive) (.next h)

theorem execCvuRetention_leads {n : Core} (h : Calm s₀ s) : Leads s₀ (execCvuRetention n s) :=
  Leads.ite (.next (h.keeps (State.cvuState_keeps ..))) (.next h)

theorem execCvuOff_leads {n : Core} (h : Calm s₀ s) : Leads s₀ (execCvuOff n s) := Leads.ite (.next h.cvuOff) (.next h)

theorem Calm.sendAnswer {n v : Nat} (h : Calm s₀ s) : Calm s₀ (State.sendAnswer s n v) := h.inject

theorem execLocalPortRequest_leads {n : Core} {len buf : BitVec 9} (h : Calm s₀ s) : Leads s₀ (execLocalPortRequest n len buf s) :=
  Leads.ite (.next (h.set.set.keeps (State.localGo_keeps ..))) (.next h)

theorem Calm.ldictGo {n : Nat} (h : Calm s₀ s) : Calm s₀ (State.ldictGo s n) := by
  unfold State.ldictGo
  extract_lets +onlyGivenNames len1 l2
  refine .ite h.raise ?_
  extract_lets +onlyGivenNames b3 s4
  have h4 : Calm s₀ s4 := h.frame
  exact h4.raise.pushCtl

theorem execLdictRequest_leads {n : Core} {len : BitVec 9} {lane : Lane} {buf : BitVec 9} (h :
    Calm s₀ s) : Leads s₀ (execLdictRequest n len lane buf s) := by
  unfold execLdictRequest
  refine .ite ?_ ?_
  · extract_lets +onlyGivenNames s1
    have h1 : Calm s₀ s1 := h.set.set.set
    exact .next h1.ldictGo
  · exact .next h

theorem execLdictTimeout_leads {n : Core} (h : Calm s₀ s) : Leads s₀ (execLdictTimeout n s) := Leads.ite (.next h.lower.raise) (.next h)

/-! ### Sys2Proof/Machine/Regs.lean -/

theorem Calm.putRw {f : Field} {i v : Nat} (h : Calm s₀ s) : Calm s₀ (State.putRw s f i v) := by
  unfold State.putRw
  extract_lets +onlyGivenNames __src1
  have h1 : Calm s₀ __src1 := h.set
  exact h1.frame

theorem Calm.putField {f : Field} {i v mask : Nat} (h : Calm s₀ s) : Calm s₀ (State.putField s f i v mask) := by
  unfold State.putField
  extract_lets +onlyGivenNames m1 w2 new3
  exact Calm.ite h (by split; exacts [Calm.ite h.putRw h, h.set, h.keeps (State.setBits_keeps ..), h, h])

theorem Calm.putFields {r : RegName} {i v mask : Nat} {skip : List Field} (h : Calm s₀ s) : Calm s₀ (State.putFields s r i v mask skip) :=
  Calm.foldl (fun _ _ h => Calm.ite h h.putField) h

theorem Calm.whenHit {f : Field} {v mask : Nat} {act : State → State} (h : Calm s₀ s) (hact : ∀ {u}, Calm s₀ u → Calm s₀ (act u)) :
    Calm s₀ (State.whenHit s f v mask act) :=
  Calm.ite (hact h) h

theorem Calm.packedWrite {f : Field} {m stride i v mask : Nat} (h : Calm s₀ s) : Calm s₀ (State.packedWrite s f m stride i v mask) :=
  Calm.foldl (fun _ _ h => Calm.ite h h.putRw) h

theorem Calm.countWrite {i v mask : Nat} (h : Calm s₀ s) : Calm s₀ (State.countWrite s i v mask) := h.packedWrite

theorem Calm.readyLevels (h : Calm s₀ s) : Calm s₀ (State.readyLevels s) := Calm.foldl (fun _ _ h => h.lecSample) h

theorem Calm.resample {e src : Nat} (h : Calm s₀ s) : Calm s₀ (State.resample s e src) := h.sampleSource

theorem Calm.writeTime {r : RegName} {i v mask : Nat} (h : Calm s₀ s) : Calm s₀ (State.writeTime s r i v mask) := by
  unfold State.writeTime
  split
  · exact h.periodWrite
  · exact Calm.ite h h.putFields
  · extract_lets +onlyGivenNames s2
    have h2 : Calm s₀ s2 := h.putFields
    exact Calm.ite h2 h2.roleWrite
  · extract_lets +onlyGivenNames s2 s3 s4 s5
    have h2 : Calm s₀ s2 := h.putFields
    have h3 : Calm s₀ s3 := h2.whenHit (fun h => h.reqHold)
    have h4 : Calm s₀ s4 := h3.whenHit (fun h => h.goCommand)
    have h5 : Calm s₀ s5 := h4.whenHit (fun h => h.adopt)
    exact h5.whenHit (fun h => h.restoreCommand)
  · exact h.putFields
  · exact Calm.ite h.putFields h
  · exact h.putFields

theorem Calm.writeMgt {a : Agent} {r : RegName} {i v mask : Nat} (h : Calm s₀ s) : Calm s₀ (State.writeMgt s a r i v mask) := by
  unfold State.writeMgt
  extract_lets +onlyGivenNames own1
  split
  · exact h.putFields.keeps (State.canLevel_keeps ..)
  · exact Calm.ite (h.putFields.whenHit (fun h => h.keeps (State.localGo_keeps ..))) h
  · exact Calm.ite (h.putFields.whenHit (fun h => h.ldictGo)) h
  · exact h.faultAck
  · exact h.moduleFault
  · exact h.imgAddrWrite
  · exact Calm.ite (h.putFields.hubLevels.whenHit (fun h => h.applyWrite)) (h.keeps (State.loadForeign_keeps ..))
  · extract_lets +onlyGivenNames s3
    have h3 : Calm s₀ s3 := h.putFields
    exact h3.whenHit (fun h => Calm.ite h h.flashGo)
  · exact h.putFields

theorem Calm.reservedWrite {i v mask : Nat} (h : Calm s₀ s) : Calm s₀ (State.reservedWrite s i v mask) := by
  unfold State.reservedWrite
  extract_lets +onlyGivenNames s1
  have h1 : Calm s₀ s1 := h.putFields
  exact Calm.ite h1.putField h1

theorem Calm.eccWrite {i v mask : Nat} (h : Calm s₀ s) : Calm s₀ (State.eccWrite s i v mask) := by
  unfold State.eccWrite
  extract_lets +onlyGivenNames s1
  have h1 : Calm s₀ s1 := h.putFields
  exact Calm.ite h1.setTile h1

theorem Calm.writeTile {r : RegName} {i v mask : Nat} (h : Calm s₀ s) : Calm s₀ (State.writeTile s r i v mask) := by
  unfold State.writeTile
  split
  · exact h.putFields.whenHit (fun h => Calm.ite h.spareCommit h)
  · exact Calm.ite h h.reservedWrite
  · exact Calm.ite h h.putFields
  · exact h.putFields.keeps (State.fabLevels_keeps ..)
  · exact Calm.ite h.putFields h
  · extract_lets +onlyGivenNames s2 s3 s4
    have h2 : Calm s₀ s2 := h.putFields
    have h3 : Calm s₀ s3 := Calm.ite h2.laneEnable h2
    have h4 : Calm s₀ s4 := Calm.ite h3.identityCheck h3
    exact h4.whenHit (fun h => h.retrain)
  · extract_lets +onlyGivenNames s2
    have h2 : Calm s₀ s2 := h.putFields
    exact Calm.ite h2.identityCheck h2
  · exact h.putFields.keeps (State.laneLevels_keeps ..)
  · exact h.calWrite
  · exact h.setLane
  · exact h.utxdWrite
  · exact h.putFields.whenHit (fun h => h.urxPop)
  · extract_lets +onlyGivenNames s2
    have h2 : Calm s₀ s2 := h.putFields.whenHit (fun h => h.laneCommit)
    exact h2.whenHit (fun h => h.laneRevert)
  · extract_lets +onlyGivenNames s2
    have h2 : Calm s₀ s2 := h.putFields.whenHit (fun h => h.remapCommit)
    exact h2.whenHit (fun h => h.remapRevert)
  · exact h.ponWrite
  · exact Calm.ite h h.putFields
  · extract_lets +onlyGivenNames s2 s3
    have h2 : Calm s₀ s2 := h.putFields
    have h3 : Calm s₀ s3 := Calm.ite h2.swapArm h2
    exact (h3.whenHit (fun h => h.setPage)).resample
  · exact (h.putFields.keeps (State.tmeLevel_keeps ..)).stackReady
  · exact h.eccWrite
  · exact Calm.foldl (fun _ _ h => h.resample) h.putFields
  · exact h.putFields

theorem Calm.writeCell {r : RegName} {i v mask : Nat} (h : Calm s₀ s) : Calm s₀ (State.writeCell s r i v mask) := by
  unfold State.writeCell
  extract_lets status
  split
  · exact h.putFields.resample
  · exact h.putFields.resample
  · exact .ite h.putFields h
  · exact .ite h h.setCell
  · exact .ite h h.setCell
  · exact h.putFields

theorem Calm.writeEvent {r : RegName} {i v mask : Nat} (h : Calm s₀ s) : Calm s₀ (State.writeEvent s r i v mask) := by
  unfold State.writeEvent
  split
  · exact h.senseWrite
  · exact h.packedWrite.gecSyncLec
  · exact h.countWrite
  · exact h.packedWrite.gecSyncLec
  · exact h.pendWrite
  · exact h.pclrWrite
  · exact h.putFields.whenHit (fun h => h.trqPop)
  · exact Calm.ite h.softEvents h
  · exact h.packedWrite
  · exact h.putFields

theorem Calm.writePower {a : Agent} {r : RegName} {i v mask : Nat} (h : Calm s₀ s) : Calm s₀ (State.writePower s a r i v mask) := by
  unfold State.writePower
  extract_lets +onlyGivenNames s1
  have h1 : Calm s₀ s1 := h.putFields
  split
  · exact h1.whenHit (fun h => h.powerGo)
  · exact h1.powerLevel
  · exact h1.sensorLevels
  · exact h1.sensorLevels
  · exact h1.whenHit (fun h => h.pmbusGo)
  · exact h1

theorem Calm.writeCore {r : RegName} {n v mask : Nat} (h : Calm s₀ s) : Calm s₀ (State.writeCore s r n v mask) := by
  unfold State.writeCore
  extract_lets +onlyGivenNames det1 t2
  have h2 : Calm s₀ t2 := h.putFields
  split
  · exact .ite h2.setCore (Calm.ite h2.setCore h2)
  · exact h2.keeps (State.serviceLevel_keeps ..)
  · exact h2.sendAnswer
  · extract_lets +onlyGivenNames t4 t5
    have h4 : Calm s₀ t4 := h2.whenHit (fun h => h.lkWrite)
    have h5 : Calm s₀ t5 := h4.whenHit (fun h => h.lkUnlock)
    exact h5.whenHit (fun h => h.lkRead)
  · extract_lets +onlyGivenNames t4
    have h4 : Calm s₀ t4 := h2.whenHit (fun h => h.cvuRelease)
    exact h4.whenHit (fun h => h.cvuWake)
  · exact h2

theorem Calm.writePci {r : RegName} {i v mask : Nat} (h : Calm s₀ s) : Calm s₀ (State.writePci s r i v mask) := by
  unfold State.writePci
  split
  · exact h.putFields.whenHit (fun h => h.pendLoad)
  · exact h.putFields.pciLevel
  · exact h.putFields.whenHit (fun h => h.keeps (State.mailboxGo_keeps ..))
  · exact Calm.ite h h.putFields
  · exact Calm.ite h h.putFields
  · extract_lets +onlyGivenNames s2
    have h2 : Calm s₀ s2 := h.putFields
    exact Calm.ite h2.channelEnable h2
  · exact h.putFields.keeps (State.chanLevel_keeps ..)
  · exact h.putFields

theorem Calm.writeTrace {a : Agent} {r : RegName} {i v mask : Nat} (h : Calm s₀ s) : Calm s₀ (State.writeTrace s a r i v mask) := by
  unfold State.writeTrace
  split
  · extract_lets +onlyGivenNames s2
    have h2 : Calm s₀ s2 := h.putFields
    exact .ite h2 (Calm.ite h2.traceEnable h2.write0)
  · exact Calm.ite h h.putFields
  · exact h.putFields.keeps (State.trcLevel_keeps ..)
  · exact h.putFields.whenHit (fun h => h.keeps (State.traceFreeze_keeps ..))
  · exact h.swMessage
  · exact h.putFields.debugLevel
  · extract_lets +onlyGivenNames s2 s3 s4
    have h2 : Calm s₀ s2 := h.putFields
    have h3 : Calm s₀ s3 := h2.whenHit (fun h => h.debugHalt)
    have h4 : Calm s₀ s4 := h3.whenHit (fun h => h.debugRun)
    exact h4.whenHit (fun h => h.debugRun)
  · extract_lets +onlyGivenNames n2 w3
    refine .ite h ?_
    exact h.set
  · exact h.putFields

theorem Calm.writeBoot {r : RegName} {i v mask : Nat} (h : Calm s₀ s) : Calm s₀ (State.writeBoot s r i v mask) := by
  unfold State.writeBoot
  split
  · exact h.putFields.resample
  · exact h.bjClear
  · exact h.putFields.readyLevels
  · exact h.putFields

theorem Calm.regWrite {a : Agent} {b : Block} {r : RegName} {i v mask : Nat} (h : Calm s₀ s) : Calm s₀ (State.regWrite s a b r i v mask) := by
  unfold State.regWrite
  split
  · exact h.writeTime.hubLevels
  · exact h.writeTime.hubLevels
  · exact h.writeTime.hubLevels
  · exact h.writeMgt.hubLevels
  · exact h.writeMgt.hubLevels
  · exact h.writeMgt.hubLevels
  · exact h.writeTile
  · exact h.writeTile
  · exact h.writeTile
  · exact h.writeTile
  · exact h.writeTile
  · exact h.writeTile
  · exact h.writeCell
  · exact h.writeEvent
  · exact h.writeEvent.hubLevels
  · exact h.putFields
  · exact h.writePower
  · exact Calm.ite h.writeCore h
  · exact h.writePci
  · exact h.writePci
  · exact h.writeTrace
  · exact h.writeTrace
  · exact h.writeBoot

theorem Calm.readWord {a : Nat} (h : Calm s₀ s) : Calm s₀ (State.readWord s a).2.2 := by
  unfold State.readWord
  refine .iteTrd (.iteTrd h.pathRead h) ?_
  split
  · exact h
  · refine .iteTrd h ?_
    split <;> exact h

theorem Calm.writeWord {ag : Agent} {a v mask : Nat} (h : Calm s₀ s) : Calm s₀ (State.writeWord s ag a v mask) := by
  unfold State.writeWord
  extract_lets +onlyGivenNames o1
  refine .ite ?_ ?_
  · exact Calm.ite h.pathWrite h
  · split
    · exact h
    · exact Calm.ite h (by split; exacts [h.regWrite, h])

theorem Calm.offAccess {c : Nat} (h : Calm s₀ s) : Calm s₀ (State.offAccess s c) := Calm.ite h h.raise

theorem Calm.readWindow {c off : Nat} (h : Calm s₀ s) : Calm s₀ (State.readWindow s c off).2.2 := by
  unfold State.readWindow
  split
  · exact h.offAccess
  · split
    · split <;> exact h
    · exact h
    · exact h.winRead

theorem Calm.writeWindow {ag : Agent} {c off v mask : Nat} (h : Calm s₀ s) : Calm s₀ (State.writeWindow s ag c off v mask) := by
  unfold State.writeWindow
  exact Calm.ite h.offAccess (by split; exacts [by split; exacts [h.regWrite, h], h.winWrite])

theorem execWindowRead_leads {c : PCell} {off : BitVec 18} (h : Calm s₀ s) : Leads s₀ (execWindowRead c off s) :=
  Leads.ite (.next h.offAccess.emit) (.next h.readWindow.emit)

theorem execWindowWrite_leads {c : PCell} {off : BitVec 18} {v : Word} (h : Calm s₀ s) : Leads s₀ (execWindowWrite c off v s) :=
  Leads.ite (.next h.offAccess) (.next h.writeWindow)

theorem Calm.badAccess {a : Nat} (h : Calm s₀ s) : Calm s₀ (State.badAccess s a) := Calm.ite h.offAccess h

theorem Calm.busRegWrite {ag : Agent} {a size v : Nat} (h : Calm s₀ s) : Calm s₀ (State.busRegWrite s ag a size v) := by
  unfold State.busRegWrite
  refine .ite h.badAccess ?_
  extract_lets +onlyGivenNames sh1 m2
  refine .ite ?_ ?_
  · exact h.writeWindow
  · exact h.writeWord

theorem Calm.busRegRead {a size : Nat} (h : Calm s₀ s) : Calm s₀ (State.busRegRead s a size).2.2 := by
  unfold State.busRegRead
  exact .iteTrd h.badAccess (Calm.iteTrd h.readWindow h.readWord)

theorem Calm.memWrite {ag : Agent} {a : Nat} {l : List Byte} (h : Calm s₀ s) : Calm s₀ (State.memWrite s ag a l) :=
  Calm.ite h.hbmWrite (h.keeps (State.portWrite_keeps ..))

theorem Calm.busRead {a size : Nat} {own : Bool} (h : Calm s₀ s) : Calm s₀ (State.busRead s a size own).2.2 := by
  unfold State.busRead
  split
  · exact h
  · exact h.busRegRead
  · exact h.busRegRead
  · exact h.busRegRead
  · exact h
  · exact h
  · exact h

theorem Calm.busWrite {ag : Agent} {a size v : Nat} (h : Calm s₀ s) : Calm s₀ (State.busWrite s ag a size v).2 := by
  unfold State.busWrite
  split
  · exact h
  · exact h
  · exact h.busRegWrite
  · exact h.busRegWrite
  · exact h.busRegWrite
  · exact Calm.ite h.memWrite h

theorem execRegisterWrite_leads {a : Agent} {addr : BitVec 46} {wide : Bool} {v : Word} (h :
    Calm s₀ s) : Leads s₀ (execRegisterWrite a addr wide v s) := by
  unfold execRegisterWrite
  exact .next (by split; exacts [h.busRegWrite, h.busRegWrite, h.busRegWrite, h])

/-! ### Sys2Proof/Machine/Access.lean -/

theorem Calm.pciBusErr {a : Nat} {write : Bool} (h : Calm s₀ s) : Calm s₀ (State.pciBusErr s a write) := by
  unfold State.pciBusErr
  extract_lets +onlyGivenNames _ s1 s2
  have h1 : Calm s₀ s1 := h.frame
  have h2 : Calm s₀ s2 := h1.raise.pciLevel
  exact Calm.ite h2 h2.set.set.raise

theorem Calm.msixWrite {k v mask : Nat} (h : Calm s₀ s) : Calm s₀ (State.msixWrite s k v mask) := h.frame.keeps (State.msixFlush_keeps ..)

theorem Calm.bar0Read {o n : Nat} (h : Calm s₀ s) : Calm s₀ (State.bar0Read s o n).2.2 := by
  unfold State.bar0Read
  extract_lets +onlyGivenNames sh1
  split
  · exact h.busRead
  · exact h.busRead
  · exact h
  · exact h
  · exact h

theorem Calm.bar0Write {o n v : Nat} (h : Calm s₀ s) : Calm s₀ (State.bar0Write s o n v).2 := by
  unfold State.bar0Write
  split
  · exact h.busWrite
  · exact h.busWrite
  · exact h.msixWrite
  · exact h
  · exact h

theorem Calm.readParts {rd : State → Nat → Nat → Nat × Option Nat × State} {l : List (Nat × Nat × Nat)} (h : Calm s₀ s)
    (hrd : ∀ {u} {y1 y2}, Calm s₀ u → Calm s₀ (rd u y1 y2).2.2) : Calm s₀ (State.readParts rd s l).2.2 := by
  induction l generalizing s with
  | nil => exact h
  | cons p t ih => exact ih (hrd h)

theorem Calm.writeParts {wr : State → Nat → Nat → Nat → Option Nat × State} {v : Nat} {l : List (Nat × Nat × Nat)} (h : Calm s₀ s)
    (hwr : ∀ {u} {y1 y2 y3}, Calm s₀ u → Calm s₀ (wr u y1 y2 y3).2) : Calm s₀ (State.writeParts wr v s l).2 := by
  induction l generalizing s with
  | nil => exact h
  | cons p t ih => exact ih (hwr h)

theorem Calm.complete {v : Nat} {e : Option Nat} (h : Calm s₀ s) : Calm s₀ (State.complete s v e) := by
  unfold State.complete
  split
  · exact h.emit
  · exact h.pciBusErr.emit

theorem Calm.tlp {rd : State → Nat → Nat → Nat × Option Nat × State} {wr : State → Nat → Nat → Nat → Option Nat × State}
    {o len : Nat} {data : Option (List Byte)} (h : Calm s₀ s) (hrd : ∀ {u} {y1 y2}, Calm s₀ u → Calm s₀ (rd u y1 y2).2.2)
    (hwr : ∀ {u} {y1 y2 y3}, Calm s₀ u → Calm s₀ (wr u y1 y2 y3).2) : Calm s₀ (State.tlp s rd wr o len data) := by
  cases data with
  | none => exact (h.readParts (rd := rd) hrd).complete
  | some l =>
    have hw := Calm.writeParts (wr := wr) (v := ofLe (l.map (·.toNat))) (l := tlpParts l.length 0 o l.length) h hwr
    unfold State.tlp
    dsimp only
    split
    · exact hw
    · exact hw.pciBusErr

theorem Calm.tlpErr {a len : Nat} {data : Option (List Byte)} {err : HbmRead} {more : LineErrs} {go : State → State} (h :
    Calm s₀ s) (hgo : ∀ {u}, Calm s₀ u → Calm s₀ (go u)) :
    Calm s₀ (State.tlpErr s a len data err more go) := by
  unfold State.tlpErr
  split
  · exact hgo h
  · exact Calm.ite h.readErrs.complete (hgo h.readErrs)

theorem Calm.tlpTaken {data : Option (List Byte)} {ecrc : Bool} (h : Calm s₀ s) : Calm s₀ (State.tlpTaken s data ecrc).1 := by
  unfold State.tlpTaken
  extract_lets +onlyGivenNames long1
  split
  · exact h.frame
  · split
    · exact h.frame
    · exact h

theorem Calm.bar0Tlp {o len : Nat} {data : Option (List Byte)} {err : HbmRead} {more : LineErrs} (h : Calm s₀ s) :
    Calm s₀ (State.bar0Tlp s o len data err more) := by
  unfold State.bar0Tlp
  split
  · exact Calm.ite h.frame (h.tlpErr (fun h => h.tlp (fun h => h.bar0Read) (fun h => h.bar0Write)))
  · exact h.tlp (fun h => h.bar0Read) (fun h => h.bar0Write)

theorem Calm.hostConfig {w : ConfigWrite} (h : Calm s₀ s) : Calm s₀ (State.hostConfig s w) := h.configWrite.keeps (State.msixFlushAll_keeps ..)

theorem execBar0Access_leads {off : BitVec 26} {len : BitVec 13} {data : Option
    (List Byte)} {err : HbmRead} {cfg : Option ConfigWrite} {more : LineErrs} {ecrc : Bool} (h :
    Calm s₀ s) : Leads s₀ (execBar0Access off len data s err cfg more ecrc) := by
  unfold execBar0Access
  split
  · exact Leads.ite (.next h.hostConfig) (.next h)
  · exact Leads.ite (.next (Calm.ite h.tlpTaken.bar0Tlp h.tlpTaken)) (.next h)

theorem Calm.bar2Read {a n : Nat} (h : Calm s₀ s) : Calm s₀ (State.bar2Read s a n).2.2 := by
  unfold State.bar2Read
  split
  · exact h.busRead
  · exact h

theorem Calm.bar2Write {a n v : Nat} (h : Calm s₀ s) : Calm s₀ (State.bar2Write s a n v).2 := by
  unfold State.bar2Write
  split
  · exact h.busWrite
  · exact h

theorem execBar2Access_leads {off : BitVec 36} {len : BitVec 13} {data : Option (List Byte)} {err : HbmRead} {more : LineErrs} {ecrc : Bool} (h :
    Calm s₀ s) : Leads s₀ (execBar2Access off len data s err more ecrc) :=
  Leads.ite (.next (Calm.ite (h.tlpTaken.tlpErr (fun h => h.tlp (fun h => h.bar2Read) (fun h => h.bar2Write))) h.tlpTaken)) (.next h)

theorem Calm.maccRead {a : Nat} {err : HbmRead} (h : Calm s₀ s) : Calm s₀ (State.maccRead s a err) := (h.keeps (State.readErr_keeps ..)).busRead.frame

theorem execMemacc_leads {addr : BitVec 46} {write go : Bool} {data : Word} {err : HbmRead} (h :
    Calm s₀ s) : Leads s₀ (execMemacc addr write go data s err) := by
  unfold execMemacc
  extract_lets +onlyGivenNames a1 s2
  have h2 : Calm s₀ s2 := h.tapScan
  exact .ite (.next h2) (.ite (.next h2.frame) (.ite (.next h2.frame) (.ite (.next h2.busWrite.frame) (Leads.ite (.next h2.frame)
    (.next h2.maccRead)))))

theorem Calm.flashGoesOn (h : Calm s₀ s) : Calm s₀ (State.flashGoesOn s) := by
  unfold State.flashGoesOn
  extract_lets +onlyGivenNames l1 m2 f3 s3 s4 s5
  have h3 : Calm s₀ s3 := h.frame
  have h4 : Calm s₀ s4 := Calm.ite (Calm.foldl (fun _ _ h => h.bar0Tlp) h3) h3
  have h5 : Calm s₀ s5 := by
    unfold s5
    cases m2 with
    | none => exact h4
    | some a => exact h4.maccRead
  exact h5.resumeApply

theorem execFlashCommandDone_leads {ok : Bool} {err : HbmRead} {more : LineErrs} (h : Calm s₀ s) : Leads s₀ (execFlashCommandDone ok s err more) := by
  unfold execFlashCommandDone
  refine .ite (.next h) ?_
  split
  rename_i u e heq
  have hu : Calm s₀ u := .of_eq (·.1) heq (.iteFst h.readErrs h)
  exact .next hu.flashEnd.flashGoesOn

/-! ### Sys2Proof/Machine/CapoMem.lean -/

theorem Calm.performStore {n : Nat} {e : StoreEnt} (h : Calm s₀ s) : Calm s₀ (State.performStore s n e) := by
  unfold State.performStore
  split
  · rename_i x11 x12 e
    have hs : Calm s₀ x12 := Calm.of_eq (·.2) e h.busWrite
    extract_lets +onlyGivenNames x2
    refine .ite (Calm.ite hs hs.setCore) ?_
    exact Calm.ite hs.setCore hs

theorem Calm.drainOne {n : Nat} (h : Calm s₀ s) : Calm s₀ (State.drainOne s n) := by
  unfold State.drainOne
  split
  · exact h
  · exact h.setCore.performStore

theorem Calm.drainK {n k : Nat} (h : Calm s₀ s) : Calm s₀ (State.drainK s n k) := by
  induction k generalizing s with
  | zero => exact h
  | succ k ih => exact ih h.drainOne

theorem Calm.drainAll {n : Nat} (h : Calm s₀ s) : Calm s₀ (State.drainAll s n) := h.drainK

theorem Calm.drainTouching {n pa size : Nat} (h : Calm s₀ s) : Calm s₀ (State.drainTouching s n pa size) := h.drainK

theorem Calm.pushStore {n : Nat} {e : StoreEnt} (h : Calm s₀ s) : Calm s₀ (State.pushStore s n e) := by
  unfold State.pushStore
  refine .ite h.drainAll.performStore ?_
  extract_lets +onlyGivenNames s1
  have h1 : Calm s₀ s1 := Calm.ite h.drainOne h
  exact h1.setCore

theorem Calm.lsramError {n a : Nat} (h : Calm s₀ s) : Calm s₀ (State.lsramError s n a).1 := by
  unfold State.lsramError
  split
  · exact h
  · exact h.perr

theorem Calm.mmuFault {α : Type} {n va cause level : Nat} {acc : MemAcc} {user : Bool} (h : Calm s₀ s) :
    Calm s₀ (State.mmuFault (α := α) s n va cause level acc user).1 :=
  h.set.set.set.set.set.set.raise

theorem Calm.fillL1 {n : Nat} {e : TlbEnt} (h : Calm s₀ s) : Calm s₀ (State.fillL1 s n e) := Calm.ite h.setCore h.fresh.setCore

theorem Calm.fillL2 {n : Nat} {e : TlbEnt} (h : Calm s₀ s) : Calm s₀ (State.fillL2 s n e) := h.setCore

theorem Calm.walkFault {α : Type} {n va cause level da : Nat} {acc : MemAcc} {user : Bool} (h : Calm s₀ s) :
    Calm s₀ (State.walkFault (α := α) s n va cause level da acc user).1 :=
  h.set.fault.mmuFault

theorem Calm.readDesc {n da level : Nat} {err : MemErr} (h : Calm s₀ s) : Calm s₀ (State.readDesc s n da level err).1 := by
  unfold State.readDesc
  extract_lets +onlyGivenNames s1 r2 hit3
  have h1 : Calm s₀ s1 := h.drainTouching
  split
  · exact .iteFst h1.hbmTouch h1.hbmTouch.busRead
  · exact .iteFst h1.lsramError h1.busRead

theorem Calm.walk {n va level base : Nat} {acc : MemAcc} {user : Bool} {err : MemErr} {fuel : Nat} (h : Calm s₀ s) :
    Calm s₀ (State.walk s n va level base acc user err fuel).1 := by
  induction fuel generalizing s level base with
  | zero => exact h.mmuFault
  | succ fuel ih =>
    rw [State.walk]
    extract_lets +onlyGivenNames da
    refine .iteRun h.walkFault (.iteRun h ?_)
    split
    case h_1 u heq =>
      have hu : Calm s₀ u := .of_eq (·.1) heq h.readDesc
      exact hu.walkFault
    case h_2 u d heq =>
      have hu : Calm s₀ u := .of_eq (·.1) heq h.readDesc
      exact .iteRun hu.mmuFault (.iteRun (.iteRun hu.mmuFault (ih hu)) (.iteRun hu.mmuFault (.iteRun hu.mmuFault hu)))

theorem Calm.useEntry {n va level : Nat} {e : TlbEnt} {acc : MemAcc} {user : Bool} (h : Calm s₀ s) :
    Calm s₀ (State.useEntry s n va level e acc user).1 := by
  unfold State.useEntry
  extract_lets +onlyGivenNames k1 pa2 ty3 ok4
  split <;> exact by split; exacts [h.mmuFault, h]

theorem Calm.tlbUpset {n vpn asid : Nat} {err : MemErr} (h : Calm s₀ s) : Calm s₀ (State.tlbUpset s n vpn asid err) := by
  unfold State.tlbUpset
  extract_lets +onlyGivenNames x1
  split
  · exact h.setCore
  · exact h.setCore
  · exact h

theorem Calm.translateAs {n va : Nat} {acc : MemAcc} {user : Bool} {err : MemErr} (h : Calm s₀ s) :
    Calm s₀ (State.translateAs s n va acc user err).1 := by
  unfold State.translateAs
  refine .iteRun (.iteRun h.mmuFault (.iteRun h.mmuFault h)) (.iteRun h.mmuFault ?_)
  extract_lets +onlyGivenNames vpn asid
  split
  · exact (Calm.ite h h.raise).useEntry
  · extract_lets +onlyGivenNames s1
    have h1 : Calm s₀ s1 := h.tlbUpset
    split
    · exact h1.useEntry
    · extract_lets +onlyGivenNames s2
      have h2 : Calm s₀ s2 := h1.bump
      split
      · exact h2.setCore.fillL1.useEntry
      · exact Calm.andThen h2.bump.bump.walk fun _ h => Calm.andThen h.useEntry fun _ h => h.fillL2.fillL1

theorem Calm.specDesc {n da level : Nat} {err : MemErr} (h : Calm s₀ s) : Calm s₀ (State.specDesc s n da level err).1 := by
  unfold State.specDesc
  extract_lets +onlyGivenNames s1 r2 hit3
  have h1 : Calm s₀ s1 := h.drainTouching
  split
  · exact .iteFst h1.hbmTouch h1.hbmTouch
  · exact .iteFst h1 h1

theorem Calm.specLevels {n va level base : Nat} {err : MemErr} {fuel : Nat} (h : Calm s₀ s) :
    Calm s₀ (State.specLevels s n va level base err fuel).1 := by
  induction fuel generalizing s level base with
  | zero => exact h
  | succ fuel ih =>
    rw [State.specLevels]
    extract_lets +onlyGivenNames da
    refine .iteFst h ?_
    split
    case h_1 u heq =>
      have hu : Calm s₀ u := .of_eq (·.1) heq h.specDesc
      exact hu.raise
    case h_2 u d heq =>
      have hu : Calm s₀ u := .of_eq (·.1) heq h.specDesc
      exact .iteFst hu (.iteFst (.iteFst hu (ih hu)) (.iteFst hu hu))

theorem Calm.specWalk {n : Nat} {w : SpecWalk} (h : Calm s₀ s) : Calm s₀ (State.specWalk s n w) := by
  unfold State.specWalk
  extract_lets +onlyGivenNames va1 acc2 vpn3 asid4 fits5
  refine .ite h ?_
  refine .ite h ?_
  extract_lets +onlyGivenNames s6
  have h6 : Calm s₀ s6 := h.bump
  split
  · exact Calm.ite h6.fillL1 h6
  · extract_lets +onlyGivenNames s8
    have h8 : Calm s₀ s8 := h6.bump.bump
    split
    · rename_i x91 e
      have hs : Calm s₀ x91 := Calm.of_eq (·.1) e h8.specLevels
      exact hs
    · rename_i x91 x92 e
      have hs : Calm s₀ x91 := Calm.of_eq (·.1) e h8.specLevels
      exact Calm.ite hs.fillL2.fillL1 hs

theorem Calm.translate {n va : Nat} {acc : MemAcc} {err : MemErr} (h : Calm s₀ s) : Calm s₀ (State.translate s n va acc err).1 := h.translateAs

theorem Calm.detRule {n va size : Nat} {write : Bool} (h : Calm s₀ s) : Calm s₀ (State.detRule s n va size write).1 := by
  unfold State.detRule
  split
  · exact h
  · split
    · exact h
    · exact h.setCore

theorem Calm.preAccess {n va size : Nat} {write : Bool} (h : Calm s₀ s) : Calm s₀ (State.preAccess s n va size write).1 := by
  unfold State.preAccess
  exact Calm.andThen h.detRule (fun _ h => by split <;> exact h)

theorem Calm.readBytes {n va pa size : Nat} {err : MemErr} (h : Calm s₀ s) : Calm s₀ (State.readBytes s n va pa size err).1 := by
  unfold State.readBytes
  refine .iteRun h ?_
  extract_lets +onlyGivenNames stop parity
  refine .iteRun h (.iteRun h ?_)
  clear_value parity
  split
  case h_1 u code heq => exact .of_eq (·.1) heq (.iteFst h.lsramError h)
  case h_2 u heq =>
    have hu : Calm s₀ u := .of_eq (·.1) heq (.iteFst h.lsramError h)
    split
    · exact hu.hbmTouch
    · exact hu
    · exact hu

theorem Calm.fillD {n line : Nat} {l : List Byte} (h : Calm s₀ s) : Calm s₀ (State.fillD s n line l) := by
  unfold State.fillD
  extract_lets +onlyGivenNames x1 same2
  refine .ite h.setCore ?_
  dsimp only
  split
  · exact h.fresh.setCore
  · exact h.fresh

theorem Calm.loadPa {n va pa size ty : Nat} {err : MemErr} (h : Calm s₀ s) : Calm s₀ (State.loadPa s n va pa size ty err).1 := by
  unfold State.loadPa
  refine .iteRun ?_ ?_
  · extract_lets +onlyGivenNames s1
    have h1 : Calm s₀ s1 := h.drainAll
    exact .iteRun (.iteRun h1.busRead h1.busRead) (Calm.andThen h1.readBytes fun _ h => h)
  · split
    · exact .iteRun h (Calm.andThen h.drainTouching.readBytes fun _ h => h)
    · refine .iteRun (Calm.andThen h.readBytes fun _ h => h) ?_
      extract_lets +onlyGivenNames line1 bad2 x3 s3
      have h3 : Calm s₀ s3 := Calm.ite h.setCore.perr h
      split
      · exact h3
      · exact Calm.andThen (f := fun s l => (s.fillD n line1 l, .ok (lineValue l pa size))) h3.bump.readBytes fun _ h => h.fillD

theorem Calm.load {n va size : Nat} {err : MemErr} (h : Calm s₀ s) : Calm s₀ (State.load s n va size err).1 :=
  Calm.andThen h.preAccess (fun _ h => Calm.andThen h.translate (fun _ h => h.loadPa))

theorem Calm.storeCheck {n va size v : Nat} {err : MemErr} (h : Calm s₀ s) : Calm s₀ (State.storeCheck s n va size v err).1 :=
  Calm.andThen h.preAccess (fun _ h => Calm.andThen h.translate (fun _ h => h))

theorem Calm.fetchLine {n va line : Nat} {err : MemErr} (h : Calm s₀ s) : Calm s₀ (State.fetchLine s n va line err).1 := by
  unfold State.fetchLine
  extract_lets +onlyGivenNames bad1 x2 s2
  have h2 : Calm s₀ s2 := Calm.ite h.setCore.perr h
  clear_value s2
  refine .iteRun h2 ?_
  refine Calm.andThen h2.bump.readBytes fun _ h => ?_
  exact .iteRun h.setCore h.fresh.setCore

theorem Calm.fetchPart {n va len : Nat} {err : MemErr} (h : Calm s₀ s) : Calm s₀ (State.fetchPart s n va len err).1 := by
  unfold State.fetchPart
  exact Calm.andThen h.translate (fun _ h => Calm.andThen h.detRule (fun _ h => by split; exacts [Calm.andThen h.readBytes (fun _ h => h), Calm.andThen h.fetchLine (fun _ h => by split; exacts [h, h.fetchLine])]))

theorem Calm.asFetch {α : Type} {r : Run α} (h : Calm s₀ r.1) : Calm s₀ (Machine.asFetch r).1 := by
  unfold Machine.asFetch
  split
  · exact h
  · exact h

theorem Calm.fetchOdd {n pc : Nat} {err : MemErr} (h : Calm s₀ s) : Calm s₀ (State.fetchOdd s n pc err).1 :=
  .asFetch (.iteRun h (Calm.andThen h.translate fun _ h => Calm.andThen h.detRule fun _ h => h))

theorem Calm.fetchAhead {n pc len : Nat} {err : MemErr} (h : Calm s₀ s) : Calm s₀ (State.fetchAhead s n pc len err).1 :=
  .asFetch (.iteRun h (Calm.andThen h.translate fun _ h => .iteRun h (Calm.andThen h.translate fun _ h => h)))

theorem Calm.fetch {n pc len : Nat} {err : MemErr} (h : Calm s₀ s) : Calm s₀ (State.fetch s n pc len err).1 :=
  .asFetch (.iteRun h (.iteRun h.fetchPart (Calm.andThen h.fetchPart fun _ h => h.fetchPart)))

/-! ### Sys2Proof/Machine/Capo.lean -/

theorem Calm.capoStop {n fa : Nat} (h : Calm s₀ s) : Calm s₀ (State.capoStop s n fa) := by
  unfold State.capoStop
  extract_lets +onlyGivenNames s1 _ s2 s3 s4
  have h1 : Calm s₀ s1 := h.raise
  have h2 : Calm s₀ s2 := h1.setCore
  have h3 : Calm s₀ s3 := h2.frame
  have h4 : Calm s₀ s4 := h3.fault
  exact h4.coreFaultLevel.coreReady

theorem Calm.frameStores {n fa : Nat} {fe : FrameErr} {k : Nat} {l : List Nat} (h : Calm s₀ s) :
    Calm s₀ (State.frameStores s n fa fe k l).1 := by
  induction l generalizing s fa k with
  | nil => exact h
  | cons v t ih => exact Calm.andThen h.translateAs fun _ h => .iteRun h (Calm.andThen (ih h) fun _ h => h)

theorem Calm.openCount {f : Field} {n : Nat} (h : Calm s₀ s) : Calm s₀ (State.openCount s f n) := h.fresh.bump

theorem Calm.spend {n k : Nat} (h : Calm s₀ s) : Calm s₀ (State.spend s n k) := Calm.ite h.bump h.openCount

theorem Calm.stackFrame {n pc st code cyc : Nat} {fe : FrameErr} (h : Calm s₀ s) : Calm s₀ (State.stackFrame s n pc st code cyc fe).1 := by
  unfold State.stackFrame
  extract_lets +onlyGivenNames x1 s2 fa3
  have h2 : Calm s₀ s2 := h.setCore
  split
  · rename_i x41 x42 e
    have hs : Calm s₀ x41 := Calm.of_eq (·.1) e h2.frameStores
    exact hs.capoStop
  · rename_i x41 x42 e
    have hs : Calm s₀ x41 := Calm.of_eq (·.1) e h2.frameStores
    extract_lets +onlyGivenNames s5 y6
    have h5 : Calm s₀ s5 := (Calm.foldl (fun _ _ h => h.pushStore) hs).spend
    exact h5.setCore

theorem Calm.takeExc {n : Nat} {e : Exc} {second : Bool} {len : Nat} {fe : FrameErr} (h : Calm s₀ s) :
    Calm s₀ (State.takeExc s n e second len fe) := by
  unfold State.takeExc
  extract_lets +onlyGivenNames x1
  refine .ite h.setCore ?_
  extract_lets +onlyGivenNames s2 s3 s4 s5 pc6 s7
  have h2 : Calm s₀ s2 := h.set.set.set.set.set
  have h3 : Calm s₀ s3 := by
    unfold s3
    split
    · exact h2.set
    · exact h2
  have h4 : Calm s₀ s4 := Calm.ite h3.set h3
  have h5 : Calm s₀ s5 := Calm.ite h4.fault h4
  have h7 : Calm s₀ s7 := h5.stackFrame.keeps (State.boundaryHalt_keeps ..)
  exact h7.frame

theorem Calm.rsOp {n : Nat} {o : Option Nat} (h : Calm s₀ s) : Calm s₀ (State.rsOp s n o) := by
  unfold State.rsOp
  extract_lets +onlyGivenNames x1
  split
  · exact h.setCore
  · extract_lets +onlyGivenNames s3
    have h3 : Calm s₀ s3 := Calm.ite h.raise h
    exact h3.setCore

theorem Calm.invalidate {n k a x : Nat} (h : Calm s₀ s) : Calm s₀ (State.invalidate s n k a x) := by
  unfold State.invalidate
  extract_lets +onlyGivenNames s1
  have h1 : Calm s₀ s1 := h.drainAll
  refine .ite (h1.keeps (State.applyInval_keeps ..)) ?_
  extract_lets +onlyGivenNames live2 c3 id4 s5 s6
  have h5 : Calm s₀ s5 := h1.setCore
  have h6 : Calm s₀ s6 := Calm.foldl (fun _ _ h => h.setCore) h5
  exact h6.set.raise

theorem Calm.dropLine {n which line : Nat} (h : Calm s₀ s) : Calm s₀ (State.dropLine s n which line) := by
  unfold State.dropLine
  extract_lets +onlyGivenNames x1
  split
  · exact h.setCore
  · exact h.setCore
  · exact h

theorem Calm.countGroup {n : Nat} {e : Eff} {ctl : Bool} (h : Calm s₀ s) : Calm s₀ (State.countGroup s n e ctl) := by
  unfold State.countGroup
  extract_lets +onlyGivenNames s1
  have h1 : Calm s₀ s1 := h.bump
  refine .ite h1.bump ?_
  extract_lets +onlyGivenNames s2
  have h2 : Calm s₀ s2 := h1.openCount
  exact Calm.ite (Calm.foldl (fun _ _ h => h.openCount) h2) h2

theorem Calm.btbFill {n pc target : Nat} (h : Calm s₀ s) : Calm s₀ (State.btbFill s n pc target) :=
  .ite h.setCore h.fresh.setCore

theorem Calm.predict {n : Nat} {i : Info} {taken : Bool} {target : Nat} (h : Calm s₀ s) : Calm s₀ (State.predict s n i taken target) := by
  unfold State.predict
  refine .ite h ?_
  extract_lets +onlyGivenNames x1 k2 c3 s4
  have h4 : Calm s₀ s4 := Calm.ite h.setCore h
  exact Calm.ite h4.btbFill h4

theorem Calm.cvuUsed {n : Nat} (h : Calm s₀ s) : Calm s₀ (State.cvuUsed s n) := h.raise.setCore

theorem Calm.commit {n len : Nat} {e : Eff} {i : Info} {post : State → State} (h : Calm s₀ s) (hpost : ∀ {u}, Calm s₀ u → Calm s₀ (post u)) :
    Calm s₀ (State.commit s n len e i post) := by
  unfold State.commit
  extract_lets +onlyGivenNames s1 x2 next3 y4 y5 s6 s7 s8 s9 s10 s11 s12 s13 _ s14
  have h1 : Calm s₀ s1 := h.predict
  have h6 : Calm s₀ s6 := Calm.foldl (fun _ _ h => h.pushStore) h1.setCore
  have h7 : Calm s₀ s7 := Calm.foldl (fun _ _ h => h.rsOp) h6
  have h8 : Calm s₀ s8 := by
    unfold s8
    split
    · exact h7.set
    · exact h7
  have h9 : Calm s₀ s9 := Calm.ite h8.cvuUsed h8
  have h10 : Calm s₀ s10 := h9.dropLine
  have h11 : Calm s₀ s11 := Calm.foldl (fun _ _ h => h.invalidate) h10
  have h12 : Calm s₀ s12 := by
    unfold s12
    split
    · exact (h11.keeps (State.evClaim_keeps ..)).raise
    · exact h11
  have h13 : Calm s₀ s13 := (hpost h12).countGroup
  have h14 : Calm s₀ s14 := h13.setCore.keeps (State.boundaryHalt_keeps ..)
  exact h14.frame

theorem Calm.performVec {n : Nat} {bus : Option Nat} {l : List (Nat × StoreEnt)} (h : Calm s₀ s) :
    Calm s₀ (State.performVec s n bus l).1 := by
  induction l generalizing s with
  | nil => exact h
  | cons p t ih =>
    have hp : Calm s₀ ((s.setCore n { s.core n with serr := none }).performStore n p.2) := h.setCore.performStore
    exact .iteFst h (.iteFst hp.setCore (ih hp.setCore))

theorem Calm.cvuFault {n elem cause : Nat} {write : Bool} (h : Calm s₀ s) : Calm s₀ (State.cvuFault s n elem cause write) := h.set.set.set.raise

theorem Calm.finish {n len : Nat} {second : Bool} {e : Eff} {i : Info} {post : State → State} {fe : FrameErr} (h : Calm s₀ s)
    (hpost : ∀ {u}, Calm s₀ u → Calm s₀ (post u)) : Calm s₀ (State.finish s n len second e i post fe) := by
  unfold State.finish
  refine .ite (h.commit hpost) (.ite h.setCore ?_)
  split
  case h_1 u heq =>
    have hu : Calm s₀ u := .of_eq (·.1) heq h.drainAll.performVec
    exact hu.commit hpost
  case h_2 u k va heq =>
    have hu : Calm s₀ u := .of_eq (·.1) heq h.drainAll.performVec
    exact hu.cvuFault.takeExc

theorem Calm.annulled {n len : Nat} {pair : Bool} (h : Calm s₀ s) : Calm s₀ (State.annulled s n len pair) := by
  unfold State.annulled
  extract_lets +onlyGivenNames x1 s2 s3
  have h2 : Calm s₀ s2 := h.setCore
  have h3 : Calm s₀ s3 := Calm.ite (Calm.ite h2 h2.bump) h2.openCount
  exact Calm.ite h3 (h3.keeps (State.boundaryHalt_keeps ..))

theorem Calm.stopUnless {α β : Type} {code : Nat} {access : State → Run α} (h : Calm s₀ s)
    (haccess : ∀ {u}, Calm s₀ u → Calm s₀ (access u).1) : Calm s₀ (State.stopUnless (β := β) s code access).1 := by
  unfold State.stopUnless
  split
  case h_1 t e heq =>
    have ht : Calm s₀ t := Calm.of_eq (·.1) heq (haccess h)
    exact .iteRun ht h
  · exact h

theorem Calm.illegal {n : Nat} {g : Slot} {i : Info} {eval : State → Run Eff} (h : Calm s₀ s) (heval : ∀ {u}, Calm s₀ u → Calm s₀ (eval u).1) :
    Calm s₀ (State.illegal s n g i eval).1 := by
  unfold State.illegal
  split
  · exact h
  · exact h.stopUnless heval

theorem Calm.beforeGroup {n : Nat} {fe : FrameErr} {t : State} (h : Calm s₀ s) (ht : State.beforeGroup s n fe = some t) : Calm s₀ t := by
  unfold State.beforeGroup at ht
  extract_lets x at ht
  have hhalt {c : Nat} : Calm s₀ (s.haltCore n c) := h.keeps (State.haltCore_keeps ..)
  split at ht
  case isTrue => cases ht
  split at ht
  case isTrue => cases ht; exact hhalt
  split at ht
  case h_1 => cases ht; exact .ite h h.setCore.takeExc
  case h_2 =>
    split at ht
    · cases ht; exact hhalt
    · cases ht

theorem Calm.issue {n : Nat} {g : Slot} {i : Info} {eval : State → Run Eff} {post : State → State} (h : Calm s₀ s)
    (heval : ∀ {u}, Calm s₀ u → Calm s₀ (eval u).1) (hpost : ∀ {u}, Calm s₀ u → Calm s₀ (post u)) :
    Calm s₀ (State.issue s n g i eval post) := by
  unfold State.issue
  refine .ite h ?_
  cases hb : s.beforeGroup n g.stack with
  | some t => exact Calm.beforeGroup h hb
  | none =>
    extract_lets +onlyGivenNames u x
    have hu : Calm s₀ u := by
      unfold u
      cases g.spec with
      | some w => exact h.specWalk
      | none => exact h
    refine .ite hu.annulled ?_
    extract_lets +onlyGivenNames before second
    refine .ite (hu.keeps (State.haltCore_keeps ..)) ?_
    extract_lets +onlyGivenNames own both later r
    have hown : Calm s₀ own.1 := .iteRun hu.fetchOdd hu.fetch
    have hboth : Calm s₀ both.1 := Calm.andThen hown fun _ h => .iteRun h.fetchAhead h
    have hr : Calm s₀ r.1 := Calm.andThen hboth fun _ h => .iteRun (h.illegal heval) (heval h)
    clear_value r
    split
    case h_1 => exact hu.setCore
    case h_2 => exact hr.takeExc
    case h_3 => exact .ite hr.setCore (hr.finish hpost)

theorem capo_leads {n : Core} {g : Slot} {i : Info} {eval : State → Run Eff} {post : State → State} (h :
    Calm s₀ s) (heval : ∀ {u}, Calm s₀ u → Calm s₀ (eval u).1) (hpost : ∀ {u}, Calm s₀ u → Calm s₀ (post u)) :
      Leads s₀ (State.capo s n g i eval post) :=
  .next (h.issue heval hpost)

/-! ### Sys2Proof/Machine/CapoInstr.lean -/

theorem Calm.stop {α : Type} {code : Nat} (h : Calm s₀ s) : Calm s₀ (Machine.stop (α := α) s code).1 := h

theorem Calm.privileged {α : Type} {n : Nat} {f : State → Run α} (h : Calm s₀ s) (hf : ∀ {u}, Calm s₀ u → Calm s₀ (f u).1) :
    Calm s₀ (State.privileged s n f).1 := by
  unfold State.privileged
  split
  · exact h.stop
  · exact hf h

theorem Calm.ea {n : Nat} {o : MemOp} {g : Slot} (h : Calm s₀ s) : Calm s₀ (State.ea s n o g).1 := by
  unfold State.ea
  split
  · exact h.load
  · exact h

theorem Calm.operand {n : Nat} {o : MemOp} {size : Nat} {g : Slot} (h : Calm s₀ s) : Calm s₀ (State.operand s n o size g).1 := by
  unfold State.operand
  split
  · exact h
  · exact Calm.andThen h.ea (fun _ h => h.load)

theorem reads_leads {n : Core} {g : Slot} {o : MemOp} {imm : Bool} {size base : Nat} {f : CoreSt → Nat → Eff} (h :
    Calm s₀ s) : Leads s₀ (State.reads s n g o imm size base f) := by
  unfold State.reads
  exact capo_leads h (fun h => by split; exacts [h.stop, Calm.andThen h.operand (fun _ h => h)]) (fun h => h)

theorem stores_leads {n : Core} {g : Slot} {o : MemOp} {size : Nat} {f : CoreSt → Nat} (h : Calm s₀ s) : Leads s₀ (State.stores s n g o size f) := by
  unfold State.stores
  exact capo_leads h (fun h => by split; exacts [h.stop, Calm.andThen h.ea (fun _ h => Calm.andThen h.storeCheck (fun _ h => h))]) (fun h => h)

theorem alu_leads {n : Core} {g : Slot} {f : CoreSt → Eff} (h : Calm s₀ s) : Leads s₀ (State.alu s n g f) := capo_leads h (fun h => h) (fun h => h)

theorem execNop_leads {n : Core} {g : Slot} (h : Calm s₀ s) : Leads s₀ (execNop n g s) := alu_leads h

theorem execMovr_leads {n : Core} {g : Slot} {k : BitVec 6} (h : Calm s₀ s) : Leads s₀ (execMovr n g k s) := by
  unfold execMovr
  extract_lets +onlyGivenNames src1 d2
  exact capo_leads h (fun h => by split; exacts [h.stop, h]) (fun h => h)

theorem execExr_leads {n : Core} {g : Slot} {k : BitVec 6} (h : Calm s₀ s) : Leads s₀ (execExr n g k s) := by
  unfold execExr
  extract_lets +onlyGivenNames src1 d2
  exact capo_leads h (fun h => by split; exacts [h.stop, h]) (fun h => h)

theorem execIncDec_leads {n : Core} {g : Slot} {op : BitVec 2} (h : Calm s₀ s) : Leads s₀ (execIncDec n g op s) := by
  unfold execIncDec
  exact alu_leads h

theorem execNeg_leads {n : Core} {g : Slot} (h : Calm s₀ s) : Leads s₀ (execNeg n g s) := alu_leads h

theorem execNotA_leads {n : Core} {g : Slot} (h : Calm s₀ s) : Leads s₀ (execNotA n g s) := alu_leads h

theorem execClc_leads {n : Core} {g : Slot} (h : Calm s₀ s) : Leads s₀ (execClc n g s) := alu_leads h

theorem execSec_leads {n : Core} {g : Slot} (h : Calm s₀ s) : Leads s₀ (execSec n g s) := alu_leads h

theorem execShliShriSraiRoli_leads {n : Core} {g : Slot} {op : BitVec 2} {k : BitVec 6} (h :
    Calm s₀ s) : Leads s₀ (execShliShriSraiRoli n g op k s) :=
  alu_leads h

theorem execPopc_leads {n : Core} {g : Slot} (h : Calm s₀ s) : Leads s₀ (execPopc n g s) := alu_leads h

theorem execPushaPushxPushy_leads {n : Core} {g : Slot} {r : Fin 3} (h : Calm s₀ s) : Leads s₀ (execPushaPushxPushy n g r s) :=
  capo_leads h (fun h => Calm.andThen h.storeCheck (fun _ h => h)) (fun h => h)

theorem execPopaPopxPopy_leads {n : Core} {g : Slot} {r : Fin 3} (h : Calm s₀ s) : Leads s₀ (execPopaPopxPopy n g r s) :=
  capo_leads h (fun h => Calm.andThen h.load (fun _ h => h)) (fun h => h)

theorem execRet_leads {n : Core} {g : Slot} (h : Calm s₀ s) : Leads s₀ (execRet n g s) := by
  unfold execRet
  exact capo_leads h (fun h => by split; exacts [h.stop, h]) (fun h => h)

theorem execJmpx_leads {n : Core} {g : Slot} (h : Calm s₀ s) : Leads s₀ (execJmpx n g s) := capo_leads h (fun h => h) (fun h => h)

theorem execCallx_leads {n : Core} {g : Slot} {dlen : BitVec 3} (h : Calm s₀ s) : Leads s₀ (execCallx n g dlen s) := by
  unfold execCallx
  exact capo_leads h (fun h => by split; exacts [h.stop, h]) (fun h => h)

theorem execRspush_leads {n : Core} {g : Slot} (h : Calm s₀ s) : Leads s₀ (execRspush n g s) := by
  unfold execRspush
  exact capo_leads h (fun h => by split; exacts [h.stop, h]) (fun h => h)

theorem execRspop_leads {n : Core} {g : Slot} (h : Calm s₀ s) : Leads s₀ (execRspop n g s) := by
  unfold execRspop
  exact capo_leads h (fun h => by split; exacts [h.stop, h]) (fun h => h)

theorem execRscnt_leads {n : Core} {g : Slot} (h : Calm s₀ s) : Leads s₀ (execRscnt n g s) := alu_leads h

theorem execRsx_leads {n : Core} {g : Slot} (h : Calm s₀ s) : Leads s₀ (execRsx n g s) := alu_leads h

theorem Calm.preFrame {n : Nat} {l : List Nat} (h : Calm s₀ s) : Calm s₀ (State.preFrame s n l).1 := by
  induction l generalizing s with
  | nil => exact h
  | cons a t ih => exact Calm.andThen h.preAccess fun _ h => ih h

theorem Calm.frameAddrs {n : Nat} {g : Slot} {k : Nat} {l : List Nat} (h : Calm s₀ s) : Calm s₀ (State.frameAddrs s n g k l).1 := by
  induction l generalizing s k with
  | nil => exact h
  | cons a t ih => exact Calm.andThen h.translate fun _ h => Calm.andThen (ih h) fun _ h => h

theorem Calm.frameLoads {n : Nat} {g : Slot} {k : Nat} {l : List (Nat × Nat × Nat)} (h : Calm s₀ s) :
    Calm s₀ (State.frameLoads s n g k l).1 := by
  induction l generalizing s k with
  | nil => exact h
  | cons a t ih => exact Calm.andThen h.loadPa fun _ h => Calm.andThen (ih h) fun _ h => h

theorem Calm.readFrame {n : Nat} {l : List Nat} {g : Slot} (h : Calm s₀ s) : Calm s₀ (State.readFrame s n l g).1 := by
  unfold State.readFrame
  extract_lets +onlyGivenNames whole1 k2
  split
  · rename_i x31 x32 e
    have hs : Calm s₀ x31 := Calm.of_eq (·.1) e h.load
    split
    · exact hs
    · exact Calm.andThen h.preFrame (fun _ h => Calm.andThen h.frameAddrs (fun _ h => h.frameLoads))
  · exact Calm.andThen h.preFrame (fun _ h => Calm.andThen h.frameAddrs (fun _ h => h.frameLoads))

theorem execReti_leads {n : Core} {g : Slot} (h : Calm s₀ s) : Leads s₀ (execReti n g s) := by
  refine capo_leads h (fun {u} h => ?_) (fun h => h)
  refine .iteRun (h.stopUnless fun h => h.readFrame) (Calm.andThen h.readFrame fun l h => ?_)
  dsimp only
  split <;> exact h

theorem execSyncOp_leads {n : Core} {g : Slot} (h : Calm s₀ s) : Leads s₀ (execSyncOp n g s) := capo_leads h (fun h => h.drainAll) (fun h => h)

theorem execSynci_leads {n : Core} {g : Slot} (h : Calm s₀ s) : Leads s₀ (execSynci n g s) := capo_leads h (fun h => h.drainAll) (fun h => h.setCore)

theorem execWaitOp_leads {n : Core} {g : Slot} (h : Calm s₀ s) : Leads s₀ (execWaitOp n g s) :=
  capo_leads h (fun h => h.privileged (fun h => h)) (fun h => h.setCore)

theorem execSyscall_leads {n : Core} {g : Slot} {k : BitVec 6} (h : Calm s₀ s) : Leads s₀ (execSyscall n g k s) :=
  capo_leads h (fun h => h) (fun h => h)

theorem execBrk_leads {n : Core} {g : Slot} {k : BitVec 6} (h : Calm s₀ s) : Leads s₀ (execBrk n g k s) := capo_leads h (fun h => h) (fun h => h)

theorem execTlbinv_leads {n : Core} {g : Slot} {k : BitVec 6} (h : Calm s₀ s) : Leads s₀ (execTlbinv n g k s) := by
  unfold execTlbinv
  exact capo_leads h (fun h => by split; exacts [h.stop, h.privileged (fun h => by split <;> exact h)]) (fun h => h)

theorem execTlbsync_leads {n : Core} {g : Slot} (h : Calm s₀ s) : Leads s₀ (execTlbsync n g s) :=
  capo_leads h (fun h => h.privileged (fun h => h)) (fun h => Calm.ite h h.setCore)

theorem execDcinv_leads {n : Core} {g : Slot} (h : Calm s₀ s) : Leads s₀ (execDcinv n g s) :=
  capo_leads h (fun h => Calm.andThen h.detRule (fun _ h => h.privileged (fun h => Calm.andThen h.translate (fun _ h => h)))) (fun h => h)

theorem execIcinv_leads {n : Core} {g : Slot} (h : Calm s₀ s) : Leads s₀ (execIcinv n g s) :=
  capo_leads h (fun h => Calm.andThen h.detRule (fun _ h => Calm.andThen h.translate (fun _ h => h))) (fun h => h)

theorem execMfcr_leads {n : Core} {g : Slot} {k : BitVec 6} (h : Calm s₀ s) : Leads s₀ (execMfcr n g k s) := by
  unfold execMfcr
  exact capo_leads h (fun h => by split; exacts [h.stop, by split <;> exact h]) (fun h => h)

theorem execMtcr_leads {n : Core} {g : Slot} {k : BitVec 6} (h : Calm s₀ s) : Leads s₀ (execMtcr n g k s) := by
  unfold execMtcr
  extract_lets +onlyGivenNames v1
  exact capo_leads h (fun h => h.privileged (fun h => by split <;> exact h)) (fun h => by split; exacts [h.regWrite, h])

theorem execLda_leads {n : Core} {g : Slot} {o : MemOp} {size : BitVec 2} (h : Calm s₀ s) : Leads s₀ (execLda n g o size s) := reads_leads h

theorem execLdas_leads {n : Core} {g : Slot} {o : MemOp} {size : Fin 3} (h : Calm s₀ s) : Leads s₀ (execLdas n g o size s) := by
  unfold execLdas
  exact reads_leads h

theorem execLdxLdy_leads {n : Core} {g : Slot} {o : MemOp} {y : Bool} (h : Calm s₀ s) : Leads s₀ (execLdxLdy n g o y s) := reads_leads h

theorem execSta_leads {n : Core} {g : Slot} {o : MemOp} {size : BitVec 2} (h : Calm s₀ s) : Leads s₀ (execSta n g o size s) := stores_leads h

theorem execStxSty_leads {n : Core} {g : Slot} {o : MemOp} {y : Bool} (h : Calm s₀ s) : Leads s₀ (execStxSty n g o y s) := stores_leads h

theorem execLea_leads {n : Core} {g : Slot} {o : MemOp} (h : Calm s₀ s) : Leads s₀ (execLea n g o s) := by
  unfold execLea
  exact capo_leads h (fun h => by split; exacts [h.stop, Calm.andThen h.ea (fun _ h => h)]) (fun h => h)

theorem execAdd_leads {n : Core} {g : Slot} {o : MemOp} (h : Calm s₀ s) : Leads s₀ (execAdd n g o s) := reads_leads h

theorem execAdc_leads {n : Core} {g : Slot} {o : MemOp} (h : Calm s₀ s) : Leads s₀ (execAdc n g o s) := reads_leads h

theorem execSub_leads {n : Core} {g : Slot} {o : MemOp} (h : Calm s₀ s) : Leads s₀ (execSub n g o s) := reads_leads h

theorem execSbc_leads {n : Core} {g : Slot} {o : MemOp} (h : Calm s₀ s) : Leads s₀ (execSbc n g o s) := reads_leads h

theorem execAndOrXor_leads {n : Core} {g : Slot} {o : MemOp} {op : Fin 3} (h : Calm s₀ s) : Leads s₀ (execAndOrXor n g o op s) := reads_leads h

theorem execCmpCmpxCmpy_leads {n : Core} {g : Slot} {o : MemOp} {r : Fin 3} (h : Calm s₀ s) : Leads s₀ (execCmpCmpxCmpy n g o r s) := reads_leads h

theorem execMul_leads {n : Core} {g : Slot} {o : MemOp} (h : Calm s₀ s) : Leads s₀ (execMul n g o s) := reads_leads h

theorem execMulhuMulhs_leads {n : Core} {g : Slot} {o : MemOp} {signed : Bool} (h : Calm s₀ s) : Leads s₀ (execMulhuMulhs n g o signed s) :=
  reads_leads h

theorem execDivuRemuDivsRems_leads {n : Core} {g : Slot} {o : MemOp} {op : BitVec 2} (h : Calm s₀ s) : Leads s₀ (execDivuRemuDivsRems n g o op s) :=
  reads_leads h

theorem execShlShrSraRol_leads {n : Core} {g : Slot} {o : MemOp} {op : BitVec 2} (h : Calm s₀ s) : Leads s₀ (execShlShrSraRol n g o op s) :=
  reads_leads h

theorem execAddxAddy_leads {n : Core} {g : Slot} {o : MemOp} {y : Bool} (h : Calm s₀ s) : Leads s₀ (execAddxAddy n g o y s) := by
  unfold execAddxAddy
  exact reads_leads h

theorem execLddpLdsp_leads {n : Core} {g : Slot} {o : MemOp} {sp : Bool} (h : Calm s₀ s) : Leads s₀ (execLddpLdsp n g o sp s) := reads_leads h

theorem execLdhi_leads {n : Core} {g : Slot} {o : MemOp} (h : Calm s₀ s) : Leads s₀ (execLdhi n g o s) := by
  unfold execLdhi
  exact capo_leads h (fun h => by split; exacts [h.stop, h]) (fun h => h)

theorem Calm.target {n : Nat} {o : MemOp} {g : Slot} (h : Calm s₀ s) : Calm s₀ (State.target s n o g).1 := by
  unfold State.target
  split
  · exact h
  · exact h.ea

theorem execJmp_leads {n : Core} {g : Slot} {o : MemOp} (h : Calm s₀ s) : Leads s₀ (execJmp n g o s) := by
  unfold execJmp
  exact capo_leads h (fun h => by split; exacts [h.stop, Calm.andThen h.target (fun _ h => h)]) (fun h => h)

theorem execCall_leads {n : Core} {g : Slot} {o : MemOp} {dlen : BitVec 3} (h : Calm s₀ s) : Leads s₀ (execCall n g o dlen s) := by
  unfold execCall
  exact capo_leads h (fun h => by split; exacts [h.stop, by split; exacts [h.stopUnless (fun h => h.target), Calm.andThen h.target (fun _ h => h)]]) (fun h => h)

theorem execTst_leads {n : Core} {g : Slot} {o : MemOp} (h : Calm s₀ s) : Leads s₀ (execTst n g o s) := reads_leads h

theorem execLdst_leads {n : Core} {g : Slot} {o : MemOp} (h : Calm s₀ s) : Leads s₀ (execLdst n g o s) := by
  unfold execLdst
  exact capo_leads h (fun h => by split; exacts [h.stop, by split; exacts [h.stopUnless (fun h => h.operand), Calm.andThen h.operand (fun _ h => h)]]) (fun h => h)

theorem execAddsp_leads {n : Core} {g : Slot} {o : MemOp} (h : Calm s₀ s) : Leads s₀ (execAddsp n g o s) := reads_leads h

theorem execBcc_leads {n : Core} {g : Slot} {cond : BitVec 4} {annul : Bool} {rsv : BitVec 2} {long : Bool} {f : BitVec 36}
    (h : Calm s₀ s) : Leads s₀ (execBcc n g cond annul rsv long f s) :=
  capo_leads h (fun h => .iteRun h.stop (.iteRun h h)) (fun h => h)

/-! ### Sys2Proof/Machine/CapoVec.lean -/

theorem Calm.vFault {α : Type} {n elem cause addr : Nat} {write : Bool} (h : Calm s₀ s) :
    Calm s₀ (State.vFault (α := α) s n elem cause addr write).1 := h.cvuFault

theorem vec_leads {n : Core} {g : Slot} {o : VOp} {mem : Bool} {k : VKind} {f : State → CoreSt → List Nat → Run Eff}
    (h : Calm s₀ s) (hf : ∀ {u} {y1 y2}, Calm s₀ u → Calm s₀ (f u y1 y2).1) : Leads s₀ (State.vec s n g o mem k f) := by
  refine capo_leads h (fun {u} h => .iteRun h.stop (.iteRun h.stop ?_)) (fun h => h)
  extract_lets +onlyGivenNames asleep w
  have hw : Calm s₀ w := Calm.ite h.cvuWake.cvuActive h
  clear_value w
  refine .iteRun hw.fresh.fresh.vFault ?_
  extract_lets +onlyGivenNames v
  have hv : Calm s₀ v := hw.setCore
  clear_value v
  split
  · exact hv.vFault
  · exact Calm.andThen (hf hv) fun _ h => h

theorem vMap_leads {n : Core} {g : Slot} {o : VOp} {k : VKind} {f : Nat → Nat → Bool → Nat} (h : Calm s₀ s) : Leads s₀ (State.vMap s n g o k f) :=
  vec_leads h (fun h => h)

theorem vReduce_leads {n : Core} {g : Slot} {o : VOp} {cost : Nat} {f : Word → List Nat → Nat} (h :
    Calm s₀ s) : Leads s₀ (State.vReduce s n g o cost f) :=
  vec_leads h (fun h => h)

theorem execVadd_leads {n : Core} {g : Slot} {o : VOp} (h : Calm s₀ s) : Leads s₀ (execVadd n g o s) := vMap_leads h

theorem execVsub_leads {n : Core} {g : Slot} {o : VOp} (h : Calm s₀ s) : Leads s₀ (execVsub n g o s) := vMap_leads h

theorem execVmul_leads {n : Core} {g : Slot} {o : VOp} (h : Calm s₀ s) : Leads s₀ (execVmul n g o s) := vMap_leads h

theorem execVminuVmaxuVminsVmaxs_leads {n : Core} {g : Slot} {o : VOp} {op : BitVec 2} (h :
    Calm s₀ s) : Leads s₀ (execVminuVmaxuVminsVmaxs n g o op s) :=
  vMap_leads h

theorem execVandVorVxorVandn_leads {n : Core} {g : Slot} {o : VOp} {op : BitVec 2} (h : Calm s₀ s) : Leads s₀ (execVandVorVxorVandn n g o op s) :=
  vMap_leads h

theorem execVshlVshrVsra_leads {n : Core} {g : Slot} {o : VOp} {op : Fin 3} (h : Calm s₀ s) : Leads s₀ (execVshlVshrVsra n g o op s) := vMap_leads h

theorem execVshli_leads {n : Core} {g : Slot} {o : VOp} (h : Calm s₀ s) : Leads s₀ (execVshli n g o s) := vMap_leads h

theorem execVceqVcltuVclts_leads {n : Core} {g : Slot} {o : VOp} {op : Fin 3} (h : Calm s₀ s) : Leads s₀ (execVceqVcltuVclts n g o op s) :=
  vMap_leads h

theorem execVmsk_leads {n : Core} {g : Slot} {o : VOp} (h : Calm s₀ s) : Leads s₀ (execVmsk n g o s) := vec_leads h (fun h => h)

theorem execVsel_leads {n : Core} {g : Slot} {o : VOp} (h : Calm s₀ s) : Leads s₀ (execVsel n g o s) := vMap_leads h

theorem execVmov_leads {n : Core} {g : Slot} {o : VOp} (h : Calm s₀ s) : Leads s₀ (execVmov n g o s) := vMap_leads h

theorem execVsplat_leads {n : Core} {g : Slot} {o : VOp} (h : Calm s₀ s) : Leads s₀ (execVsplat n g o s) := vec_leads h (fun h => h)

theorem execVpopc_leads {n : Core} {g : Slot} {o : VOp} (h : Calm s₀ s) : Leads s₀ (execVpopc n g o s) := vMap_leads h

theorem execVins_leads {n : Core} {g : Slot} {o : VOp} (h : Calm s₀ s) : Leads s₀ (execVins n g o s) := vec_leads h (fun h => h)

theorem execVext_leads {n : Core} {g : Slot} {o : VOp} (h : Calm s₀ s) : Leads s₀ (execVext n g o s) := vec_leads h (fun h => h)

theorem execVsetvl_leads {n : Core} {g : Slot} {o : VOp} (h : Calm s₀ s) : Leads s₀ (execVsetvl n g o s) := vec_leads h (fun h => h)

theorem execVradd_leads {n : Core} {g : Slot} {o : VOp} (h : Calm s₀ s) : Leads s₀ (execVradd n g o s) := vReduce_leads h

theorem execVrxor_leads {n : Core} {g : Slot} {o : VOp} (h : Calm s₀ s) : Leads s₀ (execVrxor n g o s) := vReduce_leads h

theorem execVrminuVrmaxu_leads {n : Core} {g : Slot} {o : VOp} {max : Bool} (h : Calm s₀ s) : Leads s₀ (execVrminuVrmaxu n g o max s) :=
  vReduce_leads h

theorem execVrpopc_leads {n : Core} {g : Slot} {o : VOp} (h : Calm s₀ s) : Leads s₀ (execVrpopc n g o s) := vReduce_leads h

theorem execVcompress_leads {n : Core} {g : Slot} {o : VOp} (h : Calm s₀ s) : Leads s₀ (execVcompress n g o s) := vec_leads h (fun h => h)

theorem execVexpand_leads {n : Core} {g : Slot} {o : VOp} (h : Calm s₀ s) : Leads s₀ (execVexpand n g o s) := vec_leads h (fun h => h)

theorem execVcrc_leads {n : Core} {g : Slot} {o : VOp} (h : Calm s₀ s) : Leads s₀ (execVcrc n g o s) := vReduce_leads h

theorem Calm.vCheck {n size : Nat} {write : Bool} {err : MemErr} {l : List (Nat × Nat)} (h : Calm s₀ s) :
    Calm s₀ (State.vCheck s n size write err l).1 := by
  induction l generalizing s with
  | nil => exact h
  | cons p t ih =>
    obtain ⟨i, va⟩ := p
    rw [State.vCheck]
    split
    case h_1 u e heq => exact .of_eq (·.1) heq h.detRule
    case h_2 u a heq =>
      have hu : Calm s₀ u := .of_eq (·.1) heq h.detRule
      refine .iteRun hu.cvuFault ?_
      split
      case h_1 w e heq =>
        have hw : Calm s₀ w := .of_eq (·.1) heq hu.translate
        exact hw.cvuFault
      case h_2 w pa ty heq =>
        have hw : Calm s₀ w := .of_eq (·.1) heq hu.translate
        exact .iteRun hw.vFault (Calm.andThen (ih hw) fun _ h => h)

theorem Calm.vLoads {n size : Nat} {err : MemErr} {first : Bool} {l : List (Nat × Nat × Nat × Nat)} (h : Calm s₀ s) :
    Calm s₀ (State.vLoads s n size err first l).1 := by
  induction l generalizing s first with
  | nil => exact h
  | cons p t ih =>
    obtain ⟨i, va, pa, ty⟩ := p
    rw [State.vLoads]
    refine .iteRun h.vFault ?_
    split
    case h_1 u e heq =>
      have hu : Calm s₀ u := .of_eq (·.1) heq h.loadPa
      exact .iteRun hu.fault.vFault hu.vFault
    case h_2 u heq => exact .of_eq (·.1) heq h.loadPa
    case h_3 u v heq =>
      have hu : Calm s₀ u := .of_eq (·.1) heq h.loadPa
      exact Calm.andThen (ih hu) fun _ h => h

theorem vLoad_leads {n : Core} {g : Slot} {o : VOp} {k : VKind} {indexed : Bool} (h : Calm s₀ s) : Leads s₀ (State.vLoad s n g o k indexed) :=
  vec_leads h (fun h => Calm.andThen h.vCheck (fun _ h => Calm.andThen h.vLoads (fun _ h => h)))

theorem vStore_leads {n : Core} {g : Slot} {o : VOp} {k : VKind} {indexed : Bool} (h : Calm s₀ s) : Leads s₀ (State.vStore s n g o k indexed) :=
  vec_leads h (fun h => Calm.andThen h.vCheck (fun _ h => h))

theorem execVld_leads {n : Core} {g : Slot} {o : VOp} (h : Calm s₀ s) : Leads s₀ (execVld n g o s) := vLoad_leads h

theorem execVst_leads {n : Core} {g : Slot} {o : VOp} (h : Calm s₀ s) : Leads s₀ (execVst n g o s) := vStore_leads h

theorem execVgather_leads {n : Core} {g : Slot} {o : VOp} (h : Calm s₀ s) : Leads s₀ (execVgather n g o s) := vLoad_leads h

theorem execVscatter_leads {n : Core} {g : Slot} {o : VOp} (h : Calm s₀ s) : Leads s₀ (execVscatter n g o s) := vStore_leads h

/-! ### Sys2Proof/Machine/CapoEvents.lean -/

theorem Calm.replaceEvent {n i p : Nat} {f : Field} (h : Calm s₀ s) : Calm s₀ (State.replaceEvent s n i p f) :=
  (h.setCore.keeps (State.evClaim_keeps ..)).raise

theorem Calm.acceptEvent {n i p : Nat} {fe : FrameErr} (h : Calm s₀ s) : Calm s₀ (State.acceptEvent s n i p fe) := by
  unfold State.acceptEvent
  extract_lets x
  refine .ite h ?_
  split
  case h_1 u heq => exact .of_eq (·.1) heq h.stackFrame
  case h_2 u heq =>
    have hu : Calm s₀ u := .of_eq (·.1) heq h.stackFrame
    exact hu.setCore.keeps (State.evClaim_keeps ..)

theorem Calm.recount {n more less : Nat} (h : Calm s₀ s) : Calm s₀ (State.recount s n more less) := Calm.ite h.set h.openCount

theorem Calm.replaceEntry {n i p c : Nat} (h : Calm s₀ s) : Calm s₀ (State.replaceEntry s n i p c) := by
  unfold State.replaceEntry
  extract_lets +onlyGivenNames f1
  refine .ite h ?_
  extract_lets +onlyGivenNames g2 s3
  have h3 : Calm s₀ s3 := h.replaceEvent
  exact h3.setCore.recount

theorem Calm.replaceLate {n i p : Nat} (h : Calm s₀ s) : Calm s₀ (State.replaceLate s n i p) := by
  unfold State.replaceLate
  extract_lets +onlyGivenNames s1
  have h1 : Calm s₀ s1 := h.replaceEvent
  exact h1.setCore.spend

theorem Calm.abandonExit {n i p c : Nat} {r : List Nat} (h : Calm s₀ s) : Calm s₀ (State.abandonExit s n i p c r) := by
  unfold State.abandonExit
  extract_lets +onlyGivenNames x1 v2
  refine .ite h ?_
  extract_lets +onlyGivenNames s3
  have h3 : Calm s₀ s3 := h.setCore.keeps (State.evClaim_keeps ..)
  exact h3.recount.raise

theorem execEventAcceptance_leads {n : Core} {w : EvWindow} {stack : FrameErr} (h : Calm s₀ s) : Leads s₀ (execEventAcceptance n w s stack) := by
  unfold execEventAcceptance
  extract_lets +onlyGivenNames n1 x2
  split
  · exact .next h
  · split
    · exact .next (Calm.ite h.acceptEvent h)
    · exact .next (Calm.ite h.replaceEntry h)
    · exact .next (Calm.ite h.replaceLate h)
    · exact .next (by split; exacts [h.abandonExit, h])

theorem execBufferedStore_leads {n : Core} (h : Calm s₀ s) : Leads s₀ (execBufferedStore n s) := Leads.ite (.next h.drainOne) (.next h)

theorem Calm.serviceWrite {n : Nat} {f : UFlit} (h : Calm s₀ s) : Calm s₀ (State.serviceWrite s n f) := by
  unfold State.serviceWrite
  extract_lets +onlyGivenNames p1 s2
  have h2 : Calm s₀ s2 := h.keeps (State.portWrite_keeps ..)
  exact h2.set.keeps (State.serviceLevel_keeps ..)

theorem execServiceRequest_leads {n : Core} (h : Calm s₀ s) : Leads s₀ (execServiceRequest n s) := by
  unfold execServiceRequest
  extract_lets +onlyGivenNames n1 x2
  split
  · exact .next h
  · exact Leads.ite (.next h) (.next h.setTile.serviceWrite)

theorem execInvalidationReceived_leads {n : Core} (h : Calm s₀ s) : Leads s₀ (execInvalidationReceived n s) := by
  unfold execInvalidationReceived
  extract_lets +onlyGivenNames n1 x2
  split
  · exact .next h
  · exact Leads.ite (.next (h.setCore.keeps (State.applyInval_keeps ..)).bump) (.next h)

theorem execInvalidationAck_leads {src n : Core} (h : Calm s₀ s) : Leads s₀ (execInvalidationAck src n s) := by
  unfold execInvalidationAck
  split
  · exact .next h
  · exact Leads.ite (.next h) (.next (h.keeps (State.ackInval_keeps ..)))

theorem execTlbsyncTimeout_leads {n : Core} (h : Calm s₀ s) : Leads s₀ (execTlbsyncTimeout n s) := by
  unfold execTlbsyncTimeout
  extract_lets +onlyGivenNames n1 x2
  split
  · exact .next h
  · refine .ite (.next h) ?_
    extract_lets +onlyGivenNames silent4 missing5 s6 s7
    have h6 : Calm s₀ s6 := (h.keeps (State.endSync_keeps ..)).set.raise
    have h7 : Calm s₀ s7 := h6.fault
    exact .next (Calm.foldl (fun _ _ h => Calm.ite h h.lecPulse) h7)

/-! ### Sys2Proof/Machine/Entries.lean -/

theorem Calm.mirrorWrite {a : Agent} {r : RegAt} {v mask : Nat} (h : Calm s₀ s) : Calm s₀ (State.mirrorWrite s a r v mask) := by
  unfold State.mirrorWrite
  exact Calm.ite h (by split; exacts [h.regWrite, h])

theorem Calm.flashRewrite {d off : Nat} {b : List Nat} (h : Calm s₀ s) : Calm s₀ (State.flashRewrite s d off b) := h.zeroRange.setBytes

theorem Calm.dirUpdate {d off len gen crc : Nat} (h : Calm s₀ s) : Calm s₀ (State.dirUpdate s d off len gen crc) := by
  unfold State.dirUpdate
  split
  · exact h
  · exact h.flashRewrite

theorem Calm.profProgram {i : Nat} {b : List Nat} (h : Calm s₀ s) : Calm s₀ (State.profProgram s i b) :=
  h.flashRewrite.dirUpdate.flashRewrite.dirUpdate

theorem Calm.rwpPut {x y v : Nat} (h : Calm s₀ s) : Calm s₀ (State.rwpPut s x y v) :=
  .ite h.set.set (Calm.ite h.set (h.keeps (State.setEnt_keeps ..)))

theorem Calm.eventPut {a : Agent} {y : Nat} {data : List Nat} {o e : Nat} (h : Calm s₀ s) : Calm s₀ (State.eventPut s a y data o e) :=
  Calm.ite (Calm.foldl (fun _ _ h => h.mirrorWrite) h) (Calm.foldl (fun _ _ h => h.mirrorWrite) h)

theorem Calm.rwpDefaults (h : Calm s₀ s) : Calm s₀ (State.rwpDefaults s) := by
  unfold State.rwpDefaults
  extract_lets +onlyGivenNames isRwp1 s2 s3
  have h2 : Calm s₀ s2 := h.frame
  have h3 : Calm s₀ s3 := h2.rwpPut
  exact Calm.foldl (fun _ _ h => h.rwpPut) h3

theorem Calm.loadEntry {r : List Nat} (h : Calm s₀ s) : Calm s₀ (State.loadEntry s r) := by
  unfold State.loadEntry
  extract_lets +onlyGivenNames x1 y2 n3
  split
  · exact Calm.ite h.rwpPut h.raise
  · exact h.raise

theorem Calm.loadEntries {l : List (List Nat)} (h : Calm s₀ s) : Calm s₀ (State.loadEntries s l) := by
  induction l generalizing s with
  | nil => exact h
  | cons r t ih => exact ih (.ite h.loadEntry (.ite h h.raise))

theorem Calm.takeHeader {hv : List Nat} {regs : List (Nat × Nat × Nat)} (h : Calm s₀ s) : Calm s₀ (State.takeHeader s hv regs) := h.frame

theorem Calm.loadDefaults (h : Calm s₀ s) : Calm s₀ (State.loadDefaults s) := h.rwpDefaults.takeHeader.set

/-! ### Sys2Proof/Machine/Can.lean -/

theorem Calm.canFrame {p code node : Nat} {data : List Nat} (h : Calm s₀ s) : Calm s₀ (State.canFrame s p code node data) := h.emit

theorem Calm.canSendAll {code node : Nat} {data : List Nat} (h : Calm s₀ s) : Calm s₀ (State.canSendAll s code node data) :=
  (h.keeps (State.canSend_keeps ..)).keeps (State.canSend_keeps ..)

theorem Calm.canReady {p : Nat} (h : Calm s₀ s) : Calm s₀ (State.canReady s p) := h.setReady

theorem Calm.canReadyAll (h : Calm s₀ s) : Calm s₀ (State.canReadyAll s) := h.canReady.canReady

theorem Calm.heartbeat (h : Calm s₀ s) : Calm s₀ (State.heartbeat s) := by
  unfold State.heartbeat
  refine .ite h ?_
  extract_lets +onlyGivenNames t1
  have h1 : Calm s₀ t1 := h.canSendAll
  exact Calm.ite h1.frame h1

theorem execHeartbeat_leads (h : Calm s₀ s) : Leads s₀ (execHeartbeat s) := Leads.ite (.next h) (.next h.heartbeat)

theorem Calm.sendClaim (h : Calm s₀ s) : Calm s₀ (State.sendClaim s) := h.canSendAll

theorem Calm.nodeEffective {node : Nat} {dynamic : Bool} (h : Calm s₀ s) : Calm s₀ (State.nodeEffective s node dynamic) := by
  unfold State.nodeEffective
  extract_lets +onlyGivenNames s1
  have h1 : Calm s₀ s1 := h.set.lower
  exact h1.frame.heartbeat.canReadyAll

theorem Calm.startClaim (h : Calm s₀ s) : Calm s₀ (State.startClaim s) := by
  unfold State.startClaim
  extract_lets +onlyGivenNames n1
  refine .ite ?_ ?_
  · extract_lets +onlyGivenNames s2
    have h2 : Calm s₀ s2 := h.set.raise
    exact h2.frame.sendClaim
  · exact h.nodeEffective

theorem Calm.claimConflict (h : Calm s₀ s) : Calm s₀ (State.claimConflict s) := h.frame.sendClaim

theorem Calm.claimAgain {p : Nat} (h : Calm s₀ s) : Calm s₀ (State.claimAgain s p) := Calm.ite h.frame.canFrame h

theorem Calm.takeClaim {node key : Nat} (h : Calm s₀ s) : Calm s₀ (State.takeClaim s node key) :=
  .ite (Calm.ite h.claimConflict h) (Calm.ite h.canSendAll h)

theorem execClaim_leads {p : Fin 2} {node : BitVec 7} {key : Word} (h : Calm s₀ s) : Leads s₀ (execClaim p node key s) :=
  Leads.ite (.next (h.keeps (State.canGot_keeps ..)).takeClaim) (.next h)

theorem execNodeClaimTimeout_leads (h : Calm s₀ s) : Leads s₀ (execNodeClaimTimeout s) := Leads.ite (.next h.nodeEffective) (.next h)

theorem execHeartbeatReceived_leads {p : Fin 2} {node : BitVec 7} (h : Calm s₀ s) : Leads s₀ (execHeartbeatReceived p node s) := by
  unfold execHeartbeatReceived
  refine .ite ?_ ?_
  · extract_lets +onlyGivenNames s1
    have h1 : Calm s₀ s1 := h.keeps (State.canGot_keeps ..)
    exact .ite (.next h1.claimConflict) (Leads.ite (.next h1.raise) (.next h1))
  · exact .next h

theorem Calm.enterBusOff {p : Nat} (h : Calm s₀ s) : Calm s₀ (State.enterBusOff s p) := by
  unfold State.enterBusOff
  extract_lets +onlyGivenNames s1
  have h1 : Calm s₀ s1 := (h.set.raise.keeps (State.countEnt_keeps ..)).setXport
  exact (h1.keeps (State.canLevel_keeps ..)).canReady

theorem Calm.canCount {p : Nat} {sender : Bool} {kind : CanError} (h : Calm s₀ s) : Calm s₀ (State.canCount s p sender kind) :=
  .ite (Calm.ite h.enterBusOff (h.keeps (State.canErrors_keeps ..))) (h.keeps (State.canErrors_keeps ..))

theorem execCanBusError_leads {p : Fin 2} {sender : Bool} {kind : CanError} {claim : Bool} (h :
    Calm s₀ s) : Leads s₀ (execCanBusError p sender kind claim s) := by
  unfold execCanBusError
  refine .ite ?_ ?_
  · extract_lets +onlyGivenNames s1
    have h1 : Calm s₀ s1 := h.canCount
    exact .next (Calm.ite (Calm.ite (Calm.ite h1.claimAgain h1) h1.claimConflict) h1)
  · exact .next h

theorem execBusOff_leads {p : Fin 2} (h : Calm s₀ s) : Leads s₀ (execBusOff p s) := Leads.ite (.next h.enterBusOff) (.next h)

theorem execBusOffRecovery_leads {p : Fin 2} (h : Calm s₀ s) : Leads s₀ (execBusOffRecovery p s) :=
  Leads.ite (.next (h.keeps (State.canErrors_keeps ..)).heartbeat.canReady) (.next h)

theorem execIgnoredFrame_leads {p : Fin 2} {addressed : Bool} (h : Calm s₀ s) : Leads s₀ (execIgnoredFrame p addressed s) := by
  unfold execIgnoredFrame
  extract_lets +onlyGivenNames p1
  refine .ite ?_ ?_
  · extract_lets +onlyGivenNames s2
    have h2 : Calm s₀ s2 := h.keeps (State.canGot_keeps ..)
    exact .next (Calm.ite ((h2.keeps (State.countEnt_keeps ..)).raise.keeps (State.canLevel_keeps ..)) h2)
  · exact .next h

/-! ### Sys2Proof/Machine/Boot.lean -/

theorem Calm.keepEn {old : State} (h : Calm s₀ s) : Calm s₀ (State.keepEn s old) := Calm.foldl (fun _ _ h => Calm.ite h.set h) h

theorem Calm.lanesDetect (h : Calm s₀ s) : Calm s₀ (State.lanesDetect s) := Calm.foldl (fun _ _ h => Calm.ite h.laneEnable h) h

theorem Calm.wakeCause {l1 : WakeSource} (h : Calm s₀ s) : Calm s₀ (State.wakeCause s l1) := by
  unfold State.wakeCause
  split
  · exact h.raise
  · exact h.raise
  · exact h.keeps (State.setBits_keeps ..)

theorem Calm.bringDomain {st : Nat} {fails : List Nat} {d : Nat} (h : Calm s₀ s) : Calm s₀ (State.bringDomain s st fails d).1 := by
  unfold State.bringDomain
  split
  · exact h
  · split
    · exact h
    · split
      · exact h
      · exact Calm.ite (Calm.ite h h.powerUp.powerDone).coreRelease (Calm.ite h h.powerUp.powerDone)

theorem Calm.bringDomains {st : Nat} {fails l : List Nat} (h : Calm s₀ s) : Calm s₀ (State.bringDomains s st fails l).1 := by
  induction l generalizing s with
  | nil => exact h
  | cons d t ih => exact ih h.bringDomain

theorem Calm.dropDomain {d : Nat} (h : Calm s₀ s) : Calm s₀ (State.dropDomain s d) :=
  Calm.foldl (fun _ _ h => Calm.ite h (Calm.ite h.loseDomain.setDom.powerDone.domainChanged h.loseDomain.setDom.powerDone)) h

theorem Calm.dropUnplanned {st : Nat} (h : Calm s₀ s) : Calm s₀ (State.dropUnplanned s st) := Calm.foldl (fun _ _ h => Calm.ite h.dropDomain h) h

theorem Calm.runtimeStep {method : Nat} (h : Calm s₀ s) : Calm s₀ (State.runtimeStep s method).state := h.frame

theorem Calm.flashStep {method : Nat} (h : Calm s₀ s) : Calm s₀ (State.flashStep s method).state := by
  unfold State.flashStep
  extract_lets +onlyGivenNames _ s1 ok2 s3 w4 s5 s6
  have h1 : Calm s₀ s1 := h.frame
  have h3 : Calm s₀ s3 := h1.set
  have h5 : Calm s₀ s5 := Calm.ite h3.flashSelect h3
  have h6 : Calm s₀ s6 := h5.setReady
  exact h6

theorem Calm.bjErase {d : Nat} (h : Calm s₀ s) : Calm s₀ (State.bjErase s d) := Calm.foldl (fun _ _ h => h.zeroRange) h

theorem Calm.journalStep {fail : Nat} (h : Calm s₀ s) : Calm s₀ (State.journalStep s fail) := by
  unfold State.journalStep
  extract_lets +onlyGivenNames _ s1 l2 sorted3
  have h1 : Calm s₀ s1 := h.frame
  split
  · extract_lets +onlyGivenNames s5 buf6 _ s7
    have h5 : Calm s₀ s5 := h1.set
    have h7 : Calm s₀ s7 := h5.frame
    refine .ite h7.raise ?_
    extract_lets +onlyGivenNames s8
    have h8 : Calm s₀ s8 := Calm.foldl (fun _ _ h => Calm.ite h.bjErase h) h7
    exact Calm.foldl (fun _ _ h => h.bjWrite) (Calm.ite h8 h8.raise)

theorem Calm.profSource (h : Calm s₀ s) : Calm s₀ (State.profSource s) := by
  unfold State.profSource
  split
  · exact h.set
  · exact h.set
  · exact h.set
  · exact Calm.ite h.set h

theorem Calm.regRecords {l : List (Nat × Nat × Nat)} (h : Calm s₀ s) : Calm s₀ (State.regRecords s l) := Calm.foldl (fun _ _ h => h.busRegWrite) h

theorem Calm.profileStep {method : Nat} (h : Calm s₀ s) : Calm s₀ (State.profileStep s method).state := by
  unfold State.profileStep
  extract_lets u
  have hu : Calm s₀ u := h.set
  refine .iteOf Work.state hu.loadDefaults ?_
  split
  case h_1 t l heq =>
    unfold State.loadProfile at heq
    cases hd : u.profCurrent u.boot.profile with
    | none =>
      rw [hd] at heq
      cases heq
    | some d =>
      rw [hd] at heq
      have ht : Calm s₀ t := Calm.of_eq (·.1) (Option.some.inj heq) hu.rwpDefaults.takeHeader
      exact ht.regRecords.loadEntries.profSource
  case h_2 => exact hu

theorem Calm.clockStep (h : Calm s₀ s) : Calm s₀ (State.clockStep s) := by
  unfold State.clockStep
  extract_lets +onlyGivenNames s1
  have h1 : Calm s₀ s1 := Calm.ite h.raise h
  exact h1.set

theorem Calm.canStep (h : Calm s₀ s) : Calm s₀ (State.canStep s) := by
  unfold State.canStep
  extract_lets +onlyGivenNames _ s1 s2
  have h1 : Calm s₀ s1 := Calm.ite h.frame h
  have h2 : Calm s₀ s2 := Calm.foldl (fun _ _ h => Calm.ite h.set h) h1
  exact (Calm.ite h2.startClaim h2).canReadyAll

theorem Calm.fillTme {fails : List Nat} {t : Nat} (h : Calm s₀ s) : Calm s₀ (State.fillTme s fails t).1 := by
  unfold State.fillTme
  split
  · exact h
  · split
    · exact h
    · split
      · exact h.zeroRange.setTile.stackReady
      · exact h

theorem Calm.fillTmes {fails l : List Nat} (h : Calm s₀ s) : Calm s₀ (State.fillTmes s fails l).1 := by
  induction l generalizing s with
  | nil => exact h
  | cons t u ih => exact ih h.fillTme

theorem Calm.imageStep (h : Calm s₀ s) : Calm s₀ (State.imageStep s).state := by
  unfold State.imageStep
  refine .iteOf Work.state h (.iteOf Work.state h ?_)
  extract_lets +onlyGivenNames s1
  split
  rename_i u r heq
  have hu : Calm s₀ u := .of_eq (·.1) heq (h.keeps (State.setOwner_keeps ..)).imgAddrWrite.runEngine
  have ht := (hu.barRun (r := r)).applyEnd (err := r.err) (applied := r.applied)
  exact ⟨ht.pending, ht.mode, ht.regsOk, ht.memOk⟩

theorem Calm.bootWork {st method : Nat} {fails : List Nat} (h : Calm s₀ s) : Calm s₀ (State.bootWork s st method fails).state := by
  have hp : Calm s₀ (s.pollRun 30) := h.pollRun
  have hf := h.fillTmes (fails := fails) (l := List.range 8)
  have hl : Calm s₀ ((s.raise CLK_GEN_STAT_LOCK).lower CLK_GEN_STAT_ROOT48) := h.raise.lower
  have hc : Calm s₀ (if (s.core 0).held then s.coreRelease 0 else s) := .ite h.coreRelease h
  have hb := h.bringDomains (st := st) (fails := fails) (l := stepDomains st)
  unfold State.bootWork
  generalize s.pollRun 30 = t at hp ⊢
  generalize s.fillTmes fails (List.range 8) = f at hf ⊢
  refine .iteOf Work.state (p := ⟨_, _, _⟩) hp ?_
  refine .iteOf Work.state (p := ⟨_, _, _⟩) ⟨hl.pending, hl.mode, hl.regsOk, hl.memOk⟩ ?_
  refine .iteOf Work.state h.flashStep ?_
  refine .iteOf Work.state (.iteOf Work.state (p := ⟨_, _, _⟩) (q := ⟨_, _, _⟩) h hc) ?_
  refine .iteOf Work.state h.profileStep ?_
  refine .iteOf Work.state (p := ⟨_, _, _⟩) h.clockStep ?_
  refine .iteOf Work.state (p := ⟨_, _, _⟩) h.canStep ?_
  refine .iteOf Work.state (p := ⟨_, _, _⟩) hf ?_
  refine .iteOf Work.state h.runtimeStep ?_
  refine .iteOf Work.state h.imageStep ?_
  exact Calm.ite hb.frame hb

theorem Calm.stepWork {st method : Nat} {done : Bool} {fails : List Nat} (h : Calm s₀ s) : Calm s₀ (State.stepWork s st method done fails).state := by
  unfold State.stepWork
  extract_lets +onlyGivenNames f1
  split
  · exact h.bootWork
  · exact Calm.ite h.setReady.set h

theorem Calm.mark {f : Field} {st : Nat} (h : Calm s₀ s) : Calm s₀ (State.mark s f st) := h.set

theorem Calm.attemptRecord {fail st method k : Nat} {t : Try} (h : Calm s₀ s) : Calm s₀ (State.attemptRecord s fail st method k t) := h.frame.bjPut

theorem Calm.outcomeRecord {fail st method result detail ms : Nat} (h : Calm s₀ s) :
    Calm s₀ (State.outcomeRecord s fail st method result detail ms) :=
  h.frame.bjPut

theorem Calm.attempt {fail st method k : Nat} {t : Try} (h : Calm s₀ s) : Calm s₀ (State.attempt s fail st method k t).1 := by
  unfold State.attempt
  extract_lets +onlyGivenNames fails1
  split
  · exact h.journalStep.attemptRecord.outcomeRecord
  · exact h.attemptRecord.stepWork.outcomeRecord

theorem Calm.timeoutAttempt {fail st method k : Nat} {t : Try} (h : Calm s₀ s) : Calm s₀ (State.timeoutAttempt s fail st method k t) := by
  unfold State.timeoutAttempt
  extract_lets +onlyGivenNames fails1
  refine .ite h.journalStep.attemptRecord.outcomeRecord ?_
  exact h.attemptRecord.stepWork.outcomeRecord

theorem Calm.runMethod {fail st method : Nat} {last : Option Try} {n k : Nat} {tries : List Try} {d : Nat} (h : Calm s₀ s) :
    Calm s₀ (State.runMethod s fail st method last n k tries d).state := by
  induction n generalizing s k tries d with
  | zero => exact h
  | succ n ih =>
    cases tries with
    | nil =>
      cases last with
      | some t => exact h.timeoutAttempt
      | none => exact .iteOf Ran.state h.attempt (ih h.attempt)
    | cons t u => exact .iteOf Ran.state h.attempt (ih h.attempt)

theorem Calm.runPolicy {fail st : Nat} {tries : List Try} {last : Option Try} (h : Calm s₀ s) :
    Calm s₀ (State.runPolicy s fail st tries last).state := by
  unfold State.runPolicy
  extract_lets +onlyGivenNames b1 n2 h3 alt4
  split
  · exact .iteOf Ran.state h.outcomeRecord.mark h.runMethod
  · exact .iteOf Ran.state h.mark.runMethod (.iteOf Ran.state h.runMethod.mark.runMethod h.runMethod)
  · exact h.runMethod

theorem Calm.bootHalt {st detail : Nat} (h : Calm s₀ s) : Calm s₀ (State.bootHalt s st detail) := by
  unfold State.bootHalt
  extract_lets +onlyGivenNames s1
  have h1 : Calm s₀ s1 := h.raise
  exact Calm.ite h1.frame h1.fault

theorem Calm.stepEnded (h : Calm s₀ s) : Calm s₀ (State.stepEnded s) := h.raise.resample

theorem Calm.enterStep {st : Nat} (h : Calm s₀ s) : Calm s₀ (State.enterStep s st) := by
  unfold State.enterStep
  extract_lets +onlyGivenNames s1
  have h1 : Calm s₀ s1 := h.set
  exact Calm.ite h1.dropUnplanned h1

theorem Calm.beginStep {st : Nat} (h : Calm s₀ s) : Calm s₀ (State.beginStep s st) := Calm.ite h.regRecords h

/-! ### Sys2Proof/Machine/Modes.lean -/

theorem Calm.modeJudge {c : Nat} (h : Calm s₀ s) : Calm s₀ (State.modeJudge s c).2 := by
  unfold State.modeJudge
  split
  · exact h
  · split
    · exact Calm.ite h.refuse h
    · split
      · exact h
      · split
        · split
          · exact h.refuse
          · exact h
        · exact h

theorem Calm.startCommand (h : Calm s₀ s) : Calm s₀ (State.startCommand s) := by
  unfold State.startCommand
  extract_lets +onlyGivenNames s1
  have h1 : Calm s₀ s1 := Calm.ite h (h.raise.keeps (State.sendPstat_keeps ..))
  refine .ite ?_ ?_
  · exact h1.announce.takeStart
  · exact h1

/-! ### Sys2Proof/Machine/Dict.lean -/

theorem Calm.reply {k : Nat} {l : List Nat} (h : Calm s₀ s) : Calm s₀ (State.reply s k l) := by
  unfold State.reply
  extract_lets +onlyGivenNames _ s1
  have h1 : Calm s₀ s1 := h.setXport
  split
  · exact h1.keeps (State.answerHost_keeps ..)
  · exact h1.keeps (State.answerCore_keeps ..)
  · exact h1.keeps (State.canSend_keeps ..)
  · exact Calm.ite h1.pushCtl h1
  · exact h1

theorem Calm.setOpen {k : Nat} {t : Option Transfer} (h : Calm s₀ s) : Calm s₀ (State.setOpen s k t) := h.setXport

theorem Calm.serveRead {k : Nat} {q : Req} {e : Entry} (h : Calm s₀ s) : Calm s₀ (State.serveRead s k q e) := by
  unfold State.serveRead
  extract_lets fail snap v d r keep t
  exact .ite h.reply (.ite h.reply (.ite h.reply h.setOpen.reply))

theorem Calm.persistIn {k : Nat} {r : List Nat} {area : Nat} {b : List Nat} (h : Calm s₀ s) : Calm s₀ (State.persistIn s k r area b) := h.frame

theorem Calm.malformedFrom {k : Nat} (h : Calm s₀ s) : Calm s₀ (State.malformedFrom s k) := Calm.ite h.raise h

theorem Calm.dictDrop (h : Calm s₀ s) : Calm s₀ (State.dictDrop s) := h.raise

theorem execTransferTimeout_leads {a : Agent} (h : Calm s₀ s) : Leads s₀ (execTransferTimeout a s) := by
  unfold execTransferTimeout
  extract_lets +onlyGivenNames k1
  split
  · exact .next h.setXport
  · exact .next h

theorem Calm.persisted {p : Persist} {ok : Bool} (h : Calm s₀ s) : Calm s₀ (State.persisted s p ok) := by
  unfold State.persisted
  extract_lets +onlyGivenNames s1
  have h1 : Calm s₀ s1 := h.frame
  exact Calm.ite h1.profProgram.reply h1.raise.reply

theorem execRwpPersist_leads {ok : Bool} (h : Calm s₀ s) : Leads s₀ (execRwpPersist ok s) := by
  unfold execRwpPersist
  split
  · exact .next (Calm.ite h h.persisted)
  · exact .next h

theorem Calm.dictAnswer {n : Nat} {l : List Nat} (h : Calm s₀ s) : Calm s₀ (State.dictAnswer s n l) := by
  unfold State.dictAnswer
  split
  · extract_lets +onlyGivenNames r2 s3
    have h3 : Calm s₀ s3 := h.keeps (State.portWrite_keeps ..)
    exact h3.set.lower.raise
  · exact Calm.ite h h.dictDrop

theorem execDictMsg_leads {n : Lane} {frame : List Byte} (h : Calm s₀ s) : Leads s₀ (execDictMsg n frame s) := by
  unfold execDictMsg
  extract_lets +onlyGivenNames l1 s2
  have h2 : Calm s₀ s2 := h.beatIn
  exact Leads.ite (.next (Calm.ite h2.dictAnswer (h2.keeps (State.dictRequest_keeps ..)))) (.next h2)

/-! ### Sys2Proof/Machine/Tick.lean -/

theorem Calm.tick (h : Calm s₀ s) : Calm s₀ (State.tick s) := by
  cases hc : s.clocked with
  | false => exact h.keeps (s.tick_keeps_stands hc)
  | true =>
    have hdone := h.keeps s.cycleDone_keeps
    rw [s.tick_clocked hc]
    generalize s.cycleDone = u at hdone ⊢
    have hcounted : Calm s₀ u.counted := ⟨hdone.pending, hdone.mode, hdone.regsOk, hdone.memOk⟩
    exact hcounted.keeps (State.cycleBegun_keeps _)
end

/-! ### Transitions of the mode (16 R430) -/

/-- The table of 16 R430, with BRING-UP from any mode. -/
def Mode.leads (a b : Mode) : Prop :=
  b = a ∨ b = .bringUp ∨ (a, b) ∈ ([(.bringUp, .dormant), (.bringUp, .ready), (.ready, .dormant), (.ready, .run), (.ready, .hold),
    (.ready, .service), (.run, .hold), (.hold, .run), (.hold, .ready), (.hold, .service), (.service, .ready), (.service, .hold)] : List (Mode × Mode))

/-- `t` follows from `s` within one command: the queue is untouched, the canonical forms are kept, and the mode stays or makes a
transition. -/
structure Moves (s t : State) : Prop where
  pending : t.pending = s.pending
  mode : s.mode.leads t.mode
  regsOk : rising s.regs = true → rising t.regs = true
  memOk : Memory.wf s.mem = true → Memory.wf t.mem = true

/-- An outcome that is a next state, in the mode there was or behind a transition. -/
def MovesTo (s : State) (o : Host.Outcome State Fault Refusal) : Prop := ∃ t, o = .next t ∧ Moves s t

/-- `t` follows from `s` with the queue untouched, the canonical forms kept, and mode `m`. -/
structure Enters (m : Mode) (s t : State) : Prop where
  pending : t.pending = s.pending
  mode : t.mode = m
  regsOk : rising s.regs = true → rising t.regs = true
  memOk : Memory.wf s.mem = true → Memory.wf t.mem = true

section
variable {s t u : State} {m n : Mode}

theorem Calm.moves (h : Calm s t) : Moves s t where
  pending := h.pending
  mode := by
    rcases h.mode with hm | ⟨hs, ht⟩
    · exact .inl hm
    · rw [hs, ht]
      exact .inr (.inr (by decide))
  regsOk := h.regsOk
  memOk := h.memOk

/-- READY to HOLD and a transition of HOLD are a transition of READY. -/
theorem Mode.leads_of_hold {b : Mode} (h : Mode.hold.leads b) : Mode.ready.leads b := by
  unfold Mode.leads at h ⊢
  cases b <;> revert h <;> decide

theorem Moves.after (k : Moves t u) (h : Calm s t) : Moves s u where
  pending := k.pending.trans h.pending
  mode := by
    rcases h.mode with hm | ⟨hs, ht⟩
    · exact hm ▸ k.mode
    · rw [hs]
      exact Mode.leads_of_hold (ht ▸ k.mode)
  regsOk := k.regsOk ∘ h.regsOk
  memOk := k.memOk ∘ h.memOk

theorem Moves.ite {c : Prop} {_ : Decidable c} (h : Moves s t) (k : Moves s u) : Moves s (if c then t else u) := by
  split
  · exact h
  · exact k

theorem Moves.next (h : Moves s t) : MovesTo s (.next t) := ⟨t, rfl, h⟩

theorem Calm.stays (h : Calm s t) : MovesTo s (.next t) := h.moves.next

theorem Leads.movesTo {o : Host.Outcome State Fault Refusal} (h : Leads s o) : MovesTo s o := by
  obtain ⟨t, ht, hc⟩ := h
  exact ⟨t, ht, hc.moves⟩

theorem MovesTo.ite {c : Prop} {_ : Decidable c} {o p : Host.Outcome State Fault Refusal} (h : MovesTo s o) (k : MovesTo s p) :
    MovesTo s (if c then o else p) := by
  split
  · exact h
  · exact k

theorem Calm.mode_of_ne (h : Calm s t) (hs : s.mode ≠ .ready) : t.mode = s.mode := h.mode.resolve_right fun ⟨hr, _⟩ => hs hr

theorem Enters.after (k : Enters m t u) (h : Calm s t) : Enters m s u :=
  ⟨k.pending.trans h.pending, k.mode, k.regsOk ∘ h.regsOk, k.memOk ∘ h.memOk⟩

theorem Enters.calm (h : Enters m s t) (k : Calm t u) (hm : m ≠ .ready := by decide) : Enters m s u :=
  ⟨k.pending.trans h.pending, (k.mode_of_ne (h.mode ▸ hm)).trans h.mode, k.regsOk ∘ h.regsOk, k.memOk ∘ h.memOk⟩

theorem Enters.trans (h : Enters m s t) (k : Enters n t u) : Enters n s u :=
  ⟨k.pending.trans h.pending, k.mode, k.regsOk ∘ h.regsOk, k.memOk ∘ h.memOk⟩

theorem Enters.ite {c : Prop} {_ : Decidable c} (h : Enters m s t) (k : Enters m s u) : Enters m s (if c then t else u) := by
  split
  · exact h
  · exact k

theorem Enters.moves (h : Enters m s t) (hm : s.mode.leads m) : Moves s t := ⟨h.pending, h.mode ▸ hm, h.regsOk, h.memOk⟩

/-- An update of other parts of the state. -/
theorem Enters.frame (h : Enters m s t) (hp : u.pending = t.pending := by rfl) (hm : u.mode = t.mode := by rfl) (hr : u.regs = t.regs := by rfl)
    (hmem : u.mem = t.mem := by rfl) : Enters m s u :=
  ⟨hp.trans h.pending, hm.trans h.mode, fun hs => hr ▸ h.regsOk hs, fun hs => hmem ▸ h.memOk hs⟩

theorem Calm.enters (h : Calm s t) (hs : s.mode = m) (hm : m ≠ .ready := by decide) : Enters m s t :=
  ⟨h.pending, (h.mode_of_ne (hs ▸ hm)).trans hs, h.regsOk, h.memOk⟩

theorem Mode.leads_bringUp (a : Mode) : a.leads .bringUp := .inr (.inl rfl)

end

section
variable {s₀ s : State}

theorem State.enter_enters (s : State) (m : Mode) : Enters m s (s.enter m) := by
  have h := s.enter_keeps m
  exact ⟨h.pending, s.mode_enter m, h.regsOk, h.memOk⟩

theorem Calm.enter {m : Mode} (h : Calm s₀ s) : Enters m s₀ (s.enter m) := (s.enter_enters m).after h

/-! ### Strokes, RUN and HOLD (02 R48; 16 R433; 08 R237) -/

theorem Calm.resumeRun {k : Nat} (h : Calm s₀ s) : Enters .run s₀ (s.resumeRun k) := by
  unfold State.resumeRun
  extract_lets replay _ u v
  exact Calm.enter (.ite (h.setCkp.raise) h.setCkp.lower)

theorem Calm.resumeStroke {k : Nat} (h : Calm s₀ s) : Enters .run s₀ (s.resumeStroke k) := by
  have hrun : Enters .run s₀ (((s.resumeHosts k).resumeAccounts k).resumeRun k) := h.resumeHosts.resumeAccounts.resumeRun
  exact hrun.calm ((((Calm.refl _).openStroke).keeps (State.logOnly_keeps ..)).lateAtResume)

/-- A stroke starts in HOLD or goes on in RUN. -/
theorem State.startStroke_moves (s : State) (hm : s.mode = .hold ∨ s.mode = .run) : Moves s s.startStroke := by
  unfold State.startStroke
  extract_lets k replay back a b c d
  have ha : Calm s a := (Calm.refl s).closeReplay
  have hrest : Calm b (d.liveCells.foldl (fun s c => s.startCell c) d) :=
    Calm.foldl (fun _ _ h => h.startCell) (Calm.ite (Calm.refl b).noteStarts (.refl b)).endReplay.noteInterruption.failCarried
  by_cases hhold : a.mode = .hold
  · have hb : Enters .run s b := by
      unfold b
      rw [if_pos hhold]
      exact ha.resumeStroke
    refine (hb.calm hrest).moves ?_
    rcases hm with hm | hm
    · rw [hm]; exact .inr (.inr (by decide))
    · rw [hm]; exact .inl rfl
  · have hb : Calm s b := by
      unfold b
      rw [if_neg hhold]
      exact ha.openStroke
    exact (hb.trans hrest).moves

theorem execStrokeStart_moves (s : State) : MovesTo s (execStrokeStart s) := by
  unfold execStrokeStart
  by_cases hmay : s.mayStart = true
  case neg => rw [if_neg hmay]; exact (Calm.refl s).stays
  have hstart : s.mode = .hold ∨ s.mode = .run := by
    unfold State.mayStart at hmay
    grind
  have hgo := (s.startStroke_moves hstart).next
  rw [if_pos hmay]
  split
  · exact .ite (Calm.refl s).refuseRun.stays hgo
  · exact hgo

theorem State.runEntry_enters (s : State) : Enters .run s s.runEntry := by
  unfold State.runEntry
  extract_lets +onlyGivenNames a b x c y d
  have hb : Calm s b := (Calm.refl s).lower.set.set.set.lower
  clear_value b
  have hd : Calm s d := hb.setStroke.setCkp
  clear_value d
  have hv : Calm s { d with hostVals := d.hostVals.filter (!·.written) } := hd.frame
  exact (hv.keeps (State.rewindLanes_keeps _)).enter

theorem execRunEntry_moves (s : State) : MovesTo s (execRunEntry s) := by
  have hstays := (Calm.refl s).stays
  have hmiss := (Calm.refl s).missStart.stays
  unfold execRunEntry
  refine .ite ?_ hstays
  by_cases hm : s.mode = .ready
  case neg => rw [if_neg hm]; exact .ite hmiss hstays
  rw [if_pos hm]
  refine .ite ?_ hmiss
  split
  · exact (Calm.refl s).refuseRun.stays
  · exact (s.runEntry_enters.moves (hm ▸ .inr (.inr (by decide)))).next

theorem execHoldEntry_moves (s : State) : MovesTo s (execHoldEntry s) := by
  unfold execHoldEntry
  by_cases hmay : s.mayHold = true
  case neg => rw [if_neg hmay]; exact (Calm.refl s).stays
  have hrun : s.mode = .run := by
    unfold State.mayHold at hmay
    grind
  rw [if_pos hmay]
  extract_lets +onlyGivenNames k e x a y b c
  have hb : Calm s b := (Calm.refl s).setStroke.setCkp
  clear_value b
  have hc : Enters .hold s c := (hb.keeps (State.dropScheduled_keeps _)).enter
  have hlater := ((Calm.refl c).writePending (k := k) |>.keeps (State.traceEvent_keeps _ TRC_FRZ_ONHOLD 4)).reportHold (k := k)
  exact ((hc.calm hlater).moves (hrun ▸ .inr (.inr (by decide)))).next

/-- A lost clock leads from RUN to HOLD (17 R461). -/
theorem State.clockLoss_moves (s : State) : Moves s s.clockLoss := by
  unfold State.clockLoss
  refine .ite (Calm.refl s).moves ?_
  extract_lets +onlyGivenNames stat a
  have ha : Calm s a := by
    have hf : Calm s { s with clockLost := true, fltHw := s.fltHw ||| 1 } := (Calm.refl s).frame
    exact hf.fault
  split
  case isTrue hrun =>
    have hc : Calm a (a.setStroke { a.stroke with nextAt := none, started := false }) := (Calm.refl a).setStroke
    have he := (hc.keeps (State.dropScheduled_keeps _)).enter (m := .hold) |>.calm ((Calm.refl _).keeps (State.traceEvent_keeps _ TRC_FRZ_ONHOLD 4))
    exact (he.moves (hrun ▸ .inr (.inr (by decide)))).after ha
  case isFalse => exact ha.moves

/-! ### Resets, DORMANT and the start of bring-up (16 R436, R437, R438) -/

theorem State.wf_flashOnly (s : State) (h : Memory.wf s.mem = true) : Memory.wf (flashOnly (s.flashSelect 0).mem) = true :=
  Memory.wf_filter _ _ ((Calm.refl s).flashSelect.memOk h)

theorem State.porState_enters (s : State) (sel node : Nat) (wp : Bool) : Enters .bringUp s (s.porState sel node wp) := by
  refine Enters.calm ?_ (Calm.refl _).set.set.set
  exact ⟨rfl, rfl, fun _ => rfl, s.wf_flashOnly⟩

theorem State.warmState_enters (s : State) : Enters .bringUp s s.warmState := by
  refine Enters.calm ?_ (Calm.foldl (fun _ _ h => h.stackReady) (Calm.refl _).keepEn.emergencyFlags)
  exact ⟨rfl, rfl, rising_filter _ _, id⟩

theorem State.dormantState_enters (s : State) : Enters .dormant s s.dormantState := by
  refine Enters.calm ?_ (Calm.refl _).set.set.set
  exact ⟨rfl, rfl, rising_filter _ _, s.wf_flashOnly⟩

theorem State.startBoot_enters (s : State) (cause profile : Nat) : Enters .bringUp s (s.startBoot cause profile) := by
  unfold State.startBoot
  extract_lets +onlyGivenNames x a b
  have ha : Calm s a := (Calm.refl s).frame
  exact ha.enter.calm ((Calm.refl (a.enter .bringUp)).set.lanesDetect.bjStart)

theorem State.warmStart_enters (s : State) (cause : Nat) : Enters .bringUp s (s.warmStart cause) := by
  refine Enters.trans (m := if s.mode = .dormant then .dormant else .bringUp) (Enters.after ?_ ((Calm.refl s).frame (t := { s with pins := { s.pins with low := 0 } })))
    (State.startBoot_enters ..)
  by_cases hm : s.mode = .dormant
  · rw [if_pos hm, if_pos hm]
    exact (State.dormantState_enters _).frame
  · rw [if_neg hm, if_neg hm]
    exact State.warmState_enters _

theorem execSoundpostWake_moves (w : WakeSource) (s : State) : MovesTo s (execSoundpostWake w s) := by
  have hw : Calm s (s.wakeCause w) := (Calm.refl s).wakeCause
  have hstart := ((s.wakeCause w).startBoot_enters 2 ((s.wakeCause w).get SPT_WAKEPRF_PRF)).moves (Mode.leads_bringUp _)
  exact .ite (Calm.refl s).stays (Moves.ite (hstart.after hw) hw.moves).next

theorem execResetLow_moves (por : Bool) (s : State) : MovesTo s (execResetLow por s) := by
  unfold execResetLow
  refine .ite ?_ (.ite (Calm.refl s).stays ?_)
  · extract_lets t
    have ht : Enters .bringUp s t := s.porState_enters ..
    clear_value t
    exact (ht.frame.moves (Mode.leads_bringUp _)).next
  · extract_lets t
    have ht : Moves s t := .ite (Calm.refl s).moves (s.warmState_enters.moves (Mode.leads_bringUp _))
    clear_value t
    exact ⟨_, rfl, ht.pending, ht.mode, ht.regsOk, ht.memOk⟩

/-! ### Bring-up (16 R443-R446) -/

theorem State.afterStep_moves (s : State) (st result detail : Nat) (hs : s.mode = .bringUp) : Moves s (s.afterStep st result detail) := by
  unfold State.afterStep
  extract_lets +onlyGivenNames a x b
  have ha : Calm s a := .ite (Calm.refl s).mark (.refl s)
  have hb : Calm s b := by
    have hf : Calm s { a with boot := { a.boot with step := st + 1 } } := ha.frame
    exact hf.stepEnded
  have hup : b.mode = .bringUp := (hb.mode_of_ne (by rw [hs]; decide)).trans hs
  have hhalt : Calm s { b with boot := { b.boot with step := st } } := hb.frame
  refine .ite hhalt.bootHalt.moves (.ite ?_ (.ite ?_ hb.moves))
  · exact (b.dormantState_enters.moves (hup ▸ .inr (.inr (by decide)))).after hb
  · exact (((Calm.refl b).raise.enter (m := .ready)).moves (hup ▸ .inr (.inr (by decide)))).after hb

theorem State.bootStep_moves (s : State) (tries : List Try) (last : Option Try) (fail : Nat) (hs : s.mode = .bringUp) :
    Moves s (s.bootStep tries last fail) := by
  unfold State.bootStep
  extract_lets st a later b r
  have ha : Calm s a := (Calm.refl s).enterStep
  have hb : Calm s b := .ite ha ha.beginStep
  have hr : Calm s (if r.result = 3 then r.state else r.state.regRecords later) := .ite hb.runPolicy hb.runPolicy.regRecords
  refine (State.afterStep_moves _ _ _ _ ?_).after hr
  exact (hr.mode_of_ne (by rw [hs]; decide)).trans hs

theorem State.mode_of_bootRuns (s : State) (h : s.bootRuns = true) : s.mode = .bringUp := by
  unfold State.bootRuns at h
  grind

/-! ### Mode commands (16 R430) -/

theorem State.stopCommand_enters (s : State) : Enters .ready s s.stopCommand := (Calm.refl s).setStroke.setCkp.enter

theorem State.serviceCommand_enters (s : State) : Enters .service s s.serviceCommand :=
  Calm.enter (.ite (Calm.refl s).set.raise (Calm.refl s).set)

/-- ENDSERVICE leads to READY or HOLD; a RESTORE that came in SERVICE changes it no more (16 R435). -/
theorem State.endService_moves (s : State) (hs : s.mode = .service) : Moves s s.endService := by
  unfold State.endService
  extract_lets a
  have ha : Enters .hold s a ∨ Enters .ready s a := by
    unfold a
    split
    · exact .inl (((Calm.refl s).keeps s.dropScheduled_keeps).enter.calm ((Calm.refl _).keeps (State.traceEvent_keeps ..)))
    · exact .inr (s.enter_enters .ready)
  have hlater {t : State} (k : Calm a t) : Moves s t := by
    rcases ha with ha | ha
    · exact (ha.calm k).moves (hs ▸ .inr (.inr (by decide)))
    · refine ⟨k.pending.trans ha.pending, ?_, k.regsOk ∘ ha.regsOk, k.memOk ∘ ha.memOk⟩
      rcases k.mode with hk | ⟨_, hk⟩
      · rw [hk, ha.mode, hs]; exact .inr (.inr (by decide))
      · rw [hk, hs]; exact .inr (.inr (by decide))
  clear_value a
  split
  · exact hlater (Calm.refl a).setCkp.takeRestore.freeIdle
  · exact hlater (.refl a)

theorem State.sleepCommand_moves (s : State) (p : Nat) (hs : s.mode = .ready) : Moves s (s.sleepCommand p) := by
  unfold State.sleepCommand
  extract_lets m t
  have ht : Enters .dormant s t := (State.dormantState_enters _).after (Calm.refl s).set
  refine .ite (ht.moves (hs ▸ .inr (.inr (by decide)))) ?_
  exact ((ht.calm ((Calm.refl t).set.frame (t := t.setBits SPT_CAUSE_SLOT 0 m))).trans (State.startBoot_enters ..)).moves (Mode.leads_bringUp _)

theorem State.selectCommand_enters (s : State) (p : Nat) : Enters .bringUp s (s.selectCommand p) := by
  unfold State.selectCommand
  extract_lets +onlyGivenNames h a b x c
  have hb : Calm s b := (Calm.refl s).set.lower.set.set.set.set
  clear_value b
  have hc : Calm s c := hb.frame
  exact hc.enter.calm (Calm.refl _).bjStart

/-- A mode command that its mode allows makes a transition of the table. -/
theorem State.modeDo_moves (s v : State) (c : Nat) (hc : v.modeAllows c = true) (hv : s.mode = v.mode) : Moves s (s.modeDo c) := by
  have hd := s.disarm_keeps
  have hcalm : Calm s s.disarm := (Calm.refl s).keeps hd
  have hm : s.disarm.mode = v.mode := (hd.mode rfl).trans hv
  unfold State.modeAllows at hc
  unfold State.modeDo
  by_cases h1 : c = 1
  · rw [if_pos h1]; exact (Calm.refl s).startCommand.moves
  rw [if_neg h1]
  extract_lets u
  suffices h : Moves u _ from h.after hcalm
  have hready : c ≠ 3 → c ≠ 4 → c ≠ 5 → c ≠ 6 → c ≠ 8 → u.mode = .ready := by
    intro h3 h4 h5 h6 h8
    exact hm.trans (by simpa [h3, h4, h5, h6, h8] using hc)
  by_cases h3 : c = 3
  · rw [if_pos h3]; exact (Calm.refl u).goCommand.moves
  rw [if_neg h3]
  by_cases h4 : c = 4
  · have hs : u.mode = .hold := hm.trans (by simpa [h4] using hc)
    rw [if_pos h4]
    exact u.stopCommand_enters.moves (hs ▸ .inr (.inr (by decide)))
  rw [if_neg h4]
  by_cases h5 : c = 5
  · rw [if_pos h5]
    refine u.serviceCommand_enters.moves ?_
    have hs : v.mode = .ready ∨ v.mode = .hold := by simpa [h5] using hc
    rcases hs with hs | hs
    · rw [hm.trans hs]; exact .inr (.inr (by decide))
    · rw [hm.trans hs]; exact .inr (.inr (by decide))
  rw [if_neg h5]
  by_cases h6 : c = 6
  · rw [if_pos h6]
    exact u.endService_moves (hm.trans (by simpa [h6] using hc))
  rw [if_neg h6]
  by_cases h7 : c = 7
  · rw [if_pos h7]
    exact u.sleepCommand_moves _ (hready h3 h4 h5 h6 (by omega))
  rw [if_neg h7]
  by_cases h8 : c = 8
  · rw [if_pos h8]
    exact (u.warmStart_enters 3).moves (Mode.leads_bringUp _)
  rw [if_neg h8]
  exact .ite (u.sleepCommand_moves _ (hready h3 h4 h5 h6 h8)) (.ite ((u.selectCommand_enters _).moves (Mode.leads_bringUp _)) (Calm.refl u).moves)

/-- A command that is not refused finds the state as it was, in a mode that allows it. -/
theorem State.modeJudge_zero (s : State) (c : Nat) (h : (s.modeJudge c).1 = 0) : (s.modeJudge c).2 = s ∧ s.modeAllows c = true := by
  unfold State.modeJudge at h ⊢
  by_cases hk : (!modeCode? c) = true
  · rw [if_pos hk] at h; cases h
  rw [if_neg hk] at h ⊢
  by_cases ha : (!s.modeAllows c) = true
  · rw [if_pos ha] at h
    exact absurd h (by simp)
  rw [if_neg ha] at h ⊢
  refine ⟨?_, by simpa using ha⟩
  split at h
  · cases h
  · rename_i hb
    rw [if_neg hb]
    split
    · split
      · rename_i h1 _ r d he
        rw [if_pos h1, he] at h
        simp at h
      · rfl
    · rfl

/-! ### The dictionary (15 R400-R414) -/

/-- The writes of a response, on whatever transport. -/
def replyWrites : Writes :=
  { arriveWrites with regs := [.pci, .lec, .mgt], mem := true, lanes := true, fresh := true, msixPba := true, faults := true, xports := true, out := true }

theorem State.reply_keeps (s : State) (k : Nat) (l : List Nat) : Keeps replyWrites s (s.reply k l) := by
  unfold State.reply
  extract_lets +onlyGivenNames x u
  have hu : Keeps replyWrites s u := (s.setXport_keeps ..).mono
  clear_value u
  split
  · exact hu.andThen (State.answerHost_keeps ..)
  · exact hu.andThen (State.answerCore_keeps ..)
  · exact hu.andThen (State.canSend_keeps ..)
  · exact .ite (hu.andThen (State.pushCtl_keeps ..)) hu
  · exact hu

theorem Calm.entryPut {a : Agent} {x y v : Nat} (h : Calm s₀ s) : Calm s₀ (s.entryPut a x y v).2 := by
  unfold State.entryPut
  refine .iteSnd ?_ (.iteSnd h.bjClear (.iteSnd h.faultAck ?_))
  · split
    · exact h
    · exact h.keeps (State.setOwner_keeps ..)
  · split
    · exact h.mirrorWrite
    · exact h

theorem State.writeFixed_moves (s : State) (k : Nat) (q : Req) (e : Entry) : Moves s (s.writeFixed k q e) := by
  unfold State.writeFixed
  extract_lets fail v a
  refine .ite (Calm.refl s).reply.moves (.ite ?_ (.ite ?_ ?_))
  · split
    rename_i c t heq
    have ht : Calm s t := .of_eq (·.2) heq (Calm.refl s).modeJudge
    extract_lets u
    by_cases hc : c = 0
    · obtain ⟨hsame, hallows⟩ := s.modeJudge_zero v (by rw [heq]; exact hc)
      rw [heq] at hsame
      have hu : Keeps replyWrites s u := hsame ▸ t.reply_keeps ..
      rw [if_pos hc]
      exact (u.modeDo_moves s v hallows (hu.mode rfl)).after ((Calm.refl s).keeps hu)
    · rw [if_neg hc]
      exact ht.reply.moves
  · exact (Calm.ite (Calm.refl s).reply (Calm.refl s).rwpPut.persistIn).moves
  · exact ((Calm.refl s).entryPut.reply).moves

theorem Calm.segment {k : Nat} {q : Req} {data : List Nat} {o total : Nat} (h : Calm s₀ s) : Calm s₀ (s.segment k q data o total) := by
  unfold State.segment
  extract_lets e last a
  have ha : Calm s₀ a := h.setOpen
  exact .ite ha.eventPut.reply (.ite ha.reply (.ite ha.persistIn ha.reply))

theorem Calm.writeDomain {k : Nat} {q : Req} {e : Entry} (h : Calm s₀ s) : Calm s₀ (s.writeDomain k q e) := by
  unfold State.writeDomain
  extract_lets +onlyGivenNames cur stop
  have hstop {r : List Nat} : Calm s₀ (stop.reply k r) := h.setOpen.reply
  refine .ite (.ite hstop h.segment) ?_
  cases cur with
  | none => exact hstop
  | some t => exact .ite hstop (.ite hstop h.segment)

theorem State.serveEntry_moves (s : State) (k : Nat) (q : Req) : Moves s (s.serveEntry k q) := by
  unfold State.serveEntry
  refine .ite (Calm.refl s).reply.moves (.ite (Calm.refl s).reply.moves ?_)
  split
  · exact (Calm.refl s).reply.moves
  · refine .ite (Calm.refl s).reply.moves (.ite (Calm.refl s).serveRead.moves ?_)
    unfold State.serveWrite
    extract_lets fail
    exact .ite (Calm.refl s).reply.moves (.ite (Calm.refl s).reply.moves (.ite (Calm.refl s).writeDomain.moves (s.writeFixed_moves ..)))

theorem State.serve_moves (s : State) (k : Nat) (l : List Nat) : Moves s (s.serve k l) := by
  unfold State.serve
  extract_lets +onlyGivenNames q late x a
  have ha : Calm s a := (Calm.refl s).setXport
  exact .ite ha.reply.moves (.ite (ha.malformedFrom.reply.moves) (.ite ha.reply.moves ((a.serveEntry_moves k q).after ha)))

theorem State.dictServe_moves (s : State) (a : Agent) (l : List Nat) (fits : Nat → Bool) : Moves s (s.dictServe a l fits) := by
  unfold State.dictServe
  split
  · exact .ite (s.serve_moves ..) (Calm.refl s).moves
  · exact (Calm.refl s).moves

theorem State.dictCommand_moves (s : State) (a : Agent) (frame : List Byte) (second : Bool) (fits : Nat → Bool) :
    Moves s (s.dictCommand a frame second fits) := by
  have harr (p : Nat) : Calm s (s.canRequest p (frame.map (·.toNat))) := (Calm.refl s).keeps (State.canRequest_keeps ..)
  cases a with
  | can p =>
    simp only [State.dictCommand]
    split
    · exact .ite (s.dictServe_moves ..) (harr _).moves
    · exact (State.dictServe_moves ..).after (harr _)
  | host => exact s.dictServe_moves ..
  | core n => exact s.dictServe_moves ..
  | jtag => exact s.dictServe_moves ..
  | lane n => exact s.dictServe_moves ..

theorem State.writeCommand_moves (s : State) (a : Agent) (l : List Nat) : Moves s (s.writeCommand a l) := by
  unfold State.writeCommand
  extract_lets u
  have hu : Calm s u := by
    have harr : Calm s (s.arrive a l) := (Calm.refl s).keeps (State.arrive_keeps ..)
    unfold u
    split
    · exact .ite (.refl s) harr
    · exact harr
  clear_value u
  split
  · exact .ite ((u.serve_moves ..).after hu) hu.moves
  · exact hu.moves

end

section
variable {s₀ s : State}

theorem State.bootStepping_moves (s : State) (tries : List Try) (last : Option Try) (fail : Nat) :
    MovesTo s (if s.bootRuns then .next (s.bootStep tries last fail) else .next s) := by
  split
  case isTrue hr => exact (s.bootStep_moves tries last fail (s.mode_of_bootRuns hr)).next
  case isFalse => exact (Calm.refl s).stays

/-- Every command answers a next state; the mode stays or makes a transition. -/
theorem exec_moves (i : Instr) (s : State) : MovesTo s (exec i s) :=
  match i with
  | .bundleIssue .. => (execBundleIssue_leads (.refl s)).movesTo
  | .flitLanding .. => (execFlitLanding_leads (.refl s)).movesTo
  | .responseLanding .. => (execResponseLanding_leads (.refl s)).movesTo
  | .answerLanding .. => (execAnswerLanding_leads (.refl s)).movesTo
  | .stagedValueWrite .. => (execStagedValueWrite_leads (.refl s)).movesTo
  | .strokeStart => execStrokeStart_moves s
  | .boundaryWindowOpen => (execBoundaryWindowOpen_leads (.refl s)).movesTo
  | .stateBankFlip => (execStateBankFlip_leads (.refl s)).movesTo
  | .strokeNoAdvance => (execStrokeNoAdvance_leads (.refl s)).movesTo
  | .swapCheck => (execSwapCheck_leads (.refl s)).movesTo
  | .pagedSwap => (execPagedSwap_leads (.refl s)).movesTo
  | .runEntry => execRunEntry_moves s
  | .beaconSend => (execBeaconSend_leads (.refl s)).movesTo
  | .beacon .. => (execBeacon_leads (.refl s)).movesTo
  | .bcnLost => (execBcnLost_leads (.refl s)).movesTo
  | .handover => (execHandover_leads (.refl s)).movesTo
  | .periodWrite .. => (execPeriodWrite_leads (.refl s)).movesTo
  | .admission .. => (execAdmission_leads (.refl s)).movesTo
  | .windowRead .. => (execWindowRead_leads (.refl s)).movesTo
  | .windowWrite .. => (execWindowWrite_leads (.refl s)).movesTo
  | .pinj .. => (execPinj_leads (.refl s)).movesTo
  | .remapCommit .. => (execRemapCommit_leads (.refl s)).movesTo
  | .remapRevert .. => (execRemapRevert_leads (.refl s)).movesTo
  | .commitComplete .. => (execCommitComplete_leads (.refl s)).movesTo
  | .sparePowerRequest .. => (execSparePowerRequest_leads (.refl s)).movesTo
  | .sparePgood .. => (execSparePgood_leads (.refl s)).movesTo
  | .swapArm .. => (execSwapArm_leads (.refl s)).movesTo
  | .setpage .. => (execSetpage_leads (.refl s)).movesTo
  | .loaderClaim .. => (s.writeCommand_moves ..).next
  | .imgAddrWrite .. => (execImgAddrWrite_leads (.refl s)).movesTo
  | .apply .. => (execApply_leads (.refl s)).movesTo
  | .applyComplete => (execApplyComplete_leads (.refl s)).movesTo
  | .pathTableWrite .. => (execPathTableWrite_leads (.refl s)).movesTo
  | .unscheduledFlitForward .. => (execUnscheduledFlitForward_leads (.refl s)).movesTo
  | .drainWrite .. => (execDrainWrite_leads (.refl s)).movesTo
  | .channelSpareCommit .. => (execChannelSpareCommit_leads (.refl s)).movesTo
  | .laneEnable .. => (execLaneEnable_leads (.refl s)).movesTo
  | .retrain .. => (execRetrain_leads (.refl s)).movesTo
  | .signalPresent .. => (execSignalPresent_leads (.refl s)).movesTo
  | .trainingAdapted .. => (execTrainingAdapted_leads (.refl s)).movesTo
  | .trainTimeout .. => (execTrainTimeout_leads (.refl s)).movesTo
  | .syncReceived .. => (execSyncReceived_leads (.refl s)).movesTo
  | .lockTimeout .. => (execLockTimeout_leads (.refl s)).movesTo
  | .measureDone .. => (execMeasureDone_leads (.refl s)).movesTo
  | .measureTimeout .. => (execMeasureTimeout_leads (.refl s)).movesTo
  | .identMsg .. => (execIdentMsg_leads (.refl s)).movesTo
  | .identTimeout .. => (execIdentTimeout_leads (.refl s)).movesTo
  | .lossOfSignal .. => (execLossOfSignal_leads (.refl s)).movesTo
  | .syncMissing .. => (execSyncMissing_leads (.refl s)).movesTo
  | .uncorrectableCodeword .. => (execUncorrectableCodeword_leads (.refl s)).movesTo
  | .scheduledFlitTransmit .. => (execScheduledFlitTransmit_leads (.refl s)).movesTo
  | .scheduledBeat .. => (execScheduledBeat_leads (.refl s)).movesTo
  | .controlMessageSend .. => (execControlMessageSend_leads (.refl s)).movesTo
  | .timestampPeriod .. => (execTimestampPeriod_leads (.refl s)).movesTo
  | .tsreq .. => (execTsreq_leads (.refl s)).movesTo
  | .tsrsp .. => (execTsrsp_leads (.refl s)).movesTo
  | .credit .. => (execCredit_leads (.refl s)).movesTo
  | .pstat .. => (execPstat_leads (.refl s)).movesTo
  | .holdreq .. => (execHoldreq_leads (.refl s)).movesTo
  | .dictMsg .. => (execDictMsg_leads (.refl s)).movesTo
  | .unscheduledPair .. => (execUnscheduledPair_leads (.refl s)).movesTo
  | .utxdWrite .. => (execUtxdWrite_leads (.refl s)).movesTo
  | .urxPop .. => (execUrxPop_leads (.refl s)).movesTo
  | .lnkCalWrite .. => (execLnkCalWrite_leads (.refl s)).movesTo
  | .laneRemapCommit .. => (execLaneRemapCommit_leads (.refl s)).movesTo
  | .laneRemapRevert .. => (execLaneRemapRevert_leads (.refl s)).movesTo
  | .annStart .. => (execAnnStart_leads (.refl s)).movesTo
  | .annResume .. => (execAnnResume_leads (.refl s)).movesTo
  | .ckpDone .. => (execCkpDone_leads (.refl s)).movesTo
  | .ckpSwapped .. => (execCkpSwapped_leads (.refl s)).movesTo
  | .ckpCancelled .. => (execCkpCancelled_leads (.refl s)).movesTo
  | .ckpFailed .. => (execCkpFailed_leads (.refl s)).movesTo
  | .annComplete .. => (execAnnComplete_leads (.refl s)).movesTo
  | .restored .. => (execRestored_leads (.refl s)).movesTo
  | .held .. => (execHeld_leads (.refl s)).movesTo
  | .heldFault .. => (execHeldFault_leads (.refl s)).movesTo
  | .heldStop .. => (execHeldStop_leads (.refl s)).movesTo
  | .annRestore .. => (execAnnRestore_leads (.refl s)).movesTo
  | .doneReport => (execDoneReport_leads (.refl s)).movesTo
  | .reportWaitTimeout => (execReportWaitTimeout_leads (.refl s)).movesTo
  | .slotPreparation .. => (execSlotPreparation_leads (.refl s)).movesTo
  | .holdEntry => execHoldEntry_moves s
  | .restoreDone .. => (execRestoreDone_leads (.refl s)).movesTo
  | .reqhold => (execReqhold_leads (.refl s)).movesTo
  | .go => (execGo_leads (.refl s)).movesTo
  | .restoreCommand .. => (execRestoreCommand_leads (.refl s)).movesTo
  | .adoptWrite => (execAdoptWrite_leads (.refl s)).movesTo
  | .swackWrite => (execSwackWrite_leads (.refl s)).movesTo
  | .nop .. => (execNop_leads (.refl s)).movesTo
  | .movr .. => (execMovr_leads (.refl s)).movesTo
  | .exr .. => (execExr_leads (.refl s)).movesTo
  | .incDec .. => (execIncDec_leads (.refl s)).movesTo
  | .neg .. => (execNeg_leads (.refl s)).movesTo
  | .notA .. => (execNotA_leads (.refl s)).movesTo
  | .clc .. => (execClc_leads (.refl s)).movesTo
  | .sec .. => (execSec_leads (.refl s)).movesTo
  | .shliShriSraiRoli .. => (execShliShriSraiRoli_leads (.refl s)).movesTo
  | .popc .. => (execPopc_leads (.refl s)).movesTo
  | .pushaPushxPushy .. => (execPushaPushxPushy_leads (.refl s)).movesTo
  | .popaPopxPopy .. => (execPopaPopxPopy_leads (.refl s)).movesTo
  | .ret .. => (execRet_leads (.refl s)).movesTo
  | .reti .. => (execReti_leads (.refl s)).movesTo
  | .jmpx .. => (execJmpx_leads (.refl s)).movesTo
  | .callx .. => (execCallx_leads (.refl s)).movesTo
  | .rspush .. => (execRspush_leads (.refl s)).movesTo
  | .rspop .. => (execRspop_leads (.refl s)).movesTo
  | .rscnt .. => (execRscnt_leads (.refl s)).movesTo
  | .rsx .. => (execRsx_leads (.refl s)).movesTo
  | .syncOp .. => (execSyncOp_leads (.refl s)).movesTo
  | .synci .. => (execSynci_leads (.refl s)).movesTo
  | .waitOp .. => (execWaitOp_leads (.refl s)).movesTo
  | .syscall .. => (execSyscall_leads (.refl s)).movesTo
  | .brk .. => (execBrk_leads (.refl s)).movesTo
  | .tlbinv .. => (execTlbinv_leads (.refl s)).movesTo
  | .tlbsync .. => (execTlbsync_leads (.refl s)).movesTo
  | .dcinv .. => (execDcinv_leads (.refl s)).movesTo
  | .icinv .. => (execIcinv_leads (.refl s)).movesTo
  | .mfcr .. => (execMfcr_leads (.refl s)).movesTo
  | .mtcr .. => (execMtcr_leads (.refl s)).movesTo
  | .lda .. => (execLda_leads (.refl s)).movesTo
  | .ldas .. => (execLdas_leads (.refl s)).movesTo
  | .ldxLdy .. => (execLdxLdy_leads (.refl s)).movesTo
  | .sta .. => (execSta_leads (.refl s)).movesTo
  | .stxSty .. => (execStxSty_leads (.refl s)).movesTo
  | .lea .. => (execLea_leads (.refl s)).movesTo
  | .add .. => (execAdd_leads (.refl s)).movesTo
  | .adc .. => (execAdc_leads (.refl s)).movesTo
  | .sub .. => (execSub_leads (.refl s)).movesTo
  | .sbc .. => (execSbc_leads (.refl s)).movesTo
  | .andOrXor .. => (execAndOrXor_leads (.refl s)).movesTo
  | .cmpCmpxCmpy .. => (execCmpCmpxCmpy_leads (.refl s)).movesTo
  | .mul .. => (execMul_leads (.refl s)).movesTo
  | .mulhuMulhs .. => (execMulhuMulhs_leads (.refl s)).movesTo
  | .divuRemuDivsRems .. => (execDivuRemuDivsRems_leads (.refl s)).movesTo
  | .shlShrSraRol .. => (execShlShrSraRol_leads (.refl s)).movesTo
  | .addxAddy .. => (execAddxAddy_leads (.refl s)).movesTo
  | .lddpLdsp .. => (execLddpLdsp_leads (.refl s)).movesTo
  | .ldhi .. => (execLdhi_leads (.refl s)).movesTo
  | .jmp .. => (execJmp_leads (.refl s)).movesTo
  | .call .. => (execCall_leads (.refl s)).movesTo
  | .tst .. => (execTst_leads (.refl s)).movesTo
  | .ldst .. => (execLdst_leads (.refl s)).movesTo
  | .addsp .. => (execAddsp_leads (.refl s)).movesTo
  | .bcc .. => (execBcc_leads (.refl s)).movesTo
  | .vadd .. => (execVadd_leads (.refl s)).movesTo
  | .vsub .. => (execVsub_leads (.refl s)).movesTo
  | .vmul .. => (execVmul_leads (.refl s)).movesTo
  | .vminuVmaxuVminsVmaxs .. => (execVminuVmaxuVminsVmaxs_leads (.refl s)).movesTo
  | .vandVorVxorVandn .. => (execVandVorVxorVandn_leads (.refl s)).movesTo
  | .vshlVshrVsra .. => (execVshlVshrVsra_leads (.refl s)).movesTo
  | .vshli .. => (execVshli_leads (.refl s)).movesTo
  | .vceqVcltuVclts .. => (execVceqVcltuVclts_leads (.refl s)).movesTo
  | .vmsk .. => (execVmsk_leads (.refl s)).movesTo
  | .vsel .. => (execVsel_leads (.refl s)).movesTo
  | .vmov .. => (execVmov_leads (.refl s)).movesTo
  | .vsplat .. => (execVsplat_leads (.refl s)).movesTo
  | .vpopc .. => (execVpopc_leads (.refl s)).movesTo
  | .vins .. => (execVins_leads (.refl s)).movesTo
  | .vext .. => (execVext_leads (.refl s)).movesTo
  | .vsetvl .. => (execVsetvl_leads (.refl s)).movesTo
  | .vradd .. => (execVradd_leads (.refl s)).movesTo
  | .vrxor .. => (execVrxor_leads (.refl s)).movesTo
  | .vrminuVrmaxu .. => (execVrminuVrmaxu_leads (.refl s)).movesTo
  | .vrpopc .. => (execVrpopc_leads (.refl s)).movesTo
  | .vcompress .. => (execVcompress_leads (.refl s)).movesTo
  | .vexpand .. => (execVexpand_leads (.refl s)).movesTo
  | .vcrc .. => (execVcrc_leads (.refl s)).movesTo
  | .vld .. => (execVld_leads (.refl s)).movesTo
  | .vst .. => (execVst_leads (.refl s)).movesTo
  | .vgather .. => (execVgather_leads (.refl s)).movesTo
  | .vscatter .. => (execVscatter_leads (.refl s)).movesTo
  | .eventAcceptance .. => (execEventAcceptance_leads (.refl s)).movesTo
  | .bufferedStore .. => (execBufferedStore_leads (.refl s)).movesTo
  | .serviceRequest .. => (execServiceRequest_leads (.refl s)).movesTo
  | .invalidationReceived .. => (execInvalidationReceived_leads (.refl s)).movesTo
  | .invalidationAck .. => (execInvalidationAck_leads (.refl s)).movesTo
  | .tlbsyncTimeout .. => (execTlbsyncTimeout_leads (.refl s)).movesTo
  | .lkcmdWrite .. => (execLkcmdWrite_leads (.refl s)).movesTo
  | .unlock .. => (execUnlock_leads (.refl s)).movesTo
  | .lkcmdRead .. => (execLkcmdRead_leads (.refl s)).movesTo
  | .cvuRelease .. => (execCvuRelease_leads (.refl s)).movesTo
  | .cvuWake .. => (execCvuWake_leads (.refl s)).movesTo
  | .cvuWakeDone .. => (execCvuWakeDone_leads (.refl s)).movesTo
  | .cvuRetention .. => (execCvuRetention_leads (.refl s)).movesTo
  | .cvuOff .. => (execCvuOff_leads (.refl s)).movesTo
  | .sourceChange .. => (execSourceChange_leads (.refl s)).movesTo
  | .triggerRecord .. => (execTriggerRecord_leads (.refl s)).movesTo
  | .lecSwevWrite .. => (execLecSwevWrite_leads (.refl s)).movesTo
  | .lecPclrWrite .. => (execLecPclrWrite_leads (.refl s)).movesTo
  | .lecPendWrite .. => (execLecPendWrite_leads (.refl s)).movesTo
  | .lecSenseWrite .. => (execLecSenseWrite_leads (.refl s)).movesTo
  | .trqPop .. => (execTrqPop_leads (.refl s)).movesTo
  | .gecReassignment .. => (execGecReassignment_leads (.refl s)).movesTo
  | .soundpostWake w => execSoundpostWake_moves w s
  | .tmeRequest .. => (execTmeRequest_leads (.refl s)).movesTo
  | .channelFailure .. => (execChannelFailure_leads (.refl s)).movesTo
  | .rebuildGroup .. => (execRebuildGroup_leads (.refl s)).movesTo
  | .zeroFillDone .. => (execZeroFillDone_leads (.refl s)).movesTo
  | .flashErase .. => (execFlashErase_leads (.refl s)).movesTo
  | .flashProgram .. => (execFlashProgram_leads (.refl s)).movesTo
  | .flashCommandDone .. => (execFlashCommandDone_leads (.refl s)).movesTo
  | .bar0Access .. => (execBar0Access_leads (.refl s)).movesTo
  | .bar2Access .. => (execBar2Access_leads (.refl s)).movesTo
  | .flr => (execFlr_leads (.refl s)).movesTo
  | .conventionalReset => (execConventionalReset_leads (.refl s)).movesTo
  | .pcieLinkChange .. => (execPcieLinkChange_leads (.refl s)).movesTo
  | .channelEnable .. => (execChannelEnable_leads (.refl s)).movesTo
  | .msixMessage .. => (execMsixMessage_leads (.refl s)).movesTo
  | .outputRelease .. => (execOutputRelease_leads (.refl s)).movesTo
  | .pendload => (execPendload_leads (.refl s)).movesTo
  | .mailboxRequest => (execMailboxRequest_leads (.refl s)).movesTo
  | .dictRead .. => (s.dictCommand_moves ..).next
  | .dictWrite .. => (s.dictCommand_moves ..).next
  | .dictAbort .. => (s.dictCommand_moves ..).next
  | .dictDescribe .. => (s.dictCommand_moves ..).next
  | .dictNext .. => (s.dictCommand_moves ..).next
  | .rwpPersist .. => (execRwpPersist_leads (.refl s)).movesTo
  | .transferTimeout .. => (execTransferTimeout_leads (.refl s)).movesTo
  | .localPortRequest .. => (execLocalPortRequest_leads (.refl s)).movesTo
  | .ldictRequest .. => (execLdictRequest_leads (.refl s)).movesTo
  | .ldictTimeout .. => (execLdictTimeout_leads (.refl s)).movesTo
  | .heartbeat => (execHeartbeat_leads (.refl s)).movesTo
  | .claim .. => (execClaim_leads (.refl s)).movesTo
  | .nodeClaimTimeout => (execNodeClaimTimeout_leads (.refl s)).movesTo
  | .heartbeatReceived .. => (execHeartbeatReceived_leads (.refl s)).movesTo
  | .busOff .. => (execBusOff_leads (.refl s)).movesTo
  | .busOffRecovery .. => (execBusOffRecovery_leads (.refl s)).movesTo
  | .startCommand .. => (s.writeCommand_moves ..).next
  | .disarmCommand .. => (s.writeCommand_moves ..).next
  | .resumeCommand .. => (s.writeCommand_moves ..).next
  | .stopCommand .. => (s.writeCommand_moves ..).next
  | .serviceCommand .. => (s.writeCommand_moves ..).next
  | .endserviceCommand .. => (s.writeCommand_moves ..).next
  | .sleepCommand .. => (s.writeCommand_moves ..).next
  | .sleepProfile .. => (s.writeCommand_moves ..).next
  | .rebootCommand .. => (s.writeCommand_moves ..).next
  | .selectCommand .. => (s.writeCommand_moves ..).next
  | .porRelease .. => (((s.porState_enters ..).trans (State.startBoot_enters ..)).moves (Mode.leads_bringUp _)).next
  | .warmReset => .ite ((s.warmStart_enters 1).moves (Mode.leads_bringUp _)).next (Calm.refl s).stays
  | .bootStep tries jfail => s.bootStepping_moves tries none jfail.toNat
  | .bootStepTimeout tries last jfail => s.bootStepping_moves tries (some last) jfail.toNat
  | .bjClear .. => (execBjClear_leads (.refl s)).movesTo
  | .refclkLoss => .ite (Calm.refl s).stays ((State.clockLoss_moves _).after (Calm.refl s).raise).next
  | .lossOfLock => .ite ((State.clockLoss_moves _).after (Calm.refl s).lower.raise.bump).next (Calm.refl s).stays
  | .domainSwitch .. => (execDomainSwitch_leads (.refl s)).movesTo
  | .domainOn .. => (execDomainOn_leads (.refl s)).movesTo
  | .domainFault .. => (execDomainFault_leads (.refl s)).movesTo
  | .sensorSample .. => (execSensorSample_leads (.refl s)).movesTo
  | .thermalTrip .. => (execThermalTrip_leads (.refl s)).movesTo
  | .pmbusPoll .. => (execPmbusPoll_leads (.refl s)).movesTo
  | .pmbusCommand .. => (execPmbusCommand_leads (.refl s)).movesTo
  | .pmbusDone .. => (execPmbusDone_leads (.refl s)).movesTo
  | .traceMessage => (execTraceMessage_leads (.refl s)).movesTo
  | .probeCapture .. => (execProbeCapture_leads (.refl s)).movesTo
  | .trcSwmsg .. => (execTrcSwmsg_leads (.refl s)).movesTo
  | .frzNow => (execFrzNow_leads (.refl s)).movesTo
  | .frozen => (execFrozen_leads (.refl s)).movesTo
  | .traceEnable => (execTraceEnable_leads (.refl s)).movesTo
  | .debugHalt .. => (execDebugHalt_leads (.refl s)).movesTo
  | .debugRun .. => (execDebugRun_leads (.refl s)).movesTo
  | .debugStep .. => (execDebugStep_leads (.refl s)).movesTo
  | .breakpointHit .. => (execBreakpointHit_leads (.refl s)).movesTo
  | .tapReset => (execTapReset_leads (.refl s)).movesTo
  | .extest .. => (execExtest_leads (.refl s)).movesTo
  | .samplePreload .. => (execSamplePreload_leads (.refl s)).movesTo
  | .idcode => (execIdcode_leads (.refl s)).movesTo
  | .clamp => (execClamp_leads (.refl s)).movesTo
  | .highz => (execHighz_leads (.refl s)).movesTo
  | .extestPulse .. => (execExtestPulse_leads (.refl s)).movesTo
  | .extestTrain .. => (execExtestTrain_leads (.refl s)).movesTo
  | .memacc .. => (execMemacc_leads (.refl s)).movesTo
  | .tapstat => (execTapstat_leads (.refl s)).movesTo
  | .bypass .. => (execBypass_leads (.refl s)).movesTo
  | .faultAck .. => (execFaultAck_leads (.refl s)).movesTo
  | .moduleFault .. => (execModuleFault_leads (.refl s)).movesTo
  | .registerWrite .. => (execRegisterWrite_leads (.refl s)).movesTo
  | .domainOff .. => (execDomainOff_leads (.refl s)).movesTo
  | .resetLow por => execResetLow_moves por s
  | .reservedCtype .. => (execReservedCtype_leads (.refl s)).movesTo
  | .beatKindMismatch .. => (execBeatKindMismatch_leads (.refl s)).movesTo
  | .fenceLead => (execFenceLead_leads (.refl s)).movesTo
  | .canBusError .. => (execCanBusError_leads (.refl s)).movesTo
  | .ignoredFrame .. => (execIgnoredFrame_leads (.refl s)).movesTo
  | .reservedCmd .. => (s.dictCommand_moves ..).next

end

/-! ### Steps -/

/-- Settles O1. `step` finds the command at the front of the queue. -/
theorem stepRunsFrontCommand : Obligations.StepRunsFrontCommand := by
  intro c rest s h
  rw [step, h]

/-- Settles O2. Every command answers a next state (`exec_moves`), and none touches the queue. -/
theorem everyCommandAnswers : Obligations.EveryCommandAnswers := by
  intro c s
  obtain ⟨t, ht, hm⟩ := exec_moves c s
  exact ⟨t, ht, hm.pending⟩

/-- A step leaves the canonical forms and makes a transition of the mode at most. -/
theorem step_moves (s t : State) (h : step s = .next t) :
    s.mode.leads t.mode ∧ (rising s.regs = true → rising t.regs = true) ∧ (Memory.wf s.mem = true → Memory.wf t.mem = true) := by
  cases hq : s.pending with
  | nil =>
    rw [step_idle s hq] at h
    cases h
    have hm := (Calm.refl s).tick.moves
    exact ⟨hm.mode, hm.regsOk, hm.memOk⟩
  | cons c rest =>
    obtain ⟨u, hu, hm⟩ := exec_moves c { s with pending := rest }
    rw [stepRunsFrontCommand c rest s hq, hu] at h
    cases h
    exact ⟨hm.mode, hm.regsOk, hm.memOk⟩

/-- Settles O3. Registers are written by keys in order, and memory bytes by `setByte` or cut out by a filter (`step_moves`). -/
theorem stepKeepsCanonicalStores : Obligations.StepKeepsCanonicalStores := by
  intro s t hs h
  obtain ⟨hregs, hmem⟩ := hs
  obtain ⟨-, hr, hm⟩ := step_moves s t h
  exact ⟨hr hregs, hm hmem⟩

/-- Settles O60. The commands that enter a mode do so from the modes of the table; every other one keeps the mode, but for an ADOPT in
READY, which enters HOLD (`step_moves`). -/
theorem modeTransitions : Obligations.ModeTransitions := by
  intro s t h
  obtain ⟨hmode, -⟩ := step_moves s t h
  exact hmode

/-- Settles O4. Every store of the reset state is empty. -/
theorem resetStoresCanonical : Obligations.ResetStoresCanonical := ⟨⟨rfl, rfl⟩, rfl, rfl⟩

end Sys2Proof.Machine
end

section
/-! SUPPORT. The test access port (18 R489, R490, R492): what a scan keeps of a bit vector, and the fields of TAPSTAT. -/

namespace Sys2Proof.Machine

set_option Elab.async false

/-- A number below 2 ^ n with the bit n added: the bit n is set and the lower ones stay. -/
theorem testBit_add_two_pow {a n : Nat} (ha : a < 2 ^ n) (i : Nat) : (a + 2 ^ n).testBit i = (decide (i = n) || a.testBit i) := by
  rw [Nat.add_comm]
  rcases Nat.lt_trichotomy i n with h | rfl | h
  · rw [Nat.testBit_two_pow_add_gt h, decide_eq_false h.ne, Bool.false_or]
  · rw [Nat.testBit_two_pow_add_eq, Nat.testBit_lt_two_pow ha]
    simp
  · have hlt : 2 ^ n + a < 2 ^ i := by
      have := Nat.pow_le_pow_right (n := 2) (by decide) (show n + 1 ≤ i from h)
      omega
    rw [Nat.testBit_lt_two_pow hlt, Nat.testBit_lt_two_pow (lt_of_le_of_lt (Nat.le_add_left a _) hlt), decide_eq_false h.ne']
    rfl

/-- The number whose bits below n are those that p names. -/
def bitsWhere (p : Nat → Bool) (n : Nat) : Nat := (List.range n).foldl (fun a i => if p i then a + 2 ^ i else a) 0

theorem bitsWhere_succ (p : Nat → Bool) (n : Nat) : bitsWhere p (n + 1) = if p n then bitsWhere p n + 2 ^ n else bitsWhere p n := by
  simp [bitsWhere, List.range_succ]

theorem bitsWhere_lt (p : Nat → Bool) (n : Nat) : bitsWhere p n < 2 ^ n := by
  induction n with
  | zero => simp [bitsWhere]
  | succ n ih =>
    rw [bitsWhere_succ, pow_succ]
    split <;> omega

theorem testBit_bitsWhere (p : Nat → Bool) (n i : Nat) : (bitsWhere p n).testBit i = (decide (i < n) && p i) := by
  induction n with
  | zero => simp [bitsWhere]
  | succ n ih =>
    rw [bitsWhere_succ]
    by_cases hin : i = n
    · subst hin
      cases hp : p i with
      | true => simp [testBit_add_two_pow (bitsWhere_lt p i)]
      | false => simp [ih]
    · have hlt : (i < n + 1) ↔ i < n := by omega
      split
      · simp [testBit_add_two_pow (bitsWhere_lt p n), ih, hin, hlt]
      · simp [ih, hlt]

theorem bit_eq_testBit (n i : Nat) : bit n i = n.testBit i := by
  rw [bit, Nat.testBit_eq_decide_div_mod_eq]
  rfl

/-- A boundary-scan instruction captures the live cells, and takes new latches where the cells drive (18 R490). -/
theorem State.boundaryScan_bits (s : State) (ir : Nat) (cap upd : BitVec 1080) :
    ∃ c u, s.boundaryScan ir cap.toNat upd.toNat = { s with tap := { s.tap with ir := ir, scan := c, latch := u }, out := s.out ++ [.tap 1 c] } ∧
      ∀ i, i < 1080 → c.testBit i = (cap.getLsbD i && s.scanLive i) ∧
        u.testBit i = (scanDrives i && (if s.scanLive i then upd.getLsbD i else s.tap.latch.testBit i)) := by
  refine ⟨bitsWhere (fun i => bit cap.toNat i && s.scanLive i) 1080,
    bitsWhere (fun i => scanDrives i && bit (if s.scanLive i then upd.toNat else s.tap.latch) i) 1080, ?_, fun i hi => ?_⟩
  · simp only [State.boundaryScan, State.scanMask, State.tapScan, State.emit, irCapture, bitsWhere]
  rw [testBit_bitsWhere, testBit_bitsWhere, decide_eq_true hi]
  refine ⟨congrArg (· && s.scanLive i) (bit_eq_testBit ..), ?_⟩
  rw [Bool.true_and, apply_ite (bit · i), bit_eq_testBit, bit_eq_testBit]
  rfl

theorem State.modeCode_lt (s : State) : s.modeCode < 8 := by
  unfold State.modeCode
  cases s.mode with
  | run => cases s.flag CKP_STAT_REPLAY <;> simp
  | _ => simp

/-- The fields of TAPSTAT (18 R492). -/
theorem State.tapStat_fields (s : State) (hstep : s.get BJ_STAT_STEP < 64) (hhalt : s.get BJ_STAT_HALTED < 2)
    (hlock : s.get CLK_GEN_STAT_LOCK < 2) (hloss : s.get CLK_GEN_STAT_REFLOSS < 2) :
    bits s.tapStat 5 0 = s.get BJ_STAT_STEP ∧ s.tapStat.testBit 6 = s.flag BJ_STAT_HALTED ∧ bits s.tapStat 9 7 = s.modeCode ∧
      s.tapStat.testBit 10 = s.flag CLK_GEN_STAT_LOCK ∧ s.tapStat.testBit 11 = s.flag CLK_GEN_STAT_REFLOSS ∧
      s.tapStat.testBit 12 = s.pins.trip ∧ bits s.tapStat 31 13 = 0 := by
  have hmode := s.modeCode_lt
  have htrip : s.pins.trip = (b2n s.pins.trip == 1) := by cases s.pins.trip <;> rfl
  have htrip' : b2n s.pins.trip < 2 := by cases s.pins.trip <;> decide
  rw [htrip]
  simp only [State.flag, bits, Nat.testBit_eq_decide_div_mod_eq, State.tapStat] at *
  generalize s.get BJ_STAT_STEP = a at *
  generalize s.get BJ_STAT_HALTED = b at *
  generalize s.get CLK_GEN_STAT_LOCK = c at *
  generalize s.get CLK_GEN_STAT_REFLOSS = d at *
  generalize s.modeCode = m at *
  generalize b2n s.pins.trip = t at *
  refine ⟨by omega, ?_, by omega, ?_, ?_, ?_, by omega⟩
  · exact decide_eq_decide.mpr (by omega)
  · exact decide_eq_decide.mpr (by omega)
  · exact decide_eq_decide.mpr (by omega)
  · exact decide_eq_decide.mpr (by omega)

/-- Settles O7. Each instruction is one scan of its register: a fixed value, the bypass bit, or the bits of the live cells
(`boundaryScan_bits`). -/
theorem testAccessPort : Obligations.TestAccessPort := by
  unfold Obligations.TestAccessPort
  refine ⟨?tapReset, ?idcode, ?tapstat, ?clamp, ?highz, ?bypass, ?extest, ?samplePreload, ?extestPulse, ?extestTrain⟩
  case tapReset => intro s; rfl
  case idcode =>
    intro s
    have hv : idcodeValue = 0x18192000 + 2 * Config.jep106.toNat + 1 := by
      rw [idcodeValue, Nat.mul_comm]
    rw [← hv]
    rfl
  case tapstat =>
    intro s hstep hhalt hlock hloss
    exact ⟨s.tapStat, rfl, s.tapStat_fields hstep hhalt hlock hloss⟩
  case clamp => intro s; rfl
  case highz => intro s; rfl
  case bypass => intro code s _ _ _; rfl
  case extest =>
    intro cap upd s
    obtain ⟨c, u, hscan, hbits⟩ := s.boundaryScan_bits 0 cap upd
    exact ⟨c, u, congrArg Host.Outcome.next hscan, hbits⟩
  case samplePreload =>
    intro cap upd s
    obtain ⟨c, u, hscan, hbits⟩ := s.boundaryScan_bits 1 cap upd
    exact ⟨c, u, congrArg Host.Outcome.next hscan, hbits⟩
  case extestPulse =>
    intro cap upd s
    obtain ⟨c, u, hscan, hbits⟩ := s.boundaryScan_bits 5 cap upd
    exact ⟨c, u, congrArg Host.Outcome.next hscan, hbits⟩
  case extestTrain =>
    intro cap upd s
    obtain ⟨c, u, hscan, hbits⟩ := s.boundaryScan_bits 6 cap upd
    exact ⟨c, u, congrArg Host.Outcome.next hscan, hbits⟩

end Sys2Proof.Machine
end

section
/-! SUPPORT. Numbers in memory: a read of the bytes that a write leaves. -/

namespace Sys2Proof.Machine

set_option Elab.async false

theorem State.bytes_setBytes (s : State) (a : Nat) (l : List Byte) : (s.setBytes a l).bytes a l.length = l := by
  induction l generalizing s a with
  | nil => rfl
  | cons b t ih =>
    have hb : (s.setBytes a (b :: t)).byte a = b := s.byte_setBytes_inside a 0 (b :: t) (Nat.zero_lt_succ _)
    rw [List.length_cons, State.bytes, hb, State.setBytes, ih]

theorem ofLe_leBytes (n v : Nat) : ofLe (leBytes n v) = v % 256 ^ n := by
  induction n generalizing v with
  | zero => simp [leBytes, ofLe, Nat.mod_one]
  | succ n ih => rw [leBytes, ofLe, ih, pow_succ, Nat.mul_comm (256 ^ n), Nat.mod_mul, Nat.mod_mod]

theorem leBytes_lt (n v : Nat) : ∀ b ∈ leBytes n v, b < 256 := by
  induction n generalizing v with
  | zero => exact fun b hb => nomatch hb
  | succ n ih =>
    intro b hb
    rcases List.mem_cons.mp hb with rfl | hb
    · exact Nat.mod_lt _ (by decide)
    · exact ih _ b hb

theorem map_toNat_ofNat (l : List Nat) (h : ∀ b ∈ l, b < 256) : (l.map (BitVec.ofNat 8 ·)).map (·.toNat) = l := by
  rw [List.map_map]
  exact (List.map_congr_left fun b hb => Nat.mod_eq_of_lt (h b hb)).trans (List.map_id' l)

theorem State.num_setNum (s : State) (a n v : Nat) : (s.setNum a n v).num a n = v % 256 ^ n := by
  have hlen : ((leBytes n v).map (BitVec.ofNat 8 ·)).length = n := by rw [List.length_map, leBytes_length]
  have hb := s.bytes_setBytes a ((leBytes n v).map (BitVec.ofNat 8 ·))
  rw [hlen] at hb
  rw [State.num, State.setNum, hb, map_toNat_ofNat _ (leBytes_lt n v), ofLe_leBytes]

theorem State.byte_of_mem {s t : State} (h : t.mem = s.mem) (a : Nat) : t.byte a = s.byte a := by
  rw [State.byte, State.byte, h]

end Sys2Proof.Machine
end

section
/-! SUPPORT. The memory access port (18 R491): what MEMACC captures, and the memory it reads and writes. -/

namespace Sys2Proof.Machine

set_option Elab.async false

/-- The state behind the scan of MEMACC: it captures the result of the access before. -/
def State.maccScanned (s : State) : State := s.tapScan 0x10 s.tap.macc

/-- What MEMACC shows with the next scan. -/
def State.withMacc (s : State) (v : Nat) : State := { s with tap := { s.tap with macc := v } }

theorem region_not_flash {a : Nat} (h : region a = .hbm) (s : State) : s.flashWaits a = false := by
  simp [State.flashWaits, h]

/-- An aligned read of HBM is done with its command (log 74). -/
theorem exec_memacc_read (addr : BitVec 46) (d : Word) (s : State) (hon : s.domOn 760 = true) (hal : addr.toNat % 8 = 0)
    (hr : region addr.toNat = .hbm) (hidle : s.flash.macc = none) :
    exec (.memacc addr false true d) s = .next (s.maccScanned.maccRead addr.toNat .ok) := by
  have hon' : s.maccScanned.domOn 760 = true := hon
  have hidle' : s.maccScanned.flash.macc = none := hidle
  have hw : s.maccScanned.flashWaits addr.toNat = false := region_not_flash hr _
  unfold State.maccScanned at hon' hidle' hw
  simp [exec, execMemacc, hon', hidle', hal, hw, State.maccScanned]

/-- An aligned write is done with its command. -/
theorem exec_memacc_write (addr : BitVec 46) (d : Word) (s : State) (hon : s.domOn 760 = true) (hal : addr.toNat % 8 = 0)
    (hr : region addr.toNat = .hbm) (hmem : s.memOn addr.toNat = true) (hidle : s.flash.macc = none) :
    exec (.memacc addr true true d) s =
      .next ((s.maccScanned.hbmWrite addr.toNat ((leBytes 8 d.toNat).map (BitVec.ofNat 8 ·))).withMacc 1) := by
  have hon' : s.maccScanned.domOn 760 = true := hon
  have hidle' : s.maccScanned.flash.macc = none := hidle
  have hwrite : s.maccScanned.busWrite .jtag addr.toNat 8 d.toNat =
      (false, s.maccScanned.hbmWrite addr.toNat ((leBytes 8 d.toNat).map (BitVec.ofNat 8 ·))) := by
    have hmem' : s.maccScanned.memOn addr.toNat = true := hmem
    simp [State.busWrite, State.memWrite, hr, hmem']
  unfold State.maccScanned at hon' hidle' hwrite
  simp [exec, execMemacc, hon', hidle', hal, hwrite, State.maccScanned, State.withMacc, maccResult, b2n]

theorem State.word_setBytes (s : State) (a : Nat) (d : Word) :
    (s.setBytes a ((leBytes 8 d.toNat).map (BitVec.ofNat 8 ·))).word a = d := by
  have h := s.num_setNum a 8 d.toNat
  rw [State.setNum] at h
  rw [State.word, h]
  rw [Nat.mod_eq_of_lt (show d.toNat < 256 ^ 8 from d.isLt), BitVec.ofNat_toNat, BitVec.setWidth_eq]

theorem State.mem_extWrite (s : State) (a : Nat) (l : List Byte) : (s.extWrite a l).mem = (s.setBytes a l).mem := by
  unfold State.extWrite
  extract_lets u
  split <;> rfl

theorem State.setCkp_keeps (s : State) (x : CkpSt) : Keeps { ckp := true } s (s.setCkp x) := { Keeps.refl _ s with ckp := nofun }

theorem State.extWrite_keeps (s : State) (a : Nat) (l : List Byte) : Keeps { mem := true, ckp := true } s (s.extWrite a l) := by
  have hb : Keeps { mem := true, ckp := true } s (s.setBytes a l) := (s.setBytes_keeps a l).mono
  exact .ite (hb.andThen (State.setCkp_keeps ..)) hb

theorem State.freeStack_keeps (s : State) (t : Nat) : Keeps { mem := true, ckp := true } s (s.freeStack t) := by
  have hall (l : List (Nat × List Byte)) (u : State) : Keeps { mem := true, ckp := true } u (l.foldl (fun s p => s.extWrite p.1 p.2) u) := by
    refine Keeps.foldl (fun u p => ?_) l u
    exact u.extWrite_keeps p.1 p.2
  have hlist := s.setCkp_keeps { s.ckp with heldWrites := s.ckp.heldWrites.filter (fun p => p.1 / 0x900000000 != t) }
  exact hlist.mono.trans (hall _ _)

theorem State.hbmWrite_keeps (s : State) (a : Nat) (l : List Byte) : Keeps { regs := [.tme], mem := true, ckp := true } s (s.hbmWrite a l) := by
  refine .ite (s.setBytes_keeps a l).mono (.ite (s.raise_keeps ..).mono (.ite ?_ (.ite (s.setCkp_keeps _).mono (s.extWrite_keeps a l).mono)))
  exact (s.freeStack_keeps _).mono.andThen (State.extWrite_keeps ..)

/-- A stack that holds no write keeps its bytes as it is freed. -/
theorem State.mem_freeStack (s : State) (t : Nat) (h : s.ckp.heldWrites = []) : (s.freeStack t).mem = s.mem := by
  simp [State.freeStack, h]

/-- A write that READY allows, or that nothing guards, puts its bytes in memory, behind the held writes of its stack. -/
theorem State.hbmWrite_stores (s : State) (a : Nat) (l : List Byte) (h : s.mode = .ready ∨ s.guarded a = false) :
    ∃ u : State, (s.hbmWrite a l).mem = (u.setBytes a l).mem ∧ (s.guarded a = false ∨ s.ckp.heldWrites = [] → u.mem = s.mem) := by
  unfold State.hbmWrite
  cases hg : s.guarded a with
  | false => exact ⟨s, rfl, fun _ => rfl⟩
  | true =>
    have hready : s.mode = .ready := h.resolve_right (by rw [hg]; decide)
    have hrun : s.mode ≠ .run := by rw [hready]; decide
    refine ⟨s.freeStack (a / 0x900000000), ?_, fun hh => s.mem_freeStack _ (hh.resolve_left (by decide))⟩
    simp only [Bool.not_true, Bool.false_eq_true, if_false, if_neg hrun, if_pos hready]
    exact State.mem_extWrite ..

/-- Settles O8. A read goes to the stored word, as no request waits before it; a write to HBM puts its bytes there unless it is guarded,
and then only where the mode allows it (13 R364). -/
theorem memoryAccessPort : Obligations.MemoryAccessPort := by
  unfold Obligations.MemoryAccessPort
  refine ⟨?read, ?write, ?guarded, ?awaitsRestore, ?idle⟩
  case read =>
    intro addr d s hon hal hr hmem hq hheld hidle
    have hafter : s.maccScanned.afterOthers addr.toNat = s.maccScanned := by
      have hq' : (s.maccScanned.tile (addr.toNat / 0x900000000)).memq = [] := hq
      have hheld' : s.maccScanned.ckp.heldWrites = [] := hheld
      simp [State.afterOthers, State.stackIdle, State.heldAt, hq', hheld']
    have hread : s.maccScanned.busRead addr.toNat 8 = (s.num addr.toNat 8, false, s.maccScanned) := by
      have hmem' : s.maccScanned.memOn addr.toNat = true := hmem
      simp only [State.busRead, hr, hmem', if_true, hafter]
      rfl
    have herr : s.maccScanned.readErr addr.toNat .ok = (s.maccScanned, false) := by
      have hmem' : s.maccScanned.memOn addr.toNat = true := hmem
      simp [State.readErr, hmem', hr, State.hbmTouch]
    refine ⟨_, exec_memacc_read addr d s hon hal hr hidle, ?_⟩
    simp only [State.maccRead, herr, hread]
    refine ⟨?_, rfl, ?_⟩
    · simp [maccResult, b2n, State.word]
    · exact { Keeps.refl _ s with tap := nofun, out := nofun }
  case write =>
    intro addr d s hon hal hr hmem hmode hidle
    have hmode' : s.maccScanned.mode = .ready ∨ s.maccScanned.guarded addr.toNat = false := hmode
    obtain ⟨u, hmemory, hstays⟩ := s.maccScanned.hbmWrite_stores addr.toNat ((leBytes 8 d.toNat).map (BitVec.ofNat 8 ·)) hmode'
    have hout := (s.maccScanned.hbmWrite_keeps addr.toNat ((leBytes 8 d.toNat).map (BitVec.ofNat 8 ·))).out rfl
    rw [exec_memacc_write addr d s hon hal hr hmem hidle]
    generalize s.maccScanned.hbmWrite addr.toNat ((leBytes 8 d.toNat).map (BitVec.ofNat 8 ·)) = t at hmemory hout
    have hmacc : (t.withMacc 1).mem = (u.setBytes addr.toNat ((leBytes 8 d.toNat).map (BitVec.ofNat 8 ·))).mem := hmemory
    refine ⟨t.withMacc 1, rfl, rfl, ?_, fun hh a ha => ?_, hout⟩
    · rw [State.word, State.num_of_mem hmacc]
      exact u.word_setBytes addr.toNat d
    · have hlen : ((leBytes 8 d.toNat).map (BitVec.ofNat 8 ·)).length = 8 := by rw [List.length_map, leBytes_length]
      rw [State.byte_of_mem hmacc, u.byte_setBytes_outside _ _ _ (by rwa [hlen])]
      exact State.byte_of_mem (hstays hh) a
  case guarded =>
    intro addr d s hon hal hr hmem hmode hg hidle
    have hraise : s.maccScanned.hbmWrite addr.toNat ((leBytes 8 d.toNat).map (BitVec.ofNat 8 ·)) =
        s.maccScanned.raise TME_STAT_EXTWR (addr.toNat / 0x900000000) := by
      have hmode' : s.maccScanned.mode = .run := hmode
      have hg' : s.maccScanned.guarded addr.toNat = true := hg
      simp [State.hbmWrite, hg', hmode']
    refine ⟨_, exec_memacc_write addr d s hon hal hr hmem hidle, ?_, ?_⟩
    · rw [hraise]; rfl
    · rw [hraise]; exact s.maccScanned.flag_raise_self TME_STAT_EXTWR (addr.toNat / 0x900000000) (by decide)
  case awaitsRestore =>
    intro addr d s hon hal hr hmem hmode hpend hg hidle
    have hheld : s.maccScanned.hbmWrite addr.toNat ((leBytes 8 d.toNat).map (BitVec.ofNat 8 ·)) =
        s.maccScanned.setCkp { s.ckp with heldWrites := s.ckp.heldWrites ++ [(addr.toNat, (leBytes 8 d.toNat).map (BitVec.ofNat 8 ·))] } := by
      have hmode' : s.maccScanned.mode = .service := hmode
      have hg' : s.maccScanned.guarded addr.toNat = true := hg
      have hwait : s.maccScanned.writeWaits addr.toNat = true := by
        have hpend' : s.maccScanned.ckp.pendRestore.isSome = true := hpend
        simp [State.writeWaits, hg', hmode', hpend']
      simp only [State.hbmWrite, hg', hmode', hwait]
      rfl
    refine ⟨_, exec_memacc_write addr d s hon hal hr hmem hidle, ?_⟩
    rw [hheld]
    exact ⟨rfl, rfl, rfl⟩
  case idle =>
    intro addr w d s
    cases w <;> rfl

end Sys2Proof.Machine
end

section
/-! SUPPORT. Debug of a core (18 R486, R487): what `TRC_CDBG` and `TRC_CR` show of a core that halts or runs again. -/

namespace Sys2Proof.Machine

set_option Elab.async false

/-- The instances b, b + 1, … of a field take the values of v. -/
def State.setRange (s : State) (f : Field) (b : Nat) (v : Nat → Nat) (m : Nat) : State :=
  (List.range m).foldl (fun s j => s.set f (b + j) (v j)) s

theorem State.setRange_succ (s : State) (f : Field) (b : Nat) (v : Nat → Nat) (m : Nat) :
    s.setRange f b v (m + 1) = (s.setRange f b v m).set f (b + m) (v m) := by
  simp [State.setRange, List.range_succ]

theorem State.get_setRange_inside (s : State) (f : Field) (b : Nat) (v : Nat → Nat) (m j : Nat) (h : j < m) :
    (s.setRange f b v m).get f (b + j) = v j % 2 ^ f.width := by
  induction m with
  | zero => omega
  | succ m ih =>
    rw [State.setRange_succ]
    by_cases hj : j = m
    · rw [hj, State.get_set_self]
    · rw [State.get_set_index _ _ _ _ _ (by omega), ih (by omega)]

theorem State.setRange_keeps (s : State) (f : Field) (b : Nat) (v : Nat → Nat) (m : Nat) : Keeps { regs := [f.bank] } s (s.setRange f b v m) :=
  .foldl (fun s j => s.set_keeps f (b + j) (v j)) _ s

theorem State.get_setRange_field (s : State) (f g : Field) (b : Nat) (v : Nat → Nat) (m i : Nat) (h : g.id % 65536 ≠ f.id % 65536) :
    (s.setRange f b v m).get g i = s.get g i := by
  induction m with
  | zero => rfl
  | succ m ih => rw [State.setRange_succ, State.get_set_field _ _ _ _ _ _ h, ih]

/-- The registers that `TRC_CR` shows. -/
def CoreSt.shown (x : CoreSt) (j : Nat) : Nat := [x.a.toNat, x.x.toNat, x.y.toNat, x.dp.toNat, x.sp.toNat, x.pc, x.st].getD j 0

theorem State.get_setBits_field (s : State) (f g : Field) (i j v : Nat) (h : g.id % 65536 ≠ f.id % 65536) :
    (s.setBits f i v).get g j = s.get g j := s.get_set_field f g i j _ h

/-- `TRC_CDBG` and `TRC_CR` as a halt leaves them. -/
def State.haltShown (u : State) (n cause : Nat) (x : CoreSt) : State :=
  ((u.raise TRC_CDBG_HALTED n).set TRC_CDBG_CAUSE n cause).setRange TRC_CR_VALUE (7 * n) x.shown 7

theorem State.haltCore_eq (s : State) (n cause : Nat) : ∃ u : State,
    s.haltCore n cause = ((u.haltShown n cause (s.core n)).setBits TRC_DBGEV_HALTEV 0 (2 ^ n)).debugLevel := ⟨_, rfl⟩

theorem State.haltShown_registers (u : State) (n cause : Nat) (x : CoreSt) :
    (u.haltShown n cause x).get TRC_CDBG_HALTED n = 1 ∧ (u.haltShown n cause x).get TRC_CDBG_CAUSE n = cause % 4 ∧
      ∀ j, j < 7 → (u.haltShown n cause x).get TRC_CR_VALUE (7 * n + j) = x.shown j % 2 ^ 64 := by
  refine ⟨?_, ?_, fun j hj => State.get_setRange_inside _ _ _ _ _ _ hj⟩
  · rw [State.haltShown, State.get_setRange_field _ _ _ _ _ _ _ (by decide), State.get_set_field _ _ _ _ _ _ (by decide)]
    exact u.get_raise_self _ _ (by decide)
  · rw [State.haltShown, State.get_setRange_field _ _ _ _ _ _ _ (by decide), State.get_set_self]
    rfl

/-- A core that halts shows why, and its registers. -/
theorem State.haltCore_registers (s : State) (n cause : Nat) :
    (s.haltCore n cause).flag TRC_CDBG_HALTED n = true ∧ (s.haltCore n cause).get TRC_CDBG_CAUSE n = cause % 4 ∧
      ∀ j, j < 7 → (s.haltCore n cause).get TRC_CR_VALUE (7 * n + j) = (s.core n).shown j % 2 ^ 64 := by
  obtain ⟨u, hu⟩ := s.haltCore_eq n cause
  obtain ⟨hhalted, hcause, hregs⟩ := u.haltShown_registers n cause (s.core n)
  have hlater (f : Field) (i : Nat) (hb : f.bank = .trc) (hf : f.id % 65536 ≠ TRC_DBGEV_HALTEV.id % 65536) :
      (s.haltCore n cause).get f i = (u.haltShown n cause (s.core n)).get f i := by
    rw [hu]
    exact ((State.lecSample_keeps ..).regs f i (by rw [hb]; decide)).trans (State.get_setBits_field _ _ _ _ _ _ hf)
  refine ⟨?_, ?_, fun j hj => ?_⟩
  · rw [State.flag, hlater _ _ rfl (by decide), hhalted]
    rfl
  · rw [hlater _ _ rfl (by decide), hcause]
  · rw [hlater _ _ rfl (by decide), hregs j hj]

/-! ### The core runs again (18 R487) -/

/-- The core with the registers that `TRC_CR` gives it. -/
def State.debugResumed (s : State) (n : Nat) (step : Bool) : CoreSt :=
  { s.core n with
    a := BitVec.ofNat 64 (s.get TRC_CR_VALUE (7 * n + 0)), x := BitVec.ofNat 64 (s.get TRC_CR_VALUE (7 * n + 1))
    y := BitVec.ofNat 64 (s.get TRC_CR_VALUE (7 * n + 2)), dp := BitVec.ofNat 64 (s.get TRC_CR_VALUE (7 * n + 3) / 8 * 8)
    sp := BitVec.ofNat 64 (s.get TRC_CR_VALUE (7 * n + 4) / 8 * 8), pc := s.get TRC_CR_VALUE (7 * n + 5) % 2 ^ 48 / 2 * 2
    odd := (s.core n).odd && s.get TRC_CR_VALUE (7 * n + 5) == (s.core n).pc
    st := stWrite (s.core n).st (s.get TRC_CR_VALUE (7 * n + 6)), halted := false, stepping := step, skipBp := true }

theorem State.debugRun_halted (s : State) (n : Nat) (step : Bool) (hon : s.domOn 765 = true) (hh : (s.core n).halted = true) :
    s.debugRun n step = ((s.setCore n (s.debugResumed n step)).lower TRC_CDBG_HALTED n).setRange TRC_CR_VALUE (7 * n) (fun _ => 0) 7 := by
  rw [State.debugRun, if_neg (by simp [hon, hh])]
  rfl

theorem State.core_of_cores {s t : State} (h : t.cores = s.cores) (n : Nat) : t.core n = s.core n := congrArg (sget · n CoreSt.reset) h

theorem State.debugRun_resumes (s : State) (n : Nat) (step : Bool) (hon : s.domOn 765 = true) (hh : (s.core n).halted = true) :
    (s.debugRun n step).core n = s.debugResumed n step ∧ (s.debugRun n step).flag TRC_CDBG_HALTED n = false ∧
      (∀ j, j < 7 → (s.debugRun n step).get TRC_CR_VALUE (7 * n + j) = 0) ∧
      Keeps { regs := [.trc], cores := true } s (s.debugRun n step) := by
  rw [s.debugRun_halted n step hon hh]
  have hlow := (s.setCore n (s.debugResumed n step)).lower_keeps TRC_CDBG_HALTED n
  have hset := ((s.setCore n (s.debugResumed n step)).lower TRC_CDBG_HALTED n).setRange_keeps TRC_CR_VALUE (7 * n) (fun _ => 0) 7
  refine ⟨?_, ?_, fun j hj => ?_, ?_⟩
  · rw [State.core_of_cores ((hset.cores rfl).trans (hlow.cores rfl)), State.core_setCore_self]
  · rw [State.flag, State.get_setRange_field _ _ _ _ _ _ _ (by decide)]
    exact State.flag_lower_self _ _ _ (by decide)
  · rw [State.get_setRange_inside _ _ _ _ _ _ hj]
    exact Nat.zero_mod _
  · exact (s.setCore_keeps ..).mono.andThen hlow |>.andThen hset

/-! ### Requests to halt -/

/-- The state with the halt of core n requested. -/
def State.haltAsked (s : State) (n : Nat) : State := (s.raise TRC_CDBG_HALT n).setCore n { s.core n with haltReq := true }

theorem State.core_haltAsked (s : State) (n : Nat) : (s.haltAsked n).core n = { s.core n with haltReq := true } := State.core_setCore_self ..

theorem State.canHalt_haltAsked (s : State) (n : Nat) : (s.haltAsked n).canHalt n = s.canHalt n := by
  rw [State.canHalt, State.core_haltAsked]
  rfl

theorem State.haltAsked_keeps (s : State) (n : Nat) : Keeps { regs := [.trc], cores := true } s (s.haltAsked n) :=
  (s.raise_keeps TRC_CDBG_HALT n).mono.andThen (State.setCore_keeps ..)

theorem State.debugHalt_asks (s : State) (n : Nat) (hon : s.domOn 765 = true) (hh : (s.core n).halted = false) :
    s.debugHalt n = if s.canHalt n then (s.haltAsked n).haltCore n 0 else s.haltAsked n := by
  rw [State.debugHalt, if_neg (by simp [hon, hh]), ← s.canHalt_haltAsked n]
  rfl

theorem State.canHalt_running (s : State) (n : Nat) (h : s.canHalt n = true) : s.domOn 765 = true ∧ (s.core n).halted = false := by
  unfold State.canHalt at h
  grind

/-- Settles O10. A halt shows the registers in `TRC_CR` (`haltCore_registers`), and a core that runs again takes them from there
(`debugRun_resumes`). -/
theorem capoDebug : Obligations.CapoDebug := by
  unfold Obligations.CapoDebug
  refine ⟨?halt, ?haltLater, ?hit, ?none, ?run, ?step⟩
  case halt =>
    intro n s hcan
    obtain ⟨hon, hh⟩ := s.canHalt_running n hcan
    obtain ⟨hhalted, hcause, hregs⟩ := (s.haltAsked n).haltCore_registers n 0
    rw [s.core_haltAsked n] at hregs
    refine ⟨_, congrArg Host.Outcome.next ((s.debugHalt_asks n hon hh).trans (if_pos hcan)), ?_, hhalted, hcause, ?_, ?_, ?_⟩
    · rw [State.core_haltCore]
    · exact (hregs 0 (by decide)).trans (Nat.mod_eq_of_lt (s.core n).a.isLt)
    · exact hregs 5 (by decide)
    · exact (s.haltAsked_keeps n).mono.andThen (State.haltCore_keeps ..)
  case haltLater =>
    intro n s hon hh hcan
    refine ⟨_, congrArg Host.Outcome.next ((s.debugHalt_asks n hon hh).trans (if_neg (by simp [hcan]))), s.core_haltAsked n, ?_, s.haltAsked_keeps n⟩
    exact s.flag_raise_self TRC_CDBG_HALT n (by decide)
  case hit =>
    intro n s hcan hskip hwait hbp
    obtain ⟨hhalted, hcause, -⟩ := s.haltCore_registers n 1
    refine ⟨_, if_pos (by simp [hcan, hskip, hwait, hbp]), ?_, hhalted, hcause, (s.haltCore_keeps ..).mono⟩
    rw [State.core_haltCore]
  case none =>
    intro n s hbp
    exact if_neg (by simp [hbp])
  case run =>
    intro n s hon hh
    obtain ⟨hcore, hhalted, hregs, hkeeps⟩ := s.debugRun_resumes n false hon hh
    refine ⟨_, rfl, ?_, ?_, ?_, ?_, ?_, ?_, hhalted, hregs, hkeeps⟩
    all_goals rw [hcore]; rfl
  case step =>
    intro n s hon hh
    obtain ⟨hcore, hhalted, -, hkeeps⟩ := s.debugRun_resumes n true hon hh
    refine ⟨_, rfl, ?_, ?_, ?_, ?_, hhalted, hkeeps⟩
    all_goals rw [hcore]; rfl

end Sys2Proof.Machine
end

section
/-! SUPPORT. The trace block (18 R475-R488): the records that it takes, the ring, the freeze, and probe captures. -/

namespace Sys2Proof.Machine

set_option Elab.async false

/-! ### Records that are taken or lost (18 R476, R488) -/

theorem State.trcTake_taken (s : State) (value stroke kind tile src info : Nat) (hopen : s.trcClosed = false) (hroom : s.trace.buffer.length < 4096) :
    s.trcTake value stroke kind tile src info = (s.trcPut value stroke kind tile src info).trcLevel := by
  have hfull : s.trcFull = false := decide_eq_false (by omega)
  rw [State.trcTake, hopen, hfull]
  simp

/-- A record that is taken stands at the end of the buffer, with the next sequence number. -/
theorem State.trace_trcTake (s : State) (value stroke kind tile src info : Nat) (hopen : s.trcClosed = false)
    (hroom : s.trace.buffer.length < 4096) :
    (s.trcTake value stroke kind tile src info).trace.buffer =
        s.trace.buffer ++ [traceRecord value s.tb stroke (kind + 128 * s.get CKP_STAT_REPLAY) tile src info s.trace.seqNo] ∧
      (s.trcTake value stroke kind tile src info).trace.seqNo = (s.trace.seqNo + 1) % 65536 := by
  rw [s.trcTake_taken _ _ _ _ _ _ hopen hroom, (State.trcLevel_keeps _).trace rfl]
  exact ⟨rfl, rfl⟩

/-- A software record that is not taken counts as lost. -/
theorem State.trcTake_lost (s : State) (value stroke tile src info : Nat) (h : s.trcClosed = true ∨ 4096 ≤ s.trace.buffer.length) :
    s.trcTake value stroke 4 tile src info = ((s.raise TRC_STAT_LOST).bump TRC_STAT_LOSTCNT).trcLevel := by
  have hc : (s.trcClosed || (4 == 4 && s.trcFull)) = true := by
    rcases h with h | h
    · rw [h]; rfl
    · rw [show s.trcFull = true from decide_eq_true h]; simp
  rw [State.trcTake, if_pos hc]

theorem State.trcHeld_own (s : State) (htaken : s.trace.takenAt ≠ some (s.tb / 4)) (hwait : s.trace.waiting = []) : s.trcHeld 4 = false := by
  simp [State.trcHeld, hwait, htaken]

theorem State.swMessage_now (s : State) (a : Agent) (v : Nat) (hon : s.domOn 765 = true) (htaken : s.trace.takenAt ≠ some (s.tb / 4))
    (hwait : s.trace.waiting = []) :
    s.swMessage a v = s.trcTake v (s.get CLK_STROKE_NO_STROKE_NO % 2 ^ 32) 4 8 (Agent.traceSrc a) 0 := by
  rw [State.swMessage, if_pos hon, State.trcOwn, s.trcHeld_own htaken hwait]
  rfl

/-! ### Messages -/

/-- The state without the flits of a message. -/
def State.messageGone (s : State) (l : List UFlit) : State := s.setTile 8 { s.tile 8 with uDelivered := l }

theorem exec_traceMessage (s : State) (f : UFlit) (g : Option UFlit) (hon : s.domOn 765 = true) (hm : firstMessage (s.tile 8).uDelivered = some (f, g))
    (hroom : s.trace.buffer.length < 4096) (htaken : s.trace.takenAt ≠ some (s.tb / 4)) (hwait : s.trace.waiting = []) :
    exec .traceMessage s = .next ((s.messageGone (match g with
      | some d => ((s.tile 8).uDelivered.erase f).erase d
      | none => (s.tile 8).uDelivered.erase f)).takeMessage f g) := by
  have hfull : s.trcFull = false := decide_eq_false (by omega)
  show execTraceMessage s = _
  rw [execTraceMessage, if_neg (by simp [hon, hfull, htaken, hwait])]
  simp only [hm]
  cases g <;> rfl

theorem State.takeMessage_keeps (s : State) (f : UFlit) (g : Option UFlit) : Keeps traceWrites s (s.takeMessage f g) := by
  cases g with
  | none => exact s.trcTake_keeps ..
  | some d => exact s.trcTake_keeps ..

theorem State.delivered_takeMessage (s : State) (l : List UFlit) (f : UFlit) (g : Option UFlit) :
    (((s.messageGone l).takeMessage f g).tile 8).uDelivered = l := by
  have ht : ((s.messageGone l).takeMessage f g).tile 8 = (s.messageGone l).tile 8 :=
    congrArg (sget · 8 TileSt.zero) (((s.messageGone l).takeMessage_keeps f g).tiles rfl)
  rw [ht, State.messageGone, State.tile_setTile_self]

/-! ### The freeze (18 R481) -/

/-- The record of a freeze keeps its cause and its marker. -/
theorem State.trcOwn_freeze (s : State) (value kind src info : Nat) (f : Field) (i : Nat) (hb : f.bank = .trc)
    (hl : f.id % 65536 ≠ TRC_STAT_LOST.id % 65536) (hc : f.id % 65536 ≠ TRC_STAT_LOSTCNT.id % 65536) :
    (s.trcOwn value kind src info).get f i = s.get f i := by
  unfold State.trcOwn State.trcTake
  extract_lets r
  split
  · rfl
  · rw [(State.trcLevel_keeps _).regs f i (by rw [hb]; decide)]
    split
    · rw [State.get_bump_field _ _ _ _ _ _ hc, State.get_raise_field _ _ _ _ _ hl]
    · rfl

/-- A freeze event notes its cause and where the ring stands, and lets the records of FRZ_POST follow. -/
theorem State.traceFreeze_marks (s : State) (cause : Fin 8) (hon : s.domOn 765 = true) (hf : s.flag TRC_STAT_FROZEN = false) (hl : s.trace.left = none) :
    (s.traceFreeze cause.val).get TRC_FRZST_CAUSE = cause.val ∧
      (s.traceFreeze cause.val).get TRC_FRZST_MARKER =
        (s.get TRC_WPTR_NEXT + s.trace.buffer.length) % 2 ^ s.get TRC_WIN_SIZE % 2 ^ TRC_FRZST_MARKER.width ∧
      (s.traceFreeze cause.val).trace.left = some (s.get TRC_FRZ_POST) := by
  rw [State.traceFreeze, if_neg (by simp [hon, hf, hl])]
  extract_lets +onlyGivenNames n marked noted x frozen
  have hcause : frozen.get TRC_FRZST_CAUSE = cause.val := by
    refine (State.trcOwn_freeze _ _ _ _ _ _ _ rfl (by decide) (by decide)).trans ((State.get_set_field _ _ _ _ _ _ (by decide)).trans ?_)
    exact (State.get_set_self ..).trans (Nat.mod_eq_of_lt cause.isLt)
  have hmarker : frozen.get TRC_FRZST_MARKER = n % 2 ^ TRC_FRZST_MARKER.width :=
    (State.trcOwn_freeze _ _ _ _ _ _ _ rfl (by decide) (by decide)).trans (State.get_set_self ..)
  have hpost : noted.get TRC_FRZ_POST = s.get TRC_FRZ_POST :=
    (State.trcOwn_freeze _ _ _ _ _ _ _ rfl (by decide) (by decide)).trans
      ((State.get_set_field _ _ _ _ _ _ (by decide)).trans (State.get_set_field _ _ _ _ _ _ (by decide)))
  have hleft : frozen.trace.left = some (s.get TRC_FRZ_POST) := congrArg some hpost
  have hlater : ∀ t, Keeps holdWrites frozen t → t.get TRC_FRZST_CAUSE = cause.val ∧ t.get TRC_FRZST_MARKER = n % 2 ^ TRC_FRZST_MARKER.width ∧
      t.trace.left = some (s.get TRC_FRZ_POST) := fun t hk =>
    ⟨(hk.regs _ _ (by decide)).trans hcause, (hk.regs _ _ (by decide)).trans hmarker, (congrArg TraceSt.left (hk.trace rfl)).trans hleft⟩
  exact hlater _ (.ite frozen.planHold_keeps (.refl _ frozen))

/-! ### The ring (18 R479) -/

theorem State.trcWrite_ring (s : State) (r : Nat) (rest : List Nat) (hb : s.trace.buffer = r :: rest) (hr : region s.traceNext = .hbm)
    (hon : s.domOn (704 + s.traceNext / 0x900000000) = true) : ∃ u : State, u = { s with trace := { s.trace with buffer := rest } } ∧
    s.trcWrite = (u.setNum s.traceNext 32 r).trcAdvance.trcLevel := by
  refine ⟨_, rfl, ?_⟩
  unfold State.trcWrite
  split
  case h_1 h => rw [hb] at h; cases h
  case h_2 r' rest' h =>
    obtain ⟨rfl, rfl⟩ := List.cons.inj (hb.symm.trans h)
    exact (if_pos hr).trans (congrArg (fun u : State => u.trcAdvance.trcLevel) (if_pos hon))

/-! ### Probe captures (18 R475, R477, R478) -/

/-- Where a cell's flits enter, and the router behind it. -/
def State.cellPlace (s : State) (c : Nat) : UPoint := .cell (Fin.ofNat 8 (c / 1088)) (Fin.ofNat 1024 (s.lcell c))

def State.cellRouter (s : State) (c : Nat) : UPoint := .router (Fin.ofNat 8 (c / 1088)) (Fin.ofNat 16 (s.lcell c / 64))

theorem exec_probeCapture (c : PCell) (i : Fin 16) (kind group addr : Nat) (s : State) (ha : s.active c.val = true)
    (hd : s.domOn (cellDomain c.val) = true) (hn : s.probeNow c.val i.val = true)
    (hp : (s.probesOf (c.val / 1088) (s.lcell c.val))[i.val]? = some (kind, group, addr)) :
    exec (.probeCapture c i) s = .next ((s.settleCell c.val).sendProbe c.val kind group addr ((s.settleCell c.val).probeValue c.val kind addr)) := by
  show execProbeCapture c i s = _
  unfold execProbeCapture
  rw [if_pos (by simp [ha, hd, hn])]
  simp only [hp]

theorem State.lcell_settleCell (s : State) (c : Nat) : (s.settleCell c).lcell c = s.lcell c := by
  rw [State.lcell, State.lcell, State.remap, State.remap, (s.settleCell_keeps c).liveRemap rfl]

/-- Neither the credits nor the drain of a cell change as its results take effect. -/
theorem State.sendProbe_refused_iff (s : State) (c : Nat) :
    ((s.settleCell c).uCredit ((s.settleCell c).cellPlace c) ((s.settleCell c).cellRouter c) 2 < 2 ||
        bit ((s.settleCell c).get FAB_UCTL_DRAIN (c / 1088)) 2) =
      (s.uCredit (s.cellPlace c) (s.cellRouter c) 2 < 2 || bit (s.get FAB_UCTL_DRAIN (c / 1088)) 2) := by
  have hk := s.settleCell_keeps c
  rw [State.cellPlace, State.cellRouter, s.lcell_settleCell, hk.regs FAB_UCTL_DRAIN _ (by decide), State.uCredit, (hk.uflits rfl).1]
  rfl

/-- A capture that is sent: its head and its data flit, of class 2, behind the flits under way. -/
theorem State.sendProbe_sends (s : State) (c kind group addr : Nat) (v : Word)
    (h : (s.uCredit (s.cellPlace c) (s.cellRouter c) 2 < 2 || bit (s.get FAB_UCTL_DRAIN (c / 1088)) 2) = false) :
    ∃ f g, (s.sendProbe c kind group addr v).uflits = s.uflits ++ [f, g] ∧ f.cls = 2 ∧ g.cls = 2 ∧ f.dest = traceUnit ∧ g.dest = traceUnit ∧
      f.pay.getD 0 0 = 3 ∧ g.pay = [4, c / 1088, v.toNat] ∧ Keeps { uflits := true } s (s.sendProbe c kind group addr v) := by
  have hsend : s.sendProbe c kind group addr v =
      (s.inject (s.cellPlace c) 2 traceUnit (endCell (c / 1088) (s.lcell c))
        [3, c / 1088, s.stroke.no % 2 ^ 32 + addr % 512 * 2 ^ 32 + kind % 2 * 2 ^ 41 + group % 8 * 2 ^ 42] 0 0 false).inject
        (s.cellPlace c) 2 traceUnit (endCell (c / 1088) (s.lcell c)) [4, c / 1088, v.toNat] :=
    if_neg (by unfold State.cellPlace State.cellRouter at h; simpa using h)
  rw [hsend]
  exact ⟨_, _, List.append_assoc .., rfl, rfl, rfl, rfl, rfl, rfl, (s.inject_keeps ..).andThen (State.inject_keeps ..)⟩

theorem State.sendProbe_drops (s : State) (c kind group addr : Nat) (v : Word)
    (h : (s.uCredit (s.cellPlace c) (s.cellRouter c) 2 < 2 || bit (s.get FAB_UCTL_DRAIN (c / 1088)) 2) = true) :
    s.sendProbe c kind group addr v = s.probeDrop (c / 1088) :=
  if_pos (by unfold State.cellPlace State.cellRouter at h; simpa using h)

/-- Settles O9. What the trace block takes stands at the end of its buffer (`trace_trcTake`); the ring takes it from there
(`trcWrite_ring`); a probe's flits stand behind those under way (`sendProbe_sends`). -/
theorem traceRecords : Obligations.TraceRecords := by
  unfold Obligations.TraceRecords
  refine ⟨?swmsg, ?swmsgLost, ?swmsgLater, ?message, ?messageProbe, ?messageWaits, ?written, ?messageNone, ?enable, ?frzNow, ?frozen, ?probe,
    ?probeDropped, ?probeNone⟩
  case swmsg =>
    intro a v s hon hopen hroom htaken hwait
    obtain ⟨hbuffer, hseq⟩ := s.trace_trcTake v.toNat (s.get CLK_STROKE_NO_STROKE_NO % 2 ^ 32) 4 8 (Agent.traceSrc a) 0 hopen hroom
    exact ⟨_, congrArg Host.Outcome.next (s.swMessage_now a v.toNat hon htaken hwait), hbuffer, hseq, (s.trcTake_keeps ..).mono⟩
  case swmsgLost =>
    intro a v s hon hlost htaken hwait
    have hkeeps := ((s.raise TRC_STAT_LOST).bump TRC_STAT_LOSTCNT).trcLevel_keeps
    refine ⟨_, congrArg Host.Outcome.next ((s.swMessage_now a v.toNat hon htaken hwait).trans (s.trcTake_lost _ _ _ _ _ hlost)), ?_, ?_, ?_⟩
    · rw [hkeeps.flag _ _ (by decide)]
      exact (State.flag_bump_field _ _ _ _ _ _ (by decide)).trans (s.flag_raise_self _ _ (by decide))
    · rw [hkeeps.regs _ _ (by decide), State.get_bump_self, State.get_raise_field _ _ _ _ _ (by decide)]
    · exact Keeps.refl _ s |>.andThen (s.raise_keeps TRC_STAT_LOST 0) |>.andThen (State.bump_keeps _ TRC_STAT_LOSTCNT 0 1) |>.andThen hkeeps
  case swmsgLater =>
    intro a v s hon hheld
    have hh : s.trcHeld 4 = true := by
      rcases hheld with h | h
      · simp [State.trcHeld, h]
      · simp [State.trcHeld, h]
    show Host.Outcome.next (s.swMessage a v.toNat) = _
    rw [State.swMessage, if_pos hon, State.trcOwn, hh]
    rfl
  case message =>
    intro f s hon hm hopen hroom htaken hwait
    obtain ⟨hbuffer, -⟩ := (s.messageGone ((s.tile 8).uDelivered.erase f)).trace_trcTake (f.pay.getD 3 0)
      (s.get CLK_STROKE_NO_STROKE_NO % 2 ^ 32) (f.pay.getD 0 0) (f.pay.getD 1 0) (if f.pay.getD 0 0 = 1 then f.srcEnd % 1024 else 0)
      (f.pay.getD 2 0) hopen hroom
    refine ⟨_, exec_traceMessage s f none hon hm hroom htaken hwait, hbuffer, s.delivered_takeMessage _ f none, ?_⟩
    exact (s.setTile_keeps ..).mono.andThen (State.takeMessage_keeps ..)
  case messageProbe =>
    intro f g s hon hm hopen hroom htaken hwait
    obtain ⟨hbuffer, -⟩ := (s.messageGone (((s.tile 8).uDelivered.erase f).erase g)).trace_trcTake (g.pay.getD 2 0)
      (f.pay.getD 2 0 % 2 ^ 32) 3 (f.pay.getD 1 0) (f.srcEnd % 1024) (bits (f.pay.getD 2 0) 44 32) hopen hroom
    exact ⟨_, exec_traceMessage s f (some g) hon hm hroom htaken hwait, s.delivered_takeMessage _ f (some g), hbuffer⟩
  case messageWaits =>
    intro s h
    refine if_pos ?_
    rcases h with h | h | h
    · simp [State.trcFull, h]
    · simp [h]
    · simp [h]
  case written =>
    intro r rest s hb hr hon
    obtain ⟨u, rfl, hu⟩ := s.trcWrite_ring r rest hb hr hon
    have hk := (State.trcAdvance_keeps ({ s with trace := { s.trace with buffer := rest } }.setNum s.traceNext 32 r)).mono.andThen
      (State.trcLevel_keeps _) (w := { regs := [.trc, .lec], fresh := true })
    rw [← hu] at hk
    refine ⟨?_, ?_, fun b hbyte => ?_⟩
    · rw [State.num_of_mem (hk.mem rfl), State.num_setNum]
      exact congrArg (r % ·) (by norm_num)
    · rw [hk.trace rfl]
      rfl
    · rw [State.byte_of_mem (hk.mem rfl), State.byte_setNum_outside _ _ _ _ _ hbyte]
      rfl
  case messageNone =>
    intro s hm
    show execTraceMessage s = _
    unfold execTraceMessage
    simp only [hm]
    split <;> rfl
  case enable =>
    intro s hon hen
    have hset : s.traceEnable = { ((s.write1 TRC_CTL_EN).set TRC_WPTR_NEXT 0 0).lower TRC_WPTR_WRAPPED with
        trace := { s.trace with seqNo := 0 } } := if_neg (by simp [hon, hen])
    have hwrite : Keeps { regs := [.trc], trace := true } s (((s.write1 TRC_CTL_EN).set TRC_WPTR_NEXT 0 0).lower TRC_WPTR_WRAPPED) :=
      Keeps.refl _ s |>.andThen (s.write1_keeps TRC_CTL_EN 0) |>.andThen (State.set_keeps _ TRC_WPTR_NEXT 0 0)
        |>.andThen (State.lower_keeps _ TRC_WPTR_WRAPPED 0)
    refine ⟨_, congrArg Host.Outcome.next hset, ?_, ?_, ?_, rfl, ?_⟩
    · have hlower := congrArg (· == 1) (State.get_lower_field ((s.write1 TRC_CTL_EN).set TRC_WPTR_NEXT 0 0) TRC_WPTR_WRAPPED TRC_CTL_EN 0 0
        (by decide))
      exact (hlower.trans (State.flag_set_field _ _ _ _ _ _ (by decide))).trans (s.flag_set_b2n TRC_CTL_EN 0 true)
    · exact (State.get_lower_field _ TRC_WPTR_WRAPPED TRC_WPTR_NEXT 0 0 (by decide)).trans (State.get_set_self ..)
    · exact State.get_lower_of_held _ TRC_WPTR_WRAPPED 0 (CycleSt.held_of_not_joins _ _ _ (by decide))
    · exact hwrite.andThen (State.withTrace_keeps _ _)
  case frzNow =>
    intro s hon hfrozen hleft
    obtain ⟨hcause, hmarker, hleft'⟩ := s.traceFreeze_marks 5 hon hfrozen hleft
    exact ⟨_, rfl, hcause, hmarker, hleft'⟩
  case frozen =>
    intro s hon hleft hwait
    have hraise := s.raise_keeps TRC_STAT_FROZEN 0
    have hstop := (s.raise TRC_STAT_FROZEN).withTrace_keeps { s.trace with left := none }
    have hlevel := State.trcLevel_keeps { s.raise TRC_STAT_FROZEN with trace := { s.trace with left := none } }
    refine ⟨_, if_pos ⟨hleft, by simp [hwait], hon⟩, ?_, hlevel.trace rfl, ?_⟩
    · exact (hlevel.flag TRC_STAT_FROZEN 0 (by decide)).trans (s.flag_raise_self TRC_STAT_FROZEN 0 (by decide))
    · exact Keeps.refl _ s |>.andThen hraise |>.andThen hstop |>.andThen hlevel
  case probe =>
    intro c i kind group addr s ha hd hn hp hcredit hdrain
    have hfree : (s.uCredit (s.cellPlace c.val) (s.cellRouter c.val) 2 < 2 || bit (s.get FAB_UCTL_DRAIN (c.val / 1088)) 2) = false := by
      rw [bit_eq_testBit, hdrain, Bool.or_false]
      exact decide_eq_false (Nat.not_lt.mpr hcredit)
    obtain ⟨f, g, hfl, hfc, hgc, hfd, hgd, hfp, hgp, hk⟩ := (s.settleCell c.val).sendProbe_sends c.val kind group addr
      ((s.settleCell c.val).probeValue c.val kind addr) ((s.sendProbe_refused_iff c.val).trans hfree)
    have hs := s.settleCell_keeps c.val
    refine ⟨_, f, g, exec_probeCapture c i kind group addr s ha hd hn hp, ?_, hfc, hgc, hfd, hgd, hfp, hgp, hs.mono.andThen hk⟩
    rw [hfl, (hs.uflits rfl).1]
  case probeDropped =>
    intro c i x s ha hd hn hp hdrop
    obtain ⟨kind, group, addr⟩ := x
    have hfull : (s.uCredit (s.cellPlace c.val) (s.cellRouter c.val) 2 < 2 || bit (s.get FAB_UCTL_DRAIN (c.val / 1088)) 2) = true := by
      rcases hdrop with h | h
      · rw [bit_eq_testBit, h, Bool.or_true]
      · exact Bool.or_eq_true_iff.mpr (.inl (decide_eq_true h))
    have hd' := (s.settleCell c.val).sendProbe_drops c.val kind group addr ((s.settleCell c.val).probeValue c.val kind addr)
      ((s.sendProbe_refused_iff c.val).trans hfull)
    refine ⟨_, exec_probeCapture c i kind group addr s ha hd hn hp, ?_, ?_⟩
    · rw [hd']
      exact (State.flag_bump_field _ _ _ _ _ _ (by decide)).trans (State.flag_raise_self _ _ _ (by decide))
    · rw [hd']
      exact ((s.settleCell_keeps c.val).uflits rfl).1
  case probeNone =>
    intro c i s hn
    exact if_neg (by simp [hn])

end Sys2Proof.Machine
end

section
/-! SUPPORT. Entry into RUN, the refusals at TSTART, the page of a cluster's cells, and the statement about stroke control
(16 R433, R434; 02 R60; 05 R145, R148). -/

namespace Sys2Proof.Machine

set_option Elab.async false

/-- A write that leaves the bits its own cycle sets changes its register group alone. -/
theorem State.write0_keeps (s : State) (f : Field) (i : Nat) : Keeps { regs := [f.bank] } s (s.write0 f i) := s.set_keeps f i _

/-- One value written at every index of a list stands at each of them. -/
theorem State.get_foldl_set_mem (f : Field) (v c : Nat) (l : List Nat) (s : State) (hc : c ∈ l) :
    (l.foldl (fun s k => s.set f k v) s).get f c = v % 2 ^ f.width := by
  induction l using List.reverseRecOn with
  | nil => cases hc
  | append_singleton l k ih =>
    rw [List.foldl_append, List.foldl_cons, List.foldl_nil]
    by_cases hk : c = k
    · rw [hk, State.get_set_self]
    · rw [State.get_set_index _ f k c v hk]
      exact ih (by simpa [hk] using hc)

/-- The running pages of a cluster stand in the checkpoint slot of its tile: noting them writes memory alone. -/
theorem State.putPage_keeps (s : State) (g page : Nat) : Keeps { mem := true } s (s.putPage g page) := s.setNum_keeps _ 8 _

/-! ### Entry into RUN (16 R433) -/

/-- The registers that entry into RUN clears. -/
def State.runCleared (s : State) : State :=
  ((((s.lower MGT_MODE_ARMED).set CLK_HOLD_ACC_ACC 0 0).set CLK_PAUSE_ACC_ACC 0 0).set CLK_STROKE_NO_STROKE_NO 0 0).lower CKP_STAT_REPLAY

theorem State.runCleared_keeps (s : State) : Keeps { regs := [.mgt, .clk, .ckp] } s s.runCleared :=
  Keeps.refl _ s |>.andThen (s.lower_keeps MGT_MODE_ARMED 0) |>.andThen (State.set_keeps _ CLK_HOLD_ACC_ACC 0 0)
    |>.andThen (State.set_keeps _ CLK_PAUSE_ACC_ACC 0 0) |>.andThen (State.set_keeps _ CLK_STROKE_NO_STROKE_NO 0 0)
    |>.andThen (State.lower_keeps _ CKP_STAT_REPLAY 0)

theorem State.get_runCleared (s : State) (f : Field) (h : f.id % 65536 ≠ CKP_STAT_REPLAY.id % 65536) : s.runCleared.get f 0 =
    ((((s.lower MGT_MODE_ARMED).set CLK_HOLD_ACC_ACC 0 0).set CLK_PAUSE_ACC_ACC 0 0).set CLK_STROKE_NO_STROKE_NO 0 0).get f 0 :=
  State.get_lower_field _ CKP_STAT_REPLAY f 0 0 h

theorem State.runCleared_stroke (s : State) : s.runCleared.get CLK_STROKE_NO_STROKE_NO = 0 :=
  (s.get_runCleared _ (by decide)).trans (State.get_set_self ..)

theorem State.runCleared_pause (s : State) : s.runCleared.get CLK_PAUSE_ACC_ACC = 0 :=
  (s.get_runCleared _ (by decide)).trans ((State.get_set_field _ _ _ _ _ _ (by decide)).trans (State.get_set_self ..))

theorem State.runCleared_hold (s : State) : s.runCleared.get CLK_HOLD_ACC_ACC = 0 := by
  rw [s.get_runCleared _ (by decide), State.get_set_field _ _ _ _ _ _ (by decide), State.get_set_field _ _ _ _ _ _ (by decide)]
  exact State.get_set_self ..

theorem State.runCleared_armed (s : State) : s.runCleared.get MGT_MODE_ARMED = 0 := by
  rw [s.get_runCleared _ (by decide), State.get_set_field _ _ _ _ _ _ (by decide), State.get_set_field _ _ _ _ _ _ (by decide),
    State.get_set_field _ _ _ _ _ _ (by decide)]
  exact s.get_lower_of_held MGT_MODE_ARMED 0 (CycleSt.held_of_not_joins _ _ _ rfl)

/-- The stroke counter, the checkpoint state, the host values and the lanes as a run begins with them, where the registers stand. -/
def State.runBegun (u : State) : State :=
  let u := u.setStroke { u.stroke with no := 0, period := u.get CLK_STROKE_CFG_PERIOD, nextAt := some u.tb, nextNo := 0, started := false, entryDone := true }
  let u := u.setCkp { u.ckp with holdTargets := [], fltSince := [], cause := [], restoreTo := none, restoring := false, reports := [],
                                 lastHoldReq := none, faultAt := none, rolledBack := false }
  { u with hostVals := u.hostVals.filter (!·.written) }.rewindLanes

theorem State.runBegun_keeps (u : State) : Keeps { lanes := true, stroke := true, ckp := true, hostVals := true } u u.runBegun := by
  exact { Keeps.refl _ u with stroke := nofun, ckp := nofun, hostVals := nofun, lanes := nofun }

/-- The state of a run about to begin: all that entry into RUN does but the mode. -/
def State.runPrepared (s : State) : State := s.runCleared.runBegun

theorem State.runEntry_eq (s : State) : s.runEntry = s.runPrepared.enter .run := rfl

theorem State.runPrepared_keeps (s : State) :
    Keeps { regs := [.mgt, .clk, .ckp], lanes := true, stroke := true, ckp := true, hostVals := true } s s.runPrepared :=
  Keeps.refl _ s |>.andThen s.runCleared_keeps |>.andThen s.runCleared.runBegun_keeps

theorem State.missStart_keeps (s : State) : Keeps { regs := [.mgt], stroke := true } s s.missStart :=
  Keeps.refl _ s |>.andThen (s.setStroke_keeps _) |>.andThen (State.raise_keeps _ MGT_MODE_MISSED 0)

theorem State.missStart_missed (s : State) : s.missStart.flag MGT_MODE_MISSED = true := State.flag_raise_self _ MGT_MODE_MISSED 0 (by decide)

theorem exec_runEntry_due (s : State) (htime : s.tb = s.get CLK_TSTART_TSTART) (hclock : s.issueClock = true) :
    exec .runEntry s =
      if s.mode = .ready then
        if s.flag MGT_MODE_ARMED && s.stroke.entryDone then
          match s.runRefusal with
          | some x => .next (s.refuseRun x)
          | none => .next s.runEntry
        else .next s.missStart
      else if (s.mode = .service ∨ s.mode = .bringUp) ∧ s.stroke.entryDone then .next s.missStart
      else .next s := if_pos ⟨htime, hclock⟩

/-- A module that is disarmed is not armed, whether it was or not. -/
theorem State.flag_disarm (s : State) : s.disarm.flag MGT_MODE_ARMED = false := by
  unfold State.disarm
  split
  · exact ((State.sendPstat_keeps _).flag MGT_MODE_ARMED 0 (by decide)).trans (s.flag_lower_self MGT_MODE_ARMED 0 rfl)
  · simp_all

/-- Settles O21. Each command is one branch of its guard; entry into RUN clears its registers before the mode changes, and a page is
set by one write for each cell of the cluster. -/
theorem strokeControl : Obligations.StrokeControl := by
  unfold Obligations.StrokeControl
  refine ⟨?entry, ?missed, ?refused, ?none, ?takenOut, ?period, ?arm, ?disarm, ?decided, ?page, ?elsewhere⟩
  case entry =>
    intro s hmode htime hclock harmed hdone hnone
    have henter := s.runPrepared.enter_keeps .run
    have hexec : exec .runEntry s = .next (s.runPrepared.enter .run) := by
      rw [exec_runEntry_due s htime hclock, if_pos hmode, if_pos (by simp [harmed, hdone]), hnone, s.runEntry_eq]
    have hget (f : Field) : (s.runPrepared.enter .run).get f 0 = s.runCleared.get f 0 := (henter.regs f 0 List.not_mem_nil).trans (s.runCleared.runBegun_keeps.regs f 0 List.not_mem_nil)
    refine ⟨_, hexec, s.runEntry_eq ▸ s.runEntry_enters.mode, ?_, ?_, ?_, ?_, ?_, ?_, ?_, ?_⟩
    · exact congrArg (· == 1) ((hget _).trans s.runCleared_armed)
    · exact (hget _).trans s.runCleared_stroke
    · exact (hget _).trans s.runCleared_hold
    · exact (hget _).trans s.runCleared_pause
    · rw [henter.stroke rfl]; rfl
    · rw [henter.stroke rfl]; rfl
    · rw [henter.ckp rfl]; rfl
    · exact s.runPrepared_keeps.mono.andThen henter
  case missed =>
    intro s hmode htime hclock hmiss
    have hexec : exec .runEntry s = .next s.missStart := by
      rw [exec_runEntry_due s htime hclock, if_pos hmode]
      exact if_neg (by rcases hmiss with h | h <;> simp [h])
    exact ⟨_, hexec, (s.missStart_keeps.mode rfl).trans hmode, s.missStart_missed, s.missStart_keeps⟩
  case refused =>
    intro x s hmode htime hclock harmed hdone href
    have hexec : exec .runEntry s = .next (s.refuseRun x) := by
      rw [exec_runEntry_due s htime hclock, if_pos hmode, if_pos (by simp [harmed, hdone]), href]
    have hrefuse : s.refuseRun x = (((s.setStroke { s.stroke with entryDone := false }).disarm).refuse x.1 x.2).raise MGT_MODE_MISSED :=
      if_neg (by simp [hmode])
    have hkeeps : Keeps { regs := [.mgt], lanes := true, stroke := true, refusals := true } s (s.refuseRun x) := by
      rw [hrefuse]
      exact Keeps.refl _ s |>.andThen (s.setStroke_keeps _) |>.andThen (State.disarm_keeps _) |>.andThen (State.refuse_keeps _ _ _)
        |>.andThen (State.raise_keeps _ MGT_MODE_MISSED 0)
    refine ⟨_, hexec, (hkeeps.mode rfl).trans hmode, ?_, ?_, ?_, hkeeps⟩
    · rw [hrefuse, State.flag_raise_field _ _ _ _ _ (by decide)]
      exact State.flag_disarm _
    · rw [hrefuse]
      exact State.flag_raise_self _ MGT_MODE_MISSED 0 (by decide)
    · rw [hrefuse]
      rfl
  case none =>
    intro s h
    show execRunEntry s = _
    unfold execRunEntry
    rcases h with h | h | h | h | h
    all_goals simp [h]
  case takenOut =>
    intro s hmode hdone htime hclock
    have hexec : exec .runEntry s = .next s.missStart := by
      rw [exec_runEntry_due s htime hclock, if_neg (by rcases hmode with h | h <;> simp [h])]
      exact if_pos ⟨hmode, hdone⟩
    exact ⟨_, hexec, s.missStart_keeps.mode rfl, s.missStart_missed, rfl, s.missStart_keeps⟩
  case period =>
    intro p s hon
    refine ⟨_, if_pos hon, ?_, .ite (s.set_keeps CLK_STROKE_CFG_PERIOD 0 _) (.refl _ s)⟩
    unfold State.periodWrite
    split
    · exact (s.get_set_self CLK_STROKE_CFG_PERIOD 0 _).trans (Nat.mod_eq_of_lt p.isLt)
    · rfl
  case arm =>
    intro g s hon hfresh
    refine ⟨_, if_pos hon, ?_⟩
    cases hmay : s.mayArm g.val with
    | true =>
      have harm : s.swapArm g.val true = s.write1 CLU_SWAP_CTL_ARM g.val := (if_pos rfl).trans (if_pos hmay)
      rw [harm]
      exact ⟨s.flag_write1_self CLU_SWAP_CTL_ARM g.val (by decide), nofun, s.write1_keeps CLU_SWAP_CTL_ARM g.val⟩
    | false =>
      have harm : s.swapArm g.val true = (s.write0 CLU_SWAP_CTL_ARM g.val).raise CLU_SWAP_CTL_REFUSED g.val :=
        (if_pos rfl).trans (if_neg (by simp [hmay]))
      rw [harm]
      exact ⟨(State.flag_raise_field _ _ _ _ _ (by decide)).trans (s.flag_write0_self CLU_SWAP_CTL_ARM g.val hfresh),
        fun _ => State.flag_raise_self _ CLU_SWAP_CTL_REFUSED g.val (by decide),
        Keeps.refl _ s |>.andThen (s.write0_keeps CLU_SWAP_CTL_ARM g.val) |>.andThen (State.raise_keeps _ CLU_SWAP_CTL_REFUSED g.val)⟩
  case disarm =>
    intro g s hon hfresh hopen
    have hdisarm : s.swapArm g.val false = s.write0 CLU_SWAP_CTL_ARM g.val := (if_neg nofun).trans (if_neg (by rw [hopen]; exact nofun))
    exact ⟨_, if_pos hon, hdisarm ▸ s.flag_write0_self CLU_SWAP_CTL_ARM g.val hfresh, hdisarm ▸ s.write0_keeps CLU_SWAP_CTL_ARM g.val⟩
  case decided =>
    intro g s hdecided
    have hsame : s.swapArm g.val false = s := if_pos hdecided
    show execSwapArm g false s = _
    rw [execSwapArm, hsame, ite_self]
  case page =>
    intro g c s hon hmode hc
    have hpage : s.setPage g.val = ((s.clusterCells g.val).foldl (fun u k => u.set CELL_IMCFG_RUNPAGE k (s.get CLU_SWAP_CTL_NEWPAGE g.val)) s).putPage
        g.val (s.get CLU_SWAP_CTL_NEWPAGE g.val) := if_pos hmode
    refine ⟨_, if_pos hon, ?_, ?_⟩
    · rw [hpage, (State.putPage_keeps ..).regs _ _ (by decide)]
      exact State.get_foldl_set_mem CELL_IMCFG_RUNPAGE _ c _ s hc
    · rw [hpage]
      exact (Keeps.foldl (fun u k => u.set_keeps CELL_IMCFG_RUNPAGE k _) _ s).mono.andThen (State.putPage_keeps ..)
  case elsewhere =>
    intro g s hready hhold
    have hsame : s.setPage g.val = s := if_neg (by simp [hready, hhold])
    show execSetpage g s = _
    rw [execSetpage, hsame, ite_self]

end Sys2Proof.Machine
end

section
/-! SUPPORT. What the states after POR_N, WARM_N and a wake keep, what the start of bring-up sets, and the statement about resets and the
Soundpost's wake (16 R436, R437, R438; 20 R513, R515; 12 R350). -/

namespace Sys2Proof.Machine

set_option Elab.async false

/-! ### Filtered stores -/

/-- A filter that keeps a key keeps what stands there. -/
theorem sget_filter_true {α : Type} (q : Nat × α → Bool) (a : Nat) (d : α) (hq : ∀ v, q (a, v) = true) (l : List (Nat × α)) :
    sget (l.filter q) a d = sget l a d := congrArg (·.getD d) (lookup_filter_key l q a hq)

/-- A filter that drops a key leaves the default there. -/
theorem sget_filter_false {α : Type} (q : Nat × α → Bool) (a : Nat) (d : α) (hq : ∀ v, q (a, v) = false) (l : List (Nat × α)) :
    sget (l.filter q) a d = d := congrArg (·.getD d) (lookup_filter_dropped l q a hq)

/-- The default written to a key reads, under any field of that key, as that field's own default. -/
theorem sget_sput_default {α : Type} [DecidableEq α] (l : List (Nat × α)) (a b : Nat) (d e : α) :
    sget (sput l a d d) b e = if b = a then e else sget l b e := by
  rw [sget, sput, if_pos rfl, lookup_eraseKey]
  split <;> rfl

/-! ### The start of bring-up (16 R439) -/

/-- What the start of bring-up sets before it enters BRING-UP. -/
def State.bootBegun (s : State) (profile : Nat) : State :=
  { s with fltHw := s.fltHw % 4, boot := { s.boot with step := 0, ms := 0, profile := profile } }

theorem State.bootBegun_keeps (s : State) (profile : Nat) : Keeps { faults := true, boot := true } s (s.bootBegun profile) :=
  { Keeps.refl _ s with faults := nofun, boot := nofun }

/-- A journal record that waits in the buffer. -/
def State.bjBuffer (s : State) (f : List Nat) : State := { s with boot := { s.boot with buffered := s.boot.buffered ++ [f] } }

theorem State.bjBuffer_keeps (s : State) (f : List Nat) : Keeps { boot := true } s (s.bjBuffer f) := { Keeps.refl _ s with boot := nofun }

/-- Before step 4 the START record waits: no flash is written. -/
theorem State.bjStart_buffers (s : State) (cause profile : Nat) (hstep : s.boot.step < 4) :
    s.bjStart 0 cause profile = s.bjBuffer [1, cause, profile, 0, s.bjTime, 0] := if_pos hstep

theorem State.laneEnable_on_keeps (s : State) (n : Nat) : Keeps laneWrites s (s.laneEnable n true) := by
  have hwrite : Keeps laneWrites s (s.write1 LNK_CTL_EN n) := (s.write1_keeps LNK_CTL_EN n).mono
  unfold State.laneEnable
  rw [if_pos rfl]
  exact .ite (hwrite.andThen (State.restartLane_keeps _ n) |>.andThen (State.goDetect_keeps _ n)) hwrite

theorem State.lanesDetect_keeps (s : State) : Keeps laneWrites s s.lanesDetect :=
  .foldl (fun s n => .ite (s.laneEnable_on_keeps n) (.refl _ s)) _ s

/-- Without power no lane leaves its state. -/
theorem State.lanesDetect_of_off (s : State) (hoff : ∀ n, s.laneOn n = false) : s.lanesDetect = s := by
  have hstay (n : Nat) : (if s.laneOn n then s.laneEnable n true else s) = s := if_neg (by simp [hoff n])
  unfold State.lanesDetect
  generalize s.listed LNK_CTL_EN = l
  induction l with
  | nil => rfl
  | cons n l ih => rw [List.foldl_cons, hstay, ih]

/-- What the start of bring-up writes, but for the losses noted in the fault log: the lanes, CAUSE and the boot record. -/
def bootWrites : Writes := { regs := [.lnk, .lec, .gec, .bj], lanes := true, fresh := true, mode := true, boot := true }

/-- The state in BRING-UP with its cause, before the lanes start. -/
def State.bootEntered (s : State) (cause profile : Nat) : State :=
  ((s.bootBegun profile).enter .bringUp).set BJ_STAT_CAUSE 0 cause

theorem State.bootEntered_keeps (s : State) (cause profile : Nat) :
    Keeps { regs := [.bj], mode := true, lanes := true } (s.bootBegun profile) (s.bootEntered cause profile) :=
  Keeps.refl _ _ |>.andThen (State.enter_keeps _ .bringUp) |>.andThen (State.set_keeps _ BJ_STAT_CAUSE 0 cause)

/-- The step that bring-up begins with, whatever the lanes do. -/
theorem State.lanesDetect_boot (s : State) (cause profile : Nat) :
    (s.bootEntered cause profile).lanesDetect.boot = { s.boot with step := 0, ms := 0, profile := profile } :=
  ((State.lanesDetect_keeps _).boot rfl).trans ((s.bootEntered_keeps cause profile).boot rfl)

theorem State.startBoot_buffers (s : State) (cause profile : Nat) : s.startBoot cause profile =
    (s.bootEntered cause profile).lanesDetect.bjBuffer [1, cause, profile, 0, (s.bootEntered cause profile).lanesDetect.bjTime, 0] := by
  have hstep : (s.bootEntered cause profile).lanesDetect.boot.step < 4 := by
    rw [State.lanesDetect_boot]
    exact Nat.zero_lt_succ _
  exact State.bjStart_buffers _ cause profile hstep

theorem State.startBoot_journals (s : State) (cause profile : Nat) :
    Keeps { boot := true } (s.bootEntered cause profile).lanesDetect (s.startBoot cause profile) :=
  s.startBoot_buffers cause profile ▸ State.bjBuffer_keeps _ _

theorem State.startBoot_boot (s : State) (cause profile : Nat) : (s.startBoot cause profile).boot.step = 0 ∧
    (s.startBoot cause profile).boot.profile = profile ∧ (s.startBoot cause profile).boot.node = s.boot.node := by
  have hb := s.lanesDetect_boot cause profile
  rw [s.startBoot_buffers cause profile]
  exact ⟨congrArg BootSt.step hb, congrArg BootSt.profile hb, (congrArg BootSt.node hb).trans rfl⟩

theorem State.startBoot_keepsBegun (s : State) (cause profile : Nat) : Keeps bootWrites (s.bootBegun profile) (s.startBoot cause profile) :=
  Keeps.refl _ _ |>.andThen (s.bootEntered_keeps cause profile) |>.andThen (State.lanesDetect_keeps _)
    |>.andThen (s.startBoot_journals cause profile)

theorem State.startBoot_keeps (s : State) (cause profile : Nat) : Keeps { bootWrites with faults := true } s (s.startBoot cause profile) :=
  (s.bootBegun_keeps profile).mono.andThen (s.startBoot_keepsBegun cause profile)

/-- Of the journal's registers the start of bring-up writes CAUSE alone. -/
theorem State.get_startBoot (s : State) (cause profile : Nat) (f : Field) (i : Nat) (hf : f.bank ∉ [.lnk, .lec, .gec])
    (hid : f.id % 65536 ≠ BJ_STAT_CAUSE.id % 65536) : (s.startBoot cause profile).get f i = s.get f i := by
  rw [(s.startBoot_journals cause profile).regs f i List.not_mem_nil, (State.lanesDetect_keeps _).regs f i hf, State.bootEntered,
    State.get_set_field _ _ _ _ _ _ hid, (State.enter_keeps _ .bringUp).regs f i List.not_mem_nil]
  rfl

theorem State.startBoot_cause (s : State) (cause profile : Nat) : (s.startBoot cause profile).get BJ_STAT_CAUSE = cause % 8 := by
  rw [(s.startBoot_journals cause profile).regs _ _ List.not_mem_nil, (State.lanesDetect_keeps _).regs _ _ (by decide)]
  exact State.get_set_self ..

theorem State.startBoot_fltRecs (s : State) (cause profile : Nat) : (s.startBoot cause profile).fltRecs = s.fltRecs :=
  ((s.startBoot_keepsBegun cause profile).faults rfl).1.trans rfl

/-! ### After POR_N (16 R436) -/

/-- Flash alone, with the window on device 0, and what lies outside the module. -/
def State.porKept (s : State) (node : Nat) : State :=
  { State.reset with
    pending := s.pending, mem := flashOnly (s.flashSelect 0).mem, tap := s.dropMacc, out := s.out, free := s.free, boot := { BootSt.zero with node := node } }

theorem State.porState_eq (s : State) (sel node : Nat) (wp : Bool) : s.porState sel node wp =
    (((s.porKept node).set PRF_ACTIVE_PINS 0 sel).set PRF_ACTIVE_ACTIVE 0 sel).set MGT_FLCTL_WPN 0 (b2n wp) := rfl

theorem State.get_porState (s : State) (sel node : Nat) (wp : Bool) (f : Field) (i : Nat) (hpins : f.key i ≠ PRF_ACTIVE_PINS.key 0)
    (hactive : f.key i ≠ PRF_ACTIVE_ACTIVE.key 0) (hwpn : f.key i ≠ MGT_FLCTL_WPN.key 0) :
    (s.porState sel node wp).get f i = State.reset.get f i :=
  (State.get_set_ne _ _ _ _ _ _ hwpn).trans ((State.get_set_ne _ _ _ _ _ _ hactive).trans (State.get_set_ne _ _ _ _ _ _ hpins))

theorem State.enter_same (s : State) (m : Mode) (hm : s.mode = m) : s.enter m = s := by
  subst hm
  exact if_pos rfl

/-- Without power the start of bring-up after POR_N writes no lane, and its cause 0 is CAUSE's reset value. -/
theorem State.get_porBoot (s : State) (sel node profile : Nat) (wp : Bool) (f : Field) (i : Nat)
    (hreset : f.key i = BJ_STAT_CAUSE.key 0 → (s.porState sel node wp).get f i = f.rst i) :
    ((s.porState sel node wp).startBoot 0 profile).get f i = (s.porState sel node wp).get f i := by
  have hoff : ∀ n, (((s.porState sel node wp).bootEntered 0 profile)).laneOn n = false := by
    intro n
    rw [State.bootEntered, State.enter_same _ .bringUp rfl]
    rfl
  rw [(State.startBoot_journals _ 0 profile).regs f i List.not_mem_nil, State.lanesDetect_of_off _ hoff, State.bootEntered,
    State.enter_same _ .bringUp rfl]
  refine (sget_sput_default _ _ _ 0 _).trans ?_
  split
  next hcause => exact (hreset hcause).symm
  next => rfl

/-! ### After WARM_N (16 R437) -/

/-- What a state after a warm reset has of the state before it. -/
structure State.KeepsWarm (s t : State) : Prop where
  tb : t.tb = s.tb
  mem : t.mem = s.mem
  liveRemap : t.liveRemap = s.liveRemap
  dom : t.dom = s.dom.filter (fun p => !(decide (740 ≤ p.1) && decide (p.1 < 760)))
  fltRecs : t.fltRecs = s.fltRecs
  ents : t.ents = s.ents
  clockLost : t.clockLost = false
  pins : t.pins.low = s.pins.low
  kept (f : Field) (i : Nat) (hkept : warmKept (f.id % 65536, 0) = true) (hf : f.bank ∉ [.lnk, .lec, .gec, .mgt, .pwr])
    (hid : f.id % 65536 ≠ BJ_RDYEV_CHG.id % 65536) : t.get f i = s.get f i

/-- The state after a warm reset before the lanes keep EN, with what it has of the state before. -/
theorem State.warmState_from (s : State) : ∃ u : State, s.warmState = (List.range 8).foldl (fun s k => s.stackReady k) (u.keepEn s).emergencyFlags ∧
    s.KeepsWarm u := by
  unfold State.warmState
  extract_lets +onlyGivenNames cores blank img boot claim pins flash u
  refine ⟨u, rfl, ⟨rfl, rfl, rfl, rfl, rfl, rfl, rfl, rfl, fun f i hkept _ _ => ?_⟩⟩
  refine sget_filter_true _ _ _ (fun v => ?_) _
  rw [← hkept]
  have hkey : f.key i % 65536 = f.id % 65536 % 65536 := by unfold Field.key; omega
  simp only [warmKept, hkey]

theorem State.keepEn_keeps (s old : State) : Keeps { regs := [.lnk] } s (s.keepEn old) :=
  .foldl (fun s n => .ite (s.set_keeps LNK_CTL_EN n 1) (.refl _ s)) _ s

theorem State.emergencyFlags_keeps (s : State) : Keeps { regs := [.pwr] } s s.emergencyFlags :=
  (s.set_keeps PWR_THERM_EMG 0 _).andThen (State.set_keeps _ PWR_SUPPLY_EMG 0 _)

/-- Of the journal's registers a change of readiness writes CHG alone. -/
theorem State.get_setReady (s : State) (k : Nat) (b : Bool) (f : Field) (i : Nat) (hf : f.bank ∉ [.lec, .mgt])
    (hid : f.id % 65536 ≠ BJ_RDYEV_CHG.id % 65536) : (s.setReady k b).get f i = s.get f i := by
  unfold State.setReady
  split
  · rfl
  extract_lets u o t
  have ht : t.get f i = s.get f i := by
    rw [(State.lecSample_keeps _ _ _).regs f i (fun h => hf (List.mem_cons.mpr (.inl (List.mem_singleton.mp h)))), State.get_setBits_field _ _ _ _ _ _ hid]
    rfl
  split
  · rw [(State.refuse_keeps _ _ _).regs f i List.not_mem_nil, (State.disarm_keeps _).regs f i (by simp_all), ht]
  · exact ht

theorem State.get_stackReady (s : State) (k : Nat) (f : Field) (i : Nat) (hf : f.bank ∉ [.lec, .mgt])
    (hid : f.id % 65536 ≠ BJ_RDYEV_CHG.id % 65536) : (s.stackReady k).get f i = s.get f i :=
  (State.get_setReady _ _ _ f i hf hid).trans (State.get_setReady _ _ _ f i hf hid)

theorem State.KeepsWarm.keeps {s t u : State} {w : Writes} (h : s.KeepsWarm t) (hk : Keeps w t u)
    (hw : w.tb = false ∧ w.mem = false ∧ w.liveRemap = false ∧ w.dom = false ∧ w.faults = false ∧ w.ents = false ∧ w.clockStopped = false ∧
      w.pins = false)
    (hget : ∀ f i, f.bank ∉ [.lnk, .lec, .gec, .mgt, .pwr] → f.id % 65536 ≠ BJ_RDYEV_CHG.id % 65536 → u.get f i = t.get f i) : s.KeepsWarm u := by
  obtain ⟨htb, hmem, hremap, hdom, hfaults, hents, hclock, hpins⟩ := hw
  exact { tb := (hk.tb htb).1.trans h.tb, mem := (hk.mem hmem).trans h.mem, liveRemap := (hk.liveRemap hremap).trans h.liveRemap,
          dom := (hk.dom hdom).trans h.dom, fltRecs := (hk.faults hfaults).1.trans h.fltRecs, ents := (hk.ents hents).trans h.ents,
          clockLost := (hk.clockStopped hclock).2.trans h.clockLost, pins := (congrArg PinSt.low (hk.pins hpins)).trans h.pins,
          kept := fun f i hkept hf hid => (hget f i hf hid).trans (h.kept f i hkept hf hid) }

theorem State.KeepsWarm.foldl_stackReady {s t : State} (h : s.KeepsWarm t) (l : List Nat) :
    s.KeepsWarm (l.foldl (fun s k => s.stackReady k) t) := by
  induction l generalizing t with
  | nil => exact h
  | cons k l ih =>
    exact ih (h.keeps (t.stackReady_keeps k) (by decide) (fun f i hf hid => t.get_stackReady k f i (fun hm => hf (by simp_all)) hid))

theorem State.warmState_keepsWarm (s : State) : s.KeepsWarm s.warmState := by
  obtain ⟨u, hu, hkeeps⟩ := s.warmState_from
  rw [hu]
  refine State.KeepsWarm.foldl_stackReady (hkeeps.keeps (w := { regs := [.lnk, .pwr] })
    (Keeps.refl _ u |>.andThen (u.keepEn_keeps s) |>.andThen (State.emergencyFlags_keeps _)) (by decide) fun f i hf _ => ?_) _
  rw [(State.emergencyFlags_keeps _).regs f i (by simp_all), (u.keepEn_keeps s).regs f i (by simp_all)]

/-- WARM_N is low. -/
def State.heldLow (s : State) : State := { s with pins := { s.pins with low := 1 } }

theorem State.heldLow_keeps (s : State) : Keeps { pins := true } s s.heldLow := s.withPins_keeps _

theorem exec_resetLow_warm (s : State) (hlow : s.pins.low ≠ 2) :
    exec (.resetLow false) s = .next (if s.mode = .dormant then s else s.warmState).heldLow := by
  show execResetLow false s = _
  rw [execResetLow, if_neg Bool.false_ne_true, if_neg hlow]
  rfl

/-- WARM_N is high again. -/
def State.released (s : State) : State := { s with pins := { s.pins with low := 0 } }

/-- DORMANT as the release of WARM_N leaves it: with the clock found again and the losses of the fault log's hardware noted. -/
def State.dormantReleased (s : State) : State := { s.dormantState with clockLost := false, fltHw := s.fltHw / 2 * 2 }

/-- The state that the release of WARM_N starts from. -/
def State.afterWarm (s : State) : State := if s.released.mode = .dormant then s.released.dormantReleased else s.released.warmState

theorem exec_warmReset_released (s : State) (hlow : s.pins.low = 1) :
    exec .warmReset s = .next (s.afterWarm.startBoot 1 (s.afterWarm.get PRF_ACTIVE_ACTIVE)) := if_pos hlow

theorem State.afterWarm_awake (s : State) (hmode : s.mode ≠ .dormant) : s.afterWarm = s.released.warmState := if_neg hmode

theorem State.afterWarm_dormant (s : State) (hmode : s.mode = .dormant) : s.afterWarm = s.released.dormantReleased := if_pos hmode

/-! ### The Soundpost's wake (16 R438, 12 R350) -/

/-- Of a wake the Soundpost notes its source alone. -/
theorem State.wakeCause_keeps (s : State) (w : WakeSource) : Keeps { regs := [.spt] } s (s.wakeCause w) := by
  cases w with
  | pin => exact s.raise_keeps SPT_CAUSE_PIN 0
  | can p =>
    have hraise := s.raise_keeps (if p.val = 0 then SPT_CAUSE_CAN0 else SPT_CAUSE_CAN1) 0
    rwa [apply_ite Field.bank, show SPT_CAUSE_CAN0.bank = .spt from rfl, show SPT_CAUSE_CAN1.bank = .spt from rfl, ite_self] at hraise
  | slot j => exact s.setBits_keeps SPT_CAUSE_SLOT 0 _

theorem State.get_wakeCause_profile (s : State) (w : WakeSource) : (s.wakeCause w).get SPT_WAKEPRF_PRF = s.get SPT_WAKEPRF_PRF := by
  cases w with
  | pin => exact s.get_raise_field _ _ _ _ (by decide)
  | can p => exact s.get_raise_field _ _ _ _ (by split <;> decide)
  | slot j => exact s.get_setBits_field _ _ _ _ _ (by decide)

theorem exec_soundpostWake (s : State) (w : WakeSource) (hlow : s.pins.low = 0) (htrip : s.pins.trip = false) (hen : s.wakeEnabled w = true) :
    exec (.soundpostWake w) s = .next (if (s.wakeCause w).mode = .dormant then (s.wakeCause w).startBoot 2 ((s.wakeCause w).get SPT_WAKEPRF_PRF)
      else s.wakeCause w) := if_neg (by simp [State.awake, hlow, htrip, hen])

/-- The pins and registers that are read at the release of POR_N (16 R436). -/
theorem State.porState_pins (s : State) (sel : BitVec 2) (node : Nat) (wp : Bool) :
    (s.porState sel.toNat node wp).get PRF_ACTIVE_PINS = sel.toNat ∧ (s.porState sel.toNat node wp).get PRF_ACTIVE_ACTIVE = sel.toNat ∧
      (s.porState sel.toNat node wp).flag MGT_FLCTL_WPN = wp := by
  have hsel : sel.toNat % 2 ^ 2 = sel.toNat := Nat.mod_eq_of_lt sel.isLt
  rw [s.porState_eq]
  refine ⟨?_, ?_, State.flag_set_b2n _ MGT_FLCTL_WPN 0 wp⟩
  · rw [State.get_set_field _ _ _ _ _ _ (by decide), State.get_set_field _ _ _ _ _ _ (by decide), State.get_set_self]
    exact hsel
  · rw [State.get_set_field _ _ _ _ _ _ (by decide), State.get_set_self]
    exact hsel

/-- After POR_N memory below flash reads 0. -/
theorem State.byte_porState (s : State) (sel node : Nat) (wp : Bool) (a : Nat) (ha : a < 0x3F0000000000) : (s.porState sel node wp).byte a = 0 := by
  refine (sget_filter_false _ a _ (fun v => decide_eq_false (Nat.not_le.mpr ha)) _).trans (if_neg ?_)
  exact fun h => Nat.not_le.mpr ha h.1

/-- After POR_N flash has its bytes, if its window was on device 0. -/
theorem State.byte_porState_flash (s : State) (sel node : Nat) (wp : Bool) (a : Nat) (ha : 0x3F0000000000 ≤ a) (hwin : s.get MGT_FLCTL_WINSEL = 0) :
    (s.porState sel node wp).byte a = s.byte a := by
  have hselect : s.flashSelect 0 = s := if_pos hwin
  show sget (flashOnly (s.flashSelect 0).mem) a (memDefault a) = _
  rw [hselect]
  exact sget_filter_true _ a _ (fun v => decide_eq_true ha) _

/-- Settles O56. The state after a reset is its literal with a few registers set; the start of bring-up then writes the lanes, CAUSE and the
boot record alone, and after POR_N, without power, no lane. -/
theorem resetsAndWake : Obligations.ResetsAndWake := by
  unfold Obligations.ResetsAndWake
  refine ⟨?registers, ?por, ?warm, ?warmDormant, ?ignored, ?lowPor, ?lowWarm, ?lowDormant, ?wake, ?awake, ?disabled⟩
  case registers =>
    intro sel node wp f i s hpins hactive hwpn
    have hreset := s.get_porState sel.toNat node.toNat wp f i hpins hactive hwpn
    exact ⟨_, rfl, (s.get_porBoot sel.toNat node.toNat sel.toNat wp f i (fun _ => hreset)).trans hreset⟩
  case por =>
    intro sel node wp s
    obtain ⟨hstep, hprofile, hnode⟩ := (s.porState sel.toNat node.toNat wp).startBoot_boot 0 sel.toNat
    obtain ⟨hpins, hactive, hwpn⟩ := s.porState_pins sel node.toNat wp
    have hboot := (s.porState sel.toNat node.toNat wp).startBoot_keeps 0 sel.toNat
    have hmem : ((s.porState sel.toNat node.toNat wp).startBoot 0 sel.toNat).mem = (s.porState sel.toNat node.toNat wp).mem := hboot.mem rfl
    have hget (f : Field) (hf : f.key 0 ≠ BJ_STAT_CAUSE.key 0) := s.get_porBoot sel.toNat node.toNat sel.toNat wp f 0 (fun h => absurd h hf)
    refine ⟨_, rfl, (State.startBoot_enters _ 0 sel.toNat).mode, hstep, hprofile, hnode.trans rfl, (hget _ (by decide)).trans hpins,
      (hget _ (by decide)).trans hactive, (congrArg (· == 1) (hget _ (by decide))).trans hwpn, State.startBoot_cause _ 0 _, (hboot.tb rfl).1.trans rfl,
      (hboot.cells rfl).trans rfl, State.startBoot_fltRecs .., fun d => ?_, fun a ha => ?_, fun hwin a ha => ?_⟩
    · have hdom : ((s.porState sel.toNat node.toNat wp).startBoot 0 sel.toNat).dom = [] := hboot.dom rfl
      rw [State.domOn, hdom]
      rfl
    · exact (State.byte_of_mem hmem a).trans (s.byte_porState _ _ wp a ha)
    · exact (State.byte_of_mem hmem a).trans (s.byte_porState_flash _ _ wp a ha hwin)
  case warm =>
    intro s hlow hmode
    have hw := s.released.warmState_keepsWarm
    obtain ⟨hstep, hprofile, -⟩ := s.released.warmState.startBoot_boot 1 (s.released.warmState.get PRF_ACTIVE_ACTIVE)
    have hboot := s.released.warmState.startBoot_keeps 1 (s.released.warmState.get PRF_ACTIVE_ACTIVE)
    refine ⟨_, s.afterWarm_awake hmode ▸ exec_warmReset_released s hlow, (State.startBoot_enters ..).mode, hstep, hprofile.trans ?_, State.startBoot_cause _ 1 _, ?_, (hboot.tb rfl).1.trans hw.tb,
      (hboot.mem rfl).trans hw.mem, (hboot.liveRemap rfl).trans hw.liveRemap, fun d hd => ?_, (State.startBoot_fltRecs ..).trans hw.fltRecs,
      (hboot.ents rfl).trans hw.ents, (hboot.clockStopped rfl).2.trans hw.clockLost, fun n => ?_, fun n => ?_⟩
    · exact hw.kept PRF_ACTIVE_ACTIVE 0 (by decide) (by decide) (by decide)
    · exact (congrArg PinSt.low (hboot.pins rfl)).trans hw.pins
    · rw [hboot.dom rfl]
      refine (congrArg (sget · d 0) hw.dom).trans (sget_filter_true _ d 0 (fun v => ?_) _)
      simp only [Bool.not_eq_true', Bool.and_eq_false_iff, decide_eq_false_iff_not]
      omega
    · exact congrArg (· == 1) ((State.get_startBoot _ _ _ TRC_CDBG_RSTHALT n (by decide) (by decide)).trans
        (hw.kept TRC_CDBG_RSTHALT n (by decide) (by decide) (by decide)))
    · exact (State.get_startBoot _ _ _ TME_CFG_DMBASE n (by decide) (by decide)).trans
        (hw.kept TME_CFG_DMBASE n (by decide) (by decide) (by decide))
  case warmDormant =>
    intro s hlow hmode
    obtain ⟨hstep, -, -⟩ := s.released.dormantReleased.startBoot_boot 1 (s.released.dormantReleased.get PRF_ACTIVE_ACTIVE)
    have hboot := s.released.dormantReleased.startBoot_keeps 1 (s.released.dormantReleased.get PRF_ACTIVE_ACTIVE)
    exact ⟨_, s.afterWarm_dormant hmode ▸ exec_warmReset_released s hlow, (State.startBoot_enters ..).mode, hstep, State.startBoot_cause _ 1 _, (hboot.cells rfl).trans rfl,
      (State.startBoot_fltRecs ..).trans rfl⟩
  case ignored =>
    refine fun s => ⟨fun h => if_neg h, fun h => ?_⟩
    show execResetLow false s = _
    rw [execResetLow, if_neg Bool.false_ne_true, if_pos h]
  case lowPor =>
    exact fun s => ⟨_, rfl, rfl, rfl, rfl, rfl, fun d => rfl⟩
  case lowWarm =>
    intro s hlow hmode
    have hw := s.warmState_keepsWarm
    have hheld := s.warmState.heldLow_keeps
    have hexec : exec (.resetLow false) s = .next s.warmState.heldLow := (exec_resetLow_warm s hlow).trans (by rw [if_neg hmode])
    exact ⟨_, hexec, rfl, (hheld.tb rfl).1.trans hw.tb, (hheld.mem rfl).trans hw.mem, (hheld.liveRemap rfl).trans hw.liveRemap⟩
  case lowDormant =>
    intro s hlow hmode
    rw [exec_resetLow_warm s hlow, if_pos hmode]
    rfl
  case wake =>
    intro w s hlow htrip hen hmode
    have hwake : exec (.soundpostWake w) s = .next ((s.wakeCause w).startBoot 2 ((s.wakeCause w).get SPT_WAKEPRF_PRF)) := by
      rw [exec_soundpostWake s w hlow htrip hen, if_pos ((s.wakeCause_keeps w).mode rfl |>.trans hmode)]
    obtain ⟨hstep, hprofile, -⟩ := (s.wakeCause w).startBoot_boot 2 ((s.wakeCause w).get SPT_WAKEPRF_PRF)
    have hcause (f : Field) (hf : f.bank ∉ [.lnk, .lec, .gec]) (hid : f.id % 65536 ≠ BJ_STAT_CAUSE.id % 65536) (h : (s.wakeCause w).flag f = true) :
        ((s.wakeCause w).startBoot 2 ((s.wakeCause w).get SPT_WAKEPRF_PRF)).flag f = true :=
      (congrArg (· == 1) (State.get_startBoot _ _ _ f 0 hf hid)).trans h
    refine ⟨_, hwake, (State.startBoot_enters ..).mode, hstep, hprofile.trans (s.get_wakeCause_profile w), State.startBoot_cause _ 2 _, fun h => ?_,
      fun h => ?_, fun h => ?_⟩
    · exact hcause SPT_CAUSE_PIN (by decide) (by decide) (h ▸ s.flag_raise_self SPT_CAUSE_PIN 0 (by decide))
    · exact hcause SPT_CAUSE_CAN0 (by decide) (by decide) (h ▸ s.flag_raise_self SPT_CAUSE_CAN0 0 (by decide))
    · exact hcause SPT_CAUSE_CAN1 (by decide) (by decide) (h ▸ s.flag_raise_self SPT_CAUSE_CAN1 0 (by decide))
  case awake =>
    intro w s hlow htrip hen hmode
    have hwake : exec (.soundpostWake w) s = .next (s.wakeCause w) := by
      rw [exec_soundpostWake s w hlow htrip hen, if_neg (fun h => hmode (((s.wakeCause_keeps w).mode rfl).symm.trans h))]
    refine ⟨_, hwake, fun h => h ▸ s.flag_raise_self SPT_CAUSE_PIN 0 (by decide), fun j h => ?_, s.wakeCause_keeps w⟩
    subst h
    show ((s.setBits SPT_CAUSE_SLOT 0 (2 ^ j.val)).get SPT_CAUSE_SLOT).testBit j.val = true
    rw [(show (s.setBits SPT_CAUSE_SLOT 0 (2 ^ j.val)).get SPT_CAUSE_SLOT = _ from s.get_set_self SPT_CAUSE_SLOT 0 _), Nat.testBit_mod_two_pow, Nat.testBit_or, Nat.testBit_two_pow_self, Bool.or_true, Bool.and_true]
    exact decide_eq_true j.isLt
  case disabled =>
    intro w s h
    show execSoundpostWake w s = _
    unfold execSoundpostWake State.awake
    rcases h with h | h | h
    all_goals simp [h]

end Sys2Proof.Machine
end

section
/-! SUPPORT. What a loss of power does to the domains and to the switch under way: the contents of a block go, no domain comes on, and only the
hub's own loss ends the switch (17 R466, R467). -/

namespace Sys2Proof.Machine

set_option Elab.async false

/-- The switch under way stays with its BUSY, or is forgotten with it. -/
def State.SwitchStays (s t : State) : Prop :=
  (t.pins.switching = s.pins.switching ∧ t.flag PWR_STAT_BUSY = s.flag PWR_STAT_BUSY) ∨
    (t.pins.switching = none ∧ t.flag PWR_STAT_BUSY = false)

theorem State.SwitchStays.trans {s t u : State} (h : s.SwitchStays t) (k : t.SwitchStays u) : s.SwitchStays u := by
  rcases k with ⟨hs, hb⟩ | hx
  · rw [State.SwitchStays, hs, hb]
    exact h
  · exact .inr hx

theorem State.SwitchStays.of_same {s t : State} (hp : t.pins.switching = s.pins.switching) (hr : t.regs = s.regs) : s.SwitchStays t :=
  .inl ⟨hp, by rw [State.flag, State.flag, State.get, State.get, hr]⟩

theorem State.SwitchStays.none {s t : State} (h : s.SwitchStays t) (hs : s.pins.switching = none) (hb : s.flag PWR_STAT_BUSY = false) :
    t.pins.switching = none ∧ t.flag PWR_STAT_BUSY = false := by
  rcases h with ⟨h1, h2⟩ | h
  · exact ⟨h1.trans hs, h2.trans hb⟩
  · exact h

theorem State.SwitchStays.some {s t : State} {d : Nat} (h : s.SwitchStays t) (hs : s.pins.switching = some d) :
    t.pins.switching = some d ∨ (t.pins.switching = .none ∧ t.flag PWR_STAT_BUSY = false) := h.imp (fun h => h.1.trans hs) id

/-- No domain comes on: one that reads otherwise than before is a vector unit that reads off. -/
structure State.Loses (s t : State) : Prop where
  dom (x : Nat) : sget t.dom x 0 = sget s.dom x 0 ∨ (740 ≤ x ∧ x < 760 ∧ sget t.dom x 0 = 0)
  switching : s.SwitchStays t

theorem State.Loses.refl (s : State) : s.Loses s := ⟨fun _ => .inl rfl, .inl ⟨rfl, rfl⟩⟩

theorem State.Loses.trans {s t u : State} (h : s.Loses t) (k : t.Loses u) : s.Loses u where
  dom x := by
    rcases k.dom x with hx | hx
    · exact hx ▸ h.dom x
    · exact .inr hx
  switching := h.switching.trans k.switching

theorem State.Loses.ite {p : Prop} [Decidable p] {s a b : State} (ha : s.Loses a) (hb : s.Loses b) : s.Loses (if p then a else b) := by
  split
  · exact ha
  · exact hb

theorem State.Loses.foldl {α : Type} {f : State → α → State} (hf : ∀ s x, State.Loses s (f s x)) (l : List α) (s : State) : s.Loses (l.foldl f s) := by
  induction l generalizing s with
  | nil => exact .refl s
  | cons x l ih => exact (hf s x).trans (ih (f s x))

theorem Keeps.loses {w : Writes} {s t : State} (h : Keeps w s t) (hd : w.dom = false := by rfl) (hp : w.pins = false := by rfl)
    (hr : Bank.pwr ∉ w.regs := by decide) : s.Loses t :=
  ⟨fun x => .inl (by rw [h.dom hd]), .inl ⟨by rw [h.pins hp], h.flag PWR_STAT_BUSY 0 hr⟩⟩

theorem State.Loses.step {w : Writes} {s t u : State} (h : s.Loses t) (k : Keeps w t u) (hd : w.dom = false := by rfl) (hp : w.pins = false := by rfl)
    (hr : Bank.pwr ∉ w.regs := by decide) : s.Loses u := h.trans (k.loses hd hp hr)

/-- Whatever leaves the domains, the pins and the registers alone. -/
theorem State.Loses.of_same {s t : State} (hd : t.dom = s.dom) (hp : t.pins.switching = s.pins.switching) (hr : t.regs = s.regs) : s.Loses t :=
  ⟨fun x => .inl (by rw [hd]), .of_same hp hr⟩

theorem State.set_loses (s : State) (f : Field) (i v : Nat) (h : PWR_STAT_BUSY.id % 65536 ≠ f.id % 65536 := by decide) : s.Loses (s.set f i v) :=
  ⟨fun _ => .inl rfl, .inl ⟨rfl, s.flag_set_field f PWR_STAT_BUSY i 0 v h⟩⟩

theorem State.raise_loses (s : State) (f : Field) (i : Nat) (h : PWR_STAT_BUSY.id % 65536 ≠ f.id % 65536 := by decide) : s.Loses (s.raise f i) :=
  { s.set_loses f i 1 h with }

theorem State.clearRegs_loses (s : State) (lo hi : Nat) (p : Nat → Bool)
    (h : PWR_STAT_BUSY.id % 65536 < lo ∨ hi ≤ PWR_STAT_BUSY.id % 65536 := by decide) : s.Loses (s.clearRegs lo hi p) :=
  ⟨fun _ => .inl rfl, .inl ⟨rfl, congrArg (· == 1) (s.get_clearRegs_outside lo hi p PWR_STAT_BUSY 0 h)⟩⟩

/-! ### What a fault leaves alone (19 R494, 17 R473) -/

/-- Of the pins' state a fault may note that a hold waits; of the clock registers it writes two; what the hardware noted stays. -/
structure State.FaultLeaves (s t : State) : Prop where
  pins : t.pins = { s.pins with waitHold := t.pins.waitHold }
  fltHw : t.fltHw = s.fltHw
  clk (f : Field) (i : Nat) (hf : f.bank = .clk) (hp : f.id % 65536 ≠ CLK_PAUSE_ACC_ACC.id % 65536)
    (hr : f.id % 65536 ≠ CLK_DL_STAT_DL_REPEAT.id % 65536) : t.get f i = s.get f i

theorem State.FaultLeaves.refl (s : State) : s.FaultLeaves s := ⟨rfl, rfl, fun _ _ _ _ _ => rfl⟩

theorem State.FaultLeaves.trans {s t u : State} (h : s.FaultLeaves t) (k : t.FaultLeaves u) : s.FaultLeaves u where
  pins := by rw [k.pins, h.pins]
  fltHw := k.fltHw.trans h.fltHw
  clk f i hf hp hr := (k.clk f i hf hp hr).trans (h.clk f i hf hp hr)

theorem State.FaultLeaves.ite {p : Prop} [Decidable p] {s a b : State} (ha : s.FaultLeaves a) (hb : s.FaultLeaves b) :
    s.FaultLeaves (if p then a else b) := by
  split
  · exact ha
  · exact hb

theorem Keeps.faultLeaves {w : Writes} {s t : State} (h : Keeps w s t) (hp : w.pins = false := by rfl) (hh : w.faults = false := by rfl)
    (hr : Bank.clk ∉ w.regs := by decide) : s.FaultLeaves t :=
  ⟨by rw [h.pins hp], (h.faults hh).2.2.2.1, fun f i hf _ _ => h.regs f i (hf ▸ hr)⟩

theorem State.FaultLeaves.step {w : Writes} {s t u : State} (h : s.FaultLeaves t) (k : Keeps w t u) (hp : w.pins = false := by rfl)
    (hh : w.faults = false := by rfl) (hr : Bank.clk ∉ w.regs := by decide) : s.FaultLeaves u := h.trans (k.faultLeaves hp hh hr)

theorem State.requestHold_faultLeaves (s : State) (k : Nat) : s.FaultLeaves (s.requestHold k) :=
  s.nextSeq_keeps.faultLeaves.step (State.pushAll_keeps ..) |>.step (State.takeHoldReq_keeps ..)

theorem State.plannedHold_faultLeaves (s : State) : s.FaultLeaves s.plannedHold := by
  unfold State.plannedHold
  exact .ite (.refl s) ((s.set_keeps CKP_HOLDAT_STROKE 0 _).faultLeaves.trans (State.requestHold_faultLeaves ..))

theorem State.faultHold_faultLeaves (s : State) : s.FaultLeaves s.faultHold := by
  unfold State.faultHold
  extract_lets raised first _ noted
  have hr : s.FaultLeaves raised := (s.raise_keeps CKP_CTL_HOLDOFF 0).faultLeaves
  exact .ite hr (hr.step (raised.withCkp_keeps _) |>.trans (noted.requestHold_faultLeaves _))

theorem State.heldPlan_faultLeaves (s : State) : s.FaultLeaves s.heldPlan := by
  have hwait : s.FaultLeaves { s with pins := { s.pins with waitHold := false } } := ⟨rfl, rfl, fun _ _ _ _ _ => rfl⟩
  unfold State.heldPlan
  exact .ite (hwait.trans (State.plannedHold_faultLeaves _)) (.refl s)

theorem State.planHold_faultLeaves (s : State) : s.FaultLeaves s.planHold := by
  have hwait : s.FaultLeaves { s with pins := { s.pins with waitHold := true } } := ⟨rfl, rfl, fun _ _ _ _ _ => rfl⟩
  unfold State.planHold
  exact .ite (.refl s) (.ite hwait s.plannedHold_faultLeaves)

theorem State.traceFreeze_faultLeaves (s : State) (cause : Nat) : s.FaultLeaves (s.traceFreeze cause) := by
  unfold State.traceFreeze
  refine .ite (.refl s) ?_
  extract_lets n marked noted _ frozen
  have hf : s.FaultLeaves frozen :=
    (s.set_keeps TRC_FRZST_CAUSE 0 cause).faultLeaves.step (State.set_keeps _ TRC_FRZST_MARKER 0 n) |>.step (marked.trcOwn_keeps ..)
      |>.step (noted.withTrace_keeps _)
  exact .ite (hf.trans frozen.planHold_faultLeaves) hf

theorem State.traceEvent_faultLeaves (s : State) (en : Field) (cause : Nat) : s.FaultLeaves (s.traceEvent en cause) :=
  .ite (s.traceFreeze_faultLeaves cause) (.refl s)

theorem State.storeFlt_faultLeaves (s : State) (r : FltRec) : s.FaultLeaves (s.storeFlt r) := by
  have hk := s.storeFlt_keeps r
  refine ⟨by rw [hk.pins rfl], ?_, fun f i hf _ _ => hk.regs f i (hf ▸ by decide)⟩
  have hemcy (u : State) (x : FltRec) : (u.queueEmcy x).fltHw = u.fltHw := by
    unfold State.queueEmcy
    split
    · rfl
    · split <;> rfl
  unfold State.storeFlt
  split
  · rfl
  extract_lets y recs stored queued
  have hq : queued.fltHw = s.fltHw := hemcy stored y
  split
  · exact ((queued.msix_keeps _).faults rfl).2.2.2.1.trans hq
  · exact hq

theorem State.logOnly_faultLeaves (s : State) (code sev tile loc pcell d0 d1 : Nat) : s.FaultLeaves (s.logOnly code sev tile loc pcell d0 d1) := by
  unfold State.logOnly
  extract_lets inRun replay pause
  have hfresh : s.FaultLeaves (if pause then s.fresh else (0, s)).2 := by
    split
    · exact s.fresh_keeps.faultLeaves
    · exact .refl s
  split
  rename_i w u hdrawn
  rw [hdrawn] at hfresh
  extract_lets scyc r0 rep sev' hold r repeated collided before recorded _ stored traced
  have hrepeat : u.FaultLeaves (u.raise CLK_DL_STAT_DL_REPEAT) := ⟨rfl, rfl, fun f i _ _ hr => u.get_raise_field _ f 0 i hr⟩
  have hrepeated : s.FaultLeaves repeated := .ite (hfresh.trans hrepeat) hfresh
  have hcollided : s.FaultLeaves collided := .ite (hrepeated.step (State.raise_keeps _ FAB_STAT_COLLREP tile)) hrepeated
  have hstored : s.FaultLeaves stored := hcollided.trans (collided.storeFlt_faultLeaves r) |>.step (recorded.withCkp_keeps _)
  have htraced : s.FaultLeaves traced := .ite hstored (hstored.trans (stored.traceEvent_faultLeaves ..))
  exact (State.FaultLeaves.ite (htraced.trans traced.faultHold_faultLeaves) htraced).step (State.hubLevels_keeps _)

theorem State.endPause_faultLeaves (s : State) (e : Nat) : s.FaultLeaves (s.endPause e) := by
  unfold State.endPause
  extract_lets len _ ended
  have hended : s.FaultLeaves ended := (s.withCkp_keeps _).faultLeaves
  have hpause (u : State) (v : Nat) : u.FaultLeaves (u.set CLK_PAUSE_ACC_ACC 0 v) := ⟨rfl, rfl, fun f i _ hp _ => u.get_set_field _ f 0 i v hp⟩
  exact hended.step (ended.set_keeps CKP_TIME_LASTPAUSE 0 _) |>.trans (hpause _ _)

theorem State.ckpFail_faultLeaves (s : State) (cause : Nat) : s.FaultLeaves (s.ckpFail cause) := by
  unfold State.ckpFail
  refine .ite (.refl s) ?_
  extract_lets k _ u
  have hu : s.FaultLeaves u := (s.withCkp_keeps _).faultLeaves
  exact (hu.trans (u.endPause_faultLeaves _)).trans (State.heldPlan_faultLeaves _) |>.step (State.raise_keeps _ CKP_STAT_CKPFAIL 0)
    |>.step (State.announce_keeps ..) |>.trans (State.logOnly_faultLeaves ..)

theorem State.fault_faultLeaves (s : State) (code sev tile loc pcell d0 d1 : Nat) : s.FaultLeaves (s.fault code sev tile loc pcell d0 d1) := by
  have hlog := s.logOnly_faultLeaves code sev tile loc pcell d0 d1
  exact .ite (hlog.trans (State.ckpFail_faultLeaves ..)) hlog

theorem State.fault_loses (s : State) (code sev tile loc pcell d0 d1 : Nat) : s.Loses (s.fault code sev tile loc pcell d0 d1) := by
  have hk := s.fault_keeps code sev tile loc pcell d0 d1
  exact ⟨fun x => .inl (by rw [hk.dom rfl]), .inl ⟨(congrArg PinSt.switching (s.fault_faultLeaves code sev tile loc pcell d0 d1).pins).trans rfl,
    hk.flag PWR_STAT_BUSY 0 (by decide)⟩⟩

/-! ### The blocks (17 R466) -/

theorem State.setReady_loses (s : State) (f : Nat) (b : Bool) : s.Loses (s.setReady f b) := (s.setReady_keeps f b).loses

theorem State.gecSyncLec_loses (s : State) (e : Nat) : s.Loses (s.gecSyncLec e) := .foldl (fun s _ => (s.gecSync_keeps _).loses) _ s

theorem State.laneFlag_loses (s : State) (f : Field) (n : Nat) (h : PWR_STAT_BUSY.id % 65536 ≠ f.id % 65536 := by decide) :
    s.Loses (s.laneFlag f n) := (s.raise_loses f n h).step (State.laneLevels_keeps _ n)

theorem State.ldictLost_loses (s : State) (n : Nat) : s.Loses (s.ldictLost n) :=
  .foldl (fun s i => .ite ((s.lower_keeps MGT_LDICT_BUSY i).loses.trans (State.raise_loses _ MGT_LDICT_ERR i)) (.refl s)) _ s

theorem State.leaveUp_loses (s : State) (n : Nat) : s.Loses (s.leaveUp n) := by
  unfold State.leaveUp
  extract_lets used t
  have ht : s.Loses t := ((s.setLane_keeps n _).loses.step (State.goDetect_keeps _ n) |>.step (State.setLaneReady_keeps _ n false)
    |>.trans (State.laneFlag_loses _ LNK_STAT_LOSS n)).trans (State.ldictLost_loses _ n)
  exact .ite (ht.trans (State.fault_loses ..)) ht

theorem State.leaveIfUp_loses (s : State) (n : Nat) : s.Loses (s.leaveIfUp n) := .ite (s.leaveUp_loses n) (.refl s)

theorem State.loseCell_loses (s : State) (c : Nat) : s.Loses (s.loseCell c) := (s.setCell_keeps c _).loses.trans (State.clearRegs_loses ..)

theorem State.loseQuad_loses (s : State) (q : Nat) : s.Loses (s.loseQuad q) := by
  unfold State.loseQuad
  extract_lets a b c
  have ha : s.Loses a := .foldl (fun s k => s.leaveIfUp_loses _) _ s
  have hc : s.Loses c := ha.trans (a.clearRegs_loses ..) |>.trans (b.clearRegs_loses ..)
  exact hc.trans (.foldl (fun s k => (s.setLane_keeps _ _).loses.trans (State.setReady_loses ..) |>.step (State.laneLevels_keeps ..)) _ c)

theorem State.zeroRange_loses (s : State) (a b : Nat) : s.Loses (s.zeroRange a b) := .of_same rfl rfl rfl

theorem State.loseTme_loses (s : State) (t : Nat) : s.Loses (s.loseTme t) :=
  (s.clearRegs_loses ..).trans (State.zeroRange_loses ..) |>.step (State.setTile_keeps ..) |>.step (State.stackReady_keeps ..)
    |>.step (State.tmeLevel_keeps ..)

theorem State.loseFabric_loses (s : State) (t : Nat) : s.Loses (s.loseFabric t) := by
  unfold State.loseFabric
  extract_lets a b c d e f g h i x j k
  have hi : s.Loses i := (s.clearRegs_loses ..).trans (a.clearRegs_loses ..) |>.trans (b.clearRegs_loses ..) |>.trans (c.clearRegs_loses ..)
    |>.trans (d.clearRegs_loses ..) |>.trans (e.clearRegs_loses ..) |>.trans (f.clearRegs_loses ..) |>.trans (g.clearRegs_loses ..)
    |>.trans (h.clearRegs_loses ..)
  have hk : j.Loses k := .of_same rfl rfl rfl
  exact (hi.step (i.setTile_keeps t _)).trans hk |>.trans (k.setReady_loses ..) |>.trans (State.gecSyncLec_loses ..)

theorem State.domainChanged_loses (s : State) (d : Nat) : s.Loses (s.domainChanged d) :=
  (s.raise_loses PWR_STAT_CHG 0).trans (State.set_loses _ PWR_STAT_LASTDOM 0 d) |>.step (State.lecSample_keeps ..)

theorem State.cvuOff_loses (s : State) (n : Nat) (hn : n < 20) : s.Loses (s.cvuOff n) := by
  have hoff (u : State) : u.Loses (u.setDom (740 + n) 0) := by
    refine ⟨fun x => ?_, .inl ⟨rfl, rfl⟩⟩
    by_cases hx : x = 740 + n
    · exact .inr ⟨by omega, by omega, hx ▸ u.dom_setDom_self (740 + n) 0⟩
    · exact .inl (sget_sput_ne u.dom (740 + n) x 0 0 0 hx)
  have hstate (u : State) : u.Loses (u.cvuState n 2) := by
    have hset := u.set_loses CVU_STAT_PSTATE n 2
    unfold State.cvuState
    rw [if_pos rfl]
    exact .ite ((hset.trans (hoff _)).trans (State.domainChanged_loses ..)) (hset.trans (hoff _))
  exact (s.setCore_keeps n _).loses.step (State.lower_keeps _ CVU_STAT_WAKING n) |>.trans (hstate _)

theorem State.coreReady_loses (s : State) (n : Nat) : s.Loses (s.coreReady n) := s.setReady_loses _ _

theorem State.endDebug_loses (s : State) (n : Nat) : s.Loses (s.endDebug n) := by
  have hlower : s.Loses (s.lower TRC_CDBG_HALTED n) := (s.lower_keeps ..).loses
  unfold State.endDebug
  exact hlower.trans (.foldl (fun s j => s.set_loses TRC_CR_VALUE (7 * n + j) 0) _ _)

theorem State.coreReset_loses (s : State) (n : Nat) (hn : n < 20) : s.Loses (s.coreReset n) := by
  unfold State.coreReset
  extract_lets pc a b c d _ e f
  have ha : s.Loses a := State.Loses.trans (.foldl (fun s q => (s.ackInval_keeps ..).loses) _ s) (State.cvuOff_loses _ n hn)
  have hd : s.Loses d := ha.trans (a.clearRegs_loses ..) |>.trans (b.clearRegs_loses ..) |>.trans (c.set_loses CPO_RSTPC_PC n pc)
  have he : d.Loses e := (d.setCore_keeps n _).loses
  have hf : e.Loses f := .of_same rfl rfl rfl
  have hfault (u : State) : u.Loses (u.coreFaultLevel n) := (u.lecSample_keeps _ _).loses
  exact (hd.trans he |>.trans hf |>.trans (f.endDebug_loses n)).trans (hfault _) |>.step (State.serviceLevel_keeps ..) |>.trans (State.coreReady_loses ..)

theorem State.loseCore_loses (s : State) (n : Nat) (hn : n < 20) : s.Loses (s.loseCore n) :=
  (s.coreReset_loses n hn).step (State.lower_keeps _ CPO_RSTPC_PC n) |>.trans (State.clearRegs_loses _ CPO_ID_CORE.id (CVU_WAKES_OFFW.id + 32) (· == n))

theorem State.loseFlash_loses (s : State) : s.Loses s.loseFlash := by
  have hselect : s.Loses (s.flashSelect 0) := by
    have hswap : s.Loses { s with mem := swapFlash s.mem } := .of_same rfl rfl rfl
    exact .ite (.refl s) (hswap.trans (State.set_loses _ MGT_FLCTL_WINSEL 0 0))
  have hdrop (u : State) : u.Loses u.dropReads := by
    have hemit : u.Loses (u.flash.bar.foldl (fun s _ => s.emit (.data 0 false)) u) := .foldl (fun s _ => (s.emit_keeps _).loses) _ u
    exact hemit.trans (.of_same rfl rfl rfl)
  exact (hselect.trans (hdrop _)).trans (State.clearRegs_loses _ MGT_FLCTL_WINSEL.id (MGT_FLBUF_ADDR.id + 61) _)
    |>.trans (State.set_loses _ MGT_FLCTL_WPN 0 _) |>.trans (State.setReady_loses ..)

theorem State.losePci_loses (s : State) : s.Loses s.losePci := by
  unfold State.losePci
  extract_lets a
  have ha : s.Loses a := s.flr_keeps.loses.trans (State.clearRegs_loses ..)
  exact (ha.trans (a.withPci_keeps PciSt.zero).loses).step (State.pciLevel_keeps _) |>.trans (State.setReady_loses ..)

theorem State.loseMgt_loses (s : State) : s.Loses s.loseMgt := by
  unfold State.loseMgt
  extract_lets a b claim c d
  have hb : s.Loses b := (s.clearRegs_loses ..).trans (a.clearRegs_loses ..)
  have hc : b.Loses c := .of_same rfl rfl rfl
  exact (hb.trans hc).step (c.lecSample_keeps ..) |>.step (State.lecSample_keeps ..) |>.step (State.hubLevels_keeps _)
    |>.trans (d.setReady_loses ..) |>.trans (State.setReady_loses ..)

theorem State.loseGec_loses (s : State) : s.Loses s.loseGec := by
  unfold State.loseGec
  extract_lets a b c
  have hc : s.Loses c := (s.clearRegs_loses ..).trans (a.clearRegs_loses ..) |>.trans (b.clearRegs_loses ..)
  have hd : c.Loses { c with lecFresh := c.lecFresh.filter (fun p => p.1 / 512 != 8), events := EventPath.zero } := .of_same rfl rfl rfl
  exact (hc.trans hd).trans (State.setReady_loses ..)

theorem State.loseTrace_loses (s : State) : s.Loses s.loseTrace := by
  unfold State.loseTrace
  extract_lets a b
  have hb : s.Loses b := (s.clearRegs_loses ..).trans (.foldl (fun s n => (s.setCore_keeps n _).loses) _ a)
  exact hb.step (b.withTrace_keeps _) |>.step (State.trcLevel_keeps _) |>.step (State.lecSample_keeps ..) |>.trans (State.setReady_loses ..)

/-- The hub's loss forgets the switch under way. -/
theorem State.loseHub_loses (s : State) : s.Loses s.loseHub := by
  have hnone (u : State) : u.Loses u.emergencyFlags := (u.set_loses PWR_THERM_EMG 0 _).trans (State.set_loses _ PWR_SUPPLY_EMG 0 _)
  unfold State.loseHub
  extract_lets a b c d
  have hbusy : d.flag PWR_STAT_BUSY = false := by
    rw [State.flag, State.get_clearRegs_inside c PWR_CMD_DOMAIN.id (PWR_PMBDATA_DATA.id + 64) PWR_STAT_BUSY 0 (by decide)]
    rfl
  refine State.Loses.trans ⟨fun x => .inl ?_, .inr ⟨?_, ?_⟩⟩ (hnone _)
  · rfl
  · rfl
  · exact hbusy

theorem State.loseDomain_loses (s : State) (d : Nat) : s.Loses (s.loseDomain d) := by
  unfold State.loseDomain
  refine .ite ?cluster (.ite ?spare (.ite (s.loseQuad_loses _) (.ite (s.loseTme_loses _) (.ite (s.loseFabric_loses _) ?rest))))
  case cluster =>
    have hcells : s.Loses ((List.range 64).foldl (fun s p => s.loseCell (68 * d + p)) s) := .foldl (fun s p => s.loseCell_loses _) _ s
    exact hcells.step (State.cellLevel_keeps ..) |>.trans (State.setReady_loses ..)
  case spare =>
    exact (s.set_loses CLU_SPARE_PON _ _).trans (State.set_loses _ CLU_SPARE_PGOOD _ _) |>.trans (State.loseCell_loses ..)
      |>.step (State.cellLevel_keeps ..)
  case rest =>
    split
    next h => exact s.loseCore_loses _ (by omega)
    split
    next h => exact s.cvuOff_loses _ (by omega)
    exact .ite s.loseFlash_loses (.ite s.losePci_loses (.ite s.loseHub_loses (.ite s.loseMgt_loses (.ite s.loseGec_loses
      (.ite s.loseTrace_loses (.refl s))))))

/-! ### Power commands (17 R465) -/

/-- A refused command sets ERR and its code. -/
theorem State.powerErr_refuses (s : State) (code : Nat) (hcode : code < 8) : (s.powerErr code).flag PWR_STAT_ERR = true ∧
    (s.powerErr code).get PWR_STAT_ERRCODE = code ∧ Keeps { regs := [.pwr] } s (s.powerErr code) :=
  ⟨(State.flag_set_field _ _ _ _ _ _ (by decide)).trans (s.flag_raise_self PWR_STAT_ERR 0 (by decide)),
    (State.get_set_self ..).trans (Nat.mod_eq_of_lt hcode),
    Keeps.refl _ s |>.andThen (s.raise_keeps PWR_STAT_ERR 0) |>.andThen (State.set_keeps _ PWR_STAT_ERRCODE 0 code)⟩

/-- The command register as a write of it leaves it. -/
def State.commanded (s : State) (d : BitVec 10) (on : Bool) : State :=
  (if PWR_CMD_DOMAIN.ok d.toNat then s.set PWR_CMD_DOMAIN 0 d.toNat else s).set PWR_CMD_ON 0 (b2n on)

theorem exec_domainSwitch_commanded (a : Agent) (d : BitVec 10) (on : Bool) (s : State) (hhub : s.domOn 760 = true) :
    exec (.domainSwitch a d on) s = .next ((s.commanded d on).powerGo a) := if_pos hhub

theorem State.commanded_keeps (s : State) (d : BitVec 10) (on : Bool) : Keeps { regs := [.pwr] } s (s.commanded d on) :=
  (Keeps.ite (s.set_keeps PWR_CMD_DOMAIN 0 d.toNat) (.refl _ s)).andThen (State.set_keeps _ PWR_CMD_ON 0 _)

theorem State.get_commanded (s : State) (d : BitVec 10) (on : Bool) (f : Field) (hd : f.id % 65536 ≠ PWR_CMD_DOMAIN.id % 65536)
    (ho : f.id % 65536 ≠ PWR_CMD_ON.id % 65536) : (s.commanded d on).get f = s.get f := by
  rw [State.commanded, State.get_set_field _ _ _ _ _ _ ho]
  split
  · exact s.get_set_field _ _ _ _ _ hd
  · rfl

theorem State.commanded_domain (s : State) (d : BitVec 10) (on : Bool) (hd : d.toNat < 766) : (s.commanded d on).get PWR_CMD_DOMAIN = d.toNat := by
  have hok : PWR_CMD_DOMAIN.ok d.toNat = true := decide_eq_true (Nat.le_of_lt_succ hd)
  rw [State.commanded, State.get_set_field _ _ _ _ _ _ (by decide), if_pos hok]
  exact (s.get_set_self PWR_CMD_DOMAIN 0 _).trans (Nat.mod_eq_of_lt d.isLt)

theorem State.commanded_reserved (s : State) (d : BitVec 10) (on : Bool) (hd : 766 ≤ d.toNat) :
    (s.commanded d on).get PWR_CMD_DOMAIN = s.get PWR_CMD_DOMAIN := by
  have hok : ¬ PWR_CMD_DOMAIN.ok d.toNat = true := by
    show ¬ decide (d.toNat ≤ 765) = true
    simp
    omega
  rw [State.commanded, State.get_set_field _ _ _ _ _ _ (by decide), if_neg hok]

theorem State.commanded_on (s : State) (d : BitVec 10) (on : Bool) : (s.commanded d on).flag PWR_CMD_ON = on := State.flag_set_b2n _ PWR_CMD_ON 0 on

/-- The agent's own core is the domain that the command names (17 R465 check 2). -/
def OwnDomain (a : Agent) (d : Nat) : Prop := ∃ n : Fin 20, a = .core n ∧ d = 720 + n.val

/-- What a command does that passes the checks of its mode and of its domain. -/
def State.switches (s : State) (d : Nat) (on : Bool) : State :=
  if on && !s.parentOn d then s.powerErr 3
  else if on && s.pins.failed.any (fun p => p.1 == d && p.2 == s.tb / 4) then s.powerErr 5
  else if !on && (List.range 766).any (fun x => parent x == some d && sget s.dom x 0 != 0 && sget s.dom x 0 != 4) then s.powerErr 4
  else if on && (sget s.dom d 0 == 0 || sget s.dom d 0 == 4) then
    { (s.setDom d 1).raise PWR_STAT_BUSY with pins := { s.pins with switching := some d } }
  else if !on && (sget s.dom d 0 == 2 || sget s.dom d 0 == 1) then
    { (s.powerDown d).raise PWR_STAT_BUSY with pins := { (s.powerDown d).pins with switching := some d } }
  else s

theorem State.powerGo_busy (s : State) (a : Agent) (h : s.flag PWR_STAT_BUSY = true) : s.powerGo a = s.raise PWR_STAT_ERR := if_pos h

theorem State.powerGo_mode (s : State) (a : Agent) (hb : s.flag PWR_STAT_BUSY = false) (hm : s.powerMode = false) : s.powerGo a = s.powerErr 1 :=
  (if_neg (by simp [hb])).trans (if_pos (by simp [hm]))

theorem State.powerGo_fixed (s : State) (a : Agent) (hb : s.flag PWR_STAT_BUSY = false) (hm : s.powerMode = true)
    (h : planDomain (s.get PWR_CMD_DOMAIN) = false ∨ OwnDomain a (s.get PWR_CMD_DOMAIN)) : s.powerGo a = s.powerErr 2 := by
  refine (if_neg (by simp [hb])).trans ((if_neg (by simp [hm])).trans (if_pos ?_))
  rcases h with h | ⟨n, rfl, h⟩
  · simp [h]
  · simp [h]

theorem State.powerGo_switches (s : State) (a : Agent) (hb : s.flag PWR_STAT_BUSY = false) (hm : s.powerMode = true)
    (hp : planDomain (s.get PWR_CMD_DOMAIN) = true) (ho : ¬ OwnDomain a (s.get PWR_CMD_DOMAIN)) :
    s.powerGo a = s.switches (s.get PWR_CMD_DOMAIN) (s.flag PWR_CMD_ON) := by
  refine (if_neg (by simp [hb])).trans ((if_neg (by simp [hm])).trans ((if_neg ?_).trans rfl))
  cases a with
  | core n => simpa [hp] using fun h => ho ⟨n, rfl, h⟩
  | _ => simp [hp]

theorem State.switches_parent (s : State) (d : Nat) (h : s.parentOn d = false) : s.switches d true = s.powerErr 3 := if_pos (by simp [h])

theorem State.switches_failed (s : State) (d : Nat) (hp : s.parentOn d = true)
    (h : s.pins.failed.any (fun p => p.1 == d && p.2 == s.tb / 4) = true) : s.switches d true = s.powerErr 5 :=
  (if_neg (by simp [hp])).trans (if_pos (by simp [h]))

/-- A child of the domain is on or switching. -/
def State.childOn (s : State) (d : Nat) : Bool :=
  (List.range 766).any (fun x => parent x == some d && sget s.dom x 0 != 0 && sget s.dom x 0 != 4)

theorem State.childOn_of (s : State) (d x : Nat) (hx : x < 766) (hp : parent x = some d) (h0 : sget s.dom x 0 ≠ 0) (h4 : sget s.dom x 0 ≠ 4) :
    s.childOn d = true :=
  List.any_eq_true.mpr ⟨x, List.mem_range.mpr hx, by simp [hp, h0, h4]⟩

theorem State.childOn_none (s : State) (d : Nat) (h : ∀ x, x < 766 → parent x = some d → sget s.dom x 0 = 0 ∨ sget s.dom x 0 = 4) :
    s.childOn d = false := by
  refine List.any_eq_false.mpr fun x hx => ?_
  have hchild := h x (List.mem_range.mp hx)
  simp only [Bool.and_eq_true, beq_iff_eq, bne_iff_ne, not_and]
  intro ⟨hp, h0⟩
  simpa [h0] using hchild hp

theorem State.switches_child (s : State) (d : Nat) (h : s.childOn d = true) : s.switches d false = s.powerErr 4 :=
  (if_neg nofun).trans ((if_neg nofun).trans (if_pos (by rw [Bool.not_false, Bool.true_and]; exact h)))

theorem State.switches_up (s : State) (d : Nat) (hp : s.parentOn d = true) (hf : s.pins.failed.any (fun p => p.1 == d && p.2 == s.tb / 4) = false)
    (h : sget s.dom d 0 = 0 ∨ sget s.dom d 0 = 4) :
    s.switches d true = { (s.setDom d 1).raise PWR_STAT_BUSY with pins := { s.pins with switching := some d } } :=
  (if_neg (by simp [hp])).trans ((if_neg (by simp [hf])).trans ((if_neg nofun).trans (if_pos (by simpa using h))))

theorem State.switches_on_nothing (s : State) (d : Nat) (hp : s.parentOn d = true)
    (hf : s.pins.failed.any (fun p => p.1 == d && p.2 == s.tb / 4) = false) (h0 : sget s.dom d 0 ≠ 0) (h4 : sget s.dom d 0 ≠ 4) :
    s.switches d true = s :=
  (if_neg (by simp [hp])).trans ((if_neg (by simp [hf])).trans ((if_neg nofun).trans ((if_neg (by simp [h0, h4])).trans (if_neg nofun))))

theorem State.switches_down (s : State) (d : Nat) (hc : s.childOn d = false) (h : sget s.dom d 0 = 2 ∨ sget s.dom d 0 = 1) :
    s.switches d false = { (s.powerDown d).raise PWR_STAT_BUSY with pins := { (s.powerDown d).pins with switching := some d } } :=
  (if_neg nofun).trans ((if_neg nofun).trans ((if_neg (by rw [Bool.not_false, Bool.true_and]; exact Bool.eq_false_iff.mp hc)).trans
    ((if_neg nofun).trans (if_pos (by simpa using h)))))

theorem State.switches_off_nothing (s : State) (d : Nat) (hc : s.childOn d = false) (h2 : sget s.dom d 0 ≠ 2) (h1 : sget s.dom d 0 ≠ 1) :
    s.switches d false = s :=
  (if_neg nofun).trans ((if_neg nofun).trans ((if_neg (by rw [Bool.not_false, Bool.true_and]; exact Bool.eq_false_iff.mp hc)).trans
    ((if_neg nofun).trans (if_neg (by simp [h2, h1])))))

theorem Keeps.domOn {w : Writes} {s t : State} (h : Keeps w s t) (d : Nat) (hd : w.dom = false := by rfl) (hp : w.pins = false := by rfl) :
    t.domOn d = s.domOn d := by
  rw [State.domOn, State.domOn, h.dom hd, h.awake hp]

theorem State.parentOn_commanded (s : State) (d : BitVec 10) (on : Bool) (x : Nat) : (s.commanded d on).parentOn x = s.parentOn x := by
  have hk := s.commanded_keeps d on
  unfold State.parentOn
  split
  · rfl
  · exact hk.domOn _

theorem State.powerMode_commanded (s : State) (d : BitVec 10) (on : Bool) : (s.commanded d on).powerMode = s.powerMode := by
  have hk := s.commanded_keeps d on
  unfold State.powerMode
  rw [hk.mode rfl, hk.boot rfl]

/-- The end of a power-down leaves the domain going off. -/
theorem State.dom_goOff (s : State) (d : Nat) (h : sget s.dom d 0 = 2 ∨ sget s.dom d 0 = 1) :
    sget (s.goOff d).dom d 0 = if sget s.dom d 0 = 2 then 3 else 5 := by
  unfold State.goOff
  rcases h with h | h
  · rw [h]
    exact s.dom_setDom_self d 3
  · rw [h]
    exact s.dom_setDom_self d 5

theorem State.dom_powerDown (s : State) (d : Nat) (hd : d < 740 ∨ 760 ≤ d) (h : sget s.dom d 0 = 2 ∨ sget s.dom d 0 = 1) :
    sget (s.powerDown d).dom d 0 = if sget s.dom d 0 = 2 then 3 else 5 := by
  have hsame : sget (s.loseDomain d).dom d 0 = sget s.dom d 0 := ((s.loseDomain_loses d).dom d).resolve_right (by omega)
  rw [State.powerDown, State.dom_goOff _ d (hsame ▸ h), hsame]

/-! ### The end of a switch (17 R466, R468) -/

/-- The switch of a domain ends: no switch is under way, unless it is another domain's. -/
theorem State.powerDone_ends (s : State) (d : Nat)
    (h : s.pins.switching = some d ∨ (s.pins.switching = none ∧ s.flag PWR_STAT_BUSY = false)) :
    (s.powerDone d).flag PWR_STAT_BUSY = false ∧ (s.powerDone d).pins.switching = none := by
  rcases h with h | ⟨hs, hb⟩
  · rw [State.powerDone, if_pos h]
    exact ⟨s.flag_lower_self PWR_STAT_BUSY 0 rfl, rfl⟩
  · rw [State.powerDone, if_neg (by simp [hs])]
    exact ⟨hb, hs⟩

theorem State.powerDone_keeps (s : State) (d : Nat) : Keeps { regs := [.pwr], pins := true } s (s.powerDone d) :=
  .ite (Keeps.refl _ s |>.andThen (s.lower_keeps PWR_STAT_BUSY 0) |>.andThen (State.withPins_keeps _ _)) (.refl _ s)

theorem State.get_powerDone (s : State) (d : Nat) (f : Field) (i : Nat) (h : f.id % 65536 ≠ PWR_STAT_BUSY.id % 65536) :
    (s.powerDone d).get f i = s.get f i := by
  unfold State.powerDone
  split
  · exact s.get_lower_field PWR_STAT_BUSY f 0 i h
  · rfl

theorem State.flag_powerDone (s : State) (d : Nat) (f : Field) (i : Nat) (h : f.id % 65536 ≠ PWR_STAT_BUSY.id % 65536) :
    (s.powerDone d).flag f i = s.flag f i := congrArg (· == 1) (s.get_powerDone d f i h)

/-- A change of a domain is noted in PWR_STAT. -/
theorem State.domainChanged_notes (s : State) (d : Nat) (hd : d < 1024) :
    (s.domainChanged d).flag PWR_STAT_CHG = true ∧ (s.domainChanged d).get PWR_STAT_LASTDOM = d := by
  have hlevel := State.lecSample_keeps ((s.raise PWR_STAT_CHG).set PWR_STAT_LASTDOM 0 d) (4096 + 0x11C)
    (((s.raise PWR_STAT_CHG).set PWR_STAT_LASTDOM 0 d).flag PWR_STAT_CHG)
  constructor
  · refine (hlevel.flag PWR_STAT_CHG 0 (by decide)).trans ?_
    exact (State.flag_set_field _ _ _ _ _ _ (by decide)).trans (s.flag_raise_self PWR_STAT_CHG 0 (by decide))
  · refine (hlevel.regs PWR_STAT_LASTDOM 0 (by decide)).trans ?_
    exact (State.get_set_self ..).trans (Nat.mod_eq_of_lt hd)

/-- Of the power registers a change of a domain writes CHG and LASTDOM alone. -/
theorem State.get_domainChanged (s : State) (d : Nat) (f : Field) (i : Nat) (hb : f.bank ≠ .lec) (hc : f.id % 65536 ≠ PWR_STAT_CHG.id % 65536)
    (hl : f.id % 65536 ≠ PWR_STAT_LASTDOM.id % 65536) : (s.domainChanged d).get f i = s.get f i := by
  have hlevel := State.lecSample_keeps ((s.raise PWR_STAT_CHG).set PWR_STAT_LASTDOM 0 d) (4096 + 0x11C)
    (((s.raise PWR_STAT_CHG).set PWR_STAT_LASTDOM 0 d).flag PWR_STAT_CHG)
  refine (hlevel.regs f i (fun h => hb (List.mem_singleton.mp h))).trans ?_
  rw [State.get_set_field _ _ _ _ _ _ hl, State.get_raise_field _ _ _ _ _ hc]

theorem bit_putBit (n i : Nat) (b : Bool) : bit (putBit n i b) i = b := by
  cases b with
  | true => exact bit_putBit_true n i
  | false =>
    have hlow : n % 2 ^ i < 2 ^ i := Nat.mod_lt _ (Nat.two_pow_pos i)
    have hsum : putBit n i false = n % 2 ^ i + 2 ^ i * (2 * (n / 2 ^ (i + 1))) := by
      rw [putBit, putBits, pow_succ]
      simp only [b2n, Bool.false_eq_true, if_false]
      ring
    rw [bit, hsum, Nat.add_mul_div_left _ _ (Nat.two_pow_pos i), Nat.div_eq_of_lt hlow, beq_eq_false_iff_ne]
    omega

/-- The fail bit of a domain takes its value. -/
theorem State.failBit_self (s : State) (d : Nat) (b : Bool) : bit ((s.failBit d b).get PWR_FAIL_MAP (d / 64)) (d % 64) = b := by
  have hi : d % 64 < 64 := Nat.mod_lt _ (by decide)
  rw [State.failBit, State.get_set_self, bit_eq_testBit, show PWR_FAIL_MAP.width = 64 from rfl, Nat.testBit_mod_two_pow, decide_eq_true hi, Bool.true_and,
    ← bit_eq_testBit, bit_putBit]

/-- A domain that reads on: its fail bit is clear and the change is noted. -/
theorem State.domainUp_notes (s : State) (d : Nat) (hd : d < 766) : (s.domainUp d).flag PWR_STAT_CHG = true ∧
    (s.domainUp d).get PWR_STAT_LASTDOM = d ∧ bit ((s.domainUp d).get PWR_FAIL_MAP (d / 64)) (d % 64) = false := by
  obtain ⟨hchg, hlast⟩ := ((s.setDom d 2).failBit d false).domainChanged_notes d (by omega)
  refine ⟨hchg, hlast, ?_⟩
  rw [State.domainUp, State.get_domainChanged _ _ _ _ (by decide) (by decide) (by decide)]
  exact State.failBit_self _ d false

theorem State.domainUp_switchStays (s : State) (d : Nat) : s.SwitchStays (s.domainUp d) :=
  State.SwitchStays.trans (.of_same rfl rfl) ((State.set_loses (s.setDom d 2) PWR_FAIL_MAP _ _).switching.trans (State.domainChanged_loses _ d).switching)

theorem State.noteMoved_loses (s : State) (c : Nat) : s.Loses (s.noteMoved c) := .ite (s.setCell_keeps ..).loses (.refl s)

theorem State.freshLec8_loses (s : State) : s.Loses s.freshLec8 := by
  unfold State.freshLec8
  exact .of_same rfl rfl rfl

/-- A block that powers up is reset: the switch under way stays. -/
theorem State.powerUp_switchStays (s : State) (d : Nat) : s.SwitchStays (s.powerUp d) := by
  unfold State.powerUp
  extract_lets a b _ _ _ c
  have ha : s.Loses a := .ite (s.loseDomain_loses d) (.refl s)
  have hb : a.SwitchStays b := .of_same rfl rfl
  have hc : b.Loses c := by
    refine .ite ?cluster (.ite (b.set_loses CLU_SPARE_PGOOD _ _) (.ite (.refl b) (.ite ?tme (.ite ?fabric ?rest))))
    case cluster =>
      have hcells : b.Loses ((List.range 64).foldl (fun s p => (s.loseCell (68 * d + p)).noteMoved (68 * d + p)) b) :=
        .foldl (fun s p => (s.loseCell_loses _).trans (State.noteMoved_loses ..)) _ b
      exact hcells.step (State.cellLevel_keeps ..) |>.trans (State.setReady_loses ..)
    case tme => exact (b.setTile_keeps ..).loses.step (State.stackReady_keeps ..)
    case fabric => exact (b.setReady_loses ..).trans (State.gecSyncLec_loses ..)
    case rest =>
      split
      next h => exact b.coreReset_loses _ (by omega)
      refine .ite (b.zeroRange_loses ..) (.ite (.of_same rfl rfl rfl) (.ite (.of_same rfl rfl rfl) (.ite ?gec (.ite (b.setReady_loses ..) (.refl b)))))
      have hsync (u : State) : u.Loses ((List.range 9).foldl (fun s e => s.gecSyncLec e) u) := .foldl (fun s e => s.gecSyncLec_loses e) _ u
      exact (b.setReady_loses ..).trans (hsync _) |>.trans (State.freshLec8_loses _)
  exact (ha.switching.trans hb).trans (hc.switching.trans (c.domainUp_switchStays d))

theorem State.powerUp_notes (s : State) (d : Nat) (hd : d < 766) : (s.powerUp d).flag PWR_STAT_CHG = true ∧
    (s.powerUp d).get PWR_STAT_LASTDOM = d ∧ bit ((s.powerUp d).get PWR_FAIL_MAP (d / 64)) (d % 64) = false ∧ sget (s.powerUp d).dom d 0 = 2 := by
  unfold State.powerUp
  extract_lets a b _ _ _ c
  obtain ⟨hchg, hlast, hfail⟩ := c.domainUp_notes d hd
  exact ⟨hchg, hlast, hfail, c.dom_domainUp d⟩

/-- A cluster that powers up is ready. -/
theorem State.ready_powerUp (s : State) (d : Nat) (hd : d < 128) : (s.powerUp d).ready (1024 + d) = true := by
  unfold State.powerUp
  extract_lets a b _ _ _ c
  have hc : c = ((((List.range 64).foldl (fun s p => (s.loseCell (68 * d + p)).noteMoved (68 * d + p)) b).cellLevel d).setReady (1024 + d) true) :=
    if_pos hd
  rw [(c.domainUp_keeps d).ready rfl, hc]
  exact State.ready_setReady ..

/-- What the release of a core writes: its ready bit, and where it starts halted what a halt writes. -/
def releaseWrites : Writes :=
  { regs := [.bj, .lec, .mgt, .trc], lanes := true, fresh := true, rdy := true, refusals := true, cores := true }

theorem State.coreRelease_keeps (s : State) (n : Nat) : Keeps releaseWrites s (s.coreRelease n) := by
  unfold State.coreRelease
  extract_lets x a
  have ha : Keeps releaseWrites s a := (s.setCore_keeps n _).mono.andThen (State.setReady_keeps ..)
  exact .ite (ha.andThen (a.haltCore_keeps n 3)) ha

theorem State.coreRelease_held (s : State) (n : Nat) : ((s.coreRelease n).core n).held = false := by
  unfold State.coreRelease
  extract_lets x a
  have ha : (a.core n).held = false := congrArg CoreSt.held (((State.setReady_keeps _ _ _).core rfl n).trans (State.core_setCore_self ..))
  split
  · rw [State.core_haltCore]
    exact ha
  · exact ha

/-! ### Faults of a domain (17 R467) -/

/-- A domain reads off or failed. -/
def State.IsOff (s : State) (x : Nat) : Prop := sget s.dom x 0 = 0 ∨ sget s.dom x 0 = 4

theorem State.Loses.isOff {s t : State} (h : s.Loses t) (x : Nat) (hx : s.IsOff x) : t.IsOff x := by
  rcases h.dom x with h | ⟨-, -, h⟩
  · rw [State.IsOff, h]
    exact hx
  · exact .inl h

theorem State.isOff_setDom (s : State) (d x : Nat) (hx : s.IsOff x) : (s.setDom d 0).IsOff x := by
  by_cases h : x = d
  · exact .inl (h ▸ s.dom_setDom_self d 0)
  · rw [State.IsOff, State.setDom, sget_sput_ne _ _ _ _ _ _ h]
    exact hx

/-- Of a domain that goes off for a fault: the state between its loss and the notes of it. -/
theorem State.faultOff_off (s : State) (d : Nat) (h : ¬ s.IsOff d) : ((s.loseDomain d).setDom d 0).Loses (s.faultOff d) := by
  have hnone : ¬ (sget s.dom d 0 = 0 ∨ sget s.dom d 0 = 4) := h
  unfold State.faultOff
  extract_lets was live a b
  rw [if_neg hnone]
  have hb : a.Loses b := .ite (a.raise_loses CVU_STAT_LOST _) (.refl a)
  exact .ite (hb.trans (b.domainChanged_loses d)) hb

theorem State.faultOff_stays (s : State) (d : Nat) (h : s.IsOff d) : s.faultOff d = s := if_pos h

theorem State.faultOff_isOff (s : State) (d x : Nat) (hx : x = d ∨ s.IsOff x) : (s.faultOff d).IsOff x := by
  by_cases h : s.IsOff d
  · rw [s.faultOff_stays d h]
    exact hx.elim (fun e => e ▸ h) id
  · refine (s.faultOff_off d h).isOff x ?_
    rcases hx with rfl | hx
    · exact .inl (State.dom_setDom_self ..)
    · exact State.isOff_setDom _ d x ((s.loseDomain_loses d).isOff x hx)

theorem State.foldl_faultOff_isOff (l : List Nat) (s : State) (x : Nat) (hx : x ∈ l ∨ s.IsOff x) : (l.foldl (fun s x => s.faultOff x) s).IsOff x := by
  induction l generalizing s with
  | nil => exact hx.resolve_left List.not_mem_nil
  | cons d l ih =>
    refine ih _ ?_
    rcases hx with hx | hx
    · exact (List.mem_cons.mp hx).elim (fun e => .inr (s.faultOff_isOff d x (.inl e))) .inl
    · exact .inr (s.faultOff_isOff d x (.inr hx))

theorem State.faultOff_switchStays (s : State) (d : Nat) : s.SwitchStays (s.faultOff d) := by
  by_cases h : s.IsOff d
  · rw [s.faultOff_stays d h]
    exact .of_same rfl rfl
  · have hset : (s.loseDomain d).SwitchStays ((s.loseDomain d).setDom d 0) := .of_same rfl rfl
    exact ((s.loseDomain_loses d).switching.trans hset).trans (s.faultOff_off d h).switching

theorem State.foldl_faultOff_switchStays (l : List Nat) (s : State) : s.SwitchStays (l.foldl (fun s x => s.faultOff x) s) := by
  induction l generalizing s with
  | nil => exact .of_same rfl rfl
  | cons d l ih => exact (s.faultOff_switchStays d).trans (ih _)

/-- The domain and its children are off. -/
def State.allOff (s : State) (d : Nat) : State := (withChildren d).foldl (fun s x => s.faultOff x) s

theorem State.allOff_isOff (s : State) (d x : Nat) (hx : x ∈ withChildren d) : (s.allOff d).IsOff x := by
  unfold State.allOff
  generalize withChildren d = l at hx ⊢
  exact State.foldl_faultOff_isOff l s x (.inl hx)

theorem State.allOff_switchStays (s : State) (d : Nat) : s.SwitchStays (s.allOff d) := by
  unfold State.allOff
  exact State.foldl_faultOff_switchStays _ s

/-- The fault of a domain that is off is noted. -/
def State.failed (s : State) (d : Nat) : State := (((s.setDom d 4).failBit d true).noteFault d).raise PWR_STAT_DOMFAULT

/-- The domain and its children are off, and the fault is noted. -/
def State.faulted (s : State) (d : Nat) : State := (s.allOff d).failed d

theorem State.failed_notes (s : State) (d : Nat) : (s.failed d).dom = sput s.dom d 4 0 ∧ (s.failed d).flag PWR_STAT_DOMFAULT = true ∧
    bit ((s.failed d).get PWR_FAIL_MAP (d / 64)) (d % 64) = true := by
  refine ⟨rfl, State.flag_raise_self _ PWR_STAT_DOMFAULT 0 (by decide), ?_⟩
  rw [State.failed, State.get_raise_field _ _ _ _ _ (by decide)]
  exact (s.setDom d 4).failBit_self d true

theorem State.failed_switchStays (s : State) (d : Nat) : s.SwitchStays (s.failed d) := by
  have hset : s.SwitchStays (s.setDom d 4) := .of_same rfl rfl
  have hnote (u : State) : u.SwitchStays (u.noteFault d) := .of_same rfl rfl
  exact hset.trans (State.set_loses _ PWR_FAIL_MAP _ _).switching |>.trans (hnote _) |>.trans (State.raise_loses _ PWR_STAT_DOMFAULT 0).switching

/-- The end of a switch that the fault cuts short, with its code where the switch loses to it. -/
def State.faultCuts (s : State) (cut : Option Nat) (met : Bool) : State :=
  let s := match cut with
    | some x => s.powerDone x
    | none => s
  if met then s.powerErr 5 else s

theorem State.faultCuts_keeps (s : State) (cut : Option Nat) (met : Bool) : Keeps { regs := [.pwr], pins := true } s (s.faultCuts cut met) := by
  have hdone : Keeps { regs := [.pwr], pins := true } s (match cut with | some x => s.powerDone x | none => s) := by
    split
    · exact s.powerDone_keeps _
    · exact .refl _ s
  exact .ite (hdone.andThen (State.powerErr_refuses _ 5 (by decide)).2.2) hdone

theorem State.faultEvent_keeps (s : State) : Keeps levelWrites s s.faultEvent := .ite (State.lecSample_keeps ..) (s.lecPulse_keeps _)

/-- The writes of the fault's end: the event and the record. -/
theorem State.faultReport_keeps (s : State) (sev d info : Nat) : Keeps faultWrites s (s.faultEvent.fault 0x701 sev 0xFF d 0xFFFF info 0) :=
  s.faultEvent_keeps.mono.andThen (State.fault_keeps ..)

theorem exec_domainFault_on (d : Fin 766) (under : Bool) (s : State) (haw : s.awake = true) (hd : ¬ s.IsOff d.val) :
    exec (.domainFault d under) s = .next (((s.faulted d.val).faultCuts (s.pins.switching.filter (fun x => (withChildren d.val).any (· == x)))
      (s.faultMeets d.val)).faultEvent.fault 0x701 (b2n (s.domainUsed d.val)) 0xFF d.val 0xFFFF (if under then 2 else 1) 0) := by
  have hnone : ¬ (!s.awake ∨ sget s.dom d.val 0 = 0 ∨ sget s.dom d.val 0 = 4) := by
    rw [haw]
    exact fun h => hd (h.resolve_left nofun)
  exact if_neg hnone

theorem State.get_faultCuts (s : State) (cut : Option Nat) (met : Bool) (f : Field) (i : Nat) (hb : f.id % 65536 ≠ PWR_STAT_BUSY.id % 65536)
    (he : f.id % 65536 ≠ PWR_STAT_ERR.id % 65536) (hc : f.id % 65536 ≠ PWR_STAT_ERRCODE.id % 65536) :
    (s.faultCuts cut met).get f i = s.get f i := by
  have hdone : (match cut with | some x => s.powerDone x | none => s).get f i = s.get f i := by
    split
    · exact s.get_powerDone _ f i hb
    · rfl
  unfold State.faultCuts
  extract_lets u
  split
  · rw [State.powerErr, State.get_set_field _ _ _ _ _ _ hc, State.get_raise_field _ _ _ _ _ he]
    exact hdone
  · exact hdone

theorem mem_withChildren (d x : Nat) (hx : x < 766) (hbelow : below x d = true) : x ∈ withChildren d := by
  unfold withChildren
  exact List.mem_append_left _ (List.mem_filter.mpr ⟨List.mem_range.mpr hx, hbelow⟩)

/-- The fault of a domain: what it and its children read, and the notes of it. -/
theorem State.faulted_notes (s : State) (d : Nat) : sget (s.faulted d).dom d 0 = 4 ∧ (s.faulted d).flag PWR_STAT_DOMFAULT = true ∧
    bit ((s.faulted d).get PWR_FAIL_MAP (d / 64)) (d % 64) = true ∧ ∀ x, x < 766 → below x d = true → (s.faulted d).IsOff x := by
  obtain ⟨hdom, hflag, hbit⟩ := (s.allOff d).failed_notes d
  have hfailed : sget (s.faulted d).dom d 0 = 4 := by rw [State.faulted, hdom, sget_sput, if_pos rfl]
  refine ⟨hfailed, hflag, hbit, fun x hx hbelow => ?_⟩
  have hoff : (s.allOff d).IsOff x := s.allOff_isOff d x (mem_withChildren d x hx hbelow)
  by_cases h : x = d
  · subst h
    exact .inr hfailed
  · rw [State.IsOff, State.faulted, hdom, sget_sput_ne _ _ _ _ _ _ h]
    exact hoff

/-- The switch under way that a fault meets is over with it. -/
theorem State.faultCuts_ends (s : State) (d : Nat) (h : s.pins.switching = some d ∨ (s.pins.switching = none ∧ s.flag PWR_STAT_BUSY = false)) :
    (s.faultCuts (some d) true).flag PWR_STAT_ERR = true ∧ (s.faultCuts (some d) true).get PWR_STAT_ERRCODE = 5 ∧
      (s.faultCuts (some d) true).flag PWR_STAT_BUSY = false ∧ (s.faultCuts (some d) true).pins.switching = none := by
  have hcuts : s.faultCuts (some d) true = (s.powerDone d).powerErr 5 := rfl
  obtain ⟨hbusy, hnone⟩ := s.powerDone_ends d h
  obtain ⟨herr, hcode, -⟩ := (s.powerDone d).powerErr_refuses 5 (by decide)
  rw [hcuts]
  refine ⟨herr, hcode, ?_, hnone⟩
  exact (State.flag_set_field _ _ _ _ _ _ (by decide)).trans ((State.flag_raise_field _ _ _ _ _ (by decide)).trans hbusy)

theorem State.faulted_switchStays (s : State) (d : Nat) : s.SwitchStays (s.faulted d) :=
  (s.allOff_switchStays d).trans ((s.allOff d).failed_switchStays d)

theorem self_mem_withChildren (d : Nat) : d ∈ withChildren d := List.mem_append_right _ (List.mem_singleton.mpr rfl)

theorem not_ownDomain {a : Agent} {d : Nat} (h : ∀ n, a = .core n → d ≠ 720 + n.val) : ¬ OwnDomain a d := fun ⟨n, ha, hd⟩ => h n ha hd

/-- A command on a plan domain that is not its agent's own, in a mode that allows it and with no switch under way, goes on to the checks of
the domain tree. -/
theorem exec_domainSwitch_switches (a : Agent) (d : BitVec 10) (on : Bool) (s : State) (hhub : s.domOn 760 = true) (hd : d.toNat < 766)
    (hbusy : s.flag PWR_STAT_BUSY = false) (hmode : s.powerMode = true) (hplan : planDomain d.toNat = true) (hown : ¬ OwnDomain a d.toNat) :
    exec (.domainSwitch a d on) s = .next ((s.commanded d on).switches d.toNat on) := by
  have hdom := s.commanded_domain d on hd
  have hb : (s.commanded d on).flag PWR_STAT_BUSY = false := (congrArg (· == 1) (s.get_commanded d on _ (by decide) (by decide))).trans hbusy
  rw [exec_domainSwitch_commanded a d on s hhub, State.powerGo_switches _ a hb ((s.powerMode_commanded d on).trans hmode) (by rw [hdom]; exact hplan)
    (by rw [hdom]; exact hown), hdom, s.commanded_on]

/-- A command that is answered with a code: ERR and the code, and no domain changes. -/
theorem State.switch_refused (s : State) (a : Agent) (d : BitVec 10) (on : Bool) (code : Nat) (hcode : code < 8)
    (h : exec (.domainSwitch a d on) s = .next ((s.commanded d on).powerErr code)) :
    ∃ t, exec (.domainSwitch a d on) s = .next t ∧ t.flag PWR_STAT_ERR = true ∧ t.get PWR_STAT_ERRCODE = code ∧ t.dom = s.dom ∧
      Keeps { regs := [.pwr] } s t := by
  obtain ⟨herr, hget, hk⟩ := (s.commanded d on).powerErr_refuses code hcode
  have hall := (s.commanded_keeps d on).trans hk
  exact ⟨_, h, herr, hget, hall.dom rfl, hall⟩

/-- Settles O58. A power command is the write of its register and the first check that fails, or the switch; a loss of power turns no domain on
and leaves the switch under way or forgets it, so a fault's end finds the domain, its children and the switch as its own notes set them. -/
theorem powerDomains : Obligations.PowerDomains := by
  unfold Obligations.PowerDomains
  refine ⟨?up, ?down, ?nothing, ?reserved, ?busy, ?mode, ?fixed, ?parent, ?child, ?afterFault, ?hubOff, ?on, ?onNone, ?off, ?offUnused, ?offNone,
    ?fault, ?faultSwitch, ?faultNone⟩
  case up =>
    intro a d on s hhub hd hbusy hmode hplan hown hon hparent hfailed hdom
    subst hon
    have hk := s.commanded_keeps d true
    have hup := State.switches_up (s.commanded d true) d.toNat ((s.parentOn_commanded d true _).trans hparent)
      (by rw [hk.pins rfl, (hk.tb rfl).1]; exact hfailed) (by rw [hk.dom rfl]; exact hdom)
    refine ⟨_, (exec_domainSwitch_switches a d true s hhub hd hbusy hmode hplan (not_ownDomain hown)).trans (congrArg Host.Outcome.next hup), ?_, ?_, ?_, rfl, ?_⟩
    · exact State.dom_setDom_self (s.commanded d true) d.toNat 1
    · exact State.flag_raise_self ((s.commanded d true).setDom d.toNat 1) PWR_STAT_BUSY 0 (by decide)
    · exact (State.get_raise_field ((s.commanded d true).setDom d.toNat 1) PWR_STAT_BUSY PWR_CMD_DOMAIN 0 0 (by decide)).trans (s.commanded_domain d true hd)
    · exact (hk.mono.andThen (State.setDom_keeps _ d.toNat 1)).andThen (State.raise_keeps _ PWR_STAT_BUSY 0) |>.andThen (State.withPins_keeps _ _)
  case down =>
    intro a d on s hhub hd hbusy hmode hplan hown hon hchild hdom
    subst hon
    have hk := s.commanded_keeps d false
    have hdom' : sget (s.commanded d false).dom d.toNat 0 = sget s.dom d.toNat 0 := by rw [hk.dom rfl]
    have hnone := State.childOn_none (s.commanded d false) d.toNat (by rw [hk.dom rfl]; exact hchild)
    have hdown := State.switches_down (s.commanded d false) d.toNat hnone (hdom' ▸ hdom)
    refine ⟨_, (exec_domainSwitch_switches a d false s hhub hd hbusy hmode hplan (not_ownDomain hown)).trans (congrArg Host.Outcome.next hdown), ?_, ?_, rfl⟩
    · have hrange : d.toNat < 740 ∨ 760 ≤ d.toNat := by
        simp only [planDomain, Bool.or_eq_true, Bool.and_eq_true, decide_eq_true_eq, beq_iff_eq] at hplan
        omega
      rw [← hdom']
      exact State.dom_powerDown (s.commanded d false) d.toNat hrange (hdom' ▸ hdom)
    · exact State.flag_raise_self ((s.commanded d false).powerDown d.toNat) PWR_STAT_BUSY 0 (by decide)
  case nothing =>
    intro a d on s hhub hd hbusy hmode hplan hown hstate
    have hk := s.commanded_keeps d on
    have hsame : (s.commanded d on).switches d.toNat on = s.commanded d on := by
      cases on with
      | true =>
        obtain ⟨hparent, hfailed, hdom⟩ := hstate
        have hdom' : sget (s.commanded d true).dom d.toNat 0 ∈ [1, 2, 3, 5] := by rw [hk.dom rfl]; exact hdom
        refine State.switches_on_nothing _ _ ((s.parentOn_commanded d true _).trans hparent) (by rw [hk.pins rfl, (hk.tb rfl).1]; exact hfailed) ?_ ?_
        · exact fun h => absurd (h ▸ hdom') (by decide)
        · exact fun h => absurd (h ▸ hdom') (by decide)
      | false =>
        obtain ⟨hchild, hdom⟩ := hstate
        have hdom' : sget (s.commanded d false).dom d.toNat 0 ∈ [0, 3, 4, 5] := by rw [hk.dom rfl]; exact hdom
        refine State.switches_off_nothing _ _ (State.childOn_none _ _ (by rw [hk.dom rfl]; exact hchild)) ?_ ?_
        · exact fun h => absurd (h ▸ hdom') (by decide)
        · exact fun h => absurd (h ▸ hdom') (by decide)
    have hget (f : Field) (h1 : f.id % 65536 ≠ PWR_CMD_DOMAIN.id % 65536) (h2 : f.id % 65536 ≠ PWR_CMD_ON.id % 65536) :=
      congrArg (· == 1) (s.get_commanded d on f h1 h2)
    exact ⟨_, (exec_domainSwitch_switches a d on s hhub hd hbusy hmode hplan (not_ownDomain hown)).trans (congrArg Host.Outcome.next hsame),
      (hget PWR_STAT_BUSY (by decide) (by decide)).trans hbusy, hget PWR_STAT_ERR (by decide) (by decide), hk⟩
  case reserved =>
    intro a d on s hhub hd hbusy
    have hb : (s.commanded d on).flag PWR_STAT_BUSY = true := (congrArg (· == 1) (s.get_commanded d on _ (by decide) (by decide))).trans hbusy
    refine ⟨_, (exec_domainSwitch_commanded a d on s hhub).trans (congrArg Host.Outcome.next (State.powerGo_busy _ a hb)), ?_,
      State.flag_raise_self _ PWR_STAT_ERR 0 (by decide), (s.commanded_keeps d on).andThen (State.raise_keeps _ PWR_STAT_ERR 0)⟩
    exact (State.get_raise_field _ _ _ _ _ (by decide)).trans (s.commanded_reserved d on hd)
  case busy =>
    intro a d on s hhub hd hbusy
    have hb : (s.commanded d on).flag PWR_STAT_BUSY = true := (congrArg (· == 1) (s.get_commanded d on _ (by decide) (by decide))).trans hbusy
    refine ⟨_, (exec_domainSwitch_commanded a d on s hhub).trans (congrArg Host.Outcome.next (State.powerGo_busy _ a hb)),
      State.flag_raise_self _ PWR_STAT_ERR 0 (by decide), ?_, (s.commanded_keeps d on).andThen (State.raise_keeps _ PWR_STAT_ERR 0)⟩
    exact (State.get_raise_field _ _ _ _ _ (by decide)).trans (s.get_commanded d on _ (by decide) (by decide))
  case mode =>
    intro a d on s hhub hd hbusy hmode
    have hb : (s.commanded d on).flag PWR_STAT_BUSY = false := (congrArg (· == 1) (s.get_commanded d on _ (by decide) (by decide))).trans hbusy
    exact s.switch_refused a d on 1 (by decide) ((exec_domainSwitch_commanded a d on s hhub).trans
      (congrArg Host.Outcome.next (State.powerGo_mode _ a hb ((s.powerMode_commanded d on).trans hmode))))
  case fixed =>
    intro a d on s hhub hd hbusy hmode hfixed
    have hb : (s.commanded d on).flag PWR_STAT_BUSY = false := (congrArg (· == 1) (s.get_commanded d on _ (by decide) (by decide))).trans hbusy
    exact s.switch_refused a d on 2 (by decide) ((exec_domainSwitch_commanded a d on s hhub).trans
      (congrArg Host.Outcome.next (State.powerGo_fixed _ a hb ((s.powerMode_commanded d on).trans hmode) (by rw [s.commanded_domain d on hd]; exact hfixed))))
  case parent =>
    intro a d on s hhub hd hbusy hmode hplan hown hon hparent
    subst hon
    exact s.switch_refused a d true 3 (by decide) ((exec_domainSwitch_switches a d true s hhub hd hbusy hmode hplan (not_ownDomain hown)).trans
      (congrArg Host.Outcome.next (State.switches_parent _ _ ((s.parentOn_commanded d true _).trans hparent))))
  case child =>
    intro a d on x s hhub hd hbusy hmode hplan hown hon hx hp h0 h4
    subst hon
    have hdom : (s.commanded d false).dom = s.dom := (s.commanded_keeps d false).dom rfl
    exact s.switch_refused a d false 4 (by decide) ((exec_domainSwitch_switches a d false s hhub hd hbusy hmode hplan (not_ownDomain hown)).trans
      (congrArg Host.Outcome.next (State.switches_child _ _ (State.childOn_of _ _ x hx hp (by rw [hdom]; exact h0) (by rw [hdom]; exact h4)))))
  case afterFault =>
    intro a d s hhub hd hbusy hmode hplan hown hparent hfailed
    have hk := s.commanded_keeps d true
    have hany : (s.commanded d true).pins.failed.any (fun p => p.1 == d.toNat && p.2 == (s.commanded d true).tb / 4) = true := by
      rw [hk.pins rfl, (hk.tb rfl).1]
      exact List.any_eq_true.mpr ⟨_, hfailed, by simp⟩
    exact s.switch_refused a d true 5 (by decide) ((exec_domainSwitch_switches a d true s hhub hd hbusy hmode hplan (not_ownDomain hown)).trans
      (congrArg Host.Outcome.next (State.switches_failed _ _ ((s.parentOn_commanded d true _).trans hparent) hany)))
  case hubOff => exact fun a d on s hhub => if_neg (by simp [hhub])
  case on =>
    intro d s haw hdom hparent hrange
    obtain ⟨hchg, hlast, hfail, hon⟩ := s.powerUp_notes d.val d.isLt
    have hdone := (s.powerUp d.val).powerDone_keeps d.val
    have hget (f : Field) (i : Nat) (h : f.id % 65536 ≠ PWR_STAT_BUSY.id % 65536) := (s.powerUp d.val).get_powerDone d.val f i h
    have hexec : exec (.domainOn d) s = .next (if 720 ≤ d.val ∧ d.val < 740 then ((s.powerUp d.val).powerDone d.val).coreRelease (d.val - 720)
        else (s.powerUp d.val).powerDone d.val) := if_pos ⟨haw, hdom, hparent, by omega⟩
    have hend : Keeps releaseWrites ((s.powerUp d.val).powerDone d.val) (if 720 ≤ d.val ∧ d.val < 740 then
        ((s.powerUp d.val).powerDone d.val).coreRelease (d.val - 720) else (s.powerUp d.val).powerDone d.val) :=
      .ite (State.coreRelease_keeps _ _) (.refl _ _)
    refine ⟨_, hexec, ?_, ?_, ?_, ?_, fun hs => ?_, fun h => ?_, fun h => ?_⟩
    · rw [hend.dom rfl, hdone.dom rfl, hon]
    · exact (hend.flag PWR_STAT_CHG 0 (by decide)).trans ((congrArg (· == 1) (hget _ 0 (by decide))).trans hchg)
    · exact (hend.regs PWR_STAT_LASTDOM 0 (by decide)).trans ((hget _ 0 (by decide)).trans hlast)
    · rw [hend.regs PWR_FAIL_MAP _ (by decide), hget _ _ (by decide), hfail]
    · obtain ⟨hbusy, hnone⟩ := (s.powerUp d.val).powerDone_ends d.val ((s.powerUp_switchStays d.val).some hs)
      exact ⟨(hend.flag PWR_STAT_BUSY 0 (by decide)).trans hbusy, (congrArg PinSt.switching (hend.pins rfl)).trans hnone⟩
    · rw [if_neg (by omega), hdone.ready rfl]
      exact s.ready_powerUp d.val h
    · rw [if_pos h]
      exact State.coreRelease_held _ _
  case onNone =>
    intro d s h
    refine if_neg fun hall => ?_
    obtain ⟨haw, hdom, hparent, -⟩ := hall
    rcases h with h | h | h
    · simp [h] at haw
    · exact h hdom
    · simp [h] at hparent
  case off =>
    intro d s haw hdom
    have hexec : exec (.domainOff d) s = .next (((s.setDom d.val 0).powerDone d.val).domainChanged d.val) :=
      (if_neg (by simp [haw])).trans (if_pos hdom)
    have hdone := (s.setDom d.val 0).powerDone_keeps d.val
    have hchanged := ((s.setDom d.val 0).powerDone d.val).domainChanged_keeps d.val
    obtain ⟨hchg, hlast⟩ := ((s.setDom d.val 0).powerDone d.val).domainChanged_notes d.val (by omega)
    refine ⟨_, hexec, ?_, hchg, hlast, fun hs => ?_, fun x hx => ?_, ?_⟩
    · rw [hchanged.dom rfl, hdone.dom rfl]
      exact s.dom_setDom_self d.val 0
    · obtain ⟨hbusy, hnone⟩ := (s.setDom d.val 0).powerDone_ends d.val (.inl hs)
      exact ⟨(congrArg (· == 1) (State.get_domainChanged _ _ PWR_STAT_BUSY 0 (by decide) (by decide) (by decide))).trans hbusy,
        (congrArg PinSt.switching (hchanged.pins rfl)).trans hnone⟩
    · rw [hchanged.dom rfl, hdone.dom rfl]
      exact sget_sput_ne s.dom d.val x 0 0 0 hx
    · exact (s.setDom_keeps d.val 0).mono.andThen hdone |>.andThen hchanged
  case offUnused =>
    intro d s haw hdom
    have hexec : exec (.domainOff d) s = .next ((s.setDom d.val 0).powerDone d.val) :=
      (if_neg (by simp [haw])).trans ((if_neg (by omega)).trans (if_pos hdom))
    have hdone := (s.setDom d.val 0).powerDone_keeps d.val
    refine ⟨_, hexec, ?_, State.flag_powerDone _ _ _ _ (by decide), State.get_powerDone _ _ _ _ (by decide),
      (s.setDom_keeps d.val 0).mono.andThen hdone⟩
    rw [hdone.dom rfl]
    exact s.dom_setDom_self d.val 0
  case offNone =>
    intro d s h
    show execDomainOff d s = _
    unfold execDomainOff
    rcases h with h | ⟨h3, h5⟩
    · simp [h]
    · simp [h3, h5]
  case fault =>
    intro d under s haw h0 h4
    obtain ⟨hdom, hfault, hfail, hbelow⟩ := s.faulted_notes d.val
    have hcuts := (s.faulted d.val).faultCuts_keeps (s.pins.switching.filter (fun x => (withChildren d.val).any (· == x))) (s.faultMeets d.val)
    have hreport := State.faultReport_keeps ((s.faulted d.val).faultCuts (s.pins.switching.filter (fun x => (withChildren d.val).any (· == x)))
      (s.faultMeets d.val)) (b2n (s.domainUsed d.val)) d.val (if under then 2 else 1)
    refine ⟨_, exec_domainFault_on d under s haw (by simp [State.IsOff, h0, h4]), ?_, ?_, ?_, fun x hx hb => ?_⟩
    · rw [hreport.dom rfl, hcuts.dom rfl, hdom]
    · exact (hreport.flag PWR_STAT_DOMFAULT 0 (by decide)).trans
        ((congrArg (· == 1) (State.get_faultCuts _ _ _ _ _ (by decide) (by decide) (by decide))).trans hfault)
    · rw [hreport.regs PWR_FAIL_MAP _ (by decide), State.get_faultCuts _ _ _ _ _ (by decide) (by decide) (by decide), hfail]
    · rw [hreport.dom rfl, hcuts.dom rfl]
      exact hbelow x hx hb
  case faultSwitch =>
    intro d under s haw hdom hs
    have hmine : (withChildren d.val).any (· == d.val) = true := List.any_eq_true.mpr ⟨_, self_mem_withChildren d.val, beq_self_eq_true _⟩
    have hcut : s.pins.switching.filter (fun x => (withChildren d.val).any (· == x)) = some d.val := by
      rw [hs, Option.filter_some, if_pos hmine]
    have hmet : s.faultMeets d.val = true := by
      unfold State.faultMeets
      extract_lets mine
      have hm : mine d.val = true := hmine
      clear_value mine
      rw [hs, Option.any_some, hm, hdom]
      rfl
    obtain ⟨herr, hcode, hbusy, hnone⟩ := (s.faulted d.val).faultCuts_ends d.val ((s.faulted_switchStays d.val).some hs)
    have hexec := exec_domainFault_on d under s haw (by simp [State.IsOff, hdom])
    rw [hcut, hmet] at hexec
    have hreport := State.faultReport_keeps ((s.faulted d.val).faultCuts (some d.val) true) (b2n (s.domainUsed d.val)) d.val (if under then 2 else 1)
    obtain ⟨hswitching, -⟩ := State.SwitchStays.none
      ((State.faultEvent_keeps _).loses.switching.trans (State.fault_loses _ 0x701 (b2n (s.domainUsed d.val)) 0xFF d.val 0xFFFF (if under then 2 else 1) 0).switching)
      hnone hbusy
    exact ⟨_, hexec, (hreport.flag PWR_STAT_ERR 0 (by decide)).trans herr, (hreport.regs PWR_STAT_ERRCODE 0 (by decide)).trans hcode,
      (hreport.flag PWR_STAT_BUSY 0 (by decide)).trans hbusy, hswitching⟩
  case faultNone =>
    intro d under s h
    refine if_pos ?_
    rcases h with h | h
    · simp [h]
    · exact .inr h

end Sys2Proof.Machine
end

section
/-! SUPPORT. The poll of the rails transaction by transaction, the readings and limits of the sensors, what a lost clock leaves, a fault record
that is stored, and the statement about clocks and sensors (17 R461, R470 to R474; 20 R521, R522; 19 R495, R499). -/

namespace Sys2Proof.Machine

set_option Elab.async false

/-! ### The poll (20 R521, log 217) -/

theorem b2n_le_one (b : Bool) : b2n b ≤ 1 := by cases b <;> decide

theorem testBit_putBit (n i j : Nat) (b : Bool) : (putBit n i b).testBit j = if j = i then b else n.testBit j := by
  have hlow : n % 2 ^ i < 2 ^ i := Nat.mod_lt _ (Nat.two_pow_pos i)
  have hput : putBit n i b = 2 ^ i * (2 * (n / 2 ^ (i + 1)) + b2n b) + n % 2 ^ i := by
    rw [putBit, putBits, pow_succ]
    cases b with
    | true => simp [b2n]; ring
    | false => simp [b2n]; ring
  rw [hput, Nat.testBit_two_pow_mul_add _ hlow]
  rcases Nat.lt_trichotomy j i with h | h | h
  · rw [if_pos h, if_neg (by omega), Nat.testBit_mod_two_pow, decide_eq_true h, Bool.true_and]
  · subst h
    rw [if_neg (by omega), if_pos rfl, Nat.sub_self, Nat.testBit_zero]
    cases b <;> simp [b2n]
  · obtain ⟨k, rfl⟩ : ∃ k, j = i + 1 + k := ⟨j - (i + 1), by omega⟩
    have hhalf : (2 * (n / 2 ^ (i + 1)) + b2n b) / 2 = n / 2 ^ (i + 1) := by
      have hb := b2n_le_one b
      omega
    rw [if_neg (by omega), if_neg (by omega), show i + 1 + k - i = k + 1 by omega, Nat.testBit_succ, hhalf, Nat.testBit_div_two_pow, Nat.add_comm]

/-- The address a reading of sub-index y has among the dictionary's values. -/
def readingKey (y : Nat) : Nat := 0x9000 * 256 + y

/-- The readings of 0x9000 are 0 until they are taken. -/
theorem State.ent_reading (s : State) (y : Nat) (h0 : y ≠ 0) (hy : y < 0x31) : s.ent 0x9000 y = sget s.ents (readingKey y) 0 := by
  have hdflt : ∀ y : Fin 0x31, y.val ≠ 0 → ((entryAt 0x9000 y.val).map (·.dflt)).getD 0 = 0 := by decide
  rw [State.ent, hdflt ⟨y, hy⟩ h0]
  rfl

/-- Readings put one after the other stand at their sub-indices, and no other value changes. -/
theorem State.ents_putReadings (s : State) (first k : Nat) (l : List Nat) :
    sget (s.putReadings first l).ents (readingKey k) 0 = if first ≤ k ∧ k < first + l.length then l.getD (k - first) 0 else sget s.ents (readingKey k) 0 := by
  induction l generalizing s first with
  | nil => rw [if_neg (by simp)]; rfl
  | cons v t ih =>
    rw [State.putReadings, ih]
    by_cases hk : k = first
    · subst hk
      rw [if_neg (by omega), if_pos ⟨le_rfl, by simp⟩, Nat.sub_self, List.getD_cons_zero]
      exact (sget_sput ..).trans (if_pos rfl)
    · have hrest : sget (sput s.ents (readingKey first) v 0) (readingKey k) 0 = sget s.ents (readingKey k) 0 :=
        sget_sput_ne _ _ _ _ _ _ (by unfold readingKey; omega)
      by_cases hin : first + 1 ≤ k ∧ k < first + 1 + t.length
      · rw [if_pos hin, if_pos (by simp; omega), show k - first = k - (first + 1) + 1 by omega, List.getD_cons_succ]
      · rw [if_neg hin, if_neg (by simp; omega)]
        exact hrest

/-- The state after k transactions of a poll that began in s. -/
structure State.Polled (s t : State) (status : List (Option (BitVec 16))) (amps : List (BitVec 32)) (k : Nat) : Prop where
  poll : t.pins.poll = if k < 30 then some ⟨k, status, amps⟩ else none
  pgood (r : Nat) (hr : r < 15) : t.pins.pgood.testBit r = if 2 * r < k then PollSt.good ⟨0, status, amps⟩ r else s.pins.pgood.testBit r
  current (r : Nat) (hr : r < 15) : sget t.ents (readingKey (0x21 + r)) 0 =
    if 2 * r + 1 < k then PollSt.current ⟨0, status, amps⟩ r else sget s.ents (readingKey (0x21 + r)) 0
  out : t.out = s.out ++ (List.range k).map (fun i => .pmbus (0x40 + i / 2) (if i % 2 = 0 then 0x79 else 0x8C) false [])
  keeps : Keeps pollWrites s t

/-- The state in which a transaction of the poll has been sent. -/
def State.pollSent (s : State) (p : PollSt) : State :=
  { s with pins := { s.pins with poll := if p.next < 29 then some { p with next := p.next + 1 } else none } }.emit
    (.pmbus (0x40 + p.next / 2) (if p.next % 2 = 0 then 0x79 else 0x8C) false [])

theorem State.pollRead_status (s : State) (p : PollSt) (h : p.next % 2 = 0) : s.pollRead p =
    { s.pollSent p with pins := { (s.pollSent p).pins with pgood := putBit s.pins.pgood (p.next / 2) (p.good (p.next / 2)) } } := if_pos h

theorem State.pollRead_current (s : State) (p : PollSt) (h : p.next % 2 = 1) : s.pollRead p =
    (s.pollSent p).putReadings (0x21 + p.next / 2) [p.current (p.next / 2)] := if_neg (by omega)

theorem State.pollOn_due (s : State) (p : PollSt) (hp : s.pins.poll = some p) (hb : s.flag PWR_PMBCMD_BUSY = false) : s.pollOn = s.pollRead p := by
  rw [State.pollOn, hp]
  exact if_neg (by simp [hb])

theorem State.pollOn_busy (s : State) (hb : s.flag PWR_PMBCMD_BUSY = true) : s.pollOn = s := by
  unfold State.pollOn
  split
  · exact if_pos hb
  · rfl

theorem State.pollRun_succ (s : State) (n : Nat) : s.pollRun (n + 1) = (s.pollRun n).pollOn := by
  induction n generalizing s with
  | zero => rfl
  | succ n ih => exact ih s.pollOn

/-- One more transaction: a rail's status or its current. -/
theorem State.Polled.next {s t : State} {status : List (Option (BitVec 16))} {amps : List (BitVec 32)} {k : Nat} (h : s.Polled t status amps k)
    (hk : k < 30) (hb : s.flag PWR_PMBCMD_BUSY = false) : s.Polled t.pollOn status amps (k + 1) := by
  have hdue : t.pollOn = t.pollRead ⟨k, status, amps⟩ := t.pollOn_due _ (h.poll.trans (if_pos hk)) ((h.keeps.flag PWR_PMBCMD_BUSY 0 (by decide)).trans hb)
  have hkeeps : Keeps pollWrites s (t.pollRead ⟨k, status, amps⟩) := h.keeps.trans (t.pollRead_keeps _)
  have hout : (t.pollSent ⟨k, status, amps⟩).out = s.out ++
      (List.range (k + 1)).map (fun i => .pmbus (0x40 + i / 2) (if i % 2 = 0 then 0x79 else 0x8C) false []) := by
    rw [List.range_succ, List.map_append, ← List.append_assoc, ← h.out]
    rfl
  have hpoll : (t.pollSent ⟨k, status, amps⟩).pins.poll = if k + 1 < 30 then some ⟨k + 1, status, amps⟩ else none := by
    by_cases hlast : k < 29
    · exact (if_pos hlast).trans (if_pos (by omega)).symm
    · exact (if_neg hlast).trans (if_neg (by omega)).symm
  rw [hdue]
  by_cases hparity : k % 2 = 0
  · rw [t.pollRead_status _ hparity] at hkeeps ⊢
    refine ⟨hpoll, fun r hr => ?_, fun r hr => ?_, hout, hkeeps⟩
    · refine (testBit_putBit ..).trans ?_
      by_cases hrail : r = k / 2
      · rw [if_pos hrail, if_pos (by omega), hrail]
        rfl
      · rw [if_neg hrail, h.pgood r hr]
        exact if_congr (by omega) rfl rfl
    · exact (h.current r hr).trans (if_congr (by omega) rfl rfl)
  · have hcurrent := t.pollRead_current ⟨k, status, amps⟩ (by show k % 2 = 1; omega)
    have hput := (t.pollSent ⟨k, status, amps⟩).putReadings_keeps (0x21 + k / 2) [PollSt.current ⟨k, status, amps⟩ (k / 2)]
    rw [hcurrent] at hkeeps ⊢
    refine ⟨(congrArg PinSt.poll (hput.pins rfl)).trans hpoll, fun r hr => ?_, fun r hr => ?_, (hput.out rfl).trans hout, hkeeps⟩
    · refine (congrArg (fun x => (PinSt.pgood x).testBit r) (hput.pins rfl)).trans ((h.pgood r hr).trans (if_congr (by omega) rfl rfl))
    · rw [State.ents_putReadings]
      by_cases hrail : r = k / 2
      · rw [if_pos (by simp; omega), if_pos (by omega), hrail, Nat.sub_self]
        rfl
      · rw [if_neg (by simp; omega)]
        exact (h.current r hr).trans (if_congr (by omega) rfl rfl)

theorem State.pollRun_polled (s : State) (status : List (Option (BitVec 16))) (amps : List (BitVec 32)) (hp : s.pins.poll = some ⟨0, status, amps⟩)
    (hb : s.flag PWR_PMBCMD_BUSY = false) (k : Nat) (hk : k ≤ 30) : s.Polled (s.pollRun k) status amps k := by
  induction k with
  | zero => exact ⟨hp, fun _ _ => rfl, fun _ _ => rfl, (List.append_nil _).symm, .refl _ s⟩
  | succ k ih =>
    rw [s.pollRun_succ]
    exact (ih (by omega)).next (by omega) hb

/-- The messages of a whole poll, rail by rail. -/
theorem poll_messages : (List.range 30).map (fun i => OutMsg.pmbus (0x40 + i / 2) (if i % 2 = 0 then 0x79 else 0x8C) false []) =
    (List.range 15).flatMap (fun i => [.pmbus (0x40 + i) 0x79 false [], .pmbus (0x40 + i) 0x8C false []]) := rfl

/-! ### Readings (17 R470) -/

theorem realMax_or (a b : Nat) : realMax a b = a ∨ realMax a b = b := by
  unfold realMax
  split
  · split
    · exact .inr rfl
    · exact .inl rfl
  · exact .inr rfl
  · exact .inl rfl

/-- A reading that is a number is at most another. -/
def RealLe (a b : Nat) : Prop := ∀ x, realScaled a = some x → ∃ y, realScaled b = some y ∧ x ≤ y

theorem RealLe.refl (a : Nat) : RealLe a a := fun x hx => ⟨x, hx, le_rfl⟩

theorem RealLe.trans {a b c : Nat} (h : RealLe a b) (k : RealLe b c) : RealLe a c := fun x hx => by
  obtain ⟨y, hy, hxy⟩ := h x hx
  obtain ⟨z, hz, hyz⟩ := k y hy
  exact ⟨z, hz, hxy.trans hyz⟩

theorem realLe_realMax (a b : Nat) : RealLe a (realMax a b) ∧ RealLe b (realMax a b) := by
  unfold realMax RealLe
  cases ha : realScaled a with
  | none =>
    cases hb : realScaled b with
    | none => exact ⟨nofun, nofun⟩
    | some y => exact ⟨nofun, fun x hx => ⟨x, hb.trans hx, le_rfl⟩⟩
  | some x =>
    cases hb : realScaled b with
    | none => exact ⟨fun z hz => ⟨z, ha.trans hz, le_rfl⟩, nofun⟩
    | some y =>
      by_cases hxy : x < y
      · simp only [if_pos hxy, hb, Option.some.injEq]
        exact ⟨fun z hz => ⟨y, rfl, hz ▸ hxy.le⟩, fun z hz => ⟨y, rfl, hz ▸ le_rfl⟩⟩
      · simp only [if_neg hxy, ha, Option.some.injEq]
        exact ⟨fun z hz => ⟨x, rfl, hz ▸ le_rfl⟩, fun z hz => ⟨x, rfl, hz ▸ not_lt.mp hxy⟩⟩

/-- The highest of readings is one of them, and none is above it. -/
theorem foldl_realMax (l : List Nat) (a : Nat) : l.foldl realMax a ∈ a :: l ∧ ∀ x ∈ a :: l, RealLe x (l.foldl realMax a) := by
  induction l generalizing a with
  | nil => exact ⟨List.mem_singleton.mpr rfl, fun x hx => List.mem_singleton.mp hx ▸ .refl a⟩
  | cons b l ih =>
    obtain ⟨hmem, hle⟩ := ih (realMax a b)
    obtain ⟨ha, hb⟩ := realLe_realMax a b
    refine ⟨?_, fun x hx => ?_⟩
    · rcases List.mem_cons.mp hmem with h | h
      · rw [List.foldl_cons, h]
        rcases realMax_or a b with h | h
        · rw [h]
          exact List.mem_cons_self
        · rw [h]
          exact List.mem_cons_of_mem _ List.mem_cons_self
      · exact List.mem_cons_of_mem _ (List.mem_cons_of_mem _ h)
    · have hmax := hle _ List.mem_cons_self
      rcases List.mem_cons.mp hx with rfl | hx
      · exact ha.trans hmax
      · rcases List.mem_cons.mp hx with rfl | hx
        · exact hb.trans hmax
        · exact hle x (List.mem_cons_of_mem _ hx)

theorem RealLe.realGe {a b : Nat} {t : Int} (h : RealLe a b) (ha : realGe a t = true) : realGe b t = true := by
  unfold Machine.realGe at ha ⊢
  cases hx : realScaled a with
  | none => simp [hx] at ha
  | some x =>
    obtain ⟨y, hy, hxy⟩ := h x hx
    rw [hx] at ha
    rw [hy]
    exact decide_eq_true ((of_decide_eq_true ha).trans hxy)

/-- The sensors of a die: four of each tile, two of the hub. -/
def dieSensors (d : Nat) : Nat := if d = 8 then 2 else 4

/-- The junction temperature of a die is one of its sensors' readings, and none of them is above it. -/
theorem junctions_die (t : List Nat) (d : Nat) (ht : t.length = 34) (hd : d < 9) :
    (∃ m, 4 * d ≤ m ∧ m < 4 * d + dieSensors d ∧ (junctions t).getD d 0 = t.getD m 0) ∧
      ∀ i, 4 * d ≤ i → i < 4 * d + dieSensors d → RealLe (t.getD i 0) ((junctions t).getD d 0) := by
  have hn : 0 < dieSensors d ∧ 4 * d + dieSensors d ≤ 34 := by
    unfold dieSensors
    split <;> omega
  have hat (k : Nat) (hk : k < dieSensors d) : ((t.drop (4 * d)).take (dieSensors d))[k]? = some (t.getD (4 * d + k) 0) := by
    rw [List.getElem?_take_of_lt hk, List.getElem?_drop, List.getD_eq_getElem?_getD, List.getElem?_eq_getElem (by omega)]
    rfl
  have hjunction : (junctions t).getD d 0 = (((t.drop (4 * d)).take (dieSensors d)).drop 1).foldl realMax
      (((t.drop (4 * d)).take (dieSensors d)).getD 0 0) := by
    rw [junctions, List.getD_eq_getElem?_getD, List.getElem?_map, List.getElem?_range hd]
    rfl
  obtain ⟨a, l, hr⟩ : ∃ a l, (t.drop (4 * d)).take (dieSensors d) = a :: l :=
    List.exists_cons_of_ne_nil (fun h => by simpa [h] using hat 0 hn.1)
  obtain ⟨hmem, hle⟩ := foldl_realMax l a
  rw [hr] at hjunction hat
  rw [hjunction]
  constructor
  · obtain ⟨k, hk, hget⟩ := List.getElem_of_mem hmem
    have hlen : (a :: l).length ≤ dieSensors d := hr ▸ List.length_take_le _ _
    have hvalue := hat k (by omega)
    rw [List.getElem?_eq_getElem hk, hget] at hvalue
    exact ⟨4 * d + k, by omega, by omega, Option.some.inj hvalue⟩
  · intro i hlo hhi
    have hvalue := hat (i - 4 * d) (by omega)
    rw [show 4 * d + (i - 4 * d) = i by omega] at hvalue
    exact hle _ (List.mem_of_getElem? hvalue)

/-! ### Limits (17 R471 to R473) -/

/-- The rails out of their band fit the emergency flags of the supply. -/
theorem railMask_lt (v : List Nat) (p : Nat → Nat → Bool) : railMask v p < 2 ^ 15 := by
  have hsum : ∀ n, (List.range n).foldl (fun a r => if p r (v.getD r 0) then a + 2 ^ r else a) 0 < 2 ^ n := by
    intro n
    induction n with
    | zero => exact Nat.one_pos
    | succ n ih =>
      rw [List.range_succ, List.foldl_append, List.foldl_cons, List.foldl_nil, pow_succ]
      split <;> omega
  exact hsum 15

/-- A junction or a stack is at its limit of emergency. -/
def State.tooHot (s : State) (j h : List Nat) : Bool :=
  j.any (realGe · (s.get PWR_THERM_THOT)) || h.any (realGe · (s.get PWR_THERM_HHOT))

/-- A junction or a stack is at its limit of warning. -/
def State.tooWarm (s : State) (j h : List Nat) : Bool :=
  j.any (realGe · (s.get PWR_THERM_TWARN)) || h.any (realGe · (s.get PWR_THERM_HWARN))

theorem State.sense_shows (s : State) (j h v : List Nat) :
    (s.sense j h v).pins.sensors = s.pins.sensors ∧ (s.tooWarm j h = true → (s.sense j h v).flag PWR_THERM_WARN = true) ∧
      (s.tooHot j h = true → (s.sense j h v).flag PWR_THERM_EMG = true) ∧
      Keeps { regs := [.ckp, .lec, .pwr], lanes := true, fresh := true, ckp := true, pins := true } s (s.sense j h v) := by
  unfold State.sense
  extract_lets maxT maxH thot hhot hyst was hot cool supply now any all therm flags emerg a b c _ d e f g
  have hc : Keeps { regs := [.pwr] } s c := by
    have ha : Keeps { regs := [.pwr] } s a := (s.set_keeps PWR_THERM_MAXT 0 _).andThen (State.set_keeps _ PWR_THERM_MAXH 0 _)
    have hb : Keeps { regs := [.pwr] } s b := .ite (ha.andThen (a.raise_keeps PWR_THERM_WARN 0)) ha
    exact hb.andThen (b.setBits_keeps PWR_SUPPLY_WARN 0 _)
  have hk : Keeps { regs := [.pwr], pins := true } s d := hc.mono.andThen (c.withPins_keeps _) |>.andThen (State.emergencyFlags_keeps _)
  have hf : Keeps { regs := [.pwr] } d f := by
    have he : Keeps { regs := [.pwr] } d e := .ite (d.raise_keeps PWR_THERM_EMGEV 0) (.refl _ d)
    exact .ite (he.andThen (e.raise_keeps PWR_SUPPLY_EMGEV 0)) he
  have hlevels (u : State) : Keeps levelWrites u u.sensorLevels := (u.lecSample_keeps ..).andThen (State.lecSample_keeps ..)
  have hg : Keeps { holdWrites with regs := [.ckp, .lec], fresh := true } f g.sensorLevels := by
    have hplan : Keeps { holdWrites with regs := [.ckp, .lec], fresh := true } f g := .ite f.planHold_keeps.mono (.refl _ f)
    exact hplan.andThen (hlevels g)
  have hlast (x : Field) (hb : x.bank ∉ [.ckp, .lec]) (h1 : x.id % 65536 ≠ PWR_THERM_EMGEV.id % 65536)
      (h2 : x.id % 65536 ≠ PWR_SUPPLY_EMGEV.id % 65536) : g.sensorLevels.flag x = d.flag x := by
    have he : e.flag x = d.flag x := by
      unfold e
      split
      · exact d.flag_raise_field _ _ _ _ h1
      · rfl
    have hx : f.flag x = e.flag x := by
      unfold f
      split
      · exact e.flag_raise_field _ _ _ _ h2
      · rfl
    exact ((hg.flag x 0 hb).trans hx).trans he
  refine ⟨?_, fun hwarm => ?_, fun hhotter => ?_, ?_⟩
  · have hplan : g.pins.sensors = f.pins.sensors := by
      unfold g
      split
      · exact (congrArg PinSt.sensors f.planHold_faultLeaves.pins).trans rfl
      · rfl
    rw [(hlevels g).pins rfl, hplan, hf.pins rfl]
    exact (show d.pins.sensors = c.pins.sensors from rfl).trans (congrArg PinSt.sensors (hc.pins rfl))
  · have ha (x : Field) (h1 : x.id % 65536 ≠ PWR_THERM_MAXT.id % 65536) (h2 : x.id % 65536 ≠ PWR_THERM_MAXH.id % 65536) : a.get x = s.get x :=
      (State.get_set_field _ _ _ _ _ _ h2).trans (s.get_set_field _ _ _ _ _ h1)
    have hb : b.flag PWR_THERM_WARN = true := by
      unfold b
      rw [ha _ (by decide) (by decide), ha _ (by decide) (by decide)]
      refine (congrArg (State.flag · PWR_THERM_WARN) (if_pos hwarm)).trans ?_
      exact a.flag_raise_self PWR_THERM_WARN 0 (by decide)
    have hc : c.flag PWR_THERM_WARN = b.flag PWR_THERM_WARN := congrArg (· == 1) (b.get_setBits_field _ _ _ _ _ (by decide))
    rw [hlast _ (by decide) (by decide) (by decide)]
    exact (State.flag_set_field _ _ _ _ _ _ (by decide)).trans ((State.flag_set_field _ _ _ _ _ _ (by decide)).trans (hc.trans hb))
  · have hhot' : hot = true := hhotter
    have hsupply : supply < 2 ^ 15 := railMask_lt ..
    have hflags : flags = supply + 2 ^ 16 := by simp [flags, therm, hhot', b2n]
    have hany : (any || now && !all) = true := by simp [any, hhot']
    have hemerg : emerg = supply + 2 ^ 16 := by
      unfold emerg
      rw [if_pos hany, if_neg (by omega), hflags]
    have hbit : bit emerg 16 = true := by
      rw [hemerg, bit, beq_iff_eq]
      omega
    rw [hlast _ (by decide) (by decide) (by decide)]
    refine (State.flag_set_field _ _ _ _ _ _ (by decide)).trans ((State.flag_set_b2n _ PWR_THERM_EMG 0 _).trans hbit)
  · exact hk.mono.andThen hf |>.andThen hg

/-- The readings of a sample stand at their sub-indices: the dies, the stacks, the rails and the power (17 R470). -/
def State.sampled (s : State) (temps volts : List (BitVec 32)) (power : BitVec 32) : State :=
  (((s.putReadings 0x01 (junctions ((temps.take 34).map (·.toNat)) ++ ((temps.drop 34).take 8).map (·.toNat))).putReadings 0x12
    ((volts.take 15).map (·.toNat))).putReadings 0x30 [power.toNat])

theorem State.sampled_keeps (s : State) (temps volts : List (BitVec 32)) (power : BitVec 32) : Keeps { ents := true } s (s.sampled temps volts power) :=
  (s.putReadings_keeps ..).trans (State.putReadings_keeps ..) |>.trans (State.putReadings_keeps ..)

theorem getD_toNat (l : List (BitVec 32)) (k : Nat) : (l.map (·.toNat)).getD k 0 = (l.getD k 0).toNat := by
  rw [List.getD_eq_getElem?_getD, List.getD_eq_getElem?_getD, List.getElem?_map]
  cases l[k]? <;> rfl

theorem State.ent_sampled (s : State) (temps volts : List (BitVec 32)) (power : BitVec 32) (ht : temps.length = 42) (hv : volts.length = 15) :
    (∀ d, d < 9 → (s.sampled temps volts power).ent 0x9000 (1 + d) = (junctions ((temps.take 34).map (·.toNat))).getD d 0) ∧
      (∀ k, k < 8 → (s.sampled temps volts power).ent 0x9000 (0xA + k) = (temps.getD (34 + k) 0).toNat) ∧
      (∀ k, k < 15 → (s.sampled temps volts power).ent 0x9000 (0x12 + k) = (volts.getD k 0).toNat) ∧
      (s.sampled temps volts power).ent 0x9000 0x30 = power.toNat := by
  have hj : (junctions ((temps.take 34).map (·.toNat))).length = 9 := by simp [junctions]
  have hh : (((temps.drop 34).take 8).map (·.toNat)).length = 8 := by simp [ht]
  have hr : ((volts.take 15).map (·.toNat)).length = 15 := by simp [hv]
  refine ⟨fun d hd => ?_, fun k hk => ?_, fun k hk => ?_, ?_⟩
  · rw [State.ent_reading _ _ (by omega) (by omega), State.sampled, State.ents_putReadings, if_neg (by simp; omega), State.ents_putReadings,
      if_neg (by omega), State.ents_putReadings, if_pos (by rw [List.length_append]; omega), List.getD_append _ _ _ _ (by omega),
      Nat.add_sub_cancel_left]
  · rw [State.ent_reading _ _ (by omega) (by omega), State.sampled, State.ents_putReadings, if_neg (by simp; omega), State.ents_putReadings,
      if_neg (by omega), State.ents_putReadings, if_pos (by rw [List.length_append]; omega), List.getD_append_right _ _ _ _ (by omega), hj,
      show 0xA + k - 1 - 9 = k by omega, getD_toNat, List.getD_eq_getElem?_getD, List.getElem?_take_of_lt hk, List.getElem?_drop,
      List.getD_eq_getElem?_getD]
  · rw [State.ent_reading _ _ (by omega) (by omega), State.sampled, State.ents_putReadings, if_neg (by simp; omega), State.ents_putReadings,
      if_pos (by omega), Nat.add_sub_cancel_left, getD_toNat, List.getD_eq_getElem?_getD, List.getElem?_take_of_lt hk, List.getD_eq_getElem?_getD]
  · rw [State.ent_reading _ _ (by decide) (by decide), State.sampled, State.ents_putReadings, if_pos (by simp)]
    rfl

/-! ### A lost clock (17 R461) -/

/-- The lost clock is noted. -/
def State.clockMarked (s : State) : State := { s with clockLost := true, fltHw := s.fltHw ||| 1 }

/-- The lost clock is noted and recorded. -/
def State.clockNoted (s : State) : State :=
  s.clockMarked.fault 0x702 3 0xFF 0 0xFFFF
    ((regFields .CLK_GEN_STAT).foldl (fun a f => a + s.get f * 2 ^ f.lo) 0) 0

/-- A run that a lost clock ends: HOLD, with the fabric empty. -/
def State.clockHeld (s : State) : State :=
  (((s.setStroke { s.stroke with nextAt := none, started := false }).dropScheduled).enter .hold).traceEvent TRC_FRZ_ONHOLD 4

theorem State.clockLoss_eq (s : State) (hm : s.mode ≠ .dormant) (hl : s.pins.low ≠ 2) :
    s.clockLoss = if s.clockNoted.mode = .run then s.clockNoted.clockHeld else s.clockNoted := if_neg (by simp [hm, hl])

/-- What a lost clock leaves: the time base and the cells, and a run held with nothing scheduled. -/
structure State.LosesClock (s t : State) : Prop where
  lost : t.clockLost = true
  stopped : t.clockStopped = s.clockStopped
  noted : t.fltHw.testBit 0 = true
  mode : t.mode = if s.mode = .run then .hold else s.mode
  tb : t.tb = s.tb
  cells : t.cells = s.cells
  empty : s.mode = .run → t.flits = [] ∧ t.sends = [] ∧ t.pads = []
  clk (f : Field) (i : Nat) (hf : f.bank = .clk) (hp : f.id % 65536 ≠ CLK_PAUSE_ACC_ACC.id % 65536)
    (hr : f.id % 65536 ≠ CLK_DL_STAT_DL_REPEAT.id % 65536) : t.get f i = s.get f i

theorem State.LosesClock.flag {s t : State} (h : s.LosesClock t) (f : Field) (hf : f.bank = .clk := by rfl)
    (hp : f.id % 65536 ≠ CLK_PAUSE_ACC_ACC.id % 65536 := by decide) (hr : f.id % 65536 ≠ CLK_DL_STAT_DL_REPEAT.id % 65536 := by decide) :
    t.flag f = s.flag f := congrArg (· == 1) (h.clk f 0 hf hp hr)

theorem State.clockLoss_losesClock (s : State) (hm : s.mode ≠ .dormant) (hl : s.pins.low ≠ 2) : s.LosesClock s.clockLoss := by
  have hk : Keeps faultWrites s.clockMarked s.clockNoted := State.fault_keeps ..
  have hleaves : s.clockMarked.FaultLeaves s.clockNoted := State.fault_faultLeaves ..
  have hbit : (s.fltHw ||| 1).testBit 0 = true := by simp
  have hmode : s.clockNoted.mode = s.mode := hk.mode rfl
  rw [s.clockLoss_eq hm hl, hmode]
  split
  next hrun =>
    have hpause := s.clockNoted.setStroke_keeps { s.clockNoted.stroke with nextAt := none, started := false }
    have hdrop := State.dropScheduled_keeps (s.clockNoted.setStroke { s.clockNoted.stroke with nextAt := none, started := false })
    have henter := State.enter_keeps (s.clockNoted.setStroke { s.clockNoted.stroke with nextAt := none, started := false }).dropScheduled .hold
    have htrace : Keeps freezeWrites _ s.clockNoted.clockHeld := State.traceEvent_keeps _ TRC_FRZ_ONHOLD 4
    have hall : Keeps { freezeWrites with mode := true, stroke := true, sends := true, flits := true } s.clockNoted s.clockNoted.clockHeld :=
      (hpause.mono.andThen hdrop).andThen henter |>.andThen htrace
    refine ⟨(hall.clockStopped rfl).2.trans (hk.clockStopped rfl).2, (hall.clockStopped rfl).1.trans (hk.clockStopped rfl).1, ?_,
      (htrace.mode rfl).trans ((State.enter_enters _ .hold).mode.trans (if_pos hrun).symm), (hall.tb rfl).1.trans (hk.tb rfl).1,
      (hall.cells rfl).trans (hk.cells rfl), fun _ => ?_, fun f i hf hp hr => ?_⟩
    · rw [(hall.faults rfl).2.2.2.1, hleaves.fltHw]
      exact hbit
    · obtain ⟨hflits, hpads⟩ := htrace.flits rfl
      obtain ⟨hflits', hpads'⟩ := henter.flits rfl
      exact ⟨hflits.trans hflits', (htrace.sends rfl).trans (henter.sends rfl), hpads.trans hpads'⟩
    · exact (hall.regs f i (hf ▸ by decide)).trans (hleaves.clk f i hf hp hr)
  next hrun =>
    exact ⟨(hk.clockStopped rfl).2, (hk.clockStopped rfl).1, hleaves.fltHw ▸ hbit, hmode.trans (if_neg hrun).symm, (hk.tb rfl).1, hk.cells rfl,
      fun h => absurd h hrun, fun f i hf hp hr => hleaves.clk f i hf hp hr⟩

/-! ### A record that is stored (19 R496 to R498) -/

theorem length_insertFlt (r : FltRec) (l : List FltRec) : (insertFlt r l).length = l.length + 1 := by
  simp only [insertFlt, List.length_append, List.length_take, List.length_cons, List.length_map, List.length_drop]
  omega

/-- Below its capacity the log takes a record, with its SEQ. -/
theorem State.storeFlt_stores (s : State) (r : FltRec) (hroom : s.fltRecs.length < 1024) :
    ∃ q, (s.storeFlt r).fltRecs = insertFlt { r with seq := q } s.fltRecs ∧ (s.storeFlt r).fltNext = (s.fltNext + 1) % 2 ^ 32 := by
  have hcount : ¬ 1024 ≤ s.fltRecs.countP s.unacked := fun h => absurd (h.trans List.countP_le_length) (by omega)
  have hemcy (u : State) (x : FltRec) : (u.queueEmcy x).fltRecs = u.fltRecs ∧ (u.queueEmcy x).fltNext = u.fltNext := by
    unfold State.queueEmcy
    split
    · exact ⟨rfl, rfl⟩
    · split <;> exact ⟨rfl, rfl⟩
  refine ⟨(s.fltNext + 2 ^ 32 - r.behind s.fltRecs) % 2 ^ 32, ?_⟩
  rw [State.storeFlt, if_neg hcount]
  extract_lets x recs stored queued
  have hlen : ¬ 1024 < recs.length := by
    rw [show recs.length = _ from length_insertFlt x s.fltRecs]
    omega
  have hstored : stored.fltRecs = recs := if_neg hlen
  obtain ⟨hrecs, hnext⟩ := hemcy stored x
  split
  · obtain ⟨hmrecs, hmnext, -⟩ := (queued.msix_keeps (queued.get PCI_CTL_FVEC)).faults rfl
    exact ⟨hmrecs.trans (hrecs.trans hstored), hmnext.trans hnext⟩
  · exact ⟨hrecs.trans hstored, hnext⟩

/-- The writes of a fault beside its record. -/
def besideRecord : Writes := { faultWrites with faults := false }

theorem State.faultHold_keepsLog (s : State) : Keeps besideRecord s s.faultHold := by
  unfold State.faultHold
  extract_lets raised first _ noted
  have hr : Keeps besideRecord s raised := (s.raise_keeps CKP_CTL_HOLDOFF 0).mono
  exact .ite hr (hr.andThen (raised.withCkp_keeps _) |>.andThen (noted.requestHold_keeps _))

/-- A fault is logged as one record, with its code, its time and its details; what comes before and after leaves the log alone. -/
theorem State.logOnly_stores (s : State) (code sev tile loc pcell d0 d1 : Nat) : ∃ r u, r.code = code ∧ r.d0 = d0 % 2 ^ 64 ∧ r.tb = s.tb ∧
    Keeps besideRecord s u ∧ Keeps besideRecord (u.storeFlt r) (s.logOnly code sev tile loc pcell d0 d1) := by
  unfold State.logOnly
  extract_lets inRun replay pause
  have hfresh : Keeps besideRecord s (if pause then s.fresh else (0, s)).2 := by
    split
    · exact s.fresh_keeps.mono
    · exact .refl _ s
  split
  rename_i w u hdrawn
  rw [hdrawn] at hfresh
  extract_lets scyc r0 rep sev' hold r repeated collided before recorded _ stored traced
  have hrepeated : Keeps besideRecord s repeated := .ite (hfresh.andThen (State.raise_keeps ..)) hfresh
  have hcollided : Keeps besideRecord s collided := .ite (hrepeated.andThen (State.raise_keeps ..)) hrepeated
  have hstored : Keeps besideRecord recorded stored := (recorded.withCkp_keeps _).mono
  have htraced : Keeps besideRecord recorded traced := .ite hstored (hstored.andThen (stored.traceEvent_keeps ..))
  refine ⟨r, collided, rfl, rfl, (hfresh.tb rfl).1, hcollided, ?_⟩
  exact (Keeps.ite (htraced.trans traced.faultHold_keepsLog) htraced).andThen (State.hubLevels_keeps _)

/-- Outside RUN a fault is its record alone: no checkpoint fails for it. -/
theorem State.fault_logs (s : State) (code sev tile loc pcell d0 d1 : Nat) (hm : s.mode ≠ .run) :
    s.fault code sev tile loc pcell d0 d1 = s.logOnly code sev tile loc pcell d0 d1 := if_neg (by simp [State.inStroke, hm])

/-- A fault outside RUN that finds room in the log is one more record there. -/
theorem State.fault_stores (s : State) (code sev tile loc pcell d0 d1 : Nat) (hm : s.mode ≠ .run) (hroom : s.fltRecs.length < 1024) :
    ∃ r ∈ (s.fault code sev tile loc pcell d0 d1).fltRecs, r.code = code ∧ r.d0 = d0 % 2 ^ 64 ∧ r.tb = s.tb ∧
      (s.fault code sev tile loc pcell d0 d1).fltRecs.length = s.fltRecs.length + 1 ∧
      (s.fault code sev tile loc pcell d0 d1).fltNext = (s.fltNext + 1) % 2 ^ 32 := by
  obtain ⟨r, u, hcode, hd0, htb, hbefore, hafter⟩ := s.logOnly_stores code sev tile loc pcell d0 d1
  obtain ⟨hrecs, hnext, -⟩ := hbefore.faults rfl
  obtain ⟨hrecs', hnext', -⟩ := hafter.faults rfl
  obtain ⟨q, hstored, hcounted⟩ := u.storeFlt_stores r (hrecs ▸ hroom)
  rw [s.fault_logs _ _ _ _ _ _ _ hm]
  refine ⟨{ r with seq := q }, ?_, hcode, hd0, htb, ?_, ?_⟩
  · rw [hrecs', hstored]
    exact List.mem_append_right _ List.mem_cons_self
  · rw [hrecs', hstored, length_insertFlt, hrecs]
  · rw [hnext', hcounted, hnext]

/-! ### PMBus commands (20 R521, R522) -/

/-- The command register as a write of it leaves it. -/
def State.pmbusSet (s : State) (addr : BitVec 7) (code : Byte) (len : BitVec 2) (write : Bool) : State :=
  (if PWR_PMBCMD_LEN.ok len.toNat then ((s.set PWR_PMBCMD_ADDR 0 addr.toNat).set PWR_PMBCMD_CODE 0 code.toNat).set PWR_PMBCMD_LEN 0 len.toNat
    else (s.set PWR_PMBCMD_ADDR 0 addr.toNat).set PWR_PMBCMD_CODE 0 code.toNat).set PWR_PMBCMD_WRITE 0 (b2n write)

theorem exec_pmbusCommand (addr : BitVec 7) (code : Byte) (len : BitVec 2) (write : Bool) (s : State) (hhub : s.domOn 760 = true) :
    exec (.pmbusCommand addr code len write) s = .next (s.pmbusSet addr code len write).pmbusGo := if_pos hhub

theorem State.pmbusSet_keeps (s : State) (addr : BitVec 7) (code : Byte) (len : BitVec 2) (write : Bool) :
    Keeps { regs := [.pwr] } s (s.pmbusSet addr code len write) := by
  have hset : Keeps { regs := [.pwr] } s ((s.set PWR_PMBCMD_ADDR 0 addr.toNat).set PWR_PMBCMD_CODE 0 code.toNat) :=
    (s.set_keeps PWR_PMBCMD_ADDR 0 _).andThen (State.set_keeps _ PWR_PMBCMD_CODE 0 _)
  exact (Keeps.ite (hset.andThen (State.set_keeps _ PWR_PMBCMD_LEN 0 _)) hset).andThen (State.set_keeps _ PWR_PMBCMD_WRITE 0 _)

/-- A field that the write of the command does not name is as it was. -/
theorem State.get_pmbusSet (s : State) (addr : BitVec 7) (code : Byte) (len : BitVec 2) (write : Bool) (f : Field)
    (ha : f.id % 65536 ≠ PWR_PMBCMD_ADDR.id % 65536) (hc : f.id % 65536 ≠ PWR_PMBCMD_CODE.id % 65536)
    (hl : f.id % 65536 ≠ PWR_PMBCMD_LEN.id % 65536) (hw : f.id % 65536 ≠ PWR_PMBCMD_WRITE.id % 65536) :
    (s.pmbusSet addr code len write).get f = s.get f := by
  have hset : ((s.set PWR_PMBCMD_ADDR 0 addr.toNat).set PWR_PMBCMD_CODE 0 code.toNat).get f = s.get f :=
    (State.get_set_field _ _ _ _ _ _ hc).trans (s.get_set_field _ _ _ _ _ ha)
  rw [State.pmbusSet, State.get_set_field _ _ _ _ _ _ hw]
  split
  · exact (State.get_set_field _ _ _ _ _ _ hl).trans hset
  · exact hset

theorem State.pmbusSet_command (s : State) (addr : BitVec 7) (code : Byte) (len : BitVec 2) (write : Bool) :
    (s.pmbusSet addr code len write).get PWR_PMBCMD_ADDR = addr.toNat ∧ (s.pmbusSet addr code len write).get PWR_PMBCMD_CODE = code.toNat ∧
      (s.pmbusSet addr code len write).flag PWR_PMBCMD_WRITE = write := by
  have haddr : ((s.set PWR_PMBCMD_ADDR 0 addr.toNat).set PWR_PMBCMD_CODE 0 code.toNat).get PWR_PMBCMD_ADDR = addr.toNat :=
    (State.get_set_field _ _ _ _ _ _ (by decide)).trans ((s.get_set_self ..).trans (Nat.mod_eq_of_lt addr.isLt))
  have hcode : ((s.set PWR_PMBCMD_ADDR 0 addr.toNat).set PWR_PMBCMD_CODE 0 code.toNat).get PWR_PMBCMD_CODE = code.toNat :=
    (State.get_set_self ..).trans (Nat.mod_eq_of_lt code.isLt)
  refine ⟨?_, ?_, State.flag_set_b2n _ PWR_PMBCMD_WRITE 0 write⟩
  · rw [State.pmbusSet, State.get_set_field _ _ _ _ _ _ (by decide)]
    split
    · exact (State.get_set_field _ _ _ _ _ _ (by decide)).trans haddr
    · exact haddr
  · rw [State.pmbusSet, State.get_set_field _ _ _ _ _ _ (by decide)]
    split
    · exact (State.get_set_field _ _ _ _ _ _ (by decide)).trans hcode
    · exact hcode

theorem State.pmbusSet_len (s : State) (addr : BitVec 7) (code : Byte) (len : BitVec 2) (write : Bool) (hlen : len ≠ 3) :
    (s.pmbusSet addr code len write).get PWR_PMBCMD_LEN = len.toNat := by
  have hok : PWR_PMBCMD_LEN.ok len.toNat = true := decide_eq_true fun h => hlen (BitVec.eq_of_toNat_eq h)
  rw [State.pmbusSet, State.get_set_field _ _ _ _ _ _ (by decide), if_pos hok]
  exact (State.get_set_self ..).trans (Nat.mod_eq_of_lt len.isLt)

/-- The state after GO: the transaction is under way and sent. -/
def State.pmbusSent (s : State) : State :=
  ({ s with pins := { s.pins with cmdLen := s.get PWR_PMBCMD_LEN, cmdWrite := s.flag PWR_PMBCMD_WRITE } }.raise PWR_PMBCMD_BUSY).emit
    (.pmbus (s.get PWR_PMBCMD_ADDR) (s.get PWR_PMBCMD_CODE) (s.flag PWR_PMBCMD_WRITE)
      (if s.flag PWR_PMBCMD_WRITE then leBytes (s.get PWR_PMBCMD_LEN) (s.get PWR_PMBDATA_DATA) else []))

theorem State.pmbusGo_idle (s : State) (hb : s.flag PWR_PMBCMD_BUSY = false) : s.pmbusGo = s.pmbusSent := if_neg (by simp [hb])

theorem State.pmbusGo_busy (s : State) (hb : s.flag PWR_PMBCMD_BUSY = true) : s.pmbusGo = s := if_pos hb

/-- GO while no transaction runs sends one, with the register's fields. -/
theorem State.pmbusSent_sends (s : State) : s.pmbusSent.flag PWR_PMBCMD_BUSY = true ∧
    s.pmbusSent.pins.cmdWrite = s.flag PWR_PMBCMD_WRITE ∧ s.pmbusSent.out = s.out ++ [.pmbus (s.get PWR_PMBCMD_ADDR) (s.get PWR_PMBCMD_CODE)
      (s.flag PWR_PMBCMD_WRITE) (if s.flag PWR_PMBCMD_WRITE then leBytes (s.get PWR_PMBCMD_LEN) (s.get PWR_PMBDATA_DATA) else [])] ∧
    Keeps { regs := [.pwr], out := true, pins := true } s s.pmbusSent :=
  ⟨State.flag_raise_self { s with pins := { s.pins with cmdLen := s.get PWR_PMBCMD_LEN, cmdWrite := s.flag PWR_PMBCMD_WRITE } } PWR_PMBCMD_BUSY 0
      (by decide), rfl, rfl,
    (s.withPins_keeps _).mono.andThen (State.raise_keeps _ PWR_PMBCMD_BUSY 0) |>.andThen (State.emit_keeps _ _)⟩

/-- The transaction is over. -/
def State.pmbusEnded (s : State) : State := (s.lower PWR_PMBCMD_BUSY).raise PWR_PMBCMD_DONE

theorem State.pmbusEnded_ends (s : State) : s.pmbusEnded.flag PWR_PMBCMD_BUSY = false ∧ s.pmbusEnded.flag PWR_PMBCMD_DONE = true ∧
    Keeps { regs := [.pwr] } s s.pmbusEnded :=
  ⟨(State.flag_raise_field _ _ _ _ _ (by decide)).trans (s.flag_lower_self PWR_PMBCMD_BUSY 0 rfl),
    State.flag_raise_self _ PWR_PMBCMD_DONE 0 (by decide), (s.lower_keeps PWR_PMBCMD_BUSY 0).andThen (State.raise_keeps _ PWR_PMBCMD_DONE 0)⟩

/-! ### The limits a sample passes -/

/-- A die with a sensor at a limit is at it. -/
theorem junctions_realGe (t : List Nat) (d i : Nat) (limit : Int) (ht : t.length = 34) (hd : d < 9) (hlo : 4 * d ≤ i) (hhi : i < 4 * d + dieSensors d)
    (h : realGe (t.getD i 0) limit = true) : (junctions t).any (realGe · limit) = true := by
  have hlen : d < (junctions t).length := by
    rw [junctions, List.length_map, List.length_range]
    exact hd
  have hmem : (junctions t).getD d 0 ∈ junctions t := by
    rw [List.getD_eq_getElem _ _ hlen]
    exact List.getElem_mem hlen
  exact List.any_eq_true.mpr ⟨_, hmem, ((junctions_die t d ht hd).2 i hlo hhi).realGe h⟩

theorem stacks_realGe (temps : List (BitVec 32)) (k : Nat) (limit : Int) (ht : temps.length = 42) (hk : k < 8)
    (h : realGe (temps.getD (34 + k) 0).toNat limit = true) : (((temps.drop 34).take 8).map (·.toNat)).any (realGe · limit) = true := by
  refine List.any_eq_true.mpr ⟨(temps.getD (34 + k) 0).toNat, List.mem_map.mpr ⟨temps.getD (34 + k) 0, ?_, rfl⟩, h⟩
  refine List.mem_of_getElem? (i := k) ?_
  rw [List.getElem?_take_of_lt hk, List.getElem?_drop, List.getD_eq_getElem?_getD, List.getElem?_eq_getElem (by omega)]
  rfl

theorem getD_take_toNat (temps : List (BitVec 32)) (i : Nat) (hi : i < 34) : ((temps.take 34).map (·.toNat)).getD i 0 = (temps.getD i 0).toNat := by
  rw [getD_toNat, List.getD_eq_getElem?_getD, List.getElem?_take_of_lt hi, List.getD_eq_getElem?_getD]

/-- The sensors' readings are kept beside the dictionary. -/
def State.sensed (s : State) (temps volts : List (BitVec 32)) (power : BitVec 32) : State :=
  { s.sampled temps volts power with pins := { (s.sampled temps volts power).pins with sensors := (temps.take 34).map (·.toNat) } }

theorem State.sensed_keeps (s : State) (temps volts : List (BitVec 32)) (power : BitVec 32) :
    Keeps { ents := true, pins := true } s (s.sensed temps volts power) :=
  (s.sampled_keeps temps volts power).mono.andThen (State.withPins_keeps _ _)

theorem exec_sensorSample (temps volts : List (BitVec 32)) (power : BitVec 32) (s : State) (hhub : s.domOn 760 = true) :
    exec (.sensorSample temps volts power) s = .next ((s.sensed temps volts power).sense (junctions ((temps.take 34).map (·.toNat)))
      (((temps.drop 34).take 8).map (·.toNat)) ((volts.take 15).map (·.toNat))) := if_pos hhub

/-- The data of a read that ended, where it has any. -/
def State.pmbusTaken (s : State) (v : Nat) : State :=
  if s.pmbusEnded.pins.cmdWrite || s.pmbusEnded.pins.cmdLen == 0 then s.pmbusEnded
  else s.pmbusEnded.set PWR_PMBDATA_DATA 0 (if s.pmbusEnded.pins.cmdLen = 1 then v % 256 else v)

theorem State.pmbusTaken_shows (s : State) (v : Nat) (hv : v < 2 ^ 16) (hread : s.pins.cmdWrite = false) :
    (s.pmbusTaken v).flag PWR_PMBCMD_BUSY = false ∧ (s.pmbusTaken v).flag PWR_PMBCMD_DONE = true ∧ Keeps { regs := [.pwr] } s (s.pmbusTaken v) ∧
      (s.pins.cmdLen = 1 → (s.pmbusTaken v).get PWR_PMBDATA_DATA = v % 256) ∧ (s.pins.cmdLen = 2 → (s.pmbusTaken v).get PWR_PMBDATA_DATA = v) := by
  obtain ⟨hidle, hdone, hk⟩ := s.pmbusEnded_ends
  by_cases h0 : s.pins.cmdLen = 0
  · have hsame : s.pmbusTaken v = s.pmbusEnded := if_pos (by simp [show s.pmbusEnded.pins = s.pins from hk.pins rfl, h0])
    rw [hsame]
    exact ⟨hidle, hdone, hk, fun h => by omega, fun h => by omega⟩
  · have htaken : s.pmbusTaken v = s.pmbusEnded.set PWR_PMBDATA_DATA 0 (if s.pins.cmdLen = 1 then v % 256 else v) :=
      if_neg (by simp [show s.pmbusEnded.pins = s.pins from hk.pins rfl, h0, hread])
    rw [htaken]
    refine ⟨(State.flag_set_field _ _ _ _ _ _ (by decide)).trans hidle, (State.flag_set_field _ _ _ _ _ _ (by decide)).trans hdone,
      hk.andThen (State.set_keeps _ PWR_PMBDATA_DATA 0 _), fun h => ?_, fun h => ?_⟩
    · rw [if_pos h]
      exact (State.get_set_self ..).trans (Nat.mod_eq_of_lt (by show v % 256 < 2 ^ 16; omega))
    · rw [if_neg (by omega)]
      exact (State.get_set_self ..).trans (Nat.mod_eq_of_lt hv)

/-! ### Acknowledgements (19 R499) -/

/-- The records of this cycle, which an acknowledgement leaves (log 200). -/
def State.newFaults (s : State) : Nat := s.fltRecs.countP (fun r => s.unacked r && r.tb == s.tb)

theorem exec_faultAck (seq : BitVec 32) (s : State) (hon : s.domOn 763 = true) : exec (.faultAck seq) s = .next (
    if s.fltAny && decide ((seq.toNat + 2 ^ 32 - s.get MGT_FLT_ACK_SEQ) % 2 ^ 32 ≤
        ((s.fltNext + 2 ^ 32 - 1 - s.newFaults) % 2 ^ 32 + 2 ^ 32 - s.get MGT_FLT_ACK_SEQ) % 2 ^ 32)
      then (s.set MGT_FLT_ACK_SEQ 0 seq.toNat).hubLevels else s) := if_pos hon

/-- A lost lock is noted and counted. -/
def State.lockLost (s : State) : State := ((s.lower CLK_GEN_STAT_LOCK).raise CLK_GEN_STAT_LOL).bump CLK_GEN_STAT_LOLCNT

theorem State.lockLost_notes (s : State) :
    s.lockLost.flag CLK_GEN_STAT_LOCK = false ∧
      s.lockLost.flag CLK_GEN_STAT_LOL = true ∧
      Keeps { regs := [.clk] } s s.lockLost := by
  refine ⟨?_, ?_, (s.lower_keeps CLK_GEN_STAT_LOCK 0).andThen (State.raise_keeps _ CLK_GEN_STAT_LOL 0) |>.andThen (State.bump_keeps _ CLK_GEN_STAT_LOLCNT 0 1)⟩
  · rw [State.lockLost, State.flag_bump_field _ _ _ _ _ _ (by decide), State.flag_raise_field _ _ _ _ _ (by decide)]
    exact s.flag_lower_self CLK_GEN_STAT_LOCK 0 rfl
  · rw [State.lockLost, State.flag_bump_field _ _ _ _ _ _ (by decide)]
    exact State.flag_raise_self _ CLK_GEN_STAT_LOL 0 (by decide)

theorem exec_lossOfLock (s : State) (hlock : s.flag CLK_GEN_STAT_LOCK = true) : exec .lossOfLock s = .next s.lockLost.clockLoss := if_pos hlock

/-- The trip is noted. -/
theorem exec_thermalTrip (die : Fin 9) (celsius : BitVec 16) (s : State) (ht : s.pins.trip = false) (hl : s.pins.low ≠ 2) (hc : 115 ≤ celsius.toInt) :
    exec (.thermalTrip die celsius) s = .next { s.fault 0x703 3 die.val die.val 0xFFFF celsius.toNat 0 with
      clockStopped := true, fltHw := (s.fault 0x703 3 die.val die.val 0xFFFF celsius.toNat 0).fltHw ||| 2,
      pins := { (s.fault 0x703 3 die.val die.val 0xFFFF celsius.toNat 0).pins with trip := true } } := by
  refine (if_neg ?_).trans (if_neg hl)
  rw [ht, Bool.false_or, decide_eq_true_eq]
  omega

/-- Settles O59. A lost clock, a trip and a module fault are their fault's record with what follows; a sample is its readings and the sums of its
limits; a poll runs transaction by transaction; an acknowledgement is taken if it does not go beyond the records of earlier cycles. -/
theorem clocksAndSensors : Obligations.ClocksAndSensors := by
  unfold Obligations.ClocksAndSensors
  refine ⟨?refclk, ?refclkDormant, ?refclkPor, ?lock, ?lockDormant, ?lockNone, ?sample, ?sampleOff, ?trip, ?tripPor, ?tripAgain, ?poll, ?pollNone,
    ?pollRuns, ?pollWaits, ?read, ?write, ?busy, ?done, ?doneNone, ?ack, ?ackNow, ?ackNone, ?module, ?moduleOff⟩
  case refclk =>
    intro s hm hl
    have hraise := s.raise_keeps CLK_GEN_STAT_REFLOSS 0
    have hlost := (s.raise CLK_GEN_STAT_REFLOSS).clockLoss_losesClock hm hl
    refine ⟨_, if_neg hl, hlost.lost, hlost.stopped, ?_, hlost.noted, hlost.mode, hlost.tb, hlost.cells, hlost.empty⟩
    exact (hlost.flag CLK_GEN_STAT_REFLOSS).trans (s.flag_raise_self CLK_GEN_STAT_REFLOSS 0 (by decide))
  case refclkDormant =>
    intro s hm hl
    exact (if_neg hl).trans (congrArg Host.Outcome.next (if_pos (.inl hm)))
  case refclkPor => exact fun s hl => if_pos hl
  case lock =>
    intro s hlock hm hl
    obtain ⟨hunlocked, hlol, hk⟩ := s.lockLost_notes
    have hmode : s.lockLost.mode = s.mode := hk.mode rfl
    have hpins : s.lockLost.pins = s.pins := hk.pins rfl
    have hlost := s.lockLost.clockLoss_losesClock (by rwa [hmode]) (by rwa [hpins])
    refine ⟨_, exec_lossOfLock s hlock, hlost.lost, hlost.stopped.trans (hk.clockStopped rfl).1, (hlost.flag CLK_GEN_STAT_LOCK).trans hunlocked,
      (hlost.flag CLK_GEN_STAT_LOL).trans hlol, ?_, hlost.tb.trans (hk.tb rfl).1, ?_, fun hrun => hlost.empty (hmode.trans hrun)⟩
    · rw [hlost.mode, hmode]
    · rw [hlost.cells, hk.cells rfl]
  case lockDormant =>
    intro s hlock hidle
    obtain ⟨hunlocked, hlol, hk⟩ := s.lockLost_notes
    have hloss : s.lockLost.clockLoss = s.lockLost := if_pos (by rw [show s.lockLost.mode = s.mode from hk.mode rfl, show s.lockLost.pins = s.pins from hk.pins rfl]; exact hidle)
    exact ⟨_, (exec_lossOfLock s hlock).trans (congrArg Host.Outcome.next hloss), (hk.clockStopped rfl).2, hunlocked, hlol, hk⟩
  case lockNone => exact fun s hlock => if_neg (by simp [hlock])
  case sample =>
    intro temps volts power d i k s hhub ht hv hd hlo hhi
    have hsensed := s.sensed_keeps temps volts power
    have hlen : ((temps.take 34).map (·.toNat)).length = 34 := by simp [ht]
    have hi : i < 34 := by split at hhi <;> omega
    have hvalue : ((temps.take 34).map (·.toNat)).getD i 0 = (temps.getD i 0).toNat := getD_take_toNat temps i hi
    obtain ⟨hsensors, hwarm, hhot, hk⟩ := (s.sensed temps volts power).sense_shows (junctions ((temps.take 34).map (·.toNat)))
      (((temps.drop 34).take 8).map (·.toNat)) ((volts.take 15).map (·.toNat))
    obtain ⟨hdies, hstacks, hrails, hpower⟩ := s.ent_sampled temps volts power ht hv
    obtain ⟨⟨m, hm, hm', hjunction⟩, hle⟩ := junctions_die _ d hlen hd
    have hm34 : m < 34 := by unfold dieSensors at hm'; split at hm' <;> omega
    have hent (y : Nat) : State.ent ((s.sensed temps volts power).sense (junctions ((temps.take 34).map (·.toNat)))
        (((temps.drop 34).take 8).map (·.toNat)) ((volts.take 15).map (·.toNat))) 0x9000 y = (s.sampled temps volts power).ent 0x9000 y := by
      rw [State.ent, hk.ents rfl]
      rfl
    have hlimit (f : Field) : (s.sensed temps volts power).get f = s.get f := hsensed.regs f 0 List.not_mem_nil
    refine ⟨_, exec_sensorSample temps volts power s hhub, hsensors, ⟨m, hm, hm', ?_⟩, fun x hx => ?_, fun h => ?_, fun h => ?_, ?_, fun h => ?_,
      fun hk8 h => ?_, fun h => ?_, fun hk8 h => ?_, hsensed.mono.andThen hk⟩
    · rw [hent, hdies d hd, hjunction, getD_take_toNat temps m hm34]
    · rw [hent, hdies d hd]
      exact hle i hlo hhi x (by rw [hvalue]; exact hx)
    · rw [hent, hstacks k h]
    · rw [hent, hrails k h]
    · rw [hent, hpower]
    · refine hwarm (Bool.or_eq_true_iff.mpr (.inl ?_))
      rw [hlimit]
      exact junctions_realGe _ d i _ hlen hd hlo hhi (hvalue ▸ h)
    · refine hwarm (Bool.or_eq_true_iff.mpr (.inr ?_))
      rw [hlimit]
      exact stacks_realGe temps k _ ht hk8 h
    · refine hhot (Bool.or_eq_true_iff.mpr (.inl ?_))
      rw [hlimit]
      exact junctions_realGe _ d i _ hlen hd hlo hhi (hvalue ▸ h)
    · refine hhot (Bool.or_eq_true_iff.mpr (.inr ?_))
      rw [hlimit]
      exact stacks_realGe temps k _ ht hk8 h
  case sampleOff => exact fun temps volts power s hhub => if_neg (by simp [hhub])
  case trip =>
    intro die celsius s ht hl hc
    have hk := s.fault_keeps 0x703 3 die.val die.val 0xFFFF celsius.toNat 0
    have hbit (n : Nat) : (n ||| 2).testBit 1 = true := by
      rw [Nat.testBit_or, show Nat.testBit 2 1 = true from rfl, Bool.or_true]
    exact ⟨_, exec_thermalTrip die celsius s ht hl hc, rfl, rfl, hbit _, hk.mode rfl, hk.cells rfl⟩
  case tripPor =>
    intro die celsius s ht hl hc
    refine (if_neg ?_).trans (if_pos hl)
    rw [ht, Bool.false_or, decide_eq_true_eq]
    omega
  case tripAgain =>
    intro die celsius s h
    refine if_pos ?_
    rcases h with h | h <;> simp [h]
  case poll =>
    intro status amps s hm hl ht hp
    exact if_neg (by simp [hm, hl, ht, hp, State.awake])
  case pollNone =>
    intro status amps s h
    refine if_pos ?_
    rcases h with h | h | h | h
    · exact .inl h
    · exact .inr (.inl (by simp [State.awake, h]))
    · exact .inr (.inl (by simp [State.awake, h]))
    · exact .inr (.inr (Option.isSome_iff_ne_none.mpr h))
  case pollRuns =>
    intro status amps r s hp hb hr
    have hpolled := s.pollRun_polled status amps hp hb 30 le_rfl
    refine ⟨hpolled.poll, ?_, ?_, ?_, hpolled.keeps⟩
    · rw [hpolled.pgood r hr, if_pos (by omega)]
      show (status.getD r none).any (fun w => !bit w.toNat 11) = _
      cases status.getD r none with
      | none => rfl
      | some w => exact congrArg (!·) (bit_eq_testBit w.toNat 11)
    · rw [State.ent_reading _ _ (by omega) (by omega), hpolled.current r hr, if_pos (by omega)]
      rfl
    · rw [hpolled.out, poll_messages]
  case pollWaits =>
    intro n s hb
    induction n with
    | zero => rfl
    | succ n ih => rw [State.pollRun, s.pollOn_busy hb, ih]
  case read =>
    intro addr code len s hhub hb
    have hset := s.pmbusSet_keeps addr code len false
    obtain ⟨haddr, hcode, hwrite⟩ := s.pmbusSet_command addr code len false
    have hidle : (s.pmbusSet addr code len false).flag PWR_PMBCMD_BUSY = false :=
      (congrArg (· == 1) (s.get_pmbusSet addr code len false _ (by decide) (by decide) (by decide) (by decide))).trans hb
    obtain ⟨hbusy, hcmd, hout, hk⟩ := (s.pmbusSet addr code len false).pmbusSent_sends
    refine ⟨_, (exec_pmbusCommand addr code len false s hhub).trans (congrArg Host.Outcome.next (State.pmbusGo_idle _ hidle)), hbusy, ?_,
      hcmd.trans hwrite, hset.mono.andThen hk⟩
    rw [hout, hset.out rfl, haddr, hcode, hwrite]
    rfl
  case write =>
    intro addr code len s hhub hb hlen
    have hset := s.pmbusSet_keeps addr code len true
    obtain ⟨haddr, hcode, hwrite⟩ := s.pmbusSet_command addr code len true
    have hget (f : Field) := s.get_pmbusSet addr code len true f
    have hidle : (s.pmbusSet addr code len true).flag PWR_PMBCMD_BUSY = false :=
      (congrArg (· == 1) (hget _ (by decide) (by decide) (by decide) (by decide))).trans hb
    obtain ⟨hbusy, hcmd, hout, hk⟩ := (s.pmbusSet addr code len true).pmbusSent_sends
    refine ⟨_, (exec_pmbusCommand addr code len true s hhub).trans (congrArg Host.Outcome.next (State.pmbusGo_idle _ hidle)), hbusy, ?_,
      hcmd.trans hwrite, hset.mono.andThen hk⟩
    rw [hout, hset.out rfl, haddr, hcode, hwrite, s.pmbusSet_len addr code len true hlen, hget PWR_PMBDATA_DATA (by decide) (by decide) (by decide) (by decide)]
    rfl
  case busy =>
    intro addr code len w s hhub hb
    have hset := s.pmbusSet_keeps addr code len w
    have hbusy : (s.pmbusSet addr code len w).flag PWR_PMBCMD_BUSY = true :=
      (congrArg (· == 1) (s.get_pmbusSet addr code len w _ (by decide) (by decide) (by decide) (by decide))).trans hb
    exact ⟨_, (exec_pmbusCommand addr code len w s hhub).trans (congrArg Host.Outcome.next (State.pmbusGo_busy _ hbusy)), hset.out rfl, hset⟩
  case done =>
    intro v s hhub hb hread
    obtain ⟨hidle, hdone, hk⟩ := s.pmbusEnded_ends
    have hended (r : Option (BitVec 16)) : exec (.pmbusDone r) s = _ := if_pos (show (s.domOn 760 && s.flag PWR_PMBCMD_BUSY) = true by simp [hhub, hb])
    constructor
    · refine ⟨_, hended none, ?_, ?_, State.flag_raise_self _ PWR_PMBCMD_NAK 0 (by decide), hk.andThen (State.raise_keeps _ PWR_PMBCMD_NAK 0)⟩
      · exact (State.flag_raise_field _ _ _ _ _ (by decide)).trans hidle
      · exact (State.flag_raise_field _ _ _ _ _ (by decide)).trans hdone
    · obtain ⟨hidle', hdone', hk', hone, htwo⟩ := s.pmbusTaken_shows v.toNat v.isLt hread
      exact ⟨_, hended (some v), hidle', hdone', hone, htwo, hk'⟩
  case doneNone =>
    intro r s h
    refine if_neg ?_
    rcases h with h | h <;> simp [h]
  case ack =>
    intro seq s hon hany hnext hold hack hseq
    have hnew : s.newFaults = 0 := List.countP_eq_zero.mpr fun r hr => by simp [hold r hr]
    have hrange : (seq.toNat + 2 ^ 32 - s.get MGT_FLT_ACK_SEQ) % 2 ^ 32 ≤
        ((s.fltNext + 2 ^ 32 - 1 - s.newFaults) % 2 ^ 32 + 2 ^ 32 - s.get MGT_FLT_ACK_SEQ) % 2 ^ 32 := by
      rw [hnew]
      omega
    have hset := s.set_keeps MGT_FLT_ACK_SEQ 0 seq.toNat
    have hlevels := (s.set MGT_FLT_ACK_SEQ 0 seq.toNat).hubLevels_keeps
    refine ⟨_, (exec_faultAck seq s hon).trans (congrArg Host.Outcome.next (if_pos (by simp only [hany, hrange, decide_true, Bool.and_true]))), ?_,
      (hlevels.faults rfl).1, hset.mono.andThen hlevels⟩
    exact (hlevels.regs MGT_FLT_ACK_SEQ 0 (by decide)).trans ((s.get_set_self MGT_FLT_ACK_SEQ 0 _).trans (Nat.mod_eq_of_lt seq.isLt))
  case ackNow =>
    intro seq s hon hnext hack hnow hcount hseq
    have hsome : 0 < s.newFaults := by
      obtain ⟨r, hr, hun, htb⟩ := hnow
      exact List.countP_pos_iff.mpr ⟨r, hr, by simp [hun, htb]⟩
    have hmost : s.newFaults ≤ s.fltRecs.countP s.unacked := List.countP_mono_left fun r _ h => (Bool.and_eq_true_iff.mp h).1
    have hbeyond : ¬ (seq.toNat + 2 ^ 32 - s.get MGT_FLT_ACK_SEQ) % 2 ^ 32 ≤
        ((s.fltNext + 2 ^ 32 - 1 - s.newFaults) % 2 ^ 32 + 2 ^ 32 - s.get MGT_FLT_ACK_SEQ) % 2 ^ 32 := by omega
    exact (exec_faultAck seq s hon).trans (congrArg Host.Outcome.next (if_neg (by simp only [hbeyond, decide_false, Bool.and_false, Bool.false_eq_true, not_false_eq_true])))
  case ackNone =>
    intro seq s h
    by_cases hon : s.domOn 763 = true
    · have hany : s.fltAny = false := h.resolve_left (by simp [hon])
      exact (exec_faultAck seq s hon).trans (congrArg Host.Outcome.next (if_neg (by rw [hany, Bool.false_and]; exact Bool.false_ne_true)))
    · exact if_neg hon
  case module =>
    intro v s hon hm hroom
    obtain ⟨r, hr, hcode, hd0, htb, hlen, hnext⟩ := s.fault_stores 0xF02 3 0xFF 0 0xFFFF v.toNat 0 hm hroom
    have hk := s.fault_keeps 0xF02 3 0xFF 0 0xFFFF v.toNat 0
    exact ⟨_, r, if_pos hon, hr, hcode, hd0.trans (Nat.mod_eq_of_lt v.isLt), htb, hlen, hnext, hk.mode rfl, hk.cells rfl⟩
  case moduleOff => exact fun v s hon => if_neg (by simp [hon])

end Sys2Proof.Machine
end

section
/-! SUPPORT. Bring-up (16 R439-R447): what the journal writes, how the attempts of a step come out, and what follows the step. -/

namespace Sys2Proof.Machine
set_option Elab.async false

/-! ### The journal's writes (16 R447) -/

theorem State.flashPut_keeps (s : State) (a : Nat) (l : List Nat) : Keeps { mem := true } s (s.flashPut a l) := by
  induction l generalizing s a with
  | nil => exact .refl _ s
  | cons b t ih => exact (s.setByte_keeps a _).trans (ih ..)

/-- What the journal and the image step change: the journal's registers and data and the flash; the image to load stays the same. -/
structure State.Notes (s t : State) : Prop where
  keeps : Keeps { regs := [.bj], mem := true, boot := true } s t
  imgAddr : t.boot.imgAddr = s.boot.imgAddr

/-- What a record of the journal changes: of the registers, a failed write's flag alone. -/
structure State.Journals (s t : State) : Prop extends s.Notes t where
  regs : ∀ f i, f.id % 65536 ≠ BJ_STAT_JWERR.id % 65536 → t.get f i = s.get f i

theorem State.Notes.refl (s : State) : s.Notes s := ⟨.refl _ s, rfl⟩

theorem State.Notes.trans {s t u : State} (h : s.Notes t) (k : t.Notes u) : s.Notes u :=
  ⟨h.keeps.trans k.keeps, k.imgAddr.trans h.imgAddr⟩

theorem State.Journals.refl (s : State) : s.Journals s := ⟨.refl s, fun _ _ _ => rfl⟩

theorem State.Journals.trans {s t u : State} (h : s.Journals t) (k : t.Journals u) : s.Journals u :=
  ⟨h.toNotes.trans k.toNotes, fun f i hf => (k.regs f i hf).trans (h.regs f i hf)⟩

theorem State.Journals.flag {s t : State} (h : s.Journals t) (f : Field) (hf : f.id % 65536 ≠ BJ_STAT_JWERR.id % 65536) :
    t.flag f = s.flag f := congrArg (· == 1) (h.regs f 0 hf)

theorem State.journals_of_mem {s t : State} (h : Keeps { mem := true } s t) : s.Journals t :=
  ⟨⟨h.mono, by rw [h.boot rfl]⟩, fun f i _ => h.regs f i List.not_mem_nil⟩

/-- A change of the journal's own data. -/
theorem State.withBoot_journals (s : State) (b : BootSt) (h : b.imgAddr = s.boot.imgAddr) : s.Journals { s with boot := b } :=
  ⟨⟨{ Keeps.refl _ s with boot := nofun }, h⟩, fun _ _ _ => rfl⟩

theorem State.raiseJwerr_journals (s : State) : s.Journals (s.raise BJ_STAT_JWERR) :=
  ⟨⟨(s.raise_keeps BJ_STAT_JWERR 0).mono, rfl⟩, fun f i hf => s.get_raise_field BJ_STAT_JWERR f 0 i hf⟩

theorem State.bjWrite_journals (s : State) (fail : Nat) (f : List Nat) : s.Journals (s.bjWrite fail f) := by
  unfold State.bjWrite
  split
  · exact .refl s
  · extract_lets +onlyGivenNames r p use t u
    have ht : s.Journals t := State.journals_of_mem (Keeps.foldl (fun u d => u.flashPut_keeps ..) use s)
    have hu : s.Journals u := by
      unfold u
      split
      · exact ht.trans t.raiseJwerr_journals
      · exact ht
    exact hu.trans (u.withBoot_journals _ rfl)

theorem State.bjPut_journals (s : State) (fail : Nat) (f : List Nat) : s.Journals (s.bjPut fail f) := by
  unfold State.bjPut
  split
  · exact s.withBoot_journals _ rfl
  · exact s.bjWrite_journals fail f

/-- Before step 4 a record waits: no byte changes. -/
theorem State.bjPut_mem (s : State) (fail : Nat) (f : List Nat) (h : s.boot.step < 4) :
    (s.bjPut fail f).mem = s.mem ∧ (s.bjPut fail f).boot.step = s.boot.step := by
  rw [State.bjPut, if_pos h]
  exact ⟨rfl, rfl⟩

theorem State.attemptRecord_journals (s : State) (fail st method k : Nat) (t : Try) : s.Journals (s.attemptRecord fail st method k t) :=
  (s.withBoot_journals { s.boot with ms := t.start.toNat } rfl).trans (State.bjPut_journals ..)

theorem State.outcomeRecord_journals (s : State) (fail st method result detail ms : Nat) :
    s.Journals (s.outcomeRecord fail st method result detail ms) :=
  (s.withBoot_journals { s.boot with ms := ms } rfl).trans (State.bjPut_journals ..)

theorem State.attemptRecord_mem (s : State) (fail st method k : Nat) (t : Try) (h : s.boot.step < 4) :
    (s.attemptRecord fail st method k t).mem = s.mem ∧ (s.attemptRecord fail st method k t).boot.step = s.boot.step :=
  State.bjPut_mem { s with boot := { s.boot with ms := t.start.toNat } } _ _ h

theorem State.outcomeRecord_mem (s : State) (fail st method result detail ms : Nat) (h : s.boot.step < 4) :
    (s.outcomeRecord fail st method result detail ms).mem = s.mem :=
  (State.bjPut_mem { s with boot := { s.boot with ms := ms } } _ _ h).1

/-! ### CLEAR (16 R444) -/

theorem testBit_clearBits (h mask i : Nat) (hi : i < 64) : (clearBits h mask).testBit i = (h.testBit i && !mask.testBit i) := by
  rw [clearBits, Nat.testBit_and, Nat.testBit_xor, Nat.testBit_two_pow_sub_one, decide_eq_true hi, Bool.xor_true]

/-- CLEAR writes its pair of records and takes the steps out of the history. -/
theorem State.bjClear_clears (s : State) (fail mask : Nat) (h : ¬ (s.mode = .dormant ∨ (s.mode = .bringUp ∧ s.boot.step ≤ 4) ∨ s.flag BJ_STAT_NOJRNL = true)) :
    (s.bjClear fail mask).get BJ_HIST_STEPS = clearBits (s.get BJ_HIST_STEPS) mask % 2 ^ 64 ∧
      Keeps { regs := [.bj], mem := true, boot := true } s (s.bjClear fail mask) := by
  rw [State.bjClear, if_neg h]
  extract_lets m t
  have ht : s.Journals t := (State.bjWrite_journals ..).trans (State.bjWrite_journals ..)
  refine ⟨(State.get_set_self ..).trans ?_, ht.keeps.andThen (t.set_keeps BJ_HIST_STEPS 0 _)⟩
  rw [ht.regs BJ_HIST_STEPS 0 (by decide)]
  rfl

/-! ### What follows a step (16 R445, R446) -/

theorem State.mark_keeps (s : State) (f : Field) (st : Nat) : Keeps { regs := [f.bank] } s (s.mark f st) := s.set_keeps ..

/-- The step that is due. -/
def State.atStep (s : State) (st : Nat) : State := { s with boot := { s.boot with step := st } }

theorem State.atStep_keeps (s : State) (st : Nat) : Keeps { boot := true } s (s.atStep st) := { Keeps.refl _ s with boot := nofun }

/-- The end of a step is counted on and shown. -/
def State.advanced (s : State) (st : Nat) : State := (s.atStep (st + 1)).stepEnded

/-- What the end of a step changes. -/
def endWrites : Writes := { regs := [.bj, .lec], fresh := true, boot := true }

theorem State.stepEnded_keeps (s : State) : Keeps { regs := [.bj, .lec], fresh := true } s s.stepEnded :=
  (s.raise_keeps BJ_STAT_STEPEV 0).mono.andThen (State.lecSample_keeps ..)

theorem State.get_stepEnded (s : State) (f : Field) (i : Nat) (hb : f.bank = .bj) :
    s.stepEnded.get f i = (s.raise BJ_STAT_STEPEV).get f i :=
  (State.lecSample_keeps (s.raise BJ_STAT_STEPEV) _ _).regs f i (hb ▸ by decide)

theorem State.advanced_keeps (s : State) (st : Nat) : Keeps endWrites s (s.advanced st) :=
  (s.atStep_keeps (st + 1)).mono.andThen (State.stepEnded_keeps _)

/-- A finished step shows its event; no other register of bring-up changes, and the next step is due. -/
theorem State.advanced_ends (s : State) (st : Nat) : (s.advanced st).boot.step = st + 1 ∧ (s.advanced st).flag BJ_STAT_STEPEV = true ∧
    ∀ f i, f.bank = .bj → f.id % 65536 ≠ BJ_STAT_STEPEV.id % 65536 → (s.advanced st).get f i = s.get f i := by
  refine ⟨congrArg BootSt.step ((State.stepEnded_keeps _).boot rfl), ?_, fun f i hb hf => (State.get_stepEnded _ f i hb).trans (State.get_raise_field _ _ f 0 i hf)⟩
  exact (congrArg (· == 1) (State.get_stepEnded _ BJ_STAT_STEPEV 0 rfl)).trans (State.flag_raise_self _ BJ_STAT_STEPEV 0 (by decide))

/-- What a halt changes. -/
def stopWrites : Writes := { faultWrites with regs := .bj :: faultWrites.regs, boot := true }

theorem State.bootHalt_keeps (s : State) (st detail : Nat) : Keeps { faultWrites with regs := .bj :: faultWrites.regs } s (s.bootHalt st detail) := by
  refine Keeps.trans ((s.raise_keeps BJ_STAT_HALTED 0).mono) ?_
  exact .ite ({ Keeps.refl _ _ with faults := nofun }) (State.fault_keeps ..).mono

theorem State.bootHalt_halts (s : State) (st detail : Nat) : (s.bootHalt st detail).flag BJ_STAT_HALTED = true := by
  have hraise := s.flag_raise_self BJ_STAT_HALTED 0 (by decide)
  unfold State.bootHalt
  split
  · exact hraise
  · exact ((State.fault_keeps ..).flag BJ_STAT_HALTED 0 (by decide)).trans hraise

/-- A halt before step 3 is noted in hardware and leaves no record. -/
theorem State.bootHalt_first (s : State) (st detail : Nat) (h : st ≤ 2) : (s.bootHalt st detail).fltHw.testBit 2 = true ∧
    (s.bootHalt st detail).fltRecs = s.fltRecs ∧ (s.bootHalt st detail).flag BJ_STAT_STEPEV = s.flag BJ_STAT_STEPEV := by
  have hnoted : s.bootHalt st detail = { s.raise BJ_STAT_HALTED with fltHw := s.fltHw ||| 4 } := if_pos h
  rw [hnoted]
  refine ⟨?_, rfl, s.flag_raise_field BJ_STAT_HALTED BJ_STAT_STEPEV 0 0 (by decide)⟩
  show (s.fltHw ||| 4).testBit 2 = true
  rw [Nat.testBit_or, show Nat.testBit 4 2 = true from rfl, Bool.or_true]

/-- The state of a step that failed, with the step noted. -/
def State.runFailed (s : State) (st result : Nat) : State := if result = 1 ∨ result = 2 then s.mark BJ_RUNFAIL_STEPS st else s

theorem State.runFailed_keeps (s : State) (st result : Nat) : Keeps { regs := [.bj] } s (s.runFailed st result) :=
  .ite (s.mark_keeps BJ_RUNFAIL_STEPS st) (.refl _ s)

theorem State.afterStep_eq (s : State) (st result detail : Nat) : s.afterStep st result detail =
    (let t := (s.runFailed st result).advanced st
     if (result = 1 ∨ result = 2) ∧ t.policyOf st % 4 = 3 then (t.atStep st).bootHalt st detail
     else if t.startsDormant st then t.dormantState
     else if st = 19 then (t.raise BJ_STAT_DONE).enter .ready
     else t) := rfl

/-- A step goes on to the next one, halts bring-up, or at step 6 leads to DORMANT. -/
theorem State.afterStep_steps (s : State) (st result detail : Nat) :
    (s.afterStep st result detail).boot.step = st + 1 ∨
      ((s.afterStep st result detail).boot.step = st ∧ (s.afterStep st result detail).flag BJ_STAT_HALTED = true) ∨
      (st = 6 ∧ (s.afterStep st result detail).mode = .dormant) := by
  rw [s.afterStep_eq]
  extract_lets t
  have hstep : t.boot.step = st + 1 := (State.advanced_ends _ st).1
  split
  · exact .inr (.inl ⟨congrArg BootSt.step ((State.bootHalt_keeps _ st detail).boot rfl), State.bootHalt_halts ..⟩)
  split
  case isTrue h =>
    exact .inr (.inr ⟨by simp [State.startsDormant] at h; exact h.1.1, t.dormantState_enters.mode⟩)
  split
  · exact .inl ((congrArg BootSt.step ((State.enter_keeps _ .ready).boot rfl)).trans hstep)
  · exact .inl hstep

/-- A step that ends neither in DORMANT nor in READY. -/
theorem State.afterStep_keeps (s : State) (st result detail : Nat) (h6 : st ≠ 6) (h19 : st ≠ 19) : Keeps stopWrites s (s.afterStep st result detail) := by
  rw [s.afterStep_eq]
  extract_lets t
  have ht : Keeps stopWrites s t := (s.runFailed_keeps st result).mono.andThen (State.advanced_keeps _ st)
  have hstop : Keeps stopWrites s (t.atStep st) := ht.andThen (t.atStep_keeps st)
  refine .ite (hstop.andThen (State.bootHalt_keeps ..)) ?_
  rw [if_neg (by simp [State.startsDormant, h6]), if_neg h19]
  exact ht

/-- A step that passes goes on. -/
theorem State.afterStep_passed (s : State) (st detail : Nat) (h6 : st ≠ 6) (h19 : st ≠ 19) : s.afterStep st 0 detail = s.advanced st := by
  have hdormant : (s.advanced st).startsDormant st = false := by simp [State.startsDormant, h6]
  rw [s.afterStep_eq]
  simp [State.runFailed, hdormant, h19]

theorem State.afterStep_last (s : State) (detail : Nat) : s.afterStep 19 0 detail = ((s.advanced 19).raise BJ_STAT_DONE).enter .ready := by
  rw [s.afterStep_eq]
  simp [State.runFailed, State.startsDormant]

/-! ### How a step's attempts come out (16 R443) -/

/-- The steps of which the policy is HALT, run once, and which bring up no domain: rails, root, first core, and the end (16 R442). -/
def onceSteps : List Nat := [0, 1, 5, 19]

/-- A step is entered: `BJ_STAT.STEP` shows it. -/
def State.shown (s : State) (st : Nat) : State := s.set BJ_STAT_STEP 0 st

theorem State.enterStep_shown (s : State) (st : Nat) (h : stepDomains st = []) : s.enterStep st = s.shown st := by
  unfold State.enterStep State.dropUnplanned
  rw [h]
  exact ite_self _

theorem State.shown_keeps (s : State) (st : Nat) : Keeps { regs := [.bj] } s (s.shown st) := s.set_keeps BJ_STAT_STEP 0 st

theorem State.get_shown (s : State) (st : Nat) (f : Field) (h : f.id % 65536 ≠ BJ_STAT_STEP.id % 65536) : (s.shown st).get f = s.get f :=
  s.get_set_field BJ_STAT_STEP f 0 0 st h

/-- A step without REG records begins as it is entered. -/
theorem State.beginStep_same (s : State) (st : Nat) (h : st < 7 ∨ s.boot.regRecs = []) : s.beginStep st = s := by
  rcases h with h | h
  · exact if_neg (by omega)
  · simp [State.beginStep, State.stepRecords, h, State.regRecords]

theorem policyOf_once (s : State) (st : Nat) (h : st ∈ onceSteps) : s.policyOf st = 3 := by
  simp only [onceSteps, List.mem_cons, List.not_mem_nil, or_false] at h
  rcases h with rfl | rfl | rfl | rfl <;> rfl

theorem stepDomains_once (st : Nat) (h : st ∈ onceSteps) : stepDomains st = [] := by
  simp only [onceSteps, List.mem_cons, List.not_mem_nil, or_false] at h
  rcases h with rfl | rfl | rfl | rfl <;> rfl

theorem State.runPolicy_once (s : State) (fail st : Nat) (tries : List Try) (last : Option Try) (h : st ∈ onceSteps) :
    s.runPolicy fail st tries last = s.runMethod fail st 0 last 1 1 tries 0 := by
  rw [State.runPolicy, policyOf_once s st h]
  rfl

/-- A step that is run once, by how its one attempt came out. -/
theorem State.bootStep_once (s : State) (tries : List Try) (last : Option Try) (fail : Nat) (h : s.boot.step ∈ onceSteps)
    (hrecs : s.boot.step < 7 ∨ s.boot.regRecs = []) (r : Ran) (hr : r.result ≠ 3)
    (hrun : (s.shown s.boot.step).runMethod fail s.boot.step 0 last 1 1 tries 0 = r) :
    s.bootStep tries last fail = r.state.afterStep s.boot.step r.result r.detail := by
  have hlater : (s.shown s.boot.step).laneRecords s.boot.step = [] := if_neg (by rintro h15; rw [h15] at h; revert h; decide)
  have hbegin : (s.shown s.boot.step).beginStep s.boot.step = s.shown s.boot.step := State.beginStep_same _ _ hrecs
  unfold State.bootStep
  dsimp only
  rw [s.enterStep_shown _ (stepDomains_once _ h), hbegin, ite_self, State.runPolicy_once _ _ _ _ _ h, hrun, hlater, if_neg hr]
  rfl

/-- An attempt that the surroundings leave alone: the journal notes how the step's work came out. -/
theorem State.attempt_plain (s : State) (fail st : Nat) (h4 : st ≠ 4) (w : Work) (hw : (s.attemptRecord fail st 0 1 s.plainTry).bootWork st 0 [] = w) :
    ∃ v d, w.state.Journals v ∧ (w.state.boot.step < 4 → v.mem = w.state.mem) ∧
      s.attempt fail st 0 1 s.plainTry = (v, w.ok && w.failed.isEmpty, d) := by
  have hwork : (s.attemptRecord fail st 0 1 s.plainTry).stepWork st 0 true [] = w := by
    unfold State.stepWork
    rw [show (wholeFns st).filter (List.contains []) = [] from List.filter_eq_nil_iff.mpr (by simp)]
    exact hw
  have hattempt : s.attempt fail st 0 1 s.plainTry = (w.state.outcomeRecord fail st 0 (if w.ok && w.failed.isEmpty then 0 else 1)
      (if w.ok && w.failed.isEmpty then 0 else w.failed.headD 0) s.plainTry.stop.toNat, w.ok && w.failed.isEmpty,
      if w.ok && w.failed.isEmpty then 0 else w.failed.headD 0) := by
    unfold State.attempt
    rw [if_neg h4]
    exact hwork ▸ rfl
  rw [hattempt]
  exact ⟨_, _, State.outcomeRecord_journals .., State.outcomeRecord_mem _ _ _ _ _ _ _, rfl⟩

/-- The one attempt that a step run once gets. -/
theorem State.runMethod_plain (s : State) (fail st : Nat) (h4 : st ≠ 4) (w : Work) (hw : (s.attemptRecord fail st 0 1 s.plainTry).bootWork st 0 [] = w) :
    ∃ v d, w.state.Journals v ∧ (w.state.boot.step < 4 → v.mem = w.state.mem) ∧
      s.runMethod fail st 0 none 1 1 [] 0 = if w.ok && w.failed.isEmpty then ⟨v, 0, 0, []⟩ else ⟨v, 1, d, []⟩ := by
  obtain ⟨v, d, hv, hmem, hattempt⟩ := s.attempt_plain fail st h4 w hw
  refine ⟨v, d, hv, hmem, ?_⟩
  unfold State.runMethod
  rw [hattempt]
  rfl

/-- The one attempt of a step run once passes: the step passes. -/
theorem State.bootStep_passes (s : State) (fail : Nat) (h : s.boot.step ∈ onceSteps) (hrecs : s.boot.step < 7 ∨ s.boot.regRecs = []) (w : State)
    (hw : ((s.shown s.boot.step).attemptRecord fail s.boot.step 0 1 (s.shown s.boot.step).plainTry).bootWork s.boot.step 0 [] = ⟨w, true, []⟩) :
    ∃ v, w.Journals v ∧ (w.boot.step < 4 → v.mem = w.mem) ∧ s.bootStep [] none fail = v.afterStep s.boot.step 0 0 := by
  obtain ⟨v, d, hv, hmem, hrun⟩ := State.runMethod_plain _ fail _ (fun h4 => by rw [h4] at h; revert h; decide) _ hw
  exact ⟨v, hv, hmem, s.bootStep_once [] none fail h hrecs _ (by simp) hrun⟩

/-- The one attempt of a step run once fails: the step fails. -/
theorem State.bootStep_fails (s : State) (fail : Nat) (h : s.boot.step ∈ onceSteps) (hrecs : s.boot.step < 7 ∨ s.boot.regRecs = []) (w : State)
    (hw : ((s.shown s.boot.step).attemptRecord fail s.boot.step 0 1 (s.shown s.boot.step).plainTry).bootWork s.boot.step 0 [] = ⟨w, false, []⟩) :
    ∃ v d, w.Journals v ∧ s.bootStep [] none fail = v.afterStep s.boot.step 1 d := by
  obtain ⟨v, d, hv, -, hrun⟩ := State.runMethod_plain _ fail _ (fun h4 => by rw [h4] at h; revert h; decide) _ hw
  exact ⟨v, d, hv, s.bootStep_once [] none fail h hrecs _ (by simp) hrun⟩

/-- An attempt at step 0 that exceeds its limit leaves its records alone. -/
theorem State.bootStep_timesOut (s : State) (fail : Nat) (last : Try) (h : s.boot.step = 0) :
    ∃ v d, (s.shown 0).Journals v ∧ s.bootStep [] (some last) fail = v.afterStep 0 2 d := by
  have hrun : (s.shown s.boot.step).runMethod fail s.boot.step 0 (some last) 1 1 [] 0 =
      ⟨(s.shown 0).timeoutAttempt fail 0 0 1 last, 2, (last.failed.headD 0).toNat, []⟩ := by
    rw [h]
    rfl
  have hstep := s.bootStep_once [] (some last) fail (by rw [h]; decide) (.inl (by omega)) _ (by simp) hrun
  refine ⟨_, _, ?_, h ▸ hstep⟩
  have hwork (u : State) (fails : List Nat) : (u.stepWork 0 0 (manyFns 0) fails).state = u := rfl
  unfold State.timeoutAttempt
  rw [if_neg (by decide)]
  dsimp only
  rw [hwork]
  exact (State.attemptRecord_journals ..).trans (State.outcomeRecord_journals ..)

/-! ### Step 0: the poll of the rails (20 R521) -/

theorem State.pollRead_pins (s : State) (p : PollSt) : (s.pollRead p).pins =
    let moved := { s.pins with poll := if p.next < 29 then some { p with next := p.next + 1 } else none }
    if p.next % 2 = 0 then { moved with pgood := putBit s.pins.pgood (p.next / 2) (p.good (p.next / 2)) } else moved := by
  by_cases h : p.next % 2 = 0
  · rw [s.pollRead_status p h, if_pos h]
    rfl
  · rw [s.pollRead_current p (by omega), if_neg h]
    exact (State.putReadings_keeps ..).pins rfl

theorem State.pollOn_keeps (s : State) : Keeps pollWrites s s.pollOn := by
  unfold State.pollOn
  split
  · exact .ite (.refl _ s) (s.pollRead_keeps _)
  · exact .refl _ s

theorem State.pollRun_keeps (s : State) (n : Nat) : Keeps pollWrites s (s.pollRun n) := by
  induction n generalizing s with
  | zero => exact .refl _ s
  | succ n ih => exact s.pollOn_keeps.trans (ih _)

/-- What a poll reads depends on the pins and on `PWR_PMBCMD.BUSY` alone. -/
theorem State.pollRun_pins {s t : State} (n : Nat) (hp : s.pins = t.pins) (hb : s.flag PWR_PMBCMD_BUSY = t.flag PWR_PMBCMD_BUSY) :
    (s.pollRun n).pins = (t.pollRun n).pins := by
  induction n generalizing s t with
  | zero => exact hp
  | succ n ih =>
    have hbusy (u : State) : u.pollOn.flag PWR_PMBCMD_BUSY = u.flag PWR_PMBCMD_BUSY := u.pollOn_keeps.flag _ 0 List.not_mem_nil
    refine ih ?_ ((hbusy s).trans (hb.trans (hbusy t).symm))
    unfold State.pollOn
    rw [hp, hb]
    split
    · split
      · exact hp
      · rw [State.pollRead_pins, State.pollRead_pins, hp]
    · exact hp

/-! ### Step 18: an image that another agent's ownership keeps out (16 R440) -/

/-- Another agent owns loading. -/
def State.imageBlocked (s : State) : Prop := s.boot.imgAddr ≠ 0 ∧ 1 < s.owner

theorem State.imageBlocked.notes {s t : State} (h : s.imageBlocked) (k : s.Notes t) : t.imageBlocked :=
  ⟨k.imgAddr ▸ h.1, (k.keeps.owner rfl).1 ▸ h.2⟩

theorem State.stepWork_blocked (s : State) (method : Nat) (done : Bool) (fails : List Nat) (h : s.imageBlocked) :
    (s.stepWork 18 method done fails).state = s := by
  obtain ⟨haddr, howner⟩ := h
  have himage : s.imageStep.state = s := by
    unfold State.imageStep
    rw [if_neg haddr, if_pos (by omega)]
  unfold State.stepWork
  dsimp only
  split
  · exact himage
  · rfl

theorem State.attempt_blocked (s : State) (fail method k : Nat) (t : Try) (h : s.imageBlocked) : s.Notes (s.attempt fail 18 method k t).1 := by
  have hrecord := (s.attemptRecord_journals fail 18 method k t).toNotes
  have hwork := State.stepWork_blocked _ method (t.pass || (manyFns 18 && !(t.failed.map (·.toNat)).isEmpty)) (t.failed.map (·.toNat)) (h.notes hrecord)
  unfold State.attempt
  rw [if_neg (by decide)]
  dsimp only
  rw [hwork]
  exact hrecord.trans (State.outcomeRecord_journals ..).toNotes

theorem State.runMethod_blocked (s : State) (fail method n k d : Nat) (h : s.imageBlocked) :
    s.Notes (s.runMethod fail 18 method none n k [] d).state := by
  induction n generalizing s k d with
  | zero => exact .refl s
  | succ n ih =>
    have hattempt := s.attempt_blocked fail method k s.plainTry h
    unfold State.runMethod
    dsimp only
    split
    · exact hattempt
    · exact hattempt.trans (ih _ _ _ (h.notes hattempt))

theorem State.mark_notes (s : State) (f : Field) (st : Nat) (hf : f.bank = .bj) : s.Notes (s.mark f st) :=
  ⟨(hf ▸ s.mark_keeps f st : Keeps { regs := [.bj] } s (s.mark f st)).mono, rfl⟩

theorem State.runPolicy_blocked (s : State) (fail : Nat) (h : s.imageBlocked) : s.Notes (s.runPolicy fail 18 [] none).state := by
  unfold State.runPolicy
  extract_lets b n hist alt
  have hrun := s.runMethod_blocked fail 0 n 1 0 h
  split
  · split
    · exact (State.outcomeRecord_journals ..).toNotes.trans (State.mark_notes _ BJ_RUNSKIP_STEPS 18 rfl)
    · exact hrun
  · exact hrun
  · exact hrun

/-- Bring-up goes on past an image that cannot be applied, or halts, with the image and the ownership as they were. -/
theorem State.bootStep_blocked (s : State) (fail : Nat) (hst : s.boot.step = 18) (hrecs : s.boot.regRecs = []) (h : s.imageBlocked) :
    (s.bootStep [] none fail).img = s.img ∧ (s.bootStep [] none fail).owner = s.owner := by
  have hshown : s.Notes (s.shown 18) := ⟨(s.shown_keeps 18).mono, rfl⟩
  have hbegin : (s.shown 18).beginStep 18 = s.shown 18 := State.beginStep_same _ _ (.inr hrecs)
  have hrun := State.runPolicy_blocked _ fail (h.notes hshown)
  have hafter (u : State) (r d : Nat) : Keeps stopWrites u (u.afterStep 18 r d) := u.afterStep_keeps 18 r d (by decide) (by decide)
  unfold State.bootStep
  dsimp only
  rw [hst, s.enterStep_shown 18 rfl, hbegin, ite_self, show (s.shown 18).laneRecords 18 = [] from rfl]
  rw [show ∀ u : State, u.regRecords [] = u from fun _ => rfl, ite_self]
  exact ⟨((hafter _ _ _).img rfl).trans ((hshown.trans hrun).keeps.img rfl),
    ((hafter _ _ _).owner rfl).1.trans ((hshown.trans hrun).keeps.owner rfl).1⟩

/-! ### The steps -/

/-- Step 0's work: the poll under way is ended, and the rails are those it read. -/
theorem State.polled_work (s : State) (fail : Nat) (hst : s.boot.step = 0) :
    ∃ w, ((s.shown 0).attemptRecord fail 0 0 1 (s.shown 0).plainTry).bootWork 0 0 [] = ⟨w, (s.pollRun 30).pins.pgood == 0x7FFF, []⟩ ∧
      w.mode = s.mode ∧ w.mem = s.mem ∧ w.boot.step = 0 ∧ w.get BJ_STAT_STEP = 0 ∧ w.flag BJ_STAT_HALTED = s.flag BJ_STAT_HALTED ∧
      w.fltRecs = s.fltRecs := by
  have hshown := s.shown_keeps 0
  have hrecord := (s.shown 0).attemptRecord_journals fail 0 0 1 (s.shown 0).plainTry
  obtain ⟨hmem, hstep⟩ := (s.shown 0).attemptRecord_mem fail 0 0 1 (s.shown 0).plainTry (by show s.boot.step < 4; omega)
  have hpoll := ((s.shown 0).attemptRecord fail 0 0 1 (s.shown 0).plainTry).pollRun_keeps 30
  have hpins : (((s.shown 0).attemptRecord fail 0 0 1 (s.shown 0).plainTry).pollRun 30).pins = (s.pollRun 30).pins :=
    State.pollRun_pins 30 ((hrecord.keeps.pins rfl).trans (hshown.pins rfl))
      ((hrecord.flag PWR_PMBCMD_BUSY (by decide)).trans (hshown.flag _ 0 (by decide)))
  refine ⟨_, congrArg (fun p : PinSt => Work.mk _ (p.pgood == 0x7FFF) []) hpins, ?_, ?_, ?_, ?_, ?_, ?_⟩
  · rw [hpoll.mode rfl, hrecord.keeps.mode rfl, hshown.mode rfl]
  · rw [hpoll.mem rfl, hmem, hshown.mem rfl]
  · rw [hpoll.boot rfl, hstep]
    exact hst
  · rw [hpoll.regs _ _ List.not_mem_nil, hrecord.regs _ _ (by decide)]
    exact State.get_set_self ..
  · rw [hpoll.flag _ _ List.not_mem_nil, hrecord.flag _ (by decide)]
    exact congrArg (· == 1) (s.get_shown 0 BJ_STAT_HALTED (by decide))
  · rw [(hpoll.faults rfl).1, (hrecord.keeps.faults rfl).1, (hshown.faults rfl).1]

/-- Before step 3 a failed step halts bring-up, noted in hardware and without a record. -/
theorem State.afterStep_halts (s : State) (st result detail : Nat) (hst : st = 0) (hr : result = 1 ∨ result = 2) (hm : s.mode = .bringUp) :
    (s.afterStep st result detail).mode = .bringUp ∧ (s.afterStep st result detail).boot.step = st ∧
      (s.afterStep st result detail).flag BJ_STAT_HALTED = true ∧ (s.afterStep st result detail).flag BJ_STAT_STEPEV = true ∧
      (s.afterStep st result detail).fltHw.testBit 2 = true ∧ (s.afterStep st result detail).fltRecs = s.fltRecs := by
  subst hst
  rw [s.afterStep_eq]
  extract_lets t
  obtain ⟨-, hstepev, -⟩ := (s.runFailed 0 result).advanced_ends 0
  have ht : Keeps endWrites s t := (s.runFailed_keeps 0 result).mono.andThen (State.advanced_keeps _ 0)
  have hat := t.atStep_keeps 0
  have hhalt := (t.atStep 0).bootHalt_keeps 0 detail
  obtain ⟨hbit, hrecs, hevent⟩ := (t.atStep 0).bootHalt_first 0 detail (by decide)
  rw [if_pos ⟨hr, rfl⟩]
  exact ⟨(hhalt.mode rfl).trans ((hat.mode rfl).trans ((ht.mode rfl).trans hm)), congrArg BootSt.step (hhalt.boot rfl), State.bootHalt_halts ..,
    hevent.trans ((hat.flag _ _ List.not_mem_nil).trans hstepev), hbit, hrecs.trans ((hat.faults rfl).1.trans (ht.faults rfl).1)⟩

/-- Step 1's work: the root locks at 4 GHz (17 R458). -/
def State.rootLocked (s : State) : State := { (s.raise CLK_GEN_STAT_LOCK).lower CLK_GEN_STAT_ROOT48 with clockStopped := s.pins.trip }

theorem State.rootWork_eq (s : State) : s.bootWork 1 0 [] = ⟨s.rootLocked, true, []⟩ := rfl

theorem State.rootLocked_locks (s : State) : s.rootLocked.flag CLK_GEN_STAT_LOCK = true ∧ s.rootLocked.flag CLK_GEN_STAT_ROOT48 = false :=
  ⟨(congrArg (· == 1) (State.get_lower_field _ CLK_GEN_STAT_ROOT48 CLK_GEN_STAT_LOCK 0 0 (by decide))).trans
    (s.flag_raise_self CLK_GEN_STAT_LOCK 0 (by decide)), State.flag_lower_self _ CLK_GEN_STAT_ROOT48 0 rfl⟩

theorem State.trip_of_awake (s : State) (h : s.awake = true) : s.pins.trip = false := by
  simp [State.awake] at h
  simp [h]

/-- Step 19 has no work of its own. -/
theorem State.lastWork_eq (s : State) : s.bootWork 19 0 [] = ⟨s, true, []⟩ := rfl

/-- Step 5's work: the first core is released. -/
def State.firstReleased (s : State) : State := if (s.core 0).held then s.coreRelease 0 else s

theorem State.firstCoreWork_eq (s : State) (h : s.get MGT_FLCTL_BOOTOK ≠ 0) : s.bootWork 5 0 [] = ⟨s.firstReleased, true, []⟩ :=
  (show s.bootWork 5 0 [] = if s.get MGT_FLCTL_BOOTOK = 0 then ⟨s, false, [6 * 1024 + 3]⟩ else ⟨s.firstReleased, true, []⟩ from rfl).trans (if_neg h)

theorem State.firstReleased_held (s : State) : (s.firstReleased.core 0).held = false := by
  unfold State.firstReleased
  split
  · exact s.coreRelease_held 0
  case isFalse h => simpa using h

theorem State.bootRuns_running {s : State} (h : s.bootRuns = true) :
    s.mode = .bringUp ∧ s.flag BJ_STAT_HALTED = false ∧ s.awake = true ∧ s.clockLost = false ∧ s.stepWaits = false := by
  unfold State.bootRuns at h
  grind

theorem exec_bootStep (tries : List Try) (jf : BitVec 2) (s : State) (h : s.bootRuns = true) :
    exec (.bootStep tries jf) s = .next (s.bootStep tries none jf.toNat) := if_pos h

theorem exec_bootStepTimeout (tries : List Try) (last : Try) (jf : BitVec 2) (s : State) (h : s.bootRuns = true) :
    exec (.bootStepTimeout tries last jf) s = .next (s.bootStep tries (some last) jf.toNat) := if_pos h

/-- Where bring-up does not run, neither command does anything. -/
theorem exec_bootStep_idle (tries : List Try) (last : Try) (jf : BitVec 2) (s : State) (h : ¬ s.bootRuns = true) :
    exec (.bootStep tries jf) s = .next s ∧ exec (.bootStepTimeout tries last jf) s = .next s := ⟨if_neg h, if_neg h⟩

/-- Settles O57. A step is its work between two records of the journal, which touch no register but their failure flag, and what `afterStep` makes of
the result; the poll of step 0 depends on the pins alone. -/
theorem bringUpSteps : Obligations.BringUpSteps := by
  unfold Obligations.BringUpSteps
  refine ⟨?railsGood, ?railsBad, ?firstStepTimeout, ?rootLocks, ?lastStep, ?everyStep, ?firstCore, ?failedImage, ?lostClock, ?waitsForFlash,
    ?notRunning, ?clear, ?clearNone⟩
  case railsGood =>
    intro jf s hruns hst hgood
    obtain ⟨hm, hhalted, -⟩ := State.bootRuns_running hruns
    obtain ⟨w, hwork, hmode, hmem, hstep, hshows, hhalts, -⟩ := s.polled_work jf.toNat hst
    rw [hgood] at hwork
    obtain ⟨v, hv, hvmem, hrun⟩ := s.bootStep_passes jf.toNat (by rw [hst]; decide) (.inl (by omega)) w (by rw [hst]; exact hwork)
    rw [hst, v.afterStep_passed 0 0 (by decide) (by decide)] at hrun
    obtain ⟨hnext, hstepev, hregs⟩ := v.advanced_ends 0
    have hend := v.advanced_keeps 0
    refine ⟨_, (exec_bootStep [] jf s hruns).trans (congrArg Host.Outcome.next hrun), ?_, hnext, hstepev, ?_, ?_, ?_⟩
    · rw [hend.mode rfl, hv.keeps.mode rfl, hmode, hm]
    · exact (congrArg (· == 1) (hregs BJ_STAT_HALTED 0 rfl (by decide))).trans ((hv.flag BJ_STAT_HALTED (by decide)).trans (hhalts.trans hhalted))
    · rw [hregs BJ_STAT_STEP 0 rfl (by decide), hv.regs _ _ (by decide), hshows]
    · rw [hend.mem rfl, hvmem (by omega), hmem]
  case railsBad =>
    intro jf s hruns hst hbad
    obtain ⟨hm, -⟩ := State.bootRuns_running hruns
    obtain ⟨w, hwork, hmode, -, -, -, -, hrecs⟩ := s.polled_work jf.toNat hst
    rw [beq_false_of_ne hbad] at hwork
    obtain ⟨v, d, hv, hrun⟩ := s.bootStep_fails jf.toNat (by rw [hst]; decide) (.inl (by omega)) w (by rw [hst]; exact hwork)
    rw [hst] at hrun
    obtain ⟨hmode', hstep, hhalted, -, hbit, hnone⟩ := v.afterStep_halts 0 1 d rfl (.inl rfl) ((hv.keeps.mode rfl).trans (hmode.trans hm))
    exact ⟨_, (exec_bootStep [] jf s hruns).trans (congrArg Host.Outcome.next hrun), hmode', hstep, hhalted, hbit,
      hnone.trans ((hv.keeps.faults rfl).1.trans hrecs)⟩
  case firstStepTimeout =>
    intro jf last s hruns hst
    obtain ⟨hm, -⟩ := State.bootRuns_running hruns
    obtain ⟨v, d, hv, hrun⟩ := s.bootStep_timesOut jf.toNat last hst
    have hshown := s.shown_keeps 0
    obtain ⟨hmode', hstep, hhalted, hstepev, hbit, hnone⟩ := v.afterStep_halts 0 2 d rfl (.inr rfl)
      ((hv.keeps.mode rfl).trans ((hshown.mode rfl).trans hm))
    exact ⟨_, (exec_bootStepTimeout [] last jf s hruns).trans (congrArg Host.Outcome.next hrun), hmode', hstep, hhalted, hstepev, hbit,
      hnone.trans ((hv.keeps.faults rfl).1.trans (hshown.faults rfl).1)⟩
  case rootLocks =>
    intro jf s hruns hst
    obtain ⟨-, -, hawake, -⟩ := State.bootRuns_running hruns
    obtain ⟨v, hv, -, hrun⟩ := s.bootStep_passes jf.toNat (by rw [hst]; decide) (.inl (by omega)) _ (by rw [hst]; exact State.rootWork_eq _)
    rw [hst, v.afterStep_passed 1 0 (by decide) (by decide)] at hrun
    obtain ⟨hnext, hstepev, -⟩ := v.advanced_ends 1
    have hend := v.advanced_keeps 1
    refine ⟨_, (exec_bootStep [] jf s hruns).trans (congrArg Host.Outcome.next hrun), hnext, ?_, ?_, ?_, hstepev⟩
    · exact (hend.flag CLK_GEN_STAT_LOCK 0 (by decide)).trans ((hv.flag CLK_GEN_STAT_LOCK (by decide)).trans (State.rootLocked_locks _).1)
    · exact (hend.flag CLK_GEN_STAT_ROOT48 0 (by decide)).trans ((hv.flag CLK_GEN_STAT_ROOT48 (by decide)).trans (State.rootLocked_locks _).2)
    · rw [(hend.clockStopped rfl).1, (hv.keeps.clockStopped rfl).1]
      show ((s.shown 1).attemptRecord jf.toNat 1 0 1 (s.shown 1).plainTry).pins.trip = false
      rw [(State.attemptRecord_journals ..).keeps.pins rfl]
      exact s.trip_of_awake hawake
  case lastStep =>
    intro jf s hruns hst hrecs
    obtain ⟨v, hv, -, hrun⟩ := s.bootStep_passes jf.toNat (by rw [hst]; decide) (.inr hrecs) _ (by rw [hst]; exact State.lastWork_eq _)
    rw [hst, v.afterStep_last] at hrun
    obtain ⟨hnext, hstepev, -⟩ := v.advanced_ends 19
    have hend := v.advanced_keeps 19
    have hdone := (v.advanced 19).raise_keeps BJ_STAT_DONE 0
    have henter := ((v.advanced 19).raise BJ_STAT_DONE).enter_keeps .ready
    refine ⟨_, (exec_bootStep [] jf s hruns).trans (congrArg Host.Outcome.next hrun), (State.enter_enters _ _).mode, ?_, ?_, ?_, ?_⟩
    · exact (henter.flag BJ_STAT_DONE 0 (by decide)).trans (State.flag_raise_self _ BJ_STAT_DONE 0 (by decide))
    · exact (congrArg BootSt.step (henter.boot rfl)).trans hnext
    · exact (henter.flag BJ_STAT_STEPEV 0 (by decide)).trans ((State.flag_raise_field _ BJ_STAT_DONE BJ_STAT_STEPEV 0 0 (by decide)).trans hstepev)
    · rw [henter.dom rfl, hdone.dom rfl, hend.dom rfl, hv.keeps.dom rfl, (State.attemptRecord_journals ..).keeps.dom rfl, (s.shown_keeps 19).dom rfl]
  case everyStep =>
    intro tries last jf s hruns
    exact ⟨⟨_, exec_bootStep tries jf s hruns, State.afterStep_steps ..⟩, ⟨_, exec_bootStepTimeout tries last jf s hruns, State.afterStep_steps ..⟩⟩
  case firstCore =>
    intro jf s hruns hst hskips hboot
    have hready : ((s.shown 5).attemptRecord jf.toNat 5 0 1 (s.shown 5).plainTry).get MGT_FLCTL_BOOTOK ≠ 0 := by
      rw [(State.attemptRecord_journals ..).regs MGT_FLCTL_BOOTOK 0 (by decide), s.get_shown 5 MGT_FLCTL_BOOTOK (by decide)]
      exact hboot
    obtain ⟨v, hv, -, hrun⟩ := s.bootStep_passes jf.toNat (by rw [hst]; decide) (.inl (by omega)) _ (by rw [hst]; exact State.firstCoreWork_eq _ hready)
    rw [hst, v.afterStep_passed 5 0 (by decide) (by decide)] at hrun
    refine ⟨_, (exec_bootStep [] jf s hruns).trans (congrArg Host.Outcome.next hrun), (v.advanced_ends 5).1, ?_⟩
    rw [(v.advanced_keeps 5).core rfl, hv.keeps.core rfl]
    exact State.firstReleased_held _
  case failedImage =>
    intro jf s hruns hst haddr hrecs howner
    exact ⟨_, exec_bootStep [] jf s hruns, s.bootStep_blocked jf.toNat hst hrecs ⟨haddr, howner⟩⟩
  case lostClock =>
    intro tries last jf s hlost
    refine exec_bootStep_idle tries last jf s fun hruns => ?_
    obtain ⟨-, -, -, hclock, -⟩ := State.bootRuns_running hruns
    simp [hlost] at hclock
  case waitsForFlash =>
    intro tries last jf s hbusy hst
    refine exec_bootStep_idle tries last jf s fun hruns => ?_
    obtain ⟨-, -, -, -, hwaits⟩ := State.bootRuns_running hruns
    simp only [State.stepWaits, hbusy, Bool.true_and, List.contains_eq_mem, decide_eq_false_iff_not] at hwaits
    exact hwaits hst
  case notRunning =>
    intro tries last jf s h
    exact exec_bootStep_idle tries last jf s (by simp [h])
  case clear =>
    intro mask jf i s hdormant hbringUp hnojrnl hhist hi
    obtain ⟨hclears, hk⟩ := s.bjClear_clears jf.toNat mask.toNat (by simp [hdormant, hbringUp, hnojrnl])
    refine ⟨_, rfl, ?_, hk⟩
    rw [hclears, Nat.testBit_mod_two_pow, decide_eq_true hi, Bool.true_and, testBit_clearBits _ _ _ hi]
    rfl
  case clearNone => exact fun mask jf s h => congrArg Host.Outcome.next (if_pos h)

end Sys2Proof.Machine
end

section
/-! SUPPORT. The CAN ports (15 R417-R424): what the error counters and a frame that is received or sent write, and the node claim. -/

namespace Sys2Proof.Machine
set_option Elab.async false

/-! ### Management entries -/

@[simp] theorem State.ent_setEnt_self (s : State) (x y v : Nat) : (s.setEnt x y v).ent x y = v := by
  rw [State.ent, State.setEnt, sget_sput, if_pos rfl]

theorem State.ent_setEnt_ne (s : State) (x y x' y' v : Nat) (h : x' * 256 + y' ≠ x * 256 + y) : (s.setEnt x y v).ent x' y' = s.ent x' y' :=
  sget_sput_ne _ _ _ _ _ _ h

theorem State.ent_countEnt_self (s : State) (x y : Nat) : (s.countEnt x y).ent x y = (s.ent x y + 1) % 2 ^ 32 := s.ent_setEnt_self ..

theorem State.ent_countEnt_ne (s : State) (x y x' y' : Nat) (h : x' * 256 + y' ≠ x * 256 + y) : (s.countEnt x y).ent x' y' = s.ent x' y' :=
  s.ent_setEnt_ne _ _ _ _ _ h

theorem Keeps.ent {w : Writes} {s t : State} (h : Keeps w s t) (x y : Nat) (hw : w.ents = false := by rfl) : t.ent x y = s.ent x y := by
  rw [State.ent, State.ent, h.ents hw]

/-! ### The error counters (15 R417) -/

theorem Field.key_ne_of_index (f g : Field) {i j : Nat} (h : i ≠ j) : f.key i ≠ g.key j := by
  unfold Field.key
  omega

/-- The writes of the error counters. -/
def countWrites : Writes := { regs := [.mgt, .lec], fresh := true }

/-- A register that no port's error counters or states write. -/
def Field.offPorts (f : Field) : Bool :=
  decide (f.bank ≠ .lec) && decide (f.id % 65536 ≠ MGT_CAN_TEC.id % 65536) && decide (f.id % 65536 ≠ MGT_CAN_REC.id % 65536) &&
    decide (f.id % 65536 ≠ MGT_CAN_STATE.id % 65536) && decide (f.id % 65536 ≠ MGT_CAN_PASSIVE.id % 65536)

theorem Field.offPorts_iff (f : Field) : f.offPorts = true ↔ f.bank ≠ .lec ∧ f.id % 65536 ≠ MGT_CAN_TEC.id % 65536 ∧
    f.id % 65536 ≠ MGT_CAN_REC.id % 65536 ∧ f.id % 65536 ≠ MGT_CAN_STATE.id % 65536 ∧ f.id % 65536 ≠ MGT_CAN_PASSIVE.id % 65536 := by
  simp [Field.offPorts, and_assoc]

theorem State.get_canLevel (s : State) (p : Nat) (f : Field) (i : Nat) (hf : f.bank ≠ .lec) : (s.canLevel p).get f i = s.get f i :=
  (s.canLevel_keeps p).regs f i (fun h => hf (List.mem_singleton.mp h))

/-- The counters of a port with the passive flag that they raise. -/
def State.canCounted (s : State) (p tec rec : Nat) : State :=
  let t := (s.set MGT_CAN_TEC p tec).set MGT_CAN_REC p rec
  if (decide (127 < tec) || decide (127 < rec)) && t.get MGT_CAN_STATE p == 0 then t.raise MGT_CAN_PASSIVE p else t

theorem State.canErrors_eq (s : State) (p tec rec : Nat) : s.canErrors p tec rec =
    ((s.canCounted p tec rec).set MGT_CAN_STATE p (b2n (decide (127 < tec) || decide (127 < rec)))).canLevel p := rfl

theorem State.canCounted_keeps (s : State) (p tec rec : Nat) : Keeps { regs := [.mgt] } s (s.canCounted p tec rec) := by
  have ht := (s.set_keeps MGT_CAN_TEC p tec).trans (State.set_keeps _ MGT_CAN_REC p rec)
  exact .ite (ht.trans (State.raise_keeps _ MGT_CAN_PASSIVE p)) ht

theorem State.get_canCounted (s : State) (p tec rec : Nat) (f : Field) (i : Nat) (hp : f.id % 65536 ≠ MGT_CAN_PASSIVE.id % 65536) :
    (s.canCounted p tec rec).get f i = ((s.set MGT_CAN_TEC p tec).set MGT_CAN_REC p rec).get f i := by
  unfold State.canCounted
  dsimp only
  split
  · exact State.get_raise_field _ _ _ _ _ hp
  · rfl

theorem State.canErrors_counts (s : State) (p tec rec : Nat) : Keeps countWrites s (s.canErrors p tec rec) := by
  rw [s.canErrors_eq]
  exact (s.canCounted_keeps p tec rec).mono.andThen (State.set_keeps _ MGT_CAN_STATE p _) |>.andThen (State.canLevel_keeps ..)

theorem State.get_canErrors (s : State) (p tec rec : Nat) (f : Field) (i : Nat) (hf : f.offPorts = true) :
    (s.canErrors p tec rec).get f i = s.get f i := by
  obtain ⟨hlec, htec, hrec, hstate, hpassive⟩ := f.offPorts_iff.mp hf
  rw [s.canErrors_eq, State.get_canLevel _ _ _ _ hlec, State.get_set_field _ _ _ _ _ _ hstate, State.get_canCounted _ _ _ _ _ _ hpassive,
    State.get_set_field _ _ _ _ _ _ hrec, State.get_set_field _ _ _ _ _ _ htec]

/-- The counters take their values and the state follows them; the other port's stay. -/
theorem State.canErrors_port (s : State) (p tec rec : Nat) :
    (s.canErrors p tec rec).get MGT_CAN_TEC p = tec % 256 ∧ (s.canErrors p tec rec).get MGT_CAN_REC p = rec % 256 ∧
      (s.canErrors p tec rec).get MGT_CAN_STATE p = (if 127 < tec ∨ 127 < rec then 1 else 0) := by
  rw [s.canErrors_eq]
  simp only [State.get_canLevel _ _ MGT_CAN_TEC _ (by decide), State.get_canLevel _ _ MGT_CAN_REC _ (by decide),
    State.get_canLevel _ _ MGT_CAN_STATE _ (by decide), State.get_set_self, State.get_set_field _ MGT_CAN_STATE MGT_CAN_TEC _ _ _ (by decide),
    State.get_set_field _ MGT_CAN_STATE MGT_CAN_REC _ _ _ (by decide), State.get_canCounted _ _ _ _ MGT_CAN_TEC _ (by decide),
    State.get_canCounted _ _ _ _ MGT_CAN_REC _ (by decide), State.get_set_field _ MGT_CAN_REC MGT_CAN_TEC _ _ _ (by decide)]
  refine ⟨rfl, rfl, ?_⟩
  rw [← Bool.decide_or]
  by_cases h : 127 < tec ∨ 127 < rec <;> simp [h, b2n, MGT_CAN_STATE]

theorem State.get_canErrors_other (s : State) (p q tec rec : Nat) (f : Field) (hf : f.bank ≠ .lec) (hq : q ≠ p)
    (hp : f.id % 65536 ≠ MGT_CAN_PASSIVE.id % 65536) : (s.canErrors p tec rec).get f q = s.get f q := by
  have hset (u : State) (g : Field) (v : Nat) : (u.set g p v).get f q = u.get f q :=
    u.get_set_ne g f p q v (Field.key_ne_of_index f g hq)
  rw [s.canErrors_eq, State.get_canLevel _ _ _ _ hf, hset, State.get_canCounted _ _ _ _ _ _ hp, hset, hset]

/-- A port that was error active turns passive with its flag. -/
theorem State.canErrors_passive (s : State) (p tec rec : Nat) (h : 127 < tec ∨ 127 < rec) (h0 : s.get MGT_CAN_STATE p = 0) :
    (s.canErrors p tec rec).flag MGT_CAN_PASSIVE p = true := by
  have hget : ((s.set MGT_CAN_TEC p tec).set MGT_CAN_REC p rec).get MGT_CAN_STATE p = 0 := by
    rw [State.get_set_field _ _ _ _ _ _ (by decide), State.get_set_field _ _ _ _ _ _ (by decide), h0]
  have hcounted : s.canCounted p tec rec = ((s.set MGT_CAN_TEC p tec).set MGT_CAN_REC p rec).raise MGT_CAN_PASSIVE p :=
    if_pos (by simp [hget, h])
  rw [s.canErrors_eq, hcounted, State.flag, State.get_canLevel _ _ _ _ (by decide), State.get_set_field _ _ _ _ _ _ (by decide)]
  exact State.flag_raise_self _ MGT_CAN_PASSIVE p (by decide)

/-! ### Frames (15 R417-R419) -/

theorem State.canLive_iff (s : State) (p : Nat) : s.canLive p = true ↔ s.domOn 763 = true ∧ s.get MGT_CAN_STATE p ≤ 1 := by
  simp [State.canLive]

theorem State.canLive_of_get {s t : State} (p : Nat) (hd : t.domOn 763 = s.domOn 763) (hg : t.get MGT_CAN_STATE p = s.get MGT_CAN_STATE p) :
    t.canLive p = s.canLive p := by
  rw [State.canLive, State.canLive, hd, hg]

/-- Errors below bus-off leave the ports that take part in traffic in it. -/
theorem State.canLive_canErrors (s : State) (p tec rec q : Nat) (h : s.canLive p = true) : (s.canErrors p tec rec).canLive q = s.canLive q := by
  have hdom := (s.canErrors_counts p tec rec).domOn 763
  by_cases hq : q = p
  · obtain ⟨hd, -⟩ := (s.canLive_iff p).mp h
    rw [hq, h, State.canLive_iff, hdom, (s.canErrors_port p tec rec).2.2]
    exact ⟨hd, by split <;> omega⟩
  · exact State.canLive_of_get q hdom (s.get_canErrors_other p q tec rec MGT_CAN_STATE (by decide) hq (by decide))

/-- What a frame leaves as it was: the ports in traffic, every register but the counters, and the claim. -/
structure State.CanStays (s t : State) : Prop where
  live : ∀ q, t.canLive q = s.canLive q
  regs : ∀ f i, f.offPorts = true → t.get f i = s.get f i
  claim : t.claim = s.claim

theorem State.CanStays.refl (s : State) : s.CanStays s := ⟨fun _ => rfl, fun _ _ _ => rfl, rfl⟩

theorem State.CanStays.trans {s t u : State} (h : s.CanStays t) (k : t.CanStays u) : s.CanStays u :=
  ⟨fun q => (k.live q).trans (h.live q), fun f i hf => (k.regs f i hf).trans (h.regs f i hf), k.claim.trans h.claim⟩

theorem State.CanStays.flag {s t : State} (h : s.CanStays t) (f : Field) (hf : f.offPorts = true) : t.flag f = s.flag f :=
  congrArg (· == 1) (h.regs f 0 hf)

theorem Keeps.canStays {w : Writes} {s t : State} (h : Keeps w s t) (hr : w.regs = [] := by rfl) (hd : w.dom = false := by rfl)
    (hp : w.pins = false := by rfl) (hc : w.claim = false := by rfl) : s.CanStays t :=
  have hget (f : Field) (i : Nat) : t.get f i = s.get f i := h.regs f i (hr ▸ List.not_mem_nil)
  ⟨fun q => State.canLive_of_get q (h.domOn 763 hd hp) (hget _ q), fun f i _ => hget f i, h.claim hc⟩

theorem State.canErrors_canStays (s : State) (p tec rec : Nat) (h : s.canLive p = true) : s.CanStays (s.canErrors p tec rec) :=
  ⟨fun q => s.canLive_canErrors p tec rec q h, fun f i hf => s.get_canErrors p tec rec f i hf, (s.canErrors_counts p tec rec).claim rfl⟩

/-- The writes of a received frame. -/
def gotWrites : Writes := { regs := [.mgt, .lec], fresh := true, ents := true, free := true }

/-- A received frame is counted, and its port's counters change below bus-off. -/
theorem State.canGot_got (s : State) (p : Nat) (h : s.canLive p = true) : s.CanStays (s.canGot p) ∧ Keeps gotWrites s (s.canGot p) ∧
    (s.canGot p).ent (0x1101 + p) 5 = (s.ent (0x1101 + p) 5 + 1) % 2 ^ 32 := by
  have hcount := s.countEnt_keeps (0x1101 + p) 5
  have hent := s.ent_countEnt_self (0x1101 + p) 5
  have hfresh := (s.countEnt (0x1101 + p) 5).fresh_keeps
  have hlive := (hcount.canStays.live p).trans h
  have hlive' := (hfresh.canStays.live p).trans hlive
  unfold State.canGot
  extract_lets c r
  split
  · exact ⟨hcount.canStays, hcount.mono, hent⟩
  split
  · exact ⟨hcount.canStays.trans (c.canErrors_canStays _ _ _ hlive), hcount.mono.andThen (c.canErrors_counts ..),
      ((c.canErrors_counts ..).ent _ _).trans hent⟩
  · exact ⟨hcount.canStays.trans (hfresh.canStays.trans (State.canErrors_canStays _ _ _ _ hlive')),
      hcount.mono.andThen hfresh |>.andThen (State.canErrors_counts ..), ((State.canErrors_counts ..).ent _ _).trans ((hfresh.ent _ _).trans hent)⟩

theorem State.ent_canGot (s : State) (p x y : Nat) (h : x * 256 + y ≠ (0x1101 + p) * 256 + 5) : (s.canGot p).ent x y = s.ent x y := by
  have hent := s.ent_countEnt_ne (0x1101 + p) 5 x y h
  unfold State.canGot
  extract_lets c r
  split
  · exact hent
  split
  · exact ((c.canErrors_counts ..).ent _ _).trans hent
  · exact ((State.canErrors_counts ..).ent _ _).trans ((c.fresh_keeps.ent _ _).trans hent)

/-- TEC stays, REC falls by one, or to 119 to 127 (log 90). -/
theorem State.canGot_counters (s : State) (p : Nat) : (s.canGot p).get MGT_CAN_TEC p % 256 = s.get MGT_CAN_TEC p % 256 ∧
    (if s.get MGT_CAN_REC p ≤ 127 then (s.canGot p).get MGT_CAN_REC p = s.get MGT_CAN_REC p - 1
     else 119 ≤ (s.canGot p).get MGT_CAN_REC p ∧ (s.canGot p).get MGT_CAN_REC p ≤ 127) := by
  have hget (f : Field) : (s.countEnt (0x1101 + p) 5).get f p = s.get f p := (s.countEnt_keeps (0x1101 + p) 5).regs f p List.not_mem_nil
  unfold State.canGot
  extract_lets c r
  have hr : r = s.get MGT_CAN_REC p := hget _
  rw [← hr]
  split
  case isTrue h0 =>
    rw [hget, hget, ← hr, h0]
    exact ⟨rfl, rfl⟩
  split
  case isTrue h127 =>
    obtain ⟨htec, hrec, -⟩ := c.canErrors_port p (c.get MGT_CAN_TEC p) (r - 1)
    rw [htec, hrec, hget, Nat.mod_mod]
    exact ⟨rfl, Nat.mod_eq_of_lt (by omega)⟩
  case isFalse h127 =>
    obtain ⟨htec, hrec, -⟩ := c.fresh.2.canErrors_port p (c.fresh.2.get MGT_CAN_TEC p) (119 + c.fresh.1.toNat % 9)
    rw [htec, hrec, c.fresh_keeps.regs _ _ List.not_mem_nil, hget, Nat.mod_mod]
    exact ⟨rfl, by omega⟩

/-- The writes of a frame that is sent. -/
def sentWrites : Writes := { regs := [.mgt, .lec], fresh := true, ents := true, out := true }

/-- A frame as port p sends it, at the rates that took effect last. -/
def State.canMsg (s : State) (p code node : Nat) (data : List Nat) : OutMsg :=
  .can p s.claim.arbRate s.claim.dataRate ((code * 128 + node % 128) :: canPad data)

/-- Data of a CAN FD length needs no padding. -/
theorem canPad_of_length (l : List Nat) (h : canLength l.length = l.length) : canPad l = l := by simp [canPad, h]

theorem State.canSend_off (s : State) (p code node : Nat) (data : List Nat) (h : s.canLive p = false) : s.canSend p code node data = s :=
  if_neg (by simp [h])

/-- TEC as a frame that is about to leave on port p makes it. -/
def State.eased (s : State) (p : Nat) : State := if s.get MGT_CAN_TEC p = 0 then s else s.canErrors p (s.get MGT_CAN_TEC p - 1) (s.get MGT_CAN_REC p)

theorem State.eased_eases (s : State) (p : Nat) (h : s.canLive p = true) : s.CanStays (s.eased p) ∧ Keeps countWrites s (s.eased p) := by
  unfold State.eased
  split
  · exact ⟨.refl s, .refl _ s⟩
  · exact ⟨s.canErrors_canStays _ _ _ h, s.canErrors_counts ..⟩

theorem State.canSend_live (s : State) (p code node : Nat) (data : List Nat) (h : s.canLive p = true) :
    s.canSend p code node data = ((s.eased p).countEnt (0x1101 + p) 6).canFrame p code node data := if_pos h

theorem State.canSend_sends (s : State) (p code node : Nat) (data : List Nat) (h : s.canLive p = true) :
    (s.canSend p code node data).out = s.out ++ [s.canMsg p code node data] ∧
      (s.canSend p code node data).ent (0x1101 + p) 6 = (s.ent (0x1101 + p) 6 + 1) % 2 ^ 32 := by
  obtain ⟨hstays, hk⟩ := s.eased_eases p h
  have hcount := (s.eased p).countEnt_keeps (0x1101 + p) 6
  have hclaim : ((s.eased p).countEnt (0x1101 + p) 6).claim = s.claim := (hcount.claim rfl).trans hstays.claim
  rw [s.canSend_live p code node data h]
  refine ⟨?_, ((State.emit_keeps _ _).ent _ _).trans ((State.ent_countEnt_self ..).trans (by rw [hk.ent]))⟩
  show ((s.eased p).countEnt (0x1101 + p) 6).out ++ [_] = _
  rw [hclaim, hcount.out rfl, hk.out rfl]
  rfl

/-- What a frame that is sent leaves as it was, on whatever port. -/
theorem State.canSend_stays (s : State) (p code node : Nat) (data : List Nat) : s.CanStays (s.canSend p code node data) ∧
    Keeps sentWrites s (s.canSend p code node data) ∧
      ∀ x y, x * 256 + y ≠ (0x1101 + p) * 256 + 6 → (s.canSend p code node data).ent x y = s.ent x y := by
  cases h : s.canLive p with
  | false =>
    rw [s.canSend_off p code node data h]
    exact ⟨.refl s, .refl _ s, fun _ _ _ => rfl⟩
  | true =>
    obtain ⟨hstays, hk⟩ := s.eased_eases p h
    have hcount := (s.eased p).countEnt_keeps (0x1101 + p) 6
    have hemit := ((s.eased p).countEnt (0x1101 + p) 6).emit_keeps
      (.can p ((s.eased p).countEnt (0x1101 + p) 6).claim.arbRate ((s.eased p).countEnt (0x1101 + p) 6).claim.dataRate ((code * 128 + node % 128) :: canPad data))
    rw [s.canSend_live p code node data h]
    exact ⟨hstays.trans (hcount.canStays.trans hemit.canStays), hk.mono.andThen hcount |>.andThen hemit,
      fun x y hxy => (hemit.ent x y).trans ((State.ent_countEnt_ne _ _ _ _ _ hxy).trans (hk.ent x y))⟩

theorem State.CanStays.canMsg {s t : State} (h : s.CanStays t) (p code node : Nat) (data : List Nat) :
    t.canMsg p code node data = s.canMsg p code node data := by
  rw [State.canMsg, State.canMsg, h.claim]

/-- A message that is out stays out while other frames leave. -/
theorem State.mem_out_canSend (s : State) (p code node : Nat) (data : List Nat) (m : OutMsg) (h : m ∈ s.out) :
    m ∈ (s.canSend p code node data).out := by
  cases hp : s.canLive p with
  | false => rwa [s.canSend_off p code node data hp]
  | true =>
    rw [(s.canSend_sends p code node data hp).1]
    exact List.mem_append_left _ h

theorem State.canSendAll_stays (s : State) (code node : Nat) (data : List Nat) :
    s.CanStays (s.canSendAll code node data) ∧ Keeps sentWrites s (s.canSendAll code node data) ∧
      ∀ p y, y < 256 → y ≠ 6 → (s.canSendAll code node data).ent p y = s.ent p y := by
  obtain ⟨h0, k0, e0⟩ := s.canSend_stays 0 code node data
  obtain ⟨h1, k1, e1⟩ := (s.canSend 0 code node data).canSend_stays 1 code node data
  exact ⟨h0.trans h1, k0.trans k1, fun p y hy h6 => (e1 p y (by omega)).trans (e0 p y (by omega))⟩

/-- A frame for every port leaves on each that takes part in traffic. -/
theorem State.canMsg_mem_canSendAll (s : State) (p : Nat) (hp : p < 2) (code node : Nat) (data : List Nat) (h : s.canLive p = true) :
    s.canMsg p code node data ∈ (s.canSendAll code node data).out := by
  obtain ⟨hstays, -⟩ := s.canSend_stays 0 code node data
  obtain rfl | rfl : p = 0 ∨ p = 1 := by omega
  · refine (s.canSend 0 code node data).mem_out_canSend 1 code node data (s.canMsg 0 code node data) ?_
    rw [(s.canSend_sends 0 code node data h).1]
    exact List.mem_append_right _ (List.mem_singleton_self _)
  · show s.canMsg 1 code node data ∈ ((s.canSend 0 code node data).canSend 1 code node data).out
    rw [((s.canSend 0 code node data).canSend_sends 1 code node data ((hstays.live 1).trans h)).1, hstays.canMsg]
    exact List.mem_append_right _ (List.mem_singleton_self _)

theorem State.canSendAll_off (s : State) (code node : Nat) (data : List Nat) (h : s.canLive 0 = false ∧ s.canLive 1 = false) :
    s.canSendAll code node data = s := by
  rw [State.canSendAll, s.canSend_off 0 code node data h.1, s.canSend_off 1 code node data h.2]

/-! ### The heartbeat (15 R420) -/

/-- The claim's data change. -/
def State.withClaim (s : State) (c : ClaimSt) : State := { s with claim := c }

theorem State.withClaim_keeps (s : State) (c : ClaimSt) : Keeps { claim := true } s (s.withClaim c) := { Keeps.refl _ s with claim := nofun }

/-- The frames of a heartbeat are out, and its count goes on. -/
def State.beaten (s : State) : State :=
  (s.canSendAll 0xE (s.get MGT_STAT_NODE) s.beatBytes).withClaim { s.claim with beats := (s.claim.beats + 1) % 2 ^ 32 }

theorem State.heartbeat_beaten (s : State) (hnode : s.get MGT_STAT_NODE ≠ 0) (hm : s.mode ≠ .dormant) (hlive : s.canLive 0 = true ∨ s.canLive 1 = true) :
    s.heartbeat = s.beaten := by
  have hclaim := (s.canSendAll_stays 0xE (s.get MGT_STAT_NODE) s.beatBytes).1.claim
  unfold State.heartbeat
  rw [if_neg (by simp [hnode, hm])]
  dsimp only
  rw [if_pos (by simpa using hlive), hclaim]
  rfl

theorem State.heartbeat_none (s : State) (h : s.get MGT_STAT_NODE = 0 ∨ s.mode = .dormant ∨ (s.canLive 0 = false ∧ s.canLive 1 = false)) :
    s.heartbeat = s := by
  unfold State.heartbeat
  split
  · rfl
  case isFalse hnot =>
    rw [not_or] at hnot
    have hoff := (h.resolve_left hnot.1).resolve_left hnot.2
    rw [s.canSendAll_off _ _ _ hoff]
    simp [hoff]

/-- The writes of a heartbeat. -/
def beatWrites : Writes := { sentWrites with claim := true }

/-- A heartbeat leaves the ports in traffic, the registers but their counters, and the candidate. -/
theorem State.heartbeat_stays (s : State) : (∀ q, s.heartbeat.canLive q = s.canLive q) ∧ (∀ f i, f.offPorts = true → s.heartbeat.get f i = s.get f i) ∧
    Keeps beatWrites s s.heartbeat ∧ s.heartbeat.claim.dynamic = s.claim.dynamic ∧ s.heartbeat.claim.candidate = s.claim.candidate := by
  by_cases h : s.get MGT_STAT_NODE = 0 ∨ s.mode = .dormant ∨ (s.canLive 0 = false ∧ s.canLive 1 = false)
  · rw [s.heartbeat_none h]
    exact ⟨fun _ => rfl, fun _ _ _ => rfl, .refl _ s, rfl, rfl⟩
  · simp only [not_or, not_and_or, Bool.not_eq_false] at h
    obtain ⟨hnode, hm, hlive⟩ := h
    obtain ⟨hstays, hk, -⟩ := s.canSendAll_stays 0xE (s.get MGT_STAT_NODE) s.beatBytes
    rw [s.heartbeat_beaten hnode hm hlive]
    exact ⟨hstays.live, hstays.regs, hk.mono.andThen (State.withClaim_keeps ..), rfl, rfl⟩

/-! ### The node claim (15 R422, R423) -/

theorem keyBytes_length (k : Nat) : (keyBytes k).length = 8 := by rw [keyBytes, List.length_reverse, leBytes_length]

/-- A CLAIM as port p sends it. -/
theorem State.canMsg_claim (s : State) (p node k : Nat) (h : node < 128) :
    s.canMsg p 2 node (keyBytes k) = .can p s.claim.arbRate s.claim.dataRate ((2 * 128 + node) :: (leBytes 8 k).reverse) := by
  rw [State.canMsg, canPad_of_length _ (by rw [keyBytes_length]; rfl), Nat.mod_eq_of_lt h, keyBytes]

/-- The claim goes on with the next candidate. -/
def State.nextCandidate (s : State) : State := s.withClaim { s.claim with candidate := s.claim.candidate % 126 + 1, retries := 0 }

/-- A conflict is answered with a CLAIM for the next candidate on every port that takes part in traffic. -/
theorem State.claimConflict_claims (s : State) :
    s.claimConflict.claim = { s.claim with candidate := s.claim.candidate % 126 + 1, retries := 0 } ∧
      Keeps beatWrites s s.claimConflict ∧ (∀ p y, y < 256 → y ≠ 6 → s.claimConflict.ent p y = s.ent p y) ∧
      ∀ p, p < 2 → s.canLive p = true →
        .can p s.claim.arbRate s.claim.dataRate ((2 * 128 + (s.claim.candidate % 126 + 1)) :: (leBytes 8 Config.serial.toNat).reverse) ∈
          s.claimConflict.out := by
  have hnext := s.withClaim_keeps { s.claim with candidate := s.claim.candidate % 126 + 1, retries := 0 }
  obtain ⟨hstays, hk, hents⟩ := s.nextCandidate.canSendAll_stays 2 s.nextCandidate.claim.candidate (keyBytes Config.serial.toNat)
  refine ⟨hstays.claim, hnext.mono.andThen hk, fun p y hy h6 => (hents p y hy h6).trans (hnext.ent p y), fun p hp hlive => ?_⟩
  have hsent := s.nextCandidate.canMsg_mem_canSendAll p hp 2 s.nextCandidate.claim.candidate (keyBytes Config.serial.toNat) hlive
  rw [State.canMsg_claim _ _ _ _ (by show s.claim.candidate % 126 + 1 < 128; omega)] at hsent
  exact hsent

theorem State.takeClaim_lost (s : State) (node key : Nat) (hc : s.flag MGT_STAT_CLAIMING = true) (hn : node = s.claim.candidate) (hk : key < Config.serial.toNat) :
    s.takeClaim node key = s.claimConflict := (if_pos hc).trans (if_pos ⟨hn, hk⟩)

theorem State.takeClaim_kept (s : State) (node key : Nat) (hc : s.flag MGT_STAT_CLAIMING = true) (h : node ≠ s.claim.candidate ∨ Config.serial.toNat ≤ key) :
    s.takeClaim node key = s := (if_pos hc).trans (if_neg (fun hlost => by rcases h with h | h <;> omega))

theorem State.takeClaim_defended (s : State) (node key : Nat) (hc : s.flag MGT_STAT_CLAIMING = false) (hn : node = s.get MGT_STAT_NODE) (h0 : node ≠ 0) :
    s.takeClaim node key = s.canSendAll 2 node (keyBytes (if s.claim.dynamic then Config.serial.toNat else 0)) :=
  (if_neg (by simp [hc])).trans (if_pos ⟨hn, h0⟩)

theorem exec_claim (p : Fin 2) (node : BitVec 7) (key : Word) (s : State) (h : s.canLive p.val = true) :
    exec (.claim p node key) s = .next ((s.canGot p.val).takeClaim node.toNat key.toNat) := if_pos h

theorem exec_canBusError (p : Fin 2) (sender claim : Bool) (kind : CanError) (s : State) (h : s.canLive p.val = true) :
    exec (.canBusError p sender kind claim) s = .next (if claim && sender && (s.canCount p.val sender kind).flag MGT_STAT_CLAIMING then
        (if kind = .noAck then (if (s.canCount p.val sender kind).canLive p.val then (s.canCount p.val sender kind).claimAgain p.val
          else s.canCount p.val sender kind) else (s.canCount p.val sender kind).claimConflict) else s.canCount p.val sender kind) := if_pos h

theorem exec_heartbeatReceived (p : Fin 2) (node : BitVec 7) (s : State) (h : s.canLive p.val = true) :
    exec (.heartbeatReceived p node) s =
      if (s.canGot p.val).flag MGT_STAT_CLAIMING && node.toNat == (s.canGot p.val).claim.candidate then .next (s.canGot p.val).claimConflict
      else if (s.canGot p.val).get MGT_STAT_NODE = node.toNat ∧ node ≠ 0 then .next ((s.canGot p.val).raise MGT_STAT_NODEDUP)
      else .next (s.canGot p.val) := if_pos h

/-! ### Error states (15 R417, R418, R424) -/

/-- An error of the sender: bus-off, or its counter. -/
theorem State.canCount_sent (s : State) (p : Nat) (kind : CanError) : s.canCount p true kind =
    if 255 < s.get MGT_CAN_TEC p + s.canErrorStep p true kind then s.enterBusOff p
    else s.canErrors p (s.get MGT_CAN_TEC p + s.canErrorStep p true kind) (s.get MGT_CAN_REC p) := rfl

theorem State.canErrorStep_le (s : State) (p : Nat) (kind : CanError) : s.canErrorStep p true kind ≤ 8 := by
  unfold State.canErrorStep
  split <;> split <;> omega

/-- An error of the sender that leaves the port in traffic. -/
theorem State.canCount_sender (s : State) (p : Nat) (kind : CanError) (h : s.get MGT_CAN_TEC p + s.canErrorStep p true kind ≤ 255) :
    s.canCount p true kind = s.canErrors p (s.get MGT_CAN_TEC p + s.canErrorStep p true kind) (s.get MGT_CAN_REC p) :=
  (s.canCount_sent p kind).trans (if_neg (by omega))

theorem State.canCount_busOff (s : State) (p : Nat) (kind : CanError) (h : 255 < s.get MGT_CAN_TEC p + s.canErrorStep p true kind) :
    s.canCount p true kind = s.enterBusOff p := (s.canCount_sent p kind).trans (if_pos h)

/-- A register of the management block that a change of readiness does not write. -/
theorem State.get_disarm (s : State) (f : Field) (i : Nat) (h : f.id % 65536 ≠ MGT_MODE_ARMED.id % 65536) : s.disarm.get f i = s.get f i := by
  unfold State.disarm
  split
  · exact ((State.sendPstat_keeps _).regs f i List.not_mem_nil).trans (s.get_lower_field MGT_MODE_ARMED f 0 i h)
  · rfl

theorem State.get_mgt_setReady (s : State) (k : Nat) (b : Bool) (f : Field) (i : Nat) (hf : f.bank = .mgt) (h : f.id % 65536 ≠ MGT_MODE_ARMED.id % 65536) :
    (s.setReady k b).get f i = s.get f i := by
  unfold State.setReady
  split
  · rfl
  extract_lets u o t
  have ht : t.get f i = s.get f i := by
    rw [(State.lecSample_keeps _ _ _).regs f i (by rw [hf]; decide)]
    exact (State.setBits_keeps u BJ_RDYEV_CHG 0 (2 ^ o)).regs f i (by rw [hf]; decide)
  split
  · rw [(State.refuse_keeps _ _ _).regs f i List.not_mem_nil, State.get_disarm _ _ _ h, ht]
  · exact ht

theorem State.canReadyAll_keeps (s : State) : Keeps readyWrites s s.canReadyAll := (State.setReady_keeps ..).trans (State.setReady_keeps ..)

/-- The port leaves traffic, its transport is empty, and its entry counts. -/
def State.offBus (s : State) (p : Nat) : State :=
  (((s.set MGT_CAN_STATE p 2).raise MGT_CAN_BUSOFF p).countEnt (0x1101 + p) 4).setXport (32 + p) XportSt.idle

theorem State.enterBusOff_eq (s : State) (p : Nat) : s.enterBusOff p = ((s.offBus p).canLevel p).canReady p := rfl

theorem State.offBus_off (s : State) (p : Nat) : (s.offBus p).get MGT_CAN_STATE p = 2 ∧ (s.offBus p).flag MGT_CAN_BUSOFF p = true ∧
    (s.offBus p).xport (32 + p) = XportSt.idle ∧ (s.offBus p).ent (0x1101 + p) 4 = (s.ent (0x1101 + p) 4 + 1) % 2 ^ 32 ∧
    Keeps { regs := [.mgt], ents := true, xports := true } s (s.offBus p) := by
  have hset := s.set_keeps MGT_CAN_STATE p 2
  have hraise := (s.set MGT_CAN_STATE p 2).raise_keeps MGT_CAN_BUSOFF p
  have hcount := ((s.set MGT_CAN_STATE p 2).raise MGT_CAN_BUSOFF p).countEnt_keeps (0x1101 + p) 4
  have hx := (((s.set MGT_CAN_STATE p 2).raise MGT_CAN_BUSOFF p).countEnt (0x1101 + p) 4).setXport_keeps (32 + p) XportSt.idle
  refine ⟨?_, ?_, State.xport_setXport_self .., ?_, hset.mono.andThen hraise |>.andThen hcount |>.andThen hx⟩
  · exact (State.get_raise_field _ MGT_CAN_BUSOFF MGT_CAN_STATE _ _ (by decide)).trans (State.get_set_self ..)
  · exact State.flag_raise_self _ MGT_CAN_BUSOFF p (by decide)
  · rw [State.offBus, hx.ent, State.ent_countEnt_self, hraise.ent, hset.ent]

theorem State.enterBusOff_enters (s : State) (p : Nat) : (s.enterBusOff p).get MGT_CAN_STATE p = 2 ∧ (s.enterBusOff p).flag MGT_CAN_BUSOFF p = true ∧
    (s.enterBusOff p).xport (32 + p) = XportSt.idle ∧ (s.enterBusOff p).ready (6 * 1024 + 1 + p) = false ∧
    (s.enterBusOff p).ent (0x1101 + p) 4 = (s.ent (0x1101 + p) 4 + 1) % 2 ^ 32 ∧ (s.enterBusOff p).claim = s.claim := by
  obtain ⟨hstate, hoff, hidle, hent, hk⟩ := s.offBus_off p
  have hlevel := (s.offBus p).canLevel_keeps p
  have hready := ((s.offBus p).canLevel p).setReady_keeps (6 * 1024 + 1 + p) (((s.offBus p).canLevel p).canLive p && ((s.offBus p).canLevel p).get MGT_STAT_NODE != 0)
  have hget (f : Field) (hf : f.bank = .mgt) (ha : f.id % 65536 ≠ MGT_MODE_ARMED.id % 65536) : (s.enterBusOff p).get f p = (s.offBus p).get f p :=
    (State.get_mgt_setReady _ _ _ f p hf ha).trans (State.get_canLevel _ _ _ _ (by rw [hf]; decide))
  have hnot : ((s.offBus p).canLevel p).canLive p = false := by
    rw [State.canLive, State.get_canLevel _ _ _ _ (by decide), hstate]
    exact Bool.and_false _
  rw [State.flag, hget _ rfl (by decide), hget _ rfl (by decide), s.enterBusOff_eq, State.canReady]
  refine ⟨hstate, hoff, ?_, ?_, ?_, ?_⟩
  · rw [hready.xport rfl, hlevel.xport rfl, hidle]
  · rw [State.ready_setReady, hnot, Bool.false_and]
  · rw [hready.ent, hlevel.ent, hent]
  · rw [hready.claim rfl, hlevel.claim rfl, hk.claim rfl]

theorem State.claimAgain_sends (s : State) (p : Nat) (h : s.claim.retries < 16) :
    (s.claimAgain p).claim = { s.claim with retries := s.claim.retries + 1 } ∧ (s.claimAgain p).out = s.out ++
      [.can p s.claim.arbRate s.claim.dataRate ((2 * 128 + s.claim.candidate % 128) :: (leBytes 8 Config.serial.toNat).reverse)] := by
  rw [State.claimAgain, if_pos h]
  refine ⟨rfl, congrArg (fun l => s.out ++ [OutMsg.can p s.claim.arbRate s.claim.dataRate ((2 * 128 + s.claim.candidate % 128) :: l)]) ?_⟩
  exact canPad_of_length _ (by rw [keyBytes_length]; rfl)

theorem State.claimAgain_stops (s : State) (p : Nat) (h : 16 ≤ s.claim.retries) : s.claimAgain p = s := if_neg (by omega)

/-- An error of the sender leaves the claim as it was; below bus-off it sends nothing. -/
theorem State.canCount_claim (s : State) (p : Nat) (kind : CanError) : (s.canCount p true kind).claim = s.claim ∧
    (s.get MGT_CAN_TEC p ≤ 247 → (s.canCount p true kind).out = s.out) := by
  rw [s.canCount_sent]
  have hstep := s.canErrorStep_le p kind
  split
  · exact ⟨(s.enterBusOff_enters p).2.2.2.2.2, fun h => by omega⟩
  · exact ⟨(s.canErrors_counts ..).claim rfl, fun _ => (s.canErrors_counts ..).out rfl⟩

/-- A port without errors sends a frame and counts it, and nothing else changes. -/
theorem State.canSend_keeps_of_rest (s : State) (p code node : Nat) (data : List Nat) (h : s.canLive p = true) (ht : s.get MGT_CAN_TEC p = 0) :
    Keeps { ents := true, out := true } s (s.canSend p code node data) := by
  rw [s.canSend_live p code node data h, show s.eased p = s from if_pos ht]
  exact (s.countEnt_keeps ..).mono.andThen (State.emit_keeps ..)

theorem State.beatBytes_length (s : State) : s.beatBytes.length = 16 := by
  simp [State.beatBytes, leBytes_length]

/-- A node number becomes effective: the number is shown, and the claim is over. -/
def State.numbered (s : State) (node : Nat) (dynamic : Bool) : State :=
  ((s.set MGT_STAT_NODE 0 node).lower MGT_STAT_CLAIMING).withClaim { s.claim with dynamic := dynamic, beats := 0 }

theorem State.nodeEffective_effective (s : State) (node : Nat) (dynamic : Bool) :
    (s.nodeEffective node dynamic).get MGT_STAT_NODE = node % 2 ^ MGT_STAT_NODE.width ∧
      (s.nodeEffective node dynamic).flag MGT_STAT_CLAIMING = false ∧ (s.nodeEffective node dynamic).claim.dynamic = dynamic ∧
      (s.nodeEffective node dynamic).claim.candidate = s.claim.candidate := by
  obtain ⟨-, hregs, -, hdynamic, hcandidate⟩ := (s.numbered node dynamic).heartbeat_stays
  have hclaim := (s.numbered node dynamic).heartbeat.canReadyAll_keeps.claim rfl
  have hget (f : Field) (hf : f.bank = .mgt) (hp : f.offPorts = true) (ha : f.id % 65536 ≠ MGT_MODE_ARMED.id % 65536) :
      (s.nodeEffective node dynamic).get f = (s.numbered node dynamic).get f :=
    (State.get_mgt_setReady _ _ _ f 0 hf ha).trans ((State.get_mgt_setReady _ _ _ f 0 hf ha).trans (hregs f 0 hp))
  refine ⟨(hget MGT_STAT_NODE rfl rfl (by decide)).trans ?_, (congrArg (· == 1) (hget MGT_STAT_CLAIMING rfl rfl (by decide))).trans ?_, ?_, ?_⟩
  · exact (State.get_lower_field _ MGT_STAT_CLAIMING MGT_STAT_NODE 0 0 (by decide)).trans (State.get_set_self ..)
  · exact State.flag_lower_self (s.set MGT_STAT_NODE 0 node) MGT_STAT_CLAIMING 0 rfl
  · exact (congrArg ClaimSt.dynamic hclaim).trans hdynamic
  · exact (congrArg ClaimSt.candidate hclaim).trans hcandidate

/-- A counter at 0 stays there while frames leave. -/
theorem State.canSend_rest (s : State) (p q code node : Nat) (data : List Nat) (f : Field) (hf : f.bank ≠ .lec) (hid : f.id % 65536 ≠ MGT_CAN_PASSIVE.id % 65536)
    (ht : s.get MGT_CAN_TEC p = 0) : (s.canSend q code node data).get f p = s.get f p := by
  cases hq : s.canLive q with
  | false => rw [s.canSend_off q code node data hq]
  | true =>
    have hframe (t : State) : ((t.countEnt (0x1101 + q) 6).canFrame q code node data).get f p = t.get f p := rfl
    rw [s.canSend_live q code node data hq, hframe]
    unfold State.eased
    split
    · rfl
    case isFalse hne =>
      exact s.get_canErrors_other q p _ _ f hf (fun hpq => hne (hpq ▸ ht)) hid

/-- A port in traffic with its counters at 0 keeps them over a heartbeat. -/
theorem State.heartbeat_rest (s : State) (p : Nat) (f : Field) (hf : f.bank ≠ .lec) (hid : f.id % 65536 ≠ MGT_CAN_PASSIVE.id % 65536)
    (ht : s.get MGT_CAN_TEC p = 0) : s.heartbeat.get f p = s.get f p := by
  have hall (code node : Nat) (data : List Nat) : (s.canSendAll code node data).get f p = s.get f p := by
    have hzero : (s.canSend 0 code node data).get MGT_CAN_TEC p = 0 := (s.canSend_rest p 0 code node data _ (by decide) (by decide) ht).trans ht
    exact ((s.canSend 0 code node data).canSend_rest p 1 code node data f hf hid hzero).trans (s.canSend_rest p 0 code node data f hf hid ht)
  unfold State.heartbeat
  split
  · rfl
  · dsimp only
    split
    · exact hall ..
    · exact hall ..

/-- Settles O54. A frame received or sent changes, beside its counters, only the error counters of its port, which stays in traffic; a conflict sends
the next CLAIM on every port in traffic; a TEC above 255 is bus-off. -/
theorem nodeOnCan : Obligations.NodeOnCan := by
  unfold Obligations.NodeOnCan
  refine ⟨?heartbeat, ?heartbeatNone, ?claimLost, ?claimKept, ?claimDefended, ?claimOff, ?timeout, ?timeoutNone, ?received, ?receivedConflict,
    ?receivedOther, ?receivedOff, ?receiveCounters, ?busOff, ?busOffNone, ?recovery, ?recoveryNone, ?senderError, ?receiverError, ?errorBusOff,
    ?notAcknowledged, ?givenUp, ?bitError, ?errorOff, ?ignored⟩
  case heartbeat =>
    intro f s hperiod hnode hm h0 h1 ht0 ht1 hf
    have hmsg (p : Nat) : s.canMsg p 0xE (s.get MGT_STAT_NODE) s.beatBytes = .can p s.claim.arbRate s.claim.dataRate f := by
      rw [State.canMsg, canPad_of_length _ (by rw [s.beatBytes_length]; rfl), hf]
      rfl
    obtain ⟨hstays, -, hents0⟩ := s.canSend_stays 0 0xE (s.get MGT_STAT_NODE) s.beatBytes
    obtain ⟨hout0, hcount0⟩ := s.canSend_sends 0 0xE (s.get MGT_STAT_NODE) s.beatBytes h0
    have hkeeps0 := s.canSend_keeps_of_rest 0 0xE (s.get MGT_STAT_NODE) s.beatBytes h0 ht0
    have hlive1 := (hstays.live 1).trans h1
    have ht1' := (hkeeps0.regs MGT_CAN_TEC 1 List.not_mem_nil).trans ht1
    obtain ⟨-, -, hents1⟩ := (s.canSend 0 0xE (s.get MGT_STAT_NODE) s.beatBytes).canSend_stays 1 0xE (s.get MGT_STAT_NODE) s.beatBytes
    obtain ⟨hout1, hcount1⟩ := (s.canSend 0 0xE (s.get MGT_STAT_NODE) s.beatBytes).canSend_sends 1 0xE (s.get MGT_STAT_NODE) s.beatBytes hlive1
    have hkeeps1 := (s.canSend 0 0xE (s.get MGT_STAT_NODE) s.beatBytes).canSend_keeps_of_rest 1 0xE (s.get MGT_STAT_NODE) s.beatBytes hlive1 ht1'
    have hwith := (s.canSendAll 0xE (s.get MGT_STAT_NODE) s.beatBytes).withClaim_keeps { s.claim with beats := (s.claim.beats + 1) % 2 ^ 32 }
    refine ⟨s.beaten, (if_neg hperiod).trans (congrArg Host.Outcome.next (s.heartbeat_beaten hnode hm (.inl h0))), ?_, rfl, ?_, ?_,
      hkeeps0.mono.andThen hkeeps1 |>.andThen hwith⟩
    · refine (hwith.out rfl).trans (hout1.trans ?_)
      rw [hout0, hstays.canMsg, hmsg, hmsg, List.append_assoc]
      rfl
    · exact (hwith.ent _ _).trans ((hents1 0x1101 6 (by decide)).trans hcount0)
    · refine (hwith.ent _ _).trans (hcount1.trans ?_)
      rw [hents0 _ _ (by decide)]
  case heartbeatNone =>
    intro s h
    by_cases hperiod : s.ent 0x1100 5 = 0
    · exact if_pos hperiod
    · exact (if_neg hperiod).trans (congrArg Host.Outcome.next (s.heartbeat_none (h.resolve_left hperiod)))
  case claimLost =>
    intro p node key s hlive hclaiming hnode
    obtain ⟨hstays, hgot, hent⟩ := s.canGot_got p.val hlive
    refine ⟨_, exec_claim p node key s hlive, ?_⟩
    by_cases hkey : key.toNat < Config.serial.toNat
    · obtain ⟨hclaim, hk, hents, -⟩ := (s.canGot p.val).claimConflict_claims
      rw [State.takeClaim_lost _ _ _ ((hstays.flag MGT_STAT_CLAIMING rfl).trans hclaiming) (by rw [hstays.claim, hnode]) hkey, if_pos hkey]
      exact ⟨by rw [hclaim, hstays.claim], (hents _ 5 (by decide) (by decide)).trans hent, hgot.mono.andThen hk, fun h => by omega⟩
    · rw [State.takeClaim_kept _ _ _ ((hstays.flag MGT_STAT_CLAIMING rfl).trans hclaiming) (.inr (by omega)), if_neg hkey]
      exact ⟨hstays.claim, hent, hgot.mono, fun _ => hgot.out rfl⟩
  case claimKept =>
    intro p node key s hlive hclaiming hnode
    obtain ⟨hstays, hgot, hent⟩ := s.canGot_got p.val hlive
    refine ⟨_, exec_claim p node key s hlive, ?_⟩
    rw [State.takeClaim_kept _ _ _ ((hstays.flag MGT_STAT_CLAIMING rfl).trans hclaiming) (.inl (by rwa [hstays.claim]))]
    exact ⟨hent, hgot.mono⟩
  case claimDefended =>
    intro p node key s hlive hclaiming hnode h0
    obtain ⟨hstays, hgot, hent⟩ := s.canGot_got p.val hlive
    refine ⟨_, exec_claim p node key s hlive, ?_⟩
    rw [State.takeClaim_defended _ _ _ ((hstays.flag MGT_STAT_CLAIMING rfl).trans hclaiming) (by rw [hstays.regs MGT_STAT_NODE 0 rfl, hnode])
      (fun h => h0 (BitVec.eq_of_toNat_eq h)), hstays.claim]
    have hsent := (s.canGot p.val).canMsg_mem_canSendAll p.val p.isLt 2 node.toNat (keyBytes (if s.claim.dynamic then Config.serial.toNat else 0))
      ((hstays.live p.val).trans hlive)
    rw [State.canMsg_claim _ _ _ _ node.isLt, hstays.claim] at hsent
    exact ⟨hsent, hgot.mono.andThen (State.canSendAll_stays _ 2 node.toNat _).2.1⟩
  case claimOff => exact fun p node key s hlive => if_neg (by simp [hlive])
  case timeout =>
    intro s hclaiming
    exact ⟨_, if_pos hclaiming, s.nodeEffective_effective s.claim.candidate true⟩
  case timeoutNone => exact fun s hclaiming => if_neg (by simp [hclaiming])
  case received =>
    intro p node s hlive hclaiming hnode h0
    obtain ⟨hstays, hgot, -⟩ := s.canGot_got p.val hlive
    have hraise := (s.canGot p.val).raise_keeps MGT_STAT_NODEDUP 0
    refine ⟨_, (exec_heartbeatReceived p node s hlive).trans ((if_neg ?_).trans (if_pos ⟨(hstays.regs MGT_STAT_NODE 0 rfl).trans hnode, h0⟩)),
      State.flag_raise_self _ MGT_STAT_NODEDUP 0 (by decide), hgot.mono.andThen hraise⟩
    rw [hstays.flag MGT_STAT_CLAIMING rfl, hclaiming, Bool.false_and]
    exact Bool.false_ne_true
  case receivedConflict =>
    intro p node s hlive hclaiming hnode
    obtain ⟨hstays, hgot, -⟩ := s.canGot_got p.val hlive
    obtain ⟨hclaim, hk, -, hsent⟩ := (s.canGot p.val).claimConflict_claims
    rw [hstays.claim] at hclaim hsent
    refine ⟨_, (exec_heartbeatReceived p node s hlive).trans (if_pos ?_), hclaim, hsent p.val p.isLt ((hstays.live p.val).trans hlive), hgot.mono.andThen hk⟩
    rw [hstays.flag MGT_STAT_CLAIMING rfl, hclaiming, hstays.claim, hnode, Bool.true_and]
    exact beq_self_eq_true _
  case receivedOther =>
    intro p node s hlive hother
    obtain ⟨hstays, hgot, hent⟩ := s.canGot_got p.val hlive
    refine ⟨_, (exec_heartbeatReceived p node s hlive).trans ((if_neg ?_).trans (if_neg ?_)), hent, hgot.mono⟩
    · rw [hstays.flag MGT_STAT_CLAIMING rfl, hstays.claim, Bool.and_eq_true, beq_iff_eq]
      rintro ⟨hclaiming, hcandidate⟩
      rw [if_pos hclaiming] at hother
      exact hother.1 hcandidate
    · rw [hstays.regs MGT_STAT_NODE 0 rfl]
      rintro ⟨hnode, h0⟩
      split at hother
      · exact h0 (BitVec.eq_of_toNat_eq (hnode.symm.trans hother.2))
      · exact hother hnode
  case receivedOff => exact fun p node s hlive => if_neg (by simp [hlive])
  case receiveCounters =>
    intro p s hlive
    exact ⟨_, if_pos hlive, s.canGot_counters p.val⟩
  case busOff =>
    intro p s hlive
    obtain ⟨hstate, hoff, hidle, hready, hent, -⟩ := s.enterBusOff_enters p.val
    exact ⟨_, if_pos hlive, hstate, hoff, hidle, hready, hent⟩
  case busOffNone => exact fun p s hlive => if_neg (by simp [hlive])
  case recovery =>
    intro p s hon hstate
    obtain ⟨htec, hrec, hactive⟩ := s.canErrors_port p.val 0 0
    have hcount := s.canErrors_counts p.val 0 0
    have hget (f : Field) (hf : f.bank = .mgt) (ha : f.id % 65536 ≠ MGT_MODE_ARMED.id % 65536) (hp : f.id % 65536 ≠ MGT_CAN_PASSIVE.id % 65536) :
        ((s.canErrors p.val 0 0).heartbeat.canReady p.val).get f p.val = (s.canErrors p.val 0 0).get f p.val :=
      (State.get_mgt_setReady _ _ _ f p.val hf ha).trans (State.heartbeat_rest _ p.val f (by rw [hf]; decide) hp htec)
    refine ⟨_, if_pos (by simp [hon, hstate]), (hget MGT_CAN_STATE rfl (by decide) (by decide)).trans hactive,
      (hget MGT_CAN_TEC rfl (by decide) (by decide)).trans htec, (hget MGT_CAN_REC rfl (by decide) (by decide)).trans hrec, fun hnode hm => ?_⟩
    have hlive : (s.canErrors p.val 0 0).canLive p.val = true := by
      rw [State.canLive_iff, hcount.domOn, hactive]
      exact ⟨hon, Nat.zero_le 1⟩
    have hbeaten := (s.canErrors p.val 0 0).heartbeat_beaten (by rwa [s.get_canErrors p.val 0 0 MGT_STAT_NODE 0 rfl]) (by rwa [hcount.mode rfl])
      ((show p.val = 0 ∨ p.val = 1 by omega).imp (fun h : p.val = 0 => h ▸ hlive) (fun h : p.val = 1 => h ▸ hlive))
    rw [show ((s.canErrors p.val 0 0).heartbeat.canReady p.val).claim = (s.canErrors p.val 0 0).heartbeat.claim from (State.setReady_keeps ..).claim rfl,
      hbeaten]
    show ((s.canErrors p.val 0 0).claim.beats + 1) % 2 ^ 32 = _
    rw [hcount.claim rfl]
  case recoveryNone =>
    intro p s h
    refine if_neg ?_
    rcases h with h | h <;> simp [h]
  case senderError =>
    intro p kind k s hlive hk hle
    have hstep : s.get MGT_CAN_TEC p.val + s.canErrorStep p.val true kind = k := hk.symm
    obtain ⟨htec, hrec, hstate⟩ := s.canErrors_port p.val k (s.get MGT_CAN_REC p.val)
    refine ⟨s.canErrors p.val k (s.get MGT_CAN_REC p.val), (exec_canBusError p true false kind s hlive).trans (congrArg Host.Outcome.next ?_),
      htec.trans (Nat.mod_eq_of_lt (by omega)), hrec, hstate, fun h0 h1 => ?_, (s.canErrors_counts ..).mono⟩
    · rw [Bool.false_and, Bool.false_and, if_neg Bool.false_ne_true, s.canCount_sender p.val kind (by omega), hstep]
    · refine s.canErrors_passive p.val k _ ?_ h0
      rw [hstate] at h1
      by_contra hnot
      simp [hnot] at h1
  case receiverError =>
    intro p kind claim k s hlive hk
    obtain ⟨htec, hrec, hstate⟩ := s.canErrors_port p.val (s.get MGT_CAN_TEC p.val) k
    refine ⟨s.canErrors p.val (s.get MGT_CAN_TEC p.val) k, (exec_canBusError p false claim kind s hlive).trans (congrArg Host.Outcome.next ?_),
      hrec.trans (Nat.mod_eq_of_lt (by omega)), htec, hstate, (s.canErrors_counts ..).mono⟩
    rw [Bool.and_false, Bool.false_and, if_neg Bool.false_ne_true, hk]
    rfl
  case errorBusOff =>
    intro p kind s hlive h
    refine (exec_canBusError p true false kind s hlive).trans (Eq.trans (congrArg Host.Outcome.next ?_) (Eq.symm (if_pos hlive)))
    rw [Bool.false_and, Bool.false_and, if_neg Bool.false_ne_true]
    exact s.canCount_busOff p.val kind h
  case notAcknowledged =>
    intro p s hlive hclaiming htec hretries
    have hstep := s.canErrorStep_le p.val .noAck
    have hcount := s.canCount_sender p.val .noAck (by omega)
    have hstays := s.canErrors_canStays p.val (s.get MGT_CAN_TEC p.val + s.canErrorStep p.val true .noAck) (s.get MGT_CAN_REC p.val) hlive
    have hk := s.canErrors_counts p.val (s.get MGT_CAN_TEC p.val + s.canErrorStep p.val true .noAck) (s.get MGT_CAN_REC p.val)
    rw [← hcount] at hstays hk
    obtain ⟨hclaim, hout⟩ := (s.canCount p.val true .noAck).claimAgain_sends p.val (by rw [hstays.claim]; exact hretries)
    rw [hstays.claim] at hclaim hout
    refine ⟨_, (exec_canBusError p true true .noAck s hlive).trans (congrArg Host.Outcome.next ?_), hclaim, by rw [hout, hk.out rfl]⟩
    rw [hstays.flag MGT_STAT_CLAIMING rfl, hclaiming, show (true && true && true) = true from rfl, if_pos rfl, if_pos rfl, if_pos ((hstays.live p.val).trans hlive)]
  case givenUp =>
    intro p s hlive hclaiming hretries
    obtain ⟨hclaim, hout⟩ := s.canCount_claim p.val .noAck
    refine ⟨_, (exec_canBusError p true true .noAck s hlive).trans (congrArg Host.Outcome.next ?_), hclaim, hout⟩
    rw [if_pos rfl, State.claimAgain_stops _ _ (by rw [hclaim]; exact hretries), ite_self, ite_self]
  case bitError =>
    intro p kind s hlive hclaiming hkind htec
    have hstep := s.canErrorStep_le p.val kind
    have hcount := s.canCount_sender p.val kind (by omega)
    have hstays := s.canErrors_canStays p.val (s.get MGT_CAN_TEC p.val + s.canErrorStep p.val true kind) (s.get MGT_CAN_REC p.val) hlive
    rw [← hcount] at hstays
    obtain ⟨hclaim, -, -, hsent⟩ := (s.canCount p.val true kind).claimConflict_claims
    rw [hstays.claim] at hclaim hsent
    refine ⟨_, (exec_canBusError p true true kind s hlive).trans (congrArg Host.Outcome.next ?_), hclaim, hsent p.val p.isLt ((hstays.live p.val).trans hlive)⟩
    rw [hstays.flag MGT_STAT_CLAIMING rfl, hclaiming, show (true && true && true) = true from rfl, if_pos rfl, if_neg hkind]
  case errorOff => exact fun p sender claim kind s hlive => if_neg (by simp [hlive])
  case ignored =>
    intro p s hlive
    obtain ⟨-, hgot, hent⟩ := s.canGot_got p.val hlive
    have hcount := (s.canGot p.val).countEnt_keeps (0x1101 + p.val) 7
    have hraise := ((s.canGot p.val).countEnt (0x1101 + p.val) 7).raise_keeps MGT_CAN_RXIGN p.val
    have hlevel := (((s.canGot p.val).countEnt (0x1101 + p.val) 7).raise MGT_CAN_RXIGN p.val).canLevel_keeps p.val
    refine ⟨⟨_, if_pos hlive, ?_, ?_, hgot.mono.andThen hcount |>.andThen hraise |>.andThen hlevel⟩, ⟨_, if_pos hlive, hent, hgot.mono⟩⟩
    · exact (hlevel.flag MGT_CAN_RXIGN p.val (by decide)).trans (State.flag_raise_self _ MGT_CAN_RXIGN p.val (by decide))
    · refine (hlevel.ent _ _).trans ((hraise.ent _ _).trans ?_)
      rw [State.ent_countEnt_self, State.ent_canGot _ _ _ _ (by omega)]

end Sys2Proof.Machine
end

section
/-! SUPPORT. The local and LDICT ports and DICT messages (15 R425-R427): what GO reads of its registers, and what a message that arrives finds. -/

namespace Sys2Proof.Machine
set_option Elab.async false

/-! ### The ports' registers -/

theorem filter_insertKey {α : Type} (l : List (Nat × α)) (a : Nat) (x : α) (q : Nat × α → Bool) (h : ∀ y, q (a, y) = false) :
    (insertKey l a x).filter q = l.filter q := by
  induction l with
  | nil => simp [insertKey, h]
  | cons p t ih =>
    obtain ⟨k, v⟩ := p
    unfold insertKey
    split
    · simp [h]
    split
    case isTrue heq => simp [← heq, h]
    case isFalse => rw [List.filter_cons, List.filter_cons, ih]

theorem filter_eraseKey {α : Type} (l : List (Nat × α)) (a : Nat) (q : Nat × α → Bool) (h : ∀ y, q (a, y) = false) :
    (eraseKey l a).filter q = l.filter q := by
  induction l with
  | nil => rfl
  | cons p t ih =>
    obtain ⟨k, v⟩ := p
    unfold eraseKey
    split
    case isTrue heq => rw [ih, List.filter_cons, heq, h v, if_neg Bool.false_ne_true]
    case isFalse => rw [List.filter_cons, List.filter_cons, ih]

/-- A write of a field leaves where another one is listed. -/
theorem State.listed_set (s : State) (f g : Field) (i v : Nat) (h : g.id % 65536 ≠ f.id % 65536) : (s.set f i v).listed g = s.listed g := by
  have hkey (y : Nat) : ((f.key i, y).1 % 65536 == g.id % 65536) = false := by
    rw [beq_eq_false_iff_ne]
    show f.key i % 65536 ≠ g.id % 65536
    rw [f.key_mod]
    exact h.symm
  unfold State.listed State.set sput
  dsimp only
  split
  · rw [filter_eraseKey _ _ _ hkey]
  · rw [filter_insertKey _ _ _ _ hkey]

/-- A lane's waiting request depends on the ports' BUSY flags and data alone. -/
theorem State.ldictBusy_set (s : State) (f : Field) (i v l : Nat) (h : MGT_LDICT_BUSY.id % 65536 ≠ f.id % 65536) :
    (s.set f i v).ldictBusy l = s.ldictBusy l := by
  unfold State.ldictBusy
  rw [s.listed_set f MGT_LDICT_BUSY i v h]
  simp only [s.flag_set_field f MGT_LDICT_BUSY i _ v h]
  rfl

theorem State.portBytes_set (s : State) (f : Field) (i v : Nat) (own : Bool) (a n : Nat) : (s.set f i v).portBytes own a n = s.portBytes own a n := by
  induction n generalizing a with
  | zero => rfl
  | succ n ih => rw [State.portBytes, State.portBytes, ih]; rfl

theorem State.bufBytes_set (s : State) (f : Field) (i v n buf len : Nat) : (s.set f i v).bufBytes n buf len = s.bufBytes n buf len := by
  rw [State.bufBytes, State.bufBytes, State.portBytes_set]

/-! ### The local port (15 R425) -/

/-- The local port's registers hold a request. -/
def State.lmbxSet (s : State) (n len buf : Nat) : State := (s.set MGT_LMBX_REQLEN n len).set MGT_LMBX_BUF n buf

theorem State.lmbxSet_keeps (s : State) (n len buf : Nat) : Keeps { regs := [.mgt] } s (s.lmbxSet n len buf) :=
  (s.set_keeps MGT_LMBX_REQLEN n len).trans (State.set_keeps _ MGT_LMBX_BUF n buf)

theorem exec_localPortRequest (n : Core) (len buf : BitVec 9) (s : State) (hon : s.domOn 763 = true) (hcore : s.coreOn n.val = true) :
    exec (.localPortRequest n len buf) s = .next ((s.lmbxSet n.val len.toNat buf.toNat).localGo n.val) := if_pos (by simp [hon, hcore])

theorem State.lmbxSet_shows (s : State) (n : Nat) (len buf : BitVec 9) : (s.lmbxSet n len.toNat buf.toNat).get MGT_LMBX_REQLEN n = len.toNat ∧
    (s.lmbxSet n len.toNat buf.toNat).get MGT_LMBX_BUF n = buf.toNat ∧ (s.lmbxSet n len.toNat buf.toNat).flag MGT_LMBX_BUSY n = s.flag MGT_LMBX_BUSY n := by
  refine ⟨?_, (State.get_set_self ..).trans (Nat.mod_eq_of_lt buf.isLt), ?_⟩
  · exact (State.get_set_field _ MGT_LMBX_BUF MGT_LMBX_REQLEN n n _ (by decide)).trans ((State.get_set_self ..).trans (Nat.mod_eq_of_lt len.isLt))
  · exact (State.flag_set_field _ MGT_LMBX_BUF MGT_LMBX_BUSY n n _ (by decide)).trans (s.flag_set_field MGT_LMBX_REQLEN MGT_LMBX_BUSY n n _ (by decide))

/-- GO of the local port with a length that it takes, while no request waits there. -/
theorem State.localGo_request (s : State) (n : Nat) (hb : s.flag MGT_LMBX_BUSY n = false) (h0 : s.get MGT_LMBX_REQLEN n ≠ 0)
    (h : s.get MGT_LMBX_REQLEN n ≤ 256) : s.localGo n = (s.raise MGT_LMBX_BUSY n).setXport (1 + n)
      { s.xport (1 + n) with waiting := some (s.tb, s.bufBytes n (s.get MGT_LMBX_BUF n) (s.get MGT_LMBX_REQLEN n)), buf := s.get MGT_LMBX_BUF n } :=
  if_neg (by simp [hb, h0, h])

theorem State.localGo_error (s : State) (n : Nat) (h : s.flag MGT_LMBX_BUSY n = true ∨ s.get MGT_LMBX_REQLEN n = 0 ∨ 256 < s.get MGT_LMBX_REQLEN n) :
    s.localGo n = s.raise MGT_LMBX_ERR n := if_pos (by simpa [or_assoc] using h)

/-! ### LDICT ports (15 R426) -/

/-- The LDICT port's registers hold a request. -/
def State.ldictSet (s : State) (n len lane buf : Nat) : State :=
  ((s.set MGT_LDICT_REQLEN n len).set MGT_LDICT_LANE n lane).set MGT_LDICT_BUF n buf

theorem State.ldictSet_keeps (s : State) (n len lane buf : Nat) : Keeps { regs := [.mgt] } s (s.ldictSet n len lane buf) :=
  (s.set_keeps MGT_LDICT_REQLEN n len).trans (State.set_keeps _ MGT_LDICT_LANE n lane) |>.trans (State.set_keeps _ MGT_LDICT_BUF n buf)

theorem exec_ldictRequest (n : Core) (len : BitVec 9) (lane : Lane) (buf : BitVec 9) (s : State) (hon : s.domOn 763 = true) (hcore : s.coreOn n.val = true) :
    exec (.ldictRequest n len lane buf) s = .next ((s.ldictSet n.val len.toNat lane.val buf.toNat).ldictGo n.val) := if_pos (by simp [hon, hcore])

/-- What GO of an LDICT port reads. -/
theorem State.ldictSet_shows (s : State) (n : Nat) (len buf : BitVec 9) (lane : Lane) :
    (s.ldictSet n len.toNat lane.val buf.toNat).get MGT_LDICT_REQLEN n = len.toNat ∧
      (s.ldictSet n len.toNat lane.val buf.toNat).get MGT_LDICT_LANE n = lane.val ∧
      (s.ldictSet n len.toNat lane.val buf.toNat).get MGT_LDICT_BUF n = buf.toNat ∧
      (s.ldictSet n len.toNat lane.val buf.toNat).flag MGT_LDICT_BUSY n = s.flag MGT_LDICT_BUSY n ∧
      (s.ldictSet n len.toNat lane.val buf.toNat).ldictBusy lane.val = s.ldictBusy lane.val ∧
      (s.ldictSet n len.toNat lane.val buf.toNat).laneUp lane.val = s.laneUp lane.val := by
  have hother (f g : Field) (u : State) (v : Nat) (h : g.id % 65536 ≠ f.id % 65536) : (u.set f n v).get g n = u.get g n := u.get_set_field f g n n v h
  unfold State.ldictSet
  refine ⟨?_, ?_, (State.get_set_self ..).trans (Nat.mod_eq_of_lt buf.isLt), ?_, ?_, ?_⟩
  · rw [hother _ _ _ _ (by decide), hother _ _ _ _ (by decide)]
    exact (State.get_set_self ..).trans (Nat.mod_eq_of_lt len.isLt)
  · rw [hother _ _ _ _ (by decide)]
    exact (State.get_set_self ..).trans (Nat.mod_eq_of_lt lane.isLt)
  · rw [State.flag, hother _ _ _ _ (by decide), hother _ _ _ _ (by decide), hother _ _ _ _ (by decide)]
    rfl
  · rw [State.ldictBusy_set _ _ _ _ _ (by decide), State.ldictBusy_set _ _ _ _ _ (by decide), State.ldictBusy_set _ _ _ _ _ (by decide)]
  · have hk := s.ldictSet_keeps n len.toNat lane.val buf.toNat
    exact congrArg (· == 6) (hk.regs LNK_STAT_STATE lane.val (by decide))

/-- An LDICT port's request is noted, with its lane and buffer. -/
def State.ldictNoted (s : State) (n : Nat) (x : LdictSt) : State := { s with ldicts := sput s.ldicts n x LdictSt.zero }

theorem State.ldictNoted_keeps (s : State) (n : Nat) (x : LdictSt) : Keeps { ldicts := true } s (s.ldictNoted n x) := { Keeps.refl _ s with ldicts := nofun }

theorem State.ldict_ldictNoted (s : State) (n : Nat) (x : LdictSt) : (s.ldictNoted n x).ldict n = x := by
  rw [State.ldict, State.ldictNoted, sget_sput, if_pos rfl]

/-- GO of an LDICT port with a length that it takes, on a lane that is up and has no request under way. -/
theorem State.ldictGo_request (s : State) (n : Nat) (hb : s.flag MGT_LDICT_BUSY n = false) (h0 : s.get MGT_LDICT_REQLEN n ≠ 0)
    (h : s.get MGT_LDICT_REQLEN n ≤ 64) (hup : s.laneUp (s.get MGT_LDICT_LANE n) = true) (hfree : s.ldictBusy (s.get MGT_LDICT_LANE n) = false) :
    s.ldictGo n = ((s.ldictNoted n ⟨(s.bufBytes n (s.get MGT_LDICT_BUF n) (s.get MGT_LDICT_REQLEN n)).getD 1 0, s.get MGT_LDICT_LANE n,
      s.get MGT_LDICT_BUF n⟩).raise MGT_LDICT_BUSY n).pushCtl (s.get MGT_LDICT_LANE n)
        ⟨9, dictBeats 8 (s.bufBytes n (s.get MGT_LDICT_BUF n) (s.get MGT_LDICT_REQLEN n))⟩ :=
  if_neg (by simp [hb, h0, h, hup, hfree])

theorem State.ldictGo_error (s : State) (n : Nat) (h : s.flag MGT_LDICT_BUSY n = true ∨ s.get MGT_LDICT_REQLEN n = 0 ∨ 64 < s.get MGT_LDICT_REQLEN n ∨
    s.laneUp (s.get MGT_LDICT_LANE n) = false ∨ s.ldictBusy (s.get MGT_LDICT_LANE n) = true) : s.ldictGo n = s.raise MGT_LDICT_ERR n :=
  if_pos (by simpa [or_assoc] using h)

/-! ### DICT messages (15 R426, R427) -/

/-- The bytes of a message of one frame. -/
def dictBytes (frame : List Byte) : List Nat := (frame.map (·.toNat)).take 64

theorem dictBytes_getD (frame : List Byte) (i : Nat) (h : i < 64) : (dictBytes frame).getD i 0 = (frame.getD i 0).toNat := by
  rw [dictBytes, List.getD_eq_getElem?_getD, List.getElem?_take_of_lt h, List.getElem?_map, List.getD_eq_getElem?_getD]
  cases frame[i]? <;> rfl

theorem exec_dictMsg_request (n : Lane) (frame : List Byte) (s : State) (hon : s.domOn 763 = true) (h : (frame.getD 0 0).toNat < 128) :
    exec (.dictMsg n frame) s = .next ((s.beatIn n.val).dictRequest n.val (dictBytes frame)) :=
  (if_pos (((s.beatIn_keeps n.val).domOn 763).trans hon)).trans
    (congrArg Host.Outcome.next (if_neg (by show ¬ 128 ≤ (dictBytes frame).getD 0 0; rw [dictBytes_getD _ _ (by decide)]; omega)))

theorem exec_dictMsg_response (n : Lane) (frame : List Byte) (s : State) (hon : s.domOn 763 = true) (h : 128 ≤ (frame.getD 0 0).toNat) :
    exec (.dictMsg n frame) s = .next ((s.beatIn n.val).dictAnswer n.val (dictBytes frame)) :=
  (if_pos (((s.beatIn_keeps n.val).domOn 763).trans hon)).trans
    (congrArg Host.Outcome.next (if_pos (by show 128 ≤ (dictBytes frame).getD 0 0; rw [dictBytes_getD _ _ (by decide)]; exact h)))

/-- What a message finds of the ports does not depend on the lane's count of codewords. -/
theorem State.beatIn_ldicts (s : State) (n seq : Nat) : (s.beatIn n).ldictOwner n seq = s.ldictOwner n seq ∧ (s.beatIn n).ldictBusy n = s.ldictBusy n ∧
    (s.beatIn n).laneUp n = s.laneUp n := by
  unfold State.beatIn
  split
  · exact ⟨rfl, rfl, rfl⟩
  · exact ⟨rfl, rfl, rfl⟩

theorem State.dictRequest_waits (s : State) (n : Nat) (l : List Nat) (hup : s.laneUp n = true)
    (hkind : (s.ent 0x1110 1).testBit (s.get LNK_PINFO_KIND n) = true) (hfree : (s.xport (64 + n)).waiting = none) :
    s.dictRequest n l = s.submit (64 + n) l := if_neg (by simp [hup, bit_eq_testBit, hkind, hfree])

theorem State.dictRequest_dropped (s : State) (n : Nat) (l : List Nat)
    (h : s.laneUp n = false ∨ (s.ent 0x1110 1).testBit (s.get LNK_PINFO_KIND n) = false ∨ (s.xport (64 + n)).waiting ≠ none) :
    s.dictRequest n l = s.dictDrop.countEnt 0x1110 2 := by
  refine if_pos ?_
  simp only [bit_eq_testBit, Bool.or_eq_true, Bool.not_eq_true', or_assoc, Option.isSome_iff_ne_none]
  exact h

/-- A DICT response reaches its core. -/
theorem State.dictAnswer_reaches (s : State) (n i : Nat) (l : List Nat) (h : s.ldictOwner n (l.getD 1 0) = some i) :
    (s.dictAnswer n l).flag MGT_LDICT_BUSY i = false ∧ (s.dictAnswer n l).flag MGT_LDICT_DONE i = true ∧
      Keeps { regs := [.mgt], mem := true } s (s.dictAnswer n l) := by
  unfold State.dictAnswer
  rw [h]
  dsimp only
  have hu := s.portWrite_keeps false (lsramBase i + 512 * (s.ldict i).buf + 256) ((l.take (min 64 (16 + numAt l 6 2))).map (BitVec.ofNat 8 ·))
  refine ⟨?_, State.flag_raise_self _ MGT_LDICT_DONE i (by decide), hu.mono.andThen (State.set_keeps _ MGT_LDICT_RSPLEN i _) |>.andThen
    (State.lower_keeps _ MGT_LDICT_BUSY i) |>.andThen (State.raise_keeps _ MGT_LDICT_DONE i)⟩
  exact (State.flag_raise_field _ MGT_LDICT_DONE MGT_LDICT_BUSY i i (by decide)).trans (State.flag_lower_self _ MGT_LDICT_BUSY i rfl)

/-- Settles O53. GO reads what its row writes to its registers; a message counts for its lane and then waits, reaches its core or is dropped. -/
theorem dictionaryPorts : Obligations.DictionaryPorts := by
  unfold Obligations.DictionaryPorts
  refine ⟨?localPort, ?localPortError, ?localPortOff, ?ldict, ?ldictError, ?ldictOff, ?timeout, ?timeoutNone, ?request, ?requestDropped, ?response,
    ?responseDropped, ?off⟩
  case localPort =>
    intro n len buf s hon hcore hb h1 h256
    have hk := s.lmbxSet_keeps n.val len.toNat buf.toNat
    obtain ⟨hlen, hbuf, hbusy⟩ := s.lmbxSet_shows n.val len buf
    have hgo := (s.lmbxSet n.val len.toNat buf.toNat).localGo_request n.val (hbusy.trans hb) (by omega) (by omega)
    rw [hlen, hbuf, hk.xport rfl, (hk.tb rfl).1] at hgo
    refine ⟨_, (exec_localPortRequest n len buf s hon hcore).trans (congrArg Host.Outcome.next hgo), ?_, ?_,
      hk.mono.andThen (State.raise_keeps _ MGT_LMBX_BUSY n.val) |>.andThen (State.setXport_keeps ..)⟩
    · exact State.flag_raise_self _ MGT_LMBX_BUSY n.val (by decide)
    · rw [State.xport_setXport_self]
      show some (s.tb, (s.lmbxSet n.val len.toNat buf.toNat).bufBytes n.val buf.toNat len.toNat) = _
      rw [State.lmbxSet, State.bufBytes_set, State.bufBytes_set]
  case localPortError =>
    intro n len buf s hon hcore h
    have hk := s.lmbxSet_keeps n.val len.toNat buf.toNat
    obtain ⟨hlen, -, hbusy⟩ := s.lmbxSet_shows n.val len buf
    have hgo := (s.lmbxSet n.val len.toNat buf.toNat).localGo_error n.val (by
      rw [hbusy, hlen]
      exact h.imp_right (Or.imp_left fun h0 => by rw [h0]; rfl))
    exact ⟨_, (exec_localPortRequest n len buf s hon hcore).trans (congrArg Host.Outcome.next hgo), State.flag_raise_self _ MGT_LMBX_ERR n.val (by decide),
      hk.trans (State.raise_keeps _ MGT_LMBX_ERR n.val)⟩
  case localPortOff =>
    intro n len buf s h
    refine if_neg ?_
    rcases h with h | h <;> simp [h]
  case ldict =>
    intro n len buf lane s hon hcore hb h1 h64 hup hfree
    have hk := s.ldictSet_keeps n.val len.toNat lane.val buf.toNat
    obtain ⟨hlen, hlane, hbuf, hbusy, hfree', hup'⟩ := s.ldictSet_shows n.val len buf lane
    have hgo := (s.ldictSet n.val len.toNat lane.val buf.toNat).ldictGo_request n.val (hbusy.trans hb) (by omega) (by omega)
      (by rw [hlane, hup', hup]) (by rw [hlane, hfree', hfree])
    have hbytes : (s.ldictSet n.val len.toNat lane.val buf.toNat).bufBytes n.val buf.toNat len.toNat = s.bufBytes n.val buf.toNat len.toNat := by
      rw [State.ldictSet, State.bufBytes_set, State.bufBytes_set, State.bufBytes_set]
    rw [hlen, hlane, hbuf, hbytes] at hgo
    have hnoted := (s.ldictSet n.val len.toNat lane.val buf.toNat).ldictNoted_keeps n.val ⟨(s.bufBytes n.val buf.toNat len.toNat).getD 1 0, lane.val, buf.toNat⟩
    have hraise := ((s.ldictSet n.val len.toNat lane.val buf.toNat).ldictNoted n.val
      ⟨(s.bufBytes n.val buf.toNat len.toNat).getD 1 0, lane.val, buf.toNat⟩).raise_keeps MGT_LDICT_BUSY n.val
    refine ⟨_, (exec_ldictRequest n len lane buf s hon hcore).trans (congrArg Host.Outcome.next hgo), ?_, ?_, ?_,
      hk.mono.andThen hnoted |>.andThen hraise |>.andThen (State.pushCtl_keeps ..)⟩
    · exact ((State.pushCtl_keeps ..).flag MGT_LDICT_BUSY n.val (by decide)).trans (State.flag_raise_self _ MGT_LDICT_BUSY n.val (by decide))
    · rw [State.lane_pushCtl_self, hraise.lane rfl, hnoted.lane rfl, hk.lane rfl]
    · exact State.ldict_ldictNoted ..
  case ldictError =>
    intro n len buf lane s hon hcore h
    have hk := s.ldictSet_keeps n.val len.toNat lane.val buf.toNat
    obtain ⟨hlen, hlane, -, hbusy, hfree', hup'⟩ := s.ldictSet_shows n.val len buf lane
    have hgo := (s.ldictSet n.val len.toNat lane.val buf.toNat).ldictGo_error n.val (by
      rw [hbusy, hlen, hlane, hup', hfree']
      exact h.imp_right (Or.imp_left fun h0 => by rw [h0]; rfl))
    exact ⟨_, (exec_ldictRequest n len lane buf s hon hcore).trans (congrArg Host.Outcome.next hgo), State.flag_raise_self _ MGT_LDICT_ERR n.val (by decide),
      hk.trans (State.raise_keeps _ MGT_LDICT_ERR n.val)⟩
  case ldictOff =>
    intro n len buf lane s h
    refine if_neg ?_
    rcases h with h | h <;> simp [h]
  case timeout =>
    intro n s hb
    refine ⟨_, if_pos hb, ?_, State.flag_raise_self _ MGT_LDICT_TMO n.val (by decide),
      (s.lower_keeps MGT_LDICT_BUSY n.val).trans (State.raise_keeps _ MGT_LDICT_TMO n.val)⟩
    exact (State.flag_raise_field _ MGT_LDICT_TMO MGT_LDICT_BUSY n.val n.val (by decide)).trans (s.flag_lower_self MGT_LDICT_BUSY n.val rfl)
  case timeoutNone => exact fun n s hb => if_neg (by simp [hb])
  case request =>
    intro n frame s hup hon h128 hkind hfree
    have hbeat := s.beatIn_keeps n.val
    obtain ⟨-, -, hup'⟩ := s.beatIn_ldicts n.val 0
    have hwaits := (s.beatIn n.val).dictRequest_waits n.val (dictBytes frame) (hup'.trans hup)
      (by rw [hbeat.ent, hbeat.regs _ _ List.not_mem_nil]; exact hkind) (by rw [hbeat.xport rfl]; exact hfree)
    have hsubmit := (s.beatIn n.val).submit_keeps (64 + n.val) (dictBytes frame)
    refine ⟨_, (exec_dictMsg_request n frame s hon h128).trans (congrArg Host.Outcome.next hwaits), ?_, ?_, hbeat.mono.andThen hsubmit⟩
    · rw [State.waiting_submit, (hbeat.tb rfl).1]
      rfl
    · rw [State.lane, hsubmit.lanes rfl, State.beatIn, if_pos hup]
      exact congrArg LaneSt.uncRow (s.lane_setLane_self ..)
  case requestDropped =>
    intro n frame s hon h128 h
    have hbeat := s.beatIn_keeps n.val
    obtain ⟨-, -, hup'⟩ := s.beatIn_ldicts n.val 0
    have hdropped := (s.beatIn n.val).dictRequest_dropped n.val (dictBytes frame)
      (by rw [hup', hbeat.ent, hbeat.regs _ _ List.not_mem_nil, hbeat.xport rfl]; exact h)
    have hraise := (s.beatIn n.val).raise_keeps MGT_STAT_DICTDROP 0
    have hcount := (s.beatIn n.val).dictDrop.countEnt_keeps 0x1110 2
    refine ⟨_, (exec_dictMsg_request n frame s hon h128).trans (congrArg Host.Outcome.next hdropped), ?_, ?_, ?_,
      hbeat.mono.andThen hraise |>.andThen hcount⟩
    · exact (hcount.flag MGT_STAT_DICTDROP 0 List.not_mem_nil).trans (State.flag_raise_self _ MGT_STAT_DICTDROP 0 (by decide))
    · rw [State.ent_countEnt_self, State.dictDrop, hraise.ent, hbeat.ent]
    · rw [hcount.xports rfl, State.dictDrop, hraise.xports rfl, hbeat.xports rfl]
  case response =>
    intro n frame i s hup hon h128 howner
    have hbeat := s.beatIn_keeps n.val
    obtain ⟨howner', -, -⟩ := s.beatIn_ldicts n.val (frame.getD 1 0).toNat
    obtain ⟨hidle, hdone, hk⟩ := (s.beatIn n.val).dictAnswer_reaches n.val i (dictBytes frame)
      (by rw [dictBytes_getD _ _ (by decide), howner', howner])
    exact ⟨_, exec_dictMsg_response n frame s hon h128, hidle, hdone, hbeat.mono.andThen hk⟩
  case responseDropped =>
    intro n frame s hon h128 hnone hfree
    have hbeat := s.beatIn_keeps n.val
    obtain ⟨howner', hbusy', -⟩ := s.beatIn_ldicts n.val (frame.getD 1 0).toNat
    have hdropped : (s.beatIn n.val).dictAnswer n.val (dictBytes frame) = (s.beatIn n.val).dictDrop := by
      rw [State.dictAnswer, dictBytes_getD _ _ (by decide), howner', hnone]
      exact if_neg (by rw [hbusy', hfree]; exact Bool.false_ne_true)
    exact ⟨_, (exec_dictMsg_response n frame s hon h128).trans (congrArg Host.Outcome.next hdropped),
      State.flag_raise_self _ MGT_STAT_DICTDROP 0 (by decide), hbeat.mono.andThen (State.raise_keeps _ MGT_STAT_DICTDROP 0)⟩
  case off => exact fun n frame s hoff => if_neg (by rw [(s.beatIn_keeps n.val).domOn, hoff]; exact Bool.false_ne_true)

end Sys2Proof.Machine
end

section
/-! SUPPORT. RESUME in HOLD where the always-on control domain is off: the command resumes, and `CKP_CTL.GO` is not taken. -/

namespace Sys2Proof.Machine
set_option Elab.async false

/-- A time master holds after a hold request with one report in, its host asks for RESUME through a mailbox that is served, and the domain of
`CKP_CTL` is off. -/
def resumesWithoutControl : State :=
  ((({ State.reset with mode := .hold, dom := [(762, 2), (763, 2)], ckp := { State.reset.ckp with reports := [⟨0, 8, 0⟩] } } : State).set CLK_TM_CTL_ROLE 0 1).set
    PCI_MBX_BUSY 0 1).setXport 0 { XportSt.idle with waiting := some (0, modeRequest 0 3) }

/-- The command behind the response of RESUME fixes the start of the next stroke. -/
theorem resumesWithoutControl_resumes :
    (match exec (.resumeCommand .host 0) resumesWithoutControl with
     | .next t => t.stroke.nextAt.isSome
     | _ => false) = true := by decide +kernel

/-- A write of `CKP_CTL.GO` behind the same response finds its domain off. -/
theorem exec_go_resumesWithoutControl :
    exec .go (resumesWithoutControl.answered .host 0 0) = .next (resumesWithoutControl.answered .host 0 0) :=
  (exec_ckpCtl_off none _ (by decide +kernel)).1

/-- Refutes O55: its clause on RESUME says that the command does what a write of `CKP_CTL.GO` does behind the response. Where domain 760 is off, the
model ignores that write, and the mode command resumes all the same. -/
theorem not_modeCommands : ¬ Obligations.ModeCommands := by
  unfold Obligations.ModeCommands
  rintro ⟨-, -, -, -, hresume, -⟩
  obtain ⟨t, hrun, hgo⟩ := hresume .host 0 resumesWithoutControl _ (by decide +kernel) rfl (by decide +kernel) (by decide +kernel) (by decide +kernel)
  have ht : resumesWithoutControl.answered .host 0 0 = t := Host.Outcome.next.inj (exec_go_resumesWithoutControl.symm.trans hgo)
  have hresumes := resumesWithoutControl_resumes
  rw [hrun, ← ht] at hresumes
  exact absurd hresumes (by decide +kernel)

end Sys2Proof.Machine
end

section
/-! SUPPORT. Dictionary requests (15 R400-R415): which request a row serves, the answer of each command, and what a response leaves. -/

namespace Sys2Proof.Machine
set_option Elab.async false

/-! ### Responses -/

/-- The transport holds no request. -/
def State.freed (s : State) (k : Nat) : State := s.setXport k { s.xport k with waiting := none }

theorem State.freed_keeps (s : State) (k : Nat) : Keeps { xports := true } s (s.freed k) := s.setXport_keeps ..

/-- The writes of a response on its transport, whichever it is. -/
def answerWrites : Writes :=
  { regs := [.pci, .lec, .mgt], fresh := true, mem := true, lanes := true, ents := true, msixPba := true, out := true }

/-- A response beyond its transport. -/
theorem State.reply_answers (s : State) (k : Nat) (l : List Nat) : Keeps answerWrites (s.freed k) (s.reply k l) := by
  unfold State.reply
  dsimp only
  split
  · exact (State.answerHost_keeps ..).mono
  · exact (State.answerCore_keeps ..).mono
  · exact (State.canSend_stays ..).2.1.mono
  · exact .ite (State.pushCtl_keeps ..).mono (.refl _ _)
  · exact .refl _ _

/-- A response frees its transport, and no other changes. -/
theorem State.xport_reply_self (s : State) (k : Nat) (l : List Nat) : (s.reply k l).xport k = { s.xport k with waiting := none } :=
  ((s.reply_answers k l).xport rfl k).trans (State.xport_setXport_self ..)

theorem State.waiting_reply (s : State) (k : Nat) (l : List Nat) : ((s.reply k l).xport k).waiting = none :=
  congrArg XportSt.waiting (s.xport_reply_self k l)

theorem State.get_answerCore (s : State) (n : Nat) (l : List Nat) (f : Field) (i : Nat) (hr : f.id % 65536 ≠ MGT_LMBX_RSPLEN.id % 65536)
    (hb : f.id % 65536 ≠ MGT_LMBX_BUSY.id % 65536) (hd : f.id % 65536 ≠ MGT_LMBX_DONE.id % 65536) : (s.answerCore n l).get f i = s.get f i := by
  unfold State.answerCore
  split
  · rfl
  · rw [State.get_raise_field _ _ _ _ _ hd, State.get_lower_field _ _ _ _ _ hb, State.get_set_field _ _ _ _ _ _ hr,
      (State.portWrite_keeps ..).regs _ _ List.not_mem_nil]

/-- A failed persistence stays noted behind its response. -/
theorem State.persisterr_reply (s : State) (k : Nat) (l : List Nat) : (s.reply k l).flag MGT_STAT_PERSISTERR = s.flag MGT_STAT_PERSISTERR := by
  refine congrArg (· == 1) (Eq.trans ?_ ((s.freed_keeps k).regs MGT_STAT_PERSISTERR 0 List.not_mem_nil))
  unfold State.reply
  dsimp only
  split
  · exact (State.answerHost_keeps ..).regs _ _ (by decide)
  · exact State.get_answerCore _ _ _ _ _ (by decide) (by decide) (by decide)
  · exact (State.canSend_stays ..).1.regs _ _ rfl
  · split
    · exact (State.pushCtl_keeps ..).regs _ _ List.not_mem_nil
    · rfl
  · rfl

/-- The mailbox holds a response, before its interrupt. -/
def State.mailed (s : State) (l : List Nat) : State :=
  (((((List.range 32).foldl (fun s r => s.set PCI_MBXRSP_BYTES r (numAt l (8 * r) 8)) s).set PCI_MBX_RSPLEN 0 l.length).lower PCI_MBX_BUSY).raise
    PCI_MBX_DONE).mbxLevel

theorem State.answerHost_busy (s : State) (l : List Nat) (h : s.flag PCI_MBX_BUSY = true) :
    s.answerHost l = if (s.mailed l).flag PCI_MBX_IEN then (s.mailed l).msix ((s.mailed l).get PCI_MBX_VEC) else s.mailed l := if_neg (by simp [h])

theorem State.get_mailed (s : State) (l : List Nat) (f : Field) (hlec : f.bank = .pci) (hbytes : f.id % 65536 ≠ PCI_MBXRSP_BYTES.id % 65536)
    (hlen : f.id % 65536 ≠ PCI_MBX_RSPLEN.id % 65536) (hbusy : f.id % 65536 ≠ PCI_MBX_BUSY.id % 65536)
    (hdone : f.id % 65536 ≠ PCI_MBX_DONE.id % 65536) : (s.mailed l).get f = s.get f := by
  have hfold (m : List Nat) (t : State) : (m.foldl (fun s r => s.set PCI_MBXRSP_BYTES r (numAt l (8 * r) 8)) t).get f = t.get f := by
    induction m generalizing t with
    | nil => rfl
    | cons r m ih => exact (ih _).trans (t.get_set_field _ _ _ _ _ hbytes)
  rw [State.mailed, (State.mbxLevel_keeps _).regs _ _ (by rw [hlec]; decide), State.get_raise_field _ _ _ _ _ hdone,
    State.get_lower_field _ _ _ _ _ hbusy, State.get_set_field _ _ _ _ _ _ hlen, hfold]

/-- A response in the mailbox ends the request and is noted; ERR stays. -/
theorem State.mailed_mails (s : State) (l : List Nat) : (s.mailed l).flag PCI_MBX_BUSY = false ∧ (s.mailed l).flag PCI_MBX_DONE = true ∧
    (s.mailed l).flag PCI_MBX_ERR = s.flag PCI_MBX_ERR := by
  refine ⟨?_, ?_, congrArg (· == 1) (s.get_mailed l PCI_MBX_ERR rfl (by decide) (by decide) (by decide) (by decide))⟩
  · rw [State.mailed, (State.mbxLevel_keeps _).flag _ _ (by decide), State.flag_raise_field _ _ _ _ _ (by decide)]
    exact State.flag_lower_self _ PCI_MBX_BUSY 0 rfl
  · rw [State.mailed, (State.mbxLevel_keeps _).flag _ _ (by decide)]
    exact State.flag_raise_self _ PCI_MBX_DONE 0 (by decide)

theorem State.answerHost_flags (s : State) (l : List Nat) : (s.answerHost l).flag PCI_MBX_ERR = s.flag PCI_MBX_ERR ∧
    (s.flag PCI_MBX_BUSY = true → (s.answerHost l).flag PCI_MBX_BUSY = false ∧ (s.answerHost l).flag PCI_MBX_DONE = true) := by
  cases h : s.flag PCI_MBX_BUSY with
  | false => rw [show s.answerHost l = s from if_pos (by simp [h])]; simp
  | true =>
    obtain ⟨hbusy, hdone, herr⟩ := s.mailed_mails l
    have hmsix (f : Field) (hf : f.bank = .pci) : ((s.mailed l).msix ((s.mailed l).get PCI_MBX_VEC)).flag f = (s.mailed l).flag f :=
      (State.msix_keeps ..).flag f 0 (by rw [hf]; decide)
    rw [s.answerHost_busy l h]
    split
    · rw [hmsix _ rfl, hmsix _ rfl, hmsix _ rfl]
      exact ⟨herr, fun _ => ⟨hbusy, hdone⟩⟩
    · exact ⟨herr, fun _ => ⟨hbusy, hdone⟩⟩

/-! ### Which request is served (15 R414) -/

/-- A fold that keeps what it has or takes what it meets ends with one of them. -/
theorem foldl_choice {α : Type} (f : Option α → α → Option α) (hf : ∀ a x, f a x = a ∨ f a x = some x) (l : List α) (a : Option α) (z : α)
    (h : l.foldl f a = some z) : z ∈ l ∨ a = some z := by
  induction l generalizing a with
  | nil => exact .inr h
  | cons x t ih =>
    rcases ih _ h with hz | hz
    · exact .inl (List.mem_cons_of_mem _ hz)
    · rcases hf a x with hx | hx
      · exact .inr (hx ▸ hz)
      · rw [hx] at hz
        exact .inl (Option.some.inj hz ▸ List.mem_cons_self)

/-- The transport that is served next is one that the dictionary serves. -/
theorem State.dictServed_of_nextServed (s : State) (k : Nat) (h : s.nextServed = some k) : s.dictServed (agentOf k) = true := by
  obtain ⟨⟨at_, k'⟩, hz, rfl⟩ := Option.map_eq_some_iff.mp h
  have hmem := (foldl_choice _ (fun a x => by cases a with
    | none => exact .inr rfl
    | some y => exact (ite_eq_or_eq _ _ _).symm) _ _ _ hz).resolve_right nofun
  obtain ⟨⟨key, x⟩, -, hat⟩ := List.mem_filterMap.mp hmem
  unfold State.servedAt at hat
  dsimp only at hat
  split at hat
  · split at hat
    case isTrue hserved =>
      obtain ⟨-, rfl⟩ := Prod.mk.inj (Option.some.inj hat)
      exact hserved
    case isFalse => exact nomatch hat
  · exact nomatch hat

/-- Nothing is served while a value waits to be persistent. -/
theorem State.nextServed_persisting (s : State) (h : s.persist ≠ none) : s.nextServed = none := by
  refine Option.eq_none_iff_forall_ne_some.mpr fun k hk => ?_
  have hserved := s.dictServed_of_nextServed k hk
  simp only [State.dictServed, Bool.and_eq_true, Option.isNone_iff_eq_none] at hserved
  exact h hserved.1.2

theorem State.dictServe_idle (s : State) (a : Agent) (l : List Nat) (fits : Nat → Bool)
    (h : (s.xport (transport a)).waiting = none ∨ s.nextServed ≠ some (transport a) ∨ s.flashNeeded (reqOf l) = true) : s.dictServe a l fits = s := by
  unfold State.dictServe
  split
  case h_1 w hw =>
    refine if_neg fun hall => ?_
    obtain ⟨-, hnext, -, hflash⟩ := hall
    rcases h with h | h | h
    · rw [hw] at h
      exact nomatch h
    · exact h hnext
    · rw [hflash] at h
      exact nomatch h
  · rfl

theorem State.dictCommand_waiting (s : State) (a : Agent) (frame : List Byte) (second : Bool) (fits : Nat → Bool)
    (h : ∀ p, a = .can p → second = false ∧ ∃ w, (s.xport (transport a)).waiting = some w ∧ w.2 = frame.map (·.toNat)) :
    s.dictCommand a frame second fits = s.dictServe a (frame.map (·.toNat)) fits := by
  unfold State.dictCommand
  split
  case h_1 p =>
    obtain ⟨rfl, w, hw, hl⟩ := h p rfl
    rw [show (s.xport (32 + p.val)).waiting = some w from hw]
    exact if_pos ⟨hl, rfl⟩
  · rfl

/-- A row whose request is the one that is served serves it. -/
theorem State.Asks.dictCommand {s : State} {a : Agent} {frame : List Byte} {second : Bool} {q : Req} (h : s.Asks a frame second q) (fits : Nat → Bool)
    (hf : fits q.cmd = true) : s.dictCommand a frame second fits = s.serve (transport a) (frame.map (·.toNat)) := by
  obtain ⟨⟨w, hw⟩, hnext, hfirst, rfl, hflash⟩ := h
  have hcan : ∀ p, a = .can p → second = false ∧ ∃ w, (s.xport (transport a)).waiting = some w ∧ w.2 = frame.map (·.toNat) :=
    fun p hp => ⟨Bool.eq_false_iff.mpr fun h2 => hfirst h2 p hp, _, hw, rfl⟩
  rw [s.dictCommand_waiting a frame second fits hcan, State.dictServe, hw]
  exact if_pos ⟨rfl, hnext, hf, hflash⟩

/-- The row of a command's code takes that command. -/
theorem exec_requestRow (a : Agent) (frame : List Byte) (second : Bool) (c : Nat) : ∃ fits : Nat → Bool,
    (∀ s, exec (requestRow a frame second c) s = .next (s.dictCommand a frame second fits)) ∧ (1 ≤ c → c ≤ 5 → fits c = true) := by
  unfold requestRow
  split
  case isTrue h => exact ⟨_, fun _ => rfl, fun _ _ => by rw [h]; rfl⟩
  split
  case isTrue h => exact ⟨_, fun _ => rfl, fun _ _ => by rw [h]; rfl⟩
  split
  case isTrue h => exact ⟨_, fun _ => rfl, fun _ _ => by rw [h]; rfl⟩
  split
  case isTrue h => exact ⟨_, fun _ => rfl, fun _ _ => by rw [h]; rfl⟩
  case isFalse => exact ⟨_, fun _ => rfl, fun _ _ => by rw [show c = 5 by omega]; rfl⟩

theorem exec_reservedCmd (a : Agent) (frame : List Byte) (second : Bool) (s : State) :
    exec (.reservedCmd a frame second) s = .next (s.dictCommand a frame second (fun c => c == 0 || decide (5 < c))) := rfl

theorem State.Asks.exec_requestRow {s : State} {a : Agent} {frame : List Byte} {second : Bool} {q : Req} (h : s.Asks a frame second q)
    (h1 : 1 ≤ q.cmd) (h5 : q.cmd ≤ 5) : exec (requestRow a frame second q.cmd) s = .next (s.serve (transport a) (frame.map (·.toNat))) := by
  obtain ⟨fits, hrow, hfits⟩ := Machine.exec_requestRow a frame second q.cmd
  rw [hrow, h.dictCommand fits (hfits h1 h5)]

/-! ### The service of a request (15 R410-R413) -/

theorem State.serve_eq (s : State) (k : Nat) (l : List Nat) : s.serve k l =
    if (reqOf l).cmd = 0 ∨ 5 < (reqOf l).cmd then (s.settled k (reqOf l)).reply k ((s.settled k (reqOf l)).response (reqOf l) 9 [])
    else if (reqOf l).malformed k then ((s.settled k (reqOf l)).malformedFrom k).reply k ((s.settled k (reqOf l)).response (reqOf l) 0xA [])
    else if s.lapsedFrame k (reqOf l) then (s.settled k (reqOf l)).reply k ((s.settled k (reqOf l)).response (reqOf l) 0xD [])
    else (s.settled k (reqOf l)).serveEntry k (reqOf l) := rfl

/-- A request that is well formed and not lapsed is served on its entry. -/
theorem State.Asks.exec_entry {s u : State} {a : Agent} {frame : List Byte} {second : Bool} {q : Req} (h : s.Asks a frame second q)
    (hu : u = s.settled (transport a) q) (h1 : 1 ≤ q.cmd) (h5 : q.cmd ≤ 5) (hform : q.malformed (transport a) = false)
    (hlate : s.lapsedFrame (transport a) q = false) : exec (requestRow a frame second q.cmd) s = .next (u.serveEntry (transport a) q) := by
  rw [h.exec_requestRow h1 h5, State.serve_eq, ← h.req, if_neg (by omega), if_neg (by simp [hform]), if_neg (by simp [hlate]), hu]

theorem State.lapsedFrame_of_off (s : State) (k : Nat) (q : Req) (h : q.off = 0) : s.lapsedFrame k q = false := by simp [State.lapsedFrame, h]

theorem State.lapsedFrame_of_cmd (s : State) (k : Nat) (q : Req) (h : q.cmd ≠ 1 ∧ q.cmd ≠ 2) : s.lapsedFrame k q = false := by
  simp [State.lapsedFrame, h]

theorem State.settled_keeps (s : State) (k : Nat) (q : Req) : Keeps { xports := true } s (s.settled k q) := s.setXport_keeps ..

theorem State.xport_settled (s : State) (k : Nat) (q : Req) : (s.settled k q).xport k =
    { s.xport k with lapsed := none, opened := if (s.continued k q).isSome then (s.xport k).opened else none } := State.xport_setXport_self ..

theorem State.writtenElsewhere_settled (s : State) (k : Nat) (q : Req) (x y : Nat) : (s.settled k q).writtenElsewhere k x y = s.writtenElsewhere k x y :=
  any_sput _ _ _ _ _ (fun _ => by simp)

theorem transport_eq_zero (a : Agent) : transport a = 0 ↔ a = .host := by
  cases a <;> simp [transport]

/-! ### Reads and writes (15 R411, R412) -/

theorem State.entryBytes_fixed (s : State) (x y : Nat) (e : Entry) (he : entryAt x y = some e) (hsize : typeSize e.typ ≠ 0) :
    s.entryBytes x y = leBytes (typeSize e.typ) (s.entryNum x y) := by
  rw [State.entryBytes, he]
  exact if_neg hsize

theorem typeSize_le (n : Nat) : typeSize n ≤ 8 := by
  unfold typeSize
  split <;> decide

theorem le_dataLimit (k : Nat) : 48 ≤ dataLimit k := by
  unfold dataLimit
  split <;> decide

/-- A whole value of fixed size as a read answers it. -/
theorem State.response_fixed (s : State) (q : Req) (e : Entry) (hc : q.cmd = 1) (he : entryAt q.x q.y = some e) (hsize : typeSize e.typ ≠ 0) (v : Nat) :
    s.response q 0 (leBytes (typeSize e.typ) v) = [0x81, q.seq] ++ leBytes 2 q.x ++ [q.y % 256, e.typ] ++ leBytes 2 (typeSize e.typ) ++
      leBytes 4 (typeSize e.typ) ++ leBytes 4 0 ++ leBytes (typeSize e.typ) v := by
  rw [State.response, State.responseAt, State.entryTotal, he, hc, leBytes_length]
  simp only [if_neg hsize, Option.map_some, Option.getD_some]

/-- A read at OFFSET 0 of an entry of fixed size answers its value. -/
theorem State.serveRead_fixed (s : State) (k : Nat) (q : Req) (e : Entry) (hc : q.cmd = 1) (he : entryAt q.x q.y = some e) (hacc : e.acc ≠ 2)
    (hsize : typeSize e.typ ≠ 0) (hoff : q.off = 0) :
    s.serveRead k q e = (s.setOpen k ((s.continued k q).filter (·.write))).reply k (s.response q 0 (leBytes (typeSize e.typ) (s.entryNum q.x q.y))) := by
  have hnone : (s.continued k q).filter (fun t => !t.write && q.off != 0) = none := by simp [hoff]
  have hfit : (leBytes (typeSize e.typ) (s.entryNum q.x q.y)).take (dataLimit k) = leBytes (typeSize e.typ) (s.entryNum q.x q.y) :=
    List.take_of_length_le (by rw [leBytes_length]; exact (typeSize_le _).trans ((by decide : 8 ≤ 48).trans (le_dataLimit k)))
  unfold State.serveRead
  dsimp only
  rw [if_neg hacc, if_neg (by simp [hoff]), hnone]
  simp only [Option.map_none, Option.getD_none, List.isEmpty_nil, if_true, s.entryBytes_fixed _ _ e he hsize, hoff, List.drop_zero, hfit, leBytes_length,
    Nat.not_lt_zero, if_false, Nat.zero_add, lt_irrefl]
  rw [s.response_fixed q e hc he hsize]

theorem State.serveEntry_read (s : State) (k : Nat) (q : Req) (e : Entry) (hc : q.cmd = 1) (he : entryAt q.x q.y = some e) :
    s.serveEntry k q = s.serveRead k q e := by
  unfold State.serveEntry
  rw [if_neg (by omega), if_neg (by omega), he]
  dsimp only
  rw [if_neg (by omega), if_pos hc]

theorem State.serveEntry_write (s : State) (k : Nat) (q : Req) (e : Entry) (hc : q.cmd = 2) (he : entryAt q.x q.y = some e) :
    s.serveEntry k q = s.serveWrite k q e := by
  unfold State.serveEntry
  rw [if_neg (by omega), if_neg (by omega), he]
  dsimp only
  rw [if_neg (by omega), if_neg (by omega)]

theorem State.serveEntry_missing (s : State) (k : Nat) (q : Req) (hc : q.cmd = 1 ∨ q.cmd = 2 ∨ q.cmd = 4) (he : entryAt q.x q.y = none) :
    s.serveEntry k q = s.reply k (s.response q (if indexTop q.x = none then 1 else 2) []) := by
  unfold State.serveEntry
  rw [if_neg (by omega), if_neg (by omega), he]
  simp only [Option.isNone_iff_eq_none]

/-- A write of a fixed size that its entry takes from this transport. -/
theorem State.serveWrite_fixed (s : State) (k : Nat) (q : Req) (e : Entry) (h0 : e.acc ≠ 0) (h3 : e.acc ≠ 3) (hw : s.writtenElsewhere k q.x q.y = false)
    (hsize : typeSize e.typ ≠ 0) : s.serveWrite k q e = s.writeFixed k q e := by
  unfold State.serveWrite
  dsimp only
  rw [if_neg (by omega), if_neg (by simp [hw]), if_neg hsize]

theorem acc_modeEntry (q : Req) (e : Entry) (he : entryAt q.x q.y = some e) (h : e.acc = 4) : ¬ (q.x = 0x1200 ∧ q.y = 2) := by
  rintro ⟨hx, hy⟩
  rw [hx, hy] at he
  have hmode : entryAt 0x1200 2 = some ⟨2, 2, 1, 0⟩ := by decide
  rw [hmode] at he
  rw [← Option.some.inj he] at h
  exact absurd h (by decide)

/-- A write of an RWP entry: its value is refused, or it waits until it is persistent (15 R403). -/
theorem State.writeFixed_rwp (s : State) (k : Nat) (q : Req) (e : Entry) (he : entryAt q.x q.y = some e) (hacc : e.acc = 4) (hoff : q.off = 0)
    (htotal : q.total = typeSize e.typ) (hlen : q.len = q.total) : s.writeFixed k q e =
      if rwpError q.x q.y (ofLe q.data) ≠ 0 then s.reply k (s.response q (rwpError q.x q.y (ofLe q.data)) [])
      else (s.rwpPut q.x q.y (ofLe q.data)).persistIn k ((s.rwpPut q.x q.y (ofLe q.data)).response q 0 [])
        ((s.rwpPut q.x q.y (ofLe q.data)).get PRF_ACTIVE_ACTIVE) ((s.rwpPut q.x q.y (ofLe q.data)).profWith q.x q.y q.data) := by
  unfold State.writeFixed
  dsimp only
  rw [if_neg (by omega), if_neg (acc_modeEntry q e he hacc), if_pos hacc]

theorem State.Asks.exec_readFixed {s u : State} {a : Agent} {frame : List Byte} {second : Bool} {q : Req} {e : Entry} (h : s.Asks a frame second q)
    (hu : u = s.settled (transport a) q) (hc : q.cmd = 1) (hform : q.malformed (transport a) = false) (he : entryAt q.x q.y = some e) (hacc : e.acc ≠ 2)
    (hsize : typeSize e.typ ≠ 0) (hoff : q.off = 0) :
    ∃ v, exec (.dictRead a frame second) s =
      .next (v.reply (transport a) (u.response q 0 (leBytes (typeSize e.typ) (u.entryNum q.x q.y)))) ∧ Keeps { xports := true } u v := by
  have hrow := h.exec_entry hu (by omega) (by omega) hform (s.lapsedFrame_of_off _ q hoff)
  rw [u.serveEntry_read _ q e hc he, u.serveRead_fixed _ q e hc he hacc hsize hoff, hc] at hrow
  exact ⟨_, hrow, State.setXport_keeps ..⟩

/-! ### Persistence (15 R403) -/

theorem State.persistIn_keeps (s : State) (k : Nat) (r : List Nat) (area : Nat) (b : List Nat) : Keeps { persist := true } s (s.persistIn k r area b) :=
  { Keeps.refl _ s with persist := nofun }

theorem State.persisted_done (s : State) (p : Persist) (hon : s.domOn 761 = true) (hlen : p.bytes.length ≤ 65536) :
    s.persisted p true = ({ s with persist := none }.profProgram p.area p.bytes).reply p.xport p.response := by
  unfold State.persisted
  dsimp only
  refine if_pos ?_
  rw [Bool.true_and, Bool.and_eq_true, decide_eq_true_eq]
  exact ⟨hon, hlen⟩

theorem State.persisted_failed (s : State) (p : Persist) (ok : Bool) (h : ok = false ∨ s.domOn 761 = false ∨ 65536 < p.bytes.length) :
    s.persisted p ok = ({ s with persist := none }.raise MGT_STAT_PERSISTERR).reply p.xport (p.response.take 12 ++ [0xB, 0, 0, 0] ++ p.response.drop 16) := by
  unfold State.persisted
  dsimp only
  refine if_neg ?_
  rw [Bool.and_eq_true, Bool.and_eq_true, decide_eq_true_eq]
  rintro ⟨⟨hok, hon⟩, hlen⟩
  rcases h with h | h | h
  · exact absurd hok (by simp [h])
  · exact absurd (show s.domOn 761 = true from hon) (by simp [h])
  · omega

theorem exec_rwpPersist (ok : Bool) (s : State) (p : Persist) (hp : s.persist = some p) :
    exec (.rwpPersist ok) s = .next (if s.flag MGT_FLCTL_BUSY then s else s.persisted p ok) := by
  show execRwpPersist ok s = _
  rw [execRwpPersist, hp]

/-! ### CAN frames (15 R415) -/

/-- A CAN frame addressed to the module finds room, where no frame of its port came in error. -/
theorem State.canRequest_arrives (s : State) (p : Nat) (l : List Nat) (hlive : s.canLive p = true) (hnode : s.get MGT_STAT_NODE ≠ 0)
    (hrec : s.get MGT_CAN_REC p = 0) (hfree : (s.xport (32 + p)).waiting = none) :
    s.canRequest p l = (s.countEnt (0x1101 + p) 5).submit (32 + p) l := by
  have hgot : s.canGot p = s.countEnt (0x1101 + p) 5 := if_pos hrec
  unfold State.canRequest
  rw [if_neg (by simp [hlive, hnode]), hgot]
  dsimp only
  rw [if_neg (by rw [(s.countEnt_keeps ..).xport rfl, hfree]; exact Bool.false_ne_true)]

/-- One that finds another request waiting is dropped and counted. -/
theorem State.canRequest_drops (s : State) (p : Nat) (l : List Nat) (hlive : s.canLive p = true) (hnode : s.get MGT_STAT_NODE ≠ 0)
    (hfull : (s.xport (32 + p)).waiting.isSome = true) :
    s.canRequest p l = (((s.canGot p).countEnt (0x1101 + p) 8).raise MGT_CAN_REQDROP p).canLevel p := by
  obtain ⟨-, hgot, -⟩ := s.canGot_got p hlive
  unfold State.canRequest
  rw [if_neg (by simp [hlive, hnode])]
  dsimp only
  rw [if_pos (by rw [hgot.xport rfl]; exact hfull)]

/-- A response on a CAN port is a frame of its function code (15 R419). -/
theorem State.reply_can (s : State) (p : Fin 2) (l : List Nat) :
    s.reply (32 + p.val) l = (s.freed (32 + p.val)).canSend p.val 6 (s.get MGT_STAT_NODE) l := by
  have h : agentOf (32 + p.val) = .can p := agentOf_transport (.can p)
  unfold State.reply
  rw [h]
  rfl

/-- A frame that is sent takes one from TEC (log 90). -/
theorem State.tec_canSend (s : State) (p code node : Nat) (data : List Nat) (h : s.canLive p = true) :
    (s.canSend p code node data).get MGT_CAN_TEC p = if s.get MGT_CAN_TEC p = 0 then 0 else (s.get MGT_CAN_TEC p - 1) % 256 := by
  have hframe (t : State) : ((t.countEnt (0x1101 + p) 6).canFrame p code node data).get MGT_CAN_TEC p = t.get MGT_CAN_TEC p := rfl
  rw [s.canSend_live p code node data h, hframe, State.eased]
  split
  case isTrue h0 => exact h0
  case isFalse => exact (s.canErrors_port ..).1

theorem State.canLive_of_dictServed (s : State) (p : Fin 2) (h : s.dictServed (.can p) = true) : s.canLive p.val = true := by
  simp only [State.dictServed, Bool.and_eq_true] at h
  exact h.1.1.1

/-- A read of 0x1200:01 answers the mode's code. -/
theorem State.response_mode (s : State) (q : Req) (hc : q.cmd = 1) (hx : q.x = 0x1200) (hy : q.y = 1) :
    s.response q 0 (leBytes 1 (s.entryNum q.x q.y)) =
      [0x81, q.seq, 0, 0x12, 1, 2, 1, 0, 1, 0, 0, 0, 0, 0, 0, 0] ++ [s.modeCode % 256] := by
  have he : entryAt q.x q.y = some ⟨2, 0, 1, 0⟩ := by rw [hx, hy]; decide
  refine (s.response_fixed q _ hc he (by decide) (s.entryNum q.x q.y)).trans ?_
  rw [hx, hy]
  simp [leBytes, typeSize, State.entryNum, State.modeValue]

/-- Settles O52. The row's request is served as the frame that its transport holds, on the state with its transfer settled; the answer of each
command is one branch of the service, and a response frees its transport. -/
theorem dictionaryRequests : Obligations.DictionaryRequests := by
  unfold Obligations.DictionaryRequests
  refine ⟨?reserved, ?malformed, ?missing, ?lapsed, ?readFixed, ?readMode, ?readWriteOnly, ?writeReadOnly, ?writeOwner, ?writePersistent,
    ?writeRefusedValue, ?writeElsewhere, ?describe, ?next, ?abort, ?notWaiting, ?oneAtATime, ?canArrives, ?canDropped, ?timeout, ?timeoutNone,
    ?persisted, ?persistFailed, ?persistWaits, ?waitsForFlash, ?flashNeeded, ?persistNone⟩
  case reserved =>
    intro a frame d q s u h hu hc
    have hserve := h.dictCommand (fun c => c == 0 || decide (5 < c)) (by simpa using hc)
    rw [State.serve_eq, ← h.req, if_pos hc, ← hu] at hserve
    exact ⟨_, (exec_reservedCmd a frame d s).trans (congrArg Host.Outcome.next hserve), rfl, u.waiting_reply ..⟩
  case malformed =>
    intro a frame d q s u h hu h1 h5 hform
    have hrow := h.exec_requestRow h1 h5
    rw [State.serve_eq, ← h.req, if_neg (by omega), if_pos hform, ← hu] at hrow
    refine ⟨_, u.malformedFrom (transport a), hrow, rfl, if_congr (transport_eq_zero a) rfl rfl, ?_, State.waiting_reply ..⟩
    rintro rfl
    refine (State.answerHost_flags _ _).1.trans (((State.freed_keeps _ 0).flag PCI_MBX_ERR 0 List.not_mem_nil).trans ?_)
    exact u.flag_raise_self PCI_MBX_ERR 0 (by decide)
  case missing =>
    intro a frame d q s u h hu hc hform hlate hnone
    rw [h.exec_entry hu (by omega) (by omega) hform hlate, u.serveEntry_missing _ q hc hnone]
  case lapsed =>
    intro a frame d q s u h hu hc hform hlate
    have hrow := h.exec_requestRow (by omega) (by omega)
    rw [State.serve_eq, ← h.req, if_neg (by omega), if_neg (by simp [hform]), if_pos hlate, ← hu] at hrow
    refine ⟨_, hrow, rfl, ?_, u.waiting_reply ..⟩
    rw [State.xport_reply_self, hu, State.xport_settled]
  case readFixed =>
    intro a frame d q e s u h hu hc hform he hacc hsize hoff
    exact h.exec_readFixed hu hc hform he hacc hsize hoff
  case readMode =>
    intro p frame q s h hc hform hx hy hoff
    have he : entryAt q.x q.y = some ⟨2, 0, 1, 0⟩ := by rw [hx, hy]; decide
    have hserved := s.dictServed_of_nextServed _ h.next
    rw [agentOf_transport] at hserved
    obtain ⟨v, hrow, hv⟩ := h.exec_readFixed rfl hc hform he (by decide) (by decide) hoff
    have hsv : Keeps { xports := true } s v := (s.settled_keeps (32 + p.val) q).trans hv
    have hsf : Keeps { xports := true } s (v.freed (32 + p.val)) := hsv.trans (v.freed_keeps _)
    have hlive : (v.freed (32 + p.val)).canLive p.val = true := (hsf.canStays.live p.val).trans (s.canLive_of_dictServed p hserved)
    have hbytes := (s.settled (32 + p.val) q).response_mode q hc hx hy
    rw [show (s.settled (32 + p.val) q).modeCode = s.modeCode from rfl] at hbytes
    have hrun : exec (.dictRead (.can p) frame false) s = .next (v.reply (32 + p.val)
        ((s.settled (32 + p.val) q).response q 0 (leBytes 1 ((s.settled (32 + p.val) q).entryNum q.x q.y)))) := hrow
    rw [hbytes, v.reply_can p, hsv.regs MGT_STAT_NODE 0 List.not_mem_nil] at hrun
    obtain ⟨hout, hcount⟩ := (v.freed (32 + p.val)).canSend_sends p.val 6 (s.get MGT_STAT_NODE)
      ([0x81, q.seq, 0, 0x12, 1, 2, 1, 0, 1, 0, 0, 0, 0, 0, 0, 0] ++ [s.modeCode % 256]) hlive
    obtain ⟨-, hsent, -⟩ := (v.freed (32 + p.val)).canSend_stays p.val 6 (s.get MGT_STAT_NODE)
      ([0x81, q.seq, 0, 0x12, 1, 2, 1, 0, 1, 0, 0, 0, 0, 0, 0, 0] ++ [s.modeCode % 256])
    refine ⟨_, hrun, ?_, ?_, ?_, ?_, hsf.mono.andThen hsent⟩
    · rw [hout, hsf.out rfl, State.canMsg, hsf.claim rfl]
    · rw [hsent.xport rfl]
      exact congrArg XportSt.waiting (v.xport_setXport_self ..)
    · rw [hcount, hsf.ent]
    · rw [State.tec_canSend _ _ _ _ _ hlive, hsf.regs _ _ List.not_mem_nil]
  case readWriteOnly =>
    intro a frame d q e s u h hu hc hform hlate he hacc
    have hrow := h.exec_entry hu (by omega) (by omega) hform hlate
    rw [u.serveEntry_read _ q e hc he, State.serveRead, hc] at hrow
    exact hrow.trans (congrArg Host.Outcome.next (if_pos hacc))
  case writeReadOnly =>
    intro a frame d q e s u h hu hc hform hlate he hacc
    have hrow := h.exec_entry hu (by omega) (by omega) hform hlate
    rw [u.serveEntry_write _ q e hc he, State.serveWrite, hc] at hrow
    exact hrow.trans (congrArg Host.Outcome.next (if_pos hacc))
  case writeOwner =>
    intro frame d q s h hc hform hx hy hoff htotal hlen hdata howner hw hbusy
    have hrow := h.exec_entry rfl (by omega) (by omega) hform (s.lapsedFrame_of_off _ q hoff)
    have hsettled := s.settled_keeps 0 q
    have hzero : q.zero = 0 := by
      simp only [Req.malformed, Bool.or_eq_false_iff] at hform
      simpa using hform.1.1.1
    have hq : q = ⟨2, q.seq, 0x1200, 5, 0, 1, 0, 1, [(0x80 : Byte).toNat], q.size⟩ := by
      cases q
      simp_all
    have hjudge : (s.settled 0 q).claimJudge .host (0x80 : Byte).toNat = .inr 0x80 :=
      State.claimJudge_own _ .host (by decide) (.inl ((hsettled.owner rfl).1.trans howner))
    have hserve : (s.settled 0 q).serveEntry 0 q = ((s.settled 0 q).setOwner 0x80).reply 0 (modeResponse q.seq 5 0) := by
      have hloader := (s.settled 0 q).serveEntry_loader .host q.seq q.size 0x80 ((s.writtenElsewhere_settled 0 q _ _).trans hw)
      rw [State.entryPut_loader_taken _ _ _ _ hjudge, ← hq] at hloader
      exact hloader
    have howned := (s.settled 0 q).setOwner_keeps 0x80
    have hfreed := ((s.settled 0 q).setOwner 0x80).freed_keeps 0
    have hreply := ((s.settled 0 q).setOwner 0x80).reply_answers 0 (modeResponse q.seq 5 0)
    have hbusy' : (((s.settled 0 q).setOwner 0x80).freed 0).flag PCI_MBX_BUSY = true := by
      rw [hfreed.flag _ _ List.not_mem_nil, howned.flag _ _ List.not_mem_nil, hsettled.flag _ _ List.not_mem_nil, hbusy]
    obtain ⟨hidle, hdone⟩ := (State.answerHost_flags _ (modeResponse q.seq 5 0)).2 hbusy'
    rw [hc, show transport .host = 0 from rfl, hserve] at hrow
    refine ⟨_, hrow, ?_, State.waiting_reply .., hidle, hdone,
      hsettled.mono.andThen howned |>.andThen hfreed |>.andThen (State.answerHost_keeps _ (modeResponse q.seq 5 0))⟩
    rw [(hreply.owner rfl).1, (hfreed.owner rfl).1, State.setOwner_owner]
  case writePersistent =>
    intro a frame d q e s u h hu hc hform he hacc hw hsize hoff htotal hlen hvalue h7100 h9000
    have hrow := h.exec_entry hu (by omega) (by omega) hform (s.lapsedFrame_of_off _ q hoff)
    have hput : u.rwpPut q.x q.y (ofLe q.data) = u.setEnt q.x q.y (ofLe q.data) := (if_neg h7100).trans (if_neg h9000)
    rw [u.serveEntry_write _ q e hc he, u.serveWrite_fixed _ q e (by omega) (by omega) hw hsize, u.writeFixed_rwp _ q e he hacc hoff htotal hlen,
      if_neg (by simp [hvalue]), hput, hc] at hrow
    have hsettled : Keeps { xports := true } s u := hu ▸ s.settled_keeps ..
    have hset := u.setEnt_keeps q.x q.y (ofLe q.data)
    refine ⟨_, _, hrow, u.ent_setEnt_self .., rfl, rfl, ?_, State.nextServed_persisting _ nofun, ?_, hsettled.mono.andThen hset |>.andThen (State.persistIn_keeps ..)⟩
    · exact (hset.regs PRF_ACTIVE_ACTIVE 0 List.not_mem_nil).trans (hsettled.regs PRF_ACTIVE_ACTIVE 0 List.not_mem_nil)
    · rw [(State.persistIn_keeps ..).xport rfl, hset.xport rfl, hu, State.xport_settled]
  case writeRefusedValue =>
    intro a frame d q e s u h hu hc hform he hacc hw hsize hoff htotal hlen hvalue
    have hrow := h.exec_entry hu (by omega) (by omega) hform (s.lapsedFrame_of_off _ q hoff)
    rw [u.serveEntry_write _ q e hc he, u.serveWrite_fixed _ q e (by omega) (by omega) hw hsize, u.writeFixed_rwp _ q e he hacc hoff htotal hlen,
      if_pos hvalue, hc] at hrow
    exact hrow
  case writeElsewhere =>
    intro a frame d q e s u h hu hc hform hlate he h0 h3 hw
    have hrow := h.exec_entry hu (by omega) (by omega) hform hlate
    rw [u.serveEntry_write _ q e hc he, State.serveWrite, hc] at hrow
    exact hrow.trans (congrArg Host.Outcome.next ((if_neg (by omega)).trans (if_pos hw)))
  case describe =>
    intro a frame d q e s u h hu hc hform he
    have hrow := h.exec_entry hu (by omega) (by omega) hform (s.lapsedFrame_of_cmd _ q (by omega))
    unfold State.serveEntry at hrow
    rw [if_neg (by omega), if_neg (by omega), he, hc] at hrow
    exact hrow
  case next =>
    intro a frame d q s u h hu hc hform
    have hrow := h.exec_entry hu (by omega) (by omega) hform (s.lapsedFrame_of_cmd _ q (by omega))
    unfold State.serveEntry at hrow
    rw [if_neg (by omega), if_pos hc, hc] at hrow
    exact hrow
  case abort =>
    intro a frame d q s u h hu hc hform
    have hrow := h.exec_entry hu (by omega) (by omega) hform (s.lapsedFrame_of_cmd _ q (by omega))
    unfold State.serveEntry at hrow
    rw [if_pos hc, hc] at hrow
    refine ⟨_, hrow, rfl, ?_, u.waiting_reply ..⟩
    rw [State.xport_reply_self, hu, State.xport_settled]
    simp [State.continued, hc]
  case notWaiting =>
    intro a frame d c s hcan hnone
    obtain ⟨fits, hrow, -⟩ := Machine.exec_requestRow a frame d c
    have hidle (fits : Nat → Bool) : s.dictCommand a frame d fits = s :=
      (s.dictCommand_waiting a frame d fits fun p hp => absurd hp (hcan p)).trans (s.dictServe_idle a _ fits (.inl hnone))
    exact ⟨(hrow s).trans (congrArg Host.Outcome.next (hidle _)), (exec_reservedCmd a frame d s).trans (congrArg Host.Outcome.next (hidle _))⟩
  case oneAtATime =>
    intro a frame d c s hcan hpersist
    obtain ⟨fits, hrow, -⟩ := Machine.exec_requestRow a frame d c
    have hidle (fits : Nat → Bool) : s.dictCommand a frame d fits = s :=
      (s.dictCommand_waiting a frame d fits fun p hp => absurd hp (hcan p)).trans
        (s.dictServe_idle a _ fits (.inr (.inl (by rw [s.nextServed_persisting hpersist]; exact nofun))))
    exact ⟨(hrow s).trans (congrArg Host.Outcome.next (hidle _)), (exec_reservedCmd a frame d s).trans (congrArg Host.Outcome.next (hidle _))⟩
  case canArrives =>
    intro p frame d c s u hlive hnode hrec hfree hu hnext
    obtain ⟨fits, hrow, -⟩ := Machine.exec_requestRow (.can p) frame d c
    have harrives := s.canRequest_arrives p.val (frame.map (·.toNat)) hlive hnode hrec hfree
    have hidle (fits : Nat → Bool) : s.dictCommand (.can p) frame d fits = u := by
      unfold State.dictCommand
      dsimp only
      rw [hfree]
      dsimp only
      rw [harrives, ← hu]
      exact u.dictServe_idle (.can p) _ fits (.inr (.inl hnext))
    refine ⟨(hrow s).trans (congrArg Host.Outcome.next (hidle _)), (exec_reservedCmd (.can p) frame d s).trans (congrArg Host.Outcome.next (hidle _)), ?_⟩
    rw [hu, State.waiting_submit, ((s.countEnt_keeps ..).tb rfl).1]
  case canDropped =>
    intro p frame d c w l s hlive hnode hwaits hother
    obtain ⟨fits, hrow, -⟩ := Machine.exec_requestRow (.can p) frame d c
    have hdrops := s.canRequest_drops p.val (frame.map (·.toNat)) hlive hnode (by rw [hwaits]; rfl)
    have hdropped (fits : Nat → Bool) : s.dictCommand (.can p) frame d fits =
        (((s.canGot p.val).countEnt (0x1101 + p.val) 8).raise MGT_CAN_REQDROP p.val).canLevel p.val := by
      unfold State.dictCommand
      dsimp only
      rw [hwaits]
      dsimp only
      rw [← hdrops]
      refine if_neg ?_
      rintro ⟨hl, hd⟩
      rcases hother with h | h
      · simp [h] at hd
      · exact h hl
    obtain ⟨-, hgot, -⟩ := s.canGot_got p.val hlive
    have hcount := (s.canGot p.val).countEnt_keeps (0x1101 + p.val) 8
    have hraise := ((s.canGot p.val).countEnt (0x1101 + p.val) 8).raise_keeps MGT_CAN_REQDROP p.val
    have hlevel := (((s.canGot p.val).countEnt (0x1101 + p.val) 8).raise MGT_CAN_REQDROP p.val).canLevel_keeps p.val
    refine ⟨_, (hrow s).trans (congrArg Host.Outcome.next (hdropped _)), (exec_reservedCmd (.can p) frame d s).trans (congrArg Host.Outcome.next (hdropped _)),
      ?_, ?_, ?_, hgot.mono.andThen hcount |>.andThen hraise |>.andThen hlevel⟩
    · rw [hlevel.xport rfl, hraise.xport rfl, hcount.xport rfl, hgot.xport rfl]
    · exact (hlevel.flag MGT_CAN_REQDROP p.val (by decide)).trans (State.flag_raise_self _ MGT_CAN_REQDROP p.val (by decide))
    · rw [hlevel.ent, hraise.ent, State.ent_countEnt_self, State.ent_canGot _ _ _ _ (by omega)]
  case timeout =>
    intro a x s hopen
    have hexec : exec (.transferTimeout a) s =
        .next (s.setXport (transport a) { s.xport (transport a) with opened := none, lapsed := some (x.index, x.sub) }) := by
      show execTransferTimeout a s = _
      simp only [execTransferTimeout, hopen]
    refine ⟨_, hexec, ?_, ?_, ?_, fun k hk => s.xport_setXport_ne _ _ _ hk, s.setXport_keeps ..⟩
    all_goals rw [State.xport_setXport_self]
  case timeoutNone =>
    intro a s hopen
    show execTransferTimeout a s = _
    simp only [execTransferTimeout, hopen]
  case persisted =>
    intro p s hp hon hidle hlen
    rw [exec_rwpPersist true s p hp, if_neg (by simp [hidle]), s.persisted_done p hon hlen]
  case persistFailed =>
    intro p ok s hp hidle hfail
    rw [exec_rwpPersist ok s p hp, if_neg (by simp [hidle]), s.persisted_failed p ok hfail]
    refine ⟨_, rfl, rfl, ?_, ?_, State.waiting_reply ..⟩
    · rw [(State.reply_answers ..).persist rfl]
      rfl
    · rw [State.persisterr_reply]
      exact State.flag_raise_self _ MGT_STAT_PERSISTERR 0 (by decide)
  case persistWaits =>
    intro ok s hbusy
    cases hp : s.persist with
    | none =>
      show execRwpPersist ok s = _
      rw [execRwpPersist, hp]
    | some p => rw [exec_rwpPersist ok s p hp, if_pos hbusy]
  case waitsForFlash =>
    intro a frame c w s hwaits hl hflash
    obtain ⟨fits, hrow, -⟩ := Machine.exec_requestRow a frame false c
    have hidle (fits : Nat → Bool) : s.dictCommand a frame false fits = s :=
      (s.dictCommand_waiting a frame false fits fun p _ => ⟨rfl, w, hwaits, hl⟩).trans (s.dictServe_idle a _ fits (.inr (.inr (hl ▸ hflash))))
    exact ⟨(hrow s).trans (congrArg Host.Outcome.next (hidle _)), (exec_reservedCmd a frame false s).trans (congrArg Host.Outcome.next (hidle _))⟩
  case flashNeeded =>
    intro q s
    refine ⟨fun hidle => by simp [State.flashNeeded, hidle], fun hbusy hc => ?_⟩
    simp [State.flashNeeded, hbusy, hc]
  case persistNone =>
    intro ok s hp
    show execRwpPersist ok s = _
    rw [execRwpPersist, hp]

end Sys2Proof.Machine
end
